-- ==== Sys2Proof/Word.lean ====
section
/-! DEFINITION. The word types, sparse tables, and the records that commands carry and the state holds. -/

namespace Sys2Proof

/-- A byte. -/
abbrev Byte := BitVec 8

/-- A 32-bit register word (R7). -/
abbrev Word := BitVec 32

/-- A sparse table: pairs of a key and a value, keys rising. -/
abbrev Tbl (α : Type) := List (Nat × α)

/-- Lane, port and group indices (R15). -/
abbrev LaneIx := Fin 192
abbrev PortIx := Fin 192
abbrev GroupIx := Fin 24
/-- Engines: 0 is TE-A, 1 is TE-B (R148). -/
abbrev EngIx := Fin 2

/-- Who makes a register access (R391, R393). -/
inductive Initiator where
  | host | mgmt
  deriving DecidableEq, Repr

/-- Where a mailbox command came from: a channel of the mailbox, or another device and its transaction (R350). -/
inductive Origin where
  | host (c : Fin 4)
  | remote (source xid : Nat)
  deriving DecidableEq, Repr

/-- Transmit FFE taps c(−1), c(0), c(+1) in 1/64 of the swing (R52). -/
structure Taps where
  pre  : Int := 0
  main : Int := 64
  post : Int := 0
  deriving DecidableEq, Repr

/-- What a receiver goes on adapting in READY (R53): DFE taps 2 to 12 and the slicer offsets. -/
structure RxAdapt where
  dfe    : Vector Int 11 := Vector.replicate 11 0
  slicer : List Int := []
  deriving DecidableEq, Repr

/-- A receiver's equalisation as an adaptation of all taps leaves it (R52, R53): the CTLE code, the first DFE tap, the
rest, and the vertical eye opening of the margin monitor in 2 mV. -/
structure RxEq where
  ctle : Fin 16 := 0
  dfe1 : Int := 0
  rest : RxAdapt := {}
  eye  : Nat := 0
  deriving DecidableEq, Repr

/-- An eye-margin scan (R58): the decisions of 2²⁰ UI that differed, at the centre and outwards on each half-axis. -/
structure EyeScan where
  centre : Nat
  right  : List Nat
  left   : List Nat
  up     : List Nat
  down   : List Nat
  deriving DecidableEq, Repr

/-- One converter sample (R65, R66): the time-clock edge it started from (2⁻²⁰ ns of full time), the raw code, and
the UI index of the divided edge. -/
structure Sample where
  edge : Int
  code : Nat
  ui   : Int
  deriving DecidableEq, Repr

/-- A lane record of the Veman TLV (R97). -/
structure TlvLane where
  lane    : Nat
  lstat   : Nat
  wlTx    : Nat
  wlRx    : Nat
  sigTx   : Nat
  sigRx   : Nat
  txSkew  : Int
  extTx   : Int
  extRx   : Int
  app     : Int
  appSigma : Nat
  deriving DecidableEq, Repr

/-- The solution block of the Veman TLV (R97): f_out and f_in per lane. -/
structure PlumbSolution where
  seq      : Nat
  status   : Nat
  pairs    : Nat
  residual : Nat
  sigmaP   : Nat
  lanes    : List (Int × Int)
  deriving DecidableEq, Repr

/-- A Veman TLV (R97). -/
structure VemanTlv where
  orgId    : Nat
  version  : Nat
  flags    : Nat
  plumb    : Nat
  sigmaAcc : Nat
  cAcc     : Nat
  winSec   : Nat
  winSeq   : Nat
  lanes    : List TlvLane
  solution : Option PlumbSolution
  deriving DecidableEq, Repr

/-- A received IEEE 1588 event message as the port saw it (R69, R81, R82): the carrying lane, the UI index of the
start UI on it, the UI from the divided edge to the start UI, the UI index that the alignment markers give for the
same point on every lane of the port, and the message's own bytes in network order (R9): its 10-byte time field, its
8-byte correctionField, and the TLV behind it, empty where there is none. -/
structure RxMsg where
  lane    : Fin 8
  ui      : Int
  m       : Nat
  laneUi  : List Int
  seqId   : Nat
  origin  : List Byte
  corr    : List Byte
  twoStep : Bool
  tlv     : List Byte
  deriving DecidableEq, Repr

/-- A timestamped event message kept until its exchange completes. -/
structure RxEvent where
  msg : RxMsg
  t   : Rat
  deriving DecidableEq, Repr

/-- Where a transmitted frame's start UI left (R81): carrying lane, the edge that loads the serialiser word, the
position in the word. -/
structure TxStamp where
  lane  : Fin 8
  tWord : Int
  k     : Nat
  deriving DecidableEq, Repr

/-- The copy of a frame for one output and its edit instruction (R279): the Veman header to carry (none on a standard
port), the tag work and the Veman-free facts the egress MAC needs. -/
structure OutCopy where
  port  : Nat
  hdr   : Option (List Byte)
  strip : Nat
  dei   : Bool
  push  : Option Nat
  deriving DecidableEq, Repr

/-- A frame in the switch (R260, R286, R297): what the descriptor carries. `bytes` is the frame from the destination
address to the byte before the FCS, as received. Classes 0 to 7 are TC0 to TC7, 8 is CAL. -/
structure FrameDesc where
  fid     : Nat
  port    : Nat
  hostTx  : Option Nat
  bytes   : List Byte
  len     : Nat
  cls     : Nat
  colour  : Nat
  ctx     : Nat
  outs    : List OutCopy
  group   : Option Nat
  cut     : Bool
  trunc   : Bool
  bad     : Bool
  complete : Bool
  rxTime  : Option Rat
  /-- The lane that carried the start UI (R82). -/
  rxLane  : Option (Fin 8) := none
  oneStep : Bool
  /-- Cells already crossed, by output group. -/
  crossed : Tbl Nat
  deriving DecidableEq, Repr

/-- A frame as the ingress processor meets it (R260): an identity, the bytes before the FCS, the length with the FCS
as received, whether the MAC truncated it at MAX_FRAME, the parity failures that its lookups will meet (table and
index), and the receive stamp's place for an event message. -/
structure RxFrame where
  fid    : Nat
  bytes  : List Byte
  trunc  : Bool
  upsets : List (Nat × Nat)
  stamp  : Option RxMsg
  deriving DecidableEq, Repr

/-- What the MAC found at the end of a frame: destination address, length from it to the FCS, and the checks' outcomes
(R244, R249). -/
structure RxEnd where
  da      : Nat
  len     : Nat
  fcsBad  : Bool
  pcsBad  : Bool
  reasmBad : Bool
  frags   : Nat
  deriving DecidableEq, Repr

/-- A spur record (R213). -/
structure SpurRecord where
  freq   : Nat
  width  : Nat
  level  : Int
  source : Nat
  kind   : Nat
  deriving DecidableEq, Repr

/-- An L2 entry (R270, R284). -/
structure L2Entry where
  static : Bool
  hit    : Bool
  kind   : Nat
  vid    : Nat
  mac    : Nat
  result : Nat
  deriving DecidableEq, Repr

/-- A slot entry (R313), times in periods. -/
structure SlotEntry where
  start  : Nat
  length : Nat
  gate   : Nat
  early  : Nat
  late   : Nat
  ctx    : Nat
  deriving DecidableEq, Repr

/-- A hello's payload (R333). -/
structure Hello where
  version   : Nat
  flags     : Nat
  addr      : Nat
  port      : Nat
  serial    : Nat
  nbrSerial : Nat
  caps      : Nat
  timing    : Nat
  depth     : Nat
  treeId    : Nat
  sigmaAcc  : Nat
  cAcc      : Nat
  lsaSeq    : Nat
  seq       : Nat
  deriving DecidableEq, Repr

/-- An entry of a link-state record (R341). -/
structure LsEntry where
  kind : Nat
  nbr  : Nat
  port : Nat
  cost : Nat
  deriving DecidableEq, Repr

/-- A link-state record (R341). -/
structure LsRecord where
  scope   : Nat
  flags   : Nat
  origin  : Nat
  age     : Nat
  serial  : Nat
  seq     : Nat
  entries : List LsEntry
  deriving DecidableEq, Repr

/-- One segment of a management or attestation message as received (R348). -/
structure Seg where
  source : Nat
  xid    : Nat
  kind   : Nat
  index  : Nat
  count  : Nat
  mflags : Nat
  body   : List Byte
  deriving DecidableEq, Repr

/-- A transmit descriptor the T24 reads (R403). -/
structure TxDesc where
  addr : Nat
  len  : Nat
  port : Nat
  ctrl : Nat
  cls  : Nat
  deriving DecidableEq, Repr

/-- The strap levels (R386, R393). -/
structure Straps where
  zone    : Nat := 0
  cluster : Nat := 0
  boot    : Nat := 0
  oscf    : Nat := 0
  tepref  : Nat := 0
  deriving DecidableEq, Repr

/-- What the ninth converter knows of TDCREF at an instant (R180): edges since the alignment edge, the full time of the
last one in 2⁻²⁰ ns, and the period measured on full time over the last 1 ms. -/
structure TdcSample where
  n      : Nat
  edge   : Int
  period : Rat
  deriving DecidableEq, Repr

/-- The measurements of one servo cycle that reach the engines (R113, R163, R166): for each external reference that had
edges their instants in full time, 2⁻²⁰ ns, in order from the cycle boundary; comparator mean, the standby's own mean of the selected reference, and for each engine
whether its DCO acknowledged its word in time and whether the march test of its idle bank failed. -/
structure CycleMeas where
  edges   : List (Nat × List Rat)
  cmp     : Rat
  standby : Option Rat
  ackA    : Bool
  ackB    : Bool
  memBadA : Bool
  memBadB : Bool
  tdc     : Option TdcSample
  deriving DecidableEq, Repr

/-- One replica measurement (R229, R230): the group's two path delays with the group's temperature. -/
structure ReplicaMeas where
  group : Nat
  tx    : Rat
  rx    : Rat
  temp  : Int
  deriving DecidableEq, Repr

/-- A module's report of one lane (R94). -/
structure WlReport where
  wlTx  : Nat
  wlRx  : Nat
  sigTx : Nat
  sigRx : Nat
  deriving DecidableEq, Repr

/-- The reset scopes that come out of reset (R381). -/
inductive Scope where
  | chip | data | mgmt
  | group (g : GroupIx)
  | lane (l : LaneIx)
  deriving DecidableEq, Repr

/-- The three moments of a slot at which the gates change (R315). -/
inductive SlotMoment where
  | guard | start | close
  deriving DecidableEq, Repr

/-- Why a port loses its link (R243), in the order of DOWN_CAUSE (R259). -/
inductive LossCause where
  | lock | localFault | remoteFault | laneNotReady
  deriving DecidableEq, Repr

end Sys2Proof
end

