-- ==== Sys2Proof/Syntax.lean ====
section
/-! DEFINITION. The commands of the block: one constructor for each row of the table of operations and events, named
after the row, with what comes from outside the block as its operands. -/

namespace Sys2Proof

/-- A command (spec/opcode_table.json): those with operands in the table's order, then those without. -/
inductive Instr where
  /-- BAR0_BAD_ACCESS (R8). -/
  | bar0BadAccess (who : Initiator) (off bytes : Nat) (write : Bool)
  /-- REG_WRITE (R10). -/
  | regWrite (who : Initiator) (off : Nat) (v : Word)
  /-- W1C_WRITE (R10). -/
  | w1cWrite (who : Initiator) (off : Nat) (v : Word)
  /-- PAIR_LO_READ (R393). -/
  | pairLoRead (who : Initiator) (off : Nat)
  /-- PAIR_HI_WRITE (R393). -/
  | pairHiWrite (who : Initiator) (off : Nat) (v : Word)
  /-- TE_TIME_0_READ (R394). -/
  | teTime0Read (who : Initiator)
  /-- GL_ERR_LOG0_READ (R386). -/
  | glErrLog0Read (who : Initiator)
  /-- MIRROR_ENTRY_READ (R284). -/
  | mirrorEntryRead (who : Initiator) (off : Nat)
  /-- MIRROR_WRITE (R284). -/
  | mirrorWrite (who : Initiator) (off : Nat) (v : Word)
  /-- LANE_SIGNAL_DETECT (R51). -/
  | laneSignalDetect (l : LaneIx) (trims : List (Nat × Int))
  /-- CDR_LOCK (R51). -/
  | cdrLock (l : LaneIx) (eq : RxEq)
  /-- CDR_LOCK_TIMEOUT (R51). -/
  | cdrLockTimeout (l : LaneIx)
  /-- TRAINING_COMPLETE (R52). -/
  | trainingComplete (l : LaneIx) (taps : Taps) (eq : RxEq)
  /-- TRAINING_TIMEOUT (R51). -/
  | trainingTimeout (l : LaneIx) (eq : RxEq)
  /-- LANE_LOSS_OF_LOCK (R51). -/
  | laneLossOfLock (l : LaneIx) (signal : Bool)
  /-- LANE_OFFSET_UPDATE (R48). -/
  | laneOffsetUpdate (l : LaneIx) (offset : Int) (adapt : RxAdapt)
  /-- SHARED_CLOCK_ENTER (R48). -/
  | sharedClockEnter (p : PortIx)
  /-- EYE_READAPT (R53). -/
  | eyeReadapt (l : LaneIx) (eye : Nat) (eq : RxEq)
  /-- EYE_SCAN_COMPLETE (R59). -/
  | eyeScanComplete (l : LaneIx) (scan : EyeScan)
  /-- TRANSMIT_SLEEP (R61). -/
  | transmitSleep (p : PortIx)
  /-- SLEEP_REQ_RECEIVE (R63). -/
  | sleepReqReceive (p : PortIx) (d2 seq : Nat)
  /-- SLEEP_ACK_RECEIVE (R61). -/
  | sleepAckReceive (p : PortIx) (seq : Nat)
  /-- SLEEP_ACK_TIMEOUT (R63). -/
  | sleepAckTimeout (p : PortIx)
  /-- LOCAL_WAKE (R63). -/
  | localWake (p : PortIx)
  /-- WAKE_REQ_RECEIVE (R365). -/
  | wakeReqReceive (p : PortIx) (d2 seq : Nat)
  /-- WAKE_ACK_RECEIVE (R61). -/
  | wakeAckReceive (p : PortIx) (seq : Nat)
  /-- ORDERED_SET_BAD_D1 (R61). -/
  | orderedSetBadD1 (p : PortIx) (d1 : Byte)
  /-- WAKE_ALIGN_COMPLETE (R61). -/
  | wakeAlignComplete (p : PortIx) (off : List (Fin 8))
  /-- SENTINEL_LOSS (R62). -/
  | sentinelLoss (g : GroupIx)
  /-- GROUP_SERVO_CYCLE (R72). -/
  | groupServoCycle (g : GroupIx) (temp : Int) (lanes : List (Fin 8 × List Sample))
  /-- STEP_MEASURE_END (R77). -/
  | stepMeasureEnd (g : GroupIx)
  /-- LANE_REMEASURE_END (R74). -/
  | laneRemeasureEnd (l : LaneIx)
  /-- GROUP_SERVO_LOCK_TIMEOUT (R384). -/
  | groupServoLockTimeout (g : GroupIx)
  /-- PTP_SYNC_RECEIVE (R71). -/
  | ptpSyncReceive (p : PortIx) (m : RxMsg)
  /-- PTP_FOLLOW_UP_RECEIVE (R88). -/
  | ptpFollowUpReceive (p : PortIx) (seqId : Nat) (origin corr tlv : List Byte)
  /-- PTP_DELAY_REQ_RECEIVE (R91). -/
  | ptpDelayReqReceive (p : PortIx) (m : RxMsg)
  /-- PTP_DELAY_RESP_RECEIVE (R93). -/
  | ptpDelayRespReceive (p : PortIx) (seqId : Nat) (rx corr : List Byte)
  /-- PDELAY_REQ_RECEIVE (R92). -/
  | pdelayReqReceive (p : PortIx) (m : RxMsg) (tx : TxStamp)
  /-- PDELAY_RESP_RECEIVE (R92). -/
  | pdelayRespReceive (p : PortIx) (m : RxMsg) (respTx corr : List Byte)
  /-- PTP_INTERVAL (R91). -/
  | ptpInterval (p : PortIx) (delayReq : Bool) (tx : TxStamp)
  /-- LD_WINDOW_END (R95). -/
  | ldWindowEnd (p : PortIx)
  /-- DELAY_STALE (R114). -/
  | delayStale (g : GroupIx)
  /-- ENGINE_SERVO_CYCLE (R134). -/
  | engineServoCycle (m : CycleMeas)
  /-- REF_LOS (R118). -/
  | refLos (r : Fin 32)
  /-- REF_FREQ_GATE (R118). -/
  | refFreqGate (r : Fin 32) (offset : Int)
  /-- REF_WANDER_WINDOW (R118). -/
  | refWanderWindow (r : Fin 32)
  /-- QUAL_TIME_EXPIRY (R120). -/
  | qualTimeExpiry (r : Fin 32)
  /-- WTR_EXPIRY (R120). -/
  | wtrExpiry (r : Fin 32)
  /-- DISQ_HOLD_EXPIRY (R120). -/
  | disqHoldExpiry (r : Fin 32)
  /-- CONDITIONER_STEP_END (R115). -/
  | conditionerStepEnd (r : Fin 32)
  /-- TODIN_MESSAGE (R117). -/
  | todinMessage (bytes : List Byte) (afterPulse : Nat) (lineError : Bool)
  /-- ACQUIRE_FREQ_MEASURED (R136). -/
  | acquireFreqMeasured (offset : Int)
  /-- TEMP_POLL (R139). -/
  | tempPoll (e : EngIx) (raw : Option Nat)
  /-- ENGINE_FATAL_FAULT (R155). -/
  | engineFatalFault (e : EngIx)
  /-- HANDOVER_EDGE (R155). -/
  | handoverEdge (cmp : Int)
  /-- ENGINE_CLOCK_STOP (R156). -/
  | engineClockStop (e : EngIx) (cmp : Int)
  /-- WALL_TIE_RECORD (R159). -/
  | wallTieRecord (noise : List (Nat × Byte))
  /-- ARBITRATION (R164). -/
  | arbitration (views : List (Fin 32 × Int × Int))
  /-- DCO_RANGE_CHECK (R166). -/
  | dcoRangeCheck (e : EngIx) (diff : Int)
  /-- CONVERTER_CODE_CHECK (R166). -/
  | converterCodeCheck (e : EngIx) (pass : Bool)
  /-- ENGINE_WTR_EXPIRY (R154). -/
  | engineWtrExpiry (e : EngIx)
  /-- FAULT_RECOVERY_AGREE (R154). -/
  | faultRecoveryAgree (e : EngIx)
  /-- ENGINE_SLEW_DONE (R170). -/
  | engineSlewDone (e : EngIx)
  /-- EVENT_EDGE (R174). -/
  | eventEdge (k : Fin 8) (rising : Bool) (t : Nat) (tdc : Option TdcSample)
  /-- EV_POP_READ (R177). -/
  | evPopRead (who : Initiator) (k : Fin 8)
  /-- EV_LOST_READ (R197). -/
  | evLostRead (who : Initiator) (k : Fin 8)
  /-- EV_NOBASE_READ (R197). -/
  | evNobaseRead (who : Initiator) (k : Fin 8)
  /-- TDCREF_ALIGN (R181). -/
  | tdcrefAlign (t : Nat)
  /-- TRIGGER_PULSE (R185). -/
  | triggerPulse (j : Fin 8)
  /-- PPS_OUT_PULSE (R186). -/
  | ppsOutPulse (j : Fin 2)
  /-- CLKOUT_ALIGN_START (R188). -/
  | clkoutAlignStart (c : Fin 4)
  /-- TIME_TAP_WORD0_READ (R191). -/
  | timeTapWord0Read (a : Fin 16) (cycle back : Nat)
  /-- TT_LATCH (R192). -/
  | ttLatch (t : Nat)
  /-- SYNTH_LOCK_LOSS (R206). -/
  | synthLockLoss (n : Fin 30)
  /-- BAND_HOP_LOCK (R204). -/
  | bandHopLock (n : Fin 30)
  /-- HOP_MISS (R205). -/
  | hopMiss (n : Fin 30)
  /-- FULL_SEARCH_LOCK (R204). -/
  | fullSearchLock (n : Fin 30) (band : Nat) (temp : Int)
  /-- TRIM_PERIODIC (R215). -/
  | trimPeriodic (results : List (Nat × Int))
  /-- CAL_DUE (R221). -/
  | calDue (c : Fin 217)
  /-- CODE_DENSITY_START (R221). -/
  | codeDensityStart (c : Fin 217) (ratio : Nat × Nat)
  /-- CODE_DENSITY_END (R222). -/
  | codeDensityEnd (c : Fin 217) (hits : List Nat) (temp : Int)
  /-- CAL_RUN_HITS_TIMEOUT (R219). -/
  | calRunHitsTimeout (c : Fin 217)
  /-- CAL_RETRY_TIMER (R223). -/
  | calRetryTimer (c : Fin 217)
  /-- REPLICA_MEASURE (R229). -/
  | replicaMeasure (paths : List ReplicaMeas) (rings : List (Fin 14 × Nat))
  /-- LATENCY_UPDATE (R230). -/
  | latencyUpdate (g : GroupIx)
  /-- WEATHER_EYE_SCAN (R229). -/
  | weatherEyeScan (l : LaneIx)
  /-- GUARD_RELEASE (R233). -/
  | guardRelease (p : PortIx)
  /-- RETENTION_CHECK (R229). -/
  | retentionCheck (d : Fin 14) (minimum : Nat)
  /-- WEATHER_RECORD (R235). -/
  | weatherRecord (flashOk : Bool)
  /-- PORT_LINK_UP (R243). -/
  | portLinkUp (p : PortIx)
  /-- PORT_LINK_LOSS (R243). -/
  | portLinkLoss (p : PortIx) (cause : LossCause)
  /-- LINK_HOLD_EXPIRY (R254). -/
  | linkHoldExpiry (p : PortIx)
  /-- AN_COMPLETE (R241). -/
  | anComplete (p : PortIx) (peer : List Nat) (fec : Bool) (pause : Nat)
  /-- LINK_UP_TIMEOUT (R384). -/
  | linkUpTimeout (p : PortIx)
  /-- FRAME_RECEIVE (R244). -/
  | frameReceive (p : PortIx) (fid : Nat) (fin : RxEnd)
  /-- PAUSE_RECEIVE (R251). -/
  | pauseReceive (p : PortIx) (pfc : Bool) (mask : BitVec 8) (quanta : List Nat) (fcsBad : Bool)
  /-- PAUSE_TIMER_EXPIRY (R251). -/
  | pauseTimerExpiry (p : PortIx) (c : Fin 8)
  /-- PAUSE_WD_EXPIRY (R252). -/
  | pauseWdExpiry (p : PortIx) (c : Fin 8)
  /-- PAUSE_RECOVERY_END (R252). -/
  | pauseRecoveryEnd (p : PortIx) (c : Fin 8)
  /-- PAUSE_REPEAT (R253). -/
  | pauseRepeat (p : PortIx) (c : Fin 8)
  /-- PREEMPT_VERIFY_TIMER (R248). -/
  | preemptVerifyTimer (p : PortIx)
  /-- PREEMPT_VERIFY_RESPONSE (R248). -/
  | preemptVerifyResponse (p : PortIx) (addFrag : Fin 4)
  /-- EGRESS_FRAME_START (R296). -/
  | egressFrameStart (p : PortIx) (express : Bool) (tx : TxStamp)
  /-- EGRESS_FRAME_DONE (R250). -/
  | egressFrameDone (p : PortIx) (express : Bool)
  /-- MAC_SNAP_READ (R257). -/
  | macSnapRead (who : Initiator) (p : PortIx)
  /-- PG_STAT_SNAP_WRITE (R257). -/
  | pgStatSnapWrite (g : GroupIx) (v : Word)
  /-- INGRESS_DECISION (R260). -/
  | ingressDecision (p : PortIx) (f : RxFrame)
  /-- SCRUB_PASS (R281). -/
  | scrubPass (found : List (Fin 7 × Nat))
  /-- PARITY_REPAIR (R281). -/
  | parityRepair (table : Fin 7) (index : Nat)
  /-- CROSSBAR_MATCH (R291). -/
  | crossbarMatch (crcBad : List GroupIx)
  /-- CAL_WAIT_EXPIRY (R307). -/
  | calWaitExpiry (g : GroupIx)
  /-- SLOT_GATE (R315). -/
  | slotGate (p : PortIx) (m : SlotMoment) (start : Nat)
  /-- CAL_DEPARTURE (R318). -/
  | calDeparture (p : PortIx) (shifted : Bool) (tx : TxStamp)
  /-- CAL_ACTIVATION_TIMEOUT (R324). -/
  | calActivationTimeout (stream : Nat)
  /-- HELLO_SEND (R333). -/
  | helloSend (p : PortIx)
  /-- HELLO_RECEIVE (R334). -/
  | helloReceive (p : PortIx) (b : List Byte)
  /-- HELLO_DEAD_EXPIRY (R334). -/
  | helloDeadExpiry (p : PortIx)
  /-- ADDR_REQ_RECEIVE (R337). -/
  | addrReqReceive (p : PortIx) (src : Nat) (b : List Byte)
  /-- ADDR_GRANT_RECEIVE (R349). -/
  | addrGrantReceive (p : PortIx) (src : Nat) (b : List Byte)
  /-- RECORD_RECEIVE (R342). -/
  | recordReceive (p : PortIx) (src : Nat) (b : List Byte)
  /-- RECORD_ACK_RECEIVE (R349). -/
  | recordAckReceive (p : PortIx) (src : Nat) (b : List Byte)
  /-- RECORD_ORIGINATE (R342). -/
  | recordOriginate (scope : Nat)
  /-- REMOTE_COMMAND_RECEIVE (R350). -/
  | remoteCommandReceive (src : Nat) (b : List Byte)
  /-- REMOTE_RESPONSE_RECEIVE (R352). -/
  | remoteResponseReceive (src : Nat) (b : List Byte)
  /-- REMOTE_RETRY (R352). -/
  | remoteRetry (xid : Nat)
  /-- REMOTE_TIMEOUT_EXPIRY (R352). -/
  | remoteTimeoutExpiry (xid : Nat)
  /-- ATTEST_REQUEST_RECEIVE (R351). -/
  | attestRequestReceive (src : Nat) (b : List Byte)
  /-- DOMAIN_LOWER_COMPLETE (R530). -/
  | domainLowerComplete (d : Fin 14)
  /-- DOMAIN_WAKE_COMPLETE (R367). -/
  | domainWakeComplete (d : Fin 14)
  /-- POR_RELEASE (R386). -/
  | porRelease (straps : Straps) (monitor : Bool)
  /-- SUPPLY_BROWNOUT (R509). -/
  | supplyBrownout (rail : Nat)
  /-- CHIP_RESET (R379). -/
  | chipReset (source : Nat)
  /-- DATA_RESET (R379). -/
  | dataReset (source : Nat)
  /-- MGMT_RESTART (R379). -/
  | mgmtRestart (source : Nat)
  /-- RESET_RELEASE (R381). -/
  | resetRelease (scope : Scope) (straps : Straps)
  /-- RESET_CTRL_CHIP (R386). -/
  | resetCtrlChip (who : Initiator) (v : Word)
  /-- RESET_CTRL_DATA (R386). -/
  | resetCtrlData (who : Initiator) (v : Word)
  /-- RESET_CTRL_MGMT (R386). -/
  | resetCtrlMgmt (who : Initiator) (v : Word)
  /-- CROSSING_TIMEOUT (R376). -/
  | crossingTimeout (n : Nat)
  /-- INTERCONNECT_TIMEOUT (R377). -/
  | interconnectTimeout (who : Initiator) (off : Nat) (write : Bool)
  /-- PMB_ALERT (R510). -/
  | pmbAlert (status : BitVec 16)
  /-- VOUT_READBACK (R510). -/
  | voutReadback (mv : Nat)
  /-- RX_TAIL_WRITE (R402). -/
  | rxTailWrite (r : Fin 8) (v : Word) (descs : List (List Byte))
  /-- TX_TAIL_WRITE (R399). -/
  | txTailWrite (r : Fin 8) (v : Word) (descs : List (List Byte))
  /-- DMA_RING_ENABLE (R398). -/
  | dmaRingEnable (rx : Bool) (r : Fin 8) (v : Word)
  /-- DMA_RING_DISABLE (R408). -/
  | dmaRingDisable (rx : Bool) (r : Fin 8) (v : Word)
  /-- RX_STARVE_TIMEOUT (R402). -/
  | rxStarveTimeout (r : Fin 8)
  /-- TX_FRAME_FETCH (R404). -/
  | txFrameFetch (bytes : List Byte)
  /-- DMA_HOLDOFF_EXPIRY (R406). -/
  | dmaHoldoffExpiry (rx : Bool) (r : Fin 8)
  /-- DMA_DROPS_READ (R407). -/
  | dmaDropsRead (who : Initiator) (rx : Bool) (r : Fin 8)
  /-- MB_DOORBELL_RING (R410). -/
  | mbDoorbellRing (c : Fin 4) (v : Word)
  /-- MB_BUFFER_WRITE (R410). -/
  | mbBufferWrite (off : Nat) (v : Word)
  /-- MB_ACKNOWLEDGE (R411). -/
  | mbAcknowledge (c : Fin 4)
  /-- MB_DOORBELL_ACK_TIMEOUT (R411). -/
  | mbDoorbellAckTimeout (c : Fin 4)
  /-- MB_FINAL_RESPONSE (R417). -/
  | mbFinalResponse (o : Origin)
  /-- COMMAND_DEADLINE (R416). -/
  | commandDeadline (o : Origin)
  /-- MB_EVQ_TAIL_WRITE (R421). -/
  | mbEvqTailWrite (v : Word)
  /-- MB_EVQ_ENABLE (R421). -/
  | mbEvqEnable (v : Word)
  /-- OBILWIN_START (R423). -/
  | obilwinStart (savedOk : Bool)
  /-- COUNTER_WRAP (R492). -/
  | counterWrap (n : Fin 1024)
  /-- IDENTIFY (R436). -/
  | identify (o : Origin)
  /-- EVENT_REPLAY (R437). -/
  | eventReplay (o : Origin)
  /-- POWER_SET (R438). -/
  | powerSet (o : Origin)
  /-- WAKE_MAP (R439). -/
  | wakeMap (o : Origin)
  /-- ALARM_SET (R439). -/
  | alarmSet (o : Origin)
  /-- RESET (R440). -/
  | reset (o : Origin)
  /-- DEV_SET (R431). -/
  | devSet (o : Origin)
  /-- DEV_GET (R432). -/
  | devGet (o : Origin)
  /-- OSC_SET (R450). -/
  | oscSet (o : Origin)
  /-- SYN_SET (R451). -/
  | synSet (o : Origin)
  /-- SYN_REQ (R451). -/
  | synReq (o : Origin)
  /-- BAND_SET (R451). -/
  | bandSet (o : Origin)
  /-- PLAN_RUN (R212). -/
  | planRun (o : Origin)
  /-- SPUR_MAP_GET (R451). -/
  | spurMapGet (o : Origin)
  /-- CAL_RUN (R452). -/
  | calRun (o : Origin)
  /-- CAL_TABLE_GET (R452). -/
  | calTableGet (o : Origin)
  /-- TIME_SET (R442). -/
  | timeSet (o : Origin)
  /-- UTC_SET (R443). -/
  | utcSet (o : Origin)
  /-- REF_SET (R433). -/
  | refSet (o : Origin)
  /-- REF_GET (R432). -/
  | refGet (o : Origin)
  /-- REF_SELECT (R444). -/
  | refSelect (o : Origin)
  /-- REF_QUALIFY (R445). -/
  | refQualify (o : Origin)
  /-- REF_RELEASE (R445). -/
  | refRelease (o : Origin)
  /-- ENGINE_SET (R434). -/
  | engineSet (o : Origin)
  /-- ENGINE_GET (R432). -/
  | engineGet (o : Origin)
  /-- SERVO_MODE (R446). -/
  | servoMode (o : Origin)
  /-- FREQ_WRITE (R144). -/
  | freqWrite (o : Origin)
  /-- PHASE_EST (R145). -/
  | phaseEst (o : Origin)
  /-- MODEL_GET (R447). -/
  | modelGet (o : Origin)
  /-- MODEL_RESET (R447). -/
  | modelReset (o : Origin)
  /-- ENGINE_CLEAR (R447). -/
  | engineClear (o : Origin)
  /-- IO_SET (R434). -/
  | ioSet (o : Origin)
  /-- IO_GET (R432). -/
  | ioGet (o : Origin)
  /-- TRIG_SCHEDULE (R449). -/
  | trigSchedule (o : Origin)
  /-- TRIG_CANCEL (R449). -/
  | trigCancel (o : Origin)
  /-- PORT_SET (R457). -/
  | portSet (o : Origin)
  /-- PORT_GET (R456). -/
  | portGet (o : Origin)
  /-- PORT_ADMIN (R459). -/
  | portAdmin (o : Origin)
  /-- GROUP_RESET (R379). -/
  | groupReset (o : Origin)
  /-- LANE_RESET (R379). -/
  | laneReset (o : Origin)
  /-- LANE_TEST (R56). -/
  | laneTest (o : Origin)
  /-- EYE_SCAN (R58). -/
  | eyeScan (o : Origin)
  /-- LANE_RATE (R232). -/
  | laneRate (o : Origin)
  /-- LAT_GET (R459). -/
  | latGet (o : Origin)
  /-- LAT_SET (R86). -/
  | latSet (o : Origin)
  /-- PLUMB_GET (R459). -/
  | plumbGet (o : Origin)
  /-- FWD_SET (R456). -/
  | fwdSet (o : Origin)
  /-- FWD_GET (R456). -/
  | fwdGet (o : Origin)
  /-- L2_WRITE (R461). -/
  | l2Write (o : Origin)
  /-- L2_DELETE (R461). -/
  | l2Delete (o : Origin)
  /-- L2_FLUSH (R461). -/
  | l2Flush (o : Origin)
  /-- CTX_WRITE (R461). -/
  | ctxWrite (o : Origin)
  /-- CTX_STATS_GET (R460). -/
  | ctxStatsGet (o : Origin)
  /-- MATCH_WRITE (R461). -/
  | matchWrite (o : Origin)
  /-- VID_WRITE (R461). -/
  | vidWrite (o : Origin)
  /-- MCAST_WRITE (R461). -/
  | mcastWrite (o : Origin)
  /-- MAP_WRITE (R461). -/
  | mapWrite (o : Origin)
  /-- WRED_SET (R461). -/
  | wredSet (o : Origin)
  /-- CAL_ADMIT (R323). -/
  | calAdmit (o : Origin)
  /-- CAL_WITHDRAW (R464). -/
  | calWithdraw (o : Origin)
  /-- COURSE_SET (R464). -/
  | courseSet (o : Origin)
  /-- CAL_LIST_GET (R464). -/
  | calListGet (o : Origin)
  /-- FAB_SET (R456). -/
  | fabSet (o : Origin)
  /-- FAB_GET (R456). -/
  | fabGet (o : Origin)
  /-- REMOTE_CMD (R465). -/
  | remoteCmd (o : Origin)
  /-- FAB_DB_GET (R465). -/
  | fabDbGet (o : Origin)
  /-- PC_MAP (R491). -/
  | pcMap (o : Origin)
  /-- HEALTH_GET (R496). -/
  | healthGet (o : Origin)
  /-- WEATHER_GET (R466). -/
  | weatherGet (o : Origin)
  /-- SPDM_MSG (R483). -/
  | spdmMsg (o : Origin)
  /-- SPDM_REMOTE (R467). -/
  | spdmRemote (o : Origin)
  /-- FW_OPEN (R467). -/
  | fwOpen (o : Origin)
  /-- FW_WRITE (R467). -/
  | fwWrite (o : Origin)
  /-- FW_CLOSE (R467). -/
  | fwClose (o : Origin)
  /-- FW_ACTIVATE (R477). -/
  | fwActivate (o : Origin)
  /-- FW_COMMIT (R478). -/
  | fwCommit (o : Origin)
  /-- PTP_ANNOUNCE_RECEIVE (R35). -/
  | ptpAnnounceReceive (p : PortIx) (utcValid leap61 leap59 : Bool) (offset : Int)
  /-- PATTERN_CHECKER_SYNC (R55). -/
  | patternCheckerSync (l : LaneIx) (rx : List Bool)
  /-- PATTERN_CHECKER_SYNC_LOSS (R55). -/
  | patternCheckerSyncLoss (l : LaneIx) (rx : List Bool)
  /-- PCS_ALIGNMENT_LOCK (R243). -/
  | pcsAlignmentLock (p : PortIx)
  /-- MODULE_CHANGE (R108). -/
  | moduleChange (p : PortIx) (ident : Nat) (bidi : Bool) (lasers : List WlReport)
  /-- LOW_POWER_IDLE (R60). -/
  | lowPowerIdle (p : PortIx) (on : Bool)
  /-- ENGINE_TIME_CLOCK_SUPPLY (R41). -/
  | engineTimeClockSupply (e : EngIx)
  /-- MSIX_VECTOR_UNMASK (R397). -/
  | msixVectorUnmask (v : Fin 64)
  /-- STEP_APPLY (R39). -/
  | stepApply
  /-- UTC_CHANGE_APPLY (R35). -/
  | utcChangeApply
  /-- LEAP_SECOND (R36). -/
  | leapSecond
  /-- KETTLE_COUNT_TAKEOVER (R41). -/
  | kettleCountTakeover
  /-- SWITCH_COMPLETE (R128). -/
  | switchComplete
  /-- REF_XCMP_INTERVAL (R118). -/
  | refXcmpInterval
  /-- MODEL_RESIDUAL (R121). -/
  | modelResidual
  /-- TODIN_LOST (R117). -/
  | todinLost
  /-- ACQUIRE_BANDWIDTH_STEP (R136). -/
  | acquireBandwidthStep
  /-- ENGINE_LOCK (R135). -/
  | engineLock
  /-- ENGINE_UNLOCK (R135). -/
  | engineUnlock
  /-- HOLDOVER_LEARN (R138). -/
  | holdoverLearn
  /-- MODEL_READY_REACHED (R138). -/
  | modelReadyReached
  /-- SW_TIMEOUT_EXPIRY (R145). -/
  | swTimeoutExpiry
  /-- WALL_TIE_SILENCE (R162). -/
  | wallTieSilence
  /-- ALIGNMENT_COMPLETE (R167). -/
  | alignmentComplete
  /-- ALIGNMENT_TIMEOUT (R167). -/
  | alignmentTimeout
  /-- TDCREF_LOSS (R182). -/
  | tdcrefLoss
  /-- TDCREF_RESTORE (R182). -/
  | tdcrefRestore
  /-- TT_LATCH_RESULT (R192). -/
  | ttLatchResult
  /-- TT_CLK_LOST (R194). -/
  | ttClkLost
  /-- TT_CLK_RETURN (R194). -/
  | ttClkReturn
  /-- OSC_IN_ABSENT (R361). -/
  | oscInAbsent
  /-- OSC_IN_RETURN (R361). -/
  | oscInReturn
  /-- CORE_VOLTAGE_ADJUST (R231). -/
  | coreVoltageAdjust
  /-- AGEING_SWEEP (R273). -/
  | ageingSweep
  /-- CONGESTION_WINDOW (R301). -/
  | congestionWindow
  /-- COURSE_BOUNDARY (R310). -/
  | courseBoundary
  /-- COURSE_PARAM_APPLY (R311). -/
  | courseParamApply
  /-- ADDR_REQUEST_START (R337). -/
  | addrRequestStart
  /-- ADDR_REQ_RETRY (R337). -/
  | addrReqRetry
  /-- UNIT_HOLD_EXPIRY (R337). -/
  | unitHoldExpiry
  /-- RECORD_RETRANSMIT (R342). -/
  | recordRetransmit
  /-- RECORD_AGE_EXPIRY (R342). -/
  | recordAgeExpiry
  /-- RECORD_REFRESH (R342). -/
  | recordRefresh
  /-- SPF_COMPUTE (R343). -/
  | spfCompute
  /-- SEGMENT_REASSEMBLY_TIMEOUT (R348). -/
  | segmentReassemblyTimeout
  /-- ALARM_FIRE (R362). -/
  | alarmFire
  /-- PCIE_L1_EXIT (R364). -/
  | pcieL1Exit
  /-- POR (R379). -/
  | por
  /-- FIRMWARE_WATCHDOG (R384). -/
  | firmwareWatchdog
  /-- THERMTRIP (R505). -/
  | thermtrip
  /-- PERST_N_ASSERT (R390). -/
  | perstNAssert
  /-- PERST_N_RELEASE (R364). -/
  | perstNRelease
  /-- FUNCTION_LEVEL_RESET (R390). -/
  | functionLevelReset
  /-- D3HOT_ENTRY (R389). -/
  | d3hotEntry
  /-- ROM_START (R475). -/
  | romStart
  /-- TRIAL_CONFIRM (R476). -/
  | trialConfirm
  /-- D3HOT_EXIT (R389). -/
  | d3hotExit
  deriving DecidableEq, Repr

end Sys2Proof
end

