-- ==== Sys2Proof/Config.lean ====
section
/-! DEFINITION. What one part fixes and the manual does not give: values in OTP, algorithms named by reference,
predictions and readings, and the free values. Every constant without a body may hold any value. -/

namespace Sys2Proof.Config

/-- The serial number in OTP (R357), less one; a serial number is not 0, which a hello sends for none (R333). -/
opaque serialLessOne : Fin (18446744073709551614 + 1)
/-- The serial number. -/
def serial : BitVec 64 := BitVec.ofNat 64 (serialLessOne.val + 1)
/-- The OTP base address of the ports (R258). -/
opaque macBase : BitVec 48
/-- Byte `i` of the SHA-384 digest of a message (R480). -/
opaque sha384Byte : List Byte → Fin 48 → Byte
/-- The digest as 48 bytes. -/
def sha384 (m : List Byte) : List Byte := (List.finRange 48).map (sha384Byte m)
/-- The boot ROM's bytes, the OTP state and the factory data region, as measured (R480). -/
opaque romImage : List Byte
opaque otpState : Nat → List Byte
opaque factoryData : List Byte
/-- The 128-byte image header (R474 gives its fields; neither the places of their bytes nor the magic word): where in the header the
bytes of magic word, version, body length, entry address and digest stand, in this order, the rest behind them. -/
opaque headerOrder : Equiv.Perm (Fin 128)
opaque headerMagic : BitVec 32
/-- A boot configuration block's bytes as measured (R473 gives its contents and no layout), from its fields; a 48-byte boot
path record (R480) from slot, trial, FALLBACK and loader mode; the record of a security event (R480). -/
opaque blockBytes : List Nat → List Byte
opaque bootRecordByte : Nat → Bool → Bool → Bool → Fin 48 → Byte
opaque securityEvent : Nat → Nat → List Byte
/-- The version word that the boot ROM itself answers with (R479: not stated). -/
opaque romVersion : Nat
/-- Which of the health report's four reserved header bytes holds LOST (R496 names a reserved byte and gives no offset). -/
opaque lostPlace : Fin 4
/-- Byte `i` of the unique device secret in OTP (R481). -/
opaque deviceSecretByte : Fin 32 → Byte
/-- The public key of a P-384 private key, encoded (R481). -/
opaque publicKey : Nat → List Byte
/-- An ECDSA P-384 signature, by draw, private key and message (R482, R483): the draw stands for its random number. -/
opaque signature : Nat → Nat → List Byte → List Byte
/-- The body of the alias certificate (R482): the alias public key, the serial and the registers, as X.509 v3 and Girima's extension
encode them; the Girima root, and the identity certificate written at manufacture. -/
opaque certBody : List Byte → Nat → List (List Byte) → List Byte
opaque rootCert : List Byte
opaque identityCert : List Byte
/-- The part of the SPDM responder's answer that the manual does not give (R483): algorithm detail and nonces, from a draw, the message
and the requests that the connection has seen. -/
opaque spdmAnswer : Nat → List Byte → List Nat → List Byte
/-- Fused trim windows, design-nominal trim codes (R215, R216). -/
opaque trimLow : Nat → Int
opaque trimSpan : Nat → Nat
def trimHigh (tap : Nat) : Int := trimLow tap + trimSpan tap
opaque trimNominal : Nat → Int
/-- Factory latency entries by lane and set: TX_LAT, RX_LAT, TC_TX, TC_RX, T_REF (R86), and the design nominal. -/
opaque factoryLat : Nat → Nat → Int × Int × Int × Int × Int
opaque nominalLat : Nat → Int × Int × Int × Int × Int
/-- The replica path's own temperature coefficients by group: transmit and receive, 2⁻²⁰ ns per K (R230). -/
opaque replicaTc : Nat → Rat × Rat
/-- Calibrated transmit skew of a lane relative to its port's lowest lane (R82), and the arrival offset. -/
opaque txSkew : Nat → Int
/-- The spur planner's predictions (R210), in 0.1 dB: the level of harmonic `k` of a synthesiser, spread or not; of a group
PLL's fractional spur, the `k`-th above its carrier or below it (R201); of harmonic `k` of the reference under a VCO option; and
the fractional spurs of the other synthesisers with their harmonics, frequency in Hz and level, for a VCO option, dither, output
frequency in mHz and reference frequency in Hz. -/
opaque harmonicLevel : Nat → Nat → Bool → Int
opaque groupSpurLevel : Nat → Int → Int
opaque referenceLevel : Nat → Nat → Nat → Int
opaque fractionalSpurs : Nat → Nat → Bool → Nat → Nat → List (Nat × Int)
/-- The FFE taps of the training clauses' initialize preset (R52): c(−1), c(0), c(+1). -/
opaque initTaps : Int × Int × Int
/-- Words of mirrored table entries whose layout the manual leaves open (R284): table number, fields, word. -/
opaque mirrorWord : Nat → List Nat → Nat → BitVec 32
/-- Byte `i` of a weathering record (R235: 64 bytes, layout not given): 0 hourly or 1 daily, the second, the values. -/
opaque weatherByte : Nat → Nat → List Int → Fin 64 → Byte
/-- What one 5 mV step of the core supply changes in the slowest ring's speed, in 1/1,000 of need (R231). -/
opaque ringPerStep : Nat
/-- The order in which input group `g`'s generator runs through its 65,535 values (R299), for a part and a POR: polynomial and seed
are not specified. -/
opaque wredOrder : Nat → Nat → Equiv.Perm (Fin 65535)
/-- σ_f, σ_a and σ_T of the model (R141): the manual names these estimates of the fit and gives no formula. Arguments:
the fit's sums, the time in seconds, the temperature. -/
opaque sigmaF : List Rat → Rat → Rat → Rat
opaque sigmaA : List Rat → Rat → Rat → Rat
opaque sigmaT : List Rat → Rat → Rat → Rat
/-- The hops of a stream's path beyond this device's tables: device and egress port (R323). -/
opaque freePath : Nat → List (Nat × Nat)
/-- The body of the management frame that has a device install, activate or withdraw a stream (R324): no layout is given. From stream,
activation course, whether it installs, and the device. -/
opaque installBody : Nat → Nat → Bool → Nat → List Byte
/-- Byte `i` of a record of CAL_LIST_GET (R464: its 16 bytes are not laid out), from the fields it carries. -/
opaque calListByte : List Nat → Fin 16 → Byte
/-- Fields of the Veman header, and the destination MAC address, that the manual does not fix for hellos and management frames (R332),
by kind and place: 0 DEST where LINK is set, 1 DEST_PORT, 2 CTX, 3 HOP of a link-local frame, 4 the colour, 5 SRC_PORT and 6 the
destination MAC address of a message to a device. -/
opaque headerField : Nat → Nat → Nat
/-- A fresh value the manual leaves open, numbered by `State.free`. -/
opaque freeNat : Nat → Nat
opaque freeInt : Nat → Int
opaque freeRat : Nat → Rat

end Sys2Proof.Config
end

