-- ==== Sys2Proof/Machine/StateClock.lean ====
section
/-! DEFINITION. State of clock synthesis and radio-quiet operation (chapter 09) and of calibration and
weathering (10). -/

namespace Sys2Proof.Machine

/-- A stored VCO band result (R204): target in Hz, band, die temperature in 1/16 °C. -/
structure BandResult where
  target : Nat
  band   : Nat
  temp   : Int
  deriving DecidableEq, Repr

/-- What a synthesiser is doing about its VCO (R204, R205). -/
inductive TuneSt where
  | idle
  | hop (target : Nat)
  | search (target : Nat)
  deriving DecidableEq, Repr

/-- One of the 30 synthesisers of R199. -/
structure Synth where
  lock     : Bool := false
  lockLost : Bool := false
  /-- SYN0 and SYN1: the output frequency set, mHz. -/
  target   : Nat := 0
  /-- The frequency it was last tuned to, by which band results are kept (R204). -/
  tunedTo  : Nat := 0
  vcoOpt   : Nat := 0
  pendOpt  : Option Nat := none
  dither   : Bool := false
  /-- Spread in force: depth code of R214, 0 unspread, and the mode. -/
  depth    : Nat := 0
  centre   : Bool := false
  refused  : Bool := false
  /-- Spread request standing: centre mode and maximum depth code (R211); the modulation rate and the dither asked for (R451),
  and the rate in force. -/
  request  : Option (Bool × Nat) := none
  rateReq  : Nat := 31500
  ditherReq : Nat := 0
  rate     : Nat := 31500
  /-- Stored results, most recently used first, at most eight. -/
  bands    : List BandResult := []
  tune     : TuneSt := .idle
  second   : Option Nat := none
  bandSrc  : Nat := 0
  searches : Nat := 0
  band     : Nat := 0
  deriving DecidableEq, Repr

/-- A protected band (R209): kHz and dBc. -/
structure BandSpec where
  low    : Nat
  high   : Nat
  margin : Nat
  limit  : Int
  deriving DecidableEq, Repr

/-- Clock synthesis (R198 to R214). -/
structure Synthesis where
  present   : Bool := false
  oscLost   : Bool := false
  kettleInt : Bool := false
  configured : Bool := false
  /-- The ROM has read the configured frequency since POR or CHIP reset (R198). -/
  freqRead : Bool := false
  /-- The OSC_IN frequency in force, Hz. -/
  oscHz     : Nat := 0
  syn       : Vector Synth 30 := Vector.replicate 30 {}
  bands     : Vector (Option BandSpec) 16 := Vector.replicate 16 none
  planValid : Bool := false
  truncated : Bool := false
  conflicts : Nat := 0
  planSeq   : Nat := 0
  spurs     : List SpurRecord := []
  deriving DecidableEq, Repr

/-- A code-density converter (R217 to R228). `cur` is the accepted table as converted interval per raw code in
phase units, empty for the design-nominal table; `old` is what the blend started from. -/
structure Conv where
  valid    : Bool := false
  rejected : Bool := false
  reason   : Nat := 0
  fails    : Nat := 0
  inlMax   : Nat := 0
  seq      : Nat := 0
  accepted : Bool := false
  /-- The run that ended last was accepted, and the line length of the last accepted one, 2⁻²⁰ ns. -/
  lastOk   : Bool := false
  line     : Nat := 0
  stale    : Bool := false
  running  : Bool := false
  due      : Bool := false
  cur      : List Rat := []
  old      : List Rat := []
  blend    : Nat := 64
  /-- The last accepted result: elapsed time and converter temperature (1/16 °C). -/
  lastAt   : Nat := 0
  lastTemp : Int := 400
  /-- Retry delay now in force, seconds; 0 when none. -/
  retry    : Nat := 0
  deriving DecidableEq, Repr

/-- Trims and code-density calibration (R215 to R228). Converters: lanes 0 to 191, reference conditioners 192 to
197, engine comparator 198, event interpolators 199 to 214 (A then B of each input), TDCREF 215, Time Tap 216.
Rings: one per group, then D0, then D13. -/
structure Calib where
  conv     : Vector Conv 217 := Vector.replicate 217 {}
  ringTrim : Vector Nat 26 := Vector.replicate 26 0
  /-- Band-gap trims by tap number: the code in force. -/
  trims    : Tbl Int := []
  /-- Taps whose trim flag is set, with the delay of the retry that follows, s, and the elapsed time at which it is due
  (R216, R223); results that wait for the elapsed time at which they may be applied (R215). -/
  flags    : Tbl Unit := []
  trimRetry : Tbl (Nat × Nat) := []
  trimHeld : Tbl (Int × Nat) := []
  deriving DecidableEq, Repr

/-- Replica paths of one group (R229, R230): the last ten referred values, newest first, and the value at the last
update, of the transmit and the receive path, phase units. -/
structure Replica where
  tx   : List Rat := []
  rx   : List Rat := []
  txAt : Option Rat := none
  rxAt : Option Rat := none
  deriving DecidableEq, Repr

/-- A 64-byte weathering record with the second it was written (R235). -/
structure WeatherRec where
  sec   : Nat
  bytes : List Byte
  /-- The values of the seven subsystems of R236 that it records. -/
  vals  : List Int
  deriving DecidableEq, Repr

/-- Weathering (R229 to R236). -/
structure Weather where
  replica  : Vector Replica 24 := Vector.replicate 24 {}
  /-- Ring-oscillator speed of each domain, referred, in 1/1,000 of what the domain needs. -/
  rings    : Vector Nat 14 := Vector.replicate 14 0
  /-- Core supply target in mV (R231). -/
  target   : Nat := 750
  voltMargin : Bool := false
  /-- Permitted rate code of each lane (R232); 3 is 26.5625 Gbaud. -/
  permitted : Vector Nat 192 := Vector.replicate 192 3
  below    : Vector Nat 192 := Vector.replicate 192 0
  rateLimit : Vector Bool 192 := Vector.replicate 192 false
  /-- A weathering scan is due at the next READY (R234). -/
  scanDue  : Vector Bool 192 := Vector.replicate 192 false
  /-- Extra guard of each port, ns (R233). -/
  guard    : Vector Nat 192 := Vector.replicate 192 0
  /-- Retention minima and voltages of D3, D10, D11, D12, mV. -/
  retMin   : Vector Nat 4 := Vector.replicate 4 0
  retVolt  : Vector Nat 4 := Vector.replicate 4 0
  bandLeft : Vector Nat 30 := Vector.replicate 30 0
  hourly   : List WeatherRec := []
  daily    : List WeatherRec := []
  historyLost : Bool := false
  /-- Values at the first record, by subsystem, for MARGIN (R236). -/
  first    : List Int := []
  /-- Hourly records since the last daily mean, and the subsystems whose floor has been reached. -/
  inDay    : Nat := 0
  reached  : List Nat := []
  deriving DecidableEq, Repr

end Sys2Proof.Machine
end

