-- ==== Sys2Proof/Machine/StateFabric.lean ====
section
/-! DEFINITION. State of the Veman fabric (chapter 15), power domains and wake (16), crossings, resets and
timeouts (17). -/

namespace Sys2Proof.Machine

/-- The adjacency states of R334. -/
inductive AdjSt where
  | down | init | twoWay | self | rejected
  deriving DecidableEq, Repr

/-- One fabric port's adjacency: its state and the hello last heard (R333, R334, R347). -/
structure Adjacency where
  st       : AdjSt := .down
  deadEvt  : Bool := false
  inelig   : Nat := 1
  hello    : Option Hello := none
  helloSeq : Nat := 0
  /-- The dead timer is suspended while the receive direction sleeps (R335). -/
  suspended : Bool := false
  /-- The hello last sent: the frame without its FCS (R333). -/
  lastSent : Option (List Byte) := none
  deriving DecidableEq, Repr

/-- A stored link-state record (R341): the record, the elapsed time of its AGE 0, and the ports whose
acknowledgement is missing. -/
structure StoredRecord where
  body    : LsRecord
  born    : Int
  unacked : List Nat := []
  deriving DecidableEq, Repr

/-- A unit held for a serial (R337): since when the serial's records have gone, if they have. -/
structure HeldUnit where
  serial : Nat
  unit   : Nat
  goneAt : Option Nat := none
  deriving DecidableEq, Repr

/-- A message in reassembly (R348). -/
structure Reassembly where
  source : Nat
  xid    : Nat
  type   : Nat
  kind   : Nat
  mflags : Nat
  count  : Nat
  segs   : Tbl (List Byte)
  firstAt : Nat
  deriving DecidableEq, Repr

/-- A message this device sent, kept as evidence of what left: port (none: routed), destination, type, kind, xid,
flags, body. -/
structure SentMsg where
  port   : Option Nat
  dest   : Nat
  type   : Nat
  kind   : Nat
  xid    : Nat
  mflags : Nat
  body   : List Byte
  /-- What its frames carry before the segment: both MAC addresses and the Veman header (R332). -/
  head   : List Byte
  /-- Its segments as they leave, header and body each (R348). -/
  segs   : List (List Byte)
  deriving DecidableEq, Repr

/-- Sequence state of a remote source (R350), most recently used first. -/
structure RemoteSeq where
  source   : Nat
  lastSeq  : Nat
  response : List Byte
  /-- The source's snapshot of the health report (R466). -/
  healthSeq : Nat := 0
  health   : List Byte := []
  deriving DecidableEq, Repr

/-- A command relayed for a host (R352). -/
structure Relay where
  origin : Origin
  xid    : Nat
  target : Nat
  body   : List Byte
  sends  : Nat
  timeoutMs : Nat
  attest : Bool
  deriving DecidableEq, Repr

/-- The fabric (R329 to R357). -/
structure Fabric where
  adj      : Vector Adjacency 192 := Vector.replicate 192 {}
  addrValid : Bool := false
  zone     : Nat := 0
  cluster  : Nat := 0
  unit     : Nat := 0
  /-- ZONE and CLUSTER were configured when the address was taken up (R336). -/
  cfgZc    : Bool := false
  conflict : Bool := false
  clusterFull : Bool := false
  /-- A configured unit is in conflict: the device stays unaddressed until UNIT_CFG changes (R338). -/
  stuck    : Bool := false
  records  : List StoredRecord := []
  /-- SEQ of the own record of each scope, 0 before the first. -/
  ownSeq   : Vector Nat 4 := Vector.replicate 4 0
  held     : List HeldUnit := []
  /-- A running address request: attempts made and the port last used. -/
  reqTries : Nat := 0
  reqPort  : Option Nat := none
  transit  : Bool := false
  /-- Obilwin has installed its own tables (R345). -/
  installed : Bool := false
  treeId   : Nat := 0
  depth    : Nat := 255
  advSigma : Nat := 4294967295
  advC     : Nat := 4294967295
  timeSource : Bool := false
  reasm    : List Reassembly := []
  remotes  : List RemoteSeq := []
  relays   : List Relay := []
  nextXid  : Nat := 0
  sent     : List SentMsg := []
  deriving DecidableEq, Repr

/-- Fabric status (R357). -/
structure FabStatus where
  reconv   : Bool := false
  topoEvt  : Bool := false
  scaleLimit : Bool := false
  spfRuns  : Nat := 0
  deriving DecidableEq, Repr

/-- The domain states of R358. -/
inductive DomSt where
  | on | stopped | retention | off
  deriving DecidableEq, Repr

/-- One power domain (R358 to R372). -/
structure Domain where
  st      : DomSt := .on
  target  : DomSt := .on
  wakeEvt : Bool := false
  refused : Bool := false
  lastSrc : Nat := 0
  wakes   : Nat := 0
  /-- A request that takes effect after the transition in progress (R371). -/
  queued  : Option DomSt := none
  /-- A raise held while both claims are 0x00 (R359). -/
  heldRaise : Bool := false
  /-- The wake source that is raising the domain. -/
  wakeSrc : Option Nat := none
  deriving DecidableEq, Repr

/-- A Kettle alarm (R362). -/
structure Alarm where
  armed   : Bool := false
  fired   : Bool := false
  instant : Nat := 0
  mask    : BitVec 14 := 0
  deriving DecidableEq, Repr

/-- Power and wake (R358 to R372). -/
structure Power where
  dom     : Vector Domain 14 := Vector.replicate 14 {}
  /-- Domain masks of the wake sources 1 to 5 by source and index, where software has written them. -/
  masks   : Tbl (BitVec 14) := []
  causeValid : Bool := false
  causeSrc : Nat := 0
  causeDetail : Nat := 0
  causeDoms : BitVec 14 := 0
  /-- When the last wake came (R371). -/
  causeAt : Nat := 0
  alarm   : Vector Alarm 4 := Vector.replicate 4 {}
  wakeN   : Bool := true
  deriving DecidableEq, Repr

/-- An access that waits at a crossing into a domain below On (R376). -/
structure Waiting where
  who    : Initiator
  off    : Nat
  write  : Option Word
  domain : Nat
  /-- Its width in bytes; 4 for an access that software may make (R8). -/
  bytes  : Nat := 4
  deriving DecidableEq, Repr

/-- Resets and the error log (R379 to R386). -/
structure Resets where
  /-- Scopes in reset: CHIP, DATA, MGMT, each with its trigger's source code. -/
  por      : Bool := true
  chip     : Option Nat := none
  data     : Option Nat := none
  mgmt     : Option Nat := none
  groups   : Vector Bool 24 := Vector.replicate 24 false
  lanes    : Vector Bool 192 := Vector.replicate 192 false
  /-- Resets that take effect on a domain's next entry to On (R382): scope codes 2 to 5 with the index. -/
  deferred : List (Nat × Nat) := []
  /-- Resets ordered by a mailbox command and not yet asserted (R382): scope codes. -/
  ordered  : List Nat := []
  halted   : Bool := false
  lastScope : Nat := 0
  lastSource : Nat := 0
  chipCount : Nat := 0
  dataCount : Nat := 0
  mgmtCount : Nat := 0
  /-- Elapsed times of watchdog restarts, newest first (R383). -/
  wdTimes  : List Nat := []
  log0     : Word := 0x0F000000
  log1     : Word := 0
  log1Snap : Vector Word 2 := Vector.replicate 2 0
  waiting  : List Waiting := []
  /-- Pulse accumulators of the crossings (R375) by crossing number. -/
  pulses   : Tbl Nat := []
  deriving DecidableEq, Repr

end Sys2Proof.Machine
end

