-- ==== Sys2Proof/Machine/StateSwitch.lean ====
section
/-! DEFINITION. State of the switch: forwarding tables (chapter 12), buffering, queues and crossbar (13), the calendar
(14) and the Veman fabric (15). -/

namespace Sys2Proof.Machine

/-- A VID table entry (R263). -/
structure VidEntry where
  learn : Bool := false
  flood : Nat := 0
  deriving DecidableEq, Repr

/-- A stream match entry (R265). -/
structure MatchEntry where
  port : Nat
  mac  : Nat
  vid  : Nat
  ctx  : Nat
  deriving DecidableEq, Repr

/-- A multicast group (R278); `drops` is COPY_DROPS. -/
structure McastEntry where
  valid : Bool := false
  mask  : BitVec 192 := 0
  drops : Nat := 0
  deriving DecidableEq, Repr

/-- A route entry (R275). -/
structure RouteEntry where
  members : List Nat := []
  backup  : Option Nat := none
  deriving DecidableEq, Repr

/-- A flow context as software writes it (R266), rates in 64 kb/s, bursts in bytes. -/
structure CtxCfg where
  valid   : Bool := false
  cal     : Bool := false
  calRes  : Nat := 0
  tcOvrEn : Bool := false
  tcOvr   : Nat := 0
  destMc  : Bool := false
  dest    : Nat := 0
  police  : Bool := false
  aware   : Bool := false
  pass    : Bool := false
  cir     : Nat := 0
  pir     : Nat := 0
  cbs     : Nat := 0
  pbs     : Nat := 0
  deriving DecidableEq, Repr

/-- A flow context's live state: buckets in bytes, exact, with the elapsed time they stood then, and the statistics. -/
structure CtxLive where
  tc     : Rat := 0
  tp     : Rat := 0
  asOf   : Nat := 0
  green  : Nat := 0
  yellow : Nat := 0
  red    : Nat := 0
  octets : Nat := 0
  deriving DecidableEq, Repr

/-- The tables that Obilwin writes (R280): the hardware holds one set and Obilwin a golden copy. L2 entries are keyed
by bucket × 4 + way, matches by bucket × 4 + way, routes by table × 64 + index. -/
structure FwdTables where
  l2    : Tbl L2Entry := []
  vid   : Tbl VidEntry := []
  mat   : Tbl MatchEntry := []
  mcast : Tbl McastEntry := []
  route : Tbl RouteEntry := []
  ctx   : Tbl CtxCfg := []
  deriving DecidableEq, Repr

/-- Forwarding (R260 to R285). -/
structure Fwd where
  hw      : FwdTables := {}
  golden  : FwdTables := {}
  live    : Tbl CtxLive := []
  /-- PCP maps by port × 8 + PCP, DSCP maps by map × 64 + DSCP: classes written. -/
  pcp     : Tbl Nat := []
  dscp    : Tbl Nat := []
  /-- Bad entries by table × 2²⁰ + index (R280). -/
  bad     : Tbl Unit := []
  parityEvt : Bool := false
  learnFullEvt : Bool := false
  logTable : Nat := 0
  logSeq   : Nat := 0
  logIndex : Nat := 0
  deriving DecidableEq, Repr

/-- A virtual output queue or multicast queue: frames oldest first, and AVG in 1/256 cell (R299). -/
structure Queue where
  frames : List FrameDesc := []
  avg    : Nat := 0
  deriving DecidableEq, Repr

/-- The input side of a port group (R286 to R299). -/
structure InGroup where
  voq    : Tbl Queue := []
  mcq    : Vector Queue 8 := Vector.replicate 8 {}
  calq   : List FrameDesc := []
  cellCrcEvt : Bool := false
  bufFullEvt : Bool := false
  accept : Vector (Fin 24) 3 := Vector.replicate 3 0
  /-- Random draws made, modulo the generator's period (R299). -/
  draws  : Nat := 0
  deriving DecidableEq, Repr

/-- The slot a CAL frame is matched to at a port (R317): START in periods, and the departure instant in 2⁻²⁰ ns. -/
structure SlotMatch where
  port    : Nat
  start   : Nat
  instant : Rat
  deriving DecidableEq, Repr

/-- A frame in an egress reassembly buffer (R294, R296): the ports still to send it, cells received. -/
structure EgFrame where
  desc  : FrameDesc
  src   : Fin 24
  ports : List Nat
  cells : Nat
  total : Nat
  /-- Full time at which its first cell entered, and the slots a CAL frame is matched to (R317). -/
  first : Nat
  slots : List SlotMatch := []
  crcBad : Bool := false
  deriving DecidableEq, Repr

/-- The output side of a port group (R291 to R296). -/
structure OutGroup where
  grant    : Vector (Fin 24) 3 := Vector.replicate 3 0
  egress   : List EgFrame := []
  portDef  : Vector Int 8 := Vector.replicate 8 0
  portPos  : Nat := 0
  classDef : Vector Int 64 := Vector.replicate 64 0
  classPos : Vector Nat 8 := Vector.replicate 8 0
  deriving DecidableEq, Repr

/-- A random-drop profile (R298). -/
structure Wred where
  minTh   : Nat := 0
  maxTh   : Nat := 24576
  pmaxDen : Nat := 1024
  weight  : Nat := 0
  deriving DecidableEq, Repr

/-- Congestion marking of an output port (R301). -/
structure Cong where
  marked : Bool := false
  evt    : Bool := false
  onsets : Nat := 0
  drops  : Nat := 0
  clear  : Nat := 0
  deriving DecidableEq, Repr

/-- Buffering, queues and crossbar (R286 to R309). -/
structure Queues where
  inp     : Vector InGroup 24 := Vector.replicate 24 {}
  out     : Vector OutGroup 24 := Vector.replicate 24 {}
  wred    : Vector Wred 16 :=
    (((Vector.replicate 16 {}).set 0 { minTh := 2048, maxTh := 4096, pmaxDen := 64, weight := 6 }).set 1
      { minTh := 512, maxTh := 2048, pmaxDen := 32, weight := 6 }).set 2
      { minTh := 128, maxTh := 512, pmaxDen := 1, weight := 6 }
  cong    : Vector Cong 192 := Vector.replicate 192 {}
  /-- The 1 ms window that has ended last, in whole ms of full time. -/
  window  : Nat := 0
  /-- Which free value names the generators' seeds since POR (R299). -/
  seed    : Nat := 0
  deriving DecidableEq, Repr

/-- One port's calendar (R313 to R318, R328). -/
structure PortCal where
  banks   : Vector (List SlotEntry) 2 := Vector.replicate 2 []
  active  : Fin 2 := 0
  pending : Option Nat := none
  guard   : Nat := 0
  sent    : Nat := 0
  miss    : Nat := 0
  shift   : Nat := 0
  missEvt : Bool := false
  shiftEvt : Bool := false
  /-- Departures already given to frames. -/
  used    : List SlotMatch := []
  deriving DecidableEq, Repr

/-- A reservation record (R322). -/
structure Resv where
  stream    : Nat
  maxLen    : Nat
  perCourse : Nat
  sent      : Nat := 0
  missed    : Nat := 0
  deriving DecidableEq, Repr

/-- A bank switch ordered and not yet active: the stream it installs or withdraws, the course number, the devices
whose acknowledgement is still missing (R324). -/
structure Activation where
  stream  : Nat
  course  : Nat
  install : Bool
  waiting : List Nat
  /-- Cause of the STREAM event (R469). -/
  cause   : Nat
  deriving DecidableEq, Repr

/-- A stream this device planned (R323 to R325). -/
structure Stream where
  id     : Nat
  ctx    : Nat
  resv   : Nat
  ports  : List Nat
  course : Nat
  devices : List Nat := []
  /-- The CAL_ADMIT payload, and whether the stream is to be planned again (R326). -/
  request : List Byte := []
  /-- Own ports by which the stream arrives. -/
  links   : List Nat := []
  replan  : Bool := false
  deriving DecidableEq, Repr

/-- The calendar (R310 to R328). -/
structure Calendar where
  running  : Bool := false
  courseLen : Nat := 0
  offset   : Nat := 0
  pending  : Option (Nat × Nat) := none
  number   : Nat := 0
  realignEvt : Bool := false
  /-- A DATA reset has been, and no course boundary since (R326). -/
  resync   : Bool := false
  port     : Vector PortCal 192 := Vector.replicate 192 {}
  golden   : Vector (List SlotEntry) 192 := Vector.replicate 192 []
  resv     : Tbl Resv := []
  acts     : List Activation := []
  streams  : List Stream := []
  nextStream : Nat := 1
  deriving DecidableEq, Repr

end Sys2Proof.Machine
end

