-- ==== Sys2Proof/Machine/StateHost.lean ====
section
/-! DEFINITION. State of the host side: PCIe and packet DMA (chapter 18), the mailbox (19), snapshots of registers and
reports, boot and firmware (22), performance counters and the recovery log (23), pins (24). -/

namespace Sys2Proof.Machine

/-- A byte buffer as memory: rising addresses, no entry that reads 0. -/
abbrev Mem := List Host.Cell

/-- One DMA ring (R398 to R408). -/
structure Ring where
  baseLo   : Nat := 0
  baseHi   : Nat := 0
  holdLo   : Nat := 0
  enable   : Bool := false
  size     : Nat := 4
  holdoff  : Nat := 0
  count    : Nat := 0
  tail     : Nat := 0
  head     : Nat := 0
  doneEvt  : Bool := false
  errEvt   : Bool := false
  trunc    : Nat := 0
  noroom   : Nat := 0
  /-- Frames completed since DONE_EVT was last set (R406). -/
  unreported : Nat := 0
  /-- Receive: descriptors the host posted, oldest first: address and length. Transmit: descriptors posted. -/
  rxPosted : List (Nat × Nat) := []
  txPosted : List TxDesc := []
  /-- Receive: the bytes written to the buffer of the descriptor at HEAD, its writeback held for want of a next
  descriptor (R402). -/
  heldLen  : Option Nat := none
  deriving DecidableEq, Repr

/-- A frame in the host receive store (R400). -/
structure StoreFrame where
  fid    : Nat
  bytes  : List Byte
  port   : Nat
  reason : Nat
  cls    : Nat
  colour : Nat
  trunc  : Bool
  ts     : Option (BitVec 64)
  /-- Bytes already written to host buffers. -/
  done   : Nat := 0
  deriving DecidableEq, Repr

/-- What the T24 wrote to host memory, newest first: address and bytes. -/
structure HostWrite where
  addr  : Nat
  bytes : List Byte
  deriving DecidableEq, Repr

/-- A host transmit frame fetched and not yet completed (R404, R405). -/
structure TxPend where
  fid   : Nat
  ring  : Nat
  /-- Host addresses of its descriptors. -/
  descAt : List Nat
  tsReq : Bool
  /-- The ring has been disabled since: HEAD moves no more for it. -/
  old   : Bool := false
  result : Option (Nat × Option (BitVec 64)) := none
  deriving DecidableEq, Repr

/-- The PCIe function, BAR0's read side, MSI-X and host DMA (R387 to R408). -/
structure HostIf where
  perst    : Bool := true
  linkUp   : Bool := false
  /-- The ROM has set the PCIe mode; until then the link is held in Detect (R471). -/
  modeSet  : Bool := false
  inL1     : Bool := false
  d3hot    : Bool := false
  sris     : Bool := true
  /-- Completion data of the last read, by initiator (0 host, 1 management core). -/
  rdata    : Vector Word 2 := Vector.replicate 2 0
  /-- The initiator's last access ended in a bus error (R376). -/
  busError : Bool := false
  /-- Holding registers of R393 by initiator × 2²⁶ + _LO offset, and held _LO writes. -/
  holding  : Tbl Word := []
  teSnap   : Vector (Vector Word 5) 2 := Vector.replicate 2 (Vector.replicate 5 0)
  /-- The entry last snapshot from the mirror: first-word offset and words (R284), by initiator. -/
  mirrorAt : Vector Nat 2 := Vector.replicate 2 0
  mirror   : Vector (List Word) 2 := Vector.replicate 2 []
  /-- MSI-X: masked, pending condition as last seen, pending bit array, messages sent, newest first. -/
  masked   : Vector Bool 64 := Vector.replicate 64 true
  pend     : Vector Bool 64 := Vector.replicate 64 false
  pba      : Vector Bool 64 := Vector.replicate 64 false
  sent     : List Nat := []
  mgmtRestartEvt : Bool := false
  mgmtHaltEvt : Bool := false
  errEvt   : Bool := false
  rx       : Vector Ring 8 := Vector.replicate 8 {}
  tx       : Vector Ring 8 := Vector.replicate 8 {}
  starve   : Nat := 0
  store    : Vector (List StoreFrame) 8 := Vector.replicate 8 []
  txPend   : List TxPend := []
  txTurn   : Nat := 0
  writes   : List HostWrite := []
  deriving DecidableEq, Repr

/-- Channel states of R426. -/
inductive ChanSt where
  | idle | pending | executing | done
  deriving DecidableEq, Repr

/-- A command as Obilwin copied it (R411, R412). -/
structure Cmd where
  opcode  : Nat
  hseq    : Nat
  chanField : Nat
  payload : List Byte
  /-- Accepted as new with SYNC 0, or from a source without state (R415, R350). -/
  seqReset : Bool := false
  deriving DecidableEq, Repr

/-- A command's outcome before its final response is written. -/
structure CmdResult where
  status : Nat
  detail : Nat := 0
  payload : List Byte := []
  deriving DecidableEq, Repr

/-- What a command that has begun its work waits for: a relayed answer; a converter's run, counted from a sequence number;
the engines' alignment; domains still to be changed and their target; a lane's scan; a group's lanes; a stream, with the response that its activation completes. -/
inductive CmdWait where
  | relay
  | cal (conv seq : Nat)
  | align
  | power (todo : List Nat) (target : Nat)
  | eye (l : Nat)
  | mode (g : Nat)
  | stream (id : Nat) (answer : List Byte)
  deriving DecidableEq, Repr

/-- A command Obilwin is executing. -/
structure Exec where
  cmd     : Cmd
  inProgress : Bool := false
  claims  : List Nat := []
  result  : Option CmdResult := none
  wait    : Option CmdWait := none
  /-- A reset to assert once the response is written (R382), and the state that D3 then takes (R438). -/
  resetAfter : Option Nat := none
  d3After : Option Nat := none
  /-- REMOTE_TIMEOUT as it stood at the acknowledge, ms (R352). -/
  remoteMs : Nat := 0
  deriving DecidableEq, Repr

/-- One mailbox channel (R409 to R418, R426). -/
structure Channel where
  cmdBuf   : Mem := []
  rspBuf   : Mem := []
  st       : ChanSt := .idle
  respEvt  : Bool := false
  unacked  : Bool := false
  dbIgnored : Bool := false
  wrDiscard : Bool := false
  respHSeq : Nat := 0
  sync     : Bool := false
  lastHSeq : Nat := 0
  cached   : List Byte := []
  exec     : Option Exec := none
  /-- The MB health snapshot of HEALTH_GET: sequence and record. -/
  healthSeq : Nat := 0
  health   : List Byte := []
  deriving DecidableEq, Repr

/-- A device event record (R421). -/
structure DevEvent where
  dseq   : Nat
  code   : Nat
  source : Nat
  lost   : Bool
  time   : BitVec 64
  data   : List Byte
  deriving DecidableEq, Repr

/-- A command of another device that Obilwin executes (R350). -/
structure RemoteExec where
  source : Nat
  xid    : Nat
  relayed : Bool
  exec   : Exec
  deriving DecidableEq, Repr

/-- The mailbox and the device events (R409 to R426). -/
structure Mailbox where
  chan     : Vector Channel 4 := Vector.replicate 4 {}
  fwReady  : Bool := false
  remote   : List RemoteExec := []
  dseq     : Nat := 0
  epoch    : Nat := 0
  log      : List DevEvent := []
  evqLo    : Nat := 0
  evqHi    : Nat := 0
  evqHoldLo : Nat := 0
  evqEnable : Bool := false
  evqSize  : Nat := 4
  overflow : Bool := false
  evqEvt   : Bool := false
  evqHead  : Nat := 0
  evqTail  : Nat := 0
  lostBefore : Bool := false
  deriving DecidableEq, Repr

/-- An image slot as the flash holds it (R472 to R474). -/
structure Slot where
  bytes  : List Byte := []
  /-- Erased and open for writing. -/
  openBytes : Option Nat := none
  st     : Nat := 0
  deriving DecidableEq, Repr

/-- One copy of the boot configuration block (R473). -/
structure BootBlock where
  valid  : Bool := false
  seq    : Nat := 0
  active : Nat := 0
  trialSlot : Nat := 0
  trial  : Bool := false
  sris   : Bool := true
  oscHz  : Nat := 0
  deriving DecidableEq, Repr

/-- Connection states of the SPDM responder (R484): the requests answered since GET_VERSION, as codes. -/
structure SpdmConn where
  source : Nat
  seen   : List Nat := []
  transcript : List Byte := []
  /-- The last request that came over the fabric, by XID, and its answer (R352). -/
  last : Option (Nat × List Byte) := none
  deriving DecidableEq, Repr

/-- Obilwin's saved configuration (R470, R472): the parameters written, wake masks, drop profiles, class maps and protected
bands. -/
structure SavedCfg where
  par   : Tbl Int
  masks : Tbl (BitVec 14)
  wred  : Vector Wred 16
  pcp   : Tbl Nat
  dscp  : Tbl Nat
  bands : Vector (Option BandSpec) 16
  deriving DecidableEq, Repr

/-- The ROM's keys: the secret and the identity private key while they stand in SRAM; the alias private key and its certificate; the
read lock of the secret's OTP row (R481, R482). -/
structure KeyStore where
  secret   : Option (List Byte) := none
  identity : Option Nat := none
  alia     : Option Nat := none
  aliasCert : List Byte := []
  locked   : Bool := false
  deriving DecidableEq, Repr

/-- Boot, measurement and firmware update (R470 to R485). -/
structure Boot where
  stage    : Nat := 0
  slot     : Nat := 0
  trial    : Bool := false
  fallback : Bool := false
  rollback : Nat := 0
  /-- The counter as GL_BOOT_STATUS shows it (R485). -/
  rbShown  : Nat := 0
  starts   : Nat := 0
  slots    : Vector Slot 2 := Vector.replicate 2 {}
  blocks   : Vector BootBlock 2 := Vector.replicate 2 {}
  flashMiB : Nat := 16
  mreg     : Vector (List Byte) 8 := Vector.replicate 8 (List.replicate 48 0)
  mregLocked : Bool := false
  keys     : KeyStore := {}
  /-- The trial attempt recorded in D3, awaiting confirmation (R476). -/
  attempt  : Option Nat := none
  update   : Option (Nat × Nat × Nat) := none
  conns    : List SpdmConn := []
  /-- The saved configuration: parameters and tables, as last saved; SAVE settings. -/
  saved    : Option SavedCfg := none
  straps   : Straps := {}
  factoryLoaded : Bool := false
  /-- Obilwin's BASE and PREF changes held until R168 allows them (R470). -/
  heldPref : Bool := false
  /-- No Obilwin has started since POR, CHIP reset or D3's power-up: its saved configuration is still to be loaded. -/
  fresh    : Bool := true
  deriving DecidableEq, Repr

/-- A performance counter (R489 to R494). -/
structure PerfCtr where
  count : Nat := 0
  event : Nat
  ovf   : Bool := false
  deriving DecidableEq, Repr

/-- A record of the recovery log (R495). -/
structure RecRec where
  time   : BitVec 64
  whenAt : Nat
  kind   : Nat
  detail : Nat
  unit   : Nat
  count  : Nat
  deriving DecidableEq, Repr

/-- Performance counters and the recovery log. -/
structure Counters where
  pc       : Vector PerfCtr 1024 := Vector.ofFn fun i => { event := i.val }
  ring     : List RecRec := []
  lost     : Nat := 0
  kinds    : Vector Nat 17 := Vector.replicate 17 0
  deriving DecidableEq, Repr

/-- Output pins and the supply-control bus (R502 to R510). -/
structure Pins where
  thermtripN : Bool := true
  pmbAddr  : Nat := 64
  /-- VOUT_COMMAND last written, mV, and rewrites left. -/
  vout     : Nat := 0
  voutRetried : Bool := false
  /-- Temperatures last read, 1/16 °C, by domain. -/
  temps    : Vector Int 14 := Vector.replicate 14 400
  deriving DecidableEq, Repr

end Sys2Proof.Machine
end

