-- ==== Sys2Proof/Machine/StateLanes.lean ====
section
/-! DEFINITION. State of the lanes, the port groups and the ports: SerDes lanes (chapter 03), lane phase
measurement and the group servo (04), link delay and Plumb (05), port groups and MACs (11). -/

namespace Sys2Proof.Machine

/-- The lane states of R50. -/
inductive LaneSt where
  | off | sleep | acquire | train | ready | test
  deriving DecidableEq, Repr

/-- The lane's pattern generator and checker (R54, R55, R64). -/
structure LanePat where
  genOn   : Bool := false
  genPat  : Nat := 0
  genInv  : Bool := false
  genUser : Word := 0
  chkOn   : Bool := false
  chkSync : Bool := false
  chkPat  : Nat := 0
  chkInv  : Bool := false
  chkUser : Word := 0
  /-- The checker's reference: the last bits received, or in sync generated, newest first; consecutive error-free bits out
  of sync; the errors among the last 64 bits in sync, newest first (R55). -/
  hist    : List Bool := []
  run     : Nat := 0
  win     : List Bool := []
  errSat  : Bool := false
  bitsSat : Bool := false
  syncLoss : Nat := 0
  bits    : Nat := 0
  errs    : Nat := 0
  deriving DecidableEq, Repr

/-- The lane's eye-margin scan (R58, R59). -/
structure LaneEye where
  running : Bool := false
  valid   : Bool := false
  seq     : Nat := 0
  width   : Nat := 0
  height  : Nat := 0
  deriving DecidableEq, Repr

/-- A transmit anchor as one lane holds it (R69): the received bit with index `ui` left the peer's ball at
`tTx`, in the peer's time, 2⁻²⁰ ns. -/
structure Anchor where
  tTx : Rat
  ui  : Int
  deriving DecidableEq, Repr

/-- One placed arrival (R66): the bit with UI index `ui` arrived at local time `t`, 2⁻²⁰ ns, before the
receive latency is removed. -/
structure Arrival where
  t  : Rat
  ui : Int
  deriving DecidableEq, Repr

/-- The lane's share of the group servo (R68 to R75, R90). -/
structure LanePh where
  valid    : Bool := false
  /-- The exclusion reason of R74; 0 is in fusion. -/
  excl     : Nat := 1
  weight   : Nat := 0
  slips    : Nat := 0
  phase    : Int := 0
  noise    : Nat := 0
  /-- Tracked and applied skew residuals of R73. -/
  sTrk     : Rat := 0
  sApp     : Rat := 0
  /-- The values e − s − fused of the last 64 cycles, newest first (R72). -/
  hist     : List Rat := []
  /-- The previous values e − s of the lane, newest first, for the single-lane step of R78. -/
  eHist    : List Rat := []
  outlier  : Nat := 0
  /-- A remeasurement under way: cycles done and the sum of e − fused (R74). -/
  meas     : Option (Nat × Rat) := none
  /-- Cycles of the weight ramp done, 64 when complete (R74). -/
  ramp     : Nat := 64
  anchor   : Option Anchor := none
  /-- The last 250 placed arrivals, newest first (R68). -/
  recent   : List Arrival := []
  deriving DecidableEq, Repr

/-- One fixed-latency entry (R85). -/
structure LatEntry where
  txLat  : Int := 0
  rxLat  : Int := 0
  tcTx   : Int := 0
  tcRx   : Int := 0
  tRef   : Int := 400
  source : Nat := 0
  calSec : Nat := 0
  deriving DecidableEq, Repr

/-- The lane's fixed latencies: the six sets of R84 and the linear 64-cycle blend of R226. -/
structure LaneLat where
  sets   : Vector LatEntry 6 := Vector.replicate 6 {}
  fromTx : Rat := 0
  fromRx : Rat := 0
  /-- Cycles of the blend done; 64 when no blend runs. -/
  blend  : Nat := 64
  deriving DecidableEq, Repr

/-- What a module reports of one lane's laser (R94, R106). -/
structure ModuleWl where
  wlTx  : Nat
  wlRx  : Nat
  sigTx : Nat
  sigRx : Nat
  deriving DecidableEq, Repr

/-- The lane's link-delay data (R95 to R106, R111). -/
structure LaneLd where
  /-- Samples of the running window: count, sum of APP, sum of APP squared; `bad` when the lane broke off. -/
  winN    : Nat := 0
  winSum  : Rat := 0
  winSq   : Rat := 0
  winBad  : Bool := false
  /-- The last completed window: APP mean and standard deviation of the mean (its square). -/
  app     : Option (Rat × Rat) := none
  /-- The lane's RT_i of the previous window and the history of at most 64 windows, newest first. -/
  rtPrev  : Option Rat := none
  rtHist  : List Rat := []
  /-- Target fibre delays, and the values the 64-cycle blend started from. -/
  fLP     : Rat := 0
  fPL     : Rat := 0
  fromLP  : Rat := 0
  fromPL  : Rat := 0
  blend   : Nat := 64
  /-- The latencies outside the fibre that the delays of R96 add, from the pairing in force. -/
  extRx   : Int := 0
  extTx   : Int := 0
  hasDelay : Bool := false
  /-- The window before the last completed one, for the pairing of R95. -/
  appPrev : Option (Rat × Rat) := none
  /-- Δ_i in use and σ_d,i squared. -/
  delta   : Rat := 0
  sigSq   : Rat := 0
  module  : Option ModuleWl := none
  deriving DecidableEq, Repr

/-- One SerDes lane. -/
structure Lane where
  st        : LaneSt := .off
  txSleep   : Bool := false
  rxSleep   : Bool := false
  sigDet    : Bool := false
  cdrLock   : Bool := false
  trainFallback : Bool := false
  adaptEvent : Bool := false
  ppmAlarm  : Bool := false
  /-- Measured receive frequency offset in 0.01 ppm (R48). -/
  rxOffset  : Int := 0
  trainFails : Nat := 0
  /-- Transmit FFE taps in use and those of the last successful training (R52). -/
  taps      : Taps := {}
  goodTaps  : Option Taps := none
  /-- The CTLE code and first DFE tap, frozen in READY, and what goes on adapting (R53). -/
  ctle      : Fin 16 := 0
  dfe1      : Int := 0
  adapt     : RxAdapt := {}
  /-- Vertical eye opening at READY, 2 mV units (R53). -/
  eyeAtReady : Nat := 0
  pat       : LanePat := {}
  eye       : LaneEye := {}
  ph        : LanePh := {}
  lat       : LaneLat := {}
  ld        : LaneLd := {}
  deriving DecidableEq, Repr

/-- A port group's servo (R76 to R78, R90, R528). -/
structure GroupServo where
  /-- The state code of R76. -/
  st       : Nat := 0
  stepFlag : Bool := false
  seq      : Nat := 0
  valid    : Bool := false
  fused    : Rat := 0
  sigmaSq  : Rat := 0
  delta    : Rat := 0
  /-- The last fused values, newest first, at most 64 (R77). -/
  hist     : List Rat := []
  tracked  : Nat := 0
  /-- STEP_MEASURE: the pre-step mean, the offered held value, cycles done and their sum. -/
  preMean  : Rat := 0
  heldVal  : Rat := 0
  measN    : Nat := 0
  measSum  : Rat := 0
  transients : Nat := 0
  /-- The software steps subtracted under R528. -/
  sub      : Rat := 0
  /-- A VALID window has completed since NO_LANE was entered (R74). -/
  remeasured : Bool := false
  /-- A step reported to the engines and not yet taken up (R77). -/
  reported : Option Rat := none
  deriving DecidableEq, Repr

/-- One direction of a port's Veman sleep (R60 to R63). -/
inductive SleepSt where
  | awake | requested | asleep | waking
  deriving DecidableEq, Repr

/-- The sleep exchange of a fabric port: its transmit direction, and its receive direction as the peer sleeps it. -/
structure PortSleep where
  tx        : SleepSt := .awake
  txWaiting : Bool := false
  seq       : Nat := 0
  tries     : Nat := 0
  rx        : SleepSt := .awake
  rxSeq     : Nat := 0
  wakePending : Bool := false
  /-- A WAKE_ACK owed to the peer, with its sequence number (R365). -/
  ackHeld   : Option Nat := none
  /-- The sentinel has left the port's PCS, by direction: transmit, receive (R61). -/
  txAlone   : Bool := false
  rxAlone   : Bool := false
  /-- Ordered sets sent as 66-bit blocks, newest first. -/
  sent      : List (BitVec 66) := []
  badD1     : Nat := 0
  deriving DecidableEq, Repr

/-- The peer's half of a measurement window (R95, R97): what its last Veman TLV carried. -/
structure PeerWindow where
  tlv : VemanTlv
  deriving DecidableEq, Repr

/-- An IEEE 1588 message that the hardware exchange sent: 0 Sync, 1 Follow_Up, 2 Delay_Req, 3 Delay_Resp, 4 Pdelay_Req,
5 Pdelay_Resp, 6 Pdelay_Resp_Follow_Up; in network order (R9) its time field of 6 bytes of seconds and 4 of nanoseconds,
its correctionField in 2⁻¹⁶ ns, and the TLV that it carries. -/
structure SentPtp where
  kind  : Nat
  seqId : Nat
  time  : List Byte
  corr  : List Byte
  tlv   : List Byte
  deriving DecidableEq, Repr

/-- The two-way exchange of a port (R91 to R93, R107, R108). -/
structure PortExch where
  syncSeq   : Nat := 0
  delaySeq  : Nat := 0
  followSeq : Nat := 0
  pdelaySeq : Nat := 0
  /-- The last received Sync: sequence id, receive time t2, carrying lane and UI, correction. -/
  sync      : Option RxEvent := none
  /-- The peer's departure time t1 of the last Sync once known. -/
  t1        : Option Rat := none
  t2        : Option Rat := none
  /-- Departure of the Delay_Req outstanding, with its sequence id. -/
  t3        : Option (Nat × Rat) := none
  /-- Departure of the Pdelay_Req outstanding. -/
  pd1       : Option (Nat × Rat) := none
  /-- The lanes that carried the start UI of the Sync, the Delay_Req and the Pdelay_Req (R82). -/
  t2Lane    : Option (Fin 8) := none
  t3Lane    : Option (Fin 8) := none
  pd1Lane   : Option (Fin 8) := none
  /-- Departure and arrival of the Pdelay_Resp before, for the neighbour's rate ratio (R92). -/
  pdPrev    : Option (Rat × Rat) := none
  /-- RT_port of the last 64 exchanges, newest first. -/
  rts       : List Rat := []
  rtLast    : Option Rat := none
  sent      : List SentPtp := []
  suspect   : Bool := false
  outliers  : Nat := 0
  exchanges : Nat := 0
  /-- Peer delay of an IEEE 802.1AS port (R92). -/
  pdelay    : Option Rat := none
  tlvIgnored : Nat := 0
  residOverflow : Nat := 0
  deriving DecidableEq, Repr

/-- The link delay of a port (R95 to R111). -/
structure PortLd where
  valid     : Bool := false
  dstate    : Nat := 0
  plumb     : Nat := 0
  solver    : Bool := false
  rtMismatch : Bool := false
  pathChange : Bool := false
  selfSpan  : Bool := false
  pairs     : Nat := 0
  seq       : Nat := 0
  resid     : Nat := 0
  sigma     : Nat := 0
  /-- σ_P squared, exact, for σ_hop (R102). -/
  sigmaPSq  : Rat := 0
  geom      : Nat := 0
  rtMean    : Int := 0
  /-- Local window: its end second and count (R97). -/
  winSec    : Nat := 0
  winSeq    : Nat := 0
  /-- End second of the window before, which of the two last windows R109 discards, and whether it discards the
  running one. -/
  prevSec   : Nat := 0
  lastDisc  : Bool := false
  prevDisc  : Bool := false
  winDiscard : Nat := 0
  /-- Parameters of the running window (R104), by parameter key. -/
  cfg       : Tbl Int := []
  /-- The module reports a bidirectional path. -/
  bidi      : Bool := false
  peer      : Option VemanTlv := none
  /-- WINDOW_SEQ of the last peer window combined. -/
  peerUsed  : Option (Nat × Nat) := none
  solSeq    : Nat := 0
  solution  : Option PlumbSolution := none
  /-- Self-span results (R110). -/
  biasMeas  : Int := 0
  deltaTrue : List Int := []
  /-- Elapsed time at entry to HELD (R114). -/
  heldSince : Nat := 0
  lastModule : Option Nat := none
  deriving DecidableEq, Repr

/-- The port states of R242. -/
inductive PortSt where
  | disabled | down | hold | up
  deriving DecidableEq, Repr

/-- Flow control of a port (R251 to R253, R259). -/
structure PortPause where
  /-- A received pause runs for the class. -/
  paused  : Vector Bool 8 := Vector.replicate 8 false
  /-- Quanta received last for the class. -/
  quanta  : Vector Nat 8 := Vector.replicate 8 0
  /-- The class is held (RX_PAUSED). -/
  held    : Vector Bool 8 := Vector.replicate 8 false
  wdIgnore : Vector Bool 8 := Vector.replicate 8 false
  xoff    : Vector Bool 8 := Vector.replicate 8 false
  wdEvent : Bool := false
  /-- Cells of the group's buffer that arrived on the port, by class (R253). -/
  cells   : Vector Nat 8 := Vector.replicate 8 0
  /-- Pause frames sent, newest first: class mask and quanta. -/
  sent    : List (Nat × Nat) := []
  /-- The same frames as they leave, without FCS. -/
  wire    : List (List Byte) := []
  deriving DecidableEq, Repr

/-- The 802.3br merge sublayer of a port (R248, R249). -/
structure PortPreempt where
  /-- 0 DISABLED, 1 VERIFYING, 2 VERIFIED, 3 FAILED, 4 FORCED. -/
  verify   : Nat := 0
  attempts : Nat := 0
  active   : Bool := false
  peerFrag : Nat := 0
  deriving DecidableEq, Repr

/-- A frame the egress MAC is sending or has preempted (R249, R250). -/
structure TxFrame where
  desc    : FrameDesc
  /-- Bytes after the edits. -/
  bytes   : List Byte
  corrupt : Bool := false
  started : Nat := 0
  /-- Departure time of an event message (R80), for the host's completion, and the lane that carried it (R82). -/
  ts      : Option (BitVec 64) := none
  lane    : Option (Fin 8) := none
  deriving DecidableEq, Repr

/-- The egress side of a port's MAC. -/
structure PortTx where
  express  : Option TxFrame := none
  preempt  : Option TxFrame := none
  /-- The preemptable frame is interrupted between two fragments. -/
  cut      : Bool := false
  fragments : Nat := 0
  /-- Idle insertion and deletion wait for the end of a frame with a one-step field (R83). -/
  compHeld : Bool := false
  /-- The last frame that left, as sent. -/
  last     : Option TxFrame := none
  deriving DecidableEq, Repr

/-- One Ethernet port and its MAC. -/
structure Port where
  st        : PortSt := .disabled
  /-- Enabled by PORT_ADMIN (R459). -/
  admin     : Bool := true
  /-- Frames whose end the MAC has met before their decision was delivered, newest first: 0 good, 1 with an error, 2
  dropped at once (R244, R260). -/
  ended     : List (Nat × Nat) := []
  localFault : Bool := false
  remoteFault : Bool := false
  anDone    : Bool := false
  /-- FEC resolved by negotiation (R241). -/
  anFec     : Option Bool := none
  anPause   : Nat := 0
  aligned   : Bool := false
  /-- Low-power idle on an Energy-Efficient Ethernet port: signalled by the peer, and sent (R60). -/
  lowPower  : Bool := false
  txLpi     : Bool := false
  /-- Transmit and receive wake times advertised in the data link layer capabilities, in µs (R366). -/
  dllWake   : Option (Nat × Nat) := none
  downCause : Nat := 0
  flushed   : Bool := false
  holdStart : Nat := 0
  shared    : Bool := false
  snapSeq   : Nat := 0
  live      : Vector Nat 32 := Vector.replicate 32 0
  snap      : Vector Nat 32 := Vector.replicate 32 0
  pause     : PortPause := {}
  pre       : PortPreempt := {}
  /-- Gates of TC0 to TC7 and CAL (R250). -/
  gates     : Vector Bool 9 := Vector.replicate 9 true
  tx        : PortTx := {}
  sleep     : PortSleep := {}
  exch      : PortExch := {}
  ld        : PortLd := {}
  deriving DecidableEq, Repr

/-- One port group. -/
structure Group where
  mode     : Nat := 0
  changing : Bool := false
  servo    : GroupServo := {}
  /-- Junction temperature of the group's sensor, 1/16 °C (R85). -/
  temp     : Int := 400
  /-- The sentinel lane after a takeover under R62; none: the lane R62 chooses. -/
  sentinel : Option (Fin 8) := none
  /-- The lane and group timing words as the last servo cycle left them, by BAR0 offset (R90). -/
  rep      : Tbl Word := []
  deriving DecidableEq, Repr

end Sys2Proof.Machine
end

