-- ==== Sys2Proof/Machine/StateTime.lean ====
section
/-! DEFINITION. State of the time side: the time counter and UTC (chapter 02), references, engine servo and holdover
(06), the Keystone (07), time inputs and outputs and the Time Tap (08), clock synthesis (09), calibration and
weathering (10). -/

namespace Sys2Proof.Machine

/-- The time-of-day states of R40, in code order. -/
inductive TodSt where
  | unset | set | traceable | holdover | coarse
  deriving DecidableEq, Repr

/-- A pending full-time step by a phase quantity (R38, R39): commanded by software, or an acquisition step of R137. -/
structure StepReq where
  delta : Int
  software : Bool
  deriving DecidableEq, Repr

/-- The time counter and what goes with it (R27 to R41). -/
structure Clock where
  /-- Full time in units of 2⁻²⁰ ns since the epoch; less than 2⁴⁸ s. -/
  now     : Nat := 0
  /-- Position in the five-edge pattern of R37. -/
  edge    : Fin 5 := 0
  /-- Time since power-on in 2⁻²⁰ ns; never stepped. The MODEL's own field: durations are measured on it. -/
  elapsed : Nat := 0
  /-- Neither engine supplies the time clock: the count of Kettle edges and where the count began (R41). -/
  kettle  : Bool := true
  kettleBase : Nat := 0
  kettleN : Nat := 0
  tod     : TodSt := .unset
  step    : Option StepReq := none
  /-- The UTC word in force and the three sources of R35. -/
  utc     : Word := 0
  utcCfg  : Option Word := none
  utcOvr  : Option Word := none
  /-- SECONDS of the last leap: a change of UTC information does not take effect at that instant (R36). -/
  leapAt  : Option Nat := none
  /-- σ_acc and c_acc as advertised (R45, R346); all ones when unknown. -/
  sigmaAcc : Nat := 4294967295
  cAcc    : Nat := 4294967295
  deriving DecidableEq, Repr

/-- The reference states of R119. -/
inductive RefSt where
  | disabled | absent | qualifying | wtr | available | suspect | disqualified
  deriving DecidableEq, Repr

/-- A reference as one engine sees it; the wall tie copies it (R119, R129, R159). -/
structure RefView where
  st     : RefSt := .disabled
  reason : Nat := 0
  /-- Elapsed time at which the running qualification, restore or hold interval began. -/
  since  : Nat := 0
  /-- Length of that interval in seconds as it was when it began (R434). -/
  len    : Nat := 0
  absorb : Rat := 0
  deriving DecidableEq, Repr

/-- A reference conditioner (R113, R115, R528). -/
structure Conditioner where
  phase   : Rat := 0
  /-- The unwrapped phase of the last edge used, and whether the PPSIN that a REFIN is paired with has resolved it to the
  second (R113). -/
  last    : Option Rat := none
  resolved : Bool := false
  fresh   : Bool := false
  /-- Step measurement of R77: history (newest first), pre-step mean, cycles and sum. -/
  hist    : List Rat := []
  count   : Nat := 0
  measuring : Bool := false
  preMean : Rat := 0
  heldVal : Rat := 0
  measN   : Nat := 0
  measSum : Rat := 0
  transients : Nat := 0
  sub     : Rat := 0
  delta   : Rat := 0
  deriving DecidableEq, Repr

/-- What the T24 keeps of a reference beside the engines' views. -/
structure Reference where
  cond     : Conditioner := {}
  signal   : Bool := false
  /-- Raw phase error of the last cycle, its freshness, and the reported registers of R148. -/
  raw      : Rat := 0
  fresh    : Bool := false
  valid    : Bool := false
  rank     : Nat := 31
  /-- Its place in the order of R125, before the demotion of R122. -/
  order    : Nat := 31
  budget   : Option Nat := none
  carries  : Nat := 0
  /-- Qualified before since POR or CHIP reset (R120). -/
  qualBefore : Bool := false
  /-- Passing results since QUALIFYING was entered: frequency, wander, signal. -/
  okFreq   : Bool := false
  okWander : Bool := false
  okSignal : Bool := false
  /-- A failing monitor's condition still stands: FREQ, WANDER, XCMP. -/
  badFreq  : Bool := false
  badWander : Bool := false
  badXcmp  : Bool := false
  /-- Phase change over the last 10 s interval (R118). -/
  change10 : Option Rat := none
  /-- Raw phase at the start of the running 10 s interval. -/
  raw10    : Option Rat := none
  /-- The running wander window: cycles since it began, and the fresh phase errors in it with their cycle, newest first
  (R118). -/
  wandN    : Nat := 0
  wander   : List (Nat × Rat) := []
  freqOff  : Rat := 0
  /-- Seconds in a row, while selected and SUSPECT, with |r| below half of RESID_SOFT (R124). -/
  suspGood : Nat := 0
  /-- UTC word the reference carries, when marked valid (R35). -/
  utc      : Option Word := none
  deriving DecidableEq, Repr

/-- TODIN (R116, R117). -/
structure TodIn where
  /-- SECONDS of the last accepted message, and of the next pulse as extrapolated. -/
  lastSec  : Option Nat := none
  label    : Option Nat := none
  todOk    : Bool := false
  disagree : Nat := 0
  /-- Label less the counter's nearest second at the last pulse, in seconds. -/
  offSec   : Int := 0
  lost     : Bool := false
  discarded : Nat := 0
  status   : Nat := 0
  utc      : Word := 0
  deriving DecidableEq, Repr

/-- The learned oscillator model (R138, R141), exact. -/
structure OscModel where
  c0 : Rat := 0
  c1 : Rat := 0
  c2 : Rat := 0
  k1 : Rat := 0
  k2 : Rat := 0
  t0 : Rat := 0
  sigF : Rat := 0
  sigA : Rat := 0
  sigT : Rat := 0
  deriving DecidableEq, Repr

/-- One second of recorded steering: the second, mean word and temperature (R138). -/
structure LearnRow where
  sec : Nat
  y   : Rat
  temp : Rat
  deriving DecidableEq, Repr

/-- Weighted sums of the least-squares fit of R138: the symmetric 5×5 matrix (15 entries, row by row), the
right-hand side and the weighted sum of squares. -/
structure FitSums where
  m   : List Rat := List.replicate 15 0
  b   : List Rat := List.replicate 5 0
  yy  : Rat := 0
  w   : Rat := 0
  deriving DecidableEq, Repr

/-- A reference switch in progress (R128). -/
structure SwitchSt where
  cycle    : Nat
  outgoing : Option Nat
  incoming : Nat
  forced   : Bool
  sum      : Rat
  /-- Bridging for the remaining cycles of a planned switch (R133). -/
  bridge   : Bool
  deriving DecidableEq, Repr

/-- The servo states of R135. -/
inductive ServoSt where
  | freeRun | acquire | locked | holdover | swOpen | swClosed
  deriving DecidableEq, Repr

/-- A software phase estimate of R145: tag and value. -/
structure SwEstimate where
  tag : Nat
  val : Int
  deriving DecidableEq, Repr

/-- One engine: its servo, DCO, model and reference views (R121 to R148). -/
structure Engine where
  st       : ServoSt := .freeRun
  /-- Filtered phase error of the last cycle, 2⁻²⁰ ns; integrator and applied word in 2⁻⁴⁸ (exact and loaded). -/
  e        : Rat := 0
  integ    : Rat := 0
  y        : Int := 0
  lastFresh : Nat := 0
  sel      : Option Nat := none
  sw       : Option SwitchSt := none
  slewing  : Bool := false
  /-- The release runs at HO_RETURN_RATE (R137), and the elapsed time at which it began (R159). -/
  slewHo   : Bool := false
  slewAt   : Nat := 0
  /-- A switch ended uncompleted: the next cycle decides a forced one (R133). -/
  forceSw  : Bool := false
  acqPhase : Nat := 0
  hoIn     : Option (Rat × Rat × Rat) := none
  hoEntry  : Nat := 0
  hoInSw   : Bool := false
  forecast : Nat := 0
  /-- Forecast frozen at its value while full time stays HOLDOVER (R141). -/
  hoFrozen : Bool := false
  lockCnt  : Nat := 0
  unlockCnt : Nat := 0
  lockedSec : Nat := 0
  everLocked60 : Bool := false
  tempFault : Bool := false
  tempFails : Nat := 0
  temp     : Rat := 0
  /-- Address and register of the I²C sensor as last polled (R139). -/
  polled   : Option (Nat × Nat) := none
  suspectAlarm : Bool := false
  oscAlarm : Bool := false
  xcmpAlarm : Bool := false
  model    : OscModel := {}
  fit      : FitSums := {}
  learned  : Nat := 0
  deriving DecidableEq, Repr

/-- The rest of one engine: views of the references, histories, software steering, cupping (R154, R159, R166). -/
structure EngineX where
  refs     : Vector RefView 32 := Vector.replicate 32 {}
  /-- Words applied in this second and the mean words of past seconds, newest first (R138, R140). -/
  ySum     : Rat := 0
  yN       : Nat := 0
  ySec     : List Rat := []
  /-- Terms (y − y_m) × 1 s of the residual window, newest first (R121). -/
  resid    : List Rat := []
  residNow : Int := 0
  tMin     : Rat := 0
  tMax     : Rat := 0
  modelReady : Bool := false
  target   : Int := 0
  estimates : List SwEstimate := []
  /-- Words applied with the elapsed time they took effect, newest first, for R145. -/
  applied  : List (Nat × Int) := []
  /-- FREQ and Y_HIST as copied from the record last loaded (R140, R161). -/
  freqIn   : Int := 0
  yHist    : Option Rat := none
  /-- The acquisition under way follows software steering: its initial phase is absorbed (R146). -/
  acqSw    : Bool := false
  /-- A commanded selection in force (R444), and one that waits for the end of a switch; the same in both engines. -/
  selHeld  : Option Nat := none
  selCmd   : Option (Option Nat) := none
  /-- The word that SW_OPEN approaches its target with, exact (R144). -/
  swY      : Rat := 0
  /-- BASE in force (R152, R470). -/
  base     : Nat := 8
  /-- Recorded seconds younger than RESID_WINDOW, newest first, which R122 may withhold (R138). -/
  learnRecent : List LearnRow := []
  /-- Health code of R154, and its history. -/
  health   : Nat := 0
  claim    : Nat := 0
  /-- The claim as the output stages latched it at the last 8 ns boundary (R155). -/
  latched  : Nat := 0
  on       : Bool := false
  clkOk    : Bool := false
  booting  : Bool := false
  /-- Failing flags and consecutive failures of the five checks: DCO, converter, memory, reference view, tie. -/
  fails    : Vector Nat 6 := Vector.replicate 6 0
  failAt   : Vector (Option Nat) 6 := Vector.replicate 6 none
  passes   : Vector Nat 6 := Vector.replicate 6 0
  /-- Elapsed time of the last failed check (R164). -/
  lastFail : Option Nat := none
  viewBad  : Nat := 0
  faultedAt : List Nat := []
  restoreAt : Nat := 0
  agreeSince : Option Nat := none
  dcoOffset : Rat := 0
  /-- Wall-tie banks (512 bytes each), which is current, and the silent cycles (R159, R162). -/
  banks    : Vector (List Byte) 2 := Vector.replicate 2 []
  bank     : Fin 2 := 0
  /-- Elapsed time of each bank's TIME field; a booting engine has loaded a record (R160, R170). -/
  bankAt   : Vector Nat 2 := Vector.replicate 2 0
  loaded   : Bool := false
  silent   : Nat := 0
  badRun   : Nat := 0
  deriving DecidableEq, Repr

/-- Why a planned handover is under way (R167). -/
inductive AlignWhy where
  | reclaim | software | powerDown
  deriving DecidableEq, Repr

/-- The Keystone: comparator, arbitration, alignment (R149 to R173). -/
structure Keystone where
  valid    : Bool := false
  seq      : Nat := 0
  /-- Engine accepted by the time counter; none when both claims are 0x00. -/
  control  : Option (Fin 2) := none
  arbitrating : Bool := false
  align    : Option AlignWhy := none
  alignTo  : Fin 2 := 0
  alignCyc : Nat := 0
  alignOk  : Nat := 0
  /-- The claim change is due at the next servo-cycle boundary. -/
  alignDone : Bool := false
  handoverEvt : Bool := false
  disagreeAlarm : Bool := false
  unattributed : Bool := false
  disagree : Nat := 0
  agree    : Nat := 0
  cmp      : Rat := 0
  cmpEdge  : Rat := 0
  crcErrors : Nat := 0
  lastSeq  : Nat := 0
  handovers : Nat := 0
  /-- The record sent at the end of the last cycle (R159). -/
  tieOut   : List Byte := []
  /-- Elapsed time of that cycle boundary, and the engine whose references and selection are reported (R158). -/
  tieAt    : Nat := 0
  side     : Fin 2 := 0
  /-- Elapsed time of the 8 ns boundary at which the output stages last latched a changed claim (R155). -/
  latchAt  : Nat := 0
  prefStrap : Nat := 0
  /-- Preferred engine in force: 0 TE-A, 1 TE-B, 2 none; BASE and PREF changes that wait for an alignment (R167). -/
  pref     : Nat := 0
  pendBase : Option (Nat × Nat) := none
  pendPref : Option Nat := none
  /-- A reclaim that waits for eight agreeing cycles (R171). -/
  reclaimWait : Option (Fin 2) := none
  /-- How the last software change or power-down ended: 0 none, 1 the handover took effect, 2 abandoned (R434, R171). -/
  alignResult : Nat := 0
  /-- The claim change under way is a planned one (R453). -/
  planned  : Bool := false
  /-- An engine to be powered down after a planned handover, with the code of the state asked for (R169). -/
  pendingPower : Option (Fin 2 × Nat) := none
  deriving DecidableEq, Repr

/-- An entry of an event FIFO (R177). -/
structure EvEntry where
  value    : BitVec 64
  rising   : Bool
  tb       : Bool
  ivl      : Bool
  afterOvf : Bool
  epoch    : Nat
  seq      : Nat
  deriving DecidableEq, Repr

/-- An unused start edge (R178): its timestamp, its base, the TDCREF epoch, and whether a start edge has been lost since. -/
structure StartEdge where
  t     : Int
  tb    : Bool
  epoch : Nat
  lost  : Bool
  deriving DecidableEq, Repr

/-- One event input (R174 to R182, R197). -/
structure EvIn where
  fifo     : List EvEntry := []
  overflow : Bool := false
  ovfPending : Bool := false
  entrySeq : Nat := 0
  lastCap  : Option Nat := none
  dead     : Nat := 0
  full     : Nat := 0
  noBase   : Nat := 0
  ts       : BitVec 64 := 0
  /-- As a start input: the unused start edges, newest first. -/
  starts   : List StartEdge := []
  deriving DecidableEq, Repr

/-- A trigger schedule entry (R183): START in 2⁻²⁰ ns, WIDTH in time-clock periods, PERIOD in ps. -/
structure TrigEntry where
  handle : Nat
  start  : Nat
  width  : Nat
  period : Nat
  count  : Nat
  /-- Pulses emitted or missed. -/
  emitted : Nat := 0
  deriving DecidableEq, Repr

/-- A pulse as an output stage places it (R183, R186, R527), in ps of full time: the time-clock edge that launches the
rise, what the delay line adds, and the fall; and whether the output is inverted. -/
structure OutPulse where
  edge   : Int
  delay  : Nat
  fall   : Int
  invert : Bool
  deriving DecidableEq, Repr

/-- One trigger output (R183 to R185). -/
structure TrigOut where
  queue  : List TrigEntry := []
  /-- Entries accepted (R449). -/
  accepted : Nat := 0
  missedFlag : Bool := false
  missed : Nat := 0
  pulses : Nat := 0
  /-- The last placed pulse: rise instant in ps and width in periods. -/
  last   : Option (Nat × Nat) := none
  out    : Option OutPulse := none
  deriving DecidableEq, Repr

/-- The TDCREF time base (R179 to R182). -/
structure TdcRef where
  present : Bool := false
  /-- Lost, and not yet back for 1 s; the flag TDCREF_LOST. -/
  out     : Bool := false
  lost    : Bool := false
  aligned : Bool := false
  fallen  : Bool := false
  epoch   : Nat := 0
  /-- The timescale, 2⁻²⁰ ns, exact, at its edge number `mark` since alignment: the accumulator of R180. -/
  base    : Rat := 0
  mark    : Nat := 0
  offset  : Int := 0
  lastOffset : Option Int := none
  deriving DecidableEq, Repr

/-- The Time Tap (R189 to R194). -/
structure TimeTap where
  snap    : Vector Word 4 := Vector.replicate 4 0
  latch   : Vector Word 4 := Vector.replicate 4 0
  valid   : Bool := false
  overrun : Bool := false
  seq     : Nat := 0
  computing : Option (List Word) := none
  ignored : Bool := false
  clkPresent : Bool := false
  /-- TT_CLK has been absent for 1 µs and has not returned; the flag TT_CLK_LOST. -/
  clkAbsent : Bool := false
  clkLost : Bool := false
  /-- TT_CLK cycles since the clock returned, 4 when the mirror is filled. -/
  refill  : Nat := 4
  /-- The mirror of full time, and the value on TT_D. -/
  mirror  : Nat := 0
  ttD     : Word := 0
  deriving DecidableEq, Repr

/-- Time inputs and outputs (chapter 08). -/
structure TimeIO where
  ev      : Vector EvIn 8 := Vector.replicate 8 {}
  trig    : Vector TrigOut 8 := Vector.replicate 8 {}
  tdc     : TdcRef := {}
  /-- PPSOUT0, 1: the last pulse placed. -/
  pps     : Vector (Option OutPulse) 2 := Vector.replicate 2 none
  /-- CLKOUT0 to 3: running, and the first edge of the aligned grid (ps). -/
  clkRun  : Vector Bool 4 := Vector.replicate 4 false
  clkFirst : Vector (Option Nat) 4 := Vector.replicate 4 none
  /-- High and low time of a running output on SOURCE TIME in whole time-clock periods (R521); N = 1 has none. -/
  clkPhases : Vector (Option (Nat × Nat)) 4 := Vector.replicate 4 none
  /-- An aligned output that a full-time step has stopped (R188). -/
  clkRealign : Vector Bool 4 := Vector.replicate 4 false
  tap     : TimeTap := {}
  deriving DecidableEq, Repr

end Sys2Proof.Machine
end

