-- ==== Sys2Proof/Machine/State.lean ====
section
/-! DEFINITION. The state of the T24 as a block, its faults and refusals, and the state at power-on reset. -/

namespace Sys2Proof.Machine

/-- Why a command stops the model. -/
inductive Fault where
  /-- Raised by no command: every row has an effect, and a row whose condition does not hold leaves the state as it is. The
  name stands for a command whose operands WellFormed refuses. Safe: nothing stops by it. -/
  | illFormed
  deriving DecidableEq, Repr

/-- Why the model refuses a command. -/
inductive Refusal where
  /-- Raised by an arm of exec whose command has no meaning yet; no arm is left that raises it. Safe: the model stops. -/
  | notModelled (mnemonic : String)
  deriving DecidableEq, Repr

/-- Time and clocks: the counter, the engines, the references. -/
structure TimeSide where
  eng   : Vector Engine 2 := Vector.replicate 2 {}
  engx  : Vector EngineX 2 := Vector.replicate 2 {}
  ref   : Vector Reference 32 := Vector.replicate 32 {}
  tod   : TodIn := {}
  ks    : Keystone := {}
  /-- Servo-cycle sequence of the TE_ results, and whether a result is present (R148). -/
  seq   : Nat := 0
  valid : Bool := false
  /-- The TE_ and EV_TB words as the last servo cycle left them, by BAR0 offset (R148, R173, R197). -/
  rep   : Tbl Word := []
  deriving DecidableEq, Repr

/-- The whole state. -/
structure State where
  clk   : Clock := {}
  te    : TimeSide := {}
  lane  : Vector Lane 192 := Vector.replicate 192 {}
  group : Vector Group 24 := Vector.replicate 24 {}
  port  : Vector Port 192 := Vector.replicate 192 {}
  tio   : TimeIO := {}
  ck    : Synthesis := {}
  cal   : Calib := {}
  wx    : Weather := {}
  fwd   : Fwd := {}
  q     : Queues := {}
  cald  : Calendar := {}
  fab   : Fabric := {}
  fabS  : FabStatus := {}
  pm    : Power := {}
  rst   : Resets := {}
  host  : HostIf := {}
  mb    : Mailbox := {}
  boot  : Boot := {}
  pc    : Counters := {}
  pins  : Pins := {}
  /-- Parameters that software has written, keyed by identifier, selector and class (R431, R456). -/
  par   : Tbl Int := []
  /-- The MODEL's own field: the number of free values drawn so far. -/
  free  : Nat := 0
  /-- The MODEL's own field: identities given to frames of the T24's own making. -/
  nextFid : Nat := 0
  pending : List Instr := []
  deriving DecidableEq, Repr

/-- The machine as power-on reset leaves it, before POR_RELEASE (R379, R490): every field at its reset value. -/
def State.reset : State := {}

end Sys2Proof.Machine
end

