-- ==== Sys2Proof/Machine/Ops.lean ====
section
/-! DEFINITION. The named operations that the commands' meanings share: tables, byte buffers, vectors, byte order,
rounding, full time, counters, the recovery log, device events, the error log, and the end of every command. -/

namespace Sys2Proof.Machine

/-! ### Sparse tables -/

/-- The value at a key. -/
def Tbl.get {α : Type} (t : Tbl α) (k : Nat) : Option α := (t.find? (fun e => e.1 == k)).map (·.2)

/-- Writes a key, keeping the keys rising. -/
def Tbl.set {α : Type} (t : Tbl α) (k : Nat) (v : α) : Tbl α :=
  match t with
  | [] => [(k, v)]
  | e :: r => if e.1 < k then e :: Tbl.set r k v else if e.1 = k then (k, v) :: r else (k, v) :: e :: r

/-- Removes a key. -/
def Tbl.erase {α : Type} (t : Tbl α) (k : Nat) : Tbl α := t.filter (fun e => e.1 != k)

/-- Holds the key. -/
def Tbl.has {α : Type} (t : Tbl α) (k : Nat) : Bool := (Tbl.get t k).isSome

/-- Changes the value at a key that is present. -/
def Tbl.upd {α : Type} (t : Tbl α) (k : Nat) (f : α → α) : Tbl α :=
  t.map (fun e => if e.1 = k then (e.1, f e.2) else e)

/-! ### Byte buffers (R409): an unlisted byte reads 0 -/

/-- One byte. -/
def Mem.read (m : Mem) (a : Nat) : Byte := (Tbl.get m a).getD 0

/-- Writes one byte; a byte that becomes 0 leaves the list. -/
def Mem.write (m : Mem) (a : Nat) (b : Byte) : Mem := if b = 0 then Tbl.erase m a else Tbl.set m a b

/-- Writes bytes from an address upwards. -/
def Mem.writeAll (m : Mem) (a : Nat) : List Byte → Mem
  | [] => m
  | b :: r => Mem.writeAll (Mem.write m a b) (a + 1) r

/-- Reads `n` bytes from an address upwards. -/
def Mem.readN (m : Mem) (a n : Nat) : List Byte := (List.range n).map (fun i => Mem.read m (a + i))

/-- The canonical form: addresses strictly rising, no byte listed that reads 0. -/
def Mem.wf : Mem → Bool
  | [] => true
  | [e] => e.2 != 0
  | e :: f :: r => decide (e.1 < f.1) && e.2 != 0 && Mem.wf (f :: r)

/-! ### Vectors -/

/-- Changes one place. -/
def vmod {α : Type} {n : Nat} (v : Vector α n) (i : Fin n) (f : α → α) : Vector α n := v.set i (f v[i])

/-- Changes one place named by a number, nothing where the number is out of range. -/
def vmodN {α : Type} {n : Nat} (v : Vector α n) (i : Nat) (f : α → α) : Vector α n :=
  if h : i < n then v.set i (f v[i]) else v

/-- Reads a place named by a number. -/
def vget {α : Type} {n : Nat} (v : Vector α n) (i : Nat) (d : α) : α := if h : i < n then v[i] else d

/-- Changes every place, knowing its index. -/
def vmapI {α : Type} {n : Nat} (v : Vector α n) (f : Fin n → α → α) : Vector α n := Vector.ofFn (fun i => f i v[i])

/-! ### Byte order (R9) -/

/-- The low `n` bytes of a number, least significant first. -/
def le : Nat → Nat → List Byte
  | 0, _ => []
  | n + 1, v => BitVec.ofNat 8 v :: le n (v / 256)

/-- The number that bytes spell, least significant first. -/
def leNat : List Byte → Nat
  | [] => 0
  | b :: r => b.toNat + 256 * leNat r

/-- The same, most significant first. -/
def be (n v : Nat) : List Byte := (le n v).reverse
def beNat (l : List Byte) : Nat := leNat l.reverse

/-- `n` bytes of a list from an offset, zeros where the list is short. -/
def slice (l : List Byte) (o n : Nat) : List Byte := (List.range n).map (fun i => (l[o + i]?).getD 0)

/-- Little-endian and big-endian fields of a payload. -/
def fieldLe (l : List Byte) (o n : Nat) : Nat := leNat (slice l o n)
def fieldBe (l : List Byte) (o n : Nat) : Nat := beNat (slice l o n)

/-- Two's complement: a number's low `w` bits as a signed value, and a signed value's low `w` bits. -/
def toSigned (w n : Nat) : Int := if n % 2 ^ w < 2 ^ (w - 1) then (n % 2 ^ w : Nat) else (n % 2 ^ w : Nat) - (2 ^ w : Nat)
def ofSigned (w : Nat) (v : Int) : Nat := (v % (2 ^ w : Nat)).toNat

/-- A field of a word: bits from `lo`, `w` wide. -/
def bits (v lo w : Nat) : Nat := v / 2 ^ lo % 2 ^ w

/-- Bit as a number. -/
def b2n (b : Bool) : Nat := if b then 1 else 0

/-- A word with a list of fields placed: value and lowest bit. -/
def packW (fs : List (Nat × Nat)) : Word := BitVec.ofNat 32 (fs.foldl (fun a f => a + f.1 * 2 ^ f.2) 0)

/-- CRC-32 of IEEE 802.3, as a number (R159). -/
def crcBit (c : BitVec 32) : Nat → BitVec 32
  | 0 => c
  | n + 1 => crcBit (if c.getLsbD 0 then (c >>> 1) ^^^ 0xEDB88320#32 else c >>> 1) n
def crcGo (c : BitVec 32) : List Byte → BitVec 32
  | [] => c
  | b :: r => crcGo (crcBit (c ^^^ b.setWidth 32) 8) r
def crc32 (l : List Byte) : BitVec 32 := ~~~(crcGo 0xFFFFFFFF#32 l)

/-! ### Image headers (R474) -/

/-- The header's bytes in the order magic word, version, body length, entry address, digest, rest. -/
def headerFields (b : List Byte) : List Byte := (List.finRange 128).map (fun i => b.getD (Config.headerOrder i).val 0)

/-- Version word, body length and digest of a well-formed image header. -/
def imageHeader (b : List Byte) : Option (Nat × Nat × List Byte) :=
  let f := headerFields b
  if b.length = 128 ∧ fieldLe f 0 4 = Config.headerMagic.toNat then some (fieldLe f 4 4, fieldLe f 8 4, slice f 16 48) else none

/-! ### Rounding and saturation (R6, R31, R32) -/

/-- To the nearest integer, halves away from zero. -/
def roundAway (q : Rat) : Int := if 0 ≤ q then (q + 1 / 2).floor else -((-q + 1 / 2).floor)

/-- The square root of a rational rounded to the nearest integer. -/
def sqrtRound (q : Rat) : Nat :=
  let n := q.floor.toNat
  let r := n.sqrt
  if ((r : Rat) + 1 / 2) * ((r : Rat) + 1 / 2) ≤ q then r + 1 else r

/-- Saturates to an unsigned field of `w` bits, and to a signed one. -/
def satU (w : Nat) (n : Nat) : Nat := min n (2 ^ w - 1)
def satS (w : Nat) (v : Int) : Int := max (-(2 ^ (w - 1) : Nat)) (min v ((2 ^ (w - 1) : Nat) - 1))

def sumQ (l : List Rat) : Rat := l.foldl (· + ·) 0
def meanQ (l : List Rat) : Rat := if l.isEmpty then 0 else sumQ l / l.length
def absQ (q : Rat) : Rat := if q < 0 then -q else q

/-! ### Full time (R27 to R37) -/

/-- Units of 2⁻²⁰ ns in 1 ns, 1 µs, 1 ms, 1 s; 1 ps is 1,048.576 units. -/
def uNs : Nat := 1048576
def uUs : Nat := 1048576000
def uMs : Nat := 1048576000000
def uSec : Nat := 1048576000000000
def ps (q : Rat) : Rat := q * 1048576 / 1000

/-- The largest full time plus one unit: 2⁴⁸ seconds. -/
def timeSpan : Nat := 2 ^ 48 * uSec

def secOf (t : Nat) : Nat := t / uSec
def nsOf (t : Nat) : Nat := t % uSec / uNs
def fracOf (t : Nat) : Nat := t % uNs

/-- The four words of a full-time value (R27). -/
def fullWords (t : Nat) : List Word :=
  [BitVec.ofNat 32 (fracOf t), BitVec.ofNat 32 (nsOf t), BitVec.ofNat 32 (secOf t), BitVec.ofNat 32 (secOf t / 2 ^ 32)]

/-- The sixteen bytes of a full-time value, and the value that sixteen bytes hold: none for NANOSECONDS above
999,999,999 or a reserved bit set (R28). -/
def fullBytes (t : Nat) : List Byte := le 4 (fracOf t) ++ le 4 (nsOf t) ++ le 8 (secOf t)
def fullOf (l : List Byte) : Option Nat :=
  let f := fieldLe l 0 4; let n := fieldLe l 4 4; let s := fieldLe l 8 8
  if f < 2 ^ 20 ∧ n < 1000000000 ∧ s < 2 ^ 48 then some (s * uSec + n * uNs + f) else none

/-- The compact timestamp of a full time (R29). -/
def compact (t : Nat) : BitVec 64 :=
  BitVec.ofNat 64 (secOf t % 16384 * 2 ^ 50 + nsOf t * 2 ^ 20 + fracOf t)

/-- Advances full time and the time since power-on together. -/
def advance (u : Nat) (s : State) : State :=
  { s with clk := { s.clk with now := (s.clk.now + u) % timeSpan, elapsed := s.clk.elapsed + u } }

/-- The exact period of the Kettle's clock in 2⁻²⁰ ns: OSC_IN at the frequency in force, or the internal 20 MHz. -/
def kettlePeriod (s : State) : Rat :=
  if s.ck.kettleInt || s.ck.oscHz == 0 then 50 * uNs else (uSec : Rat) / s.ck.oscHz

/-- What the Kettle has counted at its edge `n` since the take-over: the nearest unit of the exact count (R41). -/
def kettleCount (s : State) (n : Nat) : Nat := (roundAway (n * kettlePeriod s)).toNat

/-- One Kettle edge (R41). -/
def kettleEdge (s : State) : State :=
  let t := advance (kettleCount s (s.clk.kettleN + 1) - kettleCount s s.clk.kettleN) s
  { t with clk := { t.clk with kettleN := s.clk.kettleN + 1 } }

/-- The ideal time of the edge at a counter value: the 8 ns boundary before it plus 1.6 ns for each edge since (R37, R527). -/
def idealEdge (e : Int) : Rat :=
  let d : Rat := match e % 8388608 with
    | 1677722 => 2 / 5
    | 3355443 => -1 / 5
    | 5033165 => 1 / 5
    | 6710886 => -2 / 5
    | _ => 0
  e - d

/-- The output stages latch both claims at an 8 ns boundary (R155). -/
def latchClaims (s : State) : State :=
  if s.te.engx.all (fun x => x.latched == x.claim) then s
  else { s with te := { s.te with
    engx := s.te.engx.map (fun (x : EngineX) => { x with latched := x.claim }), ks := { s.te.ks with latchAt := s.clk.elapsed } } }

/-- To the first edge whose counter value is at or after an instant `d` units ahead (R527). The instants that the model
moves to this way are 8 ns boundaries, at which the time clock's pattern starts. -/
def ahead (d : Nat) (s : State) : State :=
  if s.clk.kettle then
    let goal : Rat := kettleCount s s.clk.kettleN + d
    let n := max s.clk.kettleN ((goal - 1 / 2) / kettlePeriod s).ceil.toNat
    let t := advance (kettleCount s n - kettleCount s s.clk.kettleN) s
    { t with clk := { t.clk with kettleN := n } }
  else
    let t := latchClaims (advance d s)
    { t with clk := { t.clk with edge := 0 } }

/-- The present edge is the first one at or after an instant that lies `past` units back (R527). -/
def firstEdgeAt (past : Nat) (s : State) : Bool :=
  past == 0 || s.clk.kettle && decide (0 < s.clk.kettleN)
    && decide (past < kettleCount s s.clk.kettleN - kettleCount s (s.clk.kettleN - 1))

/-- To the whole second that an action is bound to: stays where the counter stands on the edge of one (R39, R527). -/
def atSecond (s : State) : State :=
  if firstEdgeAt (s.clk.now % uSec) s then s else ahead (uSec - s.clk.now % uSec) s

/-! ### Performance counters (R489 to R493) -/

/-- One pass over the counters, lowest first: every counter of the event adds, and each wrap carries into the next
counter where that one counts carries. -/
def pcPass (ev n : Nat) : Nat → List PerfCtr → List PerfCtr
  | _, [] => []
  | c, x :: xs =>
    let t := x.count + if x.event = 0xFFFE then c else if x.event = ev then n else 0
    { x with count := t % 2 ^ 48, ovf := x.ovf || decide (2 ^ 48 ≤ t) } :: pcPass ev n (t / 2 ^ 48) xs

theorem pcPass_length (ev n : Nat) : ∀ (c : Nat) (l : List PerfCtr), (pcPass ev n c l).length = l.length
  | _, [] => rfl
  | c, x :: xs => by simp [pcPass, pcPass_length ev n _ xs]

/-- Counts `n` occurrences of an event. -/
def bump (ev n : Nat) (s : State) : State :=
  { s with pc := { s.pc with pc := ⟨(pcPass ev n 0 s.pc.pc.toList).toArray, by simp [pcPass_length]⟩ } }

/-- Event `k` of a port group (R493). -/
def groupEvent (g k : Nat) : Nat := 424 + 25 * g + k

/-! ### Recovery log (R495) -/

/-- Writes a record of a recovery action. -/
def recover (kind detail unit : Nat) (s : State) : State :=
  let k := satU 32 (vget s.pc.kinds kind 0 + 1)
  let r : RecRec := { time := compact s.clk.now, whenAt := s.clk.elapsed, kind, detail, unit, count := k }
  { s with pc := { s.pc with
      ring := (r :: s.pc.ring).take 64
      lost := if s.pc.ring.length < 64 then s.pc.lost else s.pc.lost + 1
      kinds := vmodN s.pc.kinds kind (fun _ => k) } }

/-! ### Device events (R419 to R422) -/

/-- The 32-byte record of an event (R421). -/
def eventBytes (e : DevEvent) (replayed : Bool) : List Byte :=
  le 4 e.dseq ++ le 2 e.code ++ le 1 e.source ++ le 1 (b2n replayed * 128 + b2n e.lost * 64)
    ++ le 8 e.time.toNat ++ slice e.data 0 16

/-- Obilwin runs and issues events (R423, R479). -/
def obilwinUp (s : State) : Bool :=
  s.boot.stage == 2 && s.mb.fwReady && s.rst.mgmt.isNone && (vget s.pm.dom 3 {}).st == .on

/-- Places an event in the host's ring where it is enabled and has room (R421). -/
def ringWrite (e : DevEvent) (s : State) : State :=
  let m := s.mb
  if !m.evqEnable then s
  else if (m.evqHead + 1) % 2 ^ m.evqSize = m.evqTail % 2 ^ m.evqSize then
    { s with mb := { m with overflow := true, lostBefore := true } }
  else
    { s with
      mb := { m with evqHead := (m.evqHead + 1) % 2 ^ m.evqSize, evqEvt := true, lostBefore := false }
      host := { s.host with writes :=
        { addr := m.evqHi * 2 ^ 32 + m.evqLo + 32 * m.evqHead, bytes := eventBytes e false } :: s.host.writes } }

/-- Issues an event: the next D-SEQ, the log, the ring, event 37. -/
def issueEvent (code source : Nat) (data : List Byte) (s : State) : State :=
  if obilwinUp s then
    let d := if s.mb.dseq + 1 = 2 ^ 32 then 1 else s.mb.dseq + 1
    let e : DevEvent := { dseq := d, code, source, lost := s.mb.lostBefore, time := compact s.clk.now, data }
    bump 37 1 (ringWrite e { s with mb := { s.mb with dseq := d, log := (e :: s.mb.log).take 1024 } })
  else s

/-! ### The error log (R386) -/

/-- Logs an access error: KIND, domain (15 when none applies), direction, initiator, address. -/
def errLog (kind dom : Nat) (write : Bool) (who : Initiator) (addr : Nat) (s : State) : State :=
  { s with
    rst := { s.rst with
      log0 := packW [(kind, 28), (dom, 24), (b2n write, 23), (b2n (who == .mgmt), 22), ((s.rst.log0.toNat + 1) % 4096, 0)]
      log1 := BitVec.ofNat 32 addr }
    host := { s.host with errEvt := true } }

/-- The number of an initiator: 0 host, 1 management core. -/
def whoIx (w : Initiator) : Fin 2 := if w == .host then 0 else 1

/-- Completion data of a read. -/
def putData (w : Initiator) (v : Word) (s : State) : State :=
  { s with host := { s.host with rdata := s.host.rdata.set (whoIx w) v } }

/-- A fresh free value's number. -/
def drawFree (s : State) : Nat × State := (s.free, { s with free := s.free + 1 })

end Sys2Proof.Machine
end

