-- ==== Sys2Proof/Machine/Params.lean ====
section
/-! DEFINITION. The parameters of the parameter commands: their scopes, ranges and defaults, fixed or following
(R431 to R433, R456, with the ranges of R106, R147, R172, R196, R237, R258, R308, R356, R384). -/

namespace Sys2Proof.Machine

/-- What an identifier applies to (R433, R456). -/
inductive PScope where
  | refAll | refExt | refPort | refIn
  | engine | engDev | dev
  | ioAll | ioEv | ioDelay | ioTrig | ioOut | ioPps | ioClk | ioTdc
  | port | lane | group | device | fabPort | stdPort | fecPort
  deriving DecidableEq, Repr

/-- The command family a parameter belongs to. -/
inductive PFam where
  | ref | eng | dev | io | port | fwd | fab
  deriving DecidableEq, Repr

/-- A parameter: identifier, scope, listed per class, lowest and highest value. -/
structure PInfo where
  id  : Nat
  sc  : PScope
  cls : Bool := false
  lo  : Int
  hi  : Int
  deriving DecidableEq, Repr

/-- The parameters of each family in ascending identifier order. -/
def pList : PFam → List PInfo
  | .ref => [
    { id := 0x01, sc := .refAll, lo := 0, hi := 1 }, { id := 0x02, sc := .refAll, lo := 0, hi := 15 },
    { id := 0x03, sc := .refExt, lo := 0, hi := 1048576000 }, { id := 0x04, sc := .refExt, lo := 0, hi := 1048576000 },
    { id := 0x05, sc := .refAll, lo := 0, hi := 1 }, { id := 0x06, sc := .refAll, lo := 104858, hi := 104857600 },
    { id := 0x07, sc := .refExt, lo := 20972, hi := 1048576000 }, { id := 0x08, sc := .refAll, lo := 1, hi := 600 },
    { id := 0x09, sc := .refAll, lo := 2814750, hi := 28147497671 },
    { id := 0x0A, sc := .refAll, lo := 10486, hi := 1048576000 }, { id := 0x0B, sc := .refPort, lo := 1, hi := 3600 },
    { id := 0x0C, sc := .refIn, lo := 1000, hi := 800000000 }, { id := 0x0D, sc := .refIn, lo := 0, hi := 5 }]
  | .eng => [
    { id := 0x20, sc := .engine, lo := 0, hi := 3600 }, { id := 0x21, sc := .engine, lo := 10486, hi := 1048576000 },
    { id := 0x22, sc := .engine, lo := 105, hi := 104858 }, { id := 0x23, sc := .engine, lo := 0, hi := 1 },
    { id := 0x24, sc := .engine, lo := 1000, hi := 10000000 }, { id := 0x25, sc := .engine, lo := 500, hi := 5000 },
    { id := 0x26, sc := .engine, lo := 10486, hi := 1048576000 },
    { id := 0x27, sc := .engine, lo := 281474977, hi := 56294995342 },
    { id := 0x28, sc := .engine, lo := 100, hi := 86400 },
    { id := 0x29, sc := .engine, lo := 1048576, hi := 104857600000 },
    { id := 0x2A, sc := .engine, lo := 1048576, hi := 104857600000 },
    { id := 0x2B, sc := .engine, lo := 60, hi := 86400 }, { id := 0x2C, sc := .engine, lo := 1048576, hi := 104857600 },
    { id := 0x2D, sc := .engine, lo := 1048576000, hi := 1048576000000000 },
    { id := 0x2E, sc := .engine, lo := 1, hi := 60 }, { id := 0x2F, sc := .engine, lo := 281, hi := 281474977 },
    { id := 0x30, sc := .engine, lo := 0, hi := 2 }, { id := 0x31, sc := .engine, lo := 0, hi := 0x1FFFF },
    { id := 0x32, sc := .engine, lo := -2147483648, hi := 2147483647 },
    { id := 0x33, sc := .engine, lo := -32768, hi := 32767 },
    { id := 0x34, sc := .engine, lo := 281, hi := 281474977 }, { id := 0x35, sc := .engine, lo := 100, hi := 600000 },
    { id := 0x36, sc := .engine, lo := 0, hi := 15 }, { id := 0x40, sc := .engDev, lo := 0, hi := 3 },
    { id := 0x41, sc := .engDev, lo := 5243, hi := 1048576 }, { id := 0x42, sc := .engDev, lo := 2, hi := 64 },
    { id := 0x43, sc := .engDev, lo := 1, hi := 3600 }, { id := 0x44, sc := .engDev, lo := 0, hi := 1 },
    { id := 0x45, sc := .engDev, lo := 9600, hi := 115200 }]
  | .dev => [
    { id := 0x50, sc := .dev, lo := 500, hi := 32000 }, { id := 0x51, sc := .dev, lo := 1000, hi := 1000000 },
    { id := 0x52, sc := .dev, lo := 100, hi := 60000 }, { id := 0x53, sc := .dev, lo := 1000, hi := 64000 },
    { id := 0x58, sc := .dev, lo := 60, hi := 86400 }, { id := 0x59, sc := .dev, lo := 16, hi := 320 },
    { id := 0x5A, sc := .dev, lo := 105, hi := 5243 }, { id := 0x5B, sc := .dev, lo := 1, hi := 168 },
    { id := 0x5C, sc := .dev, lo := 50, hi := 500 }, { id := 0x5D, sc := .dev, lo := 10, hi := 200 },
    { id := 0x5E, sc := .dev, lo := 100, hi := 600 }, { id := 0x5F, sc := .dev, lo := 20, hi := 150 }]
  | .io => [
    { id := 0x60, sc := .ioAll, lo := 0, hi := 1 }, { id := 0x61, sc := .ioEv, lo := 0, hi := 2 },
    { id := 0x62, sc := .ioEv, lo := 1, hi := 3 }, { id := 0x63, sc := .ioDelay, lo := -104857600, hi := 104857600 },
    { id := 0x64, sc := .ioEv, lo := 0, hi := 1 }, { id := 0x65, sc := .ioEv, lo := 0, hi := 255 },
    { id := 0x66, sc := .ioEv, lo := 0, hi := 1 }, { id := 0x67, sc := .ioTrig, lo := 0, hi := 1 },
    { id := 0x68, sc := .ioOut, lo := -1048576000000000, hi := 1048576000000000 },
    { id := 0x69, sc := .ioPps, lo := 1, hi := 268435456 }, { id := 0x6A, sc := .ioPps, lo := 0, hi := 1 },
    { id := 0x6B, sc := .ioClk, lo := 0, hi := 2 }, { id := 0x6C, sc := .ioClk, lo := 1, hi := 4294967295 },
    { id := 0x6D, sc := .ioClk, lo := 0, hi := 1 }, { id := 0x6E, sc := .ioTdc, lo := 10000000, hi := 1000000000 },
    { id := 0x6F, sc := .ioTdc, lo := 0, hi := 1 }]
  | .port => [
    { id := 0x100, sc := .group, lo := 0, hi := 5 }, { id := 0x101, sc := .fecPort, lo := 0, hi := 1 },
    { id := 0x102, sc := .port, lo := 0, hi := 1 }, { id := 0x103, sc := .port, lo := 0, hi := 2 },
    { id := 0x104, sc := .port, lo := 0, hi := 1 }, { id := 0x105, sc := .port, lo := 0, hi := 281474976710655 },
    { id := 0x106, sc := .port, lo := 1518, hi := 16383 }, { id := 0x107, sc := .port, lo := 0, hi := 1 },
    { id := 0x108, sc := .port, lo := 0, hi := 3 }, { id := 0x109, sc := .port, lo := 0, hi := 1 },
    { id := 0x10A, sc := .port, lo := 0, hi := 1 }, { id := 0x10B, sc := .port, lo := 1, hi := 128 },
    { id := 0x10C, sc := .port, lo := 0, hi := 255 }, { id := 0x10D, sc := .port, lo := 0, hi := 3 },
    { id := 0x10E, sc := .port, lo := 0, hi := 2 }, { id := 0x10F, sc := .port, lo := 0, hi := 16777215 },
    { id := 0x110, sc := .port, lo := 0, hi := 10000 }, { id := 0x111, sc := .port, lo := 10, hi := 10000 },
    { id := 0x112, sc := .port, cls := true, lo := 64, hi := 24576 },
    { id := 0x113, sc := .port, cls := true, lo := 64, hi := 24576 }, { id := 0x114, sc := .port, lo := 0, hi := 300 },
    { id := 0x118, sc := .port, lo := 0, hi := 1 }, { id := 0x119, sc := .stdPort, lo := 0, hi := 4 },
    { id := 0x11A, sc := .fabPort, lo := -7, hi := 0 }, { id := 0x11B, sc := .group, lo := 0, hi := 255 },
    { id := 0x11C, sc := .group, lo := 0, hi := 255 }, { id := 0x11D, sc := .group, lo := 5243, hi := 1048576 },
    { id := 0x11E, sc := .fabPort, lo := 0, hi := 104858 }, { id := 0x120, sc := .lane, lo := 0, hi := 0x3F3F },
    { id := 0x121, sc := .lane, lo := 0, hi := 1 }, { id := 0x128, sc := .fabPort, lo := 0, hi := 1 },
    { id := 0x129, sc := .fabPort, lo := 0, hi := 2 }, { id := 0x12A, sc := .lane, lo := 0, hi := 1625000 },
    { id := 0x12B, sc := .lane, lo := 0, hi := 1625000 }, { id := 0x12C, sc := .lane, lo := 0, hi := 0xFEFE },
    { id := 0x12D, sc := .lane, lo := -104857600, hi := 104857600 },
    { id := 0x12E, sc := .lane, lo := -104857600, hi := 104857600 },
    { id := 0x12F, sc := .fabPort, lo := 10, hi := 300 }, { id := 0x130, sc := .fabPort, lo := 2, hi := 1000 },
    { id := 0x131, sc := .fabPort, lo := 105, hi := 104858 }, { id := 0x132, sc := .fabPort, lo := 105, hi := 104858 },
    { id := 0x133, sc := .fabPort, lo := 105, hi := 104858 }, { id := 0x134, sc := .fabPort, lo := 105, hi := 104858 },
    { id := 0x135, sc := .fabPort, lo := 105, hi := 1048576 },
    { id := 0x136, sc := .lane, lo := -2147483648, hi := 2147483647 },
    { id := 0x137, sc := .port, lo := -1048576000, hi := 1048576000 },
    { id := 0x138, sc := .port, lo := -2147483648, hi := 2147483648 },
    { id := 0x139, sc := .port, lo := 104858, hi := 1048576000 }, { id := 0x140, sc := .lane, lo := 100, hi := 100000 },
    { id := 0x141, sc := .lane, lo := 100, hi := 5000 }, { id := 0x142, sc := .device, lo := 500, hi := 32000 },
    { id := 0x143, sc := .device, lo := 500, hi := 32000 }, { id := 0x144, sc := .port, lo := 100, hi := 60000 },
    { id := 0x145, sc := .group, lo := 1, hi := 600 }]
  | .fwd => [
    { id := 0x180, sc := .stdPort, lo := 1, hi := 4095 }, { id := 0x181, sc := .stdPort, lo := 0, hi := 2 },
    { id := 0x182, sc := .stdPort, lo := 0, hi := 7 }, { id := 0x183, sc := .stdPort, lo := 0, hi := 3 },
    { id := 0x184, sc := .port, lo := 0, hi := 4095 }, { id := 0x185, sc := .stdPort, lo := 0, hi := 1 },
    { id := 0x186, sc := .stdPort, lo := 0, hi := 1 }, { id := 0x187, sc := .group, lo := 0, hi := 1024 },
    { id := 0x188, sc := .group, cls := true, lo := 128, hi := 24576 },
    { id := 0x189, sc := .device, cls := true, lo := 0, hi := 0x1F1F1F },
    { id := 0x18A, sc := .port, lo := 256, hi := 65536 }, { id := 0x18B, sc := .port, cls := true, lo := 128, hi := 65536 },
    { id := 0x18C, sc := .port, lo := 0, hi := 255 }, { id := 0x18D, sc := .port, lo := 1, hi := 65535 },
    { id := 0x18E, sc := .device, lo := 100, hi := 100000 }, { id := 0x18F, sc := .device, lo := 10, hi := 1000000 },
    { id := 0x190, sc := .device, lo := 1, hi := 255 }, { id := 0x191, sc := .device, lo := 0, hi := 7 },
    { id := 0x192, sc := .device, lo := 0, hi := 7 }]
  | .fab => [
    { id := 0x1C0, sc := .device, lo := 0x0600, hi := 0xFFFF },
    { id := 0x1C1, sc := .device, lo := 0, hi := 281474976710655 }, { id := 0x1C2, sc := .device, lo := 0, hi := 0xFFFFFF },
    { id := 0x1C3, sc := .device, lo := -1, hi := 63 }, { id := 0x1C4, sc := .device, lo := -1, hi := 63 },
    { id := 0x1C5, sc := .device, lo := -1, hi := 63 }, { id := 0x1C6, sc := .device, lo := 3600, hi := 2592000 },
    { id := 0x1C7, sc := .fabPort, lo := 2000, hi := 64000 }, { id := 0x1C8, sc := .fabPort, lo := 0, hi := 65535 },
    { id := 0x1C9, sc := .device, lo := 1, hi := 63 }, { id := 0x1CA, sc := .device, lo := 0, hi := 2 },
    { id := 0x1CB, sc := .device, lo := 0, hi := 7 }, { id := 0x1CC, sc := .device, lo := 10, hi := 10000 }]

/-- Device-scope identifiers ignore the selector (R433): one place for each. -/
def devScope (sc : PScope) : Bool := sc == .engDev || sc == .dev || sc == .device

/-- The place of a parameter in the store. -/
def pKey (id sel cls : Nat) : Nat := id * 2 ^ 24 + sel * 16 + cls

/-- The value software has written, if it stands. -/
def parSet? (s : State) (id sel cls : Nat) : Option Int := Tbl.get s.par (pKey id sel cls)

/-- Written or a plain default. -/
def parD (s : State) (id sel cls : Nat) (d : Int) : Int := (parSet? s id sel cls).getD d

/-- Port KIND (1 FABRIC), MEDIUM and the group's mode (R238, R258). -/
def kindFab (s : State) (p : Nat) : Bool := parD s 0x102 p 0 0 == 1
def mediumOf (s : State) (p : Nat) : Int := parD s 0x103 p 0 2
def modeOf (s : State) (g : Nat) : Nat := if h : g < 24 then s.group[g].mode else 0

/-- Port speed in Gb/s by the group's mode (R238). -/
def speedOf (s : State) (p : Nat) : Nat :=
  match modeOf s (p / 8) with
  | 1 => 1 | 2 => 10 | 3 => 25 | 4 => 100 | 5 => 200 | _ => 0

/-- The default of R343 for LINK_COST. -/
def costOfSpeed : Nat → Nat
  | 200 => 5 | 100 => 10 | 25 => 40 | 10 => 100 | 1 => 1000 | _ => 0

/-- The default of a parameter, resolved now where it follows another setting (R432). -/
def parDefault (s : State) (id sel : Nat) : Int :=
  match id with
  | 0x01 => 0 | 0x02 => 8 | 0x03 => 4194 | 0x04 => 0 | 0x05 => 0 | 0x06 => 1048576 | 0x07 => 209715 | 0x08 => 10
  | 0x09 => 562949953 | 0x0A => if 8 ≤ sel then 104858 else 2097152 | 0x0B => 60 | 0x0C => 10000000 | 0x0D => 0
  | 0x20 => 300 | 0x21 => 1048576 | 0x22 => 1049 | 0x23 => 1 | 0x24 => 100000 | 0x25 => 1000 | 0x26 => 1048576
  | 0x27 => 14073748836 | 0x28 => 3600 | 0x29 => 157286400 | 0x2A => 524288000 | 0x2B => 3600 | 0x2C => 10485760
  | 0x2D => 10485760000 | 0x2E => 7 | 0x2F => 140737 | 0x30 => 0 | 0x31 => 0 | 0x32 => 0 | 0x33 => 0 | 0x34 => 281475
  | 0x35 => 10000 | 0x36 => 8 | 0x40 => 0 | 0x41 => 20972 | 0x42 => 4 | 0x43 => 10 | 0x44 => 0 | 0x45 => 9600
  | 0x50 => 2000 | 0x51 => 10000 | 0x52 => 2000 | 0x53 => 4000 | 0x58 => 600 | 0x59 => 80 | 0x5A => 262 | 0x5B => 24
  | 0x5C => 200 | 0x5D => 30 | 0x5E => 350 | 0x5F => 50
  | 0x60 => if sel = 22 then 1 else 0 | 0x61 => 0 | 0x62 => 1 | 0x63 => 0 | 0x64 => 0 | 0x65 => 255 | 0x66 => 0
  | 0x67 => 0 | 0x68 => 0 | 0x69 => 62500000 | 0x6A => 0 | 0x6B => 0 | 0x6C => 625000000 | 0x6D => 0
  | 0x6E => 10000000 | 0x6F => 0
  | 0x100 => 0 | 0x101 => 1 | 0x102 => 0 | 0x103 => 2
  | 0x104 => if mediumOf s sel = 0 ∨ mediumOf s sel = 1 ∨ modeOf s (sel / 8) = 1 then 1 else 0
  | 0x105 => ((Config.macBase.toNat + sel) % 2 ^ 48 : Nat)
  | 0x106 => 1522 | 0x107 => 0 | 0x108 => 0 | 0x109 => 1 | 0x10A => 1 | 0x10B => 10 | 0x10C => 128 | 0x10D => 0
  | 0x10E => 0 | 0x10F => 16434824 | 0x110 => 100 | 0x111 => 200 | 0x112 => 2048 | 0x113 => 1536 | 0x114 => 50
  | 0x118 => if kindFab s sel then 0 else 1
  | 0x119 => 0 | 0x11A => -4 | 0x11B => 255 | 0x11C => 255 | 0x11D => 20972 | 0x11E => 524 | 0x120 => 0 | 0x121 => 1
  | 0x128 => if kindFab s sel then 1 else 0
  | 0x129 => 0 | 0x12A => 0 | 0x12B => 0 | 0x12C => 0 | 0x12D => 0 | 0x12E => 0 | 0x12F => 40 | 0x130 => 50
  | 0x131 => 524 | 0x132 => 1049 | 0x133 => 2097 | 0x134 => 210 | 0x135 => 10486 | 0x136 => 0 | 0x137 => 0 | 0x138 => 0
  | 0x139 => 1048576 | 0x140 => 1000 | 0x141 => 500 | 0x142 => 2000 | 0x143 => 2000 | 0x144 => 3000 | 0x145 => 10
  | 0x180 => 1 | 0x181 => 0 | 0x182 => 0 | 0x183 => 0 | 0x184 => 0 | 0x185 => 0 | 0x186 => 0 | 0x187 => 512
  | 0x188 => 4096 | 0x189 => 0x020100 | 0x18A => (256 * speedOf s sel : Nat) | 0x18B => 2048 | 0x18C => 128 | 0x18D => 16
  | 0x18E => 1000 | 0x18F => 300 | 0x190 => 63 | 0x191 => 0 | 0x192 => 0
  | 0x1C0 => 0x88B5 | 0x1C1 => 0x03162B9C0001 | 0x1C2 => 0x162B9C | 0x1C3 => -1 | 0x1C4 => -1 | 0x1C5 => -1
  | 0x1C6 => 86400 | 0x1C7 => 4000 | 0x1C8 => (costOfSpeed (speedOf s sel) : Nat) | 0x1C9 => 32 | 0x1CA => 1
  | 0x1CB => 7 | 0x1CC => 100
  | _ => 0

/-- The value in force. -/
def parC (s : State) (id sel cls : Nat) : Int := parD s id sel cls (parDefault s id sel)
def par (s : State) (id sel : Nat) : Int := parC s id sel 0
def parN (s : State) (id sel : Nat) : Nat := (par s id sel).toNat
def parB (s : State) (id sel : Nat) : Bool := par s id sel != 0

/-- The port index is one that the group's mode uses (R15, R16, R238). -/
def portUsed (s : State) (p : Nat) : Bool :=
  match modeOf s (p / 8) with
  | 0 => false | 4 => p % 4 == 0 | 5 => p % 8 == 0 | _ => decide (p < 192)

/-- Lanes of a port: its lowest lane and how many (R15, R238). -/
def laneCount (s : State) (p : Nat) : Nat :=
  match modeOf s (p / 8) with
  | 4 => 4 | 5 => 8 | _ => 1

/-- FEC in use on a 25GbE port: as negotiated, else as configured (R238, R241). -/
def fecOn (s : State) (p : Nat) : Bool := (vget s.port p {}).anFec.getD (parB s 0x101 p)

/-- The fixed-latency set in use on a lane (R84, R238). -/
def setOf (s : State) (l : Nat) : Nat :=
  match modeOf s (l / 8) with
  | 1 => 0 | 2 => 1 | 3 => if fecOn s l then 3 else 2 | 4 => 4 | 5 => 5 | _ => 0

/-- The lane rate code of LN_STATUS (R64) for a mode (R238). -/
def rateOfMode : Nat → Nat
  | 1 => 0 | 2 => 1 | 3 => 2 | 4 => 2 | 5 => 3 | _ => 0

/-- The port that a lane belongs to. -/
def portOfLane (s : State) (l : Nat) : Nat :=
  match modeOf s (l / 8) with
  | 4 => l / 4 * 4 | 5 => l / 8 * 8 | _ => l

/-- Whether an identifier applies to a selector in its family (R433, R456): scope and, for a port, its kind. -/
def pApplies (s : State) (i : PInfo) (sel : Nat) : Bool :=
  match i.sc with
  | .refAll => decide (sel ≤ 5) || (decide (8 ≤ sel) && decide (sel ≤ 31))
  | .refExt => decide (sel ≤ 5)
  | .refPort => decide (8 ≤ sel) && decide (sel ≤ 31)
  | .refIn => decide (sel ≤ 3)
  | .engine => decide (1 ≤ sel) && decide (sel ≤ 3)
  | .engDev => decide (1 ≤ sel) && decide (sel ≤ 3)
  | .dev => true
  | .ioAll => decide (sel ≤ 23)
  | .ioEv => decide (sel ≤ 7)
  | .ioDelay => decide (sel ≤ 17) || sel == 22
  | .ioTrig => decide (8 ≤ sel) && decide (sel ≤ 15)
  | .ioOut => decide (16 ≤ sel) && decide (sel ≤ 21)
  | .ioPps => sel == 16 || sel == 17
  | .ioClk => decide (18 ≤ sel) && decide (sel ≤ 21)
  | .ioTdc => sel == 23
  | .port => decide (sel < 192)
  | .lane => decide (0x100 ≤ sel) && decide (sel < 0x1C0)
  | .group => decide (0x200 ≤ sel) && decide (sel < 0x218)
  | .device => sel == 0x300
  | .fabPort => decide (sel < 192) && kindFab s sel
  | .stdPort => decide (sel < 192) && !kindFab s sel
  | .fecPort => decide (sel < 192) && modeOf s (sel / 8) == 3

/-- Lane and group parameters in force. -/
def parL (s : State) (id l : Nat) : Int := parC s id (0x100 + l) 0
def parG (s : State) (id g : Nat) : Int := parC s id (0x200 + g) 0
def parGC (s : State) (id g c : Nat) : Int := parC s id (0x200 + g) c
/-- Device parameters in force. -/
def parV (s : State) (id : Nat) : Int := par s id 0
/-- Engine parameters of engine 0 or 1. -/
def parE (s : State) (id : Nat) (e : Nat) : Int := par s id (e + 1)

/-- The place a selector stands for: device-scope identifiers have one. -/
def pPlace (i : PInfo) (sel : Nat) : Nat := if devScope i.sc then 0 else sel

end Sys2Proof.Machine
end

