-- ==== Sys2Proof/Machine/CalOps.lean ====
section
/-! DEFINITION. Trims, code-density converters and their cupping record: what calibration shares with lanes, resets and
power (R215, R216, R221 to R228). -/

namespace Sys2Proof.Machine

/-- A trim tap's number: the row of R215 and the unit. -/
def tapOf (row unit : Nat) : Nat := row * 65536 + unit

/-- Trim rows of R215. -/
def rowSwing : Nat := 0
def rowTermination : Nat := 1
def rowSlicer : Nat := 2
def rowEqualiser : Nat := 3
def rowDelayLine : Nat := 5

/-- The elapsed time at which a tap's result may be applied: a delay line's between pulses (R215). Its units are TRIGOUT0 to 7,
PPSOUT0 and 1, and the four clock outputs. -/
def trimMoment (s : State) (tap : Nat) : Nat :=
  let u := tap % 65536
  let out := if u < 8 then (vget s.tio.trig u {}).out else vget s.tio.pps (u - 8) none
  let now := roundAway ((s.clk.now : Rat) * 1000 / 1048576)
  match out with
  | some p =>
    if tap / 65536 = rowDelayLine ∧ p.edge ≤ now ∧ now < p.fall then s.clk.elapsed + (ps (p.fall - now : Int)).ceil.toNat
    else s.clk.elapsed
  | none => s.clk.elapsed

/-- The result of a tap's trim (R216): inside the fused window it is in force from its moment on, where the trim is applied here
at all; outside, the tap's flag sets, the code in force stays, and a retry follows as after a rejection of R223. -/
def trimInto (s : State) (apply : Bool) (c : Calib) (e : Nat × Int) : Calib :=
  let ok := decide (Config.trimLow e.1 ≤ e.2 ∧ e.2 ≤ Config.trimHigh e.1)
  let wait := match Tbl.get c.trimRetry e.1 with
    | some q => min (2 * q.1) (parN s 0x58 0)
    | none => 10
  let at' := trimMoment s e.1
  let held := decide (s.clk.elapsed < at')
  { c with
    trims := if ok && apply && !held then Tbl.set c.trims e.1 e.2 else c.trims
    trimHeld := if ok && apply then (if held then Tbl.set c.trimHeld e.1 (e.2, at') else Tbl.erase c.trimHeld e.1) else c.trimHeld
    flags := if ok then Tbl.erase c.flags e.1 else Tbl.set c.flags e.1 ()
    trimRetry := if ok then Tbl.erase c.trimRetry e.1 else Tbl.set c.trimRetry e.1 (wait, s.clk.elapsed + wait * uSec) }

/-- The code in force at a tap: of the last trim that passed and has been applied, else the design nominal of OTP (R216). -/
def trimCode (s : State) (tap : Nat) : Int :=
  match Tbl.get s.cal.trimHeld tap with
  | some q => if q.2 ≤ s.clk.elapsed then q.1 else (Tbl.get s.cal.trims tap).getD (Config.trimNominal tap)
  | none => (Tbl.get s.cal.trims tap).getD (Config.trimNominal tap)

/-- Results that have waited for their moment are in force. -/
def trimSettle (s : State) (c : Calib) : Calib :=
  { c with
    trims := c.trimHeld.foldl (fun t e => if e.2.2 ≤ s.clk.elapsed then Tbl.set t e.1 e.2.1 else t) c.trims
    trimHeld := c.trimHeld.filter (fun e => decide (s.clk.elapsed < e.2.2)) }

/-- Takes the results of trims of the given rows. -/
def applyTrims (rows : List Nat) (l : List (Nat × Int)) (s : State) : State :=
  { s with cal := (l.filter (fun e => rows.contains (e.1 / 65536))).foldl (trimInto s true) (trimSettle s s.cal) }

/-- Runs the trims of taps whose results no command brings: each result is a free value. -/
def runTrims (apply : Bool) (taps : List Nat) (s : State) : State :=
  { s with
    cal := (taps.zipIdx.map (fun q => (q.1, Config.freeInt (s.free + q.2)))).foldl (trimInto s apply) (trimSettle s s.cal)
    free := s.free + taps.length }

/-- The trims of an entry to ACQUIRE, before CDR acquisition starts (R215): the lane's slicer and monitor sampler, its CTLE and
DFE taps. -/
def acquireTaps (l : Nat) : List Nat :=
  [tapOf rowSlicer l, tapOf rowSlicer (192 + l)] ++ (List.range 13).map (fun k => tapOf rowEqualiser (16 * l + k))

/-- KIND and INDEX of R452, domain, and ring of a converter. -/
def convKind (c : Nat) : Nat × Nat :=
  if c < 192 then (0, c) else if c < 198 then (1, c - 192) else if c = 198 then (2, 0)
  else if c < 215 then (3, c - 199) else if c = 215 then (4, 0) else (5, 0)
def convNo (kind ix : Nat) : Option Nat :=
  match kind with
  | 0 => if ix < 192 then some ix else none
  | 1 => if ix < 6 then some (192 + ix) else none
  | 2 => if ix = 0 then some 198 else none
  | 3 => if ix < 16 then some (199 + ix) else none
  | 4 => if ix = 0 then some 215 else none
  | 5 => if ix = 0 then some 216 else none
  | _ => none
def convDomain (c : Nat) : Nat := if c < 192 then 4 + c / 32 else if c < 199 then 0 else 13
def convRing (c : Nat) : Nat := if c < 192 then c / 8 else if c < 199 then 24 else 25

def convOf (s : State) (c : Nat) : Conv := vget s.cal.conv c {}
def convMod (c : Nat) (f : Conv → Conv) (s : State) : State := { s with cal := { s.cal with conv := vmodN s.cal.conv c f } }

/-- A run of one cupping check: consecutive failures, or consecutive passes (R154, R166). Checks: 0 DCO range, 1 DCO
tracking, 2 converter codes, 3 memory, 4 reference view, 5 wall tie. -/
def cupRecord (e k : Nat) (pass : Bool) (s : State) : State :=
  { s with te := { s.te with engx := vmodN s.te.engx e (fun x => { x with
      fails := vmodN x.fails k (fun n => if pass then 0 else n + 1)
      lastFail := if pass then x.lastFail else some s.clk.elapsed
      passes := vmodN x.passes k (fun n => if pass then n + 1 else 0)
      failAt := vmodN x.failAt k (fun _ => if pass then none else some s.clk.elapsed) }) } }

/-- A rejected result (R223, R224, R228). -/
def convReject (c reason : Nat) (s : State) : State :=
  let v := convOf s c
  let n := v.fails + 1
  let wait := if v.fails = 0 then 10 else min (2 * v.retry) (parN s 0x58 0)
  let stale := v.stale || decide (3 ≤ n)
  let s := convMod c (fun v => { v with
    valid := true, running := false, rejected := true, reason := reason, lastOk := false
    fails := satU 4 n, seq := (v.seq + 1) % 4096, retry := if 3 ≤ n then parN s 0x58 0 else wait, stale := stale }) s
  let s := bump 29 1 s
  let s := if 192 ≤ c ∧ c ≤ 198 then cupRecord 1 2 false (cupRecord 0 2 false s) else s
  if stale && !v.stale then
    issueEvent 0x0150 (convKind c).1 (le 2 (convKind c).2 ++ [BitVec.ofNat 8 reason, BitVec.ofNat 8 (satU 4 n)]) s
  else s

/-- A run that something ends ends ABORTED (R227). -/
def convAbort (c : Nat) (s : State) : State := if (convOf s c).running then convReject c 6 s else s

/-- A coarse trim: the table is invalidated, a running run is aborted, a new one falls due (R215, R221, R227). -/
def convCoarse (c : Nat) (s : State) : State :=
  convMod c (fun v => { v with cur := [], old := [], blend := 64, inlMax := 0, accepted := false, due := true }) (convAbort c s)

/-- A domain comes On: its converters outside the lanes take a coarse trim (R215), and their runs fall due (R221). -/
def convsCoarse (d : Nat) (s : State) : State :=
  ((List.range 25).map (· + 192)).foldl (fun s c => if convDomain c = d then convCoarse c s else s) s

/-- What POR and CHIP reset run as they end (R215): the swing of every transmitter, which OFF to ACQUIRE applies, terminations
(lanes transmit and receive, references, event inputs), delay lines, and the converters of D0 and D13. -/
def releaseTrims (s : State) : State :=
  let s := runTrims false ((List.range 192).map (tapOf rowSwing)) s
  let s := runTrims true ((List.range 398).map (tapOf rowTermination) ++ (List.range 14).map (tapOf rowDelayLine)) s
  convsCoarse 13 (convsCoarse 0 s)

/-- A blend whose end the rules bring forward. -/
def convSettle (c : Nat) (s : State) : State := convMod c (fun v => { v with old := [], blend := 64 }) s

end Sys2Proof.Machine
end

