-- ==== Sys2Proof/Machine/Patterns.lean ====
section
/-! DEFINITION. The test patterns of R54, the checker of R55, the eye-margin scan of R58, the Veman ordered set of R61. -/

namespace Sys2Proof.Machine

/-- The recurrence of each PRBS: a bit is the sum modulo 2 of the bits that lie this many places before it. -/
def prbsTaps : Nat → List Nat
  | 0 => [7, 6] | 1 => [9, 5] | 2 => [11, 9] | 3 => [13, 12, 2, 1] | 4 => [15, 14] | 5 => [23, 18] | 6 => [31, 28] | _ => []

/-- One period of the square wave or of the user pattern, the bit sent first at its head. -/
def wordPattern (sel : Nat) (user : Word) : List Bool :=
  if sel = 7 then List.replicate 8 true ++ List.replicate 8 false else (List.range 32).map user.getLsbD

/-- The pattern's bit after the bits of a history, newest first, uninverted; none where the history is too short or is no
part of the pattern. -/
def nextBit (sel : Nat) (user : Word) (hist : List Bool) : Option Bool :=
  if sel < 7 then
    let t := prbsTaps sel
    if hist.length < t.headD 0 then none else some (t.foldl (fun b k => b ^^ hist.getD (k - 1) false) false)
  else
    let w := wordPattern sel user
    let seen := (hist.take w.length).reverse
    if (List.range w.length).any (fun r => seen == w.drop r ++ w.take r) then hist[w.length - 1]? else none

/-- The `n` bits that a generator sends after a history (R54). -/
def patternBits (sel : Nat) (inv : Bool) (user : Word) : Nat → List Bool → List Bool
  | 0, _ => []
  | n + 1, hist =>
    let b := (nextBit sel user hist).getD false
    (b ^^ inv) :: patternBits sel inv user n ((b :: hist).take 32)

/-- One received bit at the checker (R55). Out of sync it predicts each bit from those received before it; in sync its own
generator runs on. -/
def checkBit (q : LanePat) (rx : Bool) : LanePat :=
  let b := rx ^^ q.chkInv
  let next := nextBit q.chkPat q.chkUser q.hist
  if q.chkSync then
    let e := next.getD b
    let win := ((b != e) :: q.win).take 64
    let errs := q.errs + b2n (b != e)
    let q := { q with
      hist := (e :: q.hist).take 32, win
      bits := satU 64 (q.bits + 1), bitsSat := q.bitsSat || decide (2 ^ 64 ≤ q.bits + 1)
      errs := satU 32 errs, errSat := q.errSat || decide (2 ^ 32 ≤ errs) }
    if 32 ≤ win.count true then { q with chkSync := false, syncLoss := satU 12 (q.syncLoss + 1), hist := [], run := 0, win := [] }
    else q
  else
    let run := if next = some b then q.run + 1 else 0
    { q with hist := (b :: q.hist).take 32, run, chkSync := decide (64 ≤ run), win := [] }

/-- Bits that a running checker receives, oldest first. -/
def checkBits (rx : List Bool) (q : LanePat) : LanePat := if q.chkOn then rx.foldl checkBit q else q

/-! ### The eye-margin scan -/

/-- Points inside the eye on a half-axis of at most `n` points: up to the first with four decisions or more that differ. -/
def insideEye (n : Nat) (l : List Nat) : Nat := ((l.take n).takeWhile (· < 4)).length

/-- Width in 1/128 UI and height in 2 mV of the passing region. -/
def eyeResult (e : EyeScan) : Nat × Nat :=
  if e.centre < 4 then (insideEye 64 e.right + insideEye 64 e.left, insideEye 127 e.up + insideEye 127 e.down) else (0, 0)

/-! ### The ordered set -/

/-- The 64b/66b block of a Veman ordered set: sync header 0b10 (sent first, bits 1 and 0 here), block type 0x4B, D1 to D3,
O code 0xA; its unused control fields are 0. Which bits hold which field is that of the IEEE 802.3 block formats, PRESUMED
(log entry 41). -/
def osBlock (d1 d2 d3 : Nat) : BitVec 66 :=
  BitVec.ofNat 66 (1 + (0x4B + d1 % 256 * 2 ^ 8 + d2 % 256 * 2 ^ 16 + d3 % 256 * 2 ^ 24 + 0xA * 2 ^ 32) * 4)

end Sys2Proof.Machine
end

