-- ==== Sys2Proof/Machine/DmaOps.lean ====
section
/-! DEFINITION. What the switch asks of the host rings: completion, moderation and writeback (R398, R405, R406). -/

namespace Sys2Proof.Machine

/-- A ring, and a changed ring. -/
def ringOf (rx : Bool) (r : Nat) (s : State) : Ring := vget (if rx then s.host.rx else s.host.tx) r {}
def ringMod (rx : Bool) (r : Nat) (f : Ring → Ring) (s : State) : State :=
  if rx then { s with host := { s.host with rx := vmodN s.host.rx r f } }
  else { s with host := { s.host with tx := vmodN s.host.tx r f } }

/-- Host address of a descriptor. -/
def descAddr (g : Ring) (i : Nat) : Nat := g.baseHi * 2 ^ 32 + g.baseLo + 16 * (i % 2 ^ g.size)

/-- Bytes to host memory. -/
def hostWrite (a : Nat) (b : List Byte) (s : State) : State :=
  { s with host := { s.host with writes := { addr := a, bytes := b } :: s.host.writes } }

/-- One more frame completed: DONE_EVT by count, or at once with no moderation (R406). -/
def ringFrameDone (g : Ring) : Ring :=
  if g.count = 0 ∨ g.holdoff = 0 ∨ g.count ≤ g.unreported + 1 then { g with doneEvt := true, unreported := 0 }
  else { g with unreported := g.unreported + 1 }

/-- Writes back a finished transmit frame: DONE in every descriptor, TS and RESULT in the last (R405). -/
def txWriteback (t : TxPend) (res : Nat) (ts : Option (BitVec 64)) (s : State) : State :=
  let eop := t.descAt.getLast?.getD 0
  let stamp := if t.tsReq then ts else none
  let s := t.descAt.dropLast.foldl (fun s a => hostWrite (a + 15) [0x80] s) s
  let s := match stamp with
    | some v => hostWrite eop (le 8 v.toNat) s
    | none => s
  let s := hostWrite (eop + 14) [BitVec.ofNat 8 (res * 32 + b2n stamp.isSome), 0x80] s
  let s := ringMod false t.ring (fun g =>
    let g := { g with
      trunc := if res = 0 then g.trunc else satU 16 (g.trunc + 1)
      errEvt := g.errEvt || res == 4 }
    if t.old then g else ringFrameDone { g with head := (g.head + t.descAt.length) % 2 ^ g.size }) s
  if res = 0 ∨ res = 5 then bump 35 1 s else s

/-! ### Receive (R400 to R402) -/

/-- A receive descriptor as written back (R401). -/
def rxDescBytes (f : StoreFrame) (len : Nat) (sop eop : Bool) (trunc cause : Nat) : List Byte :=
  let ts := match f.ts with
    | some v => if sop then v.toNat else 0
    | none => 0
  let err := if eop then trunc * 128 + cause * 32 + b2n f.ts.isSome * 16 else 0
  le 8 ts ++ le 2 len ++ (if sop then [BitVec.ofNat 8 f.port, BitVec.ofNat 8 f.reason, BitVec.ofNat 8 (f.cls * 16 + f.colour * 4)]
    else [0, 0, 0]) ++ [0, BitVec.ofNat 8 err, BitVec.ofNat 8 (128 + b2n sop * 64 + b2n eop * 32)]

/-- Writes back the descriptor at HEAD, and HEAD advances. -/
def rxWriteback (r : Nat) (f : StoreFrame) (len : Nat) (eop : Bool) (trunc cause : Nat) (s : State) : State :=
  let g := ringOf true r s
  ringMod true r (fun g => { g with head := (g.head + 1) % 2 ^ g.size, heldLen := none })
    (hostWrite (descAddr g g.head) (rxDescBytes f len (f.done == len) eop trunc cause) s)

/-- The frame at the front of a ring's store is finished with. -/
def rxPop (r : Nat) (s : State) : State :=
  bump 34 1 (ringMod true r ringFrameDone { s with host := { s.host with store := vmodN s.host.store r List.tail } })

/-- The receive engine may write: the ring enabled, the function not in D3hot, D3 On (R389, R398). -/
def rxMay (r : Nat) (s : State) : Bool :=
  (ringOf true r s).enable && !s.host.d3hot && (vget s.pm.dom 3 {}).st == .on

/-- Frames go into posted descriptors in arrival order, each buffer filled before the next. -/
def rxRun (r : Nat) : Nat → State → State
  | 0, s => s
  | n + 1, s =>
    match vget s.host.store r [] with
    | [] => s
    | f :: _ =>
      let g := ringOf true r s
      if !rxMay r s then s
      else match g.heldLen, g.rxPosted with
        | some k, _ :: _ => rxRun r n (rxWriteback r f k false 0 0 s)
        | none, (a, m) :: rest =>
          let k := min m (f.bytes.length - f.done)
          let f' := { f with done := f.done + k }
          let s := hostWrite a ((f.bytes.drop f.done).take k) s
          let s := ringMod true r (fun g => { g with rxPosted := rest }) s
          let s := { s with host := { s.host with store := vmodN s.host.store r (fun l => f' :: l.tail) } }
          if f'.done = f.bytes.length then rxRun r n (rxPop r (rxWriteback r f' k true (b2n f.trunc) 0 s))
          else rxRun r n (ringMod true r (fun g => { g with heldLen := some k }) s)
        | _, [] => s

/-- Enough rounds for every posted descriptor. -/
def rxGo (r : Nat) (s : State) : State := rxRun r (2 * (ringOf true r s).rxPosted.length + 1) s

/-- Closes a frame in progress on the last descriptor written, discarding the rest (R402, R408). -/
def rxClose (r cause : Nat) (s : State) : State :=
  match vget s.host.store r [], (ringOf true r s).heldLen with
  | f :: _, some k =>
    let s := rxPop r (rxWriteback r f k true 1 cause s)
    ringMod true r (fun g => { g with errEvt := true, trunc := if cause = 1 then satU 16 (g.trunc + 1) else g.trunc }) s
  | _, _ => s

/-- Cells of a ring's share of the store, and of the whole store. -/
def storeCells (r : Nat) (s : State) : Nat := ((vget s.host.store r []).map (fun f => (f.bytes.length + 127) / 128)).sum
def storeAll (s : State) : Nat := ((List.range 8).map (fun r => storeCells r s)).sum

/-- A frame for the host enters the store, or is dropped and counted (R400). -/
def rxDeliver (r : Nat) (f : StoreFrame) (s : State) : State :=
  let c := (f.bytes.length + 127) / 128
  if !(ringOf true r s).enable || (vget s.pm.dom 3 {}).st != .on || decide (512 < storeCells r s + c) || decide (2048 < storeAll s + c) then
    ringMod true r (fun g => { g with noroom := satU 16 (g.noroom + 1) }) s
  else rxGo r { s with host := { s.host with store := vmodN s.host.store r (· ++ [f]) } }

/-- Completes the finished frames at the front of a ring, in ring order (R399). -/
def txDrain (r : Nat) : Nat → State → State
  | 0, s => s
  | n + 1, s =>
    match s.host.txPend.find? (fun t => t.ring == r) with
    | some t =>
      match t.result with
      | some (res, ts) =>
        txDrain r n (txWriteback t res ts
          { s with host := { s.host with txPend := s.host.txPend.filter (fun u => u.fid != t.fid) } })
      | none => s
    | none => s

/-- A host frame has left or was dropped: its result, and whatever its ring can now complete. -/
def hostTxDone (fid res : Nat) (ts : Option (BitVec 64)) (s : State) : State :=
  match s.host.txPend.find? (fun t => t.fid == fid) with
  | some t =>
    let l := s.host.txPend.map (fun u => if u.fid = fid then { u with result := some (res, ts) } else u)
    txDrain t.ring l.length { s with host := { s.host with txPend := l } }
  | none => s

/-- The outcome of a frame from the host that is dropped; nothing for other frames. -/
def hostDropped (d : FrameDesc) (s : State) : State := if d.hostTx.isSome then hostTxDone d.fid 1 none s else s

end Sys2Proof.Machine
end

