-- ==== Sys2Proof/Machine/QueueOps.lean ====
section
/-! DEFINITION. What the switch's buffers and queues share: cells, depths, MAC statistics, flow control by buffer fill
(R253), dropping and flushing (R254, R307). -/

namespace Sys2Proof.Machine

/-- MAC statistics by their place in the snapshot map of R259. -/
def macCount (p k n : Nat) (s : State) : State :=
  { s with port := vmodN s.port p (fun q => { q with live := vmodN q.live k (fun v => (v + n) % 2 ^ 64) }) }

/-- Cells of a frame of `b` bytes (R286). -/
def cellsOf (b : Nat) : Nat := (b + 127) / 128

/-- The output groups of a frame, each once. -/
def outGroups (d : FrameDesc) : List Nat := (d.outs.map (fun o => o.port / 8)).dedup

/-- Cells that have crossed to an output group. -/
def crossedTo (d : FrameDesc) (g : Nat) : Nat := (Tbl.get d.crossed g).getD 0

/-- Cells still in the input buffer: a cell leaves when every target group has it (R289, R302). -/
def cellsLeft (d : FrameDesc) : Nat :=
  cellsOf d.len - ((outGroups d).map (crossedTo d)).foldl min (cellsOf d.len)

/-- Depth of a queue in cells. -/
def depthOf (l : List FrameDesc) : Nat := (l.map cellsLeft).sum

/-- VOQ of a port and class. -/
def voqKey (p c : Nat) : Nat := p * 8 + c
def inGrp (s : State) (g : Nat) : InGroup := vget s.q.inp g {}
def outGrp (s : State) (g : Nat) : OutGroup := vget s.q.out g {}
def inMod (g : Nat) (f : InGroup → InGroup) (s : State) : State := { s with q := { s.q with inp := vmodN s.q.inp g f } }
def outMod (g : Nat) (f : OutGroup → OutGroup) (s : State) : State := { s with q := { s.q with out := vmodN s.q.out g f } }
def voqOf (s : State) (g p c : Nat) : Queue := (Tbl.get (inGrp s g).voq (voqKey p c)).getD {}

/-- Calendar cells in use, and free cells of an input group's slice (R287, R309). -/
def calUsed (s : State) (g : Nat) : Nat := depthOf (inGrp s g).calq
def cellsUsed (s : State) (g : Nat) : Nat :=
  ((inGrp s g).voq.map (fun e => depthOf e.2.frames)).sum + ((inGrp s g).mcq.toList.map (fun q => depthOf q.frames)).sum
    + calUsed s g
def cellsFree (s : State) (g : Nat) : Nat := 24576 - cellsUsed s g

/-- Stores a queue, forgetting it and its average when it is empty (R299). -/
def setVoq (g p c : Nat) (l : List FrameDesc) (s : State) : State :=
  inMod g (fun x => { x with
    voq := if l.isEmpty then Tbl.erase x.voq (voqKey p c)
      else Tbl.set x.voq (voqKey p c) { (Tbl.get x.voq (voqKey p c)).getD {} with frames := l } }) s
def setMcq (g c : Nat) (l : List FrameDesc) (s : State) : State :=
  inMod g (fun x => { x with mcq := vmodN x.mcq c (fun q => { frames := l, avg := if l.isEmpty then 0 else q.avg }) }) s

/-! ### Flow control by buffer fill (R253) -/

/-- The preemptable frame in progress has a permitted point: 64 × (1 + ADD_FRAG) bytes sent and 64 to go (R249). -/
def mayCut (s : State) (p : Nat) : Bool :=
  let q := vget s.port p {}
  q.pre.active && q.tx.preempt.any (fun f => decide (64 * (2 + q.pre.peerFrag) ≤ f.bytes.length + 4))

/-- A preemptable frame in progress is interrupted and counts one more fragment. -/
def interrupt (p : Nat) (cut : Bool) (s : State) : State :=
  macCount p 26 1 { s with port := vmodN s.port p (fun q => { q with tx := { q.tx with cut, fragments := q.tx.fragments + 1 } }) }

/-- A MAC control frame or a hello goes out between two fragments of a frame in progress, which goes on at once (R248, R253). -/
def interject (p : Nat) (s : State) : State :=
  let t := (vget s.port p {}).tx
  if mayCut s p && !t.cut && t.express.isNone then interrupt p false s else s

/-- The priorities that PFC_MAP gives a class of a mask. -/
def pfcPriorities (s : State) (p mask : Nat) : List Bool :=
  (List.range 8).map (fun i => mask.testBit (bits (parN s 0x10F p) (3 * i) 3))

/-- A pause frame's bytes: to 01-80-C2-00-00-01 from PORT_MAC; PFC enables the priorities of the classes. -/
def pauseFrame (s : State) (p mask quanta : Nat) : List Byte :=
  let h := be 6 0x0180C2000001 ++ be 6 (parN s 0x105 p) ++ be 2 0x8808
  if par s 0x10E p = 2 then
    let on := pfcPriorities s p mask
    h ++ be 2 0x0101 ++ be 2 ((List.range 8).map (fun i => b2n (on.getD i false) * 2 ^ i)).sum
      ++ on.flatMap (fun b => be 2 (if b then quanta else 0)) ++ List.replicate 26 0
  else h ++ be 2 1 ++ be 2 quanta ++ List.replicate 42 0

/-- A pause frame to the peer: class mask and quanta. -/
def pauseSend (p mask quanta : Nat) (s : State) : State :=
  let s := interject p s
  macCount p 25 1 <| macCount p 23 1 <| macCount p 21 1 <| macCount p 20 64 { s with port := vmodN s.port p (fun q => { q with
    pause := { q.pause with sent := (mask, quanta) :: q.pause.sent, wire := pauseFrame s p mask quanta :: q.pause.wire } }) }

/-- The count that a class is judged by: its own in PFC mode, all of TC0 to TC7 in PAUSE mode. -/
def fillOf (s : State) (p c : Nat) : Nat :=
  let v := (vget s.port p {}).pause.cells
  if par s 0x10E p = 2 then vget v c 0 else v.toList.sum

/-- The classes that flow control treats as one with a class, and the mask it sends. -/
def pauseMask (s : State) (p c : Nat) : Nat := if par s 0x10E p = 2 then 2 ^ c else 255
def pauseCls (s : State) (p c : Nat) : Nat := if par s 0x10E p = 2 then c else 0

/-- Marks classes as held at the peer, or not. -/
def setXoff (p mask : Nat) (b : Bool) (s : State) : State :=
  { s with port := vmodN s.port p (fun q => { q with pause := { q.pause with
      xoff := vmapI q.pause.xoff (fun i v => if mask.testBit i.val then b else v) } }) }

/-- Sends XOFF when the count has passed XOFF, XON when it has fallen to XON. -/
def pauseJudge (p c : Nat) (s : State) : State :=
  if par s 0x10E p = 0 || (vget s.port p {}).st != .up then s
  else
    let k := pauseCls s p c
    let held := vget (vget s.port p {}).pause.xoff k false
    if !held && decide ((parC s 0x112 p k).toNat < fillOf s p c) then
      pauseSend p (pauseMask s p c) 0xFFFF (setXoff p (pauseMask s p c) true s)
    else if held && decide (fillOf s p c ≤ (parC s 0x113 p k).toNat) then
      pauseSend p (pauseMask s p c) 0 (setXoff p (pauseMask s p c) false s)
    else s

/-- Cells that arrived on a port enter or leave its group's slice. CAL cells and frames of the host are not counted. -/
def countCells (d : FrameDesc) (add : Bool) (n : Nat) (s : State) : State :=
  if d.cls = 8 ∨ d.hostTx.isSome then s
  else pauseJudge d.port d.cls
    { s with port := vmodN s.port d.port (fun q => { q with pause := { q.pause with
        cells := vmodN q.pause.cells d.cls (fun v => if add then v + n else v - n) } }) }

/-! ### Dropping and flushing -/

/-- A frame leaves an input queue without crossing: its cells are released. -/
def dropQueued (d : FrameDesc) (s : State) : State := hostDropped d (countCells d false (cellsLeft d) s)

/-- COPY_DROPS of a multicast group (R303). -/
def copyDropped (d : FrameDesc) (s : State) : State :=
  match d.group with
  | some g =>
    let up := fun (e : McastEntry) => { e with drops := satU 32 (e.drops + 1) }
    let t := s.fwd.hw.mcast
    let t' := if Tbl.has t g then Tbl.upd t g up else Tbl.set t g (up {})
    { s with fwd := { s.fwd with hw := { s.fwd.hw with mcast := t' } } }
  | none => s

/-- Empties one VOQ and counts each frame under a MAC statistic of its output port. -/
def flushVoq (g p c stat : Nat) (s : State) : State :=
  let l := (voqOf s g p c).frames
  l.foldl (fun s d => macCount p stat 1 (dropQueued d s)) (setVoq g p c [] s)

/-- Frees the egress buffer of frames for a port, keeping their other copies, and counts each. -/
def flushEgress (p stat : Nat) (keep : EgFrame → Bool) (s : State) : State :=
  let l := (outGrp s (p / 8)).egress
  let hit := l.filter (fun e => e.ports.contains p && !keep e)
  let rest := (l.map (fun e => if e.ports.contains p && !keep e then { e with ports := e.ports.filter (· != p) } else e)).filter
    (fun e => !e.ports.isEmpty)
  hit.foldl (fun s e => macCount p stat 1 (hostDropped e.desc s)) (outMod (p / 8) (fun x => { x with egress := rest }) s)

/-- CAL frames for a port: dropped in the calendar queues and the egress buffer (R254). -/
def dropCal (p : Nat) (s : State) : State :=
  let s := (List.range 24).foldl (fun s g =>
    let l := (inGrp s g).calq
    let hit := l.filter (fun d => d.outs.any (fun o => o.port == p))
    let rest := (l.map (fun d => { d with outs := d.outs.filter (fun o => o.port != p) })).filter (fun d => !d.outs.isEmpty)
    hit.foldl (fun s d => macCount p 30 1 (copyDropped d s)) (inMod g (fun x => { x with calq := rest }) s)) s
  flushEgress p 30 (fun e => e.desc.cls != 8) s

/-- Every held frame for a port leaves, counted in TX_FLUSH (R254, R307). -/
def flushPort (p : Nat) (s : State) : State :=
  let s := (List.range 24).foldl (fun s g => (List.range 8).foldl (fun s c => flushVoq g p c 29 s) s) s
  flushEgress p 29 (fun _ => false) (dropCal p s)

/-- A frame whose transmission the loss of link cut off (R254). -/
def cutTransmission (p : Nat) (s : State) : State :=
  let t := (vget s.port p {}).tx
  let hit := [t.express, t.preempt].filterMap id
  hit.foldl (fun s f => macCount p 30 1 (hostDropped f.desc s))
    { s with port := vmodN s.port p (fun q => { q with tx := { q.tx with express := none, preempt := none, cut := false } }) }

end Sys2Proof.Machine
end

