-- ==== Sys2Proof/Machine/PortOps.lean ====
section
/-! DEFINITION. What lanes, ports, group servos and link delays share: lane and port state changes with everything they
carry along (R51, R243, R254, R255), the delay state (R107), the servo states (R76), the sentinel (R62). -/

namespace Sys2Proof.Machine

def laneOf (s : State) (l : Nat) : Lane := vget s.lane l {}
def portOf (s : State) (p : Nat) : Port := vget s.port p {}
def groupOf (s : State) (g : Nat) : Group := vget s.group g {}
def laneMod (l : Nat) (f : Lane → Lane) (s : State) : State := { s with lane := vmodN s.lane l f }
def portMod (p : Nat) (f : Port → Port) (s : State) : State := { s with port := vmodN s.port p f }
def groupMod (g : Nat) (f : Group → Group) (s : State) : State := { s with group := vmodN s.group g f }
def servoMod (g : Nat) (f : GroupServo → GroupServo) (s : State) : State := groupMod g (fun x => { x with servo := f x.servo }) s
def ldMod (p : Nat) (f : PortLd → PortLd) (s : State) : State := portMod p (fun x => { x with ld := f x.ld }) s
def exchMod (p : Nat) (f : PortExch → PortExch) (s : State) : State := portMod p (fun x => { x with exch := f x.exch }) s
def sleepMod (p : Nat) (f : PortSleep → PortSleep) (s : State) : State := portMod p (fun x => { x with sleep := f x.sleep }) s
def phMod (l : Nat) (f : LanePh → LanePh) (s : State) : State := laneMod l (fun x => { x with ph := f x.ph }) s
def laneLdMod (l : Nat) (f : LaneLd → LaneLd) (s : State) : State := laneMod l (fun x => { x with ld := f x.ld }) s

/-- The lanes of a port. -/
def lanesOf (s : State) (p : Nat) : List Nat := (List.range (laneCount s p)).map (p + ·)

/-- Does something to each lane of a list. -/
def forEach (l : List Nat) (f : Nat → State → State) (s : State) : State := l.foldl (fun s i => f i s) s

/-- A domain is On. -/
def domOn (s : State) (d : Nat) : Bool := (vget s.pm.dom d {}).st == .on
/-- The domain of a port group's lanes, and that of its half of the buffer (R23). -/
def bankOf (g : Nat) : Nat := 4 + g / 4
def bufDomOf (g : Nat) : Nat := if g < 12 then 11 else 12

/-- The fabric ports of a group that its mode uses. -/
def fabricPorts (s : State) (g : Nat) : List Nat :=
  ((List.range 8).map (8 * g + ·)).filter (fun p => portUsed s p && kindFab s p)

/-- The lanes of the group's fabric ports, rising. -/
def fabricLanes (s : State) (g : Nat) : List Nat := (fabricPorts s g).flatMap (lanesOf s)

/-- The sentinel lane of a group, if it carries a fabric port (R62). -/
def sentinelOf (s : State) (g : Nat) : Option Nat :=
  let fl := fabricLanes s g
  match (groupOf s g).sentinel with
  | some k => if fl.contains (8 * g + k.val) then some (8 * g + k.val) else fl.head?
  | none =>
    let c := (parG s 0x11C g).toNat
    if c < 8 ∧ fl.contains (8 * g + c) then some (8 * g + c) else fl.head?

/-- The timing port of a group (R76): a fabric port whose lowest lane TIMING_PORT names. -/
def timingPort (s : State) (g : Nat) : Option Nat :=
  let c := (parG s 0x11B g).toNat
  if c < 8 ∧ portUsed s (8 * g + c) ∧ kindFab s (8 * g + c) then some (8 * g + c) else none

/-- The port whose link delay a group's registers report: the timing port, or without one the lowest fabric port (R107,
R111). -/
def reportPort (s : State) (g : Nat) : Option Nat := (timingPort s g).orElse (fun _ => (fabricPorts s g).head?)

/-- The peer's serial number from the hello last heard; a self-span's is the T24's own (R110). -/
def peerSerial (s : State) (p : Nat) : Option Nat := (vget s.fab.adj p {}).hello.map (·.serial)
def isSelfSpan (s : State) (p : Nat) : Bool := peerSerial s p == some Config.serial.toNat

/-- Whether a port trains its lanes (R52). -/
def trains (s : State) (p : Nat) : Bool :=
  let m := mediumOf s p
  match modeOf s (p / 8) with
  | 2 => m == 0
  | 3 | 4 => m == 0 || m == 1
  | 5 => (m == 0 || m == 1) && kindFab s p
  | _ => false

/-- The configured FFE preset of a lane: c(0) takes the rest of the swing (R52). -/
def presetTaps (s : State) (l : Nat) : Taps :=
  let v := (parL s 0x120 l).toNat
  { pre := bits v 0 6, post := bits v 8 6, main := 64 - (bits v 0 6 : Nat) - (bits v 8 6 : Nat) }
def initPreset : Taps := { pre := Config.initTaps.1, main := Config.initTaps.2.1, post := Config.initTaps.2.2 }

/-! ### Link delay and group servo -/

/-- Every entry to delay state NONE: no delay, no solution, the window history and the RT_port mean discarded (R105, R107). -/
def delayNone (p : Nat) (s : State) : State :=
  let s := ldMod p (fun d => { d with
    dstate := 0, plumb := 0, peer := none, peerUsed := none, solution := none, pairs := 0, rtMean := 0, cfg := [] }) s
  let s := exchMod p (fun x => { x with
    rts := [], rtLast := none, suspect := false, t1 := none, t2 := none, t3 := none, pd1 := none, pdPrev := none, sync := none }) s
  forEach (lanesOf s p) (laneLdMod · (fun d => { d with
    hasDelay := false, rtPrev := none, rtHist := [], app := none, blend := 64, winBad := true })) s

/-- Software excludes the lane from fusion (R74). -/
def fusionOff (s : State) (l : Nat) : Bool := parL s 0x121 l == 0

/-- A lane out of fusion for a reason of R74. Its timing blends end with the stored values (R86, R227). -/
def excludeLane (l why : Nat) (s : State) : State :=
  let s := convSettle l (laneMod l (fun x => { x with
    ph := { x.ph with excl := why, weight := 0, meas := none, ramp := 0, outlier := 0 }
    lat := { x.lat with blend := 64 }, ld := { x.ld with blend := 64 } }) s)
  s

/-- The group servo in IDLE: the subtraction of R528 dropped, no history; its lanes leave fusion and wait for a servo that
anchors again (R76). -/
def servoIdle (g : Nat) (s : State) : State :=
  let s := forEach ((List.range 8).map (8 * g + ·)) (fun l s => if (laneOf s l).ph.excl = 0 then excludeLane l 2 s else s) s
  servoMod g (fun v => { v with
    st := 0, hist := [], tracked := 0, sub := 0, measN := 0, measSum := 0, reported := none, remeasured := false }) s

/-- The lanes' UI bookkeeping cleared (R379, R384). -/
def clearBookkeeping (l : Nat) (s : State) : State :=
  phMod l (fun h => { h with
    anchor := none, hist := [], eHist := [], sTrk := 0, sApp := 0, weight := 0, meas := none, ramp := 0, outlier := 0
    excl := if fusionOff s l then 9 else if h.excl = 1 then 1 else 2 }) s

/-- Timing port up, tables loaded, delay measured: IDLE, WAIT_CAL and ANCHORING advance (R76). -/
def servoAdvance (g : Nat) (s : State) : State :=
  match timingPort s g with
  | none => if (groupOf s g).servo.st = 0 then s else servoIdle g s
  | some p =>
    let up := (portOf s p).st == .up
    let s := if (groupOf s g).servo.st = 0 && up then servoMod g (fun v => { v with st := 1 }) s else s
    if (groupOf s g).servo.st = 1 && s.boot.factoryLoaded && decide (1 ≤ (portOf s p).ld.dstate) then
      servoMod g (fun v => { v with st := 2 }) s
    else s

/-- The group servo follows its timing port down, unless the cause keeps the delay state (R76, R107). -/
def servoPortDown (p : Nat) (s : State) : State :=
  if timingPort s (p / 8) = some p then servoIdle (p / 8) s else s

/-! ### Port states -/

/-- Codes of R242. -/
def portCode : PortSt → Nat
  | .disabled => 0 | .down => 1 | .hold => 2 | .up => 3

/-- Reports a port's state (R469). -/
def portEvent (p : Nat) (s : State) : State :=
  issueEvent 0x0401 p [BitVec.ofNat 8 (portCode (portOf s p).st), BitVec.ofNat 8 (portOf s p).downCause] s

/-- The adjacency of a port that leaves UP, or whose hellos have died (R334). -/
def adjDown (p : Nat) (s : State) : State :=
  { s with fab := { s.fab with adj := vmodN s.fab.adj p (fun a => { a with st := .down, suspended := false, inelig := 1 }) } }

/-- A lane with both directions asleep is in SLEEP; one with both awake again is READY (R51), or in TEST where a pattern
test owns it (R56). -/
def sleepJoin (l : Nat) (s : State) : State :=
  laneMod l (fun x => { x with
    st := if x.st == .ready && x.txSleep && x.rxSleep then .sleep
      else if x.st == .sleep && !x.txSleep && !x.rxSleep then (if x.pat.genOn || x.pat.chkOn then .test else .ready) else x.st }) s

/-- Both directions of a lane wake. -/
def laneWakes (l : Nat) (s : State) : State := sleepJoin l (laneMod l (fun x => { x with txSleep := false, rxSleep := false }) s)

/-- What ends with the link whatever follows: pause state, the frame cut off, preemption, the adjacency; the sleep of its
lanes and its shared-clock mode, unless lanes and PCS run on under a DATA reset (R20, R48); and, unless the cause keeps it,
the delay state with the group servo (R254, R107, R76). -/
def linkEnds (p : Nat) (keepDelay lanesRun : Bool) (s : State) : State :=
  let s := cutTransmission p s
  let s := portMod p (fun x => { x with
    pause := { x.pause with
      paused := Vector.replicate 8 false, held := Vector.replicate 8 false, wdIgnore := Vector.replicate 8 false
      xoff := Vector.replicate 8 false }
    pre := { x.pre with verify := 0, attempts := 0, active := false } }) s
  let s := if lanesRun then s
    else forEach (lanesOf s p) laneWakes (portMod p (fun x => { x with
      sleep := { x.sleep with
        tx := .awake, rx := .awake, tries := 0, wakePending := false, ackHeld := none, txAlone := false, rxAlone := false }
      shared := false, lowPower := false, txLpi := false, dllWake := none }) s)
  let s := adjDown p s
  if keepDelay then s else servoPortDown p (delayNone p s)

/-- A change of a lane's latency set since `old` ends a running blend; the stored values stand (R86). -/
def setChange (p : Nat) (old s : State) : State :=
  forEach (lanesOf s p) (fun l s =>
    if setOf old l = setOf s l then s else laneMod l (fun x => { x with lat := { x.lat with blend := 64 } }) s) s

/-- DOWN or DISABLED with the queues flushed; the delay state is kept under a DATA reset. -/
def portDown (p : Nat) (st : PortSt) (cause : Nat) (keepDelay : Bool) (s : State) : State :=
  let was := (portOf s p).st
  let s := if was == .up then linkEnds p keepDelay keepDelay s else if keepDelay then s else servoPortDown p (delayNone p s)
  let s := flushPort p s
  let s := portMod p (fun x => { x with st := st, downCause := cause }) s
  if was == st then s else portEvent p s

/-- Entry to HOLD (R254); a LINK_HOLD of 0 flushes at once. A port held by a DATA reset or a pattern test loses its delay
state to a further cause (R107); the faults that a test itself brings about are none. -/
def portHold (p cause : Nat) (keepDelay : Bool) (s : State) : State :=
  if (portOf s p).st != .up then
    if keepDelay || (portOf s p).ld.dstate == 0 || ((portOf s p).downCause == 4 && (cause == 2 || cause == 3)) then s
    else servoPortDown p (delayNone p s)
  else if parN s 0x114 p = 0 then
    portMod p (fun x => { x with flushed := true }) (portDown p .down cause keepDelay s)
  else
    let s := dropCal p (linkEnds p keepDelay false s)
    let s := portMod p (fun x => { x with st := .hold, downCause := cause, holdStart := s.clk.elapsed }) s
    portEvent p s

/-! ### Lane states -/

/-- What a lane loses when it is no longer READY: its samples, its scan, its anchor, its blends (R59, R68, R74, R86). -/
def laneUnready (l : Nat) (s : State) : State :=
  let s := excludeLane l (if fusionOff s l then 9 else 1) s
  laneMod l (fun x => { x with
    rxOffset := 0, ppmAlarm := false, adaptEvent := x.adaptEvent
    eye := if x.eye.running then { x.eye with running := false, valid := false } else x.eye
    ph := { x.ph with recent := [], anchor := none, hist := [], eHist := [] }
    ld := { x.ld with winBad := true } }) s

/-- A lane leaves READY, or SLEEP for OFF, and its port with it (R51, R243). -/
def laneLeaves (l : Nat) (st : LaneSt) (cause : Nat) (keepDelay : Bool) (s : State) : State :=
  let was := (laneOf s l).st
  let p := portOfLane s l
  let s := if was == .ready || was == .sleep then
    portMod p (fun q => { q with aligned := false, shared := false }) (laneUnready l s) else s
  let s := laneMod l (fun x => { x with st := st, cdrLock := false, txSleep := false, rxSleep := false }) s
  let s := if st == .off then laneMod l (fun x => { x with sigDet := false, trainFails := 0, pat := { x.pat with genOn := false, chkOn := false, chkSync := false } }) s
    else s
  if was == .ready || (was == .sleep && (st == .off || st == .test)) then portHold p cause keepDelay s else s

/-- A lane enters ACQUIRE: receiver trims and the coarse trim with its new calibration run (R215, R221). -/
def laneAcquire (l : Nat) (s : State) : State :=
  convCoarse l (runTrims true (acquireTaps l) (laneMod l (fun x => { x with st := .acquire, cdrLock := false, trainFails := 0 }) s))

/-- An eye-margin scan starts (R59); one that runs goes on. -/
def startScan (l : Nat) (s : State) : State :=
  laneMod l (fun x => { x with eye := if x.eye.running then x.eye else { x.eye with running := true, valid := false } }) s

/-- A weathering scan that waited starts at READY (R234). -/
def scanWaiting (l : Nat) (s : State) : State :=
  if vget s.wx.scanDue l false then
    startScan l { s with wx := { s.wx with scanDue := vmodN s.wx.scanDue l (fun _ => false) } }
  else s

/-- The receiver's settings as an adaptation of all taps leaves them (R53). -/
def takeEq (eq : RxEq) (x : Lane) : Lane := { x with ctle := eq.ctle, dfe1 := eq.dfe1, adapt := eq.rest }

/-- A lane enters READY with the taps and the receiver settings given (R51 to R53); a pattern test started before then
takes the lane over at once. -/
def laneReady (l : Nat) (taps : Taps) (eq : RxEq) (s : State) : State :=
  let test := (laneOf s l).pat.genOn || (laneOf s l).pat.chkOn
  let s := laneMod l (fun x => { takeEq eq x with
    st := if test then .test else .ready, taps := taps, eyeAtReady := eq.eye, trainFails := 0
    ph := { x.ph with excl := if fusionOff s l then 9 else if test then 1 else 2, anchor := none } }) s
  if test then s else scanWaiting l s

/-- LANE reset (R379): OFF, bookkeeping and SLIPS cleared; calibration tables and trained coefficients kept. -/
def laneReset' (l : Nat) (cause : Nat) (keepDelay : Bool) (s : State) : State :=
  let s := convAbort l (laneLeaves l .off cause keepDelay s)
  clearBookkeeping l (laneMod l (fun x => { x with
    sigDet := false, cdrLock := false, trainFallback := false, adaptEvent := false, ctle := 0, dfe1 := 0, adapt := {}, pat := {}
    ph := { x.ph with slips := 0 } }) s)

/-- Every lane of a port is READY, or asleep (R243, R360). -/
def lanesReady (s : State) (p : Nat) : Bool :=
  (lanesOf s p).all (fun l => (laneOf s l).st == .ready || (laneOf s l).st == .sleep)

end Sys2Proof.Machine
end

