-- ==== Sys2Proof/Machine/CourseOps.lean ====
section
/-! DEFINITION. The calendar's courses, slots and matched frames (R310 to R318, R322, R326). -/

namespace Sys2Proof.Machine

/-- A time-clock period in 2⁻²⁰ ns, exact. -/
def period : Rat := 16777216 / 10

def calMod (f : Calendar → Calendar) (s : State) : State := { s with cald := f s.cald }
def pcalMod (p : Nat) (f : PortCal → PortCal) (s : State) : State := calMod (fun c => { c with port := vmodN c.port p f }) s
def pcalOf (s : State) (p : Nat) : PortCal := vget s.cald.port p {}

/-- Course number of an instant, not yet modulo 2³², and the course boundary's instant in 2⁻²⁰ ns (R310). -/
def courseAt (c : Calendar) (t : Nat) : Int :=
  if c.courseLen = 0 then 0 else (((t / uNs : Nat) : Int) - 8 * c.offset) / (8 * c.courseLen : Nat)
def courseStart (c : Calendar) (k : Int) : Int := (k * (8 * c.courseLen : Nat) + 8 * c.offset) * (uNs : Int)
def courseNow (s : State) : Nat := (courseAt s.cald s.clk.now % (2 ^ 32 : Nat)).toNat

/-- The active bank of a port. -/
def activeBank (c : PortCal) : List SlotEntry := c.banks[c.active]

/-- Counts a frame missed at a port, and in its reservation (R317, R322). -/
def calMiss (p ctx : Nat) (s : State) : State :=
  let s := pcalMod p (fun c => { c with miss := (c.miss + 1) % 2 ^ 32, missEvt := true }) s
  match Tbl.get s.fwd.hw.ctx ctx with
  | some x => if x.cal then calMod (fun c => { c with resv := Tbl.upd c.resv x.calRes (fun r => { r with missed := (r.missed + 1) % 2 ^ 64 }) }) s
    else s
  | none => s

/-- Departure instants of a slot whose window may contain an instant: this course and those ahead of it that a window
of 65,535 periods can reach. -/
def departures (c : Calendar) (e : SlotEntry) (p t : Nat) : List SlotMatch :=
  (List.range 16).map (fun k => { port := p, start := e.start, instant := (courseStart c (courseAt c t + k) : Rat) + e.start * period })

/-- The acceptance window of a slot contains an instant (R317). -/
def inWindow (e : SlotEntry) (d : Rat) (t : Nat) : Bool :=
  decide (d - e.early * period ≤ t) && decide ((t : Rat) ≤ d - e.late * period)

/-- The earliest unused slot of a context whose window contains an instant (R317); after a DATA reset, from the first course boundary
on (R326). -/
def matchSlot (s : State) (p ctx t : Nat) : Option SlotMatch :=
  let c := pcalOf s p
  let l := (activeBank c).filter (fun e => e.ctx == ctx && ctx != 0)
  let next := (courseStart s.cald (courseAt s.cald t + 1) : Rat)
  let ok := l.flatMap (fun e => (departures s.cald e p t).filter (fun d =>
    inWindow e d.instant t && !c.used.contains d && (!s.cald.resync || decide (next ≤ d.instant))))
  ok.foldl (fun b d => match b with
    | some x => if d.instant < x.instant then some d else b
    | none => some d) none

/-- A port's copy of an egress frame is dropped as a miss. -/
def dropMatched (p : Nat) (e : EgFrame) (s : State) : State :=
  let s := outMod (p / 8) (fun o => { o with
    egress := (o.egress.map (fun f => if f.desc.fid = e.desc.fid ∧ f.src = e.src then
        { f with ports := f.ports.filter (· != p), slots := f.slots.filter (fun m => m.port != p) } else f)).filter
          (fun f => !f.ports.isEmpty) }) s
  calMiss p e.desc.ctx (hostDropped e.desc s)

/-- Matched frames of every port whose match a test refuses are dropped as misses. -/
def dropMatches (bad : SlotMatch → Bool) (s : State) : State :=
  (List.range 24).foldl (fun s g =>
    (outGrp s g).egress.foldl (fun s e => (e.slots.filter bad).foldl (fun s m => dropMatched m.port e s) s) s) s

/-- A match is held by a frame that waits at its port. -/
def heldMatch (s : State) (m : SlotMatch) : Bool := (outGrp s (m.port / 8)).egress.any (fun e => e.slots.contains m)

/-- The course position is formed again after a full-time step: slots given to frames that have left recur (R326). -/
def courseRealign (s : State) : State :=
  if s.cald.running then
    let s := calMod (fun c => { c with port := c.port.map (fun (x : PortCal) => { x with used := x.used.filter (heldMatch s) }) }) s
    let s := calMod (fun c => { c with realignEvt := true, number := courseNow s }) s
    let s := issueEvent 0x0601 0 (le 4 (courseNow s)) s
    dropMatches (fun m => decide (m.instant < s.clk.now)) s
  else s

/-! ### Streams (R324, R469) -/

/-- Reports a stream. -/
def streamEvent (id cause course : Nat) (s : State) : State :=
  issueEvent 0x0602 0 (le 4 id ++ [BitVec.ofNat 8 cause, 0, 0, 0] ++ le 4 course) s

/-- A stream's context, record and slots are gone from this device's tables. -/
def forgetStream (x : Stream) (s : State) : State :=
  let s := { s with fwd := { s.fwd with
      hw := { s.fwd.hw with ctx := Tbl.erase s.fwd.hw.ctx x.ctx }
      golden := { s.fwd.golden with ctx := Tbl.erase s.fwd.golden.ctx x.ctx } } }
  calMod (fun c => { c with
    resv := Tbl.erase c.resv x.resv, streams := c.streams.filter (fun (y : Stream) => y.id != x.id) }) s

/-- The activations due at a course: an installation stands, a withdrawal has taken its stream (R324). -/
def finishActs (n : Nat) (s : State) : State :=
  let due := s.cald.acts.filter (fun a => a.course == n)
  due.foldl (fun s a =>
    let s := if a.waiting.isEmpty then s else streamEvent a.stream a.cause n s
    match s.cald.streams.find? (fun x => x.id == a.stream) with
    | some x => if a.install then s else forgetStream x s
    | none => s) (calMod (fun c => { c with acts := c.acts.filter (fun a => a.course != n) }) s)

end Sys2Proof.Machine
end

