-- ==== Sys2Proof/Machine/Flags.lean ====
section
/-! DEFINITION. Status and interrupt flags: the 64 MSI-X vectors' pending conditions (R396), messages on a rising
condition and the pending bit array (R397), and the end that every command shares. -/

namespace Sys2Proof.Machine

/-- A CAL status REJECTED bit among a range of converters (R228). -/
def anyRejected (s : State) (lo n : Nat) : Bool := (List.range n).any (fun i => (vget s.cal.conv (lo + i) {}).rejected)

/-- Every W1C bit of a port group's PG_ and LN_ registers. -/
def groupFlags (s : State) (g : Nat) : Bool :=
  (vget s.group g {}).servo.stepFlag ||
  (List.range 8).any (fun n =>
    let p := vget s.port (8 * g + n) {}
    let l := vget s.lane (8 * g + n) {}
    let c := vget s.cald.port (8 * g + n) {}
    p.flushed || p.pause.wdEvent || p.ld.rtMismatch || p.ld.pathChange || (vget s.fab.adj (8 * g + n) {}).deadEvt
      || l.trainFallback || l.adaptEvent || c.missEvt || c.shiftEvt) ||
  anyRejected s (8 * g) 8

/-- Every W1C bit of the SC_ block. -/
def scFlags (s : State) : Bool :=
  s.q.inp.any (fun g => g.cellCrcEvt || g.bufFullEvt) || s.q.cong.any (·.evt) || s.fwd.parityEvt || s.fwd.learnFullEvt
    || s.cald.realignEvt || s.fabS.topoEvt || s.fabS.scaleLimit

/-- Whether any source of a vector is set (R396). -/
def vectorSet (s : State) (v : Nat) : Bool :=
  if v = 0 then s.host.errEvt || s.host.mgmtRestartEvt || s.host.mgmtHaltEvt
  else if v < 5 then (vget s.mb.chan (v - 1) {}).respEvt || (vget s.mb.chan (v - 1) {}).unacked
  else if v = 5 then s.mb.evqEvt || s.mb.overflow
  else if v = 6 then s.pm.dom.any (fun d => d.wakeEvt || d.refused) || s.pm.alarm.any (·.fired)
  else if v = 7 then s.te.eng.any (·.suspectAlarm) || s.te.ks.handoverEvt || s.te.ks.disagreeAlarm || s.te.ks.unattributed
    || anyRejected s 192 7
  else if v < 16 then !(vget s.tio.ev (v - 8) {}).fifo.isEmpty || (vget s.tio.ev (v - 8) {}).overflow
  else if v = 16 then s.tio.tdc.lost || s.tio.tap.clkLost || s.tio.trig.any (·.missedFlag) || anyRejected s 199 18
  else if v = 17 then scFlags s
  else if v = 18 then s.ck.oscLost || s.ck.syn.any (·.lockLost)
  else if v < 24 then false
  else if v < 32 then (vget s.host.rx (v - 24) {}).doneEvt || (vget s.host.rx (v - 24) {}).errEvt
  else if v < 40 then (vget s.host.tx (v - 32) {}).doneEvt || (vget s.host.tx (v - 32) {}).errEvt
  else if v < 64 then groupFlags s (v - 40)
  else false

/-- The 64 bits of a set of vectors. -/
def vectorBits (f : Nat → Bool) : Vector Bool 64 := ⟨⟨(List.range 64).map f⟩, by simp⟩

/-- The pending bits of all vectors. -/
def pendVec (s : State) : Vector Bool 64 := vectorBits (vectorSet s)

/-- Pending bits `lo` to `lo` + 31 as a word. -/
def pendWord (lo : Nat) (s : State) : Word :=
  BitVec.ofNat 32 ((List.range 32).foldl (fun a v => a + b2n (vectorSet s (lo + v)) * 2 ^ v) 0)

/-- A vector's message may leave now: not masked, and the function not in D3hot (R389, R397). -/
def mayLeave (h : HostIf) (v : Nat) : Bool := !h.d3hot && !(vget h.masked v true)

/-- The host interface after the messages of a set of vectors were sent, or kept in the pending bit array. -/
def sentHost (m : Nat → Bool) (h : HostIf) : HostIf :=
  { h with
    sent := ((List.range 64).filter (fun v => m v && mayLeave h v)).reverse ++ h.sent
    pba := vectorBits (fun v => (vget h.pba v false || m v) && !(m v && mayLeave h v)) }

/-- Sends the messages of a set of vectors, or keeps them in the pending bit array. -/
def sendVectors (m : Nat → Bool) (s : State) : State := { s with host := sentHost m s.host }

/-- The host interface with its pending bits brought up to date: a message for each change from 0 to 1, and a bit of the
pending bit array whose condition has gone clears. -/
def settledHost (s : State) : HostIf :=
  let h := sentHost (fun v => vectorSet s v && !(vget s.host.pend v false)) s.host
  { h with
    pend := pendVec s
    pba := vectorBits (fun v => vget h.pba v false && vectorSet s v) }

/-- Brings the interrupt conditions up to date. -/
def settle (s : State) : State := { s with host := settledHost s }

/-- The end of every command: the next state with its interrupt conditions settled. -/
def done (s : State) : Host.Outcome State Fault Refusal := .next (settle s)

/-- A state where a condition holds, another one where it does not. -/
def when (c : Bool) (t s : State) : State := if c then t else s

end Sys2Proof.Machine
end

