-- ==== Sys2Proof/Machine/TimingOps.lean ====
section
/-! DEFINITION. Lane phase measurement: unit intervals, converted samples, applied latencies and delays, the blends of
R226, timestamps (R81, R82), transmit anchors (R69, R71). -/

namespace Sys2Proof.Machine

/-- The nominal UI of a group mode's rate in 2⁻²⁰ ns, exact (R66). -/
def uiOf (mode : Nat) : Rat :=
  match mode with
  | 1 => 1048576 * 4 / 5
  | 2 => 1048576 * 16 / 165
  | 3 | 4 => 1048576 * 32 / 825
  | 5 => 1048576 * 16 / 425
  | _ => 0

/-- `n`/64 of the way from an old value to a new one (R226). -/
def blendQ (old new : Rat) (n : Nat) : Rat := old + (new - old) * (min n 64 : Nat) / 64

/-- The design-nominal converter table: 0.78125 ps bins (R227). -/
def nominalInterval (code : Nat) : Rat := ((code : Rat) + 1 / 2) * 8192 / 10

/-- The interval of a raw code through a converter's table (R67, R220, R226). -/
def interval (v : Conv) (code : Nat) : Rat :=
  let f := fun (l : List Rat) => (l[code]?).getD (nominalInterval code)
  blendQ (f v.old) (f v.cur) v.blend

/-- The stored entry of a latency set; SOURCE 0 is the design nominal (R85, R86). -/
def latEntry (s : State) (l k : Nat) : LatEntry :=
  let e := vget (laneOf s l).lat.sets k {}
  if e.source = 0 then
    let n := Config.nominalLat k
    { txLat := n.1, rxLat := n.2.1, tcTx := n.2.2.1, tcRx := n.2.2.2.1, tRef := n.2.2.2.2, source := 0, calSec := e.calSec }
  else e

/-- Latencies of an entry at a group temperature, exact (R85). -/
def latAt (base tc tRef temp : Int) : Rat := (base : Rat) + (tc : Rat) * ((temp : Rat) - tRef) / 16

/-- A lane's latencies as applied, transmit and receive: the blend of R226 towards the entry of the set in use. -/
def txLatOf (s : State) (l : Nat) : Rat :=
  let e := latEntry s l (setOf s l)
  let x := (laneOf s l).lat
  blendQ (if x.blend < 64 then x.fromTx else 0) (latAt e.txLat e.tcTx e.tRef (groupOf s (l / 8)).temp) x.blend
def rxLatOf (s : State) (l : Nat) : Rat :=
  let e := latEntry s l (setOf s l)
  let x := (laneOf s l).lat
  blendQ (if x.blend < 64 then x.fromRx else 0) (latAt e.rxLat e.tcRx e.tRef (groupOf s (l / 8)).temp) x.blend

/-- The applied one-way delays of a lane: d_i and d_tx,i (R96, R104). -/
def dRx (x : LaneLd) : Rat := (x.extRx : Rat) + blendQ x.fromPL x.fPL x.blend
def dTx (x : LaneLd) : Rat := (x.extTx : Rat) + blendQ x.fromLP x.fLP x.blend

/-- The arrival time of UI `u` that a lane's 100 µs running mean gives, at the converter (R68, R81). -/
def arrivalAt (s : State) (l : Nat) (u : Int) : Option Rat :=
  let x := laneOf s l
  let ui := uiOf (modeOf s (l / 8)) / (1 + (x.rxOffset : Rat) / 100000000)
  if x.ph.recent.isEmpty then none
  else some (meanQ (x.ph.recent.map (fun a => a.t + ((u - a.ui : Int) : Rat) * ui)))

/-- A receive timestamp referred to the port's lowest lane (R81, R82), in 2⁻²⁰ ns. -/
def rxStamp (s : State) (p : Nat) (m : RxMsg) : Option Rat :=
  match arrivalAt s p ((m.laneUi.head?).getD m.ui) with
  | some t => some ((roundAway (t - rxLatOf s p) : Int) : Rat)
  | none => none

/-- A transmit timestamp referred to the port's lowest lane (R81, R82). -/
def txStamp (s : State) (p : Nat) (t : TxStamp) : Rat :=
  let l := p / 8 * 8 + t.lane.val
  ((roundAway (idealEdge t.tWord + (t.k : Rat) * uiOf (modeOf s (p / 8)) + txLatOf s l - Config.txSkew l) : Int) : Rat)

/-- A link-delay parameter as written, −1 for wavelength uncertainties that are not (R106). -/
def ldNow (s : State) (id sel : Nat) : Int := if id = 0x12C ∧ (parSet? s id sel 0).isNone then -1 else par s id sel

/-- A link-delay parameter as the running window of a fabric port has it (R104); a standard port has no windows. -/
def ldPar (s : State) (p id sel : Nat) : Int :=
  match if kindFab s p then Tbl.get (portOf s p).ld.cfg (pKey id sel 0) else none with
  | some v => v
  | none => ldNow s id sel
def ldParL (s : State) (p id l : Nat) : Int := ldPar s p id (0x100 + l)

/-- The parameters that a window keeps. -/
def ldCfgNow (s : State) (p : Nat) : Tbl Int :=
  let ids := [0x128, 0x129, 0x12F, 0x130, 0x131, 0x132, 0x133, 0x134, 0x135, 0x137, 0x138]
  let t := ids.foldl (fun t i => Tbl.set t (pKey i p 0) (ldNow s i p)) []
  (lanesOf s p).foldl (fun t l =>
    [0x12A, 0x12B, 0x12C, 0x12D, 0x12E, 0x136].foldl (fun t i => Tbl.set t (pKey i (0x100 + l) 0) (ldNow s i (0x100 + l))) t) t

/-- A lane's wavelengths in use with their uncertainties: transmit, receive, in pm; each configured where software has set
it, else the module's (R94, R106). -/
def waves (s : State) (p l : Nat) : Option (Nat × Nat × Nat × Nat) :=
  let m := (laneOf s l).ld.module.getD { wlTx := 0, wlRx := 0, sigTx := 255, sigRx := 255 }
  let sg := ldParL s p 0x12C l
  let ctx := (ldParL s p 0x12A l).toNat
  let crx := (ldParL s p 0x12B l).toNat
  let tx := if ctx ≠ 0 then ctx else m.wlTx
  let rx := if crx ≠ 0 then crx else m.wlRx
  if tx = 0 ∨ rx = 0 then none
  else some (tx, rx, if 0 ≤ sg then bits sg.toNat 0 8 else m.sigTx, if 0 ≤ sg then bits sg.toNat 8 8 else m.sigRx)

/-- A peer's lane record, and whether its wavelengths and its APP are valid (R97, R98). -/
def peerLane (s : State) (p j : Nat) : Option TlvLane := (portOf s p).ld.peer.bind (fun v => v.lanes[j]?)
def extreme (v : Int) : Bool := decide (v ≤ -2147483648) || decide (2147483647 ≤ v)
def tlvWl (r : TlvLane) : Bool := r.lstat.testBit 2
def tlvApp (r : TlvLane) : Bool :=
  r.lstat.testBit 1 && !extreme r.txSkew && !extreme r.extTx && !extreme r.extRx && decide (r.appSigma < 4294967295)

/-- Every lane of both ends has valid wavelengths. -/
def wlComplete (s : State) (p : Nat) : Bool :=
  (lanesOf s p).all (fun l => (waves s p l).isSome) &&
  (List.range (laneCount s p)).all (fun j => (peerLane s p j).any tlvWl)

/-- Within 1 nm. -/
def near (a b : Nat) : Bool := decide (a ≤ b + 1000) && decide (b ≤ a + 1000)

/-- The peer lane number that local lane number `k` pairs with by wavelength, or by number where a wavelength is missing
(R94). -/
def pairOf (s : State) (p k : Nat) : Option Nat :=
  if wlComplete s p then
    (List.range (laneCount s p)).find? (fun j => match waves s p (p + k), peerLane s p j with
      | some (tx, rx, _, _), some r => near r.wlRx tx && near r.wlTx rx
      | _, _ => false)
  else some k

/-- The peer lane number that stands for lane number `k`: its pair, else the same PCS lane number (R529). -/
def peerNo (s : State) (p k : Nat) : Nat := (pairOf s p k).getD k

/-- The peer's transmit skew of the lane that sends to lane number `k` (R69, R97). -/
def peerSkew (s : State) (p k : Nat) : Int := ((peerLane s p (peerNo s p k)).map (·.txSkew)).getD 0

/-- The anchor a Sync gives to lane number `k` of its port (R69): the peer's departure time of the start UI there. -/
def newAnchor (s : State) (p k : Nat) (m : RxMsg) (t1 : Rat) : Anchor :=
  { tTx := t1 + peerSkew s p k, ui := (m.laneUi[k]?).getD m.ui }

/-- The difference of R71 between a new anchor and the old one extrapolated, in UI. -/
def anchorDiff (old new : Anchor) (ui : Rat) : Rat := (new.tTx - old.tTx - ((new.ui - old.ui : Int) : Rat) * ui) / ui

/-- A lane whose UI count slipped by `k`: its placed arrivals are renumbered, the slip is counted (R71). -/
def slipLane (l : Nat) (k : Int) (s : State) : State :=
  phMod l (fun h => { h with
    slips := satU 4 (h.slips + 1), recent := h.recent.map (fun a => { a with ui := a.ui - k }) }) s

/-- How a new anchor compares with the one extrapolated from the old on each anchored lane number of a port (R71). -/
def anchorDiffs (s : State) (p : Nat) (m : RxMsg) (t1 : Rat) : List (Nat × Rat) :=
  (List.range (laneCount s p)).filterMap (fun k => (laneOf s (p + k)).ph.anchor.map
    (fun a => (k, anchorDiff a (newAnchor s p k m t1) (uiOf (modeOf s (p / 8))))))

/-- The rows of R71, by lane number: a cycle slip of `n` UI, or a lost UI count. A lone anchored lane that has not slipped
sees the peer's step. -/
inductive AnchorLoss where
  | slip (k : Nat) (n : Int)
  | lost (k : Nat)
  deriving DecidableEq, Repr
def anchorLoss (ds : List (Nat × Rat)) : Option AnchorLoss :=
  match ds.filter (fun q => decide (1 / 4 < absQ q.2)) with
  | [q] =>
    if 3 / 4 ≤ absQ q.2 ∧ absQ q.2 ≤ 5 / 4 then some (.slip q.1 (if 0 < q.2 then 1 else -1))
    else if ds.length = 1 then none
    else some (.lost q.1)
  | _ => none

/-- A Sync's departure time becomes the anchor of every READY lane of its fabric port, each judged by R71. -/
def takeAnchor (p : Nat) (m : RxMsg) (t1 : Rat) (s : State) : State :=
  let loss := anchorLoss (anchorDiffs s p m t1)
  let put := fun (k : Nat) (t : State) => phMod (p + k) (fun h => { h with anchor := some (newAnchor s p k m t1) }) t
  forEach (List.range (laneCount s p)) (fun k t =>
    let l := p + k
    if (laneOf t l).st != .ready then t
    else if loss = some (.lost k) then
      laneLdMod l (fun d => { d with winBad := true })
        (phMod l (fun h => { h with anchor := none }) (if fusionOff t l then t else excludeLane l 7 t))
    else match loss with
      | some (.slip j n) => if j = k then slipLane l n (put k t) else put k t
      | _ => put k t) s

/-- The end of a servo cycle moves each blend of a lane's timing tables by one (R226). -/
def blendLane (l : Nat) (s : State) : State :=
  let s := laneMod l (fun x => { x with
    lat := { x.lat with blend := min 64 (x.lat.blend + 1) }
    ld := { x.ld with blend := min 64 (x.ld.blend + 1) } }) s
  convMod l (fun v => { v with blend := min 64 (v.blend + 1), old := if 63 ≤ v.blend then [] else v.old }) s

end Sys2Proof.Machine
end

