-- ==== Sys2Proof/Machine/Timing.lean ====
section
/-! DEFINITION. The group servo: fusion, residuals, exclusion and return of lanes, common-mode steps (R65 to R79,
R90), and its lock timeout (R384). -/

namespace Sys2Proof.Machine

/-- 0.1 ps and 10 ps in phase units. -/
def varFloor : Rat := ps (1 / 10) * ps (1 / 10)
def skewMax : Rat := ps 10

/-- The mean square deviation of a list, floored at (0.1 ps)² (R72). -/
def variance (l : List Rat) : Rat :=
  let m := meanQ l
  max varFloor (meanQ (l.map (fun x => (x - m) * (x - m))))

/-- The group runs: it is out of reset and its bank is On. -/
def groupLive (s : State) (g : Nat) : Bool :=
  !s.rst.por && s.rst.chip.isNone && !vget s.rst.groups g false && domOn s (bankOf g)

/-- A lane delivers samples (R68). -/
def laneSamples (s : State) (l : Nat) : Bool := (laneOf s l).st == .ready && !(laneOf s l).rxSleep

/-- The placed arrivals of a lane's samples (R66, R67). -/
def placed (s : State) (l : Nat) (xs : List Sample) : List Arrival :=
  xs.map (fun x => { t := idealEdge x.edge + interval (convOf s l) x.code, ui := x.ui })

/-- The peer's departure time of a bit by a lane's anchor (R69). -/
def departure (s : State) (l : Nat) (a : Anchor) (ui : Int) : Rat := a.tTx + ((ui - a.ui : Int) : Rat) * uiOf (modeOf s (l / 8))

/-- Takes a lane's samples into its running mean and, on an anchored fabric lane, into its window (R68, R95). -/
def ingest (l : Nat) (xs : List Sample) (s : State) : State :=
  if laneSamples s l then
    let ar := placed s l xs
    let lat := rxLatOf s l
    let apps := match (laneOf s l).ph.anchor with
      | some a => if kindFab s (portOfLane s l) then ar.map (fun x => x.t - lat - departure s l a x.ui) else []
      | none => []
    laneMod l (fun x => { x with
      ph := { x.ph with recent := (ar.reverse ++ x.ph.recent).take 250 }
      ld := { x.ld with
        winN := x.ld.winN + apps.length
        winSum := x.ld.winSum + sumQ apps
        winSq := x.ld.winSq + sumQ (apps.map (fun a => a * a)) } }) s
  else s

/-- The servo-cycle mean of ε of a lane (R70, R528), where the lane is anchored and delivered samples. -/
def cycleErr (s : State) (l : Nat) (xs : List Sample) : Option Rat :=
  if laneSamples s l && !xs.isEmpty && (laneOf s l).ld.hasDelay then
    match (laneOf s l).ph.anchor with
    | some a =>
      let d := dRx (laneOf s l).ld
      let lat := rxLatOf s l
      some (meanQ ((placed s l xs).map (fun x => departure s l a x.ui + d - (x.t - lat)))
        - (groupOf s (l / 8)).servo.sub)
    | none => none
  else none

/-- A lane with its servo-cycle mean e, as fusion sees it: e − s, variance, and how far its weight has risen. -/
structure FuseIn where
  l : Nat
  e : Rat
  x : Rat
  v : Rat
  r : Rat

/-- The lanes in fusion that delivered a mean. -/
def fuseIns (s : State) (es : List (Nat × Rat)) : List FuseIn :=
  (es.filter (fun q => (laneOf s q.1).ph.excl == 0)).map (fun q =>
    let h := (laneOf s q.1).ph
    let v := variance h.hist
    { l := q.1, e := q.2, x := q.2 - h.sApp, v := v, r := (h.ramp : Rat) / 64 })

/-- The weight that R72 computes. -/
def weightOf (f : List FuseIn) (i : FuseIn) : Rat := (1 / i.v) / sumQ (f.map (fun j => 1 / j.v))

/-- The weight in use: a readmitted lane rises to its computed weight in 64 equal steps (R74), and the other lanes share
the rest in proportion to theirs. -/
def fuseWeight (f : List FuseIn) (i : FuseIn) : Rat :=
  let rising := f.filter (fun j => decide (j.r < 1))
  let up := sumQ (rising.map (fun j => j.r * weightOf f j))
  let full := sumQ ((f.filter (fun j => decide (1 ≤ j.r))).map (weightOf f))
  if full = 0 then (if up = 0 then weightOf f i else i.r * weightOf f i / up)
  else if i.r < 1 then i.r * weightOf f i
  else weightOf f i / full * (1 - up)

/-- Fused phase error, and σ² (R72). -/
def fuse (f : List FuseIn) : Rat := sumQ (f.map (fun i => fuseWeight f i * i.x))
def fuseVar (f : List FuseIn) : Rat := 1 / sumQ (f.map (fun i => 1 / i.v))

/-- The lanes' step threshold of a group (R77). -/
def stepThreshold (s : State) (g : Nat) : Rat := parG s 0x11D g

/-- The outlier condition of R74 on a lane in one cycle. -/
def isOutlier (f : List FuseIn) (i : FuseIn) : Bool :=
  let o := f.filter (fun j => j.l != i.l)
  if o.isEmpty then false else decide (25 * (i.v + fuseVar o) < (i.x - fuse o) * (i.x - fuse o))

/-- The single-lane step of R78: the lane leaves its own history by more than the threshold, the others do not. -/
def isLaneStep (s : State) (g : Nat) (f : List FuseIn) (i : FuseIn) : Bool :=
  let past := fun (j : FuseIn) => meanQ (laneOf s j.l).ph.eHist
  let o := f.filter (fun j => j.l != i.l)
  let th := stepThreshold s g
  if o.isEmpty || decide ((laneOf s i.l).ph.eHist.length < 8) || o.any (fun j => decide ((laneOf s j.l).ph.eHist.length < 8)) then false
  else decide (th < absQ (i.x - past i))
    && decide (absQ (fuse o - sumQ (o.map (fun j => fuseWeight o j * past j))) ≤ th)

/-- Counts outlier cycles and excludes the one lane that meets a condition, none where two or more do (R74, R75). -/
def excludeOne (g : Nat) (f : List FuseIn) (s : State) : State :=
  let s := f.foldl (fun s i => phMod i.l (fun h => { h with outlier := if isOutlier f i then h.outlier + 1 else 0 }) s) s
  let why := fun (i : FuseIn) =>
    if isLaneStep s g f i then 6 else if 4 ≤ (laneOf s i.l).ph.outlier then 5 else 0
  match f.filter (fun i => why i != 0) with
  | [i] => excludeLane i.l (why i) s
  | _ => s

/-- The first lane of ANCHORING, or of NO_LANE once the delay is measured again, enters with s of zero (R74, R76). -/
def admitFirst (g : Nat) (es : List (Nat × Rat)) (s : State) : State :=
  let v := (groupOf s g).servo
  if v.st = 2 ∨ (v.st = 5 ∧ v.remeasured) then
    match es.find? (fun q => !fusionOff s q.1) with
    | some q =>
      servoMod g (fun v => { v with st := 3, hist := [], tracked := 0, remeasured := false })
        (phMod q.1 (fun h => { h with
          excl := 0, sTrk := 0, sApp := 0, hist := [], eHist := [], ramp := 64, meas := none, outlier := 0 }) s)
    | none => s
  else s

/-- Residuals, histories and ramps of the lanes in fusion after a cycle (R72, R73), and the skew limit (R74). -/
def trackLanes (f : List FuseIn) (fused : Rat) (measuring : Bool) (s : State) : State :=
  let s := f.foldl (fun s i => phMod i.l (fun h => { h with
    sTrk := h.sTrk + (i.e - fused - h.sTrk) / 8000000
    hist := ((i.x - fused) :: h.hist).take 64
    eHist := if measuring then h.eHist else (i.x :: h.eHist).take 64
    weight := (roundAway (256 * fuseWeight f i)).toNat
    ramp := min 64 (h.ramp + 1) }) s) s
  let m := meanQ (f.map (fun i => (laneOf s i.l).ph.sTrk))
  let s := f.foldl (fun s i => phMod i.l (fun h => { h with
    sTrk := h.sTrk - m, sApp := h.sApp + (h.sTrk - m - h.sApp) / 64 }) s) s
  f.foldl (fun s i => if skewMax < absQ (laneOf s i.l).ph.sTrk then excludeLane i.l 8 s else s) s

/-- Lanes out of fusion and measurable gather their remeasurement against the fused value (R74). -/
def remeasure (es : List (Nat × Rat)) (fused : Rat) (s : State) : State :=
  es.foldl (fun s q => phMod q.1 (fun h =>
    if h.excl = 0 ∨ fusionOff s q.1 then h
    else { h with
      meas := some ((h.meas.getD (0, 0)).1 + 1, (h.meas.getD (0, 0)).2 + (q.2 - fused))
      hist := ((q.2 - h.sApp - fused) :: h.hist).take 64 }) s) s

/-- What the fused value does to the servo: history, detection of a common-mode step, its measurement (R77, R78). -/
def servoTake (g : Nat) (fused var : Rat) (s : State) : State :=
  let th := stepThreshold s g
  let v := (groupOf s g).servo
  let put := fun (v : GroupServo) => { v with fused := fused, sigmaSq := var }
  if v.st = 4 then
    if 8 ≤ v.measN ∧ th < absQ (fused - v.measSum / v.measN) then
      servoMod g (fun v => { put v with measN := 1, measSum := fused }) s
    else if v.measN < 64 then servoMod g (fun v => { put v with measN := v.measN + 1, measSum := v.measSum + fused }) s
    else servoMod g put s
  else if 8 ≤ v.hist.length ∧ th < absQ (fused - meanQ v.hist) then
    let s := servoMod g (fun v => { put v with
      st := 4, stepFlag := true, preMean := meanQ v.hist, heldVal := (v.hist.head?).getD fused, measN := 1, measSum := fused }) s
    (List.range 8).foldl (fun s n => phMod (8 * g + n) (fun h => { h with meas := none }) s) s
  else servoMod g (fun v => { put v with hist := (fused :: v.hist).take 64, tracked := v.tracked + 1 }) s

/-- The servo offers its port to the engines: TRACKING and STEP_MEASURE, a self-span never (R76, R110). -/
def servoOffers (s : State) (g : Nat) : Bool :=
  ((groupOf s g).servo.st == 3 || (groupOf s g).servo.st == 4) && !(timingPort s g).any (isSelfSpan s)

/-- PG_SRV_STATUS, and the lane and group words of R90. -/
def srvStatus (s : State) (g : Nat) : Word :=
  let v := (groupOf s g).servo
  let mask := ((List.range 8).map (fun n => b2n ((laneOf s (8 * g + n)).ph.excl == 0) * 2 ^ n)).sum
  let p := timingPort s g
  let held := match p with
    | some p => (portOf s p).ld.dstate == 3
    | none => false
  packW [(b2n v.valid, 31), (v.st, 28), (b2n (servoOffers s g), 27), (b2n v.stepFlag, 26), (b2n held, 25), (mask, 16),
    ((p.getD 0) % 8, 12), (v.seq, 0)]
def pairWords (v : Int) : Word × Word := (BitVec.ofNat 32 (ofSigned 64 v), BitVec.ofNat 32 (ofSigned 64 v / 2 ^ 32))
def phStatus (s : State) (l seq : Nat) : Word :=
  let h := (laneOf s l).ph
  packW [(b2n h.valid, 31), (b2n h.anchor.isSome, 30), (b2n (h.excl == 0), 29), (h.excl, 25), (h.weight, 16), (h.slips, 12), (seq, 0)]
def servoReport (g : Nat) (s : State) : State :=
  let base := 0x400000 + g * 0x10000
  let v := (groupOf s g).servo
  let put := fun (o : Nat) (w : Word) (t : Tbl Word) => Tbl.set t o w
  let f := pairWords (satS 64 (roundAway v.fused))
  let d := pairWords (satS 64 (roundAway v.delta))
  let t := put (base + 0x9000) (srvStatus s g) (put (base + 0x9004) f.1 (put (base + 0x9008) f.2
    (put (base + 0x900C) (BitVec.ofNat 32 (satU 32 (sqrtRound v.sigmaSq))) (put (base + 0x9010) d.1
    (put (base + 0x9014) d.2 (groupOf s g).rep)))))
  let t := (List.range 8).foldl (fun t n =>
    let o := base + 0x8000 + n * 0x100
    let h := (laneOf s (8 * g + n)).ph
    let w := pairWords (satS 64 h.phase)
    put (o + 0x40) (phStatus s (8 * g + n) v.seq) (put (o + 0x44) w.1 (put (o + 0x48) w.2
      (put (o + 0x4C) (BitVec.ofNat 32 h.noise) t)))) t
  groupMod g (fun x => { x with rep := t }) s

/-- A lane of the timing port is in fusion. -/
def anyFused (s : State) (g : Nat) : Bool :=
  match timingPort s g with
  | some p => (lanesOf s p).any (fun l => (laneOf s l).ph.excl == 0)
  | none => false

/-- The last lane has left fusion: NO_LANE, in which no lane is remeasured (R74, R76). -/
def noLane (g : Nat) (s : State) : State :=
  if anyFused s g then s
  else forEach ((List.range 8).map (8 * g + ·)) (phMod · (fun h => { h with meas := none }))
    (servoMod g (fun v => { v with st := 5, remeasured := false, hist := [] }) s)

/-- The phase and noise that a lane reports of a cycle, by the residual and the variance that fusion uses (R90). -/
def reportLanes (es : List (Nat × Rat)) (s : State) : State :=
  es.foldl (fun s q => phMod q.1 (fun h => { h with
    phase := roundAway (q.2 - h.sApp), noise := satU 32 (sqrtRound (variance h.hist)) }) s) s

/-- Fusion of a cycle's means (R72 to R79). -/
def servoFuse (g : Nat) (es : List (Nat × Rat)) (s : State) : State :=
  let s := reportLanes es (admitFirst g es s)
  let st := (groupOf s g).servo.st
  if st = 3 ∨ st = 4 then
    let s := excludeOne g (fuseIns s es) s
    let f := fuseIns s es
    if f.isEmpty then noLane g s
    else
      let fused := fuse f
      let var := fuseVar f
      let s := servoTake g fused var s
      let now4 := (groupOf s g).servo.st == 4
      let s := trackLanes f fused now4 s
      noLane g (if now4 then s else remeasure es fused s)
  else s

/-- The end of a servo cycle of a group: temperature, samples, fusion, blends, registers (R72, R85, R90, R226). -/
def execGroupServoCycle (g : GroupIx) (temp : Int) (lanes : List (Fin 8 × List Sample)) (s : State) :
    Host.Outcome State Fault Refusal :=
  let n := g.val
  if groupLive s n then
    let s := groupMod n (fun x => { x with temp := temp }) s
    let s := lanes.foldl (fun s q => ingest (8 * n + q.1.val) q.2 s) s
    let s := servoAdvance n s
    let es := match timingPort s n with
      | some p => lanes.filterMap (fun q =>
          let l := 8 * n + q.1.val
          if (lanesOf s p).contains l then (cycleErr s l q.2).map (fun e => (l, e)) else none)
      | none => []
    let s := servoFuse n es s
    let s := servoMod n (fun v => { v with seq := (v.seq + 1) % 4096, valid := true }) s
    let s := (List.range 8).foldl (fun s k => blendLane (8 * n + k) (phMod (8 * n + k) (fun h => { h with valid := true }) s)) s
    done (servoReport n s)
  else done s

/-- The 64 cycles of STEP_MEASURE are over: Δ, and a report to the engines or a transient (R77). -/
def execStepMeasureEnd (g : GroupIx) (s : State) : Host.Outcome State Fault Refusal :=
  let n := g.val
  let v := (groupOf s n).servo
  if v.st = 4 ∧ 64 ≤ v.measN then
    let d := v.measSum / 64 - v.preMean
    let real := decide (stepThreshold s n ≤ absQ d)
    let s := servoMod n (fun v => { v with
      st := 3, delta := d, hist := [], tracked := 0, measN := 0, measSum := 0
      reported := if real then some d else none
      transients := if real then v.transients else v.transients + 1 }) s
    done ((List.range 8).foldl (fun s k => phMod (8 * n + k) (fun h => { h with eHist := [] }) s) s)
  else done s

/-- Another lane of a lane's timing port is in fusion, and its servo is in TRACKING: remeasurement is possible (R74). -/
def mayReturn (s : State) (l : Nat) : Bool :=
  (groupOf s (l / 8)).servo.st == 3 && (match timingPort s (l / 8) with
    | some p => (lanesOf s p).contains l && (lanesOf s p).any (fun k => k != l && (laneOf s k).ph.excl == 0)
    | none => false)

/-- 8,000 cycles of remeasurement are over: the lane returns with its weight at zero; a residual beyond ±10 ps keeps it
out and starts again (R74). -/
def execLaneRemeasureEnd (l : LaneIx) (s : State) : Host.Outcome State Fault Refusal :=
  let n := l.val
  let h := (laneOf s n).ph
  match h.meas with
  | some (k, sum) =>
    if 8000 ≤ k ∧ h.excl ≠ 0 ∧ !fusionOff s n ∧ mayReturn s n then
      let r := sum / k
      if skewMax < absQ r then done (phMod n (fun h => { h with excl := 8, meas := none }) s)
      else done (phMod n (fun h => { h with
        excl := 0, sTrk := r, sApp := r, meas := none, ramp := 0, outlier := 0, eHist := []
        hist := h.hist.map (fun x => x + h.sApp - r) }) s)
    else done s
  | none => done s

/-- The group servo lock timeout: delay state NONE, bookkeeping cleared, the servo from IDLE again (R384). -/
def execGroupServoLockTimeout (g : GroupIx) (s : State) : Host.Outcome State Fault Refusal :=
  let n := g.val
  let st := (groupOf s n).servo.st
  if st = 1 ∨ st = 2 then
    match timingPort s n with
    | some p =>
      let s := recover 7 0 n (bump (groupEvent n 23) 1 s)
      let s := forEach (lanesOf s p) clearBookkeeping (delayNone p s)
      done (servoAdvance n (servoIdle n s))
    | none => done s
  else done s

end Sys2Proof.Machine
end

