-- ==== Sys2Proof/Machine/Tlv.lean ====
section
/-! DEFINITION. IEEE 1588 messages on the wire: the time field and the correctionField (R88), and the Veman TLV (R97, R98),
all in network byte order (R9). -/

namespace Sys2Proof.Machine

/-! ### Times -/

/-- A time field: 6 bytes of seconds, 4 of nanoseconds. The time it spells, in 2⁻²⁰ ns, and a time's field. -/
def wireTime (l : List Byte) : Int := (fieldBe l 0 6 * uSec + fieldBe l 6 4 * uNs : Nat)
def timeField (t : Int) : List Byte := be 6 (secOf t.toNat) ++ be 4 (nsOf t.toNat)

/-- A correctionField, in 2⁻¹⁶ ns. -/
def wireCorr (l : List Byte) : Int := toSigned 64 (fieldBe l 0 8)
def corrField (c : Int) : List Byte := be 8 (ofSigned 64 c)

/-! ### The Veman TLV -/

def signedBe (l : List Byte) (o n : Nat) : Int := toSigned (8 * n) (fieldBe l o n)

/-- A lane record. -/
def tlvLaneBytes (r : TlvLane) : List Byte :=
  be 1 r.lane ++ be 1 r.lstat ++ be 3 r.wlTx ++ be 3 r.wlRx ++ be 1 r.sigTx ++ be 1 r.sigRx ++ [0, 0]
    ++ be 4 (ofSigned 32 r.txSkew) ++ be 4 (ofSigned 32 r.extTx) ++ be 4 (ofSigned 32 r.extRx)
    ++ be 8 (ofSigned 64 r.app) ++ be 4 r.appSigma
def tlvLaneAt (l : List Byte) (o : Nat) : TlvLane :=
  { lane := fieldBe l o 1, lstat := fieldBe l (o + 1) 1, wlTx := fieldBe l (o + 2) 3, wlRx := fieldBe l (o + 5) 3
    sigTx := fieldBe l (o + 8) 1, sigRx := fieldBe l (o + 9) 1
    txSkew := signedBe l (o + 12) 4, extTx := signedBe l (o + 16) 4, extRx := signedBe l (o + 20) 4
    app := signedBe l (o + 24) 8, appSigma := fieldBe l (o + 32) 4 }

/-- The solution block. -/
def tlvSolBytes (v : PlumbSolution) : List Byte :=
  be 2 v.seq ++ be 1 v.status ++ be 1 v.pairs ++ be 4 v.residual ++ be 4 v.sigmaP
    ++ v.lanes.flatMap (fun q => be 8 (ofSigned 64 q.1) ++ be 8 (ofSigned 64 q.2))
def tlvSolAt (l : List Byte) (o n : Nat) : PlumbSolution :=
  { seq := fieldBe l o 2, status := fieldBe l (o + 2) 1, pairs := fieldBe l (o + 3) 1
    residual := fieldBe l (o + 4) 4, sigmaP := fieldBe l (o + 8) 4
    lanes := (List.range n).map (fun k => (signedBe l (o + 12 + 16 * k) 8, signedBe l (o + 20 + 16 * k) 8)) }

/-- lengthField: the bytes behind it. -/
def tlvLength (n : Nat) (solution : Bool) : Nat := 26 + 36 * n + if solution then 12 + 16 * n else 0

/-- The TLV as sent. -/
def tlvBytes (v : VemanTlv) : List Byte :=
  be 2 3 ++ be 2 (tlvLength v.lanes.length v.solution.isSome) ++ be 3 v.orgId ++ be 3 1 ++ be 1 v.version ++ be 1 v.flags
    ++ be 1 v.lanes.length ++ be 1 v.plumb ++ be 4 v.sigmaAcc ++ be 4 v.cAcc ++ be 6 v.winSec ++ be 2 v.winSeq
    ++ v.lanes.flatMap tlvLaneBytes ++ (match v.solution with
      | some x => tlvSolBytes x
      | none => [])

/-- A TLV as received: of the Veman subtype, and where its VERSION is the T24's, of 1 to 8 lanes and of the length that they
and the solution block need. -/
def tlvOf (l : List Byte) : Option VemanTlv :=
  let n := fieldBe l 12 1
  let sol := (fieldBe l 11 1).testBit 6
  let len := tlvLength n sol
  if fieldBe l 0 2 = 3 ∧ fieldBe l 7 3 = 1 ∧
      (fieldBe l 10 1 = 1 → 1 ≤ n ∧ n ≤ 8 ∧ fieldBe l 2 2 = len ∧ l.length = 4 + len) then
    some { orgId := fieldBe l 4 3, version := fieldBe l 10 1, flags := fieldBe l 11 1, plumb := fieldBe l 13 1
           sigmaAcc := fieldBe l 14 4, cAcc := fieldBe l 18 4, winSec := fieldBe l 22 6, winSeq := fieldBe l 28 2
           lanes := (List.range n).map (fun k => tlvLaneAt l (30 + 36 * k))
           solution := if sol then some (tlvSolAt l (30 + 36 * n) n) else none }
  else none

end Sys2Proof.Machine
end

