-- ==== Sys2Proof/Machine/DelayOps.lean ====
section
/-! DEFINITION. Link delay: lane pairs (R94), the split of round trips (R96, R529), Plumb (R99 to R103), windows and
their pairing (R95), path changes (R108), the Veman TLV (R97) and the report (R111). -/

namespace Sys2Proof.Machine

/-- The port is its group's timing port. -/
def isTiming (s : State) (p : Nat) : Bool := timingPort s (p / 8) == some p

/-- EXT latencies: of the local lane, and of a peer lane number, 0 without lane records (R529). -/
def extTx (s : State) (p k : Nat) : Int := ldParL s p 0x12D (p + k)
def extRx (s : State) (p k : Nat) : Int := ldParL s p 0x12E (p + k)
def peerExt (s : State) (p : Nat) (k : Nat) : Int × Int :=
  match peerLane s p (peerNo s p k) with
  | some r => (r.extTx, r.extRx)
  | none => (0, 0)

/-- Takes a lane's fibre delays: at once, or by the 64-cycle blend from what is applied (R104). -/
def setDelay (p k : Nat) (blend : Bool) (lp pl : Rat) (s : State) : State :=
  let px := peerExt s p k
  laneLdMod (p + k) (fun d =>
    let b := blend && d.hasDelay
    { d with
      fromLP := if b then blendQ d.fromLP d.fLP d.blend else lp
      fromPL := if b then blendQ d.fromPL d.fPL d.blend else pl
      fLP := lp, fPL := pl, blend := if b then 0 else 64
      extRx := px.1 + extRx s p k, extTx := extTx s p k + px.2, hasDelay := true, delta := lp - pl }) s

/-- The configured asymmetry Δ_i on a round trip (R106). -/
def cfgDelta (s : State) (p k : Nat) (rt : Rat) : Rat :=
  (ldParL s p 0x136 (p + k) : Rat) * rt / 2 ^ 40 + (ldPar s p 0x137 p : Rat)

/-- COARSE values: RT_port split on every lane with the configured asymmetry and its uncertainty (R102, R529). -/
def splitCoarse (p : Nat) (rt : Rat) (s : State) : State :=
  let sfb : Rat := ldPar s p 0x135 p
  let s := ldMod p (fun d => { d with sigmaPSq := sfb * sfb, sigma := satU 32 (ldPar s p 0x135 p).toNat }) s
  (List.range (laneCount s p)).foldl (fun s k =>
    let px := peerExt s p k
    let rf := rt - extTx s p k - extRx s p k - px.1 - px.2
    let d := cfgDelta s p k rf
    laneLdMod (p + k) (fun x => { x with sigSq := sfb * sfb }) (setDelay p k false ((rf + d) / 2) ((rf - d) / 2) s)) s

/-- A change of the Plumb status or the delay state since `old` is reported (R469). -/
def plumbEvent (p : Nat) (old s : State) : State :=
  let a := (portOf old p).ld; let b := (portOf s p).ld
  if a.plumb = b.plumb ∧ a.dstate = b.dstate then s
  else issueEvent 0x0410 p [BitVec.ofNat 8 b.plumb, BitVec.ofNat 8 b.dstate] s

/-! ### Plumb -/

/-- One pair in the fit: lane number, wavelengths in µm, their uncertainties in pm, the mean round trip. -/
structure FitPair where
  k  : Nat
  lf : Rat
  lr : Rat
  sf : Nat
  sr : Nat
  rt : Rat

def FitPair.s (x : FitPair) : Rat := x.lf * x.lf + x.lr * x.lr
def FitPair.t (x : FitPair) : Rat := 1 / (x.lf * x.lf) + 1 / (x.lr * x.lr)
def FitPair.g (x : FitPair) : Rat × Rat := (x.lf * x.lf - x.lr * x.lr, 1 / (x.lf * x.lf) - 1 / (x.lr * x.lr))

/-- The least-squares fit of R99: a, b, c, M, and the squares of RESIDUAL and G; none where the spread leaves it
singular. -/
structure Fit where
  a : Rat
  b : Rat
  c : Rat
  m : Rat × Rat × Rat
  gSq : Rat
  resSq : Rat
  n : Nat

def gSqOf (m : Rat × Rat × Rat) (g : Rat × Rat) : Rat := m.1 * g.1 * g.1 + 2 * m.2.1 * g.1 * g.2 + m.2.2 * g.2 * g.2
def maxQ (l : List Rat) : Rat := l.foldl max 0

def fitPlumb (l : List FitPair) : Option Fit :=
  let sm := meanQ (l.map (·.s)); let tm := meanQ (l.map (·.t)); let rm := meanQ (l.map (·.rt))
  let ss := sumQ (l.map (fun x => (x.s - sm) * (x.s - sm)))
  let tt := sumQ (l.map (fun x => (x.t - tm) * (x.t - tm)))
  let st := sumQ (l.map (fun x => (x.s - sm) * (x.t - tm)))
  let det := ss * tt - st * st
  if det ≤ 0 then none
  else
    let m := (tt / det, -st / det, ss / det)
    let sr := sumQ (l.map (fun x => (x.s - sm) * (x.rt - rm)))
    let tr := sumQ (l.map (fun x => (x.t - tm) * (x.rt - rm)))
    let b := m.1 * sr + m.2.1 * tr
    let c := m.2.1 * sr + m.2.2 * tr
    let a := (rm - b * sm - c * tm) / 2
    let ee := sumQ (l.map (fun x => let e := x.rt - 2 * a - b * x.s - c * x.t; e * e))
    some { a := a, b := b, c := c, m := m, gSq := maxQ (l.map (fun x => gSqOf m x.g))
           resSq := if l.length ≤ 3 then 0 else ee / (l.length - 3 : Nat), n := l.length }

/-- L·D(λ), and the wavelength term ½·|L·D|·σ in phase units (R100, R101). -/
def slope (f : Fit) (x : Rat) : Rat := 2 * f.b * x - 2 * f.c / (x * x * x)
def wlTerm (f : Fit) (x : Rat) (sig : Nat) : Rat := absQ (slope f x) * sig / 1000000 / 2

/-- RESIDUAL squared as R101 puts it to use. -/
def resUsed (s : State) (p : Nat) (f : Fit) : Rat :=
  if f.n ≤ 3 then (ldPar s p 0x134 p : Rat) * ldPar s p 0x134 p else f.resSq

/-- σ_d,i squared (R101). -/
def sigSqOf (s : State) (p : Nat) (f : Fit) (x : FitPair) : Rat :=
  resUsed s p f * gSqOf f.m x.g / 4 + wlTerm f x.lf x.sf * wlTerm f x.lf x.sf + wlTerm f x.lr x.sr * wlTerm f x.lr x.sr

/-- A lane of the port with a round trip in the window. -/
structure RtLane where
  k    : Nat
  j    : Nat
  rt   : Rat
  mean : Rat
  sigOk : Bool
  wl   : Option (Nat × Nat × Nat × Nat)

def RtLane.toFit (x : RtLane) : Option FitPair :=
  x.wl.map (fun w => { k := x.k, lf := (w.1 : Rat) / 1000000, lr := (w.2.1 : Rat) / 1000000, sf := w.2.2.1, sr := w.2.2.2, rt := x.mean })

/-- The Plumb status that the conditions of R100 give, and the fit where one was made. -/
def plumbJudge (s : State) (p : Nat) (l : List RtLane) : Nat × Option Fit :=
  let ok := l.filter (·.sigOk)
  let use := ok.filterMap (·.toFit)
  if ldPar s p 0x128 p = 0 then (0, none)
  else if !(ldPar s p 0x129 p == 1 || (ldPar s p 0x129 p == 0 && (portOf s p).ld.bidi)) then (3, none)
  else if !wlComplete s p then (4, none)
  else if (List.range (laneCount s p)).any (fun k => (pairOf s p k).isNone) then (8, none)
  else if use.length < 3 then (if 3 ≤ ok.length then 4 else 5, none)
  else
    let combos := (use.map (fun x => (x.lf, x.lr))).dedup
    let ws := use.flatMap (fun x => [x.lf, x.lr])
    let span := ws.foldl max 0 - ws.foldl min 10
    match fitPlumb use with
    | none => (6, none)
    | some f =>
      let gm : Rat := ldPar s p 0x130 p
      if combos.length < 3 ∨ span < (ldPar s p 0x12F p : Rat) / 1000 ∨ gm * gm < f.gSq then (6, some f)
      else if use.any (fun x => x.sf == 255 || x.sr == 255
          || decide ((ldPar s p 0x131 p : Rat) < max (wlTerm f x.lf x.sf) (wlTerm f x.lr x.sr))) then (4, some f)
      else
        let rm : Rat := ldPar s p 0x132 p
        let sx : Rat := ldPar s p 0x133 p
        if rm * rm < resUsed s p f ∨ sx * sx < maxQ (use.map (sigSqOf s p f)) then (7, some f) else (1, some f)

/-- A path change (R108): COARSE values, of which no window has judged the lanes (R105); the streams that cross the link are
to be planned again (R326). -/
def pathChange (p : Nat) (s : State) : State :=
  let s := forEach (lanesOf s p) (laneLdMod · (fun d => { d with rtPrev := none, rtHist := [], app := none, appPrev := none, winBad := true })) s
  let s := exchMod p (fun x => { x with rts := [], suspect := false }) s
  let s := ldMod p (fun d => { d with
    dstate := if d.dstate = 2 ∨ d.dstate = 3 then 4 else d.dstate
    plumb := if d.dstate = 0 then 0 else (plumbJudge s p []).1
    pathChange := true, rtMean := 0 }) s
  let s := issueEvent 0x0411 p [] s
  let s := calMod (fun c => { c with streams := c.streams.map (fun (x : Stream) =>
    if x.ports.contains p || x.links.contains p then { x with replan := true } else x) }) s
  match (portOf s p).exch.rtLast with
  | some rt => if (portOf s p).ld.dstate ≠ 0 then splitCoarse p rt s else s
  | none => s

/-! ### Windows -/

/-- Which end of a link solves (R103). -/
def solves (s : State) (p : Nat) : Bool :=
  match (vget s.fab.adj p {}).hello with
  | some h => decide (Config.serial.toNat < h.serial) || (h.serial == Config.serial.toNat && decide (p ≤ h.port))
  | none => true

/-- A window's mean and the square of its standard deviation of the mean. -/
def winResult (d : LaneLd) : Option (Rat × Rat) :=
  if d.winBad ∨ d.winN = 0 then none
  else
    let m := d.winSum / d.winN
    some (m, (d.winSq / d.winN - m * m) / d.winN)

/-- The running window ends: each lane's result, and a new window begins (R95). -/
def windowClose (p : Nat) (s : State) : State :=
  let disc := decide (0 < (portOf s p).ld.winDiscard)
  let s := forEach (lanesOf s p) (fun l s =>
    let whole := (laneOf s l).st == .ready && (laneOf s l).ph.anchor.isSome && !disc
    laneLdMod l (fun d => { d with
      appPrev := d.app, app := if whole then winResult d else none
      winN := 0, winSum := 0, winSq := 0, winBad := false }) s) s
  ldMod p (fun d => { d with
    prevSec := d.winSec, prevDisc := d.lastDisc, lastDisc := disc
    winSec := secOf s.clk.now, winSeq := (d.winSeq + 1) % 65536, winDiscard := d.winDiscard - 1 }) s

/-- Which local window the last peer window pairs with: the latest (true) or the one before (R95). -/
def pairedWindow (s : State) (p : Nat) : Option Bool :=
  let d := (portOf s p).ld
  match d.peer with
  | none => none
  | some v =>
    if d.peerUsed = some (v.winSec, v.winSeq) ∨ !v.flags.testBit 5 then none
    else
      let test := fun (f : LaneLd → Option (Rat × Rat)) (sec : Nat) =>
        let apps := (lanesOf s p).filterMap (fun l => (f (laneOf s l).ld).map (·.1))
        !apps.isEmpty && decide (absQ ((v.winSec * uSec : Nat) + meanQ apps - (sec * uSec : Nat)) < (uSec : Rat) / 2)
      if test (·.app) d.winSec then some true
      else if test (·.appPrev) d.prevSec then some false
      else none

/-- The round trips of a pair of windows (R94, R95), with the history mean that includes this one (R99). -/
def roundTrips (s : State) (p : Nat) (latest : Bool) : List RtLane :=
  (List.range (laneCount s p)).filterMap (fun k =>
    let d := (laneOf s (p + k)).ld
    let j := peerNo s p k
    match (if latest then d.app else d.appPrev), peerLane s p j with
    | some (m, var), some r =>
      if tlvApp r then
        let rt := m + r.app - extTx s p k - r.extRx - r.extTx - extRx s p k
        let lim := ps (1 / 2)
        some { k := k, j := j, rt := rt, mean := meanQ ((rt :: d.rtHist).take 64)
               sigOk := decide (var ≤ lim * lim) && decide ((r.appSigma : Rat) ≤ lim)
               wl := if tlvWl r then waves s p (p + k) else none }
      else none
    | _, _ => none)

/-- Splits the round trips of a window as the solver of the link (R99, R103, R106). -/
def solveOwn (p : Nat) (l : List RtLane) (s : State) : State :=
  let (st, fit) := plumbJudge s p l
  let sfb : Rat := ldPar s p 0x135 p
  let bias : Rat := (ldPar s p 0x138 p : Rat) / 2 ^ 40
  let one := fun (x : RtLane) (s : State) =>
    let (d, sq) := match st, fit, x.toFit with
      | 1, some f, some w => (f.b * w.g.1 + f.c * w.g.2 + bias * x.mean, sigSqOf s p f w)
      | _, _, _ => (cfgDelta s p x.k x.mean, sfb * sfb)
    laneLdMod (p + x.k) (fun y => { y with sigSq := sq })
      (setDelay p x.k true (roundAway ((x.mean + d) / 2)) (roundAway ((x.mean - d) / 2)) s)
  let s := l.foldl (fun s x => one x s) s
  let used := l.filter (fun x => x.sigOk && x.wl.isSome)
  let sp := match st, fit with
    | 1, some f => maxQ (used.filterMap (fun x => x.toFit.map (sigSqOf s p f)))
    | _, _ => sfb * sfb
  let resid := match st, fit with
    | 1, some f => if f.n ≤ 3 then 4294967295 else satU 32 (sqrtRound f.resSq)
    | _, _ => 4294967295
  let n := if st = 1 then used.length else 0
  let seq := ((portOf s p).ld.solSeq + 1) % 65536
  ldMod p (fun d => { d with
    plumb := st, pairs := n, resid := resid, sigmaPSq := sp, sigma := satU 32 (sqrtRound sp)
    geom := match fit with
      | some f => satU 32 (sqrtRound (f.gSq * 65536))
      | none => 0
    solSeq := seq
    solution := some { seq := seq, status := st, pairs := n, residual := resid, sigmaP := satU 32 (sqrtRound sp)
                       lanes := (lanesOf s p).map (fun l => (roundAway (laneOf s l).ld.fLP, roundAway (laneOf s l).ld.fPL)) } }) s

/-- Adopts the solver's solution mirrored; without one, the lanes are split with the configured asymmetry (R103). -/
def solvePeer (p : Nat) (l : List RtLane) (s : State) : State :=
  match (portOf s p).ld.peer.bind (·.solution) with
  | some v =>
    let sg : Rat := v.sigmaP
    let s := l.foldl (fun s x =>
      match v.lanes[x.j]? with
      | some (fo, fi) => laneLdMod (p + x.k) (fun y => { y with sigSq := sg * sg }) (setDelay p x.k true fi fo s)
      | none => s) s
    let bad := l.any (fun x => match v.lanes[x.j]? with
      | some (fo, fi) => decide (ps 1 < absQ (x.rt - (fo + fi : Int)))
      | none => false)
    ldMod p (fun d => { d with
      plumb := if v.status = 1 ∨ v.status = 9 then 2 else v.status
      pairs := v.pairs, resid := v.residual, sigmaPSq := sg * sg, sigma := v.sigmaP, geom := 0
      rtMismatch := d.rtMismatch || bad }) s
  | none =>
    let sfb : Rat := ldPar s p 0x135 p
    let s := l.foldl (fun s x =>
      let d := cfgDelta s p x.k x.mean
      laneLdMod (p + x.k) (fun y => { y with sigSq := sfb * sfb })
        (setDelay p x.k true (roundAway ((x.mean + d) / 2)) (roundAway ((x.mean - d) / 2)) s)) s
    ldMod p (fun d => { d with plumb := 0, pairs := 0, resid := 4294967295, sigmaPSq := sfb * sfb, sigma := satU 32 (roundAway sfb).toNat, geom := 0 }) s

/-- The self-span results (R110). -/
def selfSpan (p : Nat) (l : List RtLane) (latest : Bool) (s : State) : State :=
  if isSelfSpan s p then
    let one := fun (x : RtLane) =>
      let d := (laneOf s (p + x.k)).ld
      match (if latest then d.app else d.appPrev), peerLane s p x.j with
      | some (m, _), some r =>
        let tr := (r.app - extTx s p x.k - r.extRx : Rat) - (m - r.extTx - extRx s p x.k)
        some (tr, if x.mean = 0 then 0 else (tr - d.delta) / x.mean)
      | _, _ => none
    let rs := l.filterMap one
    let of := fun (k : Nat) => (((l.find? (fun x => x.k == k)).bind one).map (fun r => roundAway r.1)).getD 0
    ldMod p (fun d => { d with
      deltaTrue := (List.range (laneCount s p)).map of, biasMeas := satS 32 (roundAway (meanQ (rs.map (·.2)) * 2 ^ 40)) }) s
  else s

/-- PG_LD_STATUS (R111). -/
def ldStatus (s : State) (p : Nat) : Word :=
  let d := (portOf s p).ld
  packW [(b2n d.valid, 31), (d.dstate, 28), (d.plumb, 24), (b2n d.solver, 23), (b2n d.rtMismatch, 22), (b2n d.pathChange, 21),
    (b2n d.selfSpan, 20), (d.pairs, 16), (d.seq, 0)]
def ldReport (p : Nat) (s : State) : State :=
  let g := p / 8
  let base := 0x400000 + g * 0x10000
  let d := (portOf s p).ld
  let rt := pairWords d.rtMean
  let t := (groupOf s g).rep
  let t := if reportPort s g = some p then
      [(0x9100, ldStatus s p), (0x9104, BitVec.ofNat 32 d.resid), (0x9108, BitVec.ofNat 32 d.sigma),
        (0x910C, BitVec.ofNat 32 d.geom), (0x9110, rt.1), (0x9114, rt.2)].foldl (fun t e => Tbl.set t (base + e.1) e.2) t
    else t
  let t := (lanesOf s p).foldl (fun t l =>
    let o := base + 0x8000 + l % 8 * 0x100
    let x := (laneOf s l).ld
    let rx := pairWords (roundAway (dRx x)); let tx := pairWords (roundAway (dTx x))
    [(0x50, rx.1), (0x54, rx.2), (0x58, tx.1), (0x5C, tx.2), (0x60, BitVec.ofNat 32 (satU 32 (sqrtRound x.sigSq)))].foldl
      (fun t e => Tbl.set t (o + e.1) e.2) t) t
  groupMod g (fun x => { x with rep := t }) s

/-- A window without usable data: VALID falls to HELD, a solution is held (R105, R107). -/
def windowEmpty (p : Nat) (s : State) : State :=
  ldMod p (fun d => { d with
    dstate := if d.dstate = 2 then 3 else d.dstate
    heldSince := if d.dstate = 2 then s.clk.elapsed else d.heldSince
    plumb := if d.plumb = 1 ∨ d.plumb = 2 then 9 else d.plumb
    solution := d.solution.map (fun v => if d.plumb = 1 then { v with status := 9 } else v) }) s

/-- A usable window (R99 to R108). -/
def windowUse (p : Nat) (latest : Bool) (l : List RtLane) (s : State) : State :=
  let used := (portOf s p).ld.peer.map (fun v => (v.winSec, v.winSeq))
  let s := ldMod p (fun d => { d with peerUsed := used }) s
  let step : Rat := par s 0x139 p
  let moved := l.all (fun x => match (laneOf s (p + x.k)).ld.rtPrev with
    | some r => decide (step < absQ (x.rt - r))
    | none => false)
  if moved ∧ ((portOf s p).ld.dstate = 2 ∨ (portOf s p).ld.dstate = 3) then pathChange p s
  else
    let s := l.foldl (fun s x => laneLdMod (p + x.k) (fun d => { d with
      rtPrev := some x.rt, rtHist := (x.rt :: d.rtHist).take 64 }) s) s
    let s := if solves s p then solveOwn p l s else solvePeer p l s
    let s := selfSpan p l latest s
    let s := if (portOf s p).ld.dstate = 2 then s
      else ldMod p (fun d => { d with dstate := 2 }) s
    if (groupOf s (p / 8)).servo.st = 5 ∧ isTiming s p then servoMod (p / 8) (fun v => { v with remeasured := true }) s else s

/-- Whether two windows' parameters measure the same round trips: wavelengths, EXT values, path and BIAS (R104). -/
def samePath (a b : Tbl Int) : Bool :=
  let of := fun (t : Tbl Int) => t.filter (fun e => [0x129, 0x12A, 0x12B, 0x12D, 0x12E, 0x138].contains (e.1 / 2 ^ 24))
  of a == of b

/-- Takes up the next window's parameters; a change of those that R104 names discards the window history. -/
def windowLatch (p : Nat) (s : State) : State :=
  let c := ldCfgNow s p
  let d := (portOf s p).ld
  let s := ldMod p (fun d => { d with cfg := c }) s
  if samePath d.cfg c ∨ d.cfg = [] then s
  else forEach (lanesOf s p) (laneLdMod · (fun d => { d with rtPrev := none, rtHist := [] })) s

/-! ### The exchange -/

/-- The Veman TLV that this port's next message carries (R97, R98). -/
def tlvLaneOf (s : State) (p k : Nat) : TlvLane :=
  let l := p + k
  let e := latEntry s l (setOf s l)
  let w := waves s p l
  let a := (laneOf s l).ld.app
  { lane := l % 8
    lstat := e.source * 16 + b2n ((laneOf s l).ph.excl == 0) * 8 + b2n w.isSome * 4 + b2n a.isSome * 2
    wlTx := (w.map (·.1)).getD 0, wlRx := (w.map (·.2.1)).getD 0
    sigTx := (w.map (·.2.2.1)).getD 255, sigRx := (w.map (·.2.2.2)).getD 255
    txSkew := satS 32 (Config.txSkew l), extTx := satS 32 (extTx s p k), extRx := satS 32 (extRx s p k)
    app := satS 64 (roundAway ((a.map (·.1)).getD 0)), appSigma := satU 32 (sqrtRound ((a.map (·.2)).getD 0)) }

def ownTlv (s : State) (p : Nat) : VemanTlv :=
  let d := (portOf s p).ld
  let sol := if solves s p then d.solution else none
  let any := (lanesOf s p).any (fun l => (laneOf s l).ld.app.isSome)
  { orgId := parN s 0x1C2 0, version := 1
    flags := b2n (solves s p) * 128 + b2n sol.isSome * 64 + b2n any * 32
    plumb := d.plumb, sigmaAcc := s.clk.sigmaAcc, cAcc := s.clk.cAcc, winSec := d.winSec, winSeq := d.winSeq
    lanes := (List.range (laneCount s p)).map (tlvLaneOf s p), solution := sol }

/-- Takes a received TLV: another organisation's is none of the T24's, another VERSION is ignored and counted (R97). -/
def takeTlv (p : Nat) (l : List Byte) (s : State) : State :=
  match tlvOf l with
  | none => s
  | some v =>
    if v.orgId ≠ parN s 0x1C2 0 ∨ !kindFab s p then s
    else if v.version ≠ 1 then bump 23 1 (exchMod p (fun x => { x with tlvIgnored := x.tlvIgnored + 1 }) s)
    else ldMod p (fun d => { d with peer := some v }) s

/-- The exchange runs on a port: it is UP and its data plane is out of reset (R20, R91). -/
def exchOn (s : State) (p : Nat) : Bool := portUsed s p && (portOf s p).st == .up && s.rst.data.isNone && groupLive s (p / 8)

/-- The role of a port (R91, R92): a fabric port acts in both. -/
def ptpRole (s : State) (p : Nat) : Int := par s 0x119 p
def asMaster (s : State) (p : Nat) : Bool := kindFab s p || ptpRole s p == 1
def asSlave (s : State) (p : Nat) : Bool := kindFab s p || ptpRole s p == 2
def asAs (s : State) (p : Nat) : Bool := !kindFab s p && ptpRole s p == 3

/-- The peer's time: its time field, and the sub-nanosecond part of its correction (R88). -/
def peerTime (origin corr : List Byte) : Rat := (wireTime origin : Rat) + (wireCorr corr % 65536 : Int) * 16
/-- A local time split for a message: whole nanoseconds in 2⁻²⁰ ns, and the fraction in 2⁻¹⁶ ns (R88). -/
def splitTime (t : Rat) : Int × Int :=
  let u := roundAway t
  (u / 1048576 * 1048576, roundAway (((u % 1048576 : Int) : Rat) / 16))
/-- A message of the exchange leaves. -/
def ptpSend (p kind seq : Nat) (time corr : Int) (tlv : List Byte) (s : State) : State :=
  exchMod p (fun x => { x with
    sent := { kind := kind, seqId := seq % 65536, time := timeField time, corr := corrField corr, tlv := tlv } :: x.sent }) s
/-- An event message leaves: in one-step mode with its departure time, in two-step mode without one (R88). -/
def ptpEvent (p kind seq : Nat) (t : Rat) (tlv : List Byte) (s : State) : State :=
  if par s 0x118 p = 0 then ptpSend p kind seq (splitTime t).1 (splitTime t).2 tlv s else ptpSend p kind seq 0 0 tlv s

/-- A completed exchange: RT_port, its mean, a path change by the second outlier, COARSE (R93, R107, R108, R529). An outlier
that is discarded splits nothing. -/
def exchangeDone (p : Nat) (rt : Rat) (old : State) : State :=
  let s := old
  let x := (portOf s p).exch
  let off := !x.rts.isEmpty && decide ((par s 0x139 p : Rat) < absQ (rt - meanQ x.rts))
  let s := exchMod p (fun x => { x with exchanges := x.exchanges + 1 }) s
  if off && !x.suspect then bump 25 1 (exchMod p (fun x => { x with suspect := true, outliers := x.outliers + 1 }) s)
  else
    let s := if off then pathChange p s else s
    let s := exchMod p (fun x => { x with suspect := false, rts := (rt :: x.rts).take 64, rtLast := some rt }) s
    let m := meanQ (portOf s p).exch.rts
    let s := ldMod p (fun d => { d with
      rtMean := roundAway m, dstate := if d.dstate = 0 then 1 else d.dstate
      plumb := if d.dstate = 0 ∧ kindFab s p then (plumbJudge s p []).1 else d.plumb }) s
    let st := (portOf s p).ld.dstate
    plumbEvent p old (servoAdvance (p / 8) (if st = 1 ∨ st = 4 ∨ !kindFab s p then splitCoarse p rt s else s))

/-- A step in the peer's time words, seen as one difference on every anchored lane: two of this end's windows are
discarded (R71, R109). -/
def peerStepped (s : State) (p : Nat) (m : RxMsg) (t1 : Rat) : Bool :=
  match anchorDiffs s p m t1 with
  | [] => false
  | q :: r => decide (1 / 4 < absQ q.2) && r.all (fun x => decide (absQ (x.2 - q.2) ≤ 1 / 4)) &&
      (anchorLoss (q :: r)).isNone
def discardWindows (p : Nat) (s : State) : State :=
  let s := forEach (lanesOf s p) (laneLdMod · (fun d => { d with app := none })) s
  ldMod p (fun d => { d with lastDisc := true, winDiscard := max d.winDiscard 1 }) s

/-- The departure time of a Sync is known: anchors of a fabric port, and the exchange's t1 and t2. -/
def syncKnown (p : Nat) (e : RxEvent) (t1 : Rat) (s : State) : State :=
  let s := exchMod p (fun x => { x with t1 := some t1, t2 := some e.t, t2Lane := some e.msg.lane, sync := none }) s
  if kindFab s p then
    let stepped := peerStepped s p e.msg t1
    let s := takeAnchor p e.msg t1 s
    if stepped then discardWindows p s else s
  else s

end Sys2Proof.Machine
end

