-- ==== Sys2Proof/Machine/RefOps.lean ====
section
/-! DEFINITION. The references: views and their state changes (R112 to R120), conditioners (R113, R115, R528), what a
reference carries, budgets (R126), ranking (R125), eligibility (R347), time of day (R40). -/

namespace Sys2Proof.Machine

def engOf (s : State) (e : Nat) : Engine := vget s.te.eng e {}
def engxOf (s : State) (e : Nat) : EngineX := vget s.te.engx e {}
def engMod (e : Nat) (f : Engine → Engine) (s : State) : State := { s with te := { s.te with eng := vmodN s.te.eng e f } }
def engxMod (e : Nat) (f : EngineX → EngineX) (s : State) : State := { s with te := { s.te with engx := vmodN s.te.engx e f } }
def refOf (s : State) (r : Nat) : Reference := vget s.te.ref r {}
def refMod (r : Nat) (f : Reference → Reference) (s : State) : State := { s with te := { s.te with ref := vmodN s.te.ref r f } }
def condMod (r : Nat) (f : Conditioner → Conditioner) (s : State) : State := refMod r (fun x => { x with cond := f x.cond }) s
def ksMod (f : Keystone → Keystone) (s : State) : State := { s with te := { s.te with ks := f s.te.ks } }

/-- The engine in control; TE-A where none is. Its view of the references is the one reported (R112). -/
def ctl (s : State) : Nat := (s.te.ks.control.map (·.val)).getD 0
def viewOf (s : State) (r : Nat) : RefView := vget (engxOf s (ctl s)).refs r {}
def viewMod (r : Nat) (f : RefView → RefView) (s : State) : State :=
  engxMod (ctl s) (fun x => { x with refs := vmodN x.refs r f }) s

/-- The reference numbers (R112), and the external ones. -/
def refList : List Nat := [0, 1, 2, 3, 4, 5] ++ (List.range 24).map (· + 8)
def isExt (r : Nat) : Bool := decide (r < 6)

/-- Codes of R40, R119 and R135. -/
def todCode : TodSt → Nat
  | .unset => 0 | .set => 1 | .traceable => 2 | .holdover => 3 | .coarse => 4
def refCode : RefSt → Nat
  | .disabled => 0 | .absent => 1 | .qualifying => 2 | .wtr => 3 | .available => 4 | .suspect => 5 | .disqualified => 6
def refOfCode : Nat → RefSt
  | 1 => .absent | 2 => .qualifying | 3 => .wtr | 4 => .available | 5 => .suspect | 6 => .disqualified | _ => .disabled
def servoCode : ServoSt → Nat
  | .freeRun => 0 | .acquire => 1 | .locked => 2 | .holdover => 3 | .swOpen => 4 | .swClosed => 5
def servoOfCode : Nat → ServoSt
  | 1 => .acquire | 2 => .locked | 3 => .holdover | 4 => .swOpen | 5 => .swClosed | _ => .freeRun

/-- The time-of-day state changes, and is reported (R40, R453). -/
def setTod (t : TodSt) (s : State) : State :=
  if s.clk.tod = t then s
  else issueEvent 0x0102 0 [BitVec.ofNat 8 (todCode t), BitVec.ofNat 8 (todCode s.clk.tod)]
    { s with clk := { s.clk with tod := t } }

/-- The state of an engine's servo changes; the engine in control reports it (R135, R453). -/
def setServo (e : Nat) (st : ServoSt) (s : State) : State :=
  let old := (engOf s e).st
  if old = st then s
  else
    let s := engMod e (fun x => { x with st := st, lockCnt := 0, unlockCnt := 0 }) s
    if e = ctl s then issueEvent 0x0203 e [BitVec.ofNat 8 (servoCode st), BitVec.ofNat 8 (servoCode old)] s else s

/-- PRIORITY. -/
def prioOf (s : State) (r : Nat) : Nat := parN s 0x02 r

/-- The seconds that a state's interval lasts, as of now: QUAL_TIME, WAIT_TO_RESTORE, DISQ_HOLD (R120). -/
def intervalOf (s : State) (r : Nat) (st : RefSt) (why : Nat) : Nat :=
  match st with
  | .qualifying => parN s 0x08 r
  | .wtr => (parE s 0x20 (ctl s)).toNat
  | .disqualified => if why = 5 ∨ why = 6 ∨ why = 8 then (parE s 0x2B (ctl s)).toNat else 0
  | _ => 0

/-- A reference changes state, and the change is reported (R120, R453). -/
def setRef (r : Nat) (st : RefSt) (why : Nat) (s : State) : State :=
  let old := viewOf s r
  if old.st = st ∧ old.reason = why then s
  else
    let s := viewMod r (fun v => { v with st := st, reason := why, since := s.clk.elapsed, len := intervalOf s r st why }) s
    let s := refMod r (fun x => { x with suspGood := 0 }) s
    let s := if st = .qualifying then
        refMod r (fun x => { x with
          okFreq := false, okWander := false, okSignal := false, badFreq := false, badWander := false, badXcmp := false
          wandN := 0, wander := [] }) s
      else if st = .absent ∨ st = .disabled then
        refMod r (fun x => { x with
          signal := x.signal && st != .absent, change10 := none, raw10 := none, wandN := 0, wander := [], utc := none
          cond := { x.cond with
            last := if st = .absent then none else x.cond.last, resolved := false
            hist := [], count := 0, measuring := false, measN := 0, measSum := 0, sub := 0, fresh := false } }) s
      else s
    issueEvent 0x0201 r [BitVec.ofNat 8 (refCode st), BitVec.ofNat 8 why, BitVec.ofNat 8 (refOf s r).rank] s

/-- Signal or offer lost (R118, R120): a reference held by software stays disqualified. -/
def loseRef (r : Nat) (s : State) : State :=
  let v := viewOf s r
  if v.st = .disabled ∨ v.st = .absent ∨ (v.st = .disqualified ∧ v.reason = 9) then
    refMod r (fun x => { x with signal := false }) s
  else setRef r .absent 1 s

/-- A monitor fails: QUALIFYING to SUSPECT become DISQUALIFIED (R118, R120). -/
def disqualify (r why : Nat) (s : State) : State :=
  match (viewOf s r).st with
  | .qualifying | .wtr | .available | .suspect => setRef r .disqualified why s
  | _ => s

/-- The condition behind a disqualification clears (R120). -/
def requalify (r why : Nat) (s : State) : State :=
  if (viewOf s r).st = .disqualified ∧ (viewOf s r).reason = why then setRef r .qualifying 0 s else s

/-- The reference has a signal to judge. -/
def refPresent (s : State) (r : Nat) : Bool := refList.contains r && (viewOf s r).st != .disabled && (viewOf s r).st != .absent
def isQualified (s : State) (r : Nat) : Bool :=
  (viewOf s r).st == .wtr || (viewOf s r).st == .available || (viewOf s r).st == .suspect
def selectable (s : State) (r : Nat) : Bool :=
  ((viewOf s r).st == .available || (viewOf s r).st == .suspect) && decide (prioOf s r < 15)

/-! ### What a reference offers and carries -/

/-- Why a port is not eligible (R347), 0 when it is. -/
def ineligOf (s : State) (p : Nat) : Nat :=
  let a := vget s.fab.adj p {}
  let unknown := 4294967295
  match a.hello with
  | none => 1
  | some h =>
    let tod := bits h.timing 5 3
    if a.st != .twoWay then 1
    else if !h.caps.testBit 15 || (tod != 2 && tod != 3) then 2
    else if h.sigmaAcc = unknown ∨ h.cAcc = unknown then 3
    else if h.flags.testBit 3 then 4
    else if parN s 0x1C9 0 ≤ h.depth then 5
    else if h.treeId = Config.serial.toNat then 6
    else if s.clk.sigmaAcc = unknown ∨ s.clk.cAcc = unknown then 0
    else if 2576 * h.sigmaAcc + 1000 * h.cAcc < 2576 * s.clk.sigmaAcc + 1000 * s.clk.cAcc then 0 else 7

/-- A group servo's port is offered as a reference (R76, R114). -/
def portOffered (s : State) (g : Nat) : Bool :=
  match timingPort s g with
  | some p =>
    let v := (groupOf s g).servo
    (v.st == 3 || v.st == 4) && (vget s.fab.adj p {}).inelig == 0 && ((portOf s p).ld.dstate == 2 || (portOf s p).ld.dstate == 3)
      && !isSelfSpan s p
  | none => false

def refSignal (s : State) (r : Nat) : Bool := if isExt r then (refOf s r).signal else portOffered s (r - 8)

/-- The PPSIN that TODIN labels. -/
def todPair (s : State) : Nat := if parV s 0x44 = 0 then 4 else 5

/-- What a reference carries: 0 frequency, 1 phase to the second, 2 time of day (R112, R113, R117). A paired REFIN carries
more than frequency once a pulse of its PPSIN has told which of its periods begins the second. -/
def carriesOf (s : State) (r : Nat) : Nat :=
  if 8 ≤ r then 2
  else
    let pps := if r < 4 then (if (refOf s r).cond.resolved then parN s 0x0D r else 0) else r
    if pps = 4 ∨ pps = 5 then (if s.te.tod.todOk ∧ todPair s = pps then 2 else 1) else 0

/-- The reference's offset in full time, where it carries time of day. -/
def todOffset (s : State) (r : Nat) : Rat :=
  let raw := (refOf s r).raw
  if isExt r then raw - (uSec : Int) * roundAway (raw / uSec) + (s.te.tod.offSec * (uSec : Int) : Int) else raw

/-! ### Budgets and ranks -/

/-- σ_hop squared (R102). -/
def sigmaHopSq (s : State) (p : Nat) : Rat :=
  let inF := (lanesOf s p).filter (fun l => (laneOf s l).ph.excl == 0)
  let good := !inF.isEmpty && inF.all (fun l => decide (1 ≤ (latEntry s l (setOf s l)).source) &&
    (peerLane s p (peerNo s p (l - p))).any (fun t => decide (1 ≤ t.lstat / 16)))
  let cal := if good then ps (12 / 10) else ps 5
  cal * cal + (portOf s p).ld.sigmaPSq + ps 1 * ps 1 * ((9 : Rat) / 100 + 25 / 100 + 64 / 100 + 9 / 100)

/-- σ and c of the time that a reference brings (R45, R126, R346): none when unknown. -/
def accOf (s : State) (r : Nat) : Option (Nat × Nat) :=
  if isExt r then some (parN s 0x03 r, parN s 0x04 r)
  else match timingPort s (r - 8) with
    | some p =>
      match (portOf s p).ld.peer with
      | some v =>
        if v.sigmaAcc = 4294967295 ∨ v.cAcc = 4294967295 then none
        else some (satU 32 (sqrtRound ((v.sigmaAcc : Rat) * v.sigmaAcc + sigmaHopSq s p)), satU 32 (v.cAcc + parN s 0x11E p))
      | none => none
    | none => none
def budgetOf (s : State) (r : Nat) : Option Nat :=
  (accOf s r).map (fun a => satU 32 (roundAway ((2576 : Rat) / 1000 * a.1 + a.2)).toNat)

/-- `a` must stand before `b` (R125): a difference in budget counts only beyond `hyst`. -/
def beats (s : State) (hyst : Nat) (a b : Nat) : Bool :=
  if prioOf s a ≠ prioOf s b then decide (prioOf s a < prioOf s b)
  else match (refOf s a).budget, (refOf s b).budget with
    | some x, some y => decide (x + hyst < y)
    | some _, none => true
    | none, some _ => false
    | none, none => decide (a < b)
def plainBeats (s : State) (a b : Nat) : Bool := beats s 0 a b || (!beats s 0 b a && decide (a < b))

def insertBy (f : Nat → Nat → Bool) (a : Nat) : List Nat → List Nat
  | [] => [a]
  | b :: r => if f a b then a :: b :: r else b :: insertBy f a r

/-- One pass that exchanges neighbours out of order. -/
def sweepBy (f : Nat → Nat → Bool) : Nat → List Nat → List Nat
  | _, [] => []
  | 0, l => l
  | _ + 1, [a] => [a]
  | n + 1, a :: b :: r => if f b a then b :: sweepBy f n (a :: r) else a :: sweepBy f n (b :: r)

/-- Each SUSPECT reference falls one rank, below the next one (R119, R122). -/
def demote (s : State) (l : List Nat) : List Nat :=
  l.foldr (fun a t => if (viewOf s a).st = .suspect then t.take 1 ++ a :: t.drop 1 else a :: t) []

/-- The selectable references, best first: the standing order of R125, moved where that rule says so. -/
def rankList (s : State) : List Nat :=
  let sel := refList.filter (selectable s)
  let old := (List.range 31).filterMap (fun k => sel.find? (fun r => (refOf s r).order == k))
  let new := sel.filter (fun r => !old.contains r)
  let l := new.foldl (fun l r => insertBy (plainBeats s) r l) old
  let h := (parE s 0x22 (ctl s)).toNat
  (List.range l.length).foldl (fun l _ => sweepBy (beats s h) 64 l) l

/-- The order of R125, and the ranks after demotion, written to every reference. -/
def takeRanks (s : State) : State :=
  let o := rankList s
  let l := demote s o
  let place := fun (l : List Nat) (r : Nat) => if l.contains r then l.idxOf r else 31
  { s with te := { s.te with ref := vmapI s.te.ref (fun i x => { x with rank := place l i.val, order := place o i.val }) } }

/-! ### Conditioners -/

/-- The conditioner's delivered value of a cycle with an edge (R113, R115, R77). While a step is measured the value held
is offered; the phase goes on being taken. -/
def condTake (r : Nat) (raw : Rat) (s : State) : State :=
  let th : Rat := par s 0x07 r
  condMod r (fun c =>
    let x := raw - c.sub
    if c.measuring then
      if 8 ≤ c.measN ∧ th < absQ (x - c.measSum / c.measN) then { c with phase := x, measN := 1, measSum := x, fresh := false }
      else if c.measN < 64 then { c with phase := x, measN := c.measN + 1, measSum := c.measSum + x, fresh := false }
      else { c with phase := x, fresh := false }
    else if 8 ≤ c.hist.length ∧ th < absQ (x - meanQ c.hist) then
      { c with
        phase := x, measuring := true, measN := 1, measSum := x, preMean := meanQ c.hist, heldVal := c.phase, fresh := false }
    else { c with phase := x, fresh := true, hist := (x :: c.hist).take 64, count := c.count + 1 }) s

/-- The period of an external reference's edges, 2⁻²⁰ ns (R112). -/
def edgePeriod (s : State) (r : Nat) : Rat := if r < 4 then (uSec : Rat) / parN s 0x0C r else uSec

/-- The edges of a cycle that a conditioner uses, stamped at 1 ps (R113): every one up to 8 kHz, the first one above. -/
def edgesUsed (s : State) (r : Nat) (ts : List Rat) : List Rat :=
  (if r < 4 ∧ 8000 < parN s 0x0C r then ts.take 1 else ts).map (fun t => ps (roundAway (t * 1000 / 1048576)))

/-- The phase of an edge at a stamp, by as many whole periods as bring it nearest to the last one (R70, R113). -/
def edgePhase (per last t : Rat) : Rat := per * roundAway ((last + t) / per) - t

/-- The phases of a cycle's edges, unwrapped one after another, newest first. -/
def edgePhases (per last : Rat) (ts : List Rat) : List Rat :=
  ts.foldl (fun l t => edgePhase per (l.headD last) t :: l) []

/-- What a conditioner compares against, and measures, moves by `d` with its own time (R78, R528). -/
def condHist (d : Rat) (c : Conditioner) : Conditioner :=
  { c with
    last := c.last.map (· + d), hist := c.hist.map (· + d), preMean := c.preMean + d, heldVal := c.heldVal + d
    measSum := c.measSum + d * c.measN }
/-- A step of the engine's own time by `d` in the delivered errors' sense (R528). -/
def condShift (d : Rat) (c : Conditioner) : Conditioner := { condHist d c with phase := c.phase + d }
/-- The running windows of a reference's monitors move likewise. -/
def refWindows (d : Rat) (x : Reference) : Reference :=
  { x with raw10 := x.raw10.map (· + d), wander := x.wander.map (fun (q : Nat × Rat) => (q.1, q.2 + d)) }
def refShift (d : Rat) (x : Reference) : Reference :=
  { refWindows d x with cond := condShift d x.cond, raw := x.raw + d }

/-- A REFIN paired with a PPSIN takes from a pulse of it which of its own periods begins the second (R113). -/
def resolvePair (r : Nat) (s : State) : State :=
  let p := parN s 0x0D r
  let c := (refOf s r).cond
  match c.last, (refOf s p).cond.last with
  | some a, some b =>
    if (p = 4 ∨ p = 5) ∧ !c.resolved then
      let per := edgePeriod s r
      refMod r (fun x => let x := refShift (per * roundAway ((b - a) / per)) x; { x with cond := { x.cond with resolved := true } }) s
    else s
  | _, _ => s

/-- The wander of a window: peak to peak of the phase errors less the mean slope from its first to its last one (R118). -/
def wanderOf (l : List (Nat × Rat)) : Option Rat :=
  match l, l.getLast? with
  | a :: _ :: _, some z =>
    let m := (a.2 - z.2) / ((a.1 : Rat) - z.1)
    let d := l.map (fun q => q.2 - z.2 - m * ((q.1 : Rat) - z.1))
    some (d.foldl max 0 - d.foldl min 0)
  | _, _ => none

def servoShift (d : Rat) (v : GroupServo) : GroupServo :=
  { v with
    fused := v.fused + d, hist := v.hist.map (· + d), preMean := v.preMean + d, heldVal := v.heldVal + d
    measSum := v.measSum + d * v.measN }

/-- The median (R118): the mean of the middle two for an even count. -/
def insertQ (a : Rat) : List Rat → List Rat
  | [] => [a]
  | b :: r => if a ≤ b then a :: b :: r else b :: insertQ a r
def medianQ (l : List Rat) : Rat :=
  let t := l.foldr insertQ []
  ((t[(t.length - 1) / 2]?).getD 0 + (t[t.length / 2]?).getD 0) / 2

end Sys2Proof.Machine
end

