-- ==== Sys2Proof/Machine/PowerOps.lean ====
section
/-! DEFINITION. Wake sources and the raising of domains (R359, R363, R365, R371). -/

namespace Sys2Proof.Machine

def domMod (d : Nat) (f : Domain → Domain) (s : State) : State := { s with pm := { s.pm with dom := vmodN s.pm.dom d f } }

/-- A mask of domains. -/
def domMask (l : List Nat) : BitVec 14 := BitVec.ofNat 14 ((l.dedup.map (2 ^ ·)).sum)

/-- The default mask of a wake source for its lane, port or input (R363). -/
def wakeDefault (src unit : Nat) : BitVec 14 :=
  match src with
  | 1 => domMask [4 + unit / 32, 10, bufDomOf (unit / 8)]
  | 2 => domMask [10, bufDomOf (unit / 8)]
  | 3 => domMask [3]
  | 5 => domMask [13]
  | _ => 0

/-- The mask in force. -/
def wakeMask (s : State) (src unit : Nat) : BitVec 14 :=
  (Tbl.get s.pm.masks (src * 256 + unit)).getD (wakeDefault src unit)

/-- Both engines present the claim 0x00 (R150). -/
def claimsZero (s : State) : Bool := s.te.engx.all (fun x => x.claim == 0)

/-- The raise of D4 to D9 and D13 waits while neither engine supplies the time clock (R359). -/
def raiseHeld (s : State) (d : Nat) : Bool := claimsZero s && (decide (4 ≤ d ∧ d ≤ 9) || d == 13)

/-- The domains of a mask. -/
def domsOf (m : BitVec 14) : List Nat := (List.range 14).filter (fun d => m.getLsbD d)

/-- A domain below On, or on its way there. -/
def domBelow (s : State) (d : Nat) : Bool := (vget s.pm.dom d {}).st != .on || (vget s.pm.dom d {}).target != .on

/-- A domain that a wake source raised is On: WAKE_EVT, LAST_SRC and WAKES (R372). -/
def wakeDone (x : Domain) : Domain :=
  match x.wakeSrc with
  | some k => { x with wakeEvt := true, lastSrc := k, wakes := (x.wakes + 1) % 65536, wakeSrc := none }
  | none => x

/-! ### Engines (R150, R169, R170, R470) -/

/-- An engine's domain is On again: BOOTING; with the other engine OFF or FAILED it starts from its straps. -/
def engineBoot (e : Nat) (s : State) : State :=
  let alone := decide ((engxOf s (1 - e)).health ≤ 1)
  let s := if alone then engxMod e (fun x => { base := x.base }) (engMod e (fun x => { y := x.y }) s) else s
  engxMod e (fun x => { x with
    loaded := false, silent := 0, badRun := 0, on := true, booting := true, health := 4, clkOk := false, claim := 0, banks := Vector.replicate 2 [], bank := 0, faultedAt := []
    fails := Vector.replicate 6 0, passes := Vector.replicate 6 0, failAt := Vector.replicate 6 none, lastFail := none }) s

/-- An engine leaves service. -/
def engineOff (e : Nat) (s : State) : State :=
  engxMod e (fun x => { x with on := false, booting := false, clkOk := false, claim := 0, health := 0, faultedAt := [] }) s

/-! ### Raising -/

/-- The descent of an engine's domain waits for the planned handover (R169). -/
def handsOver (s : State) (d : Nat) : Bool := s.te.ks.pendingPower.any (fun q => q.1.val + 1 == d)

/-- One domain of a wake: a descent ends at its next step, the domain returns from the state reached (R371). An engine whose
descent waits for its handover stays; one that has left service boots again (R170). -/
def raiseOne (src d : Nat) (s : State) : State :=
  let x := vget s.pm.dom d {}
  let s := if handsOver s d then ksMod (fun k => { k with
      pendingPower := none, alignResult := 1
      align := if k.align == some .powerDown then none else k.align
      alignDone := k.alignDone && k.align != some .powerDown }) s else s
  let s := if (d = 1 ∨ d = 2) ∧ x.st = .on ∧ x.target ≠ .on then engineBoot (d - 1) s else s
  domMod d (fun x =>
    if x.st == .on then wakeDone { x with target := .on, queued := none, wakeSrc := some src }
    else { x with target := .on, queued := none, wakeSrc := some src, heldRaise := raiseHeld s d }) s

/-- A second wake source in the Kettle cycle of the last wake belongs to that wake, under the lower source code (R371). -/
def sameWake (s : State) (m : BitVec 14) : Bool :=
  s.pm.causeValid && decide ((s.clk.elapsed : Rat) < s.pm.causeAt + kettlePeriod s) && (m &&& s.pm.causeDoms) != 0

/-- A wake source raises the domains of a mask that are below On; on domains that are On it has no effect (R363). -/
def wakeFrom (src detail : Nat) (m : BitVec 14) (s : State) : State :=
  let ds := (domsOf m).filter (fun d => d != 0 && ((vget s.pm.dom d {}).target != .on || handsOver s d))
  let again := sameWake s m
  if ds.isEmpty && !again then s
  else
    let deep := src != 3 && ds.contains 3 && ((vget s.pm.dom 3 {}).st == .retention || (vget s.pm.dom 3 {}).st == .off)
    let first := again && decide (s.pm.causeSrc ≤ src)
    let by_ := if again then min src s.pm.causeSrc else src
    let s := forEach ds (raiseOne by_) s
    let s := if again then { s with pm := { s.pm with dom := s.pm.dom.map (fun (x : Domain) =>
      { x with wakeSrc := x.wakeSrc.map (min by_) }) } } else bump 38 1 s
    { s with pm := { s.pm with
      causeValid := true, causeSrc := by_, causeDetail := if first then s.pm.causeDetail else detail
      causeDoms := if again then s.pm.causeDoms ||| domMask ds else domMask ds
      causeAt := if again then s.pm.causeAt else s.clk.elapsed
      wakeN := s.pm.wakeN && !deep } }

/-- Every domain of a mask is On. -/
def masksOn (s : State) (m : BitVec 14) : Bool := (domsOf m).all (domOn s)

/-! ### Veman sleep and wake (R60 to R63, R365) -/

/-- An ordered set to the peer: D1, D2, D3. -/
def sendSet (p d1 d2 d3 : Nat) (s : State) : State := sleepMod p (fun x => { x with sent := osBlock d1 d2 d3 :: x.sent }) s

/-- The lanes of a port that sleep: all but the group's sentinel. -/
def sleepers (s : State) (p : Nat) : List Nat := (lanesOf s p).filter (fun l => sentinelOf s (p / 8) != some l)

/-- The port has lanes beside the group's sentinel, which it carries: the sentinel then leaves its PCS in sleep (R61). -/
def hasSentinel (s : State) (p : Nat) : Bool :=
  match sentinelOf s (p / 8) with
  | some l => (lanesOf s p).contains l && decide (1 < laneCount s p)
  | none => false

/-- Energy-Efficient Ethernet on a port: none, deep sleep, or fast wake with the lanes powered (R60). -/
def eeeKind (s : State) (p : Nat) : Nat :=
  if !portUsed s p || kindFab s p then 0
  else
    match modeOf s (p / 8), mediumOf s p with
    | 1, 0 => 1 | 2, 0 => 1 | 3, 0 => 1 | 3, 1 => 1 | 4, 0 => 2 | 4, 1 => 2 | _, _ => 0

/-- The sentinel of a group is awake (R62). -/
def wakeSentinel (g : Nat) (s : State) : State :=
  match sentinelOf s g with
  | some l => if (laneOf s l).txSleep || (laneOf s l).rxSleep then laneWakes l s else s
  | none => s

/-- Sends SLEEP_REQ with a new sequence number. -/
def startSleep (p : Nat) (s : State) : State :=
  let q := ((portOf s p).sleep.seq + 1) % 256
  sendSet p 0x51 0x01 q (sleepMod p (fun x => { x with tx := .requested, txWaiting := false, seq := q, tries := 1 }) s)

/-- A WAKE_ACK owed leaves once the receivers are READY and every domain of the source's mask is On. -/
def ackWake (p : Nat) (s : State) : State :=
  match (portOf s p).sleep.ackHeld with
  | some q =>
    if (portOf s p).sleep.rx == .awake && masksOn s (wakeMask s 2 p) then
      sendSet p 0x58 0x02 q (sleepMod p (fun x => { x with ackHeld := none }) s)
    else s
  | none => s

end Sys2Proof.Machine
end

