-- ==== Sys2Proof/Machine/EngineOps.lean ====
section
/-! DEFINITION. What the engines share: the loop (R134), the oscillator model (R138 to R141), acquisition (R137), the
wall-tie record (R159 to R162), claims and health (R152 to R154), alignment (R167). -/

namespace Sys2Proof.Machine

/-- A phase in 2⁻²⁰ ns as a frequency word second, and back (R31). -/
def toWord (q : Rat) : Rat := q * 268435456 / 1000000000
def ofWord (q : Rat) : Rat := q * 1000000000 / 268435456

/-! ### The loop -/

/-- 2π/√(1 + 2ζ²) for ζ in 1/1,000 (R134): π to 15 decimal places, the root likewise. -/
def loopFactor (z : Nat) : Rat := 6283185307179586 / ((1000000 + 2 * z * z) * 10 ^ 24).sqrt
/-- e^(−1 s / τ) for τ in days (R138), by the first four terms of its series: right to 10⁻²¹. -/
def learnDecay (d : Nat) : Rat :=
  let x : Rat := 1 / (86400 * d)
  1 - x + x * x / 2 - x * x * x / 6

/-- kp and ωn² (R134), at ten times the bandwidth for the 8 s of R136, which LOCKED may interrupt no sooner. -/
def loopGains (s : State) (e : Nat) : Rat × Rat :=
  let wide := ((engOf s e).st = .acquire ∨ (engOf s e).st = .locked) ∧ (engOf s e).acqPhase = 2
  let bw : Rat := parE s 0x24 e * (if wide then 10 else 1)
  let z := (parE s 0x25 e).toNat
  let w := loopFactor z * bw / 1000000
  (2 * z / 1000 * w, w * w)

def clampY (s : State) (e : Nat) (y : Rat) : Int :=
  let m := parE s 0x27 e
  max (-m) (min m (roundAway y))

/-- One cycle of the loop; a held cycle changes neither i nor y. -/
def loopStep (e : Nat) (fresh : Bool) (err : Rat) (s : State) : State :=
  let x := engOf s e
  if fresh then
    let (kp, ki) := loopGains s e
    let dt : Rat := (x.lastFresh + 1 : Nat) * 125 / 1000000
    let i := x.integ + ki * dt * toWord err
    engMod e (fun x => { x with integ := i, y := clampY s e (i + kp * toWord err), lastFresh := 0, e := err }) s
  else engMod e (fun x => { x with lastFresh := x.lastFresh + 1 }) s

/-- Bridging: the integrator alone; no held cycle. -/
def bridgeStep (e : Nat) (s : State) : State :=
  engMod e (fun x => { x with y := clampY s e x.integ, lastFresh := 0 }) s

/-! ### The oscillator model -/

/-- Time since power-on in seconds, exact: the t of the model as the engine keeps it. -/
def modelT (s : State) : Rat := (s.clk.elapsed : Rat) / uSec
def modelY (m : OscModel) (t temp : Rat) : Rat :=
  m.c0 + m.c1 * t + m.c2 * t * t + m.k1 * (temp - m.t0) + m.k2 * (temp - m.t0) * (temp - m.t0)

/-- The products that the fit sums: the upper triangle of v·vᵀ, row by row. -/
def triOf (v : List Rat) : List Rat :=
  match v with
  | [] => []
  | a :: r => (a :: r).map (a * ·) ++ triOf r
def addL (a b : List Rat) : List Rat := List.zipWith (· + ·) a b
def regressors (m : OscModel) (t temp : Rat) : List Rat := [1, t, t * t, temp - m.t0, (temp - m.t0) * (temp - m.t0)]
def fitAdd (decay : Rat) (m : OscModel) (r : LearnRow) (f : FitSums) : FitSums :=
  let v := regressors m r.sec r.temp
  { m := addL (f.m.map (decay * ·)) (triOf v), b := addL (f.b.map (decay * ·)) (v.map (r.y * ·))
    yy := decay * f.yy + r.y * r.y, w := decay * f.w + 1 }

/-- Entry (i, j) of the symmetric matrix. -/
def triAt (f : FitSums) (i j : Nat) : Rat :=
  let a := min i j; let b := max i j
  f.m.getD (a * 5 - a * (a - 1) / 2 + (b - a)) 0

/-- Solves n linear equations given as coefficient rows with the right-hand side last; a coefficient that nothing
determines is 0. -/
def solveLin : Nat → List (List Rat) → List Rat
  | 0, _ => []
  | n + 1, rows =>
    match rows.findIdx? (fun r => r.headD 0 != 0) with
    | none => 0 :: solveLin n (rows.map List.tail)
    | some i =>
      let p := rows.getD i []
      let rest := (rows.eraseIdx i).map (fun r => List.zipWith (fun a b => a - r.headD 0 / p.headD 1 * b) r.tail p.tail)
      let xs := solveLin n rest
      let x0 := (p.getLastD 0 - sumQ (List.zipWith (· * ·) (p.tail.take n) xs)) / p.headD 1
      x0 :: xs

/-- The fit over the terms that may be used (R138): c1 and c2 with `age`, k1 and k2 with `tmp`. -/
def fitSolve (f : FitSums) (age tmp : Bool) : List Rat :=
  let ix := [0] ++ (if age then [1, 2] else []) ++ (if tmp then [3, 4] else [])
  let rows := ix.map (fun i => ix.map (fun j => triAt f i j) ++ [f.b.getD i 0])
  let xs := solveLin ix.length rows
  (List.range 5).map (fun i => match ix.findIdx? (fun k => k == i) with
    | some k => xs.getD k 0
    | none => 0)

def fitList (f : FitSums) : List Rat := f.m ++ f.b ++ [f.yy, f.w]

/-- Temperature terms are in use once the recorded temperatures span 1 K. -/
def tempReady (x : EngineX) : Bool := decide (1 ≤ x.tMax - x.tMin)

/-- The model refitted from the sums and the recent rows. -/
def refit (s : State) (e : Nat) : State :=
  let x := engOf s e; let v := engxOf s e
  let d := learnDecay (parE s 0x2E e).toNat
  let f := v.learnRecent.foldr (fun r f => fitAdd d x.model r f) x.fit
  let c := fitSolve f v.modelReady (tempReady v)
  let t := modelT s
  engMod e (fun x => { x with model := { x.model with
    c0 := c.getD 0 0, c1 := c.getD 1 0, c2 := c.getD 2 0, k1 := c.getD 3 0, k2 := c.getD 4 0
    sigF := Config.sigmaF (fitList f) t x.temp
    sigA := Config.sigmaA (fitList f) t x.temp
    sigT := Config.sigmaT (fitList f) t x.temp } }) s

/-- Learning starts again (R123, R447). -/
def learnReset (e : Nat) (s : State) : State :=
  engxMod e (fun x => { x with modelReady := false, learnRecent := [], tMin := 0, tMax := 0, resid := [], residNow := 0 })
    (engMod e (fun x => { x with fit := {}, learned := 0, model := { t0 := x.model.t0 } }) s)

/-- y_0 (R140), with its squared rms over the seconds used. -/
def y0Of (x : EngineX) : Rat × Rat :=
  let l := (x.ySec.drop 2).take 100
  let m := meanQ l
  (m, meanQ (l.map (fun y => (y - m) * (y - m))))

/-- E(t) (R141) from σ_f², σ_a and σ_T in word units, t in seconds. -/
def forecastAt (fSq a tt : Rat) (t : Rat) : Nat :=
  let k := ofWord (2576 / 1000)
  sqrtRound (k * k * (fSq * t * t + a * t * t / 2 * (a * t * t / 2) + tt * t * (tt * t)))

/-- σ_a: OSC_AGEING while MODEL_READY is clear (R141). -/
def sigAOf (s : State) (e : Nat) : Rat := if (engxOf s e).modelReady then (engOf s e).model.sigA else (parE s 0x2F e : Rat) / 86400

/-- The engine's forecast now (R141). -/
def forecastNow (s : State) (e : Nat) : Nat :=
  let x := engOf s e
  match x.hoIn with
  | some (_, _, fSq) => satU 64 (forecastAt fSq (sigAOf s e) x.model.sigT ((s.clk.elapsed - x.hoEntry : Nat) / (uSec : Rat)))
  | none => 0

/-- The word of model steering (R140). -/
def modelWord (s : State) (e : Nat) : Rat :=
  let x := engOf s e
  match x.hoIn with
  | some (y0, ymE, _) => y0 + modelY x.model (modelT s) x.temp - ymE
  | none => x.y

/-- Model steering begins (R140). -/
def enterModel (e : Nat) (s : State) : State :=
  let (y0, v) := y0Of (engxOf s e)
  engMod e (fun x => { x with
    hoIn := some (y0, modelY x.model (modelT s) x.temp, x.model.sigF * x.model.sigF + v), hoEntry := s.clk.elapsed, hoFrozen := false }) s

/-- No reference is selectable in ACQUIRE or LOCKED: HOLDOVER after 60 s of LOCKED, FREE_RUN with less; time of day
that was traceable is held (R135, R40). -/
def noReference (e : Nat) (s : State) : State :=
  let s := engMod e (fun x => { x with sel := none, sw := none, forceSw := false, slewing := false, slewHo := false, acqPhase := 0 }) s
  let s := if (engOf s e).everLocked60 then setServo e .holdover (enterModel e s) else setServo e .freeRun s
  if s.clk.tod = .traceable then setTod .holdover (if (engOf s e).hoIn.isSome then s else enterModel e s) else s

/-! ### Acquisition (R136, R137) -/

/-- Enters ACQUIRE on a reference. -/
def startAcquire (e r : Nat) (s : State) : State :=
  let s := engxMod e (fun v => { v with acqSw := false }) (viewMod r (fun v => { v with absorb := 0 }) s)
  let s := refMod r (fun x => { x with suspGood := 0 }) s
  setServo e .acquire (engMod e (fun x => { x with
    sel := some r, sw := none, forceSw := false, acqPhase := 0, slewing := false, slewHo := false, hoInSw := false, lastFresh := 0 }) s)

/-- A step of full time is requested; it replaces a pending one (R39). -/
def requestStep (d : Int) (software : Bool) (s : State) : State :=
  { s with clk := { s.clk with step := some { delta := d, software := software } } }

/-- The initial phase of the reference acquired, by what it carries and the time-of-day state (R137). -/
def acquirePhase (e : Nat) (s : State) : State :=
  match (engOf s e).sel with
  | none => s
  | some r =>
    let off := todOffset s r
    let raw := (refOf s r).raw
    let fresh := s.clk.tod == .unset || s.clk.tod == .set || s.clk.tod == .coarse
    let absorb := fun (s : State) => viewMod r (fun v => { v with absorb := raw }) s
    let loop := fun (s : State) => engMod e (fun x => { x with acqPhase := 2, lastFresh := 0 }) s
    let wait := fun (s : State) => engMod e (fun x => { x with acqPhase := 1 }) s
    if (engxOf s e).acqSw then
      -- after software steering the phase is absorbed as a switch absorbs it (R146)
      loop (engMod e (fun x => { x with
        sw := some { cycle := 0, outgoing := none, incoming := r, forced := true, sum := 0, bridge := true } }) s)
    else match carriesOf s r with
    | 2 =>
      if fresh ∨ (parE s 0x2D e : Rat) < absQ off then wait (requestStep (roundAway off) false s)
      else loop (engMod e (fun x => { x with slewing := true, slewHo := true, slewAt := s.clk.elapsed }) (absorb s))
    | 1 =>
      if fresh then
        wait (requestStep (roundAway raw - (uSec : Int) * roundAway (raw / uSec)) false s)
      else loop (engMod e (fun x => { x with hoFrozen := true }) (absorb s))
    | _ => loop (engMod e (fun x => { x with hoFrozen := x.hoFrozen || !fresh }) (absorb s))

/-! ### Claims and health -/

def claimWord (base health : Nat) (pref : Bool) : Nat := base * 16 + health * 2 + b2n pref

/-- The claim that an engine's settings call for (R150, R152); 0x00 for one that hands over to be powered down (R169). -/
def claimOf (s : State) (e : Nat) : Nat :=
  let x := engxOf s e
  let leaving := s.te.ks.planned && s.te.ks.pendingPower.any (fun q => q.1.val == e)
  if !x.on || x.health = 0 || !x.clkOk || leaving then 0 else claimWord x.base x.health (s.te.ks.pref == e)

/-- The engine that output stages accept on the claims presented (R150, R151). -/
def claimWinner (a b : Nat) : Option (Fin 2) := if a = 0 ∧ b = 0 then none else if b ≤ a then some 0 else some 1
def accepted (s : State) : Option (Fin 2) := claimWinner (engxOf s 0).claim (engxOf s 1).claim

/-- The check-flag byte of TE_KS_HEALTH: health and failing checks (R173). -/
def flagByte (x : EngineX) : Nat :=
  let bad := fun k => b2n ((vget x.failAt k none).isSome)
  x.health * 32 + max (bad 0) (bad 1) * 16 + bad 2 * 8 + bad 3 * 4 + bad 4 * 2 + bad 5

/-- Health changes, and is reported (R154, R453). A third entry to FAULTED within an hour is FAILED. -/
def setHealth (e h : Nat) (s : State) : State :=
  let x := engxOf s e
  if x.health = h then s
  else
    let recent := (s.clk.elapsed :: x.faultedAt).filter (fun t => decide (s.clk.elapsed ≤ t + 3600 * uSec))
    let h' := if h = 2 ∧ 3 ≤ recent.length then 1 else h
    let s := engxMod e (fun x => { x with
      health := h'
      faultedAt := if h = 2 then recent else x.faultedAt
      fails := if h = 2 then Vector.replicate 6 0 else x.fails
      passes := if h = 5 ∨ h = 2 ∨ h = 4 then Vector.replicate 6 0 else x.passes
      agreeSince := none
      restoreAt := if h = 6 then s.clk.elapsed else x.restoreAt }) s
    -- a reclaim that waits is for the end of ENGINE_WTR in RESTORING (R171)
    let s := if h' < 6 ∧ s.te.ks.reclaimWait.any (fun q => q.val == e) then ksMod (fun k => { k with reclaimWait := none }) s else s
    issueEvent 0x0205 e [BitVec.ofNat 8 h', BitVec.ofNat 8 (flagByte (engxOf s e))] s

/-- Checks that apply to an engine's role (R166). -/
def checksOf (s : State) (e : Nat) : List Nat := if s.te.ks.control = some (Fin.ofNat 2 e) then [0, 1, 2, 3] else [0, 1, 2, 3, 4, 5]

/-- Health from the checks at the end of a servo cycle (R154, R162). -/
def healthJudge (e : Nat) (s : State) : State :=
  let x := engxOf s e
  let fails := fun k => vget x.fails k 0
  let worst := (((checksOf s e).filter (· != 5)).map fails).foldl max 0
  let warn := decide (1 ≤ worst) || (engOf s e).tempFault || decide ((checksOf s e).contains 5 ∧ 4 ≤ x.badRun)
  if x.health = 2 then (if 3 ≤ worst then setHealth e 1 s else s)
  else if x.health = 5 ∨ x.health = 6 ∨ x.health = 7 then
    if 3 ≤ worst then setHealth e 2 s
    else if warn then (if x.health = 5 then s else setHealth e 5 s)
    else if x.health = 5 ∧ (checksOf s e).all (fun k => decide (2 ≤ vget x.passes k 0)) then setHealth e 6 s
    else s
  else if x.health = 4 ∧ !x.booting then
    if 3 ≤ worst then setHealth e 2 s
    else if (checksOf s e).all (fun k => decide (1 ≤ vget x.passes k 0)) then setHealth e 6 s else s
  else s

/-- The claims at a servo-cycle boundary: as the settings call for (R155). -/
def presentClaims (s : State) : State :=
  engxMod 1 (fun x => { x with claim := claimOf s 1 }) (engxMod 0 (fun x => { x with claim := claimOf s 0 }) s)

/-! ### The wall tie -/

/-- Seconds left of a view's running interval. -/
def leftOf (s : State) (v : RefView) : Nat := v.len - (s.clk.elapsed - v.since) / uSec

/-- The model referred to an origin `t0` seconds after power-on, in the units of R160. -/
def modelWords (x : Engine) (t0 : Rat) : List Int :=
  let m := x.model
  [roundAway (m.c0 + m.c1 * t0 + m.c2 * t0 * t0), roundAway ((m.c1 + 2 * m.c2 * t0) * 2 ^ 16), roundAway (m.c2 * 2 ^ 48),
    roundAway (m.k1 * 2 ^ 8), roundAway (m.k2 * 2 ^ 16), roundAway (m.t0 * 2 ^ 16)]
/-- σ_f² of an engine: at the entry to holdover, else as it would be now. -/
def fSqOf (x : Engine) (v : EngineX) : Rat :=
  match x.hoIn with
  | some h => h.2.2
  | none => x.model.sigF * x.model.sigF + (y0Of v).2
def sigmaWords (s : State) (e : Nat) : List Int :=
  [(sqrtRound (fSqOf (engOf s e) (engxOf s e)) : Int), roundAway (sigAOf s e * 2 ^ 16), roundAway (engOf s e).model.sigT]
def s64 (v : Int) : List Byte := le 8 (ofSigned 64 (satS 64 v))

/-- Elapsed seconds at the whole second of a record's TIME, from the elapsed time of that instant (R160). -/
def tieOrigin (l : List Byte) (takenAt : Nat) : Rat := ((takenAt : Rat) - ((fullOf (slice l 8 16)).getD 0 % uSec : Nat)) / uSec

/-- The elapsed seconds at the whole second of full time at or before now. -/
def wholeOrigin (s : State) : Rat := ((s.clk.elapsed : Rat) - (s.clk.now % uSec : Nat)) / uSec

/-- The record of R159 without its CRC. -/
def tieBody (s : State) (e : Nat) : List Byte :=
  let x := engOf s e; let v := engxOf s e
  let bridging := x.sw.any (fun w => w.forced || w.bridge)
  let flags := satU 12 (x.learned / 3600) * 2 ^ 20 + servoCode x.st * 2 ^ 17 + todCode s.clk.tod * 2 ^ 14
    + (x.sel.getD 0) * 2 ^ 9 + b2n x.sel.isSome * 256 + b2n x.sw.isSome * 128 + b2n bridging * 64 + b2n x.slewing * 32
    + b2n v.modelReady * 16 + b2n x.hoInSw * 8
  let ms := if x.slewing then (s.clk.elapsed - x.slewAt) / uMs else if x.hoIn.isSome then (s.clk.elapsed - x.hoEntry) / uMs else 0
  let sw := match x.sw with
    | some w => le 8 (ofSigned 64 (roundAway w.sum)) ++ le 6 ms ++ [BitVec.ofNat 8 w.incoming, BitVec.ofNat 8 w.cycle]
    | none => le 8 0 ++ le 6 ms ++ [0, 0]
  let views := refList.map (fun r => (r, vget v.refs r {}))
  le 4 (0x01000000 + e * 65536 + s.te.seq % 65536) ++ le 4 flags ++ fullBytes s.clk.now
    ++ s64 (roundAway x.e) ++ s64 x.y ++ s64 (roundAway x.integ) ++ sw
    ++ views.flatMap (fun q => s64 (roundAway q.2.absorb))
    ++ views.flatMap (fun q => le 4 (refCode q.2.st * 2 ^ 29 + q.2.reason * 2 ^ 25 + (refOf s q.1).rank * 2 ^ 20
        + satU 20 (leftOf s q.2)))
    ++ (modelWords x (wholeOrigin s)).flatMap s64
    ++ (sigmaWords s e).flatMap s64
    ++ s64 (roundAway (y0Of v).1) ++ le 4 s.clk.utc.toNat
def tieRecord (s : State) (e : Nat) : List Byte := tieBody s e ++ le 4 (crc32 (tieBody s e)).toNat

/-- A record's CRC holds (R159). -/
def tieValid (l : List Byte) : Bool := l.length == 512 && fieldLe l 0x1FC 4 == (crc32 (l.take 0x1FC)).toNat

def sField (l : List Byte) (o : Nat) : Int := toSigned 64 (fieldLe l o 8)

/-- The standby loads every field of the current bank but PHASE (R161). Counts of a switch and of time go on from the
record's instant, `takenAt` (R162): `lag` cycles have passed without a record. -/
def tieLoad (e : Nat) (l : List Byte) (takenAt lag : Nat) (s : State) : State :=
  let fl := fieldLe l 4 4
  let st := servoOfCode (bits fl 17 3)
  let sel := if fl.testBit 8 then some (bits fl 9 5) else none
  let inc := fieldLe l 0x3E 1
  let sw : Option SwitchSt :=
    if fl.testBit 7 then
      let n := fieldLe l 0x3F 1
      let m := max n (min 64 (n + lag))
      some { cycle := m, outgoing := if sel = some inc then none else sel, incoming := inc
             forced := sel == some inc, sum := if n = 0 then sField l 0x30 else (sField l 0x30 : Rat) * m / n
             bridge := fl.testBit 6 && sel != some inc }
    else none
  let t0 := tieOrigin l takenAt
  let mf := fun k => (sField l (0x1A8 + 8 * k) : Rat)
  let c2 := mf 2 / 2 ^ 48
  let c1 := mf 1 / 2 ^ 16 - 2 * c2 * t0
  let m : OscModel := { c2 := c2, c1 := c1, c0 := mf 0 - c1 * t0 - c2 * t0 * t0, k1 := mf 3 / 2 ^ 8, k2 := mf 4 / 2 ^ 16
                        t0 := mf 5 / 2 ^ 16, sigF := sField l 0x1D8, sigA := (sField l 0x1E0 : Rat) / 2 ^ 16, sigT := sField l 0x1E8 }
  let y0 : Rat := sField l 0x1F0
  let ms := fieldLe l 0x38 6
  let entry := takenAt - ms * uMs
  let slews := fl.testBit 5
  let ho := (ms ≠ 0 ∧ !slews) ∨ st = .holdover ∨ fl.testBit 3
  let s := engMod e (fun x => { x with
    st := st, y := sField l 0x20, integ := sField l 0x28, sel := sel, sw := sw, slewing := slews, hoInSw := fl.testBit 3
    model := m, learned := bits fl 20 12 * 3600 + x.learned % 3600
    slewAt := if slews then entry else x.slewAt
    -- while an offset is released the record carries no holdover time
    hoIn := if slews then x.hoIn else if ho then some (y0, modelY m ((entry : Rat) / uSec) x.temp, m.sigF * m.sigF) else none
    hoEntry := if slews then x.hoEntry else if ho then entry else 0 }) s
  engxMod e (fun v => { v with
    modelReady := fl.testBit 4, freqIn := sField l 0x20, yHist := some y0, loaded := true
    refs := vmapI v.refs (fun i w =>
      match refList.findIdx? (· == i.val) with
      | some k =>
        let q := fieldLe l (0x130 + 4 * k) 4
        { st := refOfCode (bits q 29 3), reason := bits q 25 4, since := takenAt, len := bits q 0 20
          absorb := sField l (0x40 + 8 * k) }
      | none => w) }) s

/-! ### Alignment (R167) -/

/-- Starts the alignment of a planned handover to an engine. -/
def startAlign (nxt : Fin 2) (why : AlignWhy) (s : State) : State :=
  ksMod (fun k => { k with align := some why, alignTo := nxt, alignCyc := 0, alignOk := 0, alignDone := false }) s

/-- The claims that the pending settings and, for a reclaim, health 7 would give. -/
def wouldAccept (s : State) (base : Nat × Nat) (pref : Nat) (h : Nat × Nat) : Option (Fin 2) :=
  let one := fun (e b h : Nat) => if (engxOf s e).claim = 0 then 0 else claimWord b h (pref == e)
  claimWinner (one 0 base.1 h.1) (one 1 base.2 h.2)
def basesNow (s : State) : Nat × Nat := ((engxOf s 0).base, (engxOf s 1).base)
def healthsNow (s : State) : Nat × Nat := ((engxOf s 0).health, (engxOf s 1).health)

/-- Puts a pending BASE and PREF change in force. -/
def takeSettings (s : State) : State :=
  let k := s.te.ks
  let s := match k.pendBase with
    | some b => engxMod 1 (fun x => { x with base := b.2 }) (engxMod 0 (fun x => { x with base := b.1 }) s)
    | none => s
  ksMod (fun k => { k with pref := k.pendPref.getD k.pref, pendBase := none, pendPref := none }) s

/-- States of R358 by code. -/
def domOfCode : Nat → DomSt
  | 0 => .on | 1 => .stopped | 2 => .retention | _ => .off
def domCode : DomSt → Nat
  | .on => 0 | .stopped => 1 | .retention => 2 | .off => 3

/-- An engine's domain is on its way down: its claim is 0x00 at once (R150, R155, R169). -/
def lowerEngine (e st : Nat) (s : State) : State :=
  let s := domMod (e + 1) (fun d => { d with target := domOfCode st, queued := none }) s
  engxMod e (fun x => { x with on := false, claim := 0 }) s

/-- A planned handover is abandoned: the change that asked for it does not happen (R167, R171). -/
def alignAbandon (s : State) : State :=
  ksMod (fun k => { k with
    align := none, alignDone := false, alignCyc := 0, alignOk := 0, pendingPower := none
    alignResult := if k.align = some .software ∨ k.align = some .powerDown ∨ k.pendBase.isSome then 2 else k.alignResult }) s

/-- A planned handover's claim change takes effect: what the reason calls for is put in force (R167). A reclaim is abandoned
where the engine has left RESTORING, a power-down where the other engine no longer stays On (R25). -/
def alignApply (s : State) : State :=
  let k := s.te.ks
  let go := fun (s : State) => ksMod (fun k => { k with align := none, alignDone := false, planned := true }) (takeSettings s)
  match k.align with
  | some .reclaim => if (engxOf s k.alignTo.val).health = 6 then go (setHealth k.alignTo.val 7 s) else alignAbandon s
  | some .software => go s
  | some .powerDown => if domBelow s (k.alignTo.val + 1) then alignAbandon s else go s
  | none => ksMod (fun k => { k with alignDone := false }) s

end Sys2Proof.Machine
end

