-- ==== Sys2Proof/Machine/EventOps.lean ====
section
/-! DEFINITION. Time inputs and outputs (chapter 08): time bases, timestamps and intervals, trigger instants, clock
outputs, the Time Tap's words. -/

namespace Sys2Proof.Machine

def evMod (k : Nat) (f : EvIn → EvIn) (s : State) : State := { s with tio := { s.tio with ev := vmodN s.tio.ev k f } }
def evOf (s : State) (k : Nat) : EvIn := vget s.tio.ev k {}
def trigMod (j : Nat) (f : TrigOut → TrigOut) (s : State) : State := { s with tio := { s.tio with trig := vmodN s.tio.trig j f } }
def trigOf (s : State) (j : Nat) : TrigOut := vget s.tio.trig j {}
def tdcMod (f : TdcRef → TdcRef) (s : State) : State := { s with tio := { s.tio with tdc := f s.tio.tdc } }
def tapMod (f : TimeTap → TimeTap) (s : State) : State := { s with tio := { s.tio with tap := f s.tio.tap } }

/-- ENABLE of an input or output by its R433 selector. -/
def ioOn (s : State) (sel : Nat) : Bool := parB s 0x60 sel

/-- The time I/O works: D13 is On and an engine supplies its output stages (R150, R195). -/
def tioLive (s : State) : Bool := domOn s 13 && s.te.ks.control.isSome

/-- A phase quantity in whole picoseconds, to the nearest (R183). -/
def toPs (q : Rat) : Int := roundAway (q * 1000 / 1048576)

/-! ### Event inputs -/

/-- The base that an input takes now: none for want of one (R179, R182). -/
def baseOf (s : State) (k : Nat) : Option Bool :=
  if par s 0x64 k = 0 then some false
  else if s.tio.tdc.aligned then some true
  else if s.tio.tdc.fallen then some false
  else none

/-- The nominal TDCREF period, and the timescale at edge number `n` (R180). -/
def tdcNominal (s : State) : Rat := (uSec : Rat) / parN s 0x6E 23
def tdcScale (s : State) (n : Nat) : Rat := s.tio.tdc.base + ((n : Rat) - s.tio.tdc.mark) * tdcNominal s

/-- The TDCREF-base timestamp of an instant of full time (R180). -/
def tdcStamp (s : State) (x : TdcSample) (t : Int) : Int :=
  roundAway (tdcScale s x.n + (t - x.edge : Int) * tdcNominal s / x.period)

/-- The accumulator goes on to an edge, which keeps what it has counted when TDCREF_FREQ changes. -/
def tdcTake (n : Nat) (s : State) : State := tdcMod (fun d => { d with base := tdcScale s n, mark := n }) s

/-- The measured frequency lies within 100 ppm of TDCREF_FREQ (R182). -/
def tdcInRange (s : State) (x : TdcSample) : Bool :=
  let f : Rat := parN s 0x6E 23
  decide (0 < x.period) && decide (absQ ((uSec : Rat) / x.period - f) ≤ f / 10000)

/-- Whether an input is the start of some pair, and the start of a stop input (R178). -/
def isStart (s : State) (k : Nat) : Bool := (List.range 8).any (fun j => par s 0x65 j = k)
def startOf (s : State) (k : Nat) : Option Nat := if parN s 0x65 k < 8 then some (parN s 0x65 k) else none

/-- An edge lost to dead time or a full FIFO marks the start edges before it (R178). -/
def startLost (k : Nat) (s : State) : State :=
  evMod k (fun e => { e with starts := e.starts.map (fun x => { x with lost := true }) }) s

/-- An interval as its fields hold it (R178): whole 1.6 ns periods modulo 2³², the rest in 2⁻²⁰ ns. -/
def intervalValue (d : Int) : BitVec 64 :=
  let coarse := (d * 10 / 16777216).toNat
  let fine := roundAway ((d : Rat) - coarse * 16777216 / 10)
  BitVec.ofNat 64 (b2n (decide (2 ^ 32 ≤ coarse)) * 2 ^ 63 + coarse % 2 ^ 32 * 2 ^ 21 + fine.toNat)

/-- The latest unused start edge at or before a stop, and the others. -/
def pickStart (l : List StartEdge) (t : Int) : Option (StartEdge × List StartEdge) :=
  let ok := l.filter (fun x => decide (x.t ≤ t))
  match ok with
  | [] => none
  | x :: r =>
    let b := r.foldl (fun b y => if b.t < y.t then y else b) x
    some (b, l.erase b)

/-- The value of a stop edge (R178), with the start edges that stay unused. -/
def pairStop (l : List StartEdge) (t : Int) (tb : Bool) (epoch : Nat) : BitVec 64 × List StartEdge :=
  match pickStart l t with
  | none => (BitVec.ofNat 64 (2 ^ 62), l)
  | some (b, r) =>
    let lost := b2n b.lost * 2 ^ 61
    if b.tb != tb || (tb && b.epoch != epoch) then (BitVec.ofNat 64 (2 ^ 60 + lost), r)
    else (intervalValue (t - b.t) ||| BitVec.ofNat 64 lost, r)

/-- A compact timestamp of any integer instant, modulo the counter's span. -/
def compactInt (t : Int) : BitVec 64 := compact (t % (timeSpan : Int)).toNat

/-- A captured edge: written to the FIFO, or lost to a full one (R176, R178). -/
def capture (k : Nat) (rising tb : Bool) (ts : Int) (s : State) : State :=
  if 512 ≤ (evOf s k).fifo.length then
    startLost k (evMod k (fun e => { e with full := satU 16 (e.full + 1), overflow := true, ovfPending := true }) s)
  else
    let epoch := if tb then s.tio.tdc.epoch else 0
    let (value, ivl, s) := match startOf s k with
      | some j =>
        let p := pairStop (evOf s j).starts ts tb epoch
        (p.1, true, evMod j (fun e => { e with starts := p.2 }) s)
      | none => (compactInt ts, false, s)
    let s := if isStart s k then evMod k (fun e => { e with starts := { t := ts, tb := tb, epoch := epoch, lost := false } :: e.starts }) s
      else s
    evMod k (fun e =>
      let q := (e.entrySeq + 1) % 65536
      { e with
        entrySeq := q, ovfPending := false
        fifo := e.fifo ++ [{ value := value, rising := rising, tb := tb, ivl := ivl, afterOvf := e.ovfPending, epoch := epoch, seq := q }] }) s

/-- An edge not captured for want of a time base. -/
def noBase (k : Nat) (s : State) : State := evMod k (fun e => { e with noBase := satU 32 (e.noBase + 1) }) s

/-- Pops the oldest entry (R177): EV_POP's word, and EV_TS. -/
def popWord (e : EvIn) : Word :=
  match e.fifo with
  | x :: _ => packW [(1, 31), (b2n x.rising, 30), (b2n x.tb, 29), (b2n x.ivl, 28), (b2n x.afterOvf, 27), (x.epoch, 23), (x.seq, 0)]
  | [] => 0
def popEv (k : Nat) (s : State) : State :=
  evMod k (fun e => match e.fifo with
    | x :: r => { e with fifo := r, ts := x.value }
    | [] => e) s

/-! ### Time base report -/

/-- What the ninth converter reports at the end of a servo cycle (R181, R197): edges present, the TDCREF offset. -/
def tdcOffset (m : Option TdcSample) (s : State) : State :=
  match m with
  | some x =>
    if !ioOn s 23 || !domOn s 13 then s
    else
      let s := tdcMod (fun d => { d with present := !d.out && tdcInRange s x }) s
      if s.tio.tdc.aligned then
        let o := roundAway (tdcScale s x.n - x.edge)
        tdcTake x.n (tdcMod (fun d => { d with offset := o, lastOffset := some o }) s)
      else s
  | none => s

/-- Reports TDCREF's state (R453). -/
def tdcEvent (s : State) : State :=
  issueEvent 0x0301 23 [BitVec.ofNat 8 (b2n s.tio.tdc.present + 2 * b2n s.tio.tdc.fallen), BitVec.ofNat 8 s.tio.tdc.epoch] s

/-! ### Triggers -/

/-- Pulse `n` of an entry in ps (R183). -/
def pulseAt (e : TrigEntry) (n : Nat) : Int := toPs ((e.start : Rat) + ((n * e.period : Nat) : Rat) * 1048576 / 1000)

/-- The pulse of an output placed at an instant (R183, R186, R527): the instant less EXT_DELAY, launched from the last
time-clock edge whose ideal time is at or before it, with the remainder in the delay line. -/
def placePulse (s : State) (sel : Nat) (p : Int) (width : Nat) (invert : Bool) : OutPulse :=
  let r := p - toPs (par s 0x63 sel)
  { edge := r / 1600 * 1600, delay := (r % 1600).toNat, fall := r + 1600 * width, invert := invert }

/-- An entry is complete once its pulses are all emitted or missed. -/
def trigDone (e : TrigEntry) : Bool := (e.period == 0 && decide (1 ≤ e.emitted)) || (e.count != 0 && decide (e.count ≤ e.emitted))

/-- The entry whose next pulse comes first. -/
def nextTrig (l : List TrigEntry) : Option TrigEntry :=
  match l with
  | [] => none
  | x :: r => some (r.foldl (fun b y => if pulseAt y y.emitted < pulseAt b b.emitted then y else b) x)

/-- An entry has gone on by `n` pulses. -/
def trigStep (j h n : Nat) (s : State) : State :=
  trigMod j (fun t => { t with
    queue := (t.queue.map (fun e => if e.handle = h then { e with emitted := e.emitted + n } else e)).filter (fun e => !trigDone e) }) s

/-- Pulses that passed unemitted: counted, flagged, reported (R185, R453). -/
def trigMiss (j h n : Nat) (s : State) : State :=
  if n = 0 then s
  else issueEvent 0x0302 (8 + j) (le 2 h ++ le 4 (satU 32 n))
    (trigMod j (fun t => { t with missedFlag := true, missed := t.missed + n }) (trigStep j h n s))

/-- How many further pulses of an entry lie before an instant in ps. -/
def pulsesBefore (e : TrigEntry) (t : Int) : Nat :=
  if t ≤ pulseAt e e.emitted then 0
  else if e.period = 0 then 1
  else
    let k := ((t - pulseAt e e.emitted) / (e.period : Int)).toNat
    let n := if pulseAt e (e.emitted + k) < t then k + 1 else k
    if e.count = 0 then n else min n (e.count - e.emitted)

/-! ### Clock outputs -/

/-- A clock output may run: enabled, supplied, its synthesiser locked (R187, R195, R206). -/
def clkoutMay (s : State) (c : Nat) : Bool :=
  ioOn s (18 + c) && tioLive s &&
    (match parN s 0x6B (18 + c) with
    | 1 => (vget s.ck.syn 28 {}).lock
    | 2 => (vget s.ck.syn 29 {}).lock
    | _ => true)

/-- High and low time of a clock output on SOURCE TIME (R521). -/
def clkPhasesOf (s : State) (c : Nat) : Option (Nat × Nat) :=
  let n := parN s 0x6C (18 + c)
  if parN s 0x6B (18 + c) = 0 ∧ 1 < n then some ((n + 1) / 2, n / 2) else none

/-- An output stops; it runs, on an aligned grid from its first edge or not. -/
def clkStop (c : Nat) (s : State) : State :=
  { s with tio := { s.tio with
      clkRun := vmodN s.tio.clkRun c (fun _ => false), clkFirst := vmodN s.tio.clkFirst c (fun _ => none)
      clkPhases := vmodN s.tio.clkPhases c (fun _ => none) } }
def clkStart (c : Nat) (first : Option Nat) (s : State) : State :=
  { s with tio := { s.tio with
      clkRun := vmodN s.tio.clkRun c (fun _ => true), clkFirst := vmodN s.tio.clkFirst c (fun _ => first)
      clkPhases := vmodN s.tio.clkPhases c (fun _ => clkPhasesOf s c) } }

/-- Outputs stop where they may not run; those without ALIGN start where they may (R187, R188, R207). -/
def clkouts (s : State) : State :=
  (List.range 4).foldl (fun s c =>
    if !clkoutMay s c then clkStop c s else if parB s 0x6D (18 + c) then s else clkStart c none s) s

/-- Every output that its stage no longer supplies is held low (R150, R195): pulses end, clocks stop. -/
def outputsLow (s : State) : State :=
  if tioLive s then s
  else clkouts { s with tio := { s.tio with
    trig := s.tio.trig.map (fun (t : TrigOut) => { t with out := none }), pps := Vector.replicate 2 none } }

/-- An aligned output stops until the next whole second plus OFFSET (R188). -/
def clkoutHold (c : Nat) (s : State) : State :=
  let s := clkStop c s
  { s with tio := { s.tio with clkRealign := vmodN s.tio.clkRealign c (fun _ => true) } }

/-! ### The Time Tap -/

/-- Words 0 to 3 for an instant of full time (R190). -/
def tapWords (s : State) (t : Nat) : List Word :=
  [packW [(todCode s.clk.tod, 29), (b2n (s.te.ks.control == some 1), 28), (b2n (s.te.ks.control.isSome), 27),
      (b2n (s.clk.utc.getLsbD 30 || s.clk.utc.getLsbD 29), 26), (b2n (decide (4 ≤ s.tio.tap.refill)), 25), (secOf t / 2 ^ 32, 0)],
    BitVec.ofNat 32 (secOf t), BitVec.ofNat 32 (nsOf t), BitVec.ofNat 32 (fracOf t)]

/-- What a read of a word drives onto TT_D (R190): words 0 to 3 of an instant, or held from the last read of word 0; the
latched copy; words 8 and 9; the others 0. -/
def tapWord (s : State) (a : Fin 16) : Word :=
  let x := s.tio.tap
  if a.val < 4 then vget x.snap a.val 0
  else if a.val < 8 then vget x.latch (a.val - 4) 0
  else if a.val = 8 then packW [(b2n x.valid, 31), (b2n x.overrun, 30), (x.seq, 0)]
  else if a.val = 9 then
    let u := vget s.te.engx 0 {}; let v := vget s.te.engx 1 {}
    packW [(b2n (s.te.ks.control == some 1), 31), (v.health, 28), (u.health, 25), (v.claim, 16), (u.claim, 8), (s.te.ks.handovers % 256, 0)]
  else 0

/-- The counter at the last time-clock edge at or before an instant of full time (R37). -/
def edgeBefore (t : Nat) : Nat :=
  let d := t % (8 * uNs)
  t - d + (([0, 1677722, 3355443, 5033165, 6710886].filter (fun e => decide (e ≤ d))).foldl max 0)

/-- The edge that a snapshot names (R191): at least one TT_CLK period, and no more than two periods and 8 ns, before the sampling
edge, for TT_CLK from 10 to 200 MHz. -/
def snapEdge (s : State) (back : Nat) : Nat :=
  let d := max (5 * uNs) (min back (208 * uNs - 1677722))
  edgeBefore ((s.clk.now + timeSpan - d) % timeSpan)

def vec4 (l : List Word) : Vector Word 4 := Vector.ofFn (fun i => l.getD i.val 0)

end Sys2Proof.Machine
end

