-- ==== Sys2Proof/Machine/Tick.lean ====
section
/-! DEFINITION. One edge of the clock that advances the time counter (R37, R41): what a step does when no command
waits. -/

namespace Sys2Proof.Machine

/-- The pattern of R37: what edge number `k` of five adds. -/
def edgeAdd (k : Nat) : Nat := if k % 2 = 0 then 1677722 else 1677721

/-- One time-clock edge. The pattern starts on each edge at an exact 8 ns boundary, where the output stages latch the
claims (R155). -/
def timeClockEdge (s : State) : State :=
  let e := if s.clk.now % (8 * uNs) = 0 then 0 else s.clk.edge.val
  let t := advance (edgeAdd e) s
  let t := if t.clk.now % (8 * uNs) = 0 then latchClaims t else t
  { t with clk := { t.clk with edge := if e = 4 then 0 else Fin.ofNat 5 (e + 1) } }

/-- The Kettle's count begins again from where the counter stands. -/
def kettleRestart (s : State) : State :=
  { s with clk := { s.clk with kettleBase := s.clk.now, kettleN := 0 } }

/-- One edge of whichever clock advances the counter; nothing while power-on reset is asserted. -/
def tick (s : State) : State :=
  if s.rst.por then s else if s.clk.kettle then kettleEdge s else timeClockEdge s

end Sys2Proof.Machine
end

