-- ==== Sys2Proof/Machine/ClockOps.lean ====
section
/-! DEFINITION. The synthesisers (chapter 09): their domains and targets (R199), stored bands, hops and searches (R204,
R205), plan changes that wait (R212), the oscillator's frequency in force (R198). -/

namespace Sys2Proof.Machine

def synOf (s : State) (n : Nat) : Synth := vget s.ck.syn n {}
def synMod (n : Nat) (f : Synth → Synth) (s : State) : State := { s with ck := { s.ck with syn := vmodN s.ck.syn n f } }

/-- The domain of a synthesiser (R199). -/
def synDomain (n : Nat) : Nat :=
  if n = 0 then 10 else if n = 1 then 3 else if n < 26 then 4 + (n - 2) / 4 else if n = 26 then 1 else if n = 27 then 2 else 13

/-- The synthesisers of a domain. -/
def synsOf (d : Nat) : List Nat := (List.range 30).filter (fun n => synDomain n == d)

/-- Those that run from OSC_IN (R199). -/
def oscSyns : List Nat := [0, 1, 26, 27]

/-- Lane rate of a group mode in Hz (R238). -/
def laneHz : Nat → Nat
  | 1 => 1250000000 | 2 => 10312500000 | 3 | 4 => 25781250000 | 5 => 26562500000 | _ => 0

/-- The dividers that put the VCO of SYN0 or SYN1 between 5 and 10 GHz for an output frequency in mHz (R199): its VCO
options, from the lowest VCO frequency on. -/
def synDividers (f : Nat) : List Nat :=
  ((List.range 509).map (· + 4)).filter (fun d => decide (5000000000000 ≤ f * d ∧ f * d ≤ 10000000000000))

/-- The frequency that a synthesiser is tuned to, by which band results are kept (R199, R204): the VCO of its option in Hz;
the lane rate; for SYN0 and SYN1 the VCO in mHz. -/
def synTarget (s : State) (n : Nat) : Nat :=
  let o := (synOf s n).vcoOpt
  if n = 0 then (if o = 0 then 4400000000 else 6600000000)
  else if n = 1 then (if o = 0 then 4000000000 else 6000000000)
  else if n < 26 then laneHz (modeOf s (n - 2))
  else if n < 28 then (if o = 0 then 5000000000 else 6250000000)
  else
    let l := synDividers (synOf s n).target
    (synOf s n).target * l.getD o (l.headD 0)

/-- The reference of a synthesiser in Hz: OSC_IN as it is in force, or the accepted time clock (R199). -/
def refHz (s : State) (n : Nat) : Nat := if oscSyns.contains n then s.ck.oscHz else 625000000

/-- The feedback ratio in 2⁻⁴⁸, to the nearest (R201): whole number and 48-bit fraction. An engine's DCO adds the servo's word. -/
def feedback (s : State) (n : Nat) : Int :=
  let vco : Nat := if n < 28 then 1000 * synTarget s n else synTarget s n
  (if refHz s n = 0 then 0 else roundAway ((vco : Rat) * 2 ^ 48 / (1000 * refHz s n : Nat)))
    + (if n = 26 ∨ n = 27 then (engOf s (n - 26)).y else 0)

/-- The die temperature at a synthesiser, 1/16 °C. -/
def synTemp (s : State) (n : Nat) : Int :=
  if 2 ≤ n ∧ n < 26 then (groupOf s (n - 2)).temp else vget s.pins.temps (synDomain n) 400

/-- The stored result that counts for a target (R204): within 40 K. -/
def storedBand (s : State) (n t : Nat) : Option BandResult :=
  (synOf s n).bands.find? (fun b => b.target == t && decide ((b.temp - synTemp s n).natAbs ≤ 640))

/-- A full band search starts (R204, R214, R493). -/
def startSearch (n t : Nat) (s : State) : State :=
  bump 30 1 (synMod n (fun x => { x with tune := .search t, searches := satU 8 (x.searches + 1) }) s)

/-- A hop to a stored band, or a search (R204). -/
def beginTune (n t : Nat) (s : State) : State :=
  let s := synMod n (fun x => { x with lock := false, tunedTo := t }) s
  if (storedBand s n t).isSome then synMod n (fun x => { x with tune := .hop t }) s else startSearch n t s

/-- A retune is requested: one during a hop or search takes effect after it (R205). -/
def retune (n : Nat) (s : State) : State :=
  let t := synTarget s n
  if t = 0 then clkouts (synMod n (fun x => { x with lock := false, tune := .idle, second := none }) s)
  else match (synOf s n).tune with
    | .idle => clkouts (beginTune n t s)
    | _ => synMod n (fun x => { x with second := some t }) s

/-- A hop or search has ended in lock: the second request follows (R205). -/
def tuned (n : Nat) (s : State) : State :=
  match (synOf s n).second with
  | some t => clkouts (beginTune n t (synMod n (fun x => { x with second := none, tune := .idle }) s))
  | none => clkouts (synMod n (fun x => { x with tune := .idle, lock := true }) s)

/-- A domain's synthesisers stop (R205, R358): bands are kept in Retention and lost in Off. -/
def synStop (d : Nat) (lost : Bool) (s : State) : State :=
  (synsOf d).foldl (fun s n => synMod n (fun x => { x with
    lock := false, tune := .idle, second := none
    bands := if lost then [] else x.bands, bandSrc := if lost then 0 else x.bandSrc }) s) s

/-- A VCO option that waited is taken up (R212). -/
def takeOption (n : Nat) (s : State) : State :=
  synMod n (fun x => { x with vcoOpt := x.pendOpt.getD x.vcoOpt, pendOpt := none }) s

/-- Plan changes that wait (R212, R214). -/
def planPending (s : State) : Nat := satU 4 ((s.ck.syn.toList.filter (fun x => x.pendOpt.isSome)).length)

/-- Loss of lock as every synthesiser reports it (R206, R493, R495). -/
def lockLost (n : Nat) (s : State) : State :=
  recover 15 n 0 (bump 31 1 (synMod n (fun x => { x with lock := false, lockLost := true }) s))

/-- The class nominals of R198. -/
def oscNominal : Nat → Nat
  | 0 => 10000000 | 1 => 25000000 | 2 => 50000000 | _ => 100000000
def oscClass : Nat → Nat × Nat
  | 0 => (10000000, 20000000) | 1 => (20000000, 40000000) | 2 => (40000000, 80000000) | _ => (80000000, 125000000)

/-- The boot configuration block in use: the valid copy of the higher sequence (R473). -/
def blockOf (s : State) : BootBlock :=
  let a := s.boot.blocks[0]; let b := s.boot.blocks[1]
  if a.valid && (!b.valid || decide (b.seq ≤ a.seq)) then a else if b.valid then b else {}

/-- Writes the block: the copy of the lower sequence (R473). -/
def writeBlock (f : BootBlock → BootBlock) (s : State) : State :=
  let c := blockOf s
  let n := { f c with valid := true, seq := c.seq + 1 }
  let a := s.boot.blocks[0]; let b := s.boot.blocks[1]
  let first := !a.valid || (b.valid && decide (a.seq < b.seq))
  { s with boot := { s.boot with blocks := vmodN s.boot.blocks (if first then 0 else 1) (fun _ => n) } }

/-- An engine's DCO or distribution has failed: HEALTH 2, and the claim at once (R155, R206). -/
def engineFault (e : Nat) (s : State) : State :=
  if !(engxOf s e).on then s
  else
    let s := if 2 < (engxOf s e).health then setHealth e 2 s else s
    engxMod e (fun x => { x with claim := claimOf s e }) s

end Sys2Proof.Machine
end

