-- ==== Sys2Proof/Machine/ResetOps.lean ====
section
/-! DEFINITION. Reset scopes (R379 to R383) and what they share with power, boot and the host link: flushing, what each
scope clears and keeps, PERST_N (R390, R408, R424), the saved configuration (R470, R480). -/

namespace Sys2Proof.Machine

def bootMod (f : Boot → Boot) (s : State) : State := { s with boot := f s.boot }
def rstMod (f : Resets → Resets) (s : State) : State := { s with rst := f s.rst }
def hostMod (f : HostIf → HostIf) (s : State) : State := { s with host := f s.host }

/-! ### Measurement and the saved configuration -/

/-- MREGn := SHA-384(MREGn ‖ d) (R480). An extension of MREG5 to MREG7 ends the unsigned transcripts (R484). -/
def extendMreg (n : Nat) (d : List Byte) (s : State) : State :=
  bootMod (fun b => { b with
    mreg := vmodN b.mreg n (fun m => Config.sha384 (m ++ d))
    conns := if 5 ≤ n then b.conns.map (fun (c : SpdmConn) => { c with transcript := [] }) else b.conns }) s

/-- The saved configuration's bytes, as measured. -/
def cfgBytes (c : SavedCfg) : List Byte :=
  let pair := fun (k v : Nat) => le 8 k ++ le 8 v
  c.par.flatMap (fun e => pair e.1 (ofSigned 64 e.2)) ++ c.masks.flatMap (fun e => pair e.1 e.2.toNat)
    ++ c.pcp.flatMap (fun e => pair e.1 e.2) ++ c.dscp.flatMap (fun e => pair e.1 e.2)
    ++ c.wred.toList.flatMap (fun w => pair w.minTh w.maxTh ++ pair w.weight w.pmaxDen)
    ++ c.bands.toList.flatMap (fun b => match b with
      | some x => pair x.low x.high ++ pair x.margin (ofSigned 64 x.limit)
      | none => [])

/-- Obilwin saves the settings in force (R472, R480). -/
def saveCfg (s : State) : State :=
  let c : SavedCfg := { par := s.par, masks := s.pm.masks, wred := s.q.wred, pcp := s.fwd.pcp, dscp := s.fwd.dscp, bands := s.ck.bands }
  extendMreg 5 (Config.sha384 (cfgBytes c)) (bootMod (fun b => { b with saved := some c }) s)

/-- A saved parameter, whether or not Obilwin has loaded it: what overrides a strap at CHIP reset (R336, R380). -/
def savedPar (s : State) (id : Nat) : Option Int := s.boot.saved.bind (fun c => Tbl.get c.par (pKey id 0 0))

/-- Preferred engine of a PREF value (R153, R172). -/
def prefOf (s : State) (v : Int) : Nat := if v = 0 then s.te.ks.prefStrap else if v = 1 then 0 else if v = 2 then 1 else 2

/-- Zone and cluster as taken up at POR and CHIP release (R336, R380). -/
def takeAddress (s : State) : State :=
  let z := (savedPar s 0x1C3).getD (-1); let c := (savedPar s 0x1C4).getD (-1)
  { s with fab := { s.fab with
      zone := if z < 0 then s.boot.straps.zone else z.toNat
      cluster := if c < 0 then s.boot.straps.cluster else c.toNat
      cfgZc := decide (0 ≤ z) || decide (0 ≤ c) } }

/-! ### Flushing -/

/-- A frame is flushed from an input group: each copy counts at its port (R254, R307). -/
def flushFrame (d : FrameDesc) (s : State) : State :=
  dropQueued d (d.outs.foldl (fun s o => macCount o.port (if d.cls = 8 then 30 else 29) 1 s) s)

/-- Every queue of an input group is flushed. -/
def flushInput (g : Nat) (s : State) : State :=
  let x := inGrp s g
  let l := x.voq.flatMap (fun e => e.2.frames) ++ x.mcq.toList.flatMap (fun q => q.frames) ++ x.calq
  l.foldl (fun s d => flushFrame d s)
    (inMod g (fun x => { x with voq := [], mcq := Vector.replicate 8 {}, calq := [] }) s)

/-- The egress buffer of a group is flushed. -/
def flushOutput (g : Nat) (s : State) : State :=
  let l := (outGrp s g).egress
  l.foldl (fun s e => hostDropped e.desc (e.ports.foldl (fun s p => macCount p (if e.desc.cls = 8 then 30 else 29) 1 s) s))
    (outMod g (fun o => { o with egress := [] }) s)

/-- A configured port goes DOWN at once by a reset (R243). -/
def resetPort (p : Nat) (keepDelay : Bool) (s : State) : State :=
  if (portOf s p).st == .disabled then s else portDown p .down 6 keepDelay s

/-! ### Scopes -/

/-- Policer buckets refill to full (R282). -/
def refill (s : State) : State :=
  { s with fwd := { s.fwd with live := s.fwd.live.map (fun e =>
      let c := (Tbl.get s.fwd.hw.ctx e.1).getD {}
      (e.1, { e.2 with tc := (c.cbs : Rat), tp := (c.pbs : Rat), asOf := s.clk.elapsed })) } }

/-- DATA reset of the MACs of one lane bank (R20, R243). -/
def dataBank (d : Nat) (s : State) : State :=
  (List.range 32).foldl (fun s k =>
    let p := 32 * (d - 4) + k
    if portUsed s p then
      portMod p (fun q => { q with
        pause := { q.pause with cells := Vector.replicate 8 0 }
        gates := Vector.ofFn (fun i => i.val != 8 || (activeBank (pcalOf s p)).isEmpty) }) (resetPort p true s)
    else s) s

/-- DATA reset of the switch core: queues, pointers, deficits, AVG, policers, host-bound frames in progress (R282, R307,
R408). -/
def dataCore (s : State) : State :=
  let s := (List.range 24).foldl (fun s g => flushOutput g (flushInput g s)) s
  let s := { s with q := { s.q with
      inp := s.q.inp.map (fun (x : InGroup) => { x with accept := Vector.replicate 3 0 })
      out := s.q.out.map (fun (_ : OutGroup) => {}) } }
  let s := calMod (fun c => { c with resync := true }) s
  (List.range 8).foldl (fun s r => rxClose r 2 s) (refill s)

/-- Saturating counts and the last reset's cause (R386). -/
def noteReset (scope src : Nat) (s : State) : State :=
  recover 14 scope 0 (rstMod (fun r => { r with
    lastScope := scope, lastSource := src, ordered := r.ordered.filter (· != scope)
    chipCount := if scope = 1 then satU 8 (r.chipCount + 1) else r.chipCount
    dataCount := if scope = 2 then satU 8 (r.dataCount + 1) else r.dataCount
    mgmtCount := if scope = 3 then satU 8 (r.mgmtCount + 1) else r.mgmtCount }) s)

/-- A wider scope is in progress. -/
def inChip (s : State) : Bool := s.rst.por || s.rst.chip.isSome

/-- The part of a DATA reset that one domain holds. -/
def dataPart (d : Nat) (s : State) : State := if d = 10 then dataCore s else dataBank d s

/-- DATA reset: on domains below On it takes effect at their next entry to On (R379, R382). -/
def dataReset (src : Nat) (s : State) : State :=
  if inChip s || s.rst.data.isSome then rstMod (fun r => { r with ordered := r.ordered.filter (· != 2) }) s
  else
    let s := noteReset 2 src s
    let s := rstMod (fun r => { r with data := some src }) s
    let s := [4, 5, 6, 7, 8, 9, 10].foldl (fun s d =>
      if domOn s d then dataPart d s else rstMod (fun r => { r with deferred := r.deferred ++ [(2, d)] }) s) s
    if (synOf s 0).pendOpt.isSome then retune 0 (takeOption 0 s) else s

/-- The management core's accesses that wait at a crossing fail as its side enters reset (R378). -/
def mgmtAccessesFail (s : State) : State :=
  (s.rst.waiting.filter (fun (x : Waiting) => x.who == .mgmt)).foldl (fun s x => errLog 4 x.domain x.write.isSome .mgmt x.off s)
    (rstMod (fun r => { r with waiting := r.waiting.filter (fun (y : Waiting) => y.who != .mgmt) }) s)

/-- The management core goes into reset (R19, R379, R423). -/
def mgmtCore (src : Nat) (s : State) : State :=
  let s := rstMod (fun r => { r with mgmt := some src }) (mgmtAccessesFail s)
  let s := { s with
    mb := { s.mb with fwReady := false, remote := [] }
    host := { s.host with mgmtRestartEvt := true } }
  let s := bootMod (fun b => { b with stage := 0, update := none, keys := { b.keys with locked := false } }) s
  if (synOf s 1).pendOpt.isSome then retune 1 (takeOption 1 s) else s

def mgmtRestart (src : Nat) (s : State) : State :=
  if inChip s || s.rst.mgmt.isSome then rstMod (fun r => { r with ordered := r.ordered.filter (· != 3) }) s
  else
    let s := noteReset 3 src s
    if domOn s 3 then mgmtCore src s else rstMod (fun r => { r with deferred := r.deferred ++ [(3, src)] }) s

/-- A third firmware watchdog restart within 10 min holds the core (R383). -/
def watchdogHalt (s : State) : State :=
  let recent := (s.clk.elapsed :: s.rst.wdTimes).filter (fun t => decide (s.clk.elapsed ≤ t + 600 * uSec))
  let s := rstMod (fun r => { r with wdTimes := recent }) s
  if 3 ≤ recent.length then
    hostMod (fun h => { h with mgmtHaltEvt := true }) (rstMod (fun r => { r with halted := true }) s)
  else s

/-- One lane in reset (R379, R384). -/
def laneScope (l : Nat) (s : State) : State :=
  laneReset' l 5 false (rstMod (fun r => { r with lanes := vmodN r.lanes l (fun _ => true) }) s)

/-- One group in reset: lanes OFF, MACs, servo, its slice's queues and its ports' VOQs (R379, R282, R307). -/
def groupScope (g : Nat) (s : State) : State :=
  let ls := (List.range 8).map (8 * g + ·)
  let s := rstMod (fun r => { r with
    groups := vmodN r.groups g (fun _ => true)
    lanes := ls.foldl (fun v l => vmodN v l (fun _ => false)) r.lanes }) s
  let s := forEach ls (fun l s => laneReset' l 6 false s) s
  let s := forEach (ls.filter (portUsed s)) (fun p s => delayNone p (resetPort p false s)) s
  let s := forEach ls (fun p s => portMod p (fun q => { q with
    live := Vector.replicate 32 0, snap := Vector.replicate 32 0, snapSeq := 0, gates := Vector.replicate 9 true
    pause := {}, pre := {}, localFault := false, remoteFault := false, anDone := false, anFec := none, aligned := false
    ld := { q.ld with
      valid := false, plumb := 0, solver := false, rtMismatch := false, pathChange := false, selfSpan := false, pairs := 0, seq := 0
      resid := 0, sigma := 0, geom := 0, rtMean := 0, biasMeas := 0, deltaTrue := [] } }) s) s
  let s := forEach ls (laneMod · (fun x => { x with eye := {}, ph := { x.ph with valid := false, phase := 0, noise := 0 } })) s
  let s := servoIdle g (groupMod g (fun x => { x with servo := {}, rep := [] }) s)
  let s := flushOutput g (flushInput g s)
  retune (2 + g) s

/-- GROUP and LANE resets, where their domain is On; else they wait for it (R382). -/
def groupReset (g : Nat) (s : State) : State :=
  if inChip s || vget s.rst.groups g false then s
  else
    let s := recover 14 4 g s
    if domOn s (bankOf g) then groupScope g s else rstMod (fun r => { r with deferred := r.deferred ++ [(4, g)] }) s
def laneReset (l : Nat) (s : State) : State :=
  if inChip s || vget s.rst.groups (l / 8) false || vget s.rst.lanes l false then s
  else
    let s := recover 14 5 l s
    if domOn s (bankOf (l / 8)) then laneScope l s else rstMod (fun r => { r with deferred := r.deferred ++ [(5, l)] }) s

/-- The domain of a deferred reset. -/
def deferDomain (e : Nat × Nat) : Nat :=
  if e.1 = 2 then e.2 else if e.1 = 3 then 3 else if e.1 = 4 then bankOf e.2 else bankOf (e.2 / 8)

/-- Resets that waited for a domain take effect (R382). -/
def applyDeferred (d : Nat) (s : State) : State :=
  let l := s.rst.deferred.filter (fun e => deferDomain e == d)
  l.foldl (fun s e =>
    if e.1 = 2 then dataPart d s else if e.1 = 3 then mgmtCore e.2 s else if e.1 = 4 then groupScope e.2 s else laneScope e.2 s)
    (rstMod (fun r => { r with deferred := r.deferred.filter (fun e => deferDomain e != d) }) s)

/-! ### CHIP and POR -/

/-- What the flash and Obilwin's golden copies keep through everything (R472, R235). -/
def flashOf (b : Boot) : Boot :=
  { slots := b.slots.map (fun (x : Slot) => { x with st := 0 }), blocks := b.blocks, flashMiB := b.flashMiB, rollback := b.rollback, saved := b.saved, attempt := b.attempt }
def goldenFwd (f : Fwd) : Fwd := { golden := f.golden }
def goldenCal (c : Calendar) : Calendar := { golden := c.golden, resv := c.resv, streams := c.streams, nextStream := c.nextStream }

/-- The engines restart from their straps (R171, R470). -/
def bootEngine (x : Engine) : Engine := { y := x.y }
def bootEngineX (x : EngineX) : EngineX := { base := x.base, on := true, booting := true, health := 4 }

/-- CHIP reset: every domain but D0 (R379). -/
def chipReset (src : Nat) (s : State) : State :=
  if s.rst.por || s.rst.chip.isSome then rstMod (fun r => { r with ordered := r.ordered.filter (· != 1) }) s
  else
    let s := noteReset 1 src s
    let k := s.te.ks
    let s' : State := {
      clk := { s.clk with
        kettle := true, kettleBase := s.clk.now, kettleN := 0, tod := .coarse, step := none, edge := 0
        utcCfg := none, utcOvr := none, sigmaAcc := 4294967295, cAcc := 4294967295 }
      te := {
        eng := s.te.eng.map bootEngine
        engx := s.te.engx.map bootEngineX
        ks := { prefStrap := k.prefStrap, pref := k.pref, handovers := k.handovers
                handoverEvt := k.handoverEvt, disagreeAlarm := k.disagreeAlarm, unattributed := k.unattributed } }
      ck := {
        present := s.ck.present, oscLost := s.ck.oscLost, kettleInt := s.ck.kettleInt, configured := s.ck.configured
        oscHz := s.ck.oscHz
        syn := s.ck.syn.map (fun (x : Synth) => { vcoOpt := x.pendOpt.getD x.vcoOpt }) }
      cal := { s.cal with conv := vmapI s.cal.conv (fun i c => if 192 ≤ i.val ∧ i.val ≤ 198 then convKeep c else {}) }
      wx := { s.wx with replica := Vector.replicate 24 {}, scanDue := Vector.replicate 192 false }
      fwd := goldenFwd s.fwd
      cald := goldenCal s.cald
      fab := { held := s.fab.held }
      pm := { s.pm with dom := s.pm.dom.map (fun (d : Domain) => { d with
        st := .on, target := .on, queued := none, heldRaise := false, wakeSrc := none }) }
      rst := { s.rst with
        chip := some src, data := none, mgmt := none, groups := Vector.replicate 24 false, lanes := Vector.replicate 192 false
        deferred := [], ordered := [], halted := false, wdTimes := [], log0 := 0x0F000000, log1 := 0
        log1Snap := Vector.replicate 2 0, waiting := [], pulses := [] }
      host := { perst := s.host.perst, sent := s.host.sent, writes := s.host.writes }
      mb := { epoch := s.mb.epoch }
      boot := { flashOf s.boot with straps := s.boot.straps, starts := s.boot.starts }
      pc := s.pc
      pins := { s.pins with pmbAddr := 64, voutRetried := false }
      free := s.free
      nextFid := s.nextFid
      pending := s.pending }
    s'
where
  /-- A converter of D0 keeps its table; a run under way is not the scope's. -/
  convKeep (c : Conv) : Conv := c

/-- POR: everything but what flash and OTP hold (R379, R490). -/
def porReset (s : State) : State :=
  { (State.reset) with
    fwd := goldenFwd s.fwd
    cald := goldenCal s.cald
    fab := { held := s.fab.held }
    wx := { hourly := s.wx.hourly, daily := s.wx.daily, first := s.wx.first, permitted := s.wx.permitted }
    host := { perst := s.host.perst, sent := s.host.sent, writes := s.host.writes }
    mb := { epoch := s.mb.epoch }
    boot := flashOf s.boot
    free := s.free
    nextFid := s.nextFid
    pending := s.pending }

/-- The synthesisers that run without any configuration start as a scope leaves reset: core, management, both DCOs (R198,
R199). -/
def startSynths (s : State) : State := oscSyns.foldl (fun s n => retune n s) s

/-- The straps as sampled, with what is taken from them (R153, R336, R380). -/
def takeStraps (st : Straps) (s : State) : State :=
  takeAddress (ksMod (fun k => { k with prefStrap := if st.tepref = 0 then 0 else 1 }) (bootMod (fun b => { b with straps := st }) s))

/-! ### PERST_N and Function Level Reset (R390, R408, R424) -/

/-- One ring as PERST_N leaves it. -/
def ringReset (rx : Bool) (g : Ring) (lost : Nat) : Ring :=
  { g with
    enable := false, head := 0, tail := 0, rxPosted := [], txPosted := [], heldLen := none, unreported := 0
    noroom := if rx then satU 16 (g.noroom + lost) else g.noroom }

/-- The host-facing units are reset; a transmit frame fetched whole is still sent. -/
def hostReset (s : State) : State :=
  let h := s.host
  { s with
    host := { h with
      rx := vmapI h.rx (fun i g => ringReset true g (vget h.store i.val []).length)
      tx := h.tx.map (fun g => ringReset false g 0)
      store := Vector.replicate 8 []
      txPend := []
      masked := Vector.replicate 64 true, pba := Vector.replicate 64 false, d3hot := false, inL1 := false
      holding := h.holding.filter (fun e => decide (2 ^ 26 ≤ e.1))
      teSnap := h.teSnap.set 0 (Vector.replicate 5 0)
      mirror := h.mirror.set 0 [], mirrorAt := h.mirrorAt.set 0 0 }
    rst := { s.rst with log1Snap := s.rst.log1Snap.set 0 0 }
    mb := { s.mb with evqEnable := false, evqLo := 0, evqHi := 0, evqHoldLo := 0, evqHead := 0, evqTail := 0 } }

end Sys2Proof.Machine
end

