-- ==== Sys2Proof/Machine/Keys.lean ====
section
/-! DEFINITION. The keys that the boot ROM derives, and certificate slot 0 (R481, R482). HMAC is that of RFC 2104, which RFC 5869 names;
the order of P-384 and the reading of an octet string as a number, its first octet the most significant, are PRESUMED from FIPS 186. -/

namespace Sys2Proof.Machine

/-- HMAC-SHA-384: a block has 128 bytes. -/
def hmac (key m : List Byte) : List Byte :=
  let k := if 128 < key.length then Config.sha384 key else key
  let k := k ++ List.replicate (128 - k.length) 0
  Config.sha384 (k.map (· ^^^ 0x5C) ++ Config.sha384 (k.map (· ^^^ 0x36) ++ m))

/-- HKDF's first step: the pseudo-random key of a salt and the input keying material. -/
def hkdfExtract (salt ikm : List Byte) : List Byte := hmac salt ikm

/-- HKDF's second step, for the 56 bytes of R481: two rounds of 48. -/
def hkdfExpand (prk info : List Byte) : List Byte :=
  let t1 := hmac prk (info ++ [1])
  (t1 ++ hmac prk (t1 ++ info ++ [2])).take 56

/-- The order of the curve P-384. -/
def curveOrder : Nat :=
  0xFFFFFFFFFFFFFFFFFFFFFFFFFFFFFFFFFFFFFFFFFFFFFFFFC7634D81F4372DDF581A0DB248B0A77AECEC196ACCC52973

/-- d = (c mod (n − 1)) + 1. -/
def privateKey (c : List Byte) : Nat := c.foldl (fun a b => 256 * a + b.toNat) 0 % (curveOrder - 1) + 1

/-- The octets of "GT24 identity" and of "GT24 alias". -/
def infoIdentity : List Byte := [0x47, 0x54, 0x32, 0x34, 0x20, 0x69, 0x64, 0x65, 0x6E, 0x74, 0x69, 0x74, 0x79]
def infoAlias : List Byte := [0x47, 0x54, 0x32, 0x34, 0x20, 0x61, 0x6C, 0x69, 0x61, 0x73]

/-- The 256-bit unique device secret. -/
def deviceSecret : List Byte := (List.finRange 32).map Config.deviceSecretByte

/-- The identity's pseudo-random key, from the secret and MREG0. -/
def identityPrk (mreg0 : List Byte) : List Byte := hkdfExtract mreg0 deviceSecret
/-- The identity private key. -/
def identityKey (mreg0 : List Byte) : Nat := privateKey (hkdfExpand (identityPrk mreg0) infoIdentity)
/-- The alias private key, from the identity's pseudo-random key and MREG1 to MREG4. -/
def aliasKey (mreg0 : List Byte) (rest : List (List Byte)) : Nat :=
  privateKey (hkdfExpand (hkdfExtract (Config.sha384 rest.flatten) (identityPrk mreg0)) infoAlias)

/-- The alias certificate: alias public key, serial and MREG0 to MREG4, signed with the identity key. -/
def aliasCertificate (draw identity alia : Nat) (mregs : List (List Byte)) : List Byte :=
  let body := Config.certBody (Config.publicKey alia) serialNumber mregs
  body ++ Config.signature draw identity body
where
  /-- The device serial (R357). -/
  serialNumber : Nat := Config.serial.toNat

def keysMod (f : KeyStore → KeyStore) (s : State) : State := bootMod (fun b => { b with keys := f b.keys }) s
def mregOf (s : State) (n : Nat) : List Byte := vget s.boot.mreg n []

/-- The ROM derives both keys with the secret in SRAM, and signs the alias certificate. -/
def makeKeys (s : State) : State :=
  let i := identityKey (mregOf s 0)
  let a := aliasKey (mregOf s 0) [mregOf s 1, mregOf s 2, mregOf s 3, mregOf s 4]
  let c := aliasCertificate s.free i a [mregOf s 0, mregOf s 1, mregOf s 2, mregOf s 3, mregOf s 4]
  keysMod (fun k => { k with secret := some deviceSecret, identity := some i, alia := some a, aliasCert := c }) { s with free := s.free + 1 }

/-- The identity key and the secret are erased, and the secret's OTP row is read-locked. -/
def sealKeys (s : State) : State := keysMod (fun k => { k with secret := none, identity := none, locked := true }) s

/-- Certificate slot 0's chain: Girima root, identity certificate, alias certificate (R482). -/
def certChain (s : State) : List (List Byte) := [Config.rootCert, Config.identityCert, s.boot.keys.aliasCert]

end Sys2Proof.Machine
end

