-- ==== Sys2Proof/Machine/MacOps.lean ====
section
/-! DEFINITION. What the MACs share: link-up conditions, negotiation, preemption (R241 to R249), flow control received
(R251, R252), statistics and their snapshots (R257), tag edits and one-step fields (R80, R88, R89, R246). -/

namespace Sys2Proof.Machine

/-- The port is held in reset by a scope that owns it (R379, R381). -/
def portInReset (s : State) (p : Nat) : Bool :=
  s.rst.por || s.rst.chip.isSome || s.rst.data.isSome || vget s.rst.groups (p / 8) false

/-- UP, and with its path to the switch On: what forwarding and failover take for UP (R369). -/
def portUp (s : State) (p : Nat) : Bool :=
  decide (p < 192) && (portOf s p).st == .up && domOn s 10 && domOn s (bufDomOf (p / 8))

/-- Auto-negotiation runs on the port (R241). -/
def anRuns (s : State) (p : Nat) : Bool :=
  !kindFab s p && (mediumOf s p == 0 || mediumOf s p == 1 || modeOf s (p / 8) == 1) && parB s 0x104 p

/-- All conditions of R243 for UP. -/
def linkReady (s : State) (p : Nat) : Bool :=
  let q := portOf s p
  portUsed s p && !portInReset s p && (q.st == .down || q.st == .hold) && q.admin && lanesReady s p && q.aligned
    && !q.localFault && !q.remoteFault && (q.anDone || !anRuns s p)

/-- Preemption as the port comes UP: verification starts, or preemption is forced (R248, R255). -/
def startPreempt (p : Nat) (s : State) : State :=
  let v := parB s 0x10A p
  if parB s 0x109 p then portMod p (fun q => { q with pre := { q.pre with
    verify := if v then 1 else 4, attempts := if v then 1 else 0, active := !v } }) s
  else portMod p (fun q => { q with pre := { q.pre with verify := 0, attempts := 0, active := false } }) s

/-- The largest MAX_FRAME among the ports that feed a port: every port in use (R249). -/
def maxFrameAll (s : State) : Nat :=
  ((List.range 192).map (fun p => if portUsed s p then parN s 0x106 p else 0)).foldl max 0

/-- HOLDBACK in bytes (R249). -/
def holdback (s : State) (p : Nat) : Nat :=
  let x := (portOf s p).pre
  if x.active then 64 * (1 + x.peerFrag) + 63 + 24 else maxFrameAll s + 24

/-- The class is express at the port: CAL always (R248). -/
def expressCls (s : State) (p c : Nat) : Bool := c == 8 || (parN s 0x10C p).testBit c

/-! ### Statistics (R257) -/

/-- Copies every live counter of a port into its snapshot and clears it. -/
def macSnap (p : Nat) (s : State) : State :=
  portMod p (fun q => { q with snap := q.live, live := Vector.replicate 32 0, snapSeq := (q.snapSeq + 1) % 65536 }) s

/-- Unicast, multicast or broadcast destination, as 0, 1, 2. -/
def castOf (da : Nat) : Nat := if da = 2 ^ 48 - 1 then 2 else if (da / 2 ^ 40) % 2 = 1 then 1 else 0

/-- Size bucket of a good frame. -/
def sizeBucket (n : Nat) : Nat :=
  if n ≤ 64 then 12 else if n ≤ 127 then 13 else if n ≤ 255 then 14 else if n ≤ 511 then 15 else if n ≤ 1023 then 16
  else if n ≤ 1518 then 17 else 18

/-- A good frame received, and a frame sent. -/
def countGood (p da len : Nat) (s : State) : State :=
  macCount p (sizeBucket len) 1 (macCount p (2 + castOf da) 1 (macCount p 1 1 s))
def countSent (p da len : Nat) (s : State) : State :=
  macCount p (22 + castOf da) 1 (macCount p 21 1 (macCount p 20 len s))

/-! ### Received pause (R251, R252) -/

def pauseMod (p : Nat) (f : PortPause → PortPause) (s : State) : State := portMod p (fun q => { q with pause := f q.pause }) s

/-- Sets a flag for the classes of a mask. -/
def maskSet (v : Vector Bool 8) (mask : Nat) (b : Bool) : Vector Bool 8 := vmapI v (fun i x => if mask.testBit i.val then b else x)

/-- The classes that a received pause, its timer and its watchdog treat as one with a class. -/
def rxMask (s : State) (p c : Nat) : Nat := if par s 0x10E p = 1 then 255 else 2 ^ c

/-- A class of the port has a frame in progress. -/
def clsBusy (s : State) (p c : Nat) : Bool :=
  let t := (portOf s p).tx
  (t.express.any (fun f => f.desc.cls == c)) || (t.preempt.any (fun f => f.desc.cls == c))

/-- A pause of `q` quanta for the classes of a mask: a class in recovery ignores it, zero resumes at once, and a hold
waits for the end of a frame in progress. -/
def takePause (p mask q : Nat) (s : State) : State :=
  let ig := (portOf s p).pause.wdIgnore
  pauseMod p (fun x => { x with
    paused := vmapI x.paused (fun i v => if mask.testBit i.val && !ig[i] then q != 0 else v)
    quanta := vmapI x.quanta (fun i v => if mask.testBit i.val && !ig[i] then q else v)
    held := vmapI x.held (fun i v => if mask.testBit i.val && !ig[i] then
      (if q = 0 then false else v || !clsBusy s p i.val) else v) }) s

/-- Ends the pause of the classes of a mask. -/
def endPause (p mask : Nat) (s : State) : State :=
  pauseMod p (fun x => { x with paused := maskSet x.paused mask false, held := maskSet x.held mask false }) s

/-- Holds that waited for a frame in progress take effect (R251). -/
def joinPause (p : Nat) (s : State) : State :=
  pauseMod p (fun x => { x with held := vmapI x.held (fun i v => v || (x.paused[i] && !clsBusy s p i.val)) }) s

/-! ### Frame fields -/

/-- Big-endian 16-bit field of a frame. -/
def f16 (b : List Byte) (o : Nat) : Nat := fieldBe b o 2

/-- Bytes of VLAN tags from an offset: an S-tag followed by a C-tag, an S-tag, or a C-tag (R261). -/
def tagLen (b : List Byte) (o : Nat) : Nat :=
  if f16 b o = 0x88A8 then (if f16 b (o + 4) = 0x8100 then 8 else 4) else if f16 b o = 0x8100 then 4 else 0

/-- Where an IEEE 1588 message begins in a frame whose EtherType after tags and Veman header stands at `o`, with the
offset of the UDP checksum where it travels over UDP (R80). -/
def ptpAt (b : List Byte) (o : Nat) : Option (Nat × Option Nat) :=
  if f16 b o = 0x88F7 then some (o + 2, none)
  else if f16 b o = 0x0800 then
    let ihl := 4 * bits (fieldBe b (o + 2) 1) 0 4
    let u := o + 2 + ihl
    if fieldBe b (o + 11) 1 = 17 ∧ f16 b (u + 2) = 319 then some (u + 8, some (u + 6)) else none
  else if f16 b o = 0x86DD then
    let u := o + 42
    if fieldBe b (o + 8) 1 = 17 ∧ f16 b (u + 2) = 319 then some (u + 8, some (u + 6)) else none
  else none

/-- An event message: Sync, Delay_Req, Pdelay_Req, Pdelay_Resp (R80). -/
def isEvent (b : List Byte) (m : Nat) : Bool := decide (bits (fieldBe b m 1) 0 4 ≤ 3)

/-- The message of an event frame, behind tags and a Veman header of the given length. -/
def eventAt (b : List Byte) (hdr : Nat) : Option (Nat × Option Nat) :=
  match ptpAt b (12 + hdr + tagLen b (12 + hdr)) with
  | some (m, c) => if isEvent b m then some (m, c) else none
  | none => none

/-- Replaces bytes from an offset. -/
def patch (b : List Byte) (o : Nat) (v : List Byte) : List Byte := b.take o ++ v ++ b.drop (o + v.length)

/-- One's complement sum of the 16-bit words of a field. -/
def onesSum : List Byte → Nat
  | a :: b :: r => a.toNat * 256 + b.toNat + onesSum r
  | [a] => a.toNat * 256
  | [] => 0

/-- Folds a sum into 16 bits. -/
def fold16 (n : Nat) : Nat := let a := n % 65536 + n / 65536; let c := a % 65536 + a / 65536; c % 65536 + c / 65536

/-- The UDP checksum after a field changed, incrementally; a checksum of zero on IPv4 stays (R88). -/
def sumUpdate (old : Nat) (was new : List Byte) : Nat :=
  if old = 0 then 0
  else
    let v := 65535 - fold16 ((65535 - old) + (65535 * was.length - onesSum was) + onesSum new)
    if v = 0 then 65535 else v

/-- Writes a field of the message at `m` and updates a UDP checksum. -/
def ptpWrite (b : List Byte) (ck : Option Nat) (o : Nat) (v : List Byte) : List Byte :=
  let n := patch b o v
  match ck with
  | some c => patch n c (be 2 (sumUpdate (f16 b c) (slice b o v.length) v))
  | none => n

/-- One-step fields of a departing event message (R88): the departure's seconds and nanoseconds in originTimestamp and
its fraction, in 2⁻¹⁶ ns with halves away from zero, added to correctionField. -/
def oneStepFields (b : List Byte) (m : Nat) (ck : Option Nat) (t : Nat) : List Byte :=
  let c := ofSigned 64 (toSigned 64 (fieldBe b (m + 8) 8) + roundAway ((fracOf t : Rat) / 16))
  ptpWrite (ptpWrite b ck (m + 34) (be 6 (secOf t) ++ be 4 (nsOf t))) ck (m + 8) (be 8 c)

/-- The residence time added to correctionField; none where it would overflow (R89). -/
def residence (b : List Byte) (m : Nat) (ck : Option Nat) (d : Rat) : Option (List Byte) :=
  let c := toSigned 64 (fieldBe b (m + 8) 8) + roundAway (d / 16)
  if c < -(2 ^ 63 : Int) ∨ (2 ^ 63 : Int) ≤ c then none else some (ptpWrite b ck (m + 8) (be 8 (ofSigned 64 c)))

/-! ### Tag edits (R246, R279) -/

/-- CRC-8 with polynomial x⁸ + x² + x + 1 (R329). -/
def crc8Bit (c : BitVec 8) : Nat → BitVec 8
  | 0 => c
  | n + 1 => crc8Bit (if c.getLsbD 7 then (c <<< 1) ^^^ 0x07#8 else c <<< 1) n
def crc8 (l : List Byte) : Byte := l.foldl (fun c b => crc8Bit (c ^^^ b) 8) 0

/-- Removes the tags that a mask names, bit 0 the C-tag, bit 1 the S-tag, from an offset. -/
def stripTags (b : List Byte) (o mask : Nat) : List Byte :=
  let b := if mask.testBit 1 && f16 b o == 0x88A8 then b.take o ++ b.drop (o + 4) else b
  if mask.testBit 0 then
    if f16 b o = 0x8100 then b.take o ++ b.drop (o + 4)
    else if f16 b o = 0x88A8 ∧ f16 b (o + 4) = 0x8100 then b.take (o + 4) ++ b.drop (o + 8) else b
  else b

/-- Sets the outer tag's DEI. -/
def setDei (b : List Byte) (o : Nat) : List Byte :=
  if 0 < tagLen b o then patch b (o + 2) [BitVec.ofNat 8 (fieldBe b (o + 2) 1) ||| 0x10#8] else b

/-- The edits of one output copy, in the order of R246, without padding: `hdrIn` says that the frame carries a Veman
header. -/
def editFrame (b : List Byte) (hdrIn : Bool) (o : OutCopy) : List Byte :=
  let b := if hdrIn then b.take 12 ++ b.drop 28 else b
  match o.hdr with
  | some h => b.take 12 ++ h ++ b.drop 12
  | none =>
    let b := stripTags b 12 o.strip
    let b := if o.dei then setDei b 12 else b
    match o.push with
    | some v => b.take 12 ++ be 2 0x8100 ++ be 2 v ++ b.drop 12
    | none => b

/-- Pads with zero bytes to 64 with the FCS. -/
def padFrame (b : List Byte) : List Byte := b ++ List.replicate (60 - b.length) 0

/-- The frame with its FCS, deliberately wrong where the frame is corrupt (R246, R304). -/
def withFcs (b : List Byte) (corrupt : Bool) : List Byte :=
  b ++ le 4 ((if corrupt then ~~~(crc32 b) else crc32 b).toNat)

end Sys2Proof.Machine
end

