-- ==== Sys2Proof/Machine/ForwardOps.lean ====
section
/-! DEFINITION. What forwarding shares: table entries and their parity (R280), the L2 database (R270 to R273), Veman
addresses and headers (R329, R330), parsing (R261), classes (R264), contexts and policing (R265 to R268), routes (R274 to
R276), groups (R278). Table numbers are those of SC_PARITY_LOG (R285). -/

namespace Sys2Proof.Machine

def fwdMod (f : Fwd → Fwd) (s : State) : State := { s with fwd := f s.fwd }
def hwMod (f : FwdTables → FwdTables) (s : State) : State := fwdMod (fun x => { x with hw := f x.hw }) s

/-! ### Table integrity (R280, R285) -/

def badKey (t i : Nat) : Nat := t * 2 ^ 20 + i
def isBad (s : State) (t i : Nat) : Bool := Tbl.has s.fwd.bad (badKey t i)

/-- Marks an entry bad: logged, flagged, reported, and Obilwin asked to rewrite it; an entry already bad stays so. -/
def markBad (t i : Nat) (s : State) : State :=
  if isBad s t i then s
  else
    let s := fwdMod (fun x => { x with
      bad := Tbl.set x.bad (badKey t i) (), parityEvt := true
      logTable := t, logSeq := (x.logSeq + 1) % 4096, logIndex := i }) s
    issueEvent 0x0502 t (le 4 i) (bump 32 1 s)

/-- A write clears the bad mark of its entry (R282). -/
def clearBad (t i : Nat) (s : State) : State := fwdMod (fun x => { x with bad := Tbl.erase x.bad (badKey t i) }) s

/-- Obilwin writes an entry: its golden copy and the tables of D10, which Off has lost (R280, R282, R461). -/
def putBoth (t i : Nat) (f : FwdTables → FwdTables) (s : State) : State :=
  clearBad t i (fwdMod (fun x => { x with golden := f x.golden, hw := if (vget s.pm.dom 10 {}).st == .off then x.hw else f x.hw }) s)

/-! ### The L2 database -/

/-- Bucket of a key (R270). -/
def l2Bucket (vid mac : Nat) : Nat := (crc32 (be 2 vid ++ be 6 mac)).toNat % 32768

/-- The four ways of a bucket, as entry indices. -/
def l2Ways (b : Nat) : List Nat := [4 * b, 4 * b + 1, 4 * b + 2, 4 * b + 3]

/-- The index of a key's entry in a table of L2 entries. -/
def l2Find (t : Tbl L2Entry) (vid mac : Nat) : Option Nat :=
  (l2Ways (l2Bucket vid mac)).find? (fun i => (Tbl.get t i).any (fun e => e.vid == vid && e.mac == mac))

/-- The lowest free way of a key's bucket. -/
def l2Free (t : Tbl L2Entry) (vid mac : Nat) : Option Nat :=
  (l2Ways (l2Bucket vid mac)).find? (fun i => !Tbl.has t i)

/-- The hardware learns a source address with a result (R272). -/
def learn (g vid mac kind result : Nat) (s : State) : State :=
  let t := s.fwd.hw.l2
  match l2Find t vid mac with
  | some i =>
    match Tbl.get t i with
    | some e =>
      if isBad s 0 i then s
      else if e.kind = kind ∧ e.result = result then hwMod (fun h => { h with l2 := Tbl.set h.l2 i { e with hit := true } }) s
      else if e.static then bump 11 1 s
      else bump 12 1 (hwMod (fun h => { h with l2 := Tbl.set h.l2 i { e with hit := true, kind := kind, result := result } }) s)
    | none => s
  | none =>
    match l2Free t vid mac with
    | some i => hwMod (fun h => { h with l2 := Tbl.set h.l2 i { static := false, hit := true, kind, vid, mac, result } }) s
    | none => issueEvent 0x0503 g (le 4 (l2Bucket vid mac)) (bump 10 1 (fwdMod (fun x => { x with learnFullEvt := true }) s))

/-! ### Parsing -/

/-- The parts of a Veman header (R329). -/
structure VHdr where
  type  : Nat
  cls   : Nat
  colour : Nat
  mcast : Bool
  link  : Bool
  dest  : Nat
  destPort : Nat
  src   : Nat
  srcPort : Nat
  ctx   : Nat
  hop   : Nat
  raw   : List Byte
  deriving DecidableEq, Repr

/-- This device's address (R330), and whether a unit is held. -/
def ownAddr (s : State) : Nat := s.fab.zone % 64 * 4096 + s.fab.cluster % 64 * 64 + (if s.fab.addrValid then s.fab.unit % 64 else 0)

/-- A frame of a fabric port carries a Veman header: VEMAN_ETYPE behind the source address. -/
def hasHdr (s : State) (b : List Byte) : Bool := decide (f16 b 12 = parN s 0x1C0 0 ∧ 28 ≤ b.length)

/-- The header of a frame; none where its check fails (R330). -/
def readHdr (b : List Byte) : Option VHdr :=
  let h := slice b 12 16
  let x := fieldBe b 16 3
  let c := fieldBe b 15 1
  let t := fieldBe b 14 1
  if crc8 (h.take 15) != (h.getD 15 0) || t / 16 != 1 || decide (3 < t % 16) || decide (8 < c / 16) || bits c 2 2 == 3 then none
  else some {
    type := t % 16, cls := c / 16, colour := bits c 2 2, mcast := x.testBit 23, link := x.testBit 22, dest := x % 2 ^ 18
    destPort := fieldBe b 19 1, src := fieldBe b 20 3 % 2 ^ 18, srcPort := fieldBe b 23 1, ctx := f16 b 24, hop := fieldBe b 26 1
    raw := h }

/-- A header with its check. -/
def sealHdr (h : List Byte) : List Byte := h.take 15 ++ [crc8 (h.take 15)]

/-- A new header (R279, R329). -/
def newHdr (s : State) (type cls colour dest24 destPort srcPort ctx hop : Nat) : List Byte :=
  sealHdr (be 2 (parN s 0x1C0 0) ++ be 1 (16 + type) ++ be 1 (cls * 16 + colour * 4) ++ be 3 dest24 ++ be 1 destPort
    ++ be 3 (ownAddr s) ++ be 1 srcPort ++ be 2 ctx ++ be 1 hop)

/-- The header kept with class and colour updated and the hop limit decremented (R277, R279). -/
def keepHdr (h : VHdr) (cls colour : Nat) : List Byte :=
  let r := patch h.raw 3 [BitVec.ofNat 8 (cls * 16 + colour * 4 + fieldBe h.raw 3 1 % 4)]
  sealHdr (patch r 14 [BitVec.ofNat 8 (h.hop - 1)])

/-- What the parser finds behind a header of `o − 12` bytes (R261): outer tag's TCI, DSCP. -/
def outerTci (b : List Byte) (o : Nat) : Option Nat := if 0 < tagLen b o then some (f16 b (o + 2)) else none
def dscpOf (b : List Byte) (o : Nat) : Option Nat :=
  let q := o + tagLen b o
  if f16 b q = 0x0800 ∧ q + 3 < b.length then some (fieldBe b (q + 3) 1 / 4)
  else if f16 b q = 0x86DD ∧ q + 3 < b.length then some (bits (f16 b (q + 2)) 6 6)
  else none

/-- VID of a frame on a port (R263). -/
def vidOf (s : State) (p : Nat) (b : List Byte) (o : Nat) : Nat :=
  match outerTci b o with
  | some t => t % 4096
  | none => parN s 0x180 p

/-- Class maps: as written, else the reset maps: PCP n to class n, DSCP n to class n / 8 (R264). -/
def pcpClass (s : State) (p pcp : Nat) : Nat := (Tbl.get s.fwd.pcp (p * 8 + pcp)).getD pcp
def dscpClass (s : State) (m d : Nat) : Nat := (Tbl.get s.fwd.dscp (m * 64 + d)).getD (d / 8)

/-- Traffic class of a standard port by TRUST (R264). -/
def trustClass (s : State) (p : Nat) (b : List Byte) : Nat :=
  let dflt := parN s 0x182 p
  let byPcp := match outerTci b 12 with
    | some t => pcpClass s p (t / 8192)
    | none => dflt
  match par s 0x181 p with
  | 0 => byPcp
  | 1 => match dscpOf b 12 with
    | some d => dscpClass s (parN s 0x183 p) d
    | none => byPcp
  | _ => dflt

/-! ### Contexts and policing -/

/-- A context in use (R265). -/
def ctxOf (s : State) (i : Nat) : Option CtxCfg :=
  if i = 0 then none else (Tbl.get s.fwd.hw.ctx i).filter (fun c => c.valid)

/-- The match entry for a frame of a standard port, as its index (R265). -/
def matchFind (s : State) (p mac vid : Nat) : Option (Nat × MatchEntry) :=
  s.fwd.hw.mat.find? (fun e => e.2.port == p && e.2.mac == mac && e.2.vid == vid)

/-- Live state of a context: full buckets before its first frame. -/
def liveOf (s : State) (i : Nat) (c : CtxCfg) : CtxLive :=
  (Tbl.get s.fwd.live i).getD { tc := c.cbs, tp := c.pbs, asOf := s.clk.elapsed }

/-- Core cycles of 1.1 GHz since power-on (R21). -/
def coreCycles (t : Nat) : Nat := t * 11 / (10 * uNs)

/-- A parity error found: the entry is marked bad, and a policer's state is refilled to full (R280). -/
def parityFound (t i : Nat) (s : State) : State :=
  let s := markBad t i s
  if t = 6 then
    fwdMod (fun f => { f with live := Tbl.upd f.live i (fun x =>
      match Tbl.get f.hw.ctx i with
      | some c => { x with tc := (c.cbs : Rat), tp := (c.pbs : Rat), asOf := s.clk.elapsed }
      | none => x) }) s
  else s

/-- A bucket after its refill in every core cycle: rates are in 64 kb/s, 8,000 bytes/s (R266, R268). What a level has beyond 1/64 byte
is carried: against a frame's whole bytes it decides nothing. -/
def bucketFill (now asOf rate size : Nat) (t : Rat) : Rat :=
  min (size : Rat) (t + (rate : Rat) * 8000 * ((coreCycles now - coreCycles asOf : Nat) : Rat) / 1100000000)

/-- The marker of R268: colour and both buckets after. Colours: 0 green, 1 yellow, 2 red. -/
def meter (aware : Bool) (inc : Nat) (b : Rat) (tc tp : Rat) : Nat × Rat × Rat :=
  if aware ∧ inc = 2 then (2, tc, tp)
  else if aware ∧ inc = 1 then (if b ≤ tp then (1, tc, tp - b) else (2, tc, tp))
  else if tp < b then (2, tc, tp)
  else if tc < b then (1, tc, tp - b)
  else (0, tc - b, tp - b)

/-- Stage 4 for a context: colour by the policer where it is on, and the statistics (R266, R268, R280). -/
def police (i : Nat) (c : CtxCfg) (inc len : Nat) (s : State) : Nat × State :=
  let x := liveOf s i c
  let r := if c.police then
      meter c.aware inc len (bucketFill s.clk.elapsed x.asOf c.cir c.cbs x.tc) (bucketFill s.clk.elapsed x.asOf c.pir c.pbs x.tp)
    else (inc, x.tc, x.tp)
  let x := { x with
    tc := r.2.1, tp := r.2.2, asOf := if c.police then s.clk.elapsed else x.asOf
    green := (x.green + b2n (r.1 == 0)) % 2 ^ 64, yellow := (x.yellow + b2n (r.1 == 1)) % 2 ^ 64
    red := (x.red + b2n (r.1 == 2)) % 2 ^ 64, octets := (x.octets + len) % 2 ^ 64 }
  (r.1, fwdMod (fun f => { f with live := Tbl.set f.live i x }) s)

/-! ### Routes (R274 to R276, R335) -/

/-- A route member that failover takes for UP: an UP port with a two-way adjacency. -/
def memberUp (s : State) (p : Nat) : Bool := portUp s p && (vget s.fab.adj p {}).st == .twoWay

/-- The route entry for a destination device, as its index; none: the frame is for this device. -/
def routeIndex (s : State) (dest : Nat) : Option Nat :=
  let z := dest / 4096 % 64; let c := dest / 64 % 64; let u := dest % 64
  if z != s.fab.zone then some z
  else if c != s.fab.cluster then some (64 + c)
  else if !s.fab.addrValid || u != s.fab.unit then some (128 + u)
  else none

/-- The first member in member order from a place that is UP. -/
def nextUp (s : State) (m : List Nat) (from' : Nat) : Option Nat :=
  ((List.range m.length).map (fun i => m.getD ((from' + i) % m.length) 0)).find? (memberUp s)

/-- The member a hash selects, its backup, or the next that is UP (R276). -/
def routeMember (s : State) (e : RouteEntry) (h : Nat) : Option Nat :=
  let k := h % e.members.length
  let m := e.members.getD k 0
  if e.members.isEmpty then none
  else if memberUp s m then some m
  else match e.backup with
    | some b => if memberUp s b then some b else nextUp s e.members (k + 1)
    | none => nextUp s e.members (k + 1)

/-- The hash of R275 over the fields in their widths, in network byte order. -/
def flowHash (src srcPort dest destPort ctx : Nat) (macs : List Byte) (vid : Nat) : Nat :=
  (crc32 (be 3 src ++ be 1 srcPort ++ be 3 dest ++ be 1 destPort ++ be 2 ctx ++ macs ++ be 2 vid)).toNat

/-! ### Groups (R278) -/

/-- The output ports of a group, less the ingress port and less indices that no port has. -/
def groupPorts (s : State) (p g : Nat) : List Nat :=
  match Tbl.get s.fwd.hw.mcast g with
  | some e => if e.valid then (List.range 192).filter (fun q => e.mask.getLsbD q && q != p && portUsed s q) else []
  | none => []

end Sys2Proof.Machine
end

