-- ==== Sys2Proof/Machine/AdmitOps.lean ====
section
/-! DEFINITION. Admission to the queues: the ordered checks of R287, random early drop (R298, R299), cut-through marking
(R297). -/

namespace Sys2Proof.Machine

/-- Profile number for a class and colour; 31 is NONE (R298, R308). -/
def profileOf (s : State) (c colour : Nat) : Nat := bits (parC s 0x189 0 c).toNat (8 * colour) 5

/-- The average after one frame, in 1/256 cell (R299). -/
def wredAvg (a q w : Nat) : Nat := (a * 2 ^ w + q * 256 - a) / 2 ^ w

/-- Whether a profile drops at an average for a random number (R299). -/
def wredDrops (w : Wred) (a r : Nat) : Bool :=
  if a < w.minTh * 256 then false
  else if w.maxTh * 256 ≤ a then true
  else decide (r < (a - w.minTh * 256) * 65536 / ((w.maxTh - w.minTh) * 256 * w.pmaxDen))

/-- An input group's random number: 0 to 65,534, every value once in 65,535 decisions (R299). -/
def wredRand (s : State) (g : Nat) : Nat := (Config.wredOrder s.q.seed g (Fin.ofNat 65535 (inGrp s g).draws)).val

/-- A queue named by a frame's outputs: a VOQ for one, the class's multicast queue for more (R289). -/
def queueOf (s : State) (g : Nat) (d : FrameDesc) : Queue :=
  match d.outs with
  | [o] => voqOf s g o.port d.cls
  | _ => vget (inGrp s g).mcq d.cls {}

/-- Stores a queue of a frame's kind. -/
def setQueue (g : Nat) (d : FrameDesc) (f : Queue → Queue) (s : State) : State :=
  match d.outs with
  | [o] => inMod g (fun x => { x with voq := Tbl.set x.voq (voqKey o.port d.cls) (f ((Tbl.get x.voq (voqKey o.port d.cls)).getD {})) }) s
  | _ => inMod g (fun x => { x with mcq := vmodN x.mcq d.cls f }) s

/-- Random early drop of check 4: whether the frame drops, with AVG and the generator advanced. A class and colour
mapped to NONE has no weight: nothing changes. -/
def wredStep (g : Nat) (d : FrameDesc) (s : State) : Bool × State :=
  let k := profileOf s d.cls d.colour
  if 16 ≤ k then (false, s)
  else
    let w := vget s.q.wred k {}
    let q := queueOf s g d
    let a := wredAvg q.avg (depthOf q.frames) w.weight
    let drop := wredDrops w a (wredRand s g)
    let s := inMod g (fun x => { x with draws := (x.draws + 1) % 65535 }) s
    (drop, if q.frames.isEmpty then s else setQueue g d (fun q => { q with avg := a }) s)

/-- Counts a refusal of an input group; checks 3 to 5 count against the output ports' congestion (R287, R301). -/
def refuse (g k : Nat) (d : FrameDesc) (s : State) : State :=
  let s := bump (groupEvent g k) 1 s
  let s := if k = 12 ∨ k = 17 then inMod g (fun x => { x with bufFullEvt := true }) s else s
  let s := if k = 12 then s else d.outs.foldl (fun s o =>
    { s with q := { s.q with cong := vmodN s.q.cong o.port (fun c => { c with drops := c.drops + 1 }) } }) s
  hostDropped d s

/-- The output's MAC for a class holds no cell and sends no frame (R297). -/
def macIdle (s : State) (p c : Nat) : Bool :=
  let ex := expressCls s p c
  let t := (portOf s p).tx
  (if ex then t.express.isNone else t.preempt.isNone) &&
    (outGrp s (p / 8)).egress.all (fun e => !(e.ports.contains p && expressCls s p e.desc.cls == ex))

/-- The mark of R297. -/
def cutMark (s : State) (g : Nat) (d : FrameDesc) : Bool :=
  if d.cls = 8 then true
  else if d.hostTx.isSome then false
  else match d.outs with
    | [o] => macIdle s o.port d.cls && (voqOf s g o.port d.cls).frames.isEmpty && decide (speedOf s o.port ≤ speedOf s d.port)
    | _ => false

/-- The frame enters its queue. -/
def enqueue (g : Nat) (d : FrameDesc) (s : State) : State :=
  let d := { d with cut := cutMark s g d }
  let s := if d.cls = 8 then inMod g (fun x => { x with calq := x.calq ++ [d] }) s
    else setQueue g d (fun q => { q with frames := q.frames ++ [d] }) s
  countCells d true (cellsOf d.len) s

/-- Checks 3 to 5 for a frame of TC0 to TC7. -/
def admitTc (g : Nat) (d : FrameDesc) (s : State) : State :=
  if (parGC s 0x188 g d.cls).toNat ≤ depthOf (queueOf s g d).frames then refuse g 13 d s
  else
    let w := wredStep g d s
    if w.1 then refuse g (14 + d.colour) d w.2
    else if cellsFree w.2 g + calUsed s g < (parG s 0x187 g).toNat + 2048 then refuse g 17 d w.2
    else enqueue g d w.2

/-- Frames for a port that is DOWN, and CAL frames for one that is not UP, drop at ingress (R254). -/
def dropDown (d : FrameDesc) (s : State) : FrameDesc × State :=
  let single := d.outs.length = 1
  let bad := fun (o : OutCopy) =>
    if d.cls = 8 then (portOf s o.port).st != .up
    else single && ((portOf s o.port).st == .down || (portOf s o.port).st == .disabled)
  let gone := d.outs.filter bad
  ({ d with outs := d.outs.filter (fun o => !bad o) },
    gone.foldl (fun s o => copyDropped d (macCount o.port 30 1 s)) s)

/-- A decided frame is admitted to a queue of an input group, or refused (R287, R254). -/
def admitFrame (g : Nat) (d : FrameDesc) (s : State) : State :=
  let x := dropDown d s
  if x.1.outs.isEmpty then hostDropped d x.2
  else if d.cls = 8 then
    if (parG s 0x187 g).toNat < calUsed x.2 g + 128 then refuse g 12 x.1 x.2 else enqueue g x.1 x.2
  else admitTc g x.1 x.2

end Sys2Proof.Machine
end

