-- ==== Sys2Proof/Machine/CrossOps.lean ====
section
/-! DEFINITION. The crossbar and the egress side: requests (R290), the match of four iterations (R291), egress choice (R294,
R295), cells into the reassembly buffer with their checks (R302 to R304, R317), what begins and what is sent (R296). -/

namespace Sys2Proof.Machine

/-! ### Frames and their cells -/

/-- Cells of a frame that may cross now: a cut-through frame's last cell only once it has ended, a store-and-forward
frame only once it is whole (R290, R297). -/
def cellsReady (d : FrameDesc) : Nat := if d.complete then cellsOf d.len else if d.cut then cellsOf d.len - 1 else 0

/-- Cells that every target group has: the index of the head cell (R302). -/
def headCell (d : FrameDesc) : Nat := ((outGroups d).map (crossedTo d)).foldl min (cellsOf d.len)

/-- The head cell has a target in an output group that has not received it. -/
def wants (o : Nat) (d : FrameDesc) : Bool :=
  (outGroups d).contains o && crossedTo d o == headCell d && decide (headCell d < cellsReady d)

/-- The frame with an identity is being sent by a port. -/
def begun (s : State) (p fid : Nat) : Bool :=
  let t := (portOf s p).tx
  t.express.any (fun f => f.desc.fid == fid) || t.preempt.any (fun f => f.desc.fid == fid)

/-! ### Egress openness and choice (R294, R295) -/

/-- Cells that a port's MAC holds, express or preemptable, and its frames not yet begun. -/
def macCells (s : State) (p : Nat) (ex : Bool) : Nat :=
  (((outGrp s (p / 8)).egress.filter (fun e => e.ports.contains p && expressCls s p e.desc.cls == ex)).map (fun e => e.cells)).sum
def macWaiting (s : State) (p : Nat) (ex : Bool) : Nat :=
  ((outGrp s (p / 8)).egress.filter (fun e => e.ports.contains p && expressCls s p e.desc.cls == ex && e.desc.cls != 8)).length

/-- The output group advertises a port and class as open (R294, R369). -/
def egressOpen (s : State) (p c : Nat) : Bool :=
  let ex := expressCls s p c
  portUp s p && vget (portOf s p).gates c true && !vget (portOf s p).pause.held c false
    && decide (macWaiting s p ex ≤ 1) && decide (macCells s p ex + cellsOf (parN s 0x106 p) ≤ 128)

/-- Deficit-weighted rotation: stays where the deficit is positive and there are requests, and adds the quantum of what
it moves past. -/
def dwrr (has : Nat → Bool) (quantum : Nat → Int) : Nat → List Int → Nat → Nat × List Int
  | 0, d, pos => (pos, d)
  | f + 1, d, pos =>
    if has pos && decide (0 < d.getD pos 0) then (pos, d)
    else dwrr has quantum f (if has pos then d.set pos (d.getD pos 0 + quantum pos) else d) ((pos + 1) % 8)

/-- Enough turns for any deficit to become positive. -/
def dwrrTurns (d : List Int) : Nat := 8 * (3 + (d.foldl min 0).natAbs / 128)

/-- One rotation over eight places, those without requests at deficit 0. -/
def dwrrPick (has : Nat → Bool) (quantum : Nat → Int) (d : List Int) (pos : Nat) : Nat × List Int :=
  let d0 := (List.range 8).map (fun i => if has i then d.getD i 0 else 0)
  dwrr has quantum (dwrrTurns d0) d0 pos

/-- The (port, class) that an output group chooses among open requests, with its deficits and places after (R295). -/
def choosePc (s : State) (o : Nat) (g : OutGroup) (req : List (Nat × Nat)) : (Nat × Nat) × OutGroup :=
  let r := dwrrPick (fun n => req.any (fun x => x.1 == 8 * o + n)) (fun n => parN s 0x18A (8 * o + n)) g.portDef.toList g.portPos
  let p := 8 * o + r.1
  let g := { g with portDef := Vector.ofFn (fun i => r.2.getD i.val 0), portPos := r.1 }
  let mine := req.filter (fun x => x.1 == p)
  let strict := parN s 0x18C p
  let top := (mine.filter (fun x => strict.testBit x.2)).foldl (fun b x => max b (x.2 + 1)) 0
  if 0 < top then ((p, top - 1), g)
  else
    let cd := (List.range 8).map (fun c => vget g.classDef (8 * r.1 + c) 0)
    let q := dwrrPick (fun c => mine.any (fun x => x.2 == c)) (fun c => (parC s 0x18B p c).toNat) cd (vget g.classPos r.1 0)
    ((p, q.1), { g with
      classDef := vmapI g.classDef (fun i v => if i.val / 8 = r.1 then q.2.getD (i.val % 8) 0 else v)
      classPos := vmodN g.classPos r.1 (fun _ => q.1) })

/-! ### Requests (R290) -/

/-- The heads of an input group's ordinary queues, with their place: VOQ key + 8, or the multicast class. -/
def heads (x : InGroup) : List (Nat × FrameDesc) :=
  (List.range 8).filterMap (fun c => (vget x.mcq c {}).frames.head?.map (fun d => (c, d)))
    ++ x.voq.filterMap (fun e => e.2.frames.head?.map (fun d => (e.1 + 8, d)))

/-- The port that a new frame's request names in an output group: for a copy set, the first open one, or the lowest
where none of them is UP (R290, R303). -/
def askPort (s : State) (o : Nat) (d : FrameDesc) : Option Nat :=
  let ps := (d.outs.map (fun x => x.port)).filter (fun p => p / 8 == o)
  match ps.find? (fun p => egressOpen s p d.cls) with
  | some p => some p
  | none => if 1 < d.outs.length ∧ ps.all (fun p => !portUp s p) then ps.head? else none

/-- What an input group asks of an output group. -/
structure Ask where
  cal  : Bool
  cont : Bool
  new  : List (Nat × Nat)
  deriving DecidableEq, Repr

def askOf (s : State) (i o : Nat) : Ask :=
  let x := if domOn s (bufDomOf i) then inGrp s i else {}
  let hs := (heads x).filter (fun h => wants o h.2)
  { cal := x.calq.head?.any (wants o)
    cont := hs.any (fun h => decide (0 < crossedTo h.2 o))
    new := hs.filterMap (fun h => if crossedTo h.2 o = 0 then (askPort s o h.2).map (fun p => (p, h.2.cls)) else none) }

/-! ### The match (R291, R293) -/

/-- The first of some groups at or after a pointer. -/
def firstFrom (ptr : Nat) (l : List Nat) : Option Nat :=
  l.foldl (fun b x => match b with
    | some y => if (x + 24 - ptr) % 24 < (y + 24 - ptr) % 24 then some x else b
    | none => some x) none

/-- A grant, and once accepted a matched pair: input, output, level, and the port and class of a new frame. -/
structure Pair where
  inp  : Nat
  out  : Nat
  lvl  : Nat
  port : Nat
  cls  : Nat
  deriving DecidableEq, Repr

/-- One output group's grant among the unmatched inputs, with its state after the choice. -/
def grantOf (s : State) (asks : Nat → Nat → Ask) (free : List Nat) (o : Nat) : Option Pair × OutGroup :=
  let g := outGrp s o
  let by' := fun (lvl : Nat) (l : List Nat) => firstFrom (vget g.grant lvl 0).val l
  match by' 0 (free.filter (fun i => (asks i o).cal)), by' 1 (free.filter (fun i => (asks i o).cont)) with
  | some i, _ => (some { inp := i, out := o, lvl := 0, port := 0, cls := 8 }, g)
  | none, some i => (some { inp := i, out := o, lvl := 1, port := 0, cls := 0 }, g)
  | none, none =>
    let req := free.flatMap (fun i => (asks i o).new)
    if req.isEmpty then (none, g)
    else
      let c := choosePc s o g req
      match by' 2 (free.filter (fun i => (asks i o).new.contains c.1)) with
      | some i => (some { inp := i, out := o, lvl := 2, port := c.1.1, cls := c.1.2 }, c.2)
      | none => (none, g)

/-- An input group's accept among its grants. -/
def acceptOf (s : State) (grants : List Pair) (i : Nat) : Option Pair :=
  let mine := grants.filter (fun p => p.inp == i)
  let lvl := mine.foldl (fun b p => min b p.lvl) 3
  let at' := mine.filter (fun p => p.lvl == lvl)
  match firstFrom (vget (inGrp s i).accept lvl 0).val (at'.map (fun p => p.out)) with
  | some o => at'.find? (fun p => p.out == o)
  | none => none

/-- The pointers of an accepted pair of the first iteration move one past. -/
def movePointers (p : Pair) (s : State) : State :=
  outMod p.out (fun g => { g with grant := vmodN g.grant p.lvl (fun _ => Fin.ofNat 24 (p.inp + 1)) })
    (inMod p.inp (fun x => { x with accept := vmodN x.accept p.lvl (fun _ => Fin.ofNat 24 (p.out + 1)) }) s)

/-- One iteration of request, grant and accept. Only the first one moves the rotation and the pointers. -/
def iteration (asks : Nat → Nat → Ask) (first : Bool) (done : List Pair) (s : State) : List Pair × State :=
  let ins := (List.range 24).filter (fun i => !done.any (fun p => p.inp == i))
  let outs := (List.range 24).filter (fun o => !done.any (fun p => p.out == o))
  let gs := outs.map (fun o => (o, grantOf s asks ins o))
  let grants := gs.filterMap (fun g => g.2.1)
  let acc := ins.filterMap (acceptOf s grants)
  let s := if first then gs.foldl (fun s g => outMod g.1 (fun _ => g.2.2) s) s else s
  (done ++ acc, if first then acc.foldl (fun s p => movePointers p s) s else s)

/-- The match of one slot. -/
def matchSlot' (s : State) : List Pair × State :=
  let tab := (List.range 24).map (fun i => (List.range 24).map (fun o => askOf s i o))
  let asks := fun i o => (tab.getD i []).getD o ⟨false, false, []⟩
  let r := iteration asks true [] s
  let r := iteration asks false r.1 r.2
  let r := iteration asks false r.1 r.2
  iteration asks false r.1 r.2

/-! ### Cells into the reassembly buffer (R302 to R305, R317) -/

/-- The frame in a group's reassembly buffer, by identity and input group. -/
def egMod (o fid i : Nat) (f : EgFrame → EgFrame) (s : State) : State :=
  outMod o (fun g => { g with egress := g.egress.map (fun e => if e.desc.fid = fid ∧ e.src.val = i then f e else e) }) s

/-- Marks a frame being sent by ports of a group as ending with a corrupted FCS. -/
def corruptTx (o fid : Nat) (s : State) : State :=
  let f := fun (t : Option TxFrame) => t.map (fun (x : TxFrame) => if x.desc.fid = fid then { x with corrupt := true } else x)
  forEach ((List.range 8).map (8 * o + ·)) (fun p s =>
    portMod p (fun q => { q with tx := { q.tx with express := f q.tx.express, preempt := f q.tx.preempt } }) s) s

/-- A frame found bad in the reassembly buffer: what has not begun is dropped with every copy in the group and counted,
what has begun ends with a corrupted FCS (R304). -/
def badFrame (o fid i ev : Nat) (s : State) : State :=
  match (outGrp s o).egress.find? (fun e => e.desc.fid == fid && e.src.val == i) with
  | some e =>
    let s := corruptTx o fid s
    if e.ports.isEmpty then s
    else
      let s := outMod o (fun g => { g with egress := g.egress.filter (fun e => !(e.desc.fid == fid && e.src.val == i)) }) s
      let s := e.ports.foldl (fun s _ => if 1 < e.desc.outs.length then copyDropped e.desc s else s) s
      hostDropped e.desc (bump ev 1 s)
  | none => s

/-- The frame carries a Veman header as it stands in the switch. -/
def carriesHdr (s : State) (d : FrameDesc) : Bool := d.hostTx.isNone && kindFab s d.port && hasHdr s d.bytes

/-- Length of a frame at a port after the edits, with its FCS (R246). -/
def editedLen (s : State) (p : Nat) (d : FrameDesc) : Nat :=
  match d.outs.find? (fun o => o.port == p) with
  | some o => (padFrame (editFrame d.bytes (carriesHdr s d) o)).length + 4
  | none => d.len

/-- The frame of a context's reservation is at most MAX_LEN after the edits (R317, R322). -/
def withinMax (s : State) (p : Nat) (d : FrameDesc) : Bool :=
  match Tbl.get s.fwd.hw.ctx d.ctx with
  | some x => (Tbl.get s.cald.resv x.calRes).any (fun r => decide (editedLen s p d ≤ r.maxLen))
  | none => false

/-- A CAL frame's first cell: each port's slot, or a miss (R317). -/
def calPorts (d : FrameDesc) (ports : List Nat) (s : State) : List Nat × List SlotMatch × State :=
  ports.foldl (fun a p =>
    let s := a.2.2
    if (portOf s p).st != .up then (a.1, a.2.1, calMiss p d.ctx (macCount p 30 1 s))
    else if !withinMax s p d then (a.1, a.2.1, calMiss p d.ctx s)
    else match matchSlot s p d.ctx s.clk.now with
      | some m => (a.1 ++ [p], a.2.1 ++ [m], pcalMod p (fun c => { c with used := m :: c.used }) s)
      | none => (a.1, a.2.1, calMiss p d.ctx s)) ([], [], s)

/-- Copies of a multicast frame as it completes: MC_DOWN, MC_CHANGED, MC_NOROOM (R303). -/
def copyFrame (o i : Nat) (e : EgFrame) (s : State) : State :=
  if e.desc.outs.length ≤ 1 ∨ e.desc.cls = 8 then s
  else
    let mask : Option (BitVec 192) := e.desc.group.bind (fun g => (Tbl.get s.fwd.hw.mcast g).map (fun (m : McastEntry) => m.mask))
    let why := fun (p : Nat) =>
      let ex := expressCls s p e.desc.cls
      if !portUp s p then some 6
      else if mask.any (fun m => !m.getLsbD p) then some 7
      else if 128 < macCells s p ex then some 8
      else none
    let gone := e.ports.filterMap why
    let keep := e.ports.filter (fun p => (why p).isNone)
    let s := gone.foldl (fun s ev => copyDropped e.desc (bump ev 1 s)) s
    if keep.isEmpty then outMod o (fun g => { g with egress := g.egress.filter (fun x => !(x.desc.fid == e.desc.fid && x.src.val == i)) }) s
    else egMod o e.desc.fid i (fun x => { x with ports := keep }) s

/-- A cell enters the reassembly buffer of an output group. -/
def egressCell (i o : Nat) (d : FrameDesc) (bad : Bool) (s : State) : State :=
  let total := cellsOf d.len
  let ports := (d.outs.map (fun x => x.port)).filter (fun p => p / 8 == o)
  let s :=
    if crossedTo d o = 0 then
      let c := if d.cls = 8 then calPorts d ports s else (ports, [], s)
      let e : EgFrame := { desc := d, src := Fin.ofNat 24 i, ports := c.1, cells := 1, total, first := c.2.2.clk.now, slots := c.2.1 }
      if c.1.isEmpty then hostDropped d c.2.2 else outMod o (fun g => { g with egress := g.egress ++ [e] }) c.2.2
    else egMod o d.fid i (fun e => { e with cells := e.cells + 1, desc := { d with outs := e.desc.outs } }) s
  let s := if bad then badFrame o d.fid i 4 (inMod i (fun x => { x with cellCrcEvt := true }) s) else s
  if crossedTo d o + 1 = total then
    let s := if d.bad then badFrame o d.fid i 5 s else s
    match (outGrp s o).egress.find? (fun e => e.desc.fid == d.fid && e.src.val == i) with
    | some e =>
      if e.ports.isEmpty then outMod o (fun g => { g with egress := g.egress.filter (fun x => !(x.desc.fid == d.fid && x.src.val == i)) }) s
      else copyFrame o i e s
    | none => s
  else s

/-- The deficits of a port and class pay for a cell's data bytes (R295). -/
def payCell (o p c n : Nat) (s : State) : State :=
  outMod o (fun g => { g with
    portDef := vmodN g.portDef (p % 8) (· - (n : Int))
    classDef := if c < 8 then vmodN g.classDef (8 * (p % 8) + c) (· - (n : Int)) else g.classDef }) s

/-- A frame after a cell crossed to a group: none where every group has all its cells. -/
def afterCell (o : Nat) (d : FrameDesc) : Option FrameDesc :=
  let d' := { d with crossed := Tbl.set d.crossed o (crossedTo d o + 1) }
  if headCell d' = cellsOf d.len then none else some d'

/-- The head of a list of frames replaced, or taken away. -/
def swapHead (n : Option FrameDesc) (l : List FrameDesc) : List FrameDesc := n.toList ++ l.tail

/-- The matched cell of a pair crosses: from its queue, out of the buffer when every target has it, into the output
group (R289, R295, R302). -/
def crossCell (bad : Bool) (m : Pair) (s : State) : State :=
  let x := inGrp s m.inp
  let hs := (heads x).filter (fun h => wants m.out h.2)
  let pick : Option (Nat × FrameDesc) :=
    if m.lvl = 0 then (x.calq.head?.filter (wants m.out)).map (fun d => (2 ^ 20, d))
    else if m.lvl = 1 then hs.find? (fun h => decide (0 < crossedTo h.2 m.out))
    else hs.find? (fun h => crossedTo h.2 m.out == 0 && askPort s m.out h.2 == some m.port && h.2.cls == m.cls)
  match pick with
  | none => s
  | some (k, d) =>
    let n := afterCell m.out d
    let s := if k = 2 ^ 20 then inMod m.inp (fun x => { x with calq := swapHead n x.calq }) s
      else if k < 8 then setMcq m.inp k (swapHead n (vget x.mcq k {}).frames) s
      else setVoq m.inp ((k - 8) / 8) ((k - 8) % 8) (swapHead n ((Tbl.get x.voq (k - 8)).getD {}).frames) s
    let rel := match n with
      | some d' => headCell d' - headCell d
      | none => 1
    let s := if rel = 0 then s else countCells d false rel s
    let p := if m.lvl = 2 then m.port else ((d.outs.map (fun o => o.port)).find? (fun p => p / 8 == m.out)).getD (8 * m.out)
    egressCell m.inp m.out d bad (bump 3 1 (payCell m.out p d.cls (min 128 (d.len - 128 * crossedTo d m.out)) s))

/-! ### What the egress MAC sends (R245 to R250, R296) -/

/-- When a class's gate at a port next closes by the calendar, in 2⁻²⁰ ns (R250, R315). -/
def gateCloses (s : State) (p c : Nat) : Option Rat :=
  if !s.cald.running then none
  else
    let pc := pcalOf s p
    let l := (activeBank pc).filter (fun e => e.ctx != 0 || !e.gate.testBit c)
    let k := courseAt s.cald s.clk.now
    let t := l.flatMap (fun e => [k, k + 1, k + 2].map (fun j =>
      ((courseStart s.cald j : Int) : Rat) + ((e.start : Rat) - pc.guard) * period))
    (t.filter (fun x => decide ((s.clk.now : Rat) < x))).foldl (fun b x => match b with
      | some y => if x < y then some x else b
      | none => some x) none

/-- Time a frame of `len` bytes takes with preamble and gap, in 2⁻²⁰ ns. -/
def sendTime (s : State) (p len : Nat) : Rat := if speedOf s p = 0 then 0 else ((len + 20) * 8 * uNs : Nat) / (speedOf s p : Rat)

/-- An express frame, with its gap, ends before its gate closes (R250). -/
def fitsGate (s : State) (p c len : Nat) : Bool :=
  match gateCloses s p c with
  | some t => decide ((s.clk.now : Rat) + sendTime s p len ≤ t)
  | none => true

/-- The frame leaves the port's reassembly buffer: its copies at other ports stay, and a cut-through frame's entry stays
until its last cell. -/
def takeEgress (p : Nat) (e : EgFrame) (s : State) : State :=
  let rest := e.ports.filter (· != p)
  if rest.isEmpty ∧ e.cells = e.total then
    outMod (p / 8) (fun g => { g with egress := g.egress.filter (fun x => !(x.desc.fid == e.desc.fid && x.src == e.src)) }) s
  else egMod (p / 8) e.desc.fid e.src.val (fun x => { x with ports := rest, slots := x.slots.filter (fun m => m.port != p) }) s

/-- Bytes of a frame as a port sends it, and whether an event message's departure or residence was written: the edits,
the padding, the one-step fields (R88, R89, R246). -/
def egressBytes (s : State) (p : Nat) (d : FrameDesc) (o : OutCopy) (t : Int) : List Byte × Bool :=
  let b := padFrame (editFrame d.bytes (carriesHdr s d) o)
  match eventAt b (if o.hdr.isSome || (d.hostTx.isSome && kindFab s p) then 16 else 0) with
  | some (m, ck) =>
    if d.oneStep then (oneStepFields b m ck t.toNat, true)
    else match d.rxTime with
      | some r =>
        if par s 0x119 d.port = 4 ∧ par s 0x119 p = 4 ∧ !kindFab s p ∧ !kindFab s d.port then
          match residence b m ck ((t : Rat) - r) with
          | some b' => (b', true)
          | none => (b, false)
        else (b, true)
      | none => (b, true)
  | none => (b, true)

/-- The copy for a port drops before transmission, counted as oversize (R245, R247). -/
def dropOversize (p : Nat) (e : EgFrame) (s : State) : State :=
  let s := macCount p 28 1 (takeEgress p e s)
  let s := if 1 < e.desc.outs.length then copyDropped e.desc s else s
  if e.desc.hostTx.isSome then hostTxDone e.desc.fid 2 none s else s

/-- A preemptable frame in progress is interrupted (R249). -/
def cutPreempt (p : Nat) (s : State) : State :=
  let t := (portOf s p).tx
  if t.preempt.isSome && !t.cut then interrupt p true s else s

/-- A port's MAC begins a frame of its reassembly buffer, or drops it where its length or its condition forbids. -/
def beginFrame (p : Nat) (express : Bool) (tx : TxStamp) (e : EgFrame) (s : State) : State :=
  let d := e.desc
  match d.outs.find? (fun o => o.port == p) with
  | none => s
  | some o =>
    let t := txStamp s p tx
    let b := egressBytes s p d o t.floor
    if (d.trunc && d.complete) || decide (parN s 0x106 p < b.1.length + 4) then dropOversize p e s
    else if d.bad && d.complete then hostDropped d (bump 5 1 (takeEgress p e s))
    else
      let s := if b.2 then s else bump 26 1 s
      let hdr := if kindFab s p then 16 else 0
      let f : TxFrame := {
        desc := d, bytes := b.1, corrupt := e.crcBad || d.trunc, started := s.clk.elapsed
        ts := if (eventAt b.1 hdr).isSome then some (compact t.floor.toNat) else none
        lane := if (eventAt b.1 hdr).isSome then some tx.lane else none }
      let s := takeEgress p e s
      let s := if d.oneStep && f.lane.isSome && !(portOf s p).shared then
          portMod p (fun q => { q with tx := { q.tx with compHeld := true } }) s
        else s
      if express then
        portMod p (fun q => { q with tx := { q.tx with express := some f } }) (cutPreempt p s)
      else portMod p (fun q => { q with tx := { q.tx with preempt := some f, cut := false, fragments := 0 } }) s

/-- The frame that a port's MAC begins next: the first in its buffer that is ready, whose gate is open and that no pause
holds (R250, R251, R296, R306). -/
def nextFrame (s : State) (p : Nat) (express : Bool) : Option EgFrame :=
  (outGrp s (p / 8)).egress.find? (fun e =>
    let c := e.desc.cls
    e.ports.contains p && c != 8 && expressCls s p c == express && (e.desc.cut || e.cells == e.total)
      && vget (portOf s p).gates c true && !vget (portOf s p).pause.held c false && (!express || fitsGate s p c (editedLen s p e.desc)))

/-- The MAC may begin a frame now: no express frame in progress, and no preemptable one that cannot be interrupted. -/
def macMay (s : State) (p : Nat) (express : Bool) : Bool :=
  let t := (portOf s p).tx
  portUp s p && t.express.isNone && (t.preempt.isNone || (express && (t.cut || mayCut s p)))

/-- A frame has left a port: statistics, completion of a host frame (R257, R304, R405). -/
def sentFrame (p : Nat) (f : TxFrame) (s : State) : State :=
  let s := countSent p (fieldBe f.bytes 0 6) (f.bytes.length + 4) s
  let s := if f.corrupt then macCount p 27 1 s else s
  let s := if f.desc.trunc then macCount p 28 1 s else s
  let s := portMod p (fun q => { q with tx := { q.tx with compHeld := false, last := some { f with bytes := withFcs f.bytes f.corrupt } } }) s
  if f.desc.hostTx.isSome then hostTxDone f.desc.fid (if f.corrupt then 5 else 0) f.ts s else s

/-- An interrupted frame goes on where nothing stands before it and its gate is open (R249, R250). -/
def resumeCut (p : Nat) (s : State) : State :=
  let t := (portOf s p).tx
  if t.cut && t.express.isNone && t.preempt.any (fun f => vget (portOf s p).gates f.desc.cls true) then
    portMod p (fun q => { q with tx := { q.tx with cut := false } }) s
  else s

end Sys2Proof.Machine
end

