-- ==== Sys2Proof/Machine/CycleOps.lean ====
section
/-! DEFINITION. The parts of an engine servo cycle (R134): references, steps reported on them, selection and switches,
steering, full time's state and forecast, advertisement, comparison and cupping, the standby, the registers. -/

namespace Sys2Proof.Machine

/-- One servo cycle in 2⁻²⁰ ns. -/
def cycleLen : Nat := 125 * uUs

/-- An engine works: its domain is On, it presents a clock, it is not booting. -/
def engLive (s : State) (e : Nat) : Bool := (engxOf s e).on && (engxOf s e).clkOk && !(engxOf s e).booting
def otherEng (e : Nat) : Nat := 1 - e

/-- Automatic selection: not in software steering (R146). -/
def autoMode (s : State) (e : Nat) : Bool := (engOf s e).st != .swOpen && (engOf s e).st != .swClosed

/-! ### References -/

/-- The pulses of the PPSIN that TODIN labels: each advances the label by one second (R117). -/
def todPulse (ts : List Rat) (s : State) : State :=
  ts.foldl (fun s t =>
    match s.te.tod.label with
    | some l => { s with te := { s.te with tod := { s.te.tod with offSec := (l : Int) - roundAway (t / uSec), label := some (l + 1) } } }
    | none => s) s

/-- One external reference's part of a cycle (R113): the edges it uses are stamped and unwrapped, and their mean is
delivered; without an edge the last value is held. A reference that is not configured delivers nothing, though its edges
label seconds for a REFIN paired with it. -/
def takeEdgesOf (r : Nat) (ts : List Rat) (s : State) : State :=
  let us := edgesUsed s r ts
  let s := if r = todPair s then todPulse us s else s
  let l := edgePhases (edgePeriod s r) ((refOf s r).cond.last.getD 0) us
  match l with
  | [] => condMod r (fun c => { c with fresh := false }) s
  | x :: _ =>
    let s := condMod r (fun c => { c with last := some x }) (refMod r (fun x => { x with signal := true }) s)
    if (viewOf s r).st = .disabled then s else condTake r (meanQ l) s

/-- The conditioners' part of a cycle (R113): the PPSINs before the REFINs that take the second from them. -/
def takeEdges (m : CycleMeas) (s : State) : State :=
  let s := [4, 5, 0, 1, 2, 3].foldl (fun s r => takeEdgesOf r (((m.edges.find? (fun q => q.1 == r)).map (·.2)).getD []) s) s
  [0, 1, 2, 3].foldl (fun s r => resolvePair r s) s

/-- Raw phase error and freshness as the reference delivers them (R112, R113, R77). -/
def rawOf (s : State) (r : Nat) : Rat × Bool :=
  if isExt r then
    let c := (refOf s r).cond
    (if c.measuring then c.heldVal else c.phase, c.fresh)
  else
    let v := (groupOf s (r - 8)).servo
    (if v.st = 4 then v.heldVal else v.fused, v.st == 3)

/-- A reference is configured or deconfigured (R120). -/
def refConfigure (r : Nat) (s : State) : State :=
  if parN s 0x01 r = 0 then setRef r .disabled 0 s
  else if (viewOf s r).st = .disabled then setRef r .absent 1 s
  else s

/-- Signal, offer and delay state of one reference (R114, R118, R120). -/
def refMonitor (r : Nat) (s : State) : State :=
  let s := refConfigure r s
  let sig := refSignal s r
  let st := (viewOf s r).st
  if st = .disabled then s
  else if sig then
    let s := if st = .absent then setRef r .qualifying 0 s else s
    let s := refMod r (fun x => { x with signal := true, okSignal := true }) s
    if 8 ≤ r then
      match timingPort s (r - 8) with
      | some p => if (portOf s p).ld.dstate = 2 then requalify r 7 s else s
      | none => s
    else s
  else if isExt r && st = .absent then s
  else loseRef r s

/-- What every reference delivers, carries and costs this cycle; a fresh value enters the running wander window. -/
def refValues (s : State) : State :=
  { s with te := { s.te with ref := vmapI s.te.ref (fun i x =>
      let q := rawOf s i.val
      let on := refPresent s i.val
      { x with
        raw := q.1, fresh := q.2, valid := true, budget := budgetOf s i.val, carries := carriesOf s i.val
        wandN := if on then x.wandN + 1 else 0
        wander := if !on then [] else if q.2 then ((x.wandN, q.1) :: x.wander).take 8000 else x.wander }) } }

/-- WTR ends at once when no other reference is selectable (R120). -/
def wtrRelease (s : State) : State :=
  if refList.any (selectable s) then s
  else refList.foldl (fun s r => if (viewOf s r).st = .wtr then setRef r .available 0 s else s) s

/-- Eligibility of every port as a time upstream (R347). -/
def takeInelig (s : State) : State :=
  { s with fab := { s.fab with adj := vmapI s.fab.adj (fun i a =>
      if kindFab s i.val then { a with inelig := ineligOf s i.val } else a) } }

def references (m : CycleMeas) (s : State) : State :=
  let s := takeInelig (takeEdges m s)
  let s := refValues s
  let s := refList.foldl (fun s r => refMonitor r s) s
  takeRanks (wtrRelease s)

/-- Does the same to both engines. -/
def bothX (f : EngineX → EngineX) (s : State) : State := engxMod 1 f (engxMod 0 f s)

/-! ### Steps reported on references (R115, R133) -/

/-- A measured step on a reference. -/
def stepReported (r : Nat) (d : Rat) (s : State) : State :=
  let e := ctl s
  let s := refMod r (fun x => { x with raw10 := none, change10 := none, wandN := 0, wander := [] }) s
  let x := engOf s e
  let incoming := x.sw.any (fun w => w.incoming == r)
  let s := if incoming then engMod e (fun x => { x with sw := x.sw.map (fun w => { w with cycle := 0, sum := 0 }) }) s else s
  if x.sel = some r ∧ !incoming then
    let s := viewMod r (fun v => { v with absorb := v.absorb + d }) s
    let s := bump 21 1 (bothX (fun v => { v with resid := [] }) s)
    engMod e (fun x => { x with
      sw := x.sw.map (fun w => { w with bridge := true })
      slewing := x.slewing || par s 0x05 r == 1
      slewAt := if x.slewing then x.slewAt else s.clk.elapsed }) s
  else s

/-- Steps that group servos have measured (R77). -/
def takeReports (s : State) : State :=
  (List.range 24).foldl (fun s g =>
    match (groupOf s g).servo.reported with
    | some d => stepReported (g + 8) d (servoMod g (fun v => { v with reported := none }) s)
    | none => s) s

/-! ### Selection and switches (R127, R128, R133) -/

/-- The selectable reference of the best rank. -/
def bestRef (s : State) : Option Nat :=
  (refList.filter (selectable s)).foldl (fun b r =>
    match b with
    | some q => if (refOf s r).rank < (refOf s q).rank then some r else b
    | none => some r) none

/-- The reference that the rules of selection want, given the one in use (R127, R444). -/
def wantedRef (s : State) (cur : Option Nat) : Option Nat :=
  let e := ctl s
  match (engxOf s e).selHeld with
  | some r => if selectable s r then some r else bestRef s
  | none =>
    if parE s 0x23 e = 1 then bestRef s
    else match cur with
      | some r => if selectable s r then some r else bestRef s
      | none => bestRef s

/-- Reports a switch (R453): outgoing, forced, uncompleted, absorbed offset. -/
def switchEvent (inc : Nat) (out : Option Nat) (forced uncompleted : Bool) (off : Rat) (s : State) : State :=
  issueEvent 0x0202 inc ([BitVec.ofNat 8 (out.getD 255), BitVec.ofNat 8 (b2n forced + 2 * b2n uncompleted)]
    ++ le 6 0 ++ s64 (roundAway off)) s

/-- A switch begins (R128). -/
def beginSwitch (inc : Nat) (planned : Bool) (s : State) : State :=
  engMod (ctl s) (fun x => { x with
    sw := some { cycle := 0, outgoing := x.sel, incoming := inc, forced := !planned, sum := 0, bridge := !planned }
    sel := if planned then x.sel else some inc }) s

/-- Decides a switch (R128): planned while the outgoing reference is selectable, forced otherwise. -/
def startSwitch (inc : Nat) (s : State) : State := beginSwitch inc ((engOf s (ctl s)).sel.any (selectable s)) s

/-- A selection commanded during a switch takes effect once it is over (R133). -/
def takeSelCmd (s : State) : State :=
  match (engxOf s (ctl s)).selCmd with
  | some c => bothX (fun v => { v with selHeld := c, selCmd := none }) s
  | none => s

/-- A switch ends uncompleted (R133, R453): a forced one has no reference to steer to any more. -/
def abandonSwitch (s : State) : State :=
  let e := ctl s
  match (engOf s e).sw with
  | some w =>
    let s := switchEvent w.incoming w.outgoing w.forced true (vget (engxOf s e).refs w.incoming {}).absorb s
    takeSelCmd (engMod e (fun x => { x with sw := none, sel := if w.forced then none else x.sel }) s)
  | none => s

/-- The selection of a cycle, in the automatic modes. -/
def selectRef (s : State) : State :=
  let e := ctl s
  -- a commanded selection that has left the selectable states no longer holds
  let s := bothX (fun v => { v with selHeld := v.selHeld.filter (selectable s) }) s
  let x := engOf s e
  if !autoMode s e then s
  else match x.sw with
    | some w =>
      if !selectable s w.incoming then engMod e (fun x => { x with forceSw := true }) (abandonSwitch s)
      else if !w.forced && !(w.outgoing.any (selectable s)) then
        engMod e (fun x => { x with sw := x.sw.map (fun w => { w with bridge := true }) }) s
      else s
    | none =>
      if x.forceSw then
        let s := engMod e (fun x => { x with forceSw := false }) s
        match bestRef s with
        | some r => beginSwitch r false s
        | none => noReference e s
      else match x.st with
      | .freeRun | .holdover =>
        (match wantedRef s none with
        | some r => startAcquire e r s
        | none => s)
      | _ =>
        (match wantedRef s x.sel with
        | none => noReference e s
        | some r => if x.sel = some r then s else startSwitch r s)

/-- The measurement of a switch goes on by one cycle (R128). -/
def switchCycle (s : State) : State :=
  let e := ctl s
  match (engOf s e).sw with
  | some w =>
    if w.cycle < 64 then
      engMod e (fun x => { x with sw := some { w with cycle := w.cycle + 1, sum := w.sum + (refOf s w.incoming).raw } }) s
    else s
  | none => s

/-! ### Steering -/

/-- A release moves the absorbed offset towards zero (R132, R137). -/
def releaseStep (s : State) : State :=
  let e := ctl s
  let x := engOf s e
  match x.sel with
  | some r =>
    if x.slewing && !(x.sw.any (·.forced)) then
      let rate : Rat := if x.slewHo then parE s 0x2C e else par s 0x06 r
      let d := rate / 8000
      let a := (vget (engxOf s e).refs r {}).absorb
      let a' := if absQ a ≤ d then 0 else if 0 < a then a - d else a + d
      let s := viewMod r (fun v => { v with absorb := a' }) s
      if a' = 0 then engMod e (fun x => { x with slewing := false, slewHo := false }) s else s
    else s
  | none => s

/-- The word of SW_OPEN approaches its target (R144). -/
def openStep (e : Nat) (s : State) : State :=
  let v := engxOf s e
  let d : Rat := (parE s 0x34 e : Rat) / 8000
  let t : Rat := v.target
  let y := if absQ (t - v.swY) ≤ d then t else if v.swY < t then v.swY + d else v.swY - d
  engMod e (fun x => { x with y := clampY s e y }) (engxMod e (fun v => { v with swY := y }) s)

/-- The phase that the words applied since an instant have accumulated (R145), in 2⁻²⁰ ns; the list is newest first,
and each word holds from its time until the next. -/
def accumulated (now tag : Nat) : List (Nat × Int) → Rat
  | [] => 0
  | (t, w) :: r =>
    let a := max t tag
    (if a < now then ofWord ((w : Rat) * ((now - a : Nat) : Rat) / uSec) else 0) + (if tag < t then accumulated (min t now) tag r else 0)

/-- One cycle of SW_CLOSED (R145): the estimate with the latest tag, corrected, or a held cycle. -/
def closedStep (e : Nat) (s : State) : State :=
  let v := engxOf s e
  match v.estimates with
  | [] =>
    if (engOf s e).hoInSw then
      let y := modelWord s e
      engMod e (fun x => { x with y := clampY s e y, integ := y, lastFresh := x.lastFresh + 1 }) s
    else loopStep e false 0 s
  | a :: r =>
    let best := r.foldl (fun b q => if b.tag < q.tag then q else b) a
    let age := s.clk.now - best.tag
    let corr := accumulated s.clk.elapsed (s.clk.elapsed - age) v.applied
    let s := engxMod e (fun v => { v with estimates := [] }) s
    loopStep e true (best.val - corr) (engMod e (fun x => { x with hoInSw := false }) s)

/-- What an engine applies this cycle by its servo state, given the phase error of its reference. -/
def steer (e : Nat) (fresh : Bool) (err : Rat) (s : State) : State :=
  let x := engOf s e
  match x.st with
  | .freeRun => s
  | .holdover =>
    let y := modelWord s e
    engMod e (fun x => { x with y := clampY s e y, integ := y }) s
  | .swOpen => openStep e s
  | .swClosed => closedStep e s
  | .acquire | .locked =>
    if x.sw.any (fun w => w.forced || w.bridge) then bridgeStep e s
    else if x.st = .acquire ∧ x.acqPhase = 0 then s
    else if x.st = .acquire ∧ x.acqPhase = 1 then bridgeStep e s
    else loopStep e fresh err s

/-- The word applied enters the history of R145, and `q` this second's mean: for the standby the copied FREQ (R138, R161). -/
def recordWord (e : Nat) (q : Int) (s : State) : State :=
  let y := (engOf s e).y
  engxMod e (fun v =>
    let sum := v.ySum + q; let n := v.yN + 1
    { v with
      ySum := if n = 8000 then 0 else sum, yN := if n = 8000 then 0 else n
      ySec := if n = 8000 then (sum / 8000 :: v.ySec).take 104 else v.ySec
      applied := ((s.clk.elapsed + 12 * uUs, y) :: v.applied).take 8200 }) s

/-- The engine in control steers (R134 to R136). -/
def steerControl (s : State) : State :=
  let e := ctl s
  let s := if (engOf s e).st = .acquire ∧ (engOf s e).acqPhase = 1 ∧ s.clk.step.isNone then acquirePhase e s else s
  let x := engOf s e
  match x.sel with
  | some r => steer e (refOf s r).fresh ((refOf s r).raw - (vget (engxOf s e).refs r {}).absorb) s
  | none => steer e false 0 s

/-- Lock and unlock windows, and the seconds of LOCKED (R135). -/
def lockCounts (s : State) : State :=
  let e := ctl s
  let w : Rat := parE s 0x26 e
  engMod e (fun x =>
    let a := absQ x.e
    { x with
      lockCnt := if x.st = .acquire ∧ 2 ≤ x.acqPhase ∧ a ≤ w then x.lockCnt + 1 else 0
      unlockCnt := if x.st = .locked ∧ 4 * w < a then x.unlockCnt + 1 else 0
      lockedSec := if x.st = .locked then x.lockedSec + 1 else x.lockedSec
      everLocked60 := x.everLocked60 || decide (x.st = .locked ∧ 480000 ≤ x.lockedSec + 1) }) s

/-- HOLDOVER becomes TRACEABLE once LOCKED to time of day within 1 ns (R137); the forecast follows in both engines (R141,
R148), and stands still in both where R137 stops it. -/
def todAndForecast (s : State) : State :=
  let e := ctl s
  let x := engOf s e
  let back := s.clk.tod == .holdover && x.st == .locked && x.sw.isNone &&
    x.sel.any (fun r => (refOf s r).carries == 2 && decide (absQ (vget (engxOf s e).refs r {}).absorb < uNs))
  let s := if back then setTod .traceable s else s
  let frozen := (engOf s e).hoFrozen && s.clk.tod == .holdover
  let still := (engOf s e).forecast
  [0, 1].foldl (fun s k =>
    let f := if s.clk.tod = .holdover then (if frozen then still else forecastNow s k) else 0
    engMod k (fun x => { x with forecast := f, hoFrozen := frozen }) s) s

/-! ### Advertisement (R45, R131, R346) -/

def unknownAcc : Nat := 4294967295

/-- σ_acc and c_acc advertised: the base, with the forecast on c_acc. -/
def putAcc (s : State) : State :=
  if s.fab.advC = unknownAcc then { s with clk := { s.clk with sigmaAcc := unknownAcc, cAcc := unknownAcc } }
  else { s with clk := { s.clk with sigmaAcc := s.fab.advSigma, cAcc := satU 32 (s.fab.advC + (engOf s (ctl s)).forecast) } }

def advertise (s : State) : State :=
  let e := ctl s
  let x := engOf s e
  let early := s.clk.tod == .unset || s.clk.tod == .set || s.clk.tod == .coarse
  if early || x.st == .freeRun || x.st == .acquire then
    putAcc { s with fab := { s.fab with
      treeId := 0, depth := 255, advSigma := unknownAcc, advC := unknownAcc, timeSource := false } }
  else if x.st == .holdover || !autoMode s e then putAcc { s with fab := { s.fab with timeSource := true } }
  else
    match x.sel with
    | none => putAcc s
    | some r =>
      let off := (roundAway (absQ (vget (engxOf s e).refs r {}).absorb)).toNat
      let a := (accOf s r).map (fun a => (a.1, satU 32 (a.2 + off)))
      let (tree, depth) := if isExt r then (Config.serial.toNat, 0)
        else match (timingPort s (r - 8)).bind (fun p => (vget s.fab.adj p {}).hello) with
          | some h => (h.treeId, min 255 (h.depth + 1))
          | none => (0, 255)
      putAcc { s with fab := { s.fab with
        treeId := tree, depth := depth, timeSource := true
        advSigma := (a.map (·.1)).getD unknownAcc, advC := (a.map (·.2)).getD unknownAcc } }

/-! ### Comparison, cupping, alignment -/

/-- The comparator's cycle (R163, R165): disagreements count while both engines are above BOOTING. -/
def compare (cmp : Rat) (s : State) : State :=
  let both := engLive s 0 && engLive s 1
  let judged := both && decide (5 ≤ (engxOf s 0).health) && decide (5 ≤ (engxOf s 1).health)
  let th : Rat := parV s 0x41
  let bad := judged && decide (th < absQ cmp)
  ksMod (fun k => { k with
    cmp := if (engxOf s 0).on && (engxOf s 1).on then cmp else 0
    disagreeAlarm := k.disagreeAlarm || (decide (0 < k.disagree) && !bad)
    disagree := if bad then k.disagree + 1 else 0
    agree := if bad then 0 else if judged then k.agree + 1 else 0 }) s

/-- A reclaim that waited for eight agreeing cycles aligns (R171). -/
def reclaimDue (s : State) : State :=
  match s.te.ks.reclaimWait with
  | some e => if 8 ≤ s.te.ks.agree ∧ (engxOf s e.val).health = 6 ∧ s.te.ks.align.isNone then startAlign e .reclaim (ksMod (fun k => { k with reclaimWait := none }) s) else s
  | none => s

/-- The DCO of an engine moves towards the comparator's null by at most `lim` in a cycle (R167, R170). -/
def trimDco (e : Nat) (lim : Rat) (s : State) : State :=
  let d := if e = 1 then -s.te.ks.cmp else s.te.ks.cmp
  let d := max (-lim) (min lim d)
  engxMod e (fun x => { x with dcoOffset := x.dcoOffset + d }) s

/-- Alignment counts its cycles and those within 0.5 ps (R167); a booting engine slews (R170). -/
def alignCycle (s : State) : State :=
  let s := [0, 1].foldl (fun s e => if (engxOf s e).on && (engxOf s e).booting && e != ctl s then trimDco e uNs s else s) s
  if s.te.ks.align.isNone || s.te.ks.alignDone then s
  else
    let ok := decide (absQ s.te.ks.cmp ≤ ps (1 / 2))
    ksMod (fun k => { k with alignCyc := k.alignCyc + 1, alignOk := if ok then k.alignOk + 1 else 0 })
      (trimDco s.te.ks.alignTo.val (ps (1 / 10)) s)

/-- The checks of every servo cycle (R166): DCO tracking, state memory, and the standby's reference view. -/
def cupCycle (m : CycleMeas) (s : State) : State :=
  [0, 1].foldl (fun s e =>
    if !engLive s e then s
    else
      let s := cupRecord e 1 (if e = 0 then m.ackA else m.ackB) s
      let s := cupRecord e 3 (!(if e = 0 then m.memBadA else m.memBadB)) s
      let s := if e = ctl s then s
        else
          let far := match m.standby, (engOf s (ctl s)).sel with
            | some v, some r => decide (ps 1 < absQ (v - (refOf s r).raw))
            | _, _ => false
          let s := engxMod e (fun x => { x with viewBad := if far then x.viewBad + 1 else 0 }) s
          cupRecord e 4 (decide ((engxOf s e).viewBad < 8)) s
      let near := decide (absQ s.te.ks.cmp ≤ (parV s 0x41 : Rat) / 2)
      engxMod e (fun x => { x with
        agreeSince := if x.health = 2 ∧ near then some (x.agreeSince.getD s.clk.elapsed) else none }) s) s

/-- The standby of a cycle (R161, R162): it loads its bank, takes its own phase error, and steers. -/
def standbyCycle (s : State) : State :=
  let e := otherEng (ctl s)
  if !engLive s e then s
  else
    let v := engxOf s e
    let s := if (v.banks[v.bank]).length = 512 then tieLoad e (v.banks[v.bank]) v.bankAt[v.bank] v.silent s else s
    let s := engxMod e (fun x => { x with silent := x.silent + 1 }) s
    let own := fun (q : Rat) => if e = 1 then q - s.te.ks.cmp else q + s.te.ks.cmp
    let x := engOf s e
    -- in the software modes the word is software's, and it is the one copied (R144, R145)
    let s := if !autoMode s e then s
      else match x.sel with
      | some r => steer e (refOf s r).fresh (own (refOf s r).raw - (vget (engxOf s e).refs r {}).absorb) s
      | none => steer e false 0 s
    recordWord e (engxOf s e).freqIn s

/-- Every blend of the converters outside the lanes moves by one (R226). -/
def blendEngines (s : State) : State :=
  (List.range 25).foldl (fun s k =>
    convMod (192 + k) (fun v => { v with blend := min 64 (v.blend + 1), old := if 63 ≤ v.blend then [] else v.old }) s) s

/-! ### Registers (R148, R173, R197) -/

/-- Places words in the report from an offset. -/
def putWords (o : Nat) (ws : List Word) (t : Tbl Word) : Tbl Word :=
  (ws.foldl (fun (a : Nat × Tbl Word) w => (a.1 + 4, Tbl.set a.2 a.1 w)) (o, t)).2
def pair64 (v : Int) : List Word := [(pairWords (satS 64 v)).1, (pairWords (satS 64 v)).2]

/-- TE_SRV_ words of an engine. -/
def srvWords (s : State) (e : Nat) : List Word :=
  let x := engOf s e; let v := engxOf s e
  let bridging := x.sw.any (fun w => w.forced || w.bridge)
  [packW [(1, 31), (servoCode x.st, 28), (todCode s.clk.tod, 25), (b2n x.sel.isSome, 24), (x.sel.getD 0, 19), (b2n x.sw.isSome, 18),
      (b2n bridging, 17), (b2n x.slewing, 16), (b2n v.modelReady, 15), (b2n x.tempFault, 14), (b2n x.suspectAlarm, 13),
      (b2n x.hoInSw, 12), (s.te.seq % 4096, 0)]]
    ++ pair64 x.y ++ pair64 (roundAway (match x.sel with
      | some r => (vget v.refs r {}).absorb
      | none => 0))
    ++ pair64 (toSigned 64 x.forecast)
    ++ [BitVec.ofNat 32 (ofSigned 32 (satS 32 (if v.modelReady then v.residNow else 0)))]

/-- TE_REF_ words of a reference: the view of the engine in control, from the cycle after a handover (R112, R158). -/
def refWords (s : State) (r : Nat) : List Word :=
  let e := s.te.ks.side.val
  let v := vget (engxOf s e).refs r {}; let x := refOf s r
  [packW [(1, 31), (refCode v.st, 28), (v.reason, 24), (prioOf s r, 20), (b2n ((engOf s e).sel == some r), 19),
      (x.carries, 17), (x.rank, 12), (s.te.seq % 4096, 0)]]
    ++ pair64 (roundAway x.raw) ++ [BitVec.ofNat 32 (x.budget.getD unknownAcc)]

/-- TE_KS_ words. -/
def ksWords (s : State) : List Word :=
  let k := s.te.ks; let a := engxOf s 0; let b := engxOf s 1
  let left := [a, b].map (fun x => if x.health = 6 then (parV s 0x43).toNat - (s.clk.elapsed - x.restoreAt) / uSec else 0)
  [packW [(1, 31), (b2n (k.control == some 1), 30), (b2n k.arbitrating, 29), (b2n k.align.isSome, 28),
      (b2n k.handoverEvt, 27), (b2n k.disagreeAlarm, 26), (b2n k.unattributed, 25),
      (b2n (decide (a.health ≤ 2 ∧ b.health ≤ 2)), 24), (satU 4 k.disagree, 20), (k.pref, 18), (s.te.seq % 4096, 0)],
    packW [(b.claim, 8), (a.claim, 0)], packW [(left.foldl max 0, 16), (flagByte b, 8), (flagByte a, 0)]]
    ++ pair64 (roundAway k.cmp) ++ [packW [(satU 16 k.crcErrors, 16), (k.lastSeq, 0)]]

/-- EV_TB_ words. -/
def tbWords (s : State) : List Word :=
  let d := s.tio.tdc
  [packW [(1, 31), (b2n d.present, 30), (b2n d.lost, 29), (b2n (parB s 0x6F 23), 28), (b2n d.fallen, 27), (b2n d.aligned, 26), (d.epoch, 22), (s.te.seq % 4096, 0)]]
    ++ pair64 d.offset

/-- The results of a cycle under the next sequence number. -/
def engineReport (s : State) : State :=
  let s := { s with te := { s.te with seq := (s.te.seq + 1) % 65536, valid := true, ks := { s.te.ks with valid := true } } }
  let t := s.te.rep
  let t := [0, 1].foldl (fun t e => if (engxOf s e).on then putWords (0x81000 + e * 0x100) (srvWords s e) t else t) t
  let t := refList.foldl (fun t r => putWords (0x82000 + r * 16) (refWords s r) t) t
  let t := putWords 0x83000 (ksWords s) t
  let t := if domOn s 13 then putWords 0x90400 (tbWords s) t else t
  { s with te := { s.te with rep := t } }

end Sys2Proof.Machine
end

