-- ==== Sys2Proof/Machine/Wire.lean ====
section
/-! DEFINITION. Byte layouts of what the block takes in and sends (R9): hellos (R333) and segment headers (R348) in network byte order,
posted DMA descriptors (R401, R403) little-endian. -/

namespace Sys2Proof.Machine

/-! ### Hellos -/

/-- A hello's payload, 48 bytes, as sent and as received. -/
def helloBytes (h : Hello) : List Byte :=
  be 1 h.version ++ be 1 h.flags ++ be 3 h.addr ++ be 1 h.port ++ be 8 h.serial ++ be 8 h.nbrSerial ++ be 2 h.caps ++ be 1 h.timing
    ++ be 1 h.depth ++ be 8 h.treeId ++ be 4 h.sigmaAcc ++ be 4 h.cAcc ++ be 4 h.lsaSeq ++ be 2 h.seq
def helloOf (b : List Byte) : Hello :=
  { version := fieldBe b 0 1, flags := fieldBe b 1 1, addr := fieldBe b 2 3 % 2 ^ 18, port := fieldBe b 5 1, serial := fieldBe b 6 8
    nbrSerial := fieldBe b 14 8, caps := fieldBe b 22 2, timing := fieldBe b 24 1, depth := fieldBe b 25 1, treeId := fieldBe b 26 8
    sigmaAcc := fieldBe b 34 4, cAcc := fieldBe b 38 4, lsaSeq := fieldBe b 42 4, seq := fieldBe b 46 2 }

/-! ### Segments -/

/-- A segment: its 8-byte header and its body. -/
def segBytes (g : Seg) : List Byte :=
  be 2 g.xid ++ be 1 g.kind ++ be 1 (16 * g.index + (g.count - 1)) ++ be 2 g.body.length ++ be 1 g.mflags ++ [0] ++ g.body
/-- A segment as received from a source. -/
def segOf (source : Nat) (b : List Byte) : Seg :=
  { source, xid := fieldBe b 0 2, kind := fieldBe b 2 1, index := fieldBe b 3 1 / 16, count := fieldBe b 3 1 % 16 + 1
    mflags := fieldBe b 6 1, body := (b.drop 8).take (fieldBe b 4 2) }

/-- A message's segments, of 1,024 bytes but the last. -/
def segmentsOf (xid kind mflags : Nat) (body : List Byte) : List (List Byte) :=
  let n := max 1 ((body.length + 1023) / 1024)
  (List.range n).map (fun i =>
    segBytes { source := 0, xid, kind, index := i, count := n, mflags, body := (body.drop (1024 * i)).take 1024 })

/-! ### Descriptors -/

/-- A posted receive descriptor: BUF_ADDR and BUF_LEN. -/
def rxDescOf (b : List Byte) : Nat × Nat := (fieldLe b 0 8, fieldLe b 8 2)
/-- A posted transmit descriptor. -/
def txDescOf (b : List Byte) : TxDesc :=
  { addr := fieldLe b 0 8, len := fieldLe b 8 2, port := fieldLe b 10 1, ctrl := fieldLe b 11 1, cls := fieldLe b 12 1 }

end Sys2Proof.Machine
end

