-- ==== Sys2Proof/Machine/FabricOps.lean ====
section
/-! DEFINITION. The Veman fabric's shared operations: neighbours and parts (R336), messages and their segments (R348, R349),
units (R337, R338), link-state records (R340 to R342, R355), shortest paths and routes (R343 to R345). -/

namespace Sys2Proof.Machine

def fabMod (f : Fabric → Fabric) (s : State) : State := { s with fab := f s.fab }
def adjOf (s : State) (p : Nat) : Adjacency := vget s.fab.adj p {}
def adjMod (p : Nat) (f : Adjacency → Adjacency) (s : State) : State := fabMod (fun x => { x with adj := vmodN x.adj p f }) s

/-- This device's serial number. -/
def ownSerial : Nat := Config.serial.toNat

/-- Zone and cluster of an address, as one number; and zone. -/
def clusterOf (a : Nat) : Nat := a / 64 % 4096
def zoneOf (a : Nat) : Nat := a / 4096 % 64

/-! ### Neighbours -/

/-- Ports with a two-way adjacency, with the neighbour's hello. -/
def twoWays (s : State) : List (Nat × Hello) :=
  (List.range 192).filterMap (fun p => if (adjOf s p).st == .twoWay then (adjOf s p).hello.map (fun h => (p, h)) else none)

/-- The neighbour's address is valid. -/
def addressedNbr (h : Hello) : Bool := h.flags.testBit 7

/-- Neighbours of this cluster. -/
def clusterNbrs (s : State) : List (Nat × Hello) := (twoWays s).filter (fun x => clusterOf x.2.addr == clusterOf (ownAddr s))

/-- Ports inside a record's scope (R340, R342). -/
def scopePorts (s : State) (sc : Nat) : List Nat :=
  ((twoWays s).filter (fun x =>
    if sc = 1 then clusterOf x.2.addr == clusterOf (ownAddr s) else if sc = 2 then zoneOf x.2.addr == zoneOf (ownAddr s) else true)).map
      (fun x => x.1)

/-! ### Messages -/

/-- What leads a link-local frame of a type on a port, 28 bytes: VEMAN_MAC, PORT_MAC, a Veman header with LINK and class TC7 (R332). -/
def linkHead (s : State) (p type : Nat) : List Byte :=
  let f := Config.headerField type
  be 6 (parN s 0x1C1 0) ++ be 6 (parN s 0x105 p)
    ++ newHdr s type 7 (f 4 % 3) (2 ^ 22 + f 0 % 2 ^ 18) (f 1 % 256) p (f 2 % 65536) (f 3 % 256)

/-- What leads a frame to a device: data of class MGMT_TC towards DEST (R332). -/
def devHead (s : State) (dest type : Nat) : List Byte :=
  let f := Config.headerField type
  be 6 (f 6 % 2 ^ 48) ++ be 6 Config.macBase.toNat
    ++ newHdr s type (parN s 0x1CB 0) (f 4 % 3) (dest % 2 ^ 18) (f 1 % 256) (f 5 % 256) (f 2 % 65536) (parN s 0x190 0)

/-- A link-local message, its frames counted at the port, and one to a device. -/
def sendLink (p type kind : Nat) (body : List Byte) (s : State) : State :=
  let segs := segmentsOf s.fab.nextXid kind 0 body
  segs.foldl (fun s g => countSent p (parN s 0x1C1 0) (max 64 (g.length + 32)) s) (interject p (fabMod (fun x => { x with
    nextXid := (x.nextXid + 1) % 65536
    sent := { port := some p, dest := 0, type, kind, xid := x.nextXid, mflags := 0, body, head := linkHead s p type, segs } :: x.sent }) s))
def sendDev (dest type kind xid mflags : Nat) (body : List Byte) (s : State) : State :=
  fabMod (fun x => { x with sent := {
    port := none, dest, type, kind, xid, mflags, body, head := devHead s dest type, segs := segmentsOf xid kind mflags body } :: x.sent }) s

/-- A fresh transaction number. -/
def newXid (s : State) : Nat × State := (s.fab.nextXid, fabMod (fun x => { x with nextXid := (x.nextXid + 1) % 65536 }) s)

/-- A segment joins its message: the whole body once every segment is there (R348). -/
def assemble (type : Nat) (g : Seg) (s : State) : Option (List Byte) × State :=
  if g.count ≤ 1 then (some g.body, s)
  else
    let hit := fun (r : Reassembly) => r.source == g.source && r.xid == g.xid && r.type == type
    let r := (s.fab.reasm.find? hit).getD {
      source := g.source, xid := g.xid, type, kind := g.kind, mflags := g.mflags, count := g.count, segs := [], firstAt := s.clk.elapsed }
    let r := { r with segs := Tbl.set r.segs g.index g.body }
    let rest := s.fab.reasm.filter (fun x => !hit x)
    if r.segs.length = r.count then (some (r.segs.flatMap (fun e => e.2)), fabMod (fun x => { x with reasm := rest }) s)
    else (none, fabMod (fun x => { x with reasm := rest ++ [r] }) s)

/-! ### Address (R337, R338) -/

/-- Reports the address (R469). -/
def addressEvent (s : State) : State :=
  issueEvent 0x0701 0 (le 3 (ownAddr s) ++
    [BitVec.ofNat 8 (b2n s.fab.addrValid + 2 * b2n s.fab.conflict + 4 * b2n s.fab.clusterFull)]) s

/-- Takes a unit. -/
def takeUnit (u : Nat) (s : State) : State :=
  addressEvent (fabMod (fun x => { x with unit := u % 64, addrValid := true, reqTries := 0, reqPort := none }) s)

/-- Configured unit; none when assigned. -/
def unitCfg (s : State) : Option Nat := if par s 0x1C5 0 < 0 then none else some (par s 0x1C5 0).toNat

/-- One address seen with two serial numbers: the higher serial withdraws (R338). -/
def conflict (other : Nat) (s : State) : State :=
  let s := fabMod (fun x => { x with conflict := true }) s
  addressEvent (if other < ownSerial then fabMod (fun x => { x with addrValid := false, stuck := (unitCfg s).isSome }) s else s)

/-! ### Link-state records -/

/-- A record's bytes with an age (R341), and the record of bytes. -/
def recBytes (r : LsRecord) (age : Nat) : List Byte :=
  be 1 r.scope ++ be 1 r.flags ++ be 3 r.origin ++ be 1 r.entries.length ++ be 2 age ++ be 8 r.serial ++ be 4 r.seq ++ be 4 0 ++
    r.entries.flatMap (fun e => be 1 e.kind ++ be 3 e.nbr ++ be 1 e.port ++ be 3 0 ++ be 4 e.cost)
def recOf (b : List Byte) : LsRecord :=
  { scope := fieldBe b 0 1, flags := fieldBe b 1 1, origin := fieldBe b 2 3 % 2 ^ 18, age := fieldBe b 6 2, serial := fieldBe b 8 8
    seq := fieldBe b 16 4
    entries := (List.range (fieldBe b 5 1)).map (fun i =>
      let o := 24 + 12 * i
      { kind := fieldBe b o 1, nbr := fieldBe b (o + 1) 3 % 2 ^ 18, port := fieldBe b (o + 4) 1, cost := fieldBe b (o + 8) 4 }) }

/-- Seconds since origination. -/
def ageOf (s : State) (r : StoredRecord) : Nat := (((s.clk.elapsed : Int) - r.born) / (uSec : Int)).toNat

def withdrawn (r : LsRecord) : Bool := r.flags.testBit 6

/-- Same origin and scope. -/
def sameRec (a b : LsRecord) : Bool := a.scope == b.scope && a.origin == b.origin && a.serial == b.serial

/-- Newer than what is stored (R342). -/
def newer (a b : LsRecord) : Bool := decide (b.seq < a.seq) || (a.seq == b.seq && withdrawn a && !withdrawn b)

/-- Records that Obilwin stores at most at a scope (R355). -/
def scaleOf (sc : Nat) : Nat := if sc = 1 then 64 else 1024

/-- One entry of a RECORD_ACK (R349). -/
def ackBody (r : LsRecord) : List Byte := be 1 r.scope ++ be 1 0 ++ be 3 r.origin ++ be 3 0 ++ be 8 r.serial ++ be 4 r.seq

/-- Serials whose records are all gone start their hold; a serial that is back is held no more as gone (R337). -/
def holdUnits (s : State) : State :=
  let live := fun (n : Nat) => s.fab.records.any (fun r => r.body.serial == n && r.body.scope == 1 && !withdrawn r.body)
  fabMod (fun x => { x with held := x.held.map (fun (h : HeldUnit) =>
    { h with goneAt := if live h.serial then none else some (h.goneAt.getD s.clk.elapsed) }) }) s

/-- Stores a record and sends it on ports, which owe their acknowledgement (R342). -/
def storeRecord (r : LsRecord) (ports : List Nat) (s : State) : State :=
  let st : StoredRecord := { body := r, born := (s.clk.elapsed : Int) - ((r.age * uSec : Nat) : Int), unacked := ports }
  let s := fabMod (fun x => { x with records := x.records.filter (fun q => !sameRec q.body r) ++ [st] }) s
  holdUnits (ports.foldl (fun s p => sendLink p 2 2 (recBytes r r.age) s) s)

/-- The whole database within scope, to a neighbour that has become two-way (R342). -/
def sendDatabase (p : Nat) (s : State) : State :=
  if !obilwinUp s then s
  else
    let hit := fun (r : StoredRecord) => (scopePorts s r.body.scope).contains p
    let l := s.fab.records.filter hit
    let s' := fabMod (fun x => { x with records := x.records.map (fun (r : StoredRecord) =>
      if hit r && !r.unacked.contains p then { r with unacked := r.unacked ++ [p] } else r) }) s
    l.foldl (fun t r => sendLink p 2 2 (recBytes r.body (ageOf s r)) t) s'

/-- Link cost of a port in force; 0 takes the speed's (R343). -/
def linkCost (s : State) (p : Nat) : Nat := if parN s 0x1C8 p = 0 then costOfSpeed (speedOf s p) else parN s 0x1C8 p

/-! ### Graph (R340, R343) -/

/-- Live records. -/
def liveRecs (s : State) : List LsRecord := (s.fab.records.map (fun r => r.body)).filter (fun r => !withdrawn r)

/-- Edges: costs to devices of the same cluster or zone as listed, adjacencies that both ends list. -/
def edges (s : State) (keep : LsRecord → Bool) : List (Nat × Nat × Nat) :=
  let l := (liveRecs s).filter keep
  l.flatMap (fun r => r.entries.filterMap (fun e =>
    if e.cost = 0xFFFFFFFF then none
    else if e.kind = 2 ∨ l.any (fun q => q.origin == e.nbr && q.entries.any (fun f => f.kind == 1 && f.nbr == r.origin)) then
      some (r.origin, e.nbr, e.cost)
    else none))

/-- The device carries transit (R345). -/
def transitOf (s : State) (a : Nat) : Bool := (liveRecs s).any (fun r => r.origin == a && r.flags.testBit 7)

/-- One round over the edges: a device other than the source passes frames on only where it carries transit. -/
def relax (s : State) (src : Nat) (es : List (Nat × Nat × Nat)) (d : Tbl Nat) : Tbl Nat :=
  es.foldl (fun d e =>
    match Tbl.get d e.1 with
    | some x =>
      if e.1 = src || transitOf s e.1 then
        match Tbl.get d e.2.1 with
        | some y => if x + e.2.2 < y then Tbl.set d e.2.1 (x + e.2.2) else d
        | none => Tbl.set d e.2.1 (x + e.2.2)
      else d
    | none => d) d

/-- Exact path costs from a device. -/
def distRounds (s : State) (src : Nat) (es : List (Nat × Nat × Nat)) : Nat → Tbl Nat → Tbl Nat
  | 0, d => d
  | n + 1, d => distRounds s src es n (relax s src es d)
def distFrom (s : State) (src : Nat) (keep : LsRecord → Bool) : Tbl Nat :=
  distRounds s src (edges s keep) ((liveRecs s).length + 1) [(src, 0)]

/-- The members of this device's cluster part that hold an address, by serial (R336): only these can be reached, and only these are in
the records that tell the assigner (R339, R353; DEDUCED, log entry 44). -/
def partMembers (s : State) : List (Nat × Nat) :=
  let own := clusterOf (ownAddr s)
  let nb := clusterNbrs s
  let start := (nb.filter (fun x => addressedNbr x.2)).map (fun x => x.2.addr)
  let cl := fun (r : LsRecord) => r.scope == 1 && clusterOf r.origin == own
  let es := edges s cl
  let grow := fun (l : List Nat) => (l ++ (es.filter (fun e => l.contains e.1)).map (fun e => e.2.1)).dedup
  let reach := (List.range (s.fab.records.length + 1)).foldl (fun l _ => grow l) start
  (if s.fab.addrValid then [(ownSerial, ownAddr s)] else [])
    ++ (nb.filter (fun x => addressedNbr x.2)).map (fun x => (x.2.serial, x.2.addr))
    ++ ((liveRecs s).filter (fun r => cl r && reach.contains r.origin)).map (fun r => (r.serial, r.origin))

/-- The assigner of the part: its lowest serial, with its address (R336). -/
def assigner (s : State) : Option (Nat × Nat) :=
  (partMembers s).foldl (fun b m => match b with
    | some x => if m.1 < x.1 then some m else some x
    | none => some m) none
def isAssigner (s : State) : Bool := (assigner s).map (fun a => a.1) == some ownSerial

/-! ### Units (R337) -/

/-- Units in use in the cluster, by serial. -/
def unitsInUse (s : State) : List (Nat × Nat) :=
  (if s.fab.addrValid then [(ownSerial, s.fab.unit)] else [])
    ++ ((liveRecs s).filter (fun r => r.scope == 1 && clusterOf r.origin == clusterOf (ownAddr s))).map (fun r => (r.serial, r.origin % 64))
    ++ ((clusterNbrs s).filter (fun x => addressedNbr x.2)).map (fun x => (x.2.serial, x.2.addr % 64))

/-- A unit that another serial has or holds. -/
def unitTaken (s : State) (serial u : Nat) : Bool :=
  (unitsInUse s).any (fun x => x.2 == u && x.1 != serial) || s.fab.held.any (fun h => h.unit == u && h.serial != serial)

/-- The unit granted to a serial, with the rule that chose it. -/
def chooseUnit (s : State) (serial : Nat) (cfg : Option Nat) : Option (Nat × Nat) :=
  let byHeld := match s.fab.held.find? (fun h => h.serial == serial) with
    | some h => if unitTaken s serial h.unit then none else some (h.unit, 2)
    | none => none
  let free := ((List.range 64).find? (fun u => !unitTaken s serial u)).map (fun u => (u, 3))
  match cfg with
  | some u => if u < 64 ∧ !unitTaken s serial u then some (u, 1) else byHeld.or free
  | none => byHeld.or free

/-- Records the serial's unit as held. -/
def holdUnit (serial u : Nat) (s : State) : State :=
  fabMod (fun x => { x with held := x.held.filter (fun h => h.serial != serial) ++ [{ serial, unit := u }] }) s

/-- The body of an address message (R349). -/
def addrBody (serial cfg zone cluster result relay relayPort unit basis attempt : Nat) : List Byte :=
  be 8 serial ++ be 1 cfg ++ be 1 zone ++ be 1 cluster ++ be 1 result ++ be 3 relay ++ be 1 relayPort ++ be 1 unit ++ be 1 basis
    ++ be 1 attempt ++ be 5 0

/-- The answer of the assigner to a request: the grant's body, and the unit held for the serial. -/
def grantFor (b : List Byte) (relay relayPort : Nat) (s : State) : List Byte × State :=
  let serial := fieldBe b 0 8
  let cfg := fieldBe b 8 1
  let body := fun (result unit basis : Nat) =>
    addrBody serial cfg (fieldBe b 9 1) (fieldBe b 10 1) result relay relayPort unit basis (fieldBe b 18 1)
  match chooseUnit s serial (if cfg = 255 then none else some cfg) with
  | some (u, basis) => (body 0 u basis, holdUnit serial u s)
  | none => (body 1 255 0, s)

/-- Sends this device's request through a neighbour, as the given attempt. -/
def sendRequest (p attempt : Nat) (s : State) : State :=
  let cfg := (unitCfg s).getD 255
  sendLink p 2 4 (addrBody ownSerial cfg (zoneOf (ownAddr s)) (clusterOf (ownAddr s) % 64) 0 0 255 0 0 attempt)
    (fabMod (fun x => { x with reqTries := attempt, reqPort := some p }) s)

/-- Neighbours through which a request goes, in port order. -/
def requestPorts (s : State) : List Nat := ((clusterNbrs s).filter (fun x => addressedNbr x.2)).map (fun x => x.1)

/-- The device is the lowest serial of its part and assigns its unit to itself. -/
def assignSelf (s : State) : State :=
  match chooseUnit s ownSerial (unitCfg s) with
  | some (u, _) => takeUnit u (holdUnit ownSerial u s)
  | none => addressEvent (fabMod (fun x => { x with clusterFull := true }) s)

/-! ### Routes (R343, R344) -/

/-- The records of both ends list the adjacency of a port (R340). -/
def bothList (s : State) (p nbr : Nat) : Bool :=
  (liveRecs s).any (fun r => r.origin == ownAddr s && r.entries.any (fun e => e.kind == 1 && e.nbr == nbr && e.port == p)) &&
    (liveRecs s).any (fun r => r.origin == nbr && r.entries.any (fun e => e.kind == 1 && e.nbr == ownAddr s))

/-- A first hop: port, neighbour, link cost, and the neighbour's own path costs. -/
structure Hop where
  port : Nat
  nbr  : Nat
  cost : Nat
  dist : Tbl Nat

def hopsOf (s : State) : List Hop :=
  ((twoWays s).filter (fun x => addressedNbr x.2 && bothList s x.1 x.2.addr)).map (fun x =>
    { port := x.1, nbr := x.2.addr, cost := linkCost s x.1, dist := distFrom s x.2.addr (fun _ => true) })

/-- The lowest cost to any of some devices. -/
def lowest (d : Tbl Nat) (ts : List Nat) : Option Nat :=
  (ts.filterMap (Tbl.get d)).foldl (fun b x => match b with
    | some y => some (min x y)
    | none => some x) none

/-- Cost through a hop, where the neighbour is a target or carries transit. -/
def viaHop (s : State) (h : Hop) (ts : List Nat) : Option Nat :=
  if ts.contains h.nbr || transitOf s h.nbr then (lowest h.dist ts).map (· + h.cost) else none

/-- The route entry to a set of devices; none without a path. -/
def routeFor (s : State) (hops : List Hop) (ts : List Nat) : Option RouteEntry :=
  let best := (hops.filterMap (fun h => viaHop s h ts)).foldl (fun b x => match b with
    | some y => some (min x y)
    | none => some x) none
  match best with
  | none => none
  | some c =>
    let mem := ((hops.filter (fun h => viaHop s h ts == some c)).map (fun h => h.port)).take 8
    let spare := hops.filter (fun h => !mem.contains h.port && (match viaHop s h ts, lowest h.dist ts, Tbl.get h.dist (ownAddr s) with
      | some _, some d, some back => decide (d < back + c)
      | some _, some _, none => true
      | _, _, _ => false))
    let bk := spare.foldl (fun (b : Option (Nat × Nat)) h => match b, viaHop s h ts with
      | some y, some x => if x < y.1 then some (x, h.port) else b
      | none, some x => some (x, h.port)
      | b, none => b) none
    some { members := mem, backup := bk.map (fun x => x.2) }

/-- The devices that a route entry stands for (R343). -/
def routeTargets (s : State) (i : Nat) : List Nat :=
  let own := ownAddr s
  let o := fun (sc : Nat) => ((liveRecs s).filter (fun r => r.scope == sc)).map (fun r => r.origin)
  if i < 64 then if i = zoneOf own then [] else (o 3).filter (fun a => zoneOf a == i)
  else if i < 128 then if i - 64 = clusterOf own % 64 then [] else (o 2).filter (fun a => zoneOf a == zoneOf own && clusterOf a % 64 == i - 64)
  else if i - 128 = own % 64 then [] else [own / 64 * 64 + (i - 128)]

/-- The tables as computed: only what changed is written; the number of changes comes with the state. -/
def writeRoutes (s : State) : Nat × State :=
  let hops := hopsOf s
  let on := domOn s 10
  (List.range 192).foldl (fun a i =>
    let ts := routeTargets s i
    let e := if ts.isEmpty then none else routeFor s hops ts
    if Tbl.get a.2.fwd.golden.route i = e then a
    else
      let put := fun (t : Tbl RouteEntry) => match e with
        | some v => Tbl.set t i v
        | none => Tbl.erase t i
      (a.1 + 1, clearBad 4 i (fwdMod (fun f => { f with
        golden := { f.golden with route := put f.golden.route }
        hw := if on then { f.hw with route := put f.hw.route } else f.hw }) a.2))) (0, s)

/-- D10 and both buffer halves that serve fabric ports are On (R369). -/
def transitPower (s : State) : Bool :=
  domOn s 10 && (List.range 192).all (fun p => !portUsed s p || !kindFab s p || domOn s (bufDomOf (p / 8)))

/-! ### Own records (R340) -/

/-- The entries of this device's record at a scope. -/
def ownEntries (s : State) (sc : Nat) : List LsEntry :=
  let own := ownAddr s
  let nb := (twoWays s).filter (fun x => addressedNbr x.2)
  let adj := nb.filter (fun x =>
    if sc = 1 then clusterOf x.2.addr == clusterOf own
    else if sc = 2 then zoneOf x.2.addr == zoneOf own && clusterOf x.2.addr != clusterOf own
    else zoneOf x.2.addr != zoneOf own)
  let costs := if sc = 1 then [] else
    let near := fun (a : Nat) => if sc = 2 then clusterOf a == clusterOf own else zoneOf a == zoneOf own
    let others := ((liveRecs s).filter (fun r => r.scope == sc && near r.origin && r.origin != own)).map (fun r => r.origin)
    let hops := hopsOf s
    others.map (fun a => ({ kind := 2, nbr := a, port := 255
                            cost := (hops.filterMap (fun h => viaHop s h [a])).foldl min 0xFFFFFFFF } : LsEntry))
  if adj.isEmpty ∧ sc ≠ 1 then []
  else (adj.map (fun x => ({ kind := 1, nbr := x.2.addr, port := x.1, cost := linkCost s x.1 } : LsEntry)) ++ costs).take 255

/-- Originates the record of a scope with a sequence number. -/
def originate (sc seq flags : Nat) (es : List LsEntry) (s : State) : State :=
  let r : LsRecord := { scope := sc, flags, origin := ownAddr s, age := 0, serial := ownSerial, seq, entries := es }
  storeRecord r (scopePorts s sc) (fabMod (fun x => { x with ownSeq := vmodN x.ownSeq sc (fun _ => seq) }) s)

/-- This device's stored record of a scope. -/
def ownRecord (s : State) (sc : Nat) : Option LsRecord :=
  ((s.fab.records.map (fun r => r.body)).find? (fun r => r.scope == sc && r.serial == ownSerial))

end Sys2Proof.Machine
end

