-- ==== Sys2Proof/Machine/HelloOps.lean ====
section
/-! DEFINITION. The hellos this device sends (R333, R335): their fields, their frame, when they leave. -/

namespace Sys2Proof.Machine

/-- The engine takes time through the port (R333, R357). -/
def upstream (s : State) (p : Nat) : Bool :=
  (engOf s (ctl s)).sel == some (8 + p / 8) && timingPort s (p / 8) == some p

/-- SEQ of the own cluster-scope record. -/
def lsaSeq (s : State) : Nat := vget s.fab.ownSeq 1 0

/-- Obilwin's template: the fields that are not live. While Obilwin does not run, a port repeats its last one. -/
def helloTemplate (s : State) (p : Nat) : Nat × Nat × Nat :=
  let now := (b2n s.fab.addrValid * 128 + b2n (isAssigner s) * 64 + b2n (s.fab.conflict || s.fab.stuck) * 32
    + b2n s.fab.transit * 16, ownAddr s, lsaSeq s)
  if obilwinUp s then now
  else match (adjOf s p).lastSent with
    | some b => let h := helloOf (b.drop 28); (h.flags / 16 * 16, h.addr, h.lsaSeq)
    | none => now

/-- A hello with its live fields. -/
def ownHello (s : State) (p : Nat) : Hello :=
  let t := helloTemplate s p
  { version := 1, flags := t.1 + b2n (upstream s p) * 8, addr := t.2.1, port := p, serial := ownSerial
    nbrSerial := ((adjOf s p).hello.map (fun h => h.serial)).getD 0
    caps := b2n s.fab.timeSource * 32768 + 0x7000
    timing := todCode s.clk.tod * 32 + servoCode (engOf s (ctl s)).st * 4
    depth := s.fab.depth, treeId := s.fab.treeId, sigmaAcc := s.clk.sigmaAcc, cAcc := s.clk.cAcc
    lsaSeq := t.2.2, seq := ((adjOf s p).helloSeq + 1) % 65536 }

/-- The port exchanges hellos: a fabric port that is UP. -/
def helloPort (s : State) (p : Nat) : Bool := portUsed s p && kindFab s p && (portOf s p).st == .up && !portInReset s p

/-- A hello's frame, 80 bytes with its FCS: the header of a link-local frame of TYPE 1, then the payload (R332, R333). -/
def helloFrame (s : State) (p : Nat) : List Byte := linkHead s p 1 ++ helloBytes (ownHello s p)

/-- A fabric port that is UP sends a hello; none while its transmit direction sleeps (R333, R335). -/
def sendHello (p : Nat) (s : State) : State :=
  if helloPort s p && (portOf s p).sleep.tx == .awake then
    let n := (ownHello s p).seq
    let b := helloFrame s p
    countSent p (parN s 0x1C1 0) 80 (interject p (adjMod p (fun a => { a with helloSeq := n, lastSent := some b }) s))
  else s

end Sys2Proof.Machine
end

