-- ==== Sys2Proof/Machine/Fabric.lean ====
section
/-! DEFINITION. Fabric commands: hellos and adjacencies (R333 to R335), addresses (R337, R338, R349), link-state records
(R340 to R342, R355), reassembly (R348). -/

namespace Sys2Proof.Machine

/-! ### Hellos -/

/-- HELLO_SEND (R333). -/
def execHelloSend (p : PortIx) (s : State) : Host.Outcome State Fault Refusal := done (sendHello p s)

/-- The adjacency's state after a hello (R334). -/
def nextAdj (a : Adjacency) (h : Hello) : AdjSt :=
  if h.version ≠ 1 then .rejected
  else if h.serial = ownSerial then .self
  else
    let same := a.hello.map (fun o => o.serial) == some h.serial
    match a.st with
    | .init => if h.nbrSerial = ownSerial then .twoWay else .init
    | .twoWay => if h.nbrSerial = ownSerial ∧ same then .twoWay else .init
    | _ => .init

/-- HELLO_RECEIVE (R334, R338, R342, R347). -/
def execHelloReceive (p : PortIx) (frame : List Byte) (s : State) : Host.Outcome State Fault Refusal :=
  let h := helloOf frame
  if helloPort s p then
    let a := adjOf s p
    let st := nextAdj a h
    let s := adjMod p (fun a => { a with st := st, hello := some h }) s
    let s := if st == .twoWay then s else adjMod p (fun a => { a with inelig := 1 }) s
    let s := if st == .twoWay && a.st != .twoWay then sendDatabase p s else s
    done (if obilwinUp s && s.fab.addrValid && addressedNbr h && h.addr == ownAddr s && h.serial != ownSerial && h.version == 1
      then conflict h.serial s else s)
  else done s

/-- HELLO_DEAD_EXPIRY (R334, R335): the timer is suspended while the receive direction sleeps. -/
def execHelloDeadExpiry (p : PortIx) (s : State) : Host.Outcome State Fault Refusal :=
  if (adjOf s p).st != .down && !(adjOf s p).suspended then done (adjMod p (fun a => { a with deadEvt := true }) (adjDown p s))
  else done s

/-! ### Addresses -/

/-- ADDR_REQUEST_START (R337). -/
def execAddrRequestStart (s : State) : Host.Outcome State Fault Refusal :=
  if obilwinUp s && !s.fab.addrValid && !s.fab.stuck then
    match requestPorts s with
    | p :: _ => done (sendRequest p 1 s)
    | [] => done (assignSelf s)
  else done s

/-- An answer of the assigner, to the relay or straight to the requester's port. -/
def answerRequest (b : List Byte) (xid relay relayPort : Nat) (direct : Option Nat) (s : State) : State :=
  let g := grantFor b relay relayPort s
  match direct with
  | some p => sendLink p 2 5 g.1 g.2
  | none => sendDev relay 2 5 xid 0 g.1 g.2

/-- ADDR_REQ_RECEIVE (R337, R349): the neighbour relays a link-local request; the assigner answers. -/
def execAddrReqReceive (p : PortIx) (src : Nat) (frame : List Byte) (s : State) : Host.Outcome State Fault Refusal :=
  let seg := segOf src frame
  if obilwinUp s && s.fab.addrValid then
    match assemble 2 seg s with
    | (none, t) => done t
    | (some b, t) =>
      if fieldBe b 15 1 = 255 then
        if isAssigner t then done (answerRequest b seg.xid (ownAddr t) p (some p.val) t)
        else match assigner t with
          | some (_, a) => done (sendDev a 2 4 seg.xid 0 (patch b 12 (be 3 (ownAddr t) ++ be 1 p.val)) t)
          | none => done t
      else if isAssigner t then
        done (answerRequest b seg.xid (fieldBe b 12 3 % 2 ^ 18) (fieldBe b 15 1) none t)
      else done t
  else done s

/-- Takes a grant, or its refusal. -/
def takeGrant (b : List Byte) (s : State) : State :=
  if fieldBe b 11 1 = 0 ∧ fieldBe b 16 1 < 64 then takeUnit (fieldBe b 16 1) s
  else if fieldBe b 11 1 = 1 then
    addressEvent (fabMod (fun x => { x with clusterFull := true, reqTries := 0, reqPort := none }) s)
  else s

/-- ADDR_GRANT_RECEIVE (R337, R349). -/
def execAddrGrantReceive (_p : PortIx) (src : Nat) (frame : List Byte) (s : State) : Host.Outcome State Fault Refusal :=
  let seg := segOf src frame
  if obilwinUp s then
    match assemble 2 seg s with
    | (none, t) => done t
    | (some b, t) =>
      if fieldBe b 0 8 = ownSerial then done (when (!t.fab.addrValid && !t.fab.stuck) (takeGrant b t) t)
      else if t.fab.addrValid && fieldBe b 12 3 % 2 ^ 18 == ownAddr t && decide (fieldBe b 15 1 < 192) then
        done (sendLink (fieldBe b 15 1) 2 5 b t)
      else done t
  else done s

/-- ADDR_REQ_RETRY (R337): the next neighbour in port order; none left that qualifies, the device assigns itself. -/
def execAddrReqRetry (s : State) : Host.Outcome State Fault Refusal :=
  if obilwinUp s && !s.fab.addrValid && !s.fab.stuck && decide (0 < s.fab.reqTries) then
    let l := requestPorts s
    match (l.filter (fun p => decide ((s.fab.reqPort.getD 0) < p))) ++ l with
    | p :: _ => done (sendRequest p (min 255 (s.fab.reqTries + 1)) s)
    | [] => done (assignSelf s)
  else done s

/-- UNIT_HOLD_EXPIRY (R337): the records that have been gone longest have been gone for UNIT_HOLD. -/
def execUnitHoldExpiry (s : State) : Host.Outcome State Fault Refusal :=
  let first := (s.fab.held.filterMap (fun h => h.goneAt)).min?
  done (when (obilwinUp s && first.isSome)
    (fabMod (fun x => { x with held := x.held.filter (fun (h : HeldUnit) => h.goneAt != first) }) s) s)

/-! ### Records -/

/-- The database has changed: routes are to be computed (R345, R357). -/
def dbChanged (s : State) : State := holdUnits { s with fabS := { s.fabS with reconv := true } }

/-- A record that is newer than what is stored, or of a new origin (R342, R355). -/
def takeRecord (p : Nat) (r : LsRecord) (s : State) : State :=
  let known := s.fab.records.any (fun (q : StoredRecord) => sameRec q.body r)
  if !known && decide (scaleOf r.scope ≤ (s.fab.records.filter (fun (q : StoredRecord) => q.body.scope == r.scope)).length) then
    issueEvent 0x0703 r.scope [] { s with fabS := { s.fabS with scaleLimit := true } }
  else
    let s := sendLink p 2 3 (ackBody r) s
    let s := if r.scope = 1 ∧ clusterOf r.origin = clusterOf (ownAddr s) ∧ !withdrawn r then holdUnit r.serial (r.origin % 64) s else s
    let s := dbChanged (storeRecord r ((scopePorts s r.scope).filter (fun q => q != p)) s)
    if s.fab.addrValid && r.origin == ownAddr s && r.serial != ownSerial && !withdrawn r then conflict r.serial s else s

/-- This device's own record came back with a higher SEQ: it is originated again above it (R342). -/
def outrank (p : Nat) (r : LsRecord) (s : State) : State :=
  let s := sendLink p 2 3 (ackBody r) s
  let es := ownEntries s r.scope
  if s.fab.addrValid && r.origin == ownAddr s then
    let fl := b2n s.fab.transit * 128 + (if r.scope ≠ 1 ∧ es.isEmpty then 64 else 0)
    dbChanged (originate r.scope ((r.seq + 1) % 2 ^ 32) fl es s)
  else fabMod (fun x => { x with ownSeq := vmodN x.ownSeq r.scope (fun n => max n r.seq) }) s

/-- RECORD_RECEIVE (R342, R349, R355). -/
def execRecordReceive (p : PortIx) (src : Nat) (frame : List Byte) (s : State) : Host.Outcome State Fault Refusal :=
  let seg := segOf src frame
  if obilwinUp s && helloPort s p then
    match assemble 2 seg s with
    | (none, t) => done t
    | (some b, t) =>
      let r := recOf b
      if r.scope = 0 ∨ 3 < r.scope ∨ 3600 ≤ r.age then done t
      else if r.serial = ownSerial ∧ vget t.fab.ownSeq r.scope 0 < r.seq then done (outrank p r t)
      else match (t.fab.records.map (fun q => q.body)).find? (fun q => sameRec q r) with
        | none => done (takeRecord p r t)
        | some o => if newer r o then done (takeRecord p r t)
          else if r.seq = o.seq then done (sendLink p 2 3 (ackBody o) t) else done t
  else done s

/-- RECORD_ACK_RECEIVE (R349): each entry acknowledges its record at that SEQ and below. -/
def execRecordAckReceive (p : PortIx) (src : Nat) (frame : List Byte) (s : State) : Host.Outcome State Fault Refusal :=
  let seg := segOf src frame
  if obilwinUp s then
    match assemble 2 seg s with
    | (none, t) => done t
    | (some b, t) =>
      let acks := (List.range (b.length / 20)).map (fun i =>
        (fieldBe b (20 * i) 1, fieldBe b (20 * i + 2) 3 % 2 ^ 18, fieldBe b (20 * i + 8) 8, fieldBe b (20 * i + 16) 4))
      done (fabMod (fun x => { x with records := x.records.map (fun (r : StoredRecord) =>
        if acks.any (fun a => a.1 == r.body.scope && a.2.1 == r.body.origin && a.2.2.1 == r.body.serial && decide (r.body.seq ≤ a.2.2.2))
        then { r with unacked := r.unacked.filter (fun q => q != p.val) } else r) }) t)
  else done s

/-- RECORD_ORIGINATE (R340, R342, R345): a scope that no longer applies is withdrawn; unchanged content is not sent. -/
def execRecordOriginate (scope : Nat) (s : State) : Host.Outcome State Fault Refusal :=
  if obilwinUp s && s.fab.addrValid && decide (1 ≤ scope ∧ scope ≤ 3) then
    let es := ownEntries s scope
    let off := scope ≠ 1 ∧ es.isEmpty
    let fl := b2n s.fab.transit * 128 + (if off then 64 else 0)
    let same := match ownRecord s scope with
      | some r => r.flags == fl && r.entries == es && r.origin == ownAddr s
      | none => decide off
    if same then done s
    else done (dbChanged (originate scope ((vget s.fab.ownSeq scope 0 + 1) % 2 ^ 32) fl es s))
  else done s

/-- RECORD_RETRANSMIT (R342). -/
def execRecordRetransmit (s : State) : Host.Outcome State Fault Refusal :=
  if obilwinUp s then
    done (s.fab.records.foldl (fun t r =>
      (r.unacked.filter (fun p => (adjOf s p).st == .twoWay)).foldl (fun t p => sendLink p 2 2 (recBytes r.body (ageOf s r)) t) t) s)
  else done s

/-- RECORD_REFRESH (R342). -/
def execRecordRefresh (s : State) : Host.Outcome State Fault Refusal :=
  if obilwinUp s && s.fab.addrValid then
    done ([1, 2, 3].foldl (fun t sc => match ownRecord t sc with
      | some r => if withdrawn r then t else originate sc ((vget t.fab.ownSeq sc 0 + 1) % 2 ^ 32) r.flags r.entries t
      | none => t) s)
  else done s

/-- RECORD_AGE_EXPIRY (R342): the oldest records have reached the age of 3,600 s and are discarded. -/
def execRecordAgeExpiry (s : State) : Host.Outcome State Fault Refusal :=
  if obilwinUp s && !s.fab.records.isEmpty then
    let first := (s.fab.records.map (fun r => r.born)).min?
    done (dbChanged (fabMod (fun x => { x with records := x.records.filter (fun (r : StoredRecord) => first != some r.born) }) s))
  else done s

/-- SEGMENT_REASSEMBLY_TIMEOUT (R348): the oldest message in reassembly has been incomplete for 50 ms. -/
def execSegmentReassemblyTimeout (s : State) : Host.Outcome State Fault Refusal :=
  let first := (s.fab.reasm.map (fun r => r.firstAt)).min?
  done (fabMod (fun x => { x with reasm := x.reasm.filter (fun (r : Reassembly) => first != some r.firstAt) }) s)

/-- Routes computed and installed (R343 to R345): the changes are reported, and TRANSIT follows (R369). -/
def spfRun (s : State) : State :=
  let w := writeRoutes s
  let s := { w.2 with
    fab := { w.2.fab with transit := w.2.fab.transit || transitPower w.2, installed := true }
    fabS := { w.2.fabS with
      reconv := false, spfRuns := (w.2.fabS.spfRuns + 1) % 65536, topoEvt := w.2.fabS.topoEvt || decide (0 < w.1) } }
  if w.1 = 0 then s else issueEvent 0x0702 0 (le 2 s.fabS.spfRuns) s

end Sys2Proof.Machine
end

