-- ==== Sys2Proof/Machine/MailOps.lean ====
section
/-! DEFINITION. The mailbox's shared operations: headers and responses (R412, R413), sequence numbers (R414, R415), the
checks at the acknowledge (R409, R418, R427, R430, R455), and the final response (R416, R417, R419). -/

namespace Sys2Proof.Machine

def mbMod (f : Mailbox → Mailbox) (s : State) : State := { s with mb := f s.mb }
def chanOf (s : State) (c : Nat) : Channel := vget s.mb.chan c {}
def chanMod (c : Nat) (f : Channel → Channel) (s : State) : State := mbMod (fun m => { m with chan := vmodN m.chan c f }) s

/-- The command buffer is locked (R410). -/
def chanLocked (s : State) (c : Nat) : Bool := (chanOf s c).st == .pending || (chanOf s c).st == .executing

/-! ### Statuses (R413) -/

def stOk : Nat := 0x0000
def stInProgress : Nat := 0x0001
def stBadOpcode : Nat := 0x0010
def stBadLength : Nat := 0x0011
def stBadParam : Nat := 0x0012
def stSeqError : Nat := 0x0013
def stBusy : Nat := 0x0014
def stNotPermitted : Nat := 0x0015
def stTimeout : Nat := 0x0016
def stHwFault : Nat := 0x0017
def stCalRejected : Nat := 0x0018

/-- Results. -/
def okRes (p : List Byte) : CmdResult := { status := stOk, payload := p }
def badParam (d : Nat) : CmdResult := { status := stBadParam, detail := d }
def notPermitted (d : Nat) : CmdResult := { status := stNotPermitted, detail := d }

/-! ### Who serves the mailbox (R411, R479) -/

/-- Loader mode, and the commands the ROM answers in it. -/
def loaderUp (s : State) : Bool :=
  s.boot.stage == 3 && s.mb.fwReady && s.rst.mgmt.isNone && (vget s.pm.dom 3 {}).st == .on
def loaderOps : List Nat := [0x0101, 0x0910, 0x0911, 0x0912, 0x0913]

/-! ### Headers (R412) -/

/-- A response: header and payload. -/
def respBytes (cmd : Cmd) (r : CmdResult) (flags dseq : Nat) : List Byte :=
  le 2 cmd.opcode ++ le 1 flags ++ le 1 cmd.chanField ++ le 2 cmd.hseq ++ le 2 r.payload.length ++ le 2 r.status ++ le 2 r.detail
    ++ le 4 dseq ++ r.payload

/-- The command that a header and payload spell. -/
def cmdOf (b : List Byte) : Cmd :=
  { opcode := fieldLe b 0 2, hseq := fieldLe b 4 2, chanField := fieldLe b 3 1
    payload := slice b 16 (min 4080 (fieldLe b 6 2)) }

/-- The header fields that a command leaves 0. -/
def hdrClean (b : List Byte) : Bool := fieldLe b 2 1 == 0 && fieldLe b 8 8 == 0

/-! ### Opcodes and lengths (R431, R432, R435, R441, R448, R450, R456, R458, R460, R462, R465 to R467) -/

/-- The parameter commands, and the reads above them. -/
def paramOp (op : Nat) : Option PFam :=
  match op with
  | 0x0121 => some .dev | 0x0210 => some .ref | 0x0220 => some .eng | 0x0301 => some .io
  | 0x0401 => some .port | 0x0501 => some .fwd | 0x0701 => some .fab | _ => none
def readOp (op : Nat) : Option PFam := if 0x80 ≤ op then paramOp (op - 0x80) else none

/-- Commands of a fixed length: the payload bytes. -/
def fixedLen (op : Nat) : Option Nat :=
  match op with
  | 0x0101 => some 0 | 0x0102 => some 8 | 0x0110 => some 4 | 0x0111 => some 8 | 0x0112 => some 20 | 0x0120 => some 4
  | 0x0140 => some 4 | 0x0141 => some 12 | 0x0142 => some 8 | 0x0143 => some 16 | 0x0144 => some 0 | 0x0145 => some 4
  | 0x0150 => some 4 | 0x0151 => some 8
  | 0x0201 => some 16 | 0x0202 => some 8 | 0x0211 => some 4 | 0x0212 => some 4 | 0x0213 => some 4 | 0x0221 => some 4
  | 0x0222 => some 8 | 0x0223 => some 24 | 0x0224 => some 8 | 0x0225 => some 4 | 0x0226 => some 4
  | 0x0310 => some 40 | 0x0311 => some 4
  | 0x0402 => some 4 | 0x0410 => some 4 | 0x0411 => some 4 | 0x0420 => some 8 | 0x0421 => some 4 | 0x0422 => some 4
  | 0x0430 => some 4 | 0x0431 => some 44 | 0x0440 => some 4
  | 0x0510 => some 16 | 0x0511 => some 8 | 0x0512 => some 8 | 0x0520 => some 24 | 0x0521 => some 4 | 0x0522 => some 16
  | 0x0530 => some 8 | 0x0531 => some 28 | 0x0540 => some 12
  | 0x0601 => some 96 | 0x0602 => some 4 | 0x0603 => some 8 | 0x0604 => some 4
  | 0x0720 => some 8 | 0x0801 => some 4 | 0x0802 => some 4 | 0x0803 => some 8
  | 0x0910 => some 8 | 0x0912 => some 0 | 0x0913 => some 4 | 0x0914 => some 0
  | _ => if (readOp op).isSome then some 4 else none

/-- Commands whose length varies. -/
def variesLen (op : Nat) : Bool :=
  (paramOp op).isSome || op == 0x0532 || op == 0x0710 || op == 0x0901 || op == 0x0902 || op == 0x0911

def opDefined (op : Nat) : Bool := (fixedLen op).isSome || variesLen op

/-- The payload has the length that the opcode requires. -/
def lenRight (op : Nat) (p : List Byte) : Bool :=
  let n := p.length
  match fixedLen op with
  | some k => n == k
  | none =>
    if (paramOp op).isSome then decide (1 ≤ fieldLe p 2 2 ∧ fieldLe p 2 2 ≤ 339) && n == 4 + 12 * fieldLe p 2 2
    else if op = 0x0532 then n == if fieldLe p 0 1 = 0 then 12 else 68
    else if op = 0x0710 then decide (20 ≤ n) && n == 20 + fieldLe p 10 2
    else if op = 0x0901 then decide (4 ≤ n) && n == 4 + (fieldLe p 0 2 + 3) / 4 * 4
    else if op = 0x0902 then decide (8 ≤ n) && n == 8 + (fieldLe p 4 2 + 3) / 4 * 4
    else decide (4 ≤ n ∧ n ≤ 4068)

/-- The command's deadline is above 1 ms: it is answered IN_PROGRESS first (R416, R428). -/
def slowOp (op : Nat) (p : List Byte) : Bool :=
  [0x0110, 0x0140, 0x0144, 0x0150, 0x0220, 0x0421, 0x0512, 0x0601, 0x0602, 0x0710, 0x0802, 0x0901, 0x0902, 0x0910, 0x0911, 0x0912,
    0x0914].contains op ||
  (op == 0x0401 && (List.range (fieldLe p 2 2)).any (fun i => [0x100, 0x101, 0x102, 0x103, 0x104].contains (fieldLe p (4 + 12 * i) 2)))

/-- The command changes no state (R350). -/
def readsOnly (op : Nat) : Bool :=
  (readOp op).isSome || [0x0101, 0x0102, 0x0145, 0x0151, 0x0224, 0x0430, 0x0440, 0x0521, 0x0604, 0x0720, 0x0802, 0x0803].contains op

/-! ### Resources (R430, R455) -/

/-- A resource: 0 reference, 1 engine, 2 trigger output, 3 synthesiser, 4 converter, 5 port group, 6 a port's calendar,
7 flow context, 8 multicast group, 9 image slot, 10 remote target, with its index. -/
def claim (kind ix : Nat) : Nat := kind * 2 ^ 32 + ix

/-- The group of a PORT, FWD or FAB selector. -/
def selClaim (sel : Nat) : List Nat :=
  if sel < 192 then [claim 5 (sel / 8)]
  else if 0x100 ≤ sel ∧ sel < 0x1C0 then [claim 5 ((sel - 0x100) / 8)]
  else if 0x200 ≤ sel ∧ sel < 0x218 then [claim 5 (sel - 0x200)] else []

/-- The resources that a command names. -/
def claimsOf (s : State) (op : Nat) (p : List Byte) : List Nat :=
  let b0 := fieldLe p 0 1
  let h0 := fieldLe p 0 2
  match op with
  | 0x0210 | 0x0290 => [claim 0 h0]
  | 0x0211 => if b0 = 255 then [] else [claim 0 b0]
  | 0x0212 | 0x0213 => [claim 0 b0]
  | 0x0220 | 0x02A0 => (if h0.testBit 0 then [claim 1 0] else []) ++ (if h0.testBit 1 then [claim 1 1] else [])
  | 0x0225 => (if b0.testBit 0 then [claim 1 0] else []) ++ (if b0.testBit 1 then [claim 1 1] else [])
  | 0x0224 | 0x0226 => [claim 1 b0]
  | 0x0301 | 0x0381 => if 8 ≤ h0 ∧ h0 < 16 then [claim 2 (h0 - 8)] else []
  | 0x0310 | 0x0311 => [claim 2 b0]
  | 0x0141 | 0x0142 => [claim 3 b0]
  | 0x0150 | 0x0151 => match convNo b0 (fieldLe p 2 2) with
    | some c => [claim 4 c]
    | none => []
  | 0x0401 | 0x0481 | 0x0501 | 0x0581 | 0x0701 | 0x0781 => selClaim h0
  | 0x0402 | 0x0440 => [claim 5 (b0 / 8)]
  | 0x0410 => [claim 5 b0]
  | 0x0411 | 0x0420 | 0x0421 | 0x0422 | 0x0430 | 0x0431 => [claim 5 (b0 / 8)]
  | 0x0520 | 0x0521 => [claim 7 h0]
  | 0x0522 => [claim 7 (fieldLe p 12 2)]
  | 0x0530 => [claim 8 (fieldLe p 4 2)]
  | 0x0531 => [claim 8 h0]
  | 0x0601 =>
    let d := fieldLe p 4 4
    let src := fieldLe p 0 4
    (if src % 2 ^ 18 = ownAddr s then [claim 5 (src / 2 ^ 24 / 8)] else []) ++
      (if d.testBit 23 then [claim 8 (d % 2 ^ 14)] else if d % 2 ^ 18 = ownAddr s then [claim 5 (d / 2 ^ 24 / 8)] else [])
  | 0x0602 =>
    (s.cald.streams.filter (fun e => e.id == fieldLe p 0 4)).flatMap (fun e => e.ports.map (claim 6))
  | 0x0710 | 0x0902 => [claim 10 (fieldLe p 0 4)]
  | 0x0910 | 0x0913 => [claim 9 b0]
  | 0x0911 | 0x0912 => match s.boot.update with
    | some u => [claim 9 u.1]
    | none => []
  | _ => []

/-- The lowest other channel whose running command holds one of some resources. -/
def holder (s : State) (o : Origin) (cl : List Nat) : Option Nat :=
  (List.range 4).find? (fun c =>
    o != .host (Fin.ofNat 4 c) && (chanOf s c).st == .executing && ((chanOf s c).exec.any (fun e => e.claims.any cl.contains)))

/-! ### Running commands by origin -/

def execOf (s : State) (o : Origin) : Option Exec :=
  match o with
  | .host c => (chanOf s c.val).exec
  | .remote src xid => (s.mb.remote.find? (fun r => r.source == src && r.xid == xid)).map (fun r => r.exec)
def execMod (o : Origin) (f : Exec → Exec) (s : State) : State :=
  match o with
  | .host c => chanMod c.val (fun x => { x with exec := x.exec.map f }) s
  | .remote src xid => mbMod (fun m => { m with remote := m.remote.map (fun (r : RemoteExec) =>
      if r.source = src ∧ r.xid = xid then { r with exec := f r.exec } else r) }) s
def execEnd (o : Origin) (s : State) : State :=
  match o with
  | .host c => chanMod c.val (fun x => { x with exec := none }) s
  | .remote src xid => mbMod (fun m => { m with remote := m.remote.filter (fun (r : RemoteExec) => !(r.source == src && r.xid == xid)) }) s

/-- A command's outcome, ready for its final response. -/
def setResult (o : Origin) (r : CmdResult) (s : State) : State := execMod o (fun e => { e with result := some r, wait := none }) s
/-- A command's work goes on. -/
def setWait (o : Origin) (w : CmdWait) (s : State) : State := execMod o (fun e => { e with wait := some w }) s

/-- The payload of the command of an opcode that has been acknowledged and not yet begun (R411); none otherwise. -/
def commandAt (s : State) (o : Origin) (op : Nat) : Option (List Byte) :=
  match execOf s o with
  | some e => if (obilwinUp s || (loaderUp s && loaderOps.contains op)) && e.cmd.opcode == op && e.result.isNone && e.wait.isNone then some e.cmd.payload else none
  | none => none

/-- The shape of every command's row: the work on its payload. -/
def onCommand (o : Origin) (op : Nat) (f : List Byte → State → State) (s : State) : State :=
  match commandAt s o op with
  | some p => f p s
  | none => s

/-- A command that is answered at once: its result and its effect together; a refusal comes with no effect. -/
def answer (o : Origin) (r : CmdResult × State) : State := setResult o r.1 r.2

/-- All bytes of a range are 0. -/
def zeros (p : List Byte) (o n : Nat) : Bool := fieldLe p o n == 0

/-- The offset of the first byte of a range that is not 0. -/
def firstSet (p : List Byte) (o n : Nat) : Nat := ((List.range n).find? (fun i => fieldLe p (o + i) 1 != 0)).getD 0 + o

/-! ### The acknowledge (R409, R411, R413, R416, R418, R427) -/

/-- A DETAIL that the manual leaves unstated. -/
def freeDetail (s : State) : Nat := Config.freeNat s.free % 65536

/-- What a new command meets before its work: none where it starts. -/
def firstCheck (s : State) (o : Origin) (b : List Byte) (cmd : Cmd) (relayed : Bool) : Option CmdResult :=
  let n := fieldLe b 6 2
  let chanBad := match o with
    | .host c => cmd.chanField != c.val
    | .remote _ _ => false
  let mgmt := parN s 0x1CA 0
  if !opDefined cmd.opcode || (loaderUp s && !loaderOps.contains cmd.opcode) then some { status := stBadOpcode }
  else if 4080 < n ∨ n % 4 ≠ 0 ∨ !lenRight cmd.opcode cmd.payload then
    some { status := stBadLength, detail := (fixedLen cmd.opcode).getD 0xFFFF }
  else if !hdrClean b || chanBad then some (badParam 0xFFFF)
  else if (cmd.opcode = 0x0901 ∨ cmd.opcode = 0x0902) ∧ o ≠ .host 3 then some (notPermitted (freeDetail s))
  else if relayed && (mgmt == 0 || (mgmt == 1 && !readsOnly cmd.opcode)) then some (notPermitted (freeDetail s))
  else (holder s o (claimsOf s cmd.opcode cmd.payload)).map (fun c => { status := stBusy, detail := c })

/-- A new command is taken up; what the checks refuse has its result at once. -/
def newExec (s : State) (o : Origin) (b : List Byte) (seqReset relayed : Bool) : Exec × State :=
  let cmd := { cmdOf b with seqReset }
  let r := firstCheck s o b cmd relayed
  ({ cmd, result := r, claims := if r.isNone then claimsOf s cmd.opcode cmd.payload else []
     inProgress := r.isNone && slowOp cmd.opcode cmd.payload, remoteMs := parN s 0x1CC 0 },
   if r.any (fun x => x.status == stNotPermitted) then { s with free := s.free + 1 } else s)

/-- Flags of a final response (R412). -/
def finalFlags (cmd : Cmd) : Nat := 0xC0 + b2n cmd.seqReset * 16

/-- Writes a response buffer (R417): the payload, then the header; bytes behind it stay. -/
def putResponse (c : Nat) (b : List Byte) (s : State) : State :=
  chanMod c (fun x => { x with rspBuf := Mem.writeAll x.rspBuf 0 b, respEvt := true }) s

/-- A response that ends a channel's turn: STATE, RESP_H_SEQ, RESP_EVT. -/
def endResponse (c : Nat) (hseq : Nat) (b : List Byte) (s : State) : State :=
  chanMod c (fun x => { x with st := .done, respHSeq := hseq }) (putResponse c b s)

/-! ### The final response (R417, R419, R350) -/

/-- COMMAND_DONE (R419, R421). -/
def commandDone (c : Nat) (cmd : Cmd) (status : Nat) (s : State) : State :=
  issueEvent 0x0001 c (le 2 cmd.hseq ++ le 2 status ++ le 1 c) s

/-- The RESPONSE message to another device (R348, R350): SEQ_RESET in MFLAGS. -/
def sendResponse (src xid : Nat) (b : List Byte) (s : State) : State :=
  sendDev src 2 1 xid (b2n ((fieldLe b 2 1).testBit 4) * 2) b s

/-- What a command leaves to be done once its response is written (R382, R438): a reset, and D3's descent. -/
def afterResponse (e : Exec) (s : State) : State :=
  let s := match e.resetAfter with
    | some k => { s with rst := { s.rst with ordered := s.rst.ordered ++ [k] } }
    | none => s
  match e.d3After with
  | some t => { s with pm := { s.pm with dom := vmodN s.pm.dom 3 (fun d => { d with
      target := match t with
        | 1 => .stopped
        | 2 => .retention
        | 3 => .off
        | _ => .on }) } }
  | none => s

/-- Writes the final response of a running command. -/
def finish (o : Origin) (e : Exec) (r : CmdResult) (s : State) : State :=
  match o with
  | .host c =>
    let s := if e.inProgress then commandDone c.val e.cmd r.status s else s
    let b := respBytes e.cmd r (finalFlags e.cmd) s.mb.dseq
    let s := endResponse c.val e.cmd.hseq b s
    afterResponse e (chanMod c.val (fun x => { x with exec := none, cached := b }) s)
  | .remote src xid =>
    let b := respBytes e.cmd r (finalFlags e.cmd) s.mb.dseq
    let s := fabMod (fun x => { x with remotes := x.remotes.map (fun (q : RemoteSeq) =>
      if q.source = src then { q with response := if q.lastSeq = e.cmd.hseq then b else q.response } else q) }) s
    afterResponse e (sendResponse src xid b (execEnd o s))

end Sys2Proof.Machine
end

