-- ==== Sys2Proof/Machine/Operands.lean ====
section
/-! DEFINITION. The operand forms of register accesses: the BAR0 map (R391) read into register names, the level and
the power domain that own a register (R376, R392), and the first and second registers of 64-bit pairs (R393). -/

namespace Sys2Proof.Machine

/-- A register by name. `hole`: inside a block, no register there; `outside`: outside every block; `absorbed`: the
window of a port that the group's mode does not use (R16, R259). -/
inductive RegId where
  | glId | glRevision | glStraps | glDomains | glResetCause | glResetCtrl | glErrLog0 | glErrLog1
  | glPendLo | glPendHi | glEvent | glVeman | glSerialLo | glSerialHi | glBoot
  | pmDom (d : Nat) | pmWake | pmAlarm
  | mbDoorbell (c : Nat) | mbStatus (c : Nat) | mbState (c : Nat) | mbDseq | mbOldest | mbEpoch
  | evqLo | evqHi | evqCtrl | evqHead | evqTail | mbBuf (off : Nat)
  | time (k : Nat) | srv (e k : Nat) | refr (n k : Nat) | condCal (n : Nat) | ks (k : Nat)
  | ev (k w : Nat) | tb (w : Nat) | tt (w : Nat) | trg (j : Nat)
  | osc | plan | pll (n : Nat)
  | ring (rx : Bool) (r w : Nat) | dmaCfg | pc (n w : Nat)
  | mac (p w : Nat) | pgMode (g : Nat) | pgSnap (g : Nat) | lane (l w : Nat) | grp (g w : Nat) | ld (g w : Nat)
  | cal (p w : Nat)
  | qm (g : Nat) | mcq (g c : Nat) | calq (g : Nat) | voq (g p c : Nat) | cong (p : Nat)
  | fwdStatus | parityLog | calCtrl | calOffset | calNum | fabStatus
  | mirror (off : Nat) | hole | outside
  deriving DecidableEq, Repr

/-- GL_ and PM_ blocks. -/
def regGl (off : Nat) : RegId :=
  match off with
  | 0x00 => .glId | 0x04 => .glRevision | 0x08 => .glStraps | 0x0C => .glDomains | 0x20 => .glResetCause
  | 0x24 => .glResetCtrl | 0x28 => .glErrLog0 | 0x2C => .glErrLog1 | 0x30 => .glPendLo | 0x34 => .glPendHi
  | 0x38 => .glEvent | 0x40 => .glVeman | 0x44 => .glSerialLo | 0x48 => .glSerialHi | 0x50 => .glBoot
  | _ => .hole

def regPm (o : Nat) : RegId :=
  if o < 56 then .pmDom (o / 4) else if o = 0x40 then .pmWake else if o = 0x44 then .pmAlarm else .hole

/-- MB_ block, offset within it (R409, R426). -/
def regMb (o : Nat) : RegId :=
  if 0x10000 ≤ o then .mbBuf (o - 0x10000)
  else if o < 0x100 then
    (match o % 0x40 with
    | 0 => .mbDoorbell (o / 0x40) | 4 => .mbStatus (o / 0x40) | 8 => .mbState (o / 0x40) | _ => .hole)
  else match o with
    | 0x100 => .mbDseq | 0x104 => .mbOldest | 0x108 => .mbEpoch | 0x110 => .evqLo | 0x114 => .evqHi
    | 0x118 => .evqCtrl | 0x11C => .evqHead | 0x120 => .evqTail | _ => .hole

/-- TE_ block (R148, R173, R228, R394). -/
def regTe (o : Nat) : RegId :=
  if o < 0x14 then .time (o / 4)
  else if 0x1000 ≤ o ∧ o < 0x1200 then (if o % 0x100 < 0x20 then .srv ((o - 0x1000) / 0x100) (o % 0x100 / 4) else .hole)
  else if 0x2000 ≤ o ∧ o < 0x2200 then
    (if (o - 0x2000) / 16 = 6 ∨ (o - 0x2000) / 16 = 7 then .hole else .refr ((o - 0x2000) / 16) (o % 16 / 4))
  else if 0x2400 ≤ o ∧ o < 0x2418 then .condCal ((o - 0x2400) / 4)
  else if 0x3000 ≤ o ∧ o < 0x301C then .ks ((o - 0x3000) / 4)
  else .hole

/-- EV_ and TT_ blocks (R197, R228). -/
def regEv (o : Nat) : RegId :=
  if o < 0x200 then (if o % 0x40 < 0x20 then .ev (o / 0x40) (o % 0x40 / 4) else .hole)
  else if 0x400 ≤ o ∧ o < 0x410 then .tb ((o - 0x400) / 4)
  else if o = 0x800 then .tt 0 else if o = 0x804 then .tt 1
  else if 0xC00 ≤ o ∧ o < 0xC80 then (if o % 16 = 0 then .trg ((o - 0xC00) / 16) else .hole)
  else .hole

/-- CK_ block (R214). -/
def regCk (o : Nat) : RegId :=
  if o = 0 then .osc else if o = 4 then .plan
  else if 0x100 ≤ o ∧ o < 0x178 then .pll ((o - 0x100) / 4) else .hole

/-- DMA_ block (R406, R407). -/
def regDma (o : Nat) : RegId :=
  if o < 0x200 then (if o % 0x40 < 0x18 then .ring true (o / 0x40) (o % 0x40 / 4) else .hole)
  else if 0x1000 ≤ o ∧ o < 0x1200 then (if o % 0x40 < 0x18 then .ring false ((o - 0x1000) / 0x40) (o % 0x40 / 4) else .hole)
  else if o = 0x2000 then .dmaCfg else .hole

/-- PC_ block (R494). -/
def regPc (o : Nat) : RegId := if o < 0x4000 ∧ o % 16 < 12 then .pc (o / 16) (o % 16 / 4) else .hole

/-- One port-group block (R64, R90, R111, R259, R328). -/
def regPg (s : State) (g o : Nat) : RegId :=
  if o < 0x2000 then
    let p := 8 * g + o / 0x400
    if portUsed s p then (if o % 0x400 < 0x1C ∨ (0x100 ≤ o % 0x400 ∧ o % 0x400 < 0x200) then .mac p (o % 0x400 / 4) else .hole)
    else .hole
  else if 0x8000 ≤ o ∧ o < 0x8800 then .lane (8 * g + (o - 0x8000) / 0x100) (o % 0x100 / 4)
  else if 0x9000 ≤ o ∧ o < 0x9018 then .grp g ((o - 0x9000) / 4)
  else if 0x9100 ≤ o ∧ o < 0x9118 then .ld g ((o - 0x9100) / 4)
  else if o = 0xA000 then .pgMode g else if o = 0xA004 then .pgSnap g
  else if 0xB000 ≤ o ∧ o < 0xB200 then
    (if portUsed s (8 * g + (o - 0xB000) / 0x40) ∧ o % 0x40 < 0x14 then .cal (8 * g + (o - 0xB000) / 0x40) (o % 0x40 / 4) else .hole)
  else .hole

/-- SC_ block (R285, R309, R327, R357). -/
def regSc (o : Nat) : RegId :=
  if o < 0x1800 then
    (if o % 0x100 = 0 then .qm (o / 0x100) else if 0x20 ≤ o % 0x100 ∧ o % 0x100 < 0x40 then .mcq (o / 0x100) ((o % 0x100 - 0x20) / 4)
    else if o % 0x100 = 0x40 then .calq (o / 0x100) else .hole)
  else if o = 0x8000 then .fwdStatus else if o = 0x8004 then .parityLog
  else if o = 0x9000 then .calCtrl else if o = 0x9004 then .calOffset else if o = 0x9008 then .calNum
  else if o = 0xA000 then .fabStatus
  else if 0x10000 ≤ o ∧ o < 0x40000 then
    (if (o - 0x10000) % 0x2000 < 0x1800 then
      .voq ((o - 0x10000) / 0x2000) ((o - 0x10000) % 0x2000 / 32) ((o - 0x10000) % 32 / 4) else .hole)
  else if 0x40000 ≤ o ∧ o < 0x40300 then .cong ((o - 0x40000) / 4)
  else .hole

/-- The register at an aligned BAR0 offset. A block ends where the next begins; after CK_ and PG_ and the mailbox
buffers lie gaps that belong to no block. -/
def regAt (s : State) (off : Nat) : RegId :=
  if off < 0x10000 then regGl off
  else if off < 0x20000 then regPm (off - 0x10000)
  else if off < 0x50000 then regMb (off - 0x20000)
  else if off < 0x80000 then .outside
  else if off < 0x90000 then regTe (off - 0x80000)
  else if off < 0xA0000 then regEv (off - 0x90000)
  else if off < 0xB0000 then regCk (off - 0xA0000)
  else if off < 0x100000 then .outside
  else if off < 0x200000 then regDma (off - 0x100000)
  else if off < 0x400000 then regPc (off - 0x200000)
  else if off < 0x580000 then regPg s ((off - 0x400000) / 0x10000) (off % 0x10000)
  else if off < 0x1000000 then .outside
  else if off < 0x2000000 then regSc (off - 0x1000000)
  else if off < 0x4000000 then .mirror (off - 0x2000000)
  else .outside

/-- Levels of the timeout hierarchy (R376). -/
inductive Level where
  | lane | group | device
  deriving DecidableEq, Repr

/-- The domain that owns a register, and its level (R23, R392). -/
def regOwner : RegId → Nat × Level
  | .mbDoorbell _ | .mbStatus _ | .mbState _ | .mbDseq | .mbOldest | .mbEpoch | .evqLo | .evqHi | .evqCtrl | .evqHead
  | .evqTail | .mbBuf _ | .ring _ _ _ | .dmaCfg | .glPendLo | .glPendHi | .glEvent | .glBoot => (3, .device)
  | .srv e _ => (e + 1, .device)
  | .ev _ _ | .tb _ | .tt _ | .trg _ => (13, .device)
  | .mac p _ | .cal p _ => (4 + p / 32, .group)
  | .pgMode g | .pgSnap g | .grp g _ | .ld g _ => (4 + g / 4, .group)
  | .lane l _ => (4 + l / 32, .lane)
  | .qm _ | .mcq _ _ | .calq _ | .voq _ _ _ | .cong _ | .fwdStatus | .parityLog | .calCtrl | .calOffset | .calNum
  | .fabStatus | .mirror _ => (10, .device)
  | _ => (0, .device)

/-- The second register of a pair that follows the snapshot rule. The MAC counters' pairs need none (R257). -/
def pairHi? : RegId → Option RegId
  | .glPendLo => some .glPendHi
  | .glSerialLo => some .glSerialHi
  | .evqLo => some .evqHi
  | .srv e 1 => some (.srv e 2) | .srv e 3 => some (.srv e 4) | .srv e 5 => some (.srv e 6)
  | .refr n 1 => some (.refr n 2)
  | .ks 3 => some (.ks 4)
  | .ev k 2 => some (.ev k 3)
  | .tb 1 => some (.tb 2)
  | .ring rx r 0 => some (.ring rx r 1)
  | .pc n 0 => some (.pc n 1)
  | .mac p 5 => some (.mac p 6)
  | .lane l 5 => some (.lane l 6) | .lane l 17 => some (.lane l 18) | .lane l 20 => some (.lane l 21)
  | .lane l 22 => some (.lane l 23)
  | .grp g 1 => some (.grp g 2) | .grp g 4 => some (.grp g 5)
  | .ld g 4 => some (.ld g 5)
  | .cal p 1 => some (.cal p 2)
  | _ => none

/-- The second register of such a pair, by its own name. -/
def isPairHi : RegId → Bool
  | .glPendHi | .glSerialHi | .evqHi => true
  | .srv _ k => k == 2 || k == 4 || k == 6
  | .refr _ k => k == 2
  | .ks k => k == 4
  | .ev _ k => k == 3
  | .tb k => k == 2
  | .ring _ _ k => k == 1
  | .pc _ k => k == 1
  | .mac _ k => k == 6
  | .lane _ k => k == 6 || k == 18 || k == 21 || k == 23
  | .grp _ k => k == 2 || k == 5
  | .ld _ k => k == 5
  | .cal _ k => k == 2
  | _ => false

/-- The holding register's place: initiator and the pair's _LO offset. -/
def holdKey (w : Initiator) (lo : Nat) : Nat := (whoIx w).val * 2 ^ 26 + lo

end Sys2Proof.Machine
end

