-- ==== Sys2Proof/Machine/RingOps.lean ====
section
/-! DEFINITION. What software does to the host rings: control, tails, and the transmit engine's turn (R398 to R408). -/

namespace Sys2Proof.Machine

/-- Host DMA runs: D3 On, its function neither in D3hot nor in reset (R376, R389). -/
def dmaRuns (s : State) : Bool := (vget s.pm.dom 3 {}).st == .on && !s.host.d3hot && s.host.linkUp

/-! ### Control (R407, R408) -/

/-- A receive ring is disabled: the frame in progress closes with cause 2, what waits behind it finds no ring. -/
def rxDisable (r : Nat) (s : State) : State :=
  let s := rxClose r 2 s
  let n := (vget s.host.store r []).length
  ringMod true r (fun g => { g with
      enable := false, head := 0, tail := 0, rxPosted := [], heldLen := none, noroom := satU 16 (g.noroom + n) })
    { s with host := { s.host with store := vmodN s.host.store r (fun _ => []) } }

/-- A transmit ring is disabled: what is fetched completes, the rest is not read. -/
def txDisable (r : Nat) (s : State) : State :=
  ringMod false r (fun g => { g with enable := false, head := 0, tail := 0, txPosted := [] })
    { s with host := { s.host with txPend := s.host.txPend.map (fun (t : TxPend) => if t.ring = r then { t with old := true } else t) } }

/-- A write to DMA_CTRL. -/
def ringCtrl (rx : Bool) (r v : Nat) (s : State) : State :=
  let was := (ringOf rx r s).enable
  let s := if was && !v.testBit 31 then (if rx then rxDisable r s else txDisable r s) else s
  let s := ringMod rx r (fun g => { g with
    enable := v.testBit 31, size := bits v 24 4, holdoff := bits v 8 8, count := bits v 0 8 }) s
  if rx && v.testBit 31 then rxGo r s else s

/-! ### Tails (R398, R402) -/

/-- Descriptors that a new TAIL posts. -/
def newlyPosted (g : Ring) (tail : Nat) : Nat := (tail + 2 ^ g.size - g.tail % 2 ^ g.size) % 2 ^ g.size

/-- A receive TAIL write with the descriptors that the host memory holds there; where none is given their contents are
free values. -/
def rxTail (r v : Nat) (descs : List (List Byte)) (s : State) : State :=
  let g := ringOf true r s
  let n := newlyPosted g (bits v 0 15)
  let fill := (List.range (n - descs.length)).map (fun i =>
    (Config.freeNat (s.free + 2 * i) % 2 ^ 64, Config.freeNat (s.free + 2 * i + 1) % 65536))
  rxGo r (ringMod true r (fun g => { g with tail := bits v 0 15, rxPosted := g.rxPosted ++ ((descs.take n).map rxDescOf ++ fill) })
    { s with free := s.free + 2 * fill.length })

/-- A transmit TAIL write. -/
def txTail (r v : Nat) (descs : List (List Byte)) (s : State) : State :=
  let g := ringOf false r s
  let n := newlyPosted g (bits v 0 15)
  let fill := (List.range (n - descs.length)).map (fun i =>
    let k := s.free + 5 * i
    ({ addr := Config.freeNat k % 2 ^ 64, len := Config.freeNat (k + 1) % 65536, port := Config.freeNat (k + 2) % 256
       ctrl := Config.freeNat (k + 3) % 256, cls := Config.freeNat (k + 4) % 256 } : TxDesc))
  ringMod false r (fun g => { g with tail := bits v 0 15, txPosted := g.txPosted ++ ((descs.take n).map txDescOf ++ fill) })
    { s with free := s.free + 5 * fill.length }

/-! ### Transmit (R399, R403 to R405) -/

/-- The ring has a whole chain posted: descriptors up to one with EOP. -/
def txReady (s : State) (r : Nat) : Bool :=
  (ringOf false r s).enable && (ringOf false r s).txPosted.any (fun d => d.ctrl.testBit 6)

/-- The ring whose turn it is. -/
def txTurnOf (s : State) : Option Nat := ((List.range 8).map (fun i => (s.host.txTurn + i) % 8)).find? (txReady s)

/-- The chain at the front of a ring and what follows it. -/
def chainOf (l : List TxDesc) : List TxDesc × List TxDesc :=
  let n := (l.takeWhile (fun d => !d.ctrl.testBit 6)).length + 1
  (l.take n, l.drop n)

/-- The chain is bad (R405): no SOP, more than 16 descriptors, a port that is absorbed, or a class that no host may
send (R404). -/
def chainBad (s : State) (c : List TxDesc) : Bool :=
  match c with
  | d :: _ => !d.ctrl.testBit 7 || decide (16 < c.length) || !portUsed s d.port || decide (128 ≤ d.cls)
  | [] => true

/-- A host frame's header as it leaves: SRC, SRC_PORT and CHECK are this device's (R404). -/
def ownHdr (s : State) (b : List Byte) : List Byte :=
  let b := patch b 20 (be 3 (ownAddr s + fieldBe b 20 3 / 2 ^ 18 * 2 ^ 18) ++ be 1 255)
  patch b 12 (sealHdr (slice b 12 16))

/-- The result that a frame meets before admission (R339, R404, R405, R408), none where it goes on. -/
def txRefused (s : State) (c : List TxDesc) (b : List Byte) : Option Nat :=
  if chainBad s c then some 4
  else
    let p := ((c.head?).map (fun d => d.port)).getD 0
    if !domOn s 10 || !domOn s (bufDomOf (p / 8)) || s.rst.data.isSome || s.rst.chip.isSome then some 1
    else if kindFab s p then
      (if !hasHdr s b || fieldBe b 14 1 % 16 != 0 then some 3 else if !s.fab.addrValid then some 1 else none)
    else none

/-- One whole frame of one ring is fetched and queued for its port (R399, R404). -/
def txFetch (r : Nat) (bytes : List Byte) (s : State) : State :=
  let g := ringOf false r s
  let c := chainOf g.txPosted
  let b := slice bytes 0 ((c.1.map (fun d => d.len)).sum)
  let d0 : TxDesc := c.1.headD { addr := 0, len := 0, port := 0, ctrl := 0, cls := 0 }
  let first := (g.tail + 2 ^ g.size - g.txPosted.length % 2 ^ g.size) % 2 ^ g.size
  let fid := 2 ^ 32 + s.nextFid
  let s := ringMod false r (fun g => { g with txPosted := c.2 }) { s with
    nextFid := s.nextFid + 1
    host := { s.host with
      txTurn := (r + 1) % 8
      txPend := s.host.txPend ++ [{
        fid, ring := r, descAt := (List.range c.1.length).map (fun i => descAddr g (first + i))
        tsReq := d0.ctrl.testBit 5 }] } }
  match txRefused s c.1 b with
  | some k =>
    let s := if k = 1 ∧ domOn s 10 ∧ !s.fab.addrValid ∧ kindFab s d0.port then bump (groupEvent (d0.port / 8) 7) 1 s else s
    hostTxDone fid k none s
  | none =>
    admitFrame (d0.port / 8) {
      fid, port := d0.port, hostTx := some r, bytes := if kindFab s d0.port then ownHdr s b else b, len := b.length + 4
      cls := d0.cls / 16, colour := 0, ctx := 0
      outs := [{ port := d0.port, hdr := none, strip := 0, dei := false, push := none }]
      group := none, cut := false, trunc := false, bad := false, complete := true, rxTime := none
      oneStep := d0.ctrl.testBit 4, crossed := [] } s

end Sys2Proof.Machine
end

