-- ==== Sys2Proof/Machine/RegWords.lean ====
section
/-! DEFINITION. The words that BAR0 registers read (R64, R90, R111, R148, R173, R197, R214, R228, R259, R284, R285, R309,
R327, R328, R357, R372, R386, R393, R397, R407, R426, R485, R494). -/

namespace Sys2Proof.Machine

def w32 (n : Nat) : Word := BitVec.ofNat 32 n

/-- A word of a stored report; its reset value before the first. -/
def repWord (t : Tbl Word) (off : Nat) (d : Word) : Word := (Tbl.get t off).getD d

/-- GL_DOMAINS: the domains that are On. -/
def onMask (s : State) : Nat := ((List.range 14).map (fun d => b2n (domOn s d) * 2 ^ d)).sum

/-! ### Global block -/

def strapWord (x : Straps) : Word :=
  packW [(x.zone % 64, 14), (x.cluster % 64, 8), (x.boot % 4, 6), (x.oscf % 4, 4), (x.tepref % 2, 3)]

def resetCause (s : State) : Word :=
  let r := s.rst
  packW [(b2n r.halted, 31), (r.lastScope, 28), (r.lastSource, 24), (r.chipCount, 16), (r.dataCount, 8), (r.mgmtCount, 0)]

def vemanWord (s : State) : Word :=
  packW [(b2n s.fab.addrValid, 31), (b2n s.fab.conflict, 30), (b2n (isAssigner s), 29), (b2n (unitCfg s).isSome, 28), (b2n s.fab.cfgZc, 27),
    (b2n s.fab.clusterFull, 26), (ownAddr s, 0)]

def bootWord (s : State) : Word :=
  let b := s.boot
  packW [(b.stage, 29), (b.slot, 28), (b2n b.trial, 27), (b2n b.fallback, 26), (b.rbShown % 256, 16), (b.slots[0].st, 12),
    (b.slots[1].st, 8), (b.starts % 256, 0)]

/-! ### Power -/

/-- Descents that POWER_SET has accepted and that have not begun (R438, R530). -/
def acceptedDescents (s : State) : List (Nat × Nat) :=
  let os : List Origin := (List.range 4).map (fun c => Origin.host (Fin.ofNat 4 c)) ++ s.mb.remote.map (fun r => Origin.remote r.source r.xid)
  s.te.ks.pendingPower.toList.map (fun q => (q.1.val + 1, q.2)) ++ os.flatMap (fun o => match execOf s o with
    | some e => e.d3After.toList.map (fun t => (3, t)) ++ (match e.wait with
      | some (.power todo t) => if t = 0 then [] else todo.map (fun d => (d, t))
      | _ => [])
    | none => [])

/-- PM_DOM_STATUS: TRANSIT from the acceptance of a descent, whose target TARGET then shows. -/
def domWord (s : State) (d : Nat) : Word :=
  let x := vget s.pm.dom d {}
  let next := match (acceptedDescents s).find? (fun q => q.1 == d) with
    | some q => domOfCode q.2
    | none => x.st
  let target := if x.st != x.target then (if x.heldRaise then x.st else x.target) else next
  packW [(domCode x.st, 30), (domCode target, 28), (b2n (x.st != target), 27), (b2n x.wakeEvt, 26), (b2n x.refused, 25), (x.lastSrc, 16),
    (x.wakes, 0)]
def wakeWord (s : State) : Word :=
  packW [(b2n s.pm.causeValid, 31), (s.pm.causeSrc, 24), (s.pm.causeDetail % 256, 16), (s.pm.causeDoms.toNat, 0)]
def alarmWord (s : State) : Word :=
  packW ((List.range 4).flatMap (fun n => [(b2n (vget s.pm.alarm n {}).armed, 28 + n), (b2n (vget s.pm.alarm n {}).fired, 24 + n)]))

/-! ### Mailbox -/

def chanCode : ChanSt → Nat
  | .idle => 0 | .pending => 1 | .executing => 2 | .done => 3
def mbStatusWord (s : State) (c : Nat) : Word :=
  let x := chanOf s c
  packW [(chanCode x.st, 29), (b2n s.mb.fwReady, 28), (b2n x.respEvt, 27), (b2n x.unacked, 26), (b2n x.dbIgnored, 25), (b2n x.wrDiscard, 24),
    (x.respHSeq, 0)]
def mbStateWord (s : State) (c : Nat) : Word := packW [(b2n (chanOf s c).sync, 31), ((chanOf s c).lastHSeq, 0)]
def evqCtrlWord (s : State) : Word :=
  packW [(b2n s.mb.evqEnable, 31), (b2n s.mb.overflow, 30), (b2n s.mb.evqEvt, 29), (s.mb.evqSize, 24)]
/-- A buffer's word: the four command buffers, then the four response buffers. -/
def bufWord (s : State) (off : Nat) : Word :=
  let word := fun (m : Mem) => w32 (leNat (Mem.readN m (off % 4096) 4))
  if off < 0x4000 then word (chanOf s (off / 4096)).cmdBuf
  else if 0x10000 ≤ off ∧ off < 0x14000 then word (chanOf s ((off - 0x10000) / 4096)).rspBuf else 0

/-! ### Time, engines, inputs and outputs -/

/-- The five time-read words (R394). -/
def timeWords (s : State) : Vector Word 5 :=
  let t := s.clk.now
  let leap := s.clk.utc.getLsbD 30 || s.clk.utc.getLsbD 29
  Vector.ofFn (fun i => [packW [(todCode s.clk.tod, 29), (b2n (s.te.ks.control == some 1), 28), (b2n s.te.ks.control.isSome, 27),
      (b2n leap, 26), (secOf t / 2 ^ 32 % 65536, 0)], w32 (secOf t), w32 (nsOf t), w32 (fracOf t), s.clk.utc].getD i.val 0)

/-- A converter's status register. -/
def calWord (v : Conv) : Word :=
  let st := if v.running then 1 else if v.stale then 4 else if v.blend < 64 ∧ v.accepted then 2 else if v.accepted then 3 else 0
  packW [(b2n v.valid, 31), (st, 28), (b2n v.rejected, 27), (v.reason, 24), (satU 4 v.fails, 20), (satU 8 v.inlMax, 12), (v.seq, 0)]

def evWord (s : State) (k : Nat) : Word :=
  packW [(b2n (ioOn s k), 31), (parN s 0x62 k, 29), (b2n (startOf s k).isSome, 28), ((startOf s k).getD 0, 25), (b2n (evOf s k).overflow, 24),
    (b2n (parN s 0x64 k == 1 && !s.tio.tdc.fallen), 23), ((evOf s k).fifo.length, 0)]
def trgWord (s : State) (j : Nat) : Word :=
  let x := trigOf s j
  let active := x.queue.any (fun e => decide (0 < e.emitted) && !trigDone e)
  packW [(b2n (ioOn s (8 + j)), 31), (b2n active, 30), (x.queue.length % 32, 25), (b2n x.missedFlag, 24), (x.pulses % 65536, 0)]
def ttWord (s : State) : Word :=
  let x := s.tio.tap
  packW [(b2n x.clkPresent, 31), (b2n x.clkLost, 30), (b2n x.overrun, 28), (x.seq % 65536, 0)]

/-! ### Clocks -/

def oscWord (s : State) : Word :=
  packW [(b2n s.ck.present, 31), (b2n s.ck.oscLost, 30), (b2n s.ck.kettleInt, 29), (b2n s.ck.configured, 28), (s.boot.straps.oscf % 4, 26)]
def planWord (s : State) : Word :=
  packW [(b2n s.ck.planValid, 31), (b2n s.ck.truncated, 30), (planPending s, 20), (satU 8 s.ck.conflicts, 12), (s.ck.planSeq % 4096, 0)]
def pllWord (x : Synth) : Word :=
  packW [(b2n x.lock, 31), (b2n x.lockLost, 30), (b2n (decide (0 < x.depth)), 29), (b2n x.centre, 28), (b2n x.refused, 27), (b2n x.dither, 26),
    (x.vcoOpt % 2, 25), (x.depth % 16, 21), ((x.bands.length - 1) % 8, 18), (x.bandSrc, 16), (satU 8 x.searches, 8), (x.band % 256, 0)]

/-! ### Host rings -/

def ringHead (s : State) (rx : Bool) (r : Nat) : Word :=
  let g := ringOf rx r s
  let l := vget s.host.store r []
  let busy := if rx then !l.isEmpty else s.host.txPend.any (fun t => t.ring == r)
  let active := if rx then (l.head?).any (fun f => decide (0 < f.done)) else busy
  let waits := rx && g.enable && !l.isEmpty && g.rxPosted.isEmpty
  packW [(b2n active, 31), (b2n waits, 30), (b2n g.doneEvt, 29), (b2n g.errEvt, 28), (b2n (!g.enable && !busy), 27), (g.head % 32768, 0)]
def ringWord (s : State) (rx : Bool) (r w : Nat) : Word :=
  let g := ringOf rx r s
  match w with
  | 0 => w32 g.baseLo
  | 1 => w32 g.baseHi
  | 2 => packW [(b2n g.enable, 31), (g.size, 24), (g.holdoff, 8), (g.count, 0)]
  | 3 => w32 g.tail
  | 4 => ringHead s rx r
  | _ => packW [(g.trunc, 16), (if rx then g.noroom else 0, 0)]

def pcWord (s : State) (n w : Nat) : Word :=
  let c := vget s.pc.pc n { event := n }
  match w with
  | 0 => w32 c.count
  | 1 => w32 (c.count / 2 ^ 32 % 65536)
  | _ => packW [(b2n (decide (c.event = 0xFFFE)), 31), (b2n c.ovf, 30), (c.event, 0)]

/-! ### Ports, groups and lanes -/

def speedCode : Nat → Nat
  | 10 => 1 | 25 => 2 | 100 => 3 | 200 => 4 | _ => 0
def fecCode (s : State) (p : Nat) : Nat :=
  match modeOf s (p / 8) with
  | 3 => b2n (fecOn s p) | 4 => 2 | 5 => 3 | _ => 0
/-- LINK_HOLD left in 10 µs, rounded down. -/
def holdLeft (s : State) (p : Nat) : Nat :=
  let q := portOf s p
  if q.st == .hold then (parN s 0x114 p * uMs - (s.clk.elapsed - q.holdStart)) / (10 * uUs) else 0
def maskOf (f : Nat → Bool) : Nat := ((List.range 8).map (fun n => b2n (f n) * 2 ^ n)).sum

def macStatus (s : State) (p : Nat) : Word :=
  let q := portOf s p
  packW [(portCode q.st, 28), (speedCode (speedOf s p), 25), (b2n (kindFab s p), 24), (fecCode s p, 22), (b2n q.localFault, 21),
    (b2n q.remoteFault, 20), (b2n q.anDone, 19), (q.downCause, 16), (b2n q.flushed, 15), (holdLeft s p % 32768, 0)]
def pauseWord (s : State) (p : Nat) : Word :=
  let x := (portOf s p).pause
  packW [(maskOf (fun n => vget x.held n false), 24), (maskOf (fun n => vget x.wdIgnore n false), 16), (maskOf (fun n => vget x.xoff n false), 8),
    (parN s 0x10E p, 6), (b2n x.wdEvent, 5)]
def preWord (s : State) (p : Nat) : Word :=
  let x := (portOf s p).pre
  let used := portUsed s p
  packW [(b2n (used && parB s 0x109 p), 31), (x.verify, 28), (b2n x.active, 27), (x.peerFrag % 4, 25), (256 + parN s 0x10C p % 256, 16),
    (if used then holdback s p % 65536 else 0, 0)]
def adjCode : AdjSt → Nat
  | .down => 0 | .init => 1 | .twoWay => 2 | .self => 3 | .rejected => 4
def adjWord (s : State) (p : Nat) : Word :=
  let a := adjOf s p
  let fl := (a.hello.map (fun h => h.flags)).getD 0
  packW [(adjCode a.st, 29), (b2n (upstream s p), 28), (b2n (a.inelig == 0), 27), (b2n (fl.testBit 4), 26), (b2n a.deadEvt, 25),
    (b2n (fl.testBit 7), 24), (a.inelig % 16, 20), ((a.hello.map (fun h => h.addr % 2 ^ 18)).getD 0, 0)]
def peerSerialNo (s : State) (p : Nat) : Nat := ((adjOf s p).hello.map (fun h => h.serial)).getD 0

/-- A port window's words: status, flow control, preemption, adjacency, snapshot counters. -/
def macWord (s : State) (p w : Nat) : Word :=
  match w with
  | 0 => macStatus s p
  | 1 => packW [(1, 31), ((portOf s p).snapSeq, 0)]
  | 2 => pauseWord s p
  | 3 => preWord s p
  | 4 => adjWord s p
  | 5 => w32 (peerSerialNo s p)
  | 6 => w32 (peerSerialNo s p / 2 ^ 32)
  | _ =>
    let v := vget (portOf s p).snap ((w - 64) / 2) 0
    if w < 64 then 0 else if w % 2 = 0 then w32 v else w32 (v / 2 ^ 32)

def modeWord (s : State) (g : Nat) : Word :=
  let live := fun (n : Nat) => portUsed s (8 * g + n)
  packW [(modeOf s g, 29), (b2n (groupOf s g).changing, 28), (maskOf (fun n => live n && (portOf s (8 * g + n)).st == .up), 16),
    (maskOf (fun n => live n && kindFab s (8 * g + n)), 8), (maskOf (fun n => live n && (portOf s (8 * g + n)).st == .hold), 0)]

def laneCode : LaneSt → Nat
  | .off => 0 | .sleep => 1 | .acquire => 2 | .train => 3 | .ready => 4 | .test => 5
def laneStatus (s : State) (l : Nat) : Word :=
  let x := laneOf s l
  let live := x.st == .ready && !x.rxSleep
  packW [(laneCode x.st, 28), (rateOfMode (modeOf s (l / 8)), 26), (b2n (sentinelOf s (l / 8) == some l), 25), (b2n x.txSleep, 24),
    (b2n x.rxSleep, 23), (b2n x.sigDet, 22), (b2n x.cdrLock, 21), (b2n (portOf s (portOfLane s l)).shared, 20), (b2n x.trainFallback, 19),
    (b2n x.adaptEvent, 18), (b2n x.ppmAlarm, 17), (if live then ofSigned 16 x.rxOffset else 0x8000, 0)]
def patWord (x : LanePat) : Word :=
  packW [(b2n x.genOn, 31), (b2n x.chkOn, 30), (b2n x.chkSync, 29), (b2n x.errSat, 28), (b2n x.bitsSat, 27), (b2n x.chkInv, 26), (x.chkPat, 20),
    (x.syncLoss, 0)]
def eyeWord (x : LaneEye) : Word := packW [(b2n x.valid, 31), (x.seq, 16), (x.width, 8), (x.height, 0)]

/-- A lane window's words: live ones, and those of the last cycle and window. -/
def laneWord (s : State) (l w : Nat) : Word :=
  let x := laneOf s l
  match w with
  | 0 => laneStatus s l
  | 4 => patWord x.pat
  | 5 => w32 x.pat.bits
  | 6 => w32 (x.pat.bits / 2 ^ 32)
  | 7 => w32 x.pat.errs
  | 8 => eyeWord x.eye
  | 28 => calWord (convOf s l)
  | _ => repWord (groupOf s (l / 8)).rep (0x400000 + l / 8 * 0x10000 + 0x8000 + l % 8 * 0x100 + 4 * w) (if w = 16 then 0x02000000 else 0)

/-- A group servo word (R90) and a link-delay word (R111), as last reported. -/
def grpWord (s : State) (g w : Nat) : Word := repWord (groupOf s g).rep (0x400000 + g * 0x10000 + 0x9000 + 4 * w) 0
def ldWord (s : State) (g w : Nat) : Word := repWord (groupOf s g).rep (0x400000 + g * 0x10000 + 0x9100 + 4 * w) 0

def pcalWord (s : State) (p w : Nat) : Word :=
  let c := pcalOf s p
  let n := (activeBank c).length
  match w with
  | 0 => packW [(b2n (decide (0 < n)), 31), (c.active.val, 30), (b2n c.pending.isSome, 29), (b2n c.missEvt, 28), (b2n c.shiftEvt, 27), (n % 2048, 16),
      (vget s.wx.guard p 0 / 8 % 16, 12), (min c.guard 2047, 0)]
  | 1 => w32 c.sent
  | 2 => w32 (c.sent / 2 ^ 32)
  | 3 => w32 c.miss
  | _ => w32 c.shift

/-! ### Switch core -/

def qmWord (s : State) (g : Nat) : Word :=
  packW [(b2n (inGrp s g).cellCrcEvt, 31), (b2n (inGrp s g).bufFullEvt, 30), (cellsFree s g, 15), (calUsed s g % 2048, 0)]
def queueWord (held : Bool) (q : Queue) : Word := packW [(b2n held, 31), (q.avg / 256 % 32768, 15), (depthOf q.frames % 32768, 0)]
/-- The output group that the head cell of the calendar queue requests next: the first still to take it. -/
def calqHead (s : State) (g : Nat) : Nat :=
  match (inGrp s g).calq with
  | d :: _ => ((outGroups d).find? (fun o => crossedTo d o == headCell d)).getD 31
  | [] => 31
def calqWord (s : State) (g : Nat) : Word :=
  packW [(calqHead s g, 27), (satU 12 (inGrp s g).calq.length, 15), (calUsed s g % 32768, 0)]
def congWord (x : Cong) : Word := packW [(b2n x.marked, 31), (b2n x.evt, 30), (x.onsets % 65536, 0)]
def fwdWord (s : State) : Word :=
  packW [(b2n s.fwd.parityEvt, 31), (b2n s.fwd.learnFullEvt, 30), (b2n (obilwinUp s), 29), (satU 11 s.fwd.bad.length, 18), (s.fwd.hw.l2.length, 0)]
def parityWord (s : State) : Word := packW [(s.fwd.logTable, 29), (s.fwd.logSeq % 4096, 17), (s.fwd.logIndex % 2 ^ 17, 0)]
def courseWord (s : State) : Word :=
  let c := s.cald
  packW [(b2n c.running, 31), (b2n c.realignEvt, 30), (b2n (decide (c.courseLen % 128 ≠ 0)), 29), (c.courseLen, 0)]
def fabWord (s : State) : Word :=
  packW [(b2n s.fabS.reconv, 31), (b2n s.fabS.topoEvt, 30), (b2n s.fabS.scaleLimit, 29), (s.fab.records.length % 4096, 16), (s.fabS.spfRuns, 0)]

/-! ### Table mirror (R284, R328) -/

/-- The first-word offset of the entry at a mirror offset and its words; none where no table lies. Words whose layout
the manual does not give are values of Config. -/
def l2Words (s : State) (i : Nat) : List Word :=
  match Tbl.get s.fwd.hw.l2 i with
  | some e => [packW [(1, 31), (b2n e.static, 30), (b2n e.hit, 29), (b2n (isBad s 0 i), 28), (e.kind, 26), (e.vid, 14)], w32 e.mac,
      w32 (e.mac / 2 ^ 32), w32 e.result]
  | none => [packW [(b2n (isBad s 0 i), 28)], 0, 0, 0]
def routeWords (s : State) (i : Nat) : List Word :=
  match Tbl.get s.fwd.hw.route i with
  | some e =>
    let byte := fun (n : Nat) => e.members.getD n 0 % 256
    [packW [(1, 31), (b2n e.backup.isSome, 30), (b2n (isBad s 4 i), 29), (e.members.length - 1, 24),
        (maskOf (fun n => decide (n < e.members.length) && memberUp s (e.members.getD n 0)), 8), (e.backup.getD 0 % 256, 0)],
      packW [(byte 0, 0), (byte 1, 8), (byte 2, 16), (byte 3, 24)], packW [(byte 4, 0), (byte 5, 8), (byte 6, 16), (byte 7, 24)], 0, 0, 0, 0, 0]
  | none => [packW [(b2n (isBad s 4 i), 29)], 0, 0, 0, 0, 0, 0, 0]
def mcastWords (s : State) (i : Nat) : List Word :=
  let e := (Tbl.get s.fwd.hw.mcast i).getD {}
  (List.range 6).map (fun k => w32 (e.mask.toNat / 2 ^ (32 * k))) ++ [packW [(b2n e.valid, 31)], w32 e.drops]
def slotWords (e : Option SlotEntry) : List Word :=
  match e with
  | some x => [packW [(1, 31), (x.start, 0)], packW [(x.length, 12), (x.gate, 0)], packW [(x.early, 16), (x.late, 0)], packW [(x.ctx, 16)]]
  | none => [0, 0, 0, 0]
/-- Fields of the entries whose layout is open. -/
def ctxFields (s : State) (i : Nat) : List Nat :=
  let c := (Tbl.get s.fwd.hw.ctx i).getD {}
  let l := (Tbl.get s.fwd.live i).getD {}
  [b2n c.valid, b2n c.cal, c.calRes, b2n c.tcOvrEn, c.tcOvr, b2n c.destMc, c.dest, b2n c.police, b2n c.aware, b2n c.pass, c.cir, c.pir, c.cbs,
    c.pbs, l.green, l.yellow, l.red, l.octets]
def openWords (t n : Nat) (f : List Nat) : List Word := (List.range n).map (Config.mirrorWord t f)

def mirrorEntry (s : State) (o : Nat) : Option (Nat × List Word) :=
  let at' := fun (base size : Nat) => base + (o - base) / size * size
  if o < 0x200000 then some (at' 0 16, l2Words s (o / 16))
  else if o < 0x240000 then some (at' 0x200000 64, openWords 2 16 (ctxFields s ((o - 0x200000) / 64)))
  else if 0x300000 ≤ o ∧ o < 0x380000 then some (at' 0x300000 32, mcastWords s ((o - 0x300000) / 32))
  else if 0x400000 ≤ o ∧ o < 0x401800 then some (at' 0x400000 32, routeWords s ((o - 0x400000) / 32))
  else if 0x410000 ≤ o ∧ o < 0x418000 then
    some (at' 0x410000 8, openWords 3 2 (match Tbl.get s.fwd.hw.vid ((o - 0x410000) / 8) with
      | some v => [1, b2n v.learn, v.flood]
      | none => [0]))
  else if 0x420000 ≤ o ∧ o < 0x440000 then
    some (at' 0x420000 16, openWords 1 4 (match Tbl.get s.fwd.hw.mat ((o - 0x420000) / 16) with
      | some m => [1, m.port, m.mac, m.vid, m.ctx]
      | none => [0]))
  else if 0x500000 ≤ o ∧ o < 0xB00000 then
    let k := o - 0x500000
    some (at' 0x500000 16, slotWords ((vget (pcalOf s (k / 0x8000)).banks (k % 0x8000 / 0x4000) [])[k % 0x4000 / 16]?))
  else none

/-! ### Any register -/

/-- What a register reads, before any effect of the read. -/
def regValue (s : State) (who : Initiator) : RegId → Word
  | .glId => 0x00241F29
  | .glRevision => 0x00000010
  | .glStraps => strapWord s.boot.straps
  | .glDomains => w32 (onMask s)
  | .glResetCause => resetCause s
  | .glErrLog0 => s.rst.log0
  | .glErrLog1 => s.rst.log1Snap[whoIx who]
  | .glPendLo => pendWord 0 s
  | .glPendHi => pendWord 32 s
  | .glEvent => packW [(b2n s.host.errEvt, 2), (b2n s.host.mgmtRestartEvt, 1), (b2n s.host.mgmtHaltEvt, 0)]
  | .glVeman => vemanWord s
  | .glSerialLo => w32 ownSerial
  | .glSerialHi => w32 (ownSerial / 2 ^ 32)
  | .glBoot => bootWord s
  | .pmDom d => domWord s d
  | .pmWake => wakeWord s
  | .pmAlarm => alarmWord s
  | .mbStatus c => mbStatusWord s c
  | .mbState c => mbStateWord s c
  | .mbDseq => w32 s.mb.dseq
  | .mbOldest => w32 ((s.mb.log.getLast?.map (fun e => e.dseq)).getD 0)
  | .mbEpoch => w32 s.mb.epoch
  | .evqLo => w32 s.mb.evqLo
  | .evqHi => w32 s.mb.evqHi
  | .evqCtrl => evqCtrlWord s
  | .evqHead => w32 s.mb.evqHead
  | .evqTail => w32 s.mb.evqTail
  | .mbBuf o => bufWord s o
  | .time k => if k = 0 then (timeWords s)[0] else vget s.host.teSnap[whoIx who] k 0
  | .srv e k => repWord s.te.rep (0x81000 + e * 0x100 + 4 * k) 0
  | .refr n k => repWord s.te.rep (0x82000 + 16 * n + 4 * k) (if k = 0 then 0x0081F000 else if k = 3 then 0xFFFFFFFF else 0)
  | .condCal n => calWord (convOf s (192 + n))
  | .ks 6 => calWord (convOf s 198)
  | .ks k => repWord s.te.rep (0x83000 + 4 * k) 0
  | .ev k 0 => evWord s k
  | .ev k 1 => popWord (evOf s k)
  | .ev k 2 => w32 (evOf s k).ts.toNat
  | .ev k 3 => w32 ((evOf s k).ts.toNat / 2 ^ 32)
  | .ev k 4 => packW [((evOf s k).dead, 16), ((evOf s k).full, 0)]
  | .ev k 5 => w32 (evOf s k).noBase
  | .ev k w => calWord (convOf s (199 + 2 * k + (w - 6)))
  | .tb 3 => calWord (convOf s 215)
  | .tb k => repWord s.te.rep (0x90400 + 4 * k) 0
  | .tt 0 => ttWord s
  | .tt _ => calWord (convOf s 216)
  | .trg j => trgWord s j
  | .osc => oscWord s
  | .plan => planWord s
  | .pll n => pllWord (synOf s n)
  | .ring rx r w => ringWord s rx r w
  | .dmaCfg => w32 s.host.starve
  | .pc n w => pcWord s n w
  | .mac p w => macWord s p w
  | .pgMode g => modeWord s g
  | .lane l w => laneWord s l w
  | .grp g w => grpWord s g w
  | .ld g w => ldWord s g w
  | .cal p w => pcalWord s p w
  | .qm g => qmWord s g
  | .mcq g c => queueWord false (vget (inGrp s g).mcq c {})
  | .calq g => calqWord s g
  | .voq g p c => queueWord ((portOf s p).st == .hold) (voqOf s g p c)
  | .cong p => congWord (vget s.q.cong p {})
  | .fwdStatus => fwdWord s
  | .parityLog => parityWord s
  | .calCtrl => courseWord s
  | .calOffset => w32 s.cald.offset
  | .calNum => w32 (courseNow s)
  | .fabStatus => fabWord s
  | .mirror o => match mirrorEntry s o with
    | some (b, ws) =>
      if o = b then ws.getD 0 0
      else if s.host.mirrorAt[whoIx who] = b ∧ !(s.host.mirror[whoIx who]).isEmpty then (s.host.mirror[whoIx who]).getD ((o - b) / 4) 0
      else w32 (Config.freeNat s.free)
    | none => 0
  | .glResetCtrl | .mbDoorbell _ | .pgSnap _ | .hole | .outside => 0

end Sys2Proof.Machine
end

