-- ==== Sys2Proof/Machine/RegOps.lean ====
section
/-! DEFINITION. Register accesses (R8, R10, R364, R376, R378, R392 to R394): the effects of reads and writes, the crossing
into the owning domain, and the accesses that wait there. -/

namespace Sys2Proof.Machine

/-! ### Reads with an effect (R10, R177, R197, R257, R284, R386, R393, R394, R407) -/

/-- The capture that a read of a pair's first register makes. -/
def holdHi (who : Initiator) (off : Nat) (r : RegId) (s : State) : State :=
  match pairHi? r with
  | some h => hostMod (fun x => { x with holding := Tbl.set x.holding (holdKey who off) (regValue s who h) }) s
  | none => s

/-- What a read changes. -/
def readEffect (who : Initiator) (off : Nat) (r : RegId) (s : State) : State :=
  match r with
  | .glErrLog0 => rstMod (fun x => { x with log1Snap := x.log1Snap.set (whoIx who) x.log1 }) s
  | .time 0 => hostMod (fun x => { x with teSnap := x.teSnap.set (whoIx who) (timeWords s) }) s
  | .ev k 1 => popEv k s
  | .ev k 4 => evMod k (fun e => { e with dead := 0, full := 0 }) s
  | .ev k 5 => evMod k (fun e => { e with noBase := 0 }) s
  | .mac p 1 => macSnap p s
  | .ring rx n 5 => ringMod rx n (fun g => { g with trunc := 0, noroom := 0 }) s
  | .mirror o => match mirrorEntry s o with
    | some (b, ws) =>
      if o = b then hostMod (fun x => { x with
          mirrorAt := x.mirrorAt.set (whoIx who) b, mirror := x.mirror.set (whoIx who) ws }) s
      else { s with free := s.free + 1 }
    | none => s
  | r => holdHi who off r s

/-- The data a read returns: MAC_SNAP reports the sequence after its own snapshot, a pair's second register its holding
register. -/
def readData (who : Initiator) (off : Nat) (r : RegId) (s : State) : Word :=
  match r with
  | .mac p 1 => packW [(1, 31), (((portOf s p).snapSeq + 1) % 65536, 0)]
  | r => if isPairHi r then (Tbl.get s.host.holding (holdKey who (off - 4))).getD 0 else regValue s who r

/-! ### Writes (R10) -/

/-- A key of GL_RESET_CTRL that is wrong is logged (R386). -/
def resetKeyOk (v : Word) : Bool := decide (v.toNat / 65536 = 0xA5C3)

/-- A scope that GL_RESET_CTRL asserts; MGMT also releases a held core (R383, R386). -/
def resetByCtrl (scope : Nat) (s : State) : State :=
  match scope with
  | 1 => chipReset 3 s
  | 2 => dataReset 3 s
  | 3 => mgmtRestart 3 (rstMod (fun r => { r with halted := false }) s)
  | _ => s

/-- A write of GL_RESET_CTRL that is taken for some of the scopes. -/
def writeResetCtrl (who : Initiator) (v : Word) (s : State) : State :=
  if resetKeyOk v then resetByCtrl (v.toNat % 8) s else errLog 6 0 true who 0x24 s

/-- A word to a mailbox buffer (R409, R410): discarded with WR_DISCARD in a locked command buffer; a response buffer takes it from the
management core and logs it from the host. -/
def writeBuffer (who : Initiator) (o : Nat) (v : Word) (s : State) : State :=
  let c := o % 0x10000 / 4096
  if o < 0x4000 then
    if chanLocked s c then chanMod c (fun x => { x with wrDiscard := true }) s
    else chanMod c (fun x => { x with cmdBuf := Mem.writeAll x.cmdBuf (o % 4096) (le 4 v.toNat) }) s
  else if 0x10000 ≤ o ∧ o < 0x14000 then
    if who == .mgmt then chanMod c (fun x => { x with rspBuf := Mem.writeAll x.rspBuf (o % 4096) (le 4 v.toNat) }) s
    else errLog 1 3 true who (0x30000 + o) s
  else s

/-- The doorbell (R410): the channel becomes PENDING, or DB_IGNORED sets. -/
def ringDoorbell (c : Nat) (v : Word) (s : State) : State :=
  if !v.getLsbD 0 then s
  else if chanLocked s c then chanMod c (fun x => { x with dbIgnored := true }) s
  else chanMod c (fun x => { x with st := .pending }) s

/-- MB_EVQ_CTRL: its flags clear, ENABLE and SIZE are set (R421, R426). -/
def writeEvqCtrl (v : Word) (s : State) : State :=
  mbMod (fun m => { m with
    evqEnable := v.getLsbD 31, evqSize := bits v.toNat 24 4
    overflow := m.overflow && !v.getLsbD 30, evqEvt := m.evqEvt && !v.getLsbD 29 }) s

/-- The register that a converter's status register belongs to. -/
def calOf : RegId → Option Nat
  | .condCal n => some (192 + n)
  | .ks 6 => some 198
  | .ev k 6 => some (199 + 2 * k)
  | .ev k 7 => some (200 + 2 * k)
  | .tb 3 => some 215
  | .tt 1 => some 216
  | .lane l 28 => some l
  | _ => none

/-- W1C bits of a reported word clear. -/
def repClear (o m : Nat) (t : Tbl Word) : Tbl Word := Tbl.upd t o (· &&& ~~~BitVec.ofNat 32 m)
def teClear (o m : Nat) (s : State) : State := { s with te := { s.te with rep := repClear o m s.te.rep } }

/-- What a write changes. Fields that are not writable, and reserved bits, ignore it. The flags of a word that is reported at the
end of a cycle or window clear where the word shows them (R90, R111, R148, R173, R197). -/
def writeEffect (who : Initiator) (off : Nat) (r : RegId) (v : Word) (s : State) : State :=
  let b := fun (n : Nat) => v.getLsbD n
  let shown := (regValue s who r).toNat
  let c := fun (n : Nat) => v.getLsbD n && shown.testBit n
  let mask := fun (l : List Nat) => (l.map (fun n => b2n (c n) * 2 ^ n)).sum
  match r with
  | .glResetCtrl => writeResetCtrl who v s
  | .glEvent => hostMod (fun x => { x with
      errEvt := x.errEvt && !b 2, mgmtRestartEvt := x.mgmtRestartEvt && !b 1, mgmtHaltEvt := x.mgmtHaltEvt && !b 0 }) s
  | .glVeman => fabMod (fun x => { x with conflict := x.conflict && !b 30, clusterFull := x.clusterFull && !b 26 }) s
  | .pmDom d => domMod d (fun x => { x with wakeEvt := x.wakeEvt && !b 26, refused := x.refused && !b 25 }) s
  | .pmAlarm => { s with pm := { s.pm with alarm := vmapI s.pm.alarm (fun i a => { a with fired := a.fired && !b (24 + i.val) }) } }
  | .mbDoorbell c => ringDoorbell c v s
  | .mbStatus c => chanMod c (fun x => { x with
      respEvt := x.respEvt && !b 27, unacked := x.unacked && !b 26, dbIgnored := x.dbIgnored && !b 25, wrDiscard := x.wrDiscard && !b 24 }) s
  | .evqLo => mbMod (fun m => { m with evqHoldLo := v.toNat / 64 * 64 }) s
  | .evqHi => mbMod (fun m => if m.evqEnable then m else { m with evqLo := m.evqHoldLo, evqHi := v.toNat }) s
  | .evqCtrl => writeEvqCtrl v s
  | .evqTail => mbMod (fun m => { m with evqTail := v.toNat % 4096 }) s
  | .mbBuf o => writeBuffer who o v s
  | .srv e 0 => teClear (0x81000 + e * 0x100) (mask [13]) (engMod e (fun x => { x with suspectAlarm := x.suspectAlarm && !c 13 }) s)
  | .ks 0 => teClear 0x83000 (mask [25, 26, 27]) (ksMod (fun k => { k with
      handoverEvt := k.handoverEvt && !c 27, disagreeAlarm := k.disagreeAlarm && !c 26, unattributed := k.unattributed && !c 25 }) s)
  | .ev k 0 => evMod k (fun e => { e with overflow := e.overflow && !b 24 }) s
  | .tb 0 => teClear 0x90400 (mask [29]) (tdcMod (fun d => { d with lost := d.lost && !c 29 }) s)
  | .tt 0 => tapMod (fun t => { t with clkLost := t.clkLost && !b 30 }) s
  | .trg j => trigMod j (fun t => { t with missedFlag := t.missedFlag && !b 24 }) s
  | .osc => { s with ck := { s.ck with oscLost := s.ck.oscLost && !b 30 } }
  | .pll n => synMod n (fun x => { x with lockLost := x.lockLost && !b 30 }) s
  | .ring rx n 0 => ringMod rx n (fun g => { g with holdLo := v.toNat / 64 * 64 }) s
  | .ring rx n 1 => ringMod rx n (fun g => if g.enable then g else { g with baseLo := g.holdLo, baseHi := v.toNat }) s
  | .ring rx n 2 => ringCtrl rx n v.toNat s
  | .ring rx n 3 => if rx then rxTail n v.toNat [] s else txTail n v.toNat [] s
  | .ring rx n 4 => ringMod rx n (fun g => { g with doneEvt := g.doneEvt && !b 29, errEvt := g.errEvt && !b 28 }) s
  | .dmaCfg => hostMod (fun x => { x with starve := v.toNat % 1024 }) s
  | .pc n 2 => { s with pc := { s.pc with pc := vmodN s.pc.pc n (fun c => { c with ovf := c.ovf && !b 30 }) } }
  | .mac p 0 => portMod p (fun q => { q with flushed := q.flushed && !b 15 }) s
  | .mac p 2 => pauseMod p (fun x => { x with wdEvent := x.wdEvent && !b 5 }) s
  | .mac p 4 => adjMod p (fun a => { a with deadEvt := a.deadEvt && !b 25 }) s
  | .pgSnap g => forEach ((List.range 8).filter (fun n => b n && portUsed s (8 * g + n))) (fun n s => macSnap (8 * g + n) s) s
  | .lane l 0 => laneMod l (fun x => { x with trainFallback := x.trainFallback && !b 19, adaptEvent := x.adaptEvent && !b 18 }) s
  | .grp g 0 => groupMod g (fun x => { x with
      rep := repClear (0x400000 + g * 0x10000 + 0x9000) (mask [26]) x.rep
      servo := { x.servo with stepFlag := x.servo.stepFlag && !c 26 } }) s
  | .ld g 0 =>
    let s := groupMod g (fun x => { x with rep := repClear (0x400000 + g * 0x10000 + 0x9100) (mask [21, 22]) x.rep }) s
    match reportPort s g with
    | some p => ldMod p (fun x => { x with rtMismatch := x.rtMismatch && !c 22, pathChange := x.pathChange && !c 21 }) s
    | none => s
  | .cal p 0 => pcalMod p (fun c => { c with missEvt := c.missEvt && !b 28, shiftEvt := c.shiftEvt && !b 27 }) s
  | .qm g => inMod g (fun x => { x with cellCrcEvt := x.cellCrcEvt && !b 31, bufFullEvt := x.bufFullEvt && !b 30 }) s
  | .cong p => { s with q := { s.q with cong := vmodN s.q.cong p (fun c => { c with evt := c.evt && !b 30 }) } }
  | .fwdStatus => fwdMod (fun f => { f with parityEvt := f.parityEvt && !b 31, learnFullEvt := f.learnFullEvt && !b 30 }) s
  | .calCtrl => calMod (fun c => { c with realignEvt := c.realignEvt && !b 30 }) s
  | .fabStatus => { s with fabS := { s.fabS with topoEvt := s.fabS.topoEvt && !b 30, scaleLimit := s.fabS.scaleLimit && !b 29 } }
  | .mirror _ => errLog 5 10 true who off s
  | r => match calOf r with
    | some c => convMod c (fun x => { x with rejected := x.rejected && !b 27 }) s
    | none => s

/-- The vector whose W1C bits a register holds (R396). -/
def vectorOf : RegId → Option Nat
  | .glEvent => some 0
  | .mbStatus c => some (1 + c)
  | .evqCtrl => some 5
  | .pmDom _ | .pmAlarm => some 6
  | .srv _ 0 | .ks 0 | .ks 6 | .condCal _ => some 7
  | .ev k 0 => some (8 + k)
  | .ev _ 6 | .ev _ 7 | .tb 0 | .tb 3 | .tt _ | .trg _ => some 16
  | .qm _ | .cong _ | .fwdStatus | .calCtrl | .fabStatus => some 17
  | .osc | .pll _ => some 18
  | .ring rx n 4 => some (if rx then 24 + n else 32 + n)
  | .mac p 0 | .mac p 2 | .mac p 4 | .cal p 0 => some (40 + p / 8)
  | .lane l 0 | .lane l 28 => some (40 + l / 8)
  | .grp g 0 | .ld g 0 => some (40 + g)
  | _ => none

/-- A write of a W1C register whose vector stays pending sends the message again (R397). -/
def resend (r : RegId) (s : State) : State :=
  match vectorOf r with
  | some v => if vget s.host.pend v false && vectorSet s v then sendVectors (· == v) s else s
  | none => s

/-! ### Completion -/

/-- An access reaches its register. -/
def regPerform (who : Initiator) (off : Nat) (r : RegId) (w : Option Word) (s : State) : State :=
  let s := if who == .mgmt then hostMod (fun x => { x with busError := false }) s else s
  match w with
  | none => putData who (readData who off r s) (readEffect who off r s)
  | some v => resend r (writeEffect who off r v s)

/-- An access that ends in error (R376): all-ones, or a bus error of the management core; it is logged. -/
def regError (kind dom : Nat) (who : Initiator) (off : Nat) (w : Option Word) (s : State) : State :=
  let s := errLog kind dom w.isSome who off s
  match who, w with
  | .host, none => putData .host 0xFFFFFFFF s
  | .host, some _ => s
  | .mgmt, _ => hostMod (fun x => { x with busError := true }) s

/-! ### The crossing (R376, R378, R392) -/

/-- The unit that owns a register is held in reset. -/
def ownerInReset (s : State) : RegId → Bool
  | .mac p _ | .cal p _ => s.rst.data.isSome || vget s.rst.groups (p / 8) false
  | .grp g _ | .ld g _ | .pgMode g | .pgSnap g => vget s.rst.groups g false
  | .lane l _ => vget s.rst.groups (l / 8) false || vget s.rst.lanes l false
  | .qm _ | .mcq _ _ | .calq _ | .voq _ _ _ | .cong _ => s.rst.data.isSome
  | _ => false

/-- The access goes on to its owner: it fails against a unit in reset, waits for a domain below On, or completes. One of a
wrong width or alignment ends before that (R8). -/
def regCross (who : Initiator) (off bytes : Nat) (w : Option Word) (s : State) : State :=
  let r := regAt s off
  let d := (regOwner r).1
  if bytes != 4 || off % 4 != 0 then regBad who off w s
  else if r == .outside then
    regLost who off w s
  else if r == .hole then (if w.isNone then putData who 0 s else s)
  else if ownerInReset s r then regError 4 d who off w s
  else if !domOn s d then rstMod (fun x => { x with waiting := x.waiting ++ [{ who, off, write := w, domain := d }] }) s
  else regPerform who off r w s
where
  /-- A wrong width or alignment (R8): reads all-ones, discarded, logged. The DOMAIN logged is 15: such an access has no
  target (DESIGN CHOICE, log entry 40). -/
  regBad (who : Initiator) (off : Nat) (w : Option Word) (s : State) : State :=
    let s := errLog 1 15 w.isSome who off s
    if w.isNone then putData who 0xFFFFFFFF s else s
  /-- Outside every block (R391): reads 0, discarded, logged. -/
  regLost (who : Initiator) (off : Nat) (w : Option Word) (s : State) : State :=
    let s := errLog 1 15 w.isSome who off s
    if w.isNone then putData who 0 s else s

/-- Any register access, of a width in bytes. One of the host comes through D3 (R364): it wakes D3 from Clock-stopped and waits for it; in
Retention or Off there is no link. While the chip is in reset nothing answers. -/
def anyAccess (who : Initiator) (off bytes : Nat) (w : Option Word) (s : State) : State :=
  let d3 := (vget s.pm.dom 3 {}).st
  if s.rst.por || s.rst.chip.isSome then s
  else if who == .host then
    match d3 with
    | .on => regCross who off bytes w s
    | .stopped =>
      rstMod (fun x => { x with waiting := x.waiting ++ [{ who, off, write := w, domain := 3, bytes }] }) (wakeFrom 3 0 (wakeMask s 3 0) s)
    | _ => s
  else regCross who off bytes w s

/-- A register access as software makes it: 32 bits wide. -/
def regAccess (who : Initiator) (off : Nat) (w : Option Word) (s : State) : State := anyAccess who off 4 w s

/-- The accesses that waited for a domain go on when it is On. -/
def completeWaiting (d : Nat) (s : State) : State :=
  let l := s.rst.waiting.filter (fun (x : Waiting) => x.domain == d)
  l.foldl (fun s x => regCross x.who x.off x.bytes x.write s)
    (rstMod (fun x => { x with waiting := x.waiting.filter (fun (y : Waiting) => y.domain != d) }) s)

end Sys2Proof.Machine
end

