-- ==== Sys2Proof/Machine/Registers.lean ====
section
/-! DEFINITION. Register accesses (R8, R10, R177, R197, R257, R284, R386, R393, R394). -/

namespace Sys2Proof.Machine

/-- BAR0_BAD_ACCESS: a wrong width or alignment, or an offset outside every block. -/
def execBar0BadAccess (who : Initiator) (off bytes : Nat) (write : Bool) (s : State) : Host.Outcome State Fault Refusal :=
  done (when (bytes != 4 || off % 4 != 0 || regAt s off == .outside)
    (anyAccess who off bytes (if write then some 0 else none) s) s)

/-- REG_WRITE. -/
def execRegWrite (who : Initiator) (off : Nat) (v : Word) (s : State) : Host.Outcome State Fault Refusal :=
  done (regAccess who off (some v) s)

/-- W1C_WRITE. -/
def execW1cWrite (who : Initiator) (off : Nat) (v : Word) (s : State) : Host.Outcome State Fault Refusal :=
  done (regAccess who off (some v) s)

/-- PAIR_LO_READ: the first register of a pair is read, its second captured. -/
def execPairLoRead (who : Initiator) (off : Nat) (s : State) : Host.Outcome State Fault Refusal := done (regAccess who off none s)

/-- PAIR_HI_WRITE: a held first word takes effect with the second. -/
def execPairHiWrite (who : Initiator) (off : Nat) (v : Word) (s : State) : Host.Outcome State Fault Refusal :=
  done (regAccess who off (some v) s)

/-- TE_TIME_0_READ: full time into the initiator's snapshot. -/
def execTeTime0Read (who : Initiator) (s : State) : Host.Outcome State Fault Refusal := done (regAccess who 0x80000 none s)

/-- GL_ERR_LOG0_READ: snapshots GL_ERR_LOG1. -/
def execGlErrLog0Read (who : Initiator) (s : State) : Host.Outcome State Fault Refusal := done (regAccess who 0x28 none s)

/-- MIRROR_ENTRY_READ: a read of an entry's first word captures the entry. -/
def execMirrorEntryRead (who : Initiator) (off : Nat) (s : State) : Host.Outcome State Fault Refusal := done (regAccess who off none s)

/-- MIRROR_WRITE: discarded and logged. -/
def execMirrorWrite (who : Initiator) (off : Nat) (v : Word) (s : State) : Host.Outcome State Fault Refusal :=
  done (regAccess who off (some v) s)

/-- EV_POP_READ: EV_FIFO_POP takes the oldest entry into the input's timestamp registers. -/
def execEvPopRead (who : Initiator) (k : Fin 8) (s : State) : Host.Outcome State Fault Refusal :=
  done (regAccess who (0x90004 + k.val * 0x40) none s)

/-- EV_LOST_READ: returns the lost counts and clears them. -/
def execEvLostRead (who : Initiator) (k : Fin 8) (s : State) : Host.Outcome State Fault Refusal :=
  done (regAccess who (0x90010 + k.val * 0x40) none s)

/-- EV_NOBASE_READ. -/
def execEvNobaseRead (who : Initiator) (k : Fin 8) (s : State) : Host.Outcome State Fault Refusal :=
  done (regAccess who (0x90014 + k.val * 0x40) none s)

/-- MAC_SNAP_READ: a port's live counters are copied and cleared. -/
def execMacSnapRead (who : Initiator) (p : PortIx) (s : State) : Host.Outcome State Fault Refusal :=
  done (regAccess who (0x400004 + p.val / 8 * 0x10000 + p.val % 8 * 0x400) none s)

/-- PG_STAT_SNAP_WRITE: the same for every port of a mask at once. -/
def execPgStatSnapWrite (g : GroupIx) (v : Word) (s : State) : Host.Outcome State Fault Refusal :=
  done (regAccess .host (0x40A004 + g.val * 0x10000) (some v) s)

/-- DMA_DROPS_READ. -/
def execDmaDropsRead (who : Initiator) (rx : Bool) (r : Fin 8) (s : State) : Host.Outcome State Fault Refusal :=
  done (regAccess who ((if rx then 0x100014 else 0x101014) + r.val * 0x40) none s)

/-- RESET_CTRL_CHIP: a write of GL_RESET_CTRL whose SCOPE is 1. -/
def execResetCtrlChip (who : Initiator) (v : Word) (s : State) : Host.Outcome State Fault Refusal :=
  done (when (v.toNat % 8 == 1) (regAccess who 0x24 (some v) s) s)

/-- RESET_CTRL_DATA: SCOPE 2. -/
def execResetCtrlData (who : Initiator) (v : Word) (s : State) : Host.Outcome State Fault Refusal :=
  done (when (v.toNat % 8 == 2) (regAccess who 0x24 (some v) s) s)

/-- RESET_CTRL_MGMT: SCOPE 3, which also releases a held core. -/
def execResetCtrlMgmt (who : Initiator) (v : Word) (s : State) : Host.Outcome State Fault Refusal :=
  done (when (v.toNat % 8 == 3) (regAccess who 0x24 (some v) s) s)

/-- DMA_RING_ENABLE: a write of DMA_CTRL with ENABLE set. -/
def execDmaRingEnable (rx : Bool) (r : Fin 8) (v : Word) (s : State) : Host.Outcome State Fault Refusal :=
  done (when (v.getLsbD 31) (regAccess .host ((if rx then 0x100008 else 0x101008) + r.val * 0x40) (some v) s) s)

/-- DMA_RING_DISABLE: one with ENABLE clear. -/
def execDmaRingDisable (rx : Bool) (r : Fin 8) (v : Word) (s : State) : Host.Outcome State Fault Refusal :=
  done (when (!v.getLsbD 31) (regAccess .host ((if rx then 0x100008 else 0x101008) + r.val * 0x40) (some v) s) s)

/-- MB_DOORBELL_RING. -/
def execMbDoorbellRing (c : Fin 4) (v : Word) (s : State) : Host.Outcome State Fault Refusal :=
  done (regAccess .host (0x20000 + c.val * 0x40) (some v) s)

/-- MB_BUFFER_WRITE: a word to a mailbox buffer, at its BAR0 offset. -/
def execMbBufferWrite (off : Nat) (v : Word) (s : State) : Host.Outcome State Fault Refusal :=
  done (when (decide (0x30000 ≤ off ∧ off < 0x50000)) (regAccess .host off (some v) s) s)

/-- MB_EVQ_TAIL_WRITE: the host releases event records. -/
def execMbEvqTailWrite (v : Word) (s : State) : Host.Outcome State Fault Refusal := done (regAccess .host 0x20120 (some v) s)

/-- MB_EVQ_ENABLE: MB_EVQ_CTRL is written. -/
def execMbEvqEnable (v : Word) (s : State) : Host.Outcome State Fault Refusal := done (regAccess .host 0x20118 (some v) s)

/-- RX_TAIL_WRITE: descriptors are posted, with what the host wrote into them. -/
def execRxTailWrite (r : Fin 8) (v : Word) (descs : List (List Byte)) (s : State) : Host.Outcome State Fault Refusal :=
  done (if (vget s.pm.dom 3 {}).st == .on && !inChip s then rxTail r.val v.toNat descs s
    else regAccess .host (0x10000C + r.val * 0x40) (some v) s)

/-- TX_TAIL_WRITE. -/
def execTxTailWrite (r : Fin 8) (v : Word) (descs : List (List Byte)) (s : State) : Host.Outcome State Fault Refusal :=
  done (if (vget s.pm.dom 3 {}).st == .on && !inChip s then txTail r.val v.toNat descs s
    else regAccess .host (0x10100C + r.val * 0x40) (some v) s)

end Sys2Proof.Machine
end

