-- ==== Sys2Proof/Machine/HostDma.lean ====
section
/-! DEFINITION. The PCIe function and host DMA (R364, R389, R390, R397, R399, R402, R404, R406). -/

namespace Sys2Proof.Machine

/-- Every receive ring goes on. -/
def rxGoAll (s : State) : State := (List.range 8).foldl (fun s r => rxGo r s) s

/-- Accesses of the host that wait at a crossing fail when its side enters reset (R378). -/
def hostAccessesFail (s : State) : State :=
  (s.rst.waiting.filter (fun (x : Waiting) => x.who == .host)).foldl (fun s x => regError 4 x.domain .host x.off x.write s)
    (rstMod (fun r => { r with waiting := r.waiting.filter (fun (y : Waiting) => y.who != .host) }) s)

/-- RX_STARVE_TIMEOUT: the frame in progress closes with cause 1; the next starts on a fresh descriptor. -/
def execRxStarveTimeout (r : Fin 8) (s : State) : Host.Outcome State Fault Refusal :=
  let g := ringOf true r.val s
  done (when (g.heldLen.isSome && g.rxPosted.isEmpty && rxMay r.val s) (rxGo r.val (rxClose r.val 1 s)) s)

/-- TX_FRAME_FETCH: the ring whose turn it is gives one whole frame; its bytes are those of its buffers. -/
def execTxFrameFetch (bytes : List Byte) (s : State) : Host.Outcome State Fault Refusal :=
  match txTurnOf s with
  | some r => done (when (dmaRuns s) (txFetch r bytes s) s)
  | none => done s

/-- DMA_HOLDOFF_EXPIRY: HOLDOFF µs after the first completion not yet reported. -/
def execDmaHoldoffExpiry (rx : Bool) (r : Fin 8) (s : State) : Host.Outcome State Fault Refusal :=
  done (ringMod rx r.val (fun g => if 0 < g.unreported then { g with doneEvt := true, unreported := 0 } else g) s)

/-- MSIX_VECTOR_UNMASK: a message held in the pending bit array is sent. -/
def execMsixVectorUnmask (v : Fin 64) (s : State) : Host.Outcome State Fault Refusal :=
  let t := hostMod (fun h => { h with masked := h.masked.set v false }) s
  done (if s.host.pba[v] then sendVectors (· == v.val) t else t)

/-- D3HOT_ENTRY: host DMA stops and messages stay pending. -/
def execD3hotEntry (s : State) : Host.Outcome State Fault Refusal := done (hostMod (fun h => { h with d3hot := true }) s)

/-- D3HOT_EXIT: what was held goes on. -/
def execD3hotExit (s : State) : Host.Outcome State Fault Refusal :=
  let t := hostMod (fun h => { h with d3hot := false }) s
  done (when s.host.d3hot (rxGoAll (sendVectors (fun v => vget t.host.pba v false) t)) s)

/-- PERST_N_ASSERT: the host-facing units are reset and the link goes down. -/
def execPerstNAssert (s : State) : Host.Outcome State Fault Refusal :=
  done (hostMod (fun h => { h with perst := true, linkUp := false }) (hostReset (hostAccessesFail s)))

/-- PERST_N_RELEASE: the link trains once the ROM has set the mode; a rising PERST_N wakes D3 from Retention or Off. -/
def execPerstNRelease (s : State) : Host.Outcome State Fault Refusal :=
  let d3 := (vget s.pm.dom 3 {}).st
  let t := hostMod (fun h => { h with perst := false, linkUp := h.modeSet && (d3 == .on || d3 == .stopped) }) s
  let t := { t with pm := { t.pm with wakeN := true } }
  done (when s.host.perst (if d3 == .retention || d3 == .off then wakeFrom 3 0 (wakeMask t 3 0) t else t) s)

/-- FUNCTION_LEVEL_RESET: the same units; the link stays. -/
def execFunctionLevelReset (s : State) : Host.Outcome State Fault Refusal := done (hostReset (hostAccessesFail s))

/-- PCIE_L1_EXIT: a TLP that leaves L1 wakes D3 from Clock-stopped. -/
def execPcieL1Exit (s : State) : Host.Outcome State Fault Refusal :=
  done (when ((vget s.pm.dom 3 {}).st == .stopped) (hostMod (fun h => { h with inL1 := false }) (wakeFrom 3 0 (wakeMask s 3 0) s)) s)

end Sys2Proof.Machine
end

