-- ==== Sys2Proof/Machine/LinkDelay.lean ====
section
/-! DEFINITION. Link delay: the two-way exchange (R87 to R93), measurement windows (R95 to R105, R109), module changes
(R108). -/

namespace Sys2Proof.Machine

/-- A received Sync: timestamped, its TLV taken; a one-step Sync becomes the anchor at once, a two-step one waits for
its Follow_Up (R69, R71, R88, R97). -/
def execPtpSyncReceive (p : PortIx) (m : RxMsg) (s : State) : Host.Outcome State Fault Refusal :=
  let n := p.val
  if exchOn s n && asSlave s n then
    let s := takeTlv n m.tlv s
    match rxStamp s n m with
    | some t =>
      let e : RxEvent := { msg := m, t := t }
      if m.twoStep then done (exchMod n (fun x => { x with sync := some e }) s)
      else done (syncKnown n e (peerTime m.origin m.corr) s)
    | none => done s
  else done s

/-- The Follow_Up of the Sync last received (R69, R88). -/
def execPtpFollowUpReceive (p : PortIx) (seqId : Nat) (origin corr tlv : List Byte) (s : State) :
    Host.Outcome State Fault Refusal :=
  let n := p.val
  if exchOn s n && asSlave s n then
    let s := takeTlv n tlv s
    match (portOf s n).exch.sync with
    | some e => if e.msg.seqId = seqId then done (syncKnown n e (peerTime origin corr) s) else done s
    | none => done s
  else done s

/-- A Delay_Req from the peer is answered with its receive time (R91). -/
def execPtpDelayReqReceive (p : PortIx) (m : RxMsg) (s : State) : Host.Outcome State Fault Refusal :=
  let n := p.val
  if exchOn s n && asMaster s n then
    let s := takeTlv n m.tlv s
    match rxStamp s n m with
    | some t => done (ptpSend n 3 m.seqId (splitTime t).1 (wireCorr m.corr - (splitTime t).2) [] s)
    | none => done s
  else done s

/-- A Delay_Resp completes the exchange (R93). -/
def execPtpDelayRespReceive (p : PortIx) (seqId : Nat) (rx corr : List Byte) (s : State) : Host.Outcome State Fault Refusal :=
  let n := p.val
  let x := (portOf s n).exch
  if exchOn s n && asSlave s n then
    match x.t3, x.t1, x.t2 with
    | some (q, t3), some t1, some t2 =>
      if q = seqId then
        let t4 : Rat := wireTime rx - wireCorr corr * 16
        done (exchangeDone n ((t4 - t1) - (t3 - t2)) (exchMod n (fun x => { x with t3 := none }) s))
      else done s
    | _, _, _ => done s
  else done s

/-- A Pdelay_Req on an IEEE 802.1AS port is answered: Pdelay_Resp with the request's receive time, and
Pdelay_Resp_Follow_Up with the response's departure time (R92). -/
def execPdelayReqReceive (p : PortIx) (m : RxMsg) (tx : TxStamp) (s : State) : Host.Outcome State Fault Refusal :=
  let n := p.val
  if exchOn s n && asAs s n then
    match rxStamp s n m with
    | some t =>
      let d := splitTime (txStamp s n tx)
      done (ptpSend n 6 m.seqId d.1 d.2 []
        (ptpSend n 5 m.seqId (splitTime t).1 (wireCorr m.corr - (splitTime t).2) [] s))
    | none => done s
  else done s

/-- A Pdelay_Resp with the departure time of its follow-up completes a peer-delay measurement: the requester's own interval
is taken at the neighbour's rate, which two responses give (R92). -/
def execPdelayRespReceive (p : PortIx) (m : RxMsg) (respTx corr : List Byte) (s : State) : Host.Outcome State Fault Refusal :=
  let n := p.val
  if exchOn s n && asAs s n then
    match (portOf s n).exch.pd1, rxStamp s n m with
    | some (q, t1), some t4 =>
      if q = m.seqId then
        let t2 : Rat := wireTime m.origin - wireCorr m.corr * 16
        let t3 : Rat := wireTime respTx + wireCorr corr * 16
        let r : Rat := match (portOf s n).exch.pdPrev with
          | some (a, b) => if t4 = b then 1 else (t3 - a) / (t4 - b)
          | none => 1
        let rt := r * (t4 - t1) - (t3 - t2)
        done (exchangeDone n rt (exchMod n (fun x => { x with
          pd1 := none, pdelay := some (rt / 2), pdPrev := some (t3, t4) }) s))
      else done s
    | _, _ => done s
  else done s

/-- The message interval expires: the port's next Sync, with its Follow_Up in two-step mode, or its next Delay_Req or
Pdelay_Req (R87, R88, R91, R92). A one-step Delay_Req's fraction comes back in the answer's correctionField (R93). -/
def execPtpInterval (p : PortIx) (delayReq : Bool) (tx : TxStamp) (s : State) : Host.Outcome State Fault Refusal :=
  let n := p.val
  let x := (portOf s n).exch
  let t := txStamp s n tx
  let tlv := if kindFab s n then tlvBytes (ownTlv s n) else []
  if !exchOn s n then done s
  else if delayReq then
    let carried : Rat := if par s 0x118 n = 0 then (splitTime t).2 * 16 else 0
    if asAs s n then
      done (ptpEvent n 4 x.pdelaySeq t []
        (exchMod n (fun x => { x with
          pd1 := some (x.pdelaySeq, t - carried), pd1Lane := some tx.lane, pdelaySeq := (x.pdelaySeq + 1) % 65536 }) s))
    else if asSlave s n then
      done (ptpEvent n 2 x.delaySeq t tlv
        (exchMod n (fun x => { x with
          t3 := some (x.delaySeq, t - carried), t3Lane := some tx.lane, delaySeq := (x.delaySeq + 1) % 65536 }) s))
    else done s
  else if asMaster s n || asAs s n then
    let s := ptpEvent n 0 x.syncSeq t tlv (exchMod n (fun x => { x with syncSeq := (x.syncSeq + 1) % 65536 }) s)
    if par s 0x118 n = 0 then done s else done (ptpSend n 1 x.syncSeq (splitTime t).1 (splitTime t).2 tlv s)
  else done s

/-- A measurement window of a fabric port ends at a whole second (R95 to R111). -/
def execLdWindowEnd (p : PortIx) (s : State) : Host.Outcome State Fault Refusal :=
  let n := p.val
  if portUsed s n && kindFab s n && groupLive s (n / 8) then
    let old := s
    let s := windowClose n (atSecond s)
    let s :=
      if (portOf s n).ld.dstate = 0 then s
      else match pairedWindow s n with
        | some latest =>
          let l := roundTrips s n latest
          if l.isEmpty then windowEmpty n s else windowUse n latest l s
        | none => if (portOf s n).ld.lastDisc || (portOf s n).ld.prevDisc then s else windowEmpty n s
    let s := windowLatch n s
    let s := ldMod n (fun d => { d with
      valid := true, seq := (d.seq + 1) % 4096, solver := solves s n, selfSpan := isSelfSpan s n }) s
    done (plumbEvent n old (servoAdvance (n / 8) (ldReport n s)))
  else done s

/-- The module's management interface shows another identity or reset count: a path change, and the wavelengths are
read again (R94, R108). -/
def execModuleChange (p : PortIx) (ident : Nat) (bidi : Bool) (lasers : List WlReport) (s : State) :
    Host.Outcome State Fault Refusal :=
  let n := p.val
  if !portUsed s n || (portOf s n).ld.lastModule == some ident then done s
  else
    let s := if (portOf s n).ld.lastModule.isSome then pathChange n s else s
    let s := ldMod n (fun d => { d with lastModule := some ident, bidi := bidi }) s
    done ((List.range (laneCount s n)).foldl (fun s k => laneLdMod (n + k) (fun d => { d with
      module := (lasers[k]?).map (fun w => { wlTx := w.wlTx, wlRx := w.wlRx, sigTx := w.sigTx, sigRx := w.sigRx }) }) s) s)

end Sys2Proof.Machine
end

