-- ==== Sys2Proof/Machine/Ports.lean ====
section
/-! DEFINITION. Ports and MACs (chapter 11): link states, negotiation, flow control, preemption, frame reception. -/

namespace Sys2Proof.Machine

/-- Every condition for UP has held for 1 ms: the port is UP; preemption restarts, the group servo and a sleep that
waited go on, and a fabric port sends a hello (R243, R248, R255, R76, R63, R333). An Energy-Efficient Ethernet port advertises its wake times; every bank may enter
Retention (R366, R358). -/
def execPortLinkUp (p : PortIx) (s : State) : Host.Outcome State Fault Refusal :=
  let n := p.val
  if linkReady s n then
    let s := startPreempt n (portMod n (fun q => { q with
      st := .up, holdStart := 0, dllWake := if eeeKind s n = 0 then none else some (40, 40) }) s)
    let s := sendHello n (servoAdvance (n / 8) (portEvent n s))
    done (if (portOf s n).sleep.txWaiting && kindFab s n then startSleep n s else s)
  else done s

/-- Lock or alignment lost, a fault of 10 µs, or a lane that is not READY: an UP port enters HOLD with its queues held
(R243, R254); on another port only the condition is recorded. -/
def execPortLinkLoss (p : PortIx) (cause : LossCause) (s : State) : Host.Outcome State Fault Refusal :=
  let n := p.val
  if !portUsed s n then done s
  else
    match cause with
    | .lock => done (portHold n 1 false (portMod n (fun q => { q with aligned := false }) s))
    | .localFault => done (portHold n 2 false (portMod n (fun q => { q with localFault := true }) s))
    | .remoteFault => done (portHold n 3 false (portMod n (fun q => { q with remoteFault := true }) s))
    | .laneNotReady => if lanesReady s n then done s else done (portHold n 5 false s)

/-- LINK_HOLD has elapsed: the held frames are flushed before the state reads DOWN; FLUSHED is set (R243, R254, R306). A
port held by a pattern test keeps its delay state (R107). -/
def execLinkHoldExpiry (p : PortIx) (s : State) : Host.Outcome State Fault Refusal :=
  let n := p.val
  if (portOf s n).st == .hold then
    let c := (portOf s n).downCause
    let s := recover 8 0 n (bump (groupEvent (n / 8) 24) 1 s)
    done (portMod n (fun q => { q with flushed := true }) (portDown n .down c (c == 4) s))
  else done s

/-- What Clause 73 advertises on a port: the ability of its group's mode alone, and whether it asks for FEC (R241). -/
def anAdvert (s : State) (p : Nat) : Nat × Bool := (modeOf s (p / 8), parB s 0x101 p)

/-- Auto-negotiation completes where it runs, on the abilities that the peer advertises: Clause 73 takes the one of the group's mode and
the FEC that either end asks for, Clause 37 exchanges pause abilities. Without a matching ability the port stays DOWN (R241). -/
def execAnComplete (p : PortIx) (peer : List Nat) (fec : Bool) (pause : Nat) (s : State) : Host.Outcome State Fault Refusal :=
  let n := p.val
  let own := anAdvert s n
  if portUsed s n && !portInReset s n && anRuns s n && ((portOf s n).st == .down || (portOf s n).st == .hold)
      && (own.1 == 1 || peer.contains own.1) then
    done (setChange n s (portMod n (fun q => { q with
      anDone := true
      anFec := if own.1 = 3 then some (own.2 || fec) else none
      anPause := if own.1 = 1 then pause else 0 }) s))
  else done s

/-- The link-up timeout: each lane of the port is reset as LANE does and negotiation restarts; trained coefficients are
kept and the port stays DOWN (R384). -/
def execLinkUpTimeout (p : PortIx) (s : State) : Host.Outcome State Fault Refusal :=
  let n := p.val
  if portUsed s n && (portOf s n).st == .down then
    let old := s
    let s := recover 5 0 n (bump (groupEvent (n / 8) 21) 1 s)
    let s := forEach (lanesOf s n) (fun l s => laneReset' l (portOf s n).downCause false s) s
    done (setChange n old (portMod n (fun q => { q with anDone := false, anFec := none, anPause := 0 }) s))
  else done s

/-- Block lock and alignment, with no fault standing (R243). -/
def execPcsAlignmentLock (p : PortIx) (s : State) : Host.Outcome State Fault Refusal :=
  if portUsed s p.val && lanesReady s p.val then
    done (portMod p.val (fun q => { q with aligned := true, localFault := false, remoteFault := false }) s)
  else done s

/-- The peer of an Energy-Efficient Ethernet port signals low-power idle or its end: the receive direction sleeps or
wakes, the port stays UP (R60, R243). -/
def execLowPowerIdle (p : PortIx) (on : Bool) (s : State) : Host.Outcome State Fault Refusal :=
  let n := p.val
  let k := eeeKind s n
  if (portOf s n).st == .up && k != 0 then
    let s := portMod n (fun q => { q with lowPower := on }) s
    if k = 1 then
      done (forEach (lanesOf s n) (fun l s => sleepJoin l
        (laneMod l (fun x => { x with rxSleep := on }) (if on then laneUnready l s else s))) s)
    else done s
  else done s

/-! ### Flow control -/

/-- A PAUSE or PFC frame, 64 bytes long: counted, and acted on in the mode it belongs to (R244, R251, R256). -/
def execPauseReceive (p : PortIx) (pfc : Bool) (mask : BitVec 8) (quanta : List Nat) (fcsBad : Bool) (s : State) :
    Host.Outcome State Fault Refusal :=
  let n := p.val
  if (portOf s n).st != .up then done s
  else
    let s := macCount n 0 64 s
    if fcsBad then done (macCount n 5 1 s)
    else
      let s := macCount n 9 1 (countGood n 0x0180C2000001 64 s)
      let mode := par s 0x10E n
      if mode = 1 ∧ !pfc then done (takePause n 255 (quanta.getD 0 0 % 65536) s)
      else if mode = 2 ∧ pfc then
        done (forEach ((List.range 8).filter (fun i => mask.getLsbD i)) (fun i s =>
          takePause n (2 ^ bits (parN s 0x10F n) (3 * i) 3) (quanta.getD i 0 % 65536) s) s)
      else done s

/-- A class's pause timer reaches zero: the class resumes (R251). -/
def execPauseTimerExpiry (p : PortIx) (c : Fin 8) (s : State) : Host.Outcome State Fault Refusal :=
  if (portOf s p.val).pause.paused[c] then done (endPause p.val (rxMask s p.val c.val) s) else done s

/-- The pause watchdog: the class resumes, and its pause is ignored for PAUSE_RECOVERY (R252, R384). -/
def execPauseWdExpiry (p : PortIx) (c : Fin 8) (s : State) : Host.Outcome State Fault Refusal :=
  let n := p.val
  if (portOf s n).pause.paused[c] && decide (0 < parN s 0x110 n) then
    let m := rxMask s n c.val
    let s := pauseMod n (fun x => { x with wdIgnore := maskSet x.wdIgnore m true, wdEvent := true }) (endPause n m s)
    let s := recover 6 c.val n (bump (groupEvent (n / 8) 22) 1 (macCount n 31 1 s))
    done (issueEvent 0x0402 n [BitVec.ofNat 8 (if m = 255 then 0 else c.val)] s)
  else done s

/-- PAUSE_RECOVERY ends: pause is honoured again (R252). -/
def execPauseRecoveryEnd (p : PortIx) (c : Fin 8) (s : State) : Host.Outcome State Fault Refusal :=
  if (portOf s p.val).pause.wdIgnore[c] then
    done (pauseMod p.val (fun x => { x with wdIgnore := maskSet x.wdIgnore (rxMask s p.val c.val) false }) s)
  else done s

/-- Half of the pause time sent has passed and the count is still above XON: the pause is sent again (R253). -/
def execPauseRepeat (p : PortIx) (c : Fin 8) (s : State) : Host.Outcome State Fault Refusal :=
  let n := p.val
  let k := pauseCls s n c.val
  if (portOf s n).st == .up && vget (portOf s n).pause.xoff k false && decide ((parC s 0x113 n k).toNat < fillOf s n k) then
    done (pauseSend n (pauseMask s n k) 0xFFFF s)
  else done s

/-! ### Preemption -/

/-- VERIFY_TIME passes without a response: another attempt, after three FAILED (R248). -/
def execPreemptVerifyTimer (p : PortIx) (s : State) : Host.Outcome State Fault Refusal :=
  let x := (portOf s p.val).pre
  if x.verify = 1 then
    if x.attempts < 3 then done (portMod p.val (fun q => { q with pre := { q.pre with attempts := q.pre.attempts + 1 } }) s)
    else done (portMod p.val (fun q => { q with pre := { q.pre with verify := 3, active := false } }) s)
  else done s

/-- The peer's response, with its addFragSize: preemption is active (R248, R249). -/
def execPreemptVerifyResponse (p : PortIx) (addFrag : Fin 4) (s : State) : Host.Outcome State Fault Refusal :=
  if (portOf s p.val).pre.verify = 1 then
    done (portMod p.val (fun q => { q with pre := { q.pre with verify := 2, active := true, peerFrag := addFrag.val } }) s)
  else done s

/-! ### Frame reception -/

/-- What the MAC's checks of a frame come to: the statistic to count and whether the frame stands, is bad, or is dropped
at once (R244, R249, R256). -/
def rxVerdict (s : State) (p : Nat) (e : RxEnd) : Option Nat × Nat :=
  if e.reasmBad then (some 11, 2)
  else if e.len < 64 then (some 6, 2)
  else if parN s 0x106 p < e.len then (some 7, 0)
  else if e.pcsBad then (some 8, 1)
  else if e.fcsBad then (some 5, 1)
  else (none, 0)

/-- A descriptor whose frame has ended. -/
def endDesc (bad : Bool) (d : FrameDesc) : FrameDesc := { d with complete := true, bad := d.bad || bad }

/-- The frame with an identity, wherever it is held, has ended. -/
def frameEnds (fid : Nat) (bad : Bool) (s : State) : State :=
  let f := fun (d : FrameDesc) => if d.fid = fid then endDesc bad d else d
  let fq := fun (q : Queue) => { q with frames := q.frames.map f }
  let ft := fun (t : Option TxFrame) => t.map (fun (x : TxFrame) => { x with desc := f x.desc, corrupt := x.corrupt || (bad && x.desc.fid == fid) })
  { s with
    q := { s.q with
      inp := s.q.inp.map (fun (g : InGroup) => { g with
        voq := g.voq.map (fun e => (e.1, fq e.2)), mcq := g.mcq.map fq, calq := g.calq.map f })
      out := s.q.out.map (fun (g : OutGroup) => { g with
        egress := g.egress.map (fun (e : EgFrame) => { e with desc := f e.desc, crcBad := e.crcBad || (bad && e.desc.fid == fid) }) }) }
    port := s.port.map (fun (q : Port) => { q with tx := { q.tx with express := ft q.tx.express, preempt := ft q.tx.preempt } }) }

/-- The frame with an identity has been decided on and is held somewhere. -/
def frameHeld (fid : Nat) (s : State) : Bool :=
  s.q.inp.any (fun g => g.voq.any (fun e => e.2.frames.any (fun d => d.fid == fid)) || g.mcq.any (fun q => q.frames.any (fun d => d.fid == fid))
    || g.calq.any (fun d => d.fid == fid)) ||
  s.q.out.any (fun g => g.egress.any (fun e => e.desc.fid == fid)) ||
  s.port.any (fun q => q.tx.express.any (fun t => t.desc.fid == fid) || q.tx.preempt.any (fun t => t.desc.fid == fid))

/-- The MAC completes a received frame: its statistics, and what its checks make of the frame, whether the decision has
come already or is still to come (R244, R249, R257, R260). -/
def execFrameReceive (p : PortIx) (fid : Nat) (fin : RxEnd) (s : State) : Host.Outcome State Fault Refusal :=
  let n := p.val
  if (portOf s n).st != .up then done s
  else
    let v := rxVerdict s n fin
    let s := macCount n 10 fin.frags (macCount n 0 (if v.1 = some 7 then parN s 0x106 n else fin.len) s)
    let s := match v.1 with
      | some k => macCount n k 1 s
      | none => countGood n fin.da fin.len s
    if frameHeld fid s then done (frameEnds fid (v.2 != 0) s)
    else done (portMod n (fun q => { q with ended := ((fid, v.2) :: q.ended).take 32 }) s)

end Sys2Proof.Machine
end

