-- ==== Sys2Proof/Machine/DomainOps.lean ====
section
/-! DEFINITION. What a power domain does as it leaves On, deepens, loses its state and returns (R195, R227, R282, R307, R326,
R358 to R372), and POWER_SET's walk over the domains (R438). -/

namespace Sys2Proof.Machine

/-! ### Loading (R86, R282, R326) -/

/-- The factory entries of a lane (R85, R86). -/
def loadFactory (l : Nat) (s : State) : State :=
  laneMod l (fun x => { x with lat := { x.lat with sets := vmapI x.lat.sets (fun k _ =>
    let f := Config.factoryLat l k.val
    { txLat := f.1, rxLat := f.2.1, tcTx := f.2.2.1, tcRx := f.2.2.2.1, tRef := f.2.2.2.2, source := 1, calSec := secOf s.clk.now }) } }) s

/-- A lane has no entry but the design nominal. -/
def latBare (s : State) (l : Nat) : Bool := (laneOf s l).lat.sets.all (fun e => e.source == 0)

/-- A course number far enough ahead for an activation (R324). -/
def courseAhead (s : State) : Nat :=
  let len := 8 * s.cald.courseLen * uNs
  if len = 0 then 0 else (courseNow s + (100 * uMs + len - 1) / len) % 2 ^ 32

/-- The tables and banks from Obilwin's golden copies (R282, R326). -/
def loadGolden (s : State) : State :=
  let k := courseAhead s
  let s := fwdMod (fun f => { f with hw := f.golden, live := [], bad := [] }) s
  (List.range 192).foldl (fun s p =>
    if (vget s.cald.golden p []).isEmpty then s
    else pcalMod p (fun c => { c with
      banks := vmodN c.banks (1 - c.active.val) (fun _ => vget s.cald.golden p []), pending := some k }) s) s

/-! ### Leaving On -/

/-- The lanes, and the converters, of a bank; and the ports in it. -/
def bankUnits (d : Nat) : List Nat := (List.range 32).map (32 * (d - 4) + ·)

/-- A converter's domain leaves On (R227). -/
def convsLeave (d : Nat) (s : State) : State :=
  ((List.range 217).filter (fun c => convDomain c == d)).foldl (fun s c => convSettle c (convAbort c s)) s

/-- The domain is no longer On. -/
def leaveOn (d : Nat) (st : DomSt) (s : State) : State :=
  if d = 1 ∨ d = 2 then engineOff (d - 1) s
  else if d = 3 then hostMod (fun h => { h with inL1 := st == .stopped, linkUp := h.linkUp && st == .stopped }) s
  else if 4 ≤ d ∧ d ≤ 9 then
    convsLeave d (forEach (bankUnits d) (fun l s => if (laneOf s l).st == .sleep then s else laneLeaves l .off 5 false s) s)
  else if d = 10 then fabMod (fun f => { f with transit := false }) s
  else if d = 13 then tapMod (fun t => { t with ttD := 0 }) (convsLeave d s)
  else s

/-- Its state is lost (Off). -/
def loseState (d : Nat) (s : State) : State :=
  if d = 1 ∨ d = 2 then engMod (d - 1) (fun x => { y := x.y }) s
  else if d = 3 then
    let s := hostReset s
    { s with
      host := { perst := s.host.perst, sent := s.host.sent, writes := s.host.writes }
      mb := { epoch := s.mb.epoch }
      fab := { s.fab with records := [], reasm := [], remotes := [], relays := [] }
      boot := { flashOf s.boot with straps := s.boot.straps, starts := s.boot.starts } }
  else if 4 ≤ d ∧ d ≤ 9 then
    let s := forEach (bankUnits d) (fun l s => laneMod l (fun _ => {}) (laneLeaves l .off 5 false s)) s
    let s := forEach (bankUnits d) (fun p s => convMod p (fun _ => {}) (portMod p (fun q => { q with
      live := Vector.replicate 32 0, snap := Vector.replicate 32 0, snapSeq := 0, pause := {}, pre := {}, sleep := {}, exch := {}, ld := {} }) s)) s
    (List.range 4).foldl (fun s k => groupMod (4 * (d - 4) + k) (fun g => { g with servo := {}, rep := [] }) s) s
  else if d = 10 then
    let s := (List.range 24).foldl (fun s g => flushOutput g s) s
    { s with
      fwd := { s.fwd with hw := {}, live := [], bad := [] }
      q := { s.q with out := Vector.replicate 24 {} }
      cald := { s.cald with port := s.cald.port.map (fun (c : PortCal) => { c with banks := Vector.replicate 2 [], pending := none, used := [] }) } }
  else if d = 11 ∨ d = 12 then (List.range 12).foldl (fun s k => flushInput (12 * (d - 11) + k) s) s
  else
    let s := ((List.range 217).filter (fun c => convDomain c == 13)).foldl (fun s c => convMod c (fun _ => {}) s) s
    { s with tio := {} }

/-- A domain reaches a state below On. -/
def lowerTo (d : Nat) (st : DomSt) (s : State) : State :=
  let was := (vget s.pm.dom d {}).st
  let s := if was == .on then leaveOn d st s else s
  let s := if was == .on || was == .stopped then (if st == .stopped then s else synStop d (st == .off) s)
    else if st == .off then synStop d true s else if st == .stopped then (synsOf d).foldl (fun s n => retune n s) s else s
  let s := if st == .off && was != .off then loseState d s else s
  -- the outputs of D13 are held low below On, its Time Tap too (R195)
  let s := domMod d (fun x => { x with st := st }) s
  if d = 13 then outputsLow s else s

/-! ### Returning to On -/

/-- Both directions of a port are awake again: its dead timer restarts, a hello goes (R335, R368). -/
def portAwake (p : Nat) (s : State) : State :=
  let x := (portOf s p).sleep
  if x.tx == .awake && x.rx == .awake then s
  else
    let s := sleepMod p (fun x => { x with tx := .awake, rx := .awake, txAlone := false, rxAlone := false, wakePending := false }) s
    sendHello p (adjMod p (fun a => { a with suspended := false }) s)

/-- A lane that slept through its bank's descent is READY again, unfit for fusion until it has been remeasured (R360,
R368). -/
def laneReturns (l : Nat) (s : State) : State :=
  if (laneOf s l).st == .sleep then
    let s := laneMod l (fun x => { x with
      st := .ready, txSleep := false, rxSleep := false
      ph := { x.ph with excl := if fusionOff s l then 9 else 2, anchor := none } }) s
    portAwake (portOfLane s l) s
  else s

/-- What returns with a domain. -/
def raiseTo (d : Nat) (was : DomSt) (s : State) : State :=
  let deep := was == .retention || was == .off
  let s := domMod d (fun x => wakeDone { x with st := .on, heldRaise := false }) s
  -- only an engine's DCO takes up its waiting VCO option as its domain comes On (R212)
  let s := if d = 1 ∨ d = 2 then takeOption (25 + d) s else s
  let s := if deep then (synsOf d).foldl (fun s n => retune n s) s else s
  let s :=
    if d = 1 ∨ d = 2 then engineBoot (d - 1) s
    else if d = 3 then hostMod (fun h => { h with inL1 := false, linkUp := h.modeSet && !h.perst }) s
    else if 4 ≤ d ∧ d ≤ 9 then
      let s := forEach (bankUnits d) laneReturns s
      if obilwinUp s && s.boot.factoryLoaded then forEach ((bankUnits d).filter (latBare s)) loadFactory s else s
    else if d = 10 then (if was == .off && obilwinUp s then loadGolden s else s)
    else if d = 13 then clkouts (convsCoarse 13 s) else s
  let s := fabMod (fun f => { f with transit := f.transit || (f.installed && transitPower s) }) s
  let s := completeWaiting d (applyDeferred d s)
  if d = 3 then rxGoAll s else s

/-- A raise that is not held. -/
def raiseGoes (s : State) (x : Domain) : Bool := x.target == .on && x.st != .on && !(x.heldRaise && claimsZero s)

/-- DOMAIN (R453). -/
def domainEvent (d src : Nat) (s : State) : State :=
  issueEvent 0x0110 d [BitVec.ofNat 8 (domCode (vget s.pm.dom d {}).st), BitVec.ofNat 8 (if src = 6 then 0 else src)] s

/-! ### Requests to lower (R25, R169, R359, R360, R371) -/

/-- A lane bank that holds a sentinel. -/
def holdsSentinel (s : State) (d : Nat) : Bool :=
  decide (4 ≤ d ∧ d ≤ 9) && (List.range 4).any (fun k => (sentinelOf s (4 * (d - 4) + k)).isSome)

/-- The rule that a lowering of a domain would break, with its DETAIL, given domains already to be below On (R429, R438). -/
def lowerRefused (s : State) (d : Nat) (st : DomSt) (also : List Nat) : Option Nat :=
  let other := 3 - d
  if (d = 1 ∨ d = 2) ∧ (also.contains other ∨ domBelow s other) then some 0x0001
  else if (st == .stopped || st == .retention) && (vget s.pm.dom d {}).st == .off then some 0x000B
  else if holdsSentinel s d then some 0x0002
  else none

/-- The ports of a bank with deep sleep stop transmitting before the bank goes down (R60, R360). -/
def sleepBank (d : Nat) (s : State) : State :=
  forEach (bankUnits d) (fun p s =>
    if portUsed s p && (portOf s p).st == .up then
      if eeeKind s p == 1 then forEach (lanesOf s p) (fun l s => sleepJoin l (laneMod l (fun x => { x with txSleep := true }) s)) s
      else if kindFab s p && (portOf s p).sleep.tx == .awake then startSleep p s else s
    else s) s

/-- A lowering begins, or waits for the transition in progress. The engine in control first hands over. -/
def startLower (d : Nat) (st : DomSt) (s : State) : State :=
  let x := vget s.pm.dom d {}
  if x.st == st && x.target == st then s
  else if x.st != x.target then domMod d (fun y => { y with queued := some st }) s
  else if d = 1 ∨ d = 2 then
    if s.te.ks.control.map (fun c => c.val) = some (d - 1) ∧ x.st = .on then
      ksMod (fun k => { k with pendingPower := some (Fin.ofNat 2 (d - 1), domCode st), alignResult := 0 })
        (startAlign (Fin.ofNat 2 (otherEng (d - 1))) .powerDown s)
    else if x.st = .on then lowerEngine (d - 1) (domCode st) s
    else domMod d (fun y => { y with target := st, queued := none }) s
  else
    let s := if 4 ≤ d ∧ d ≤ 9 ∧ x.st = .on then sleepBank d s else s
    domMod d (fun y => { y with target := st, queued := none }) s

/-- A queued request follows the transition that has ended. -/
def startQueued (d : Nat) (s : State) : State :=
  match (vget s.pm.dom d {}).queued with
  | some st => startLower d st (domMod d (fun y => { y with queued := none }) s)
  | none => s

/-! ### POWER_SET's walk (R438) -/

/-- Nothing is under way for a domain. -/
def domSettled (s : State) (d : Nat) : Bool :=
  let x := vget s.pm.dom d {}
  x.st == x.target && x.queued.isNone && !handsOver s d

/-- The response of POWER_SET: two bits for each domain; D3's descent counts as done. -/
def domStates (s : State) (d3 : Option Nat) : List Byte :=
  le 4 (((List.range 14).map (fun d =>
    (if d = 3 then d3.getD (domCode (vget s.pm.dom 3 {}).st) else domCode (vget s.pm.dom d {}).st) * 4 ^ d)).sum)

/-- REFUSED for a domain whose request was refused. -/
def refuseDomain (d : Nat) (s : State) : State := domMod d (fun x => { x with refused := true }) s

/-- Goes on with the domains still to do; the head of the list has been started. -/
def powerGo (o : Origin) (e : Exec) (target : Nat) : List Nat → State → State
  | [], s => setResult o (okRes (domStates s e.d3After)) s
  | d :: rest, s =>
    if !domSettled s d then setWait o (.power (d :: rest) target) s
    else if target ≠ 0 ∧ (d = 1 ∨ d = 2) ∧ s.te.ks.alignResult = 2 ∧ s.te.ks.control.map (fun c => c.val) = some (d - 1) then
      -- abandoned: the other engine is no longer On (R25), or arbitration held it at fault (R171)
      setResult o { status := stNotPermitted, detail := if domBelow s (3 - d) then 0x0001 else 0x0004, payload := domStates s none } (refuseDomain d s)
    else match rest with
      | [] => setResult o (okRes (domStates s e.d3After)) s
      | n :: _ =>
        if target = 0 then powerGo o e target rest s
        else match lowerRefused s n (domOfCode target) [] with
          | some k => setResult o { status := stNotPermitted, detail := k, payload := domStates s none } (refuseDomain n s)
          | none => powerGo o e target rest (startLower n (domOfCode target) s)

/-- Every POWER_SET under way takes its next step. -/
def powerAll (s : State) : State :=
  let l : List Origin := (List.range 4).map (fun c => Origin.host (Fin.ofNat 4 c)) ++ s.mb.remote.map (fun r => Origin.remote r.source r.xid)
  l.foldl (fun s o => match execOf s o with
    | some e => match e.wait with
      | some (.power todo t) => powerGo o e t todo s
      | _ => s
    | none => s) s

end Sys2Proof.Machine
end

