-- ==== Sys2Proof/Machine/Power.lean ====
section
/-! DEFINITION. Power domains, alarms and their commands (R358 to R372, R438, R439). -/

namespace Sys2Proof.Machine

/-- DOMAIN_LOWER_COMPLETE: a descent, or a change between two states below On, reaches its target. -/
def execDomainLowerComplete (d : Fin 14) (s : State) : Host.Outcome State Fault Refusal :=
  let x := s.pm.dom[d]
  if x.target == .on || x.st == x.target || inChip s || d.val = 0 then done s
  else done (powerAll (startQueued d.val (domainEvent d.val 0 (lowerTo d.val x.target s))))

/-- DOMAIN_WAKE_COMPLETE: a woken domain is On; held acknowledgements and accesses go on. -/
def execDomainWakeComplete (d : Fin 14) (s : State) : Host.Outcome State Fault Refusal :=
  let x := s.pm.dom[d]
  if !raiseGoes s x || inChip s then done s
  else
    let s := raiseTo d.val x.st s
    let s := domainEvent d.val (x.wakeSrc.getD 0) s
    let s := forEach (List.range 192) ackWake s
    done (powerAll (startQueued d.val s))

/-- An alarm fires: it disarms, wakes its domains and is reported (R362). -/
def fireAlarm (n : Nat) (s : State) : State :=
  let a := vget s.pm.alarm n {}
  let s := { s with pm := { s.pm with alarm := vmodN s.pm.alarm n (fun (x : Alarm) => { x with armed := false, fired := true }) } }
  wakeFrom 4 n a.mask (issueEvent 0x0111 n (fullBytes a.instant) s)

/-- An armed alarm whose instant full time has reached (R362). -/
def alarmDue (s : State) (n : Nat) : Bool :=
  let a := vget s.pm.alarm n {}
  a.armed && decide (a.instant ≤ s.clk.now)

/-- ALARM_FIRE: full time is at or after the instants of armed alarms; they fire, the lowest first. -/
def execAlarmFire (s : State) : Host.Outcome State Fault Refusal :=
  done (forEach (List.range 4) (fun n s => when (alarmDue s n) (fireAlarm n s) s) s)

/-! ### Commands -/

/-- The first bad field of a payload, by its offset. -/
def firstBad (l : List (Bool × Nat)) : Option Nat := (l.find? (fun q => q.1)).map (fun q => q.2)

/-- A command whose fields are checked before its work: BAD_PARAM at the first bad field. -/
def checked (o : Origin) (l : List (Bool × Nat)) (f : State → State) (s : State) : State :=
  match firstBad l with
  | some k => setResult o (badParam k) s
  | none => f s

/-- The bits of a domain mask that name no domain from 1 to 13. -/
def maskBad (m : Nat) : Bool := m.testBit 0 || decide (2 ^ 14 ≤ m)

/-- POWER_SET: the whole request is checked, then its domains change one after another (R438). -/
def powerSet (o : Origin) (p : List Byte) (s : State) : State :=
  let m := fieldLe p 0 2; let t := fieldLe p 2 1
  checked o [(maskBad m, 0), (decide (3 < t), 2), (!zeros p 3 1, 3)] (fun s =>
    let ds := domsOf (BitVec.ofNat 14 m)
    if t = 0 then
      let s := wakeFrom 6 0 (BitVec.ofNat 14 m) s
      match execOf s o with
      | some e => powerGo o e 0 ds s
      | none => s
    else
      let bad := ds.filterMap (fun d => (lowerRefused s d (domOfCode t) ds).map (fun k => (d, k)))
      -- R25 first, then R359, then R360
      match [0x0001, 0x000B, 0x0002].find? (fun k => bad.any (fun q => q.2 == k)) with
      | some k => setResult o (notPermitted k) ((bad.filter (fun q => q.2 == k)).foldl (fun s q => refuseDomain q.1 s) s)
      | none =>
        let s := if ds.contains 3 then execMod o (fun e => { e with d3After := some t }) s else s
        let todo := (ds.filter (fun d => d != 3)).reverse
        match execOf s o with
        | some e => match todo with
          | [] => setResult o (okRes (domStates s e.d3After)) s
          | n :: _ => powerGo o e t todo (startLower n (domOfCode t) s)
        | none => s) s

def execPowerSet (o : Origin) (s : State) : Host.Outcome State Fault Refusal := done (onCommand o 0x0110 (powerSet o) s)

/-- WAKE_MAP: a wake source's mask, 0xFFFF for the default (R439). -/
def wakeMapCmd (o : Origin) (p : List Byte) (s : State) : State :=
  let src := fieldLe p 0 1; let u := fieldLe p 1 1; let m := fieldLe p 4 2
  let units := if src = 1 ∨ src = 2 then 192 else if src = 5 then 8 else 1
  checked o [(!([1, 2, 3, 5].contains src), 0), (decide (units ≤ u), 1), (!zeros p 2 2, firstSet p 2 2), (m != 0xFFFF && maskBad m, 4), (!zeros p 6 2, firstSet p 6 2)]
    (fun s =>
      let k := src * 256 + u
      setResult o (okRes []) (saveCfg { s with pm := { s.pm with
        masks := if m = 0xFFFF then Tbl.erase s.pm.masks k else Tbl.set s.pm.masks k (BitVec.ofNat 14 m) } })) s

def execWakeMap (o : Origin) (s : State) : Host.Outcome State Fault Refusal := done (onCommand o 0x0111 (wakeMapCmd o) s)

/-- ALARM_SET: arms or disarms; an instant already past fires at once (R362, R439). -/
def alarmSetCmd (o : Origin) (p : List Byte) (s : State) : State :=
  let n := fieldLe p 0 1; let arm := fieldLe p 1 1; let m := fieldLe p 2 2
  let t := fullOf (slice p 4 16)
  checked o [(decide (3 < n), 0), (decide (1 < arm), 1), (maskBad m, 2), (t.isNone, 4)]
    (fun s =>
      let s := { s with pm := { s.pm with alarm := vmodN s.pm.alarm n (fun (a : Alarm) =>
        if arm = 0 then { a with armed := false }
        else { a with armed := true, instant := t.getD 0, mask := BitVec.ofNat 14 m }) } }
      setResult o (okRes []) (if arm = 1 ∧ t.getD 0 ≤ s.clk.now then fireAlarm n s else s)) s

def execAlarmSet (o : Origin) (s : State) : Host.Outcome State Fault Refusal := done (onCommand o 0x0112 (alarmSetCmd o) s)

/-- RESET: OK, and the scope is asserted once the response stands (R382, R440). -/
def resetCmd (o : Origin) (p : List Byte) (s : State) : State :=
  let k := fieldLe p 0 1
  checked o [(decide (k < 1 ∨ 3 < k), 0), (!zeros p 1 3, firstSet p 1 3)]
    (fun s => setResult o (okRes []) (execMod o (fun e => { e with resetAfter := some k }) s)) s

def execReset (o : Origin) (s : State) : Host.Outcome State Fault Refusal := done (onCommand o 0x0120 (resetCmd o) s)

end Sys2Proof.Machine
end

