-- ==== Sys2Proof/Machine/Mailbox.lean ====
section
/-! DEFINITION. The mailbox's rows (R410 to R419) and the commands that cross the fabric (R350, R352). -/

namespace Sys2Proof.Machine

/-! ### Acknowledge (R411, R414 to R416) -/

/-- What H_SEQ makes of a command: new, with or without a sequence reset; a replay; or rejected with the number expected. -/
inductive Judged where
  | new (seqReset : Bool)
  | replay
  | rejected (expected : Nat)
  deriving DecidableEq, Repr

/-- The judgement of R414 and R415. -/
def judge (sync : Bool) (last h : Nat) : Judged :=
  if !sync then .new true
  else if h = (last + 1) % 65536 then .new false
  else if h = last then .replay
  else .rejected ((last + 1) % 65536)

/-- A cached response with REPLAY set. -/
def asReplay (b : List Byte) : List Byte := b.set 2 (BitVec.ofNat 8 (fieldLe b 2 1 ||| 0x20))

/-- A rejected command's response. -/
def seqError (cmd : Cmd) (expected dseq : Nat) : List Byte := respBytes cmd { status := stSeqError, detail := expected } 0xC0 dseq

/-- An IN_PROGRESS response: no payload, not final; its D_SEQ is not stated. -/
def inProgressBytes (cmd : Cmd) (dseq : Nat) : List Byte :=
  respBytes cmd { status := stInProgress } (0x80 + b2n cmd.seqReset * 16) (dseq % 2 ^ 32)

/-- Takes up a new command of a channel. -/
def startCommand (c : Fin 4) (b : List Byte) (seqReset : Bool) (s : State) : State :=
  let r := newExec s (.host c) b seqReset false
  let e := r.1
  let s := chanMod c.val (fun x => { x with st := .executing, sync := true, lastHSeq := e.cmd.hseq, exec := some e }) r.2
  let s := if e.result.isNone then bump 36 1 s else s
  if e.inProgress then putResponse c.val (inProgressBytes e.cmd (Config.freeNat s.free)) { s with free := s.free + 1 } else s

/-- MB_ACKNOWLEDGE: a pending command is copied and judged. -/
def execMbAcknowledge (c : Fin 4) (s : State) : Host.Outcome State Fault Refusal :=
  let x := chanOf s c.val
  if x.st != .pending || !(obilwinUp s || (loaderUp s && c.val == 0)) then done s
  else
    let b := Mem.readN x.cmdBuf 0 4096
    let cmd := cmdOf b
    match judge x.sync x.lastHSeq cmd.hseq with
    | .new r => done (startCommand c b r s)
    | .replay => done (endResponse c.val cmd.hseq (asReplay x.cached) s)
    | .rejected k => done (endResponse c.val cmd.hseq (seqError cmd k s.mb.dseq) s)

/-- MB_DOORBELL_ACK_TIMEOUT: the channel stays PENDING. -/
def execMbDoorbellAckTimeout (c : Fin 4) (s : State) : Host.Outcome State Fault Refusal :=
  done (when ((chanOf s c.val).st == .pending)
    (recover 10 0 3 (bump 15 1 (chanMod c.val (fun x => { x with unacked := true }) s))) s)

/-! ### Final response (R416, R417) -/

/-- What a command's work has come to: its result, where it has ended (R59, R434, R438, R452). -/
def workEnded (o : Origin) (e : Exec) (s : State) : State :=
  match e.result, e.wait with
  | some _, _ => s
  | none, some (.cal c seq) =>
    let v := convOf s c
    if v.seq = seq ∨ v.running then s
    else if v.lastOk then setResult o (okRes (le 2 v.seq ++ le 1 (satU 8 v.inlMax) ++ [0] ++ le 4 v.line)) s
    else setResult o { status := stCalRejected, detail := v.reason } s
  | none, some .align =>
    if s.te.ks.alignResult = 0 then s else setResult o (okRes (le 4 s.te.ks.alignResult)) s
  | none, some (.eye l) =>
    if (laneOf s l).eye.running then s else setResult o (okRes (le 4 (eyeWord (laneOf s l).eye).toNat)) s
  | none, some (.mode g) => if (groupOf s g).changing then s else setResult o (okRes []) s
  | none, some (.power todo t) => powerGo o e t todo s
  | none, some (.stream id b) => if s.cald.acts.any (fun a => a.stream == id) then s else setResult o (okRes b) s
  | none, _ => s

/-- MB_FINAL_RESPONSE: the response of a command whose work has ended. -/
def execMbFinalResponse (o : Origin) (s : State) : Host.Outcome State Fault Refusal :=
  if !(obilwinUp s || loaderUp s) then done s
  else
    match execOf s o with
    | none => done s
    | some e =>
      let t := workEnded o e s
      match execOf t o with
      | some e' => match e'.result with
        | some r => done (finish o e' r t)
        | none => done s
      | none => done s

/-- Relays that a command started end with it. -/
def dropRelays (o : Origin) (s : State) : State := fabMod (fun f => { f with relays := f.relays.filter (fun r => r.origin != o) }) s

/-- COMMAND_DEADLINE: work that has not finished ends in TIMEOUT. -/
def execCommandDeadline (o : Origin) (s : State) : Host.Outcome State Fault Refusal :=
  match execOf s o with
  | some e =>
    if (obilwinUp s || loaderUp s) && e.result.isNone then
      done (finish o { e with resetAfter := none, d3After := none } { status := stTimeout } (dropRelays o s))
    else done s
  | none => done s

/-! ### Commands of other devices (R350, R352) -/

/-- The sequence state of a source comes to the front; 64 are kept. -/
def remoteSeqSet (q : RemoteSeq) (s : State) : State :=
  fabMod (fun f => { f with remotes := (q :: f.remotes.filter (fun (r : RemoteSeq) => r.source != q.source)).take 64 }) s

/-- A whole COMMAND message. -/
def remoteCommand (src xid : Nat) (relayed : Bool) (b : List Byte) (s : State) : State :=
  let cmd := cmdOf b
  let old := s.fab.remotes.find? (fun r => r.source == src)
  let start := fun (seqReset : Bool) =>
    let r := newExec s (.remote src xid) b seqReset relayed
    let s := remoteSeqSet { (old.getD { source := src, lastSeq := 0, response := [] }) with lastSeq := cmd.hseq, response := [] } r.2
    mbMod (fun m => { m with remote := m.remote ++ [{ source := src, xid, relayed, exec := { r.1 with inProgress := false } }] }) s
  match judge old.isSome ((old.map (fun q => q.lastSeq)).getD 0) cmd.hseq with
  | .new r => if (execOf s (.remote src xid)).isSome then s else start r
  | .replay => match old with
    | some q => if q.response.isEmpty then s else sendResponse src xid (asReplay q.response) (remoteSeqSet q s)
    | none => s
  | .rejected k => sendResponse src xid (seqError cmd k s.mb.dseq) s

/-- REMOTE_COMMAND_RECEIVE: a segment of a COMMAND from another device. -/
def execRemoteCommandReceive (src : Nat) (frame : List Byte) (s : State) : Host.Outcome State Fault Refusal :=
  let seg := segOf src frame
  if !obilwinUp s || seg.kind != 0 then done s
  else
    let r := assemble 2 seg s
    match r.1 with
    | some b => done (if b.length < 16 then r.2 else remoteCommand seg.source seg.xid (seg.mflags.testBit 0) b r.2)
    | none => done r.2

/-- A message padded with zeros to a multiple of 4, behind its length (R467). -/
def spdmPayload (m : List Byte) : List Byte := le 2 m.length ++ [0, 0] ++ slice m 0 ((m.length + 3) / 4 * 4)

/-- REMOTE_RESPONSE_RECEIVE: the answer to a command or attestation request that this device relayed. -/
def execRemoteResponseReceive (src : Nat) (frame : List Byte) (s : State) : Host.Outcome State Fault Refusal :=
  let seg := segOf src frame
  match s.fab.relays.find? (fun r => r.xid == seg.xid && r.target == seg.source) with
  | none => done s
  | some r =>
    if !obilwinUp s || seg.kind != 1 then done s
    else
      let a := assemble (if r.attest then 3 else 2) seg s
      match a.1 with
      | some b => done (setResult r.origin (okRes (if r.attest then spdmPayload b else b))
          (fabMod (fun f => { f with relays := f.relays.filter (fun q => q.xid != r.xid) }) a.2))
      | none => done a.2

/-- Sends a relayed message: a COMMAND with RELAYED, or an attestation request. -/
def sendRelay (r : Relay) (s : State) : State :=
  if r.attest then sendDev r.target 3 0 r.xid 0 r.body s else sendDev r.target 2 0 r.xid 1 r.body s

/-- REMOTE_RETRY: 30 ms without an answer, twice (R352). -/
def execRemoteRetry (xid : Nat) (s : State) : Host.Outcome State Fault Refusal :=
  match s.fab.relays.find? (fun r => r.xid == xid) with
  | some r =>
    done (when (obilwinUp s && decide (r.sends < 3)) (sendRelay r (fabMod (fun f => { f with
      relays := f.relays.map (fun (q : Relay) => if q.xid = xid then { q with sends := q.sends + 1 } else q) }) s)) s)
  | none => done s

/-- REMOTE_TIMEOUT_EXPIRY. -/
def execRemoteTimeoutExpiry (xid : Nat) (s : State) : Host.Outcome State Fault Refusal :=
  match s.fab.relays.find? (fun r => r.xid == xid) with
  | some r =>
    done (when (obilwinUp s) (setResult r.origin { status := stTimeout }
      (fabMod (fun f => { f with relays := f.relays.filter (fun q => q.xid != xid) }) s)) s)
  | none => done s

/-- Begins a relay for a host's command. -/
def startRelay (o : Origin) (target : Nat) (body : List Byte) (attest : Bool) (s : State) : State :=
  let x := newXid s
  let ms := ((execOf s o).map (fun e => e.remoteMs)).getD 0
  let r : Relay := { origin := o, xid := x.1, target, body, sends := 1, timeoutMs := ms, attest }
  setWait o .relay (sendRelay r (fabMod (fun f => { f with relays := f.relays ++ [r] }) x.2))

/-- REMOTE_CMD: a complete command is relayed to another device (R465). A target wider than an address is out of range. -/
def remoteCmd (o : Origin) (p : List Byte) (s : State) : State :=
  let t := fieldLe p 0 4
  checked o [(decide (2 ^ 18 ≤ t) || t == ownAddr s, 0)] (startRelay o t (p.drop 4) false) s

def execRemoteCmd (o : Origin) (s : State) : Host.Outcome State Fault Refusal := done (onCommand o 0x0710 (remoteCmd o) s)

end Sys2Proof.Machine
end

