-- ==== Sys2Proof/Machine/AttestCmds.lean ====
section
/-! DEFINITION. The SPDM responder and the commands that reach it (R351, R467, R480 to R484). Request codes, error codes and
the frames of DIGESTS, CERTIFICATE and MEASUREMENTS are PRESUMED from DSP0274, which the manual names. -/

namespace Sys2Proof.Machine

/-- The request codes that the responder offers. -/
def spdmVersion : Nat := 0x84
def spdmCapabilities : Nat := 0xE1
def spdmAlgorithms : Nat := 0xE3
def spdmMeasurements : Nat := 0xE0
def spdmOffered : List Nat := [spdmVersion, spdmCapabilities, spdmAlgorithms, 0x81, 0x82, 0x83, spdmMeasurements]

/-- A request is in order: the first three one after another, the others behind them (R484). -/
def spdmInOrder (seen : List Nat) (op : Nat) : Bool :=
  if op = spdmVersion then true
  else if op = spdmCapabilities then seen == [spdmVersion]
  else if op = spdmAlgorithms then seen == [spdmVersion, spdmCapabilities]
  else seen.contains spdmAlgorithms

/-- An ERROR message. -/
def spdmError (code data : Nat) : List Byte := [0x12, 0x7F, BitVec.ofNat 8 code, BitVec.ofNat 8 data]

/-- The value type of a measurement register (R480). -/
def mregType (n : Nat) : Nat := match n with
  | 0 => 0 | 1 => 2 | 3 => 1 | 6 => 2 | _ => 3

/-- A measurement block: 55 bytes (R483). -/
def measBlock (s : State) (n : Nat) : List Byte :=
  le 1 (n + 1) ++ [1] ++ le 2 0x33 ++ le 1 (mregType n) ++ le 2 0x30 ++ slice (vget s.boot.mreg n []) 0 48

/-- MEASUREMENTS, up to its signature; none where the index does not exist. -/
def measRecord (s : State) (seen : List Nat) (m : List Byte) : Option (List Byte) :=
  let p2 := fieldLe m 3 1
  let blocks := if p2 = 0 then some [] else if p2 = 255 then some ((List.range 8).map (measBlock s))
    else if p2 ≤ 8 then some [measBlock s (p2 - 1)] else none
  blocks.map (fun l => [0x12, 0x60, BitVec.ofNat 8 (if p2 = 0 then 8 else 0), 0] ++ le 1 l.length ++ le 3 l.flatten.length ++ l.flatten
    ++ Config.spdmAnswer s.free m seen)

/-- The chain as SPDM carries it: its length, the digest of the root, the certificates. -/
def chainBytes (s : State) : List Byte :=
  let c := Config.sha384 Config.rootCert ++ (certChain s).flatten
  le 2 (c.length + 4) ++ [0, 0] ++ c

/-- DIGESTS, for slot 0 alone. -/
def digests (s : State) : List Byte := [0x12, 0x01, 0, 1] ++ Config.sha384 (chainBytes s)

/-- CERTIFICATE: a portion of slot 0's chain. -/
def certificate (s : State) (m : List Byte) : List Byte :=
  let c := chainBytes s
  let off := fieldLe m 4 2
  if fieldLe m 2 1 ≠ 0 ∨ m.length < 8 ∨ c.length ≤ off then spdmError 1 0
  else
    let part := (c.drop off).take (min (fieldLe m 6 2) 4064)
    [0x12, 0x02, 0, 0] ++ le 2 part.length ++ le 2 (c.length - off - part.length) ++ part

/-- A connection's state: one for channel 3, and the 16 remote sources used most recently (R484). -/
def connOf (s : State) (src : Nat) : SpdmConn := (s.boot.conns.find? (fun c => c.source == src)).getD { source := src }
def chan3 : Nat := 2 ^ 32
def keepConn (c : SpdmConn) (s : State) : State :=
  bootMod (fun b =>
    let rest := b.conns.filter (fun (x : SpdmConn) => x.source != c.source)
    { b with conns := (rest.filter (fun (x : SpdmConn) => x.source == chan3)) ++
        (if c.source = chan3 then c :: rest.filter (fun (x : SpdmConn) => x.source != chan3)
          else (c :: rest.filter (fun (x : SpdmConn) => x.source != chan3)).take 16) }) s

/-- The answer to an offered request in order, and the connection's unsigned measurement transcript behind it. A signature covers
what the connection exchanged; it stands behind the answer. -/
def spdmServe (s : State) (c : SpdmConn) (op : Nat) (m : List Byte) : List Byte × List Byte :=
  if op = spdmMeasurements then
    match measRecord s c.seen m with
    | none => (spdmError 1 0, c.transcript)
    | some r =>
      if (fieldLe m 2 1).testBit 0 then
        ((r ++ Config.signature s.free (s.boot.keys.alia.getD 0) (c.transcript ++ m ++ r)).take 4072, [])
      else (r.take 4072, c.transcript ++ m ++ r)
  else if op = 0x81 then (digests s, [])
  else if op = 0x82 then (certificate s m, [])
  else
    let r := [0x12, BitVec.ofNat 8 (op - 0x80)] ++ Config.spdmAnswer s.free m c.seen
    ((if op = 0x83 then r ++ Config.signature s.free (s.boot.keys.alia.getD 0) (chainBytes s ++ m ++ r) else r).take 4072, [])

/-- The responder: one message from one connection. -/
def spdmReply (src : Nat) (m : List Byte) (s : State) : List Byte × State :=
  let op := fieldLe m 1 1
  let c := connOf s src
  if m.length < 4 then (spdmError 1 0, s)
  else if !spdmOffered.contains op then (spdmError 7 op, keepConn c s)
  else if !spdmInOrder c.seen op then (spdmError 4 0, keepConn c s)
  else
    let c := if op = spdmVersion then { source := src, last := c.last } else c
    let r := spdmServe s c op m
    (r.1, keepConn { c with seen := if c.seen.contains op then c.seen else c.seen ++ [op], transcript := r.2 } { s with free := s.free + 1 })

/-- SPDM_MSG (R467, R483). -/
def spdmMsg (o : Origin) (p : List Byte) (s : State) : State :=
  checked o [(!zeros p 2 2, firstSet p 2 2)] (fun s =>
    let r := spdmReply chan3 (slice p 4 (fieldLe p 0 2)) s
    setResult o (okRes (spdmPayload r.1)) r.2) s
def execSpdmMsg (o : Origin) (s : State) : Host.Outcome State Fault Refusal := done (onCommand o 0x0901 (spdmMsg o) s)

/-- SPDM_REMOTE: the message travels as an attestation request (R352, R467). -/
def spdmRemote (o : Origin) (p : List Byte) (s : State) : State :=
  let t := fieldLe p 0 4
  checked o [(decide (2 ^ 18 ≤ t) || t == ownAddr s, 0), (!zeros p 6 2, firstSet p 6 2)] (startRelay o t (slice p 8 (fieldLe p 4 2)) true) s
def execSpdmRemote (o : Origin) (s : State) : Host.Outcome State Fault Refusal := done (onCommand o 0x0902 (spdmRemote o) s)

/-- ATTEST_REQUEST_RECEIVE: answered as on channel 3, whatever REMOTE_MGMT holds; a repetition gets the
answer again (R351, R352). -/
def execAttestRequestReceive (src : Nat) (frame : List Byte) (s : State) : Host.Outcome State Fault Refusal :=
  let seg := segOf src frame
  if !obilwinUp s || seg.kind != 0 then done s
  else
    let a := assemble 3 seg s
    match a.1 with
    | some m =>
      match (connOf a.2 seg.source).last with
      | some (x, b) =>
        if x = seg.xid then done (sendDev seg.source 3 1 seg.xid 0 b a.2) else done (fresh seg m a.2)
      | none => done (fresh seg m a.2)
    | none => done a.2
where
  /-- A request not seen before; its answer is kept for a repetition. -/
  fresh (seg : Seg) (m : List Byte) (s : State) : State :=
    let r := spdmReply seg.source m s
    sendDev seg.source 3 1 seg.xid 0 r.1 (keepConn { connOf r.2 seg.source with last := some (seg.xid, r.1) } r.2)

end Sys2Proof.Machine
end

