-- ==== Sys2Proof/Machine/Crossbar.lean ====
section
/-! DEFINITION. The crossbar, congestion and the egress MAC (chapters 11 and 13), gates, courses and departures (14). -/

namespace Sys2Proof.Machine

/-- The switch core runs: D10 On, out of reset, its clock not stopped (R206, R359, R379). -/
def coreRuns (s : State) : Bool :=
  domOn s 10 && !s.rst.por && s.rst.chip.isNone && s.rst.data.isNone

/-- One crossbar slot of two core cycles: the match, and the matched cells cross (R290 to R293, R302 to R305). `crcBad`
names the input groups whose cell fails its CRC in the output group. -/
def execCrossbarMatch (crcBad : List GroupIx) (s : State) : Host.Outcome State Fault Refusal :=
  if coreRuns s then
    let r := matchSlot' (bump 0 2 s)
    let s := if r.1.isEmpty then r.2 else bump 2 1 r.2
    done (r.1.foldl (fun s m => crossCell (crcBad.any (fun g => g.val == m.inp)) m s) s)
  else done s

/-- A change of a port's congestion mark: flagged, counted on the onset, reported (R301). -/
def setCong (p : Nat) (on : Bool) (drops : Nat) (s : State) : State :=
  let s := { s with q := { s.q with cong := vmodN s.q.cong p (fun c => { c with
    marked := on, evt := true, clear := 0, onsets := if on then (c.onsets + 1) % 65536 else c.onsets }) } }
  issueEvent 0x0501 p ([BitVec.ofNat 8 (b2n on), 0, 0, 0] ++ le 4 drops) s

/-- The end of a 1 ms window for one port (R301). -/
def congPort (p : Nat) (s : State) : State :=
  let c := vget s.q.cong p {}
  let s := { s with q := { s.q with cong := vmodN s.q.cong p (fun c => { c with
    drops := 0, clear := if c.marked ∧ c.drops = 0 then c.clear + 1 else 0 }) } }
  if !c.marked && decide (parN s 0x18D p < c.drops) then setCong p true c.drops s
  else if c.marked && c.drops == 0 && decide (100 ≤ c.clear + 1) then setCong p false 0 s
  else s

/-- A 1 ms window of full time ends (R301). -/
def execCongestionWindow (s : State) : Host.Outcome State Fault Refusal :=
  if coreRuns s then
    let s := (List.range 192).foldl (fun s p => congPort p s) s
    done { s with q := { s.q with window := s.clk.now / uMs } }
  else done s

/-- A calendar queue head that no output group accepted within CAL_WAIT is dropped (R307). -/
def execCalWaitExpiry (g : GroupIx) (s : State) : Host.Outcome State Fault Refusal :=
  match (inGrp s g.val).calq with
  | d :: rest => done (hostDropped d (bump 9 1 (inMod g.val (fun x => { x with calq := rest }) s)))
  | [] => done s

/-- The egress MAC begins a frame (R245 to R250, R296). -/
def execEgressFrameStart (p : PortIx) (express : Bool) (tx : TxStamp) (s : State) : Host.Outcome State Fault Refusal :=
  if macMay s p.val express then
    match nextFrame s p.val express with
    | some e => done (beginFrame p.val express tx e s)
    | none => done s
  else done s

/-! ### Gates (R250, R315) -/

/-- The base mask: TC0 to TC7 open, CAL closed; every gate open on a port without entries. -/
def baseGates (s : State) (p : Nat) : Vector Bool 9 :=
  Vector.ofFn (fun i => i.val != 8 || (activeBank (pcalOf s p)).isEmpty)

/-- New gates: a preemptable frame whose gate has closed, or that an express gate's opening finds in progress, is
interrupted; one whose gate has opened goes on. -/
def setGates (p : Nat) (v : Vector Bool 9) (s : State) : State :=
  let old := (portOf s p).gates
  let s' := portMod p (fun q => { q with gates := v }) s
  let opened := (List.range 9).any (fun c => !vget old c true && vget v c true && expressCls s p c)
  let shut := (portOf s p).tx.preempt.any (fun f => !vget v f.desc.cls true)
  resumeCut p (if (opened || shut) && mayCut s p then cutPreempt p s' else s')

/-- The slot of the active bank with a START. -/
def slotAt (s : State) (p start : Nat) : Option SlotEntry := (activeBank (pcalOf s p)).find? (fun e => e.start == start)

/-- A frame waits that is matched to the slot. -/
def slotMatched (s : State) (p start : Nat) : Bool :=
  (outGrp s (p / 8)).egress.any (fun e => e.slots.any (fun m => m.port == p && m.start == start))

/-- The classes of a slot's mask below CAL. -/
def tcGates (m : Nat) : Vector Bool 9 := Vector.ofFn (fun i => i.val != 8 && m.testBit i.val)

/-- The gates change at a moment of a slot (R315). -/
def execSlotGate (p : PortIx) (m : SlotMoment) (start : Nat) (s : State) : Host.Outcome State Fault Refusal :=
  let n := p.val
  if !s.cald.running || !portUsed s n then done s
  else
    match slotAt s n start with
    | none => done s
    | some e =>
      match m with
      | .guard =>
        let g := (portOf s n).gates
        if e.ctx = 0 then done (setGates n (vmapI g (fun i v => v && e.gate.testBit i.val)) s)
        else done (setGates n (vmapI g (fun i v => v && i.val == 8 && e.gate.testBit 8)) s)
      | .start =>
        if e.ctx != 0 && slotMatched s n start then done (setGates n (Vector.ofFn (fun i => i.val == 8)) s)
        else done (setGates n (tcGates e.gate) s)
      | .close => done (setGates n (baseGates s n) s)

/-- The slot of a context that the course position stands in: the last to have begun. -/
def slotOfCtx (s : State) (p ctx : Nat) : Option SlotEntry :=
  let k := courseAt s.cald s.clk.now
  let pos : Rat := (((s.clk.now : Int) - courseStart s.cald k : Int) : Rat) / period
  ((activeBank (pcalOf s p)).filter (fun e => e.ctx == ctx && decide ((e.start : Rat) ≤ pos))).getLast?

/-- A frame has left the port: statistics and a host frame's completion; an interrupted frame goes on, holds that waited
take effect, and after a matched CAL frame the slot's other classes open (R250, R251, R315, R405). -/
def execEgressFrameDone (p : PortIx) (express : Bool) (s : State) : Host.Outcome State Fault Refusal :=
  let n := p.val
  let t := (portOf s n).tx
  if express then
    match t.express with
    | some f =>
      let s := sentFrame n f (portMod n (fun q => { q with tx := { q.tx with express := none } }) s)
      let s := if f.desc.cls = 8 then
          match slotOfCtx s n f.desc.ctx with
          | some e => setGates n (tcGates e.gate) s
          | none => s
        else s
      done (joinPause n (resumeCut n s))
    | none => done s
  else
    match t.preempt with
    | some f =>
      if t.cut || t.express.isSome then done s
      else done (joinPause n (sentFrame n f (portMod n (fun q => { q with tx := { q.tx with preempt := none } }) s)))
    | none => done s

/-- The frame at a port whose matched departure comes first. -/
def firstMatched (s : State) (p : Nat) : Option EgFrame :=
  let at' := fun (e : EgFrame) => (e.slots.find? (fun m => m.port == p)).map (fun m => m.instant)
  (outGrp s (p / 8)).egress.foldl (fun b e =>
    match at' e, b.bind at' with
    | some x, some y => if x < y then some e else b
    | some _, none => some e
    | none, _ => b) none

/-- A reservation's frame departed (R322). -/
def countDeparture (p : Nat) (d : FrameDesc) (shifted : Bool) (s : State) : State :=
  let s := pcalMod p (fun c => { c with
    sent := (c.sent + 1) % 2 ^ 64
    shift := if shifted then (c.shift + 1) % 2 ^ 32 else c.shift, shiftEvt := c.shiftEvt || shifted }) s
  match Tbl.get s.fwd.hw.ctx d.ctx with
  | some x => calMod (fun c => { c with resv := Tbl.upd c.resv x.calRes (fun r => { r with sent := (r.sent + 1) % 2 ^ 64 }) }) s
  | none => s

/-- A matched CAL frame departs on the first transmit block boundary at or after START; `shifted`: an alignment-marker
group occupied it (R318). -/
def execCalDeparture (p : PortIx) (shifted : Bool) (tx : TxStamp) (s : State) : Host.Outcome State Fault Refusal :=
  let n := p.val
  if portUp s n && (portOf s n).tx.express.isNone && (portOf s n).gates[8] then
    match firstMatched s n with
    | some e =>
      let t := beginFrame n true tx e s
      done (if begun t n e.desc.fid then countDeparture n e.desc shifted t else t)
    | none => done s
  else done s

/-! ### Courses (R310, R311, R316, R324, R326) -/

/-- To the course boundary that an event stands for: the counter stays where it stands on one. -/
def atCourse (s : State) : State :=
  let k := courseAt s.cald s.clk.now
  if firstEdgeAt (s.clk.now - courseStart s.cald k).toNat s then s else ahead (courseStart s.cald (k + 1) - s.clk.now).toNat s

/-- GUARD of a port in whole periods: HOLDBACK at the port's speed rounded up, plus the extra guard (R316). -/
def guardOf (s : State) (p : Nat) : Nat :=
  let v := speedOf s p
  if v = 0 then 0 else (holdback s p * 5 + v - 1) / v + vget s.wx.guard p 0 * 5 / 8

/-- A port's pending bank becomes active; matched frames without an entry of the same context and START are misses. -/
def switchBank (p : Nat) (s : State) : State :=
  let c := pcalOf s p
  let s := pcalMod p (fun c => { c with active := c.active + 1, pending := none }) s
  let nb := activeBank (pcalOf s p)
  (outGrp s (p / 8)).egress.foldl (fun s e =>
    if e.slots.any (fun m => m.port == p && !nb.any (fun b => b.ctx == e.desc.ctx && b.start == m.start)) then dropMatched p e s
    else s) (if (activeBank c).isEmpty || nb.isEmpty then portMod p (fun q => { q with gates := baseGates s p }) s else s)

end Sys2Proof.Machine
end

