-- ==== Sys2Proof/Machine/CalPlan.lean ====
section
/-! DEFINITION. Planning, installing and withdrawing calendar streams (R314, R319 to R325, R463, R464). What other devices'
tables hold is not visible to this device: their hops of a plan are free values. The placement of a slot is free as well,
as long as it keeps to the rules; where the free proposal breaks one, the first fit at or after the earliest departure
stands. -/

namespace Sys2Proof.Machine

/-! ### Slots -/

/-- Ingress delay, minimum and maximum, and egress lead by fixed-latency set, ns (R319). -/
def ingressNs : Nat → Nat × Nat
  | 0 => (1160, 1230) | 1 => (232, 296) | 2 => (165, 229) | 3 => (427, 490) | 4 => (236, 299) | _ => (223, 286)
def leadNs : Nat → Nat
  | 0 => 80 | 1 => 60 | 2 => 50 | 3 => 110 | 4 => 90 | _ => 85

/-- Periods of a course. -/
def coursePeriods (s : State) : Nat := 5 * s.cald.courseLen

/-- Periods, as nanoseconds, and nanoseconds rounded up to periods. -/
def nsOfPeriods (n : Nat) : Rat := (n : Rat) * 8 / 5
def periodsUp (q : Rat) : Nat := (q * 5 / 8).ceil.toNat

/-- What a frame of `len` bytes lasts at a port, with preamble and gap, rounded up to periods (R314). -/
def slotPeriods (s : State) (p len : Nat) : Nat := ((len + 20) * 5 + speedOf s p - 1) / speedOf s p

/-- Cells of a context's longest frame at this device. -/
def cellsOfCtx (s : State) (ctx : Nat) : Nat :=
  match Tbl.get s.fwd.golden.ctx ctx with
  | some c => cellsOf ((Tbl.get s.cald.resv c.calRes).getD { stream := 0, maxLen := 0, perCourse := 0 }).maxLen
  | none => 0

/-- Frames of a slot waiting at a position of the course, over all courses. -/
def waitingAt (course x : Nat) (e : SlotEntry) : Nat :=
  let d : Int := (x : Int) - e.start
  ((d + e.early) / (course : Int) - (-((-(d - e.length)) / (course : Int))) + 1).toNat

/-- Cells of CAL frames waiting at a port stay within the limit of R320, at every start of a window. -/
def roomKept (s : State) (p course : Nat) (cells : Nat → Nat) (l : List SlotEntry) : Bool :=
  l.all (fun e =>
    let x := ((e.start : Int) - e.early) % (course : Int)
    decide (((l.map (fun f => waitingAt course x.toNat f * cells f.ctx)).sum : Int) ≤ 128 - (cellsOf (parN s 0x106 p) : Int)))

/-- Each entry ends, guard included, before the next begins; the last before the first of the next course. -/
def slotsApart (guard : Nat) : List SlotEntry → Bool
  | a :: b :: r => decide (a.start + a.length + guard ≤ b.start) && slotsApart guard (b :: r)
  | _ => true

/-- The rules of R314 that a bank keeps. -/
def bankOk (s : State) (p : Nat) (cells : Nat → Nat) (l : List SlotEntry) : Bool :=
  let course := coursePeriods s
  let guard := guardOf s p
  decide (l.length ≤ 1024) && slotsApart guard l
    && l.all (fun e => decide (1 ≤ e.length ∧ e.length < 2 ^ 20 ∧ e.early < 65536 ∧ e.late < e.early ∧ e.start + e.length ≤ course)
        && (e.gate.testBit 8 == (e.ctx != 0)))
    && (match l.head?, l.getLast? with
        | some a, some z => decide (z.start + z.length + guard ≤ course + a.start)
        | _, _ => true)
    && roomKept s p course cells l

/-- A slot in its place by START. -/
def insertSlot (e : SlotEntry) (l : List SlotEntry) : List SlotEntry :=
  l.filter (fun x => decide (x.start ≤ e.start)) ++ [e] ++ l.filter (fun x => decide (e.start < x.start))

/-! ### Paths -/

/-- One hop: device, egress port, and the device and port it is reached from; none for the hop at the source. -/
structure PathHop where
  dev  : Nat
  port : Nat
  prev : Option (Nat × Nat)
  deriving DecidableEq, Repr

/-- A path's hops in order. -/
def chainFrom (prev : Option (Nat × Nat)) : List (Nat × Nat) → List PathHop
  | [] => []
  | h :: r => { dev := h.1, port := h.2, prev } :: chainFrom (some h) r

/-- An endpoint word. -/
def epDev (w : Nat) : Nat := w % 2 ^ 18
def epPort (w : Nat) : Nat := w / 2 ^ 24 % 256

/-- A port of a device adjoins another device: by the own adjacency, or by the device's stored record. -/
def adjoins (s : State) (dev port next : Nat) : Bool :=
  if dev = ownAddr s then (twoWays s).any (fun x => x.1 == port && x.2.addr == next)
  else (liveRecs s).any (fun r => r.origin == dev && r.entries.any (fun e => e.port == port && e.nbr == next))

/-- The own port that faces a port of another device. -/
def ingressFrom (s : State) (dev port : Nat) : Option Nat :=
  ((twoWays s).find? (fun x => x.2.addr == dev && x.2.port == port)).map (fun x => x.1)

/-- The PATH of a request: hops up to the first empty one. -/
def pathWords (p : List Byte) : List Nat := ((List.range 18).map (fun i => fieldLe p (24 + 4 * i) 4)).takeWhile (· != 0)

/-- The offset of the first hop that does not adjoin the one before it, or the endpoints (R463). -/
def pathBad (s : State) (p : List Byte) : Option Nat :=
  let w := pathWords p
  let src := fieldLe p 0 4; let dst := fieldLe p 4 4
  let ok := fun (i : Nat) =>
    let h := w.getD i 0
    bits h 18 6 == 0
      && (if i = 0 then epDev h == epDev src else adjoins s (epDev (w.getD (i - 1) 0)) (epPort (w.getD (i - 1) 0)) (epDev h))
      && (i + 1 != w.length || (epDev h == epDev dst && epPort h == epPort dst))
  if w.isEmpty then some 24 else ((List.range w.length).find? (fun i => !ok i)).map (fun i => 24 + 4 * i)

/-- The hops of a request (R323). -/
def hopsFor (s : State) (p : List Byte) (usePath : Bool) (n : Nat) : List PathHop :=
  let src := fieldLe p 0 4; let dst := fieldLe p 4 4
  let own := ownAddr s
  if usePath && (fieldLe p 11 1).testBit 0 then chainFrom none ((pathWords p).map (fun w => (epDev w, epPort w)))
  else if dst.testBit 23 then
    if epDev src = own then
      let ps := groupPorts s (epPort src) (dst % 2 ^ 14)
      ps.map (fun q => { dev := own, port := q, prev := none }) ++ (match ps.filter (kindFab s) with
        | q :: _ => chainFrom (some (own, q)) (Config.freePath n)
        | [] => [])
    else chainFrom none (Config.freePath n)
  else if epDev src = own then
    if epDev dst = own then [{ dev := own, port := epPort dst, prev := none }]
    else match (routeIndex s (epDev dst)).bind (Tbl.get s.fwd.golden.route) with
      | some e => (match e.members with
        | m :: _ => chainFrom none ((own, m) :: Config.freePath n)
        | [] => [])
      | none => []
  else chainFrom none (Config.freePath n)

/-! ### Planning -/

/-- What a hop of the answer says (R464): device and egress port, START, EARLY, LATE, latency in ns. -/
structure HopRec where
  dev   : Nat
  port  : Nat
  start : Nat
  early : Nat
  late  : Nat
  ns    : Nat
  deriving DecidableEq, Repr

/-- A plan in the making: departures of each hop in ns from the course boundary, own slots by port, hops of the first
frame, the room around the source's departures. -/
structure Draft where
  deps  : List ((Nat × Nat) × Rat) := []
  slots : List (Nat × List SlotEntry) := []
  recs  : List HopRec := []
  srcs  : List (Nat × Nat × Nat) := []
  last  : Rat := 0
  deriving DecidableEq, Repr

/-- The slots of a port as they stand, and as drafted. -/
def draftSlots (s : State) (d : Draft) (p : Nat) : List SlotEntry :=
  match d.slots.find? (fun x => x.1 == p) with
  | some x => x.2
  | none => vget s.cald.golden p []

/-- A departure `at'` periods from the boundary with a length and a window: the bank it gives, if it keeps every rule. -/
def tryPlace (s : State) (p : Nat) (cells : Nat → Nat) (base : List SlotEntry) (ctx need late0 : Nat) (aMin aMax src : Rat)
    (at' len early late : Nat) : Option (List SlotEntry) :=
  let course := coursePeriods s
  let t := nsOfPeriods at'
  let l := insertSlot { start := at' % course, length := len, gate := 256, early, late, ctx } base
  if decide (need ≤ len) && decide (late0 ≤ late) && decide (aMax + nsOfPeriods late0 ≤ t) && decide (t - nsOfPeriods early + 16 ≤ aMin)
      && decide (aMax + 16 ≤ t - nsOfPeriods late) && decide (t - src ≤ nsOfPeriods course) && bankOk s p cells l then some l
  else none

/-- Departures worth trying: the earliest, and the end of every slot in this course and the next. -/
def fitTimes (s : State) (p earliest : Nat) (base : List SlotEntry) : List Nat :=
  let course := coursePeriods s
  let guard := guardOf s p
  let k := earliest / course
  let ends := (0 :: base.map (fun e => e.start + e.length)).flatMap (fun x => (List.range 3).map (fun i => (k + i) * course + x + guard))
  (earliest :: ends.filter (fun x => decide (earliest ≤ x))).mergeSort

/-- One own hop of one frame: departure instant and bank. -/
def placeHop (s : State) (p : Nat) (cells : Nat → Nat) (base : List SlotEntry) (ctx len lenIn ingress : Nat) (arrive src : Rat) (n : Nat) :
    Option (Nat × Nat × Nat × List SlotEntry) :=
  let rIn : Rat := speedOf s ingress; let rOut : Rat := speedOf s p
  if rIn = 0 ∨ rOut = 0 then none
  else
    let i := ingressNs (setOf s ingress)
    let term : Rat := if rIn < rOut then (lenIn : Rat) * 8 * (1 / rIn - 1 / rOut) else 0
    let aMin := arrive + i.1; let aMax := arrive + i.2
    let need := slotPeriods s p len
    let late0 := periodsUp ((leadNs (setOf s p) : Rat) + term)
    let earliest := periodsUp (aMax + 16) + late0
    let go := fun (a l e w : Nat) => (tryPlace s p cells base ctx need late0 aMin aMax src a l e w).map (fun b => (a, e, w, b))
    match go (earliest + Config.freeNat n) (need + Config.freeNat (n + 1)) (Config.freeNat (n + 2)) (Config.freeNat (n + 3)) with
    | some x => some x
    | none => (fitTimes s p earliest base).findSome? (fun a => go a need (periodsUp (nsOfPeriods a - aMin + 16)) late0)

/-- Bytes of a stream's frame as it arrives at and as it leaves a port: a fabric port carries the Veman header. -/
def lenAt (s : State) (maxLen p : Nat) : Nat := maxLen + (if kindFab s p then 16 else 0)

/-- Whole nanoseconds below a value, as an unsigned field. -/
def nsField (w : Nat) (q : Rat) : Nat := satU w q.floor.toNat

/-- One hop of the frame that departs the source at `src` ns. -/
def planHop (s : State) (p : List Byte) (ctx : Nat) (src : Rat) (n : Nat) (h : PathHop) (d : Draft) : Option Draft :=
  let maxLen := fieldLe p 8 2
  let before : Option Rat := match h.prev with
    | some q => (d.deps.find? (fun x => x.1 == q)).map (fun x => x.2)
    | none => some src
  before.bind (fun (t0 : Rat) =>
    if h.dev = ownAddr s then
      let ing : Option Nat := match h.prev with
        | some q => ingressFrom s q.1 q.2
        | none => some (epPort (fieldLe p 0 4))
      ing.bind (fun (q : Nat) =>
        let link : Rat := if h.prev.isSome then dRx (laneOf s q).ld / uNs else 0
        let cells := fun c => if c = ctx then cellsOf (lenAt s maxLen h.port) else cellsOfCtx s c
        (placeHop s h.port cells (draftSlots s d h.port) ctx (lenAt s maxLen h.port) (lenAt s maxLen q) q (t0 + link) src n).map (fun (x : Nat × Nat × Nat × List SlotEntry) =>
          let t := nsOfPeriods x.1
          let i := ingressNs (setOf s q)
          { d with
            deps := ((h.dev, h.port), t) :: d.deps
            slots := (h.port, x.2.2.2) :: d.slots.filter (fun y => y.1 != h.port)
            recs := d.recs ++ [{ dev := h.dev, port := h.port, start := x.1 % coursePeriods s, early := x.2.1, late := x.2.2.1
                                 ns := nsField 32 (t - t0) }]
            srcs := if h.prev.isNone then d.srcs ++ [(0, nsField 16 (t0 + link + i.1 - (t - nsOfPeriods x.2.1)),
                nsField 16 (t - nsOfPeriods x.2.2.1 - (t0 + link + i.2)))] else d.srcs
            last := max d.last t }))
    else
      let at' := periodsUp t0 + Config.freeNat n
      let t := nsOfPeriods at'
      some { d with
        deps := ((h.dev, h.port), t) :: d.deps
        recs := d.recs ++ [{ dev := h.dev, port := h.port, start := at' % coursePeriods s, early := Config.freeNat (n + 1) % 65536
                             late := Config.freeNat (n + 2) % 65536, ns := nsField 32 (t - t0) }]
        srcs := if h.prev.isNone then d.srcs ++ [(0, Config.freeNat (n + 4) % 65536, Config.freeNat (n + 5) % 65536)] else d.srcs
        last := max d.last t })

/-- Every hop of one frame, in order. -/
def planFrame (s : State) (p : List Byte) (ctx : Nat) (dep n : Nat) : List PathHop → Draft → Option Draft
  | [], d => some d
  | h :: r, d => (planHop s p ctx (nsOfPeriods dep) n h d).bind (planFrame s p ctx dep (n + 8) r)

/-- Every frame of a course. -/
def planFrames (s : State) (p : List Byte) (ctx n : Nat) (hops : List PathHop) : List Nat → Draft → Option Draft
  | [], d => some d
  | t :: r, d => (planFrame s p ctx t n hops { d with last := 0, srcs := [] }).bind (fun (e : Draft) =>
      planFrames s p ctx (n + 256) hops r { e with srcs := d.srcs ++ [(t, (e.srcs.map (fun q => q.2.1)).foldl min 65535,
        (e.srcs.map (fun q => q.2.2)).foldl min 65535)] })

/-- A free choice among the numbers below a bound that are acceptable; the lowest where the free one is not. -/
def pickFree (n bound : Nat) (ok : Nat → Bool) : Option Nat :=
  if ok (Config.freeNat n % bound) then some (Config.freeNat n % bound) else (List.range bound).find? ok

/-- A finished plan. -/
structure Plan where
  stream : Nat
  ctx    : Nat
  resv   : Nat
  course : Nat
  hops   : List PathHop
  draft  : Draft
  first  : Nat
  deriving DecidableEq, Repr

/-- Source departures: as given, or Obilwin's choice. -/
def departuresOf (s : State) (p : List Byte) (n : Nat) (free : Bool) : List Nat :=
  let k := fieldLe p 10 1
  let c := coursePeriods s
  if (fieldLe p 11 1).testBit 1 then (List.range k).map (fun i => fieldLe p 12 4 + i * fieldLe p 16 4)
  else (List.range k).map (fun i => if free then (Config.freeNat n + i * (c / k)) % c else i * (c / k))

/-- The stream planned, or the DETAIL of NOT_PERMITTED (R323, R454). -/
def planStream (s : State) (p : List Byte) (id : Nat) (usePath : Bool) : Nat ⊕ Plan :=
  let n := s.free
  let hops := hopsFor s p usePath n
  let far := hops.any (fun h => h.dev != ownAddr s)
  let verdict := if far then Config.freeNat (n + 1) else 0
  if hops.isEmpty ∨ s.cald.courseLen = 0 ∨ !s.cald.running then .inl 0x0015
  else if verdict = 0x0014 ∨ verdict = 0x0015 ∨ verdict = 0x0016 then .inl verdict
  else
    match pickFree (n + 2) 4096 (fun c => c != 0 && !Tbl.has s.fwd.golden.ctx c), pickFree (n + 3) 1024 (fun r => !Tbl.has s.cald.resv r) with
    | some ctx, some resv =>
      let plan := fun (free : Bool) =>
        let t := departuresOf s p (n + 4) free
        (planFrames s p ctx (n + 16) hops t {}).map (fun d =>
          ({ stream := id, ctx, resv, course := courseAhead s, hops, draft := d, first := t.headD 0 } : Plan))
      (match plan true with
      | some x => .inr x
      | none => match (if (fieldLe p 11 1).testBit 1 then none else plan false) with
        | some x => .inr x
        | none => .inl 0x0015)
    | _, _ => .inl 0x0016

/-- The response payload of an admission (R464). -/
def planBytes (x : Plan) (k : Nat) : List Byte :=
  let recs := x.draft.recs.take x.hops.length
  le 4 x.stream ++ le 2 x.ctx ++ le 1 x.hops.length ++ le 1 k ++ le 4 x.course
    ++ le 4 (nsField 32 (x.draft.last - nsOfPeriods ((x.draft.srcs.getLastD (x.first, 0, 0)).1)))
    ++ (x.draft.srcs.take k).flatMap (fun q => le 4 q.1 ++ le 2 q.2.1 ++ le 2 q.2.2)
    ++ recs.flatMap (fun h => le 4 (h.dev + h.port * 2 ^ 24) ++ le 4 h.start ++ le 2 h.early ++ le 2 h.late ++ le 4 h.ns)

/-! ### Installation and withdrawal (R324) -/

/-- A port's idle bank as ordered for a course; the golden copy with it. -/
def orderBank (p course : Nat) (l : List SlotEntry) (s : State) : State :=
  let s := calMod (fun c => { c with golden := vmodN c.golden p (fun _ => l) }) s
  if domOn s 10 then pcalMod p (fun c => { c with banks := vmodN c.banks (1 - c.active.val) (fun _ => l), pending := some course }) s
  else s

/-- A context in both copies of the tables. -/
def putCtx (i : Nat) (c : CtxCfg) (s : State) : State := putBoth 2 i (fun t => { t with ctx := Tbl.set t.ctx i c }) s

/-- The own ports that a plan's frames leave by, and arrive by. -/
def planPorts (x : Plan) : List Nat := x.draft.slots.map (fun y => y.1)
def planLinks (s : State) (p : List Byte) (x : Plan) : List Nat :=
  (x.hops.filter (fun h => h.dev == ownAddr s)).filterMap (fun h => match h.prev with
    | some q => ingressFrom s q.1 q.2
    | none => some (epPort (fieldLe p 0 4)))

/-- The management frames that order a change on the other devices of a path (R324). -/
def orderOthers (stream course : Nat) (add : Bool) (devs : List Nat) (s : State) : State :=
  devs.foldl (fun s d =>
    let x := newXid s
    sendDev d 2 0 x.1 0 (Config.installBody stream course add d) x.2) s

/-- Installs a plan: context, record, idle banks, and the switch ordered for one course. -/
def install (p : List Byte) (x : Plan) (cause : Nat) (s : State) : State :=
  let dst := fieldLe p 4 4
  let maxLen := ((planPorts x).map (lenAt s (fieldLe p 8 2))).foldl max (fieldLe p 8 2)
  let own := x.hops.any (fun h => h.dev == ownAddr s)
  let devs := ((x.hops.map (fun h => h.dev)).filter (· != ownAddr s)).dedup
  let s := if own then
      calMod (fun c => { c with resv := Tbl.set c.resv x.resv { stream := x.stream, maxLen, perCourse := fieldLe p 10 1 } })
        (putCtx x.ctx { valid := true, cal := true, calRes := x.resv, destMc := dst.testBit 23
                        dest := if dst.testBit 23 then dst % 2 ^ 14 else (planPorts x).headD 0 } s)
    else s
  let s := x.draft.slots.foldl (fun s y => orderBank y.1 x.course y.2 s) s
  let st : Stream := { id := x.stream, ctx := x.ctx, resv := x.resv, ports := planPorts x, course := x.course, devices := devs
                       request := p, links := planLinks s p x }
  let s := calMod (fun c => { c with
    streams := c.streams.filter (fun (y : Stream) => y.id != x.stream) ++ [st]
    acts := c.acts ++ [{ stream := x.stream, course := x.course, install := true, waiting := devs, cause }] }) s
  let s := orderOthers x.stream x.course true devs s
  if devs.isEmpty then streamEvent x.stream cause x.course s else s

/-- A bank switch is already ordered at one of some ports. -/
def switchOrdered (s : State) (ps : List Nat) : Bool := ps.any (fun p => (pcalOf s p).pending.isSome)

/-- Orders the withdrawal of a stream at a common course. -/
def withdraw (x : Stream) (cause : Nat) (s : State) : State :=
  let k := courseAhead s
  let s := x.ports.foldl (fun s p => orderBank p k ((vget s.cald.golden p []).filter (fun e => e.ctx != x.ctx)) s) s
  let s := calMod (fun c => { c with
    acts := c.acts.filter (fun a => a.stream != x.id) ++ [{ stream := x.id, course := k, install := false, waiting := x.devices, cause }] }) s
  let s := orderOthers x.id k false x.devices s
  if x.devices.isEmpty then streamEvent x.id cause k s else s

/-- Plans a stream again, without the path it asked for, and moves it (R326): its old slots and context go, the new ones
come with one new activation course. A stream that no longer fits stays as it is. -/
def replanStream (x : Stream) (s : State) : State :=
  let clear := x.ports.foldl (fun s p => calMod (fun c => { c with
    golden := vmodN c.golden p (fun l => l.filter (fun e => e.ctx != x.ctx)) }) s) (forgetStream x s)
  match planStream clear x.request x.id false with
  | .inl _ => { s with free := s.free + 8192 }
  | .inr pl =>
    if switchOrdered s (x.ports ++ planPorts pl) then s
    else
      let k := pl.course
      let t := x.ports.foldl (fun s p => orderBank p k (vget s.cald.golden p []) s) { clear with free := clear.free + 8192 }
      install x.request pl 3 t

/-- The streams marked for a new plan, and those with an own port that is DOWN (R326). -/
def replanAll (down : Bool) (s : State) : State :=
  let l := s.cald.streams.filter (fun x => x.replan || (down && (x.ports ++ x.links).any (fun p => (portOf s p).st == .down)))
  l.foldl (fun s x => replanStream x (calMod (fun c => { c with
    streams := c.streams.map (fun (y : Stream) => if y.id = x.id then { y with replan := false } else y) }) s)) s

/-- A failed installation is undone before its course begins; a failed withdrawal leaves the stream (R324). -/
def undoAct (a : Activation) (s : State) : State :=
  match s.cald.streams.find? (fun x => x.id == a.stream) with
  | none => s
  | some x =>
    let s := calMod (fun c => { c with acts := c.acts.filter (fun b => b.stream != a.stream) }) s
    let s := x.ports.foldl (fun s p =>
      let l := if a.install then (vget s.cald.golden p []).filter (fun e => e.ctx != x.ctx) else activeBank (pcalOf s p)
      pcalMod p (fun c => { c with banks := vmodN c.banks (1 - c.active.val) (fun _ => l), pending := none })
        (calMod (fun c => { c with golden := vmodN c.golden p (fun _ => l) }) s)) s
    if a.install then forgetStream x s else s

end Sys2Proof.Machine
end

