-- ==== Sys2Proof/Machine/ClaimOps.lean ====
section
/-! DEFINITION. BASE and PREF: the settings the parameters call for, the refusal of R168, and how they come into force (R167,
R434, R470). -/

namespace Sys2Proof.Machine

/-- The settings that the parameters call for. -/
def wantedBases (s : State) : Nat × Nat := ((parE s 0x36 0).toNat, (parE s 0x36 1).toNat)
def wantedPref (s : State) : Nat := prefOf s (parV s 0x40)

/-- The engine that would gain control under the parameters' settings, if it is another than now. -/
def wouldGain (s : State) : Option (Fin 2) :=
  (wouldAccept s (wantedBases s) (wantedPref s) (healthsNow s)).filter (fun a => s.te.ks.control != some a)

/-- R168 refuses the settings. -/
def gainRefused (s : State) : Bool := (wouldGain s).any (fun a => decide ((engxOf s a.val).health < 6))

/-- Puts the settings in force: at once, or through a planned handover; whether there is one. -/
def setClaims (s : State) : Bool × State :=
  let s := ksMod (fun k => { k with pendBase := some (wantedBases s), pendPref := some (wantedPref s) }) s
  let own := s.te.ks.align.isNone || s.te.ks.align == some .software
  -- new values restart an alignment under way (R171)
  let s := ksMod (fun k => { k with alignCyc := 0, alignOk := 0, alignDone := k.alignDone && k.align.isNone }) s
  match wouldGain s with
  | some a =>
    if s.te.ks.control.isNone then (false, takeSettings s)
    else (true, ksMod (fun k => { k with alignResult := 0 }) (if own then startAlign a .software s else s))
  | none => (false, takeSettings (if own then ksMod (fun k => { k with align := none, alignDone := false }) s else s))

/-- Obilwin's saved BASE and PREF where R168 held them: they go on once the engine that gains control is at health 6. -/
def heldSettings (s : State) : State :=
  if s.boot.heldPref && !gainRefused s then (setClaims { s with boot := { s.boot with heldPref := false } }).2 else s

end Sys2Proof.Machine
end

