-- ==== Sys2Proof/Machine/ParamOps.lean ====
section
/-! DEFINITION. The parameter commands: reading entries, their checks, what a change does beside its new value, and the read
commands (R431 to R434, R456, R457, R470). -/

namespace Sys2Proof.Machine

/-! ### Entries and checks (R431, R432) -/

/-- A write entry: where it stands, its parameter, class, DEFAULT flag and value. -/
structure PWrite where
  off  : Nat
  info : PInfo
  cls  : Nat
  dflt : Bool
  val  : Int
  deriving DecidableEq, Repr

/-- A selector that a family knows (R433, R456). -/
def selKnown (f : PFam) (sel : Nat) : Bool :=
  match f with
  | .dev => true
  | .ref => decide (sel ≤ 5) || (decide (8 ≤ sel) && decide (sel ≤ 31))
  | .eng => decide (1 ≤ sel) && decide (sel ≤ 3)
  | .io => decide (sel ≤ 23)
  | _ => decide (sel < 192) || (decide (0x100 ≤ sel) && decide (sel < 0x1C0)) || (decide (0x200 ≤ sel) && decide (sel < 0x218)) || sel == 0x300

/-- An identifier's scope takes in the selector, whatever the kind and mode of a port. -/
def scopeFits (s : State) (i : PInfo) (sel : Nat) : Bool :=
  match i.sc with
  | .fabPort | .stdPort | .fecPort => decide (sel < 192)
  | _ => pApplies s i sel

/-- Values that a range alone does not describe. -/
def valueFits (id sel : Nat) (v : Int) : Bool :=
  let n := v.toNat
  match id with
  | 0x0D => n == 0 || n == 4 || n == 5
  | 0x31 => !n.testBit 7
  | 0x45 => [9600, 19200, 38400, 57600, 115200].contains n
  | 0x65 => n == 255 || (decide (n < 8) && n != sel)
  | 0x68 => !(sel == 16 || sel == 17) || decide (v.natAbs ≤ 524288000000000)
  | 0x105 => !n.testBit 40
  | 0x1C1 => n.testBit 40
  | 0x11B | 0x11C => decide (n < 8) || n == 255
  | 0x120 => bits n 6 2 == 0
  | 0x12A | 0x12B => n == 0 || decide (1260000 ≤ n)
  | 0x12C => decide (bits n 0 8 ≤ 254)
  | 0x187 => n % 128 == 0
  | 0x189 => [0, 8, 16].all (fun k => decide (bits n k 5 ≤ 15) || bits n k 5 == 31) && bits n 5 3 == 0 && bits n 13 3 == 0
  | _ => true

/-- Entry `i` of a payload: the offset of what is wrong with it, or what it writes. -/
def readEntry (s : State) (f : PFam) (p : List Byte) (before : List PWrite) (i : Nat) : Nat ⊕ PWrite :=
  let sel := fieldLe p 0 2
  let o := 4 + 12 * i
  let id := fieldLe p o 2
  let v := toSigned 64 (fieldLe p (o + 4) 8)
  let d := (fieldLe p (o + 2) 1).testBit 0
  if 2 ≤ fieldLe p (o + 2) 1 then .inl (o + 2)
  else if fieldLe p (o + 3) 1 ≠ 0 then .inl (o + 3)
  else match (pList f).find? (fun x => x.id == id) with
    | none => .inl o
    | some x =>
      let c := if x.cls then fieldLe p (o + 11) 1 else 0
      let val : Int := if x.cls then (fieldLe p (o + 4) 7 : Nat) else v
      if !scopeFits s x sel || decide (7 < c) || before.any (fun w => w.info.id == id && w.cls == c) then .inl o
      else if d then (if v = 0 then .inr { off := o, info := x, cls := c, dflt := true, val := 0 } else .inl o)
      else if x.lo ≤ val ∧ val ≤ x.hi ∧ valueFits id sel val then .inr { off := o, info := x, cls := c, dflt := false, val }
      else .inl o

/-- All entries in order, up to the first failure. -/
def readEntries (s : State) (f : PFam) (p : List Byte) : Nat → Nat ⊕ List PWrite
  | 0 => .inr []
  | n + 1 =>
    match readEntries s f p n with
    | .inl d => .inl d
    | .inr l => match readEntry s f p l n with
      | .inl d => .inl d
      | .inr w => .inr (l ++ [w])

/-- The places that a write reaches: selector 3 names both engines. -/
def placesOf (i : PInfo) (sel : Nat) : List Nat :=
  if i.sc == .engine && sel == 3 then [1, 2] else [pPlace i sel]

/-- The store with every entry applied. -/
def putEntries (sel : Nat) (l : List PWrite) (s : State) : State :=
  { s with par := l.foldl (fun t w => (placesOf w.info sel).foldl (fun t q =>
      if w.dflt then Tbl.erase t (pKey w.info.id q w.cls) else Tbl.set t (pKey w.info.id q w.cls) w.val) t) s.par }

/-! ### Combinations of final values (R431, R433, R187, R188, R196) -/

/-- The frequency of a clock output in mHz times N: its source, with N; none while the synthesiser has no frequency. -/
def clkSource (s : State) (sel : Nat) : Option Nat :=
  match parN s 0x6B sel with
  | 0 => some 625000000000
  | k => if (synOf s (27 + k)).target = 0 then none else some (synOf s (27 + k)).target

/-- Final values that a rule forbids, for the entry of an identifier. -/
def combBad (t : State) (sel : Nat) (w : PWrite) : Bool :=
  let id := w.info.id
  if id = 0x29 ∨ id = 0x2A then (placesOf w.info sel).any (fun q => decide (par t 0x2A q ≤ par t 0x29 q))
  else if id = 0x0D then par t 0x0D sel != 0 && [0, 1, 2, 3].any (fun r => r != sel && par t 0x0D r == par t 0x0D sel)
  else if id = 0x50 ∨ id = 0x142 ∨ id = 0x143 then decide (par t 0x53 0 ≤ par t id 0)
  else if id = 0x53 then [0x50, 0x142, 0x143].any (fun k => decide (par t 0x53 0 ≤ par t k 0))
  else if id = 0x112 ∨ id = 0x113 then decide (parC t 0x112 sel w.cls ≤ parC t 0x113 sel w.cls)
  else if id = 0x68 ∨ id = 0x6B ∨ id = 0x6C then
    decide (18 ≤ sel) && ((parN t 0x6B sel == 0 && decide (625000000 < parN t 0x6C sel)) ||
      (match clkSource t sel with
        | some f => decide ((par t 0x68 sel).natAbs * f > parN t 0x6C sel * uSec * 1000)
        | none => false))
  else false

/-- ALIGN stands against a frequency that is no whole number of hertz, or a source that spreads (R188). -/
def alignBad (t : State) (sel : Nat) : Bool :=
  decide (18 ≤ sel ∧ sel ≤ 21) && parB t 0x6D sel &&
    ((match clkSource t sel with
      | some f => f % (1000 * parN t 0x6C sel) != 0
      | none => false) || (parN t 0x6B sel != 0 && (synOf t (27 + parN t 0x6B sel)).depth != 0))

/-- A lane's permitted rate lies below a mode's (R232, R239). -/
def rateBelow (s : State) (g m : Nat) : Bool :=
  m != 0 && (List.range 8).any (fun n => decide (vget s.wx.permitted (8 * g + n) 3 < rateOfMode m))

/-! ### What a change does at once (R434, R457, R239) -/

/-- A port goes DOWN as for an administrative disable and starts again (R457). -/
def portRestart (p : Nat) (realign : Bool) (s : State) : State :=
  if (portOf s p).st == .disabled then s
  else portMod p (fun q => { q with anDone := false, anFec := none, aligned := q.aligned && !realign }) (portDown p .down 6 false s)

/-- The k1 and k2 terms restart learning (R138, R434). -/
def learnTempReset (e : Nat) (s : State) : State :=
  let zero := fun (l : List Rat) (ix : List Nat) => l.mapIdx (fun i v => if ix.contains i then 0 else v)
  engxMod e (fun x => { x with
    tMin := 1000000, tMax := -1000000
    learnRecent := x.learnRecent.map (fun (r : LearnRow) => { r with temp := (engOf s e).model.t0 }) })
    (engMod e (fun x => { x with
      fit := { x.fit with m := zero x.fit.m [3, 4, 7, 8, 10, 11, 12, 13, 14], b := zero x.fit.b [3, 4] }
      model := { x.model with k1 := 0, k2 := 0 } }) s)

/-- Parameters whose default follows another setting (R432). -/
def following : List Nat := [0x104, 0x118, 0x128, 0x18A, 0x1C8]

/-- A group's mode changes (R239, R326): its ports are deconfigured and flushed, its lanes pass through OFF, its banks are
cleared and the streams that cross them withdrawn; ports that the new mode configures follow their defaults again. -/
def modeChange (g m : Nat) (s : State) : State :=
  let ls := (List.range 8).map (8 * g + ·)
  let was := ls.filter (portUsed s)
  let s := forEach was (fun p s => portDown p .disabled 6 false s) s
  let s := forEach ls (fun l s => convAbort l (laneLeaves l .off 6 false s)) s
  let s := forEach ls (fun p s => portMod p (fun q => { q with
    anDone := false, anFec := none, aligned := false, localFault := false, remoteFault := false, pause := {}, pre := {}
    gates := Vector.replicate 9 true }) s) s
  let s := forEach ls (fun p s => calMod (fun c => { c with
    golden := vmodN c.golden p (fun _ => []) }) (pcalMod p (fun c => { c with
      banks := Vector.replicate 2 [], pending := none, used := [] }) s)) s
  let s := (s.cald.streams.filter (fun x => x.ports.any ls.contains || x.links.any ls.contains)).foldl (fun s x =>
    withdraw { x with ports := x.ports.filter (fun p => !ls.contains p) } 2 s) s
  let s := servoIdle g (groupMod g (fun x => { x with mode := m, changing := m != 0, sentinel := none }) s)
  let s := forEach (ls.filter (portUsed s)) (fun p s =>
    let s := if was.contains p then s else { s with par := following.foldl (fun t id => Tbl.erase t (pKey id p 0)) s.par }
    portEvent p (portMod p (fun q => { q with st := .down }) s)) s
  retune (2 + g) s

/-- What software's new value for a parameter changes besides the value; `old` is the state before the command. -/
def afterPar (old : State) (id sel : Nat) (s : State) : State :=
  if parC old id sel 0 = parC s id sel 0 then s
  else match id with
    | 0x05 =>
      let e := ctl s
      if (engOf s e).sel = some sel then engMod e (fun x => { x with
        slewAt := if x.slewing then x.slewAt else s.clk.elapsed
        slewing := if par s 0x05 sel = 1 then true else x.slewing && x.slewHo }) s
      else s
    | 0x0C => condMod sel (fun c => { c with last := none, resolved := false }) s
    | 0x0D => condMod sel (fun c => { c with resolved := false }) s
    -- the other PPSIN carries time of day after two consecutive messages of its own (R117)
    | 0x44 => { s with te := { s.te with tod := { s.te.tod with
        lastSec := none, label := none, todOk := false, disagree := 0, lost := false } } }
    | 0x30 | 0x31 | 0x32 | 0x33 => learnTempReset (sel - 1) s
    | 0x60 =>
      if 18 ≤ sel ∧ sel ≤ 21 then
        (if ioOn s sel && parB s 0x6D sel then clkStop (sel - 18) s else clkouts s)
      else if sel = 22 ∧ !ioOn s 22 then tapMod (fun t => { t with ttD := 0 }) s
      else if sel = 23 ∧ !ioOn s 23 then tdcMod (fun t => { t with
        present := false, out := false, aligned := false, fallen := false, lastOffset := none }) s
      else s
    | 0x6F => tdcMod (fun t => { t with fallen := t.out && parB s 0x6F 23 }) s
    | 0x64 => evMod sel (fun e => { e with starts := [] }) (match startOf s sel with
        | some k => evMod k (fun e => { e with starts := [] }) s
        | none => s)
    | 0x65 => match startOf s sel with
        | some k => evMod k (fun e => { e with starts := [] }) s
        | none => s
    | 0x68 | 0x6B | 0x6C | 0x6D =>
      if 18 ≤ sel ∧ sel ≤ 21 then
        (if parB s 0x6D sel then clkStop (sel - 18) s else clkouts s) else s
    | 0x100 => modeChange (sel - 0x200) (parN s 0x100 sel) s
    | 0x101 => setChange sel old (portRestart sel true s)
    | 0x102 =>
      let g := sel / 8
      let s := portRestart sel false s
      let s := forEach (lanesOf s sel) (laneMod · (fun x => { x with ppmAlarm := !kindFab s sel && decide (10000 < x.rxOffset.natAbs) })) s
      let s := wakeSentinel g s
      if timingPort old g = timingPort s g then s else servoAdvance g (servoIdle g s)
    | 0x103 | 0x104 => setChange sel old (portRestart sel false s)
    | 0x11B => let g := sel - 0x200
      if timingPort old g = timingPort s g then s else servoAdvance g (servoIdle g s)
    | 0x11C =>
      let g := sel - 0x200
      wakeSentinel g (groupMod g (fun x => { x with sentinel := none }) s)
    | 0x121 =>
      let l := sel - 0x100
      if fusionOff s l then excludeLane l 9 s
      else phMod l (fun h => { h with
        excl := if (laneOf s l).st != .ready then 1 else if h.anchor.isNone then 2 else 9, meas := none }) s
    | 0x1C5 => addressEvent (fabMod (fun x => { x with
        addrValid := false, stuck := false, conflict := false, reqTries := 0, reqPort := none }) s)
    | _ => s

/-! ### The commands -/

/-- What final values refuse with NOT_PERMITTED. -/
def paramRefused (s t : State) (sel : Nat) (l : List PWrite) : Option Nat :=
  if l.any (fun w => !pApplies t w.info sel) then some 0x0017
  else if l.any (fun w => w.info.id == 0x100) && rateBelow s (sel - 0x200) (parN t 0x100 sel) then some 0x0011
  else if l.any (fun w => [0x68, 0x6B, 0x6C, 0x6D].contains w.info.id) && alignBad t sel then some 0x0007
  else if l.any (fun w => w.info.id == 0x36 || w.info.id == 0x40) && gainRefused t then some 0x0004
  else none

/-- A parameter command (R431): everything is checked before anything is applied. -/
def paramSet (f : PFam) (o : Origin) (p : List Byte) (s : State) : State :=
  let sel := fieldLe p 0 2
  if !selKnown f sel then setResult o (badParam 0) s
  else
    match readEntries s f p (fieldLe p 2 2) with
    | .inl d => setResult o (badParam d) s
    | .inr l =>
      let t := putEntries sel l s
      match l.find? (combBad t sel) with
      | some w => setResult o (badParam w.off) s
      | none =>
        match paramRefused s t sel l with
        | some d => setResult o (notPermitted d) s
        | none =>
          let u := l.foldl (fun u w => (placesOf w.info sel).foldl (fun u q => afterPar s w.info.id q u) u) t
          let c := if l.any (fun w => w.info.id == 0x36 || w.info.id == 0x40) then setClaims u else (false, u)
          let u := saveCfg c.2
          if c.1 then setWait o .align u
          else if l.any (fun w => w.info.id == 0x100) && (groupOf u (sel - 0x200)).changing then setWait o (.mode (sel - 0x200)) u
          else setResult o (okRes (if f == .eng then le 4 0 else [])) u

/-- One entry of a read: value in force, DEFAULT while nothing is written (R432). -/
def readBack (s : State) (i : PInfo) (sel c : Nat) : List Byte :=
  let q := pPlace i sel
  let v := parC s i.id q c
  le 2 i.id ++ [BitVec.ofNat 8 (b2n (parSet? s i.id q c).isNone), 0]
    ++ (if i.cls then le 7 v.toNat ++ le 1 c else le 8 (ofSigned 64 v))

/-- A read command (R432). -/
def paramGet (f : PFam) (o : Origin) (p : List Byte) (s : State) : State :=
  let sel := fieldLe p 0 2
  checked o [(!selKnown f sel || (f == .eng && sel == 3), 0), (fieldLe p 2 2 != 0, 2)] (fun s =>
    let l := (pList f).filter (fun i => pApplies s i sel)
    let es := l.flatMap (fun i => if i.cls then (List.range 8).map (readBack s i sel) else [readBack s i sel 0])
    setResult o (okRes (le 2 sel ++ le 2 es.length ++ es.flatten)) s) s

end Sys2Proof.Machine
end

