-- ==== Sys2Proof/Machine/TimeIO.lean ====
section
/-! DEFINITION. Time inputs and outputs: event edges, TDCREF, triggers, pulses per second, aligned clock outputs, the
Time Tap (chapter 08). The reads of EV_POP and of the clearing counters stand with the registers. -/

namespace Sys2Proof.Machine

/-- A selected edge on an event input (R174 to R182, R195). -/
def execEventEdge (k : Fin 8) (rising : Bool) (t : Nat) (tdc : Option TdcSample) (s : State) :
    Host.Outcome State Fault Refusal :=
  let n := k.val
  let sel := parN s 0x62 n
  if !ioOn s n || !(if rising then sel == 1 || sel == 3 else sel == 2 || sel == 3) then done s
  else if !domOn s 13 then done (when (parB s 0x66 n) (wakeFrom 5 n (wakeMask s 5 n) (noBase n s)) (noBase n s))
  else if s.te.ks.control.isNone then done (noBase n s)
  else
    match baseOf s n with
    | none => done (noBase n s)
    | some tb =>
      let dead := match (evOf s n).lastCap with
        | some c => decide (c ≤ t) && decide (t - c < 2 * uNs)
        | none => false
      if dead then done (startLost n (evMod n (fun e => { e with dead := satU 16 (e.dead + 1) }) s))
      else
        let at' : Int := (t : Int) - par s 0x63 n
        let s' := fun (s : State) => evMod n (fun e => { e with lastCap := some t }) s
        if tb then
          match tdc with
          | some x => done (s' (capture n rising true (tdcStamp s x at') (tdcTake x.n s)))
          | none => done (noBase n s)
        else done (s' (capture n rising false at' s))

/-- The first TDCREF edge at or after the whole second that alignment waited for (R181, R182). -/
def execTdcrefAlign (t : Nat) (s : State) : Host.Outcome State Fault Refusal :=
  let d := s.tio.tdc
  if !ioOn s 23 || d.aligned || d.out || !domOn s 13 then done s
  else done (tdcEvent (tdcMod (fun d => { d with
    present := true, aligned := true, fallen := false, epoch := (d.epoch + 1) % 16
    base := (t : Rat) + d.lastOffset.getD 0, mark := 0 }) s))

/-- TDCREF is missing for four nominal periods, or beyond 100 ppm, before its first alignment too (R182). -/
def execTdcrefLoss (s : State) : Host.Outcome State Fault Refusal :=
  if !ioOn s 23 || !domOn s 13 || s.tio.tdc.out then done s
  else done (tdcEvent (tdcMod (fun d => { d with
    present := false, out := true, lost := true, aligned := false, fallen := parB s 0x6F 23 }) s))

/-- TDCREF has been present and within frequency for 1 s: the flag clears, realignment waits for its edge (R182). -/
def execTdcrefRestore (s : State) : Host.Outcome State Fault Refusal :=
  if !ioOn s 23 || !domOn s 13 || !s.tio.tdc.out then done s
  else done (tdcEvent (tdcMod (fun d => { d with present := true, out := false, lost := false }) s))

/-- Full time reaches the instant of a trigger output's next pulse (R183, R185, R195). -/
def execTriggerPulse (j : Fin 8) (s : State) : Host.Outcome State Fault Refusal :=
  let n := j.val
  match nextTrig (trigOf s n).queue with
  | none => done s
  | some e =>
    if ioOn s (8 + n) && tioLive s then
      let p := pulseAt e e.emitted
      done (trigMod n (fun t => { t with
          pulses := (t.pulses + 1) % 65536, last := some (p.toNat, e.width)
          out := some (placePulse s (8 + n) p e.width (parB s 0x67 (8 + n))) })
        (trigStep n e.handle 1 s))
    else done (trigMiss n e.handle 1 s)

/-- Full time reaches a whole second plus OFFSET (R186): the output rises there and stays high for WIDTH. -/
def execPpsOutPulse (j : Fin 2) (s : State) : Host.Outcome State Fault Refusal :=
  let sel := 16 + j.val
  let gate := parN s 0x6A sel = 0 ∨ s.clk.tod = .traceable ∨ s.clk.tod = .holdover
  if ioOn s sel && tioLive s && decide gate then
    let off := par s 0x68 sel
    let k := roundAway (((s.clk.now : Int) - off : Int) / (uSec : Rat))
    let p := toPs (k * (uSec : Int) + off : Int)
    done { s with tio := { s.tio with pps := s.tio.pps.set j (some (placePulse s sel p (parN s 0x69 sel) false)) } }
  else done s

/-- An aligned clock output starts at a whole second plus OFFSET; a start after a step is reported (R188). -/
def execClkoutAlignStart (c : Fin 4) (s : State) : Host.Outcome State Fault Refusal :=
  let sel := 18 + c.val
  if clkoutMay s c.val && parB s 0x6D sel && !s.tio.clkRun[c] then
    let off := par s 0x68 sel
    let k := roundAway (((s.clk.now : Int) - off : Int) / (uSec : Rat))
    let p := toPs (k * (uSec : Int) + off : Int)
    let was := s.tio.clkRealign[c]
    let s := clkStart c.val (some p.toNat) { s with tio := { s.tio with clkRealign := s.tio.clkRealign.set c false } }
    done (if was then issueEvent 0x0303 sel [] s else s)
  else done s

/-- The digitiser samples TT_RD_N low with TT_A on a TT_CLK edge (R189 to R191, R194): the word goes onto TT_D. A read of
word 0 holds words 1 to 3 of its instant, `back` before the sampling edge, for the reads that follow. `cycle` counts the
TT_CLK cycles since the clock last returned. -/
def execTimeTapWord0Read (a : Fin 16) (cycle back : Nat) (s : State) : Host.Outcome State Fault Refusal :=
  if !domOn s 13 || !ioOn s 22 || !s.tio.tap.clkPresent then done s
  else
    let s := tapMod (fun t => { t with refill := max t.refill (min 4 cycle) }) s
    let s := if a = 0 then tapMod (fun t => { t with snap := vec4 (tapWords s (snapEdge s back)), mirror := snapEdge s back }) s else s
    done (tapMod (fun t => { t with ttD := tapWord s a }) s)

/-- A falling edge of TT_LATCH_N (R192, R193). -/
def execTtLatch (t : Nat) (s : State) : Host.Outcome State Fault Refusal :=
  if !tioLive s || !ioOn s 22 then done s
  else if s.tio.tap.computing.isSome then done (tapMod (fun x => { x with ignored := true }) s)
  else
    let at' := (((t : Int) - par s 0x63 22) % (timeSpan : Int)).toNat
    done (tapMod (fun x => { x with valid := false, computing := some (tapWords s at') }) s)

/-- The latch result is ready (R192, R193). -/
def execTtLatchResult (s : State) : Host.Outcome State Fault Refusal :=
  match s.tio.tap.computing with
  | some w =>
    done (tapMod (fun x => { x with
      latch := vec4 w, computing := none, seq := (x.seq + 1) % 65536, valid := true, overrun := x.ignored, ignored := false }) s)
  | none => done s

/-- No TT_CLK edge for 1 µs (R194), whether or not there has been one before. -/
def execTtClkLost (s : State) : Host.Outcome State Fault Refusal :=
  if !domOn s 13 || s.tio.tap.clkAbsent then done s
  else done (issueEvent 0x0304 22 [0] (tapMod (fun x => { x with clkPresent := false, clkAbsent := true, clkLost := true }) s))

/-- TT_CLK returns: the mirror is filled again over four cycles (R194). -/
def execTtClkReturn (s : State) : Host.Outcome State Fault Refusal :=
  if !domOn s 13 || s.tio.tap.clkPresent then done s
  else done (issueEvent 0x0304 22 [1] (tapMod (fun x => { x with clkPresent := true, clkAbsent := false, refill := 0 }) s))

end Sys2Proof.Machine
end

