-- ==== Sys2Proof/Machine/TimeCmds.lean ====
section
/-! DEFINITION. The system and time commands: IDENTIFY, EVENT_REPLAY, time and UTC, references, software steering, the model,
triggers (R436, R437, R442 to R449). -/

namespace Sys2Proof.Machine

/-! ### System -/

/-- The running image's version word; the loader's own is not stated. -/
def fwVersion (s : State) : Nat :=
  let v := (imageHeader ((vget s.boot.slots s.boot.slot {}).bytes.take 128)).map (fun h => h.1)
  if s.boot.stage = 3 then Config.romVersion else v.getD Config.romVersion

/-- IDENTIFY (R436, R479). -/
def identify (o : Origin) (_ : List Byte) (s : State) : State :=
  setResult o (okRes (le 4 0x00241F29 ++ le 4 0x10 ++ le 8 Config.serial.toNat ++ le 4 (fwVersion s)
    ++ [BitVec.ofNat 8 (if s.boot.stage = 3 then 255 else s.boot.slot), 0, 0, 0] ++ le 4 (strapWord s.boot.straps).toNat
    ++ le 4 (blockOf s).oscHz)) s
def execIdentify (o : Origin) (s : State) : Host.Outcome State Fault Refusal := done (onCommand o 0x0101 (identify o) s)

/-- EVENT_REPLAY (R437). -/
def eventReplay (o : Origin) (p : List Byte) (s : State) : State :=
  let first := fieldLe p 0 4; let m := fieldLe p 4 4
  checked o [(m == 0 || decide (127 < m), 4)] (fun s =>
    let l := s.mb.log.reverse.filter (fun e => decide (first ≤ e.dseq))
    let oldest := (s.mb.log.getLast?.map (fun e => e.dseq)).getD 0
    let l := if s.mb.dseq < first then [] else l
    setResult o (okRes (le 2 (min m l.length) ++ le 2 (b2n (decide (first < oldest)) + 2 * b2n (decide (m < l.length)))
      ++ (l.take m).flatMap (fun e => eventBytes e true))) s) s
def execEventReplay (o : Origin) (s : State) : Host.Outcome State Fault Refusal := done (onCommand o 0x0102 (eventReplay o) s)

/-! ### Time and UTC -/

/-- The SECONDS that the step edge would carry without a step (R39, R442). -/
def edgeSeconds (s : State) : Nat := ((s.clk.now + (uSec - 1)) / uSec) % 2 ^ 48

/-- TIME_SET (R442, R39). -/
def timeSet (o : Origin) (p : List Byte) (s : State) : State :=
  let mode := fieldLe p 0 1; let v := fieldLe p 8 8
  let edge := edgeSeconds s
  let d : Int := match mode with
    | 0 => ((v : Int) - edge) * uSec
    | 1 => toSigned 64 v
    | _ => 0
  let after := (edge * uSec : Nat) + d
  checked o [(decide (2 < mode), 0), (!zeros p 1 7, firstSet p 1 7),
      (decide (mode = 0 ∧ 2 ^ 48 ≤ v) || decide (mode = 2 ∧ v ≠ 0) || decide (after < 0 ∨ (timeSpan : Int) ≤ after), 8)] (fun s =>
    setResult o (okRes (le 8 edge ++ le 8 (ofSigned 64 (satS 64 d))))
      (if mode = 2 then { s with clk := { s.clk with step := none } } else requestStep d true s)) s
def execTimeSet (o : Origin) (s : State) : Host.Outcome State Fault Refusal := done (onCommand o 0x0201 (timeSet o) s)

/-- UTC_SET (R443): VALID, the two leap flags and UTC_OFFSET. -/
def utcSet (o : Origin) (p : List Byte) (s : State) : State :=
  let t := fieldLe p 0 1; let w := fieldLe p 4 4
  checked o [(decide (2 < t), 0), (!zeros p 1 3, firstSet p 1 3), (bits w 16 13 != 0 || bits w 29 2 == 3 || (t == 2 && w != 0), 4)] (fun s =>
    let u : Word := BitVec.ofNat 32 w
    setResult o (okRes []) { s with clk := match t with
      | 0 => { s.clk with utcCfg := some u }
      | 1 => { s.clk with utcOvr := some u }
      | _ => { s.clk with utcOvr := none } }) s
def execUtcSet (o : Origin) (s : State) : Host.Outcome State Fault Refusal := done (onCommand o 0x0202 (utcSet o) s)

/-! ### References -/

/-- REF_SELECT (R444, R133). -/
def refSelect (o : Origin) (p : List Byte) (s : State) : State :=
  let r := fieldLe p 0 1
  let e := ctl s
  checked o [(r != 255 && !refList.contains r, 0), (!zeros p 1 3, firstSet p 1 3)] (fun s =>
    let want := if r = 255 then none else some r
    if !autoMode s e then setResult o (notPermitted 0x0005) s
    else if r != 255 && !selectable s r then setResult o (notPermitted 0x0003) s
    else if (engOf s e).sw.isSome then setResult o (okRes (le 4 1)) (bothX (fun v => { v with selCmd := some want }) s)
    else setResult o (okRes (le 4 0)) (bothX (fun v => { v with selHeld := want, selCmd := none }) s)) s
def execRefSelect (o : Origin) (s : State) : Host.Outcome State Fault Refusal := done (onCommand o 0x0211 (refSelect o) s)

/-- The action of REF_QUALIFY on a reference (R445). -/
def qualifyRef (r act : Nat) (s : State) : State :=
  match act, (viewOf s r).st with
  | 0, .disqualified => setRef r .qualifying 0 s
  | 0, .suspect => setRef r .available 0 s
  | 0, _ => s
  | _, .disabled => s
  | _, _ => setRef r .disqualified 9 s

/-- REF_QUALIFY. A deconfigured reference stays as it is. -/
def refQualify (o : Origin) (p : List Byte) (s : State) : State :=
  let r := fieldLe p 0 1; let act := fieldLe p 1 1
  checked o [(!refList.contains r, 0), (decide (1 < act), 1), (!zeros p 2 2, firstSet p 2 2)] (fun s => setResult o (okRes []) (qualifyRef r act s)) s
def execRefQualify (o : Origin) (s : State) : Host.Outcome State Fault Refusal := done (onCommand o 0x0212 (refQualify o) s)

/-- REF_RELEASE (R445, R132). -/
def refRelease (o : Origin) (p : List Byte) (s : State) : State :=
  let r := fieldLe p 0 1
  let e := ctl s
  checked o [(!refList.contains r, 0), (!zeros p 1 3, firstSet p 1 3)] (fun s =>
    if (engOf s e).sw.isSome || (engOf s e).sel != some r then setResult o (notPermitted 0x0009) s
    else
      let moved := decide ((viewOf s r).absorb ≠ 0)
      setResult o (okRes []) (engMod e (fun x => { x with
        slewAt := if x.slewing then x.slewAt else s.clk.elapsed, slewing := x.slewing || moved }) s)) s
def execRefRelease (o : Origin) (s : State) : Host.Outcome State Fault Refusal := done (onCommand o 0x0213 (refRelease o) s)

/-! ### Software steering (R144 to R146, R446) -/

/-- Software returns the engine to automatic: selection afresh, the initial phase absorbed; without a selectable reference
HOLDOVER or FREE_RUN (R135, R146). -/
def toAuto (e : Nat) (s : State) : State :=
  let s := engMod e (fun x => { x with hoInSw := false }) s
  match wantedRef s none with
  | some r => engxMod e (fun v => { v with acqSw := true }) (startAcquire e r s)
  | none => noReference e s

/-- Software steering begins in the engine in control: a switch under way ends uncompleted, for selection is suspended (R146). -/
def enterSw (e : Nat) (st : ServoSt) (s : State) : State :=
  setServo e st (engMod e (fun x => { x with hoInSw := false, forceSw := false, acqPhase := 0, lastFresh := 0 }) (abandonSwitch s))

/-- The transitions of SERVO_MODE; the mode already in force changes nothing. -/
def servoModeTo (e mode : Nat) (s : State) : State :=
  let st := (engOf s e).st
  match mode with
  | 0 => if autoMode s e then s else toAuto e s
  | 1 => if st = .swOpen then s else enterSw e .swOpen (engxMod e (fun v => { v with target := (engOf s e).y, swY := (engOf s e).y }) s)
  | _ => if st = .swClosed then s else enterSw e .swClosed (engxMod e (fun v => { v with estimates := [] }) s)

/-- SERVO_MODE: with neither engine in control there is none that it applies to. -/
def servoModeCmd (o : Origin) (p : List Byte) (s : State) : State :=
  let m := fieldLe p 0 1
  checked o [(decide (2 < m), 0), (!zeros p 1 3, firstSet p 1 3)] (fun s =>
    setResult o (okRes []) (if s.te.ks.control.isSome then servoModeTo (ctl s) m s else s)) s
def execServoMode (o : Origin) (s : State) : Host.Outcome State Fault Refusal := done (onCommand o 0x0221 (servoModeCmd o) s)

/-- The engine in control is in a servo state. -/
def ctlIn (s : State) (st : ServoSt) : Bool := s.te.ks.control.isSome && (engOf s (ctl s)).st == st

/-- FREQ_WRITE (R144). -/
def freqWrite (o : Origin) (p : List Byte) (s : State) : State :=
  let v := toSigned 64 (fieldLe p 0 8)
  checked o [(decide (parE s 0x27 (ctl s) < |v|), 0)] (fun s =>
    if ctlIn s .swOpen then setResult o (okRes []) (engxMod (ctl s) (fun x => { x with target := v }) s)
    else setResult o (notPermitted 0x0005) s) s
def execFreqWrite (o : Origin) (s : State) : Host.Outcome State Fault Refusal := done (onCommand o 0x0222 (freqWrite o) s)

/-- PHASE_EST (R145, R446). -/
def phaseEst (o : Origin) (p : List Byte) (s : State) : State :=
  let v := toSigned 64 (fieldLe p 16 8)
  match fullOf (slice p 0 16) with
  | none => setResult o (badParam 0) s
  | some t =>
    checked o [(decide (s.clk.now < t ∨ t + uSec < s.clk.now), 0)] (fun s =>
      if ctlIn s .swClosed then
        setResult o (okRes []) (engxMod (ctl s) (fun x => { x with estimates := x.estimates ++ [{ tag := t, val := v }] }) s)
      else setResult o (notPermitted 0x0005) s) s
def execPhaseEst (o : Origin) (s : State) : Host.Outcome State Fault Refusal := done (onCommand o 0x0223 (phaseEst o) s)

/-! ### The model (R447) -/

/-- The record of MODEL_GET: t counts from the whole second of full time now. -/
def modelRecord (s : State) (e h : Nat) : List Byte :=
  let x := engOf s e; let v := engxOf s e
  le 4 (b2n v.modelReady + 2 * b2n (tempReady v) + 4 * b2n x.tempFault) ++ le 4 (x.learned / 3600)
    ++ (modelWords x (wholeOrigin s)).flatMap s64 ++ (sigmaWords s e).flatMap s64
    ++ le 8 (satU 64 (forecastAt (fSqOf x v) (sigAOf s e) x.model.sigT h)) ++ le 8 (secOf s.clk.now)

def modelGet (o : Origin) (p : List Byte) (s : State) : State :=
  let e := fieldLe p 0 1
  checked o [(decide (1 < e), 0), (!zeros p 1 3, firstSet p 1 3)] (fun s => setResult o (okRes (modelRecord s e (fieldLe p 4 4))) s) s
def execModelGet (o : Origin) (s : State) : Host.Outcome State Fault Refusal := done (onCommand o 0x0224 (modelGet o) s)

/-- MODEL_RESET (R123). -/
def modelReset (o : Origin) (p : List Byte) (s : State) : State :=
  let m := fieldLe p 0 1
  checked o [(decide (3 < m), 0), (!zeros p 1 3, firstSet p 1 3)] (fun s =>
    setResult o (okRes []) ([0, 1].foldl (fun s e => if m.testBit e then learnReset e s else s) s)) s
def execModelReset (o : Origin) (s : State) : Host.Outcome State Fault Refusal := done (onCommand o 0x0225 (modelReset o) s)

/-- ENGINE_CLEAR (R447, R154). -/
def engineClear (o : Origin) (p : List Byte) (s : State) : State :=
  let e := fieldLe p 0 1
  checked o [(decide (1 < e), 0), (!zeros p 1 3, firstSet p 1 3)] (fun s =>
    setResult o (okRes []) (if (engxOf s e).health = 1 then
      engxMod e (fun x => { x with faultedAt := [] }) (setHealth e 2 (engxMod e (fun x => { x with faultedAt := [] }) s)) else s)) s
def execEngineClear (o : Origin) (s : State) : Host.Outcome State Fault Refusal := done (onCommand o 0x0226 (engineClear o) s)

/-! ### Triggers (R183, R184, R449) -/

/-- The rounded rises of an entry from its next pulse on, in ps: first, spacing, how many (none without end). -/
def trigRises (e : TrigEntry) : Int × Nat × Option Nat :=
  (pulseAt e e.emitted, e.period, if e.period = 0 then some 1 else if e.count = 0 then none else some (e.count - e.emitted))

/-- Pulse `a` of a new entry overlaps a pulse of a train, or rises within 3.2 ns of its end: the first pulse of the train that
ends later than 3.2 ns before `a` rises before the new one falls. -/
def pulseClash (a : Int) (w : Nat) (q : Int × Nat × Option Nat) (qw : Nat) : Bool :=
  let (b, per, n) := q
  let tail := a - 1600 * qw - 3200
  let j := if tail < b then 0 else if per = 0 then 1 else ((tail - b) / (per : Int)).toNat + 1
  n.all (fun n => decide (j < n)) && decide (b + j * per < a + 1600 * w)

/-- A train of pulses of a given width meets a new entry: its pulses up to the last end of the train count. -/
def trigClash (x : TrigEntry) (q : Int × Nat × Option Nat) (qw : Nat) : Bool :=
  let (a, per, n) := trigRises x
  let (b, qper, qn) := q
  let last := b + ((qn.getD 1 - 1) * qper : Nat) + 1600 * qw + 3200
  let reach := if last ≤ a then 0 else if per = 0 then 1 else ((last - a) / (per : Int)).toNat + 1
  (List.range (min reach (n.getD reach))).any (fun i => pulseClash (a + i * per) x.width q qw)

/-- The pulses an output still owes: those of its entries, and one that has risen (R184). -/
def trigTrains (s : State) (j : Nat) : List ((Int × Nat × Option Nat) × Nat) :=
  let t := trigOf s j
  (t.queue.map (fun q => (trigRises q, q.width)))
    ++ ((t.last.filter (fun l => decide ((l.1 : Int) ≤ toPs s.clk.now))).toList.map (fun l => (((l.1 : Int), 0, some 1), l.2)))

/-- TRIG_SCHEDULE. -/
def trigSchedule (o : Origin) (p : List Byte) (s : State) : State :=
  let j := fieldLe p 0 1; let w := fieldLe p 4 4; let per := fieldLe p 24 8
  let start := fullOf (slice p 8 16)
  checked o [(decide (7 < j), 0), (!zeros p 1 3, firstSet p 1 3), (decide (w = 0 ∨ 2 ^ 28 < w), 4),
      (!start.any (fun t => decide (s.clk.now + 10 * uUs ≤ t)), 8),
      (decide (per ≠ 0 ∧ (per < 3200 + 1600 * w ∨ 1000000000000000 < per)), 24), (!zeros p 36 4, firstSet p 36 4)] (fun s =>
    let t := trigOf s j
    let e : TrigEntry := { handle := t.accepted % 65536, start := start.getD 0, width := w, period := per, count := fieldLe p 32 4 }
    if !domOn s 13 then setResult o (notPermitted 0x0008) s
    else if 16 ≤ t.queue.length then setResult o (notPermitted 0x000A) s
    else if t.queue.any (fun q => q.count == 0) || (trigTrains s j).any (fun q => trigClash e q.1 q.2) then setResult o (notPermitted 0x0006) s
    else setResult o (okRes (le 4 e.handle)) (trigMod j (fun t => { t with queue := t.queue ++ [e], accepted := t.accepted + 1 }) s)) s
def execTrigSchedule (o : Origin) (s : State) : Host.Outcome State Fault Refusal := done (onCommand o 0x0310 (trigSchedule o) s)

/-- TRIG_CANCEL. -/
def trigCancel (o : Origin) (p : List Byte) (s : State) : State :=
  let j := fieldLe p 0 1; let all := fieldLe p 1 1; let h := fieldLe p 2 2
  checked o [(decide (7 < j), 0), (decide (1 < all), 1)] (fun s =>
    setResult o (okRes []) (trigMod j (fun t => { t with
      queue := if all = 1 then [] else t.queue.filter (fun e => e.handle != h) }) s)) s
def execTrigCancel (o : Origin) (s : State) : Host.Outcome State Fault Refusal := done (onCommand o 0x0311 (trigCancel o) s)

end Sys2Proof.Machine
end

