-- ==== Sys2Proof/Machine/BootRows.lean ====
section
/-! DEFINITION. Boot, measurement and firmware update (R86, R198, R388, R423, R467, R470 to R482, R485). -/

namespace Sys2Proof.Machine

/-! ### Image slots (R472, R474) -/

/-- The size of a slot. -/
def slotSize (s : State) : Nat := (s.boot.flashMiB - 2) * 2 ^ 20 / 2
def slotOf (s : State) (k : Nat) : Slot := vget s.boot.slots k {}
def slotHeader (x : Slot) : Option (Nat × Nat × List Byte) := imageHeader (x.bytes.take 128)
/-- An image's body; flash that has not been written reads 0xFF. -/
def slotBody (x : Slot) (n : Nat) : List Byte :=
  let b := (x.bytes.drop 128).take n
  b ++ List.replicate (n - b.length) 0xFF

/-- A slot's state: 0 empty, 1 valid, 2 header bad, 3 digest bad, 4 below rollback (R474, R485). -/
def slotState (s : State) (k : Nat) : Nat :=
  let x := slotOf s k
  if x.bytes.isEmpty || x.openBytes.isSome then 0
  else match slotHeader x with
    | none => 2
    | some (v, n, d) =>
      if slotSize s < 128 + n then 2
      else if Config.sha384 (slotBody x n) ≠ d then 3 else if v / 2 ^ 24 % 256 < s.boot.rollback then 4 else 1

/-- GL_BOOT_STATUS takes the slots' states and the counter. -/
def showSlots (s : State) : State :=
  let st := fun (k : Nat) => slotState s k
  bootMod (fun b => { b with slots := vmapI b.slots (fun k x => { x with st := st k.val }), rbShown := b.rollback }) s

/-! ### The ROM's choice (R475, R476) -/

/-- What the ROM starts: a slot, none for loader mode; whether as a trial; whether it fell back; whether a pending trial is
spent. -/
structure BootChoice where
  slot     : Option Nat
  trial    : Bool := false
  fallback : Bool := false
  spent    : Bool := false
  deriving DecidableEq, Repr

/-- A slot, or the other one where it is invalid. -/
def orOther (valid : Nat → Bool) (k : Nat) (trial fell spent : Bool) : BootChoice :=
  if valid k then { slot := some k, trial, fallback := fell, spent }
  else if valid (1 - k) then { slot := some (1 - k), fallback := true, spent } else { slot := none, fallback := fell, spent }

/-- The choice: an attempt not confirmed falls back to the previous ACTIVE_SLOT. -/
def bootChoice (boot : Nat) (b : BootBlock) (attempted : Bool) (valid : Nat → Bool) : BootChoice :=
  match boot with
  | 0 =>
    if attempted then orOther valid b.active false true false
    else if b.trial then orOther valid b.trialSlot true false true else orOther valid b.active false false false
  | 1 => { slot := if valid 0 then some 0 else none }
  | 2 => { slot := if valid 1 then some 1 else none }
  | _ => { slot := none }

/-! ### The ROM (R198, R388, R471, R479, R480) -/

/-- The oscillator's configured frequency is read once after POR and CHIP reset. -/
def readFrequency (s : State) : State :=
  if s.ck.freqRead then s
  else
    let f := (blockOf s).oscHz
    let hz := if f = 0 then oscNominal s.boot.straps.oscf else f
    let was := s.ck.oscHz
    let s := { s with ck := { s.ck with oscHz := hz, configured := f != 0, freqRead := true } }
    if hz = was then s else startSynths (if s.clk.kettle then kettleRestart s else s)

/-- The PCIe mode is set, and the link leaves Detect. -/
def setPcieMode (s : State) : State :=
  hostMod (fun h => { h with sris := (blockOf s).sris, modeSet := true, linkUp := if h.modeSet then h.linkUp else !h.perst }) s

/-- The measurements of a start (R480). -/
def measure (c : BootChoice) (s : State) : State :=
  let s := bootMod (fun b => { b with mreg := Vector.replicate 8 (List.replicate 48 0), mregLocked := false }) s
  let b := blockOf s
  let s := extendMreg 0 (Config.sha384 Config.romImage) s
  let s := extendMreg 1 (Config.sha384 (Config.otpState s.boot.rollback ++ le 4 (strapWord s.boot.straps).toNat)) s
  let s := extendMreg 2 (Config.sha384 (Config.blockBytes [b2n b.valid, b.seq, b.active, b.trialSlot, b2n b.trial, b2n b.sris, b.oscHz])) s
  let s := match c.slot with
    | some k =>
      let x := slotOf s k
      extendMreg 3 (Config.sha384 (x.bytes.take 128 ++ slotBody x (((slotHeader x).map (fun h => h.2.1)).getD 0))) s
    | none => s
  let s := extendMreg 4 (Config.sha384 Config.factoryData) s
  let s := extendMreg 7 (Config.sha384 ((List.finRange 48).map (Config.bootRecordByte (c.slot.getD 0) c.trial c.fallback c.slot.isNone))) s
  bootMod (fun b => { b with mregLocked := true }) s

/-- One start of the boot ROM. -/
def romStart (s : State) : State :=
  let s := bootMod (fun b => { b with starts := (b.starts + 1) % 256 }) s
  let s := showSlots (setPcieMode (readFrequency s))
  let c := bootChoice (s.boot.straps.boot % 4) (blockOf s) s.boot.attempt.isSome (fun k => slotState s k == 1)
  let s := if c.spent then writeBlock (fun b => { b with trial := false }) s else s
  let s := sealKeys (makeKeys (measure c s))
  let s := bootMod (fun b => { b with
    stage := if c.slot.isSome then 1 else 3
    slot := c.slot.getD 0, trial := c.trial, fallback := c.fallback
    attempt := if c.trial then c.slot else none }) s
  if c.slot.isNone then { s with mb := { s.mb with fwReady := true } } else s

/-- ROM_START: the management core leaves reset. -/
def execRomStart (s : State) : Host.Outcome State Fault Refusal :=
  done (when (!inChip s && s.rst.mgmt.isNone && !s.rst.halted && domOn s 3 && s.boot.stage == 0) (romStart s) s)

/-! ### Obilwin's start (R86, R282, R326, R411, R420, R423, R470) -/

/-- A group takes its saved mode: its ports are configured, and its PLL runs for it. -/
def bootGroup (g m : Nat) (s : State) : State :=
  if modeOf s g = m then s
  else
    let s := servoIdle g (groupMod g (fun x => { x with mode := m, changing := m != 0, sentinel := none }) s)
    let s := forEach (((List.range 8).map (8 * g + ·)).filter (portUsed s)) (fun p s => portEvent p (portMod p (fun q => { q with st := .down }) s)) s
    retune (2 + g) s

/-- The saved configuration is put in force: modes, then everything else; BASE and PREF wait for R168. -/
def loadSaved (c : SavedCfg) (s : State) : State :=
  let old := s
  let s := { s with
      par := c.par
      pm := { s.pm with masks := c.masks }
      q := { s.q with wred := c.wred }
      fwd := { s.fwd with pcp := c.pcp, dscp := c.dscp }
      ck := { s.ck with bands := c.bands } }
  let s := (List.range 24).foldl (fun s g => bootGroup g (parN s 0x100 (0x200 + g)) s) s
  let s := c.par.foldl (fun s e =>
    let id := e.1 / 2 ^ 24
    if id = 0x100 then s else afterPar old id (e.1 % 2 ^ 24 / 16) s) s
  if c.par.any (fun e => e.1 / 2 ^ 24 == 0x36 || e.1 / 2 ^ 24 == 0x40) then
    (if gainRefused s then { s with boot := { s.boot with heldPref := true } } else (setClaims s).2)
  else s

/-- MREG5 takes the saved configuration's digest at each load (R480). -/
def measureSaved (s : State) : State :=
  match s.boot.saved with
  | some c => extendMreg 5 (Config.sha384 (cfgBytes c)) s
  | none => s

/-- Latency entries of lanes that hold none but the design nominal; the servos that waited for them. -/
def loadLatencies (s : State) : State :=
  let s := forEach ((List.range 192).filter (latBare s)) loadFactory s
  forEach (List.range 24) servoAdvance (bootMod (fun b => { b with factoryLoaded := true }) s)

/-- Tables and banks of D10, unless it still holds them. -/
def loadTables (s : State) : State :=
  let bare := s.fwd.hw == {} && s.cald.port.all (fun (c : PortCal) => c.banks.all (fun b => b.isEmpty))
  if domOn s 10 && bare then loadGolden s else s

/-- A new epoch: D-SEQ and log start again. -/
def newEpoch (s : State) : State :=
  mbMod (fun m => { m with epoch := (m.epoch + 1) % 2 ^ 32, dseq := 0, log := [], lostBefore := false }) s

/-- Commands that were in EXECUTING end with HW_FAULT, and what they relayed is forgotten (R423). -/
def failCommands (s : State) : State :=
  let s := fabMod (fun f => { f with relays := [] }) s
  (List.range 4).foldl (fun s c =>
    match (chanOf s c).exec with
    | some e => finish (.host (Fin.ofNat 4 c)) { e with resetAfter := none, d3After := none } { status := stHwFault, detail := 1 } s
    | none => s) s

/-- Obilwin runs; what its SRAM held is gone, or survived a MGMT restart. -/
def obilwinStart (savedOk : Bool) (s : State) : State :=
  let fresh := s.boot.fresh
  let last := s.mb.dseq
  let s := bootMod (fun b => { b with stage := 2, fresh := false }) (mbMod (fun m => { m with fwReady := true }) s)
  let s := if fresh || !savedOk then newEpoch s else s
  let s := if fresh then s
    else
      let s := failCommands s
      let s := if savedOk then s
        else fabMod (fun f => { f with remotes := [] }) (mbMod (fun m => { m with chan := m.chan.map (fun (x : Channel) => { x with sync := false }) }) s)
      issueEvent 0x0002 0 (le 4 last ++ le 1 s.rst.lastSource ++ le 1 (b2n (!savedOk))) s
  let s := measureSaved s
  let s := if fresh then (match s.boot.saved with
    | some c => loadSaved c s
    | none => s) else s
  loadTables (loadLatencies s)

/-- OBILWIN_START: the ROM has handed over. -/
def execObilwinStart (savedOk : Bool) (s : State) : Host.Outcome State Fault Refusal :=
  done (when (!inChip s && s.rst.mgmt.isNone && domOn s 3 && s.boot.stage == 1) (obilwinStart savedOk s) s)

/-! ### Trials, update and rollback (R467, R476 to R478) -/

/-- The trial slot becomes ACTIVE_SLOT. -/
def confirmTrial (s : State) : State :=
  match s.boot.attempt with
  | some k => if s.boot.trial then bootMod (fun b => { b with attempt := none, trial := false }) (writeBlock (fun b => { b with active := k }) s) else s
  | none => s

/-- TRIAL_CONFIRM: 10 s after FW_READY. -/
def execTrialConfirm (s : State) : Host.Outcome State Fault Refusal := done (when (obilwinUp s) (confirmTrial s) s)

def slotMod (k : Nat) (f : Slot → Slot) (s : State) : State := bootMod (fun b => { b with slots := vmodN b.slots k f }) s

/-- FW_STATE (R469). -/
def fwEvent (k flag version : Nat) (s : State) : State := issueEvent 0x0901 k (le 1 flag ++ [0, 0, 0] ++ le 4 version) s

/-- FW_OPEN: the slot is erased and a session starts; one left open on the other slot leaves that slot empty. -/
def fwOpen (o : Origin) (p : List Byte) (s : State) : State :=
  let k := fieldLe p 0 1; let n := fieldLe p 4 4
  checked o [(decide (1 < k), 0), (!zeros p 1 3, firstSet p 1 3), (decide (slotSize s < n ∨ 2 ^ 23 < n), 4)] (fun s =>
    if s.boot.stage = 2 ∧ s.boot.slot = k then setResult o (notPermitted 0x0018) s
    else
      let s := match s.boot.update with
        | some u => slotMod u.1 (fun _ => {}) s
        | none => s
      setResult o (okRes []) (bootMod (fun b => { b with update := some (k, n, 0) }) (slotMod k (fun _ => { openBytes := some 0 }) s))) s
def execFwOpen (o : Origin) (s : State) : Host.Outcome State Fault Refusal := done (onCommand o 0x0910 (fwOpen o) s)

/-- FW_WRITE: the next bytes of the open slot. -/
def fwWrite (o : Origin) (p : List Byte) (s : State) : State :=
  match s.boot.update with
  | none => setResult o (notPermitted 0x0018) s
  | some (k, n, w) =>
    let d := p.drop 4
    checked o [(fieldLe p 0 4 != w || decide (n < w + d.length), 0)] (fun s =>
      setResult o (okRes []) (bootMod (fun b => { b with update := some (k, n, w + d.length) })
        (slotMod k (fun x => { x with bytes := x.bytes ++ d, openBytes := some (w + d.length) }) s))) s
def execFwWrite (o : Origin) (s : State) : Host.Outcome State Fault Refusal := done (onCommand o 0x0911 (fwWrite o) s)

/-- FW_CLOSE: the image's digest and version word; where the header is not well formed, the version word is not stated. -/
def fwClose (o : Origin) (_ : List Byte) (s : State) : State :=
  match s.boot.update with
  | none => setResult o (notPermitted 0x0018) s
  | some (k, _, _) =>
    let s := bootMod (fun b => { b with update := none }) (slotMod k (fun x => { x with openBytes := none }) s)
    let st := slotState s k
    let s := slotMod k (fun x => { x with st := st }) s
    let x := slotOf s k
    match slotHeader x with
    | some (v, n, _) =>
      setResult o (okRes (Config.sha384 (slotBody x (min n (slotSize s - 128))) ++ le 4 v)) (fwEvent k 1 v s)
    | none =>
      let v := Config.freeNat s.free % 2 ^ 32
      setResult o (okRes (Config.sha384 (x.bytes.drop 128) ++ le 4 v)) (fwEvent k 1 v { s with free := s.free + 1 })
def execFwClose (o : Origin) (s : State) : Host.Outcome State Fault Refusal := done (onCommand o 0x0912 (fwClose o) s)

/-- FW_ACTIVATE: TRIAL_SLOT and TRIAL are written; a restart at once is ordered with the response (R440, R477, R479). -/
def fwActivate (o : Origin) (p : List Byte) (s : State) : State :=
  let k := fieldLe p 0 1; let w := fieldLe p 1 1
  checked o [(decide (1 < k), 0), (decide (1 < w), 1), (!zeros p 2 2, firstSet p 2 2)] (fun s =>
    let st := slotState s k
    if st = 0 then setResult o (notPermitted 0x0018) s
    else if ((slotHeader (slotOf s k)).any (fun h => decide (h.1 / 2 ^ 24 % 256 < s.boot.rollback))) then setResult o (notPermitted 0x0019) s
    else
      let s := writeBlock (fun b => { b with trialSlot := k, trial := true }) s
      let s := fwEvent k 2 (((slotHeader (slotOf s k)).map (fun h => h.1)).getD 0) s
      setResult o (okRes []) (if w = 1 ∨ s.boot.stage = 3 then execMod o (fun e => { e with resetAfter := some 3 }) s else s)) s
def execFwActivate (o : Origin) (s : State) : Host.Outcome State Fault Refusal := done (onCommand o 0x0913 (fwActivate o) s)

/-- FW_COMMIT: the counter rises to the running image's major byte. -/
def fwCommit (o : Origin) (_ : List Byte) (s : State) : State :=
  let s := confirmTrial s
  let v := fwVersion s
  let n := max s.boot.rollback (v / 2 ^ 24 % 256)
  let s := extendMreg 6 (Config.sha384 (Config.securityEvent 1 n)) (bootMod (fun b => { b with rollback := n }) s)
  setResult o (okRes (le 4 n)) (fwEvent s.boot.slot 4 v (showSlots s))
def execFwCommit (o : Origin) (s : State) : Host.Outcome State Fault Refusal := done (onCommand o 0x0914 (fwCommit o) s)

end Sys2Proof.Machine
end

