-- ==== Sys2Proof/Machine/Calendar.lean ====
section
/-! DEFINITION. Course boundaries and settings (R310, R311), stream admission, withdrawal and activation (R323 to R326, R462
to R464), and the shortest-path computation (R343), after which streams over lost ports move. -/

namespace Sys2Proof.Machine

/-- A course boundary: the number advances, bank switches due activate, GUARD is taken up (R310, R316, R324); streams over a
changed path are planned again (R326). -/
def execCourseBoundary (s : State) : Host.Outcome State Fault Refusal :=
  if s.cald.running && domOn s 10 && !s.rst.por && s.rst.chip.isNone then
    let s := atCourse s
    let n := courseNow s
    let s := calMod (fun c => { c with number := n, resync := c.resync && s.rst.data.isSome }) s
    let s := (List.range 192).foldl (fun s p => if (pcalOf s p).pending = some n then switchBank p s else s) s
    let s := finishActs n s
    let s := calMod (fun c => { c with port := vmapI c.port (fun i x => { x with
      guard := if portUsed s i.val then guardOf s i.val else 0
      used := x.used.filter (fun m => decide ((s.clk.now : Rat) ≤ m.instant)) }) }) s
    done (if obilwinUp s then replanAll false s else s)
  else done s

/-- New COURSE_LEN and OFFSET take effect at the next whole second (R311). -/
def execCourseParamApply (s : State) : Host.Outcome State Fault Refusal :=
  match s.cald.pending with
  | some (len, off) =>
    let s := atSecond s
    let s := calMod (fun c => { c with courseLen := len, offset := off, running := true, pending := none }) s
    done (calMod (fun c => { c with number := courseNow s }) s)
  | none => done s

/-- SPF_COMPUTE: the route tables follow a database change (R343); streams over ports that are DOWN move (R326). -/
def execSpfCompute (s : State) : Host.Outcome State Fault Refusal :=
  done (when (obilwinUp s && s.fabS.reconv) (replanAll true (spfRun s)) s)

/-- A command waits for a stream. -/
def waitsFor (id : Nat) (e : Exec) : Bool :=
  match e.wait with
  | some (.stream i _) => i == id
  | _ => false

/-- Commands that wait for a stream end in TIMEOUT. -/
def timeoutStream (id : Nat) (s : State) : State :=
  let finish := fun (e : Exec) => if waitsFor id e then { e with result := some { status := stTimeout }, wait := none } else e
  mbMod (fun m => { m with
    chan := m.chan.map (fun (c : Channel) => { c with exec := c.exec.map finish })
    remote := m.remote.map (fun (r : RemoteExec) => { r with exec := finish r.exec }) }) s

/-- CAL_ACTIVATION_TIMEOUT: a device has not acknowledged; the change is undone before its course (R324). -/
def execCalActivationTimeout (stream : Nat) (s : State) : Host.Outcome State Fault Refusal :=
  match s.cald.acts.find? (fun a => a.stream == stream && !a.waiting.isEmpty) with
  | some a => done (when (obilwinUp s) (timeoutStream stream (undoAct a s)) s)
  | none => done s

/-! ### Commands -/

/-- STREAM_ID: as given; where 0, a free choice among those not in use. -/
def streamIdFor (s : State) (p : List Byte) : Nat :=
  let used := fun (i : Nat) => s.cald.streams.any (fun x => x.id == i)
  let free := Config.freeNat (s.free + 5) % 2 ^ 32
  if fieldLe p 20 4 ≠ 0 then fieldLe p 20 4
  else if free = 0 ∨ used free then ((List.range (s.cald.streams.length + 1)).find? (fun i => !used (i + 1))).getD 0 + 1 else free

/-- CAL_ADMIT (R323, R463, R464). A switch already ordered at a port of the plan is the conflict of R468. -/
def calAdmit (o : Origin) (p : List Byte) (s : State) : State :=
  let src := fieldLe p 0 4; let dst := fieldLe p 4 4
  let k := fieldLe p 10 1; let fl := fieldLe p 11 1
  let given := fl.testBit 0
  let bad := if given && !dst.testBit 23 then pathBad s p else none
  checked o [(bits src 18 6 != 0, 0), (bits dst 18 5 != 0, 4), (decide (fieldLe p 8 2 < 64 ∨ 16383 < fieldLe p 8 2), 8),
      (decide (k < 1 ∨ 16 < k), 10), (decide (4 ≤ fl) || (given && dst.testBit 23), 11),
      (fl.testBit 1 && decide (coursePeriods s ≤ fieldLe p 12 4 + (k - 1) * fieldLe p 16 4) && s.cald.running, 12),
      (decide (k = 1 ∧ fieldLe p 16 4 ≠ 0), 16),
      (s.cald.streams.any (fun x => x.id == fieldLe p 20 4) && fieldLe p 20 4 != 0, 20), (bad.isSome, bad.getD 0)]
    (fun s =>
      match planStream s p (streamIdFor s p) true with
      | .inl d => setResult o (notPermitted d) { s with free := s.free + 8192 }
      | .inr x =>
        let s := { s with free := s.free + 8192 }
        if switchOrdered s (planPorts x) then setResult o { status := stBusy, detail := 0xFFFF } s
        else
          let b := planBytes x k
          let s := install p x 0 s
          if x.hops.any (fun h => h.dev != ownAddr s) then setWait o (.stream x.stream b) s else setResult o (okRes b) s) s

def execCalAdmit (o : Origin) (s : State) : Host.Outcome State Fault Refusal := done (onCommand o 0x0601 (calAdmit o) s)

/-- CAL_WITHDRAW (R464). -/
def calWithdraw (o : Origin) (p : List Byte) (s : State) : State :=
  match s.cald.streams.find? (fun x => x.id == fieldLe p 0 4) with
  | none => setResult o (badParam 0) s
  | some x =>
    if switchOrdered s x.ports then setResult o { status := stBusy, detail := 0xFFFF } s
    else
      let b := le 4 (courseAhead s)
      let s := withdraw x 1 s
      if x.devices.isEmpty then setResult o (okRes b) s else setWait o (.stream x.id b) s

def execCalWithdraw (o : Origin) (s : State) : Host.Outcome State Fault Refusal := done (onCommand o 0x0602 (calWithdraw o) s)

/-- COURSE_SET (R310, R311, R464). -/
def courseSet (o : Origin) (p : List Byte) (s : State) : State :=
  let len := fieldLe p 0 4; let off := fieldLe p 4 4
  checked o [(decide (len < 1000 ∨ 8192000 < len), 0), (decide (len ≤ off), 4)] (fun s =>
    if !s.cald.resv.isEmpty ∨ !s.cald.streams.isEmpty then setResult o (notPermitted 0x0014) s
    else setResult o (okRes []) (calMod (fun c => { c with pending := some (len, off) }) s)) s

def execCourseSet (o : Origin) (s : State) : Host.Outcome State Fault Refusal := done (onCommand o 0x0603 (courseSet o) s)

/-- A record of CAL_LIST_GET: its fields; their places are not given. -/
def listRecord (s : State) (r : Nat × Resv) : List Byte :=
  let x := s.cald.streams.find? (fun y => y.resv == r.1)
  let f := match x with
    | some y => [y.id, y.ctx, r.2.perCourse, r.2.maxLen, ownAddr s, y.ports.headD 0, y.course]
    | none => [r.2.stream, 0, r.2.perCourse, r.2.maxLen, 0, 0, 0]
  (List.finRange 16).map (Config.calListByte f)

/-- CAL_LIST_GET (R464). -/
def calListGet (o : Origin) (p : List Byte) (s : State) : State :=
  checked o [(decide (1023 < fieldLe p 0 4), 0)] (fun s =>
    let l := ((s.cald.resv.filter (fun r => decide (fieldLe p 0 4 ≤ r.1))).mergeSort (fun a b => decide (a.1 ≤ b.1))).take 254
    setResult o (okRes (le 4 l.length ++ l.flatMap (listRecord s))) s) s

def execCalListGet (o : Origin) (s : State) : Host.Outcome State Fault Refusal := done (onCommand o 0x0604 (calListGet o) s)

end Sys2Proof.Machine
end

