-- ==== Sys2Proof/Machine/Calibration.lean ====
section
/-! DEFINITION. Calibration and weathering (chapter 10): trims, code-density runs, replica loops, core voltage, eyes and
guards, retention, the history. -/

namespace Sys2Proof.Machine

/-- The hourly trims of termination and delay-line step, and the retries of those that were rejected (R215, R216). -/
def execTrimPeriodic (results : List (Nat × Int)) (s : State) : Host.Outcome State Fault Refusal :=
  done (applyTrims [rowTermination, rowDelayLine] results s)

/-- A converter can run: its domain On, and a lane converter's lane awake and past OFF (R218, R221). -/
def convMay (s : State) (c : Nat) : Bool :=
  domOn s (convDomain c) && (if c < 192 then (laneOf s c).st != .off && (laneOf s c).st != .sleep else true) && !inChip s

/-- The temperature at a converter, 1/16 °C. -/
def convTemp (s : State) (c : Nat) : Int := if c < 192 then (groupOf s (c / 8)).temp else vget s.pins.temps (convDomain c) 400

/-- CAL_PERIOD has passed since the last accepted result, or the temperature has moved by more than CAL_DELTA_T since then
(R221). -/
def calWanted (s : State) (c : Nat) : Bool :=
  let v := convOf s c
  v.accepted && (decide (v.lastAt + parN s 0x58 0 * uSec ≤ s.clk.elapsed) || decide (parN s 0x59 0 < (convTemp s c - v.lastTemp).natAbs))

/-- A run falls due (R221). -/
def execCalDue (c : Fin 217) (s : State) : Host.Outcome State Fault Refusal :=
  if convMay s c.val && !(convOf s c.val).running && calWanted s c.val then done (convMod c.val (fun v => { v with due := true }) s) else done s

/-- The retry after a rejection falls due (R223). -/
def execCalRetryTimer (c : Fin 217) (s : State) : Host.Outcome State Fault Refusal :=
  if convMay s c.val && !(convOf s c.val).running && decide (0 < (convOf s c.val).retry) then
    done (convMod c.val (fun v => { v with due := true }) s)
  else done s

/-- The ring's ratio to the time clock lies within 50 ppm of a fraction with a denominator up to 16 (R219). -/
def nearFraction (q : Rat) : Bool :=
  (List.range 16).any (fun i =>
    let d : Rat := (i + 1 : Nat)
    let f := (roundAway (q * d) : Rat) / d
    decide (absQ (q - f) ≤ f * 50 / 1000000))

/-- A due run starts when its ring is free and no lower index waits (R219, R221, R227, R228). -/
def execCodeDensityStart (c : Fin 217) (ratio : Nat × Nat) (s : State) : Host.Outcome State Fault Refusal :=
  let n := c.val
  let ring := convRing n
  let peers := (List.range 217).filter (fun k => convRing k == ring)
  if (convOf s n).due && convMay s n && !peers.any (fun k => (convOf s k).running)
      && !peers.any (fun k => decide (k < n) && (convOf s k).due && convMay s k) then
    let s := if nearFraction ((ratio.1 : Rat) / ratio.2) then
        { s with cal := { s.cal with ringTrim := vmodN s.cal.ringTrim ring (fun t => (t + 1) % 8) } }
      else s
    done (convMod n (fun v => { v with due := false, running := true, valid := false }) s)
  else done s

/-! ### The computation of R220 and the limits of R222 -/

/-- Bin widths in ps. -/
def binWidths (h : List Nat) : List Rat := h.map (fun (k : Nat) => (1600 * k : Nat) / (1048576 : Rat))

/-- Centre of each bin from the start of the line, ps: the widths below it and half its own. -/
def binCentres : Rat → List Rat → List Rat
  | _, [] => []
  | a, w :: r => (a + w / 2) :: binCentres (a + w) r

/-- INL of code k in bins. -/
def inlOf (c : Rat) (k : Nat) : Rat := c * 128 / 100 - ((k : Rat) + 1 / 2)

/-- The line length in ps. -/
def lineLength (h : List Nat) : Rat :=
  let k := (h.filter (0 < ·)).length
  if k < 2048 then 1600 * 2048 / k else 1600 * (1048576 - h.getD 2047 0) / 1048576 * 2048 / 2047

/-- The largest |INL| of the codes used. -/
def inlMax (h : List Nat) : Rat :=
  let k := (h.filter (0 < ·)).length
  (((binCentres 0 (binWidths h)).zipIdx).take k).foldl (fun m q => max m (absQ (inlOf q.1 q.2))) 0

/-- The first limit that a histogram breaks, 0 when it passes. -/
def densityReason (h : List Nat) : Nat :=
  let k := (h.filter (0 < ·)).length
  let w := (binWidths h).take k
  let low := if k < 2048 then w.take (k - 1) else w
  if h.sum < 1048576 then 5
  else if low.any (fun x => decide (x < 3 * 78125 / 1000000)) then 1
  else if w.any (fun x => decide (18 * 78125 / 1000000 < x)) then 2
  else if lineLength h < 1472 ∨ 1728 < lineLength h then 3
  else if 3 < inlMax h then 4 else 0

/-- The table as a converter applies it in this cycle (R226). -/
def tableNow (v : Conv) : List Rat := (List.range 2048).map (fun k => interval v k)

/-- A run ends: its result is accepted and blends, or is rejected (R220 to R226). -/
def execCodeDensityEnd (c : Fin 217) (hits : List Nat) (temp : Int) (s : State) : Host.Outcome State Fault Refusal :=
  let n := c.val
  if !(convOf s n).running then done s
  else
    match densityReason hits with
    | 0 =>
      let out := decide (n < 192) && (laneOf s n).ph.excl != 0
      let new := (binCentres 0 (binWidths hits)).map ps
      let s := convMod n (fun v => { v with
        old := if out then [] else tableNow v, cur := new, blend := if out then 64 else 0
        valid := true, running := false, fails := 0, stale := false, accepted := true, lastOk := true
        inlMax := satU 8 (roundAway (inlMax hits * 32)).toNat, seq := (v.seq + 1) % 4096
        line := (roundAway (ps (lineLength hits))).toNat, lastAt := s.clk.elapsed, lastTemp := temp, retry := 0 }) s
      let s := bump 28 1 s
      let s := if 192 ≤ n then { s with pins := { s.pins with temps := vmodN s.pins.temps (convDomain n) (fun _ => temp) } } else s
      done (if 192 ≤ n ∧ n ≤ 198 then cupRecord 1 2 true (cupRecord 0 2 true s) else s)
    | r => done (convReject n r s)

/-- Fewer than 2²⁰ hits within 1 s (R219). -/
def execCalRunHitsTimeout (c : Fin 217) (s : State) : Host.Outcome State Fault Refusal :=
  if (convOf s c.val).running then done (convReject c.val 5 s) else done s

/-! ### Weathering -/

/-- T_REF of a group's active set. -/
def groupTRef (s : State) (g : Nat) : Int := (latEntry s (8 * g) (setOf s (8 * g))).tRef

/-- Replica loops and ring oscillators of the domains that are On (R229, R230). -/
def execReplicaMeasure (paths : List ReplicaMeas) (rings : List (Fin 14 × Nat)) (s : State) : Host.Outcome State Fault Refusal :=
  let s := paths.foldl (fun s m =>
    if m.group < 24 ∧ domOn s (bankOf m.group) then
      let dt : Rat := (m.temp - groupTRef s m.group : Int) / 16
      let tc := Config.replicaTc m.group
      { s with wx := { s.wx with replica := vmodN s.wx.replica m.group (fun r => { r with
          tx := ((m.tx - tc.1 * dt) :: r.tx).take 10, rx := ((m.rx - tc.2 * dt) :: r.rx).take 10 }) } }
    else s) s
  done (rings.foldl (fun s r =>
    if domOn s r.1.val then { s with wx := { s.wx with rings := s.wx.rings.set r.1 r.2 } } else s) s)

/-- Adds a drift to the entries of a lane; the set in use blends (R226, R230). -/
def latAdd (l : Nat) (dTx dRx : Int) (s : State) : State :=
  let k := setOf s l
  let tx := txLatOf s l; let rx := rxLatOf s l
  let inF := (laneOf s l).ph.excl == 0
  let sec := secOf s.clk.now
  let e := vget (laneOf s l).lat.sets k {}
  laneMod l (fun x => { x with lat := { x.lat with
    sets := vmapI x.lat.sets (fun i v =>
      if v.source = 4 then v
      else
        let b := latEntry s l i.val
        { b with txLat := b.txLat + dTx, rxLat := b.rxLat + dRx, calSec := sec, source := if b.source = 1 then 2 else b.source })
    fromTx := if inF then tx else x.lat.fromTx
    fromRx := if inF then rx else x.lat.fromRx
    blend := if inF && e.source != 4 then 0 else x.lat.blend } }) s

/-- Every 10 min: a drift of LAT_STEP or more since the last update goes into every entry of the group (R230). -/
def execLatencyUpdate (g : GroupIx) (s : State) : Host.Outcome State Fault Refusal :=
  let r := s.wx.replica[g]
  if !obilwinUp s || decide (r.tx.length < 10) then done s
  else
    let mt := meanQ r.tx; let mr := meanQ r.rx
    let dt := mt - r.txAt.getD mt; let dr := mr - r.rxAt.getD mr
    let step : Rat := parV s 0x5A
    let base := r.txAt.isNone || r.rxAt.isNone
    if base || decide (step ≤ absQ dt) || decide (step ≤ absQ dr) then
      let s := { s with wx := { s.wx with replica := s.wx.replica.set g { r with txAt := some mt, rxAt := some mr } } }
      done (if base then s else (List.range 8).foldl (fun s n => latAdd (8 * g.val + n) (roundAway dt) (roundAway dr) s) s)
    else done s

/-- The core supply target moves by at most one step of 5 mV (R231, R234). -/
def execCoreVoltageAdjust (s : State) : Host.Outcome State Fault Refusal :=
  if !obilwinUp s || s.rst.data.isSome || !domOn s 10 then done s
  else
    let need := 1000 + (parV s 0x5F).toNat
    let ring : Nat := s.wx.rings[10]
    let order := fun (v : Nat) (s : State) => { s with pins := { s.pins with vout := v, voutRetried := false } }
    if ring < need then
      if 850 < s.wx.target + 5 then done { s with wx := { s.wx with voltMargin := true } }
      else done (order (s.wx.target + 5) s)
    else
      let s : State := { s with wx := { s.wx with voltMargin := false } }
      if need ≤ ring - Config.ringPerStep ∧ 705 ≤ s.wx.target then done (order (s.wx.target - 5) s) else done s

/-- The regulator's reading 2 ms after a command (R510): in force within 5 mV; one more try; then held, with VOLT_MARGIN. -/
def execVoutReadback (mv : Nat) (s : State) : Host.Outcome State Fault Refusal :=
  let v := s.pins.vout
  if !obilwinUp s || v == 0 then done s
  else if mv ≤ v + 5 ∧ v ≤ mv + 5 then
    done { s with
      wx := { s.wx with target := v }
      pins := { s.pins with voutRetried := false } }
  else if !s.pins.voutRetried then done { s with pins := { s.pins with voutRetried := true } }
  else done { s with
      wx := { s.wx with voltMargin := true }
      pins := { s.pins with vout := s.wx.target, voutRetried := false } }

/-- A weathering scan falls due: it starts, joins a running scan, or waits for READY (R229, R234). -/
def execWeatherEyeScan (l : LaneIx) (s : State) : Host.Outcome State Fault Refusal :=
  let n := l.val
  if (laneOf s n).st == .ready && !(laneOf s n).rxSleep then done (startScan n s)
  else done { s with wx := { s.wx with scanDue := s.wx.scanDue.set l true } }

/-- Narrowest eye of a port's lanes in 1/1,000 UI, of the lanes with a result. -/
def narrowest (s : State) (p : Nat) : Option Rat :=
  let w := (lanesOf s p).filterMap (fun l => if (laneOf s l).eye.valid then some ((laneOf s l).eye.width * 1000 / (128 : Rat)) else none)
  match w with
  | [] => none
  | a :: r => some (r.foldl min a)

/-- Three scans in a row below the floor lower a lane's permitted rate (R232). -/
def floorJudge (l : Nat) (s : State) : State :=
  let e := (laneOf s l).eye
  let low := decide ((e.width * 1000 : Rat) / 128 < parV s 0x5C) || decide (((2 * e.height : Nat) : Int) < parV s 0x5D)
  if !low then { s with wx := { s.wx with below := vmodN s.wx.below l (fun _ => 0) } }
  else
    let n := vget s.wx.below l 0 + 1
    let r := vget s.wx.permitted l 3
    if n < 3 then { s with wx := { s.wx with below := vmodN s.wx.below l (fun _ => n) } }
    else
      let s := { s with wx := { s.wx with
          below := vmodN s.wx.below l (fun _ => 0)
          permitted := vmodN s.wx.permitted l (fun _ => r - 1), rateLimit := vmodN s.wx.rateLimit l (fun _ => true) } }
      if r = 0 then s else issueEvent 0x0403 l [BitVec.ofNat 8 (r - 1)] s

/-- A scan completes: the results, and the plans that rest on them (R58, R59, R232, R233). -/
def execEyeScanComplete (l : LaneIx) (scan : EyeScan) (s : State) : Host.Outcome State Fault Refusal :=
  let n := l.val
  if !(laneOf s n).eye.running then done s
  else
    let s := laneMod n (fun x => { x with eye := {
      running := false, valid := true, seq := (x.eye.seq + 1) % 4096, width := (eyeResult scan).1, height := (eyeResult scan).2 } }) s
    if !obilwinUp s then done s
    else
      let s := floorJudge n s
      let p := portOfLane s n
      match narrowest s p with
      | some w =>
        done (when (decide (w < parV s 0x5E))
          { s with wx := { s.wx with guard := vmodN s.wx.guard p (fun g => min 64 (g + 8)) } } s)
      | none => done s

/-- The narrowest eye has stayed wide for 24 h: 8 ns of extra guard go (R233). -/
def execGuardRelease (p : PortIx) (s : State) : Host.Outcome State Fault Refusal :=
  match narrowest s p.val with
  | some w =>
    if obilwinUp s ∧ (parV s 0x5E : Rat) + 50 < w then
      done { s with wx := { s.wx with guard := vmodN s.wx.guard p.val (fun g => g - 8) } }
    else done s
  | none => done s

/-- The retention minimum of a domain, by the test row, and the retention voltage set from it (R229, R231). -/
def retIndex : Nat → Option Nat
  | 3 => some 0 | 10 => some 1 | 11 => some 2 | 12 => some 3 | _ => none
def execRetentionCheck (d : Fin 14) (minimum : Nat) (s : State) : Host.Outcome State Fault Refusal :=
  match retIndex d.val with
  | some k =>
    let s := { s with wx := { s.wx with retMin := vmodN s.wx.retMin k (fun _ => minimum) } }
    done (when (obilwinUp s) { s with wx := { s.wx with retVolt := vmodN s.wx.retVolt k (fun _ => minimum + 50) } } s)
  | none => done s

/-! ### Margins and the history (R235, R236) -/

/-- The place of the least value, and the value. -/
def leastOf (l : List Int) : Int × Nat :=
  match l.zipIdx with
  | [] => (0, 0)
  | a :: r => r.foldl (fun b q => if q.1 < b.1 then q else b) a

/-- Present value, floor and worst unit of a subsystem (R236). -/
def subsystem (s : State) (k : Nat) : Int × Int × Nat :=
  match k with
  | 0 =>
    let drift := (List.range 192).map (fun l =>
      let e := latEntry s l (setOf s l)
      let f := Config.factoryLat l (setOf s l)
      if e.source = 1 ∨ e.source = 2 then -(max |e.txLat - f.1| |e.rxLat - f.2.1|) else (0 : Int))
    (-(leastOf drift).1, 20972, (leastOf drift).2)
  | 1 =>
    let w := leastOf ((List.range 192).map (fun l => if (laneOf s l).eye.valid then ((laneOf s l).eye.width * 1000 / 128 : Nat) else (1000 : Int)))
    (w.1, parV s 0x5C, w.2)
  | 2 => ((s.wx.rings[10] : Int) - 1000, 0, 10)
  | 3 => (850 - (s.wx.target : Int), 0, 10)
  | 4 =>
    let m := leastOf (s.wx.retMin.toList.map (fun v => (s.wx.target : Int) - v))
    (m.1, 50, [3, 10, 11, 12].getD m.2 3)
  | 5 =>
    let b := leastOf ((List.range 30).map (fun n => if (synOf s n).lock then ((vget s.wx.bandLeft n (0 : Nat) : Nat) : Int) else 255))
    (b.1, 1, b.2)
  | _ =>
    let y := leastOf ([0, 1].map (fun e => parE s 0x27 e - |(engOf s e).y|))
    (y.1, 0, y.2 + 1)
def floorReached (s : State) (k : Nat) : Bool :=
  let v := subsystem s k
  if k = 0 then decide (v.2.1 ≤ v.1) else decide (v.1 ≤ v.2.1)

/-- MARGIN in percent (R236). -/
def marginOf (s : State) (k : Nat) : Nat :=
  let v := subsystem s k
  let f := s.wx.first.getD k v.1
  if f = v.2.1 then 0 else min 100 (roundAway ((v.1 - v.2.1 : Int) * 100 / ((f - v.2.1 : Int) : Rat))).toNat
def marginFlags (s : State) (k : Nat) : Nat :=
  b2n (floorReached s k) * 128 + b2n (decide (s.wx.daily.length < 14)) * 64 + b2n s.wx.historyLost * 32

/-- A floor newly reached is reported (R469). -/
def marginEvents (s : State) : State :=
  (List.range 7).foldl (fun s k =>
    if floorReached s k && !s.wx.reached.contains k then
      issueEvent 0x0801 k ([BitVec.ofNat 8 (marginOf s k), BitVec.ofNat 8 (marginFlags s k)] ++ le 2 (subsystem s k).2.2)
        { s with wx := { s.wx with reached := s.wx.reached ++ [k] } }
    else s) s

/-- The values of a record, and a record with its bytes. -/
def recordVals (s : State) : List Int := (List.range 7).map (fun k => (subsystem s k).1)
def weatherRec (kind sec : Nat) (v : List Int) : WeatherRec :=
  { sec := sec, bytes := (List.finRange 64).map (Config.weatherByte kind sec v), vals := v }
def meanVals (l : List WeatherRec) : List Int :=
  (List.range 7).map (fun k => roundAway (meanQ (l.map (fun r => ((r.vals.getD k 0 : Int) : Rat)))))

/-- The hourly record: 30 days of them, then one daily mean per day for 7,300 days (R235). -/
def execWeatherRecord (flashOk : Bool) (s : State) : Host.Outcome State Fault Refusal :=
  if !obilwinUp s then done s
  else
    let sec := secOf s.clk.now
    let v := recordVals s
    let hourly := (weatherRec 0 sec v :: s.wx.hourly).take 720
    let full := decide (24 ≤ s.wx.inDay + 1)
    let lost := !flashOk && !s.wx.historyLost
    let s := { s with wx := { s.wx with
        hourly := hourly, inDay := if full then 0 else s.wx.inDay + 1
        daily := if full && flashOk then (weatherRec 1 sec (meanVals (hourly.take 24)) :: s.wx.daily).take 7300 else s.wx.daily
        first := if s.wx.first.isEmpty then v else s.wx.first
        historyLost := s.wx.historyLost || !flashOk } }
    done (marginEvents (if lost then issueEvent 0x0802 0 [] s else s))

end Sys2Proof.Machine
end

