-- ==== Sys2Proof/Machine/PlanOps.lean ====
section
/-! DEFINITION. The spur planner (R209 to R213): predictions, the choice for each synthesiser, spread grants, the spur map. -/

namespace Sys2Proof.Machine

/-! ### Predictions -/

/-- The output frequency that a synthesiser radiates, mHz (R199). -/
def carrier (s : State) (n : Nat) : Nat :=
  if n = 0 then 1100000000000 else if n = 1 then 500000000000
  else if n < 26 then 1000 * synTarget s n
  else if n < 28 then 625000000000 else (synOf s n).target

/-- What the planner chooses for a synthesiser: VCO option, dither, depth code and mode. -/
structure PlanChoice where
  opt    : Nat
  dither : Bool
  depth  : Nat
  centre : Bool
  deriving DecidableEq, Repr

/-- The depth of a code in units of 0.05 %: 2 for code 1 (R214). -/
def depthUnits (code : Nat) : Nat := if code = 0 then 0 else code + 1

/-- The range in mHz that harmonic `k` sweeps: lowest and highest edge (R202). -/
def sweep (f k : Nat) (c : PlanChoice) : Rat × Rat :=
  let s : Rat := (depthUnits c.depth : Rat) / 2000
  let g : Rat := f * k
  if c.centre then (g * (1 - s / 2), g * (1 + s / 2)) else (g * (1 - s), g)

/-- A predicted spur: an identity that every choice shares, its edges in mHz, its record. -/
structure Spur where
  id : Nat
  lo : Rat
  hi : Rat
  r  : SpurRecord
  deriving DecidableEq, Repr

/-- Carrier harmonics up to 40 GHz, lines or swept ranges. -/
def harmonics (s : State) (n : Nat) (c : PlanChoice) : List Spur :=
  let f := carrier s n
  if f = 0 then []
  else (List.range (40000000000000 / f)).map (fun i =>
    let w := sweep f (i + 1) c
    { id := i, lo := w.1, hi := w.2
      r := { freq := ((w.1 + w.2) / 2000).floor.toNat, width := ((w.2 - w.1) / 1000).floor.toNat
             level := Config.harmonicLevel n (i + 1) (c.depth != 0), source := n, kind := if c.depth = 0 then 0 else 0x60 } })

/-- The feedback ratio is an integer under a VCO option (R201, R213). -/
def integerRatio (s : State) (n opt : Nat) : Bool :=
  decide (0 < refHz s n) && feedback (synMod n (fun x => { x with vcoOpt := opt }) s) n % 2 ^ 48 == 0

/-- Fractional spurs of a group PLL in Hz (R201): the modulator's sequence repeats every two or four periods of 625 MHz, so they
lie that far apart about the carrier. -/
def groupSpurs (s : State) (n : Nat) : List (Nat × Int) :=
  let step := if feedback s n % 2 ^ 48 = 2 ^ 47 then 312500000 else 156250000
  let f := synTarget s n
  (List.range ((40000000000 - f) / step)).map (fun k => (f + (k + 1) * step, Config.groupSpurLevel n ((k : Int) + 1)))
    ++ (List.range ((f - 1) / step)).map (fun k => (f - (k + 1) * step, Config.groupSpurLevel n (-((k : Int) + 1))))

/-- Harmonics of the reference up to 40 GHz (R210). -/
def referenceSpurs (s : State) (n opt : Nat) : List (Nat × Int) :=
  let r := refHz s n
  if r = 0 then [] else (List.range (40000000000 / r)).map (fun k => ((k + 1) * r, Config.referenceLevel n opt (k + 1)))

def lines (n kind base : Nat) (l : List (Nat × Int)) : List Spur :=
  l.zipIdx.map (fun q => { id := base + 2 * q.2, lo := (q.1.1 : Rat) * 1000, hi := (q.1.1 : Rat) * 1000
                           r := { freq := q.1.1, width := 0, level := q.1.2, source := n, kind := kind * 32 } })

/-- Every spur of a synthesiser under a choice. -/
def spursOf (s : State) (n : Nat) (c : PlanChoice) : List Spur :=
  if carrier s n = 0 then []
  else harmonics s n c
    ++ (if integerRatio s n c.opt then []
      else lines n 1 100000 (if 2 ≤ n ∧ n < 26 then groupSpurs s n else Config.fractionalSpurs n c.opt c.dither (carrier s n) (refHz s n)))
    ++ lines n 2 100001 (referenceSpurs s n c.opt)

/-- A spur falls in a protected band (R209); kHz are 10⁶ mHz. -/
def inBand (b : BandSpec) (x : Spur) : Bool :=
  let lo : Rat := ((b.low : Int) - b.margin : Int) * 1000000
  let hi : Rat := (b.high + b.margin : Nat) * 1000000
  decide (x.lo ≤ hi ∧ lo ≤ x.hi) && (x.r.kind == 0x60 || decide (10 * b.limit < x.r.level))
def inBands (s : State) (x : Spur) : Bool := s.ck.bands.any (fun b => b.any (fun b => inBand b x))

/-! ### Choices -/

/-- A synthesiser feeds a clock output with ALIGN (R188). -/
def feedsAlign (s : State) (n : Nat) : Bool :=
  (List.range 4).any (fun c => parB s 0x6D (18 + c) && parN s 0x6B (18 + c) + 27 == n && decide (28 ≤ n))

/-- The depth granted (R211): the largest up to the maximum whose energy falls in no band; 0 where none clears. -/
def granted (s : State) (n : Nat) : Nat :=
  match (synOf s n).request with
  | none => 0
  | some (centre, m) =>
    if feedsAlign s n then 0
    else ((List.range m).map (· + 1)).reverse.find? (fun d =>
      !(harmonics s n { opt := 0, dither := false, depth := d, centre }).any (inBands s)) |>.getD 0

/-- VCO options and dither settings open to the planner. Group PLLs have one option and no dither; SYN0 and SYN1 have one for
each divider (R199, R201). -/
def optionsOf (s : State) (n : Nat) : List Nat :=
  if 2 ≤ n ∧ n < 26 then [0] else if n < 28 then [0, 1] else List.range (max 1 (synDividers (synOf s n).target).length)
def dithersOf (s : State) (n : Nat) : List Bool :=
  if 2 ≤ n ∧ n < 26 then [false]
  else match (synOf s n).ditherReq with
    | 1 => [true] | 2 => [false] | _ => [false, true]

/-- All choices under the depth granted, and the spurs in bands that each leaves. -/
def choicesOf (s : State) (n : Nat) : List PlanChoice :=
  let d := granted s n
  let c := ((synOf s n).request.map (fun q => q.1)).getD false
  (optionsOf s n).flatMap (fun opt => (dithersOf s n).map (fun dither => { opt, dither, depth := d, centre := c && d != 0 }))
def badSpurs (s : State) (n : Nat) (c : PlanChoice) : List Spur := (spursOf s n c).filter (inBands s)

/-- The choice that leaves the fewest spurs in bands; which of several that leave as few is open. -/
def choose (s : State) (n pick : Nat) : PlanChoice :=
  let l := choicesOf s n
  let best := (l.map (fun c => (badSpurs s n c).length)).foldl min ((badSpurs s n (l.headD default')).length)
  let t := l.filter (fun c => (badSpurs s n c).length == best)
  t.getD (pick % t.length) default'
where
  default' : PlanChoice := { opt := 0, dither := false, depth := 0, centre := false }

/-- A spur in a band that stays in one whatever is chosen (R211). -/
def unavoidable (s : State) (n : Nat) (x : Spur) : Bool :=
  (choicesOf s n).all (fun c => (badSpurs s n c).any (fun y => y.id == x.id))

/-- The records of a synthesiser's spurs, marked. -/
def recordsOf (s : State) (n : Nat) (c : PlanChoice) : List SpurRecord :=
  (spursOf s n c).map (fun x =>
    let b := inBands s x
    { x.r with kind := x.r.kind + b2n b * 16 + b2n (b && unavoidable s n x) * 8 })

/-- Takes a choice up (R212). -/
def takeChoice (n : Nat) (c : PlanChoice) (s : State) : State :=
  let x := synOf s n
  let s := synMod n (fun x => { x with
    dither := c.dither, depth := c.depth, centre := c.centre, rate := if c.depth = 0 then x.rate else x.rateReq
    refused := if x.request.isSome then c.depth == 0 else x.refused
    pendOpt := if n < 28 && c.opt != x.vcoOpt then some c.opt else none }) s
  if 28 ≤ n ∧ c.opt ≠ x.vcoOpt then
    let s := synMod n (fun x => { x with vcoOpt := c.opt }) s
    -- a synthesiser runs on while its domain is Clock-stopped
    if domOn s 13 || (vget s.pm.dom 13 {}).st == .stopped then retune n s else s
  else s

/-! ### The map -/

/-- The 256 records of the highest levels, in order of frequency (R213). -/
def spurMap (l : List SpurRecord) : List SpurRecord :=
  let byLevel := l.foldr (insertBy (fun a b => decide (b.level ≤ a.level))) []
  (byLevel.take 256).foldr (insertBy (fun a b => decide (a.freq ≤ b.freq))) []
where
  insertBy (f : SpurRecord → SpurRecord → Bool) (a : SpurRecord) : List SpurRecord → List SpurRecord
    | [] => [a]
    | b :: r => if f a b then a :: b :: r else b :: insertBy f a r

/-- A new plan. -/
def runPlan (s : State) : State :=
  let cs := (List.range 30).map (fun n => (n, choose s n (Config.freeNat (s.free + n))))
  let l := cs.flatMap (fun q => recordsOf s q.1 q.2)
  let t := cs.foldl (fun t q => takeChoice q.1 q.2 t) s
  { t with
    free := s.free + 30
    ck := { t.ck with
      planValid := true, truncated := decide (256 < l.length), planSeq := (s.ck.planSeq + 1) % 4096, spurs := spurMap l
      conflicts := (l.filter (fun r => r.kind.testBit 3)).length } }

/-- A record of 16 bytes (R213). -/
def spurBytes (r : SpurRecord) : List Byte :=
  le 8 r.freq ++ le 4 r.width ++ le 2 (ofSigned 16 r.level) ++ [BitVec.ofNat 8 r.source, BitVec.ofNat 8 r.kind]

end Sys2Proof.Machine
end

