-- ==== Sys2Proof/Machine/ClockCmds.lean ====
section
/-! DEFINITION. The clock and calibration commands (R450 to R452). -/

namespace Sys2Proof.Machine

/-- OSC_SET: inside the strapped class, or 0 for its nominal (R198). -/
def oscSet (o : Origin) (p : List Byte) (s : State) : State :=
  let f := fieldLe p 0 4
  let c := oscClass s.boot.straps.oscf
  checked o [(decide (f ≠ 0 ∧ (f < c.1 ∨ c.2 < f)), 0)] (fun s =>
    setResult o (okRes []) (writeBlock (fun b => { b with oscHz := f }) s)) s
def execOscSet (o : Origin) (s : State) : Host.Outcome State Fault Refusal := done (onCommand o 0x0140 (oscSet o) s)

/-- SYN_SET: the synthesiser retunes while D13 is On; its outputs restart once it is locked (R208). -/
def synSet (o : Origin) (p : List Byte) (s : State) : State :=
  let n := fieldLe p 0 1; let f := fieldLe p 4 8
  checked o [(decide (n < 28 ∨ 29 < n), 0), (!zeros p 1 3, firstSet p 1 3), (decide (f < 9770000000 ∨ 1250000000000 < f), 4)] (fun s =>
    let s := synMod n (fun x => { x with target := f, vcoOpt := min x.vcoOpt ((synDividers f).length - 1) }) s
    setResult o (okRes []) (if domOn s 13 || (vget s.pm.dom 13 {}).st == .stopped then retune n s else s)) s
def execSynSet (o : Origin) (s : State) : Host.Outcome State Fault Refusal := done (onCommand o 0x0141 (synSet o) s)

/-- SYN_REQ (R200, R201, R208). -/
def synReq (o : Origin) (p : List Byte) (s : State) : State :=
  let n := fieldLe p 0 1; let sp := fieldLe p 1 1; let m := fieldLe p 2 1; let d := fieldLe p 3 1; let r := fieldLe p 4 4
  checked o [(decide (29 < n), 0), (decide (2 < sp) || (sp != 0 && !(n == 0 || n == 28 || n == 29)), 1), (decide (m < 1 ∨ 9 < m), 2),
      (decide (2 < d) || (d == 1 && decide (2 ≤ n ∧ n < 26)), 3), (decide (r < 30000 ∨ 33000 < r), 4)] (fun s =>
    if sp != 0 && feedsAlign s n then setResult o (notPermitted 0x0007) s
    else setResult o (okRes []) (synMod n (fun x => { x with
      request := if sp = 0 then none else some (sp == 2, m), rateReq := r, ditherReq := d }) s)) s
def execSynReq (o : Origin) (s : State) : Host.Outcome State Fault Refusal := done (onCommand o 0x0142 (synReq o) s)

/-- BAND_SET; with VALID 0 the band goes and its other fields are not judged. -/
def bandSet (o : Origin) (p : List Byte) (s : State) : State :=
  let n := fieldLe p 0 1; let v := fieldLe p 1 1
  let b : BandSpec := { limit := toSigned 16 (fieldLe p 2 2), low := fieldLe p 4 4, high := fieldLe p 8 4, margin := fieldLe p 12 4 }
  let on := v == 1
  checked o [(decide (15 < n), 0), (decide (1 < v), 1), (on && decide (b.limit < -160 ∨ -40 < b.limit), 2),
      (on && decide (b.low < 1000 ∨ 40000000 < b.low), 4), (on && decide (b.high ≤ b.low ∨ 40000000 < b.high), 8),
      (on && decide (100000 < b.margin), 12)] (fun s =>
    setResult o (okRes []) (saveCfg { s with ck := { s.ck with bands := vmodN s.ck.bands n (fun _ => if on then some b else none) } })) s
def execBandSet (o : Origin) (s : State) : Host.Outcome State Fault Refusal := done (onCommand o 0x0143 (bandSet o) s)

/-- PLAN_RUN. -/
def planRun (o : Origin) (_ : List Byte) (s : State) : State :=
  let s := runPlan s
  let d := fun n => BitVec.ofNat 8 (synOf s n).depth
  setResult o (okRes (le 2 s.ck.planSeq ++ le 1 (satU 8 s.ck.conflicts) ++ le 1 (planPending s) ++ [d 0, d 28, d 29, 0])) s
def execPlanRun (o : Origin) (s : State) : Host.Outcome State Fault Refusal := done (onCommand o 0x0144 (planRun o) s)

/-- SPUR_MAP_GET. -/
def spurMapGet (o : Origin) (p : List Byte) (s : State) : State :=
  let l := (s.ck.spurs.drop (fieldLe p 0 4)).take 254
  setResult o (okRes (le 2 s.ck.spurs.length ++ le 2 l.length ++ le 4 s.ck.planSeq ++ l.flatMap spurBytes)) s
def execSpurMapGet (o : Origin) (s : State) : Host.Outcome State Fault Refusal := done (onCommand o 0x0145 (spurMapGet o) s)

/-! ### Converters -/

/-- KIND and INDEX name no converter (R452). -/
def convChecks (p : List Byte) : List (Bool × Nat) :=
  let k := fieldLe p 0 1
  [(decide (5 < k), 0), (!zeros p 1 1, 1), ((convNo k (fieldLe p 2 2)).isNone, 2)]
def convNamed (p : List Byte) : Nat := (convNo (fieldLe p 0 1) (fieldLe p 2 2)).getD 0

/-- CAL_RUN: a run is queued; while one is running, the one after it is this command's. -/
def calRun (o : Origin) (p : List Byte) (s : State) : State :=
  let c := convNamed p
  checked o (convChecks p) (fun s =>
    if !domOn s (convDomain c) then setResult o (notPermitted 0x0008) s
    else
      let v := convOf s c
      setWait o (.cal c ((v.seq + b2n v.running) % 4096)) (convMod c (fun v => { v with due := true }) s)) s
def execCalRun (o : Origin) (s : State) : Host.Outcome State Fault Refusal := done (onCommand o 0x0150 (calRun o) s)

/-- Width and INL of every code from the bin centres: the sum of the widths below, then the code (R220). -/
def tablePairs : Rat → Nat → List Rat → List (Rat × Rat)
  | _, _, [] => []
  | a, k, c :: r =>
    let w := 2 * (c - a)
    (w, c * 10 / 8192 - ((k : Rat) + 1 / 2)) :: tablePairs (a + w) (k + 1) r

/-- The accepted table, or the design-nominal one (R227). -/
def convTable (v : Conv) : List (Rat × Rat) :=
  tablePairs 0 0 (if v.cur.isEmpty then (List.range 2048).map nominalInterval else v.cur)

/-- CAL_TABLE_GET. -/
def calTableGet (o : Origin) (p : List Byte) (s : State) : State :=
  let f := fieldLe p 4 4
  checked o (convChecks p ++ [(!(f == 0 || f == 512 || f == 1024 || f == 1536), 4)]) (fun s =>
    let v := convOf s (convNamed p)
    setResult o (okRes (le 4 v.seq ++ (((convTable v).drop f).take 512).flatMap (fun q =>
      le 2 (satU 16 (roundAway q.1).toNat) ++ le 2 (ofSigned 16 (satS 16 (roundAway (q.2 * 256))))))) s) s
def execCalTableGet (o : Origin) (s : State) : Host.Outcome State Fault Refusal := done (onCommand o 0x0151 (calTableGet o) s)

end Sys2Proof.Machine
end

