-- ==== Sys2Proof/Machine/Clocks.lean ====
section
/-! DEFINITION. Clock synthesis (chapter 09): OSC_IN (R198, R361), loss of lock (R206), hops and searches (R204, R205). -/

namespace Sys2Proof.Machine

/-- OSC_IN is absent: the Kettle moves to the internal oscillator; the synthesisers that run from OSC_IN hold their VCO
control and report loss of lock (R206, R361). -/
def execOscInAbsent (s : State) : Host.Outcome State Fault Refusal :=
  if !s.ck.present then done s
  else
    let s := { s with ck := { s.ck with present := false, oscLost := true, kettleInt := true } }
    let s := bump 39 1 (if s.clk.kettle then kettleRestart s else s)
    done (clkouts (oscSyns.foldl (fun s n => if (synOf s n).lock then lockLost n s else s) s))

/-- OSC_IN has run for 1 ms without a break: the Kettle moves back, and the synthesisers relock (R206, R361). -/
def execOscInReturn (s : State) : Host.Outcome State Fault Refusal :=
  if s.ck.present then done s
  else
    let s := { s with ck := { s.ck with present := true, kettleInt := false } }
    let s := if s.clk.kettle then kettleRestart s else s
    done (oscSyns.foldl (fun s n => if !(synOf s n).lock && domOn s (synDomain n) then retune n s else s) s)

/-- A synthesiser loses lock (R206): the action of its row, and it relocks. -/
def execSynthLockLoss (n : Fin 30) (s : State) : Host.Outcome State Fault Refusal :=
  let k := n.val
  if !(synOf s k).lock then done s
  else
    let s := retune k (lockLost k s)
    if k = 0 then done (dataReset 5 s)
    else if k = 1 then done (mgmtRestart 6 s)
    else if k < 26 then
      done (forEach ((List.range 8).map (8 * (k - 2) + ·)) (fun l s =>
        match (laneOf s l).st with
        | .off | .sleep => s
        | _ => laneAcquire l (laneLeaves l .acquire 1 false s)) s)
    else if k < 28 then done (engineFault (k - 26) s)
    else done s

/-- A hop to a stored band locks within 3 µs (R204). -/
def execBandHopLock (n : Fin 30) (s : State) : Host.Outcome State Fault Refusal :=
  let k := n.val
  match (synOf s k).tune with
  | .hop t =>
    match storedBand s k t with
    | some b =>
      let s := synMod k (fun x => { x with bands := b :: x.bands.filter (· != b), bandSrc := 1, band := b.band }) s
      done (tuned k { s with wx := { s.wx with bandLeft := vmodN s.wx.bandLeft k (fun _ => min b.band (255 - b.band)) } })
    | none => done s
  | _ => done s

/-- A hop has not locked within 3 µs: a full search at once (R205). -/
def execHopMiss (n : Fin 30) (s : State) : Host.Outcome State Fault Refusal :=
  match (synOf s n.val).tune with
  | .hop t => done (startSearch n.val t s)
  | _ => done s

/-- A full search locks: its result is stored, in place of the one whose hop missed (R205), or of the least recently used when
all eight are held (R204, R229). -/
def execFullSearchLock (n : Fin 30) (band : Nat) (temp : Int) (s : State) : Host.Outcome State Fault Refusal :=
  let k := n.val
  match (synOf s k).tune with
  | .search t =>
    let b : BandResult := { target := t, band := band % 256, temp := temp }
    let s := synMod k (fun x => { x with
      bands := (b :: (match storedBand s k t with
        | some m => x.bands.erase m
        | none => x.bands)).take 8
      bandSrc := 2, band := band % 256 }) s
    let s := { s with
      pins := { s.pins with temps := vmodN s.pins.temps (synDomain k) (fun _ => temp) }
      wx := { s.wx with bandLeft := vmodN s.wx.bandLeft k (fun _ => min (band % 256) (255 - band % 256)) } }
    done (tuned k s)
  | _ => done s

end Sys2Proof.Machine
end

