-- ==== Sys2Proof/Machine/CounterCmds.lean ====
section
/-! DEFINITION. The link-state read (R465) and the commands of the counters, the health report and the weathering history
(R466, R489 to R497). -/

namespace Sys2Proof.Machine

/-! ### Link-state database (R465) -/

/-- As many whole items as fit in a number of bytes. -/
def wholeFit (room : Nat) : List (List Byte) → List (List Byte)
  | [] => []
  | r :: rs => if r.length ≤ room then r :: wholeFit (room - r.length) rs else []

/-- FAB_DB_GET: records of a scope from an index, with their present age. -/
def fabDbGet (o : Origin) (p : List Byte) (s : State) : State :=
  let sc := fieldLe p 0 1
  checked o [(sc == 0 || decide (3 < sc), 0), (!zeros p 1 3, firstSet p 1 3)] (fun s =>
    let all := s.fab.records.filter (fun r => r.body.scope == sc)
    let out := wholeFit 4072 ((all.drop (fieldLe p 4 4)).map (fun r => recBytes r.body (min (ageOf s r) 65535)))
    setResult o (okRes (le 4 all.length ++ le 4 out.length ++ out.flatten)) s) s
def execFabDbGet (o : Origin) (s : State) : Host.Outcome State Fault Refusal := done (onCommand o 0x0720 (fabDbGet o) s)

/-! ### Performance counters (R491) -/

/-- A counter takes another event and starts from 0. -/
def pointCounter (n ev : Nat) (s : State) : State :=
  { s with pc := { s.pc with pc := vmodN s.pc.pc n (fun _ => { event := ev }) } }

/-- PC_MAP. -/
def pcMap (o : Origin) (p : List Byte) (s : State) : State :=
  let n := fieldLe p 0 2; let ev := fieldLe p 2 2
  checked o [(decide (1023 < n), 0), ((decide (1024 ≤ ev) && decide (ev < 0xFFFE)) || (ev == 0xFFFE && n == 0), 2)] (fun s =>
    setResult o (okRes []) (pointCounter n (if ev = 0xFFFF then n else ev) s)) s
def execPcMap (o : Origin) (s : State) : Host.Outcome State Fault Refusal := done (onCommand o 0x0801 (pcMap o) s)

/-! ### The health report (R496, R497) -/

/-- A section: its entries' bytes, and its status, 0 OK, 1 WARNING, 2 FAULT. -/
structure Section where
  type    : Nat
  entries : List (List Byte)
  status  : Nat
  deriving DecidableEq, Repr

/-- FAULT before WARNING. -/
def worse (fault warn : Bool) : Nat := if fault then 2 else if warn then 1 else 0

/-- A section's bytes behind its header. -/
def Section.bytes (x : Section) : List Byte :=
  let b := x.entries.flatten
  le 1 x.type ++ le 1 x.entries.length ++ le 2 (4 + b.length) ++ b

/-- A word of the last servo cycle's report. -/
def repNat (s : State) (off : Nat) : Nat := (repWord s.te.rep off 0).toNat

/-- Section 1: the engines, from the TE_KS_ and TE_SRV_ results. -/
def engineSection (s : State) : Section :=
  let flags := fun (e : Nat) => repNat s 0x83008 / 256 ^ e % 256
  let health := fun (e : Nat) => flags e / 32
  let entry := fun (e : Nat) =>
    le 1 e ++ le 1 (health e) ++ le 1 (repNat s 0x83004 / 256 ^ e % 256) ++ le 1 (bits (repNat s (0x81000 + e * 0x100)) 28 3) ++ le 1 (flags e) ++ [0]
      ++ le 2 (if health e = 6 then repNat s 0x83008 / 65536 else 0) ++ le 4 (repNat s 0x8300C) ++ le 4 (repNat s 0x83010)
  { type := 1, entries := if s.te.valid then [entry 0, entry 1] else []
    status := if s.te.valid then
        worse ([0, 1].any (fun e => decide (health e ≤ 2)) || (repNat s 0x83000).testBit 24)
          ([0, 1].any (fun e => health e == 5 || health e == 6))
      else 0 }

/-- Section 2: the references, from the TE_REF_ results. -/
def referenceSection (s : State) : Section :=
  let word := fun (r : Nat) => repNat s (0x82000 + 16 * r)
  let st := fun (r : Nat) => bits (word r) 28 3
  let entry := fun (r : Nat) =>
    le 1 r ++ le 1 (st r) ++ le 1 (bits (word r) 24 4) ++ le 1 (bits (word r) 12 5) ++ le 4 (repNat s (0x8200C + 16 * r))
  { type := 2, entries := if s.te.valid then refList.map entry else []
    status := if s.te.valid then
        worse (refList.all (fun r => !((st r == 4 || st r == 5) && decide (bits (word r) 20 4 < 15)))) (refList.any (fun r => st r == 5))
      else 0 }

/-- Section 3: the converters. -/
def converterSection (s : State) : Section :=
  let word := fun (c : Nat) => (calWord (convOf s c)).toNat
  let entry := fun (c : Nat) =>
    le 1 (convKind c).1 ++ le 1 (convKind c).2 ++ le 1 (bits (word c) 28 3 * 32 + bits (word c) 20 4) ++ le 1 (bits (word c) 24 3)
  let st := (List.range 217).map (fun c => bits (word c) 28 3)
  { type := 3, entries := (List.range 217).map entry, status := worse (st.contains 4) (st.contains 0) }

/-- Section 4: the flagged trims. -/
def trimSection (s : State) : Section :=
  let l := (s.cal.flags.map (fun e => e.1)).take 64
  { type := 4, entries := l.map (fun t => le 1 (t / 65536) ++ [0] ++ le 2 t), status := worse false (!l.isEmpty) }

/-- Section 5: lanes of timing ports out of fusion. -/
def fusionSection (s : State) : Section :=
  let l := (List.range 192).filter (fun n => isTiming s (portOfLane s n) && (laneOf s n).ph.excl != 0)
  { type := 5
    entries := l.map (fun n => le 1 n ++ le 1 (laneOf s n).ph.excl ++ le 2 (ofSigned 16 (satS 16 (roundAway ((laneOf s n).ph.sTrk / ps (1 / 16))))))
    status := worse ((List.range 24).any (fun g => (timingPort s g).isSome && (groupOf s g).servo.st == 5)) (!l.isEmpty) }

/-- Days until a subsystem's floor, on a line fitted to the daily means (R236). -/
def daysLeft (s : State) (k : Nat) : Nat :=
  let floor : Rat := (subsystem s k).2.1
  let pts := (s.wx.daily.take 90).map (fun (r : WeatherRec) => (((r.sec : Rat) / 86400), ((r.vals.getD k 0 : Int) : Rat)))
  if pts.length < 14 then 0xFFFF
  else
    let mx := meanQ (pts.map (fun q => q.1)); let my := meanQ (pts.map (fun q => q.2))
    let sxx := sumQ (pts.map (fun q => (q.1 - mx) * (q.1 - mx))); let sxy := sumQ (pts.map (fun q => (q.1 - mx) * (q.2 - my)))
    -- the distance to the floor, and how fast it falls
    let sign : Rat := if k = 0 then -1 else 1
    let slope := if sxx = 0 then 0 else sign * (sxy / sxx)
    let now := sign * (my - floor) + slope * (((secOf s.clk.now : Nat) : Rat) / 86400 - mx)
    if 0 ≤ slope then 0xFFFF else min 0xFFFE (roundAway (max 0 now / (-slope))).toNat

/-- Section 6: the margins. -/
def marginSection (s : State) : Section :=
  let entry := fun (k : Nat) =>
    le 1 k ++ le 1 (marginOf s k) ++ le 1 (marginFlags s k) ++ [0] ++ le 2 (daysLeft s k) ++ le 2 (subsystem s k).2.2
  { type := 6, entries := (List.range 7).map entry
    status := worse ((List.range 7).any (floorReached s)) ((List.range 7).any (fun k => decide (marginOf s k < 25))) }

/-- A domain's supply in mV: VDDK for D0, else the core target, the retention voltage, or nothing (R231, R358, R506). -/
def supplyOf (s : State) (d : Nat) : Nat :=
  if d = 0 then 800
  else match (vget s.pm.dom d {}).st with
    | .off => 0
    | .retention => ((retIndex d).map (fun k => vget s.wx.retVolt k 0)).getD s.wx.target
    | _ => s.wx.target
/-- Its junction temperature in 1/16 °C: the hottest group of a lane bank. -/
def junction (s : State) (d : Nat) : Int :=
  if 4 ≤ d ∧ d < 10 then
    (List.range 3).foldl (fun m k => max m (groupOf s (4 * (d - 4) + k + 1)).temp) (groupOf s (4 * (d - 4))).temp
  else vget s.pins.temps d 400
/-- VOLT_MARGIN of the domains that VDD powers, TEMP_FAULT of the engines. -/
def domainFlags (s : State) (d : Nat) : Nat :=
  b2n (d != 0 && s.wx.voltMargin) + 2 * b2n ((d == 1 || d == 2) && (engOf s (d - 1)).tempFault)

/-- Section 7: temperatures and voltages. -/
def domainSection (s : State) : Section :=
  let entry := fun (d : Nat) =>
    le 1 d ++ le 1 (domCode (vget s.pm.dom d {}).st) ++ le 2 (ofSigned 16 (satS 16 (junction s d))) ++ le 2 (supplyOf s d) ++ [0xFF] ++ le 1 (domainFlags s d)
  { type := 7, entries := (List.range 14).map entry
    status := worse ((List.range 14).any (fun d => decide (105 * 16 < junction s d))) ((List.range 14).any (fun d => domainFlags s d != 0)) }

/-- A record of the recovery log (R495). -/
def recoveryBytes (r : RecRec) : List Byte := le 8 r.time.toNat ++ le 1 r.kind ++ le 1 r.detail ++ le 2 r.unit ++ le 4 r.count

/-- Section 8: recovery actions, newest first. -/
def recoverySection (s : State) : Section :=
  let young := fun (lim : Nat) (r : RecRec) => decide (s.clk.elapsed - r.whenAt ≤ lim)
  { type := 8, entries := (s.pc.ring.take 32).map recoveryBytes
    status := worse (decide (3 ≤ (s.pc.ring.filter (fun r => r.kind == 11 && young (600 * uSec) r)).length)) (s.pc.ring.any (young (3600 * uSec))) }

def healthSections (s : State) : List Section :=
  [engineSection s, referenceSection s, converterSection s, trimSection s, fusionSection s, marginSection s, domainSection s, recoverySection s]

/-- A snapshot: the header, with LOST in one of its reserved bytes, then the sections. -/
def healthReport (seq : Nat) (s : State) : List Byte :=
  let l := healthSections s
  let body := l.flatMap Section.bytes
  let st := (l.map (fun x => x.status)).foldl max (if s.te.valid then 0 else 1)
  let flags := (l.map (fun x => b2n (decide (0 < x.status)) * 2 ^ x.type)).sum
  le 2 1 ++ le 2 (32 + body.length) ++ le 4 seq ++ le 8 (compact s.clk.now).toNat ++ le 4 s.mb.epoch ++ le 4 s.mb.dseq ++ le 1 st ++ le 1 l.length
    ++ le 2 flags ++ (List.replicate 4 0).set Config.lostPlace.val (BitVec.ofNat 8 (satU 8 s.pc.lost)) ++ body

/-- The snapshot of a channel, or of another device: its count and its bytes. -/
def snapshotOf (s : State) : Origin → Nat × List Byte
  | .host c => ((chanOf s c.val).healthSeq, (chanOf s c.val).health)
  | .remote src _ => ((s.fab.remotes.find? (fun r => r.source == src)).map (fun r => (r.healthSeq, r.health))).getD (0, [])
def keepSnapshot (o : Origin) (n : Nat) (b : List Byte) (s : State) : State :=
  match o with
  | .host c => chanMod c.val (fun x => { x with healthSeq := n, health := b }) s
  | .remote src _ => fabMod (fun f => { f with remotes := f.remotes.map (fun (r : RemoteSeq) =>
      if r.source = src then { r with healthSeq := n, health := b } else r) }) s

/-- HEALTH_GET: FIRST 0 builds a new snapshot. -/
def healthGet (o : Origin) (p : List Byte) (s : State) : State :=
  let k := fieldLe p 0 4
  let s := if k = 0 then
      let n := ((snapshotOf s o).1 + 1) % 2 ^ 32
      keepSnapshot o n (healthReport n s) s
    else s
  let v := snapshotOf s o
  checked o [(v.2.isEmpty, 0)] (fun s => setResult o (okRes (le 4 v.2.length ++ le 4 v.1 ++ (v.2.drop k).take 4064)) s) s
def execHealthGet (o : Origin) (s : State) : Host.Outcome State Fault Refusal := done (onCommand o 0x0802 (healthGet o) s)

/-! ### The weathering history (R235, R466) -/

/-- WEATHER_GET: records from an index counted from the oldest; what the first four bytes hold is not stated. -/
def weatherGet (o : Origin) (p : List Byte) (s : State) : State :=
  let k := fieldLe p 0 1
  checked o [(decide (1 < k), 0), (!zeros p 1 3, firstSet p 1 3)] (fun s =>
    let l := (((if k = 0 then s.wx.hourly else s.wx.daily).reverse).drop (fieldLe p 4 4)).take 63
    let r := okRes (le 4 (Config.freeNat s.free) ++ l.flatMap (fun w => w.bytes))
    setResult o r { s with free := s.free + 1 }) s
def execWeatherGet (o : Origin) (s : State) : Host.Outcome State Fault Refusal := done (onCommand o 0x0803 (weatherGet o) s)

end Sys2Proof.Machine
end

