-- ==== Sys2Proof/Machine/Engines.lean ====
section
/-! DEFINITION. References, engine servo, holdover, software steering (chapter 06). -/

namespace Sys2Proof.Machine

/-- An engine supplies the time clock, so servo cycles run (R37, R150). -/
def cyclesRun (s : State) : Bool := !s.rst.por && s.te.ks.control.isSome

/-- The end of a servo cycle of the engines (R112 to R148, R155 to R173). -/
def execEngineServoCycle (m : CycleMeas) (s : State) : Host.Outcome State Fault Refusal :=
  if !cyclesRun s then done s
  else
    let s := takeReports (references m (bump 1 1 s))
    let s := selectRef (switchCycle s)
    let s := steerControl (releaseStep s)
    let s := recordWord (ctl s) (engOf s (ctl s)).y s
    let s := advertise (todAndForecast (lockCounts s))
    let s := alignCycle (reclaimDue (compare m.cmp s))
    let s := cupCycle m (standbyCycle s)
    let s := [0, 1].foldl (fun s e => if (engxOf s e).on then healthJudge e s else s) s
    let s := presentClaims (heldSettings (if s.te.ks.alignDone then alignApply s else s))
    let s := engineReport (tdcOffset m.tdc (blendEngines s))
    -- from here the wall tie, and the reports, are those of the engine now in control (R158)
    done (ksMod (fun k => { k with
      arbitrating := false, tieOut := tieRecord s (ctl s), tieAt := s.clk.elapsed, side := Fin.ofNat 2 (ctl s) }) s)

/-- The time-of-day state after a switch (R137): HOLDOVER with the forecast frozen at zero where a traceable time is left
for a reference without time of day, and back. -/
def todOnSwitch (r : Nat) (s : State) : State :=
  let x := engOf s (ctl s)
  if s.clk.tod = .traceable ∧ (refOf s r).carries < 2 then
    setTod .holdover (engMod (ctl s) (fun x => { x with forecast := 0, hoFrozen := true }) s)
  else if s.clk.tod = .holdover ∧ (refOf s r).carries = 2 ∧ x.hoFrozen ∧ x.forecast = 0 then setTod .traceable s
  else s

/-- Cycle 65 of a switch (R128 to R132, R137). -/
def execSwitchComplete (s : State) : Host.Outcome State Fault Refusal :=
  let e := ctl s
  match (engOf s e).sw with
  | none => done s
  | some w =>
    if w.cycle < 64 then done s
    else
      let off := w.sum / 64
      let s := match w.outgoing with
        | some r => viewMod r (fun v => { v with absorb := 0 }) s
        | none => s
      let s := viewMod w.incoming (fun v => { v with absorb := off }) s
      let s := bothX (fun v => { v with resid := [] }) (bump 20 1 s)
      let s := refMod w.incoming (fun x => { x with suspGood := 0 }) s
      let s := engMod e (fun x => { x with
        sw := none, sel := some w.incoming
        slewing := (x.slewHo && x.slewing) || par s 0x05 w.incoming == 1
        slewAt := if x.slewHo && x.slewing then x.slewAt else s.clk.elapsed
        slewHo := x.slewHo && x.slewing }) s
      let s := switchEvent w.incoming w.outgoing w.forced false off s
      done (takeSelCmd (todOnSwitch w.incoming s))

/-- Loss of signal (R118). -/
def execRefLos (r : Fin 32) (s : State) : Host.Outcome State Fault Refusal :=
  if isExt r.val then done (loseRef r.val (refMod r.val (fun x => { x with signal := false }) s))
  else if 8 ≤ r.val ∧ !portOffered s (r.val - 8) then done (loseRef r.val s)
  else done s

/-- The 1 s frequency gate (R118, R120), in 2⁻⁴⁸. -/
def execRefFreqGate (r : Fin 32) (offset : Int) (s : State) : Host.Outcome State Fault Refusal :=
  let n := r.val
  if !refPresent s n then done s
  else
    let bad := decide (par s 0x09 n < |offset|)
    let s := refMod n (fun x => { x with freqOff := offset, badFreq := bad, okFreq := x.okFreq || !bad }) s
    done (if bad then disqualify n 2 s else requalify n 2 s)

/-- The running wander window is full: 16 pulses of a PPSIN, else 1 s of cycles (R118). -/
def wanderDue (s : State) (r : Nat) : Bool :=
  if r = 4 ∨ r = 5 then decide (16 ≤ (refOf s r).wander.length) else decide (8000 ≤ (refOf s r).wandN)

/-- The end of a wander window (R118, R120): the phase errors in it are judged, and the next one begins. -/
def execRefWanderWindow (r : Fin 32) (s : State) : Host.Outcome State Fault Refusal :=
  let n := r.val
  if !refPresent s n || !wanderDue s n then done s
  else
    let p2p := wanderOf (refOf s n).wander
    let s := refMod n (fun x => { x with wandN := 0, wander := [] }) s
    match p2p with
    | none => done s
    | some q =>
      let bad := decide ((par s 0x0A n : Rat) < q)
      let s := refMod n (fun x => { x with badWander := bad, okWander := x.okWander || !bad }) s
      done (if bad then disqualify n 3 s else requalify n 3 s)

/-- The alarms of an engine (R453). -/
def oscEvent (e : Nat) (s : State) : State :=
  let x := engOf s e
  issueEvent 0x0206 e [BitVec.ofNat 8 (b2n x.oscAlarm + 2 * b2n x.tempFault + 4 * b2n x.xcmpAlarm)] s

/-- The cross-comparison of 10 s intervals (R118). -/
def execRefXcmpInterval (s : State) : Host.Outcome State Fault Refusal :=
  let e := ctl s
  let lim : Rat := parE s 0x21 e
  let s := refList.foldl (fun s r =>
    if refPresent s r then
      refMod r (fun x => { x with change10 := x.raw10.map (fun q => x.raw - q), raw10 := some x.raw }) s
    else s) s
  let qual := refList.filter (fun r => isQualified s r && (refOf s r).change10.isSome)
  let med := medianQ (qual.filterMap (fun r => (refOf s r).change10))
  let far := fun r => match (refOf s r).change10 with
    | some c => decide (lim < absQ (c - med))
    | none => false
  let n := qual.length
  -- every reference is judged against those that are qualified, the ones still qualifying too
  let judged := refList.filter (fun r => refPresent s r && (viewOf s r).st != .disqualified)
  let s' := if 3 ≤ n then
      judged.foldl (fun s r => if far r then disqualify r 4 (refMod r (fun x => { x with badXcmp := true }) s) else s) s
    else if n = 2 ∧ qual.any far then
      (if (engOf s e).xcmpAlarm then s else oscEvent e (engMod e (fun x => { x with xcmpAlarm := true }) s))
    else engMod e (fun x => { x with xcmpAlarm := false }) s
  -- a reference disqualified for it returns once it agrees with those that are qualified (R120)
  let back := refList.filter (fun r => (viewOf s r).st = .disqualified ∧ (viewOf s r).reason = 4 ∧ (refOf s r).change10.isSome ∧ !far r)
  done (if qual.isEmpty then s' else back.foldl (fun s r => requalify r 4 s) s')

/-- QUAL_TIME has passed with every monitor passing (R120). -/
def execQualTimeExpiry (r : Fin 32) (s : State) : Host.Outcome State Fault Refusal :=
  let n := r.val
  let x := refOf s n
  if (viewOf s n).st = .qualifying ∧ x.okFreq ∧ x.okWander ∧ x.okSignal then
    if x.qualBefore then done (setRef n .wtr 0 s)
    else done (setRef n .available 0 (refMod n (fun x => { x with qualBefore := true }) s))
  else done s

/-- WAIT_TO_RESTORE has passed (R120). -/
def execWtrExpiry (r : Fin 32) (s : State) : Host.Outcome State Fault Refusal :=
  if (viewOf s r.val).st = .wtr then done (setRef r.val .available 0 s) else done s

/-- DISQ_HOLD has passed (R120). -/
def execDisqHoldExpiry (r : Fin 32) (s : State) : Host.Outcome State Fault Refusal :=
  let v := viewOf s r.val
  if v.st = .disqualified ∧ (v.reason = 5 ∨ v.reason = 6 ∨ v.reason = 8) then done (setRef r.val .qualifying 0 s) else done s

/-- The 64 fresh cycles of a conditioner's step measurement are over (R77, R115). -/
def execConditionerStepEnd (r : Fin 32) (s : State) : Host.Outcome State Fault Refusal :=
  let n := r.val
  let c := (refOf s n).cond
  if isExt n ∧ c.measuring ∧ 64 ≤ c.measN then
    let d := c.measSum / 64 - c.preMean
    let real := decide ((par s 0x07 n : Rat) ≤ absQ d)
    let s := condMod n (fun c => { c with
      measuring := false, delta := d, hist := [], count := 0, measN := 0, measSum := 0
      transients := if real then c.transients else c.transients + 1 }) s
    done (if real then stepReported n d s else s)
  else done s

/-- DELAY_STALE: the delay of a port reference has been HELD beyond HELD_LIMIT (R114, R118). -/
def execDelayStale (g : GroupIx) (s : State) : Host.Outcome State Fault Refusal :=
  match timingPort s g.val with
  | some p => if (portOf s p).ld.dstate = 3 then done (disqualify (g.val + 8) 7 s) else done s
  | none => done s

/-- The residual is the oscillator's (R123): at least two other references are qualified and compared, and the selected one
is near them. -/
def oscBlamed (s : State) (r : Nat) : Bool :=
  let o := (refList.filter (fun q => q != r && isQualified s q)).filterMap (fun q => (refOf s q).change10)
  match (refOf s r).change10 with
  | some c => decide (2 ≤ o.length) && decide (absQ (c - medianQ o) ≤ (parE s 0x21 (ctl s) : Rat))
  | none => false

/-- The data of a residual window are withheld from learning, in both engines, and the model is fitted without them
(R122). -/
def withhold (s : State) : State :=
  [0, 1].foldl (fun s e =>
    let n := (engxOf s e).learnRecent.length
    if n = 0 then s
    else refit (engxMod e (fun v => { v with learnRecent := [] }) (engMod e (fun x => { x with learned := x.learned - n }) s)) e) s

/-- One engine's residual over the window, with the second that has ended (R121): 0 while MODEL_READY is clear. -/
def residSecond (e : Nat) (s : State) : State :=
  let x := engOf s e; let v := engxOf s e
  match v.modelReady, v.ySec with
  | true, y :: _ =>
    let l := (ofWord (y - modelY x.model (modelT s) x.temp) :: v.resid).take (parE s 0x28 e).toNat
    engxMod e (fun v => { v with resid := l, residNow := roundAway (sumQ l) }) s
  | _, _ => engxMod e (fun v => { v with resid := [], residNow := 0 }) s

/-- What the residual of the engine in control says of its selected reference (R122 to R124). -/
def residJudge (r : Nat) (s : State) : State :=
  let e := ctl s
  let q := sumQ (engxOf s e).resid
  let soft : Rat := parE s 0x29 e
  let hard : Rat := parE s 0x2A e
  if soft < absQ q then
    if oscBlamed s r then learnReset 1 (learnReset 0 (oscEvent e (engMod e (fun x => { x with oscAlarm := true }) s)))
    else
      let s := if (viewOf s r).st = .available then
          withhold (setRef r .suspect (viewOf s r).reason (engMod e (fun x => { x with suspectAlarm := true }) s))
        else refMod r (fun x => { x with suspGood := 0 }) s
      if hard < absQ q then disqualify r 5 s else s
  else if (viewOf s r).st = .suspect then
    let n := if 2 * absQ q < soft then (refOf s r).suspGood + 1 else 0
    let s := refMod r (fun x => { x with suspGood := n }) s
    if (parE s 0x28 e).toNat ≤ n then setRef r .available 0 s else s
  else s

/-- The model-residual monitor, once per second (R121 to R124); suspended in the software modes (R146). A reference that is
not selected has no seconds towards its return. -/
def execModelResidual (s : State) : Host.Outcome State Fault Refusal :=
  let e := ctl s
  if !autoMode s e then done s
  else
    let s := [0, 1].foldl (fun s k => if k = e ∨ engLive s k then residSecond k s else s) s
    let sel := (engOf s e).sel
    let s := refList.foldl (fun s r => if sel = some r then s else refMod r (fun x => { x with suspGood := 0 }) s) s
    match sel with
    | some r => done (if (engxOf s e).modelReady then residJudge r s else s)
    | none => done s

/-- A TODIN message with the time from the paired pulse to its end in µs (R116, R117). -/
def execTodinMessage (bytes : List Byte) (afterPulse : Nat) (lineError : Bool) (s : State) : Host.Outcome State Fault Refusal :=
  let t := s.te.tod
  let good := bytes.length == 16 && fieldBe bytes 0 4 == 0xA55A010C && !lineError
    && ((bytes.drop 2).map (·.toNat)).sum % 256 == 0 && decide (10000 ≤ afterPulse ∧ afterPulse ≤ 900000)
  if !good then done (bump 22 1 { s with te := { s.te with tod := { t with discarded := t.discarded + 1 } } })
  else
    let sec := fieldBe bytes 4 6
    let st := fieldBe bytes 14 1
    let agrees := t.label == some sec
    let bad := if t.todOk && !agrees then t.disagree + 1 else 0
    let lost := decide (3 ≤ bad)
    let ok := (t.todOk && !lost) || (!t.todOk && t.lastSec == some (sec - 1) && decide (1 ≤ sec))
    let s := { s with te := { s.te with tod := { t with
      lastSec := some sec, label := if t.todOk && !lost then t.label else some sec, todOk := ok
      disagree := if lost then 0 else bad, lost := false, status := st
      utc := BitVec.ofNat 32 (fieldBe bytes 10 4) &&& 0xE000FFFF#32 } } }
    let s := if lost then disqualify (todPair s) 6 s else s
    done (if st % 2 = 0 then disqualify (todPair s) 8 s else s)

/-- No TODIN message for 2 s: the label goes on by extrapolation (R117). -/
def execTodinLost (s : State) : Host.Outcome State Fault Refusal :=
  if s.te.tod.label.isSome then done { s with te := { s.te with tod := { s.te.tod with lost := true } } } else done s

/-- The reference's frequency offset has been measured over 1 s (R136, R137), in 2⁻⁴⁸. -/
def execAcquireFreqMeasured (offset : Int) (s : State) : Host.Outcome State Fault Refusal :=
  let e := ctl s
  if (engOf s e).st = .acquire ∧ (engOf s e).acqPhase = 0 ∧ (engOf s e).sw.isNone then
    done (acquirePhase e (engMod e (fun x => { x with integ := offset }) s))
  else done s

/-- Eight seconds at ten times the bandwidth are over (R136). -/
def execAcquireBandwidthStep (s : State) : Host.Outcome State Fault Refusal :=
  let e := ctl s
  if ((engOf s e).st = .acquire ∨ (engOf s e).st = .locked) ∧ (engOf s e).acqPhase = 2 then
    done (engMod e (fun x => { x with acqPhase := 3 }) s)
  else done s

/-- 8,000 cycles within LOCK_WINDOW (R135, R137). -/
def execEngineLock (s : State) : Host.Outcome State Fault Refusal :=
  let e := ctl s
  let x := engOf s e
  if x.st = .acquire ∧ 8000 ≤ x.lockCnt then
    let s := setServo e .locked s
    -- after software steering the time-of-day state is a switch's to change (R146)
    let tod := x.sel.any (fun r => (refOf s r).carries == 2) && !(engxOf s e).acqSw
    done (if tod ∧ (s.clk.tod = .unset ∨ s.clk.tod = .set ∨ s.clk.tod = .coarse) then setTod .traceable s else s)
  else done s

/-- 8,000 cycles beyond four times LOCK_WINDOW (R135). -/
def execEngineUnlock (s : State) : Host.Outcome State Fault Refusal :=
  let e := ctl s
  let x := engOf s e
  match x.sel with
  | some r => if x.st = .locked ∧ 8000 ≤ x.unlockCnt then done (startAcquire e r s) else done s
  | none => done s

/-- Learning holds (R138): LOCKED to an AVAILABLE reference, with nothing in progress. -/
def mayLearn (s : State) : Bool :=
  let x := engOf s (ctl s)
  x.st == .locked && x.sw.isNone && !x.slewing &&
    (match x.sel with
    | some r => (viewOf s r).st == .available && !(if isExt r then (refOf s r).cond.measuring else (groupOf s (r - 8)).servo.st == 4)
    | none => false)

/-- One engine records a second (R138). T0 is open in the manual: a free value, drawn when learning starts. -/
def learnSecond (e : Nat) (s : State) : State :=
  let (n, s1) := drawFree s
  let s := if (engOf s e).learned = 0 ∧ (engxOf s e).learnRecent.isEmpty then
      engMod e (fun x => { x with model := { x.model with t0 := Config.freeRat n } }) s1
    else s
  let x := engOf s e; let v := engxOf s e
  match v.ySec with
  | [] => s
  | y :: _ =>
    let row : LearnRow := { sec := s.clk.elapsed / uSec, y := y, temp := x.temp }
    let l := row :: v.learnRecent
    let w := (parE s 0x28 e).toNat
    let d := learnDecay (parE s 0x2E e).toNat
    let fit := (l.drop w).foldr (fun r f => fitAdd d x.model r f) x.fit
    let first := x.learned == 0
    let s := engMod e (fun x => { x with fit := fit, learned := x.learned + 1 }) s
    let s := engxMod e (fun v => { v with
      learnRecent := l.take w
      tMin := if first then x.temp else min v.tMin x.temp
      tMax := if first then x.temp else max v.tMax x.temp }) s
    refit s e

/-- One second of learning (R138, R161). -/
def execHoldoverLearn (s : State) : Host.Outcome State Fault Refusal :=
  if cyclesRun s && mayLearn s then
    done ([0, 1].foldl (fun s e => if engLive s e then learnSecond e s else s) s)
  else done s

/-- MODEL_READY_REACHED: an engine has 24 h of learning (R138). -/
def execModelReadyReached (s : State) : Host.Outcome State Fault Refusal :=
  done ([0, 1].foldl (fun s e =>
    if 86400 ≤ (engOf s e).learned ∧ !(engxOf s e).modelReady then refit (engxMod e (fun v => { v with modelReady := true }) s) e else s) s)

/-- A raw reading by its source (R139): the on-die sensor in 1/16 °C, the I²C reading in two's complement of its width, the
converter count of OSC_TEMP, 0 to 2,000. -/
def tempRaw (s : State) (e raw : Nat) : Int :=
  if parE s 0x30 e = 2 then min raw 2000
  else if parE s 0x30 e = 1 ∧ !(parE s 0x31 e).toNat.testBit 16 then toSigned 8 raw
  else toSigned 16 raw

/-- A temperature reading, or a failed one (R139): an I²C sensor is asked at the address and register of TEMP_I2C. -/
def execTempPoll (e : EngIx) (raw : Option Nat) (s : State) : Host.Outcome State Fault Refusal :=
  let n := e.val
  if !(engxOf s n).on then done s
  else
    let i2c := (parE s 0x31 n).toNat
    let s := engMod n (fun x => { x with polled := if parE s 0x30 n = 1 then some (bits i2c 0 7, bits i2c 8 8) else none }) s
    match raw with
    | some w =>
      let v := tempRaw s n w
      let t : Rat := if parE s 0x30 n = 0 then (v : Rat) / 16
        else (parE s 0x32 n : Rat) * v / 65536 + (parE s 0x33 n : Rat) / 16
      let was := (engOf s n).tempFault
      let s := engMod n (fun x => { x with temp := t, tempFails := 0, tempFault := false }) s
      done (if was then oscEvent n s else s)
    | none =>
      let k := (engOf s n).tempFails + 1
      let s' := engMod n (fun x => { x with tempFails := k, tempFault := x.tempFault || decide (3 ≤ k) }) s
      done (if k = 3 then oscEvent n s' else s')

/-- No estimate for SW_TIMEOUT (R145): model steering in SW_CLOSED. -/
def execSwTimeoutExpiry (s : State) : Host.Outcome State Fault Refusal :=
  let e := ctl s
  if (engOf s e).st = .swClosed ∧ !(engOf s e).hoInSw then
    done (engMod e (fun x => { x with hoInSw := true }) (enterModel e s))
  else done s

end Sys2Proof.Machine
end

