-- ==== Sys2Proof/Machine/Forwarding.lean ====
section
/-! DEFINITION. Classification and forwarding (chapter 12): the ingress decision, ageing, scrubbing and repair. -/

namespace Sys2Proof.Machine

/-- What stage 5 finds. -/
inductive FwdRes where
  | drop (k : Nat)
  | port (q : Nat)
  | group (g : Nat)
  | route (dev port : Nat)
  | host (ring reason : Nat)
  deriving DecidableEq, Repr

/-- The L2 result for a destination (R270, R271, R280). -/
def l2Lookup (s : State) (p vid mac flood : Nat) : FwdRes :=
  match l2Find s.fwd.hw.l2 vid mac with
  | some i =>
    match isBad s 0 i, Tbl.get s.fwd.hw.l2 i with
    | false, some e =>
      match e.kind with
      | 0 => if e.result % 256 = p then .drop 5 else if portUsed s (e.result % 256) then .port (e.result % 256) else .drop 6
      | 1 => .group (e.result % 16384)
      | 2 => .route (e.result / 256 % 2 ^ 18) (e.result % 256)
      | _ => if e.result.testBit 31 then .host (e.result % 8) 1 else .drop 9
    | _, _ => .drop 11
  | none => if (l2Ways (l2Bucket vid mac)).any (isBad s 0) then .drop 11 else .group flood

/-- A frame for this device by its destination port (R274). -/
def localPort (s : State) (q : Nat) : FwdRes := if portUsed s q && !kindFab s q then .port q else .drop 6

/-- The route for a destination device other than this one: member by hash (R274 to R276, R280). -/
def routeLookup (s : State) (dest hash : Nat) : Option FwdRes :=
  match routeIndex s dest with
  | none => none
  | some i =>
    if isBad s 4 i then some (.drop 11)
    else match Tbl.get s.fwd.hw.route i with
      | none => some (.drop 7)
      | some e => match routeMember s e hash with
        | some m => some (.port m)
        | none => some (.drop 7)

/-- The output ports of a result, or the drop reason (R278). -/
def expand (s : State) (p : Nat) : FwdRes → List Nat × Option Nat
  | .drop k => ([], some k)
  | .port q => ([q], none)
  | .group g => if isBad s 5 g then ([], some 11) else if groupPorts s p g = [] then ([], some 10) else (groupPorts s p g, none)
  | .route _ _ => ([], none)
  | .host _ _ => ([], none)

/-- An unaddressed device sends nothing out of a fabric port: those copies drop as NO_ROUTE (R339). -/
def addressed (s : State) (g : Nat) (e : List Nat × Option Nat) : (List Nat × Option Nat) × State :=
  if s.fab.addrValid || e.1.all (fun q => !kindFab s q) then (e, s)
  else
    let keep := e.1.filter (fun q => !kindFab s q)
    if keep.isEmpty then ((keep, some 7), s) else ((keep, none), bump (groupEvent g 7) 1 s)

/-- A frame as the pipeline has it after stages 1 to 4. -/
structure Parsed where
  hdr    : Option VHdr
  off    : Nat
  drop   : Option Nat
  vid    : Nat
  vent   : Option VidEntry
  cls    : Nat
  colour : Nat
  ctx    : Nat
  cfg    : Option CtxCfg
  deriving DecidableEq, Repr

/-- Stages 1 and 2 with the first drop reason: header, VID, class and colour (R261 to R264). -/
def parseFrame (s : State) (p : Nat) (b : List Byte) : Parsed :=
  if kindFab s p then
    let h := if hasHdr s b then readHdr b else none
    let off := if hasHdr s b then 28 else 12
    let vid := vidOf s p b off
    { hdr := h, off, vid, vent := Tbl.get s.fwd.hw.vid vid
      drop := if hasHdr s b then (if h.isNone then some 1 else none) else some 0
      cls := (h.map (fun x => x.cls)).getD 0, colour := (h.map (fun x => x.colour)).getD 0, ctx := 0, cfg := none }
  else
    let vid := vidOf s p b 12
    let e := Tbl.get s.fwd.hw.vid vid
    { hdr := none, off := 12, vid, vent := e
      drop := if isBad s 3 vid then some 11 else if e.isNone then some 2 else none
      cls := trustClass s p b
      colour := if (outerTci b 12).any (fun t => t.testBit 12) then 1 else 0, ctx := 0, cfg := none }

/-- Stage 3: the flow context, and what it says of the class (R264, R265, R267, R280). -/
def findCtx (s : State) (p : Nat) (b : List Byte) (x : Parsed) : Parsed :=
  let m := if kindFab s p then none else matchFind s p (fieldBe b 0 6) x.vid
  let i := match x.hdr, m with
    | some h, _ => if h.ctx.testBit 15 then h.ctx % 4096 else parN s 0x184 p
    | none, some e => e.2.ctx
    | none, none => parN s 0x184 p
  let c := ctxOf s i
  let cal := c.any (fun c => c.cal)
  let bad := (m.any (fun e => isBad s 1 e.1)) || (i != 0 && isBad s 2 i)
  let drop := if bad then some 11 else if x.hdr.any (fun h => h.cls == 8) && !cal then some 3 else none
  { x with
    ctx := if c.isSome then i else 0, cfg := c
    cls := if cal then 8 else if c.any (fun c => c.tcOvrEn) then (c.map (fun c => c.tcOvr)).getD 0 else x.cls
    drop := x.drop.or drop }

/-- Stage 4 (R267, R268). -/
def policeFrame (len : Nat) (x : Parsed) (s : State) : Parsed × State :=
  match x.cfg with
  | none => (x, s)
  | some c =>
    let r := police x.ctx c x.colour len s
    let bad := c.police && ((r.1 == 2 && !c.pass) || (c.cal && r.1 != 0))
    ({ x with colour := r.1, drop := x.drop.or (if bad then some 4 else none) }, r.2)

/-- The frame is for this device by its header: unicast, to its own address (R274). -/
def forMe (s : State) (h : VHdr) : Bool := !h.mcast && (routeIndex s h.dest).isNone

/-- Stage 5: the result, with the destination that a new header carries: device field and port (R267, R271, R274, R277). -/
def lookupFrame (s : State) (p : Nat) (b : List Byte) (x : Parsed) : FwdRes × Option (Nat × Nat) :=
  let macs := b.take 12
  let inner := fun (flood : Nat) => l2Lookup s p x.vid (fieldBe b 0 6) flood
  let toDev := fun (dev port : Nat) =>
    match routeLookup s dev (flowHash (ownAddr s) p dev port (if x.ctx = 0 then 0 else 32768 + x.ctx) macs x.vid) with
    | some r => (r, some (dev, port))
    | none => (localPort s port, none)
  let byL2 := fun (flood : Nat) =>
    match inner flood with
    | .route dev port => toDev dev port
    | .group g => (.group g, some (2 ^ 23 + g, 255))
    | r => (r, none)
  if x.hdr.any (fun h => h.hop == 0 && !forMe s h) then (.drop 8, none) else
  match x.cfg.filter (fun c => c.cal) with
  | some c =>
    if c.destMc then (.group (c.dest % 16384), some (2 ^ 23 + c.dest % 16384, 255))
    else (if portUsed s c.dest then .port c.dest else .drop 6, none)
  | none =>
    match x.hdr with
    | some h =>
      if forMe s h then
        if isBad s 3 x.vid then (.drop 11, none)
        else match x.vent with
          | none => (.drop 2, none)
          | some v => if h.destPort = 255 then byL2 v.flood else (localPort s h.destPort, none)
      else if h.mcast then (.group (h.dest % 16384), none)
      else ((routeLookup s h.dest (flowHash h.src h.srcPort h.dest h.destPort h.ctx macs x.vid)).getD (.drop 7), none)
    | none => byL2 ((x.vent.map (fun v => v.flood)).getD 0)

/-- Stage 7: the edit instruction of one copy (R279). `n` numbers the free value that stands where the manual gives
none: the destination of a CAL frame that no lookup finds, the priority of a pushed tag. -/
def editFor (s : State) (p : Nat) (b : List Byte) (x : Parsed) (dest : Option (Nat × Nat)) (n q : Nat) : OutCopy :=
  if kindFab s q then
    let d := dest.getD (Config.freeNat n % 2 ^ 18, Config.freeNat n / 2 ^ 18 % 256)
    { port := q, strip := 0, dei := false, push := none
      hdr := some (match x.hdr with
        | some h => keepHdr h x.cls x.colour
        | none => newHdr s 0 x.cls x.colour d.1 d.2 p (if x.ctx = 0 then 0 else 32768 + x.ctx) (parN s 0x190 0)) }
  else
    let untag := decide (tagLen b x.off = 0)
    { port := q, hdr := none, strip := parN s 0x108 q, dei := x.colour == 1 && parB s 0x185 q
      push := if parB s 0x186 q && untag then some (parN s 0x180 q + 4096 * (Config.freeNat n % 16)) else none }

/-- Learning (R272): from a frame that passes stages 1 and 2, where its VID entry has LEARN. -/
def learnFrame (p : Nat) (b : List Byte) (pre : Option Nat) (x : Parsed) (loc : Bool) (s : State) : State :=
  match pre, x.vent with
  | none, some v =>
    if v.learn && !isBad s 3 x.vid then
      match x.hdr with
      | some h => if loc then learn (p / 8) x.vid (fieldBe b 6 6) 2 (h.src * 256 + h.srcPort) s else s
      | none => learn (p / 8) x.vid (fieldBe b 6 6) 0 p s
    else s
  | _, _ => s

/-- The receive timestamp of an event message, where the frame is one (R80, R81). -/
def eventStamp (s : State) (p hdr : Nat) (f : RxFrame) : Option Rat :=
  match eventAt f.bytes hdr, f.stamp with
  | some _, some m => rxStamp s p m
  | _, _ => none

/-- A frame to the host receive store (R400, R401). -/
def toHost (ring reason p : Nat) (f : RxFrame) (bytes : List Byte) (x : Parsed) (trunc : Bool) (s : State) : State :=
  rxDeliver ring {
    fid := f.fid, bytes, port := p, reason, cls := x.cls, colour := x.colour, trunc
    ts := (eventStamp s p (x.off - 12) f).map (fun t => compact t.floor.toNat) } s

/-- A link-local destination (R262). -/
def linkLocal (b : List Byte) : Bool := decide (fieldBe b 0 5 = 0x0180C20000 ∧ fieldBe b 5 1 < 16)

/-- The port runs the exchange of R91 or R92. -/
def exchanges (s : State) (p : Nat) : Bool :=
  kindFab s p || (decide (1 ≤ ptpRole s p) && decide (ptpRole s p ≤ 3))

/-- What a unit beside the forwarding stages takes: MAC control, the time exchange, and Veman frames of the T24's own
kinds for this device or its link (R262, R332). -/
def takenAside (s : State) (p : Nat) (b : List Byte) : Bool :=
  (linkLocal b && f16 b 12 == 0x8808) || (f16 b 12 == 0x88F7 && exchanges s p) ||
  (kindFab s p && !linkLocal b && hasHdr s b &&
    (readHdr b).any (fun h => h.type != 0 && (h.link || (s.fab.addrValid && forMe s h))))

/-- Stages 3 to 7, admission or drop, for a frame that takes part in the forwarding stages. -/
def pipeline (p : Nat) (f : RxFrame) (bytes : List Byte) (trunc : Bool) (st : Nat × Bool) (s : State) : State :=
  let g := p / 8
  let len := if trunc then bytes.length else bytes.length + 4
  let x0 := parseFrame s p bytes
  let r := policeFrame len (findCtx s p bytes x0) s
  let x := r.1
  let s := r.2
  let look : FwdRes × Option (Nat × Nat) := match x.drop with
    | some k => (FwdRes.drop k, none)
    | none =>
      if x.hdr.any (fun (h : VHdr) => h.link) then (FwdRes.drop 12, none)
      else if x.hdr.isSome && !s.fab.addrValid then (FwdRes.drop 7, none)
      else if trunc && parB s 0x107 p then (FwdRes.host (parN s 0x192 0) 2, none)
      else lookupFrame s p bytes x
  let es := addressed s g (expand s p look.1)
  let e := es.1
  let s := es.2
  let s := learnFrame p bytes x0.drop x (x.hdr.any (forMe s) || e.1.any (fun q => !kindFab s q)) s
  match look.1, e with
  | .host ring reason, _ => if st.2 then s else toHost ring reason p f bytes x trunc s
  | _, (outs, none) =>
    let n := s.free
    let d : FrameDesc := {
      fid := f.fid, port := p, hostTx := none, bytes, len, cls := x.cls, colour := x.colour, ctx := x.ctx
      outs := outs.map (fun q => editFor s p bytes x look.2 (n + q) q)
      group := match look.1 with
        | .group k => some k
        | _ => none
      cut := false, trunc, bad := st.2, complete := decide (st.1 = 1)
      rxTime := eventStamp s p (x.off - 12) f
      rxLane := if (eventStamp s p (x.off - 12) f).isSome then f.stamp.map (·.lane) else none, oneStep := false, crossed := [] }
    admitFrame g d { s with free := n + 192 }
  | _, (_, some k) => if k < 12 then bump (groupEvent g k) 1 s else s

/-- The decision for a frame: dropped, delivered to the host, or admitted (R260 to R288, R369). A frame that its MAC has
already dropped has none. -/
def execIngressDecision (p : PortIx) (f : RxFrame) (s : State) : Host.Outcome State Fault Refusal :=
  let n := p.val
  if (portOf s n).st != .up then done s
  else
    let fate := (portOf s n).ended.find? (fun e => e.1 == f.fid)
    let s := portMod n (fun q => { q with ended := q.ended.filter (fun e => e.1 != f.fid) }) s
    let max := parN s 0x106 n
    let trunc := f.trunc || decide (max < f.bytes.length + 4)
    let bytes := if trunc then (f.bytes ++ le 4 (crc32 f.bytes).toNat).take max else f.bytes
    let st : Nat × Bool := (b2n fate.isSome, (fate.map (fun e => e.2)).getD 0 == 1)
    if fate.any (fun e => e.2 == 2) || takenAside s n bytes then done s
    else if !portUp s n then done (bump (groupEvent (n / 8) 18) 1 s)
    else
      let s := f.upsets.foldl (fun s u => parityFound u.1 u.2 s) s
      if linkLocal bytes then
        if st.2 then done s else done (toHost (parN s 0x191 0) 0 n f bytes (parseFrame s n bytes) trunc s)
      else done (pipeline n f bytes trunc st s)

/-- Obilwin's sweep: idle learned entries go, HIT clears on the others (R273). -/
def execAgeingSweep (s : State) : Host.Outcome State Fault Refusal :=
  if obilwinUp s && domOn s 10 then
    done (hwMod (fun h => { h with l2 := (h.l2.filter (fun e => e.2.static || e.2.hit)).map (fun e =>
      if e.2.static then e else (e.1, { e.2 with hit := false })) }) s)
  else done s

/-- A scrubber pass: the entries found to fail parity are marked bad (R281). -/
def execScrubPass (found : List (Fin 7 × Nat)) (s : State) : Host.Outcome State Fault Refusal :=
  if domOn s 10 && !inReset s then done (bump 33 1 (found.foldl (fun s e => parityFound e.1.val e.2 s) s)) else done s
where
  /-- The tables are held in reset with the chip (R379). -/
  inReset (s : State) : Bool := s.rst.por || s.rst.chip.isSome

/-- An entry as the golden copy has it. -/
def putGold {α : Type} (i : Nat) (t gold : Tbl α) : Tbl α :=
  match Tbl.get gold i with
  | some v => Tbl.set t i v
  | none => Tbl.erase t i

/-- Obilwin rewrites a bad entry from its golden copy, and invalidates a learned L2 entry (R281). -/
def execParityRepair (table : Fin 7) (index : Nat) (s : State) : Host.Outcome State Fault Refusal :=
  if obilwinUp s && domOn s 10 && isBad s table.val index then
    let gold := s.fwd.golden
    let s := clearBad table.val index s
    match table with
    | 0 => done (hwMod (fun h => { h with l2 := putGold index h.l2 gold.l2 }) s)
    | 1 => done (hwMod (fun h => { h with mat := putGold index h.mat gold.mat }) s)
    | 2 => done (hwMod (fun h => { h with ctx := putGold index h.ctx gold.ctx }) s)
    | 3 => done (hwMod (fun h => { h with vid := putGold index h.vid gold.vid }) s)
    | 4 => done (hwMod (fun h => { h with route := putGold index h.route gold.route }) s)
    | 5 =>
      let kept := ((Tbl.get s.fwd.hw.mcast index).map (fun e => e.drops)).getD 0
      done (hwMod (fun h => { h with mcast := Tbl.upd (putGold index h.mcast gold.mcast) index (fun e => { e with drops := kept }) }) s)
    | 6 => done s
  else done s

end Sys2Proof.Machine
end

