-- ==== Sys2Proof/Machine/FwdCmds.lean ====
section
/-! DEFINITION. The forwarding commands (R460, R461). -/

namespace Sys2Proof.Machine

/-! ### L2 database (R270 to R273) -/

/-- The table that a command looks at: the golden copy while D10 is Off. -/
def l2Table (s : State) : Tbl L2Entry := if (vget s.pm.dom 10 {}).st == .off then s.fwd.golden.l2 else s.fwd.hw.l2

/-- The entry that a static write takes: the key's own, a free way, or the learned entry in the highest way. -/
def l2Place (t : Tbl L2Entry) (vid mac : Nat) : Option Nat :=
  (l2Find t vid mac).or ((l2Free t vid mac).or ((l2Ways (l2Bucket vid mac)).reverse.find? (fun i => (Tbl.get t i).any (fun e => !e.static))))

/-- RESULT does not fit its KIND (R271, R284). -/
def l2Bad (s : State) (kind res : Nat) : Bool :=
  match kind with
  | 0 => decide (192 ≤ res) || kindFab s res
  | 1 => decide (2 ^ 14 ≤ res)
  | 2 => decide (2 ^ 26 ≤ res)
  | _ => bits res 3 28 != 0

/-- L2_WRITE. -/
def l2Write (o : Origin) (p : List Byte) (s : State) : State :=
  let vid := fieldLe p 0 2; let mac := fieldBe p 2 6; let kind := fieldLe p 8 1; let result := fieldLe p 12 4
  checked o [(decide (4095 < vid), 0), (decide (3 < kind), 8), (!zeros p 9 3, firstSet p 9 3), (l2Bad s kind result, 12)] (fun s =>
    match l2Place (l2Table s) vid mac with
    | some i =>
      let e : L2Entry := { static := true, hit := false, kind, vid, mac, result }
      setResult o (okRes []) (putBoth 0 i (fun t => { t with l2 := Tbl.set t.l2 i e }) s)
    | none => setResult o (notPermitted 0x0016) s) s
def execL2Write (o : Origin) (s : State) : Host.Outcome State Fault Refusal := done (onCommand o 0x0510 (l2Write o) s)

/-- L2_DELETE: static or learned. -/
def l2Delete (o : Origin) (p : List Byte) (s : State) : State :=
  let vid := fieldLe p 0 2
  checked o [(decide (4095 < vid), 0)] (fun s =>
    match l2Find (l2Table s) vid (fieldBe p 2 6) with
    | some i => setResult o (okRes (le 4 1)) (putBoth 0 i (fun t => { t with l2 := Tbl.erase t.l2 i }) s)
    | none => setResult o (okRes (le 4 0)) s) s
def execL2Delete (o : Origin) (s : State) : Host.Outcome State Fault Refusal := done (onCommand o 0x0511 (l2Delete o) s)

/-- L2_FLUSH: learned entries of a scope. -/
def l2Flush (o : Origin) (p : List Byte) (s : State) : State :=
  let sc := fieldLe p 0 1; let a := fieldLe p 4 4
  checked o [(decide (2 < sc), 0), (!zeros p 1 3, firstSet p 1 3),
      (match sc with
        | 0 => a != 0
        | 1 => decide (191 < a)
        | _ => decide (4095 < a), 4)] (fun s =>
    let goes := fun (e : Nat × L2Entry) => !e.2.static && (match sc with
      | 0 => true
      | 1 => e.2.kind == 0 && e.2.result == a
      | _ => e.2.vid == a)
    let n := (s.fwd.hw.l2.filter goes).length
    setResult o (okRes (le 4 n)) (hwMod (fun h => { h with l2 := h.l2.filter (fun e => !goes e) }) s)) s
def execL2Flush (o : Origin) (s : State) : Host.Outcome State Fault Refusal := done (onCommand o 0x0512 (l2Flush o) s)

/-! ### Flow contexts and stream matches (R265, R266, R269) -/

/-- A context that an admitted stream holds. -/
def ctxHeld (s : State) (i : Nat) : Bool := s.cald.streams.any (fun x => x.ctx == i) || (Tbl.get s.fwd.golden.ctx i).any (fun c => c.cal)

/-- CTX_WRITE: both buckets are full after it; the statistics stay. -/
def ctxWrite (o : Origin) (p : List Byte) (s : State) : State :=
  let i := fieldLe p 0 2; let f := fieldLe p 2 1
  let cir := fieldLe p 8 4; let pir := fieldLe p 12 4; let cbs := fieldLe p 16 4; let pbs := fieldLe p 20 4
  let c : CtxCfg := { valid := f.testBit 0, tcOvrEn := f.testBit 1, tcOvr := bits f 2 3, police := f.testBit 5, aware := f.testBit 6
                      pass := f.testBit 7, cir, pir, cbs, pbs }
  checked o [(i == 0 || decide (4095 < i), 0), (!zeros p 3 1, 3), (!zeros p 4 4, firstSet p 4 4), (decide (pir < cir ∨ 3125000 < cir), 8), (decide (3125000 < pir), 12),
      (decide (cbs < 1518 ∨ 2 ^ 24 ≤ cbs), 16), (decide (pbs < 1518 ∨ 2 ^ 24 ≤ pbs), 20)] (fun s =>
    if ctxHeld s i then setResult o (notPermitted 0x0013) s
    else
      let s := putBoth 2 i (fun t => { t with ctx := Tbl.set t.ctx i c }) s
      let x := { liveOf s i c with tc := (cbs : Rat), tp := (pbs : Rat), asOf := s.clk.elapsed }
      setResult o (okRes []) (clearBad 6 i (fwdMod (fun f => { f with live := Tbl.set f.live i x }) s))) s
def execCtxWrite (o : Origin) (s : State) : Host.Outcome State Fault Refusal := done (onCommand o 0x0520 (ctxWrite o) s)

/-- CTX_STATS_GET. -/
def ctxStatsGet (o : Origin) (p : List Byte) (s : State) : State :=
  let i := fieldLe p 0 2
  checked o [(i == 0 || decide (4095 < i), 0), (!zeros p 2 2, firstSet p 2 2)] (fun s =>
    let x := (Tbl.get s.fwd.live i).getD {}
    setResult o (okRes (le 8 x.green ++ le 8 x.yellow ++ le 8 x.red ++ le 8 x.octets)) s) s
def execCtxStatsGet (o : Origin) (s : State) : Host.Outcome State Fault Refusal := done (onCommand o 0x0521 (ctxStatsGet o) s)

/-- MATCH_WRITE; with VALID 0 the entry goes. -/
def matchWrite (o : Origin) (p : List Byte) (s : State) : State :=
  let i := fieldLe p 0 2; let v := fieldLe p 2 1
  let e : MatchEntry := { port := fieldLe p 3 1, mac := fieldLe p 4 6, vid := fieldLe p 10 2, ctx := fieldLe p 12 2 }
  checked o [(decide (8191 < i), 0), (decide (1 < v), 2), (decide (191 < e.port), 3), (decide (4095 < e.vid), 10), (decide (4095 < e.ctx), 12),
      (!zeros p 14 2, firstSet p 14 2)] (fun s =>
    setResult o (okRes []) (putBoth 1 i (fun t => { t with mat := if v = 1 then Tbl.set t.mat i e else Tbl.erase t.mat i }) s)) s
def execMatchWrite (o : Origin) (s : State) : Host.Outcome State Fault Refusal := done (onCommand o 0x0522 (matchWrite o) s)

/-! ### VIDs, groups, maps, profiles (R263, R264, R278, R298) -/

/-- VID_WRITE. -/
def vidWrite (o : Origin) (p : List Byte) (s : State) : State :=
  let i := fieldLe p 0 2; let f := fieldLe p 2 1; let g := fieldLe p 4 4
  checked o [(decide (4095 < i), 0), (decide (3 < f), 2), (!zeros p 3 1, 3), (decide (16383 < g), 4)] (fun s =>
    setResult o (okRes []) (putBoth 3 i (fun t => { t with
      vid := if f.testBit 0 then Tbl.set t.vid i { learn := f.testBit 1, flood := g } else Tbl.erase t.vid i }) s)) s
def execVidWrite (o : Origin) (s : State) : Host.Outcome State Fault Refusal := done (onCommand o 0x0530 (vidWrite o) s)

/-- MCAST_WRITE: COPY_DROPS stays (R303). -/
def mcastWrite (o : Origin) (p : List Byte) (s : State) : State :=
  let i := fieldLe p 0 2; let v := fieldLe p 2 1
  checked o [(decide (16383 < i), 0), (decide (1 < v), 2), (!zeros p 3 1, 3)] (fun s =>
    setResult o (okRes []) (putBoth 5 i (fun t => { t with
      mcast := Tbl.set t.mcast i { valid := v == 1, mask := BitVec.ofNat 192 (fieldLe p 4 24)
                                   drops := ((Tbl.get t.mcast i).map (fun e => e.drops)).getD 0 } }) s)) s
def execMcastWrite (o : Origin) (s : State) : Host.Outcome State Fault Refusal := done (onCommand o 0x0531 (mcastWrite o) s)

/-- MAP_WRITE: the PCP map of a port, or a DSCP map. -/
def mapWrite (o : Origin) (p : List Byte) (s : State) : State :=
  let t := fieldLe p 0 1; let q := fieldLe p 1 1
  let n := if t = 0 then 8 else 64
  let bad := (List.range n).map (fun i => (decide (7 < fieldLe p (4 + i) 1), 4 + i))
  checked o ([(decide (4 < t), 0), (if t = 0 then decide (191 < q) else q != 0, 1), (!zeros p 2 2, firstSet p 2 2)] ++ bad) (fun s =>
    let put := fun (m : Tbl Nat) (base : Nat) => (List.range n).foldl (fun m i => Tbl.set m (base + i) (fieldLe p (4 + i) 1)) m
    setResult o (okRes []) (saveCfg (fwdMod (fun f =>
      if t = 0 then { f with pcp := put f.pcp (q * 8) } else { f with dscp := put f.dscp ((t - 1) * 64) }) s))) s
def execMapWrite (o : Origin) (s : State) : Host.Outcome State Fault Refusal := done (onCommand o 0x0532 (mapWrite o) s)

/-- WRED_SET. -/
def wredSet (o : Origin) (p : List Byte) (s : State) : State :=
  let i := fieldLe p 0 1
  let w : Wred := { weight := fieldLe p 1 1, pmaxDen := fieldLe p 2 2, minTh := fieldLe p 4 4, maxTh := fieldLe p 8 4 }
  checked o [(decide (15 < i), 0), (decide (15 < w.weight), 1), (w.pmaxDen == 0 || decide (1024 < w.pmaxDen), 2), (decide (24575 < w.minTh), 4),
      (decide (w.maxTh ≤ w.minTh ∨ 24576 < w.maxTh), 8)] (fun s =>
    setResult o (okRes []) (saveCfg { s with q := { s.q with wred := vmodN s.q.wred i (fun _ => w) } })) s
def execWredSet (o : Origin) (s : State) : Host.Outcome State Fault Refusal := done (onCommand o 0x0540 (wredSet o) s)

end Sys2Proof.Machine
end

