-- ==== Sys2Proof/Machine/Keystone.lean ====
section
/-! DEFINITION. The Keystone: claims, handovers, the wall tie, arbitration, cupping, planned handovers (chapter 07). -/

namespace Sys2Proof.Machine

/-- Histories move with the accepted time clock (R78): by `d` in the sense of phase errors. What a measurement of a step
has gathered, the value it holds, and the running windows of the monitors move with them. -/
def shiftHistories (d : Rat) (s : State) : State :=
  let s := { s with group := s.group.map (fun (g : Group) => { g with servo := { g.servo with
    hist := g.servo.hist.map (· + d), preMean := g.servo.preMean + d, heldVal := g.servo.heldVal + d
    measSum := g.servo.measSum + g.servo.measN * d } }) }
  let s := { s with lane := s.lane.map (fun (l : Lane) => { l with ph := { l.ph with eHist := l.ph.eHist.map (· + d) } }) }
  { s with te := { s.te with ref := s.te.ref.map (fun (r : Reference) => { refWindows d r with cond := condHist d r.cond }) } }

/-- Checks that only a standby runs have no say in the engine that takes control (R154, R166). -/
def dropStandbyChecks (v : EngineX) : EngineX :=
  { v with
    fails := (v.fails.set 4 0).set 5 0, failAt := (v.failAt.set 4 none).set 5 none
    passes := (v.passes.set 4 0).set 5 0, viewBad := 0, badRun := 0 }

/-- What the new engine goes on with: the servo's state, switch, holdover and release as they stand, which a handover does
not change (R158), and what the record of R159 does not carry. y_0 is the one it copied, until it has seconds of its own
(R140). -/
def carryOver (a b : Nat) (s : State) : State :=
  let x := engOf s a; let v := engxOf s a
  engxMod b (fun w => dropStandbyChecks { w with
    refs := v.refs, selHeld := v.selHeld, selCmd := v.selCmd, acqSw := v.acqSw, resid := v.resid, residNow := v.residNow
    target := v.target, swY := v.swY, estimates := v.estimates
    ySec := match w.yHist with
      | some y => List.replicate 102 y
      | none => w.ySec })
    (engMod b (fun y => { y with
      st := x.st, sel := x.sel, sw := x.sw, forceSw := x.forceSw, slewing := x.slewing, slewHo := x.slewHo, slewAt := x.slewAt
      hoIn := x.hoIn, hoEntry := x.hoEntry, hoInSw := x.hoInSw, lastFresh := x.lastFresh
      acqPhase := x.acqPhase, lockCnt := x.lockCnt, unlockCnt := x.unlockCnt, lockedSec := x.lockedSec
      everLocked60 := x.everLocked60, hoFrozen := x.hoFrozen, forecast := x.forecast, suspectAlarm := x.suspectAlarm }) s)

/-- Control passes to another engine at an edge where the comparator reads `cmp` (R155 to R158, R453). It ends an alignment.
An engine that was to be powered down is lowered once control has passed (R169). -/
def handover (nxt : Fin 2) (cmp : Rat) (s : State) : State :=
  match s.te.ks.control with
  | none => s
  | some old =>
    if old = nxt then s
    else
      let planned := s.te.ks.planned
      let leaves := s.te.ks.pendingPower.filter (fun q => q.1 == old)
      let s := carryOver old.val nxt.val s
      -- time moves by B − A when control passes to B, and by A − B when it passes to A
      let s := shiftHistories (if nxt = 1 then -cmp else cmp) s
      let s := bump 18 1 (ksMod (fun k => { k with
        control := some nxt, handoverEvt := true, handovers := k.handovers + 1, cmpEdge := cmp, planned := false
        alignResult := if planned || leaves.isSome then 1
          else if k.align = some .software ∨ (k.align.isSome ∧ k.pendBase.isSome) then 2 else k.alignResult
        align := none, alignDone := false
        pendingPower := if leaves.isSome then none else k.pendingPower }) s)
      let claims := [BitVec.ofNat 8 (engxOf s 0).claim, BitVec.ofNat 8 (engxOf s 1).claim]
      let s := match leaves with
        | some q => lowerEngine q.1.val q.2 s
        | none => s
      issueEvent 0x0204 nxt.val (claims ++ [BitVec.ofNat 8 (b2n planned)] ++ le 5 0 ++ s64 (roundAway cmp)) s

/-- To the 8 ns boundary at which output stages switch (R155): the second one after the claims changed. They latch both claims
at the first. -/
def toSwitchEdge (s : State) : State :=
  let gap := fun (s : State) => 8 * uNs - s.clk.now % (8 * uNs)
  let s := if s.te.engx.all (fun x => x.latched == x.claim) then s else ahead (gap s) s
  if s.clk.now % (8 * uNs) = 0 ∧ s.te.ks.latchAt < s.clk.elapsed then s else ahead (gap s) s

/-- The edge at which every output stage accepts the engine of the higher latched claim (R151, R155). A planned handover
whose claims give control to no other engine has not taken place. -/
def execHandoverEdge (cmp : Int) (s : State) : Host.Outcome State Fault Refusal :=
  if s.te.ks.control.isNone then done s
  else
    let s := toSwitchEdge s
    match claimWinner (engxOf s 0).latched (engxOf s 1).latched with
    | some n =>
      if s.te.ks.control = some n ∧ s.te.ks.planned then
        done (ksMod (fun k => { k with planned := false, alignResult := 2, pendingPower := none }) s)
      else done (handover n cmp s)
    | none => done s

/-- A fatal fault of an engine's DCO or distribution: HEALTH 2 and the claim at once (R155). -/
def execEngineFatalFault (e : EngIx) (s : State) : Host.Outcome State Fault Refusal := done (engineFault e.val s)

/-- An engine's time clock stops (R156): the edge comes from the other engine if it presents a claim. `cmp` is the
comparator's latest measurement (R157, R163). -/
def execEngineClockStop (e : EngIx) (cmp : Int) (s : State) : Host.Outcome State Fault Refusal :=
  let n := e.val
  let o := otherEng n
  let s := engxMod n (fun x => { x with clkOk := false, claim := 0 }) s
  if s.te.ks.control = some e ∧ (engxOf s o).claim ≠ 0 then
    done (handover (Fin.ofNat 2 o) cmp (ksMod (fun k => { k with planned := false }) s))
  else done s

/-- The bytes of a record after what the wire did to it. -/
def withNoise (l : List Byte) (noise : List (Nat × Byte)) : List Byte :=
  noise.foldl (fun l q => l.set q.1 ((l.getD q.1 0) ^^^ q.2)) l

/-- The engine that the last record goes to: the other one than its sender (R158, R159). -/
def tieReceiver (s : State) : Nat := otherEng (fieldLe s.te.ks.tieOut 2 1)

/-- The standby receives a record (R159, R162). -/
def execWallTieRecord (noise : List (Nat × Byte)) (s : State) : Host.Outcome State Fault Refusal :=
  let e := tieReceiver s
  let v := engxOf s e
  if !v.on || s.te.ks.tieOut.isEmpty then done s
  else
    let l := withNoise s.te.ks.tieOut noise
    let idle : Fin 2 := if v.bank = 0 then 1 else 0
    let ok := tieValid l
    let s := engxMod e (fun v => { v with
      banks := v.banks.set idle l, bankAt := v.bankAt.set idle s.te.ks.tieAt, bank := if ok then idle else v.bank
      silent := if ok then 0 else v.silent, badRun := if ok then 0 else v.badRun + 1, loaded := v.loaded || ok }) s
    let s := cupRecord e 5 ok s
    if ok then done (ksMod (fun k => { k with lastSeq := fieldLe l 0 2 }) s)
    else done (bump 19 1 (ksMod (fun k => { k with crcErrors := satU 16 (k.crcErrors + 1) }) s))

/-- 64 cycles without a valid record (R162). -/
def execWallTieSilence (s : State) : Host.Outcome State Fault Refusal :=
  let e := otherEng (ctl s)
  if engLive s e && decide (64 ≤ (engxOf s e).silent) && decide (4 ≤ (engxOf s e).health) then done (setHealth e 2 s)
  else done s

/-- The engine that a disagreement is attributed to, and whether only rule 4 decided (R164, R165). -/
def heldAtFault (views : List (Fin 32 × Int × Int)) (s : State) : Fin 2 × Bool :=
  let th : Rat := parV s 0x41
  let recent := fun e => match (engxOf s e).lastFail with
    | some t => decide (s.clk.elapsed - t ≤ uSec)
    | none => false
  let standby : Fin 2 := Fin.ofNat 2 (otherEng (ctl s))
  let view := fun (r : Nat) => (views.find? (fun q => q.1.val == r)).map (fun q => ((q.2.1 : Rat), (q.2.2 : Rat)))
  let rule2 : Option (Fin 2) := match ((engOf s (ctl s)).sel).bind view with
    | some (a, b) =>
      if th < absQ a ∧ absQ b ≤ th / 2 then some 0 else if th < absQ b ∧ absQ a ≤ th / 2 then some 1 else none
    | none => none
  let qual := (refList.filter (isQualified s)).filterMap view
  let ma := absQ (medianQ (qual.map (·.1))); let mb := absQ (medianQ (qual.map (·.2)))
  let rule3 : Option (Fin 2) :=
    if qual.length < 3 then none else if mb + th / 2 < ma then some 0 else if ma + th / 2 < mb then some 1 else none
  if recent 0 && !recent 1 then (0, false)
  else if recent 1 && !recent 0 then (1, false)
  else match rule2, rule3 with
    | some e, _ => (e, false)
    | none, some e => (e, false)
    | none, none => (standby, true)

/-- Arbitration during an alignment ends it (R171): a power-down goes on without further alignment unless the incoming
engine is at fault, a software change goes on by the claims that result, a reclaim is abandoned. -/
def alignArbitrated (fault : Fin 2) (s : State) : State :=
  let k := s.te.ks
  match k.align with
  | none => s
  | some .powerDown => if fault = k.alignTo then alignAbandon s else ksMod (fun k => { k with alignDone := true }) s
  | some .software =>
    if fault = k.alignTo then alignAbandon s
    else ksMod (fun k => { k with align := none, alignDone := false, planned := true }) (takeSettings s)
  | some .reclaim => alignAbandon s

/-- Both engines are in service, in a health above BOOTING (R163). -/
def bothLive (s : State) : Bool := [0, 1].all (fun e => engLive s e && decide (5 ≤ (engxOf s e).health))

/-- Arbitration after CMP_CYCLES disagreeing cycles (R163 to R165, R171). -/
def execArbitration (views : List (Fin 32 × Int × Int)) (s : State) : Host.Outcome State Fault Refusal :=
  if s.te.ks.disagree < (parV s 0x42).toNat ∨ !bothLive s then done s
  else
    let (f, un) := heldAtFault views s
    let s := recover 13 0 f.val (bump 17 1 s)
    let s := ksMod (fun k => { k with
      arbitrating := true, disagree := 0, agree := 0, disagreeAlarm := true, unattributed := k.unattributed || un }) s
    done (alignArbitrated f (setHealth f.val 2 s))

/-- The DCO range check of an engine (R166): the measured frequency less the commanded one, in 2⁻⁴⁸. -/
def execDcoRangeCheck (e : EngIx) (diff : Int) (s : State) : Host.Outcome State Fault Refusal :=
  let n := e.val
  if !engLive s n then done s
  else
    let pass := decide (absQ diff ≤ (281474976710656 : Rat) / 100000000000) && decide (|(engOf s n).y| ≤ parE s 0x27 n)
    done (cupRecord n 0 pass s)

/-- The converter-code check of an engine (R166). -/
def execConverterCodeCheck (e : EngIx) (pass : Bool) (s : State) : Host.Outcome State Fault Refusal :=
  if engLive s e.val then done (cupRecord e.val 2 pass s) else done s

/-- A software change that waits would move control (R167). -/
def softwareDue (s : State) : Option (Fin 2) :=
  let k := s.te.ks
  if k.pendBase.isNone ∧ k.pendPref.isNone then none
  else match wouldAccept s (k.pendBase.getD (basesNow s)) (k.pendPref.getD k.pref) (healthsNow s), k.control with
    | some n, some c => if n = c then none else some n
    | _, _ => none

/-- ENGINE_WTR has passed in RESTORING (R154, R167, R171). -/
def execEngineWtrExpiry (e : EngIx) (s : State) : Host.Outcome State Fault Refusal :=
  let n := e.val
  if (engxOf s n).health ≠ 6 then done s
  else
    let h := if n = 0 then (7, (engxOf s 1).health) else ((engxOf s 0).health, 7)
    match wouldAccept s (basesNow s) s.te.ks.pref h, s.te.ks.control with
    | some a, some c =>
      if a ≠ c then
        if 0 < s.te.ks.disagree ∨ s.te.ks.align.isSome then done (ksMod (fun k => { k with reclaimWait := some a, agree := 0 }) s)
        else done (startAlign a .reclaim s)
      else
        let s := setHealth n 7 s
        match softwareDue s with
        | some b => done (if s.te.ks.align.isSome then s else startAlign b .software s)
        | none => done s
    | _, _ => done (setHealth n 7 s)

/-- A FAULTED engine has agreed with the comparator for 64 s after full cupping (R154). -/
def execFaultRecoveryAgree (e : EngIx) (s : State) : Host.Outcome State Fault Refusal :=
  let n := e.val
  let x := engxOf s n
  if x.health = 2 ∧ x.agreeSince.isSome ∧ (checksOf s n).all (fun k => decide (1 ≤ vget x.passes k 0)) then done (setHealth n 6 s)
  else done s

/-- Eight cycles within 0.5 ps: the claim change is due at the next boundary (R167). -/
def execAlignmentComplete (s : State) : Host.Outcome State Fault Refusal :=
  if s.te.ks.align.isSome ∧ 8 ≤ s.te.ks.alignOk then done (ksMod (fun k => { k with alignDone := true }) s) else done s

/-- 64 cycles without alignment (R167). -/
def execAlignmentTimeout (s : State) : Host.Outcome State Fault Refusal :=
  let k := s.te.ks
  if k.alignCyc < 64 ∨ k.alignDone then done s
  else match k.align with
    | none => done s
    | some .powerDown => done (ksMod (fun k => { k with alignDone := true }) s)
    | some _ => done (setHealth k.alignTo.val 5 (alignAbandon s))

/-- A booting engine has loaded a record, or starts alone with the other engine OFF or FAILED (R170). -/
def mayStart (s : State) (e : Nat) : Bool := (engxOf s e).loaded || decide ((engxOf s (otherEng e)).health ≤ 1)

/-- A booting engine has reached the comparator's null and steers on its own (R170). -/
def execEngineSlewDone (e : EngIx) (s : State) : Host.Outcome State Fault Refusal :=
  let n := e.val
  let x := engxOf s n
  if x.on && x.booting && mayStart s n then
    done (engxMod n (fun x => { x with
      booting := false, silent := 0, badRun := 0, viewBad := 0, fails := Vector.replicate 6 0, passes := Vector.replicate 6 0 }) s)
  else done s

end Sys2Proof.Machine
end

