-- ==== Sys2Proof/Machine/Lanes.lean ====
section
/-! DEFINITION. The lanes: signal, lock and training (R48 to R53), pattern checker (R55), Veman sleep (R60 to R63). -/

namespace Sys2Proof.Machine

/-- The lane is held in reset, by itself or by a scope that owns it (R379). -/
def laneInReset (s : State) (l : Nat) : Bool :=
  s.rst.por || s.rst.chip.isSome || vget s.rst.groups (l / 8) false || vget s.rst.lanes l false

/-- A mode change is complete once no lane of the group is OFF (R239, R457). -/
def lanesIn (g : Nat) (s : State) : State :=
  if (List.range 8).all (fun k => (laneOf s (8 * g + k)).st != .off) then groupMod g (fun x => { x with changing := false }) s else s

/-- A signal appears on a lane: a lane in OFF enters ACQUIRE with its trims applied; in a bank below On it is a wake source
(R51, R215, R363). -/
def execLaneSignalDetect (l : LaneIx) (trims : List (Nat × Int)) (s : State) : Host.Outcome State Fault Refusal :=
  let n := l.val
  let x := laneOf s n
  if laneInReset s n || x.sigDet then done s
  else if !domOn s (bankOf (n / 8)) then done (wakeFrom 1 n (wakeMask s 1 n) s)
  else if x.st == .off && modeOf s (n / 8) != 0 then
    let s := wakeFrom 1 n (wakeMask s 1 n) s
    let s := laneMod n (fun x => { x with sigDet := true }) s
    done (lanesIn (n / 8) (laneAcquire n (applyTrims [rowSwing] trims s)))
  else done (when (x.st != .off) (laneMod n (fun x => { x with sigDet := true }) s) s)

/-- The CDR locks: training where the port trains, READY with the configured preset where it does not (R51, R52). -/
def execCdrLock (l : LaneIx) (eq : RxEq) (s : State) : Host.Outcome State Fault Refusal :=
  let n := l.val
  if (laneOf s n).st == .acquire && !laneInReset s n then
    let s := laneMod n (fun x => { x with cdrLock := true, sigDet := true }) s
    if trains s (portOfLane s n) then
      done (laneMod n (fun x => { x with st := .train, taps := initPreset, trainFails := 0 }) s)
    else done (laneReady n (presetTaps s n) eq s)
  else done s

/-- The CDR lock timeout: counted, logged, and the lane acquires again (R51, R384). -/
def execCdrLockTimeout (l : LaneIx) (s : State) : Host.Outcome State Fault Refusal :=
  let n := l.val
  if (laneOf s n).st == .acquire then done (laneAcquire n (recover 1 0 n (bump (40 + 2 * n) 1 s))) else done s

/-- Training completes: READY with the coefficients trained (R51, R52). -/
def execTrainingComplete (l : LaneIx) (taps : Taps) (eq : RxEq) (s : State) : Host.Outcome State Fault Refusal :=
  let n := l.val
  if (laneOf s n).st == .train then
    done (laneReady n taps eq (laneMod n (fun x => { x with goodTaps := some taps }) s))
  else done s

/-- The training timeout: from the initialize preset again, or, the third time, READY with the last good coefficients
and TRAIN_FALLBACK set (R51, R52). -/
def execTrainingTimeout (l : LaneIx) (eq : RxEq) (s : State) : Host.Outcome State Fault Refusal :=
  let n := l.val
  let x := laneOf s n
  if x.st == .train then
    let s := recover 2 0 n (bump (41 + 2 * n) 1 s)
    if x.trainFails + 1 < 3 then
      done (laneMod n (fun x => { x with trainFails := x.trainFails + 1, taps := initPreset }) s)
    else
      done (laneMod n (fun x => { x with trainFallback := true })
        (laneReady n (x.goodTaps.getD initPreset) eq s))
  else done s

/-- The CDR loses lock in READY: ACQUIRE, and the port to HOLD (R51, R243). -/
def laneLost (n : Nat) (s : State) : State := laneAcquire n (laneLeaves n .acquire 1 false s)

/-- Loss of lock or of signal (R51). -/
def execLaneLossOfLock (l : LaneIx) (signal : Bool) (s : State) : Host.Outcome State Fault Refusal :=
  let n := l.val
  if (laneOf s n).st == .ready then
    done (laneMod n (fun x => { x with sigDet := signal }) (laneLost n s))
  else done s

/-- The receive offset over 1 ms: RX_OFFSET, PPM_ALARM on a standard port, and the return of a fabric port to
compensated mode (R48, R49); beyond ±200 ppm the CDR loses lock (R47, R49). Over the same time the receiver went on
adapting (R53). -/
def execLaneOffsetUpdate (l : LaneIx) (offset : Int) (adapt : RxAdapt) (s : State) : Host.Outcome State Fault Refusal :=
  let n := l.val
  let p := portOfLane s n
  if (laneOf s n).st == .ready && !(laneOf s n).rxSleep then
    let s := laneMod n (fun x => { x with
      rxOffset := satS 16 offset, adapt
      ppmAlarm := !kindFab s p && decide (10000 < offset.natAbs) }) s
    let s := if kindFab s p && decide (100 < offset.natAbs) then portMod p (fun q => { q with shared := false }) s else s
    done (if 20000 < offset.natAbs then laneLost n s else s)
  else done s

/-- Every awake lane of a fabric port has stayed within 0.1 ppm for 1 s: shared-clock mode (R48). -/
def execSharedClockEnter (p : PortIx) (s : State) : Host.Outcome State Fault Refusal :=
  let ls := (lanesOf s p.val).filter (fun l => (laneOf s l).st == .ready && !(laneOf s l).rxSleep)
  if (portOf s p.val).st == .up && kindFab s p.val && !ls.isEmpty && ls.all (fun l => decide ((laneOf s l).rxOffset.natAbs ≤ 10)) then
    done (portMod p.val (fun q => { q with shared := true }) s)
  else done s

/-- The vertical opening has fallen below half its value at READY: all taps re-adapt (R53, R74). -/
def execEyeReadapt (l : LaneIx) (eye : Nat) (eq : RxEq) (s : State) : Host.Outcome State Fault Refusal :=
  let n := l.val
  let x := laneOf s n
  if x.st == .ready && decide (2 * eye < x.eyeAtReady) then
    let s := laneMod n (fun x => { takeEq eq x with adaptEvent := true }) s
    done (if x.ph.excl = 1 ∨ fusionOff s n then s else excludeLane n 3 s)
  else done s

/-- The pattern checker receives bits: it finds sync after 64 error-free ones, and counts from then on (R55). -/
def execPatternCheckerSync (l : LaneIx) (rx : List Bool) (s : State) : Host.Outcome State Fault Refusal :=
  done (laneMod l.val (fun x => { x with pat := checkBits rx x.pat }) s)

/-- It receives bits that it may lose sync over: 32 errors among 64 bits, counted by SYNC_LOSS (R55). -/
def execPatternCheckerSyncLoss (l : LaneIx) (rx : List Bool) (s : State) : Host.Outcome State Fault Refusal :=
  done (laneMod l.val (fun x => { x with pat := checkBits rx x.pat }) s)

/-- A transmit direction is to sleep. A fabric port sends SLEEP_REQ, or waits until every lane is READY (R61, R63); an
Energy-Efficient Ethernet port sends low-power idle, in deep sleep with its transmitters asleep (R60). -/
def execTransmitSleep (p : PortIx) (s : State) : Host.Outcome State Fault Refusal :=
  let n := p.val
  if portUsed s n && kindFab s n && (portOf s n).sleep.tx == .awake then
    if (portOf s n).st == .up && lanesReady s n then done (startSleep n s)
    else done (sleepMod n (fun x => { x with txWaiting := true }) s)
  else if eeeKind s n != 0 && (portOf s n).st == .up then
    let deep := eeeKind s n == 1
    let s := portMod n (fun q => { q with txLpi := true }) s
    done (when deep (forEach (lanesOf s n) (fun l s => sleepJoin l (laneMod l (fun x => { x with txSleep := true }) s)) s) s)
  else done s

/-- The peer asks that its transmit direction sleep (D2 0x01): SLEEP_ACK and the receivers sleep, or WAKE_REQ while a wake
is pending here (R61, R63, R335). The answering WAKE_REQ names the direction by D2 0x02 and carries a new sequence number,
which takes the place of the pending one's; a request for the other direction has no effect given (DESIGN CHOICE, log entry
42). -/
def execSleepReqReceive (p : PortIx) (d2 seq : Nat) (s : State) : Host.Outcome State Fault Refusal :=
  let n := p.val
  if (portOf s n).st == .up && kindFab s n && d2 == 1 then
    if (portOf s n).sleep.wakePending then
      let q := ((portOf s n).sleep.seq + 1) % 256
      done (sendSet n 0x57 0x02 q (sleepMod n (fun x => { x with seq := q }) s))
    else
      let s := sendSet n 0x52 0x02 (seq % 256) (sleepMod n (fun x => { x with
        rx := .asleep, rxSeq := seq % 256, rxAlone := hasSentinel s n }) s)
      let s := forEach (sleepers s n) (fun l s => sleepJoin l
        (laneMod l (fun x => { x with rxSleep := true }) (laneUnready l s))) s
      done { s with fab := { s.fab with adj := vmodN s.fab.adj n (fun a => { a with suspended := true }) } }
  else done s

/-- The peer agrees: the transmitters stop, all but the sentinel's (R51, R61). -/
def execSleepAckReceive (p : PortIx) (seq : Nat) (s : State) : Host.Outcome State Fault Refusal :=
  let n := p.val
  if (portOf s n).sleep.tx == .requested && (portOf s n).sleep.seq == seq % 256 then
    let s := sleepMod n (fun x => { x with tx := .asleep, tries := 0, txAlone := hasSentinel s n }) s
    done (forEach (sleepers s n) (fun l s => sleepJoin l (laneMod l (fun x => { x with txSleep := true }) s)) s)
  else done s

/-- No SLEEP_ACK within 10 µs: one more SLEEP_REQ with the same number, then the direction stays awake (R63). -/
def execSleepAckTimeout (p : PortIx) (s : State) : Host.Outcome State Fault Refusal :=
  let n := p.val
  let x := (portOf s n).sleep
  if x.tx == .requested then
    if x.tries < 2 then done (sendSet n 0x51 0x01 x.seq (sleepMod n (fun x => { x with tries := 2 }) s))
    else done (sleepMod n (fun x => { x with tx := .awake, tries := 0 }) s)
  else done s

/-- A sleeping transmit direction is to wake: WAKE_REQ with a new sequence number. -/
def requestWake (n : Nat) (s : State) : State :=
  let q := ((portOf s n).sleep.seq + 1) % 256
  sendSet n 0x57 0x01 q (sleepMod n (fun x => { x with tx := .waking, seq := q, wakePending := true }) s)

/-- A local wake: WAKE_REQ with a new number; before the sleep has completed it cancels it (R61, R63). An Energy-Efficient
Ethernet port ends its low-power idle (R60). -/
def execLocalWake (p : PortIx) (s : State) : Host.Outcome State Fault Refusal :=
  let n := p.val
  let x := (portOf s n).sleep
  let q := (x.seq + 1) % 256
  if (portOf s n).txLpi then
    done (forEach (lanesOf s n) (fun l s => sleepJoin l (laneMod l (fun x => { x with txSleep := false }) s))
      (portMod n (fun q => { q with txLpi := false }) s))
  else match x.tx with
  | .asleep => done (requestWake n s)
  | .requested => done (sendSet n 0x57 0x01 q (sleepMod n (fun x => { x with tx := .awake, seq := q, tries := 0 }) s))
  | .awake => done (sleepMod n (fun x => { x with txWaiting := false }) s)
  | .waking => done s

/-- The peer wakes a direction: a sleep requested here that has not completed is cancelled (R63); its transmit direction (D2
0x01) wakes here, or ours (0x02) does. The domains of the source's mask are raised, and the WAKE_ACK is owed until the
receivers are READY and those domains On (R61, R63, R365). -/
def execWakeReqReceive (p : PortIx) (d2 seq : Nat) (s : State) : Host.Outcome State Fault Refusal :=
  let n := p.val
  if (portOf s n).st == .up && kindFab s n then
    let s := sleepMod n (fun x => { x with
      tx := if x.tx == .requested then .awake else x.tx
      tries := if x.tx == .requested then 0 else x.tries
      rx := if x.rx == .asleep && d2 != 2 then .waking else x.rx
      rxSeq := seq % 256, ackHeld := some (seq % 256) }) s
    let s := when (d2 == 2 && (portOf s n).sleep.tx == .asleep) (requestWake n s) s
    done (ackWake n (wakeFrom 2 n (wakeMask s 2 n) s))
  else done s

/-- The peer's receivers are awake: the transmit direction is awake again and a hello goes (R51, R61, R335). -/
def execWakeAckReceive (p : PortIx) (seq : Nat) (s : State) : Host.Outcome State Fault Refusal :=
  let n := p.val
  if (portOf s n).sleep.tx == .waking && (portOf s n).sleep.seq == seq % 256 then
    let s := sleepMod n (fun x => { x with tx := .awake, wakePending := false, txAlone := false }) s
    done (sendHello n (forEach (lanesOf s n) (fun l s => sleepJoin l (laneMod l (fun x => { x with txSleep := false }) s)) s))
  else done s

/-- A Veman ordered set with another D1 is discarded and counted (R61). -/
def execOrderedSetBadD1 (p : PortIx) (d1 : Byte) (s : State) : Host.Outcome State Fault Refusal :=
  if kindFab s p.val && d1 != 0x51 && d1 != 0x52 && d1 != 0x57 && d1 != 0x58 then
    done (bump 24 1 (sleepMod p.val (fun x => { x with badD1 := x.badD1 + 1 }) s))
  else done s

/-- The woken receivers are aligned: lanes whose marker position differs from the calibrated skew are unfit for fusion;
the WAKE_ACK leaves when the domains allow (R61, R63, R74, R335). -/
def execWakeAlignComplete (p : PortIx) (off : List (Fin 8)) (s : State) : Host.Outcome State Fault Refusal :=
  let n := p.val
  if (portOf s n).sleep.rx == .waking then
    let s := sleepMod n (fun x => { x with rx := .awake, rxAlone := false }) s
    let s := forEach (lanesOf s n) (fun l s =>
      let s := sleepJoin l (laneMod l (fun x => { x with rxSleep := false }) s)
      if off.any (fun k => k.val == l % 8) && !fusionOff s l then excludeLane l 4 s else s) s
    done (ackWake n { s with fab := { s.fab with adj := vmodN s.fab.adj n (fun a => { a with suspended := false }) } })
  else done s

/-- The sentinel lost its signal: the next fabric lane of the group is woken and becomes the sentinel (R62); after the last
one the lowest follows (DESIGN CHOICE, log entry 43). -/
def execSentinelLoss (g : GroupIx) (s : State) : Host.Outcome State Fault Refusal :=
  let fl := fabricLanes s g.val
  match sentinelOf s g.val with
  | some cur =>
    match (fl.filter (fun l => decide (cur < l)) ++ fl.filter (fun l => decide (l < cur))).head? with
    | some nx =>
      let s := groupMod g.val (fun x => { x with sentinel := some (Fin.ofNat 8 (nx % 8)) }) s
      done (laneWakes nx s)
    | none => done s
  | none => done s

end Sys2Proof.Machine
end

