-- ==== Sys2Proof/Machine/Parameters.lean ====
section
/-! DEFINITION. The parameter commands and their read commands (R431 to R434, R456, R457). -/

namespace Sys2Proof.Machine

def execDevSet (o : Origin) (s : State) : Host.Outcome State Fault Refusal := done (onCommand o 0x0121 (paramSet .dev o) s)
def execDevGet (o : Origin) (s : State) : Host.Outcome State Fault Refusal := done (onCommand o 0x01A1 (paramGet .dev o) s)
def execRefSet (o : Origin) (s : State) : Host.Outcome State Fault Refusal := done (onCommand o 0x0210 (paramSet .ref o) s)
def execRefGet (o : Origin) (s : State) : Host.Outcome State Fault Refusal := done (onCommand o 0x0290 (paramGet .ref o) s)
def execEngineSet (o : Origin) (s : State) : Host.Outcome State Fault Refusal := done (onCommand o 0x0220 (paramSet .eng o) s)
def execEngineGet (o : Origin) (s : State) : Host.Outcome State Fault Refusal := done (onCommand o 0x02A0 (paramGet .eng o) s)
def execIoSet (o : Origin) (s : State) : Host.Outcome State Fault Refusal := done (onCommand o 0x0301 (paramSet .io o) s)
def execIoGet (o : Origin) (s : State) : Host.Outcome State Fault Refusal := done (onCommand o 0x0381 (paramGet .io o) s)
def execPortSet (o : Origin) (s : State) : Host.Outcome State Fault Refusal := done (onCommand o 0x0401 (paramSet .port o) s)
def execPortGet (o : Origin) (s : State) : Host.Outcome State Fault Refusal := done (onCommand o 0x0481 (paramGet .port o) s)
def execFwdSet (o : Origin) (s : State) : Host.Outcome State Fault Refusal := done (onCommand o 0x0501 (paramSet .fwd o) s)
def execFwdGet (o : Origin) (s : State) : Host.Outcome State Fault Refusal := done (onCommand o 0x0581 (paramGet .fwd o) s)
def execFabSet (o : Origin) (s : State) : Host.Outcome State Fault Refusal := done (onCommand o 0x0701 (paramSet .fab o) s)
def execFabGet (o : Origin) (s : State) : Host.Outcome State Fault Refusal := done (onCommand o 0x0781 (paramGet .fab o) s)

end Sys2Proof.Machine
end

