-- ==== Sys2Proof/Machine/PortCmds.lean ====
section
/-! DEFINITION. The port and lane commands (R458, R459). -/

namespace Sys2Proof.Machine

/-- PORT_ADMIN. A port that is DOWN or whose group has no such port only takes the setting. -/
def portAdmin (o : Origin) (p : List Byte) (s : State) : State :=
  let n := fieldLe p 0 1; let a := fieldLe p 1 1
  checked o [(decide (192 ≤ n) || !portUsed s n, 0), (decide (1 < a), 1), (!zeros p 2 2, firstSet p 2 2)] (fun s =>
    let st := (portOf s n).st
    let s := portMod n (fun x => { x with admin := a == 1 }) s
    setResult o (okRes []) (if a = 0 ∧ (st = .up ∨ st = .hold) then portDown n .down 6 false s else s)) s
def execPortAdmin (o : Origin) (s : State) : Host.Outcome State Fault Refusal := done (onCommand o 0x0402 (portAdmin o) s)

/-- GROUP_RESET and LANE_RESET assert their scopes (R379, R382). -/
def groupResetCmd (o : Origin) (p : List Byte) (s : State) : State :=
  let g := fieldLe p 0 1
  checked o [(decide (24 ≤ g), 0), (!zeros p 1 3, firstSet p 1 3)] (fun s => setResult o (okRes []) (groupReset g s)) s
def execGroupReset (o : Origin) (s : State) : Host.Outcome State Fault Refusal := done (onCommand o 0x0410 (groupResetCmd o) s)
def laneResetCmd (o : Origin) (p : List Byte) (s : State) : State :=
  let l := fieldLe p 0 1
  checked o [(decide (192 ≤ l), 0), (!zeros p 1 3, firstSet p 1 3)] (fun s => setResult o (okRes []) (laneReset l s)) s
def execLaneReset (o : Origin) (s : State) : Host.Outcome State Fault Refusal := done (onCommand o 0x0411 (laneResetCmd o) s)

/-! ### Pattern tests (R54 to R56) -/

/-- The generator and the checker as a start leaves them; a start of the checker clears its counts (R55). -/
def patStart (g c : Bool) (pat : Nat) (inv : Bool) (user : Word) (q : LanePat) : LanePat :=
  let q := if g then { q with genOn := true, genPat := pat, genInv := inv, genUser := user } else q
  if c then
    { q with
      chkOn := true, chkSync := false, chkPat := pat, chkInv := inv, chkUser := user
      hist := [], run := 0, win := [], bits := 0, errs := 0, syncLoss := 0, errSat := false, bitsSat := false }
  else q

/-- A test starts on a lane (R51, R56); one asleep wakes into it. -/
def testStart (l dir pat : Nat) (inv : Bool) (user : Word) (s : State) : State :=
  let s := laneMod l (fun x => { x with pat := patStart (dir.testBit 0) (dir.testBit 1) pat inv user x.pat }) s
  if ((laneOf s l).st = .ready ∨ (laneOf s l).st = .sleep) ∧ (dir.testBit 0 ∨ dir.testBit 1) then
    -- the port's delay state is held and the receiver stays locked (R56)
    laneMod l (fun x => { x with cdrLock := true }) (laneLeaves l .test 4 true s)
  else s

/-- They stop: a lane that neither owns any more acquires again (R51). -/
def testStop (l dir : Nat) (s : State) : State :=
  let s := laneMod l (fun x => { x with pat := { x.pat with
    genOn := x.pat.genOn && !dir.testBit 0, chkOn := x.pat.chkOn && !dir.testBit 1, chkSync := x.pat.chkSync && !dir.testBit 1 } }) s
  let x := laneOf s l
  if x.st == .test && !x.pat.genOn && !x.pat.chkOn then laneAcquire l s else s

/-- LANE_TEST. -/
def laneTest (o : Origin) (p : List Byte) (s : State) : State :=
  let l := fieldLe p 0 1; let dir := fieldLe p 1 1; let start := fieldLe p 2 1; let b := fieldLe p 3 1
  checked o [(decide (192 ≤ l), 0), (decide (4 ≤ dir), 1), (decide (1 < start), 2), (decide (9 ≤ b % 16 ∨ 32 ≤ b), 3)] (fun s =>
    if start = 1 ∧ sentinelOf s (l / 8) = some l then setResult o (notPermitted 0x0010) s
    else if !domOn s (bankOf (l / 8)) then setResult o (notPermitted 0x0008) s
    else setResult o (okRes []) (if start = 1 then testStart l dir (b % 16) (b.testBit 4) (BitVec.ofNat 32 (fieldLe p 4 4)) s
      else testStop l dir s)) s
def execLaneTest (o : Origin) (s : State) : Host.Outcome State Fault Refusal := done (onCommand o 0x0420 (laneTest o) s)

/-- EYE_SCAN: the response follows the scan; a lane that is not READY ends it at once, VALID 0 (R59). -/
def eyeScan (o : Origin) (p : List Byte) (s : State) : State :=
  let l := fieldLe p 0 1
  checked o [(decide (192 ≤ l), 0), (!zeros p 1 3, firstSet p 1 3)] (fun s =>
    if !domOn s (bankOf (l / 8)) then setResult o (notPermitted 0x0008) s
    else setWait o (.eye l) (if (laneOf s l).st == .ready then startScan l s
      else laneMod l (fun x => { x with eye := { x.eye with valid := false } }) s)) s
def execEyeScan (o : Origin) (s : State) : Host.Outcome State Fault Refusal := done (onCommand o 0x0421 (eyeScan o) s)

/-- LANE_RATE: a permitted rate rises to the code given, and three further scans judge it (R232). -/
def laneRate (o : Origin) (p : List Byte) (s : State) : State :=
  let l := fieldLe p 0 1; let c := fieldLe p 1 1
  checked o [(decide (192 ≤ l), 0), (decide (3 < c), 1), (!zeros p 2 2, firstSet p 2 2)] (fun s =>
    let r := max c (vget s.wx.permitted l 3)
    setResult o (okRes (le 4 r)) { s with wx := { s.wx with
      permitted := vmodN s.wx.permitted l (fun _ => r), below := vmodN s.wx.below l (fun _ => 0)
      rateLimit := vmodN s.wx.rateLimit l (fun b => b && r != 3) } }) s
def execLaneRate (o : Origin) (s : State) : Host.Outcome State Fault Refusal := done (onCommand o 0x0422 (laneRate o) s)

/-! ### Fixed latencies (R84 to R86) -/

/-- The 40 bytes of an entry. -/
def latBytes (e : LatEntry) : List Byte :=
  le 8 (ofSigned 64 e.txLat) ++ le 8 (ofSigned 64 e.rxLat) ++ le 4 (ofSigned 32 e.tcTx) ++ le 4 (ofSigned 32 e.tcRx)
    ++ le 2 (ofSigned 16 e.tRef) ++ le 2 e.source ++ le 6 e.calSec ++ le 6 0

/-- LAT_GET. -/
def latGet (o : Origin) (p : List Byte) (s : State) : State :=
  let l := fieldLe p 0 1; let k := fieldLe p 1 1
  checked o [(decide (192 ≤ l), 0), (decide (5 < k), 1), (!zeros p 2 2, firstSet p 2 2)] (fun s => setResult o (okRes (latBytes (latEntry s l k))) s) s
def execLatGet (o : Origin) (s : State) : Host.Outcome State Fault Refusal := done (onCommand o 0x0430 (latGet o) s)

/-- Writes an entry: the active set of a lane in fusion blends, any other takes effect at once (R86, R226). -/
def latWrite (l k : Nat) (e : LatEntry) (s : State) : State :=
  let live := k == setOf s l && (laneOf s l).ph.excl == 0
  let tx := txLatOf s l; let rx := rxLatOf s l
  laneMod l (fun x => { x with lat := { x.lat with
    sets := vmodN x.lat.sets k (fun _ => e)
    fromTx := if live then tx else x.lat.fromTx
    fromRx := if live then rx else x.lat.fromRx
    blend := if live then 0 else if k == setOf s l then 64 else x.lat.blend } }) s

/-- LAT_SET. -/
def latSet (o : Origin) (p : List Byte) (s : State) : State :=
  let l := fieldLe p 0 1; let k := fieldLe p 1 1; let src := fieldLe p 30 1
  let e : LatEntry := { txLat := toSigned 64 (fieldLe p 4 8), rxLat := toSigned 64 (fieldLe p 12 8), tcTx := toSigned 32 (fieldLe p 20 4)
                        tcRx := toSigned 32 (fieldLe p 24 4), tRef := toSigned 16 (fieldLe p 28 2), source := src, calSec := secOf s.clk.now }
  checked o [(decide (192 ≤ l), 0), (decide (5 < k), 1), (!zeros p 2 2, firstSet p 2 2), (src == 2 || decide (4 < src), 30), (!zeros p 31 1, 31),
      (!zeros p 38 6, firstSet p 38 6)] (fun s =>
    if src < 2 then setResult o (notPermitted 0x0012) s else setResult o (okRes []) (latWrite l k e s)) s
def execLatSet (o : Origin) (s : State) : Host.Outcome State Fault Refusal := done (onCommand o 0x0431 (latSet o) s)

/-- PLUMB_GET (R110, R111). -/
def plumbGet (o : Origin) (p : List Byte) (s : State) : State :=
  let n := fieldLe p 0 1
  checked o [(decide (192 ≤ n) || !portUsed s n, 0), (!zeros p 1 3, firstSet p 1 3)] (fun s =>
    if !kindFab s n then setResult o (notPermitted 0x0017) s
    else
      let d := (portOf s n).ld
      let st := ldStatus s n
      let own := fun (v : Int) => if isSelfSpan s n then v else 0
      setResult o (okRes (le 4 st.toNat ++ le 4 d.resid ++ le 4 d.sigma ++ le 4 d.geom ++ le 8 (ofSigned 64 (own d.biasMeas))
        ++ (List.range (laneCount s n)).flatMap (fun i =>
          le 8 (ofSigned 64 (roundAway (laneOf s (n + i)).ld.delta)) ++ le 8 (ofSigned 64 (own (d.deltaTrue.getD i 0)))))) s) s
def execPlumbGet (o : Origin) (s : State) : Host.Outcome State Fault Refusal := done (onCommand o 0x0440 (plumbGet o) s)

end Sys2Proof.Machine
end

