-- ==== Sys2Proof/Machine/Resets.lean ====
section
/-! DEFINITION. Reset scopes and recovery (R376, R377, R379 to R386, R505, R509, R510) and counter wrap (R492). -/

namespace Sys2Proof.Machine

/-- A trigger's source code is one that has triggered the scope (R386): an ordered command (2) has been answered. -/
def triggered (s : State) (scope source : Nat) : Bool := source != 2 || s.rst.ordered.contains scope

/-- POR: POR_N low. -/
def execPor (s : State) : Host.Outcome State Fault Refusal := done (porReset s)

/-- POR_RELEASE: straps sampled, the cause recorded, the engines and the core started (R153, R198, R380, R386, R470). -/
def execPorRelease (straps : Straps) (monitor : Bool) (s : State) : Host.Outcome State Fault Refusal :=
  if !s.rst.por then done s
  else
    let s := rstMod (fun r => { r with por := false, lastScope := 0, lastSource := b2n monitor }) s
    let s := takeStraps straps s
    let s := ksMod (fun k => { k with pref := k.prefStrap }) s
    let s := { s with
      te := { s.te with engx := s.te.engx.map (fun (x : EngineX) => { x with base := 8, on := true, booting := true, health := 4 }) }
      ck := { s.ck with present := true, oscHz := oscNominal straps.oscf } }
    done (startSynths (releaseTrims (kettleRestart { s with q := { s.q with seed := s.free }, free := s.free + 1 })))

/-- SUPPLY_BROWNOUT: VDDK gives POR, the other rails a CHIP reset (R509). -/
def execSupplyBrownout (rail : Nat) (s : State) : Host.Outcome State Fault Refusal :=
  if rail = 0 then done (porReset s) else done (chipReset 1 s)

/-- CHIP_RESET. -/
def execChipReset (source : Nat) (s : State) : Host.Outcome State Fault Refusal :=
  done (when (triggered s 1 source) (chipReset source s) s)

/-- DATA_RESET. -/
def execDataReset (source : Nat) (s : State) : Host.Outcome State Fault Refusal :=
  done (when (triggered s 2 source) (dataReset source s) s)

/-- MGMT_RESTART. -/
def execMgmtRestart (source : Nat) (s : State) : Host.Outcome State Fault Refusal :=
  done (when (triggered s 3 source) (mgmtRestart source s) s)

/-- RESET_RELEASE: a scope leaves reset (R380, R381, R383). -/
def execResetRelease (scope : Scope) (straps : Straps) (s : State) : Host.Outcome State Fault Refusal :=
  match scope with
  | .chip => done (when s.rst.chip.isSome (startSynths (releaseTrims (takeStraps straps (rstMod (fun r => { r with chip := none }) s)))) s)
  | .data => done (rstMod (fun r => { r with data := none }) s)
  | .mgmt => done (when (!s.rst.halted) (rstMod (fun r => { r with mgmt := none }) s) s)
  | .group g => done (rstMod (fun r => { r with groups := r.groups.set g false }) s)
  | .lane l => done (rstMod (fun r => { r with lanes := r.lanes.set l false }) s)

/-- FIRMWARE_WATCHDOG: a MGMT restart; the third within 10 min holds the core (R383, R384). -/
def execFirmwareWatchdog (s : State) : Host.Outcome State Fault Refusal :=
  if inChip s || s.rst.mgmt.isSome || !domOn s 3 then done s
  else done (watchdogHalt (mgmtRestart 4 (recover 11 0 3 (bump 16 1 s))))

/-- CROSSING_TIMEOUT: an access that waits at a crossing ends in error; its level's timeout is counted (R376, R384). -/
def execCrossingTimeout (i : Nat) (s : State) : Host.Outcome State Fault Refusal :=
  match s.rst.waiting[i]? with
  | none => done s
  | some w =>
    let s := rstMod (fun r => { r with waiting := r.waiting.eraseIdx i }) s
    let r := regAt s w.off
    let s := match (regOwner r).2, r with
      | .lane, .lane l _ => recover 3 0 l (bump (groupEvent (l / 8) 19) 1 s)
      | .group, .mac p _ => recover 4 0 (p / 8) (bump (groupEvent (p / 8) 20) 1 s)
      | .group, .cal p _ => recover 4 0 (p / 8) (bump (groupEvent (p / 8) 20) 1 s)
      | .group, .pgMode g => recover 4 0 g (bump (groupEvent g 20) 1 s)
      | .group, .pgSnap g => recover 4 0 g (bump (groupEvent g 20) 1 s)
      | .group, .grp g _ => recover 4 0 g (bump (groupEvent g 20) 1 s)
      | .group, .ld g _ => recover 4 0 g (bump (groupEvent g 20) 1 s)
      | _, _ => recover 9 0 w.domain (bump 13 1 s)
    done (regError 2 w.domain w.who w.off w.write s)

/-- INTERCONNECT_TIMEOUT: a transaction that no crossing timeout has ended (R377), whether it waits at a crossing or has
crossed. -/
def execInterconnectTimeout (who : Initiator) (off : Nat) (write : Bool) (s : State) : Host.Outcome State Fault Refusal :=
  let d := (regOwner (regAt s off)).1
  let s := rstMod (fun r => { r with
    waiting := r.waiting.eraseP (fun w => w.who == who && w.off == off && w.write.isSome == write) }) s
  done (regError 3 d who off (if write then some 0 else none) (recover 12 0 d (bump 14 1 s)))

/-- THERMTRIP: a junction has reached 125 °C (R505). -/
def execThermtrip (s : State) : Host.Outcome State Fault Refusal := done { s with pins := { s.pins with thermtripN := false } }

/-- PMB_ALERT: Obilwin reads STATUS_WORD and records it (R510). -/
def execPmbAlert (status : BitVec 16) (s : State) : Host.Outcome State Fault Refusal :=
  done (when (obilwinUp s) (recover 16 (status.toNat % 256) s.pins.pmbAddr s) s)

/-- Counter `n` passes from its maximum to 0: OVF, and a carry into a counter that counts carries. -/
def wrapCounter : Nat → Nat → State → State
  | 0, _, s => s
  | k + 1, n, s =>
    let s := { s with pc := { s.pc with pc := vmodN s.pc.pc n (fun c => { c with count := 0, ovf := true }) } }
    if h : n + 1 < 1024 then
      let c := s.pc.pc[n + 1]
      if c.event ≠ 0xFFFE then s
      else if c.count = 2 ^ 48 - 1 then wrapCounter k (n + 1) s
      else { s with pc := { s.pc with pc := vmodN s.pc.pc (n + 1) (fun c => { c with count := c.count + 1 }) } }
    else s

/-- COUNTER_WRAP: the occurrence that a full counter counts. -/
def execCounterWrap (n : Fin 1024) (s : State) : Host.Outcome State Fault Refusal :=
  done (when (decide (s.pc.pc[n].count = 2 ^ 48 - 1)) (wrapCounter 1024 n.val s) s)

end Sys2Proof.Machine
end

