-- ==== Sys2Proof/Machine/TimeCounter.lean ====
section
/-! DEFINITION. The time counter: full-time steps (R38, R39, R528), UTC (R34 to R36), the Kettle's count (R41). -/

namespace Sys2Proof.Machine

/-- Everything that holds local times of the recent past moves with a step. -/
def shiftTimes (d : Int) (s : State) : State :=
  let q : Rat := d
  let s := { s with lane := s.lane.map (fun (l : Lane) => { l with ph := { l.ph with
      recent := l.ph.recent.map (fun (a : Arrival) => { a with t := a.t + q }) } }) }
  let s := { s with port := s.port.map (fun (p : Port) => { p with exch := { p.exch with
      sync := p.exch.sync.map (fun (e : RxEvent) => { e with t := e.t + q }), t2 := p.exch.t2.map (· + q)
      t3 := p.exch.t3.map (fun (x : Nat × Rat) => (x.1, x.2 + q)), pd1 := p.exch.pd1.map (fun (x : Nat × Rat) => (x.1, x.2 + q))
      pdPrev := p.exch.pdPrev.map (fun (x : Rat × Rat) => (x.1, x.2 + q)) } }) }
  { s with tio := { s.tio with ev := s.tio.ev.map (fun (e : EvIn) => { e with
      lastCap := e.lastCap.map (fun t => ((t : Int) + d).toNat) }) } }

/-- A step commanded by software is subtracted by everything that delivers (R528). -/
def stepBySoftware (d : Int) (s : State) : State :=
  let q : Rat := d
  let s := { s with group := s.group.map (fun (g : Group) =>
    if 3 ≤ g.servo.st then { g with servo := { g.servo with sub := g.servo.sub - q } } else g) }
  let s := refList.foldl (fun s r =>
    if isExt r && (viewOf s r).st != .disabled && (viewOf s r).st != .absent then condMod r (fun c => { c with sub := c.sub - q }) s
    else s) s
  let s := refList.foldl (fun s r => condMod r (fun c => { c with last := c.last.map (· - q) }) s) s
  if s.clk.tod = .unset ∨ s.clk.tod = .set ∨ s.clk.tod = .coarse then setTod .set s else s

/-- An acquisition step: histories shift, the loop closes, a switch measurement begins again (R133, R137, R528). -/
def stepByEngine (d : Int) (s : State) : State :=
  let q : Rat := -d
  let s := { s with group := s.group.map (fun (g : Group) => { g with servo := servoShift q g.servo }) }
  let s := { s with lane := s.lane.map (fun (l : Lane) => { l with ph := { l.ph with eHist := l.ph.eHist.map (· + q) } }) }
  let s := { s with te := { s.te with ref := s.te.ref.map (refShift q) } }
  [0, 1].foldl (fun s e => engMod e (fun x => { x with
    acqPhase := if x.st = .acquire ∧ x.acqPhase = 1 then 2 else x.acqPhase
    lastFresh := 0
    sw := x.sw.map (fun w => { w with cycle := 0, sum := 0 }) }) s) s

/-- Two windows of every port fall: the one that ends at the step edge and the one that begins at it (R109). -/
def stepWindows (sec : Nat) (s : State) : State :=
  (List.range 192).foldl (fun s p =>
    if (portOf s p).ld.winSec = sec then discardWindows p s
    else ldMod p (fun d => { d with winDiscard := 2 }) s) s

/-- Pulses that a forward step passes over (R185). -/
def stepTriggers (t : Nat) (s : State) : State :=
  (List.range 8).foldl (fun s j =>
    (trigOf s j).queue.foldl (fun s e => trigMiss j e.handle (pulsesBefore e (toPs t)) s) s) s

/-- Aligned clock outputs that run stop (R188). -/
def stepClkouts (s : State) : State :=
  (List.range 4).foldl (fun s c => if parB s 0x6D (18 + c) && vget s.tio.clkRun c false then clkoutHold c s else s) s

/-- A pending step takes effect at the next whole second (R38 to R40). -/
def execStepApply (s : State) : Host.Outcome State Fault Refusal :=
  match s.clk.step with
  | none => done s
  | some k =>
    let s := atSecond s
    let old := s.clk.now
    let new := (((old : Int) + k.delta) % (timeSpan : Int)).toNat
    let s := { s with clk := { s.clk with now := new, step := none, leapAt := none } }
    let s := shiftTimes k.delta (stepWindows (secOf old) s)
    let s := if k.software then stepBySoftware k.delta s else stepByEngine k.delta s
    let s := if 0 < k.delta then stepTriggers new s else s
    let s := courseRealign (stepClkouts s)
    done (issueEvent 0x0101 0 (le 8 (secOf new) ++ s64 k.delta) s)

/-! ### UTC -/

/-- A word with its SOURCE; reserved bits read 0 (R34). -/
def withSource (w : Word) (src : Nat) : Word := (w &&& 0xE000FFFF#32) ||| BitVec.ofNat 32 (src * 2 ^ 26)

/-- UTC information that a reference carries, when marked valid (R35). -/
def refUtc (s : State) (r : Nat) : Option Word :=
  if isExt r then
    (if carriesOf s r = 2 ∧ s.te.tod.status / 2 % 2 = 1 then some (withSource (s.te.tod.utc ||| 0x80000000#32) 3) else none)
  else (refOf s r).utc

/-- The UTC word of the first source available (R35). -/
def utcNow (s : State) : Word :=
  match s.clk.utcOvr with
  | some w => withSource w 4
  | none =>
    match ((engOf s (ctl s)).sel).bind (refUtc s) with
    | some w => w
    | none =>
      match s.clk.utcCfg with
      | some w => if w.getLsbD 31 then withSource w 1 else 0
      | none => 0

/-- The whole second that the next whole-second action falls on: the present one where the counter stands on it. -/
def nextSecond (s : State) : Nat := secOf (atSecond s).clk.now

/-- A leap of a word is due at a second: the UTC day ends there, after 86,401 or 86,399 seconds (R36). -/
def leapDue (w : Word) (sec : Nat) : Bool :=
  (w.getLsbD 30 || w.getLsbD 29)
    && ((sec : Int) - (toSigned 16 (w.toNat % 65536) + if w.getLsbD 30 then 1 else -1)) % 86400 == 0

/-- A reference's leap flag holds in holdover until the leap has been applied, unless software overrides it (R36). -/
def leapHeld (s : State) : Bool :=
  (s.clk.utc.getLsbD 30 || s.clk.utc.getLsbD 29) && (s.clk.utc.toNat / 2 ^ 26 % 8 == 2 || s.clk.utc.toNat / 2 ^ 26 % 8 == 3)
    && s.clk.utcOvr.isNone && (engOf s (ctl s)).st == .holdover

/-- A change of UTC information takes effect at a whole second, and is reported (R35, R453); not at the instant of a leap
but 1 s after it (R36). -/
def execUtcChangeApply (s : State) : Host.Outcome State Fault Refusal :=
  if utcNow s = s.clk.utc ∨ leapHeld s ∨ leapDue s.clk.utc (nextSecond s) ∨ s.clk.leapAt = some (nextSecond s) then done s
  else
    let s := atSecond s
    let w := utcNow s
    done (issueEvent 0x0103 0 (le 4 w.toNat) { s with clk := { s.clk with utc := w } })

/-- A word after its leap: the offset one up or down, the flag clear (R36). -/
def leapWord (w : Word) : Word :=
  let d : BitVec 16 := if w.getLsbD 30 then 1 else if w.getLsbD 29 then -1 else 0
  (w &&& 0x9FFF0000#32) ||| ((w.setWidth 16 + d).setWidth 32)

/-- The last second of a UTC day with a leap flag ends (R36): in the word in force and in whatever source still holds the flag. -/
def execLeapSecond (s : State) : Host.Outcome State Fault Refusal :=
  if leapDue s.clk.utc (nextSecond s) then
    let s := atSecond s
    let w := leapWord s.clk.utc
    let s := { s with
      clk := { s.clk with utc := w, leapAt := some (secOf s.clk.now), utcCfg := s.clk.utcCfg.map leapWord, utcOvr := s.clk.utcOvr.map leapWord }
      te := { s.te with
        tod := { s.te.tod with utc := leapWord s.te.tod.utc }
        ref := s.te.ref.map (fun (r : Reference) => { r with utc := r.utc.map leapWord }) } }
    done (issueEvent 0x0103 0 (le 4 w.toNat) s)
  else done s

/-- An Announce on a port reference (R35). -/
def execPtpAnnounceReceive (p : PortIx) (utcValid leap61 leap59 : Bool) (offset : Int) (s : State) :
    Host.Outcome State Fault Refusal :=
  let g := p.val / 8
  if timingPort s g = some p.val ∧ (portOf s p.val).st = .up then
    let w := packW [(1, 31), (b2n leap61, 30), (b2n leap59, 29), (2, 26), (ofSigned 16 offset, 0)]
    done (refMod (8 + g) (fun r => { r with utc := if utcValid then some w else none }) s)
  else done s

/-! ### The Kettle's count -/

/-- Neither engine supplies the time clock (R41, R150). -/
def execKettleCountTakeover (s : State) : Host.Outcome State Fault Refusal :=
  if (accepted s).isSome ∨ s.clk.kettle then done s
  else
    -- an engine that was to be powered down after handing over is lowered (R169)
    let s := match s.te.ks.planned, s.te.ks.pendingPower with
      | true, some q => ksMod (fun k => { k with pendingPower := none, alignResult := 1 }) (lowerEngine q.1.val q.2 s)
      | _, _ => s
    let s := ksMod (fun k => { k with control := none, planned := false }) s
    let s := kettleRestart { s with clk := { s.clk with kettle := true } }
    done (outputsLow (setTod .coarse s))

/-- An engine supplies the time clock: the counter goes on from the Kettle's value, held raises proceed (R41, R359). -/
def execEngineTimeClockSupply (e : EngIx) (s : State) : Host.Outcome State Fault Refusal :=
  let n := e.val
  if !(engxOf s n).on || s.rst.por then done s
  else
    let s := engxMod n (fun x => { x with clkOk := true }) s
    let s := if s.te.ks.control.isNone then engxMod n (fun x => { x with claim := claimOf s n }) s else s
    match s.te.ks.control, accepted s with
    | none, some c =>
      let s := ksMod (fun k => { k with control := some c }) s
      let s := { s with clk := { s.clk with kettle := false, edge := 0 } }
      done (clkouts { s with pm := { s.pm with dom := s.pm.dom.map (fun (d : Domain) => { d with heldRaise := false }) } })
    | _, _ => done s

end Sys2Proof.Machine
end

