-- ==== Sys2Proof/Machine/Dispatch.lean ====
section
/-! DEFINITION. Which meaning each command has: one arm per constructor. -/

namespace Sys2Proof.Machine

def exec (i : Instr) (s : State) : Host.Outcome State Fault Refusal :=
  match i with
  | .bar0BadAccess who off bytes write => Sys2Proof.Machine.execBar0BadAccess who off bytes write s
  | .regWrite who off v => Sys2Proof.Machine.execRegWrite who off v s
  | .w1cWrite who off v => Sys2Proof.Machine.execW1cWrite who off v s
  | .pairLoRead who off => Sys2Proof.Machine.execPairLoRead who off s
  | .pairHiWrite who off v => Sys2Proof.Machine.execPairHiWrite who off v s
  | .teTime0Read who => Sys2Proof.Machine.execTeTime0Read who s
  | .glErrLog0Read who => Sys2Proof.Machine.execGlErrLog0Read who s
  | .mirrorEntryRead who off => Sys2Proof.Machine.execMirrorEntryRead who off s
  | .mirrorWrite who off v => Sys2Proof.Machine.execMirrorWrite who off v s
  | .laneSignalDetect l trims => Sys2Proof.Machine.execLaneSignalDetect l trims s
  | .cdrLock l eq => Sys2Proof.Machine.execCdrLock l eq s
  | .cdrLockTimeout l => Sys2Proof.Machine.execCdrLockTimeout l s
  | .trainingComplete l taps eq => Sys2Proof.Machine.execTrainingComplete l taps eq s
  | .trainingTimeout l eq => Sys2Proof.Machine.execTrainingTimeout l eq s
  | .laneLossOfLock l signal => Sys2Proof.Machine.execLaneLossOfLock l signal s
  | .laneOffsetUpdate l offset adapt => Sys2Proof.Machine.execLaneOffsetUpdate l offset adapt s
  | .sharedClockEnter p => Sys2Proof.Machine.execSharedClockEnter p s
  | .eyeReadapt l eye eq => Sys2Proof.Machine.execEyeReadapt l eye eq s
  | .eyeScanComplete l scan => Sys2Proof.Machine.execEyeScanComplete l scan s
  | .transmitSleep p => Sys2Proof.Machine.execTransmitSleep p s
  | .sleepReqReceive p d2 seq => Sys2Proof.Machine.execSleepReqReceive p d2 seq s
  | .sleepAckReceive p seq => Sys2Proof.Machine.execSleepAckReceive p seq s
  | .sleepAckTimeout p => Sys2Proof.Machine.execSleepAckTimeout p s
  | .localWake p => Sys2Proof.Machine.execLocalWake p s
  | .wakeReqReceive p d2 seq => Sys2Proof.Machine.execWakeReqReceive p d2 seq s
  | .wakeAckReceive p seq => Sys2Proof.Machine.execWakeAckReceive p seq s
  | .orderedSetBadD1 p d1 => Sys2Proof.Machine.execOrderedSetBadD1 p d1 s
  | .wakeAlignComplete p off => Sys2Proof.Machine.execWakeAlignComplete p off s
  | .sentinelLoss g => Sys2Proof.Machine.execSentinelLoss g s
  | .groupServoCycle g temp lanes => Sys2Proof.Machine.execGroupServoCycle g temp lanes s
  | .stepMeasureEnd g => Sys2Proof.Machine.execStepMeasureEnd g s
  | .laneRemeasureEnd l => Sys2Proof.Machine.execLaneRemeasureEnd l s
  | .groupServoLockTimeout g => Sys2Proof.Machine.execGroupServoLockTimeout g s
  | .ptpSyncReceive p m => Sys2Proof.Machine.execPtpSyncReceive p m s
  | .ptpFollowUpReceive p seqId origin corr tlv => Sys2Proof.Machine.execPtpFollowUpReceive p seqId origin corr tlv s
  | .ptpDelayReqReceive p m => Sys2Proof.Machine.execPtpDelayReqReceive p m s
  | .ptpDelayRespReceive p seqId rx corr => Sys2Proof.Machine.execPtpDelayRespReceive p seqId rx corr s
  | .pdelayReqReceive p m tx => Sys2Proof.Machine.execPdelayReqReceive p m tx s
  | .pdelayRespReceive p m respTx corr => Sys2Proof.Machine.execPdelayRespReceive p m respTx corr s
  | .ptpInterval p delayReq tx => Sys2Proof.Machine.execPtpInterval p delayReq tx s
  | .ldWindowEnd p => Sys2Proof.Machine.execLdWindowEnd p s
  | .delayStale g => Sys2Proof.Machine.execDelayStale g s
  | .engineServoCycle m => Sys2Proof.Machine.execEngineServoCycle m s
  | .refLos r => Sys2Proof.Machine.execRefLos r s
  | .refFreqGate r offset => Sys2Proof.Machine.execRefFreqGate r offset s
  | .refWanderWindow r => Sys2Proof.Machine.execRefWanderWindow r s
  | .qualTimeExpiry r => Sys2Proof.Machine.execQualTimeExpiry r s
  | .wtrExpiry r => Sys2Proof.Machine.execWtrExpiry r s
  | .disqHoldExpiry r => Sys2Proof.Machine.execDisqHoldExpiry r s
  | .conditionerStepEnd r => Sys2Proof.Machine.execConditionerStepEnd r s
  | .todinMessage bytes afterPulse lineError => Sys2Proof.Machine.execTodinMessage bytes afterPulse lineError s
  | .acquireFreqMeasured offset => Sys2Proof.Machine.execAcquireFreqMeasured offset s
  | .tempPoll e raw => Sys2Proof.Machine.execTempPoll e raw s
  | .engineFatalFault e => Sys2Proof.Machine.execEngineFatalFault e s
  | .handoverEdge cmp => Sys2Proof.Machine.execHandoverEdge cmp s
  | .engineClockStop e cmp => Sys2Proof.Machine.execEngineClockStop e cmp s
  | .wallTieRecord noise => Sys2Proof.Machine.execWallTieRecord noise s
  | .arbitration views => Sys2Proof.Machine.execArbitration views s
  | .dcoRangeCheck e diff => Sys2Proof.Machine.execDcoRangeCheck e diff s
  | .converterCodeCheck e pass => Sys2Proof.Machine.execConverterCodeCheck e pass s
  | .engineWtrExpiry e => Sys2Proof.Machine.execEngineWtrExpiry e s
  | .faultRecoveryAgree e => Sys2Proof.Machine.execFaultRecoveryAgree e s
  | .engineSlewDone e => Sys2Proof.Machine.execEngineSlewDone e s
  | .eventEdge k rising t tdc => Sys2Proof.Machine.execEventEdge k rising t tdc s
  | .evPopRead who k => Sys2Proof.Machine.execEvPopRead who k s
  | .evLostRead who k => Sys2Proof.Machine.execEvLostRead who k s
  | .evNobaseRead who k => Sys2Proof.Machine.execEvNobaseRead who k s
  | .tdcrefAlign t => Sys2Proof.Machine.execTdcrefAlign t s
  | .triggerPulse j => Sys2Proof.Machine.execTriggerPulse j s
  | .ppsOutPulse j => Sys2Proof.Machine.execPpsOutPulse j s
  | .clkoutAlignStart c => Sys2Proof.Machine.execClkoutAlignStart c s
  | .timeTapWord0Read a cycle back => Sys2Proof.Machine.execTimeTapWord0Read a cycle back s
  | .ttLatch t => Sys2Proof.Machine.execTtLatch t s
  | .synthLockLoss n => Sys2Proof.Machine.execSynthLockLoss n s
  | .bandHopLock n => Sys2Proof.Machine.execBandHopLock n s
  | .hopMiss n => Sys2Proof.Machine.execHopMiss n s
  | .fullSearchLock n band temp => Sys2Proof.Machine.execFullSearchLock n band temp s
  | .trimPeriodic results => Sys2Proof.Machine.execTrimPeriodic results s
  | .calDue c => Sys2Proof.Machine.execCalDue c s
  | .codeDensityStart c ratio => Sys2Proof.Machine.execCodeDensityStart c ratio s
  | .codeDensityEnd c hits temp => Sys2Proof.Machine.execCodeDensityEnd c hits temp s
  | .calRunHitsTimeout c => Sys2Proof.Machine.execCalRunHitsTimeout c s
  | .calRetryTimer c => Sys2Proof.Machine.execCalRetryTimer c s
  | .replicaMeasure paths rings => Sys2Proof.Machine.execReplicaMeasure paths rings s
  | .latencyUpdate g => Sys2Proof.Machine.execLatencyUpdate g s
  | .weatherEyeScan l => Sys2Proof.Machine.execWeatherEyeScan l s
  | .guardRelease p => Sys2Proof.Machine.execGuardRelease p s
  | .retentionCheck d minimum => Sys2Proof.Machine.execRetentionCheck d minimum s
  | .weatherRecord flashOk => Sys2Proof.Machine.execWeatherRecord flashOk s
  | .portLinkUp p => Sys2Proof.Machine.execPortLinkUp p s
  | .portLinkLoss p cause => Sys2Proof.Machine.execPortLinkLoss p cause s
  | .linkHoldExpiry p => Sys2Proof.Machine.execLinkHoldExpiry p s
  | .anComplete p peer fec pause => Sys2Proof.Machine.execAnComplete p peer fec pause s
  | .linkUpTimeout p => Sys2Proof.Machine.execLinkUpTimeout p s
  | .frameReceive p fid fin => Sys2Proof.Machine.execFrameReceive p fid fin s
  | .pauseReceive p pfc mask quanta fcsBad => Sys2Proof.Machine.execPauseReceive p pfc mask quanta fcsBad s
  | .pauseTimerExpiry p c => Sys2Proof.Machine.execPauseTimerExpiry p c s
  | .pauseWdExpiry p c => Sys2Proof.Machine.execPauseWdExpiry p c s
  | .pauseRecoveryEnd p c => Sys2Proof.Machine.execPauseRecoveryEnd p c s
  | .pauseRepeat p c => Sys2Proof.Machine.execPauseRepeat p c s
  | .preemptVerifyTimer p => Sys2Proof.Machine.execPreemptVerifyTimer p s
  | .preemptVerifyResponse p addFrag => Sys2Proof.Machine.execPreemptVerifyResponse p addFrag s
  | .egressFrameStart p express tx => Sys2Proof.Machine.execEgressFrameStart p express tx s
  | .egressFrameDone p express => Sys2Proof.Machine.execEgressFrameDone p express s
  | .macSnapRead who p => Sys2Proof.Machine.execMacSnapRead who p s
  | .pgStatSnapWrite g v => Sys2Proof.Machine.execPgStatSnapWrite g v s
  | .ingressDecision p f => Sys2Proof.Machine.execIngressDecision p f s
  | .scrubPass found => Sys2Proof.Machine.execScrubPass found s
  | .parityRepair table index => Sys2Proof.Machine.execParityRepair table index s
  | .crossbarMatch crcBad => Sys2Proof.Machine.execCrossbarMatch crcBad s
  | .calWaitExpiry g => Sys2Proof.Machine.execCalWaitExpiry g s
  | .slotGate p m start => Sys2Proof.Machine.execSlotGate p m start s
  | .calDeparture p shifted tx => Sys2Proof.Machine.execCalDeparture p shifted tx s
  | .calActivationTimeout stream => Sys2Proof.Machine.execCalActivationTimeout stream s
  | .helloSend p => Sys2Proof.Machine.execHelloSend p s
  | .helloReceive p b => Sys2Proof.Machine.execHelloReceive p b s
  | .helloDeadExpiry p => Sys2Proof.Machine.execHelloDeadExpiry p s
  | .addrReqReceive p src b => Sys2Proof.Machine.execAddrReqReceive p src b s
  | .addrGrantReceive p src b => Sys2Proof.Machine.execAddrGrantReceive p src b s
  | .recordReceive p src b => Sys2Proof.Machine.execRecordReceive p src b s
  | .recordAckReceive p src b => Sys2Proof.Machine.execRecordAckReceive p src b s
  | .recordOriginate scope => Sys2Proof.Machine.execRecordOriginate scope s
  | .remoteCommandReceive src b => Sys2Proof.Machine.execRemoteCommandReceive src b s
  | .remoteResponseReceive src b => Sys2Proof.Machine.execRemoteResponseReceive src b s
  | .remoteRetry xid => Sys2Proof.Machine.execRemoteRetry xid s
  | .remoteTimeoutExpiry xid => Sys2Proof.Machine.execRemoteTimeoutExpiry xid s
  | .attestRequestReceive src b => Sys2Proof.Machine.execAttestRequestReceive src b s
  | .domainLowerComplete d => Sys2Proof.Machine.execDomainLowerComplete d s
  | .domainWakeComplete d => Sys2Proof.Machine.execDomainWakeComplete d s
  | .porRelease straps monitor => Sys2Proof.Machine.execPorRelease straps monitor s
  | .supplyBrownout rail => Sys2Proof.Machine.execSupplyBrownout rail s
  | .chipReset source => Sys2Proof.Machine.execChipReset source s
  | .dataReset source => Sys2Proof.Machine.execDataReset source s
  | .mgmtRestart source => Sys2Proof.Machine.execMgmtRestart source s
  | .resetRelease scope straps => Sys2Proof.Machine.execResetRelease scope straps s
  | .resetCtrlChip who v => Sys2Proof.Machine.execResetCtrlChip who v s
  | .resetCtrlData who v => Sys2Proof.Machine.execResetCtrlData who v s
  | .resetCtrlMgmt who v => Sys2Proof.Machine.execResetCtrlMgmt who v s
  | .crossingTimeout n => Sys2Proof.Machine.execCrossingTimeout n s
  | .interconnectTimeout who off write => Sys2Proof.Machine.execInterconnectTimeout who off write s
  | .pmbAlert status => Sys2Proof.Machine.execPmbAlert status s
  | .voutReadback mv => Sys2Proof.Machine.execVoutReadback mv s
  | .rxTailWrite r v descs => Sys2Proof.Machine.execRxTailWrite r v descs s
  | .txTailWrite r v descs => Sys2Proof.Machine.execTxTailWrite r v descs s
  | .dmaRingEnable rx r v => Sys2Proof.Machine.execDmaRingEnable rx r v s
  | .dmaRingDisable rx r v => Sys2Proof.Machine.execDmaRingDisable rx r v s
  | .rxStarveTimeout r => Sys2Proof.Machine.execRxStarveTimeout r s
  | .txFrameFetch bytes => Sys2Proof.Machine.execTxFrameFetch bytes s
  | .dmaHoldoffExpiry rx r => Sys2Proof.Machine.execDmaHoldoffExpiry rx r s
  | .dmaDropsRead who rx r => Sys2Proof.Machine.execDmaDropsRead who rx r s
  | .mbDoorbellRing c v => Sys2Proof.Machine.execMbDoorbellRing c v s
  | .mbBufferWrite off v => Sys2Proof.Machine.execMbBufferWrite off v s
  | .mbAcknowledge c => Sys2Proof.Machine.execMbAcknowledge c s
  | .mbDoorbellAckTimeout c => Sys2Proof.Machine.execMbDoorbellAckTimeout c s
  | .mbFinalResponse o => Sys2Proof.Machine.execMbFinalResponse o s
  | .commandDeadline o => Sys2Proof.Machine.execCommandDeadline o s
  | .mbEvqTailWrite v => Sys2Proof.Machine.execMbEvqTailWrite v s
  | .mbEvqEnable v => Sys2Proof.Machine.execMbEvqEnable v s
  | .obilwinStart savedOk => Sys2Proof.Machine.execObilwinStart savedOk s
  | .counterWrap n => Sys2Proof.Machine.execCounterWrap n s
  | .identify o => Sys2Proof.Machine.execIdentify o s
  | .eventReplay o => Sys2Proof.Machine.execEventReplay o s
  | .powerSet o => Sys2Proof.Machine.execPowerSet o s
  | .wakeMap o => Sys2Proof.Machine.execWakeMap o s
  | .alarmSet o => Sys2Proof.Machine.execAlarmSet o s
  | .reset o => Sys2Proof.Machine.execReset o s
  | .devSet o => Sys2Proof.Machine.execDevSet o s
  | .devGet o => Sys2Proof.Machine.execDevGet o s
  | .oscSet o => Sys2Proof.Machine.execOscSet o s
  | .synSet o => Sys2Proof.Machine.execSynSet o s
  | .synReq o => Sys2Proof.Machine.execSynReq o s
  | .bandSet o => Sys2Proof.Machine.execBandSet o s
  | .planRun o => Sys2Proof.Machine.execPlanRun o s
  | .spurMapGet o => Sys2Proof.Machine.execSpurMapGet o s
  | .calRun o => Sys2Proof.Machine.execCalRun o s
  | .calTableGet o => Sys2Proof.Machine.execCalTableGet o s
  | .timeSet o => Sys2Proof.Machine.execTimeSet o s
  | .utcSet o => Sys2Proof.Machine.execUtcSet o s
  | .refSet o => Sys2Proof.Machine.execRefSet o s
  | .refGet o => Sys2Proof.Machine.execRefGet o s
  | .refSelect o => Sys2Proof.Machine.execRefSelect o s
  | .refQualify o => Sys2Proof.Machine.execRefQualify o s
  | .refRelease o => Sys2Proof.Machine.execRefRelease o s
  | .engineSet o => Sys2Proof.Machine.execEngineSet o s
  | .engineGet o => Sys2Proof.Machine.execEngineGet o s
  | .servoMode o => Sys2Proof.Machine.execServoMode o s
  | .freqWrite o => Sys2Proof.Machine.execFreqWrite o s
  | .phaseEst o => Sys2Proof.Machine.execPhaseEst o s
  | .modelGet o => Sys2Proof.Machine.execModelGet o s
  | .modelReset o => Sys2Proof.Machine.execModelReset o s
  | .engineClear o => Sys2Proof.Machine.execEngineClear o s
  | .ioSet o => Sys2Proof.Machine.execIoSet o s
  | .ioGet o => Sys2Proof.Machine.execIoGet o s
  | .trigSchedule o => Sys2Proof.Machine.execTrigSchedule o s
  | .trigCancel o => Sys2Proof.Machine.execTrigCancel o s
  | .portSet o => Sys2Proof.Machine.execPortSet o s
  | .portGet o => Sys2Proof.Machine.execPortGet o s
  | .portAdmin o => Sys2Proof.Machine.execPortAdmin o s
  | .groupReset o => Sys2Proof.Machine.execGroupReset o s
  | .laneReset o => Sys2Proof.Machine.execLaneReset o s
  | .laneTest o => Sys2Proof.Machine.execLaneTest o s
  | .eyeScan o => Sys2Proof.Machine.execEyeScan o s
  | .laneRate o => Sys2Proof.Machine.execLaneRate o s
  | .latGet o => Sys2Proof.Machine.execLatGet o s
  | .latSet o => Sys2Proof.Machine.execLatSet o s
  | .plumbGet o => Sys2Proof.Machine.execPlumbGet o s
  | .fwdSet o => Sys2Proof.Machine.execFwdSet o s
  | .fwdGet o => Sys2Proof.Machine.execFwdGet o s
  | .l2Write o => Sys2Proof.Machine.execL2Write o s
  | .l2Delete o => Sys2Proof.Machine.execL2Delete o s
  | .l2Flush o => Sys2Proof.Machine.execL2Flush o s
  | .ctxWrite o => Sys2Proof.Machine.execCtxWrite o s
  | .ctxStatsGet o => Sys2Proof.Machine.execCtxStatsGet o s
  | .matchWrite o => Sys2Proof.Machine.execMatchWrite o s
  | .vidWrite o => Sys2Proof.Machine.execVidWrite o s
  | .mcastWrite o => Sys2Proof.Machine.execMcastWrite o s
  | .mapWrite o => Sys2Proof.Machine.execMapWrite o s
  | .wredSet o => Sys2Proof.Machine.execWredSet o s
  | .calAdmit o => Sys2Proof.Machine.execCalAdmit o s
  | .calWithdraw o => Sys2Proof.Machine.execCalWithdraw o s
  | .courseSet o => Sys2Proof.Machine.execCourseSet o s
  | .calListGet o => Sys2Proof.Machine.execCalListGet o s
  | .fabSet o => Sys2Proof.Machine.execFabSet o s
  | .fabGet o => Sys2Proof.Machine.execFabGet o s
  | .remoteCmd o => Sys2Proof.Machine.execRemoteCmd o s
  | .fabDbGet o => Sys2Proof.Machine.execFabDbGet o s
  | .pcMap o => Sys2Proof.Machine.execPcMap o s
  | .healthGet o => Sys2Proof.Machine.execHealthGet o s
  | .weatherGet o => Sys2Proof.Machine.execWeatherGet o s
  | .spdmMsg o => Sys2Proof.Machine.execSpdmMsg o s
  | .spdmRemote o => Sys2Proof.Machine.execSpdmRemote o s
  | .fwOpen o => Sys2Proof.Machine.execFwOpen o s
  | .fwWrite o => Sys2Proof.Machine.execFwWrite o s
  | .fwClose o => Sys2Proof.Machine.execFwClose o s
  | .fwActivate o => Sys2Proof.Machine.execFwActivate o s
  | .fwCommit o => Sys2Proof.Machine.execFwCommit o s
  | .ptpAnnounceReceive p utcValid leap61 leap59 offset => Sys2Proof.Machine.execPtpAnnounceReceive p utcValid leap61 leap59 offset s
  | .patternCheckerSync l rx => Sys2Proof.Machine.execPatternCheckerSync l rx s
  | .patternCheckerSyncLoss l rx => Sys2Proof.Machine.execPatternCheckerSyncLoss l rx s
  | .pcsAlignmentLock p => Sys2Proof.Machine.execPcsAlignmentLock p s
  | .moduleChange p ident bidi lasers => Sys2Proof.Machine.execModuleChange p ident bidi lasers s
  | .lowPowerIdle p on => Sys2Proof.Machine.execLowPowerIdle p on s
  | .engineTimeClockSupply e => Sys2Proof.Machine.execEngineTimeClockSupply e s
  | .msixVectorUnmask v => Sys2Proof.Machine.execMsixVectorUnmask v s
  | .stepApply => Sys2Proof.Machine.execStepApply s
  | .utcChangeApply => Sys2Proof.Machine.execUtcChangeApply s
  | .leapSecond => Sys2Proof.Machine.execLeapSecond s
  | .kettleCountTakeover => Sys2Proof.Machine.execKettleCountTakeover s
  | .switchComplete => Sys2Proof.Machine.execSwitchComplete s
  | .refXcmpInterval => Sys2Proof.Machine.execRefXcmpInterval s
  | .modelResidual => Sys2Proof.Machine.execModelResidual s
  | .todinLost => Sys2Proof.Machine.execTodinLost s
  | .acquireBandwidthStep => Sys2Proof.Machine.execAcquireBandwidthStep s
  | .engineLock => Sys2Proof.Machine.execEngineLock s
  | .engineUnlock => Sys2Proof.Machine.execEngineUnlock s
  | .holdoverLearn => Sys2Proof.Machine.execHoldoverLearn s
  | .modelReadyReached => Sys2Proof.Machine.execModelReadyReached s
  | .swTimeoutExpiry => Sys2Proof.Machine.execSwTimeoutExpiry s
  | .wallTieSilence => Sys2Proof.Machine.execWallTieSilence s
  | .alignmentComplete => Sys2Proof.Machine.execAlignmentComplete s
  | .alignmentTimeout => Sys2Proof.Machine.execAlignmentTimeout s
  | .tdcrefLoss => Sys2Proof.Machine.execTdcrefLoss s
  | .tdcrefRestore => Sys2Proof.Machine.execTdcrefRestore s
  | .ttLatchResult => Sys2Proof.Machine.execTtLatchResult s
  | .ttClkLost => Sys2Proof.Machine.execTtClkLost s
  | .ttClkReturn => Sys2Proof.Machine.execTtClkReturn s
  | .oscInAbsent => Sys2Proof.Machine.execOscInAbsent s
  | .oscInReturn => Sys2Proof.Machine.execOscInReturn s
  | .coreVoltageAdjust => Sys2Proof.Machine.execCoreVoltageAdjust s
  | .ageingSweep => Sys2Proof.Machine.execAgeingSweep s
  | .congestionWindow => Sys2Proof.Machine.execCongestionWindow s
  | .courseBoundary => Sys2Proof.Machine.execCourseBoundary s
  | .courseParamApply => Sys2Proof.Machine.execCourseParamApply s
  | .addrRequestStart => Sys2Proof.Machine.execAddrRequestStart s
  | .addrReqRetry => Sys2Proof.Machine.execAddrReqRetry s
  | .unitHoldExpiry => Sys2Proof.Machine.execUnitHoldExpiry s
  | .recordRetransmit => Sys2Proof.Machine.execRecordRetransmit s
  | .recordAgeExpiry => Sys2Proof.Machine.execRecordAgeExpiry s
  | .recordRefresh => Sys2Proof.Machine.execRecordRefresh s
  | .spfCompute => Sys2Proof.Machine.execSpfCompute s
  | .segmentReassemblyTimeout => Sys2Proof.Machine.execSegmentReassemblyTimeout s
  | .alarmFire => Sys2Proof.Machine.execAlarmFire s
  | .pcieL1Exit => Sys2Proof.Machine.execPcieL1Exit s
  | .por => Sys2Proof.Machine.execPor s
  | .firmwareWatchdog => Sys2Proof.Machine.execFirmwareWatchdog s
  | .thermtrip => Sys2Proof.Machine.execThermtrip s
  | .perstNAssert => Sys2Proof.Machine.execPerstNAssert s
  | .perstNRelease => Sys2Proof.Machine.execPerstNRelease s
  | .functionLevelReset => Sys2Proof.Machine.execFunctionLevelReset s
  | .d3hotEntry => Sys2Proof.Machine.execD3hotEntry s
  | .romStart => Sys2Proof.Machine.execRomStart s
  | .trialConfirm => Sys2Proof.Machine.execTrialConfirm s
  | .d3hotExit => Sys2Proof.Machine.execD3hotExit s

end Sys2Proof.Machine
end

