-- ==== Sys2Proof/WellFormed.lean ====
section
/-! DEFINITION. Which command operands are well formed: what the outside world can send at all. -/

namespace Sys2Proof

/-- A host register access reaches BAR0 as an aligned 32-bit access of a 64 MiB window (R7, R8, R391). -/
def offOk (off : Nat) : Bool := decide (off < 0x4000000) && off % 4 == 0

/-- A time since the epoch or since power-on in 2⁻²⁰ ns that the counter can hold (R27). -/
def timeOk (t : Nat) : Bool := decide (t < 2 ^ 48 * 1048576000000000)

/-- A frame as the MAC can hand it on: at least the addresses and a type, at most 16,383 bytes (R244, R245). -/
def frameOk (b : List Byte) : Bool := decide (14 ≤ b.length) && decide (b.length ≤ 16379)

/-- The quanta of a pause frame: one per priority, 16 bits each (R251). -/
def quantaOk (q : List Nat) : Bool := q.length == 8 && q.all (fun x => decide (x < 65536))

/-- The reset sources of R386. -/
def sourceOk (n : Nat) : Bool := decide (n ≤ 6)

/-- Well-formed commands: the operands lie in the range that the outside world can present. -/
def Instr.wf : Instr → Bool
  | .bar0BadAccess _ off bytes _ => decide (off < 0x4000000) && decide (1 ≤ bytes) && decide (bytes ≤ 8)
  | .regWrite _ off _ => offOk off
  | .w1cWrite _ off _ => offOk off
  | .pairLoRead _ off => offOk off
  | .pairHiWrite _ off _ => offOk off
  | .mirrorEntryRead _ off => offOk off
  | .mirrorWrite _ off _ => offOk off
  | .mbBufferWrite off _ => offOk off
  | .interconnectTimeout _ off _ => offOk off
  | .eventEdge _ _ t _ => timeOk t
  | .tdcrefAlign t => timeOk t
  | .ttLatch t => timeOk t
  | .pauseReceive _ _ _ q _ => quantaOk q
  | .ingressDecision _ f => frameOk f.bytes
  | .chipReset n => sourceOk n
  | .dataReset n => sourceOk n
  | .mgmtRestart n => sourceOk n
  | _ => true

end Sys2Proof
end

