-- ==== Sys2Proof/Safety.lean ====
section
/-! DEFINITION. What the statements call a sound state, a safe step, and a part of the state that a step leaves as it
was. -/

namespace Sys2Proof.Machine

/-- The buffers of every mailbox channel are in canonical form (R409). -/
def buffersOk (s : State) : Bool := s.mb.chan.all (fun c => Mem.wf c.cmdBuf && Mem.wf c.rspBuf)

/-- Full time fits its 48-bit seconds (R27). -/
def timeInRange (s : State) : Bool := decide (s.clk.now < timeSpan)

/-- The interrupt bookkeeping agrees with the conditions: the pending bits are the conditions, and a message waits only for
a condition that stands (R396, R397). -/
abbrev interruptsOk (s : State) : Prop :=
  s.host.pend = pendVec s ∧ ∀ v, v < 64 → vget s.host.pba v false = true → vget s.host.pend v false = true

/-- A step that neither faults nor refuses. -/
def stepsOn (s : State) : Prop := ∃ t, step s = .next t

/-- The parts of the state that frames speak of. `msi` is the interrupt bookkeeping of the host part (R396, R397), which
follows every other part; `host` is the rest of it. -/
inductive Part where
  | clk | te | lane | group | port | tio | ck | cal | wx | fwd | q | cald | fab | fabS | pm | rst | host | msi | mb | boot
  | pc | pins | par | free | nextFid | pending
  deriving DecidableEq, Repr

/-- A part is the same in two states. -/
def same (p : Part) (s t : State) : Prop :=
  match p with
  | .clk => t.clk = s.clk
  | .te => t.te = s.te
  | .lane => t.lane = s.lane
  | .group => t.group = s.group
  | .port => t.port = s.port
  | .tio => t.tio = s.tio
  | .ck => t.ck = s.ck
  | .cal => t.cal = s.cal
  | .wx => t.wx = s.wx
  | .fwd => t.fwd = s.fwd
  | .q => t.q = s.q
  | .cald => t.cald = s.cald
  | .fab => t.fab = s.fab
  | .fabS => t.fabS = s.fabS
  | .pm => t.pm = s.pm
  | .rst => t.rst = s.rst
  | .host => { t.host with pend := s.host.pend, pba := s.host.pba, sent := s.host.sent } = s.host
  | .msi => t.host.pend = s.host.pend ∧ t.host.pba = s.host.pba ∧ t.host.sent = s.host.sent
  | .mb => t.mb = s.mb
  | .boot => t.boot = s.boot
  | .pc => t.pc = s.pc
  | .pins => t.pins = s.pins
  | .par => t.par = s.par
  | .free => t.free = s.free
  | .nextFid => t.nextFid = s.nextFid
  | .pending => t.pending = s.pending

/-- Every part outside a list is the same. -/
def keepsBut (l : List Part) (s t : State) : Prop := ∀ p, p ∉ l → same p s t

/-- Every lane but one, and the same for ports, groups and references, is as before. -/
def otherLanes (l : Nat) (s t : State) : Prop := ∀ j, j ≠ l → vget t.lane j {} = vget s.lane j {}
def otherPorts (p : Nat) (s t : State) : Prop := ∀ j, j ≠ p → vget t.port j {} = vget s.port j {}
def otherGroups (g : Nat) (s t : State) : Prop := ∀ j, j ≠ g → vget t.group j {} = vget s.group j {}

/-- The chip is out of POR and CHIP reset. -/
abbrev chipUp (s : State) : Prop := s.rst.por = false ∧ s.rst.chip = none

/-- BAR0 answers an initiator: the chip is out of reset and, for the host, D3 is On (R364, R376). -/
abbrev answers (who : Initiator) (s : State) : Prop := chipUp s ∧ (who = .host → domOn s 3 = true)

/-- An access reaches its register: BAR0 answers, the aligned offset holds a register, and the owner is out of reset in a
domain that is On (R8, R376, R392). -/
abbrev reaches (who : Initiator) (off : Nat) (s : State) : Prop :=
  answers who s ∧ off % 4 = 0 ∧ regAt s off ≠ .outside ∧ regAt s off ≠ .hole ∧ ownerInReset s (regAt s off) = false ∧
    domOn s (regOwner (regAt s off)).1 = true

/-! ### What the byte layouts admit -/

/-- A signed value of a width. -/
abbrev fitsS (w : Nat) (v : Int) : Prop := -(2 ^ (w - 1) : Nat) ≤ v ∧ v < (2 ^ (w - 1) : Nat)

/-- A lane record whose fields have the widths of R97. -/
abbrev tlvLaneFits (r : TlvLane) : Prop :=
  r.lane < 2 ^ 8 ∧ r.lstat < 2 ^ 8 ∧ r.wlTx < 2 ^ 24 ∧ r.wlRx < 2 ^ 24 ∧ r.sigTx < 2 ^ 8 ∧ r.sigRx < 2 ^ 8 ∧ fitsS 32 r.txSkew ∧
    fitsS 32 r.extTx ∧ fitsS 32 r.extRx ∧ fitsS 64 r.app ∧ r.appSigma < 2 ^ 32

/-- A TLV of the T24's VERSION, of 1 to 8 lanes, its solution block where bit 6 of its flags says so and of as many lanes (R97). -/
abbrev tlvFits (v : VemanTlv) : Prop :=
  v.orgId < 2 ^ 24 ∧ v.version = 1 ∧ v.flags < 2 ^ 8 ∧ v.plumb < 2 ^ 8 ∧ v.sigmaAcc < 2 ^ 32 ∧ v.cAcc < 2 ^ 32 ∧ v.winSec < 2 ^ 48 ∧
    v.winSeq < 2 ^ 16 ∧ 1 ≤ v.lanes.length ∧ v.lanes.length ≤ 8 ∧ (∀ r ∈ v.lanes, tlvLaneFits r) ∧
    v.flags.testBit 6 = v.solution.isSome ∧
    ∀ x, v.solution = some x → x.seq < 2 ^ 16 ∧ x.status < 2 ^ 8 ∧ x.pairs < 2 ^ 8 ∧ x.residual < 2 ^ 32 ∧ x.sigmaP < 2 ^ 32 ∧
      x.lanes.length = v.lanes.length ∧ ∀ q ∈ x.lanes, fitsS 64 q.1 ∧ fitsS 64 q.2

/-- A hello whose fields have the widths of R333. -/
abbrev helloFits (h : Hello) : Prop :=
  h.version < 2 ^ 8 ∧ h.flags < 2 ^ 8 ∧ h.addr < 2 ^ 18 ∧ h.port < 2 ^ 8 ∧ h.serial < 2 ^ 64 ∧ h.nbrSerial < 2 ^ 64 ∧ h.caps < 2 ^ 16 ∧
    h.timing < 2 ^ 8 ∧ h.depth < 2 ^ 8 ∧ h.treeId < 2 ^ 64 ∧ h.sigmaAcc < 2 ^ 32 ∧ h.cAcc < 2 ^ 32 ∧ h.lsaSeq < 2 ^ 32 ∧ h.seq < 2 ^ 16

/-- A segment whose fields have the widths of R348. -/
abbrev segFits (g : Seg) : Prop :=
  g.xid < 2 ^ 16 ∧ g.kind < 2 ^ 8 ∧ g.index < 16 ∧ 1 ≤ g.count ∧ g.count ≤ 16 ∧ g.mflags < 2 ^ 8 ∧ g.body.length < 2 ^ 16

/-! ### Commands of the mailbox -/

/-- The work of an origin's command has ended with a result, ready for its final response (R417). -/
def replied (o : Origin) (r : CmdResult) (t : State) : Prop := ∃ e, execOf t o = some e ∧ e.result = some r

/-- It goes on. -/
def waits (o : Origin) (w : CmdWait) (t : State) : Prop := ∃ e, execOf t o = some e ∧ e.wait = some w ∧ e.result = none

/-- It has ended, and nothing else of the mailbox has moved. -/
def endsWith (o : Origin) (r : CmdResult) (s t : State) : Prop := replied o r t ∧ t.mb = (setResult o r s).mb

/-- A command that only answers. -/
def onlyAnswers (o : Origin) (r : CmdResult) (s t : State) : Prop := endsWith o r s t ∧ keepsBut [.mb, .msi] s t

/-- The only change is the interrupt bookkeeping. -/
def nothingBut (s t : State) : Prop := keepsBut [.msi] s t

end Sys2Proof.Machine
end

