-- ==== Sys2Proof/Certificates/Slice0/Obligations.lean ====
section
/-! DEFINITION. The statements for the provers. Parts of the state that a statement does not name are covered by
`keepsBut`, which lists the parts that may change. -/

open Sys2Proof Sys2Proof.Machine

/-! ### The queue of commands and the step -/

/-- A step with a command at the front of the queue is exec of that command on the state with the queue's rest. -/
def Obligations.StepRunsTheFrontCommand : Prop :=
  ∀ (s : State) (c : Instr) (rest : List Instr),
    step { s with pending := c :: rest } = exec c { s with pending := rest }

/-- On an empty queue a step is one edge of the clock that advances the counter (the model's choice, log entry 1): only
the clock part moves, and the claims that the output stages latch at an 8 ns boundary (R155). While POR is asserted nothing
does; while an engine supplies the time clock an edge adds 1.6 ns to the nearest unit, up or down (R37). -/
def Obligations.EmptyQueueTicks : Prop :=
  ∀ s : State, s.pending = [] → ∃ t, step s = .next t ∧ keepsBut [.clk, .te] s t ∧ t.clk.tod = s.clk.tod ∧ t.clk.step = s.clk.step ∧
    (t.te = s.te ∨ t.clk.now % (8 * uNs) = 0 ∧ t.te = { s.te with
      engx := s.te.engx.map (fun (x : EngineX) => { x with latched := x.claim }), ks := { s.te.ks with latchAt := t.clk.elapsed } }) ∧
    (s.rst.por = true → t = s) ∧
    (s.rst.por = false → s.clk.kettle = false → ∃ k, (k = 1677722 ∨ k = 1677721) ∧
      t.clk.now = (s.clk.now + k) % timeSpan ∧ t.clk.elapsed = s.clk.elapsed + k)

/-- No command stops the block: every step answers a next state.

Every step keeps the interrupt bookkeeping right: the pending bits are the conditions of R396, and a message waits in
the pending bit array only for a condition that stands. -/
def Obligations.EveryStepKeepsInterruptsRight : Prop :=
  (∀ s : State, stepsOn s) ∧
  (∀ s t : State, interruptsOk s → step s = .next t → interruptsOk t)

/-- The state after reset has the invariants: interrupts, mailbox buffers, full time. -/
def Obligations.ResetIsSound : Prop :=
  interruptsOk State.reset ∧ buffersOk State.reset = true ∧ timeInRange State.reset = true ∧ State.reset.pending = []

/-! ### The time counter -/

/-- R27, R28: the sixteen bytes of a full time are its fraction, nanoseconds and seconds from the lowest address on, each in its range,
with the reserved bits 0; they spell it, and any other field contents are refused.

R37: the edges of the time clock add 1,677,722; 1,677,721; 1,677,722; 1,677,721; 1,677,722 units from each 8 ns boundary on, five of
them exactly 8 ns, however often the pattern repeats. -/
def Obligations.FullTimeIsExact : Prop :=
  ((∀ t : Nat, t < timeSpan → fullOf (fullBytes t) = some t ∧ (fullBytes t).length = 16 ∧ fieldLe (fullBytes t) 0 4 = fracOf t ∧
    fieldLe (fullBytes t) 4 4 = nsOf t ∧ fieldLe (fullBytes t) 8 8 = secOf t ∧ fracOf t < 2 ^ 20 ∧ nsOf t < 1000000000 ∧ secOf t < 2 ^ 48 ∧
    t = secOf t * uSec + nsOf t * uNs + fracOf t) ∧
  (∀ (l : List Byte) (t : Nat), l.length = 16 → fullOf l = some t → t < timeSpan ∧ fullBytes t = l)) ∧
  (∀ (n : Nat) (s : State), s.clk.now % (8 * uNs) = 0 → s.clk.now < timeSpan →
    (∀ k, k < 5 → (Nat.repeat timeClockEdge (k + 1) s).clk.now =
      (s.clk.now + [1677722, 3355443, 5033165, 6710886, 8388608].getD k 0) % timeSpan) ∧
    (Nat.repeat timeClockEdge (5 * n) s).clk.now = (s.clk.now + n * (8 * uNs)) % timeSpan ∧
    (Nat.repeat timeClockEdge (5 * n) s).clk.elapsed = s.clk.elapsed + n * (8 * uNs))

/-- R38, R39: a pending step is applied at a whole second and cleared; full time then differs from that second by the step. The
time since power-on only advances. (While the Kettle counts, the edge is its first one at or after the second.)

R34 to R36: a change of UTC information and a leap second take effect at a whole second, the leap at the end of the UTC day that
its flag names; a leap moves the offset by one and clears its flag, and a change due at that instant waits; an Announce on an UP
timing port gives its group's reference UTC information with SOURCE 2.

R41, R150: with neither engine presenting a claim the Kettle takes the count over from where it stands, time of day COARSE; the
first engine whose time clock is good again takes control, and raises that waited for it are no longer held (R359). -/
def Obligations.TheTimeCounter : Prop :=
  (∀ (k : StepReq) (s : State), s.clk.step = some k →
    ∃ t, exec .stepApply s = .next t ∧
      keepsBut [.clk, .te, .lane, .group, .port, .tio, .q, .cald, .host, .msi, .mb, .pc] s t ∧ t.clk.step = none ∧
      t.clk.now = ((((atSecond s).clk.now : Int) + k.delta) % (timeSpan : Int)).toNat ∧ s.clk.elapsed ≤ t.clk.elapsed ∧
      (s.clk.kettle = false → (atSecond s).clk.now % uSec = 0 ∧ t.clk.elapsed < s.clk.elapsed + uSec)) ∧
  ((∀ s : State, utcNow s ≠ s.clk.utc →
    (leapHeld s = false → leapDue s.clk.utc (nextSecond s) = false → s.clk.leapAt ≠ some (nextSecond s) →
      ∃ t, exec .utcChangeApply s = .next t ∧ keepsBut [.clk, .te, .host, .msi, .mb, .pc] s t ∧ t.clk.utc = utcNow s ∧
        t.clk.now = (atSecond s).clk.now ∧ (s.clk.kettle = false → t.clk.now % uSec = 0)) ∧
    ((leapHeld s = true ∨ leapDue s.clk.utc (nextSecond s) = true ∨ s.clk.leapAt = some (nextSecond s)) →
      exec .utcChangeApply s = .next (settle s))) ∧
  (∀ s : State, leapDue s.clk.utc (nextSecond s) = true →
    ∃ t, exec .leapSecond s = .next t ∧ keepsBut [.clk, .te, .host, .msi, .mb, .pc] s t ∧ t.clk.now = (atSecond s).clk.now ∧
      (s.clk.kettle = false → t.clk.now % uSec = 0) ∧ t.clk.utc.getLsbD 30 = false ∧ t.clk.utc.getLsbD 29 = false ∧
      (s.clk.utc.getLsbD 30 = true → t.clk.utc.setWidth 16 = s.clk.utc.setWidth 16 + 1) ∧
      (s.clk.utc.getLsbD 30 = false → t.clk.utc.setWidth 16 = s.clk.utc.setWidth 16 - 1)) ∧
  (∀ (p : PortIx) (utcValid leap61 leap59 : Bool) (offset : Int) (s : State), timingPort s (p.val / 8) = some p.val →
    (portOf s p.val).st = .up →
    ∃ t, exec (.ptpAnnounceReceive p utcValid leap61 leap59 offset) s = .next t ∧ keepsBut [.te, .msi] s t ∧
      (utcValid = false → (refOf t (8 + p.val / 8)).utc = none) ∧
      (utcValid = true → (refOf t (8 + p.val / 8)).utc =
        some (packW [(1, 31), (b2n leap61, 30), (b2n leap59, 29), (2, 26), (ofSigned 16 offset, 0)])))) ∧
  ((∀ s : State, accepted s = none → s.clk.kettle = false →
    ∃ t, exec .kettleCountTakeover s = .next t ∧ keepsBut [.clk, .te, .tio, .pm, .host, .msi, .mb, .pc] s t ∧ t.clk.kettle = true ∧
      t.clk.kettleBase = s.clk.now ∧ t.clk.kettleN = 0 ∧ t.clk.now = s.clk.now ∧ t.clk.tod = .coarse ∧ t.te.ks.control = none) ∧
  (∀ (e : EngIx) (s : State), (engxOf s e.val).on = true → s.rst.por = false → s.te.ks.control = none → (engxOf s e.val).health ≠ 0 →
    (engxOf s e.val).base ≠ 0 → (engxOf s (1 - e.val)).claim = 0 →
    ∃ t, exec (.engineTimeClockSupply e) s = .next t ∧ keepsBut [.clk, .te, .tio, .pm, .msi] s t ∧ t.te.ks.control = some e ∧
      t.clk.kettle = false ∧ t.clk.now = s.clk.now ∧ ∀ d, (vget t.pm.dom d {}).heldRaise = false))

/-! ### Registers -/

/-- An access that reaches its register takes effect: a write what R10 gives the register's fields, followed by a message
again if the vector stays pending; a read its data and its effect.

Writing 1 clears a W1C bit and writing 0 has no effect, shown for GL_EVENT, SC_FWD_STATUS and PM_ALARM_STATUS; nothing
else moves. -/
def Obligations.RegisterAccesses : Prop :=
  (∀ (who : Initiator) (off : Nat) (v : Word) (s : State), reaches who off s →
    let u := if who == .mgmt then hostMod (fun x => { x with busError := false }) s else s
    let r := regAt s off
    exec (.regWrite who off v) s = .next (settle (resend r (writeEffect who off r v u))) ∧
    exec (.w1cWrite who off v) s = .next (settle (resend r (writeEffect who off r v u))) ∧
    exec (.pairHiWrite who off v) s = .next (settle (resend r (writeEffect who off r v u))) ∧
    exec (.pairLoRead who off) s = .next (settle (putData who (readData who off r u) (readEffect who off r u))) ∧
    exec (.mirrorEntryRead who off) s = .next (settle (putData who (readData who off r u) (readEffect who off r u)))) ∧
  ((∀ (v : Word) (s : State), answers .host s → domOn s 3 = true →
    ∃ t, exec (.w1cWrite .host 0x38 v) s = .next t ∧ keepsBut [.host, .msi] s t ∧
      t.host.errEvt = (s.host.errEvt && !v.getLsbD 2) ∧ t.host.mgmtRestartEvt = (s.host.mgmtRestartEvt && !v.getLsbD 1) ∧
      t.host.mgmtHaltEvt = (s.host.mgmtHaltEvt && !v.getLsbD 0) ∧ t.host.rdata = s.host.rdata) ∧
  (∀ (v : Word) (s : State), answers .host s → domOn s 10 = true →
    ∃ t, exec (.w1cWrite .host 0x1008000 v) s = .next t ∧ keepsBut [.fwd, .msi] s t ∧
      t.fwd = { s.fwd with
        parityEvt := s.fwd.parityEvt && !v.getLsbD 31, learnFullEvt := s.fwd.learnFullEvt && !v.getLsbD 30 }) ∧
  (∀ (v : Word) (s : State), answers .host s → domOn s 0 = true →
    ∃ t, exec (.w1cWrite .host 0x10044 v) s = .next t ∧ keepsBut [.pm, .msi] s t ∧
      ∀ i : Fin 4, t.pm.alarm[i].fired = (s.pm.alarm[i].fired && !v.getLsbD (24 + i.val)) ∧
        t.pm.alarm[i].armed = s.pm.alarm[i].armed))

/-- R393: a read of a pair's first register returns it and captures the second in the initiator's own holding register; the
other initiator's holding registers stay; a read of the second then returns what was captured.

R393: the second half of a pair's write takes effect with the held first half, shown for the event ring's base; while the
ring is enabled the base stays.

R394: a read of TE_TIME_0 captures full time, the time-of-day state and the UTC word into the reader's snapshot and
returns the first word; the other initiator's snapshot and the time stay. -/
def Obligations.RegisterPairs : Prop :=
  (∀ (who : Initiator) (off : Nat) (h : RegId) (s : State), reaches who off s → off < 2 ^ 26 → pairHi? (regAt s off) = some h →
    ∃ t, exec (.pairLoRead who off) s = .next t ∧ keepsBut [.host, .msi] s t ∧
      t.host.rdata[whoIx who] = regValue s who (regAt s off) ∧
      (∀ w lo, lo < 2 ^ 26 → (w ≠ who ∨ lo ≠ off) → Tbl.get t.host.holding (holdKey w lo) = Tbl.get s.host.holding (holdKey w lo)) ∧
      ∀ u : State, u.host.holding = t.host.holding → readData who (off + 4) h u = regValue s who h) ∧
  (∀ (lo hi : Word) (s : State), answers .host s →
    ∃ t u, exec (.regWrite .host 0x20110 lo) s = .next t ∧ exec (.pairHiWrite .host 0x20114 hi) t = .next u ∧
      keepsBut [.mb, .msi] s u ∧ t.mb.evqLo = s.mb.evqLo ∧ t.mb.evqHi = s.mb.evqHi ∧
      (s.mb.evqEnable = false → u.mb.evqLo = lo.toNat / 64 * 64 ∧ u.mb.evqHi = hi.toNat) ∧
      (s.mb.evqEnable = true → u.mb.evqLo = s.mb.evqLo ∧ u.mb.evqHi = s.mb.evqHi)) ∧
  (∀ (who other : Initiator) (s : State), answers who s → domOn s 0 = true →
    ∃ t, exec (.teTime0Read who) s = .next t ∧ keepsBut [.host, .msi] s t ∧
      vget t.host.teSnap[whoIx who] 1 0 = BitVec.ofNat 32 (secOf s.clk.now) ∧
      vget t.host.teSnap[whoIx who] 2 0 = BitVec.ofNat 32 (nsOf s.clk.now) ∧
      vget t.host.teSnap[whoIx who] 3 0 = BitVec.ofNat 32 (fracOf s.clk.now) ∧
      vget t.host.teSnap[whoIx who] 4 0 = s.clk.utc ∧
      t.host.rdata[whoIx who] = vget t.host.teSnap[whoIx who] 0 0 ∧
      (other ≠ who → t.host.teSnap[whoIx other] = s.host.teSnap[whoIx other]))

/-- R8: an access of another width or alignment is logged with KIND 1 and its address; a read returns all-ones, a write
changes nothing else (the DOMAIN logged, 15, is the model's choice, log entry 40). One that comes through D3 in Clock-stopped
wakes D3 and waits for it first (R364). An offset outside every block is logged too and reads 0, a write there is discarded (R391).

A write to the table mirror is discarded and logged with KIND 5 and domain 10 (R284); a read of GL_ERR_LOG0 returns it
and snapshots GL_ERR_LOG1 for the reader (R386).

An access that its owner cannot take: into a unit held in reset it ends in error, KIND 4, all-ones for the host's read;
into a domain below On it waits at the crossing with nothing changed but the list of waiting accesses (R376). -/
def Obligations.ErroneousAccesses : Prop :=
  ((∀ (who : Initiator) (off bytes : Nat) (s : State), answers who s → (bytes ≠ 4 ∨ off % 4 ≠ 0) →
    (∃ t, exec (.bar0BadAccess who off bytes false) s = .next t ∧ keepsBut [.rst, .host, .msi] s t ∧
      t.host.rdata[whoIx who] = 0xFFFFFFFF#32 ∧ t.host.errEvt = true ∧ t.rst.log1 = BitVec.ofNat 32 off ∧
      t.rst.log0 = packW [(1, 28), (15, 24), (0, 23), (b2n (who == .mgmt), 22), ((s.rst.log0.toNat + 1) % 4096, 0)]) ∧
    (∃ t, exec (.bar0BadAccess who off bytes true) s = .next t ∧ keepsBut [.rst, .host, .msi] s t ∧
      t.host.rdata = s.host.rdata ∧ t.host.errEvt = true ∧ t.rst.log1 = BitVec.ofNat 32 off ∧
      t.rst.log0 = packW [(1, 28), (15, 24), (1, 23), (b2n (who == .mgmt), 22), ((s.rst.log0.toNat + 1) % 4096, 0)])) ∧
  (∀ (who : Initiator) (off : Nat) (s : State), answers who s → off % 4 = 0 → regAt s off = .outside →
    (∃ t, exec (.bar0BadAccess who off 4 false) s = .next t ∧ keepsBut [.rst, .host, .msi] s t ∧
      t.host.rdata[whoIx who] = 0 ∧ t.host.errEvt = true ∧ t.rst.log1 = BitVec.ofNat 32 off) ∧
    (∃ t, exec (.bar0BadAccess who off 4 true) s = .next t ∧ keepsBut [.rst, .host, .msi] s t ∧
      t.host.rdata = s.host.rdata ∧ t.host.errEvt = true ∧ t.rst.log1 = BitVec.ofNat 32 off)) ∧
  (∀ (off bytes : Nat) (s : State), chipUp s → (vget s.pm.dom 3 {}).st = .stopped → (bytes ≠ 4 ∨ off % 4 ≠ 0) →
    ∃ t, exec (.bar0BadAccess .host off bytes false) s = .next t ∧ keepsBut [.te, .pm, .rst, .msi, .pc] s t ∧
      t.rst = { s.rst with waiting := s.rst.waiting ++ [{ who := .host, off, write := none, domain := 3, bytes }] } ∧
      ((vget s.pm.dom 3 {}).target ≠ .on → (wakeMask s 3 0).getLsbD 3 = true → (vget t.pm.dom 3 {}).target = .on))) ∧
  ((∀ (who : Initiator) (off : Nat) (v : Word) (s : State), answers who s → domOn s 10 = true → 0x2000000 ≤ off → off < 0x4000000 →
    off % 4 = 0 → ∃ t, exec (.mirrorWrite who off v) s = .next t ∧ keepsBut [.rst, .host, .msi] s t ∧ t.host.errEvt = true ∧
      t.rst.log1 = BitVec.ofNat 32 off ∧ t.host.rdata = s.host.rdata ∧
      t.rst.log0 = packW [(5, 28), (10, 24), (1, 23), (b2n (who == .mgmt), 22), ((s.rst.log0.toNat + 1) % 4096, 0)]) ∧
  (∀ (who : Initiator) (s : State), answers who s → domOn s 0 = true →
    ∃ t, exec (.glErrLog0Read who) s = .next t ∧ keepsBut [.rst, .host, .msi] s t ∧
      t.host.rdata[whoIx who] = s.rst.log0 ∧ t.rst = { s.rst with log1Snap := s.rst.log1Snap.set (whoIx who) s.rst.log1 })) ∧
  (∀ (off : Nat) (v : Word) (s : State), answers .host s → off % 4 = 0 → regAt s off ≠ .outside → regAt s off ≠ .hole →
    (ownerInReset s (regAt s off) = true →
      (∃ t, exec (.pairLoRead .host off) s = .next t ∧ keepsBut [.rst, .host, .msi] s t ∧ t.host.rdata[whoIx .host] = 0xFFFFFFFF#32 ∧
        t.rst.log1 = BitVec.ofNat 32 off) ∧
      (∃ t, exec (.regWrite .host off v) s = .next t ∧ keepsBut [.rst, .host, .msi] s t ∧ t.rst.log1 = BitVec.ofNat 32 off)) ∧
    (ownerInReset s (regAt s off) = false → domOn s (regOwner (regAt s off)).1 = false →
      ∃ t, exec (.regWrite .host off v) s = .next t ∧ keepsBut [.rst, .msi] s t ∧
        t.rst = { s.rst with
          waiting := s.rst.waiting ++ [{ who := .host, off, write := some v, domain := (regOwner (regAt s off)).1 }] }))

/-! ### Lanes -/

/-- R51: a signal on a lane that is OFF, in an enabled mode and a domain On, takes it to ACQUIRE; in a bank below On the lane
stays and the signal is a wake source (R363). On a lane that is not OFF it is SIG_DET only.

R51 to R53: a lane in ACQUIRE whose CDR locks goes to TRAIN with the initialize preset where its port trains, else to READY
with the configured preset and the receiver's settings frozen, or straight to TEST where a pattern test waits for it.

R51, R384: the CDR lock timeout leaves the lane in ACQUIRE, counts in the lane's counter and is logged.

R51, R52: training that completes brings READY with the trained coefficients, remembered as the last good ones. The first
and second timeouts in a row restart from the initialize preset; the third brings READY with the last good coefficients, or the
initialize preset where there are none, and TRAIN_FALLBACK. Each timeout is logged. A pattern test started before makes it TEST
instead of READY (R56). -/
def Obligations.LanesComeUp : Prop :=
  (∀ (l : LaneIx) (trims : List (Nat × Int)) (s : State), laneInReset s l.val = false → (laneOf s l.val).sigDet = false →
    (domOn s (bankOf (l.val / 8)) = true → (laneOf s l.val).st = .off → modeOf s (l.val / 8) ≠ 0 →
      ∃ t, exec (.laneSignalDetect l trims) s = .next t ∧ keepsBut [.te, .lane, .group, .cal, .pm, .host, .msi, .mb, .pc, .free] s t ∧
        otherLanes l.val s t ∧ (laneOf t l.val).st = .acquire ∧ (laneOf t l.val).sigDet = true ∧
        (laneOf t l.val).cdrLock = false ∧ (laneOf t l.val).taps = (laneOf s l.val).taps) ∧
    (domOn s (bankOf (l.val / 8)) = true → (laneOf s l.val).st ≠ .off →
      ∃ t, exec (.laneSignalDetect l trims) s = .next t ∧ keepsBut [.lane, .msi] s t ∧ otherLanes l.val s t ∧
        laneOf t l.val = { laneOf s l.val with sigDet := true }) ∧
    (domOn s (bankOf (l.val / 8)) = false →
      exec (.laneSignalDetect l trims) s = .next (settle (wakeFrom 1 l.val (wakeMask s 1 l.val) s)))) ∧
  (∀ (l : LaneIx) (eq : RxEq) (s : State), (laneOf s l.val).st = .acquire → laneInReset s l.val = false →
    ∃ t, exec (.cdrLock l eq) s = .next t ∧ keepsBut [.lane, .wx, .msi] s t ∧ otherLanes l.val s t ∧
      (laneOf t l.val).cdrLock = true ∧ (laneOf t l.val).sigDet = true ∧
      (trains s (portOfLane s l.val) = true → (laneOf t l.val).st = .train ∧ (laneOf t l.val).taps = initPreset) ∧
      (trains s (portOfLane s l.val) = false → (laneOf t l.val).taps = presetTaps s l.val ∧ (laneOf t l.val).eyeAtReady = eq.eye ∧
        (laneOf t l.val).ctle = eq.ctle ∧ (laneOf t l.val).dfe1 = eq.dfe1 ∧ (laneOf t l.val).adapt = eq.rest ∧
        (laneOf t l.val).st =
          if (laneOf s l.val).pat.genOn || (laneOf s l.val).pat.chkOn then LaneSt.test else LaneSt.ready)) ∧
  (∀ (l : LaneIx) (s : State), (laneOf s l.val).st = .acquire →
    ∃ t, exec (.cdrLockTimeout l) s = .next t ∧ keepsBut [.te, .lane, .cal, .host, .msi, .mb, .pc, .free] s t ∧ otherLanes l.val s t ∧
      (laneOf t l.val).st = .acquire ∧ (laneOf t l.val).cdrLock = false ∧
      vget t.pc.kinds 1 0 = satU 32 (vget s.pc.kinds 1 0 + 1)) ∧
  (∀ (l : LaneIx) (taps : Taps) (eq : RxEq) (s : State), (laneOf s l.val).st = .train →
    let up : LaneSt := if (laneOf s l.val).pat.genOn || (laneOf s l.val).pat.chkOn then .test else .ready
    (∃ t, exec (.trainingComplete l taps eq) s = .next t ∧ keepsBut [.lane, .wx, .msi] s t ∧ otherLanes l.val s t ∧
      (laneOf t l.val).st = up ∧ (laneOf t l.val).taps = taps ∧ (laneOf t l.val).goodTaps = some taps ∧
      (laneOf t l.val).ctle = eq.ctle ∧ (laneOf t l.val).dfe1 = eq.dfe1 ∧ (laneOf t l.val).trainFails = 0) ∧
    (∃ t, exec (.trainingTimeout l eq) s = .next t ∧ keepsBut [.lane, .wx, .msi, .pc] s t ∧ otherLanes l.val s t ∧
      vget t.pc.kinds 2 0 = satU 32 (vget s.pc.kinds 2 0 + 1) ∧
      ((laneOf s l.val).trainFails < 2 → (laneOf t l.val).st = .train ∧ (laneOf t l.val).taps = initPreset ∧
        (laneOf t l.val).trainFails = (laneOf s l.val).trainFails + 1) ∧
      (2 ≤ (laneOf s l.val).trainFails → (laneOf t l.val).st = up ∧ (laneOf t l.val).trainFallback = true ∧
        (laneOf t l.val).taps = (laneOf s l.val).goodTaps.getD initPreset)))

/-- R51, R243: a READY lane that loses lock or signal goes to ACQUIRE, and its port leaves UP.

R48, R49: the offset of an awake READY lane becomes RX_OFFSET, saturated; a fabric port leaves shared-clock mode when a lane's
offset leaves ±1 ppm, and an UP one enters it when every awake lane has stayed within ±0.1 ppm; PPM_ALARM is that of a standard
port beyond ±100 ppm; beyond ±200 ppm the lane loses lock.

R53, R74: when the eye has fallen below half, the frozen settings change, ADAPT_EVENT sets, and a lane that could be in
fusion is withheld with reason 3.

R54, R55: a checker in sync that receives its generator's own bits counts them without an error; one that is not finds sync
after 64 of them; the thirty-second error among 64 bits ends sync and increments SYNC_LOSS, which saturates. Nothing else of the
lane moves. -/
def Obligations.LanesInService : Prop :=
  (∀ (l : LaneIx) (signal : Bool) (s : State), (laneOf s l.val).st = .ready →
    ∃ t, exec (.laneLossOfLock l signal) s = .next t ∧ (laneOf t l.val).st = .acquire ∧ (laneOf t l.val).sigDet = signal ∧
      (laneOf t l.val).cdrLock = false ∧ (portOf t (portOfLane s l.val)).st ≠ .up ∧
      keepsBut [.te, .lane, .group, .port, .cal, .fwd, .q, .fab, .host, .msi, .mb, .pc, .free] s t) ∧
  ((∀ (l : LaneIx) (offset : Int) (adapt : RxAdapt) (s : State), (laneOf s l.val).st = .ready → (laneOf s l.val).rxSleep = false →
    (offset.natAbs ≤ 20000 → ∃ t, exec (.laneOffsetUpdate l offset adapt) s = .next t ∧ keepsBut [.lane, .port, .msi] s t ∧
      otherLanes l.val s t ∧ (laneOf t l.val).rxOffset = satS 16 offset ∧ (laneOf t l.val).st = .ready ∧
      (laneOf t l.val).adapt = adapt ∧
      (laneOf t l.val).ppmAlarm = (!kindFab s (portOfLane s l.val) && decide (10000 < offset.natAbs)) ∧
      (kindFab s (portOfLane s l.val) = true → 100 < offset.natAbs → (portOf t (portOfLane s l.val)).shared = false) ∧
      ((kindFab s (portOfLane s l.val) = false ∨ offset.natAbs ≤ 100) → t.port = s.port)) ∧
    (20000 < offset.natAbs → ∃ t, exec (.laneOffsetUpdate l offset adapt) s = .next t ∧ (laneOf t l.val).st = .acquire ∧
      (laneOf t l.val).cdrLock = false ∧ (portOf t (portOfLane s l.val)).st ≠ .up ∧
      keepsBut [.te, .lane, .group, .port, .cal, .fwd, .q, .fab, .host, .msi, .mb, .pc, .free] s t)) ∧
  (∀ (p : PortIx) (s : State), (portOf s p.val).st = .up → kindFab s p.val = true →
    (∃ l ∈ lanesOf s p.val, (laneOf s l).st = .ready ∧ (laneOf s l).rxSleep = false) →
    (∀ l ∈ lanesOf s p.val, (laneOf s l).st = .ready → (laneOf s l).rxSleep = false → (laneOf s l).rxOffset.natAbs ≤ 10) →
    ∃ t, exec (.sharedClockEnter p) s = .next t ∧ keepsBut [.port, .msi] s t ∧ otherPorts p.val s t ∧
      portOf t p.val = { portOf s p.val with shared := true })) ∧
  (∀ (l : LaneIx) (eye : Nat) (eq : RxEq) (s : State), (laneOf s l.val).st = .ready → 2 * eye < (laneOf s l.val).eyeAtReady →
    ∃ t, exec (.eyeReadapt l eye eq) s = .next t ∧ keepsBut [.lane, .cal, .msi] s t ∧ otherLanes l.val s t ∧
      (laneOf t l.val).ctle = eq.ctle ∧ (laneOf t l.val).dfe1 = eq.dfe1 ∧ (laneOf t l.val).adapt = eq.rest ∧
      (laneOf t l.val).adaptEvent = true ∧ (laneOf t l.val).st = .ready ∧
      ((laneOf s l.val).ph.excl ≠ 1 → fusionOff s l.val = false → (laneOf t l.val).ph.excl = 3 ∧ (laneOf t l.val).ph.weight = 0)) ∧
  (∀ (l : LaneIx) (n : Nat) (s : State), (laneOf s l.val).pat.chkOn = true →
    let q := (laneOf s l.val).pat
    let rx := patternBits q.chkPat q.chkInv q.chkUser n q.hist
    (q.chkSync = true → q.win.count true < 32 →
      ∃ t, exec (.patternCheckerSync l rx) s = .next t ∧ keepsBut [.lane, .msi] s t ∧ otherLanes l.val s t ∧
        laneOf t l.val = { laneOf s l.val with pat := (laneOf t l.val).pat } ∧ (laneOf t l.val).pat.chkSync = true ∧
        (laneOf t l.val).pat.bits = min (q.bits + n) (max q.bits (2 ^ 64 - 1)) ∧ (laneOf t l.val).pat.syncLoss = q.syncLoss ∧
        (q.errs < 2 ^ 32 → (laneOf t l.val).pat.errs = q.errs)) ∧
    (q.chkSync = false → q.run = 0 → q.chkPat < 7 → 32 ≤ q.hist.length →
      ∃ t, exec (.patternCheckerSync l rx) s = .next t ∧ keepsBut [.lane, .msi] s t ∧ otherLanes l.val s t ∧
        (laneOf t l.val).pat.chkSync = decide (64 ≤ n) ∧ (laneOf t l.val).pat.errs = q.errs ∧
        (n ≤ 64 → (laneOf t l.val).pat.bits = q.bits) ∧ (laneOf t l.val).pat.syncLoss = q.syncLoss)) ∧
  (∀ (l : LaneIx) (b e : Bool) (s : State), (laneOf s l.val).pat.chkOn = true → (laneOf s l.val).pat.chkSync = true →
    nextBit (laneOf s l.val).pat.chkPat (laneOf s l.val).pat.chkUser (laneOf s l.val).pat.hist = some e →
    let wrong := (b ^^ (laneOf s l.val).pat.chkInv) != e
    let late := ((wrong :: (laneOf s l.val).pat.win).take 64).count true
    ∃ t, exec (.patternCheckerSyncLoss l [b]) s = .next t ∧ keepsBut [.lane, .msi] s t ∧ otherLanes l.val s t ∧
      (laneOf t l.val).st = (laneOf s l.val).st ∧
      (laneOf t l.val).pat.errs = min ((laneOf s l.val).pat.errs + b2n wrong) (2 ^ 32 - 1) ∧
      (32 ≤ late → (laneOf t l.val).pat.chkSync = false ∧ (laneOf t l.val).pat.syncLoss = min ((laneOf s l.val).pat.syncLoss + 1) 4095) ∧
      (late < 32 → (laneOf t l.val).pat.chkSync = true ∧ (laneOf t l.val).pat.syncLoss = (laneOf s l.val).pat.syncLoss))

/-! ### Veman sleep -/

/-- R60, R61, R63: the transmit direction of a fabric port sleeps: SLEEP_REQ with the next sequence number, the acknowledgement stops
the lanes that are not the sentinel, a missing one repeats the request once with the same number and then gives up. An
Energy-Efficient Ethernet port sends low-power idle, in deep sleep with its transmitters asleep, and ends it by a local wake.

R61, R63: a local wake asks for the direction back with a new number; before the sleep has completed it cancels it; the
acknowledgement brings the lanes back. -/
def Obligations.TransmitDirectionSleepsAndWakes : Prop :=
  ((∀ (p : PortIx) (s : State), portUsed s p.val = true → kindFab s p.val = true → (portOf s p.val).sleep.tx = .awake →
    ∃ t, exec (.transmitSleep p) s = .next t ∧ keepsBut [.port, .msi] s t ∧ otherPorts p.val s t ∧
      ((portOf s p.val).st = .up → lanesReady s p.val = true →
        (portOf t p.val).sleep.tx = .requested ∧ (portOf t p.val).sleep.seq = ((portOf s p.val).sleep.seq + 1) % 256 ∧
        (portOf t p.val).sleep.sent.head? = some (osBlock 0x51 0x01 (((portOf s p.val).sleep.seq + 1) % 256))) ∧
      (lanesReady s p.val = false → (portOf t p.val).sleep.txWaiting = true ∧ (portOf t p.val).sleep.tx = .awake)) ∧
  (∀ (p : PortIx) (seq : Nat) (s : State), (portOf s p.val).sleep.tx = .requested → (portOf s p.val).sleep.seq = seq % 256 →
    ∃ t, exec (.sleepAckReceive p seq) s = .next t ∧ keepsBut [.lane, .port, .msi] s t ∧ otherPorts p.val s t ∧
      (portOf t p.val).sleep.tx = .asleep ∧
      (∀ l ∈ sleepers s p.val, l < 192 → (laneOf t l).txSleep = true) ∧
      ∀ l, l ∉ sleepers s p.val → laneOf t l = laneOf s l) ∧
  (∀ (p : PortIx) (s : State), (portOf s p.val).sleep.tx = .requested →
    ∃ t, exec (.sleepAckTimeout p) s = .next t ∧ keepsBut [.port, .msi] s t ∧ otherPorts p.val s t ∧
      ((portOf s p.val).sleep.tries < 2 → (portOf t p.val).sleep.tx = .requested ∧
        (portOf t p.val).sleep.sent.head? = some (osBlock 0x51 0x01 (portOf s p.val).sleep.seq)) ∧
      (2 ≤ (portOf s p.val).sleep.tries → (portOf t p.val).sleep.tx = .awake))) ∧
  ((∀ (p : PortIx) (s : State), (portOf s p.val).txLpi = false →
    ∃ t, exec (.localWake p) s = .next t ∧ keepsBut [.port, .msi] s t ∧ otherPorts p.val s t ∧
      ((portOf s p.val).sleep.tx = .asleep → (portOf t p.val).sleep.tx = .waking ∧ (portOf t p.val).sleep.wakePending = true ∧
        (portOf t p.val).sleep.sent.head? = some (osBlock 0x57 0x01 (((portOf s p.val).sleep.seq + 1) % 256))) ∧
      ((portOf s p.val).sleep.tx = .requested → (portOf t p.val).sleep.tx = .awake) ∧
      ((portOf s p.val).sleep.tx = .awake → (portOf t p.val).sleep.txWaiting = false)) ∧
  (∀ (p : PortIx) (seq : Nat) (s : State), (portOf s p.val).sleep.tx = .waking → (portOf s p.val).sleep.seq = seq % 256 →
    ∃ t, exec (.wakeAckReceive p seq) s = .next t ∧ keepsBut [.lane, .port, .fab, .msi] s t ∧ otherPorts p.val s t ∧
      (portOf t p.val).sleep.tx = .awake ∧ (portOf t p.val).sleep.wakePending = false ∧
      (∀ l ∈ lanesOf s p.val, l < 192 → (laneOf t l).txSleep = false) ∧
      (helloPort s p.val = true → (adjOf t p.val).helloSeq = ((adjOf s p.val).helloSeq + 1) % 65536)) ∧
  (∀ (p : PortIx) (s : State), eeeKind s p.val ≠ 0 → (portOf s p.val).st = .up →
    (∃ t, exec (.transmitSleep p) s = .next t ∧ keepsBut [.lane, .port, .msi] s t ∧ otherPorts p.val s t ∧
      portOf t p.val = { portOf s p.val with txLpi := true } ∧
      (eeeKind s p.val = 1 → ∀ l ∈ lanesOf s p.val, l < 192 → (laneOf t l).txSleep = true) ∧
      (eeeKind s p.val = 2 → t.lane = s.lane)) ∧
    ((portOf s p.val).txLpi = true → ∃ t, exec (.localWake p) s = .next t ∧ keepsBut [.lane, .port, .msi] s t ∧
      otherPorts p.val s t ∧ portOf t p.val = { portOf s p.val with txLpi := false } ∧
      ∀ l ∈ lanesOf s p.val, l < 192 → (laneOf t l).txSleep = false)))

/-- R61, R63, R335, R365: the receive direction. A SLEEP_REQ is answered with SLEEP_ACK and its number, or with WAKE_REQ while
a wake is pending here (its D2 and its number are the model's choice, log entry 42); a WAKE_REQ raises the domains of the source's
mask, owes a WAKE_ACK with its number, and cancels a sleep requested here; once aligned the receivers are awake again.

R61: an ordered set with another D1 is discarded and counted. R62: when the sentinel loses its signal, the next fabric
lane of the group in index order becomes the sentinel and is awake. -/
def Obligations.ReceiveDirectionFollowsThePeer : Prop :=
  ((∀ (p : PortIx) (seq : Nat) (s : State), (portOf s p.val).st = .up → kindFab s p.val = true →
    ∃ t, exec (.sleepReqReceive p 1 seq) s = .next t ∧ keepsBut [.lane, .port, .cal, .fab, .msi] s t ∧ otherPorts p.val s t ∧
      ((portOf s p.val).sleep.wakePending = true → t.lane = s.lane ∧ t.fab = s.fab ∧
        (portOf t p.val).sleep.rx = (portOf s p.val).sleep.rx ∧
        (portOf t p.val).sleep.sent.head? = some (osBlock 0x57 0x02 (((portOf s p.val).sleep.seq + 1) % 256))) ∧
      ((portOf s p.val).sleep.wakePending = false → (portOf t p.val).sleep.rx = .asleep ∧
        (portOf t p.val).sleep.sent.head? = some (osBlock 0x52 0x02 (seq % 256)) ∧
        (vget t.fab.adj p.val {}).suspended = true ∧
        ∀ l ∈ sleepers s p.val, l < 192 → (laneOf t l).rxSleep = true)) ∧
  (∀ (p : PortIx) (seq : Nat) (s : State), (portOf s p.val).st = .up → kindFab s p.val = true →
    (portOf s p.val).sleep.rx = .asleep →
    ∃ t, exec (.wakeReqReceive p 1 seq) s = .next t ∧ keepsBut [.te, .port, .pm, .msi, .pc] s t ∧ otherPorts p.val s t ∧
      (portOf t p.val).sleep.rx = .waking ∧ (portOf t p.val).sleep.ackHeld = some (seq % 256) ∧
      ((portOf s p.val).sleep.tx = .requested → (portOf t p.val).sleep.tx = .awake) ∧
      ∀ d, d < 14 → d ≠ 0 → (wakeMask s 2 p.val).getLsbD d = true → domBelow s d = true → (vget t.pm.dom d {}).target = .on) ∧
  (∀ (p : PortIx) (off : List (Fin 8)) (s : State), (portOf s p.val).sleep.rx = .waking →
    ∃ t, exec (.wakeAlignComplete p off) s = .next t ∧ keepsBut [.lane, .port, .cal, .fab, .msi] s t ∧ otherPorts p.val s t ∧
      (portOf t p.val).sleep.rx = .awake ∧ (vget t.fab.adj p.val {}).suspended = false ∧
      ∀ l ∈ lanesOf s p.val, l < 192 → (laneOf t l).rxSleep = false ∧
        ((∃ k ∈ off, k.val = l % 8) → fusionOff s l = false → (laneOf t l).ph.excl = 4))) ∧
  ((∀ (p : PortIx) (d1 : Byte) (s : State), kindFab s p.val = true → d1 ≠ 0x51 → d1 ≠ 0x52 → d1 ≠ 0x57 → d1 ≠ 0x58 →
    ∃ t, exec (.orderedSetBadD1 p d1) s = .next t ∧ keepsBut [.port, .msi, .pc] s t ∧ otherPorts p.val s t ∧
      portOf t p.val = { portOf s p.val with
        sleep := { (portOf s p.val).sleep with badD1 := (portOf s p.val).sleep.badD1 + 1 } }) ∧
  (∀ (g : GroupIx) (cur nx : Nat) (s : State), sentinelOf s g.val = some cur → nx ∈ fabricLanes s g.val → cur < nx →
    (∀ l ∈ fabricLanes s g.val, cur < l → nx ≤ l) → nx < 192 →
    ∃ t, exec (.sentinelLoss g) s = .next t ∧ keepsBut [.lane, .group, .msi] s t ∧ otherGroups g.val s t ∧
      (groupOf t g.val).sentinel = some (Fin.ofNat 8 (nx % 8)) ∧ otherLanes nx s t ∧
      (laneOf t nx).txSleep = false ∧ (laneOf t nx).rxSleep = false))

/-! ### The group servo -/

/-- R72, R85, R90: the end of a servo cycle of a running group takes the temperature, advances the sequence and sets VALID; the
other groups and their lanes stay. Without a timing port the servo is IDLE (R76).

R72: the weights of the lanes in fusion add up to one, whatever their ramps; with one lane the fused value is that lane's.

R77: after the 64 cycles of STEP_MEASURE the servo tracks again; the step is the measured mean less the mean before it, and
is reported to the engines only when it reaches STEP_THRESHOLD, else it counts as a transient.

R74: after 8,000 cycles of remeasurement beside a lane in fusion, with the servo in TRACKING, a lane returns to fusion with the
measured residual and its weight's ramp at zero; a residual beyond ±10 ps keeps it out with reason 8.

R384: the group servo's lock timeout in WAIT_CAL or ANCHORING sets the delay state to NONE, clears the lanes' bookkeeping, is
logged, and the servo begins again. -/
def Obligations.GroupServo : Prop :=
  (∀ (g : GroupIx) (temp : Int) (lanes : List (Fin 8 × List Sample)) (s : State), groupLive s g.val = true →
    ∃ t, exec (.groupServoCycle g temp lanes) s = .next t ∧ keepsBut [.lane, .group, .cal, .msi] s t ∧ otherGroups g.val s t ∧
      (∀ l, l / 8 ≠ g.val → laneOf t l = laneOf s l) ∧ (groupOf t g.val).temp = temp ∧
      (groupOf t g.val).servo.valid = true ∧ (groupOf t g.val).servo.seq = ((groupOf s g.val).servo.seq + 1) % 4096 ∧
      (groupOf t g.val).mode = (groupOf s g.val).mode ∧
      (timingPort s g.val = none → (groupOf t g.val).servo.st = 0)) ∧
  ((∀ f : List FuseIn, f ≠ [] → (∀ i ∈ f, 0 < i.v ∧ 0 ≤ i.r) → sumQ (f.map (fuseWeight f)) = 1) ∧
  (∀ i : FuseIn, 0 < i.v → 0 ≤ i.r → fuse [i] = i.x)) ∧
  (∀ (g : GroupIx) (s : State), (groupOf s g.val).servo.st = 4 → 64 ≤ (groupOf s g.val).servo.measN →
    ∃ t, exec (.stepMeasureEnd g) s = .next t ∧ keepsBut [.lane, .group, .msi] s t ∧ otherGroups g.val s t ∧
      (groupOf t g.val).servo.st = 3 ∧ (groupOf t g.val).servo.hist = [] ∧
      (groupOf t g.val).servo.delta = (groupOf s g.val).servo.measSum / 64 - (groupOf s g.val).servo.preMean ∧
      (stepThreshold s g.val ≤ absQ (groupOf t g.val).servo.delta →
        (groupOf t g.val).servo.reported = some (groupOf t g.val).servo.delta ∧
        (groupOf t g.val).servo.transients = (groupOf s g.val).servo.transients) ∧
      (absQ (groupOf t g.val).servo.delta < stepThreshold s g.val →
        (groupOf t g.val).servo.reported = none ∧
        (groupOf t g.val).servo.transients = (groupOf s g.val).servo.transients + 1)) ∧
  (∀ (l : LaneIx) (k : Nat) (sum : Rat) (s : State), (laneOf s l.val).ph.meas = some (k, sum) → 8000 ≤ k →
    (laneOf s l.val).ph.excl ≠ 0 → fusionOff s l.val = false → mayReturn s l.val = true →
    ∃ t, exec (.laneRemeasureEnd l) s = .next t ∧ keepsBut [.lane, .msi] s t ∧ otherLanes l.val s t ∧
      (laneOf t l.val).ph.meas = none ∧ (laneOf t l.val).st = (laneOf s l.val).st ∧
      (absQ (sum / k) ≤ skewMax → (laneOf t l.val).ph.excl = 0 ∧ (laneOf t l.val).ph.sTrk = sum / k ∧
        (laneOf t l.val).ph.sApp = sum / k ∧ (laneOf t l.val).ph.ramp = 0) ∧
      (skewMax < absQ (sum / k) → (laneOf t l.val).ph.excl = 8)) ∧
  (∀ (g : GroupIx) (p : Nat) (s : State), (groupOf s g.val).servo.st = 1 ∨ (groupOf s g.val).servo.st = 2 →
    timingPort s g.val = some p →
    ∃ t, exec (.groupServoLockTimeout g) s = .next t ∧ keepsBut [.lane, .group, .port, .cal, .msi, .pc] s t ∧
      otherPorts p s t ∧ otherGroups g.val s t ∧ (portOf t p).ld.dstate = 0 ∧ (portOf t p).st = (portOf s p).st ∧
      (∀ l ∈ lanesOf s p, l < 192 → (laneOf t l).ph.anchor = none ∧ (laneOf t l).ph.weight = 0 ∧ (laneOf t l).ld.hasDelay = false) ∧
      ((groupOf t g.val).servo.st = if (portOf s p).st = .up then 1 else 0) ∧
      vget t.pc.kinds 7 0 = satU 32 (vget s.pc.kinds 7 0 + 1))

/-! ### The two-way exchange and link delay -/

/-- R69, R88: a Sync on a port that acts as slave is timestamped; a one-step one gives t1 at once, a two-step one waits for the
Follow_Up with its sequence id.

R91, R92: a Delay_Req is answered with its receive time under its sequence id; a Pdelay_Req on an IEEE 802.1AS port with its
receive time too, and with the departure time of that answer in the follow-up.

R93, R107: a Delay_Resp with the outstanding sequence id completes the exchange; the first one forms RT_port and takes the
delay state from NONE to COARSE. R92: a Pdelay_Resp gives half its round trip as the peer delay, at the neighbour's rate that it
and the response before it give.

R97: the bytes of a Veman TLV spell it, every field at every value of its width, with and without the solution block. -/
def Obligations.TwoWayExchange : Prop :=
  ((∀ (p : PortIx) (m : RxMsg) (x : Rat) (s : State), exchOn s p.val = true → asSlave s p.val = true → rxStamp s p.val m = some x →
    ∃ t, exec (.ptpSyncReceive p m) s = .next t ∧ keepsBut [.lane, .port, .cal, .msi, .pc] s t ∧ otherPorts p.val s t ∧
      (m.twoStep = true → (portOf t p.val).exch.sync = some { msg := m, t := x } ∧
        (portOf t p.val).exch.t1 = (portOf s p.val).exch.t1) ∧
      (m.twoStep = false → (portOf t p.val).exch.t1 = some (peerTime m.origin m.corr) ∧ (portOf t p.val).exch.t2 = some x)) ∧
  (∀ (p : PortIx) (seqId : Nat) (origin corr tlv : List Byte) (e : RxEvent) (s : State), exchOn s p.val = true →
    asSlave s p.val = true → (portOf s p.val).exch.sync = some e → e.msg.seqId = seqId →
    ∃ t, exec (.ptpFollowUpReceive p seqId origin corr tlv) s = .next t ∧ keepsBut [.lane, .port, .cal, .msi, .pc] s t ∧
      otherPorts p.val s t ∧ (portOf t p.val).exch.t1 = some (peerTime origin corr) ∧
      (portOf t p.val).exch.t2 = some e.t ∧ (portOf t p.val).exch.sync = none)) ∧
  (∀ (p : PortIx) (m : RxMsg) (x : Rat) (s : State), exchOn s p.val = true → rxStamp s p.val m = some x →
    (asMaster s p.val = true →
      ∃ t, exec (.ptpDelayReqReceive p m) s = .next t ∧ keepsBut [.port, .msi, .pc] s t ∧ otherPorts p.val s t ∧
        (portOf t p.val).exch.sent =
          { kind := 3, seqId := m.seqId % 65536, time := timeField (splitTime x).1
            corr := corrField (wireCorr m.corr - (splitTime x).2), tlv := [] } :: (portOf s p.val).exch.sent) ∧
    (∀ tx : TxStamp, asAs s p.val = true →
      ∃ t, exec (.pdelayReqReceive p m tx) s = .next t ∧ keepsBut [.port, .msi] s t ∧ otherPorts p.val s t ∧
        (portOf t p.val).exch.sent =
          { kind := 6, seqId := m.seqId % 65536, time := timeField (splitTime (txStamp s p.val tx)).1
            corr := corrField (splitTime (txStamp s p.val tx)).2, tlv := [] } ::
          { kind := 5, seqId := m.seqId % 65536, time := timeField (splitTime x).1
            corr := corrField (wireCorr m.corr - (splitTime x).2), tlv := [] } :: (portOf s p.val).exch.sent)) ∧
  ((∀ (p : PortIx) (seqId : Nat) (rx corr : List Byte) (t1 t2 t3 : Rat) (s : State), exchOn s p.val = true → asSlave s p.val = true →
    (portOf s p.val).exch.t3 = some (seqId, t3) → (portOf s p.val).exch.t1 = some t1 → (portOf s p.val).exch.t2 = some t2 →
    let rt := ((wireTime rx : Rat) - (wireCorr corr : Rat) * 16 - t1) - (t3 - t2)
    ∃ t, exec (.ptpDelayRespReceive p seqId rx corr) s = .next t ∧
      keepsBut [.lane, .group, .port, .cal, .cald, .host, .msi, .mb, .pc] s t ∧ otherPorts p.val s t ∧
      (portOf t p.val).exch.exchanges = (portOf s p.val).exch.exchanges + 1 ∧ (portOf t p.val).exch.t3 = none ∧
      ((portOf s p.val).exch.rts = [] → (portOf t p.val).exch.rtLast = some rt ∧ (portOf t p.val).exch.rts = [rt] ∧
        ((portOf s p.val).ld.dstate = 0 → (portOf t p.val).ld.dstate = 1)) ∧
      ((portOf s p.val).exch.rts ≠ [] → (portOf s p.val).exch.suspect = false →
        (par s 0x139 p.val : Rat) < absQ (rt - meanQ (portOf s p.val).exch.rts) →
        (portOf t p.val).exch.rts = (portOf s p.val).exch.rts ∧ (portOf t p.val).exch.suspect = true ∧
        (portOf t p.val).exch.outliers = (portOf s p.val).exch.outliers + 1)) ∧
  (∀ (p : PortIx) (m : RxMsg) (respTx corr : List Byte) (t1 t4 : Rat) (s : State), exchOn s p.val = true → asAs s p.val = true →
    (portOf s p.val).exch.pd1 = some (m.seqId, t1) → rxStamp s p.val m = some t4 →
    let t2 : Rat := wireTime m.origin - wireCorr m.corr * 16
    let t3 : Rat := wireTime respTx + wireCorr corr * 16
    ∃ t, exec (.pdelayRespReceive p m respTx corr) s = .next t ∧
      keepsBut [.lane, .group, .port, .cal, .cald, .host, .msi, .mb, .pc] s t ∧ otherPorts p.val s t ∧
      (portOf t p.val).exch.pd1 = none ∧ (portOf t p.val).exch.pdPrev = some (t3, t4) ∧
      ((portOf s p.val).exch.pdPrev = none → (portOf t p.val).exch.pdelay = some (((t4 - t1) - (t3 - t2)) / 2)) ∧
      (∀ a b : Rat, (portOf s p.val).exch.pdPrev = some (a, b) → t4 ≠ b →
        (portOf t p.val).exch.pdelay = some (((t3 - a) / (t4 - b) * (t4 - t1) - (t3 - t2)) / 2)))) ∧
  (∀ v : VemanTlv, tlvFits v → tlvOf (tlvBytes v) = some v ∧
    (tlvBytes v).length = 4 + tlvLength v.lanes.length v.solution.isSome)

/-- R87, R88, R91, R92: at the message interval a port sends its next Sync, followed by a Follow_Up in two-step mode, or its next
Delay_Req or Pdelay_Req, whose departure it keeps (in one-step mode less the fraction that the message carries, which the
answer brings back); each kind has its own sequence number.

R95, R105, R107: a measurement window of a fabric port ends at a whole second: each lane begins a new window, the sequence
advances; in NONE the state stays, and in VALID a window without a peer's half falls to HELD.

R108: a module with another identity is a path change: VALID becomes REMEASURE, and its wavelengths are taken. The first
identity seen is none. -/
def Obligations.LinkDelay : Prop :=
  (∀ (p : PortIx) (tx : TxStamp) (s : State), exchOn s p.val = true →
    (asMaster s p.val = true ∨ asAs s p.val = true →
      ∃ t, exec (.ptpInterval p false tx) s = .next t ∧ keepsBut [.port, .msi] s t ∧ otherPorts p.val s t ∧
        (portOf t p.val).exch.syncSeq = ((portOf s p.val).exch.syncSeq + 1) % 65536 ∧
        (par s 0x118 p.val = 0 → (portOf t p.val).exch.sent.map (fun m => m.kind) =
          0 :: (portOf s p.val).exch.sent.map (fun m => m.kind)) ∧
        (par s 0x118 p.val ≠ 0 → (portOf t p.val).exch.sent.map (fun m => m.kind) =
          1 :: 0 :: (portOf s p.val).exch.sent.map (fun m => m.kind)) ∧
        ((portOf t p.val).exch.sent.head?.map (fun m => (m.seqId, m.time, m.corr)) =
          some ((portOf s p.val).exch.syncSeq % 65536, timeField (splitTime (txStamp s p.val tx)).1,
            corrField (splitTime (txStamp s p.val tx)).2))) ∧
    (asAs s p.val = true →
      ∃ t, exec (.ptpInterval p true tx) s = .next t ∧ keepsBut [.port, .msi] s t ∧ otherPorts p.val s t ∧
        (par s 0x118 p.val ≠ 0 → (portOf t p.val).exch.pd1 = some ((portOf s p.val).exch.pdelaySeq, txStamp s p.val tx)) ∧
        (par s 0x118 p.val = 0 → (portOf t p.val).exch.pd1 =
          some ((portOf s p.val).exch.pdelaySeq, txStamp s p.val tx - (splitTime (txStamp s p.val tx)).2 * 16)) ∧
        (portOf t p.val).exch.sent.head?.map (fun m => m.kind) = some 4) ∧
    (asAs s p.val = false → asSlave s p.val = true →
      ∃ t, exec (.ptpInterval p true tx) s = .next t ∧ keepsBut [.port, .msi] s t ∧ otherPorts p.val s t ∧
        (par s 0x118 p.val ≠ 0 → (portOf t p.val).exch.t3 = some ((portOf s p.val).exch.delaySeq, txStamp s p.val tx)) ∧
        (par s 0x118 p.val = 0 → (portOf t p.val).exch.t3 =
          some ((portOf s p.val).exch.delaySeq, txStamp s p.val tx - (splitTime (txStamp s p.val tx)).2 * 16)) ∧
        (portOf t p.val).exch.sent.head?.map (fun m => m.kind) = some 2)) ∧
  (∀ (p : PortIx) (s : State), portUsed s p.val = true → kindFab s p.val = true → groupLive s (p.val / 8) = true →
    ∃ t, exec (.ldWindowEnd p) s = .next t ∧ keepsBut [.clk, .te, .lane, .group, .port, .cal, .cald, .host, .msi, .mb, .pc] s t ∧
      otherPorts p.val s t ∧ (s.clk.kettle = false → t.clk.now % uSec = 0) ∧ (portOf t p.val).ld.valid = true ∧
      (portOf t p.val).ld.seq = ((portOf s p.val).ld.seq + 1) % 4096 ∧
      (∀ l ∈ lanesOf s p.val, l < 192 → (laneOf t l).ld.winN = 0) ∧
      ((portOf s p.val).ld.dstate = 0 → (portOf t p.val).ld.dstate = 0) ∧
      ((portOf s p.val).ld.dstate = 2 → (portOf s p.val).ld.peer = none → (portOf s p.val).ld.winDiscard = 0 →
        (portOf s p.val).ld.lastDisc = false → (portOf t p.val).ld.dstate = 3)) ∧
  (∀ (p : PortIx) (ident : Nat) (bidi : Bool) (lasers : List WlReport) (s : State), portUsed s p.val = true →
    (portOf s p.val).ld.lastModule ≠ some ident →
    ∃ t, exec (.moduleChange p ident bidi lasers) s = .next t ∧ keepsBut [.lane, .port, .cald, .host, .msi, .mb, .pc] s t ∧
      otherPorts p.val s t ∧ (portOf t p.val).ld.lastModule = some ident ∧ (portOf t p.val).ld.bidi = bidi ∧
      ((portOf s p.val).ld.lastModule ≠ none → (portOf s p.val).ld.dstate = 2 → (portOf t p.val).ld.dstate = 4) ∧
      ((portOf s p.val).ld.lastModule = none → (portOf t p.val).ld.dstate = (portOf s p.val).ld.dstate) ∧
      ∀ k, k < laneCount s p.val → p.val + k < 192 → (laneOf t (p.val + k)).ld.module =
        (lasers[k]?).map (fun w => { wlTx := w.wlTx, wlRx := w.wlRx, sigTx := w.sigTx, sigRx := w.sigRx }))

/-! ### References -/

/-- R112 to R173: while an engine supplies the time clock the end of a servo cycle advances the result sequence and sets VALID;
with no engine in control nothing happens.

R118, R120: a monitor that fails takes a reference in QUALIFYING to SUSPECT to DISQUALIFIED with its reason; the loss of an
external reference's signal takes it to ABSENT.

R120: a reference disqualified by a gate or a wander window returns to QUALIFYING when the condition has cleared; QUAL_TIME
with every monitor passing leads to WTR where it has qualified before, else to AVAILABLE; WAIT_TO_RESTORE leads to AVAILABLE; DISQ_HOLD
leads back to QUALIFYING. -/
def Obligations.ReferenceMonitoring : Prop :=
  (∀ (m : CycleMeas) (s : State),
    (cyclesRun s = true → ∃ t, exec (.engineServoCycle m) s = .next t ∧
      keepsBut [.clk, .te, .group, .tio, .cal, .fab, .pm, .host, .msi, .mb, .boot, .pc] s t ∧
      t.te.seq = (s.te.seq + 1) % 65536 ∧ t.te.valid = true ∧ t.te.ks.arbitrating = false) ∧
    (cyclesRun s = false → ∃ t, exec (.engineServoCycle m) s = .next t ∧ nothingBut s t)) ∧
  (∀ (r : Fin 32) (s : State), refPresent s r.val = true →
    (viewOf s r.val).st = .qualifying ∨ (viewOf s r.val).st = .wtr ∨ (viewOf s r.val).st = .available ∨ (viewOf s r.val).st = .suspect →
    (∀ offset : Int, par s 0x09 r.val < |offset| →
      ∃ t, exec (.refFreqGate r offset) s = .next t ∧ keepsBut [.te, .host, .msi, .mb, .pc] s t ∧
        (viewOf t r.val).st = .disqualified ∧ (viewOf t r.val).reason = 2 ∧ (refOf t r.val).freqOff = offset) ∧
    (∀ q : Rat, wanderDue s r.val = true → wanderOf (refOf s r.val).wander = some q → (par s 0x0A r.val : Rat) < q →
      ∃ t, exec (.refWanderWindow r) s = .next t ∧ keepsBut [.te, .host, .msi, .mb, .pc] s t ∧
        (viewOf t r.val).st = .disqualified ∧ (viewOf t r.val).reason = 3 ∧ (refOf t r.val).wander = []) ∧
    (isExt r.val = true → ∃ t, exec (.refLos r) s = .next t ∧ keepsBut [.te, .host, .msi, .mb, .pc] s t ∧
      (viewOf t r.val).st = .absent ∧ (refOf t r.val).signal = false)) ∧
  ((∀ (r : Fin 32) (offset : Int) (s : State), refPresent s r.val = true → |offset| ≤ par s 0x09 r.val →
    (viewOf s r.val).st = .disqualified → (viewOf s r.val).reason = 2 →
    ∃ t, exec (.refFreqGate r offset) s = .next t ∧ keepsBut [.te, .host, .msi, .mb, .pc] s t ∧ (viewOf t r.val).st = .qualifying) ∧
  (∀ (r : Fin 32) (q : Rat) (s : State), refPresent s r.val = true → wanderDue s r.val = true →
    wanderOf (refOf s r.val).wander = some q → q ≤ (par s 0x0A r.val : Rat) →
    (viewOf s r.val).st = .disqualified → (viewOf s r.val).reason = 3 →
    ∃ t, exec (.refWanderWindow r) s = .next t ∧ keepsBut [.te, .host, .msi, .mb, .pc] s t ∧ (viewOf t r.val).st = .qualifying) ∧
  (∀ (r : Fin 32) (s : State), (viewOf s r.val).st = .qualifying → (refOf s r.val).okFreq = true → (refOf s r.val).okWander = true →
    (refOf s r.val).okSignal = true →
    ∃ t, exec (.qualTimeExpiry r) s = .next t ∧ keepsBut [.te, .host, .msi, .mb, .pc] s t ∧
      (viewOf t r.val).st = (if (refOf s r.val).qualBefore then RefSt.wtr else RefSt.available) ∧ (refOf t r.val).qualBefore = true) ∧
  (∀ (r : Fin 32) (s : State), (viewOf s r.val).st = .wtr →
    ∃ t, exec (.wtrExpiry r) s = .next t ∧ keepsBut [.te, .host, .msi, .mb, .pc] s t ∧ (viewOf t r.val).st = .available) ∧
  (∀ (r : Fin 32) (s : State), (viewOf s r.val).st = .disqualified →
    (viewOf s r.val).reason = 5 ∨ (viewOf s r.val).reason = 6 ∨ (viewOf s r.val).reason = 8 →
    ∃ t, exec (.disqHoldExpiry r) s = .next t ∧ keepsBut [.te, .host, .msi, .mb, .pc] s t ∧ (viewOf t r.val).st = .qualifying))

/-- R114, R118: a port reference whose delay has been HELD too long is disqualified with reason 7. R118: at the end of a 10 s
interval each present reference's change is what its raw phase moved. R115: a conditioner's step measurement that ends below
STEP_THRESHOLD is a transient, and the conditioner delivers again.

R121, R122: in the automatic modes, while the model is not ready the residual window is empty; else a residual of a selected
AVAILABLE reference beyond RESID_SOFT that is neither the oscillator's nor beyond RESID_HARD makes it SUSPECT and alarms.

R116, R117: a TODIN message that is malformed, mistimed or fails its checksum is discarded and counted; a good one that
follows its predecessor, or agrees with the label, brings its second; without messages the label goes on as lost. -/
def Obligations.ReferenceMeasurements : Prop :=
  ((∀ (g : GroupIx) (p : Nat) (s : State), timingPort s g.val = some p → (portOf s p).ld.dstate = 3 →
    (viewOf s (g.val + 8)).st = .available →
    ∃ t, exec (.delayStale g) s = .next t ∧ keepsBut [.te, .host, .msi, .mb, .pc] s t ∧
      (viewOf t (g.val + 8)).st = .disqualified ∧ (viewOf t (g.val + 8)).reason = 7) ∧
  (∀ s : State, ∃ t, exec .refXcmpInterval s = .next t ∧ keepsBut [.te, .host, .msi, .mb, .pc] s t ∧
    ∀ r ∈ refList, refPresent s r = true → (refOf t r).raw10 = some (refOf s r).raw ∧
      (refOf t r).change10 = (refOf s r).raw10.map (fun q => (refOf s r).raw - q)) ∧
  (∀ (r : Fin 32) (s : State), isExt r.val = true → (refOf s r.val).cond.measuring = true → 64 ≤ (refOf s r.val).cond.measN →
    absQ ((refOf s r.val).cond.measSum / 64 - (refOf s r.val).cond.preMean) < (par s 0x07 r.val : Rat) →
    ∃ t, exec (.conditionerStepEnd r) s = .next t ∧ keepsBut [.te, .msi] s t ∧ (refOf t r.val).cond.measuring = false ∧
      (refOf t r.val).cond.transients = (refOf s r.val).cond.transients + 1 ∧ (viewOf t r.val) = (viewOf s r.val) ∧
      (refOf t r.val).cond.delta = (refOf s r.val).cond.measSum / 64 - (refOf s r.val).cond.preMean)) ∧
  ((∀ s : State, (engxOf s (ctl s)).modelReady = false → autoMode s (ctl s) = true →
    ∃ t, exec .modelResidual s = .next t ∧ keepsBut [.te, .msi] s t ∧ (engxOf t (ctl s)).resid = [] ∧ (engxOf t (ctl s)).residNow = 0) ∧
  (∀ (r : Nat) (y : Rat) (ys : List Rat) (s : State), r < 32 →
    let e := ctl s
    let q := sumQ ((ofWord (y - modelY (engOf s e).model (modelT s) (engOf s e).temp) :: (engxOf s e).resid).take (parE s 0x28 e).toNat)
    (engxOf s e).modelReady = true → (engOf s e).sel = some r → (engxOf s e).ySec = y :: ys → autoMode s e = true →
    (viewOf s r).st = .available → oscBlamed s r = false →
    (parE s 0x29 e : Rat) < absQ q → absQ q ≤ (parE s 0x2A e : Rat) →
    ∃ t, exec .modelResidual s = .next t ∧ keepsBut [.te, .host, .msi, .mb, .pc] s t ∧
      (engxOf t e).residNow = roundAway q ∧ (viewOf t r).st = .suspect ∧ (engOf t e).suspectAlarm = true)) ∧
  ((∀ (bytes : List Byte) (after : Nat) (lineError : Bool) (s : State), bytes.length ≠ 16 ∨ lineError = true ∨ after < 10000 ∨ 900000 < after →
    ∃ t, exec (.todinMessage bytes after lineError) s = .next t ∧ keepsBut [.te, .msi, .pc] s t ∧
      t.te = { s.te with tod := { s.te.tod with discarded := s.te.tod.discarded + 1 } }) ∧
  (∀ (bytes : List Byte) (after : Nat) (s : State), bytes.length = 16 → fieldBe bytes 0 4 = 0xA55A010C →
    ((bytes.drop 2).map (·.toNat)).sum % 256 = 0 → 10000 ≤ after → after ≤ 900000 →
    ∃ t, exec (.todinMessage bytes after false) s = .next t ∧ keepsBut [.te, .host, .msi, .mb, .pc] s t ∧
      t.te.tod.lastSec = some (fieldBe bytes 4 6) ∧ t.te.tod.lost = false ∧ t.te.tod.discarded = s.te.tod.discarded ∧
      (s.te.tod.todOk = true → s.te.tod.label = some (fieldBe bytes 4 6) → t.te.tod.todOk = true ∧ t.te.tod.label = s.te.tod.label) ∧
      (s.te.tod.todOk = false → 1 ≤ fieldBe bytes 4 6 → s.te.tod.lastSec = some (fieldBe bytes 4 6 - 1) → t.te.tod.todOk = true)) ∧
  (∀ s : State, s.te.tod.label ≠ none →
    ∃ t, exec .todinLost s = .next t ∧ keepsBut [.te, .msi] s t ∧ t.te = { s.te with tod := { s.te.tod with lost := true } }))

/-! ### The engine servo -/

/-- R136, R137: the servo acquires: the measured offset becomes the integrator, the bandwidth is raised for eight seconds and then
the loop settles; with 8,000 cycles within LOCK_WINDOW it is LOCKED.

R128 to R132: when the 64 cycles of a switch are over, the mean difference is absorbed by the incoming reference, which is then
the selected one; the residual window begins again.

R138: a second of learning is one more row for every live engine, the model is ready after 24 h of them; R139: the temperature
follows the sensor, in 1/16 °C on the die, by its scale and offset otherwise, and the third failed reading in a row is a fault; R145: without estimates SW_CLOSED steers from the
model and stays SW_CLOSED. -/
def Obligations.EngineServo : Prop :=
  ((∀ (offset : Int) (r : Nat) (s : State), (engOf s (ctl s)).st = .acquire → (engOf s (ctl s)).acqPhase = 0 → (engOf s (ctl s)).sw = none →
    (engOf s (ctl s)).sel = some r →
    ∃ t, exec (.acquireFreqMeasured offset) s = .next t ∧ keepsBut [.clk, .te, .msi] s t ∧
      (engOf t (ctl s)).integ = (offset : Rat) ∧ ((engOf t (ctl s)).acqPhase = 1 ∨ (engOf t (ctl s)).acqPhase = 2) ∧ t.clk.now = s.clk.now) ∧
  (∀ s : State, (engOf s (ctl s)).st = .acquire ∨ (engOf s (ctl s)).st = .locked → (engOf s (ctl s)).acqPhase = 2 →
    ∃ t, exec .acquireBandwidthStep s = .next t ∧ keepsBut [.te, .msi] s t ∧ (engOf t (ctl s)).acqPhase = 3 ∧
      (engOf t (ctl s)).st = (engOf s (ctl s)).st) ∧
  (∀ s : State, (engOf s (ctl s)).st = .acquire → 8000 ≤ (engOf s (ctl s)).lockCnt →
    ∃ t, exec .engineLock s = .next t ∧ keepsBut [.clk, .te, .host, .msi, .mb, .pc] s t ∧ (engOf t (ctl s)).st = .locked ∧
      t.clk.now = s.clk.now) ∧
  (∀ (r : Nat) (s : State), (engOf s (ctl s)).sel = some r → (engOf s (ctl s)).st = .locked → 8000 ≤ (engOf s (ctl s)).unlockCnt →
    ∃ t, exec .engineUnlock s = .next t ∧ keepsBut [.te, .host, .msi, .mb, .pc] s t ∧ (engOf t (ctl s)).st = .acquire ∧
      (engOf t (ctl s)).sel = some r ∧ (engOf t (ctl s)).acqPhase = 0)) ∧
  (∀ (w : SwitchSt) (s : State), (engOf s (ctl s)).sw = some w → 64 ≤ w.cycle → w.incoming < 32 →
    ∃ t, exec .switchComplete s = .next t ∧ keepsBut [.clk, .te, .host, .msi, .mb, .pc] s t ∧ (engOf t (ctl s)).sw = none ∧
      (engOf t (ctl s)).sel = some w.incoming ∧ (viewOf t w.incoming).absorb = w.sum / 64 ∧ (engxOf t (ctl s)).resid = [] ∧
      t.clk.now = s.clk.now) ∧
  ((∀ s : State, cyclesRun s = true → mayLearn s = true →
    ∃ t, exec .holdoverLearn s = .next t ∧ keepsBut [.te, .msi, .free] s t ∧
      ∀ e, e < 2 → engLive s e = true → (engxOf s e).ySec ≠ [] → (engOf t e).learned = (engOf s e).learned + 1) ∧
  (∀ s : State, ∃ t, exec .modelReadyReached s = .next t ∧ keepsBut [.te, .msi] s t ∧
    ∀ e, e < 2 → (86400 ≤ (engOf s e).learned → (engxOf t e).modelReady = true) ∧
      ((engOf s e).learned < 86400 → (engxOf t e).modelReady = (engxOf s e).modelReady)) ∧
  (∀ (e : EngIx) (v : Nat) (s : State), (engxOf s e.val).on = true →
    ∃ t, exec (.tempPoll e (some v)) s = .next t ∧ keepsBut [.te, .host, .msi, .mb, .pc] s t ∧
      (parE s 0x30 e.val = 0 → (engOf t e.val).temp = (toSigned 16 v : Rat) / 16) ∧
      (parE s 0x30 e.val = 2 → v ≤ 2000 →
        (engOf t e.val).temp = (parE s 0x32 e.val : Rat) * (v : Rat) / 65536 + (parE s 0x33 e.val : Rat) / 16) ∧
      (engOf t e.val).tempFault = false ∧ (engOf t e.val).tempFails = 0) ∧
  (∀ (e : EngIx) (s : State), (engxOf s e.val).on = true →
    ∃ t, exec (.tempPoll e none) s = .next t ∧ keepsBut [.te, .host, .msi, .mb, .pc] s t ∧
      (engOf t e.val).tempFails = (engOf s e.val).tempFails + 1 ∧ (engOf t e.val).temp = (engOf s e.val).temp ∧
      (2 ≤ (engOf s e.val).tempFails → (engOf t e.val).tempFault = true)) ∧
  (∀ s : State, (engOf s (ctl s)).st = .swClosed → (engOf s (ctl s)).hoInSw = false →
    ∃ t, exec .swTimeoutExpiry s = .next t ∧ keepsBut [.te, .msi] s t ∧ (engOf t (ctl s)).hoInSw = true ∧
      (engOf t (ctl s)).st = .swClosed ∧ (engOf t (ctl s)).hoIn ≠ none))

/-! ### The Keystone -/

/-- R151, R155 to R158: control passes at an 8 ns boundary, the second one after the claims changed at the latest, where the other
engine's claim is the higher; the handover counts and is reported; the new engine goes on with the old one's progress. Where the
claims name the engine in control, it stays.

R150: the accepted engine is the one with the higher claim; TE-A where they are equal; none where both are 0x00.

R155, R156: a fatal fault takes an engine in service to HEALTH 2, or 1 the third time within an hour; a stopped time clock takes
its claim to 0x00, and control passes to the other engine where that presents a claim. -/
def Obligations.KeystoneControl : Prop :=
  (∀ (cmp : Int) (old nxt : Fin 2) (s : State), accepted s = some nxt → s.te.ks.control = some old → s.clk.kettle = false →
    ∃ t, exec (.handoverEdge cmp) s = .next t ∧ keepsBut [.clk, .te, .lane, .group, .pm, .host, .msi, .mb, .pc] s t ∧
      t.clk.now % (8 * uNs) = 0 ∧ t.clk.elapsed ≤ s.clk.elapsed + 16 * uNs ∧ t.clk.tod = s.clk.tod ∧
      (old = nxt → t.te.ks.control = some old ∧ t.te.ks.handovers = s.te.ks.handovers ∧ t.te.eng = s.te.eng ∧ t.pm = s.pm ∧
        t.lane = s.lane ∧ t.group = s.group) ∧
      (old ≠ nxt → t.te.ks.control = some nxt ∧ t.te.ks.handoverEvt = true ∧ t.te.ks.handovers = s.te.ks.handovers + 1 ∧
        t.te.ks.cmpEdge = (cmp : Rat) ∧ (engOf t nxt.val).acqPhase = (engOf s old.val).acqPhase ∧
        (engOf t nxt.val).everLocked60 = (engOf s old.val).everLocked60 ∧ (engOf t nxt.val).st = (engOf s old.val).st ∧
        (engOf t nxt.val).sel = (engOf s old.val).sel)) ∧
  (∀ s : State,
    (accepted s = none ↔ (engxOf s 0).claim = 0 ∧ (engxOf s 1).claim = 0) ∧
    (accepted s = some 1 ↔ (engxOf s 0).claim < (engxOf s 1).claim) ∧
    (accepted s = some 0 ↔ (engxOf s 1).claim ≤ (engxOf s 0).claim ∧ 0 < (engxOf s 0).claim)) ∧
  ((∀ (e : EngIx) (s : State), (engxOf s e.val).on = true → 2 < (engxOf s e.val).health →
    ∃ t, exec (.engineFatalFault e) s = .next t ∧ keepsBut [.te, .host, .msi, .mb, .pc] s t ∧
      ((engxOf t e.val).health = 2 ∨ (engxOf t e.val).health = 1) ∧ (engxOf t e.val).claim = claimOf t e.val ∧
      (engxOf t (1 - e.val)) = (engxOf s (1 - e.val))) ∧
  (∀ (e : EngIx) (cmp : Int) (s : State),
    ∃ t, exec (.engineClockStop e cmp) s = .next t ∧ keepsBut [.te, .lane, .group, .pm, .host, .msi, .mb, .pc] s t ∧
      (engxOf t e.val).claim = 0 ∧ (engxOf t e.val).clkOk = false ∧
      (s.te.ks.control = some e → (engxOf s (1 - e.val)).claim ≠ 0 →
        (∃ o : Fin 2, o ≠ e ∧ t.te.ks.control = some o) ∧ t.te.ks.cmpEdge = (cmp : Rat)) ∧
      (s.te.ks.control ≠ some e → t.te.ks.control = s.te.ks.control)))

/-- R159, R162: the engine that did not send it takes a record whose CRC holds into its idle bank, which becomes current; one that
fails counts, and the current bank stays. After 64 silent cycles a standby in service is FAULTED, or FAILED the third time.

R154, R163 to R166: CMP_CYCLES disagreeing cycles with both engines in service hold one of them at fault, raise DISAGREE_ALARM
and are logged; the checks' results count; ENGINE_WTR and 64 s of agreement bring an engine back towards service.

R167, R170: eight aligned cycles make the claim change due; 64 cycles without them abandon a reclaim or a software change, the
engine that was to take over at HEALTH 5; an engine that has slewed to the null after booting, with a record loaded or the other
engine at HEALTH 0 or 1, steers on its own. -/
def Obligations.KeystoneComparison : Prop :=
  ((∀ (noise : List (Nat × Byte)) (s : State), (engxOf s (tieReceiver s)).on = true → s.te.ks.tieOut ≠ [] →
    ∃ t, exec (.wallTieRecord noise) s = .next t ∧ keepsBut [.te, .msi, .pc] s t ∧
      (tieValid (withNoise s.te.ks.tieOut noise) = true → (engxOf t (tieReceiver s)).bank ≠ (engxOf s (tieReceiver s)).bank ∧
        (engxOf t (tieReceiver s)).banks[(engxOf t (tieReceiver s)).bank] = withNoise s.te.ks.tieOut noise ∧
        (engxOf t (tieReceiver s)).silent = 0 ∧ t.te.ks.crcErrors = s.te.ks.crcErrors) ∧
      (tieValid (withNoise s.te.ks.tieOut noise) = false → (engxOf t (tieReceiver s)).bank = (engxOf s (tieReceiver s)).bank ∧
        t.te.ks.crcErrors = satU 16 (s.te.ks.crcErrors + 1))) ∧
  (∀ s : State, engLive s (1 - ctl s) = true → 64 ≤ (engxOf s (1 - ctl s)).silent → 4 ≤ (engxOf s (1 - ctl s)).health →
    ∃ t, exec .wallTieSilence s = .next t ∧ keepsBut [.te, .host, .msi, .mb, .pc] s t ∧
      ((engxOf t (1 - ctl s)).health = 2 ∨ (engxOf t (1 - ctl s)).health = 1))) ∧
  ((∀ (views : List (Fin 32 × Int × Int)) (s : State), (parV s 0x42).toNat ≤ s.te.ks.disagree → bothLive s = true →
    ∃ t, exec (.arbitration views) s = .next t ∧ keepsBut [.te, .host, .msi, .mb, .pc] s t ∧ t.te.ks.disagreeAlarm = true ∧
      t.te.ks.arbitrating = true ∧ t.te.ks.disagree = 0 ∧
      ((engxOf t (heldAtFault views s).1.val).health = 2 ∨ (engxOf t (heldAtFault views s).1.val).health = 1) ∧
      vget t.pc.kinds 13 0 = satU 32 (vget s.pc.kinds 13 0 + 1)) ∧
  (∀ (e : EngIx) (diff : Int) (s : State), engLive s e.val = true →
    ∃ t, exec (.dcoRangeCheck e diff) s = .next t ∧ keepsBut [.te, .msi] s t ∧
      (absQ (diff : Rat) ≤ (281474976710656 : Rat) / 100000000000 → |(engOf s e.val).y| ≤ parE s 0x27 e.val →
        vget (engxOf t e.val).fails 0 9 = 0) ∧
      ((281474976710656 : Rat) / 100000000000 < absQ (diff : Rat) →
        vget (engxOf t e.val).fails 0 0 = vget (engxOf s e.val).fails 0 0 + 1)) ∧
  (∀ (e : EngIx) (pass : Bool) (s : State), engLive s e.val = true →
    ∃ t, exec (.converterCodeCheck e pass) s = .next t ∧ keepsBut [.te, .msi] s t ∧
      vget (engxOf t e.val).fails 2 9 = if pass then 0 else vget (engxOf s e.val).fails 2 0 + 1) ∧
  (∀ (e : EngIx) (s : State), (engxOf s e.val).health = 6 →
    let after := wouldAccept s (basesNow s) s.te.ks.pref
      (if e.val = 0 then (7, (engxOf s 1).health) else ((engxOf s 0).health, 7))
    (s.te.ks.control = none ∨ after = s.te.ks.control →
      ∃ t, exec (.engineWtrExpiry e) s = .next t ∧ keepsBut [.te, .host, .msi, .mb, .pc] s t ∧ (engxOf t e.val).health = 7) ∧
    (∀ a c : Fin 2, after = some a → s.te.ks.control = some c → a ≠ c → s.te.ks.disagree = 0 → s.te.ks.align = none →
      ∃ t, exec (.engineWtrExpiry e) s = .next t ∧ keepsBut [.te, .msi] s t ∧ t.te.ks.align = some .reclaim ∧
        t.te.ks.alignTo = a ∧ t.te.ks.control = some c)) ∧
  (∀ (e : EngIx) (s : State), (engxOf s e.val).health = 2 → (engxOf s e.val).agreeSince ≠ none →
    (checksOf s e.val).all (fun k => decide (1 ≤ vget (engxOf s e.val).passes k 0)) = true →
    ∃ t, exec (.faultRecoveryAgree e) s = .next t ∧ keepsBut [.te, .host, .msi, .mb, .pc] s t ∧ (engxOf t e.val).health = 6)) ∧
  ((∀ s : State, s.te.ks.align ≠ none → 8 ≤ s.te.ks.alignOk →
    ∃ t, exec .alignmentComplete s = .next t ∧ keepsBut [.te, .msi] s t ∧ t.te = { s.te with ks := { s.te.ks with alignDone := true } }) ∧
  (∀ (why : AlignWhy) (s : State), s.te.ks.align = some why → why ≠ .powerDown → 64 ≤ s.te.ks.alignCyc → s.te.ks.alignDone = false →
    ∃ t, exec .alignmentTimeout s = .next t ∧ keepsBut [.te, .host, .msi, .mb, .pc] s t ∧ t.te.ks.align = none ∧
      (engxOf t s.te.ks.alignTo.val).health = 5) ∧
  (∀ (e : EngIx) (s : State), (engxOf s e.val).on = true → (engxOf s e.val).booting = true → mayStart s e.val = true →
    ∃ t, exec (.engineSlewDone e) s = .next t ∧ keepsBut [.te, .msi] s t ∧ (engxOf t e.val).booting = false ∧
      (engxOf t e.val).silent = 0 ∧ (engxOf t e.val).health = (engxOf s e.val).health))

/-! ### Time inputs and outputs -/

/-- R174 to R178: a selected edge on an enabled input, with D13 On, an engine in control and the counter as its base, is captured: its
timestamp less the input's delay is appended to the FIFO under the next sequence number. An edge within 2 ns of the last capture, or
one that finds the FIFO full, is counted and appends nothing.

R177, R197: reading EV_POP takes the oldest entry into the timestamp registers, or answers 0 on an empty FIFO; the lost counts and
the no-base count are returned and cleared.

R181, R182: alignment starts a new epoch with the edge as its base; a loss unaligns the base and reports it; a return lets it
realign. -/
def Obligations.TimeInputs : Prop :=
  (∀ (k : Fin 8) (rising : Bool) (at_ : Nat) (tdc : Option TdcSample) (s : State), ioOn s k.val = true →
    (if rising then parN s 0x62 k.val = 1 ∨ parN s 0x62 k.val = 3 else parN s 0x62 k.val = 2 ∨ parN s 0x62 k.val = 3) →
    domOn s 13 = true → s.te.ks.control ≠ none → baseOf s k.val = some false →
    let e := evOf s k.val
    let dead : Prop := ∃ c, e.lastCap = some c ∧ c ≤ at_ ∧ at_ - c < 2 * uNs
    (dead → ∃ t, exec (.eventEdge k rising at_ tdc) s = .next t ∧ keepsBut [.tio, .msi] s t ∧
      (evOf t k.val).fifo = e.fifo ∧ (evOf t k.val).dead = satU 16 (e.dead + 1) ∧ (evOf t k.val).lastCap = e.lastCap) ∧
    (¬ dead → 512 ≤ e.fifo.length → ∃ t, exec (.eventEdge k rising at_ tdc) s = .next t ∧ keepsBut [.tio, .msi] s t ∧
      (evOf t k.val).fifo = e.fifo ∧ (evOf t k.val).overflow = true ∧ (evOf t k.val).full = satU 16 (e.full + 1)) ∧
    (¬ dead → e.fifo.length < 512 → startOf s k.val = none →
      ∃ t, exec (.eventEdge k rising at_ tdc) s = .next t ∧ keepsBut [.tio, .msi] s t ∧
        (evOf t k.val).fifo = e.fifo ++ [{
          value := compactInt ((at_ : Int) - par s 0x63 k.val), rising := rising, tb := false, ivl := false
          afterOvf := e.ovfPending, epoch := 0, seq := (e.entrySeq + 1) % 65536 }] ∧
        (evOf t k.val).lastCap = some at_ ∧ ∀ j, j ≠ k.val → evOf t j = evOf s j)) ∧
  (∀ (who : Initiator) (k : Fin 8) (s : State), answers who s → domOn s 13 = true →
    (∃ t, exec (.evPopRead who k) s = .next t ∧ keepsBut [.tio, .host, .msi] s t ∧
      t.host.rdata[whoIx who] = popWord (evOf s k.val) ∧ (evOf t k.val).fifo = (evOf s k.val).fifo.tail ∧
      (∀ x r, (evOf s k.val).fifo = x :: r → (evOf t k.val).ts = x.value) ∧
      ((evOf s k.val).fifo = [] → t.host.rdata[whoIx who] = 0 ∧ t.tio = s.tio)) ∧
    (∃ t, exec (.evLostRead who k) s = .next t ∧ keepsBut [.tio, .host, .msi] s t ∧
      t.host.rdata[whoIx who] = packW [((evOf s k.val).dead, 16), ((evOf s k.val).full, 0)] ∧
      evOf t k.val = { evOf s k.val with dead := 0, full := 0 }) ∧
    (∃ t, exec (.evNobaseRead who k) s = .next t ∧ keepsBut [.tio, .host, .msi] s t ∧
      t.host.rdata[whoIx who] = BitVec.ofNat 32 (evOf s k.val).noBase ∧ evOf t k.val = { evOf s k.val with noBase := 0 })) ∧
  (∀ s : State, ioOn s 23 = true → domOn s 13 = true →
    (∀ at_ : Nat, s.tio.tdc.aligned = false → s.tio.tdc.out = false →
      ∃ t, exec (.tdcrefAlign at_) s = .next t ∧ keepsBut [.tio, .host, .msi, .mb, .pc] s t ∧ t.tio.tdc.aligned = true ∧
        t.tio.tdc.epoch = (s.tio.tdc.epoch + 1) % 16 ∧ t.tio.tdc.base = (at_ : Rat) + s.tio.tdc.lastOffset.getD 0 ∧
        t.tio.tdc.mark = 0 ∧ t.tio.tdc.present = true ∧ t.tio.tdc.fallen = false ∧ t.tio.ev = s.tio.ev) ∧
    (s.tio.tdc.out = false → ∃ t, exec .tdcrefLoss s = .next t ∧ keepsBut [.tio, .host, .msi, .mb, .pc] s t ∧
      t.tio.tdc.lost = true ∧ t.tio.tdc.out = true ∧ t.tio.tdc.aligned = false ∧ t.tio.tdc.present = false ∧ t.tio.tdc.fallen = parB s 0x6F 23 ∧
      t.tio.tdc.epoch = s.tio.tdc.epoch) ∧
    (s.tio.tdc.out = true → ∃ t, exec .tdcrefRestore s = .next t ∧ keepsBut [.tio, .host, .msi, .mb, .pc] s t ∧
      t.tio.tdc.present = true ∧ t.tio.tdc.out = false ∧ t.tio.tdc.lost = false ∧ t.tio.tdc.aligned = s.tio.tdc.aligned))

/-- R183, R185: at the instant of its next pulse an enabled and supplied trigger output emits it, less its delay, from a time-clock edge
with the rest in the delay line; otherwise the pulse is missed, which counts and flags. R186, R188: a pulse-per-second output
pulses, an aligned clock output starts, where they may.

R190 to R194: a read of word 0 of the Time Tap takes a snapshot of full time, a read of another word drives it; a latch takes one of the instant less the delay, which is
ready later, and a second latch meanwhile sets OVERRUN with that result; the loss and the return of TT_CLK are flagged. -/
def Obligations.TimeOutputs : Prop :=
  ((∀ (j : Fin 8) (e : TrigEntry) (s : State), nextTrig (trigOf s j.val).queue = some e →
    (ioOn s (8 + j.val) = true → tioLive s = true →
      ∃ t, exec (.triggerPulse j) s = .next t ∧ keepsBut [.tio, .msi] s t ∧
        (trigOf t j.val).pulses = ((trigOf s j.val).pulses + 1) % 65536 ∧
        (trigOf t j.val).last = some ((pulseAt e e.emitted).toNat, e.width) ∧
        (trigOf t j.val).out = some (placePulse s (8 + j.val) (pulseAt e e.emitted) e.width (parB s 0x67 (8 + j.val))) ∧ (trigOf t j.val).missed = (trigOf s j.val).missed) ∧
    (ioOn s (8 + j.val) = false ∨ tioLive s = false →
      ∃ t, exec (.triggerPulse j) s = .next t ∧ keepsBut [.tio, .host, .msi, .mb, .pc] s t ∧
        (trigOf t j.val).missedFlag = true ∧ (trigOf t j.val).missed = (trigOf s j.val).missed + 1 ∧
        (trigOf t j.val).pulses = (trigOf s j.val).pulses)) ∧
  (∀ (j : Fin 2) (k : Int) (s : State), ioOn s (16 + j.val) = true → tioLive s = true →
    (parN s 0x6A (16 + j.val) = 0 ∨ s.clk.tod = .traceable ∨ s.clk.tod = .holdover) →
    (s.clk.now : Int) = k * (uSec : Int) + par s 0x68 (16 + j.val) →
    ∃ t, exec (.ppsOutPulse j) s = .next t ∧ keepsBut [.tio, .msi] s t ∧
      t.tio.pps[j] = some (placePulse s (16 + j.val) (toPs ((s.clk.now : Int) : Rat)) (parN s 0x69 (16 + j.val)) false) ∧
      t.tio.trig = s.tio.trig) ∧
  (∀ (sel width : Nat) (p : Int) (invert : Bool) (s : State),
    let o := placePulse s sel p width invert
    o.edge % 1600 = 0 ∧ o.delay < 1600 ∧ o.edge + o.delay = p - toPs (par s 0x63 sel) ∧ o.fall = o.edge + o.delay + 1600 * width ∧
      o.invert = invert) ∧
  (∀ (c : Fin 4) (s : State), clkoutMay s c.val = true → parB s 0x6D (18 + c.val) = true → s.tio.clkRun[c] = false →
    ∃ t, exec (.clkoutAlignStart c) s = .next t ∧ keepsBut [.tio, .host, .msi, .mb, .pc] s t ∧ t.tio.clkRun[c] = true ∧
      t.tio.clkFirst[c] ≠ none ∧ t.tio.clkPhases[c] = clkPhasesOf s c ∧ t.tio.clkRealign[c] = false ∧ ∀ d : Fin 4, d ≠ c → t.tio.clkRun[d] = s.tio.clkRun[d])) ∧
  (∀ s : State, domOn s 13 = true →
    (∀ (a : Fin 16) (cycle back : Nat), ioOn s 22 = true → s.tio.tap.clkPresent = true →
      let u := tapMod (fun x => { x with refill := max x.refill (min 4 cycle) }) s
      ∃ t, exec (.timeTapWord0Read a cycle back) s = .next t ∧ keepsBut [.tio, .msi] s t ∧ t.tio.tap.latch = s.tio.tap.latch ∧
        (a = 0 → t.tio.tap.snap = vec4 (tapWords u (snapEdge s back)) ∧ t.tio.tap.mirror = snapEdge s back ∧
          t.tio.tap.ttD = t.tio.tap.snap[0]) ∧
        (a ≠ 0 → t.tio.tap.snap = s.tio.tap.snap ∧ t.tio.tap.ttD = tapWord s a)) ∧
    (∀ at_ : Nat, tioLive s = true → ioOn s 22 = true →
      ∃ t, exec (.ttLatch at_) s = .next t ∧ keepsBut [.tio, .msi] s t ∧
        (s.tio.tap.computing = none → t.tio.tap.valid = false ∧
          t.tio.tap.computing = some (tapWords s (((at_ : Int) - par s 0x63 22) % (timeSpan : Int)).toNat)) ∧
        (s.tio.tap.computing ≠ none → t.tio.tap = { s.tio.tap with ignored := true })) ∧
    (∀ w, s.tio.tap.computing = some w → ∃ t, exec .ttLatchResult s = .next t ∧ keepsBut [.tio, .msi] s t ∧
      t.tio.tap.latch = vec4 w ∧ t.tio.tap.valid = true ∧ t.tio.tap.overrun = s.tio.tap.ignored ∧ t.tio.tap.computing = none ∧
      t.tio.tap.seq = (s.tio.tap.seq + 1) % 65536) ∧
    (s.tio.tap.clkAbsent = false → ∃ t, exec .ttClkLost s = .next t ∧ keepsBut [.tio, .host, .msi, .mb, .pc] s t ∧
      t.tio.tap.clkLost = true ∧ t.tio.tap.clkPresent = false ∧ t.tio.tap.clkAbsent = true) ∧
    (s.tio.tap.clkPresent = false → ∃ t, exec .ttClkReturn s = .next t ∧ keepsBut [.tio, .host, .msi, .mb, .pc] s t ∧
      t.tio.tap.clkPresent = true ∧ t.tio.tap.clkAbsent = false ∧ t.tio.tap.refill = 0 ∧ t.tio.tap.clkLost = s.tio.tap.clkLost))

/-! ### Clock synthesis -/

/-- R206, R361: without OSC_IN the Kettle moves to the internal oscillator and the synthesisers that run from OSC_IN lose lock; when it
is back the Kettle returns.

R206: a synthesiser that loses lock sets LOCK_LOST and is logged; the core PLL's loss is a DATA reset with source 5, the management
PLL's a MGMT restart with source 6.

R204, R205: a hop that locks uses the stored band, which becomes the most recently used; one that does not lock within 3 µs turns
into a full search; a search that locks stores its result, of at most eight. With no second request the synthesiser is then locked. -/
def Obligations.ClockSynthesis : Prop :=
  ((∀ s : State, s.ck.present = true → ∃ t, exec .oscInAbsent s = .next t ∧ keepsBut [.clk, .tio, .ck, .msi, .pc] s t ∧
    t.ck.present = false ∧ t.ck.oscLost = true ∧ t.ck.kettleInt = true ∧ t.clk.now = s.clk.now ∧
    ∀ n ∈ oscSyns, (synOf t n).lock = false) ∧
  (∀ s : State, s.ck.present = false → ∃ t, exec .oscInReturn s = .next t ∧ keepsBut [.clk, .tio, .ck, .msi, .pc] s t ∧
    t.ck.present = true ∧ t.ck.kettleInt = false ∧ t.clk.now = s.clk.now ∧ t.ck.oscLost = s.ck.oscLost)) ∧
  (∀ (n : Fin 30) (s : State), (synOf s n.val).lock = true →
    ∃ t, exec (.synthLockLoss n) s = .next t ∧ (synOf t n.val).lockLost = true ∧ t.clk = s.clk ∧ t.par = s.par ∧ t.pending = s.pending ∧
      vget t.pc.kinds 15 0 = satU 32 (vget s.pc.kinds 15 0 + 1) ∧
      (n.val = 0 → s.rst.por = false → s.rst.chip = none → s.rst.data = none → t.rst.data = some 5 ∧ t.rst.lastScope = 2) ∧
      (n.val = 1 → s.rst.por = false → s.rst.chip = none → s.rst.mgmt = none → domOn s 3 = true →
        t.rst.mgmt = some 6 ∧ t.rst.lastScope = 3 ∧ t.mb.fwReady = false) ∧
      (28 ≤ n.val → keepsBut [.ck, .tio, .msi, .pc] s t)) ∧
  (∀ (n : Fin 30) (target : Nat) (s : State),
    ((synOf s n.val).tune = .hop target →
      (∀ b, storedBand s n.val target = some b → (synOf s n.val).second = none →
        ∃ t, exec (.bandHopLock n) s = .next t ∧ keepsBut [.tio, .ck, .wx, .msi] s t ∧ (synOf t n.val).lock = true ∧
          (synOf t n.val).tune = .idle ∧ (synOf t n.val).bands.head? = some b ∧ (synOf t n.val).bandSrc = 1 ∧
          (synOf t n.val).band = b.band) ∧
      (∃ t, exec (.hopMiss n) s = .next t ∧ keepsBut [.ck, .msi, .pc] s t ∧ (synOf t n.val).tune = .search target ∧
        (synOf t n.val).searches = satU 8 ((synOf s n.val).searches + 1))) ∧
    ((synOf s n.val).tune = .search target → (synOf s n.val).second = none → ∀ (band : Nat) (temp : Int),
      ∃ t, exec (.fullSearchLock n band temp) s = .next t ∧ keepsBut [.tio, .ck, .wx, .pins, .msi] s t ∧
        (synOf t n.val).lock = true ∧ (synOf t n.val).tune = .idle ∧ (synOf t n.val).bandSrc = 2 ∧
        (synOf t n.val).bands.head? = some { target := target, band := band % 256, temp := temp } ∧
        (synOf t n.val).bands.length ≤ 8))

/-! ### Calibration and weathering -/

/-- R215, R216: a periodic trim's result inside the fused window comes into force, a delay line's between its pulses, and clears the
tap's flag; outside it the code stays, the flag sets, and the first retry is due after 10 s.

R219 to R228: runs fall due by age or temperature, start when the ring is free, and end accepted or rejected with the first limit they break; too few
hits within 1 s reject with reason 5. Every ended run advances the sequence.

R229, R230: replica measurements of a group whose domain is On are referred and kept, ten at most; when Obilwin updates, the first
full set becomes the base and moves no latency, and a drift of LAT_STEP or more goes into every entry that software does not own. -/
def Obligations.Calibration : Prop :=
  (∀ (tap : Nat) (v : Int) (s : State), tap / 65536 = 1 ∨ tap / 65536 = 5 →
    ∃ t, exec (.trimPeriodic [(tap, v)]) s = .next t ∧ keepsBut [.cal, .msi] s t ∧ t.cal.conv = s.cal.conv ∧
      (Config.trimLow tap ≤ v ∧ v ≤ Config.trimHigh tap → Tbl.get t.cal.flags tap = none ∧ Tbl.get t.cal.trimRetry tap = none ∧
        (trimMoment s tap ≤ s.clk.elapsed → trimCode t tap = v)) ∧
      (v < Config.trimLow tap ∨ Config.trimHigh tap < v → Tbl.get t.cal.flags tap = some () ∧
        (Tbl.get s.cal.trimHeld tap = none → trimCode t tap = trimCode s tap) ∧
        (Tbl.get s.cal.trimRetry tap = none → Tbl.get t.cal.trimRetry tap = some (10, s.clk.elapsed + 10 * uSec)))) ∧
  (∀ (c : Fin 217) (s : State),
    (convMay s c.val = true → (convOf s c.val).running = false →
      (calWanted s c.val = true → ∃ t, exec (.calDue c) s = .next t ∧ keepsBut [.cal, .msi] s t ∧ convOf t c.val = { convOf s c.val with due := true }) ∧
      (0 < (convOf s c.val).retry → ∃ t, exec (.calRetryTimer c) s = .next t ∧ keepsBut [.cal, .msi] s t ∧
        convOf t c.val = { convOf s c.val with due := true })) ∧
    (∀ ratio : Nat × Nat, (convOf s c.val).due = true → convMay s c.val = true →
      (∀ k, k < 217 → convRing k = convRing c.val → (convOf s k).running = false ∧ (k < c.val → (convOf s k).due = false)) →
      ∃ t, exec (.codeDensityStart c ratio) s = .next t ∧ keepsBut [.cal, .msi] s t ∧
        convOf t c.val = { convOf s c.val with due := false, running := true, valid := false }) ∧
    ((convOf s c.val).running = true → ∀ (hits : List Nat) (temp : Int),
      ∃ t, exec (.codeDensityEnd c hits temp) s = .next t ∧ keepsBut [.te, .cal, .host, .msi, .mb, .pc, .pins] s t ∧
        (convOf t c.val).running = false ∧ (convOf t c.val).valid = true ∧ (convOf t c.val).seq = ((convOf s c.val).seq + 1) % 4096 ∧
        (densityReason hits = 0 → (convOf t c.val).accepted = true ∧ (convOf t c.val).lastOk = true ∧ (convOf t c.val).fails = 0 ∧
          (convOf t c.val).cur = (binCentres 0 (binWidths hits)).map ps) ∧
        (densityReason hits ≠ 0 → (convOf t c.val).rejected = true ∧ (convOf t c.val).reason = densityReason hits ∧
          (convOf t c.val).cur = (convOf s c.val).cur)) ∧
    ((convOf s c.val).running = true → ∃ t, exec (.calRunHitsTimeout c) s = .next t ∧ keepsBut [.te, .cal, .host, .msi, .mb, .pc] s t ∧
      (convOf t c.val).rejected = true ∧ (convOf t c.val).reason = 5 ∧ (convOf t c.val).running = false)) ∧
  ((∀ (m : ReplicaMeas) (s : State), m.group < 24 → domOn s (bankOf m.group) = true →
    ∃ t, exec (.replicaMeasure [m] []) s = .next t ∧ keepsBut [.wx, .msi] s t ∧
      (vget t.wx.replica m.group {}).tx.head? =
        some ((m.tx : Rat) - (Config.replicaTc m.group).1 * (((m.temp - groupTRef s m.group : Int) : Rat) / 16)) ∧
      (vget t.wx.replica m.group {}).tx.length ≤ 10) ∧
  (∀ (g : GroupIx) (s : State), obilwinUp s = true → 10 ≤ s.wx.replica[g].tx.length →
    (s.wx.replica[g].txAt = none → ∃ t, exec (.latencyUpdate g) s = .next t ∧ keepsBut [.wx, .msi] s t ∧
      t.wx.replica[g].txAt = some (meanQ s.wx.replica[g].tx)) ∧
    (∀ (a b : Rat) (l k : Nat), s.wx.replica[g].txAt = some a → s.wx.replica[g].rxAt = some b →
      (parV s 0x5A : Rat) ≤ absQ (meanQ s.wx.replica[g].tx - a) → l / 8 = g.val → k < 6 →
      (vget (laneOf s l).lat.sets k {}).source ≠ 4 →
      ∃ t, exec (.latencyUpdate g) s = .next t ∧ keepsBut [.lane, .wx, .msi] s t ∧
        (vget (laneOf t l).lat.sets k {}).txLat = (latEntry s l k).txLat + roundAway (meanQ s.wx.replica[g].tx - a) ∧
        (vget (laneOf t l).lat.sets k {}).rxLat = (latEntry s l k).rxLat + roundAway (meanQ s.wx.replica[g].rx - b) ∧
        (vget (laneOf t l).lat.sets k {}).calSec = secOf s.clk.now)))

/-- R58, R59, R229, R234: a weathering scan starts on a READY awake lane or waits for it; a completed scan's results are written under
the next sequence number. R233: a wide eye gives guard time back in steps of 8 ns.

R231, R510: the core supply moves by one step of 5 mV at a time: upwards while the core's ring lacks margin, up to 850 mV, where
VOLT_MARGIN sets; a reading within 5 mV of the order puts it in force; one that is not is tried once more.

R229, R231, R235: a retention check stores the minimum, and Obilwin sets the retention voltage 50 mV above it; the hourly record is
written with the second, at most 720 of them kept. -/
def Obligations.Weathering : Prop :=
  ((∀ (l : LaneIx) (s : State),
    ((laneOf s l.val).st = .ready → (laneOf s l.val).rxSleep = false →
      ∃ t, exec (.weatherEyeScan l) s = .next t ∧ keepsBut [.lane, .msi] s t ∧ otherLanes l.val s t ∧ (laneOf t l.val).eye.running = true) ∧
    ((laneOf s l.val).st ≠ .ready ∨ (laneOf s l.val).rxSleep = true → ∃ t, exec (.weatherEyeScan l) s = .next t ∧ keepsBut [.wx, .msi] s t ∧
      vget t.wx.scanDue l.val false = true)) ∧
  (∀ (l : LaneIx) (scan : EyeScan) (s : State), (laneOf s l.val).eye.running = true →
    ∃ t, exec (.eyeScanComplete l scan) s = .next t ∧ keepsBut [.lane, .wx, .host, .msi, .mb, .pc] s t ∧ otherLanes l.val s t ∧
      (laneOf t l.val).eye = {
        running := false, valid := true, seq := ((laneOf s l.val).eye.seq + 1) % 4096, width := (eyeResult scan).1, height := (eyeResult scan).2 }) ∧
  (∀ (p : PortIx) (w : Rat) (s : State), narrowest s p.val = some w → obilwinUp s = true → (parV s 0x5E : Rat) + 50 < w →
    ∃ t, exec (.guardRelease p) s = .next t ∧ keepsBut [.wx, .msi] s t ∧ vget t.wx.guard p.val 0 = vget s.wx.guard p.val 0 - 8 ∧
      t.wx.permitted = s.wx.permitted)) ∧
  ((∀ s : State, obilwinUp s = true → s.rst.data = none → domOn s 10 = true → s.wx.rings[10] < 1000 + (parV s 0x5F).toNat →
    ∃ t, exec .coreVoltageAdjust s = .next t ∧ keepsBut [.wx, .pins, .msi] s t ∧ t.wx.target = s.wx.target ∧
      (s.wx.target + 5 ≤ 850 → t.pins.vout = s.wx.target + 5) ∧
      (850 < s.wx.target + 5 → t.wx.voltMargin = true ∧ t.pins = s.pins)) ∧
  (∀ (mv : Nat) (s : State), obilwinUp s = true → s.pins.vout ≠ 0 →
    (mv ≤ s.pins.vout + 5 → s.pins.vout ≤ mv + 5 → ∃ t, exec (.voutReadback mv) s = .next t ∧ keepsBut [.wx, .pins, .msi] s t ∧
      t.wx.target = s.pins.vout ∧ t.wx.voltMargin = s.wx.voltMargin) ∧
    (s.pins.vout + 5 < mv ∨ mv + 5 < s.pins.vout → ∃ t, exec (.voutReadback mv) s = .next t ∧ keepsBut [.wx, .pins, .msi] s t ∧
      t.wx.target = s.wx.target ∧ (s.pins.voutRetried = false → t.pins.voutRetried = true ∧ t.wx = s.wx) ∧
      (s.pins.voutRetried = true → t.wx.voltMargin = true ∧ t.pins.vout = s.wx.target)))) ∧
  ((∀ (d : Fin 14) (k minimum : Nat) (s : State), retIndex d.val = some k →
    ∃ t, exec (.retentionCheck d minimum) s = .next t ∧ keepsBut [.wx, .msi] s t ∧ vget t.wx.retMin k 0 = minimum ∧
      (obilwinUp s = true → vget t.wx.retVolt k 0 = minimum + 50) ∧ (obilwinUp s = false → t.wx.retVolt = s.wx.retVolt)) ∧
  (∀ (flashOk : Bool) (s : State), obilwinUp s = true →
    ∃ t, exec (.weatherRecord flashOk) s = .next t ∧ keepsBut [.wx, .host, .msi, .mb, .pc] s t ∧
      t.wx.hourly.head?.map (fun r => r.sec) = some (secOf s.clk.now) ∧ t.wx.hourly.length ≤ 720 ∧
      t.wx.historyLost = (s.wx.historyLost || !flashOk)))

/-! ### Ports and MACs -/

/-- R243, R248, R366: a port whose conditions hold comes UP, and preemption starts again with it; an Energy-Efficient Ethernet
port advertises wake times of 40 µs; a port whose conditions do not hold stays.

R243, R254, R334: an UP port that loses its link enters HOLD, or with a LINK_HOLD of 0 goes straight to DOWN, with the cause
of the loss; its pause state and its delay are gone, its adjacency is down, and in HOLD its virtual output queues keep their
frames.

R243, R254: when LINK_HOLD has elapsed a port in HOLD flushes what it holds and is DOWN with FLUSHED, the recovery counted
and logged.

R241, R243, R384: Clause 73 negotiation completes only with a peer that offers the mode's ability, with FEC where either end asks
for it (the latter PRESUMED, log entry 45); block lock and alignment clear the
faults; the link-up timeout resets the port's lanes, keeps their trained coefficients, restarts negotiation and leaves the port
DOWN. -/
def Obligations.PortStates : Prop :=
  (∀ (p : PortIx) (s : State),
    (linkReady s p.val = false → exec (.portLinkUp p) s = .next (settle s)) ∧
    (portUsed s p.val = true → portInReset s p.val = false → ((portOf s p.val).st = .down ∨ (portOf s p.val).st = .hold) →
      (portOf s p.val).admin = true → lanesReady s p.val = true → (portOf s p.val).aligned = true →
      (portOf s p.val).localFault = false → (portOf s p.val).remoteFault = false →
      ((portOf s p.val).anDone = true ∨ anRuns s p.val = false) →
      ∃ t, exec (.portLinkUp p) s = .next t ∧ keepsBut [.lane, .group, .port, .cal, .fab, .host, .msi, .mb, .pc] s t ∧
        otherPorts p.val s t ∧ (portOf t p.val).st = .up ∧
        (portOf t p.val).dllWake = (if eeeKind s p.val = 0 then none else some (40, 40)) ∧ (portOf t p.val).ld = (portOf s p.val).ld ∧
        (portOf t p.val).pre.active = (parB s 0x109 p.val && !parB s 0x10A p.val) ∧
        (portOf t p.val).pre.verify = if parB s 0x109 p.val then (if parB s 0x10A p.val then 1 else 4) else 0)) ∧
  (∀ (p : PortIx) (cause : LossCause) (s : State), portUsed s p.val = true → (portOf s p.val).st = .up →
    (cause = .laneNotReady → lanesReady s p.val = false) →
    ∃ t, exec (.portLinkLoss p cause) s = .next t ∧ keepsBut [.lane, .group, .port, .cal, .fwd, .q, .fab, .host, .msi, .mb, .pc] s t ∧
      (portOf t p.val).st = (if parN s 0x114 p.val = 0 then PortSt.down else PortSt.hold) ∧
      (portOf t p.val).downCause = (match cause with | .lock => 1 | .localFault => 2 | .remoteFault => 3 | .laneNotReady => 5) ∧
      (portOf t p.val).pause.paused = Vector.replicate 8 false ∧ (portOf t p.val).ld.dstate = 0 ∧
      (vget t.fab.adj p.val {}).st = .down ∧
      (parN s 0x114 p.val ≠ 0 → ∀ g c, voqOf t g p.val c = voqOf s g p.val c)) ∧
  (∀ (p : PortIx) (s : State), (portOf s p.val).st = .hold →
    ∃ t, exec (.linkHoldExpiry p) s = .next t ∧ keepsBut [.lane, .group, .port, .cal, .fwd, .q, .fab, .host, .msi, .mb, .pc] s t ∧
      (portOf t p.val).st = .down ∧ (portOf t p.val).flushed = true ∧ (portOf t p.val).downCause = (portOf s p.val).downCause ∧
      (∀ g c, g < 24 → c < 8 → (voqOf t g p.val c).frames = []) ∧
      vget t.pc.kinds 8 0 = satU 32 (vget s.pc.kinds 8 0 + 1)) ∧
  ((∀ (p : PortIx) (peer : List Nat) (fec : Bool) (pause : Nat) (s : State), portUsed s p.val = true → portInReset s p.val = false →
    anRuns s p.val = true → ((portOf s p.val).st = .down ∨ (portOf s p.val).st = .hold) →
    let m := modeOf s (p.val / 8)
    (m ≠ 1 → m ∉ peer → exec (.anComplete p peer fec pause) s = .next (settle s)) ∧
    (m = 1 ∨ m ∈ peer →
      ∃ t, exec (.anComplete p peer fec pause) s = .next t ∧ keepsBut [.lane, .port, .msi] s t ∧ otherPorts p.val s t ∧
        (portOf t p.val).anDone = true ∧ (portOf t p.val).st = (portOf s p.val).st ∧
        (m = 3 → (portOf t p.val).anFec = some (parB s 0x101 p.val || fec)) ∧
        (m = 1 → (portOf t p.val).anPause = pause))) ∧
  (∀ (p : PortIx) (s : State), portUsed s p.val = true → lanesReady s p.val = true →
    ∃ t, exec (.pcsAlignmentLock p) s = .next t ∧ keepsBut [.port, .msi] s t ∧ otherPorts p.val s t ∧
      portOf t p.val = { portOf s p.val with aligned := true, localFault := false, remoteFault := false }) ∧
  (∀ (p : PortIx) (s : State), portUsed s p.val = true → (portOf s p.val).st = .down →
    ∃ t, exec (.linkUpTimeout p) s = .next t ∧ keepsBut [.te, .lane, .group, .port, .cal, .fwd, .q, .fab, .host, .msi, .mb, .pc] s t ∧
      (portOf t p.val).st = .down ∧ (portOf t p.val).anDone = false ∧
      vget t.pc.kinds 5 0 = satU 32 (vget s.pc.kinds 5 0 + 1) ∧
      ∀ l ∈ lanesOf s p.val, l < 192 → (laneOf t l).st = .off ∧ (laneOf t l).goodTaps = (laneOf s l).goodTaps))

/-- R60, R243: low-power idle puts the receive direction to sleep and its end wakes it, on a port that stays UP; with fast wake the
lanes stay as they are.

R244, R257: a frame that passes every check counts as good with its octets, its destination and its size; one shorter than 64
bytes counts as a fragment, one with a bad FCS as an FCS error, and neither counts as good.

R245 to R249, R257, R296: the MAC begins the first frame that may begin, in the express or the preemptable transmitter, an
express one interrupting a preemptable one, where the frame's edited bytes fit MAX_FRAME; when it has left, the transmitter is
free and the frame counts as sent.

R257: a read of MAC_SNAP copies the port's live counters into its snapshot, clears them and returns the new sequence number;
PG_STAT_SNAP does so for every used port of its mask, and for no other. -/
def Obligations.FramesAtPorts : Prop :=
  (∀ (p : PortIx) (on : Bool) (s : State), (portOf s p.val).st = .up → eeeKind s p.val ≠ 0 →
    ∃ t, exec (.lowPowerIdle p on) s = .next t ∧ keepsBut [.lane, .port, .cal, .msi] s t ∧ otherPorts p.val s t ∧
      portOf t p.val = { portOf s p.val with lowPower := on } ∧
      (eeeKind s p.val = 1 → ∀ l ∈ lanesOf s p.val, l < 192 → (laneOf t l).rxSleep = on) ∧
      (eeeKind s p.val = 2 → t.lane = s.lane)) ∧
  (∀ (p : PortIx) (fid : Nat) (fin : RxEnd) (s : State), (portOf s p.val).st = .up → fin.reasmBad = false →
    ∃ t, exec (.frameReceive p fid fin) s = .next t ∧ keepsBut [.port, .q, .msi] s t ∧ (portOf t p.val).st = .up ∧
      (portOf t p.val).snap = (portOf s p.val).snap ∧
      (64 ≤ fin.len → fin.len ≤ parN s 0x106 p.val → fin.pcsBad = false → fin.fcsBad = false →
        vget (portOf t p.val).live 1 0 = (vget (portOf s p.val).live 1 0 + 1) % 2 ^ 64 ∧
        vget (portOf t p.val).live 0 0 = (vget (portOf s p.val).live 0 0 + fin.len) % 2 ^ 64 ∧
        vget (portOf t p.val).live (2 + castOf fin.da) 0 = (vget (portOf s p.val).live (2 + castOf fin.da) 0 + 1) % 2 ^ 64 ∧
        vget (portOf t p.val).live (sizeBucket fin.len) 0 = (vget (portOf s p.val).live (sizeBucket fin.len) 0 + 1) % 2 ^ 64 ∧
        vget (portOf t p.val).live 5 0 = vget (portOf s p.val).live 5 0) ∧
      (fin.len < 64 → vget (portOf t p.val).live 6 0 = (vget (portOf s p.val).live 6 0 + 1) % 2 ^ 64 ∧
        vget (portOf t p.val).live 1 0 = vget (portOf s p.val).live 1 0) ∧
      (64 ≤ fin.len → fin.len ≤ parN s 0x106 p.val → fin.pcsBad = false → fin.fcsBad = true →
        vget (portOf t p.val).live 5 0 = (vget (portOf s p.val).live 5 0 + 1) % 2 ^ 64 ∧
        vget (portOf t p.val).live 1 0 = vget (portOf s p.val).live 1 0)) ∧
  ((∀ (p : PortIx) (express : Bool) (tx : TxStamp) (e : EgFrame) (o : OutCopy) (s : State), macMay s p.val express = true →
    nextFrame s p.val express = some e → e.desc.outs.find? (fun x => x.port == p.val) = some o →
    e.desc.trunc = false → e.desc.bad = false →
    (egressBytes s p.val e.desc o (txStamp s p.val tx).floor).1.length + 4 ≤ parN s 0x106 p.val →
    ∃ t, exec (.egressFrameStart p express tx) s = .next t ∧ keepsBut [.port, .q, .msi, .pc] s t ∧ otherPorts p.val s t ∧
      (∃ f : TxFrame, (if express then (portOf t p.val).tx.express else (portOf t p.val).tx.preempt) = some f ∧ f.desc = e.desc ∧
        f.bytes = (egressBytes s p.val e.desc o (txStamp s p.val tx).floor).1 ∧ f.corrupt = e.crcBad) ∧
      (express = true → (portOf s p.val).tx.preempt.isSome = true → (portOf t p.val).tx.cut = true) ∧
      ∀ g, g ≠ p.val / 8 → outGrp t g = outGrp s g) ∧
  (∀ (p : PortIx) (f : TxFrame) (s : State), (portOf s p.val).tx.express = some f → f.desc.cls ≠ 8 → f.desc.hostTx = none →
    f.desc.trunc = false → f.corrupt = false →
    ∃ t, exec (.egressFrameDone p true) s = .next t ∧ keepsBut [.port, .msi] s t ∧ otherPorts p.val s t ∧
      (portOf t p.val).tx.express = none ∧ (portOf t p.val).tx.preempt = (portOf s p.val).tx.preempt ∧
      vget (portOf t p.val).live 21 0 = (vget (portOf s p.val).live 21 0 + 1) % 2 ^ 64 ∧
      vget (portOf t p.val).live 20 0 = (vget (portOf s p.val).live 20 0 + (f.bytes.length + 4)) % 2 ^ 64) ∧
  (∀ (p : PortIx) (f : TxFrame) (s : State), (portOf s p.val).tx.express = none → (portOf s p.val).tx.preempt = some f →
    (portOf s p.val).tx.cut = false → f.desc.hostTx = none → f.desc.trunc = false → f.corrupt = false →
    ∃ t, exec (.egressFrameDone p false) s = .next t ∧ keepsBut [.port, .msi] s t ∧ otherPorts p.val s t ∧
      (portOf t p.val).tx.preempt = none ∧ (portOf t p.val).tx.express = none ∧
      vget (portOf t p.val).live 21 0 = (vget (portOf s p.val).live 21 0 + 1) % 2 ^ 64)) ∧
  ((∀ (who : Initiator) (p : PortIx) (s : State), answers who s → domOn s (regOwner (.mac p.val 1)).1 = true →
    ownerInReset s (.mac p.val 1) = false → regAt s (0x400004 + p.val / 8 * 0x10000 + p.val % 8 * 0x400) = .mac p.val 1 →
    ∃ t, exec (.macSnapRead who p) s = .next t ∧ keepsBut [.port, .host, .msi] s t ∧ otherPorts p.val s t ∧
      (portOf t p.val).snap = (portOf s p.val).live ∧ (portOf t p.val).live = Vector.replicate 32 0 ∧
      (portOf t p.val).snapSeq = ((portOf s p.val).snapSeq + 1) % 65536 ∧
      t.host.rdata[whoIx who] = packW [(1, 31), ((portOf t p.val).snapSeq, 0)]) ∧
  (∀ (g : GroupIx) (v : Word) (s : State), answers .host s → domOn s (regOwner (.pgSnap g.val)).1 = true →
    ownerInReset s (.pgSnap g.val) = false →
    ∃ t, exec (.pgStatSnapWrite g v) s = .next t ∧ keepsBut [.port, .msi] s t ∧
      ∀ p, p < 192 →
        (p / 8 = g.val ∧ v.getLsbD (p % 8) = true ∧ portUsed s p = true →
          (portOf t p).snap = (portOf s p).live ∧ (portOf t p).live = Vector.replicate 32 0) ∧
        (¬(p / 8 = g.val ∧ v.getLsbD (p % 8) = true ∧ portUsed s p = true) → portOf t p = portOf s p)))

/-- R251: a good pause in PAUSE mode holds TC0 to TC7 for its quanta, and with time zero resumes them, but for the classes in
recovery from the watchdog; in PFC mode a priority holds the class PFC_MAP gives it and no other; in OFF mode nothing is held. A
pause with a bad FCS is not acted on.

R251 to R253: the pause timer and the watchdog resume a class (all classes in PAUSE mode); the watchdog ignores pause for it,
counts and logs until PAUSE_RECOVERY ends; a pause sent is repeated while the count stays above XON.

R248: verification is tried three times, then FAILED with preemption off; a response makes preemption active with the peer's
fragment size. -/
def Obligations.PauseAndPreemption : Prop :=
  (∀ (p : PortIx) (pfc : Bool) (quanta : List Nat) (i : Fin 8) (s : State), (portOf s p.val).st = .up →
    (∃ t, exec (.pauseReceive p pfc (BitVec.ofNat 8 (2 ^ i.val)) quanta true) s = .next t ∧ keepsBut [.port, .msi] s t ∧
      otherPorts p.val s t ∧ (portOf t p.val).pause = (portOf s p.val).pause ∧
      vget (portOf t p.val).live 5 0 = (vget (portOf s p.val).live 5 0 + 1) % 2 ^ 64 ∧
      vget (portOf t p.val).live 9 0 = vget (portOf s p.val).live 9 0) ∧
    (∃ t, exec (.pauseReceive p pfc (BitVec.ofNat 8 (2 ^ i.val)) quanta false) s = .next t ∧ keepsBut [.port, .msi] s t ∧
      otherPorts p.val s t ∧ vget (portOf t p.val).live 9 0 = (vget (portOf s p.val).live 9 0 + 1) % 2 ^ 64 ∧
      (par s 0x10E p.val = 0 → (portOf t p.val).pause = (portOf s p.val).pause) ∧
      (par s 0x10E p.val = 1 → pfc = false → ∀ c : Fin 8,
        ((portOf s p.val).pause.wdIgnore[c] = false → (portOf t p.val).pause.paused[c] = (quanta.getD 0 0 % 65536 != 0) ∧
          (portOf t p.val).pause.quanta[c] = quanta.getD 0 0 % 65536) ∧
        ((portOf s p.val).pause.wdIgnore[c] = true → (portOf t p.val).pause.paused[c] = (portOf s p.val).pause.paused[c])) ∧
      (par s 0x10E p.val = 2 → pfc = true → ∀ c : Fin 8,
        (c.val = bits (parN s 0x10F p.val) (3 * i.val) 3 → (portOf s p.val).pause.wdIgnore[c] = false →
          (portOf t p.val).pause.paused[c] = (quanta.getD i.val 0 % 65536 != 0)) ∧
        (c.val ≠ bits (parN s 0x10F p.val) (3 * i.val) 3 →
          (portOf t p.val).pause.paused[c] = (portOf s p.val).pause.paused[c])))) ∧
  (∀ (p : PortIx) (c : Fin 8) (s : State),
    ((portOf s p.val).pause.paused[c] = true →
      ∃ t, exec (.pauseTimerExpiry p c) s = .next t ∧ keepsBut [.port, .msi] s t ∧ otherPorts p.val s t ∧
        (portOf t p.val).pause.paused[c] = false ∧ (portOf t p.val).pause.held[c] = false ∧
        (par s 0x10E p.val ≠ 1 → ∀ k : Fin 8, k ≠ c → (portOf t p.val).pause.paused[k] = (portOf s p.val).pause.paused[k]) ∧
        (par s 0x10E p.val = 1 → ∀ k : Fin 8, (portOf t p.val).pause.paused[k] = false)) ∧
    ((portOf s p.val).pause.paused[c] = true → 0 < parN s 0x110 p.val →
      ∃ t, exec (.pauseWdExpiry p c) s = .next t ∧ keepsBut [.port, .host, .msi, .mb, .pc] s t ∧ otherPorts p.val s t ∧
        (portOf t p.val).pause.paused[c] = false ∧ (portOf t p.val).pause.wdIgnore[c] = true ∧
        (portOf t p.val).pause.wdEvent = true ∧ vget t.pc.kinds 6 0 = satU 32 (vget s.pc.kinds 6 0 + 1) ∧
        vget (portOf t p.val).live 31 0 = (vget (portOf s p.val).live 31 0 + 1) % 2 ^ 64) ∧
    ((portOf s p.val).pause.wdIgnore[c] = true →
      ∃ t, exec (.pauseRecoveryEnd p c) s = .next t ∧ keepsBut [.port, .msi] s t ∧ otherPorts p.val s t ∧
        (portOf t p.val).pause.wdIgnore[c] = false ∧ (portOf t p.val).pause.wdEvent = (portOf s p.val).pause.wdEvent) ∧
    ((portOf s p.val).st = .up → vget (portOf s p.val).pause.xoff (pauseCls s p.val c.val) false = true →
      (parC s 0x113 p.val (pauseCls s p.val c.val)).toNat < fillOf s p.val (pauseCls s p.val c.val) →
      ∃ t, exec (.pauseRepeat p c) s = .next t ∧ keepsBut [.port, .msi] s t ∧ otherPorts p.val s t ∧
        (portOf t p.val).pause = { (portOf s p.val).pause with
          sent := (pauseMask s p.val (pauseCls s p.val c.val), 0xFFFF) :: (portOf s p.val).pause.sent
          wire := pauseFrame s p.val (pauseMask s p.val (pauseCls s p.val c.val)) 0xFFFF :: (portOf s p.val).pause.wire })) ∧
  (∀ (p : PortIx) (frag : Fin 4) (s : State), (portOf s p.val).pre.verify = 1 →
    (∃ t, exec (.preemptVerifyTimer p) s = .next t ∧ keepsBut [.port, .msi] s t ∧ otherPorts p.val s t ∧
      ((portOf s p.val).pre.attempts < 3 → (portOf t p.val).pre.verify = 1 ∧
        (portOf t p.val).pre.attempts = (portOf s p.val).pre.attempts + 1 ∧
        (portOf t p.val).pre.active = (portOf s p.val).pre.active) ∧
      (3 ≤ (portOf s p.val).pre.attempts → (portOf t p.val).pre.verify = 3 ∧ (portOf t p.val).pre.active = false)) ∧
    (∃ t, exec (.preemptVerifyResponse p frag) s = .next t ∧ keepsBut [.port, .msi] s t ∧ otherPorts p.val s t ∧
      (portOf t p.val).pre.verify = 2 ∧ (portOf t p.val).pre.active = true ∧ (portOf t p.val).pre.peerFrag = frag.val))

/-! ### Forwarding, queues and crossbar -/

/-- R260 to R297: a frame without a stream context whose destination the L2 database gives another used standard port goes to the
end of the port's virtual output queue of its class, with that one output, where the queue has room, no drop profile applies and
the slice has room.

R262, R263: a link-local frame is never forwarded; on a standard port a frame whose VID has no entry is dropped as
VID_INVALID, and nothing is learned from it. -/
def Obligations.ForwardingDecisions : Prop :=
  (∀ (p : PortIx) (f : RxFrame) (v : VidEntry) (q : Nat) (s : State),
    portUp s p.val = true → kindFab s p.val = false → (portOf s p.val).ended.find? (fun e => e.1 == f.fid) = none →
    f.upsets = [] → f.trunc = false → f.bytes.length + 4 ≤ parN s 0x106 p.val →
    takenAside s p.val f.bytes = false → linkLocal f.bytes = false →
    let x := findCtx s p.val f.bytes (parseFrame s p.val f.bytes)
    x.drop = none → x.cfg = none → x.vent = some v → x.cls < 8 →
    l2Lookup s p.val x.vid (fieldBe f.bytes 0 6) v.flood = .port q → kindFab s q = false →
    (portOf s q).st ≠ .down → (portOf s q).st ≠ .disabled →
    depthOf (voqOf s (p.val / 8) q x.cls).frames < (parGC s 0x188 (p.val / 8) x.cls).toNat →
    16 ≤ profileOf s x.cls x.colour →
    (parG s 0x187 (p.val / 8)).toNat - calUsed s (p.val / 8) + 2048 ≤ cellsFree s (p.val / 8) →
    ∃ t d, exec (.ingressDecision p f) s = .next t ∧ keepsBut [.port, .fwd, .q, .host, .msi, .mb, .pc, .free] s t ∧
      (voqOf t (p.val / 8) q x.cls).frames = (voqOf s (p.val / 8) q x.cls).frames ++ [d] ∧
      d.fid = f.fid ∧ d.bytes = f.bytes ∧ d.port = p.val ∧ d.cls = x.cls ∧ d.outs.map (fun o => o.port) = [q] ∧
      t.q.out = s.q.out) ∧
  ((∀ (p : PortIx) (f : RxFrame) (s : State), linkLocal (if f.trunc || decide (parN s 0x106 p.val < f.bytes.length + 4)
      then (f.bytes ++ le 4 (crc32 f.bytes).toNat).take (parN s 0x106 p.val) else f.bytes) = true → f.upsets = [] →
    ∃ t, exec (.ingressDecision p f) s = .next t ∧ keepsBut [.port, .host, .msi, .pc] s t) ∧
  (∀ (p : PortIx) (f : RxFrame) (s : State),
    portUp s p.val = true → kindFab s p.val = false → (portOf s p.val).ended.find? (fun e => e.1 == f.fid) = none →
    f.upsets = [] → f.trunc = false → f.bytes.length + 4 ≤ parN s 0x106 p.val →
    takenAside s p.val f.bytes = false → linkLocal f.bytes = false →
    Tbl.get s.fwd.hw.vid (vidOf s p.val f.bytes 12) = none → isBad s 3 (vidOf s p.val f.bytes 12) = false →
    (findCtx s p.val f.bytes (parseFrame s p.val f.bytes)).cfg = none →
    ∃ t, exec (.ingressDecision p f) s = .next t ∧ keepsBut [.port, .msi, .pc] s t ∧
      t.pc = (bump (groupEvent (p.val / 8) 2) 1 s).pc))

/-- R273: the sweep removes learned entries that are idle, clears HIT on the other learned ones and leaves static ones.

R280, R281: an entry that the scrubber finds is marked bad, logged and flagged, its contents untouched; Obilwin's repair clears
the mark and puts the golden entry back, touching no other entry. Shown for the VID and the L2 table, whose learned entries have
no golden copy and go. -/
def Obligations.TableCare : Prop :=
  (∀ s : State, obilwinUp s = true → domOn s 10 = true →
    ∃ t, exec .ageingSweep s = .next t ∧ keepsBut [.fwd, .msi] s t ∧
      t.fwd = { s.fwd with hw := { s.fwd.hw with l2 := t.fwd.hw.l2 } } ∧
      ∀ (i : Nat) (e : L2Entry), (i, e) ∈ t.fwd.hw.l2 ↔
        ∃ e₀ : L2Entry, (i, e₀) ∈ s.fwd.hw.l2 ∧ (e₀.static = true ∨ e₀.hit = true) ∧ e = { e₀ with hit := e₀.static && e₀.hit }) ∧
  ((∀ (k : Fin 7) (i : Nat) (s : State), domOn s 10 = true → chipUp s → isBad s k.val i = false →
    ∃ t, exec (.scrubPass [(k, i)]) s = .next t ∧ keepsBut [.fwd, .host, .msi, .mb, .pc] s t ∧
      isBad t k.val i = true ∧ t.fwd.hw = s.fwd.hw ∧ t.fwd.golden = s.fwd.golden ∧ t.fwd.parityEvt = true ∧
      t.fwd.logTable = k.val ∧ t.fwd.logIndex = i ∧ t.fwd.logSeq = (s.fwd.logSeq + 1) % 4096) ∧
  (∀ (i : Nat) (s : State), obilwinUp s = true → domOn s 10 = true → isBad s 3 i = true →
    ∃ t, exec (.parityRepair 3 i) s = .next t ∧ keepsBut [.fwd, .msi] s t ∧ isBad t 3 i = false ∧
      (∀ j, Tbl.get t.fwd.hw.vid j = if j = i then Tbl.get s.fwd.golden.vid i else Tbl.get s.fwd.hw.vid j) ∧
      t.fwd.hw.l2 = s.fwd.hw.l2 ∧ t.fwd.golden = s.fwd.golden) ∧
  (∀ (i : Nat) (s : State), obilwinUp s = true → domOn s 10 = true → isBad s 0 i = true →
    ∃ t, exec (.parityRepair 0 i) s = .next t ∧ keepsBut [.fwd, .msi] s t ∧ isBad t 0 i = false ∧
      (∀ j, Tbl.get t.fwd.hw.l2 j = if j = i then Tbl.get s.fwd.golden.l2 i else Tbl.get s.fwd.hw.l2 j) ∧
      t.fwd.golden = s.fwd.golden))

/-- R291, R302: a match gives every input group at most one output group and every output group at most one input group; where
nothing is queued only the slot is counted; a matched one-cell calendar frame leaves its queue.

R301: at the end of a window a port with more drops than CONG_ON is marked, flagged and counted; a marked port's mark goes after
100 windows in a row without a drop. -/
def Obligations.CrossbarAndCongestion : Prop :=
  (∀ (crcBad : List GroupIx) (s : State), coreRuns s = true →
    ∃ t, exec (.crossbarMatch crcBad) s = .next t ∧ keepsBut [.port, .fwd, .q, .cald, .host, .msi, .pc] s t ∧
      ((matchSlot' (bump 0 2 s)).1.map (fun m => m.inp)).Nodup ∧ ((matchSlot' (bump 0 2 s)).1.map (fun m => m.out)).Nodup ∧
      ((∀ g, (inGrp s g).voq = [] ∧ (inGrp s g).calq = [] ∧ ∀ c, (vget (inGrp s g).mcq c {}).frames = []) →
        t.pc = (bump 0 2 s).pc ∧ t.q = s.q ∧ t.port = s.port) ∧
      (∀ (m : Pair) (d : FrameDesc) (o : OutCopy) (rest : List FrameDesc), (matchSlot' (bump 0 2 s)).1 = [m] → m.lvl = 0 →
        (inGrp s m.inp).calq = d :: rest → d.outs = [o] → 0 < d.len → d.len ≤ 128 → wants m.out d = true →
        (inGrp t m.inp).calq = rest)) ∧
  (∀ s : State, coreRuns s = true →
    ∃ t, exec .congestionWindow s = .next t ∧ keepsBut [.q, .host, .msi, .mb, .pc] s t ∧ t.q.inp = s.q.inp ∧ t.q.out = s.q.out ∧
      t.q.window = s.clk.now / uMs ∧
      ∀ p, p < 192 →
        let c := vget s.q.cong p {}
        let d := vget t.q.cong p {}
        d.drops = 0 ∧
        (c.marked = false → parN s 0x18D p < c.drops → d.marked = true ∧ d.evt = true ∧ d.onsets = (c.onsets + 1) % 65536) ∧
        (c.marked = false → c.drops ≤ parN s 0x18D p → d.marked = false ∧ d.evt = c.evt ∧ d.onsets = c.onsets) ∧
        (c.marked = true → 0 < c.drops → d.marked = true ∧ d.clear = 0 ∧ d.evt = c.evt) ∧
        (c.marked = true → c.drops = 0 → c.clear + 1 < 100 → d.marked = true ∧ d.clear = c.clear + 1) ∧
        (c.marked = true → c.drops = 0 → 100 ≤ c.clear + 1 → d.marked = false ∧ d.evt = true ∧ d.onsets = c.onsets))

/-! ### The calendar -/

/-- R307, R315: a calendar head that waited too long leaves its queue; a slot with a waiting matched frame opens the CAL gate alone
at its START, one without opens its other classes, and at its end TC0 to TC7 are open and CAL is closed.

R317, R318, R322: a matched calendar frame that fits departs: the express transmitter holds it, and the port counts it, and a
shift where a marker group occupied START.

R310, R311, R316, R324: at a course boundary the number advances, exactly the ports whose switch was ordered for that course
change banks, and GUARD is taken up; new settings start the calendar with them.

R324: an installation that a device does not acknowledge is undone before its course: the stream, its context and its record
are gone. -/
def Obligations.TheCalendar : Prop :=
  ((∀ (g : GroupIx) (d : FrameDesc) (rest : List FrameDesc) (s : State), (inGrp s g.val).calq = d :: rest → d.hostTx = none →
    ∃ t, exec (.calWaitExpiry g) s = .next t ∧ keepsBut [.q, .msi, .pc] s t ∧ (inGrp t g.val).calq = rest ∧
      t.pc = (bump 9 1 s).pc ∧ ∀ j, j ≠ g.val → inGrp t j = inGrp s j) ∧
  (∀ (p : PortIx) (start : Nat) (e : SlotEntry) (s : State), s.cald.running = true → portUsed s p.val = true →
    slotAt s p.val start = some e →
    (∃ t, exec (.slotGate p .start start) s = .next t ∧ keepsBut [.port, .msi] s t ∧ otherPorts p.val s t ∧
      (e.ctx ≠ 0 → slotMatched s p.val start = true → ∀ c : Fin 9, (portOf t p.val).gates[c] = (c.val == 8)) ∧
      (slotMatched s p.val start = false → ∀ c : Fin 9, (portOf t p.val).gates[c] = (c.val != 8 && e.gate.testBit c.val))) ∧
    (∃ t, exec (.slotGate p .close start) s = .next t ∧ keepsBut [.port, .msi] s t ∧ otherPorts p.val s t ∧
      ∀ c : Fin 9, (portOf t p.val).gates[c] = (c.val != 8)) ∧
    (∃ t, exec (.slotGate p .guard start) s = .next t ∧ keepsBut [.port, .msi] s t ∧ otherPorts p.val s t ∧
      (e.ctx ≠ 0 → ∀ c : Fin 9, c.val ≠ 8 → (portOf t p.val).gates[c] = false)))) ∧
  (∀ (p : PortIx) (shifted : Bool) (tx : TxStamp) (e : EgFrame) (o : OutCopy) (s : State), portUp s p.val = true →
    (portOf s p.val).tx.express = none → (portOf s p.val).gates[8] = true → firstMatched s p.val = some e →
    e.desc.outs.find? (fun x => x.port == p.val) = some o → e.desc.trunc = false → e.desc.bad = false →
    (egressBytes s p.val e.desc o (txStamp s p.val tx).floor).1.length + 4 ≤ parN s 0x106 p.val →
    ∃ t, exec (.calDeparture p shifted tx) s = .next t ∧ keepsBut [.port, .q, .cald, .msi, .pc] s t ∧ otherPorts p.val s t ∧
      (portOf t p.val).tx.express.map (fun f => f.desc) = some e.desc ∧
      (pcalOf t p.val).sent = ((pcalOf s p.val).sent + 1) % 2 ^ 64 ∧ (pcalOf t p.val).miss = (pcalOf s p.val).miss ∧
      (pcalOf t p.val).shift = (if shifted then ((pcalOf s p.val).shift + 1) % 2 ^ 32 else (pcalOf s p.val).shift)) ∧
  ((∀ s : State, s.cald.running = true → domOn s 10 = true → chipUp s → s.cald.streams = [] →
    ∃ t, exec .courseBoundary s = .next t ∧ keepsBut [.clk, .port, .fwd, .q, .cald, .host, .msi, .mb, .pc] s t ∧
      t.cald.number = courseNow (atCourse s) ∧
      ∀ p, p < 192 →
        (pcalOf t p).guard = (if portUsed s p then guardOf s p else 0) ∧ (pcalOf t p).banks = (pcalOf s p).banks ∧
        ((pcalOf s p).pending = some (courseNow (atCourse s)) →
          (pcalOf t p).active = (pcalOf s p).active + 1 ∧ (pcalOf t p).pending = none) ∧
        ((pcalOf s p).pending ≠ some (courseNow (atCourse s)) →
          (pcalOf t p).active = (pcalOf s p).active ∧ (pcalOf t p).pending = (pcalOf s p).pending)) ∧
  (∀ (len off : Nat) (s : State), s.cald.pending = some (len, off) →
    ∃ t, exec .courseParamApply s = .next t ∧ keepsBut [.clk, .cald, .msi] s t ∧ t.cald.running = true ∧
      t.cald.courseLen = len ∧ t.cald.offset = off ∧ t.cald.pending = none ∧ t.cald.port = s.cald.port)) ∧
  (∀ (id : Nat) (a : Activation) (x : Stream) (s : State), obilwinUp s = true → a.install = true →
    s.cald.acts.find? (fun b => b.stream == id && !b.waiting.isEmpty) = some a →
    s.cald.streams.find? (fun y => y.id == a.stream) = some x →
    ∃ t, exec (.calActivationTimeout id) s = .next t ∧ keepsBut [.fwd, .cald, .mb, .msi] s t ∧
      (∀ y ∈ t.cald.streams, y.id ≠ id) ∧ (∀ b ∈ t.cald.acts, b.stream ≠ id) ∧
      Tbl.get t.fwd.hw.ctx x.ctx = none ∧ Tbl.get t.cald.resv x.resv = none)

/-! ### The Veman fabric -/

/-- R332 to R335: a hello's frame is the header of a link-local one and the 48 bytes of R333, with the port, the serial number, the
serial last heard and the next count; a hello received moves the
adjacency as R334's table says; a dead adjacency is DOWN with DEAD_EVT. Other adjacencies stay.

R336 to R338, R349: an unaddressed device asks through its first addressed neighbour of the cluster, and assigns itself its unit
where there is none; without a grant it asks through the next one. A grant for its serial is taken, a refusal sets CLUSTER_FULL.

R337, R349: the assigner answers a requester's link-local request on its port with the unit it chose, which stays held for the
serial; another neighbour passes the request on to the assigner with its own address and port. A unit whose records have gone for
UNIT_HOLD is held no more.

R333: the 48 bytes of a hello spell it. Which member answers as the assigner is read from R339 and R353 (log entry 44). -/
def Obligations.AdjacenciesAndAddresses : Prop :=
  ((∀ (p : PortIx) (s : State), helloPort s p.val = true → (portOf s p.val).sleep.tx = .awake →
    let h := ownHello s p.val
    ∃ t, exec (.helloSend p) s = .next t ∧ keepsBut [.port, .fab, .msi] s t ∧ otherPorts p.val s t ∧
      (∃ f, (adjOf t p.val).lastSent = some f ∧ f.length = 76 ∧ f.drop 28 = helloBytes h ∧ fieldBe f 0 6 = parN s 0x1C1 0 % 2 ^ 48) ∧
      h.port = p.val ∧ h.serial = ownSerial ∧ h.version = 1 ∧ h.seq = ((adjOf s p.val).helloSeq + 1) % 65536 ∧
      (adjOf t p.val).helloSeq = h.seq ∧ h.nbrSerial = ((adjOf s p.val).hello.map (fun x => x.serial)).getD 0 ∧
      h.sigmaAcc = s.clk.sigmaAcc ∧ (adjOf t p.val).st = (adjOf s p.val).st) ∧
  (∀ (p : PortIx) (frame : List Byte) (s : State), helloPort s p.val = true →
    let h := helloOf frame
    ∃ t, exec (.helloReceive p frame) s = .next t ∧ keepsBut [.port, .fab, .host, .msi, .mb, .pc] s t ∧ (adjOf t p.val).hello = some h ∧
      (∀ q, q ≠ p.val → adjOf t q = adjOf s q) ∧
      (h.version ≠ 1 → (adjOf t p.val).st = .rejected) ∧
      (h.version = 1 → h.serial = ownSerial → (adjOf t p.val).st = .self) ∧
      (h.version = 1 → h.serial ≠ ownSerial → (adjOf s p.val).st = .down → (adjOf t p.val).st = .init) ∧
      (h.version = 1 → h.serial ≠ ownSerial → (adjOf s p.val).st = .init →
        (adjOf t p.val).st = if h.nbrSerial = ownSerial then .twoWay else .init) ∧
      (h.version = 1 → h.serial ≠ ownSerial → (adjOf s p.val).st = .twoWay →
        (adjOf t p.val).st = if h.nbrSerial = ownSerial ∧ (adjOf s p.val).hello.map (fun x => x.serial) = some h.serial then .twoWay
          else .init)) ∧
  (∀ (p : PortIx) (s : State), (adjOf s p.val).st ≠ .down → (adjOf s p.val).suspended = false →
    ∃ t, exec (.helloDeadExpiry p) s = .next t ∧ keepsBut [.fab, .msi] s t ∧ (adjOf t p.val).st = .down ∧
      (adjOf t p.val).deadEvt = true ∧ ∀ q, q ≠ p.val → adjOf t q = adjOf s q)) ∧
  ((∀ s : State, obilwinUp s = true → s.fab.addrValid = false → s.fab.stuck = false →
    (∀ p l, requestPorts s = p :: l →
      ∃ t m, exec .addrRequestStart s = .next t ∧ keepsBut [.port, .fab, .msi] s t ∧ t.fab.reqTries = 1 ∧ t.fab.reqPort = some p ∧
        t.fab.sent = m :: s.fab.sent ∧ m.port = some p ∧ m.kind = 4 ∧ fieldBe m.body 0 8 = ownSerial % 2 ^ 64 ∧ t.fab.addrValid = false) ∧
    (∀ u b, requestPorts s = [] → chooseUnit s ownSerial (unitCfg s) = some (u, b) →
      ∃ t, exec .addrRequestStart s = .next t ∧ keepsBut [.fab, .host, .msi, .mb, .pc] s t ∧ t.fab.addrValid = true ∧
        t.fab.unit = u % 64 ∧ t.fab.zone = s.fab.zone ∧ t.fab.cluster = s.fab.cluster) ∧
    (∀ p l, 0 < s.fab.reqTries → (requestPorts s).filter (fun q => decide ((s.fab.reqPort.getD 0) < q)) = p :: l →
      ∃ t, exec .addrReqRetry s = .next t ∧ keepsBut [.port, .fab, .msi] s t ∧ t.fab.reqPort = some p ∧
        t.fab.reqTries = min 255 (s.fab.reqTries + 1)) ∧
    (∀ (p : PortIx) (src : Nat) (frame : List Byte), let seg := segOf src frame
      seg.count ≤ 1 → fieldBe seg.body 0 8 = ownSerial →
      (fieldBe seg.body 11 1 = 0 → fieldBe seg.body 16 1 < 64 →
        ∃ t, exec (.addrGrantReceive p src frame) s = .next t ∧ keepsBut [.fab, .host, .msi, .mb, .pc] s t ∧ t.fab.addrValid = true ∧
          t.fab.unit = fieldBe seg.body 16 1 ∧ t.fab.clusterFull = s.fab.clusterFull) ∧
      (fieldBe seg.body 11 1 = 1 →
        ∃ t, exec (.addrGrantReceive p src frame) s = .next t ∧ keepsBut [.fab, .host, .msi, .mb, .pc] s t ∧ t.fab.addrValid = false ∧
          t.fab.clusterFull = true)))) ∧
  ((∀ (p : PortIx) (src : Nat) (frame : List Byte) (s : State), let seg := segOf src frame
    obilwinUp s = true → s.fab.addrValid = true → seg.count ≤ 1 → fieldBe seg.body 15 1 = 255 →
    (∀ u b, isAssigner s = true →
      chooseUnit s (fieldBe seg.body 0 8) (if fieldBe seg.body 8 1 = 255 then none else some (fieldBe seg.body 8 1)) = some (u, b) →
      ∃ t m, exec (.addrReqReceive p src frame) s = .next t ∧ keepsBut [.port, .fab, .msi] s t ∧ t.fab.sent = m :: s.fab.sent ∧
        m.port = some p.val ∧ m.kind = 5 ∧
        m.body = addrBody (fieldBe seg.body 0 8) (fieldBe seg.body 8 1) (fieldBe seg.body 9 1) (fieldBe seg.body 10 1) 0 (ownAddr s)
          p.val u b (fieldBe seg.body 18 1) ∧
        (∃ h ∈ t.fab.held, h.serial = fieldBe seg.body 0 8 ∧ h.unit = u)) ∧
    (∀ n a, isAssigner s = false → assigner s = some (n, a) →
      ∃ t m, exec (.addrReqReceive p src frame) s = .next t ∧ keepsBut [.fab, .msi] s t ∧ t.fab.sent = m :: s.fab.sent ∧
        m.port = none ∧ m.dest = a ∧ m.kind = 4 ∧ m.xid = seg.xid ∧ m.body = patch seg.body 12 (be 3 (ownAddr s) ++ be 1 p.val))) ∧
  (∀ (n : Nat) (s : State), obilwinUp s = true → (s.fab.held.filterMap (fun h => h.goneAt)).min? = some n →
    ∃ t, exec .unitHoldExpiry s = .next t ∧ keepsBut [.fab, .msi] s t ∧
      ∀ h, h ∈ t.fab.held ↔ h ∈ s.fab.held ∧ h.goneAt ≠ some n)) ∧
  (∀ h : Hello, helloFits h → helloOf (helloBytes h) = h ∧ (helloBytes h).length = 48)

/-- R342, R355: a newer record is stored as it came, acknowledged, sent on to the scope's other ports, and marks the routes for
computation; one that is held already at its SEQ is only acknowledged; an unknown one beyond the scale is not stored and sets
SCALE_LIMIT.

R342, R349: an acknowledgement clears the port from the records it names at its SEQ and below; a record is sent again on each
two-way port that owes its acknowledgement; a record whose age has run out is discarded, and so is the oldest incomplete message
(R348).

R340, R342: content that differs from the own record of a scope, or has none, is originated with the next SEQ; a refresh
originates every own record that is not withdrawn with the next SEQ.

R343 to R345: the computation writes every route entry that has changed as the database gives it, and counts a run; the entry of a
route with no target or no path is absent. -/
def Obligations.LinkStateRecords : Prop :=
  (∀ (p : PortIx) (src : Nat) (frame : List Byte) (s : State), let seg := segOf src frame
    obilwinUp s = true → helloPort s p.val = true → seg.count ≤ 1 →
    let r := recOf seg.body
    1 ≤ r.scope → r.scope ≤ 3 → r.age < 3600 → r.serial ≠ ownSerial →
    let held := (s.fab.records.map (fun q => q.body)).find? (fun q => sameRec q r)
    ((∀ o, held = some o → newer r o = true) →
      (held = none → (s.fab.records.filter (fun q => q.body.scope == r.scope)).length < scaleOf r.scope) →
      ∃ t, exec (.recordReceive p src frame) s = .next t ∧ keepsBut [.port, .fab, .fabS, .host, .msi, .mb, .pc] s t ∧
        (∃ q ∈ t.fab.records, q.body = r ∧ q.unacked = (scopePorts s r.scope).filter (fun k => k != p.val)) ∧
        (∃ m ∈ t.fab.sent, m.port = some p.val ∧ m.kind = 3 ∧ m.body = ackBody r) ∧
        (∀ k ∈ scopePorts s r.scope, k ≠ p.val → ∃ m ∈ t.fab.sent, m.port = some k ∧ m.kind = 2 ∧ m.body = recBytes r r.age) ∧
        t.fabS.reconv = true) ∧
    (∀ o, held = some o → newer r o = false → r.seq = o.seq →
      ∃ t m, exec (.recordReceive p src frame) s = .next t ∧ keepsBut [.port, .fab, .msi] s t ∧ t.fab.records = s.fab.records ∧
        t.fab.sent = m :: s.fab.sent ∧ m.port = some p.val ∧ m.kind = 3 ∧ m.body = ackBody o) ∧
    (held = none → scaleOf r.scope ≤ (s.fab.records.filter (fun q => q.body.scope == r.scope)).length →
      ∃ t, exec (.recordReceive p src frame) s = .next t ∧ keepsBut [.fab, .fabS, .host, .msi, .mb, .pc] s t ∧
        t.fab.records = s.fab.records ∧ t.fabS.scaleLimit = true)) ∧
  ((∀ (p : PortIx) (src : Nat) (frame : List Byte) (s : State), let seg := segOf src frame
    obilwinUp s = true → seg.count ≤ 1 → seg.body.length = 20 →
    ∃ t, exec (.recordAckReceive p src frame) s = .next t ∧ keepsBut [.fab, .msi] s t ∧
      t.fab = { s.fab with records := s.fab.records.map (fun r =>
        if r.body.scope = fieldBe seg.body 0 1 ∧ r.body.origin = fieldBe seg.body 2 3 % 2 ^ 18 ∧ r.body.serial = fieldBe seg.body 8 8 ∧
            r.body.seq ≤ fieldBe seg.body 16 4
        then { r with unacked := r.unacked.filter (fun q => q != p.val) } else r) }) ∧
  (∀ s : State, obilwinUp s = true →
    ∃ t, exec .recordRetransmit s = .next t ∧ keepsBut [.port, .fab, .msi] s t ∧ t.fab.records = s.fab.records ∧
      ∀ r ∈ s.fab.records, ∀ k ∈ r.unacked, (adjOf s k).st = .twoWay →
        ∃ m ∈ t.fab.sent, m.port = some k ∧ m.kind = 2 ∧ m.body = recBytes r.body (ageOf s r)) ∧
  (∀ (b : Int) (s : State), obilwinUp s = true → (s.fab.records.map (fun r => r.born)).min? = some b →
    ∃ t, exec .recordAgeExpiry s = .next t ∧ keepsBut [.fab, .fabS, .msi] s t ∧ t.fabS.reconv = true ∧
      ∀ r, r ∈ t.fab.records ↔ r ∈ s.fab.records ∧ r.born ≠ b) ∧
  (∀ (n : Nat) (s : State), (s.fab.reasm.map (fun r => r.firstAt)).min? = some n →
    ∃ t, exec .segmentReassemblyTimeout s = .next t ∧ keepsBut [.fab, .msi] s t ∧
      ∀ r, r ∈ t.fab.reasm ↔ r ∈ s.fab.reasm ∧ r.firstAt ≠ n)) ∧
  ((∀ (scope : Nat) (s : State), obilwinUp s = true → s.fab.addrValid = true → 1 ≤ scope → scope ≤ 3 → ownEntries s scope ≠ [] →
    (∀ r, ownRecord s scope = some r → r.entries ≠ ownEntries s scope) →
    ∃ t, exec (.recordOriginate scope) s = .next t ∧ keepsBut [.port, .fab, .fabS, .msi] s t ∧ t.fabS.reconv = true ∧
      vget t.fab.ownSeq scope 0 = (vget s.fab.ownSeq scope 0 + 1) % 2 ^ 32 ∧
      ∃ q ∈ t.fab.records, q.body.scope = scope ∧ q.body.serial = ownSerial ∧ q.body.origin = ownAddr s ∧
        q.body.entries = ownEntries s scope ∧ q.body.seq = (vget s.fab.ownSeq scope 0 + 1) % 2 ^ 32) ∧
  (∀ s : State, obilwinUp s = true → s.fab.addrValid = true →
    ∃ t, exec .recordRefresh s = .next t ∧ keepsBut [.port, .fab, .msi] s t ∧
      ∀ sc, 1 ≤ sc → sc ≤ 3 → ∀ r, ownRecord s sc = some r → withdrawn r = false →
        vget t.fab.ownSeq sc 0 = (vget s.fab.ownSeq sc 0 + 1) % 2 ^ 32)) ∧
  (∀ s : State, obilwinUp s = true → s.fabS.reconv = true → domOn s 10 = true → s.cald.streams = [] →
    ∃ t, exec .spfCompute s = .next t ∧ keepsBut [.fwd, .fab, .fabS, .host, .msi, .mb, .pc] s t ∧
      t.fabS.reconv = false ∧ t.fabS.spfRuns = (s.fabS.spfRuns + 1) % 65536 ∧ t.fab.transit = (s.fab.transit || transitPower s) ∧
      ∀ i, i < 192 → let e := if routeTargets s i = [] then none else routeFor s (hopsOf s) (routeTargets s i)
        Tbl.get t.fwd.golden.route i = e ∧
        Tbl.get t.fwd.hw.route i = if Tbl.get s.fwd.golden.route i = e then Tbl.get s.fwd.hw.route i else e)

/-- R350: a command of a source without state is taken as new with SEQ_RESET, one with the next number as new; a repetition is
answered from the cache with REPLAY.

R351, R352: a relayed command's answer is its result; without one it is sent again, twice, and then ends in TIMEOUT; an
attestation request is answered and its repetition gets the same answer.

R348: the bytes of a segment spell it; a message's segments carry its body in order, 1,024 bytes each but the last. -/
def Obligations.CommandsOverTheFabric : Prop :=
  (∀ (src : Nat) (frame : List Byte) (s : State), let seg := segOf src frame
    obilwinUp s = true → seg.kind = 0 → seg.count ≤ 1 → 16 ≤ seg.body.length →
    execOf s (.remote seg.source seg.xid) = none →
    ((∀ q ∈ s.fab.remotes, q.source ≠ seg.source) →
      ∃ t e q, exec (.remoteCommandReceive src frame) s = .next t ∧ keepsBut [.fab, .mb, .free, .msi] s t ∧
        execOf t (.remote seg.source seg.xid) = some e ∧ e.cmd = { cmdOf seg.body with seqReset := true } ∧
        t.fab.remotes.head? = some q ∧ q.source = seg.source ∧ q.lastSeq = (cmdOf seg.body).hseq) ∧
    (∀ q, s.fab.remotes.find? (fun r => r.source == seg.source) = some q → (cmdOf seg.body).hseq = (q.lastSeq + 1) % 65536 →
      ∃ t e, exec (.remoteCommandReceive src frame) s = .next t ∧ keepsBut [.fab, .mb, .free, .msi] s t ∧
        execOf t (.remote seg.source seg.xid) = some e ∧ e.cmd = { cmdOf seg.body with seqReset := false }) ∧
    (∀ q, s.fab.remotes.find? (fun r => r.source == seg.source) = some q → (cmdOf seg.body).hseq = q.lastSeq →
      q.response ≠ [] →
      ∃ t m, exec (.remoteCommandReceive src frame) s = .next t ∧ keepsBut [.fab, .msi] s t ∧ t.fab.sent = m :: s.fab.sent ∧
        m.dest = seg.source ∧ m.kind = 1 ∧ m.xid = seg.xid ∧ m.body = asReplay q.response)) ∧
  ((∀ (src : Nat) (frame : List Byte) (r : Relay) (e : Exec) (s : State), let seg := segOf src frame
    s.fab.relays.find? (fun q => q.xid == seg.xid && q.target == seg.source) = some r →
    obilwinUp s = true → seg.kind = 1 → seg.count ≤ 1 → r.attest = false → execOf s r.origin = some e →
    ∃ t, exec (.remoteResponseReceive src frame) s = .next t ∧ keepsBut [.fab, .mb, .msi] s t ∧
      execOf t r.origin = some { e with result := some (okRes seg.body), wait := none } ∧ ∀ q ∈ t.fab.relays, q.xid ≠ seg.xid) ∧
  (∀ (r : Relay) (e : Exec) (xid : Nat) (s : State), s.fab.relays.find? (fun q => q.xid == xid) = some r → obilwinUp s = true →
    (r.sends < 3 → r.attest = false → ∃ t m, exec (.remoteRetry xid) s = .next t ∧ keepsBut [.fab, .msi] s t ∧
      t.fab.sent = m :: s.fab.sent ∧ m.dest = r.target ∧ m.xid = xid ∧ m.body = r.body ∧ m.mflags = 1 ∧
      (t.fab.relays.find? (fun q => q.xid == xid)).map (fun q => q.sends) = some (r.sends + 1)) ∧
    (3 ≤ r.sends → exec (.remoteRetry xid) s = .next (settle s)) ∧
    (execOf s r.origin = some e → ∃ t, exec (.remoteTimeoutExpiry xid) s = .next t ∧ keepsBut [.fab, .mb, .msi] s t ∧
      execOf t r.origin = some { e with result := some { status := stTimeout }, wait := none } ∧ ∀ q ∈ t.fab.relays, q.xid ≠ xid)) ∧
  (∀ (src : Nat) (frame : List Byte) (s : State), let seg := segOf src frame
    obilwinUp s = true → seg.kind = 0 → seg.count ≤ 1 →
    ((∀ x b, (connOf s seg.source).last = some (x, b) → x ≠ seg.xid) →
      ∃ t m, exec (.attestRequestReceive src frame) s = .next t ∧ keepsBut [.fab, .boot, .free, .msi] s t ∧ t.fab.sent = m :: s.fab.sent ∧
        m.dest = seg.source ∧ m.type = 3 ∧ m.kind = 1 ∧ m.xid = seg.xid ∧ m.body = (spdmReply seg.source seg.body s).1 ∧
        (connOf t seg.source).last = some (seg.xid, m.body)) ∧
    (∀ b, (connOf s seg.source).last = some (seg.xid, b) →
      ∃ t m, exec (.attestRequestReceive src frame) s = .next t ∧ keepsBut [.fab, .msi] s t ∧ t.fab.sent = m :: s.fab.sent ∧
        m.dest = seg.source ∧ m.kind = 1 ∧ m.body = b))) ∧
  (∀ g : Seg, segFits g → segOf g.source (segBytes g) = g) ∧
  (∀ (xid kind mflags : Nat) (body : List Byte), xid < 2 ^ 16 → kind < 2 ^ 8 → mflags < 2 ^ 8 → body.length ≤ 16384 →
    let l := (segmentsOf xid kind mflags body).map (segOf 0)
    l.flatMap (fun g => g.body) = body ∧ l.length = max 1 ((body.length + 1023) / 1024) ∧
      ∀ g ∈ l, g.xid = xid ∧ g.kind = kind ∧ g.mflags = mflags ∧ g.count = l.length ∧ g.body.length ≤ 1024)

/-! ### The mailbox -/

/-- R410: a doorbell takes an unlocked channel to PENDING and is ignored on a locked one; a word written to an unlocked command
buffer stands there and nowhere else; one to a locked buffer is discarded with WR_DISCARD; a channel is locked while it is PENDING
or EXECUTING. The buffers stay in canonical form. -/
def Obligations.DoorbellsAndBuffers : Prop :=
  ∀ (c : Fin 4) (v : Word) (s : State), answers .host s → ownerInReset s (.mbDoorbell c.val) = false →
    (v.getLsbD 0 = true → (chanOf s c.val).st ≠ .pending → (chanOf s c.val).st ≠ .executing →
      ∃ t, exec (.mbDoorbellRing c v) s = .next t ∧ keepsBut [.mb, .msi] s t ∧
        t.mb = { s.mb with chan := vmodN s.mb.chan c.val (fun x => { x with st := .pending }) }) ∧
    (v.getLsbD 0 = true → ((chanOf s c.val).st = .pending ∨ (chanOf s c.val).st = .executing) →
      ∃ t, exec (.mbDoorbellRing c v) s = .next t ∧ keepsBut [.mb, .msi] s t ∧
        t.mb = { s.mb with chan := vmodN s.mb.chan c.val (fun x => { x with dbIgnored := true }) }) ∧
    (∀ k, k < 1024 → ∃ t, exec (.mbBufferWrite (0x30000 + c.val * 0x1000 + 4 * k) v) s = .next t ∧ keepsBut [.mb, .msi] s t ∧
      (buffersOk s = true → buffersOk t = true) ∧ (∀ d, d ≠ c.val → chanOf t d = chanOf s d) ∧
      (chanLocked s c.val = true → chanOf t c.val = { chanOf s c.val with wrDiscard := true }) ∧
      (chanLocked s c.val = false → chanOf t c.val = { chanOf s c.val with cmdBuf := (chanOf t c.val).cmdBuf } ∧
        ∀ a, Mem.read (chanOf t c.val).cmdBuf a =
          if 4 * k ≤ a ∧ a < 4 * k + 4 then BitVec.ofNat 8 (v.toNat / 2 ^ (8 * (a - 4 * k))) else Mem.read (chanOf s c.val).cmdBuf a)) ∧
    (chanLocked s c.val = true ↔ (chanOf s c.val).st = .pending ∨ (chanOf s c.val).st = .executing)

/-- R411, R414, R415: a pending command is judged by its number: new ones execute, after a loss of state whatever their number;
the last number again gets the cached response with REPLAY; any other number is answered SEQ_ERROR with the number expected, and
leaves the number and the cache.

R416, R417: the response of a command whose work has ended stands in the buffer and in the cache, the channel is DONE with its
number and RESP_EVT; a command past its deadline ends so with TIMEOUT; a doorbell without an acknowledge leaves the channel PENDING
with UNACKED, counted and logged. -/
def Obligations.CommandsAreJudgedAndAnswered : Prop :=
  (∀ (c : Fin 4) (s : State), obilwinUp s = true → (chanOf s c.val).st = .pending →
    let cmd := cmdOf (Mem.readN (chanOf s c.val).cmdBuf 0 4096)
    let last := (chanOf s c.val).lastHSeq
    (((chanOf s c.val).sync = false ∨ cmd.hseq = (last + 1) % 65536) →
      ∃ t e, exec (.mbAcknowledge c) s = .next t ∧ keepsBut [.mb, .msi, .pc, .free] s t ∧ (chanOf t c.val).st = .executing ∧
        (chanOf t c.val).exec = some e ∧ e.cmd = { cmd with seqReset := !(chanOf s c.val).sync } ∧
        (chanOf t c.val).sync = true ∧ (chanOf t c.val).lastHSeq = cmd.hseq ∧
        e.result = firstCheck s (.host c) (Mem.readN (chanOf s c.val).cmdBuf 0 4096) { cmd with seqReset := !(chanOf s c.val).sync } false ∧
        ∀ d, d ≠ c.val → chanOf t d = chanOf s d) ∧
    ((chanOf s c.val).sync = true → cmd.hseq ≠ (last + 1) % 65536 → cmd.hseq = last →
      ∃ t, exec (.mbAcknowledge c) s = .next t ∧ keepsBut [.mb, .msi] s t ∧ (chanOf t c.val).st = .done ∧
        (chanOf t c.val).respHSeq = cmd.hseq ∧ (chanOf t c.val).respEvt = true ∧ (chanOf t c.val).lastHSeq = last ∧
        (chanOf t c.val).rspBuf = Mem.writeAll (chanOf s c.val).rspBuf 0 (asReplay (chanOf s c.val).cached)) ∧
    ((chanOf s c.val).sync = true → cmd.hseq ≠ (last + 1) % 65536 → cmd.hseq ≠ last →
      ∃ t, exec (.mbAcknowledge c) s = .next t ∧ keepsBut [.mb, .msi] s t ∧ (chanOf t c.val).st = .done ∧
        (chanOf t c.val).lastHSeq = last ∧ (chanOf t c.val).cached = (chanOf s c.val).cached ∧
        (chanOf t c.val).rspBuf =
          Mem.writeAll (chanOf s c.val).rspBuf 0 (seqError cmd ((last + 1) % 65536) s.mb.dseq))) ∧
  ((∀ (c : Fin 4) (e : Exec) (r : CmdResult) (s : State), obilwinUp s = true → (chanOf s c.val).exec = some e →
    e.result = some r → e.inProgress = false → e.resetAfter = none → e.d3After = none →
    ∃ t, exec (.mbFinalResponse (.host c)) s = .next t ∧ keepsBut [.mb, .msi] s t ∧ (chanOf t c.val).st = .done ∧
      (chanOf t c.val).respHSeq = e.cmd.hseq ∧ (chanOf t c.val).respEvt = true ∧ (chanOf t c.val).exec = none ∧
      (chanOf t c.val).cached = respBytes e.cmd r (finalFlags e.cmd) s.mb.dseq ∧
      (chanOf t c.val).rspBuf = Mem.writeAll (chanOf s c.val).rspBuf 0 (chanOf t c.val).cached ∧
      (chanOf t c.val).lastHSeq = (chanOf s c.val).lastHSeq ∧ (buffersOk s = true → buffersOk t = true)) ∧
  (∀ (c : Fin 4) (e : Exec) (s : State), obilwinUp s = true → (chanOf s c.val).exec = some e → e.result = none → e.inProgress = false →
    ∃ t, exec (.commandDeadline (.host c)) s = .next t ∧ keepsBut [.fab, .mb, .msi] s t ∧ (chanOf t c.val).st = .done ∧
      (chanOf t c.val).exec = none ∧
      (chanOf t c.val).cached = respBytes e.cmd { status := stTimeout } (finalFlags e.cmd) s.mb.dseq ∧
      (buffersOk s = true → buffersOk t = true)) ∧
  (∀ (c : Fin 4) (s : State), (chanOf s c.val).st = .pending →
    ∃ t, exec (.mbDoorbellAckTimeout c) s = .next t ∧ keepsBut [.mb, .msi, .pc] s t ∧
      chanOf t c.val = { chanOf s c.val with unacked := true } ∧ vget t.pc.kinds 10 0 = satU 32 (vget s.pc.kinds 10 0 + 1)))

/-- R421, R426: a write of MB_EVQ_TAIL releases records; one of MB_EVQ_CTRL sets ENABLE and SIZE and clears the flags it names.

R492: the occurrence that a full counter counts takes it to 0 with OVF; the next counter counts it where it counts carries, and
stays where it does not. -/
def Obligations.EventRingAndCounters : Prop :=
  (∀ (v : Word) (s : State), answers .host s →
    (∃ t, exec (.mbEvqTailWrite v) s = .next t ∧ keepsBut [.mb, .msi] s t ∧ t.mb = { s.mb with evqTail := v.toNat % 4096 }) ∧
    (∃ t, exec (.mbEvqEnable v) s = .next t ∧ keepsBut [.mb, .msi] s t ∧ t.mb = { s.mb with
      evqEnable := v.getLsbD 31, evqSize := bits v.toNat 24 4
      overflow := s.mb.overflow && !v.getLsbD 30, evqEvt := s.mb.evqEvt && !v.getLsbD 29 })) ∧
  (∀ (n : Fin 1024) (s : State), s.pc.pc[n].count = 2 ^ 48 - 1 →
    ∃ t, exec (.counterWrap n) s = .next t ∧ keepsBut [.pc, .msi] s t ∧
      t.pc.pc[n] = { s.pc.pc[n] with count := 0, ovf := true } ∧ t.pc.kinds = s.pc.kinds ∧
      (∀ k : Fin 1024, k.val = n.val + 1 → s.pc.pc[k].event ≠ 0xFFFE → t.pc.pc[k] = s.pc.pc[k]) ∧
      (∀ k : Fin 1024, k.val = n.val + 1 → s.pc.pc[k].event = 0xFFFE → s.pc.pc[k].count ≠ 2 ^ 48 - 1 →
        t.pc.pc[k] = { s.pc.pc[k] with count := s.pc.pc[k].count + 1 }))

/-! ### Power, resets and timeouts -/

/-- R358, R366, R369, R371: a descent ends in its target state, other domains as they were, and is reported; Off takes a lane bank's lanes to
OFF and D10's tables, never Obilwin's golden copies. (No POWER_SET under way and no request queued.)

R359, R368, R372, R282: a raise that is not held ends On; a wake source that raised it is recorded; sleeping lanes of a bank are
READY and out of fusion; D10 from Off takes its tables from the golden copies.

R362, R364, R505, R510: an armed alarm whose instant has come fires, disarms and raises what its mask names below On; the end of L1
wakes D3; THERMTRIP_N goes low; a supply alert is recorded. -/
def Obligations.PowerDomains : Prop :=
  (∀ (d : Fin 14) (s : State), d.val ≠ 0 → s.pm.dom[d].target ≠ .on → s.pm.dom[d].st ≠ s.pm.dom[d].target → inChip s = false →
    s.pm.dom[d].queued = none → (∀ o e todo k, execOf s o = some e → e.wait ≠ some (.power todo k)) →
    ∃ t, exec (.domainLowerComplete d) s = .next t ∧
      keepsBut [.te, .lane, .group, .port, .tio, .ck, .cal, .fwd, .q, .cald, .fab, .pm, .rst, .host, .msi, .mb, .boot, .pc] s t ∧
      t.pm.dom[d].st = s.pm.dom[d].target ∧ t.pm.dom[d].target = s.pm.dom[d].target ∧
      (∀ e : Fin 14, e ≠ d → t.pm.dom[e] = s.pm.dom[e]) ∧ t.pm.alarm = s.pm.alarm ∧ t.fwd.golden = s.fwd.golden ∧
      (s.pm.dom[d].target = .off → 4 ≤ d.val → d.val ≤ 9 → ∀ l, l / 32 = d.val - 4 → (laneOf t l).st = .off) ∧
      (s.pm.dom[d].target = .off → d.val = 10 → t.fwd.hw = {}) ∧
      ((d.val = 1 ∨ d.val = 2) → s.pm.dom[d].st = .on → (engxOf t (d.val - 1)).on = false ∧ (engxOf t (d.val - 1)).claim = 0)) ∧
  (∀ (d : Fin 14) (s : State), raiseGoes s s.pm.dom[d] = true → inChip s = false → s.pm.dom[d].queued = none →
    s.rst.waiting = [] → s.rst.deferred = [] → (∀ o e todo k, execOf s o = some e → e.wait ≠ some (.power todo k)) →
    ∃ t, exec (.domainWakeComplete d) s = .next t ∧
      keepsBut [.te, .lane, .group, .port, .tio, .ck, .cal, .fwd, .q, .cald, .fab, .pm, .rst, .host, .msi, .mb, .boot, .pc] s t ∧
      t.pm.dom[d].st = .on ∧ (∀ e : Fin 14, e ≠ d → t.pm.dom[e] = s.pm.dom[e]) ∧
      (∀ k, s.pm.dom[d].wakeSrc = some k → t.pm.dom[d].wakeEvt = true ∧ t.pm.dom[d].lastSrc = k ∧
        t.pm.dom[d].wakes = (s.pm.dom[d].wakes + 1) % 65536 ∧ t.pm.dom[d].wakeSrc = none) ∧
      (4 ≤ d.val → d.val ≤ 9 → ∀ l, l / 32 = d.val - 4 → (laneOf s l).st = .sleep → (laneOf t l).st = .ready ∧
        ((laneOf t l).ph.excl = 2 ∨ (laneOf t l).ph.excl = 9)) ∧
      (d.val = 10 → s.pm.dom[d].st = .off → obilwinUp s = true → t.fwd.hw = s.fwd.golden)) ∧
  ((∀ (n : Fin 4) (s : State), s.pm.alarm[n].armed = true → s.pm.alarm[n].instant ≤ s.clk.now →
    ∃ t, exec .alarmFire s = .next t ∧ keepsBut [.te, .pm, .host, .msi, .mb, .pc] s t ∧ t.pm.alarm[n].armed = false ∧
      t.pm.alarm[n].fired = true ∧ (∀ k : Fin 4, alarmDue s k.val = false → t.pm.alarm[k] = s.pm.alarm[k]) ∧
      ∀ d : Fin 14, d.val ≠ 0 → s.pm.alarm[n].mask.getLsbD d.val = true → domBelow s d.val = true → t.pm.dom[d].target = .on) ∧
  (∀ s : State, s.pm.dom[(3 : Fin 14)].st = .stopped → s.pm.dom[(3 : Fin 14)].target = .stopped → (wakeMask s 3 0).getLsbD 3 = true →
    sameWake s (wakeMask s 3 0) = false →
    ∃ t, exec .pcieL1Exit s = .next t ∧ keepsBut [.te, .pm, .host, .msi, .pc] s t ∧ t.host.inL1 = false ∧
      t.pm.dom[(3 : Fin 14)].target = .on ∧ t.pm.dom[(3 : Fin 14)].wakeSrc = some 3 ∧ t.pm.causeSrc = 3) ∧
  (∀ s : State, ∃ t, exec .thermtrip s = .next t ∧ keepsBut [.pins, .msi] s t ∧ t.pins = { s.pins with thermtripN := false }) ∧
  (∀ (status : BitVec 16) (s : State), obilwinUp s = true →
    ∃ t, exec (.pmbAlert status) s = .next t ∧ keepsBut [.pc, .msi] s t ∧
      vget t.pc.kinds 16 0 = satU 32 (vget s.pc.kinds 16 0 + 1)))

/-- R379, R490, R509: POR takes everything to its reset value but what flash and OTP hold; VDDK gives it and the other rails a CHIP
reset. As POR leaves, the straps are sampled, the cause recorded and both engines boot.

R379, R41, R362, R371, R386: a CHIP reset keeps the counter's time, the alarms and the flash, hands the time clock to the Kettle
in COARSE, takes every domain back On and records its cause; while it or POR lasts another one is absorbed. -/
def Obligations.PowerOnAndChipReset : Prop :=
  ((∀ s : State, ∃ t, exec .por s = .next t ∧ t.rst.por = true ∧ t.clk = State.reset.clk ∧ t.te = State.reset.te ∧
      t.lane = State.reset.lane ∧ t.port = State.reset.port ∧ t.q = State.reset.q ∧ t.pm = State.reset.pm ∧ t.pc = State.reset.pc ∧
      t.boot.blocks = s.boot.blocks ∧ t.boot.rollback = s.boot.rollback ∧ t.boot.saved = s.boot.saved ∧
      (∀ k : Fin 2, t.boot.slots[k].bytes = s.boot.slots[k].bytes) ∧ t.wx.hourly = s.wx.hourly ∧ t.pending = s.pending) ∧
  (∀ s : State, exec (.supplyBrownout 0) s = exec .por s) ∧
  (∀ (rail : Nat) (s : State), rail ≠ 0 → inChip s = false →
    exec (.supplyBrownout rail) s = exec (.chipReset 1) s ∧ ∃ t, exec (.supplyBrownout rail) s = .next t ∧ t.rst.chip = some 1) ∧
  (∀ (straps : Straps) (monitor : Bool) (s : State), s.rst.por = true →
    ∃ t, exec (.porRelease straps monitor) s = .next t ∧
      keepsBut [.clk, .te, .tio, .ck, .cal, .q, .fab, .rst, .host, .msi, .mb, .boot, .pc, .free] s t ∧
      t.rst.por = false ∧ t.rst.lastScope = 0 ∧ t.rst.lastSource = b2n monitor ∧ t.boot.straps = straps ∧
      (∀ e : Fin 2, t.te.engx[e].booting = true ∧ t.te.engx[e].health = 4) ∧
      (savedPar s 0x1C3 = none → t.fab.zone = straps.zone) ∧ (savedPar s 0x1C4 = none → t.fab.cluster = straps.cluster))) ∧
  (∀ (src : Nat) (s : State), src ≠ 2 →
    (inChip s = false → ∃ t, exec (.chipReset src) s = .next t ∧ t.rst.chip = some src ∧ t.rst.lastScope = 1 ∧ t.rst.lastSource = src ∧
      t.rst.chipCount = satU 8 (s.rst.chipCount + 1) ∧ t.clk.now = s.clk.now ∧ t.clk.kettle = true ∧ t.clk.tod = .coarse ∧
      t.pm.alarm = s.pm.alarm ∧ (∀ d : Fin 14, t.pm.dom[d].st = .on ∧ t.pm.dom[d].target = .on) ∧
      t.lane = State.reset.lane ∧ t.q = State.reset.q ∧ t.fwd.golden = s.fwd.golden ∧ t.boot.rollback = s.boot.rollback ∧
      (∀ k : Fin 2, t.boot.slots[k].bytes = s.boot.slots[k].bytes) ∧ t.pending = s.pending) ∧
    (inChip s = true → ∃ t, exec (.chipReset src) s = .next t ∧ keepsBut [.rst, .msi] s t ∧ t.rst.chip = s.rst.chip))

/-- R20, R243, R282, R307, R379: a DATA reset flushes every queue and reassembly buffer where D10 is On, and keeps the calendar, the
configuration, the time and the lanes' states; on a domain below On it waits for it.

R19, R379, R383, R384, R423: a MGMT restart takes the management core and FW_READY away and nothing of forwarding or time; the firmware
watchdog gives one, counts it, and holds the core at the third within 10 min.

R380, R381, R383: a scope that leaves reset is in reset no more; CHIP samples the straps; a held management core does not
leave. -/
def Obligations.DataAndManagementReset : Prop :=
  (∀ (src : Nat) (s : State), src ≠ 2 → inChip s = false → s.rst.data = none →
    ∃ t, exec (.dataReset src) s = .next t ∧ keepsBut [.lane, .group, .port, .tio, .ck, .fwd, .q, .cald, .fab, .rst, .host, .msi, .mb, .pc] s t ∧
      t.cald = { s.cald with resync := t.cald.resync } ∧ t.rst.data = some src ∧ t.rst.lastScope = 2 ∧ t.rst.dataCount = satU 8 (s.rst.dataCount + 1) ∧
      t.fwd.hw.l2 = s.fwd.hw.l2 ∧ t.fwd.hw.vid = s.fwd.hw.vid ∧ t.fwd.golden = s.fwd.golden ∧
      (∀ l, (laneOf t l).st = (laneOf s l).st) ∧
      (domOn s 10 = true → ∀ g, (inGrp t g).voq = [] ∧ (inGrp t g).calq = [] ∧ (outGrp t g).egress = []) ∧
      (domOn s 10 = false → (2, 10) ∈ t.rst.deferred)) ∧
  (∀ s : State, inChip s = false → s.rst.mgmt = none → domOn s 3 = true →
    (∀ src, src ≠ 2 → ∃ t, exec (.mgmtRestart src) s = .next t ∧ keepsBut [.tio, .ck, .rst, .host, .msi, .mb, .boot, .pc] s t ∧
      t.rst.mgmt = some src ∧ t.mb.fwReady = false ∧ t.boot.stage = 0 ∧ t.host.mgmtRestartEvt = true ∧ t.boot.keys.locked = false ∧
      t.rst.mgmtCount = satU 8 (s.rst.mgmtCount + 1) ∧ t.rst.halted = s.rst.halted) ∧
    (∃ t, exec .firmwareWatchdog s = .next t ∧ keepsBut [.tio, .ck, .rst, .host, .msi, .mb, .boot, .pc] s t ∧ t.rst.mgmt = some 4 ∧
      t.mb.fwReady = false ∧ vget t.pc.kinds 11 0 = satU 32 (vget s.pc.kinds 11 0 + 1) ∧
      (2 ≤ (s.rst.wdTimes.filter (fun n => decide (s.clk.elapsed ≤ n + 600 * uSec))).length →
        t.rst.halted = true ∧ t.host.mgmtHaltEvt = true) ∧
      ((s.rst.wdTimes.filter (fun n => decide (s.clk.elapsed ≤ n + 600 * uSec))).length < 2 → t.rst.halted = s.rst.halted))) ∧
  (∀ (straps : Straps) (s : State),
    (s.rst.chip.isSome = true → ∃ t, exec (.resetRelease .chip straps) s = .next t ∧
      keepsBut [.te, .tio, .ck, .cal, .fab, .rst, .host, .msi, .mb, .boot, .pc, .free] s t ∧ t.rst.chip = none ∧ t.boot.straps = straps) ∧
    (∃ t, exec (.resetRelease .data straps) s = .next t ∧ keepsBut [.rst, .msi] s t ∧ t.rst = { s.rst with data := none }) ∧
    (s.rst.halted = false →
      ∃ t, exec (.resetRelease .mgmt straps) s = .next t ∧ keepsBut [.rst, .msi] s t ∧ t.rst = { s.rst with mgmt := none }) ∧
    (s.rst.halted = true → exec (.resetRelease .mgmt straps) s = .next (settle s)) ∧
    (∀ g : GroupIx, ∃ t, exec (.resetRelease (.group g) straps) s = .next t ∧ keepsBut [.rst, .msi] s t ∧
      t.rst = { s.rst with groups := s.rst.groups.set g false }) ∧
    (∀ l : LaneIx, ∃ t, exec (.resetRelease (.lane l) straps) s = .next t ∧ keepsBut [.rst, .msi] s t ∧
      t.rst = { s.rst with lanes := s.rst.lanes.set l false }))

/-- R386, R383: GL_RESET_CTRL with its key asserts the scope written, with source 3, and MGMT releases a held core; with another key it is
logged with KIND 6 and nothing is reset.

R376, R377, R384: an access that waits at a crossing ends in error when its timeout expires, KIND 2, all-ones for the host's read; one
that no crossing has ended, KIND 3. -/
def Obligations.ResetControlAndTimeouts : Prop :=
  (∀ (who : Initiator) (v : Word) (s : State), answers who s → domOn s 0 = true → domOn s 3 = true →
    (v.toNat / 65536 = 0xA5C3 → v.toNat % 8 = 1 →
      ∃ t, exec (.resetCtrlChip who v) s = .next t ∧ t.rst.chip = some 3 ∧ t.rst.lastSource = 3 ∧ t.clk.now = s.clk.now ∧
        t.pm.alarm = s.pm.alarm) ∧
    (v.toNat / 65536 = 0xA5C3 → v.toNat % 8 = 2 → s.rst.data = none →
      ∃ t, exec (.resetCtrlData who v) s = .next t ∧
        keepsBut [.lane, .group, .port, .tio, .ck, .fwd, .q, .cald, .fab, .rst, .host, .msi, .mb, .pc] s t ∧ t.rst.data = some 3) ∧
    (v.toNat / 65536 = 0xA5C3 → v.toNat % 8 = 3 →
      ∃ t, exec (.resetCtrlMgmt who v) s = .next t ∧ keepsBut [.tio, .ck, .rst, .host, .msi, .mb, .boot, .pc] s t ∧ t.rst.halted = false ∧
        t.rst.mgmt = some (s.rst.mgmt.getD 3)) ∧
    (v.toNat / 65536 ≠ 0xA5C3 → v.toNat % 8 = 2 →
      ∃ t, exec (.resetCtrlData who v) s = .next t ∧ keepsBut [.rst, .host, .msi] s t ∧ t.rst.data = s.rst.data ∧
        t.rst.log1 = 0x24#32 ∧ t.rst.log0.toNat / 2 ^ 28 = 6)) ∧
  ((∀ (i : Nat) (w : Waiting) (s : State), s.rst.waiting[i]? = some w →
    ∃ t, exec (.crossingTimeout i) s = .next t ∧ keepsBut [.rst, .host, .msi, .pc] s t ∧ t.rst.waiting = s.rst.waiting.eraseIdx i ∧
      t.rst.log1 = BitVec.ofNat 32 w.off ∧
      t.rst.log0 = packW [(2, 28), (w.domain, 24), (b2n w.write.isSome, 23), (b2n (w.who == .mgmt), 22), ((s.rst.log0.toNat + 1) % 4096, 0)] ∧
      (w.who = .host → w.write = none → t.host.rdata[whoIx .host] = 0xFFFFFFFF#32) ∧ (w.who = .mgmt → t.host.busError = true)) ∧
  (∀ (who : Initiator) (off : Nat) (write : Bool) (s : State),
    ∃ t, exec (.interconnectTimeout who off write) s = .next t ∧ keepsBut [.rst, .host, .msi, .pc] s t ∧
      t.rst.log1 = BitVec.ofNat 32 off ∧
      t.rst.waiting = s.rst.waiting.eraseP (fun w => w.who == who && w.off == off && w.write.isSome == write) ∧
      t.rst.log0 = packW [(3, 28), ((regOwner (regAt s off)).1, 24), (b2n write, 23), (b2n (who == .mgmt), 22),
        ((s.rst.log0.toNat + 1) % 4096, 0)] ∧
      vget t.pc.kinds 12 0 = satU 32 (vget s.pc.kinds 12 0 + 1)))

/-! ### The host interface and DMA -/

/-- R398, R402, R403: a TAIL write posts the descriptors between the old and the new tail, behind those already posted; HEAD stays.

R406 to R408: DMA_CTRL enables a ring with its size and moderation, or disables it: HEAD and TAIL are 0, nothing is posted. A read
of DMA_DROPS returns and clears the counts; HOLDOFF's end reports what was not yet reported. -/
def Obligations.DescriptorRings : Prop :=
  (∀ (r : Fin 8) (v : Word) (s : State), domOn s 3 = true → inChip s = false →
    (∀ descs, newlyPosted (ringOf true r.val s) (bits v.toNat 0 15) ≤ descs.length → vget s.host.store r.val [] = [] →
      ∃ t, exec (.rxTailWrite r v descs) s = .next t ∧ keepsBut [.host, .msi] s t ∧ ringOf true r.val t =
        { ringOf true r.val s with
          tail := bits v.toNat 0 15
          rxPosted := (ringOf true r.val s).rxPosted ++
            (descs.take (newlyPosted (ringOf true r.val s) (bits v.toNat 0 15))).map rxDescOf } ∧
        t.host.tx = s.host.tx ∧ ∀ k, k ≠ r.val → ringOf true k t = ringOf true k s) ∧
    (∀ descs, newlyPosted (ringOf true r.val s) (bits v.toNat 0 15) ≤ descs.length →
      ∃ t, exec (.rxTailWrite r v descs) s = .next t ∧ keepsBut [.host, .msi, .pc] s t ∧
        (ringOf true r.val t).tail = bits v.toNat 0 15 ∧ t.host.tx = s.host.tx ∧
        ∀ k, k ≠ r.val → ringOf true k t = ringOf true k s) ∧
    (∀ descs, newlyPosted (ringOf false r.val s) (bits v.toNat 0 15) ≤ descs.length →
      ∃ t, exec (.txTailWrite r v descs) s = .next t ∧ keepsBut [.host, .msi] s t ∧ ringOf false r.val t =
        { ringOf false r.val s with
          tail := bits v.toNat 0 15
          txPosted := (ringOf false r.val s).txPosted ++
            (descs.take (newlyPosted (ringOf false r.val s) (bits v.toNat 0 15))).map txDescOf } ∧
        t.host.rx = s.host.rx ∧ ∀ k, k ≠ r.val → ringOf false k t = ringOf false k s)) ∧
  (∀ (rx : Bool) (r : Fin 8) (v : Word) (s : State), answers .host s →
    (v.getLsbD 31 = true → (rx = false ∨ vget s.host.store r.val [] = []) →
      ∃ t, exec (.dmaRingEnable rx r v) s = .next t ∧ keepsBut [.host, .msi] s t ∧ ringOf rx r.val t =
        { ringOf rx r.val s with
          enable := true, size := bits v.toNat 24 4, holdoff := bits v.toNat 8 8, count := bits v.toNat 0 8 }) ∧
    (v.getLsbD 31 = true →
      ∃ t, exec (.dmaRingEnable rx r v) s = .next t ∧ keepsBut [.host, .msi, .pc] s t ∧ (ringOf rx r.val t).enable = true ∧
        (ringOf rx r.val t).size = bits v.toNat 24 4 ∧ (ringOf rx r.val t).holdoff = bits v.toNat 8 8 ∧
        (ringOf rx r.val t).count = bits v.toNat 0 8 ∧ (ringOf rx r.val t).tail = (ringOf rx r.val s).tail) ∧
    (v.getLsbD 31 = false → (ringOf rx r.val s).enable = true →
      ∃ t, exec (.dmaRingDisable rx r v) s = .next t ∧ keepsBut [.host, .msi, .pc] s t ∧ (ringOf rx r.val t).enable = false ∧
        (ringOf rx r.val t).head = 0 ∧ (ringOf rx r.val t).tail = 0 ∧
        (rx = true → (ringOf rx r.val t).rxPosted = [] ∧ vget t.host.store r.val [] = []) ∧
        (rx = false → (ringOf rx r.val t).txPosted = [])) ∧
    (v.getLsbD 31 = false → (ringOf rx r.val s).enable = false →
      ∃ t, exec (.dmaRingDisable rx r v) s = .next t ∧ keepsBut [.host, .msi] s t ∧ ringOf rx r.val t =
        { ringOf rx r.val s with size := bits v.toNat 24 4, holdoff := bits v.toNat 8 8, count := bits v.toNat 0 8 })) ∧
  (∀ (who : Initiator) (rx : Bool) (r : Fin 8) (s : State), answers who s → domOn s 3 = true →
    ∃ t, exec (.dmaDropsRead who rx r) s = .next t ∧ keepsBut [.host, .msi] s t ∧ ringOf rx r.val t =
        { ringOf rx r.val s with trunc := 0, noroom := 0 } ∧
      t.host.rdata[whoIx who] = packW [((ringOf rx r.val s).trunc, 16), (if rx then (ringOf rx r.val s).noroom else 0, 0)]) ∧
  (∀ (rx : Bool) (r : Fin 8) (s : State),
    (∃ t, exec (.dmaHoldoffExpiry rx r) s = .next t ∧ keepsBut [.host, .msi] s t ∧
      (0 < (ringOf rx r.val s).unreported → (ringOf rx r.val t).doneEvt = true ∧ (ringOf rx r.val t).unreported = 0) ∧
      ((ringOf rx r.val s).unreported = 0 → ringOf rx r.val t = ringOf rx r.val s)))

/-- R399, R402: a receive frame whose ring gets no descriptors in time is closed, counted and flagged; the ring whose turn it is gives one
whole chain, and the turn goes on past it.

R389, R390, R396, R397: an unmasked vector's held message leaves; D3hot holds DMA and messages and its end lets them go; PERST_N and
FLR disable every ring, mask every vector and end the host's accesses that wait, FLR keeping the link; a rising PERST_N wakes D3
from Retention or Off (R363). -/
def Obligations.HostTransfersAndReset : Prop :=
  ((∀ (r : Fin 8) (k : Nat) (f : StoreFrame) (rest : List StoreFrame) (s : State), (ringOf true r.val s).heldLen = some k →
    (ringOf true r.val s).rxPosted = [] → rxMay r.val s = true → vget s.host.store r.val [] = f :: rest →
    ∃ t, exec (.rxStarveTimeout r) s = .next t ∧ keepsBut [.host, .msi, .pc] s t ∧ (ringOf true r.val t).errEvt = true ∧
      (ringOf true r.val t).trunc = satU 16 ((ringOf true r.val s).trunc + 1) ∧ (ringOf true r.val t).heldLen = none ∧
      (ringOf true r.val t).head = ((ringOf true r.val s).head + 1) % 2 ^ (ringOf true r.val s).size ∧
      vget t.host.store r.val [] = rest) ∧
  (∀ (bytes : List Byte) (r : Nat) (s : State), txTurnOf s = some r → dmaRuns s = true →
    ∃ t, exec (.txFrameFetch bytes) s = .next t ∧ keepsBut [.port, .fwd, .q, .host, .msi, .pc, .nextFid] s t ∧
      t.host.txTurn = (r + 1) % 8 ∧ t.nextFid = s.nextFid + 1 ∧
      (ringOf false r t).txPosted = (chainOf (ringOf false r s).txPosted).2)) ∧
  ((∀ (v : Fin 64) (s : State), ∃ t, exec (.msixVectorUnmask v) s = .next t ∧ keepsBut [.host, .msi] s t ∧
      vget t.host.masked v.val true = false ∧ (∀ k, k ≠ v.val → vget t.host.masked k true = vget s.host.masked k true) ∧
      t.host.rx = s.host.rx ∧ (s.host.pba[v] = true → s.host.d3hot = false → v.val ∈ t.host.sent ∧ vget t.host.pba v.val false = false)) ∧
  (∀ s : State, ∃ t, exec .d3hotEntry s = .next t ∧ keepsBut [.host, .msi] s t ∧ t.host.d3hot = true ∧ t.host.rx = s.host.rx) ∧
  (∀ s : State, s.host.d3hot = true → ∃ t, exec .d3hotExit s = .next t ∧ keepsBut [.host, .msi, .pc] s t ∧ t.host.d3hot = false) ∧
  (∀ s : State,
    (∃ t, exec .perstNAssert s = .next t ∧ keepsBut [.rst, .host, .msi, .mb] s t ∧ (∀ w ∈ t.rst.waiting, w.who = .mgmt) ∧ t.host.perst = true ∧ t.host.linkUp = false ∧
      (∀ v : Fin 64, t.host.masked[v] = true) ∧ (∀ rx r, (ringOf rx r t).enable = false) ∧ t.mb.chan = s.mb.chan ∧ t.mb.evqEnable = false) ∧
    (∃ t, exec .functionLevelReset s = .next t ∧ keepsBut [.rst, .host, .msi, .mb] s t ∧ t.host.linkUp = s.host.linkUp ∧
      t.host.perst = s.host.perst ∧ (∀ v : Fin 64, t.host.masked[v] = true) ∧ (∀ rx r, (ringOf rx r t).enable = false) ∧
      t.mb.chan = s.mb.chan)) ∧
  (∀ s : State, s.host.perst = true →
    (domOn s 3 = true ∨ (vget s.pm.dom 3 {}).st = .stopped → ∃ t, exec .perstNRelease s = .next t ∧ keepsBut [.pm, .host, .msi] s t ∧
      t.host.perst = false ∧ t.host.linkUp = s.host.modeSet) ∧
    ((vget s.pm.dom 3 {}).st = .retention ∨ (vget s.pm.dom 3 {}).st = .off →
      ∃ t, exec .perstNRelease s = .next t ∧ keepsBut [.te, .pm, .host, .msi, .pc] s t ∧ t.host.perst = false ∧
        t.host.linkUp = false ∧ ((wakeMask s 3 0).getLsbD 3 = true → (vget t.pm.dom 3 {}).target = .on))))

/-! ### Boot -/

/-- R475, R476, R479, R480: the ROM starts the active image; a pending trial once, spending it; after an attempt that was not
confirmed the active image again; with the straps at loader it starts none and serves the mailbox. The registers are measured and
locked. R481, R482: the alias key stands, of the secret and MREG0 to MREG4, with its certificate; the identity key and the secret are
erased and the secret's row is locked.

R411, R420, R423, R470, R477: Obilwin's start sets FW_READY and loads the latency tables; a start without its SRAM is a new epoch, one
with it goes on in the same; a trial that has run its time becomes the active image. -/
def Obligations.BootStages : Prop :=
  (∀ s : State, inChip s = false → s.rst.mgmt = none → s.rst.halted = false → domOn s 3 = true → s.boot.stage = 0 →
    ∃ t, exec .romStart s = .next t ∧ keepsBut [.clk, .tio, .ck, .host, .msi, .mb, .boot, .pc, .free] s t ∧
      t.boot.keys.secret = none ∧ t.boot.keys.identity = none ∧ t.boot.keys.locked = true ∧
      t.boot.keys.alia = some (aliasKey (mregOf t 0) [mregOf t 1, mregOf t 2, mregOf t 3, mregOf t 4]) ∧
      (∃ k, t.boot.keys.aliasCert = aliasCertificate k (identityKey (mregOf t 0))
        (aliasKey (mregOf t 0) [mregOf t 1, mregOf t 2, mregOf t 3, mregOf t 4])
        [mregOf t 0, mregOf t 1, mregOf t 2, mregOf t 3, mregOf t 4]) ∧
      t.boot.starts = (s.boot.starts + 1) % 256 ∧ t.boot.mregLocked = true ∧ t.host.modeSet = true ∧
      t.boot.rollback = s.boot.rollback ∧
      vget t.boot.mreg 0 [] = Config.sha384 (List.replicate 48 0 ++ Config.sha384 Config.romImage) ∧
      (s.boot.straps.boot % 4 = 0 → s.boot.attempt = none → (blockOf s).trial = false → (blockOf s).active < 2 →
        slotState s (blockOf s).active = 1 →
        t.boot.stage = 1 ∧ t.boot.slot = (blockOf s).active ∧ t.boot.trial = false ∧ t.boot.fallback = false) ∧
      (s.boot.straps.boot % 4 = 0 → s.boot.attempt = none → (blockOf s).trial = true →
        slotState s (blockOf s).trialSlot = 1 →
        t.boot.stage = 1 ∧ t.boot.slot = (blockOf s).trialSlot ∧ t.boot.trial = true ∧
          t.boot.attempt = some (blockOf s).trialSlot ∧ (blockOf t).trial = false) ∧
      (∀ k, s.boot.straps.boot % 4 = 0 → s.boot.attempt = some k → slotState s (blockOf s).active = 1 →
        t.boot.stage = 1 ∧ t.boot.slot = (blockOf s).active ∧ t.boot.trial = false ∧ t.boot.fallback = true ∧ t.boot.attempt = none) ∧
      (s.boot.straps.boot % 4 = 3 → t.boot.stage = 3 ∧ t.mb.fwReady = true)) ∧
  ((∀ (savedOk : Bool) (s : State), inChip s = false → s.rst.mgmt = none → domOn s 3 = true → s.boot.stage = 1 →
    ∃ t, exec (.obilwinStart savedOk) s = .next t ∧
      keepsBut [.te, .lane, .group, .port, .tio, .ck, .cal, .fwd, .q, .cald, .fab, .pm, .rst, .host, .msi, .mb, .boot, .pc, .par, .clk] s t ∧
      t.boot.stage = 2 ∧ t.mb.fwReady = true ∧ t.boot.fresh = false ∧ t.boot.factoryLoaded = true ∧ t.clk.now = s.clk.now ∧
      t.mb.epoch = (if s.boot.fresh || !savedOk then (s.mb.epoch + 1) % 2 ^ 32 else s.mb.epoch)) ∧
  (∀ (k : Nat) (s : State), obilwinUp s = true → s.boot.attempt = some k → s.boot.trial = true →
    ∃ t, exec .trialConfirm s = .next t ∧ keepsBut [.boot, .msi] s t ∧ (blockOf t).active = k ∧ (blockOf t).trialSlot = (blockOf s).trialSlot ∧
      t.boot.attempt = none ∧ t.boot.trial = false ∧ t.boot.rollback = s.boot.rollback))

/-! ### Commands of the mailbox -/

/-- R436, R437: IDENTIFY answers 32 bytes with the part, the revision, the serial, the running image, the straps and the
oscillator frequency; EVENT_REPLAY answers the log's events from a number on, oldest first, and says where it begins late or
stops early. Both change nothing else.

R438, R25: POWER_SET of one domain from 10 to 13 that is On starts its descent and waits; one that is On already is answered
at once with the states; a request for both engine domains is refused and leaves their targets. R439: WAKE_MAP stores a source's
mask or takes its default, and no other source's; ALARM_SET arms, disarms, and fires an instant already past. R440: RESET is answered
OK and asserted after its response. -/
def Obligations.SystemAndPowerCommands : Prop :=
  ((∀ (o : Origin) (p : List Byte) (s : State), commandAt s o 0x0101 = some p →
    ∃ t r, exec (.identify o) s = .next t ∧ onlyAnswers o (okRes r) s t ∧ r.length = 32 ∧ fieldLe r 0 4 = 0x00241F29 ∧
      fieldLe r 4 4 = 0x10 ∧ fieldLe r 8 8 = Config.serial.toNat ∧ fieldLe r 16 4 = fwVersion s % 2 ^ 32 ∧
      (s.boot.stage = 3 → fieldLe r 20 1 = 255) ∧ (s.boot.stage ≠ 3 → fieldLe r 20 1 = s.boot.slot % 256) ∧
      fieldLe r 24 4 = (strapWord s.boot.straps).toNat ∧ fieldLe r 28 4 = (blockOf s).oscHz % 2 ^ 32) ∧
  (∀ (o : Origin) (p : List Byte) (s : State), commandAt s o 0x0102 = some p → 1 ≤ fieldLe p 4 4 → fieldLe p 4 4 ≤ 127 →
    fieldLe p 0 4 ≤ s.mb.dseq →
    let l := s.mb.log.reverse.filter (fun e => decide (fieldLe p 0 4 ≤ e.dseq))
    ∃ t r, exec (.eventReplay o) s = .next t ∧ onlyAnswers o (okRes r) s t ∧ fieldLe r 0 2 = min (fieldLe p 4 4) l.length ∧
      (fieldLe r 2 2).testBit 0 = decide (fieldLe p 0 4 < (s.mb.log.getLast?.map (fun e => e.dseq)).getD 0) ∧
      (fieldLe r 2 2).testBit 1 = decide (fieldLe p 4 4 < l.length) ∧
      r.drop 4 = (l.take (fieldLe p 4 4)).flatMap (fun e => eventBytes e true))) ∧
  ((∀ (o : Origin) (p : List Byte) (e : Exec) (d : Nat) (s : State), commandAt s o 0x0110 = some p → execOf s o = some e →
    1 ≤ d → d < 14 → fieldLe p 0 2 = 2 ^ d → fieldLe p 3 1 = 0 → (vget s.pm.dom d {}).st = .on → domSettled s d = true →
    (fieldLe p 2 1 = 0 → ∃ t, exec (.powerSet o) s = .next t ∧ keepsBut [.pm, .mb, .msi] s t ∧
      endsWith o (okRes (domStates s e.d3After)) s t ∧ (sameWake s (BitVec.ofNat 14 (2 ^ d)) = false → t.pm = s.pm)) ∧
    (10 ≤ d → 1 ≤ fieldLe p 2 1 → fieldLe p 2 1 ≤ 3 →
      ∃ t, exec (.powerSet o) s = .next t ∧ keepsBut [.pm, .mb, .msi] s t ∧ waits o (.power [d] (fieldLe p 2 1)) t ∧
        t.pm = { s.pm with
          dom := vmodN s.pm.dom d (fun y => { y with target := domOfCode (fieldLe p 2 1), queued := none }) })) ∧
  (∀ (o : Origin) (p : List Byte) (s : State), commandAt s o 0x0110 = some p → fieldLe p 0 2 = 6 → fieldLe p 3 1 = 0 →
    1 ≤ fieldLe p 2 1 → fieldLe p 2 1 ≤ 3 →
    ∃ t, exec (.powerSet o) s = .next t ∧ keepsBut [.pm, .mb, .msi] s t ∧ endsWith o (notPermitted 0x0001) s t ∧
      ∀ d : Fin 14, t.pm.dom[d] = if d.val = 1 ∨ d.val = 2 then { s.pm.dom[d] with refused := true } else s.pm.dom[d]) ∧
  (∀ (o : Origin) (p : List Byte) (src u m : Nat) (s : State), commandAt s o 0x0111 = some p → src = fieldLe p 0 1 → u = fieldLe p 1 1 →
    m = fieldLe p 4 2 → src ∈ [1, 2, 3, 5] → u < (if src = 1 ∨ src = 2 then 192 else if src = 5 then 8 else 1) →
    zeros p 2 2 = true → zeros p 6 2 = true → (m = 0xFFFF ∨ maskBad m = false) →
    ∃ t, exec (.wakeMap o) s = .next t ∧ keepsBut [.pm, .boot, .mb, .msi] s t ∧ endsWith o (okRes []) s t ∧
      t.pm = { s.pm with masks := t.pm.masks } ∧ t.boot.saved.map (fun c => c.masks) = some t.pm.masks ∧
      wakeMask t src u = (if m = 0xFFFF then wakeDefault src u else BitVec.ofNat 14 m) ∧
      ∀ a b, b < 256 → ¬(a = src ∧ b = u) → wakeMask t a b = wakeMask s a b) ∧
  (∀ (o : Origin) (p : List Byte) (n m x : Nat) (s : State), commandAt s o 0x0112 = some p → n = fieldLe p 0 1 → n ≤ 3 →
    m = fieldLe p 2 2 → maskBad m = false → fullOf (slice p 4 16) = some x →
    (fieldLe p 1 1 = 0 → ∃ t, exec (.alarmSet o) s = .next t ∧ keepsBut [.pm, .mb, .msi] s t ∧ endsWith o (okRes []) s t ∧
      t.pm = { s.pm with alarm := vmodN s.pm.alarm n (fun a => { a with armed := false }) }) ∧
    (fieldLe p 1 1 = 1 → s.clk.now < x → ∃ t, exec (.alarmSet o) s = .next t ∧ keepsBut [.pm, .mb, .msi] s t ∧
      endsWith o (okRes []) s t ∧
      t.pm = { s.pm with alarm := vmodN s.pm.alarm n (fun a => { a with armed := true, instant := x, mask := BitVec.ofNat 14 m }) }) ∧
    (fieldLe p 1 1 = 1 → x ≤ s.clk.now → ∃ t, exec (.alarmSet o) s = .next t ∧ keepsBut [.te, .pm, .host, .mb, .msi, .pc] s t ∧
      replied o (okRes []) t ∧ (vget t.pm.alarm n {}).armed = false ∧ (vget t.pm.alarm n {}).fired = true)) ∧
  (∀ (o : Origin) (p : List Byte) (s : State), commandAt s o 0x0120 = some p → 1 ≤ fieldLe p 0 1 → fieldLe p 0 1 ≤ 3 →
    zeros p 1 3 = true →
    ∃ t e, exec (.reset o) s = .next t ∧ keepsBut [.mb, .msi] s t ∧ execOf t o = some e ∧ e.result = some (okRes []) ∧
      e.resetAfter = some (fieldLe p 0 1)))

/-- R413: the first field out of its range, by offset, ends a command with BAD_PARAM and no effect; shown for seven commands. -/
def Obligations.BadFieldsAreRefused : Prop :=
  ∀ (o : Origin) (p : List Byte) (s : State),
    (commandAt s o 0x0120 = some p → (fieldLe p 0 1 < 1 ∨ 3 < fieldLe p 0 1) →
      ∃ t, exec (.reset o) s = .next t ∧ onlyAnswers o (badParam 0) s t) ∧
    (commandAt s o 0x0142 = some p → 29 < fieldLe p 0 1 → ∃ t, exec (.synReq o) s = .next t ∧ onlyAnswers o (badParam 0) s t) ∧
    (commandAt s o 0x0142 = some p → fieldLe p 0 1 ≤ 29 → fieldLe p 1 1 = 0 → (fieldLe p 2 1 < 1 ∨ 9 < fieldLe p 2 1) →
      ∃ t, exec (.synReq o) s = .next t ∧ onlyAnswers o (badParam 2) s t) ∧
    (commandAt s o 0x0222 = some p → parE s 0x27 (ctl s) < |toSigned 64 (fieldLe p 0 8)| →
      ∃ t, exec (.freqWrite o) s = .next t ∧ onlyAnswers o (badParam 0) s t) ∧
    (commandAt s o 0x0310 = some p → fieldLe p 0 1 ≤ 7 → zeros p 1 3 = true → fieldLe p 4 4 = 0 →
      ∃ t, exec (.trigSchedule o) s = .next t ∧ onlyAnswers o (badParam 4) s t) ∧
    (commandAt s o 0x0520 = some p → (fieldLe p 0 2 = 0 ∨ 4095 < fieldLe p 0 2) →
      ∃ t, exec (.ctxWrite o) s = .next t ∧ onlyAnswers o (badParam 0) s t) ∧
    (commandAt s o 0x0540 = some p → fieldLe p 0 1 ≤ 15 → 15 < fieldLe p 1 1 →
      ∃ t, exec (.wredSet o) s = .next t ∧ onlyAnswers o (badParam 1) s t) ∧
    (commandAt s o 0x0603 = some p → 1000 ≤ fieldLe p 0 4 → fieldLe p 0 4 ≤ 8192000 → fieldLe p 0 4 ≤ fieldLe p 4 4 →
      ∃ t, exec (.courseSet o) s = .next t ∧ onlyAnswers o (badParam 4) s t)

/-- R451: OSC_SET writes the boot block's frequency; SYN_SET sets a target, and with D13 On or Clock-stopped the synthesiser starts tuning to it;
SYN_REQ stores the planner's request or refuses a spread that feeds an aligned output; BAND_SET stores or removes a band and
saves it; PLAN_RUN and SPUR_MAP_GET answer the plan.

R452: CAL_RUN queues a run of the converter it names and waits for it; with the converter's domain below On it is refused.
CAL_TABLE_GET answers 512 codes of the accepted table, or of the nominal one before an acceptance. -/
def Obligations.ClockCommands : Prop :=
  ((∀ (o : Origin) (p : List Byte) (f : Nat) (s : State), commandAt s o 0x0140 = some p → f = fieldLe p 0 4 →
    (f = 0 ∨ ((oscClass s.boot.straps.oscf).1 ≤ f ∧ f ≤ (oscClass s.boot.straps.oscf).2)) →
    ∃ t, exec (.oscSet o) s = .next t ∧ keepsBut [.boot, .mb, .msi] s t ∧ endsWith o (okRes []) s t ∧
      blockOf t = { blockOf s with oscHz := f, valid := true, seq := (blockOf s).seq + 1 } ∧
      t.boot = { s.boot with blocks := t.boot.blocks }) ∧
  (∀ (o : Origin) (p : List Byte) (n f : Nat) (s : State), commandAt s o 0x0141 = some p → n = fieldLe p 0 1 → 28 ≤ n → n ≤ 29 →
    f = fieldLe p 4 8 → zeros p 1 3 = true → 9770000000 ≤ f → f ≤ 1250000000000 →
    ∃ t, exec (.synSet o) s = .next t ∧ keepsBut [.ck, .tio, .mb, .msi, .pc] s t ∧ endsWith o (okRes []) s t ∧
      (synOf t n).target = f ∧ (∀ m, m ≠ n → synOf t m = synOf s m) ∧
      ((vget s.pm.dom 13 {}).st = .retention ∨ (vget s.pm.dom 13 {}).st = .off →
        synOf t n = { synOf s n with target := f, vcoOpt := min (synOf s n).vcoOpt ((synDividers f).length - 1) }) ∧
      (domOn s 13 = true ∨ (vget s.pm.dom 13 {}).st = .stopped →
        ((synOf s n).tune = .idle → (synOf t n).lock = false ∧
          (synOf t n).tune = (if (storedBand s n (synTarget t n)).isSome then .hop (synTarget t n) else .search (synTarget t n))) ∧
        ((synOf s n).tune ≠ .idle → (synOf t n).second = some (synTarget t n)))) ∧
  (∀ (o : Origin) (p : List Byte) (n sp m d r : Nat) (s : State), commandAt s o 0x0142 = some p → n = fieldLe p 0 1 →
    sp = fieldLe p 1 1 → m = fieldLe p 2 1 → d = fieldLe p 3 1 → r = fieldLe p 4 4 → n ≤ 29 → sp ≤ 2 →
    (sp ≠ 0 → n = 0 ∨ n = 28 ∨ n = 29) → 1 ≤ m → m ≤ 9 → d ≤ 2 → (d = 1 → n < 2 ∨ 26 ≤ n) → 30000 ≤ r → r ≤ 33000 →
    ((sp = 0 ∨ feedsAlign s n = false) → ∃ t, exec (.synReq o) s = .next t ∧ keepsBut [.ck, .mb, .msi] s t ∧
      endsWith o (okRes []) s t ∧
      t.ck = { s.ck with syn := vmodN s.ck.syn n (fun x => { x with
        request := if sp = 0 then none else some (sp == 2, m), rateReq := r, ditherReq := d }) }) ∧
    (sp ≠ 0 → feedsAlign s n = true → ∃ t, exec (.synReq o) s = .next t ∧ onlyAnswers o (notPermitted 0x0007) s t)) ∧
  (∀ (o : Origin) (p : List Byte) (n : Nat) (b : BandSpec) (s : State), commandAt s o 0x0143 = some p → n = fieldLe p 0 1 → n ≤ 15 →
    b = { limit := toSigned 16 (fieldLe p 2 2), low := fieldLe p 4 4, high := fieldLe p 8 4, margin := fieldLe p 12 4 } →
    (fieldLe p 1 1 = 0 → ∃ t, exec (.bandSet o) s = .next t ∧ keepsBut [.ck, .boot, .mb, .msi] s t ∧ endsWith o (okRes []) s t ∧
      t.ck = { s.ck with bands := vmodN s.ck.bands n (fun _ => none) } ∧ t.boot.saved.map (fun c => c.bands) = some t.ck.bands) ∧
    (fieldLe p 1 1 = 1 → -160 ≤ b.limit → b.limit ≤ -40 → 1000 ≤ b.low → b.low ≤ 40000000 → b.low < b.high → b.high ≤ 40000000 →
      b.margin ≤ 100000 →
      ∃ t, exec (.bandSet o) s = .next t ∧ keepsBut [.ck, .boot, .mb, .msi] s t ∧ endsWith o (okRes []) s t ∧
        t.ck = { s.ck with bands := vmodN s.ck.bands n (fun _ => some b) } ∧ t.boot.saved.map (fun c => c.bands) = some t.ck.bands)) ∧
  (∀ (o : Origin) (p : List Byte) (s : State), commandAt s o 0x0144 = some p →
    ∃ t r, exec (.planRun o) s = .next t ∧ keepsBut [.ck, .tio, .pc, .free, .mb, .msi] s t ∧ endsWith o (okRes r) s t ∧
      t.ck.planValid = true ∧ t.ck.planSeq = (s.ck.planSeq + 1) % 4096 ∧ t.ck.bands = s.ck.bands ∧ r.length = 8 ∧
      fieldLe r 0 2 = t.ck.planSeq ∧ fieldLe r 2 1 = min t.ck.conflicts 255 ∧ fieldLe r 4 1 = (synOf t 0).depth % 256 ∧
      fieldLe r 5 1 = (synOf t 28).depth % 256 ∧ fieldLe r 6 1 = (synOf t 29).depth % 256) ∧
  (∀ (o : Origin) (p : List Byte) (s : State), commandAt s o 0x0145 = some p →
    ∃ t r, exec (.spurMapGet o) s = .next t ∧ onlyAnswers o (okRes r) s t ∧ fieldLe r 0 2 = s.ck.spurs.length % 65536 ∧
      fieldLe r 2 2 = min 254 (s.ck.spurs.length - fieldLe p 0 4) ∧ fieldLe r 4 4 = s.ck.planSeq % 2 ^ 32 ∧
      r.drop 8 = ((s.ck.spurs.drop (fieldLe p 0 4)).take 254).flatMap spurBytes)) ∧
  ((∀ (o : Origin) (p : List Byte) (c : Nat) (s : State), commandAt s o 0x0150 = some p → fieldLe p 1 1 = 0 →
    convNo (fieldLe p 0 1) (fieldLe p 2 2) = some c →
    (domOn s (convDomain c) = true → ∃ t, exec (.calRun o) s = .next t ∧ keepsBut [.cal, .mb, .msi] s t ∧
      waits o (.cal c (((convOf s c).seq + b2n (convOf s c).running) % 4096)) t ∧
      t.cal = { s.cal with conv := vmodN s.cal.conv c (fun v => { v with due := true }) }) ∧
    (domOn s (convDomain c) = false → ∃ t, exec (.calRun o) s = .next t ∧ onlyAnswers o (notPermitted 0x0008) s t)) ∧
  (∀ (o : Origin) (p : List Byte) (c : Nat) (s : State), commandAt s o 0x0151 = some p → fieldLe p 1 1 = 0 →
    convNo (fieldLe p 0 1) (fieldLe p 2 2) = some c → fieldLe p 4 4 ∈ [0, 512, 1024, 1536] →
    ∃ t r, exec (.calTableGet o) s = .next t ∧ onlyAnswers o (okRes r) s t ∧ fieldLe r 0 4 = (convOf s c).seq % 2 ^ 32 ∧
      r.drop 4 = (((convTable (convOf s c)).drop (fieldLe p 4 4)).take 512).flatMap (fun q =>
        le 2 (satU 16 (roundAway q.1).toNat) ++ le 2 (ofSigned 16 (satS 16 (roundAway (q.2 * 256))))) ∧
      ((convOf s c).cur = [] → r.length = 2052)))

/-- R442: TIME_SET orders a step to an absolute number of seconds, a step by a difference, or drops the pending one, and answers the
edge and the step; full time itself has not moved yet. R443: UTC_SET stores the configured word, an override, or ends the override.

R444, R445: REF_SELECT holds a selectable reference in both engines, waits while a switch runs, and is refused in a software
mode or for a reference not selectable; REF_QUALIFY requalifies a DISQUALIFIED one, clears a SUSPECT one and disqualifies by
software; REF_RELEASE lets the selected reference's absorbed offset go, and is refused for any other. -/
def Obligations.TimeAndReferenceCommands : Prop :=
  ((∀ (o : Origin) (p : List Byte) (v : Nat) (s : State), commandAt s o 0x0201 = some p → zeros p 1 7 = true → v = fieldLe p 8 8 →
    (fieldLe p 0 1 = 0 → v < 2 ^ 48 →
      let d : Int := ((v : Int) - edgeSeconds s) * uSec
      ∃ t, exec (.timeSet o) s = .next t ∧ keepsBut [.clk, .mb, .msi] s t ∧
        endsWith o (okRes (le 8 (edgeSeconds s) ++ le 8 (ofSigned 64 (satS 64 d)))) s t ∧
        t.clk = { s.clk with step := some { delta := d, software := true } }) ∧
    (fieldLe p 0 1 = 1 → 0 ≤ (edgeSeconds s * uSec : Nat) + toSigned 64 v → (edgeSeconds s * uSec : Nat) + toSigned 64 v < timeSpan →
      ∃ t, exec (.timeSet o) s = .next t ∧ keepsBut [.clk, .mb, .msi] s t ∧
        endsWith o (okRes (le 8 (edgeSeconds s) ++ le 8 (ofSigned 64 (toSigned 64 v)))) s t ∧
        t.clk = { s.clk with step := some { delta := toSigned 64 v, software := true } }) ∧
    (fieldLe p 0 1 = 2 → v = 0 →
      ∃ t, exec (.timeSet o) s = .next t ∧ keepsBut [.clk, .mb, .msi] s t ∧ endsWith o (okRes (le 8 (edgeSeconds s) ++ le 8 0)) s t ∧
        t.clk = { s.clk with step := none })) ∧
  (∀ (o : Origin) (p : List Byte) (w : Nat) (s : State), commandAt s o 0x0202 = some p → zeros p 1 3 = true → w = fieldLe p 4 4 →
    bits w 16 13 = 0 → bits w 29 2 ≠ 3 → fieldLe p 0 1 ≤ 2 → (fieldLe p 0 1 = 2 → w = 0) →
    ∃ t, exec (.utcSet o) s = .next t ∧ keepsBut [.clk, .mb, .msi] s t ∧ endsWith o (okRes []) s t ∧
      t.clk = (if fieldLe p 0 1 = 0 then { s.clk with utcCfg := some (BitVec.ofNat 32 w) }
        else if fieldLe p 0 1 = 1 then { s.clk with utcOvr := some (BitVec.ofNat 32 w) } else { s.clk with utcOvr := none }))) ∧
  ((∀ (o : Origin) (p : List Byte) (r : Nat) (s : State), commandAt s o 0x0211 = some p → r = fieldLe p 0 1 → zeros p 1 3 = true →
    (r = 255 ∨ r ∈ refList) →
    (autoMode s (ctl s) = false → ∃ t, exec (.refSelect o) s = .next t ∧ onlyAnswers o (notPermitted 0x0005) s t) ∧
    (autoMode s (ctl s) = true → r ≠ 255 → selectable s r = false →
      ∃ t, exec (.refSelect o) s = .next t ∧ onlyAnswers o (notPermitted 0x0003) s t) ∧
    (autoMode s (ctl s) = true → (r = 255 ∨ selectable s r = true) →
      ∃ t, exec (.refSelect o) s = .next t ∧ keepsBut [.te, .mb, .msi] s t ∧ { t.te with engx := s.te.engx } = s.te ∧
        ((engOf s (ctl s)).sw = none → endsWith o (okRes (le 4 0)) s t ∧ ∀ e, e < 2 →
          engxOf t e = { engxOf s e with selHeld := if r = 255 then none else some r, selCmd := none }) ∧
        ((engOf s (ctl s)).sw ≠ none → endsWith o (okRes (le 4 1)) s t ∧ ∀ e, e < 2 →
          engxOf t e = { engxOf s e with selCmd := some (if r = 255 then none else some r) }))) ∧
  (∀ (o : Origin) (p : List Byte) (r : Nat) (s : State), commandAt s o 0x0212 = some p → r = fieldLe p 0 1 → r ∈ refList →
    zeros p 2 2 = true →
    (fieldLe p 1 1 = 0 → (viewOf s r).st = .disqualified → ∃ t, exec (.refQualify o) s = .next t ∧
      keepsBut [.te, .host, .mb, .msi, .pc] s t ∧ replied o (okRes []) t ∧ (viewOf t r).st = .qualifying ∧ (viewOf t r).reason = 0) ∧
    (fieldLe p 1 1 = 0 → (viewOf s r).st = .suspect → ∃ t, exec (.refQualify o) s = .next t ∧
      keepsBut [.te, .host, .mb, .msi, .pc] s t ∧ replied o (okRes []) t ∧ (viewOf t r).st = .available) ∧
    (fieldLe p 1 1 = 0 → (viewOf s r).st ≠ .disqualified → (viewOf s r).st ≠ .suspect →
      ∃ t, exec (.refQualify o) s = .next t ∧ onlyAnswers o (okRes []) s t) ∧
    (fieldLe p 1 1 = 1 → (viewOf s r).st ≠ .disabled → ∃ t, exec (.refQualify o) s = .next t ∧
      keepsBut [.te, .host, .mb, .msi, .pc] s t ∧ replied o (okRes []) t ∧ (viewOf t r).st = .disqualified ∧ (viewOf t r).reason = 9)) ∧
  (∀ (o : Origin) (p : List Byte) (r : Nat) (s : State), commandAt s o 0x0213 = some p → r = fieldLe p 0 1 → r ∈ refList →
    zeros p 1 3 = true →
    (((engOf s (ctl s)).sw ≠ none ∨ (engOf s (ctl s)).sel ≠ some r) →
      ∃ t, exec (.refRelease o) s = .next t ∧ onlyAnswers o (notPermitted 0x0009) s t) ∧
    ((engOf s (ctl s)).sw = none → (engOf s (ctl s)).sel = some r →
      ∃ t, exec (.refRelease o) s = .next t ∧ keepsBut [.te, .mb, .msi] s t ∧ endsWith o (okRes []) s t ∧
        t.te = { s.te with eng := vmodN s.te.eng (ctl s) (fun x => { x with
          slewAt := if x.slewing then x.slewAt else s.clk.elapsed
          slewing := x.slewing || decide ((viewOf s r).absorb ≠ 0) }) })))

/-- R446, R144, R145: SERVO_MODE takes the engine in control to software steering, from its present frequency, and back to
acquisition; FREQ_WRITE and PHASE_EST feed it in the mode they belong to and are refused in any other.

R447: MODEL_GET answers an engine's record and changes nothing; MODEL_RESET restarts the learning of the engines it names and
keeps T0; ENGINE_CLEAR takes a FAILED engine to FAULTED with its fault history gone, and leaves any other. -/
def Obligations.SteeringAndModelCommands : Prop :=
  ((∀ (o : Origin) (p : List Byte) (c : Fin 2) (s : State), commandAt s o 0x0221 = some p → zeros p 1 3 = true →
    s.te.ks.control = some c →
    (fieldLe p 0 1 = 1 → (engOf s c.val).st ≠ .swOpen → ∃ t, exec (.servoMode o) s = .next t ∧
      keepsBut [.te, .host, .mb, .msi, .pc] s t ∧ replied o (okRes []) t ∧ (engOf t c.val).st = .swOpen ∧
      (engxOf t c.val).target = (engOf s c.val).y ∧ (engOf t c.val).y = (engOf s c.val).y) ∧
    (fieldLe p 0 1 = 2 → (engOf s c.val).st ≠ .swClosed → ∃ t, exec (.servoMode o) s = .next t ∧
      keepsBut [.te, .host, .mb, .msi, .pc] s t ∧ replied o (okRes []) t ∧ (engOf t c.val).st = .swClosed ∧
      (engxOf t c.val).estimates = []) ∧
    (fieldLe p 0 1 = 0 → autoMode s c.val = true → ∃ t, exec (.servoMode o) s = .next t ∧ onlyAnswers o (okRes []) s t) ∧
    (∀ r, fieldLe p 0 1 = 0 → autoMode s c.val = false → wantedRef s none = some r → ∃ t, exec (.servoMode o) s = .next t ∧
      keepsBut [.te, .host, .mb, .msi, .pc] s t ∧ replied o (okRes []) t ∧ (engOf t c.val).st = .acquire ∧
      (engOf t c.val).sel = some r)) ∧
  (∀ (o : Origin) (p : List Byte) (s : State), commandAt s o 0x0222 = some p →
    |toSigned 64 (fieldLe p 0 8)| ≤ parE s 0x27 (ctl s) →
    (ctlIn s .swOpen = true → ∃ t, exec (.freqWrite o) s = .next t ∧ keepsBut [.te, .mb, .msi] s t ∧ endsWith o (okRes []) s t ∧
      t.te = { s.te with engx := vmodN s.te.engx (ctl s) (fun x => { x with target := toSigned 64 (fieldLe p 0 8) }) }) ∧
    (ctlIn s .swOpen = false → ∃ t, exec (.freqWrite o) s = .next t ∧ onlyAnswers o (notPermitted 0x0005) s t)) ∧
  (∀ (o : Origin) (p : List Byte) (x : Nat) (s : State), commandAt s o 0x0223 = some p → fullOf (slice p 0 16) = some x →
    x ≤ s.clk.now → s.clk.now ≤ x + uSec →
    (ctlIn s .swClosed = true → ∃ t, exec (.phaseEst o) s = .next t ∧ keepsBut [.te, .mb, .msi] s t ∧ endsWith o (okRes []) s t ∧
      t.te = { s.te with engx := vmodN s.te.engx (ctl s) (fun v => { v with
        estimates := v.estimates ++ [{ tag := x, val := toSigned 64 (fieldLe p 16 8) }] }) }) ∧
    (ctlIn s .swClosed = false → ∃ t, exec (.phaseEst o) s = .next t ∧ onlyAnswers o (notPermitted 0x0005) s t))) ∧
  ((∀ (o : Origin) (p : List Byte) (s : State), commandAt s o 0x0224 = some p → fieldLe p 0 1 ≤ 1 → zeros p 1 3 = true →
    ∃ t r, exec (.modelGet o) s = .next t ∧ onlyAnswers o (okRes r) s t ∧ r = modelRecord s (fieldLe p 0 1) (fieldLe p 4 4) ∧
      r.length = 96 ∧ (fieldLe r 0 4).testBit 0 = (engxOf s (fieldLe p 0 1)).modelReady ∧ fieldLe r 88 8 = secOf s.clk.now % 2 ^ 64) ∧
  (∀ (o : Origin) (p : List Byte) (s : State), commandAt s o 0x0225 = some p → fieldLe p 0 1 ≤ 3 → zeros p 1 3 = true →
    ∃ t, exec (.modelReset o) s = .next t ∧ keepsBut [.te, .mb, .msi] s t ∧ endsWith o (okRes []) s t ∧ ∀ e, e < 2 →
      ((fieldLe p 0 1).testBit e = true → (engxOf t e).modelReady = false ∧ (engOf t e).learned = 0 ∧ (engOf t e).fit = {} ∧
        (engOf t e).model = { t0 := (engOf s e).model.t0 } ∧ (engOf t e).st = (engOf s e).st ∧ (engOf t e).y = (engOf s e).y) ∧
      ((fieldLe p 0 1).testBit e = false → engOf t e = engOf s e ∧ engxOf t e = engxOf s e)) ∧
  (∀ (o : Origin) (p : List Byte) (e : Nat) (s : State), commandAt s o 0x0226 = some p → e = fieldLe p 0 1 → e ≤ 1 →
    zeros p 1 3 = true →
    ((engxOf s e).health = 1 → ∃ t, exec (.engineClear o) s = .next t ∧ keepsBut [.te, .host, .mb, .msi, .pc] s t ∧
      replied o (okRes []) t ∧ (engxOf t e).health = 2 ∧ (engxOf t e).faultedAt = []) ∧
    ((engxOf s e).health ≠ 1 → ∃ t, exec (.engineClear o) s = .next t ∧ onlyAnswers o (okRes []) s t)))

/-- R449, R183, R184: TRIG_SCHEDULE queues an entry with the next handle at least 10 µs ahead, unless the domain is below On, the queue
full or a pulse would meet another; TRIG_CANCEL takes an entry, or all of them, from the queue. -/
def Obligations.TriggerCommands : Prop :=
  (∀ (o : Origin) (p : List Byte) (j w per x : Nat) (s : State), commandAt s o 0x0310 = some p → j = fieldLe p 0 1 → j ≤ 7 →
    w = fieldLe p 4 4 → per = fieldLe p 24 8 → fullOf (slice p 8 16) = some x → zeros p 1 3 = true → zeros p 36 4 = true →
    1 ≤ w → w ≤ 2 ^ 28 → s.clk.now + 10 * uUs ≤ x → (per = 0 ∨ (3200 + 1600 * w ≤ per ∧ per ≤ 1000000000000000)) →
    let e : TrigEntry := { handle := (trigOf s j).accepted % 65536, start := x, width := w, period := per, count := fieldLe p 32 4 }
    (domOn s 13 = true → (trigOf s j).queue = [] → (trigOf s j).last = none → ∃ t, exec (.trigSchedule o) s = .next t ∧
      keepsBut [.tio, .mb, .msi] s t ∧ endsWith o (okRes (le 4 e.handle)) s t ∧
      t.tio = { s.tio with trig := vmodN s.tio.trig j (fun t => { t with queue := [e], accepted := t.accepted + 1 }) }) ∧
    (domOn s 13 = false → ∃ t, exec (.trigSchedule o) s = .next t ∧ onlyAnswers o (notPermitted 0x0008) s t) ∧
    (domOn s 13 = true → 16 ≤ (trigOf s j).queue.length →
      ∃ t, exec (.trigSchedule o) s = .next t ∧ onlyAnswers o (notPermitted 0x000A) s t) ∧
    (domOn s 13 = true → (trigOf s j).queue.length < 16 → (∃ q ∈ (trigOf s j).queue, q.count = 0) →
      ∃ t, exec (.trigSchedule o) s = .next t ∧ onlyAnswers o (notPermitted 0x0006) s t)) ∧
  (∀ (o : Origin) (p : List Byte) (j : Nat) (s : State), commandAt s o 0x0311 = some p → j = fieldLe p 0 1 → j ≤ 7 →
    fieldLe p 1 1 ≤ 1 →
    ∃ t, exec (.trigCancel o) s = .next t ∧ keepsBut [.tio, .mb, .msi] s t ∧ endsWith o (okRes []) s t ∧
      t.tio = { s.tio with trig := vmodN s.tio.trig j (fun t => { t with
        queue := if fieldLe p 1 1 = 1 then [] else t.queue.filter (fun e => e.handle != fieldLe p 2 2) }) })

/-- R458: PORT_ADMIN enables a port, or disables one, which goes DOWN at once if it was UP; GROUP_RESET and LANE_RESET put their
scope in reset with the lanes OFF, or wait for a bank that is below On.

R458, R54 to R59, R232: LANE_TEST starts generator and checker, the checker's counts at 0, and takes a lane in READY or SLEEP to
TEST; a stop of both lets it acquire again; a sentinel, or a bank below On, refuses the start. EYE_SCAN starts a scan and waits for it;
LANE_RATE raises a permitted rate and never lowers it.

R459, R84 to R86: LAT_GET answers an entry's 40 bytes; LAT_SET writes one with the source and the seconds of now, and refuses the
sources 0 and 1. R110: PLUMB_GET answers a fabric port's link-delay results; another port is refused. -/
def Obligations.PortAndLaneCommands : Prop :=
  ((∀ (o : Origin) (p : List Byte) (n : Nat) (s : State), commandAt s o 0x0402 = some p → n = fieldLe p 0 1 → n < 192 →
    portUsed s n = true → zeros p 2 2 = true →
    (fieldLe p 1 1 = 1 → ∃ t, exec (.portAdmin o) s = .next t ∧ keepsBut [.port, .mb, .msi] s t ∧ endsWith o (okRes []) s t ∧
      portOf t n = { portOf s n with admin := true } ∧ otherPorts n s t) ∧
    (fieldLe p 1 1 = 0 → (portOf s n).st ≠ .up → (portOf s n).st ≠ .hold →
      ∃ t, exec (.portAdmin o) s = .next t ∧ keepsBut [.port, .mb, .msi] s t ∧ endsWith o (okRes []) s t ∧
        portOf t n = { portOf s n with admin := false } ∧ otherPorts n s t) ∧
    (fieldLe p 1 1 = 0 → ((portOf s n).st = .up ∨ (portOf s n).st = .hold) →
      ∃ t, exec (.portAdmin o) s = .next t ∧ keepsBut [.lane, .group, .port, .cal, .fwd, .q, .fab, .host, .mb, .msi, .pc] s t ∧
        replied o (okRes []) t ∧ (portOf t n).st = .down ∧ (portOf t n).admin = false ∧ (portOf t n).downCause = 6)) ∧
  (∀ (o : Origin) (p : List Byte) (g : Nat) (s : State), commandAt s o 0x0410 = some p → g = fieldLe p 0 1 → g < 24 →
    zeros p 1 3 = true → inChip s = false → vget s.rst.groups g false = false →
    (domOn s (bankOf g) = false → ∃ t, exec (.groupReset o) s = .next t ∧ keepsBut [.rst, .mb, .msi, .pc] s t ∧
      endsWith o (okRes []) s t ∧ t.rst = { s.rst with deferred := s.rst.deferred ++ [(4, g)] }) ∧
    (domOn s (bankOf g) = true → ∃ t, exec (.groupReset o) s = .next t ∧
      keepsBut [.lane, .group, .port, .tio, .ck, .cal, .fwd, .q, .fab, .rst, .host, .mb, .msi, .pc] s t ∧
      replied o (okRes []) t ∧ vget t.rst.groups g false = true ∧ ∀ n, n < 8 → (laneOf t (8 * g + n)).st = .off)) ∧
  (∀ (o : Origin) (p : List Byte) (l : Nat) (s : State), commandAt s o 0x0411 = some p → l = fieldLe p 0 1 → l < 192 →
    zeros p 1 3 = true → inChip s = false → vget s.rst.groups (l / 8) false = false → vget s.rst.lanes l false = false →
    (domOn s (bankOf (l / 8)) = false → ∃ t, exec (.laneReset o) s = .next t ∧ keepsBut [.rst, .mb, .msi, .pc] s t ∧
      endsWith o (okRes []) s t ∧ t.rst = { s.rst with deferred := s.rst.deferred ++ [(5, l)] }) ∧
    (domOn s (bankOf (l / 8)) = true → ∃ t, exec (.laneReset o) s = .next t ∧
      keepsBut [.lane, .group, .port, .cal, .fwd, .q, .fab, .rst, .host, .mb, .msi, .pc] s t ∧
      replied o (okRes []) t ∧ vget t.rst.lanes l false = true ∧ (laneOf t l).st = .off))) ∧
  ((∀ (o : Origin) (p : List Byte) (l b : Nat) (s : State), commandAt s o 0x0420 = some p → l = fieldLe p 0 1 → l < 192 →
    fieldLe p 1 1 < 4 → b = fieldLe p 3 1 → b % 16 < 9 → b < 32 →
    (fieldLe p 2 1 = 1 → sentinelOf s (l / 8) = some l → ∃ t, exec (.laneTest o) s = .next t ∧ onlyAnswers o (notPermitted 0x0010) s t) ∧
    ((fieldLe p 2 1 = 0 ∨ (fieldLe p 2 1 = 1 ∧ sentinelOf s (l / 8) ≠ some l)) → domOn s (bankOf (l / 8)) = false →
      ∃ t, exec (.laneTest o) s = .next t ∧ onlyAnswers o (notPermitted 0x0008) s t) ∧
    (fieldLe p 2 1 = 1 → sentinelOf s (l / 8) ≠ some l → domOn s (bankOf (l / 8)) = true →
      (((laneOf s l).st ≠ .ready ∧ (laneOf s l).st ≠ .sleep ∨ fieldLe p 1 1 = 0) → ∃ t, exec (.laneTest o) s = .next t ∧
        keepsBut [.lane, .mb, .msi] s t ∧ endsWith o (okRes []) s t ∧
        laneOf t l = { laneOf s l with
          pat := patStart ((fieldLe p 1 1).testBit 0) ((fieldLe p 1 1).testBit 1) (b % 16) (b.testBit 4)
            (BitVec.ofNat 32 (fieldLe p 4 4)) (laneOf s l).pat } ∧ otherLanes l s t) ∧
      ((laneOf s l).st = .ready ∨ (laneOf s l).st = .sleep → fieldLe p 1 1 ≠ 0 → ∃ t, exec (.laneTest o) s = .next t ∧
        keepsBut [.lane, .group, .port, .cal, .fwd, .q, .fab, .host, .mb, .msi, .pc] s t ∧ replied o (okRes []) t ∧
        (laneOf t l).st = .test ∧ (laneOf t l).cdrLock = true ∧ (laneOf t l).pat =
          patStart ((fieldLe p 1 1).testBit 0) ((fieldLe p 1 1).testBit 1) (b % 16) (b.testBit 4)
            (BitVec.ofNat 32 (fieldLe p 4 4)) (laneOf s l).pat)) ∧
    (fieldLe p 2 1 = 0 → fieldLe p 1 1 = 3 → domOn s (bankOf (l / 8)) = true →
      ((laneOf s l).st = .test →
        ∃ t, exec (.laneTest o) s = .next t ∧ keepsBut [.lane, .cal, .host, .mb, .msi, .pc, .free] s t ∧ replied o (okRes []) t ∧
          (laneOf t l).st = .acquire ∧ (laneOf t l).pat.genOn = false ∧ (laneOf t l).pat.chkOn = false) ∧
      ((laneOf s l).st ≠ .test →
        ∃ t, exec (.laneTest o) s = .next t ∧ keepsBut [.lane, .mb, .msi] s t ∧ endsWith o (okRes []) s t ∧
          laneOf t l = { laneOf s l with pat := { (laneOf s l).pat with genOn := false, chkOn := false, chkSync := false } }))) ∧
  (∀ (o : Origin) (p : List Byte) (l : Nat) (s : State), commandAt s o 0x0421 = some p → l = fieldLe p 0 1 → l < 192 →
    zeros p 1 3 = true →
    (domOn s (bankOf (l / 8)) = false → ∃ t, exec (.eyeScan o) s = .next t ∧ onlyAnswers o (notPermitted 0x0008) s t) ∧
    (domOn s (bankOf (l / 8)) = true → ∃ t, exec (.eyeScan o) s = .next t ∧ keepsBut [.lane, .mb, .msi] s t ∧ waits o (.eye l) t ∧
      otherLanes l s t ∧ ((laneOf s l).st = .ready → (laneOf t l).eye.running = true) ∧
      ((laneOf s l).st ≠ .ready → (laneOf t l).eye.valid = false ∧ (laneOf t l).eye.running = (laneOf s l).eye.running))) ∧
  (∀ (o : Origin) (p : List Byte) (l c : Nat) (s : State), commandAt s o 0x0422 = some p → l = fieldLe p 0 1 → l < 192 →
    c = fieldLe p 1 1 → c ≤ 3 → zeros p 2 2 = true →
    ∃ t, exec (.laneRate o) s = .next t ∧ keepsBut [.wx, .mb, .msi] s t ∧ endsWith o (okRes (le 4 (max c (vget s.wx.permitted l 3)))) s t ∧
      vget t.wx.permitted l 3 = max c (vget s.wx.permitted l 3) ∧ vget t.wx.below l 0 = 0 ∧
      ∀ m, m ≠ l → vget t.wx.permitted m 3 = vget s.wx.permitted m 3)) ∧
  ((∀ (o : Origin) (p : List Byte) (l k : Nat) (s : State), commandAt s o 0x0430 = some p → l = fieldLe p 0 1 → l < 192 →
    k = fieldLe p 1 1 → k ≤ 5 → zeros p 2 2 = true →
    ∃ t r, exec (.latGet o) s = .next t ∧ onlyAnswers o (okRes r) s t ∧ r.length = 40 ∧
      fieldLe r 0 8 = ofSigned 64 (latEntry s l k).txLat ∧ fieldLe r 8 8 = ofSigned 64 (latEntry s l k).rxLat ∧
      fieldLe r 16 4 = ofSigned 32 (latEntry s l k).tcTx ∧ fieldLe r 20 4 = ofSigned 32 (latEntry s l k).tcRx ∧
      fieldLe r 24 2 = ofSigned 16 (latEntry s l k).tRef ∧ fieldLe r 26 2 = (latEntry s l k).source % 65536 ∧
      fieldLe r 28 6 = (latEntry s l k).calSec % 2 ^ 48 ∧ fieldLe r 34 6 = 0) ∧
  (∀ (o : Origin) (p : List Byte) (l k : Nat) (s : State), commandAt s o 0x0431 = some p → l = fieldLe p 0 1 → l < 192 →
    k = fieldLe p 1 1 → k ≤ 5 → zeros p 2 2 = true → zeros p 31 1 = true → zeros p 38 6 = true →
    (fieldLe p 30 1 < 2 → ∃ t, exec (.latSet o) s = .next t ∧ onlyAnswers o (notPermitted 0x0012) s t) ∧
    ((fieldLe p 30 1 = 3 ∨ fieldLe p 30 1 = 4) → ∃ t, exec (.latSet o) s = .next t ∧ keepsBut [.lane, .mb, .msi] s t ∧
      endsWith o (okRes []) s t ∧ otherLanes l s t ∧ (laneOf t l).st = (laneOf s l).st ∧ (laneOf t l).ph = (laneOf s l).ph ∧
      (laneOf t l).lat.sets = vmodN (laneOf s l).lat.sets k (fun _ => {
        txLat := toSigned 64 (fieldLe p 4 8), rxLat := toSigned 64 (fieldLe p 12 8), tcTx := toSigned 32 (fieldLe p 20 4)
        tcRx := toSigned 32 (fieldLe p 24 4), tRef := toSigned 16 (fieldLe p 28 2), source := fieldLe p 30 1
        calSec := secOf s.clk.now }))) ∧
  (∀ (o : Origin) (p : List Byte) (n : Nat) (s : State), commandAt s o 0x0440 = some p → n = fieldLe p 0 1 → n < 192 →
    portUsed s n = true → zeros p 1 3 = true →
    (kindFab s n = false → ∃ t, exec (.plumbGet o) s = .next t ∧ onlyAnswers o (notPermitted 0x0017) s t) ∧
    (kindFab s n = true → ∃ t r, exec (.plumbGet o) s = .next t ∧ onlyAnswers o (okRes r) s t ∧
      r.length = 24 + 16 * laneCount s n ∧ fieldLe r 0 4 = (ldStatus s n).toNat ∧
      fieldLe r 4 4 = (portOf s n).ld.resid % 2 ^ 32 ∧ fieldLe r 8 4 = (portOf s n).ld.sigma % 2 ^ 32 ∧
      fieldLe r 12 4 = (portOf s n).ld.geom % 2 ^ 32 ∧
      fieldLe r 16 8 = (if isSelfSpan s n then ofSigned 64 (portOf s n).ld.biasMeas else 0) ∧
      ∀ i, i < laneCount s n → fieldLe r (24 + 16 * i) 8 = ofSigned 64 (roundAway (laneOf s (n + i)).ld.delta))))

/-- R461, R270 to R273: L2_WRITE puts a static entry into a way of its key's bucket, in Obilwin's copy and in D10's unless D10 is Off, and is
refused where no way is free of static entries; L2_DELETE takes out the key's entry and says whether there was one; L2_FLUSH takes
out the learned entries of its scope, counts them and leaves every static one.

R461, R265 to R269: CTX_WRITE stores a context in both copies, fills its buckets and leaves its statistics; a context that an admitted
stream holds is refused. CTX_STATS_GET answers the four counts.

R461, R263, R264, R278, R298: MATCH_WRITE, VID_WRITE and MCAST_WRITE store an entry or take it out; a multicast entry keeps its
count of dropped copies; MAP_WRITE and WRED_SET put a map or a profile in force and save it. -/
def Obligations.ForwardingCommands : Prop :=
  ((∀ (o : Origin) (p : List Byte) (vid mac : Nat) (s : State), commandAt s o 0x0510 = some p → vid = fieldLe p 0 2 → mac = fieldBe p 2 6 →
    vid ≤ 4095 → fieldLe p 8 1 ≤ 3 → zeros p 9 3 = true → l2Bad s (fieldLe p 8 1) (fieldLe p 12 4) = false →
    (l2Place (l2Table s) vid mac = none → ∃ t, exec (.l2Write o) s = .next t ∧ onlyAnswers o (notPermitted 0x0016) s t) ∧
    (∀ i, l2Place (l2Table s) vid mac = some i →
      let e : L2Entry := { static := true, hit := false, kind := fieldLe p 8 1, vid, mac, result := fieldLe p 12 4 }
      ∃ t, exec (.l2Write o) s = .next t ∧ keepsBut [.fwd, .mb, .msi] s t ∧ endsWith o (okRes []) s t ∧
        Tbl.get t.fwd.golden.l2 i = some e ∧ (∀ j, j ≠ i → Tbl.get t.fwd.golden.l2 j = Tbl.get s.fwd.golden.l2 j) ∧
        ((vget s.pm.dom 10 {}).st ≠ .off → Tbl.get t.fwd.hw.l2 i = some e ∧
          ∀ j, j ≠ i → Tbl.get t.fwd.hw.l2 j = Tbl.get s.fwd.hw.l2 j) ∧
        ((vget s.pm.dom 10 {}).st = .off → t.fwd.hw = s.fwd.hw))) ∧
  (∀ (o : Origin) (p : List Byte) (s : State), commandAt s o 0x0511 = some p → fieldLe p 0 2 ≤ 4095 →
    (l2Find (l2Table s) (fieldLe p 0 2) (fieldBe p 2 6) = none →
      ∃ t, exec (.l2Delete o) s = .next t ∧ onlyAnswers o (okRes (le 4 0)) s t) ∧
    (∀ i, l2Find (l2Table s) (fieldLe p 0 2) (fieldBe p 2 6) = some i →
      ∃ t, exec (.l2Delete o) s = .next t ∧ keepsBut [.fwd, .mb, .msi] s t ∧ endsWith o (okRes (le 4 1)) s t ∧
        Tbl.get t.fwd.golden.l2 i = none ∧ ∀ j, j ≠ i → Tbl.get t.fwd.golden.l2 j = Tbl.get s.fwd.golden.l2 j)) ∧
  (∀ (o : Origin) (p : List Byte) (s : State), commandAt s o 0x0512 = some p → fieldLe p 0 1 ≤ 2 → zeros p 1 3 = true →
    (fieldLe p 0 1 = 0 → fieldLe p 4 4 = 0) → (fieldLe p 0 1 = 1 → fieldLe p 4 4 ≤ 191) → (fieldLe p 0 1 = 2 → fieldLe p 4 4 ≤ 4095) →
    ∃ t, exec (.l2Flush o) s = .next t ∧ keepsBut [.fwd, .mb, .msi] s t ∧
      endsWith o (okRes (le 4 (s.fwd.hw.l2.length - t.fwd.hw.l2.length))) s t ∧
      t.fwd = { s.fwd with hw := { s.fwd.hw with l2 := t.fwd.hw.l2 } } ∧
      (∀ e ∈ s.fwd.hw.l2, e.2.static = true → e ∈ t.fwd.hw.l2) ∧ (∀ e ∈ t.fwd.hw.l2, e ∈ s.fwd.hw.l2) ∧
      (fieldLe p 0 1 = 0 → ∀ e ∈ t.fwd.hw.l2, e.2.static = true) ∧
      (fieldLe p 0 1 = 1 → ∀ e ∈ t.fwd.hw.l2, e.2.static = false → ¬(e.2.kind = 0 ∧ e.2.result = fieldLe p 4 4)) ∧
      (fieldLe p 0 1 = 2 → ∀ e ∈ t.fwd.hw.l2, e.2.static = false → e.2.vid ≠ fieldLe p 4 4))) ∧
  ((∀ (o : Origin) (p : List Byte) (i cir pir cbs pbs : Nat) (s : State), commandAt s o 0x0520 = some p → i = fieldLe p 0 2 → 1 ≤ i →
    i ≤ 4095 → fieldLe p 3 1 = 0 → zeros p 4 4 = true → cir = fieldLe p 8 4 → pir = fieldLe p 12 4 → cbs = fieldLe p 16 4 →
    pbs = fieldLe p 20 4 → cir ≤ pir → pir ≤ 3125000 → 1518 ≤ cbs → cbs < 2 ^ 24 → 1518 ≤ pbs → pbs < 2 ^ 24 →
    (ctxHeld s i = true → ∃ t, exec (.ctxWrite o) s = .next t ∧ onlyAnswers o (notPermitted 0x0013) s t) ∧
    (ctxHeld s i = false → ∃ t c x, exec (.ctxWrite o) s = .next t ∧ keepsBut [.fwd, .mb, .msi] s t ∧ endsWith o (okRes []) s t ∧
      Tbl.get t.fwd.golden.ctx i = some c ∧ ((vget s.pm.dom 10 {}).st ≠ .off → Tbl.get t.fwd.hw.ctx i = some c) ∧
      c.valid = (fieldLe p 2 1).testBit 0 ∧ c.tcOvrEn = (fieldLe p 2 1).testBit 1 ∧ c.tcOvr = bits (fieldLe p 2 1) 2 3 ∧
      c.police = (fieldLe p 2 1).testBit 5 ∧ c.aware = (fieldLe p 2 1).testBit 6 ∧ c.pass = (fieldLe p 2 1).testBit 7 ∧
      c.cir = cir ∧ c.pir = pir ∧ c.cbs = cbs ∧ c.pbs = pbs ∧
      Tbl.get t.fwd.live i = some x ∧ x.tc = (cbs : Rat) ∧ x.tp = (pbs : Rat) ∧ x.asOf = s.clk.elapsed ∧
      (∀ y, Tbl.get s.fwd.live i = some y → x.green = y.green ∧ x.yellow = y.yellow ∧ x.red = y.red ∧ x.octets = y.octets) ∧
      (∀ j, j ≠ i → Tbl.get t.fwd.golden.ctx j = Tbl.get s.fwd.golden.ctx j ∧ Tbl.get t.fwd.live j = Tbl.get s.fwd.live j))) ∧
  (∀ (o : Origin) (p : List Byte) (x : CtxLive) (s : State), commandAt s o 0x0521 = some p → 1 ≤ fieldLe p 0 2 → fieldLe p 0 2 ≤ 4095 →
    zeros p 2 2 = true → Tbl.get s.fwd.live (fieldLe p 0 2) = some x →
    ∃ t, exec (.ctxStatsGet o) s = .next t ∧ onlyAnswers o (okRes (le 8 x.green ++ le 8 x.yellow ++ le 8 x.red ++ le 8 x.octets)) s t)) ∧
  ((∀ (o : Origin) (p : List Byte) (i : Nat) (e : MatchEntry) (s : State), commandAt s o 0x0522 = some p → i = fieldLe p 0 2 → i ≤ 8191 →
    e = { port := fieldLe p 3 1, mac := fieldLe p 4 6, vid := fieldLe p 10 2, ctx := fieldLe p 12 2 } → fieldLe p 2 1 ≤ 1 →
    e.port ≤ 191 → e.vid ≤ 4095 → e.ctx ≤ 4095 → zeros p 14 2 = true →
    ∃ t, exec (.matchWrite o) s = .next t ∧ keepsBut [.fwd, .mb, .msi] s t ∧ endsWith o (okRes []) s t ∧
      Tbl.get t.fwd.golden.mat i = (if fieldLe p 2 1 = 1 then some e else none) ∧
      ((vget s.pm.dom 10 {}).st ≠ .off → Tbl.get t.fwd.hw.mat i = (if fieldLe p 2 1 = 1 then some e else none)) ∧
      ∀ j, j ≠ i → Tbl.get t.fwd.golden.mat j = Tbl.get s.fwd.golden.mat j ∧ Tbl.get t.fwd.hw.mat j = Tbl.get s.fwd.hw.mat j) ∧
  (∀ (o : Origin) (p : List Byte) (i : Nat) (s : State), commandAt s o 0x0530 = some p → i = fieldLe p 0 2 → i ≤ 4095 →
    fieldLe p 2 1 ≤ 3 → fieldLe p 3 1 = 0 → fieldLe p 4 4 ≤ 16383 →
    ∃ t, exec (.vidWrite o) s = .next t ∧ keepsBut [.fwd, .mb, .msi] s t ∧ endsWith o (okRes []) s t ∧
      (Tbl.get t.fwd.golden.vid i).isSome = (fieldLe p 2 1).testBit 0 ∧
      (∀ v, Tbl.get t.fwd.golden.vid i = some v → v.learn = (fieldLe p 2 1).testBit 1 ∧ v.flood = fieldLe p 4 4) ∧
      ∀ j, j ≠ i → Tbl.get t.fwd.golden.vid j = Tbl.get s.fwd.golden.vid j ∧ Tbl.get t.fwd.hw.vid j = Tbl.get s.fwd.hw.vid j) ∧
  (∀ (o : Origin) (p : List Byte) (i : Nat) (s : State), commandAt s o 0x0531 = some p → i = fieldLe p 0 2 → i ≤ 16383 →
    fieldLe p 2 1 ≤ 1 → fieldLe p 3 1 = 0 →
    ∃ t, exec (.mcastWrite o) s = .next t ∧ keepsBut [.fwd, .mb, .msi] s t ∧ endsWith o (okRes []) s t ∧
      (∃ e, Tbl.get t.fwd.golden.mcast i = some e ∧ e.valid = (fieldLe p 2 1 == 1) ∧ e.mask = BitVec.ofNat 192 (fieldLe p 4 24) ∧
        e.drops = ((Tbl.get s.fwd.golden.mcast i).map (fun x => x.drops)).getD 0) ∧
      ∀ j, j ≠ i → Tbl.get t.fwd.golden.mcast j = Tbl.get s.fwd.golden.mcast j) ∧
  (∀ (o : Origin) (p : List Byte) (q : Nat) (s : State), commandAt s o 0x0532 = some p → q = fieldLe p 1 1 → zeros p 2 2 = true →
    (fieldLe p 0 1 = 0 → q ≤ 191 → (∀ k, k < 8 → fieldLe p (4 + k) 1 ≤ 7) →
      ∃ t, exec (.mapWrite o) s = .next t ∧ keepsBut [.fwd, .boot, .mb, .msi] s t ∧ endsWith o (okRes []) s t ∧
        t.fwd = { s.fwd with pcp := t.fwd.pcp } ∧ (∀ k, k < 8 → Tbl.get t.fwd.pcp (q * 8 + k) = some (fieldLe p (4 + k) 1)) ∧
        (∀ k, (k < q * 8 ∨ q * 8 + 8 ≤ k) → Tbl.get t.fwd.pcp k = Tbl.get s.fwd.pcp k) ∧
        t.boot.saved.map (fun c => c.pcp) = some t.fwd.pcp) ∧
    (∀ m, fieldLe p 0 1 = m + 1 → m ≤ 3 → q = 0 → (∀ k, k < 64 → fieldLe p (4 + k) 1 ≤ 7) →
      ∃ t, exec (.mapWrite o) s = .next t ∧ keepsBut [.fwd, .boot, .mb, .msi] s t ∧ endsWith o (okRes []) s t ∧
        t.fwd = { s.fwd with dscp := t.fwd.dscp } ∧ (∀ k, k < 64 → Tbl.get t.fwd.dscp (m * 64 + k) = some (fieldLe p (4 + k) 1)) ∧
        (∀ k, (k < m * 64 ∨ m * 64 + 64 ≤ k) → Tbl.get t.fwd.dscp k = Tbl.get s.fwd.dscp k))) ∧
  (∀ (o : Origin) (p : List Byte) (i : Nat) (w : Wred) (s : State), commandAt s o 0x0540 = some p → i = fieldLe p 0 1 → i ≤ 15 →
    w = { weight := fieldLe p 1 1, pmaxDen := fieldLe p 2 2, minTh := fieldLe p 4 4, maxTh := fieldLe p 8 4 } → w.weight ≤ 15 →
    1 ≤ w.pmaxDen → w.pmaxDen ≤ 1024 → w.minTh < w.maxTh → w.maxTh ≤ 24576 →
    ∃ t, exec (.wredSet o) s = .next t ∧ keepsBut [.q, .boot, .mb, .msi] s t ∧ endsWith o (okRes []) s t ∧
      t.q = { s.q with wred := vmodN s.q.wred i (fun _ => w) } ∧ t.boot.saved.map (fun c => c.wred) = some t.q.wred))

/-- R464: CAL_ADMIT installs the plan found, answers it, and remembers the stream with its switch ordered for one course; a plan that does
not exist is refused. CAL_WITHDRAW orders a stream out at a course ahead; COURSE_SET waits for the next whole second and is refused
while a stream stands; CAL_LIST_GET answers the reservations. -/
def Obligations.CalendarCommands : Prop :=
  (∀ (o : Origin) (p : List Byte) (s : State), commandAt s o 0x0601 = some p → bits (fieldLe p 0 4) 18 6 = 0 →
    bits (fieldLe p 4 4) 18 5 = 0 → 64 ≤ fieldLe p 8 2 → fieldLe p 8 2 ≤ 16383 → 1 ≤ fieldLe p 10 1 → fieldLe p 10 1 ≤ 16 →
    fieldLe p 11 1 < 4 → ((fieldLe p 11 1).testBit 0 = true → (fieldLe p 4 4).testBit 23 = false ∧ pathBad s p = none) →
    ((fieldLe p 11 1).testBit 1 = true → s.cald.running = true →
      fieldLe p 12 4 + (fieldLe p 10 1 - 1) * fieldLe p 16 4 < coursePeriods s) → (fieldLe p 10 1 = 1 → fieldLe p 16 4 = 0) →
    s.cald.streams.any (fun x => x.id == fieldLe p 20 4) = false →
    (∀ d, planStream s p (streamIdFor s p) true = .inl d → ∃ t, exec (.calAdmit o) s = .next t ∧ keepsBut [.free, .mb, .msi] s t ∧
      endsWith o (notPermitted d) s t) ∧
    (∀ x, planStream s p (streamIdFor s p) true = .inr x → switchOrdered s (planPorts x) = true →
      ∃ t, exec (.calAdmit o) s = .next t ∧ keepsBut [.free, .mb, .msi] s t ∧
        endsWith o { status := stBusy, detail := 0xFFFF } s t) ∧
    (∀ x, planStream s p (streamIdFor s p) true = .inr x → switchOrdered s (planPorts x) = false →
      (∀ h ∈ x.hops, h.dev = ownAddr s) →
      ∃ t, exec (.calAdmit o) s = .next t ∧ keepsBut [.fwd, .cald, .free, .host, .mb, .msi, .pc] s t ∧
        replied o (okRes (planBytes x (fieldLe p 10 1))) t ∧
        (∃ y ∈ t.cald.streams, y.id = x.stream ∧ y.ctx = x.ctx ∧ y.resv = x.resv ∧ y.course = x.course ∧ y.request = p) ∧
        (∃ a ∈ t.cald.acts, a.stream = x.stream ∧ a.course = x.course ∧ a.install = true ∧ a.waiting = []) ∧
        (x.hops ≠ [] → Tbl.get t.cald.resv x.resv ≠ none ∧ (Tbl.get t.fwd.golden.ctx x.ctx).map (fun c => c.cal) = some true)) ∧
    (∀ x, planStream s p (streamIdFor s p) true = .inr x → switchOrdered s (planPorts x) = false →
      (∃ h ∈ x.hops, h.dev ≠ ownAddr s) →
      ∃ t, exec (.calAdmit o) s = .next t ∧ keepsBut [.fwd, .cald, .fab, .free, .mb, .msi] s t ∧
        waits o (.stream x.stream (planBytes x (fieldLe p 10 1))) t ∧
        ∃ a ∈ t.cald.acts, a.stream = x.stream ∧ a.course = x.course ∧ a.install = true ∧
          a.waiting = ((x.hops.map (fun h => h.dev)).filter (· != ownAddr s)).dedup)) ∧
  (∀ (o : Origin) (p : List Byte) (s : State), commandAt s o 0x0602 = some p →
    (s.cald.streams.find? (fun x => x.id == fieldLe p 0 4) = none →
      ∃ t, exec (.calWithdraw o) s = .next t ∧ onlyAnswers o (badParam 0) s t) ∧
    (∀ x, s.cald.streams.find? (fun x => x.id == fieldLe p 0 4) = some x → switchOrdered s x.ports = true →
      ∃ t, exec (.calWithdraw o) s = .next t ∧ onlyAnswers o { status := stBusy, detail := 0xFFFF } s t) ∧
    (∀ x, s.cald.streams.find? (fun x => x.id == fieldLe p 0 4) = some x → switchOrdered s x.ports = false →
      ∃ t, exec (.calWithdraw o) s = .next t ∧ keepsBut [.cald, .fab, .host, .mb, .msi, .pc] s t ∧
        t.cald.streams = s.cald.streams ∧ (x.devices = [] → t.fab = s.fab) ∧
        (∃ a ∈ t.cald.acts, a.stream = x.id ∧ a.course = courseAhead s ∧ a.install = false ∧ a.waiting = x.devices) ∧
        (x.devices = [] → replied o (okRes (le 4 (courseAhead s))) t) ∧
        (x.devices ≠ [] → waits o (.stream x.id (le 4 (courseAhead s))) t))) ∧
  (∀ (o : Origin) (p : List Byte) (s : State), commandAt s o 0x0603 = some p → 1000 ≤ fieldLe p 0 4 → fieldLe p 0 4 ≤ 8192000 →
    fieldLe p 4 4 < fieldLe p 0 4 →
    ((s.cald.resv ≠ [] ∨ s.cald.streams ≠ []) → ∃ t, exec (.courseSet o) s = .next t ∧ onlyAnswers o (notPermitted 0x0014) s t) ∧
    (s.cald.resv = [] → s.cald.streams = [] → ∃ t, exec (.courseSet o) s = .next t ∧ keepsBut [.cald, .mb, .msi] s t ∧
      endsWith o (okRes []) s t ∧ t.cald = { s.cald with pending := some (fieldLe p 0 4, fieldLe p 4 4) })) ∧
  (∀ (o : Origin) (p : List Byte) (s : State), commandAt s o 0x0604 = some p → fieldLe p 0 4 ≤ 1023 →
    ∃ t r, exec (.calListGet o) s = .next t ∧ onlyAnswers o (okRes r) s t ∧
      fieldLe r 0 4 = min 254 (s.cald.resv.filter (fun x => decide (fieldLe p 0 4 ≤ x.1))).length ∧
      r.length = 4 + 16 * fieldLe r 0 4)

/-- R465: REMOTE_CMD relays a whole command to another device and waits; this device's own address is out of range. FAB_DB_GET answers a
scope's records, as many as fit. R491: PC_MAP points a counter at an event and clears it. R496: HEALTH_GET with FIRST 0 builds a
snapshot and answers its head; another FIRST reads on in it. R466: WEATHER_GET answers history records from the oldest on. -/
def Obligations.FabricAndReportCommands : Prop :=
  (∀ (o : Origin) (p : List Byte) (s : State), commandAt s o 0x0710 = some p →
    (fieldLe p 0 4 = ownAddr s → ∃ t, exec (.remoteCmd o) s = .next t ∧ onlyAnswers o (badParam 0) s t) ∧
    (fieldLe p 0 4 < 2 ^ 18 → fieldLe p 0 4 ≠ ownAddr s → ∃ t m r, exec (.remoteCmd o) s = .next t ∧ keepsBut [.fab, .mb, .msi] s t ∧
      waits o .relay t ∧ t.fab = { s.fab with nextXid := (s.fab.nextXid + 1) % 65536, sent := m :: s.fab.sent, relays := s.fab.relays ++ [r] } ∧
      m.dest = fieldLe p 0 4 ∧ m.type = 2 ∧ m.kind = 0 ∧ m.xid = s.fab.nextXid ∧ m.mflags = 1 ∧ m.body = p.drop 4 ∧
      r.origin = o ∧ r.xid = s.fab.nextXid ∧ r.target = fieldLe p 0 4 ∧ r.sends = 1 ∧ r.attest = false)) ∧
  (∀ (o : Origin) (p : List Byte) (s : State), commandAt s o 0x0720 = some p → 1 ≤ fieldLe p 0 1 → fieldLe p 0 1 ≤ 3 →
    zeros p 1 3 = true →
    let all := s.fab.records.filter (fun r => r.body.scope == fieldLe p 0 1)
    ∃ t r n, exec (.fabDbGet o) s = .next t ∧ onlyAnswers o (okRes r) s t ∧ fieldLe r 0 4 = all.length % 2 ^ 32 ∧
      fieldLe r 4 4 = n ∧ n ≤ all.length - fieldLe p 4 4 ∧ r.length ≤ 4080 ∧
      (∀ x, (all.drop (fieldLe p 4 4 + n)).head? = some x → 4080 < r.length + (recBytes x.body (min (ageOf s x) 65535)).length) ∧
      r.drop 8 = (((all.drop (fieldLe p 4 4)).take n).map (fun x => recBytes x.body (min (ageOf s x) 65535))).flatten) ∧
  (∀ (o : Origin) (p : List Byte) (n ev : Nat) (s : State), commandAt s o 0x0801 = some p → n = fieldLe p 0 2 → ev = fieldLe p 2 2 →
    n ≤ 1023 → (ev < 1024 ∨ ev = 0xFFFF ∨ (ev = 0xFFFE ∧ n ≠ 0)) →
    ∃ t, exec (.pcMap o) s = .next t ∧ keepsBut [.pc, .mb, .msi] s t ∧ endsWith o (okRes []) s t ∧
      t.pc = { s.pc with pc := vmodN s.pc.pc n (fun _ => { event := if ev = 0xFFFF then n else ev }) }) ∧
  (∀ (c : Fin 4) (p : List Byte) (s : State), commandAt s (.host c) 0x0802 = some p →
    (fieldLe p 0 4 = 0 →
      let n := ((chanOf s c.val).healthSeq + 1) % 2 ^ 32
      ∃ t, exec (.healthGet (.host c)) s = .next t ∧ keepsBut [.mb, .msi] s t ∧
        (chanOf t c.val).healthSeq = n ∧ (chanOf t c.val).health = healthReport n s ∧
        replied (.host c) (okRes (le 4 (healthReport n s).length ++ le 4 n ++ (healthReport n s).take 4064)) t ∧
        ∀ d, d ≠ c.val → chanOf t d = chanOf s d) ∧
    (fieldLe p 0 4 ≠ 0 → (chanOf s c.val).health ≠ [] → ∃ t, exec (.healthGet (.host c)) s = .next t ∧
      onlyAnswers (.host c) (okRes (le 4 (chanOf s c.val).health.length ++ le 4 (chanOf s c.val).healthSeq ++
        ((chanOf s c.val).health.drop (fieldLe p 0 4)).take 4064)) s t) ∧
    (fieldLe p 0 4 ≠ 0 → (chanOf s c.val).health = [] → ∃ t, exec (.healthGet (.host c)) s = .next t ∧
      onlyAnswers (.host c) (badParam 0) s t)) ∧
  (∀ (src xid : Nat) (p : List Byte) (q : RemoteSeq) (s : State), commandAt s (.remote src xid) 0x0802 = some p →
    s.fab.remotes.find? (fun r => r.source == src) = some q → fieldLe p 0 4 = 0 →
    let n := (q.healthSeq + 1) % 2 ^ 32
    ∃ t, exec (.healthGet (.remote src xid)) s = .next t ∧ keepsBut [.fab, .mb, .msi] s t ∧
      t.fab = { s.fab with remotes := t.fab.remotes } ∧
      endsWith (.remote src xid) (okRes (le 4 (healthReport n s).length ++ le 4 n ++ (healthReport n s).take 4064)) s t) ∧
  (∀ (o : Origin) (p : List Byte) (s : State), commandAt s o 0x0803 = some p → fieldLe p 0 1 ≤ 1 → zeros p 1 3 = true →
    ∃ t r, exec (.weatherGet o) s = .next t ∧ keepsBut [.free, .mb, .msi] s t ∧ endsWith o (okRes r) s t ∧
      r.drop 4 = ((((if fieldLe p 0 1 = 0 then s.wx.hourly else s.wx.daily).reverse).drop (fieldLe p 4 4)).take 63).flatMap (fun w => w.bytes))

/-- R467, R483, R484: SPDM_MSG answers one message of channel 3's connection: a request that is not offered, or out of order, gets an
ERROR (its codes, and the frames of DIGESTS and CERTIFICATE for slot 0 of R482, are PRESUMED from DSP0274, log entry 46). R352: SPDM_REMOTE sends the message to another device as an attestation request and waits. -/
def Obligations.AttestationCommands : Prop :=
  (∀ (o : Origin) (p : List Byte) (s : State), commandAt s o 0x0901 = some p → zeros p 2 2 = true →
    let m := slice p 4 (fieldLe p 0 2)
    ∃ t r, exec (.spdmMsg o) s = .next t ∧ keepsBut [.boot, .mb, .msi, .free] s t ∧ endsWith o (okRes (spdmPayload r)) s t ∧
      t.boot = { s.boot with conns := t.boot.conns } ∧ r.length ≤ 4072 ∧ (m.length < 4 → r = [0x12, 0x7F, 1, 0]) ∧
      (4 ≤ m.length → spdmInOrder (connOf s chan3).seen (fieldLe m 1 1) = true →
        (fieldLe m 1 1 = 0x81 → r = digests s) ∧ (fieldLe m 1 1 = 0x82 → r = certificate s m)) ∧
      (4 ≤ m.length → fieldLe m 1 1 ∉ spdmOffered → r = [0x12, 0x7F, 7, BitVec.ofNat 8 (fieldLe m 1 1)]) ∧
      (4 ≤ m.length → fieldLe m 1 1 ∈ spdmOffered → spdmInOrder (connOf s chan3).seen (fieldLe m 1 1) = false →
        r = [0x12, 0x7F, 4, 0] ∧ (connOf t chan3).seen = (connOf s chan3).seen) ∧
      (4 ≤ m.length → fieldLe m 1 1 = spdmVersion → (connOf t chan3).seen = [spdmVersion])) ∧
  (∀ (o : Origin) (p : List Byte) (s : State), commandAt s o 0x0902 = some p → fieldLe p 0 4 < 2 ^ 18 → fieldLe p 0 4 ≠ ownAddr s →
    zeros p 6 2 = true →
    ∃ t m r, exec (.spdmRemote o) s = .next t ∧ keepsBut [.fab, .mb, .msi] s t ∧ waits o .relay t ∧
      t.fab = { s.fab with nextXid := (s.fab.nextXid + 1) % 65536, sent := m :: s.fab.sent, relays := s.fab.relays ++ [r] } ∧
      m.dest = fieldLe p 0 4 ∧ m.type = 3 ∧ m.kind = 0 ∧ m.body = slice p 8 (fieldLe p 4 2) ∧
      r.origin = o ∧ r.xid = s.fab.nextXid ∧ r.target = fieldLe p 0 4 ∧ r.attest = true)

/-- R467, R477, R478: FW_OPEN empties a slot that is not the running image's and opens a session; FW_WRITE takes the next bytes; FW_CLOSE
ends the session with the slot's digest and version; FW_ACTIVATE makes a slot the trial of the next start; FW_COMMIT raises the
rollback counter to the running image's major number and never lowers it. -/
def Obligations.FirmwareCommands : Prop :=
  (∀ (o : Origin) (p : List Byte) (k n : Nat) (s : State), commandAt s o 0x0910 = some p → k = fieldLe p 0 1 → n = fieldLe p 4 4 →
    k ≤ 1 → zeros p 1 3 = true → n ≤ slotSize s → n ≤ 2 ^ 23 →
    (s.boot.stage = 2 → s.boot.slot = k → ∃ t, exec (.fwOpen o) s = .next t ∧ onlyAnswers o (notPermitted 0x0018) s t) ∧
    (¬(s.boot.stage = 2 ∧ s.boot.slot = k) → s.boot.update = none → ∃ t, exec (.fwOpen o) s = .next t ∧
      keepsBut [.boot, .mb, .msi] s t ∧ endsWith o (okRes []) s t ∧
      t.boot = { s.boot with update := some (k, n, 0), slots := vmodN s.boot.slots k (fun _ => { openBytes := some 0 }) }) ∧
    (∀ j m w, ¬(s.boot.stage = 2 ∧ s.boot.slot = k) → s.boot.update = some (j, m, w) → ∃ t, exec (.fwOpen o) s = .next t ∧
      keepsBut [.boot, .mb, .msi] s t ∧ endsWith o (okRes []) s t ∧
      t.boot = { s.boot with
        update := some (k, n, 0), slots := vmodN (vmodN s.boot.slots j (fun _ => {})) k (fun _ => { openBytes := some 0 }) })) ∧
  (∀ (o : Origin) (p : List Byte) (s : State), commandAt s o 0x0911 = some p →
    (s.boot.update = none → ∃ t, exec (.fwWrite o) s = .next t ∧ onlyAnswers o (notPermitted 0x0018) s t) ∧
    (∀ k n w, s.boot.update = some (k, n, w) → fieldLe p 0 4 = w → w + (p.drop 4).length ≤ n →
      ∃ t, exec (.fwWrite o) s = .next t ∧ keepsBut [.boot, .mb, .msi] s t ∧ endsWith o (okRes []) s t ∧
        t.boot = { s.boot with
          update := some (k, n, w + (p.drop 4).length),
          slots := vmodN s.boot.slots k (fun x => { x with bytes := x.bytes ++ p.drop 4, openBytes := some (w + (p.drop 4).length) }) })) ∧
  (∀ (o : Origin) (p : List Byte) (s : State), commandAt s o 0x0912 = some p →
    (s.boot.update = none → ∃ t, exec (.fwClose o) s = .next t ∧ onlyAnswers o (notPermitted 0x0018) s t) ∧
    (∀ k n w v size d, s.boot.update = some (k, n, w) → k ≤ 1 → slotHeader (slotOf s k) = some (v, size, d) → 128 + size ≤ slotSize s →
      ∃ t, exec (.fwClose o) s = .next t ∧ keepsBut [.boot, .host, .mb, .msi, .pc] s t ∧
        replied o (okRes (Config.sha384 (slotBody (slotOf s k) size) ++ le 4 v)) t ∧ t.boot.update = none ∧
        (slotOf t k).bytes = (slotOf s k).bytes ∧ (slotOf t k).openBytes = none) ∧
    (∀ k n w, s.boot.update = some (k, n, w) → k ≤ 1 → slotHeader (slotOf s k) = none →
      ∃ t r, exec (.fwClose o) s = .next t ∧ keepsBut [.boot, .host, .mb, .msi, .pc, .free] s t ∧ replied o (okRes r) t ∧
        r.length = 52 ∧ r.take 48 = Config.sha384 ((slotOf s k).bytes.drop 128) ∧ t.boot.update = none ∧
        (slotOf t k).openBytes = none)) ∧
  (∀ (o : Origin) (p : List Byte) (k : Nat) (s : State), commandAt s o 0x0913 = some p → k = fieldLe p 0 1 → k ≤ 1 →
    fieldLe p 1 1 ≤ 1 → zeros p 2 2 = true →
    (slotState s k = 0 → ∃ t, exec (.fwActivate o) s = .next t ∧ onlyAnswers o (notPermitted 0x0018) s t) ∧
    (slotState s k ≠ 0 → (slotHeader (slotOf s k)).any (fun h => decide (h.1 / 2 ^ 24 % 256 < s.boot.rollback)) = true →
      ∃ t, exec (.fwActivate o) s = .next t ∧ onlyAnswers o (notPermitted 0x0019) s t) ∧
    (slotState s k ≠ 0 → (slotHeader (slotOf s k)).any (fun h => decide (h.1 / 2 ^ 24 % 256 < s.boot.rollback)) = false → ∃ t e, exec (.fwActivate o) s = .next t ∧ keepsBut [.boot, .host, .mb, .msi, .pc] s t ∧
      execOf t o = some e ∧ e.result = some (okRes []) ∧ (fieldLe p 1 1 = 1 → e.resetAfter = some 3) ∧
      blockOf t = { blockOf s with trialSlot := k, trial := true, valid := true, seq := (blockOf s).seq + 1 } ∧
      t.boot.slots = s.boot.slots)) ∧
  (∀ (o : Origin) (p : List Byte) (s : State), commandAt s o 0x0914 = some p →
    let n := max s.boot.rollback (fwVersion s / 2 ^ 24 % 256)
    ∃ t, exec (.fwCommit o) s = .next t ∧ keepsBut [.boot, .host, .mb, .msi, .pc] s t ∧ replied o (okRes (le 4 n)) t ∧
      t.boot.rollback = n ∧ (s.boot.attempt = none → t.boot.blocks = s.boot.blocks) ∧
      (∀ k, s.boot.attempt = some k → s.boot.trial = true → (blockOf t).active = k))

/-- The parameter commands of the seven families, and the reads beside them. -/
def paramCommands (o : Origin) : List (Instr × Nat × PFam) :=
  [(.devSet o, 0x0121, .dev), (.refSet o, 0x0210, .ref), (.engineSet o, 0x0220, .eng), (.ioSet o, 0x0301, .io),
    (.portSet o, 0x0401, .port), (.fwdSet o, 0x0501, .fwd), (.fabSet o, 0x0701, .fab)]
def paramReads (o : Origin) : List (Instr × Nat × PFam) :=
  [(.devGet o, 0x01A1, .dev), (.refGet o, 0x0290, .ref), (.engineGet o, 0x02A0, .eng), (.ioGet o, 0x0381, .io),
    (.portGet o, 0x0481, .port), (.fwdGet o, 0x0581, .fwd), (.fabGet o, 0x0781, .fab)]

/-- Parameters whose change does more than take a new value. -/
def actingPars : List Nat :=
  [0x05, 0x0C, 0x0D, 0x30, 0x31, 0x32, 0x33, 0x36, 0x40, 0x44, 0x60, 0x64, 0x65, 0x68, 0x6B, 0x6C, 0x6D, 0x6F, 0x100, 0x101, 0x102,
    0x103, 0x104, 0x11B, 0x11C, 0x121, 0x1C5]

/-- R431, R470: a parameter command is checked whole before anything is applied. A first wrong entry, a combination of final values that a
rule forbids, or a refused value ends it with its DETAIL and no effect; else every entry's value stands, DEFAULT takes the written
value away, no other parameter moves, and the configuration is saved. With BASE, PREF and MODE aside, the command is then answered
OK; the first clause of that says, for the parameters that act on nothing else, that nothing else moves. -/
def Obligations.ParameterWrites : Prop :=
  ∀ (o : Origin) (c : Instr × Nat × PFam) (p : List Byte) (sel : Nat) (s : State), c ∈ paramCommands o → commandAt s o c.2.1 = some p →
    sel = fieldLe p 0 2 → selKnown c.2.2 sel = true →
    (∀ d, readEntries s c.2.2 p (fieldLe p 2 2) = .inl d → ∃ t, exec c.1 s = .next t ∧ onlyAnswers o (badParam d) s t) ∧
    (∀ l, readEntries s c.2.2 p (fieldLe p 2 2) = .inr l →
      (∀ w, l.find? (combBad (putEntries sel l s) sel) = some w → ∃ t, exec c.1 s = .next t ∧ onlyAnswers o (badParam w.off) s t) ∧
      (l.find? (combBad (putEntries sel l s) sel) = none →
        (∀ d, paramRefused s (putEntries sel l s) sel l = some d → ∃ t, exec c.1 s = .next t ∧ onlyAnswers o (notPermitted d) s t) ∧
        (paramRefused s (putEntries sel l s) sel l = none → (∀ w ∈ l, w.info.id ∉ actingPars) →
          ∃ t, exec c.1 s = .next t ∧ keepsBut [.par, .boot, .mb, .msi] s t ∧
            endsWith o (okRes (if c.2.2 = .eng then le 4 0 else [])) s t ∧
            (∀ w ∈ l, ∀ q ∈ placesOf w.info sel, Tbl.get t.par (pKey w.info.id q w.cls) = if w.dflt then none else some w.val) ∧
            (∀ k, (∀ w ∈ l, ∀ q ∈ placesOf w.info sel, k ≠ pKey w.info.id q w.cls) → Tbl.get t.par k = Tbl.get s.par k) ∧
            t.boot.saved.map (fun x => x.par) = some t.par) ∧
        (paramRefused s (putEntries sel l s) sel l = none → (∀ w ∈ l, w.info.id ∉ [0x36, 0x40, 0x100]) →
          ∃ t, exec c.1 s = .next t ∧
            keepsBut [.te, .lane, .group, .port, .tio, .cal, .fwd, .q, .fab, .par, .boot, .host, .mb, .msi, .pc] s t ∧
            replied o (okRes (if c.2.2 = .eng then le 4 0 else [])) t ∧
            (∀ w ∈ l, ∀ q ∈ placesOf w.info sel, Tbl.get t.par (pKey w.info.id q w.cls) = if w.dflt then none else some w.val) ∧
            (∀ k, (∀ w ∈ l, ∀ q ∈ placesOf w.info sel, k ≠ pKey w.info.id q w.cls) → Tbl.get t.par k = Tbl.get s.par k) ∧
            t.boot.saved.map (fun x => x.par) = some t.par) ∧
        (∀ w, l = [w] → w.info.id = 0x100 → paramRefused s (putEntries sel l s) sel l = none →
          parN s 0x100 sel ≠ parN (putEntries sel l s) 0x100 sel →
          let m := parN (putEntries sel l s) 0x100 sel
          ∃ t, exec c.1 s = .next t ∧
            keepsBut [.lane, .group, .port, .tio, .ck, .cal, .fwd, .q, .cald, .fab, .par, .boot, .host, .mb, .msi, .pc] s t ∧
            modeOf t (sel - 0x200) = m ∧ (m = 0 → replied o (okRes []) t) ∧ (m ≠ 0 → waits o (.mode (sel - 0x200)) t)) ∧
        ((∀ w ∈ l, w.info.id = 0x36 ∨ w.info.id = 0x40) → paramRefused s (putEntries sel l s) sel l = none →
          ∃ t, exec c.1 s = .next t ∧ keepsBut [.te, .par, .boot, .host, .mb, .msi, .pc] s t ∧
            (waits o .align t ∨ replied o (okRes (if c.2.2 = .eng then le 4 0 else [])) t) ∧
            ∀ w ∈ l, ∀ q ∈ placesOf w.info sel, Tbl.get t.par (pKey w.info.id q w.cls) = if w.dflt then none else some w.val)))

/-- R432: a read command answers every parameter of its selector with the value in force, and changes nothing. -/
def Obligations.ParameterReads : Prop :=
  ∀ (o : Origin) (c : Instr × Nat × PFam) (p : List Byte) (sel : Nat) (s : State), c ∈ paramReads o → commandAt s o c.2.1 = some p →
    sel = fieldLe p 0 2 → selKnown c.2.2 sel = true → (c.2.2 = .eng → sel ≠ 3) → fieldLe p 2 2 = 0 →
    ∃ t r, exec c.1 s = .next t ∧ onlyAnswers o (okRes r) s t ∧ fieldLe r 0 2 = sel ∧
      r.length = 4 + 12 * (((pList c.2.2).filter (fun i => pApplies s i sel)).map (fun i => if i.cls then 8 else 1)).sum ∧
      ∀ i ∈ pList c.2.2, pApplies s i sel = true → ∀ k, (k = 0 ∨ (i.cls = true ∧ k < 8)) → readBack s i sel k <:+: r.drop 4
end

