-- ==== Sys2Proof/Laws/State.lean ====
section
/-! SUPPORT. Each updater of one part of the state leaves every other part as it is: one lemma per part, true by
unfolding the record. -/

namespace Sys2Proof.Machine

/-! ### laneMod -/

@[simp] theorem laneMod_clk (l : Nat) (f : Lane → Lane) (s : State) : (laneMod l f s).clk = s.clk := rfl
@[simp] theorem laneMod_te (l : Nat) (f : Lane → Lane) (s : State) : (laneMod l f s).te = s.te := rfl
@[simp] theorem laneMod_group (l : Nat) (f : Lane → Lane) (s : State) : (laneMod l f s).group = s.group := rfl
@[simp] theorem laneMod_port (l : Nat) (f : Lane → Lane) (s : State) : (laneMod l f s).port = s.port := rfl
@[simp] theorem laneMod_tio (l : Nat) (f : Lane → Lane) (s : State) : (laneMod l f s).tio = s.tio := rfl
@[simp] theorem laneMod_ck (l : Nat) (f : Lane → Lane) (s : State) : (laneMod l f s).ck = s.ck := rfl
@[simp] theorem laneMod_cal (l : Nat) (f : Lane → Lane) (s : State) : (laneMod l f s).cal = s.cal := rfl
@[simp] theorem laneMod_wx (l : Nat) (f : Lane → Lane) (s : State) : (laneMod l f s).wx = s.wx := rfl
@[simp] theorem laneMod_fwd (l : Nat) (f : Lane → Lane) (s : State) : (laneMod l f s).fwd = s.fwd := rfl
@[simp] theorem laneMod_q (l : Nat) (f : Lane → Lane) (s : State) : (laneMod l f s).q = s.q := rfl
@[simp] theorem laneMod_cald (l : Nat) (f : Lane → Lane) (s : State) : (laneMod l f s).cald = s.cald := rfl
@[simp] theorem laneMod_fab (l : Nat) (f : Lane → Lane) (s : State) : (laneMod l f s).fab = s.fab := rfl
@[simp] theorem laneMod_fabS (l : Nat) (f : Lane → Lane) (s : State) : (laneMod l f s).fabS = s.fabS := rfl
@[simp] theorem laneMod_pm (l : Nat) (f : Lane → Lane) (s : State) : (laneMod l f s).pm = s.pm := rfl
@[simp] theorem laneMod_rst (l : Nat) (f : Lane → Lane) (s : State) : (laneMod l f s).rst = s.rst := rfl
@[simp] theorem laneMod_host (l : Nat) (f : Lane → Lane) (s : State) : (laneMod l f s).host = s.host := rfl
@[simp] theorem laneMod_mb (l : Nat) (f : Lane → Lane) (s : State) : (laneMod l f s).mb = s.mb := rfl
@[simp] theorem laneMod_boot (l : Nat) (f : Lane → Lane) (s : State) : (laneMod l f s).boot = s.boot := rfl
@[simp] theorem laneMod_pc (l : Nat) (f : Lane → Lane) (s : State) : (laneMod l f s).pc = s.pc := rfl
@[simp] theorem laneMod_pins (l : Nat) (f : Lane → Lane) (s : State) : (laneMod l f s).pins = s.pins := rfl
@[simp] theorem laneMod_par (l : Nat) (f : Lane → Lane) (s : State) : (laneMod l f s).par = s.par := rfl
@[simp] theorem laneMod_free (l : Nat) (f : Lane → Lane) (s : State) : (laneMod l f s).free = s.free := rfl
@[simp] theorem laneMod_nextFid (l : Nat) (f : Lane → Lane) (s : State) : (laneMod l f s).nextFid = s.nextFid := rfl
@[simp] theorem laneMod_pending (l : Nat) (f : Lane → Lane) (s : State) : (laneMod l f s).pending = s.pending := rfl

/-! ### portMod -/

@[simp] theorem portMod_clk (p : Nat) (f : Port → Port) (s : State) : (portMod p f s).clk = s.clk := rfl
@[simp] theorem portMod_te (p : Nat) (f : Port → Port) (s : State) : (portMod p f s).te = s.te := rfl
@[simp] theorem portMod_lane (p : Nat) (f : Port → Port) (s : State) : (portMod p f s).lane = s.lane := rfl
@[simp] theorem portMod_group (p : Nat) (f : Port → Port) (s : State) : (portMod p f s).group = s.group := rfl
@[simp] theorem portMod_tio (p : Nat) (f : Port → Port) (s : State) : (portMod p f s).tio = s.tio := rfl
@[simp] theorem portMod_ck (p : Nat) (f : Port → Port) (s : State) : (portMod p f s).ck = s.ck := rfl
@[simp] theorem portMod_cal (p : Nat) (f : Port → Port) (s : State) : (portMod p f s).cal = s.cal := rfl
@[simp] theorem portMod_wx (p : Nat) (f : Port → Port) (s : State) : (portMod p f s).wx = s.wx := rfl
@[simp] theorem portMod_fwd (p : Nat) (f : Port → Port) (s : State) : (portMod p f s).fwd = s.fwd := rfl
@[simp] theorem portMod_q (p : Nat) (f : Port → Port) (s : State) : (portMod p f s).q = s.q := rfl
@[simp] theorem portMod_cald (p : Nat) (f : Port → Port) (s : State) : (portMod p f s).cald = s.cald := rfl
@[simp] theorem portMod_fab (p : Nat) (f : Port → Port) (s : State) : (portMod p f s).fab = s.fab := rfl
@[simp] theorem portMod_fabS (p : Nat) (f : Port → Port) (s : State) : (portMod p f s).fabS = s.fabS := rfl
@[simp] theorem portMod_pm (p : Nat) (f : Port → Port) (s : State) : (portMod p f s).pm = s.pm := rfl
@[simp] theorem portMod_rst (p : Nat) (f : Port → Port) (s : State) : (portMod p f s).rst = s.rst := rfl
@[simp] theorem portMod_host (p : Nat) (f : Port → Port) (s : State) : (portMod p f s).host = s.host := rfl
@[simp] theorem portMod_mb (p : Nat) (f : Port → Port) (s : State) : (portMod p f s).mb = s.mb := rfl
@[simp] theorem portMod_boot (p : Nat) (f : Port → Port) (s : State) : (portMod p f s).boot = s.boot := rfl
@[simp] theorem portMod_pc (p : Nat) (f : Port → Port) (s : State) : (portMod p f s).pc = s.pc := rfl
@[simp] theorem portMod_pins (p : Nat) (f : Port → Port) (s : State) : (portMod p f s).pins = s.pins := rfl
@[simp] theorem portMod_par (p : Nat) (f : Port → Port) (s : State) : (portMod p f s).par = s.par := rfl
@[simp] theorem portMod_free (p : Nat) (f : Port → Port) (s : State) : (portMod p f s).free = s.free := rfl
@[simp] theorem portMod_nextFid (p : Nat) (f : Port → Port) (s : State) : (portMod p f s).nextFid = s.nextFid := rfl
@[simp] theorem portMod_pending (p : Nat) (f : Port → Port) (s : State) : (portMod p f s).pending = s.pending := rfl

/-! ### groupMod -/

@[simp] theorem groupMod_clk (g : Nat) (f : Group → Group) (s : State) : (groupMod g f s).clk = s.clk := rfl
@[simp] theorem groupMod_te (g : Nat) (f : Group → Group) (s : State) : (groupMod g f s).te = s.te := rfl
@[simp] theorem groupMod_lane (g : Nat) (f : Group → Group) (s : State) : (groupMod g f s).lane = s.lane := rfl
@[simp] theorem groupMod_port (g : Nat) (f : Group → Group) (s : State) : (groupMod g f s).port = s.port := rfl
@[simp] theorem groupMod_tio (g : Nat) (f : Group → Group) (s : State) : (groupMod g f s).tio = s.tio := rfl
@[simp] theorem groupMod_ck (g : Nat) (f : Group → Group) (s : State) : (groupMod g f s).ck = s.ck := rfl
@[simp] theorem groupMod_cal (g : Nat) (f : Group → Group) (s : State) : (groupMod g f s).cal = s.cal := rfl
@[simp] theorem groupMod_wx (g : Nat) (f : Group → Group) (s : State) : (groupMod g f s).wx = s.wx := rfl
@[simp] theorem groupMod_fwd (g : Nat) (f : Group → Group) (s : State) : (groupMod g f s).fwd = s.fwd := rfl
@[simp] theorem groupMod_q (g : Nat) (f : Group → Group) (s : State) : (groupMod g f s).q = s.q := rfl
@[simp] theorem groupMod_cald (g : Nat) (f : Group → Group) (s : State) : (groupMod g f s).cald = s.cald := rfl
@[simp] theorem groupMod_fab (g : Nat) (f : Group → Group) (s : State) : (groupMod g f s).fab = s.fab := rfl
@[simp] theorem groupMod_fabS (g : Nat) (f : Group → Group) (s : State) : (groupMod g f s).fabS = s.fabS := rfl
@[simp] theorem groupMod_pm (g : Nat) (f : Group → Group) (s : State) : (groupMod g f s).pm = s.pm := rfl
@[simp] theorem groupMod_rst (g : Nat) (f : Group → Group) (s : State) : (groupMod g f s).rst = s.rst := rfl
@[simp] theorem groupMod_host (g : Nat) (f : Group → Group) (s : State) : (groupMod g f s).host = s.host := rfl
@[simp] theorem groupMod_mb (g : Nat) (f : Group → Group) (s : State) : (groupMod g f s).mb = s.mb := rfl
@[simp] theorem groupMod_boot (g : Nat) (f : Group → Group) (s : State) : (groupMod g f s).boot = s.boot := rfl
@[simp] theorem groupMod_pc (g : Nat) (f : Group → Group) (s : State) : (groupMod g f s).pc = s.pc := rfl
@[simp] theorem groupMod_pins (g : Nat) (f : Group → Group) (s : State) : (groupMod g f s).pins = s.pins := rfl
@[simp] theorem groupMod_par (g : Nat) (f : Group → Group) (s : State) : (groupMod g f s).par = s.par := rfl
@[simp] theorem groupMod_free (g : Nat) (f : Group → Group) (s : State) : (groupMod g f s).free = s.free := rfl
@[simp] theorem groupMod_nextFid (g : Nat) (f : Group → Group) (s : State) : (groupMod g f s).nextFid = s.nextFid := rfl
@[simp] theorem groupMod_pending (g : Nat) (f : Group → Group) (s : State) : (groupMod g f s).pending = s.pending := rfl

/-! ### engMod -/

@[simp] theorem engMod_clk (e : Nat) (f : Engine → Engine) (s : State) : (engMod e f s).clk = s.clk := rfl
@[simp] theorem engMod_lane (e : Nat) (f : Engine → Engine) (s : State) : (engMod e f s).lane = s.lane := rfl
@[simp] theorem engMod_group (e : Nat) (f : Engine → Engine) (s : State) : (engMod e f s).group = s.group := rfl
@[simp] theorem engMod_port (e : Nat) (f : Engine → Engine) (s : State) : (engMod e f s).port = s.port := rfl
@[simp] theorem engMod_tio (e : Nat) (f : Engine → Engine) (s : State) : (engMod e f s).tio = s.tio := rfl
@[simp] theorem engMod_ck (e : Nat) (f : Engine → Engine) (s : State) : (engMod e f s).ck = s.ck := rfl
@[simp] theorem engMod_cal (e : Nat) (f : Engine → Engine) (s : State) : (engMod e f s).cal = s.cal := rfl
@[simp] theorem engMod_wx (e : Nat) (f : Engine → Engine) (s : State) : (engMod e f s).wx = s.wx := rfl
@[simp] theorem engMod_fwd (e : Nat) (f : Engine → Engine) (s : State) : (engMod e f s).fwd = s.fwd := rfl
@[simp] theorem engMod_q (e : Nat) (f : Engine → Engine) (s : State) : (engMod e f s).q = s.q := rfl
@[simp] theorem engMod_cald (e : Nat) (f : Engine → Engine) (s : State) : (engMod e f s).cald = s.cald := rfl
@[simp] theorem engMod_fab (e : Nat) (f : Engine → Engine) (s : State) : (engMod e f s).fab = s.fab := rfl
@[simp] theorem engMod_fabS (e : Nat) (f : Engine → Engine) (s : State) : (engMod e f s).fabS = s.fabS := rfl
@[simp] theorem engMod_pm (e : Nat) (f : Engine → Engine) (s : State) : (engMod e f s).pm = s.pm := rfl
@[simp] theorem engMod_rst (e : Nat) (f : Engine → Engine) (s : State) : (engMod e f s).rst = s.rst := rfl
@[simp] theorem engMod_host (e : Nat) (f : Engine → Engine) (s : State) : (engMod e f s).host = s.host := rfl
@[simp] theorem engMod_mb (e : Nat) (f : Engine → Engine) (s : State) : (engMod e f s).mb = s.mb := rfl
@[simp] theorem engMod_boot (e : Nat) (f : Engine → Engine) (s : State) : (engMod e f s).boot = s.boot := rfl
@[simp] theorem engMod_pc (e : Nat) (f : Engine → Engine) (s : State) : (engMod e f s).pc = s.pc := rfl
@[simp] theorem engMod_pins (e : Nat) (f : Engine → Engine) (s : State) : (engMod e f s).pins = s.pins := rfl
@[simp] theorem engMod_par (e : Nat) (f : Engine → Engine) (s : State) : (engMod e f s).par = s.par := rfl
@[simp] theorem engMod_free (e : Nat) (f : Engine → Engine) (s : State) : (engMod e f s).free = s.free := rfl
@[simp] theorem engMod_nextFid (e : Nat) (f : Engine → Engine) (s : State) : (engMod e f s).nextFid = s.nextFid := rfl
@[simp] theorem engMod_pending (e : Nat) (f : Engine → Engine) (s : State) : (engMod e f s).pending = s.pending := rfl

/-! ### engxMod -/

@[simp] theorem engxMod_clk (e : Nat) (f : EngineX → EngineX) (s : State) : (engxMod e f s).clk = s.clk := rfl
@[simp] theorem engxMod_lane (e : Nat) (f : EngineX → EngineX) (s : State) : (engxMod e f s).lane = s.lane := rfl
@[simp] theorem engxMod_group (e : Nat) (f : EngineX → EngineX) (s : State) : (engxMod e f s).group = s.group := rfl
@[simp] theorem engxMod_port (e : Nat) (f : EngineX → EngineX) (s : State) : (engxMod e f s).port = s.port := rfl
@[simp] theorem engxMod_tio (e : Nat) (f : EngineX → EngineX) (s : State) : (engxMod e f s).tio = s.tio := rfl
@[simp] theorem engxMod_ck (e : Nat) (f : EngineX → EngineX) (s : State) : (engxMod e f s).ck = s.ck := rfl
@[simp] theorem engxMod_cal (e : Nat) (f : EngineX → EngineX) (s : State) : (engxMod e f s).cal = s.cal := rfl
@[simp] theorem engxMod_wx (e : Nat) (f : EngineX → EngineX) (s : State) : (engxMod e f s).wx = s.wx := rfl
@[simp] theorem engxMod_fwd (e : Nat) (f : EngineX → EngineX) (s : State) : (engxMod e f s).fwd = s.fwd := rfl
@[simp] theorem engxMod_q (e : Nat) (f : EngineX → EngineX) (s : State) : (engxMod e f s).q = s.q := rfl
@[simp] theorem engxMod_cald (e : Nat) (f : EngineX → EngineX) (s : State) : (engxMod e f s).cald = s.cald := rfl
@[simp] theorem engxMod_fab (e : Nat) (f : EngineX → EngineX) (s : State) : (engxMod e f s).fab = s.fab := rfl
@[simp] theorem engxMod_fabS (e : Nat) (f : EngineX → EngineX) (s : State) : (engxMod e f s).fabS = s.fabS := rfl
@[simp] theorem engxMod_pm (e : Nat) (f : EngineX → EngineX) (s : State) : (engxMod e f s).pm = s.pm := rfl
@[simp] theorem engxMod_rst (e : Nat) (f : EngineX → EngineX) (s : State) : (engxMod e f s).rst = s.rst := rfl
@[simp] theorem engxMod_host (e : Nat) (f : EngineX → EngineX) (s : State) : (engxMod e f s).host = s.host := rfl
@[simp] theorem engxMod_mb (e : Nat) (f : EngineX → EngineX) (s : State) : (engxMod e f s).mb = s.mb := rfl
@[simp] theorem engxMod_boot (e : Nat) (f : EngineX → EngineX) (s : State) : (engxMod e f s).boot = s.boot := rfl
@[simp] theorem engxMod_pc (e : Nat) (f : EngineX → EngineX) (s : State) : (engxMod e f s).pc = s.pc := rfl
@[simp] theorem engxMod_pins (e : Nat) (f : EngineX → EngineX) (s : State) : (engxMod e f s).pins = s.pins := rfl
@[simp] theorem engxMod_par (e : Nat) (f : EngineX → EngineX) (s : State) : (engxMod e f s).par = s.par := rfl
@[simp] theorem engxMod_free (e : Nat) (f : EngineX → EngineX) (s : State) : (engxMod e f s).free = s.free := rfl
@[simp] theorem engxMod_nextFid (e : Nat) (f : EngineX → EngineX) (s : State) : (engxMod e f s).nextFid = s.nextFid := rfl
@[simp] theorem engxMod_pending (e : Nat) (f : EngineX → EngineX) (s : State) : (engxMod e f s).pending = s.pending := rfl

/-! ### refMod -/

@[simp] theorem refMod_clk (r : Nat) (f : Reference → Reference) (s : State) : (refMod r f s).clk = s.clk := rfl
@[simp] theorem refMod_lane (r : Nat) (f : Reference → Reference) (s : State) : (refMod r f s).lane = s.lane := rfl
@[simp] theorem refMod_group (r : Nat) (f : Reference → Reference) (s : State) : (refMod r f s).group = s.group := rfl
@[simp] theorem refMod_port (r : Nat) (f : Reference → Reference) (s : State) : (refMod r f s).port = s.port := rfl
@[simp] theorem refMod_tio (r : Nat) (f : Reference → Reference) (s : State) : (refMod r f s).tio = s.tio := rfl
@[simp] theorem refMod_ck (r : Nat) (f : Reference → Reference) (s : State) : (refMod r f s).ck = s.ck := rfl
@[simp] theorem refMod_cal (r : Nat) (f : Reference → Reference) (s : State) : (refMod r f s).cal = s.cal := rfl
@[simp] theorem refMod_wx (r : Nat) (f : Reference → Reference) (s : State) : (refMod r f s).wx = s.wx := rfl
@[simp] theorem refMod_fwd (r : Nat) (f : Reference → Reference) (s : State) : (refMod r f s).fwd = s.fwd := rfl
@[simp] theorem refMod_q (r : Nat) (f : Reference → Reference) (s : State) : (refMod r f s).q = s.q := rfl
@[simp] theorem refMod_cald (r : Nat) (f : Reference → Reference) (s : State) : (refMod r f s).cald = s.cald := rfl
@[simp] theorem refMod_fab (r : Nat) (f : Reference → Reference) (s : State) : (refMod r f s).fab = s.fab := rfl
@[simp] theorem refMod_fabS (r : Nat) (f : Reference → Reference) (s : State) : (refMod r f s).fabS = s.fabS := rfl
@[simp] theorem refMod_pm (r : Nat) (f : Reference → Reference) (s : State) : (refMod r f s).pm = s.pm := rfl
@[simp] theorem refMod_rst (r : Nat) (f : Reference → Reference) (s : State) : (refMod r f s).rst = s.rst := rfl
@[simp] theorem refMod_host (r : Nat) (f : Reference → Reference) (s : State) : (refMod r f s).host = s.host := rfl
@[simp] theorem refMod_mb (r : Nat) (f : Reference → Reference) (s : State) : (refMod r f s).mb = s.mb := rfl
@[simp] theorem refMod_boot (r : Nat) (f : Reference → Reference) (s : State) : (refMod r f s).boot = s.boot := rfl
@[simp] theorem refMod_pc (r : Nat) (f : Reference → Reference) (s : State) : (refMod r f s).pc = s.pc := rfl
@[simp] theorem refMod_pins (r : Nat) (f : Reference → Reference) (s : State) : (refMod r f s).pins = s.pins := rfl
@[simp] theorem refMod_par (r : Nat) (f : Reference → Reference) (s : State) : (refMod r f s).par = s.par := rfl
@[simp] theorem refMod_free (r : Nat) (f : Reference → Reference) (s : State) : (refMod r f s).free = s.free := rfl
@[simp] theorem refMod_nextFid (r : Nat) (f : Reference → Reference) (s : State) : (refMod r f s).nextFid = s.nextFid := rfl
@[simp] theorem refMod_pending (r : Nat) (f : Reference → Reference) (s : State) : (refMod r f s).pending = s.pending := rfl

/-! ### ksMod -/

@[simp] theorem ksMod_clk (f : Keystone → Keystone) (s : State) : (ksMod f s).clk = s.clk := rfl
@[simp] theorem ksMod_lane (f : Keystone → Keystone) (s : State) : (ksMod f s).lane = s.lane := rfl
@[simp] theorem ksMod_group (f : Keystone → Keystone) (s : State) : (ksMod f s).group = s.group := rfl
@[simp] theorem ksMod_port (f : Keystone → Keystone) (s : State) : (ksMod f s).port = s.port := rfl
@[simp] theorem ksMod_tio (f : Keystone → Keystone) (s : State) : (ksMod f s).tio = s.tio := rfl
@[simp] theorem ksMod_ck (f : Keystone → Keystone) (s : State) : (ksMod f s).ck = s.ck := rfl
@[simp] theorem ksMod_cal (f : Keystone → Keystone) (s : State) : (ksMod f s).cal = s.cal := rfl
@[simp] theorem ksMod_wx (f : Keystone → Keystone) (s : State) : (ksMod f s).wx = s.wx := rfl
@[simp] theorem ksMod_fwd (f : Keystone → Keystone) (s : State) : (ksMod f s).fwd = s.fwd := rfl
@[simp] theorem ksMod_q (f : Keystone → Keystone) (s : State) : (ksMod f s).q = s.q := rfl
@[simp] theorem ksMod_cald (f : Keystone → Keystone) (s : State) : (ksMod f s).cald = s.cald := rfl
@[simp] theorem ksMod_fab (f : Keystone → Keystone) (s : State) : (ksMod f s).fab = s.fab := rfl
@[simp] theorem ksMod_fabS (f : Keystone → Keystone) (s : State) : (ksMod f s).fabS = s.fabS := rfl
@[simp] theorem ksMod_pm (f : Keystone → Keystone) (s : State) : (ksMod f s).pm = s.pm := rfl
@[simp] theorem ksMod_rst (f : Keystone → Keystone) (s : State) : (ksMod f s).rst = s.rst := rfl
@[simp] theorem ksMod_host (f : Keystone → Keystone) (s : State) : (ksMod f s).host = s.host := rfl
@[simp] theorem ksMod_mb (f : Keystone → Keystone) (s : State) : (ksMod f s).mb = s.mb := rfl
@[simp] theorem ksMod_boot (f : Keystone → Keystone) (s : State) : (ksMod f s).boot = s.boot := rfl
@[simp] theorem ksMod_pc (f : Keystone → Keystone) (s : State) : (ksMod f s).pc = s.pc := rfl
@[simp] theorem ksMod_pins (f : Keystone → Keystone) (s : State) : (ksMod f s).pins = s.pins := rfl
@[simp] theorem ksMod_par (f : Keystone → Keystone) (s : State) : (ksMod f s).par = s.par := rfl
@[simp] theorem ksMod_free (f : Keystone → Keystone) (s : State) : (ksMod f s).free = s.free := rfl
@[simp] theorem ksMod_nextFid (f : Keystone → Keystone) (s : State) : (ksMod f s).nextFid = s.nextFid := rfl
@[simp] theorem ksMod_pending (f : Keystone → Keystone) (s : State) : (ksMod f s).pending = s.pending := rfl

/-! ### evMod -/

@[simp] theorem evMod_clk (k : Nat) (f : EvIn → EvIn) (s : State) : (evMod k f s).clk = s.clk := rfl
@[simp] theorem evMod_te (k : Nat) (f : EvIn → EvIn) (s : State) : (evMod k f s).te = s.te := rfl
@[simp] theorem evMod_lane (k : Nat) (f : EvIn → EvIn) (s : State) : (evMod k f s).lane = s.lane := rfl
@[simp] theorem evMod_group (k : Nat) (f : EvIn → EvIn) (s : State) : (evMod k f s).group = s.group := rfl
@[simp] theorem evMod_port (k : Nat) (f : EvIn → EvIn) (s : State) : (evMod k f s).port = s.port := rfl
@[simp] theorem evMod_ck (k : Nat) (f : EvIn → EvIn) (s : State) : (evMod k f s).ck = s.ck := rfl
@[simp] theorem evMod_cal (k : Nat) (f : EvIn → EvIn) (s : State) : (evMod k f s).cal = s.cal := rfl
@[simp] theorem evMod_wx (k : Nat) (f : EvIn → EvIn) (s : State) : (evMod k f s).wx = s.wx := rfl
@[simp] theorem evMod_fwd (k : Nat) (f : EvIn → EvIn) (s : State) : (evMod k f s).fwd = s.fwd := rfl
@[simp] theorem evMod_q (k : Nat) (f : EvIn → EvIn) (s : State) : (evMod k f s).q = s.q := rfl
@[simp] theorem evMod_cald (k : Nat) (f : EvIn → EvIn) (s : State) : (evMod k f s).cald = s.cald := rfl
@[simp] theorem evMod_fab (k : Nat) (f : EvIn → EvIn) (s : State) : (evMod k f s).fab = s.fab := rfl
@[simp] theorem evMod_fabS (k : Nat) (f : EvIn → EvIn) (s : State) : (evMod k f s).fabS = s.fabS := rfl
@[simp] theorem evMod_pm (k : Nat) (f : EvIn → EvIn) (s : State) : (evMod k f s).pm = s.pm := rfl
@[simp] theorem evMod_rst (k : Nat) (f : EvIn → EvIn) (s : State) : (evMod k f s).rst = s.rst := rfl
@[simp] theorem evMod_host (k : Nat) (f : EvIn → EvIn) (s : State) : (evMod k f s).host = s.host := rfl
@[simp] theorem evMod_mb (k : Nat) (f : EvIn → EvIn) (s : State) : (evMod k f s).mb = s.mb := rfl
@[simp] theorem evMod_boot (k : Nat) (f : EvIn → EvIn) (s : State) : (evMod k f s).boot = s.boot := rfl
@[simp] theorem evMod_pc (k : Nat) (f : EvIn → EvIn) (s : State) : (evMod k f s).pc = s.pc := rfl
@[simp] theorem evMod_pins (k : Nat) (f : EvIn → EvIn) (s : State) : (evMod k f s).pins = s.pins := rfl
@[simp] theorem evMod_par (k : Nat) (f : EvIn → EvIn) (s : State) : (evMod k f s).par = s.par := rfl
@[simp] theorem evMod_free (k : Nat) (f : EvIn → EvIn) (s : State) : (evMod k f s).free = s.free := rfl
@[simp] theorem evMod_nextFid (k : Nat) (f : EvIn → EvIn) (s : State) : (evMod k f s).nextFid = s.nextFid := rfl
@[simp] theorem evMod_pending (k : Nat) (f : EvIn → EvIn) (s : State) : (evMod k f s).pending = s.pending := rfl

/-! ### trigMod -/

@[simp] theorem trigMod_clk (j : Nat) (f : TrigOut → TrigOut) (s : State) : (trigMod j f s).clk = s.clk := rfl
@[simp] theorem trigMod_te (j : Nat) (f : TrigOut → TrigOut) (s : State) : (trigMod j f s).te = s.te := rfl
@[simp] theorem trigMod_lane (j : Nat) (f : TrigOut → TrigOut) (s : State) : (trigMod j f s).lane = s.lane := rfl
@[simp] theorem trigMod_group (j : Nat) (f : TrigOut → TrigOut) (s : State) : (trigMod j f s).group = s.group := rfl
@[simp] theorem trigMod_port (j : Nat) (f : TrigOut → TrigOut) (s : State) : (trigMod j f s).port = s.port := rfl
@[simp] theorem trigMod_ck (j : Nat) (f : TrigOut → TrigOut) (s : State) : (trigMod j f s).ck = s.ck := rfl
@[simp] theorem trigMod_cal (j : Nat) (f : TrigOut → TrigOut) (s : State) : (trigMod j f s).cal = s.cal := rfl
@[simp] theorem trigMod_wx (j : Nat) (f : TrigOut → TrigOut) (s : State) : (trigMod j f s).wx = s.wx := rfl
@[simp] theorem trigMod_fwd (j : Nat) (f : TrigOut → TrigOut) (s : State) : (trigMod j f s).fwd = s.fwd := rfl
@[simp] theorem trigMod_q (j : Nat) (f : TrigOut → TrigOut) (s : State) : (trigMod j f s).q = s.q := rfl
@[simp] theorem trigMod_cald (j : Nat) (f : TrigOut → TrigOut) (s : State) : (trigMod j f s).cald = s.cald := rfl
@[simp] theorem trigMod_fab (j : Nat) (f : TrigOut → TrigOut) (s : State) : (trigMod j f s).fab = s.fab := rfl
@[simp] theorem trigMod_fabS (j : Nat) (f : TrigOut → TrigOut) (s : State) : (trigMod j f s).fabS = s.fabS := rfl
@[simp] theorem trigMod_pm (j : Nat) (f : TrigOut → TrigOut) (s : State) : (trigMod j f s).pm = s.pm := rfl
@[simp] theorem trigMod_rst (j : Nat) (f : TrigOut → TrigOut) (s : State) : (trigMod j f s).rst = s.rst := rfl
@[simp] theorem trigMod_host (j : Nat) (f : TrigOut → TrigOut) (s : State) : (trigMod j f s).host = s.host := rfl
@[simp] theorem trigMod_mb (j : Nat) (f : TrigOut → TrigOut) (s : State) : (trigMod j f s).mb = s.mb := rfl
@[simp] theorem trigMod_boot (j : Nat) (f : TrigOut → TrigOut) (s : State) : (trigMod j f s).boot = s.boot := rfl
@[simp] theorem trigMod_pc (j : Nat) (f : TrigOut → TrigOut) (s : State) : (trigMod j f s).pc = s.pc := rfl
@[simp] theorem trigMod_pins (j : Nat) (f : TrigOut → TrigOut) (s : State) : (trigMod j f s).pins = s.pins := rfl
@[simp] theorem trigMod_par (j : Nat) (f : TrigOut → TrigOut) (s : State) : (trigMod j f s).par = s.par := rfl
@[simp] theorem trigMod_free (j : Nat) (f : TrigOut → TrigOut) (s : State) : (trigMod j f s).free = s.free := rfl
@[simp] theorem trigMod_nextFid (j : Nat) (f : TrigOut → TrigOut) (s : State) : (trigMod j f s).nextFid = s.nextFid := rfl
@[simp] theorem trigMod_pending (j : Nat) (f : TrigOut → TrigOut) (s : State) : (trigMod j f s).pending = s.pending := rfl

/-! ### tdcMod -/

@[simp] theorem tdcMod_clk (f : TdcRef → TdcRef) (s : State) : (tdcMod f s).clk = s.clk := rfl
@[simp] theorem tdcMod_te (f : TdcRef → TdcRef) (s : State) : (tdcMod f s).te = s.te := rfl
@[simp] theorem tdcMod_lane (f : TdcRef → TdcRef) (s : State) : (tdcMod f s).lane = s.lane := rfl
@[simp] theorem tdcMod_group (f : TdcRef → TdcRef) (s : State) : (tdcMod f s).group = s.group := rfl
@[simp] theorem tdcMod_port (f : TdcRef → TdcRef) (s : State) : (tdcMod f s).port = s.port := rfl
@[simp] theorem tdcMod_ck (f : TdcRef → TdcRef) (s : State) : (tdcMod f s).ck = s.ck := rfl
@[simp] theorem tdcMod_cal (f : TdcRef → TdcRef) (s : State) : (tdcMod f s).cal = s.cal := rfl
@[simp] theorem tdcMod_wx (f : TdcRef → TdcRef) (s : State) : (tdcMod f s).wx = s.wx := rfl
@[simp] theorem tdcMod_fwd (f : TdcRef → TdcRef) (s : State) : (tdcMod f s).fwd = s.fwd := rfl
@[simp] theorem tdcMod_q (f : TdcRef → TdcRef) (s : State) : (tdcMod f s).q = s.q := rfl
@[simp] theorem tdcMod_cald (f : TdcRef → TdcRef) (s : State) : (tdcMod f s).cald = s.cald := rfl
@[simp] theorem tdcMod_fab (f : TdcRef → TdcRef) (s : State) : (tdcMod f s).fab = s.fab := rfl
@[simp] theorem tdcMod_fabS (f : TdcRef → TdcRef) (s : State) : (tdcMod f s).fabS = s.fabS := rfl
@[simp] theorem tdcMod_pm (f : TdcRef → TdcRef) (s : State) : (tdcMod f s).pm = s.pm := rfl
@[simp] theorem tdcMod_rst (f : TdcRef → TdcRef) (s : State) : (tdcMod f s).rst = s.rst := rfl
@[simp] theorem tdcMod_host (f : TdcRef → TdcRef) (s : State) : (tdcMod f s).host = s.host := rfl
@[simp] theorem tdcMod_mb (f : TdcRef → TdcRef) (s : State) : (tdcMod f s).mb = s.mb := rfl
@[simp] theorem tdcMod_boot (f : TdcRef → TdcRef) (s : State) : (tdcMod f s).boot = s.boot := rfl
@[simp] theorem tdcMod_pc (f : TdcRef → TdcRef) (s : State) : (tdcMod f s).pc = s.pc := rfl
@[simp] theorem tdcMod_pins (f : TdcRef → TdcRef) (s : State) : (tdcMod f s).pins = s.pins := rfl
@[simp] theorem tdcMod_par (f : TdcRef → TdcRef) (s : State) : (tdcMod f s).par = s.par := rfl
@[simp] theorem tdcMod_free (f : TdcRef → TdcRef) (s : State) : (tdcMod f s).free = s.free := rfl
@[simp] theorem tdcMod_nextFid (f : TdcRef → TdcRef) (s : State) : (tdcMod f s).nextFid = s.nextFid := rfl
@[simp] theorem tdcMod_pending (f : TdcRef → TdcRef) (s : State) : (tdcMod f s).pending = s.pending := rfl

/-! ### tapMod -/

@[simp] theorem tapMod_clk (f : TimeTap → TimeTap) (s : State) : (tapMod f s).clk = s.clk := rfl
@[simp] theorem tapMod_te (f : TimeTap → TimeTap) (s : State) : (tapMod f s).te = s.te := rfl
@[simp] theorem tapMod_lane (f : TimeTap → TimeTap) (s : State) : (tapMod f s).lane = s.lane := rfl
@[simp] theorem tapMod_group (f : TimeTap → TimeTap) (s : State) : (tapMod f s).group = s.group := rfl
@[simp] theorem tapMod_port (f : TimeTap → TimeTap) (s : State) : (tapMod f s).port = s.port := rfl
@[simp] theorem tapMod_ck (f : TimeTap → TimeTap) (s : State) : (tapMod f s).ck = s.ck := rfl
@[simp] theorem tapMod_cal (f : TimeTap → TimeTap) (s : State) : (tapMod f s).cal = s.cal := rfl
@[simp] theorem tapMod_wx (f : TimeTap → TimeTap) (s : State) : (tapMod f s).wx = s.wx := rfl
@[simp] theorem tapMod_fwd (f : TimeTap → TimeTap) (s : State) : (tapMod f s).fwd = s.fwd := rfl
@[simp] theorem tapMod_q (f : TimeTap → TimeTap) (s : State) : (tapMod f s).q = s.q := rfl
@[simp] theorem tapMod_cald (f : TimeTap → TimeTap) (s : State) : (tapMod f s).cald = s.cald := rfl
@[simp] theorem tapMod_fab (f : TimeTap → TimeTap) (s : State) : (tapMod f s).fab = s.fab := rfl
@[simp] theorem tapMod_fabS (f : TimeTap → TimeTap) (s : State) : (tapMod f s).fabS = s.fabS := rfl
@[simp] theorem tapMod_pm (f : TimeTap → TimeTap) (s : State) : (tapMod f s).pm = s.pm := rfl
@[simp] theorem tapMod_rst (f : TimeTap → TimeTap) (s : State) : (tapMod f s).rst = s.rst := rfl
@[simp] theorem tapMod_host (f : TimeTap → TimeTap) (s : State) : (tapMod f s).host = s.host := rfl
@[simp] theorem tapMod_mb (f : TimeTap → TimeTap) (s : State) : (tapMod f s).mb = s.mb := rfl
@[simp] theorem tapMod_boot (f : TimeTap → TimeTap) (s : State) : (tapMod f s).boot = s.boot := rfl
@[simp] theorem tapMod_pc (f : TimeTap → TimeTap) (s : State) : (tapMod f s).pc = s.pc := rfl
@[simp] theorem tapMod_pins (f : TimeTap → TimeTap) (s : State) : (tapMod f s).pins = s.pins := rfl
@[simp] theorem tapMod_par (f : TimeTap → TimeTap) (s : State) : (tapMod f s).par = s.par := rfl
@[simp] theorem tapMod_free (f : TimeTap → TimeTap) (s : State) : (tapMod f s).free = s.free := rfl
@[simp] theorem tapMod_nextFid (f : TimeTap → TimeTap) (s : State) : (tapMod f s).nextFid = s.nextFid := rfl
@[simp] theorem tapMod_pending (f : TimeTap → TimeTap) (s : State) : (tapMod f s).pending = s.pending := rfl

/-! ### synMod -/

@[simp] theorem synMod_clk (n : Nat) (f : Synth → Synth) (s : State) : (synMod n f s).clk = s.clk := rfl
@[simp] theorem synMod_te (n : Nat) (f : Synth → Synth) (s : State) : (synMod n f s).te = s.te := rfl
@[simp] theorem synMod_lane (n : Nat) (f : Synth → Synth) (s : State) : (synMod n f s).lane = s.lane := rfl
@[simp] theorem synMod_group (n : Nat) (f : Synth → Synth) (s : State) : (synMod n f s).group = s.group := rfl
@[simp] theorem synMod_port (n : Nat) (f : Synth → Synth) (s : State) : (synMod n f s).port = s.port := rfl
@[simp] theorem synMod_tio (n : Nat) (f : Synth → Synth) (s : State) : (synMod n f s).tio = s.tio := rfl
@[simp] theorem synMod_cal (n : Nat) (f : Synth → Synth) (s : State) : (synMod n f s).cal = s.cal := rfl
@[simp] theorem synMod_wx (n : Nat) (f : Synth → Synth) (s : State) : (synMod n f s).wx = s.wx := rfl
@[simp] theorem synMod_fwd (n : Nat) (f : Synth → Synth) (s : State) : (synMod n f s).fwd = s.fwd := rfl
@[simp] theorem synMod_q (n : Nat) (f : Synth → Synth) (s : State) : (synMod n f s).q = s.q := rfl
@[simp] theorem synMod_cald (n : Nat) (f : Synth → Synth) (s : State) : (synMod n f s).cald = s.cald := rfl
@[simp] theorem synMod_fab (n : Nat) (f : Synth → Synth) (s : State) : (synMod n f s).fab = s.fab := rfl
@[simp] theorem synMod_fabS (n : Nat) (f : Synth → Synth) (s : State) : (synMod n f s).fabS = s.fabS := rfl
@[simp] theorem synMod_pm (n : Nat) (f : Synth → Synth) (s : State) : (synMod n f s).pm = s.pm := rfl
@[simp] theorem synMod_rst (n : Nat) (f : Synth → Synth) (s : State) : (synMod n f s).rst = s.rst := rfl
@[simp] theorem synMod_host (n : Nat) (f : Synth → Synth) (s : State) : (synMod n f s).host = s.host := rfl
@[simp] theorem synMod_mb (n : Nat) (f : Synth → Synth) (s : State) : (synMod n f s).mb = s.mb := rfl
@[simp] theorem synMod_boot (n : Nat) (f : Synth → Synth) (s : State) : (synMod n f s).boot = s.boot := rfl
@[simp] theorem synMod_pc (n : Nat) (f : Synth → Synth) (s : State) : (synMod n f s).pc = s.pc := rfl
@[simp] theorem synMod_pins (n : Nat) (f : Synth → Synth) (s : State) : (synMod n f s).pins = s.pins := rfl
@[simp] theorem synMod_par (n : Nat) (f : Synth → Synth) (s : State) : (synMod n f s).par = s.par := rfl
@[simp] theorem synMod_free (n : Nat) (f : Synth → Synth) (s : State) : (synMod n f s).free = s.free := rfl
@[simp] theorem synMod_nextFid (n : Nat) (f : Synth → Synth) (s : State) : (synMod n f s).nextFid = s.nextFid := rfl
@[simp] theorem synMod_pending (n : Nat) (f : Synth → Synth) (s : State) : (synMod n f s).pending = s.pending := rfl

/-! ### convMod -/

@[simp] theorem convMod_clk (c : Nat) (f : Conv → Conv) (s : State) : (convMod c f s).clk = s.clk := rfl
@[simp] theorem convMod_te (c : Nat) (f : Conv → Conv) (s : State) : (convMod c f s).te = s.te := rfl
@[simp] theorem convMod_lane (c : Nat) (f : Conv → Conv) (s : State) : (convMod c f s).lane = s.lane := rfl
@[simp] theorem convMod_group (c : Nat) (f : Conv → Conv) (s : State) : (convMod c f s).group = s.group := rfl
@[simp] theorem convMod_port (c : Nat) (f : Conv → Conv) (s : State) : (convMod c f s).port = s.port := rfl
@[simp] theorem convMod_tio (c : Nat) (f : Conv → Conv) (s : State) : (convMod c f s).tio = s.tio := rfl
@[simp] theorem convMod_ck (c : Nat) (f : Conv → Conv) (s : State) : (convMod c f s).ck = s.ck := rfl
@[simp] theorem convMod_wx (c : Nat) (f : Conv → Conv) (s : State) : (convMod c f s).wx = s.wx := rfl
@[simp] theorem convMod_fwd (c : Nat) (f : Conv → Conv) (s : State) : (convMod c f s).fwd = s.fwd := rfl
@[simp] theorem convMod_q (c : Nat) (f : Conv → Conv) (s : State) : (convMod c f s).q = s.q := rfl
@[simp] theorem convMod_cald (c : Nat) (f : Conv → Conv) (s : State) : (convMod c f s).cald = s.cald := rfl
@[simp] theorem convMod_fab (c : Nat) (f : Conv → Conv) (s : State) : (convMod c f s).fab = s.fab := rfl
@[simp] theorem convMod_fabS (c : Nat) (f : Conv → Conv) (s : State) : (convMod c f s).fabS = s.fabS := rfl
@[simp] theorem convMod_pm (c : Nat) (f : Conv → Conv) (s : State) : (convMod c f s).pm = s.pm := rfl
@[simp] theorem convMod_rst (c : Nat) (f : Conv → Conv) (s : State) : (convMod c f s).rst = s.rst := rfl
@[simp] theorem convMod_host (c : Nat) (f : Conv → Conv) (s : State) : (convMod c f s).host = s.host := rfl
@[simp] theorem convMod_mb (c : Nat) (f : Conv → Conv) (s : State) : (convMod c f s).mb = s.mb := rfl
@[simp] theorem convMod_boot (c : Nat) (f : Conv → Conv) (s : State) : (convMod c f s).boot = s.boot := rfl
@[simp] theorem convMod_pc (c : Nat) (f : Conv → Conv) (s : State) : (convMod c f s).pc = s.pc := rfl
@[simp] theorem convMod_pins (c : Nat) (f : Conv → Conv) (s : State) : (convMod c f s).pins = s.pins := rfl
@[simp] theorem convMod_par (c : Nat) (f : Conv → Conv) (s : State) : (convMod c f s).par = s.par := rfl
@[simp] theorem convMod_free (c : Nat) (f : Conv → Conv) (s : State) : (convMod c f s).free = s.free := rfl
@[simp] theorem convMod_nextFid (c : Nat) (f : Conv → Conv) (s : State) : (convMod c f s).nextFid = s.nextFid := rfl
@[simp] theorem convMod_pending (c : Nat) (f : Conv → Conv) (s : State) : (convMod c f s).pending = s.pending := rfl

/-! ### fwdMod -/

@[simp] theorem fwdMod_clk (f : Fwd → Fwd) (s : State) : (fwdMod f s).clk = s.clk := rfl
@[simp] theorem fwdMod_te (f : Fwd → Fwd) (s : State) : (fwdMod f s).te = s.te := rfl
@[simp] theorem fwdMod_lane (f : Fwd → Fwd) (s : State) : (fwdMod f s).lane = s.lane := rfl
@[simp] theorem fwdMod_group (f : Fwd → Fwd) (s : State) : (fwdMod f s).group = s.group := rfl
@[simp] theorem fwdMod_port (f : Fwd → Fwd) (s : State) : (fwdMod f s).port = s.port := rfl
@[simp] theorem fwdMod_tio (f : Fwd → Fwd) (s : State) : (fwdMod f s).tio = s.tio := rfl
@[simp] theorem fwdMod_ck (f : Fwd → Fwd) (s : State) : (fwdMod f s).ck = s.ck := rfl
@[simp] theorem fwdMod_cal (f : Fwd → Fwd) (s : State) : (fwdMod f s).cal = s.cal := rfl
@[simp] theorem fwdMod_wx (f : Fwd → Fwd) (s : State) : (fwdMod f s).wx = s.wx := rfl
@[simp] theorem fwdMod_q (f : Fwd → Fwd) (s : State) : (fwdMod f s).q = s.q := rfl
@[simp] theorem fwdMod_cald (f : Fwd → Fwd) (s : State) : (fwdMod f s).cald = s.cald := rfl
@[simp] theorem fwdMod_fab (f : Fwd → Fwd) (s : State) : (fwdMod f s).fab = s.fab := rfl
@[simp] theorem fwdMod_fabS (f : Fwd → Fwd) (s : State) : (fwdMod f s).fabS = s.fabS := rfl
@[simp] theorem fwdMod_pm (f : Fwd → Fwd) (s : State) : (fwdMod f s).pm = s.pm := rfl
@[simp] theorem fwdMod_rst (f : Fwd → Fwd) (s : State) : (fwdMod f s).rst = s.rst := rfl
@[simp] theorem fwdMod_host (f : Fwd → Fwd) (s : State) : (fwdMod f s).host = s.host := rfl
@[simp] theorem fwdMod_mb (f : Fwd → Fwd) (s : State) : (fwdMod f s).mb = s.mb := rfl
@[simp] theorem fwdMod_boot (f : Fwd → Fwd) (s : State) : (fwdMod f s).boot = s.boot := rfl
@[simp] theorem fwdMod_pc (f : Fwd → Fwd) (s : State) : (fwdMod f s).pc = s.pc := rfl
@[simp] theorem fwdMod_pins (f : Fwd → Fwd) (s : State) : (fwdMod f s).pins = s.pins := rfl
@[simp] theorem fwdMod_par (f : Fwd → Fwd) (s : State) : (fwdMod f s).par = s.par := rfl
@[simp] theorem fwdMod_free (f : Fwd → Fwd) (s : State) : (fwdMod f s).free = s.free := rfl
@[simp] theorem fwdMod_nextFid (f : Fwd → Fwd) (s : State) : (fwdMod f s).nextFid = s.nextFid := rfl
@[simp] theorem fwdMod_pending (f : Fwd → Fwd) (s : State) : (fwdMod f s).pending = s.pending := rfl

/-! ### inMod -/

@[simp] theorem inMod_clk (g : Nat) (f : InGroup → InGroup) (s : State) : (inMod g f s).clk = s.clk := rfl
@[simp] theorem inMod_te (g : Nat) (f : InGroup → InGroup) (s : State) : (inMod g f s).te = s.te := rfl
@[simp] theorem inMod_lane (g : Nat) (f : InGroup → InGroup) (s : State) : (inMod g f s).lane = s.lane := rfl
@[simp] theorem inMod_group (g : Nat) (f : InGroup → InGroup) (s : State) : (inMod g f s).group = s.group := rfl
@[simp] theorem inMod_port (g : Nat) (f : InGroup → InGroup) (s : State) : (inMod g f s).port = s.port := rfl
@[simp] theorem inMod_tio (g : Nat) (f : InGroup → InGroup) (s : State) : (inMod g f s).tio = s.tio := rfl
@[simp] theorem inMod_ck (g : Nat) (f : InGroup → InGroup) (s : State) : (inMod g f s).ck = s.ck := rfl
@[simp] theorem inMod_cal (g : Nat) (f : InGroup → InGroup) (s : State) : (inMod g f s).cal = s.cal := rfl
@[simp] theorem inMod_wx (g : Nat) (f : InGroup → InGroup) (s : State) : (inMod g f s).wx = s.wx := rfl
@[simp] theorem inMod_fwd (g : Nat) (f : InGroup → InGroup) (s : State) : (inMod g f s).fwd = s.fwd := rfl
@[simp] theorem inMod_cald (g : Nat) (f : InGroup → InGroup) (s : State) : (inMod g f s).cald = s.cald := rfl
@[simp] theorem inMod_fab (g : Nat) (f : InGroup → InGroup) (s : State) : (inMod g f s).fab = s.fab := rfl
@[simp] theorem inMod_fabS (g : Nat) (f : InGroup → InGroup) (s : State) : (inMod g f s).fabS = s.fabS := rfl
@[simp] theorem inMod_pm (g : Nat) (f : InGroup → InGroup) (s : State) : (inMod g f s).pm = s.pm := rfl
@[simp] theorem inMod_rst (g : Nat) (f : InGroup → InGroup) (s : State) : (inMod g f s).rst = s.rst := rfl
@[simp] theorem inMod_host (g : Nat) (f : InGroup → InGroup) (s : State) : (inMod g f s).host = s.host := rfl
@[simp] theorem inMod_mb (g : Nat) (f : InGroup → InGroup) (s : State) : (inMod g f s).mb = s.mb := rfl
@[simp] theorem inMod_boot (g : Nat) (f : InGroup → InGroup) (s : State) : (inMod g f s).boot = s.boot := rfl
@[simp] theorem inMod_pc (g : Nat) (f : InGroup → InGroup) (s : State) : (inMod g f s).pc = s.pc := rfl
@[simp] theorem inMod_pins (g : Nat) (f : InGroup → InGroup) (s : State) : (inMod g f s).pins = s.pins := rfl
@[simp] theorem inMod_par (g : Nat) (f : InGroup → InGroup) (s : State) : (inMod g f s).par = s.par := rfl
@[simp] theorem inMod_free (g : Nat) (f : InGroup → InGroup) (s : State) : (inMod g f s).free = s.free := rfl
@[simp] theorem inMod_nextFid (g : Nat) (f : InGroup → InGroup) (s : State) : (inMod g f s).nextFid = s.nextFid := rfl
@[simp] theorem inMod_pending (g : Nat) (f : InGroup → InGroup) (s : State) : (inMod g f s).pending = s.pending := rfl

/-! ### outMod -/

@[simp] theorem outMod_clk (g : Nat) (f : OutGroup → OutGroup) (s : State) : (outMod g f s).clk = s.clk := rfl
@[simp] theorem outMod_te (g : Nat) (f : OutGroup → OutGroup) (s : State) : (outMod g f s).te = s.te := rfl
@[simp] theorem outMod_lane (g : Nat) (f : OutGroup → OutGroup) (s : State) : (outMod g f s).lane = s.lane := rfl
@[simp] theorem outMod_group (g : Nat) (f : OutGroup → OutGroup) (s : State) : (outMod g f s).group = s.group := rfl
@[simp] theorem outMod_port (g : Nat) (f : OutGroup → OutGroup) (s : State) : (outMod g f s).port = s.port := rfl
@[simp] theorem outMod_tio (g : Nat) (f : OutGroup → OutGroup) (s : State) : (outMod g f s).tio = s.tio := rfl
@[simp] theorem outMod_ck (g : Nat) (f : OutGroup → OutGroup) (s : State) : (outMod g f s).ck = s.ck := rfl
@[simp] theorem outMod_cal (g : Nat) (f : OutGroup → OutGroup) (s : State) : (outMod g f s).cal = s.cal := rfl
@[simp] theorem outMod_wx (g : Nat) (f : OutGroup → OutGroup) (s : State) : (outMod g f s).wx = s.wx := rfl
@[simp] theorem outMod_fwd (g : Nat) (f : OutGroup → OutGroup) (s : State) : (outMod g f s).fwd = s.fwd := rfl
@[simp] theorem outMod_cald (g : Nat) (f : OutGroup → OutGroup) (s : State) : (outMod g f s).cald = s.cald := rfl
@[simp] theorem outMod_fab (g : Nat) (f : OutGroup → OutGroup) (s : State) : (outMod g f s).fab = s.fab := rfl
@[simp] theorem outMod_fabS (g : Nat) (f : OutGroup → OutGroup) (s : State) : (outMod g f s).fabS = s.fabS := rfl
@[simp] theorem outMod_pm (g : Nat) (f : OutGroup → OutGroup) (s : State) : (outMod g f s).pm = s.pm := rfl
@[simp] theorem outMod_rst (g : Nat) (f : OutGroup → OutGroup) (s : State) : (outMod g f s).rst = s.rst := rfl
@[simp] theorem outMod_host (g : Nat) (f : OutGroup → OutGroup) (s : State) : (outMod g f s).host = s.host := rfl
@[simp] theorem outMod_mb (g : Nat) (f : OutGroup → OutGroup) (s : State) : (outMod g f s).mb = s.mb := rfl
@[simp] theorem outMod_boot (g : Nat) (f : OutGroup → OutGroup) (s : State) : (outMod g f s).boot = s.boot := rfl
@[simp] theorem outMod_pc (g : Nat) (f : OutGroup → OutGroup) (s : State) : (outMod g f s).pc = s.pc := rfl
@[simp] theorem outMod_pins (g : Nat) (f : OutGroup → OutGroup) (s : State) : (outMod g f s).pins = s.pins := rfl
@[simp] theorem outMod_par (g : Nat) (f : OutGroup → OutGroup) (s : State) : (outMod g f s).par = s.par := rfl
@[simp] theorem outMod_free (g : Nat) (f : OutGroup → OutGroup) (s : State) : (outMod g f s).free = s.free := rfl
@[simp] theorem outMod_nextFid (g : Nat) (f : OutGroup → OutGroup) (s : State) : (outMod g f s).nextFid = s.nextFid := rfl
@[simp] theorem outMod_pending (g : Nat) (f : OutGroup → OutGroup) (s : State) : (outMod g f s).pending = s.pending := rfl

/-! ### calMod -/

@[simp] theorem calMod_clk (f : Calendar → Calendar) (s : State) : (calMod f s).clk = s.clk := rfl
@[simp] theorem calMod_te (f : Calendar → Calendar) (s : State) : (calMod f s).te = s.te := rfl
@[simp] theorem calMod_lane (f : Calendar → Calendar) (s : State) : (calMod f s).lane = s.lane := rfl
@[simp] theorem calMod_group (f : Calendar → Calendar) (s : State) : (calMod f s).group = s.group := rfl
@[simp] theorem calMod_port (f : Calendar → Calendar) (s : State) : (calMod f s).port = s.port := rfl
@[simp] theorem calMod_tio (f : Calendar → Calendar) (s : State) : (calMod f s).tio = s.tio := rfl
@[simp] theorem calMod_ck (f : Calendar → Calendar) (s : State) : (calMod f s).ck = s.ck := rfl
@[simp] theorem calMod_cal (f : Calendar → Calendar) (s : State) : (calMod f s).cal = s.cal := rfl
@[simp] theorem calMod_wx (f : Calendar → Calendar) (s : State) : (calMod f s).wx = s.wx := rfl
@[simp] theorem calMod_fwd (f : Calendar → Calendar) (s : State) : (calMod f s).fwd = s.fwd := rfl
@[simp] theorem calMod_q (f : Calendar → Calendar) (s : State) : (calMod f s).q = s.q := rfl
@[simp] theorem calMod_fab (f : Calendar → Calendar) (s : State) : (calMod f s).fab = s.fab := rfl
@[simp] theorem calMod_fabS (f : Calendar → Calendar) (s : State) : (calMod f s).fabS = s.fabS := rfl
@[simp] theorem calMod_pm (f : Calendar → Calendar) (s : State) : (calMod f s).pm = s.pm := rfl
@[simp] theorem calMod_rst (f : Calendar → Calendar) (s : State) : (calMod f s).rst = s.rst := rfl
@[simp] theorem calMod_host (f : Calendar → Calendar) (s : State) : (calMod f s).host = s.host := rfl
@[simp] theorem calMod_mb (f : Calendar → Calendar) (s : State) : (calMod f s).mb = s.mb := rfl
@[simp] theorem calMod_boot (f : Calendar → Calendar) (s : State) : (calMod f s).boot = s.boot := rfl
@[simp] theorem calMod_pc (f : Calendar → Calendar) (s : State) : (calMod f s).pc = s.pc := rfl
@[simp] theorem calMod_pins (f : Calendar → Calendar) (s : State) : (calMod f s).pins = s.pins := rfl
@[simp] theorem calMod_par (f : Calendar → Calendar) (s : State) : (calMod f s).par = s.par := rfl
@[simp] theorem calMod_free (f : Calendar → Calendar) (s : State) : (calMod f s).free = s.free := rfl
@[simp] theorem calMod_nextFid (f : Calendar → Calendar) (s : State) : (calMod f s).nextFid = s.nextFid := rfl
@[simp] theorem calMod_pending (f : Calendar → Calendar) (s : State) : (calMod f s).pending = s.pending := rfl

/-! ### fabMod -/

@[simp] theorem fabMod_clk (f : Fabric → Fabric) (s : State) : (fabMod f s).clk = s.clk := rfl
@[simp] theorem fabMod_te (f : Fabric → Fabric) (s : State) : (fabMod f s).te = s.te := rfl
@[simp] theorem fabMod_lane (f : Fabric → Fabric) (s : State) : (fabMod f s).lane = s.lane := rfl
@[simp] theorem fabMod_group (f : Fabric → Fabric) (s : State) : (fabMod f s).group = s.group := rfl
@[simp] theorem fabMod_port (f : Fabric → Fabric) (s : State) : (fabMod f s).port = s.port := rfl
@[simp] theorem fabMod_tio (f : Fabric → Fabric) (s : State) : (fabMod f s).tio = s.tio := rfl
@[simp] theorem fabMod_ck (f : Fabric → Fabric) (s : State) : (fabMod f s).ck = s.ck := rfl
@[simp] theorem fabMod_cal (f : Fabric → Fabric) (s : State) : (fabMod f s).cal = s.cal := rfl
@[simp] theorem fabMod_wx (f : Fabric → Fabric) (s : State) : (fabMod f s).wx = s.wx := rfl
@[simp] theorem fabMod_fwd (f : Fabric → Fabric) (s : State) : (fabMod f s).fwd = s.fwd := rfl
@[simp] theorem fabMod_q (f : Fabric → Fabric) (s : State) : (fabMod f s).q = s.q := rfl
@[simp] theorem fabMod_cald (f : Fabric → Fabric) (s : State) : (fabMod f s).cald = s.cald := rfl
@[simp] theorem fabMod_fabS (f : Fabric → Fabric) (s : State) : (fabMod f s).fabS = s.fabS := rfl
@[simp] theorem fabMod_pm (f : Fabric → Fabric) (s : State) : (fabMod f s).pm = s.pm := rfl
@[simp] theorem fabMod_rst (f : Fabric → Fabric) (s : State) : (fabMod f s).rst = s.rst := rfl
@[simp] theorem fabMod_host (f : Fabric → Fabric) (s : State) : (fabMod f s).host = s.host := rfl
@[simp] theorem fabMod_mb (f : Fabric → Fabric) (s : State) : (fabMod f s).mb = s.mb := rfl
@[simp] theorem fabMod_boot (f : Fabric → Fabric) (s : State) : (fabMod f s).boot = s.boot := rfl
@[simp] theorem fabMod_pc (f : Fabric → Fabric) (s : State) : (fabMod f s).pc = s.pc := rfl
@[simp] theorem fabMod_pins (f : Fabric → Fabric) (s : State) : (fabMod f s).pins = s.pins := rfl
@[simp] theorem fabMod_par (f : Fabric → Fabric) (s : State) : (fabMod f s).par = s.par := rfl
@[simp] theorem fabMod_free (f : Fabric → Fabric) (s : State) : (fabMod f s).free = s.free := rfl
@[simp] theorem fabMod_nextFid (f : Fabric → Fabric) (s : State) : (fabMod f s).nextFid = s.nextFid := rfl
@[simp] theorem fabMod_pending (f : Fabric → Fabric) (s : State) : (fabMod f s).pending = s.pending := rfl

/-! ### domMod -/

@[simp] theorem domMod_clk (d : Nat) (f : Domain → Domain) (s : State) : (domMod d f s).clk = s.clk := rfl
@[simp] theorem domMod_te (d : Nat) (f : Domain → Domain) (s : State) : (domMod d f s).te = s.te := rfl
@[simp] theorem domMod_lane (d : Nat) (f : Domain → Domain) (s : State) : (domMod d f s).lane = s.lane := rfl
@[simp] theorem domMod_group (d : Nat) (f : Domain → Domain) (s : State) : (domMod d f s).group = s.group := rfl
@[simp] theorem domMod_port (d : Nat) (f : Domain → Domain) (s : State) : (domMod d f s).port = s.port := rfl
@[simp] theorem domMod_tio (d : Nat) (f : Domain → Domain) (s : State) : (domMod d f s).tio = s.tio := rfl
@[simp] theorem domMod_ck (d : Nat) (f : Domain → Domain) (s : State) : (domMod d f s).ck = s.ck := rfl
@[simp] theorem domMod_cal (d : Nat) (f : Domain → Domain) (s : State) : (domMod d f s).cal = s.cal := rfl
@[simp] theorem domMod_wx (d : Nat) (f : Domain → Domain) (s : State) : (domMod d f s).wx = s.wx := rfl
@[simp] theorem domMod_fwd (d : Nat) (f : Domain → Domain) (s : State) : (domMod d f s).fwd = s.fwd := rfl
@[simp] theorem domMod_q (d : Nat) (f : Domain → Domain) (s : State) : (domMod d f s).q = s.q := rfl
@[simp] theorem domMod_cald (d : Nat) (f : Domain → Domain) (s : State) : (domMod d f s).cald = s.cald := rfl
@[simp] theorem domMod_fab (d : Nat) (f : Domain → Domain) (s : State) : (domMod d f s).fab = s.fab := rfl
@[simp] theorem domMod_fabS (d : Nat) (f : Domain → Domain) (s : State) : (domMod d f s).fabS = s.fabS := rfl
@[simp] theorem domMod_rst (d : Nat) (f : Domain → Domain) (s : State) : (domMod d f s).rst = s.rst := rfl
@[simp] theorem domMod_host (d : Nat) (f : Domain → Domain) (s : State) : (domMod d f s).host = s.host := rfl
@[simp] theorem domMod_mb (d : Nat) (f : Domain → Domain) (s : State) : (domMod d f s).mb = s.mb := rfl
@[simp] theorem domMod_boot (d : Nat) (f : Domain → Domain) (s : State) : (domMod d f s).boot = s.boot := rfl
@[simp] theorem domMod_pc (d : Nat) (f : Domain → Domain) (s : State) : (domMod d f s).pc = s.pc := rfl
@[simp] theorem domMod_pins (d : Nat) (f : Domain → Domain) (s : State) : (domMod d f s).pins = s.pins := rfl
@[simp] theorem domMod_par (d : Nat) (f : Domain → Domain) (s : State) : (domMod d f s).par = s.par := rfl
@[simp] theorem domMod_free (d : Nat) (f : Domain → Domain) (s : State) : (domMod d f s).free = s.free := rfl
@[simp] theorem domMod_nextFid (d : Nat) (f : Domain → Domain) (s : State) : (domMod d f s).nextFid = s.nextFid := rfl
@[simp] theorem domMod_pending (d : Nat) (f : Domain → Domain) (s : State) : (domMod d f s).pending = s.pending := rfl

/-! ### rstMod -/

@[simp] theorem rstMod_clk (f : Resets → Resets) (s : State) : (rstMod f s).clk = s.clk := rfl
@[simp] theorem rstMod_te (f : Resets → Resets) (s : State) : (rstMod f s).te = s.te := rfl
@[simp] theorem rstMod_lane (f : Resets → Resets) (s : State) : (rstMod f s).lane = s.lane := rfl
@[simp] theorem rstMod_group (f : Resets → Resets) (s : State) : (rstMod f s).group = s.group := rfl
@[simp] theorem rstMod_port (f : Resets → Resets) (s : State) : (rstMod f s).port = s.port := rfl
@[simp] theorem rstMod_tio (f : Resets → Resets) (s : State) : (rstMod f s).tio = s.tio := rfl
@[simp] theorem rstMod_ck (f : Resets → Resets) (s : State) : (rstMod f s).ck = s.ck := rfl
@[simp] theorem rstMod_cal (f : Resets → Resets) (s : State) : (rstMod f s).cal = s.cal := rfl
@[simp] theorem rstMod_wx (f : Resets → Resets) (s : State) : (rstMod f s).wx = s.wx := rfl
@[simp] theorem rstMod_fwd (f : Resets → Resets) (s : State) : (rstMod f s).fwd = s.fwd := rfl
@[simp] theorem rstMod_q (f : Resets → Resets) (s : State) : (rstMod f s).q = s.q := rfl
@[simp] theorem rstMod_cald (f : Resets → Resets) (s : State) : (rstMod f s).cald = s.cald := rfl
@[simp] theorem rstMod_fab (f : Resets → Resets) (s : State) : (rstMod f s).fab = s.fab := rfl
@[simp] theorem rstMod_fabS (f : Resets → Resets) (s : State) : (rstMod f s).fabS = s.fabS := rfl
@[simp] theorem rstMod_pm (f : Resets → Resets) (s : State) : (rstMod f s).pm = s.pm := rfl
@[simp] theorem rstMod_host (f : Resets → Resets) (s : State) : (rstMod f s).host = s.host := rfl
@[simp] theorem rstMod_mb (f : Resets → Resets) (s : State) : (rstMod f s).mb = s.mb := rfl
@[simp] theorem rstMod_boot (f : Resets → Resets) (s : State) : (rstMod f s).boot = s.boot := rfl
@[simp] theorem rstMod_pc (f : Resets → Resets) (s : State) : (rstMod f s).pc = s.pc := rfl
@[simp] theorem rstMod_pins (f : Resets → Resets) (s : State) : (rstMod f s).pins = s.pins := rfl
@[simp] theorem rstMod_par (f : Resets → Resets) (s : State) : (rstMod f s).par = s.par := rfl
@[simp] theorem rstMod_free (f : Resets → Resets) (s : State) : (rstMod f s).free = s.free := rfl
@[simp] theorem rstMod_nextFid (f : Resets → Resets) (s : State) : (rstMod f s).nextFid = s.nextFid := rfl
@[simp] theorem rstMod_pending (f : Resets → Resets) (s : State) : (rstMod f s).pending = s.pending := rfl

/-! ### hostMod -/

@[simp] theorem hostMod_clk (f : HostIf → HostIf) (s : State) : (hostMod f s).clk = s.clk := rfl
@[simp] theorem hostMod_te (f : HostIf → HostIf) (s : State) : (hostMod f s).te = s.te := rfl
@[simp] theorem hostMod_lane (f : HostIf → HostIf) (s : State) : (hostMod f s).lane = s.lane := rfl
@[simp] theorem hostMod_group (f : HostIf → HostIf) (s : State) : (hostMod f s).group = s.group := rfl
@[simp] theorem hostMod_port (f : HostIf → HostIf) (s : State) : (hostMod f s).port = s.port := rfl
@[simp] theorem hostMod_tio (f : HostIf → HostIf) (s : State) : (hostMod f s).tio = s.tio := rfl
@[simp] theorem hostMod_ck (f : HostIf → HostIf) (s : State) : (hostMod f s).ck = s.ck := rfl
@[simp] theorem hostMod_cal (f : HostIf → HostIf) (s : State) : (hostMod f s).cal = s.cal := rfl
@[simp] theorem hostMod_wx (f : HostIf → HostIf) (s : State) : (hostMod f s).wx = s.wx := rfl
@[simp] theorem hostMod_fwd (f : HostIf → HostIf) (s : State) : (hostMod f s).fwd = s.fwd := rfl
@[simp] theorem hostMod_q (f : HostIf → HostIf) (s : State) : (hostMod f s).q = s.q := rfl
@[simp] theorem hostMod_cald (f : HostIf → HostIf) (s : State) : (hostMod f s).cald = s.cald := rfl
@[simp] theorem hostMod_fab (f : HostIf → HostIf) (s : State) : (hostMod f s).fab = s.fab := rfl
@[simp] theorem hostMod_fabS (f : HostIf → HostIf) (s : State) : (hostMod f s).fabS = s.fabS := rfl
@[simp] theorem hostMod_pm (f : HostIf → HostIf) (s : State) : (hostMod f s).pm = s.pm := rfl
@[simp] theorem hostMod_rst (f : HostIf → HostIf) (s : State) : (hostMod f s).rst = s.rst := rfl
@[simp] theorem hostMod_mb (f : HostIf → HostIf) (s : State) : (hostMod f s).mb = s.mb := rfl
@[simp] theorem hostMod_boot (f : HostIf → HostIf) (s : State) : (hostMod f s).boot = s.boot := rfl
@[simp] theorem hostMod_pc (f : HostIf → HostIf) (s : State) : (hostMod f s).pc = s.pc := rfl
@[simp] theorem hostMod_pins (f : HostIf → HostIf) (s : State) : (hostMod f s).pins = s.pins := rfl
@[simp] theorem hostMod_par (f : HostIf → HostIf) (s : State) : (hostMod f s).par = s.par := rfl
@[simp] theorem hostMod_free (f : HostIf → HostIf) (s : State) : (hostMod f s).free = s.free := rfl
@[simp] theorem hostMod_nextFid (f : HostIf → HostIf) (s : State) : (hostMod f s).nextFid = s.nextFid := rfl
@[simp] theorem hostMod_pending (f : HostIf → HostIf) (s : State) : (hostMod f s).pending = s.pending := rfl

/-! ### bootMod -/

@[simp] theorem bootMod_clk (f : Boot → Boot) (s : State) : (bootMod f s).clk = s.clk := rfl
@[simp] theorem bootMod_te (f : Boot → Boot) (s : State) : (bootMod f s).te = s.te := rfl
@[simp] theorem bootMod_lane (f : Boot → Boot) (s : State) : (bootMod f s).lane = s.lane := rfl
@[simp] theorem bootMod_group (f : Boot → Boot) (s : State) : (bootMod f s).group = s.group := rfl
@[simp] theorem bootMod_port (f : Boot → Boot) (s : State) : (bootMod f s).port = s.port := rfl
@[simp] theorem bootMod_tio (f : Boot → Boot) (s : State) : (bootMod f s).tio = s.tio := rfl
@[simp] theorem bootMod_ck (f : Boot → Boot) (s : State) : (bootMod f s).ck = s.ck := rfl
@[simp] theorem bootMod_cal (f : Boot → Boot) (s : State) : (bootMod f s).cal = s.cal := rfl
@[simp] theorem bootMod_wx (f : Boot → Boot) (s : State) : (bootMod f s).wx = s.wx := rfl
@[simp] theorem bootMod_fwd (f : Boot → Boot) (s : State) : (bootMod f s).fwd = s.fwd := rfl
@[simp] theorem bootMod_q (f : Boot → Boot) (s : State) : (bootMod f s).q = s.q := rfl
@[simp] theorem bootMod_cald (f : Boot → Boot) (s : State) : (bootMod f s).cald = s.cald := rfl
@[simp] theorem bootMod_fab (f : Boot → Boot) (s : State) : (bootMod f s).fab = s.fab := rfl
@[simp] theorem bootMod_fabS (f : Boot → Boot) (s : State) : (bootMod f s).fabS = s.fabS := rfl
@[simp] theorem bootMod_pm (f : Boot → Boot) (s : State) : (bootMod f s).pm = s.pm := rfl
@[simp] theorem bootMod_rst (f : Boot → Boot) (s : State) : (bootMod f s).rst = s.rst := rfl
@[simp] theorem bootMod_host (f : Boot → Boot) (s : State) : (bootMod f s).host = s.host := rfl
@[simp] theorem bootMod_mb (f : Boot → Boot) (s : State) : (bootMod f s).mb = s.mb := rfl
@[simp] theorem bootMod_pc (f : Boot → Boot) (s : State) : (bootMod f s).pc = s.pc := rfl
@[simp] theorem bootMod_pins (f : Boot → Boot) (s : State) : (bootMod f s).pins = s.pins := rfl
@[simp] theorem bootMod_par (f : Boot → Boot) (s : State) : (bootMod f s).par = s.par := rfl
@[simp] theorem bootMod_free (f : Boot → Boot) (s : State) : (bootMod f s).free = s.free := rfl
@[simp] theorem bootMod_nextFid (f : Boot → Boot) (s : State) : (bootMod f s).nextFid = s.nextFid := rfl
@[simp] theorem bootMod_pending (f : Boot → Boot) (s : State) : (bootMod f s).pending = s.pending := rfl

/-! ### mbMod -/

@[simp] theorem mbMod_clk (f : Mailbox → Mailbox) (s : State) : (mbMod f s).clk = s.clk := rfl
@[simp] theorem mbMod_te (f : Mailbox → Mailbox) (s : State) : (mbMod f s).te = s.te := rfl
@[simp] theorem mbMod_lane (f : Mailbox → Mailbox) (s : State) : (mbMod f s).lane = s.lane := rfl
@[simp] theorem mbMod_group (f : Mailbox → Mailbox) (s : State) : (mbMod f s).group = s.group := rfl
@[simp] theorem mbMod_port (f : Mailbox → Mailbox) (s : State) : (mbMod f s).port = s.port := rfl
@[simp] theorem mbMod_tio (f : Mailbox → Mailbox) (s : State) : (mbMod f s).tio = s.tio := rfl
@[simp] theorem mbMod_ck (f : Mailbox → Mailbox) (s : State) : (mbMod f s).ck = s.ck := rfl
@[simp] theorem mbMod_cal (f : Mailbox → Mailbox) (s : State) : (mbMod f s).cal = s.cal := rfl
@[simp] theorem mbMod_wx (f : Mailbox → Mailbox) (s : State) : (mbMod f s).wx = s.wx := rfl
@[simp] theorem mbMod_fwd (f : Mailbox → Mailbox) (s : State) : (mbMod f s).fwd = s.fwd := rfl
@[simp] theorem mbMod_q (f : Mailbox → Mailbox) (s : State) : (mbMod f s).q = s.q := rfl
@[simp] theorem mbMod_cald (f : Mailbox → Mailbox) (s : State) : (mbMod f s).cald = s.cald := rfl
@[simp] theorem mbMod_fab (f : Mailbox → Mailbox) (s : State) : (mbMod f s).fab = s.fab := rfl
@[simp] theorem mbMod_fabS (f : Mailbox → Mailbox) (s : State) : (mbMod f s).fabS = s.fabS := rfl
@[simp] theorem mbMod_pm (f : Mailbox → Mailbox) (s : State) : (mbMod f s).pm = s.pm := rfl
@[simp] theorem mbMod_rst (f : Mailbox → Mailbox) (s : State) : (mbMod f s).rst = s.rst := rfl
@[simp] theorem mbMod_host (f : Mailbox → Mailbox) (s : State) : (mbMod f s).host = s.host := rfl
@[simp] theorem mbMod_boot (f : Mailbox → Mailbox) (s : State) : (mbMod f s).boot = s.boot := rfl
@[simp] theorem mbMod_pc (f : Mailbox → Mailbox) (s : State) : (mbMod f s).pc = s.pc := rfl
@[simp] theorem mbMod_pins (f : Mailbox → Mailbox) (s : State) : (mbMod f s).pins = s.pins := rfl
@[simp] theorem mbMod_par (f : Mailbox → Mailbox) (s : State) : (mbMod f s).par = s.par := rfl
@[simp] theorem mbMod_free (f : Mailbox → Mailbox) (s : State) : (mbMod f s).free = s.free := rfl
@[simp] theorem mbMod_nextFid (f : Mailbox → Mailbox) (s : State) : (mbMod f s).nextFid = s.nextFid := rfl
@[simp] theorem mbMod_pending (f : Mailbox → Mailbox) (s : State) : (mbMod f s).pending = s.pending := rfl

/-! ### advance -/

@[simp] theorem advance_te (u : Nat) (s : State) : (advance u s).te = s.te := rfl
@[simp] theorem advance_lane (u : Nat) (s : State) : (advance u s).lane = s.lane := rfl
@[simp] theorem advance_group (u : Nat) (s : State) : (advance u s).group = s.group := rfl
@[simp] theorem advance_port (u : Nat) (s : State) : (advance u s).port = s.port := rfl
@[simp] theorem advance_tio (u : Nat) (s : State) : (advance u s).tio = s.tio := rfl
@[simp] theorem advance_ck (u : Nat) (s : State) : (advance u s).ck = s.ck := rfl
@[simp] theorem advance_cal (u : Nat) (s : State) : (advance u s).cal = s.cal := rfl
@[simp] theorem advance_wx (u : Nat) (s : State) : (advance u s).wx = s.wx := rfl
@[simp] theorem advance_fwd (u : Nat) (s : State) : (advance u s).fwd = s.fwd := rfl
@[simp] theorem advance_q (u : Nat) (s : State) : (advance u s).q = s.q := rfl
@[simp] theorem advance_cald (u : Nat) (s : State) : (advance u s).cald = s.cald := rfl
@[simp] theorem advance_fab (u : Nat) (s : State) : (advance u s).fab = s.fab := rfl
@[simp] theorem advance_fabS (u : Nat) (s : State) : (advance u s).fabS = s.fabS := rfl
@[simp] theorem advance_pm (u : Nat) (s : State) : (advance u s).pm = s.pm := rfl
@[simp] theorem advance_rst (u : Nat) (s : State) : (advance u s).rst = s.rst := rfl
@[simp] theorem advance_host (u : Nat) (s : State) : (advance u s).host = s.host := rfl
@[simp] theorem advance_mb (u : Nat) (s : State) : (advance u s).mb = s.mb := rfl
@[simp] theorem advance_boot (u : Nat) (s : State) : (advance u s).boot = s.boot := rfl
@[simp] theorem advance_pc (u : Nat) (s : State) : (advance u s).pc = s.pc := rfl
@[simp] theorem advance_pins (u : Nat) (s : State) : (advance u s).pins = s.pins := rfl
@[simp] theorem advance_par (u : Nat) (s : State) : (advance u s).par = s.par := rfl
@[simp] theorem advance_free (u : Nat) (s : State) : (advance u s).free = s.free := rfl
@[simp] theorem advance_nextFid (u : Nat) (s : State) : (advance u s).nextFid = s.nextFid := rfl
@[simp] theorem advance_pending (u : Nat) (s : State) : (advance u s).pending = s.pending := rfl

/-! ### bump -/

@[simp] theorem bump_clk (ev n : Nat) (s : State) : (bump ev n s).clk = s.clk := rfl
@[simp] theorem bump_te (ev n : Nat) (s : State) : (bump ev n s).te = s.te := rfl
@[simp] theorem bump_lane (ev n : Nat) (s : State) : (bump ev n s).lane = s.lane := rfl
@[simp] theorem bump_group (ev n : Nat) (s : State) : (bump ev n s).group = s.group := rfl
@[simp] theorem bump_port (ev n : Nat) (s : State) : (bump ev n s).port = s.port := rfl
@[simp] theorem bump_tio (ev n : Nat) (s : State) : (bump ev n s).tio = s.tio := rfl
@[simp] theorem bump_ck (ev n : Nat) (s : State) : (bump ev n s).ck = s.ck := rfl
@[simp] theorem bump_cal (ev n : Nat) (s : State) : (bump ev n s).cal = s.cal := rfl
@[simp] theorem bump_wx (ev n : Nat) (s : State) : (bump ev n s).wx = s.wx := rfl
@[simp] theorem bump_fwd (ev n : Nat) (s : State) : (bump ev n s).fwd = s.fwd := rfl
@[simp] theorem bump_q (ev n : Nat) (s : State) : (bump ev n s).q = s.q := rfl
@[simp] theorem bump_cald (ev n : Nat) (s : State) : (bump ev n s).cald = s.cald := rfl
@[simp] theorem bump_fab (ev n : Nat) (s : State) : (bump ev n s).fab = s.fab := rfl
@[simp] theorem bump_fabS (ev n : Nat) (s : State) : (bump ev n s).fabS = s.fabS := rfl
@[simp] theorem bump_pm (ev n : Nat) (s : State) : (bump ev n s).pm = s.pm := rfl
@[simp] theorem bump_rst (ev n : Nat) (s : State) : (bump ev n s).rst = s.rst := rfl
@[simp] theorem bump_host (ev n : Nat) (s : State) : (bump ev n s).host = s.host := rfl
@[simp] theorem bump_mb (ev n : Nat) (s : State) : (bump ev n s).mb = s.mb := rfl
@[simp] theorem bump_boot (ev n : Nat) (s : State) : (bump ev n s).boot = s.boot := rfl
@[simp] theorem bump_pins (ev n : Nat) (s : State) : (bump ev n s).pins = s.pins := rfl
@[simp] theorem bump_par (ev n : Nat) (s : State) : (bump ev n s).par = s.par := rfl
@[simp] theorem bump_free (ev n : Nat) (s : State) : (bump ev n s).free = s.free := rfl
@[simp] theorem bump_nextFid (ev n : Nat) (s : State) : (bump ev n s).nextFid = s.nextFid := rfl
@[simp] theorem bump_pending (ev n : Nat) (s : State) : (bump ev n s).pending = s.pending := rfl

/-! ### recover -/

@[simp] theorem recover_clk (kind detail unit : Nat) (s : State) : (recover kind detail unit s).clk = s.clk := rfl
@[simp] theorem recover_te (kind detail unit : Nat) (s : State) : (recover kind detail unit s).te = s.te := rfl
@[simp] theorem recover_lane (kind detail unit : Nat) (s : State) : (recover kind detail unit s).lane = s.lane := rfl
@[simp] theorem recover_group (kind detail unit : Nat) (s : State) : (recover kind detail unit s).group = s.group := rfl
@[simp] theorem recover_port (kind detail unit : Nat) (s : State) : (recover kind detail unit s).port = s.port := rfl
@[simp] theorem recover_tio (kind detail unit : Nat) (s : State) : (recover kind detail unit s).tio = s.tio := rfl
@[simp] theorem recover_ck (kind detail unit : Nat) (s : State) : (recover kind detail unit s).ck = s.ck := rfl
@[simp] theorem recover_cal (kind detail unit : Nat) (s : State) : (recover kind detail unit s).cal = s.cal := rfl
@[simp] theorem recover_wx (kind detail unit : Nat) (s : State) : (recover kind detail unit s).wx = s.wx := rfl
@[simp] theorem recover_fwd (kind detail unit : Nat) (s : State) : (recover kind detail unit s).fwd = s.fwd := rfl
@[simp] theorem recover_q (kind detail unit : Nat) (s : State) : (recover kind detail unit s).q = s.q := rfl
@[simp] theorem recover_cald (kind detail unit : Nat) (s : State) : (recover kind detail unit s).cald = s.cald := rfl
@[simp] theorem recover_fab (kind detail unit : Nat) (s : State) : (recover kind detail unit s).fab = s.fab := rfl
@[simp] theorem recover_fabS (kind detail unit : Nat) (s : State) : (recover kind detail unit s).fabS = s.fabS := rfl
@[simp] theorem recover_pm (kind detail unit : Nat) (s : State) : (recover kind detail unit s).pm = s.pm := rfl
@[simp] theorem recover_rst (kind detail unit : Nat) (s : State) : (recover kind detail unit s).rst = s.rst := rfl
@[simp] theorem recover_host (kind detail unit : Nat) (s : State) : (recover kind detail unit s).host = s.host := rfl
@[simp] theorem recover_mb (kind detail unit : Nat) (s : State) : (recover kind detail unit s).mb = s.mb := rfl
@[simp] theorem recover_boot (kind detail unit : Nat) (s : State) : (recover kind detail unit s).boot = s.boot := rfl
@[simp] theorem recover_pins (kind detail unit : Nat) (s : State) : (recover kind detail unit s).pins = s.pins := rfl
@[simp] theorem recover_par (kind detail unit : Nat) (s : State) : (recover kind detail unit s).par = s.par := rfl
@[simp] theorem recover_free (kind detail unit : Nat) (s : State) : (recover kind detail unit s).free = s.free := rfl
@[simp] theorem recover_nextFid (kind detail unit : Nat) (s : State) : (recover kind detail unit s).nextFid = s.nextFid := rfl
@[simp] theorem recover_pending (kind detail unit : Nat) (s : State) : (recover kind detail unit s).pending = s.pending := rfl

/-! ### putData -/

@[simp] theorem putData_clk (w : Initiator) (v : Word) (s : State) : (putData w v s).clk = s.clk := rfl
@[simp] theorem putData_te (w : Initiator) (v : Word) (s : State) : (putData w v s).te = s.te := rfl
@[simp] theorem putData_lane (w : Initiator) (v : Word) (s : State) : (putData w v s).lane = s.lane := rfl
@[simp] theorem putData_group (w : Initiator) (v : Word) (s : State) : (putData w v s).group = s.group := rfl
@[simp] theorem putData_port (w : Initiator) (v : Word) (s : State) : (putData w v s).port = s.port := rfl
@[simp] theorem putData_tio (w : Initiator) (v : Word) (s : State) : (putData w v s).tio = s.tio := rfl
@[simp] theorem putData_ck (w : Initiator) (v : Word) (s : State) : (putData w v s).ck = s.ck := rfl
@[simp] theorem putData_cal (w : Initiator) (v : Word) (s : State) : (putData w v s).cal = s.cal := rfl
@[simp] theorem putData_wx (w : Initiator) (v : Word) (s : State) : (putData w v s).wx = s.wx := rfl
@[simp] theorem putData_fwd (w : Initiator) (v : Word) (s : State) : (putData w v s).fwd = s.fwd := rfl
@[simp] theorem putData_q (w : Initiator) (v : Word) (s : State) : (putData w v s).q = s.q := rfl
@[simp] theorem putData_cald (w : Initiator) (v : Word) (s : State) : (putData w v s).cald = s.cald := rfl
@[simp] theorem putData_fab (w : Initiator) (v : Word) (s : State) : (putData w v s).fab = s.fab := rfl
@[simp] theorem putData_fabS (w : Initiator) (v : Word) (s : State) : (putData w v s).fabS = s.fabS := rfl
@[simp] theorem putData_pm (w : Initiator) (v : Word) (s : State) : (putData w v s).pm = s.pm := rfl
@[simp] theorem putData_rst (w : Initiator) (v : Word) (s : State) : (putData w v s).rst = s.rst := rfl
@[simp] theorem putData_mb (w : Initiator) (v : Word) (s : State) : (putData w v s).mb = s.mb := rfl
@[simp] theorem putData_boot (w : Initiator) (v : Word) (s : State) : (putData w v s).boot = s.boot := rfl
@[simp] theorem putData_pc (w : Initiator) (v : Word) (s : State) : (putData w v s).pc = s.pc := rfl
@[simp] theorem putData_pins (w : Initiator) (v : Word) (s : State) : (putData w v s).pins = s.pins := rfl
@[simp] theorem putData_par (w : Initiator) (v : Word) (s : State) : (putData w v s).par = s.par := rfl
@[simp] theorem putData_free (w : Initiator) (v : Word) (s : State) : (putData w v s).free = s.free := rfl
@[simp] theorem putData_nextFid (w : Initiator) (v : Word) (s : State) : (putData w v s).nextFid = s.nextFid := rfl
@[simp] theorem putData_pending (w : Initiator) (v : Word) (s : State) : (putData w v s).pending = s.pending := rfl

/-! ### The host part replaced, and settle -/

@[simp] theorem withHost_clk (h : HostIf) (s : State) : ({ s with host := h } : State).clk = s.clk := rfl
@[simp] theorem settle_clk (s : State) : (settle s).clk = s.clk := withHost_clk (settledHost s) s
@[simp] theorem withHost_te (h : HostIf) (s : State) : ({ s with host := h } : State).te = s.te := rfl
@[simp] theorem settle_te (s : State) : (settle s).te = s.te := withHost_te (settledHost s) s
@[simp] theorem withHost_lane (h : HostIf) (s : State) : ({ s with host := h } : State).lane = s.lane := rfl
@[simp] theorem settle_lane (s : State) : (settle s).lane = s.lane := withHost_lane (settledHost s) s
@[simp] theorem withHost_group (h : HostIf) (s : State) : ({ s with host := h } : State).group = s.group := rfl
@[simp] theorem settle_group (s : State) : (settle s).group = s.group := withHost_group (settledHost s) s
@[simp] theorem withHost_port (h : HostIf) (s : State) : ({ s with host := h } : State).port = s.port := rfl
@[simp] theorem settle_port (s : State) : (settle s).port = s.port := withHost_port (settledHost s) s
@[simp] theorem withHost_tio (h : HostIf) (s : State) : ({ s with host := h } : State).tio = s.tio := rfl
@[simp] theorem settle_tio (s : State) : (settle s).tio = s.tio := withHost_tio (settledHost s) s
@[simp] theorem withHost_ck (h : HostIf) (s : State) : ({ s with host := h } : State).ck = s.ck := rfl
@[simp] theorem settle_ck (s : State) : (settle s).ck = s.ck := withHost_ck (settledHost s) s
@[simp] theorem withHost_cal (h : HostIf) (s : State) : ({ s with host := h } : State).cal = s.cal := rfl
@[simp] theorem settle_cal (s : State) : (settle s).cal = s.cal := withHost_cal (settledHost s) s
@[simp] theorem withHost_wx (h : HostIf) (s : State) : ({ s with host := h } : State).wx = s.wx := rfl
@[simp] theorem settle_wx (s : State) : (settle s).wx = s.wx := withHost_wx (settledHost s) s
@[simp] theorem withHost_fwd (h : HostIf) (s : State) : ({ s with host := h } : State).fwd = s.fwd := rfl
@[simp] theorem settle_fwd (s : State) : (settle s).fwd = s.fwd := withHost_fwd (settledHost s) s
@[simp] theorem withHost_q (h : HostIf) (s : State) : ({ s with host := h } : State).q = s.q := rfl
@[simp] theorem settle_q (s : State) : (settle s).q = s.q := withHost_q (settledHost s) s
@[simp] theorem withHost_cald (h : HostIf) (s : State) : ({ s with host := h } : State).cald = s.cald := rfl
@[simp] theorem settle_cald (s : State) : (settle s).cald = s.cald := withHost_cald (settledHost s) s
@[simp] theorem withHost_fab (h : HostIf) (s : State) : ({ s with host := h } : State).fab = s.fab := rfl
@[simp] theorem settle_fab (s : State) : (settle s).fab = s.fab := withHost_fab (settledHost s) s
@[simp] theorem withHost_fabS (h : HostIf) (s : State) : ({ s with host := h } : State).fabS = s.fabS := rfl
@[simp] theorem settle_fabS (s : State) : (settle s).fabS = s.fabS := withHost_fabS (settledHost s) s
@[simp] theorem withHost_pm (h : HostIf) (s : State) : ({ s with host := h } : State).pm = s.pm := rfl
@[simp] theorem settle_pm (s : State) : (settle s).pm = s.pm := withHost_pm (settledHost s) s
@[simp] theorem withHost_rst (h : HostIf) (s : State) : ({ s with host := h } : State).rst = s.rst := rfl
@[simp] theorem settle_rst (s : State) : (settle s).rst = s.rst := withHost_rst (settledHost s) s
@[simp] theorem withHost_mb (h : HostIf) (s : State) : ({ s with host := h } : State).mb = s.mb := rfl
@[simp] theorem settle_mb (s : State) : (settle s).mb = s.mb := withHost_mb (settledHost s) s
@[simp] theorem withHost_boot (h : HostIf) (s : State) : ({ s with host := h } : State).boot = s.boot := rfl
@[simp] theorem settle_boot (s : State) : (settle s).boot = s.boot := withHost_boot (settledHost s) s
@[simp] theorem withHost_pc (h : HostIf) (s : State) : ({ s with host := h } : State).pc = s.pc := rfl
@[simp] theorem settle_pc (s : State) : (settle s).pc = s.pc := withHost_pc (settledHost s) s
@[simp] theorem withHost_pins (h : HostIf) (s : State) : ({ s with host := h } : State).pins = s.pins := rfl
@[simp] theorem settle_pins (s : State) : (settle s).pins = s.pins := withHost_pins (settledHost s) s
@[simp] theorem withHost_par (h : HostIf) (s : State) : ({ s with host := h } : State).par = s.par := rfl
@[simp] theorem settle_par (s : State) : (settle s).par = s.par := withHost_par (settledHost s) s
@[simp] theorem withHost_free (h : HostIf) (s : State) : ({ s with host := h } : State).free = s.free := rfl
@[simp] theorem settle_free (s : State) : (settle s).free = s.free := withHost_free (settledHost s) s
@[simp] theorem withHost_nextFid (h : HostIf) (s : State) : ({ s with host := h } : State).nextFid = s.nextFid := rfl
@[simp] theorem settle_nextFid (s : State) : (settle s).nextFid = s.nextFid := withHost_nextFid (settledHost s) s
@[simp] theorem withHost_pending (h : HostIf) (s : State) : ({ s with host := h } : State).pending = s.pending := rfl
@[simp] theorem settle_pending (s : State) : (settle s).pending = s.pending := withHost_pending (settledHost s) s

end Sys2Proof.Machine
end

