-- ==== Sys2Proof/Laws/Settle.lean ====
section
/-! SUPPORT. What the end of a command does: a next state in which only the interrupt bookkeeping of the host part has
moved. -/

namespace Sys2Proof.Machine

/-- The end of a command is a next state. -/
theorem done_eq (s : State) : done s = .next (settle s) := rfl

/-- The host part without its interrupt bookkeeping. -/
theorem settle_host_rest (s : State) :
    { (settle s).host with pend := s.host.pend, pba := s.host.pba, sent := s.host.sent } = s.host := rfl

@[simp] theorem settle_perst (s : State) : (settle s).host.perst = s.host.perst := rfl
@[simp] theorem settle_linkUp (s : State) : (settle s).host.linkUp = s.host.linkUp := rfl
@[simp] theorem settle_modeSet (s : State) : (settle s).host.modeSet = s.host.modeSet := rfl
@[simp] theorem settle_inL1 (s : State) : (settle s).host.inL1 = s.host.inL1 := rfl
@[simp] theorem settle_d3hot (s : State) : (settle s).host.d3hot = s.host.d3hot := rfl
@[simp] theorem settle_sris (s : State) : (settle s).host.sris = s.host.sris := rfl
@[simp] theorem settle_rdata (s : State) : (settle s).host.rdata = s.host.rdata := rfl
@[simp] theorem settle_busError (s : State) : (settle s).host.busError = s.host.busError := rfl
@[simp] theorem settle_holding (s : State) : (settle s).host.holding = s.host.holding := rfl
@[simp] theorem settle_teSnap (s : State) : (settle s).host.teSnap = s.host.teSnap := rfl
@[simp] theorem settle_mirrorAt (s : State) : (settle s).host.mirrorAt = s.host.mirrorAt := rfl
@[simp] theorem settle_mirror (s : State) : (settle s).host.mirror = s.host.mirror := rfl
@[simp] theorem settle_masked (s : State) : (settle s).host.masked = s.host.masked := rfl
@[simp] theorem settle_mgmtRestartEvt (s : State) : (settle s).host.mgmtRestartEvt = s.host.mgmtRestartEvt := rfl
@[simp] theorem settle_mgmtHaltEvt (s : State) : (settle s).host.mgmtHaltEvt = s.host.mgmtHaltEvt := rfl
@[simp] theorem settle_errEvt (s : State) : (settle s).host.errEvt = s.host.errEvt := rfl
@[simp] theorem settle_rx (s : State) : (settle s).host.rx = s.host.rx := rfl
@[simp] theorem settle_tx (s : State) : (settle s).host.tx = s.host.tx := rfl
@[simp] theorem settle_starve (s : State) : (settle s).host.starve = s.host.starve := rfl
@[simp] theorem settle_store (s : State) : (settle s).host.store = s.host.store := rfl
@[simp] theorem settle_txPend (s : State) : (settle s).host.txPend = s.host.txPend := rfl
@[simp] theorem settle_txTurn (s : State) : (settle s).host.txTurn = s.host.txTurn := rfl
@[simp] theorem settle_writes (s : State) : (settle s).host.writes = s.host.writes := rfl

/-- A vector's condition does not look at the interrupt bookkeeping. -/
theorem vectorSet_settle (s : State) (v : Nat) : vectorSet (settle s) v = vectorSet s v := by
  simp only [vectorSet, scFlags, groupFlags, anyRejected, settle_errEvt, settle_mgmtRestartEvt, settle_mgmtHaltEvt,
    settle_rx, settle_tx, settle_mb, settle_pm, settle_te, settle_tio, settle_ck, settle_group, settle_port, settle_lane,
    settle_cald, settle_fab, settle_fabS, settle_fwd, settle_q, settle_cal]

theorem pendVec_settle (s : State) : pendVec (settle s) = pendVec s := by
  rw [pendVec, pendVec, funext (vectorSet_settle s)]

/-- After the end of a command the pending bits are the conditions. -/
theorem settle_pend (s : State) : (settle s).host.pend = pendVec s := rfl

/-- A set of vectors reads back. -/
theorem vectorBits_get (f : Nat → Bool) (v : Nat) (d : Bool) (h : v < 64) : vget (vectorBits f) v d = f v := by
  simp [vget, vectorBits, h]

/-- A message waits only for a condition that stands. -/
theorem settle_pba_le (s : State) (v : Nat) (h : v < 64) (hp : vget (settle s).host.pba v false = true) :
    vget (settle s).host.pend v false = true := by
  have e : vget (settle s).host.pba v false = _ := vectorBits_get _ v false h
  rw [e] at hp
  rw [settle_pend]
  show vget (vectorBits (vectorSet s)) v false = true
  rw [vectorBits_get _ _ _ h]
  simp only [Bool.and_eq_true] at hp
  exact hp.2

end Sys2Proof.Machine
end

