-- ==== Sys2Proof/Laws/Frames.lean ====
section
/-! SUPPORT. Frames: how "every part but these is the same" composes, and which parts each shared operation moves. -/

namespace Sys2Proof.Machine

/-! ### Composition -/

theorem same_refl (p : Part) (s : State) : same p s s := by cases p <;> simp [same]

theorem same_trans {p : Part} {s t u : State} (h : same p s t) (k : same p t u) : same p s u := by
  cases p <;> simp only [same] at *
  case host => rw [← h, ← k]
  case msi => exact ⟨k.1.trans h.1, k.2.1.trans h.2.1, k.2.2.trans h.2.2⟩
  all_goals exact k.trans h

theorem keepsBut_refl (l : List Part) (s : State) : keepsBut l s s := fun p _ => same_refl p s

theorem keepsBut_trans {l : List Part} {s t u : State} (h : keepsBut l s t) (k : keepsBut l t u) : keepsBut l s u :=
  fun p hp => same_trans (h p hp) (k p hp)

theorem keepsBut_mono {l m : List Part} {s t : State} (h : keepsBut l s t) (i : ∀ p ∈ l, p ∈ m) : keepsBut m s t :=
  fun p hp => h p (fun q => hp (i p q))

/-- Two operations one after another move no part that neither moves. -/
theorem keepsBut_then {l m n : List Part} {s t u : State} (h : keepsBut l s t) (k : keepsBut m t u)
    (i : ∀ p ∈ l, p ∈ n) (j : ∀ p ∈ m, p ∈ n) : keepsBut n s u :=
  keepsBut_trans (keepsBut_mono h i) (keepsBut_mono k j)

theorem keepsBut_foldl {α : Type} {l : List Part} (f : State → α → State) (h : ∀ s x, keepsBut l s (f s x)) (xs : List α) :
    ∀ s, keepsBut l s (xs.foldl f s) := by
  induction xs with
  | nil => exact fun s => keepsBut_refl l s
  | cons x xs ih => exact fun s => keepsBut_trans (h s x) (ih _)

theorem keepsBut_when {l : List Part} {s t : State} (b : Bool) (h : keepsBut l s t) : keepsBut l s (when b t s) := by
  cases b
  · simpa [when] using keepsBut_refl l s
  · simpa [when] using h

/-! ### The end of a command -/

theorem keepsBut_settle (s : State) : keepsBut [.msi] s (settle s) := by
  intro p hp
  cases p <;> first | rfl | simp at hp

/-- A command that ends in `done` moves what its work moves, and the interrupt bookkeeping. -/
theorem keepsBut_done {l : List Part} {s t : State} (h : keepsBut l s t) (m : Part.msi ∈ l) : keepsBut l s (settle t) :=
  keepsBut_then h (keepsBut_settle t) (fun _ q => q) (by simpa using m)

/-! ### Shared operations -/

theorem keepsBut_bump (ev n : Nat) (s : State) : keepsBut [.pc] s (bump ev n s) := by
  intro p hp
  cases p <;> first | rfl | exact ⟨rfl, rfl, rfl⟩ | simp at hp

theorem keepsBut_recover (k d u : Nat) (s : State) : keepsBut [.pc] s (recover k d u s) := by
  intro p hp
  cases p <;> first | rfl | exact ⟨rfl, rfl, rfl⟩ | simp at hp

theorem keepsBut_ringWrite (e : DevEvent) (s : State) : keepsBut [.mb, .host] s (ringWrite e s) := by
  intro p hp
  simp only [ringWrite]
  split
  · exact same_refl p s
  · split <;> cases p <;> first | rfl | exact ⟨rfl, rfl, rfl⟩ | simp at hp

/-- An event reaches the log, the ring and the counters, and nothing else (R419 to R421). -/
theorem keepsBut_issueEvent (c n : Nat) (d : List Byte) (s : State) : keepsBut [.mb, .host, .pc] s (issueEvent c n d s) := by
  unfold issueEvent
  split
  · refine keepsBut_then (l := [.mb, .host]) ?_ (keepsBut_bump _ _ _) (by simp) (by simp)
    refine keepsBut_then (l := [.mb]) ?_ (keepsBut_ringWrite _ _) (by simp) (by simp)
    intro p hp
    cases p <;> first | rfl | exact ⟨rfl, rfl, rfl⟩ | simp at hp
  · exact keepsBut_refl _ s

theorem keepsBut_saveCfg (s : State) : keepsBut [.boot] s (saveCfg s) := by
  intro p hp
  cases p <;> first | rfl | exact ⟨rfl, rfl, rfl⟩ | simp at hp

theorem keepsBut_laneMod (l : Nat) (f : Lane → Lane) (s : State) : keepsBut [.lane] s (laneMod l f s) := by
  intro p hp
  cases p <;> first | rfl | exact ⟨rfl, rfl, rfl⟩ | simp at hp

theorem keepsBut_portMod (n : Nat) (f : Port → Port) (s : State) : keepsBut [.port] s (portMod n f s) := by
  intro p hp
  cases p <;> first | rfl | exact ⟨rfl, rfl, rfl⟩ | simp at hp

theorem keepsBut_groupMod (g : Nat) (f : Group → Group) (s : State) : keepsBut [.group] s (groupMod g f s) := by
  intro p hp
  cases p <;> first | rfl | exact ⟨rfl, rfl, rfl⟩ | simp at hp

theorem keepsBut_engMod (e : Nat) (f : Engine → Engine) (s : State) : keepsBut [.te] s (engMod e f s) := by
  intro p hp
  cases p <;> first | rfl | exact ⟨rfl, rfl, rfl⟩ | simp at hp

theorem keepsBut_engxMod (e : Nat) (f : EngineX → EngineX) (s : State) : keepsBut [.te] s (engxMod e f s) := by
  intro p hp
  cases p <;> first | rfl | exact ⟨rfl, rfl, rfl⟩ | simp at hp

theorem keepsBut_viewMod (r : Nat) (f : RefView → RefView) (s : State) : keepsBut [.te] s (viewMod r f s) :=
  keepsBut_engxMod _ _ s

theorem keepsBut_refMod (r : Nat) (f : Reference → Reference) (s : State) : keepsBut [.te] s (refMod r f s) := by
  intro p hp
  cases p <;> first | rfl | exact ⟨rfl, rfl, rfl⟩ | simp at hp

theorem keepsBut_convMod (c : Nat) (f : Conv → Conv) (s : State) : keepsBut [.cal] s (convMod c f s) := by
  intro p hp
  cases p <;> first | rfl | exact ⟨rfl, rfl, rfl⟩ | simp at hp

theorem keepsBut_synMod (n : Nat) (f : Synth → Synth) (s : State) : keepsBut [.ck] s (synMod n f s) := by
  intro p hp
  cases p <;> first | rfl | exact ⟨rfl, rfl, rfl⟩ | simp at hp

theorem keepsBut_fabMod (f : Fabric → Fabric) (s : State) : keepsBut [.fab] s (fabMod f s) := by
  intro p hp
  cases p <;> first | rfl | exact ⟨rfl, rfl, rfl⟩ | simp at hp

theorem keepsBut_mbMod (f : Mailbox → Mailbox) (s : State) : keepsBut [.mb] s (mbMod f s) := by
  intro p hp
  cases p <;> first | rfl | exact ⟨rfl, rfl, rfl⟩ | simp at hp

theorem keepsBut_chanMod (c : Nat) (f : Channel → Channel) (s : State) : keepsBut [.mb] s (chanMod c f s) := keepsBut_mbMod _ s

theorem keepsBut_bootMod (f : Boot → Boot) (s : State) : keepsBut [.boot] s (bootMod f s) := by
  intro p hp
  cases p <;> first | rfl | exact ⟨rfl, rfl, rfl⟩ | simp at hp

theorem keepsBut_writeBlock (f : BootBlock → BootBlock) (s : State) : keepsBut [.boot] s (writeBlock f s) := by
  intro p hp
  cases p <;> first | rfl | exact ⟨rfl, rfl, rfl⟩ | simp at hp

theorem keepsBut_fwdMod (f : Fwd → Fwd) (s : State) : keepsBut [.fwd] s (fwdMod f s) := by
  intro p hp
  cases p <;> first | rfl | exact ⟨rfl, rfl, rfl⟩ | simp at hp

theorem keepsBut_putBoth (t i : Nat) (f : FwdTables → FwdTables) (s : State) : keepsBut [.fwd] s (putBoth t i f s) := by
  intro p hp
  cases p <;> first | rfl | exact ⟨rfl, rfl, rfl⟩ | simp at hp

theorem keepsBut_domMod (d : Nat) (f : Domain → Domain) (s : State) : keepsBut [.pm] s (domMod d f s) := by
  intro p hp
  cases p <;> first | rfl | exact ⟨rfl, rfl, rfl⟩ | simp at hp

theorem keepsBut_execMod (o : Origin) (f : Exec → Exec) (s : State) : keepsBut [.mb] s (execMod o f s) := by
  cases o
  · exact keepsBut_chanMod _ _ s
  · exact keepsBut_mbMod _ s

/-! ### The other updaters -/

theorem keepsBut_ksMod (f : Keystone → Keystone) (s : State) : keepsBut [.te] s (ksMod f s) := by
  intro p hp
  cases p <;> first | rfl | exact ⟨rfl, rfl, rfl⟩ | simp at hp

theorem keepsBut_evMod (k : Nat) (f : EvIn → EvIn) (s : State) : keepsBut [.tio] s (evMod k f s) := by
  intro p hp
  cases p <;> first | rfl | exact ⟨rfl, rfl, rfl⟩ | simp at hp

theorem keepsBut_trigMod (j : Nat) (f : TrigOut → TrigOut) (s : State) : keepsBut [.tio] s (trigMod j f s) := by
  intro p hp
  cases p <;> first | rfl | exact ⟨rfl, rfl, rfl⟩ | simp at hp

theorem keepsBut_tdcMod (f : TdcRef → TdcRef) (s : State) : keepsBut [.tio] s (tdcMod f s) := by
  intro p hp
  cases p <;> first | rfl | exact ⟨rfl, rfl, rfl⟩ | simp at hp

theorem keepsBut_tapMod (f : TimeTap → TimeTap) (s : State) : keepsBut [.tio] s (tapMod f s) := by
  intro p hp
  cases p <;> first | rfl | exact ⟨rfl, rfl, rfl⟩ | simp at hp

theorem keepsBut_inMod (g : Nat) (f : InGroup → InGroup) (s : State) : keepsBut [.q] s (inMod g f s) := by
  intro p hp
  cases p <;> first | rfl | exact ⟨rfl, rfl, rfl⟩ | simp at hp

theorem keepsBut_outMod (g : Nat) (f : OutGroup → OutGroup) (s : State) : keepsBut [.q] s (outMod g f s) := by
  intro p hp
  cases p <;> first | rfl | exact ⟨rfl, rfl, rfl⟩ | simp at hp

theorem keepsBut_calMod (f : Calendar → Calendar) (s : State) : keepsBut [.cald] s (calMod f s) := by
  intro p hp
  cases p <;> first | rfl | exact ⟨rfl, rfl, rfl⟩ | simp at hp

theorem keepsBut_rstMod (f : Resets → Resets) (s : State) : keepsBut [.rst] s (rstMod f s) := by
  intro p hp
  cases p <;> first | rfl | exact ⟨rfl, rfl, rfl⟩ | simp at hp

theorem keepsBut_macCount (p k n : Nat) (s : State) : keepsBut [.port] s (macCount p k n s) := by
  intro p hp
  cases p <;> first | rfl | exact ⟨rfl, rfl, rfl⟩ | simp at hp

theorem keepsBut_hostWrite (a : Nat) (b : List Byte) (s : State) : keepsBut [.host] s (hostWrite a b s) := by
  intro p hp
  cases p <;> first | rfl | exact ⟨rfl, rfl, rfl⟩ | simp at hp

theorem keepsBut_errLog (k d : Nat) (w : Bool) (who : Initiator) (a : Nat) (s : State) : keepsBut [.rst, .host] s (errLog k d w who a s) := by
  unfold errLog
  generalize packW _ = x
  intro p hp
  cases p <;> first | (exfalso; simp at hp; done) | rfl | exact ⟨rfl, rfl, rfl⟩

theorem keepsBut_servoMod (g : Nat) (f : GroupServo → GroupServo) (s : State) : keepsBut [.group] s (servoMod g f s) :=
  keepsBut_groupMod _ _ s

theorem keepsBut_ldMod (p : Nat) (f : PortLd → PortLd) (s : State) : keepsBut [.port] s (ldMod p f s) :=
  keepsBut_portMod _ _ s

theorem keepsBut_exchMod (p : Nat) (f : PortExch → PortExch) (s : State) : keepsBut [.port] s (exchMod p f s) :=
  keepsBut_portMod _ _ s

theorem keepsBut_sleepMod (p : Nat) (f : PortSleep → PortSleep) (s : State) : keepsBut [.port] s (sleepMod p f s) :=
  keepsBut_portMod _ _ s

theorem keepsBut_pauseMod (p : Nat) (f : PortPause → PortPause) (s : State) : keepsBut [.port] s (pauseMod p f s) :=
  keepsBut_portMod _ _ s

theorem keepsBut_phMod (l : Nat) (f : LanePh → LanePh) (s : State) : keepsBut [.lane] s (phMod l f s) :=
  keepsBut_laneMod _ _ s

theorem keepsBut_laneLdMod (l : Nat) (f : LaneLd → LaneLd) (s : State) : keepsBut [.lane] s (laneLdMod l f s) :=
  keepsBut_laneMod _ _ s

theorem keepsBut_condMod (r : Nat) (f : Conditioner → Conditioner) (s : State) : keepsBut [.te] s (condMod r f s) :=
  keepsBut_refMod _ _ s

theorem keepsBut_hwMod (f : FwdTables → FwdTables) (s : State) : keepsBut [.fwd] s (hwMod f s) :=
  keepsBut_fwdMod _ s

theorem keepsBut_adjMod (p : Nat) (f : Adjacency → Adjacency) (s : State) : keepsBut [.fab] s (adjMod p f s) :=
  keepsBut_fabMod _ s

theorem keepsBut_sendDev (d t k x m : Nat) (b : List Byte) (s : State) : keepsBut [.fab] s (sendDev d t k x m b s) :=
  keepsBut_fabMod _ s

theorem keepsBut_pcalMod (p : Nat) (f : PortCal → PortCal) (s : State) : keepsBut [.cald] s (pcalMod p f s) :=
  keepsBut_calMod _ s

theorem keepsBut_keysMod (f : KeyStore → KeyStore) (s : State) : keepsBut [.boot] s (keysMod f s) :=
  keepsBut_bootMod _ s

theorem keepsBut_egMod (o x i : Nat) (f : EgFrame → EgFrame) (s : State) : keepsBut [.q] s (egMod o x i f s) :=
  keepsBut_outMod _ _ s

theorem keepsBut_setVoq (g p c : Nat) (l : List FrameDesc) (s : State) : keepsBut [.q] s (setVoq g p c l s) :=
  keepsBut_inMod _ _ s

theorem keepsBut_setMcq (g c : Nat) (l : List FrameDesc) (s : State) : keepsBut [.q] s (setMcq g c l s) :=
  keepsBut_inMod _ _ s

theorem keepsBut_portEvent (p : Nat) (s : State) : keepsBut [.mb, .host, .pc] s (portEvent p s) :=
  keepsBut_issueEvent _ _ _ s

theorem keepsBut_ringMod (rx : Bool) (r : Nat) (f : Ring → Ring) (s : State) : keepsBut [.host] s (ringMod rx r f s) := by
  unfold ringMod
  split <;> (intro p hp; cases p <;> first | rfl | exact ⟨rfl, rfl, rfl⟩ | simp at hp)

theorem keepsBut_setQueue (g : Nat) (d : FrameDesc) (f : Queue → Queue) (s : State) : keepsBut [.q] s (setQueue g d f s) := by
  unfold setQueue
  split <;> exact keepsBut_inMod _ _ s

/-- The time-of-day state and its event (R40). -/
theorem keepsBut_setTod (t : TodSt) (s : State) : keepsBut [.clk, .mb, .host, .pc] s (setTod t s) := by
  unfold setTod
  split
  · exact keepsBut_refl _ s
  · refine keepsBut_then (l := [.clk]) ?_ (keepsBut_issueEvent _ _ _ _) (by simp) (by simp)
    intro p hp
    cases p <;> first | rfl | exact ⟨rfl, rfl, rfl⟩ | simp at hp

/-- An engine's servo state and its event (R135, R453). -/
theorem keepsBut_setServo (e : Nat) (st : ServoSt) (s : State) : keepsBut [.te, .mb, .host, .pc] s (setServo e st s) := by
  unfold setServo
  dsimp only
  split
  · exact keepsBut_refl _ s
  · split
    · exact keepsBut_then (keepsBut_engMod _ _ s) (keepsBut_issueEvent _ _ _ _) (by simp) (by simp)
    · exact keepsBut_mono (keepsBut_engMod _ _ s) (by simp)

/-- A reference's state, its reason and its event (R119, R453). -/
theorem keepsBut_setRef (r : Nat) (st : RefSt) (why : Nat) (s : State) : keepsBut [.te, .mb, .host, .pc] s (setRef r st why s) := by
  unfold setRef
  dsimp only
  split
  · exact keepsBut_refl _ s
  · refine keepsBut_then (l := [.te]) ?_ (keepsBut_issueEvent _ _ _ _) (by simp) (by simp)
    have h := keepsBut_trans (keepsBut_viewMod r (fun v => { v with st := st, reason := why, since := s.clk.elapsed, len := intervalOf s r st why }) s)
      (keepsBut_refMod r (fun x => { x with suspGood := 0 }) _)
    split
    · exact keepsBut_trans h (keepsBut_refMod _ _ _)
    · split
      · exact keepsBut_trans h (keepsBut_refMod _ _ _)
      · exact h

/-- A failed monitor disqualifies a reference that was qualified or qualifying (R118). -/
theorem keepsBut_disqualify (r why : Nat) (s : State) : keepsBut [.te, .mb, .host, .pc] s (disqualify r why s) := by
  unfold disqualify
  split <;> first | exact keepsBut_setRef _ _ _ s | exact keepsBut_refl _ s

end Sys2Proof.Machine
end

