-- ==== Sys2Proof/Laws/Tables.lean ====
section
/-! SUPPORT. The laws of the small data structures: vectors changed at one place, sparse tables, byte buffers. -/

namespace Sys2Proof.Machine

/-! ### Vectors -/

/-- Changing one place leaves the others. -/
theorem vmodN_other {α : Type} {n : Nat} (v : Vector α n) (i j : Nat) (f : α → α) (d : α) (h : j ≠ i) :
    vget (vmodN v i f) j d = vget v j d := by
  unfold vget vmodN
  by_cases hj : j < n <;> by_cases hi : i < n <;> simp [hi, hj, Vector.getElem_set]
  intro e; exact absurd e.symm h

/-- The changed place. -/
theorem vmodN_same {α : Type} {n : Nat} (v : Vector α n) (i : Nat) (f : α → α) (d : α) (h : i < n) :
    vget (vmodN v i f) i d = f (vget v i d) := by simp [vget, vmodN, h]

/-- A place out of range changes nothing. -/
theorem vmodN_out {α : Type} {n : Nat} (v : Vector α n) (i : Nat) (f : α → α) (h : n ≤ i) : vmodN v i f = v := by
  simp [vmodN, Nat.not_lt.mpr h]

/-! ### Byte buffers -/

/-- The keys of a canonical buffer rise. -/
theorem Mem.wf_cons {e : Host.Cell} {m : Mem} :
    Mem.wf (e :: m) = true ↔ e.2 ≠ 0 ∧ (∀ x ∈ m.head?, e.1 < x.1) ∧ Mem.wf m = true := by
  cases m with
  | nil => simp [Mem.wf]
  | cons f r => simp [Mem.wf]; tauto

theorem Mem.wf_lt {e : Host.Cell} {m : Mem} (h : Mem.wf (e :: m) = true) : ∀ x ∈ m, e.1 < x.1 := by
  induction m generalizing e with
  | nil => simp
  | cons f r ih =>
    obtain ⟨-, h2, h3⟩ := Mem.wf_cons.mp h
    intro x hx
    have hf : e.1 < f.1 := h2 f (by simp)
    rcases List.mem_cons.mp hx with rfl | hx
    · exact hf
    · exact Nat.lt_trans hf (ih h3 x hx)

/-- A canonical buffer, from its parts. -/
theorem Mem.wf_of {e : Host.Cell} {m : Mem} (h0 : e.2 ≠ 0) (h1 : ∀ x ∈ m, e.1 < x.1) (h2 : Mem.wf m = true) :
    Mem.wf (e :: m) = true := Mem.wf_cons.mpr ⟨h0, fun x hx => h1 x (List.mem_of_mem_head? hx), h2⟩

/-- Taking entries out keeps the form. -/
theorem Mem.wf_filter (m : Mem) (q : Host.Cell → Bool) (h : Mem.wf m = true) : Mem.wf (m.filter q) = true := by
  induction m with
  | nil => rfl
  | cons e r ih =>
    obtain ⟨h0, -, h3⟩ := Mem.wf_cons.mp h
    by_cases hq : q e = true
    · rw [List.filter_cons_of_pos hq]
      exact Mem.wf_of h0 (fun x hx => Mem.wf_lt h x (List.mem_of_mem_filter hx)) (ih h3)
    · rw [List.filter_cons_of_neg hq]; exact ih h3

/-- Members of a table after a write. -/
theorem Tbl.mem_set {α : Type} (t : Tbl α) (k : Nat) (v : α) (x : Nat × α) (h : x ∈ Tbl.set t k v) :
    x = (k, v) ∨ x ∈ t := by
  induction t with
  | nil => simp_all [Tbl.set]
  | cons e r ih =>
    simp only [Tbl.set] at h
    split at h
    · rcases List.mem_cons.mp h with rfl | h
      · exact .inr (by simp)
      · rcases ih h with h | h
        · exact .inl h
        · exact .inr (by simp [h])
    · split at h <;> rcases List.mem_cons.mp h with rfl | h <;> simp_all

theorem Mem.wf_set (m : Mem) (a : Nat) (b : Byte) (hb : b ≠ 0) (h : Mem.wf m = true) :
    Mem.wf (Tbl.set m a b) = true := by
  induction m with
  | nil => simpa [Tbl.set, Mem.wf] using hb
  | cons e r ih =>
    obtain ⟨h0, -, h3⟩ := Mem.wf_cons.mp h
    simp only [Tbl.set]
    split
    · rename_i hlt
      refine Mem.wf_of h0 (fun x hx => ?_) (ih h3)
      rcases Tbl.mem_set _ _ _ _ hx with rfl | hx
      · exact hlt
      · exact Mem.wf_lt h x hx
    · split
      · rename_i he
        exact Mem.wf_of hb (fun x hx => he ▸ Mem.wf_lt h x hx) h3
      · refine Mem.wf_of hb (fun x hx => ?_) h
        rcases List.mem_cons.mp hx with rfl | hx
        · show a < _; omega
        · have := Mem.wf_lt h x hx; show a < _; omega

/-- A write keeps the canonical form. -/
theorem Mem.wf_write (m : Mem) (a : Nat) (b : Byte) (h : Mem.wf m = true) : Mem.wf (Mem.write m a b) = true := by
  unfold Mem.write
  split
  · exact Mem.wf_filter m _ h
  · rename_i hb; exact Mem.wf_set m a b hb h

theorem Mem.wf_writeAll (l : List Byte) : ∀ (m : Mem) (a : Nat), Mem.wf m = true → Mem.wf (Mem.writeAll m a l) = true := by
  induction l with
  | nil => intro m a h; exact h
  | cons b r ih => intro m a h; exact ih _ _ (Mem.wf_write m a b h)

/-- Reading a key after a table write. -/
theorem Tbl.get_set {α : Type} (t : Tbl α) (k j : Nat) (v : α) :
    Tbl.get (Tbl.set t k v) j = if j = k then some v else Tbl.get t j := by
  induction t with
  | nil =>
    by_cases h : j = k
    · subst h; simp [Tbl.set, Tbl.get]
    · have hk : (k == j) = false := by simp; omega
      simp [Tbl.set, Tbl.get, h, hk]
  | cons e r ih =>
    simp only [Tbl.set]
    by_cases h1 : e.1 < k
    · simp only [h1, if_true]
      by_cases h2 : e.1 = j
      · have : j ≠ k := by omega
        simp [Tbl.get, h2, this]
      · have hb : (e.1 == j) = false := by simpa using h2
        have := ih
        simp only [Tbl.get, List.find?_cons, hb] at this ⊢
        exact this
    · simp only [h1, if_false]
      by_cases h3 : e.1 = k
      · simp only [h3, if_true]
        by_cases h : j = k
        · subst h; simp [Tbl.get]
        · have hb : (k == j) = false := by simp; omega
          have hb' : (e.1 == j) = false := by simp; omega
          simp [Tbl.get, h, hb, hb']
      · simp only [h3, if_false]
        by_cases h : j = k
        · subst h; simp [Tbl.get]
        · have hb : (k == j) = false := by simp; omega
          simp [Tbl.get, h, hb]

theorem Tbl.get_erase {α : Type} (t : Tbl α) (k j : Nat) :
    Tbl.get (Tbl.erase t k) j = if j = k then none else Tbl.get t j := by
  induction t with
  | nil => simp [Tbl.erase, Tbl.get]
  | cons e r ih =>
    simp only [Tbl.erase, Tbl.get] at ih ⊢
    by_cases h1 : e.1 = k
    · rw [List.filter_cons_of_neg (by simp [h1]), ih]
      by_cases h : j = k
      · simp [h]
      · have hb : (e.1 == j) = false := by simp; omega
        simp [h, hb]
    · rw [List.filter_cons_of_pos (by simp [h1])]
      by_cases h2 : e.1 = j
      · have : j ≠ k := by omega
        simp [h2, this]
      · have hb : (e.1 == j) = false := by simpa using h2
        simpa [hb] using ih

/-- One byte after a write. -/
theorem Mem.read_write (m : Mem) (a x : Nat) (b : Byte) :
    Mem.read (Mem.write m a b) x = if x = a then b else Mem.read m x := by
  unfold Mem.read Mem.write
  split
  · rename_i hb
    rw [Tbl.get_erase]; split <;> simp [hb]
  · rw [Tbl.get_set]; split <;> simp

/-- Bytes written upwards leave every other address. -/
theorem Mem.read_writeAll_other (l : List Byte) : ∀ (m : Mem) (a x : Nat), (x < a ∨ a + l.length ≤ x) →
    Mem.read (Mem.writeAll m a l) x = Mem.read m x := by
  induction l with
  | nil => intros; rfl
  | cons b r ih =>
    intro m a x h
    simp only [List.length_cons] at h
    rw [Mem.writeAll, ih _ _ _ (by omega), Mem.read_write, if_neg (by omega)]

/-- Bytes written upwards read back. -/
theorem Mem.read_writeAll (l : List Byte) : ∀ (m : Mem) (a i : Nat), (h : i < l.length) →
    Mem.read (Mem.writeAll m a l) (a + i) = l[i] := by
  induction l with
  | nil => intro m a i h; simp at h
  | cons b r ih =>
    intro m a i h
    rw [Mem.writeAll]
    cases i with
    | zero => rw [Mem.read_writeAll_other _ _ _ _ (by omega), Mem.read_write]; simp
    | succ n =>
      have := ih (Mem.write m a b) (a + 1) n (by simpa using h)
      rw [show a + (n + 1) = a + 1 + n by omega, this]; simp

end Sys2Proof.Machine
end

