-- ==== Sys2Proof/Laws/Mailbox.lean ====
section
/-! SUPPORT. The shape of every mailbox command: its work runs on its payload, ends in a result or waits, and moves the rest
of the state as the work does. -/

namespace Sys2Proof.Machine

/-- A command that stands runs its work. -/
theorem onCommand_some {o : Origin} {op : Nat} {p : List Byte} {s : State} (f : List Byte → State → State)
    (h : commandAt s o op = some p) : onCommand o op f s = f p s := by simp [onCommand, h]

/-- A command that stands has its record, without a result and not waiting. -/
theorem execOf_of_commandAt {o : Origin} {op : Nat} {p : List Byte} {s : State} (h : commandAt s o op = some p) :
    ∃ e, execOf s o = some e ∧ e.cmd.payload = p ∧ e.result = none ∧ e.wait = none := by
  unfold commandAt at h
  split at h
  · rename_i e he
    split at h
    · rename_i hc
      simp only [Bool.and_eq_true, Option.isNone_iff_eq_none] at hc
      exact ⟨e, he, by simpa using h, hc.1.2, hc.2⟩
    · cases h
  · cases h

/-- A change to a command's record is what its origin sees. -/
theorem execOf_execMod {o : Origin} {e : Exec} {s : State} (f : Exec → Exec) (h : execOf s o = some e) :
    execOf (execMod o f s) o = some (f e) := by
  cases o with
  | host c =>
    have hc : chanOf (execMod (.host c) f s) c.val = { chanOf s c.val with exec := (chanOf s c.val).exec.map f } :=
      vmodN_same s.mb.chan c.val _ {} c.isLt
    simp only [execOf] at h ⊢
    rw [hc]
    simp [h]
  | remote src xid =>
    simp only [execOf, execMod, mbMod] at h ⊢
    generalize s.mb.remote = l at h ⊢
    induction l with
    | nil => simp at h
    | cons r l ih =>
      by_cases q : r.source = src ∧ r.xid = xid
      · simp [List.find?, q.1, q.2] at h ⊢
        rw [h]
      · have hq : (r.source == src && r.xid == xid) = false := by
          by_cases a : r.source = src
          · simp only [a, beq_self_eq_true, Bool.true_and, beq_eq_false_iff_ne]
            exact fun b => q ⟨a, b⟩
          · simp [a]
        rw [List.find?_cons_of_neg (by simp [hq])] at h
        rw [List.map_cons, if_neg q, List.find?_cons_of_neg (by simp [hq])]
        exact ih h

/-- Two states with the same mailbox have the same records. -/
theorem execOf_congr {s t : State} (h : t.mb = s.mb) (o : Origin) : execOf t o = execOf s o := by
  cases o <;> simp [execOf, chanOf, h]

theorem setResult_mb_congr {s t : State} (h : t.mb = s.mb) (o : Origin) (r : CmdResult) :
    (setResult o r t).mb = (setResult o r s).mb := by
  cases o <;> simp [setResult, execMod, chanMod, mbMod, h]

/-- A command ends with its result. -/
theorem replied_setResult {o : Origin} {e : Exec} {s : State} (r : CmdResult) (h : execOf s o = some e) :
    replied o r (settle (setResult o r s)) :=
  ⟨_, execOf_execMod _ h, rfl⟩

/-- A command goes on waiting. -/
theorem waits_setWait {o : Origin} {e : Exec} {s : State} (w : CmdWait) (h : execOf s o = some e) (n : e.result = none) :
    waits o w (settle (setWait o w s)) :=
  ⟨_, execOf_execMod _ h, rfl, n⟩

/-- A command that only answers. -/
theorem onlyAnswers_setResult {o : Origin} {e : Exec} {s : State} (r : CmdResult) (h : execOf s o = some e) :
    onlyAnswers o r s (settle (setResult o r s)) :=
  ⟨⟨replied_setResult r h, rfl⟩, keepsBut_done (keepsBut_mono (keepsBut_execMod _ _ _) (by simp)) (by simp)⟩

/-- A command whose work leaves the mailbox, and then answers. -/
theorem endsWith_setResult {o : Origin} {e : Exec} {s t : State} (r : CmdResult) (h : execOf s o = some e) (m : t.mb = s.mb) :
    endsWith o r s (settle (setResult o r t)) :=
  ⟨replied_setResult r (by rw [execOf_congr m]; exact h), setResult_mb_congr m o r⟩

/-- Its frame. -/
theorem keepsBut_answer {l : List Part} {s t : State} (o : Origin) (r : CmdResult) (h : keepsBut l s t) (m : Part.mb ∈ l)
    (i : Part.msi ∈ l) : keepsBut l s (settle (setResult o r t)) :=
  keepsBut_done (keepsBut_then h (keepsBut_execMod _ _ _) (fun _ q => q) (by simpa using m)) i

theorem checked_ok {o : Origin} {l : List (Bool × Nat)} (f : State → State) (s : State) (h : ∀ q ∈ l, q.1 = false) :
    checked o l f s = f s := by
  have : firstBad l = none := by
    simp only [firstBad, Option.map_eq_none_iff, List.find?_eq_none]
    intro q hq
    simp [h q hq]
  simp [checked, this]

theorem checked_bad {o : Origin} {l : List (Bool × Nat)} {k : Nat} (f : State → State) (s : State) (h : firstBad l = some k) :
    checked o l f s = setResult o (badParam k) s := by simp [checked, h]

end Sys2Proof.Machine
end

