-- ==== Sys2Proof/Tests/States.lean ====
section
/-! SUPPORT. The small states that the tests and the witnesses start from. -/

namespace Sys2Proof.Tests

open Sys2Proof.Machine

/-- Out of reset with Obilwin running. -/
def up : State :=
  { State.reset with
    rst := { State.reset.rst with por := false }
    boot := { State.reset.boot with stage := 2 }
    host := { State.reset.host with perst := false, linkUp := true }
    mb := { State.reset.mb with fwReady := true } }

/-- A parameter set. -/
def setPar (id sel : Nat) (v : Int) (s : State) : State := { s with par := Tbl.set s.par (pKey id sel 0) v }

/-- A port group in a mode. -/
def mode (g m : Nat) (s : State) : State := groupMod g (fun x => { x with mode := m }) s

/-- A domain in a state. -/
def dom (d : Nat) (st : DomSt) (s : State) : State := domMod d (fun x => { x with st := st, target := st }) s

/-- A lane of the first 25GbE group. -/
def lane3 (f : Lane → Lane) : State := laneMod 3 f (mode 0 3 up)

/-- A 100GbE fabric port that is UP on lanes READY. -/
def fab : State :=
  setPar 0x102 4 1 (forEach [4, 5, 6, 7] (fun l => laneMod l (fun x => { x with st := .ready, sigDet := true, cdrLock := true }))
    (portMod 4 (fun x => { x with st := .up, aligned := true }) (mode 0 4 up)))

/-- The same as the group's timing port. -/
def fabT : State := setPar 0x11B 0x200 4 fab

/-- A standard 25GbE port 3 that is UP. -/
def std : State :=
  laneMod 3 (fun x => { x with st := .ready, sigDet := true, cdrLock := true })
    (portMod 3 (fun x => { x with st := .up, aligned := true }) (mode 0 3 up))

/-- TE-A in control, both engines in service. -/
def eng : State :=
  ksMod (fun x => { x with control := some 0 })
    (engxMod 0 (fun x => { x with on := true, clkOk := true, health := 7, base := 8, claim := 0xF8 })
      (engxMod 1 (fun x => { x with on := true, clkOk := true, health := 7, base := 4, claim := 0xF4 })
        { up with clk := { up.clk with kettle := false } }))

/-- A command of a host channel in execution. -/
def cmdAt (c : Nat) (op : Nat) (payload : List Byte) (s : State) : State :=
  chanMod c (fun x => { x with
    st := .executing
    exec := some { cmd := { opcode := op, hseq := 5, chanField := c, payload } } }) s

/-- The next state of an outcome. -/
def nextOf (o : Host.Outcome State Fault Refusal) : State := match o with
  | .next t => t
  | _ => State.reset

end Sys2Proof.Tests
end

