-- ==== Sys2Proof/Tests/Facts.lean ====
section
/-! SUPPORT. Facts that the witnesses need where a state holds a value that nothing fixes. -/

namespace Sys2Proof.Tests

open Sys2Proof.Machine

theorem own_ne_zero : (0 : Nat) ≠ ownSerial := by
  have h := Config.serialLessOne.isLt
  simp only [ownSerial, Config.serial, BitVec.toNat_ofNat]
  omega

theorem ownSerial_lt : ownSerial < 2 ^ 64 := Config.serial.isLt

theorem leNat_le (n v : Nat) (h : v < 256 ^ n) : leNat (le n v) = v := by
  induction n generalizing v with
  | zero => simp [le, leNat]; omega
  | succ n ih =>
    have : v / 256 < 256 ^ n := by
      rw [Nat.div_lt_iff_lt_mul (by decide)]; rw [Nat.pow_succ] at h; exact h
    simp [le, leNat, ih _ this]; omega

theorem le_length (n v : Nat) : (le n v).length = n := by
  induction n generalizing v with
  | zero => rfl
  | succ n ih => simp [le, ih]

theorem fieldBe_be8 (r : List Byte) {v : Nat} (h : v < 2 ^ 64) : fieldBe (be 8 v ++ r) 0 8 = v := by
  have hl : (be 8 v).length = 8 := by simp [be, le_length]
  have hs : slice (be 8 v ++ r) 0 8 = be 8 v := by
    apply List.ext_getElem
    · simp [slice, hl]
    · intro i h1 h2
      simp [slice, List.getElem?_append_left h2, h2]
  rw [fieldBe, hs, beNat, be, List.reverse_reverse, leNat_le 8 v (by simpa using h)]

theorem vget_replicate {α : Type} (n i : Nat) (d : α) : vget (Vector.replicate n d) i d = d := by
  simp [vget]

theorem crossIdle (g : Nat) :
    (inGrp std g).voq = [] ∧ (inGrp std g).calq = [] ∧ ∀ c, (vget (inGrp std g).mcq c {}).frames = [] := by
  have h0 : std.q.inp = Vector.replicate 24 {} := rfl
  have h : inGrp std g = {} := by rw [inGrp, h0, vget_replicate]
  rw [h]
  exact ⟨rfl, rfl, fun c => by rw [show (({} : InGroup).mcq) = Vector.replicate 8 {} from rfl, vget_replicate]⟩

theorem noPowerWait (s : State) (h : s.mb.chan = Vector.replicate 4 {}) (h2 : s.mb.remote = []) (o : Origin) (e : Exec)
    (todo : List Nat) (k : Nat) (he : execOf s o = some e) : e.wait ≠ some (CmdWait.power todo k) := by
  have : execOf s o = none := by
    cases o with
    | host c => simp only [execOf, chanOf, h, vget_replicate]
    | remote a b => simp [execOf, h2]
  rw [this] at he
  cases he

theorem slice_end (b c : List Byte) (o : Nat) (n : Nat) (h : b.length = o) (hc : c.length = n) : slice (b ++ c) o n = c := by
  subst h hc
  apply List.ext_getElem
  · simp [slice]
  · intro i h1 h2
    simp [slice, List.getElem?_append_right, h2]

theorem tie_valid (b : List Byte) (h : b.length = 508) : tieValid (b ++ le 4 (crc32 b).toNat) = true := by
  have e := leNat_le 4 (crc32 b).toNat (by exact (crc32 b).isLt)
  have ht : (b ++ le 4 (crc32 b).toNat).take 0x1FC = b := by rw [← h, List.take_left']; rfl
  rw [tieValid, ht, Machine.fieldLe, slice_end _ _ 508 4 h (le_length _ _), e]
  simp [le_length, h]

theorem xor_one : ∀ x : Byte, (x ^^^ 1).toNat ≠ x.toNat := by decide

theorem tie_noise (b : List Byte) (h : b.length = 508) : tieValid (withNoise (b ++ le 4 (crc32 b).toNat) [(508, 1)]) = false := by
  have e : withNoise (b ++ le 4 (crc32 b).toNat) [(508, 1)] = b ++ (le 4 (crc32 b).toNat).set 0 (BitVec.ofNat 8 (crc32 b).toNat ^^^ 1) := by
    simp only [withNoise, List.foldl_cons, List.foldl_nil]
    rw [List.set_append_right _ _ (by omega), h]
    simp [le, h]
  have ht : ∀ c : List Byte, (b ++ c).take 0x1FC = b := by intro c; rw [← h, List.take_left']; rfl
  rw [e, tieValid, ht, Machine.fieldLe, slice_end _ _ 508 4 h (by simp [le_length])]
  have hb : (crc32 b).toNat < 2 ^ 32 := (crc32 b).isLt
  generalize (crc32 b).toNat = v at hb
  have hx := xor_one (BitVec.ofNat 8 v)
  simp only [le, List.set_cons_zero, leNat, BitVec.toNat_ofNat] at hx ⊢
  simp only [Bool.and_eq_false_imp, beq_eq_false_iff_ne, ne_eq]
  intro _ h
  apply hx
  have hl := (BitVec.ofNat 8 v ^^^ 1).isLt
  omega

theorem fieldBe_mid (a r : List Byte) {v o : Nat} (ha : a.length = o) (h : v < 2 ^ 64) : fieldBe (a ++ (be 8 v ++ r)) o 8 = v := by
  have e := fieldBe_be8 r h
  have : slice (a ++ (be 8 v ++ r)) o 8 = slice (be 8 v ++ r) 0 8 := by
    subst ha
    apply List.ext_getElem
    · simp [slice]
    · intro i h1 h2
      simp [slice, List.getElem?_append_right]
  rw [fieldBe, this, ← fieldBe, e]

theorem helloOf_serial (x : Hello) (h : x.serial < 2 ^ 64) : (helloOf (helloBytes x)).serial = x.serial := by
  have e : helloBytes x = (be 1 x.version ++ be 1 x.flags ++ be 3 x.addr ++ be 1 x.port) ++ (be 8 x.serial ++ (be 8 x.nbrSerial ++ be 2 x.caps
      ++ be 1 x.timing ++ be 1 x.depth ++ be 8 x.treeId ++ be 4 x.sigmaAcc ++ be 4 x.cAcc ++ be 4 x.lsaSeq ++ be 2 x.seq)) := by
    simp [helloBytes]
  simp only [helloOf]
  rw [e]
  exact fieldBe_mid _ _ rfl h

theorem assigner_self (s : State) (a : Nat) (h : partMembers s = [(ownSerial, a)]) : isAssigner s = true := by
  simp [isAssigner, assigner, h]

theorem assigner_of (s : State) (a b : Nat) (h : partMembers s = [(ownSerial, a), (0, b)]) : assigner s = some (0, b) := by
  have := own_ne_zero
  have hlt : 0 < ownSerial := by omega
  simp [assigner, h, hlt]

end Sys2Proof.Tests
end

