-- ==== Sys2Proof/Tests/Image.lean ====
section
/-! SUPPORT. A valid image, whatever the header's order and magic word and the digest are. -/

namespace Sys2Proof.Tests

open Sys2Proof.Machine

/-- Ten bytes of body. -/
def imgBody : List Byte := List.replicate 10 7

/-- The header's fields in order. -/
def imgFields (ver : Nat) : List Byte :=
  le 4 Config.headerMagic.toNat ++ le 4 ver ++ le 4 10 ++ le 4 0 ++ Config.sha384 imgBody ++ List.replicate 64 0

/-- The image: the header in the part's order, and the body. -/
def img (ver : Nat) : List Byte :=
  (List.finRange 128).map (fun j => (imgFields ver).getD (Config.headerOrder.symm j).val 0) ++ imgBody

theorem imgFields_length (ver : Nat) : (imgFields ver).length = 128 := by
  simp [imgFields, le, Config.sha384]

theorem headerFields_img (ver : Nat) : headerFields ((img ver).take 128) = imgFields ver := by
  have h : (img ver).take 128 = (List.finRange 128).map (fun j => (imgFields ver).getD (Config.headerOrder.symm j).val 0) := by
    simp [img]
  rw [h]
  apply List.ext_getElem
  · simp [headerFields, imgFields_length]
  · intro i h1 h2
    have : i < 128 := by simpa [imgFields_length] using h2
    simp [headerFields, h2]

theorem leNat_le4 (m : Nat) (h : m < 2 ^ 32) : leNat (le 4 m) = m := by
  simp [le, leNat]; omega

theorem slice_at (l a b c : List Byte) (o n : Nat) (hl : l = a ++ (b ++ c)) (ha : a.length = o) (hb : b.length = n) : slice l o n = b := by
  subst hl ha hb
  apply List.ext_getElem
  · simp [slice]
  · intro i h1 h2
    simp [slice, List.getElem?_append_right, List.getElem?_append_left h2, h2]

theorem slotHeader_img (ver : Nat) (x : Slot) (h : ver < 2 ^ 32) (hb : x.bytes = img ver) :
    slotHeader x = some (ver, 10, Config.sha384 imgBody) := by
  have hm : Machine.fieldLe (imgFields ver) 0 4 = Config.headerMagic.toNat := by
    rw [Machine.fieldLe, slice_at (imgFields ver) [] (le 4 Config.headerMagic.toNat)
      (le 4 ver ++ le 4 10 ++ le 4 0 ++ Config.sha384 imgBody ++ List.replicate 64 0) 0 4 (by simp [imgFields]) rfl rfl,
      leNat_le4 _ (by exact Config.headerMagic.isLt)]
  have hv : Machine.fieldLe (imgFields ver) 4 4 = ver := by
    rw [Machine.fieldLe, slice_at (imgFields ver) (le 4 Config.headerMagic.toNat) (le 4 ver)
      (le 4 10 ++ le 4 0 ++ Config.sha384 imgBody ++ List.replicate 64 0) 4 4 (by simp [imgFields]) rfl rfl, leNat_le4 _ h]
  have hn : Machine.fieldLe (imgFields ver) 8 4 = 10 := by
    rw [Machine.fieldLe, slice_at (imgFields ver) (le 4 Config.headerMagic.toNat ++ le 4 ver) (le 4 10)
      (le 4 0 ++ Config.sha384 imgBody ++ List.replicate 64 0) 8 4 (by simp [imgFields]) rfl rfl, leNat_le4 _ (by decide)]
  have hd : slice (imgFields ver) 16 48 = Config.sha384 imgBody :=
    slice_at (imgFields ver) (le 4 Config.headerMagic.toNat ++ le 4 ver ++ le 4 10 ++ le 4 0) (Config.sha384 imgBody)
      (List.replicate 64 0) 16 48 (by simp [imgFields]) rfl (by simp [Config.sha384])
  have hl : ((img ver).take 128).length = 128 := by simp [img]
  simp only [slotHeader, hb, imageHeader, headerFields_img, hl, hm, hv, hn, hd, and_self, if_true]

theorem slotBody_img (ver : Nat) (x : Slot) (hb : x.bytes = img ver) : slotBody x 10 = imgBody := by
  have h : (img ver).drop 128 = imgBody := by simp [img]
  simp [slotBody, hb, h, imgBody]

/-- Such an image is valid where its major number does not stand below the rollback counter. -/
theorem slotState_img (ver : Nat) (s : State) (k : Nat) (h : ver < 2 ^ 32) (hb : (slotOf s k).bytes = img ver)
    (ho : (slotOf s k).openBytes = none) (hs : 138 ≤ slotSize s) :
    slotState s k = if ver / 2 ^ 24 % 256 < s.boot.rollback then 4 else 1 := by
  have he : (img ver).isEmpty = false := by simp [img, imgBody]
  simp only [slotState, slotHeader_img ver _ h hb, slotBody_img ver _ hb, hb, ho, he]
  simp [show ¬ slotSize s < 138 by omega]

end Sys2Proof.Tests
end

