-- ==== Sys2Proof/Tests/WitnessClock.lean ====
section
/-! SUPPORT. Witnesses: for each statement and each of its clauses, a state and operands that meet the hypotheses. -/

open Sys2Proof Sys2Proof.Machine

namespace Sys2Proof.Tests.Clock1

set_option Elab.async false

def repl (f : Replica → Replica) : State := { up with wx := { up.wx with replica := vmodN up.wx.replica 2 f } }
def ev1 (f : EvIn → EvIn) : State := evMod 2 f (setPar 0x62 2 3 (setPar 0x60 2 1 eng))
def ent : EvEntry := ⟨77, true, false, false, true, 3, 5⟩
def tdcS (f : TdcRef → TdcRef) : State := tdcMod f (setPar 0x60 23 1 (setPar 0x6F 23 1 eng))
def te1 : TrigEntry := { handle := 3, start := 1048576000, width := 100, period := 1000, count := 5 }
def trg (on : Int) : State := setPar 0x60 9 on (trigMod 1 (fun t => { t with queue := [te1] }) eng)
def tap (f : TimeTap → TimeTap) : State := tapMod f eng
def syn (n : Nat) (f : Synth → Synth) : State := synMod n f up
def band1 : BandResult := { target := 1000, band := 7, temp := 400 }
def conv (c : Nat) (f : Conv → Conv) : State := convMod c f (laneMod 3 (fun x => { x with st := .ready }) (mode 0 3 up))
def hits : List Nat := List.replicate 2048 1000
def w0 : Fin 8 := 2
def w1 : Option TdcSample := none
def w2 : State := ev1 (fun e => { e with lastCap := some 4000000 })
theorem witness_TimeInputs_0_0 :
    ioOn w2 (↑w0 : ℕ) = true ∧
    (if true = true then parN w2 98 (↑w0 : ℕ) = 1 ∨ parN w2 98 (↑w0 : ℕ) = 3 else parN w2 98 (↑w0 : ℕ) = 2 ∨ parN w2 98 (↑w0 : ℕ) = 3) ∧
    domOn w2 13 = true ∧
    w2.te.ks.control ≠ none ∧
    baseOf w2 (↑w0 : ℕ) = some false ∧
    (∃ c, (evOf w2 (↑w0 : ℕ)).lastCap = some c ∧ c ≤ 5000000 ∧ 5000000 - c < 2 * uNs) := by decide +kernel

def w3 : Fin 8 := 2
def w4 : State := ev1 id
theorem witness_TimeInputs_1_0 :
    answers Initiator.mgmt w4 ∧
    domOn w4 13 = true ∧
    (evOf w4 (↑w3 : ℕ)).fifo = [] := by decide +kernel

def w5 : Fin 8 := 1
def w6 : State := trg 1
theorem witness_TimeOutputs_0_0 :
    nextTrig (trigOf w6 (↑w5 : ℕ)).queue = some te1 ∧
    ioOn w6 (8 + (↑w5 : ℕ)) = true ∧
    tioLive w6 = true := by decide +kernel

def w7 : Fin 8 := 1
def w8 : State := dom 13 .stopped (trg 1)
theorem witness_TimeOutputs_0_1 :
    nextTrig (trigOf w8 (↑w7 : ℕ)).queue = some te1 ∧
    (ioOn w8 (8 + (↑w7 : ℕ)) = false ∨ tioLive w8 = false) := by decide +kernel

def w9 : State := { eng with ck := { eng.ck with oscLost := true, kettleInt := true } }
theorem witness_ClockSynthesis_1_0 :
    w9.ck.present = false := by decide +kernel

def w10 : Fin 30 := 1
def w11 : State := syn 1 (fun x => { x with lock := true })
theorem witness_ClockSynthesis_2_0 :
    (synOf w11 (↑w10 : ℕ)).lock = true ∧
    (↑w10 : ℕ) = 1 ∧
    w11.rst.por = false ∧
    w11.rst.chip = none ∧
    w11.rst.mgmt = none ∧
    domOn w11 3 = true := by decide +kernel

def w12 : Fin 30 := 28
def w13 : State := syn 28 (fun x => { x with tune := .search 1000, bands := List.replicate 8 band1 })
theorem witness_ClockSynthesis_3_0 :
    (synOf w13 (↑w12 : ℕ)).tune = TuneSt.search 1000 ∧
    (synOf w13 (↑w12 : ℕ)).second = none := by decide +kernel

def w14 : LaneIx := 3
theorem witness_Weathering_0_0 :
    ((laneOf up (↑w14 : ℕ)).st ≠ LaneSt.ready ∨ (laneOf up (↑w14 : ℕ)).rxSleep = true) := by decide +kernel

theorem witness_Weathering_3_0 :
    obilwinUp up = true ∧
    up.rst.data = none ∧
    domOn up 10 = true ∧
    up.wx.rings[10] < 1000 + (parV up 95).toNat ∧
    up.wx.target + 5 ≤ 850 := by decide +kernel

def w15 : State := { up with pins := { up.pins with vout := 755, voutRetried := true } }
theorem witness_Weathering_4_0 :
    obilwinUp w15 = true ∧
    w15.pins.vout ≠ 0 ∧
    (w15.pins.vout + 5 < 745 ∨ 745 + 5 < w15.pins.vout) ∧
    w15.pins.voutRetried = true := by decide +kernel

def w16 : State := { up with pins := { up.pins with vout := 755 } }
theorem witness_Weathering_4_1 :
    obilwinUp w16 = true ∧
    w16.pins.vout ≠ 0 ∧
    755 ≤ w16.pins.vout + 5 ∧
    w16.pins.vout ≤ 755 + 5 := by decide +kernel

def w17 : Fin 14 := 3
def w18 : State := { up with mb := { up.mb with fwReady := false } }
theorem witness_Weathering_5_0 :
    retIndex (↑w17 : ℕ) = some 0 ∧
    obilwinUp w18 = false := by decide +kernel

theorem witness_Weathering_6_0 :
    obilwinUp up = true := by decide +kernel

def w19 : PortIx := 3
def w20 : State := portMod 3 (fun x => { x with st := .down }) std
theorem witness_PortStates_0_0 :
    portUsed w20 (↑w19 : ℕ) = true ∧
    portInReset w20 (↑w19 : ℕ) = false ∧
    ((portOf w20 (↑w19 : ℕ)).st = PortSt.down ∨ (portOf w20 (↑w19 : ℕ)).st = PortSt.hold) ∧
    (portOf w20 (↑w19 : ℕ)).admin = true ∧
    lanesReady w20 (↑w19 : ℕ) = true ∧
    (portOf w20 (↑w19 : ℕ)).aligned = true ∧
    (portOf w20 (↑w19 : ℕ)).localFault = false ∧
    (portOf w20 (↑w19 : ℕ)).remoteFault = false ∧
    ((portOf w20 (↑w19 : ℕ)).anDone = true ∨ anRuns w20 (↑w19 : ℕ) = false) := by decide +kernel

def w21 : PortIx := 3
def w22 : State := portMod 3 (fun x => { x with st := .down, aligned := false, localFault := true }) std
theorem witness_PortStates_4_0 :
    portUsed w22 (↑w21 : ℕ) = true ∧
    lanesReady w22 (↑w21 : ℕ) = true := by decide +kernel

def w23 : Fin 217 := 3
def w24 : State := conv 3 (fun v => { v with running := true })
theorem witness_Calibration_1_0 :
    (convOf w24 (↑w23 : ℕ)).running = true ∧
    densityReason (hits.set 5 9) ≠ 0 := by decide +kernel

def w25 : Fin 217 := 3
def w26 : State := conv 3 (fun v => { v with due := true })
theorem witness_Calibration_1_1 :
    (convOf w26 (↑w25 : ℕ)).due = true ∧
    convMay w26 (↑w25 : ℕ) = true ∧
    (∀ k < 217, convRing k = convRing (↑w25 : ℕ) → (convOf w26 k).running = false ∧ (k < (↑w25 : ℕ) → (convOf w26 k).due = false)) := by decide +kernel

def w27 : Fin 217 := 3
def w28 : State := conv 3 (fun v => { v with retry := 2 })
theorem witness_Calibration_1_2 :
    convMay w28 (↑w27 : ℕ) = true ∧
    (convOf w28 (↑w27 : ℕ)).running = false ∧
    0 < (convOf w28 (↑w27 : ℕ)).retry := by decide +kernel

def w29 : GroupIx := 2
def w30 : State := repl (fun r => { r with tx := List.replicate 10 500, rx := List.replicate 10 700, txAt := some 0, rxAt := some 100 })
theorem witness_Calibration_3_0 :
    obilwinUp w30 = true ∧
    10 ≤ w30.wx.replica[w29].tx.length ∧
    (w30.wx.replica[w29].txAt).isSome = true ∧
    (w30.wx.replica[w29].rxAt).isSome = true ∧
    (↑(parV w30 90) : ℚ) ≤ absQ (meanQ w30.wx.replica[w29].tx - w30.wx.replica[w29].txAt.getD 0) ∧
    17 / 8 = (↑w29 : ℕ) ∧
    5 < 6 ∧
    (vget (laneOf w30 17).lat.sets 5 { : LatEntry }).source ≠ 4 := by decide +kernel

def w31 : State := tdcS (fun t => { t with present := true, lastOffset := some 55 })
theorem witness_TimeInputs_2_0 :
    ioOn w31 23 = true ∧
    domOn w31 13 = true ∧
    w31.tio.tdc.aligned = false ∧
    w31.tio.tdc.out = false := by decide +kernel

def w32 : Fin 2 := 1
def w33 : ℤ := 3
def w34 : State := setPar 0x68 17 1048576 (setPar 0x60 17 1 { eng with clk := { eng.clk with now := 3 * uSec + 1048576 } })
theorem witness_TimeOutputs_1_0 :
    ioOn w34 (16 + (↑w32 : ℕ)) = true ∧
    tioLive w34 = true ∧
    (parN w34 106 (16 + (↑w32 : ℕ)) = 0 ∨ w34.clk.tod = TodSt.traceable ∨ w34.clk.tod = TodSt.holdover) ∧
    (↑w34.clk.now : ℤ) = w33 * (↑uSec : ℤ) + par w34 104 (16 + (↑w32 : ℕ)) := by decide +kernel

def w35 : ℤ := Config.trimLow 65541 - 1
theorem witness_Calibration_0_0 :
    (65541 / 65536 = 1 ∨ 65541 / 65536 = 5) ∧
    Tbl.get up.cal.trimHeld 65541 = none ∧
    Tbl.get up.cal.trimRetry 65541 = none ∧
    (w35 < Config.trimLow 65541 ∨ Config.trimHigh 65541 < w35) := ⟨by decide +kernel, by decide +kernel, by decide +kernel, .inl (by simp [w35])⟩

def w36 : ℤ := Config.trimLow 65541
theorem witness_Calibration_0_1 :
    (65541 / 65536 = 1 ∨ 65541 / 65536 = 5) ∧
    trimMoment up 65541 ≤ up.clk.elapsed ∧
    (Config.trimLow 65541 ≤ w36 ∧ w36 ≤ Config.trimHigh 65541) := ⟨by decide +kernel, by decide +kernel, ⟨le_refl _, by simp [w36, Config.trimHigh]⟩⟩

def w37 : ReplicaMeas := { group := 5, tx := 100, rx := 50, temp := 410 }
theorem witness_Calibration_2_0 :
    w37.group < 24 ∧
    domOn up (bankOf w37.group) = true := by decide +kernel

def w38 : LaneIx := 3
def w39 : EyeScan := ⟨5, [0,0,5], [0,0,5], [0,1,7], [0,8]⟩
def w40 : State := laneMod 3 (fun x => { x with eye := { x.eye with running := true } }) std
theorem witness_Weathering_1_0 :
    (laneOf w40 (↑w38 : ℕ)).eye.running = true := by decide +kernel

def w41 : PortIx := 3
def w42 : List ℕ := [3]
def w43 : State := setPar 0x104 3 1 (setPar 0x103 3 1 (portMod 3 (fun x => { x with st := .down }) std))
theorem witness_PortStates_3_0 :
    portUsed w43 (↑w41 : ℕ) = true ∧
    portInReset w43 (↑w41 : ℕ) = false ∧
    anRuns w43 (↑w41 : ℕ) = true ∧
    ((portOf w43 (↑w41 : ℕ)).st = PortSt.down ∨ (portOf w43 (↑w41 : ℕ)).st = PortSt.hold) ∧
    (modeOf w43 ((↑w41 : ℕ) / 8) = 1 ∨ modeOf w43 ((↑w41 : ℕ) / 8) ∈ w42) ∧
    modeOf w43 ((↑w41 : ℕ) / 8) = 3 := by decide +kernel

def w44 : PortIx := 3
def w45 : List ℕ := []
def w46 : State := mode 0 1 (portMod 3 (fun x => { x with st := .down }) std)
theorem witness_PortStates_3_1 :
    portUsed w46 (↑w44 : ℕ) = true ∧
    portInReset w46 (↑w44 : ℕ) = false ∧
    anRuns w46 (↑w44 : ℕ) = true ∧
    ((portOf w46 (↑w44 : ℕ)).st = PortSt.down ∨ (portOf w46 (↑w44 : ℕ)).st = PortSt.hold) ∧
    (modeOf w46 ((↑w44 : ℕ) / 8) = 1 ∨ modeOf w46 ((↑w44 : ℕ) / 8) ∈ w45) ∧
    modeOf w46 ((↑w44 : ℕ) / 8) = 1 := by decide +kernel

end Sys2Proof.Tests.Clock1

namespace Sys2Proof.Tests.Clock2

set_option Elab.async false

def repl (f : Replica → Replica) : State := { up with wx := { up.wx with replica := vmodN up.wx.replica 2 f } }
def ev1 (f : EvIn → EvIn) : State := evMod 2 f (setPar 0x62 2 3 (setPar 0x60 2 1 eng))
def ent : EvEntry := ⟨77, true, false, false, true, 3, 5⟩
def tdcS (f : TdcRef → TdcRef) : State := tdcMod f (setPar 0x60 23 1 (setPar 0x6F 23 1 eng))
def te1 : TrigEntry := { handle := 3, start := 1048576000, width := 100, period := 1000, count := 5 }
def trg (on : Int) : State := setPar 0x60 9 on (trigMod 1 (fun t => { t with queue := [te1] }) eng)
def tap (f : TimeTap → TimeTap) : State := tapMod f eng
def syn (n : Nat) (f : Synth → Synth) : State := synMod n f up
def band1 : BandResult := { target := 1000, band := 7, temp := 400 }
def conv (c : Nat) (f : Conv → Conv) : State := convMod c f (laneMod 3 (fun x => { x with st := .ready }) (mode 0 3 up))
def hits : List Nat := List.replicate 2048 1000
def w0 : Fin 8 := 2
def w1 : Option TdcSample := none
def w2 : State := ev1 id
theorem witness_TimeInputs_0_0 :
    ioOn w2 (↑w0 : ℕ) = true ∧
    (if true = true then parN w2 98 (↑w0 : ℕ) = 1 ∨ parN w2 98 (↑w0 : ℕ) = 3 else parN w2 98 (↑w0 : ℕ) = 2 ∨ parN w2 98 (↑w0 : ℕ) = 3) ∧
    domOn w2 13 = true ∧
    w2.te.ks.control ≠ none ∧
    baseOf w2 (↑w0 : ℕ) = some false ∧
    (¬∃ c, (evOf w2 (↑w0 : ℕ)).lastCap = some c ∧ c ≤ 5000000 ∧ 5000000 - c < 2 * uNs) ∧
    (evOf w2 (↑w0 : ℕ)).fifo.length < 512 ∧
    startOf w2 (↑w0 : ℕ) = none ∧
    0 ≠ (↑w0 : ℕ) := by decide +kernel

def w3 : Fin 8 := 2
def w4 : Option TdcSample := none
def w5 : State := ev1 (fun e => { e with fifo := List.replicate 512 ent })
theorem witness_TimeInputs_0_1 :
    ioOn w5 (↑w3 : ℕ) = true ∧
    (if false = true then parN w5 98 (↑w3 : ℕ) = 1 ∨ parN w5 98 (↑w3 : ℕ) = 3 else parN w5 98 (↑w3 : ℕ) = 2 ∨ parN w5 98 (↑w3 : ℕ) = 3) ∧
    domOn w5 13 = true ∧
    w5.te.ks.control ≠ none ∧
    baseOf w5 (↑w3 : ℕ) = some false ∧
    (¬∃ c, (evOf w5 (↑w3 : ℕ)).lastCap = some c ∧ c ≤ 5000000 ∧ 5000000 - c < 2 * uNs) ∧
    512 ≤ (evOf w5 (↑w3 : ℕ)).fifo.length := by decide +kernel

def w6 : Fin 8 := 2
def w7 : State := ev1 (fun e => { e with fifo := [ent, ent], dead := 3, full := 4, noBase := 9 })
theorem witness_TimeInputs_1_0 :
    answers Initiator.host w7 ∧
    domOn w7 13 = true ∧
    (evOf w7 (↑w6 : ℕ)).fifo ≠ [] := by decide +kernel

def w8 : Fin 30 := 0
def w9 : State := syn 0 (fun x => { x with lock := true })
theorem witness_ClockSynthesis_2_0 :
    (synOf w9 (↑w8 : ℕ)).lock = true ∧
    (↑w8 : ℕ) = 0 ∧
    w9.rst.por = false ∧
    w9.rst.chip = none ∧
    w9.rst.data = none := by decide +kernel

def w10 : Fin 30 := 28
def w11 : State := syn 28 (fun x => { x with lock := true })
theorem witness_ClockSynthesis_2_1 :
    (synOf w11 (↑w10 : ℕ)).lock = true ∧
    28 ≤ (↑w10 : ℕ) := by decide +kernel

def w12 : Fin 30 := 28
def w13 : State := syn 28 (fun x => { x with tune := .hop 1000, bands := [{ band1 with target := 5 }, band1] })
theorem witness_ClockSynthesis_3_0 :
    (synOf w13 (↑w12 : ℕ)).tune = TuneSt.hop 1000 ∧
    (storedBand w13 (↑w12 : ℕ) 1000).isSome = true ∧
    (synOf w13 (↑w12 : ℕ)).second = none := by decide +kernel

def w14 : LaneIx := 3
theorem witness_Weathering_0_0 :
    (laneOf std (↑w14 : ℕ)).st = LaneSt.ready ∧
    (laneOf std (↑w14 : ℕ)).rxSleep = false := by decide +kernel

def w15 : State := { up with wx := { up.wx with target := 850 } }
theorem witness_Weathering_3_0 :
    obilwinUp w15 = true ∧
    w15.rst.data = none ∧
    domOn w15 10 = true ∧
    w15.wx.rings[10] < 1000 + (parV w15 95).toNat ∧
    850 < w15.wx.target + 5 := by decide +kernel

def w16 : State := { up with pins := { up.pins with vout := 755 } }
theorem witness_Weathering_4_0 :
    obilwinUp w16 = true ∧
    w16.pins.vout ≠ 0 ∧
    (w16.pins.vout + 5 < 745 ∨ 745 + 5 < w16.pins.vout) ∧
    w16.pins.voutRetried = false := by decide +kernel

def w17 : Fin 14 := 11
theorem witness_Weathering_5_0 :
    retIndex (↑w17 : ℕ) = some 2 ∧
    obilwinUp up = true := by decide +kernel

def w18 : PortIx := 3
theorem witness_PortStates_0_0 :
    linkReady up (↑w18 : ℕ) = false := by decide +kernel

def w19 : PortIx := 3
def w20 : State := ldMod 3 (fun x => { x with dstate := 2 }) std
theorem witness_PortStates_1_0 :
    portUsed w20 (↑w19 : ℕ) = true ∧
    (portOf w20 (↑w19 : ℕ)).st = PortSt.up ∧
    (LossCause.remoteFault = LossCause.laneNotReady → lanesReady w20 (↑w19 : ℕ) = false) ∧
    parN w20 276 (↑w19 : ℕ) ≠ 0 := by decide +kernel

def w21 : GroupIx := 2
def w22 : State := repl (fun r => { r with tx := List.replicate 10 500, rx := List.replicate 10 500 })
theorem witness_Calibration_3_0 :
    obilwinUp w22 = true ∧
    10 ≤ w22.wx.replica[w21].tx.length ∧
    w22.wx.replica[w21].txAt = none := by decide +kernel

def w23 : PortIx := 3
def w24 : List ℕ := []
def w25 : State := setPar 0x104 3 1 (setPar 0x103 3 1 (portMod 3 (fun x => { x with st := .down }) std))
theorem witness_PortStates_3_0 :
    portUsed w25 (↑w23 : ℕ) = true ∧
    portInReset w25 (↑w23 : ℕ) = false ∧
    anRuns w25 (↑w23 : ℕ) = true ∧
    ((portOf w25 (↑w23 : ℕ)).st = PortSt.down ∨ (portOf w25 (↑w23 : ℕ)).st = PortSt.hold) ∧
    modeOf w25 ((↑w23 : ℕ) / 8) ≠ 1 ∧
    modeOf w25 ((↑w23 : ℕ) / 8) ∉ w24 := by decide +kernel

def w26 : State := { eng with ck := { eng.ck with present := true, syn := Vector.replicate 30 { lock := true } } }
theorem witness_ClockSynthesis_0_0 :
    w26.ck.present = true := by decide +kernel

def w27 : PortIx := 3
def w28 : ℚ := 500000/1000
def w29 : State := { laneMod 3 (fun x => { x with eye := { x.eye with valid := true, width := 64 } }) std with wx := { up.wx with guard := Vector.replicate 192 16 } }
theorem witness_Weathering_2_0 :
    narrowest w29 (↑w27 : ℕ) = some w28 ∧
    obilwinUp w29 = true ∧
    (↑(parV w29 94) : ℚ) + 50 < w28 := by decide +kernel

def w30 : PortIx := 3
def w31 : State := portMod 3 (fun x => { x with st := .hold, downCause := 3 }) std
theorem witness_PortStates_2_0 :
    (portOf w31 (↑w30 : ℕ)).st = PortSt.hold ∧
    0 < 24 ∧
    0 < 8 := by decide +kernel

def w32 : PortIx := 4
def w33 : State := portMod 4 (fun x => { x with st := .down }) fab
theorem witness_PortStates_5_0 :
    portUsed w33 (↑w32 : ℕ) = true ∧
    (portOf w33 (↑w32 : ℕ)).st = PortSt.down := by decide +kernel

def w34 : Fin 4 := 2
def w35 : State := setPar 0x60 20 1 (setPar 0x6D 20 1 eng)
theorem witness_TimeOutputs_3_0 :
    clkoutMay w35 (↑w34 : ℕ) = true ∧
    parB w35 109 (18 + (↑w34 : ℕ)) = true ∧
    w35.tio.clkRun[w34] = false := by decide +kernel

end Sys2Proof.Tests.Clock2

namespace Sys2Proof.Tests.Clock3

set_option Elab.async false

def repl (f : Replica → Replica) : State := { up with wx := { up.wx with replica := vmodN up.wx.replica 2 f } }
def ev1 (f : EvIn → EvIn) : State := evMod 2 f (setPar 0x62 2 3 (setPar 0x60 2 1 eng))
def ent : EvEntry := ⟨77, true, false, false, true, 3, 5⟩
def tdcS (f : TdcRef → TdcRef) : State := tdcMod f (setPar 0x60 23 1 (setPar 0x6F 23 1 eng))
def te1 : TrigEntry := { handle := 3, start := 1048576000, width := 100, period := 1000, count := 5 }
def trg (on : Int) : State := setPar 0x60 9 on (trigMod 1 (fun t => { t with queue := [te1] }) eng)
def tap (f : TimeTap → TimeTap) : State := tapMod f eng
def syn (n : Nat) (f : Synth → Synth) : State := synMod n f up
def band1 : BandResult := { target := 1000, band := 7, temp := 400 }
def conv (c : Nat) (f : Conv → Conv) : State := convMod c f (laneMod 3 (fun x => { x with st := .ready }) (mode 0 3 up))
def hits : List Nat := List.replicate 2048 1000
def w0 : State := setPar 0x60 22 1 (tap (fun t => { t with clkPresent := true, computing := some [1,2,3,4], ignored := true }))
theorem witness_TimeOutputs_4_0 :
    domOn w0 13 = true ∧
    ioOn w0 22 = true ∧
    w0.tio.tap.clkPresent = true ∧
    Fin.ofNat 16 0 = 0 ∧
    Fin.ofNat 16 1 ≠ 0 ∧
    tioLive w0 = true ∧
    w0.tio.tap.computing ≠ none ∧
    (w0.tio.tap.computing).isSome = true ∧
    w0.tio.tap.clkAbsent = false := by decide +kernel

def w1 : State := tap id
theorem witness_TimeOutputs_4_1 :
    domOn w1 13 = true ∧
    tioLive w1 = true ∧
    ioOn w1 22 = true ∧
    w1.tio.tap.computing = none ∧
    w1.tio.tap.clkAbsent = false ∧
    w1.tio.tap.clkPresent = false := by decide +kernel

end Sys2Proof.Tests.Clock3
end

