-- ==== Sys2Proof/Tests/WitnessFabric.lean ====
section
/-! SUPPORT. Witnesses: for each statement and each of its clauses, a state and operands that meet the hypotheses. -/

open Sys2Proof Sys2Proof.Machine

namespace Sys2Proof.Tests.Fabric1

set_option Elab.async false

def frm : List Byte := be 6 0x000102030405 ++ be 6 0x0A0B0C0D0E0F ++ be 2 0x0800 ++ List.replicate 46 7
def dsc (cls : Nat) (outs : List Nat) : FrameDesc := { fid := 4, port := 3, hostTx := none, bytes := frm, len := 64, cls, colour := 0, ctx := 0, outs := outs.map (fun p => { port := p, hdr := none, strip := 0, dei := false, push := none }), group := none, cut := false, trunc := false, bad := false, complete := true, rxTime := none, oneStep := false, crossed := [] }
def slot : SlotEntry := { start := 500, length := 100, gate := 0xA5, early := 5, late := 5, ctx := 7 }
def eg (cls : Nat) : EgFrame := { desc := dsc cls [3], src := 1, ports := [3], cells := 1, total := 1, first := 0 }
def egm : EgFrame := { eg 8 with slots := [⟨3, 500, 100⟩] }
def calS (f : Calendar → Calendar) : State := calMod (fun c => f { c with running := true, courseLen := 10000 }) (pcalMod 3 (fun c => { c with banks := Vector.replicate 2 [slot] }) std)
def hel (serial nbr : Nat) : Hello := { version := 1, flags := 0, addr := 0x1002, port := 9, serial, nbrSerial := nbr, caps := 0, timing := 0, depth := 3, treeId := 7, sigmaAcc := 5, cAcc := 6, lsaSeq := 0, seq := 4 }
def adj (st : AdjSt) (h : Option Hello) : State := fabMod (fun x => { x with zone := 0, cluster := 0 }) (adjMod 4 (fun a => { a with st, hello := h }) fab)
def seg (k : Nat) (b : List Byte) : List Byte := segBytes { source := 0x1005, xid := 44, kind := k, index := 0, count := 1, mflags := 0, body := b }
def addrd (unit : Nat) (s : State) : State := fabMod (fun x => { x with addrValid := true, unit }) s
def twoW : State := addrd 1 (adj .twoWay (some { hel 0 0 with addr := 2, flags := 0x80 }))
def lsr (serial : Nat) (sc : Nat) : LsRecord := { scope := sc, flags := 0, origin := 5, age := 10, serial, seq := 3, entries := [{ kind := 1, nbr := 1, port := 3, cost := 10 }] }
def greq : List Byte := be 8 9 ++ be 1 255 ++ be 1 0 ++ be 1 0 ++ be 1 0 ++ be 3 0xFFFFFF ++ be 1 255 ++ be 1 0 ++ be 1 0 ++ be 2 0
def grant (st u : Nat) : List Byte := be 8 ownSerial ++ be 1 255 ++ be 1 0 ++ be 1 0 ++ be 1 st ++ be 3 0xFFFFFF ++ be 1 255 ++ be 1 u ++ be 1 0 ++ be 2 0
def rec0 (r : LsRecord) : StoredRecord := { body := r, born := 0, unacked := [4] }
def withRec (l : List StoredRecord) (s : State) : State := fabMod (fun x => { x with records := l }) s
def w0 : GroupIx := 0
def w1 : FrameDesc := dsc 8 [3]
def w2 : List FrameDesc := [dsc 8 [4]]
def w3 : State := inMod 0 (fun x => { x with calq := [dsc 8 [3], dsc 8 [4]] }) std
theorem witness_TheCalendar_0_0 :
    (inGrp w3 (↑w0 : ℕ)).calq = w1 :: w2 ∧
    w1.hostTx = none ∧
    1 ≠ (↑w0 : ℕ) := by decide +kernel

def w4 : PortIx := 3
def w5 : State := calS id
theorem witness_TheCalendar_1_0 :
    w5.cald.running = true ∧
    portUsed w5 (↑w4 : ℕ) = true ∧
    slotAt w5 (↑w4 : ℕ) 500 = some slot ∧
    slotMatched w5 (↑w4 : ℕ) 500 = false ∧
    slot.ctx ≠ 0 := by decide +kernel

def w6 : PortIx := 3
def w7 : State := outMod 0 (fun g => { g with egress := [egm] }) (calS id)
theorem witness_TheCalendar_1_1 :
    w7.cald.running = true ∧
    portUsed w7 (↑w6 : ℕ) = true ∧
    slotAt w7 (↑w6 : ℕ) 500 = some slot ∧
    slot.ctx ≠ 0 ∧
    slotMatched w7 (↑w6 : ℕ) 500 = true := by decide +kernel

def w8 : PortIx := 3
def w9 : TxStamp := ⟨3, 55, 2⟩
def w10 : OutCopy := { port := 3, hdr := none, strip := 0, dei := false, push := none }
def w11 : State := outMod 0 (fun g => { g with egress := [egm] }) (calS id)
theorem witness_TheCalendar_2_0 :
    portUp w11 (↑w8 : ℕ) = true ∧
    (portOf w11 (↑w8 : ℕ)).tx.express = none ∧
    (portOf w11 (↑w8 : ℕ)).gates[8] = true ∧
    firstMatched w11 (↑w8 : ℕ) = some egm ∧
    (List.find? (fun x => x.port == (↑w8 : ℕ)) egm.desc.outs = some w10) ∧
    egm.desc.trunc = false ∧
    egm.desc.bad = false ∧
    (egressBytes w11 (↑w8 : ℕ) egm.desc w10 (txStamp w11 (↑w8 : ℕ) w9).floor).1.length + 4 ≤ parN w11 262 (↑w8 : ℕ) := by decide +kernel

def w12 : State := calS id
theorem witness_TheCalendar_3_0 :
    w12.cald.running = true ∧
    domOn w12 10 = true ∧
    chipUp w12 ∧
    w12.cald.streams = [] := by decide +kernel

def w13 : State := calMod (fun c => { c with pending := some (1000, 20) }) std
theorem witness_TheCalendar_4_0 :
    w13.cald.pending = some (1000, 20) := by decide +kernel

def w14 : Activation := ⟨5, 10, true, [77], 2⟩
def w15 : Machine.Stream := ⟨5, 9, 3, [3], 0, [], [], [], false⟩
def w16 : State := calMod (fun c => { c with acts := [⟨5, 10, true, [77], 2⟩], streams := [⟨5, 9, 3, [3], 0, [], [], [], false⟩] }) std
theorem witness_TheCalendar_5_0 :
    obilwinUp w16 = true ∧
    w14.install = true ∧
    (List.find? (fun b => b.stream == 5 && !b.waiting.isEmpty) w16.cald.acts = some w14) ∧
    (List.find? (fun y => y.id == w14.stream) w16.cald.streams = some w15) := by decide +kernel

def w17 : PortIx := 4
def w18 : State := adj .init (some (hel 0 0))
theorem witness_AdjacenciesAndAddresses_0_0 :
    helloPort w18 (↑w17 : ℕ) = true ∧
    (portOf w18 (↑w17 : ℕ)).sleep.tx = SleepSt.awake := by decide +kernel

def w19 : PortIx := 4
def w20 : List Byte := helloBytes (hel 0 ownSerial)
def w21 : State := adj .init none
theorem witness_AdjacenciesAndAddresses_1_0 :
    helloPort w21 (↑w19 : ℕ) = true ∧
    5 ≠ (↑w19 : ℕ) ∧
    (helloOf w20).version = 1 ∧
    (adjOf w21 (↑w19 : ℕ)).st = AdjSt.init ∧
    (helloOf w20).serial ≠ ownSerial := ⟨by decide +kernel, by decide +kernel, by decide +kernel, by decide +kernel, (by intro e; refine own_ne_zero ?_; rw [← e]; decide +kernel)⟩

def w22 : PortIx := 4
def w23 : List Byte := helloBytes (hel 0 0)
def w24 : State := adj .twoWay (some (hel 0 0))
theorem witness_AdjacenciesAndAddresses_1_1 :
    helloPort w24 (↑w22 : ℕ) = true ∧
    5 ≠ (↑w22 : ℕ) ∧
    (helloOf w23).version = 1 ∧
    (adjOf w24 (↑w22 : ℕ)).st = AdjSt.twoWay ∧
    (helloOf w23).serial ≠ ownSerial := ⟨by decide +kernel, by decide +kernel, by decide +kernel, by decide +kernel, (by intro e; refine own_ne_zero ?_; rw [← e]; decide +kernel)⟩

def w25 : PortIx := 4
def w26 : List Byte := helloBytes (hel 0 ownSerial)
def w27 : State := adj .down none
theorem witness_AdjacenciesAndAddresses_1_2 :
    helloPort w27 (↑w25 : ℕ) = true ∧
    5 ≠ (↑w25 : ℕ) ∧
    (helloOf w26).version = 1 ∧
    (adjOf w27 (↑w25 : ℕ)).st = AdjSt.down ∧
    (helloOf w26).serial ≠ ownSerial := ⟨by decide +kernel, by decide +kernel, by decide +kernel, by decide +kernel, (by intro e; refine own_ne_zero ?_; rw [← e]; decide +kernel)⟩

def w28 : PortIx := 4
def w29 : List Byte := helloBytes ({ hel 0 ownSerial with version := 2 })
def w30 : State := adj .twoWay none
theorem witness_AdjacenciesAndAddresses_1_3 :
    helloPort w30 (↑w28 : ℕ) = true ∧
    5 ≠ (↑w28 : ℕ) ∧
    (helloOf w29).version ≠ 1 := by decide +kernel

def w31 : PortIx := 4
def w32 : List Byte := helloBytes (hel ownSerial ownSerial)
def w33 : State := adj .twoWay none
theorem witness_AdjacenciesAndAddresses_1_4 :
    helloPort w33 (↑w31 : ℕ) = true ∧
    5 ≠ (↑w31 : ℕ) ∧
    (helloOf w32).version = 1 ∧
    (helloOf w32).serial = ownSerial := ⟨by decide +kernel, by decide +kernel, by decide +kernel, helloOf_serial _ ownSerial_lt⟩

def w34 : PortIx := 4
def w35 : State := adj .twoWay none
theorem witness_AdjacenciesAndAddresses_2_0 :
    (adjOf w35 (↑w34 : ℕ)).st ≠ AdjSt.down ∧
    (adjOf w35 (↑w34 : ℕ)).suspended = false ∧
    5 ≠ (↑w34 : ℕ) := by decide +kernel

def w36 : State := fabMod (fun x => { x with addrValid := false, reqTries := 1, reqPort := some 3 }) twoW
theorem witness_AdjacenciesAndAddresses_3_0 :
    obilwinUp w36 = true ∧
    w36.fab.addrValid = false ∧
    w36.fab.stuck = false ∧
    requestPorts w36 = [4] ∧
    0 < w36.fab.reqTries ∧
    (List.filter (fun q => decide (w36.fab.reqPort.getD 0 < q)) (requestPorts w36) = [4]) ∧
    (segOf 4 (seg 5 (grant 1 9))).count ≤ 1 ∧
    fieldBe (segOf 4 (seg 5 (grant 1 9))).body 11 1 = 1 ∧
    fieldBe (segOf 4 (seg 5 (grant 1 9))).body 0 8 = ownSerial := ⟨by decide +kernel, by decide +kernel, by decide +kernel, by decide +kernel, by decide +kernel, by decide +kernel, by decide +kernel, by decide +kernel, fieldBe_be8 _ ownSerial_lt⟩

def w37 : State := fabMod (fun x => { x with addrValid := false }) twoW
theorem witness_AdjacenciesAndAddresses_3_1 :
    obilwinUp w37 = true ∧
    w37.fab.addrValid = false ∧
    w37.fab.stuck = false ∧
    requestPorts w37 = [4] ∧
    (segOf 4 (seg 5 (grant 0 9))).count ≤ 1 ∧
    fieldBe (segOf 4 (seg 5 (grant 0 9))).body 11 1 = 0 ∧
    fieldBe (segOf 4 (seg 5 (grant 0 9))).body 16 1 < 64 ∧
    fieldBe (segOf 4 (seg 5 (grant 0 9))).body 0 8 = ownSerial := ⟨by decide +kernel, by decide +kernel, by decide +kernel, by decide +kernel, by decide +kernel, by decide +kernel, by decide +kernel, fieldBe_be8 _ ownSerial_lt⟩

theorem witness_AdjacenciesAndAddresses_3_2 :
    obilwinUp up = true ∧
    up.fab.addrValid = false ∧
    up.fab.stuck = false ∧
    requestPorts up = [] ∧
    chooseUnit up ownSerial (unitCfg up) = some (0, 3) ∧
    (segOf 0 (seg 5 (grant 1 9))).count ≤ 1 ∧
    fieldBe (segOf 0 (seg 5 (grant 1 9))).body 11 1 = 1 ∧
    fieldBe (segOf 0 (seg 5 (grant 1 9))).body 0 8 = ownSerial := ⟨by decide +kernel, by decide +kernel, by decide +kernel, by decide +kernel, by decide +kernel, by decide +kernel, by decide +kernel, fieldBe_be8 _ ownSerial_lt⟩

def w38 : PortIx := 4
def w39 : List Byte := seg 4 greq
def w40 : State := addrd 1 fab
theorem witness_AdjacenciesAndAddresses_4_0 :
    obilwinUp w40 = true ∧
    w40.fab.addrValid = true ∧
    (segOf 4101 w39).count ≤ 1 ∧
    fieldBe (segOf 4101 w39).body 15 1 = 255 ∧
    (chooseUnit w40 (fieldBe (segOf 4101 w39).body 0 8) (if fieldBe (segOf 4101 w39).body 8 1 = 255 then none else some (fieldBe (segOf 4101 w39).body 8 1)) = some (0, 3)) ∧
    isAssigner w40 = true := ⟨by decide +kernel, by decide +kernel, by decide +kernel, by decide +kernel, by decide +kernel, assigner_self _ 1 rfl⟩

def w41 : State := fabMod (fun x => { x with held := [⟨5, 6, some 9⟩, ⟨6, 7, some 10⟩] }) up
theorem witness_AdjacenciesAndAddresses_5_0 :
    obilwinUp w41 = true ∧
    ((List.filterMap (fun h => h.goneAt) w41.fab.held).min? = some 9) := by decide +kernel

def w42 : PortIx := 4
def w43 : List Byte := seg 2 (recBytes (lsr 0 1) 10)
theorem witness_LinkStateRecords_0_0 :
    obilwinUp twoW = true ∧
    helloPort twoW (↑w42 : ℕ) = true ∧
    (segOf 4101 w43).count ≤ 1 ∧
    1 ≤ (recOf (segOf 4101 w43).body).scope ∧
    (recOf (segOf 4101 w43).body).scope ≤ 3 ∧
    (recOf (segOf 4101 w43).body).age < 3600 ∧
    (∀ (o : LsRecord), List.find? (fun q => sameRec q (recOf (segOf 4101 w43).body)) (List.map (fun q => q.body) twoW.fab.records) = some o → newer (recOf (segOf 4101 w43).body) o = true) ∧
    (List.find? (fun q => sameRec q (recOf (segOf 4101 w43).body)) (List.map (fun q => q.body) twoW.fab.records) = none → (List.filter (fun q => q.body.scope == (recOf (segOf 4101 w43).body).scope) twoW.fab.records).length < scaleOf (recOf (segOf 4101 w43).body).scope) ∧
    (recOf (segOf 4101 w43).body).serial ≠ ownSerial := ⟨by decide +kernel, by decide +kernel, by decide +kernel, by decide +kernel, by decide +kernel, by decide +kernel, by decide +kernel, by decide +kernel, (by intro e; refine own_ne_zero ?_; rw [← e]; decide +kernel)⟩

def w44 : PortIx := 4
def w45 : List Byte := seg 2 (recBytes (lsr 0 1) 10)
def w46 : State := withRec [rec0 (lsr 0 1)] twoW
theorem witness_LinkStateRecords_0_1 :
    obilwinUp w46 = true ∧
    helloPort w46 (↑w44 : ℕ) = true ∧
    (segOf 4101 w45).count ≤ 1 ∧
    1 ≤ (recOf (segOf 4101 w45).body).scope ∧
    (recOf (segOf 4101 w45).body).scope ≤ 3 ∧
    (recOf (segOf 4101 w45).body).age < 3600 ∧
    (List.find? (fun q => sameRec q (recOf (segOf 4101 w45).body)) (List.map (fun q => q.body) w46.fab.records) = some (lsr 0 1)) ∧
    newer (recOf (segOf 4101 w45).body) (lsr 0 1) = false ∧
    (recOf (segOf 4101 w45).body).seq = (lsr 0 1).seq ∧
    (recOf (segOf 4101 w45).body).serial ≠ ownSerial := ⟨by decide +kernel, by decide +kernel, by decide +kernel, by decide +kernel, by decide +kernel, by decide +kernel, by decide +kernel, by decide +kernel, by decide +kernel, (by intro e; refine own_ne_zero ?_; rw [← e]; decide +kernel)⟩

def w47 : PortIx := 4
def w48 : List Byte := seg 2 (recBytes (lsr 0 1) 10)
def w49 : State := withRec (List.replicate 64 (rec0 (lsr 78 1))) twoW
theorem witness_LinkStateRecords_0_2 :
    obilwinUp w49 = true ∧
    helloPort w49 (↑w47 : ℕ) = true ∧
    (segOf 4101 w48).count ≤ 1 ∧
    1 ≤ (recOf (segOf 4101 w48).body).scope ∧
    (recOf (segOf 4101 w48).body).scope ≤ 3 ∧
    (recOf (segOf 4101 w48).body).age < 3600 ∧
    (List.find? (fun q => sameRec q (recOf (segOf 4101 w48).body)) (List.map (fun q => q.body) w49.fab.records) = none) ∧
    (scaleOf (recOf (segOf 4101 w48).body).scope ≤ (List.filter (fun q => q.body.scope == (recOf (segOf 4101 w48).body).scope) w49.fab.records).length) ∧
    (recOf (segOf 4101 w48).body).serial ≠ ownSerial := ⟨by decide +kernel, by decide +kernel, by decide +kernel, by decide +kernel, by decide +kernel, by decide +kernel, by decide +kernel, by decide +kernel, (by intro e; refine own_ne_zero ?_; rw [← e]; decide +kernel)⟩

def w50 : PortIx := 4
def w51 : List Byte := seg 3 (ackBody (lsr 0 1))
def w52 : State := withRec [rec0 (lsr 0 1), rec0 (lsr 78 1)] twoW
theorem witness_LinkStateRecords_1_0 :
    obilwinUp w52 = true ∧
    (segOf 4101 w51).count ≤ 1 ∧
    (segOf 4101 w51).body.length = 20 := by decide +kernel

def w53 : State := withRec [rec0 (lsr 0 1), rec0 (lsr 78 1)] twoW
theorem witness_LinkStateRecords_2_0 :
    obilwinUp w53 = true := by decide +kernel

def w54 : ℤ := 0
def w55 : State := withRec [rec0 (lsr 0 1), rec0 (lsr 78 1)] twoW
theorem witness_LinkStateRecords_3_0 :
    obilwinUp w55 = true ∧
    ((List.map (fun r => r.born) w55.fab.records).min? = some w54) := by decide +kernel

def w56 : State := fabMod (fun x => { x with reasm := [⟨1, 2, 3, 4, 5, 6, [], 5⟩, ⟨1, 3, 3, 4, 5, 6, [], 6⟩] }) twoW
theorem witness_LinkStateRecords_4_0 :
    ((List.map (fun r => r.firstAt) w56.fab.reasm).min? = some 5) := by decide +kernel

def w57 : State := adjMod 4 (fun a => { a with hello := a.hello.map (fun h => { h with flags := 0x80 }) }) twoW
theorem witness_LinkStateRecords_5_0 :
    obilwinUp w57 = true ∧
    w57.fab.addrValid = true ∧
    1 ≤ 1 ∧
    1 ≤ 3 ∧
    ownEntries w57 1 ≠ [] ∧
    (∀ (r : LsRecord), ownRecord w57 1 = some r → r.entries ≠ ownEntries w57 1) := by decide +kernel

def w58 : State := withRec [rec0 { lsr ownSerial 1 with origin := 1 }] twoW
theorem witness_LinkStateRecords_6_0 :
    obilwinUp w58 = true ∧
    w58.fab.addrValid = true := by decide +kernel

def w59 : State := { twoW with fabS := { twoW.fabS with reconv := true } }
theorem witness_LinkStateRecords_7_0 :
    obilwinUp w59 = true ∧
    w59.fabS.reconv = true ∧
    domOn w59 10 = true ∧
    w59.cald.streams = [] := by decide +kernel

def w60 : Hello := hel 0 9
theorem witness_AdjacenciesAndAddresses_6_0 :
    helloFits w60 := by decide +kernel

def w61 : Seg := { source := 0x1005, xid := 44, kind := 3, index := 0, count := 1, mflags := 0, body := [1,2,3] }
theorem witness_CommandsOverTheFabric_4_0 :
    segFits w61 := by decide +kernel

def w62 : List Byte := List.replicate 3000 7
theorem witness_CommandsOverTheFabric_5_0 :
    44 < 2 ^ 16 ∧
    3 < 2 ^ 8 ∧
    1 < 2 ^ 8 ∧
    w62.length ≤ 16384 := by decide +kernel

end Sys2Proof.Tests.Fabric1

namespace Sys2Proof.Tests.Fabric2

set_option Elab.async false

def q (op : Nat) (p : List Byte) (s : State) : State := cmdAt 1 op p s
def calS (f : Calendar → Calendar) (s : State) : State := calMod (fun c => f { c with running := true, courseLen := 10000 }) s
def own : Nat := ownAddr std
def adm (src dst ml k fl t gap id : Nat) : List Byte := le 4 src ++ le 4 dst ++ le 2 ml ++ le 1 k ++ le 1 fl ++ le 4 t ++ le 4 gap ++ le 4 id
def ap := adm (own + 5 * 2^24) (own + 3 * 2^24) 1000 1 0 0 0 77
def ad (s : State) : State := q 0x601 (ap ++ le 72 0) s
def pp := ap ++ le 72 0
def st1 := ad (calS id std)
def xx : Plan := match planStream st1 pp (streamIdFor st1 pp) true with | .inl _ => ⟨0,0,0,0,[],{},0⟩ | .inr x => x
def st2 := ad (calS id (pcalMod 3 (fun c => { c with pending := some 44 }) std))
def sx (dv : List Nat) : Stream := ⟨5, 9, 3, [3], 0, dv, [], [], false⟩
def wp := le 4 5
def wst (dv : List Nat) : State := q 0x602 wp (calS (fun c => { c with streams := [sx dv] }) std)
def cp := le 4 20000 ++ le 4 7
def rc : List Byte := le 4 0x1234 ++ List.replicate 16 5
def lsr (serial : Nat) : LsRecord := { scope := 1, flags := 0, origin := 5, age := 10, serial, seq := 3, entries := [{ kind := 1, nbr := 1, port := 3, cost := 10 }] }
def db : List Byte := le 4 1 ++ le 4 1
def pm (n e : Nat) : List Byte := le 2 n ++ le 2 e
def sp (m : List Byte) : List Byte := le 2 m.length ++ le 2 0 ++ m
def cs (p : List Byte) : State := q 0x901 p eng
def sr : List Byte := le 4 0x1234 ++ le 2 4 ++ le 2 0 ++ [0x10, 0x84, 0, 0]
def fo (k n : Nat) : List Byte := le 4 k ++ le 4 n
def w1 : Origin := .host 1
def w2 : State := ad std
theorem witness_CalendarCommands_0_1 :
    commandAt w2 w1 1537 = some pp ∧
    bits (Machine.fieldLe pp 0 4) 18 6 = 0 ∧
    bits (Machine.fieldLe pp 4 4) 18 5 = 0 ∧
    64 ≤ Machine.fieldLe pp 8 2 ∧
    Machine.fieldLe pp 8 2 ≤ 16383 ∧
    1 ≤ Machine.fieldLe pp 10 1 ∧
    Machine.fieldLe pp 10 1 ≤ 16 ∧
    Machine.fieldLe pp 11 1 < 4 ∧
    ((Machine.fieldLe pp 11 1).testBit 0 = true → (Machine.fieldLe pp 4 4).testBit 23 = false ∧ pathBad w2 pp = none) ∧
    ((Machine.fieldLe pp 11 1).testBit 1 = true → w2.cald.running = true → Machine.fieldLe pp 12 4 + (Machine.fieldLe pp 10 1 - 1) * Machine.fieldLe pp 16 4 < coursePeriods w2) ∧
    (Machine.fieldLe pp 10 1 = 1 → Machine.fieldLe pp 16 4 = 0) ∧
    ((w2.cald.streams.any fun x => x.id == Machine.fieldLe pp 20 4) = false) ∧
    planStream w2 pp (streamIdFor w2 pp) true = Sum.inl 21 := by decide +kernel

def w4 : Origin := .host 1
def w5 : State := wst []
theorem witness_CalendarCommands_1_0 :
    commandAt w5 w4 1538 = some wp ∧
    (List.find? (fun x => x.id == Machine.fieldLe wp 0 4) w5.cald.streams = some (sx [])) ∧
    switchOrdered w5 (sx []).ports = false ∧
    (sx []).devices = [] := by decide +kernel

def w6 : Origin := .host 1
def w7 : State := wst [77]
theorem witness_CalendarCommands_1_1 :
    commandAt w7 w6 1538 = some wp ∧
    (List.find? (fun x => x.id == Machine.fieldLe wp 0 4) w7.cald.streams = some (sx [77])) ∧
    switchOrdered w7 (sx [77]).ports = false ∧
    (sx [77]).devices ≠ [] := by decide +kernel

def w8 : Origin := .host 1
def w9 : State := pcalMod 3 (fun c => { c with pending := some 44 }) (wst [77])
theorem witness_CalendarCommands_1_2 :
    commandAt w9 w8 1538 = some wp ∧
    (List.find? (fun x => x.id == Machine.fieldLe wp 0 4) w9.cald.streams = some (sx [77])) ∧
    switchOrdered w9 (sx [77]).ports = true := by decide +kernel

def w10 : Origin := .host 1
def w11 : State := q 0x602 wp std
theorem witness_CalendarCommands_1_3 :
    commandAt w11 w10 1538 = some wp ∧
    (List.find? (fun x => x.id == Machine.fieldLe wp 0 4) w11.cald.streams = none) := by decide +kernel

def w12 : Origin := .host 1
def w13 : State := q 0x603 cp std
theorem witness_CalendarCommands_2_0 :
    commandAt w13 w12 1539 = some cp ∧
    1000 ≤ Machine.fieldLe cp 0 4 ∧
    Machine.fieldLe cp 0 4 ≤ 8192000 ∧
    Machine.fieldLe cp 4 4 < Machine.fieldLe cp 0 4 ∧
    w13.cald.resv = [] ∧
    w13.cald.streams = [] := by decide +kernel

def w14 : Origin := .host 1
def w15 : State := q 0x603 cp (wst [])
theorem witness_CalendarCommands_2_1 :
    commandAt w15 w14 1539 = some cp ∧
    1000 ≤ Machine.fieldLe cp 0 4 ∧
    Machine.fieldLe cp 0 4 ≤ 8192000 ∧
    Machine.fieldLe cp 4 4 < Machine.fieldLe cp 0 4 ∧
    (w15.cald.resv ≠ [] ∨ w15.cald.streams ≠ []) := by decide +kernel

def w16 : Origin := .host 1
def w17 : State := q 0x710 rc fab
theorem witness_FabricAndReportCommands_0_0 :
    commandAt w17 w16 1808 = some rc ∧
    Machine.fieldLe rc 0 4 < 2 ^ 18 ∧
    Machine.fieldLe rc 0 4 ≠ ownAddr w17 := by decide +kernel

def w18 : Origin := .host 1
def w19 : List Byte := le 4 own ++ List.replicate 16 5
def w20 : State := q 0x710 (le 4 own ++ List.replicate 16 5) std
theorem witness_FabricAndReportCommands_0_1 :
    commandAt w20 w18 1808 = some w19 ∧
    Machine.fieldLe w19 0 4 = ownAddr w20 := by decide +kernel

def w21 : Origin := .host 1
def w22 : State := q 0x720 db (fabMod (fun x => { x with records := [⟨lsr 1, 0, []⟩, ⟨lsr 2, -5, []⟩, ⟨{ lsr 2 with scope := 2 }, 0, []⟩, ⟨lsr 4, 0, []⟩] }) fab)
theorem witness_FabricAndReportCommands_1_0 :
    commandAt w22 w21 1824 = some db ∧
    1 ≤ Machine.fieldLe db 0 1 ∧
    Machine.fieldLe db 0 1 ≤ 3 ∧
    zeros db 1 3 = true := by decide +kernel

def w23 : Origin := .host 1
def w24 : List Byte := pm 5 77
def w25 : State := q 0x801 (pm 5 77) eng
theorem witness_FabricAndReportCommands_2_0 :
    commandAt w25 w23 2049 = some w24 ∧
    5 = Machine.fieldLe w24 0 2 ∧
    77 = Machine.fieldLe w24 2 2 ∧
    5 ≤ 1023 ∧
    (77 < 1024 ∨ 77 = 65535 ∨ 77 = 65534 ∧ 5 ≠ 0) := by decide +kernel

def w26 : Fin 4 := 1
def w27 : List Byte := le 4 0
def w28 : State := q 0x802 (le 4 0) eng
theorem witness_FabricAndReportCommands_3_0 :
    commandAt w28 (Origin.host w26) 2050 = some w27 ∧
    Machine.fieldLe w27 0 4 = 0 ∧
    0 ≠ (↑w26 : ℕ) := by decide +kernel

def w29 : Fin 4 := 1
def w30 : List Byte := le 4 8
def w31 : State := q 0x802 (le 4 8) (chanMod 1 (fun c => { c with health := List.replicate 90 5 }) eng)
theorem witness_FabricAndReportCommands_3_1 :
    commandAt w31 (Origin.host w29) 2050 = some w30 ∧
    Machine.fieldLe w30 0 4 ≠ 0 ∧
    (chanOf w31 (↑w29 : ℕ)).health ≠ [] := by decide +kernel

def w32 : Origin := .host 3
def w33 : List Byte := sp [0x12, 0x84, 0, 0]
def w34 : State := cmdAt 3 0x901 (sp [0x12, 0x84, 0, 0]) eng
theorem witness_AttestationCommands_0_0 :
    commandAt w34 w32 2305 = some w33 ∧
    zeros w33 2 2 = true ∧
    4 ≤ (slice w33 4 (Machine.fieldLe w33 0 2)).length ∧
    Machine.fieldLe (slice w33 4 (Machine.fieldLe w33 0 2)) 1 1 = spdmVersion := by decide +kernel

def w35 : Origin := .host 3
def w36 : List Byte := sp [0x12, 0xE1, 0, 0]
def w37 : State := cmdAt 3 0x901 (sp [0x12, 0xE1, 0, 0]) eng
theorem witness_AttestationCommands_0_1 :
    commandAt w37 w35 2305 = some w36 ∧
    zeros w36 2 2 = true ∧
    4 ≤ (slice w36 4 (Machine.fieldLe w36 0 2)).length ∧
    Machine.fieldLe (slice w36 4 (Machine.fieldLe w36 0 2)) 1 1 ∈ spdmOffered ∧
    spdmInOrder (connOf w37 chan3).seen (Machine.fieldLe (slice w36 4 (Machine.fieldLe w36 0 2)) 1 1) = false := by decide +kernel

def w38 : Origin := .host 3
def w39 : List Byte := sp [0x12, 0xFF, 0, 0]
def w40 : State := cmdAt 3 0x901 (sp [0x12, 0xFF, 0, 0]) eng
theorem witness_AttestationCommands_0_2 :
    commandAt w40 w38 2305 = some w39 ∧
    zeros w39 2 2 = true ∧
    4 ≤ (slice w39 4 (Machine.fieldLe w39 0 2)).length ∧
    Machine.fieldLe (slice w39 4 (Machine.fieldLe w39 0 2)) 1 1 ∉ spdmOffered := by decide +kernel

def w41 : Origin := .host 1
def w42 : State := q 0x902 sr fab
theorem witness_AttestationCommands_1_0 :
    commandAt w42 w41 2306 = some sr ∧
    Machine.fieldLe sr 0 4 < 2 ^ 18 ∧
    Machine.fieldLe sr 0 4 ≠ ownAddr w42 ∧
    zeros sr 6 2 = true := by decide +kernel

def w43 : Origin := .host 1
def w44 : List Byte := fo 1 1000
def w45 : State := q 0x910 (fo 1 1000) eng
theorem witness_FirmwareCommands_0_0 :
    commandAt w45 w43 2320 = some w44 ∧
    1 = Machine.fieldLe w44 0 1 ∧
    1000 = Machine.fieldLe w44 4 4 ∧
    1 ≤ 1 ∧
    zeros w44 1 3 = true ∧
    1000 ≤ slotSize w45 ∧
    1000 ≤ 2 ^ 23 ∧
    (¬(w45.boot.stage = 2 ∧ w45.boot.slot = 1)) ∧
    w45.boot.update = none := by decide +kernel

def w46 : Origin := .host 1
def w47 : List Byte := fo 0 1000
def w48 : State := q 0x910 (fo 0 1000) eng
theorem witness_FirmwareCommands_0_1 :
    commandAt w48 w46 2320 = some w47 ∧
    0 = Machine.fieldLe w47 0 1 ∧
    1000 = Machine.fieldLe w47 4 4 ∧
    0 ≤ 1 ∧
    zeros w47 1 3 = true ∧
    1000 ≤ slotSize w48 ∧
    1000 ≤ 2 ^ 23 ∧
    w48.boot.stage = 2 ∧
    w48.boot.slot = 0 := by decide +kernel

def w49 : Origin := .host 1
def w50 : List Byte := fo 1 1000
def w51 : State := q 0x910 (fo 1 1000) (bootMod (fun b => { b with update := some (0, 1000, 5) }) eng)
theorem witness_FirmwareCommands_0_2 :
    commandAt w51 w49 2320 = some w50 ∧
    1 = Machine.fieldLe w50 0 1 ∧
    1000 = Machine.fieldLe w50 4 4 ∧
    1 ≤ 1 ∧
    zeros w50 1 3 = true ∧
    1000 ≤ slotSize w51 ∧
    1000 ≤ 2 ^ 23 ∧
    (¬(w51.boot.stage = 2 ∧ w51.boot.slot = 1)) ∧
    w51.boot.update = some (0, 1000, 5) := by decide +kernel

def w52 : Origin := .host 1
def w53 : List Byte := le 4 0 ++ [1,2,3]
def w54 : State := q 0x911 (le 4 0 ++ [1,2,3]) (bootMod (fun b => { b with update := some (1, 1000, 0) }) eng)
theorem witness_FirmwareCommands_1_0 :
    commandAt w54 w52 2321 = some w53 ∧
    w54.boot.update = some (1, 1000, 0) ∧
    Machine.fieldLe w53 0 4 = 0 ∧
    0 + (List.drop 4 w53).length ≤ 1000 := by decide +kernel

def w55 : Origin := .host 1
def w56 : List Byte := le 4 0 ++ [1,2,3]
def w57 : State := q 0x911 (le 4 0 ++ [1,2,3]) eng
theorem witness_FirmwareCommands_1_1 :
    commandAt w57 w55 2321 = some w56 ∧
    w57.boot.update = none := by decide +kernel

end Sys2Proof.Tests.Fabric2

namespace Sys2Proof.Tests.Fabric3

set_option Elab.async false

def q (op : Nat) (p : List Byte) (s : State) : State := cmdAt 1 op p s
def bs (f : Boot → Boot) : State := bootMod (fun b => f { b with slots := b.slots.set 1 { bytes := img 5 } }) eng
def fa (k w : Nat) : List Byte := le 1 k ++ le 1 w ++ le 2 0
def hel (serial nbr : Nat) : Hello := { version := 1, flags := 0, addr := 0x1002, port := 9, serial, nbrSerial := nbr, caps := 0, timing := 0, depth := 3, treeId := 7, sigmaAcc := 5, cAcc := 6, lsaSeq := 0, seq := 4 }
def sg (kind : Nat) (b : List Byte) : List Byte := segBytes { source := 0x1234, xid := 44, kind, index := 0, count := 1, mflags := 0, body := b }
def cmdB (seq : Nat) : List Byte := le 2 0x0101 ++ le 2 0 ++ le 2 seq ++ le 2 0 ++ le 4 0 ++ le 4 0
def rsq (seq : Nat) (r : List Byte) : State := fabMod (fun x => { x with remotes := [⟨0x1234, seq, r, 0, []⟩] }) fab
def ry (a : Bool) (n : Nat) : Relay := ⟨.host 1, 44, 0x1234, [5,6,7], n, 900, a⟩
def rys (a : Bool) (n : Nat) : State := q 0x710 [1,2,3] (fabMod (fun x => { x with relays := [ry a n] }) fab)
def ex : Exec := ((rys false 1).mb.chan[1].exec).getD { cmd := { opcode := 0, hseq := 0, chanField := 0, payload := [] } }
def w0 : Origin := .host 1
def w1 : List Byte := fa 1 1
def w2 : State := q 0x913 (fa 1 1) (bs id)
theorem witness_FirmwareCommands_3_0 :
    commandAt w2 w0 2323 = some w1 ∧
    1 = Machine.fieldLe w1 0 1 ∧
    1 ≤ 1 ∧
    Machine.fieldLe w1 1 1 ≤ 1 ∧
    zeros w1 2 2 = true ∧
    Machine.fieldLe w1 1 1 = 1 ∧
    slotState w2 1 ≠ 0 ∧
    (Option.any (fun h => decide (h.1 / 2 ^ 24 % 256 < w2.boot.rollback)) (slotHeader (slotOf w2 1)) = false) := ⟨by decide +kernel, by decide +kernel, by decide +kernel, by decide +kernel, by decide +kernel, by decide +kernel, (by rw [slotState_img 5 _ _ (by decide) rfl rfl (by decide +kernel)]; decide +kernel), (by rw [slotHeader_img 5 _ (by decide) rfl]; decide +kernel)⟩

def w3 : Origin := .host 1
def w4 : List Byte := fa 1 0
def w5 : State := q 0x913 (fa 1 0) (bs (fun b => { b with rollback := 1 }))
theorem witness_FirmwareCommands_3_1 :
    commandAt w5 w3 2323 = some w4 ∧
    1 = Machine.fieldLe w4 0 1 ∧
    1 ≤ 1 ∧
    Machine.fieldLe w4 1 1 ≤ 1 ∧
    zeros w4 2 2 = true ∧
    slotState w5 1 ≠ 0 ∧
    (Option.any (fun h => decide (h.1 / 2 ^ 24 % 256 < w5.boot.rollback)) (slotHeader (slotOf w5 1)) = true) := ⟨by decide +kernel, by decide +kernel, by decide +kernel, by decide +kernel, by decide +kernel, (by rw [slotState_img 5 _ _ (by decide) rfl rfl (by decide +kernel)]; decide +kernel), (by rw [slotHeader_img 5 _ (by decide) rfl]; decide +kernel)⟩

def w6 : Origin := .host 1
def w7 : List Byte := fa 0 0
def w8 : State := q 0x913 (fa 0 0) (bs id)
theorem witness_FirmwareCommands_3_2 :
    commandAt w8 w6 2323 = some w7 ∧
    0 = Machine.fieldLe w7 0 1 ∧
    0 ≤ 1 ∧
    Machine.fieldLe w7 1 1 ≤ 1 ∧
    zeros w7 2 2 = true ∧
    slotState w8 0 = 0 := by decide +kernel

def w9 : Origin := .host 1
def w10 : List Byte := []
def w11 : State := q 0x914 [] (bs (fun b => { b with slot := 1, rollback := 3 }))
theorem witness_FirmwareCommands_4_0 :
    commandAt w11 w9 2324 = some w10 ∧
    w11.boot.attempt = none := by decide +kernel

def w12 : Origin := .host 1
def w13 : List Byte := le 4 0 ++ le 4 1
def w14 : State := q 0x803 (le 4 0 ++ le 4 1) { eng with wx := { eng.wx with hourly := [⟨0, List.replicate 64 1, []⟩, ⟨1, List.replicate 64 2, []⟩] } }
theorem witness_FabricAndReportCommands_5_0 :
    commandAt w14 w12 2051 = some w13 ∧
    Machine.fieldLe w13 0 1 ≤ 1 ∧
    zeros w13 1 3 = true := by decide +kernel

def w15 : List Byte := sg 0 (cmdB 7)
theorem witness_CommandsOverTheFabric_0_0 :
    obilwinUp fab = true ∧
    (segOf 4660 w15).kind = 0 ∧
    (segOf 4660 w15).count ≤ 1 ∧
    16 ≤ (segOf 4660 w15).body.length ∧
    execOf fab (Origin.remote (segOf 4660 w15).source (segOf 4660 w15).xid) = none ∧
    (∀ q ∈ fab.fab.remotes, q.source ≠ (segOf 4660 w15).source) := by decide +kernel

def w16 : List Byte := sg 0 (cmdB 7)
def w17 : State := rsq 6 []
theorem witness_CommandsOverTheFabric_0_1 :
    obilwinUp w17 = true ∧
    (segOf 4660 w16).kind = 0 ∧
    (segOf 4660 w16).count ≤ 1 ∧
    16 ≤ (segOf 4660 w16).body.length ∧
    execOf w17 (Origin.remote (segOf 4660 w16).source (segOf 4660 w16).xid) = none ∧
    (List.find? (fun r => r.source == (segOf 4660 w16).source) w17.fab.remotes = some { source := 4660, lastSeq := 6, response := [] : RemoteSeq }) ∧
    (cmdOf (segOf 4660 w16).body).hseq = ({ source := 4660, lastSeq := 6, response := [] : RemoteSeq }.lastSeq + 1) % 65536 := by decide +kernel

def w18 : List Byte := sg 0 (cmdB 7)
def w19 : State := rsq 7 (List.replicate 16 9)
theorem witness_CommandsOverTheFabric_0_2 :
    obilwinUp w19 = true ∧
    (segOf 4660 w18).kind = 0 ∧
    (segOf 4660 w18).count ≤ 1 ∧
    16 ≤ (segOf 4660 w18).body.length ∧
    execOf w19 (Origin.remote (segOf 4660 w18).source (segOf 4660 w18).xid) = none ∧
    (List.find? (fun r => r.source == (segOf 4660 w18).source) w19.fab.remotes = some { source := 4660, lastSeq := 7, response := List.replicate 16 9 : RemoteSeq }) ∧
    (cmdOf (segOf 4660 w18).body).hseq = { source := 4660, lastSeq := 7, response := List.replicate 16 9 : RemoteSeq }.lastSeq ∧
    { source := 4660, lastSeq := 7, response := List.replicate 16 9 : RemoteSeq }.response ≠ [] := by decide +kernel

def w20 : List Byte := sg 1 [9,9,9]
def w21 : Relay := ry false 1
def w22 : State := rys false 1
theorem witness_CommandsOverTheFabric_1_0 :
    (List.find? (fun q => q.xid == (segOf 4660 w20).xid && q.target == (segOf 4660 w20).source) w22.fab.relays = some w21) ∧
    obilwinUp w22 = true ∧
    (segOf 4660 w20).kind = 1 ∧
    (segOf 4660 w20).count ≤ 1 ∧
    w21.attest = false ∧
    execOf w22 w21.origin = some ex := by decide +kernel

def w23 : Relay := ry false 1
def w24 : State := rys false 1
theorem witness_CommandsOverTheFabric_2_0 :
    (List.find? (fun q => q.xid == 44) w24.fab.relays = some w23) ∧
    obilwinUp w24 = true ∧
    w23.sends < 3 ∧
    w23.attest = false ∧
    execOf w24 w23.origin = some ex := by decide +kernel

def w25 : Relay := ry false 3
def w26 : State := rys false 3
theorem witness_CommandsOverTheFabric_2_1 :
    (List.find? (fun q => q.xid == 44) w26.fab.relays = some w25) ∧
    obilwinUp w26 = true ∧
    3 ≤ w25.sends ∧
    execOf w26 w25.origin = some ex := by decide +kernel

end Sys2Proof.Tests.Fabric3

namespace Sys2Proof.Tests.Fabric4

set_option Elab.async false

def q (op : Nat) (p : List Byte) (s : State) : State := cmdAt 1 op p s
def bs (f : Boot → Boot) : State := bootMod (fun b => f { b with slots := b.slots.set 1 { bytes := img 5 } }) eng
def d0 : List Byte := List.replicate 48 0
def ver : Nat := 0x05000000
def sClose : State := (bs (fun b => { b with update := some (1, 138, 138), slots := b.slots.set 1 { bytes := img 5, openBytes := some 138 } }))
def nn : Nat := 138
def rsv : Resv := { stream := 3, maxLen := 100, perCourse := 2 }
def sg (kind : Nat) (b : List Byte) : List Byte := segBytes { source := 0x1234, xid := 44, kind, index := 0, count := 1, mflags := 0, body := b }
def hel (serial nbr : Nat) : Hello := { version := 1, flags := 0x80, addr := 2, port := 9, serial, nbrSerial := nbr, caps := 0, timing := 0, depth := 3, treeId := 7, sigmaAcc := 5, cAcc := 6, lsaSeq := 0, seq := 4 }
def adj (st : AdjSt) (h : Option Hello) : State := fabMod (fun x => { x with zone := 0, cluster := 0 }) (adjMod 4 (fun a => { a with st, hello := h }) fab)
def addrd (unit : Nat) (s : State) : State := fabMod (fun x => { x with addrValid := true, unit }) s
def greq : List Byte := be 8 9 ++ be 1 255 ++ be 1 0 ++ be 1 0 ++ be 1 0 ++ be 3 0xFFFFFF ++ be 1 255 ++ be 1 0 ++ be 1 0 ++ be 2 0
def sg4 : List Byte := segBytes { source := 0x1005, xid := 44, kind := 4, index := 0, count := 1, mflags := 0, body := greq }
def twoW : State := addrd 1 (adj .twoWay (some (hel 0 0)))
def lsr (serial sq : Nat) : LsRecord := { scope := 1, flags := 0, origin := 5, age := 10, serial, seq := sq, entries := [] }
def recS (l : List StoredRecord) : State := fabMod (fun x => { x with records := l }) twoW
def bI : Int := -5
def rc1 : LsRecord := { scope := 1, flags := 0, origin := 2, age := 10, serial := 0, seq := 3, entries := [⟨1, 1, 9, 10⟩] }
def rc2 : LsRecord := { scope := 1, flags := 0, origin := 1, age := 10, serial := 1, seq := 3, entries := [⟨1, 2, 4, 10⟩] }
def twoR : State := fabMod (fun x => { x with records := [⟨rc1, 0, []⟩, ⟨rc2, 0, []⟩] }) twoW
def ages := recS [⟨lsr 1 1, 0, []⟩, ⟨lsr 2 1, -5, []⟩, ⟨lsr 3 1, -5, []⟩]
def w0 : PortIx := 4
theorem witness_AdjacenciesAndAddresses_4_0 :
    obilwinUp twoW = true ∧
    twoW.fab.addrValid = true ∧
    (segOf 4101 sg4).count ≤ 1 ∧
    fieldBe (segOf 4101 sg4).body 15 1 = 255 ∧
    isAssigner twoW = false ∧
    assigner twoW = some (0, 2) := ⟨by decide +kernel, by decide +kernel, by decide +kernel, by decide +kernel, (by simp [isAssigner, assigner_of twoW 1 2 rfl, own_ne_zero]), assigner_of twoW 1 2 rfl⟩

def w1 : List Byte := sg 0 [0x12, 0x84, 0, 0]
def w2 : State := bootMod (fun b => { b with conns := [⟨0x1234, [], [], some (44, [1,2])⟩] }) fab
theorem witness_CommandsOverTheFabric_3_0 :
    obilwinUp w2 = true ∧
    (segOf 4660 w1).kind = 0 ∧
    (segOf 4660 w1).count ≤ 1 ∧
    (connOf w2 (segOf 4660 w1).source).last = some ((segOf 4660 w1).xid, [1, 2]) := by decide +kernel

def w3 : Origin := .host 1
def w4 : List Byte := le 4 0
def w5 : State := q 0x604 (le 4 0) (calMod (fun c => { c with resv := [(3, rsv), (5, rsv)] }) std)
theorem witness_CalendarCommands_3_0 :
    commandAt w5 w3 1540 = some w4 ∧
    Machine.fieldLe w4 0 4 ≤ 1023 := by decide +kernel

end Sys2Proof.Tests.Fabric4
end

