-- ==== Sys2Proof/Tests/WitnessForwarding.lean ====
section
/-! SUPPORT. Witnesses: for each statement and each of its clauses, a state and operands that meet the hypotheses. -/

open Sys2Proof Sys2Proof.Machine

namespace Sys2Proof.Tests.Forwarding1

set_option Elab.async false

def frm : List Byte := be 6 0x000102030405 ++ be 6 0x0A0B0C0D0E0F ++ be 2 0x0800 ++ List.replicate 46 7
def rxf : RxFrame := { fid := 1, bytes := frm, trunc := false, upsets := [], stamp := none }
def sw : State :=
  setPar 0x189 0 (1+0)
  (forEach [9, 10, 11] (fun p => portMod p (fun x => { x with st := .up })) (mode 1 3
  (hwMod (fun h => { h with vid := [(1, { learn := true, flood := 0 })], l2 := Tbl.set [] (4 * l2Bucket 1 0x000102030405) { static := true, hit := false, kind := 0, vid := 1, mac := 0x000102030405, result := 11 } }) std)))
def noWred (s : State) : State := { s with par := (List.range 8).foldl (fun t c => Tbl.set t (pKey 0x189 0 c) 0x101010) s.par }
def fin (len : Nat) (bad : Bool) : RxEnd := { da := 0x010203040506, len, fcsBad := bad, pcsBad := false, reasmBad := false, frags := 0 }
def dsc (cls : Nat) (outs : List Nat) : FrameDesc := { fid := 4, port := 3, hostTx := none, bytes := frm, len := 64, cls, colour := 0, ctx := 0, outs := outs.map (fun p => { port := p, hdr := none, strip := 0, dei := false, push := none }), group := none, cut := false, trunc := false, bad := false, complete := true, rxTime := none, oneStep := false, crossed := [] }
def eg (cls : Nat) : EgFrame := { desc := dsc cls [3], src := 1, ports := [3], cells := 1, total := 1, first := 0 }
def egs (cls : Nat) : State := outMod 0 (fun g => { g with egress := [eg cls] }) std
def txf (cls : Nat) : TxFrame := { desc := dsc cls [3], bytes := frm }
def pz (m : Int) (f : PortPause → PortPause) : State := pauseMod 3 f (setPar 0x10E 3 m std)
def cgs (marked : Bool) (drops clear : Nat) : State := { std with q := { std.q with cong := std.q.cong.set 3 { marked, drops, clear } } }
def w0 : PortIx := 3
def w1 : State := setPar 0x103 3 1 std
theorem witness_FramesAtPorts_0_0 :
    (portOf w1 (↑w0 : ℕ)).st = PortSt.up ∧
    eeeKind w1 (↑w0 : ℕ) ≠ 0 ∧
    eeeKind w1 (↑w0 : ℕ) = 1 := by decide +kernel

def w2 : PortIx := 4
def w3 : State := setPar 0x102 4 0 (setPar 0x103 4 1 fab)
theorem witness_FramesAtPorts_0_1 :
    (portOf w3 (↑w2 : ℕ)).st = PortSt.up ∧
    eeeKind w3 (↑w2 : ℕ) ≠ 0 ∧
    eeeKind w3 (↑w2 : ℕ) = 2 := by decide +kernel

def w4 : PortIx := 3
def w5 : RxEnd := fin 100 false
theorem witness_FramesAtPorts_1_0 :
    (portOf std (↑w4 : ℕ)).st = PortSt.up ∧
    w5.reasmBad = false ∧
    64 ≤ w5.len ∧
    w5.len ≤ parN std 262 (↑w4 : ℕ) ∧
    w5.pcsBad = false ∧
    w5.fcsBad = false := by decide +kernel

def w6 : PortIx := 3
def w7 : RxEnd := fin 1518 true
theorem witness_FramesAtPorts_1_1 :
    (portOf std (↑w6 : ℕ)).st = PortSt.up ∧
    w7.reasmBad = false ∧
    64 ≤ w7.len ∧
    w7.len ≤ parN std 262 (↑w6 : ℕ) ∧
    w7.pcsBad = false ∧
    w7.fcsBad = true := by decide +kernel

def w8 : PortIx := 3
def w9 : RxEnd := fin 60 true
theorem witness_FramesAtPorts_1_2 :
    (portOf std (↑w8 : ℕ)).st = PortSt.up ∧
    w9.reasmBad = false ∧
    w9.len < 64 := by decide +kernel

def w10 : PortIx := 3
def w11 : TxStamp := ⟨3, 5000, 2⟩
def w12 : EgFrame := eg 7
def w13 : OutCopy := { port := 3, hdr := none, strip := 0, dei := false, push := none }
def w14 : State := setPar 0x10C 3 0x80 (egs 7)
theorem witness_FramesAtPorts_2_0 :
    macMay w14 (↑w10 : ℕ) true = true ∧
    nextFrame w14 (↑w10 : ℕ) true = some w12 ∧
    (List.find? (fun x => x.port == (↑w10 : ℕ)) w12.desc.outs = some w13) ∧
    w12.desc.trunc = false ∧
    w12.desc.bad = false ∧
    (egressBytes w14 (↑w10 : ℕ) w12.desc w13 (txStamp w14 (↑w10 : ℕ) w11).floor).1.length + 4 ≤ parN w14 262 (↑w10 : ℕ) ∧
    1 ≠ (↑w10 : ℕ) / 8 := by decide +kernel

def w15 : PortIx := 3
def w16 : TxFrame := txf 7
def w17 : State := portMod 3 (fun x => { x with tx := { x.tx with express := some (txf 7) } }) std
theorem witness_FramesAtPorts_3_0 :
    (portOf w17 (↑w15 : ℕ)).tx.express = some w16 ∧
    w16.desc.cls ≠ 8 ∧
    w16.desc.hostTx = none ∧
    w16.desc.trunc = false ∧
    w16.corrupt = false := by decide +kernel

def w18 : PortIx := 3
def w19 : TxFrame := txf 2
def w20 : State := portMod 3 (fun x => { x with tx := { x.tx with preempt := some (txf 2) } }) std
theorem witness_FramesAtPorts_4_0 :
    (portOf w20 (↑w18 : ℕ)).tx.express = none ∧
    (portOf w20 (↑w18 : ℕ)).tx.preempt = some w19 ∧
    (portOf w20 (↑w18 : ℕ)).tx.cut = false ∧
    w19.desc.hostTx = none ∧
    w19.desc.trunc = false ∧
    w19.corrupt = false := by decide +kernel

def w21 : PortIx := 3
def w22 : State := portMod 3 (fun x => { x with live := x.live.set 5 7 }) std
theorem witness_FramesAtPorts_5_0 :
    answers Initiator.host w22 ∧
    domOn w22 (regOwner (RegId.mac (↑w21 : ℕ) 1)).1 = true ∧
    ownerInReset w22 (RegId.mac (↑w21 : ℕ) 1) = false ∧
    regAt w22 (4194308 + (↑w21 : ℕ) / 8 * 65536 + (↑w21 : ℕ) % 8 * 1024) = RegId.mac (↑w21 : ℕ) 1 := by decide +kernel

def w23 : GroupIx := 0
def w24 : Word := 0xFF
def w25 : State := portMod 3 (fun x => { x with live := x.live.set 5 7 }) std
theorem witness_FramesAtPorts_6_0 :
    answers Initiator.host w25 ∧
    domOn w25 (regOwner (RegId.pgSnap (↑w23 : ℕ))).1 = true ∧
    ownerInReset w25 (RegId.pgSnap (↑w23 : ℕ)) = false := by decide +kernel

def w26 : PortIx := 3
def w27 : List ℕ := [55]
def w28 : Fin 8 := 2
def w29 : State := pz 1 (fun x => { x with wdIgnore := x.wdIgnore.set 3 true })
theorem witness_PauseAndPreemption_0_0 :
    (portOf w29 (↑w26 : ℕ)).st = PortSt.up ∧
    par w29 270 (↑w26 : ℕ) = 1 ∧
    false = false := by decide +kernel

def w30 : PortIx := 3
def w31 : List ℕ := [0,0,55]
def w32 : Fin 8 := 2
def w33 : State := pz 2 id
theorem witness_PauseAndPreemption_0_1 :
    (portOf w33 (↑w30 : ℕ)).st = PortSt.up ∧
    par w33 270 (↑w30 : ℕ) = 2 ∧
    true = true := by decide +kernel

def w34 : PortIx := 3
def w35 : List ℕ := [0,0,55]
def w36 : Fin 8 := 2
def w37 : State := pz 0 id
theorem witness_PauseAndPreemption_0_2 :
    (portOf w37 (↑w34 : ℕ)).st = PortSt.up ∧
    par w37 270 (↑w34 : ℕ) = 0 := by decide +kernel

def w38 : PortIx := 3
def w39 : Fin 8 := 2
def w40 : State := pz 2 (fun x => { x with paused := Vector.replicate 8 true, held := Vector.replicate 8 true, wdIgnore := Vector.replicate 8 true })
theorem witness_PauseAndPreemption_1_0 :
    (portOf w40 (↑w38 : ℕ)).pause.paused[w39] = true ∧
    par w40 270 (↑w38 : ℕ) ≠ 1 ∧
    0 < parN w40 272 (↑w38 : ℕ) ∧
    (portOf w40 (↑w38 : ℕ)).pause.wdIgnore[w39] = true := by decide +kernel

def w41 : PortIx := 3
def w42 : Fin 8 := 2
def w43 : State := pz 1 (fun x => { x with paused := Vector.replicate 8 true })
theorem witness_PauseAndPreemption_1_1 :
    (portOf w43 (↑w41 : ℕ)).pause.paused[w42] = true ∧
    par w43 270 (↑w41 : ℕ) = 1 ∧
    0 < parN w43 272 (↑w41 : ℕ) := by decide +kernel

def w44 : PortIx := 3
def w45 : Fin 8 := 2
def w46 : State := pz 2 (fun x => { x with xoff := Vector.replicate 8 true, cells := Vector.replicate 8 4000 })
theorem witness_PauseAndPreemption_1_2 :
    (portOf w46 (↑w44 : ℕ)).st = PortSt.up ∧
    vget (portOf w46 (↑w44 : ℕ)).pause.xoff (pauseCls w46 (↑w44 : ℕ) (↑w45 : ℕ)) false = true ∧
    (parC w46 275 (↑w44 : ℕ) (pauseCls w46 (↑w44 : ℕ) (↑w45 : ℕ))).toNat < fillOf w46 (↑w44 : ℕ) (pauseCls w46 (↑w44 : ℕ) (↑w45 : ℕ)) := by decide +kernel

def w47 : PortIx := 3
def w48 : Fin 4 := 2
def w49 : State := portMod 3 (fun x => { x with pre := { x.pre with verify := 1 } }) std
theorem witness_PauseAndPreemption_2_0 :
    (portOf w49 (↑w47 : ℕ)).pre.verify = 1 ∧
    (portOf w49 (↑w47 : ℕ)).pre.attempts < 3 := by decide +kernel

def w50 : PortIx := 3
def w51 : Fin 4 := 2
def w52 : State := portMod 3 (fun x => { x with pre := { x.pre with verify := 1, attempts := 3 } }) std
theorem witness_PauseAndPreemption_2_1 :
    (portOf w52 (↑w50 : ℕ)).pre.verify = 1 ∧
    3 ≤ (portOf w52 (↑w50 : ℕ)).pre.attempts := by decide +kernel

def w53 : PortIx := 3
def w54 : VidEntry := { learn := true, flood := 0 }
def w55 : State := noWred sw
theorem witness_ForwardingDecisions_0_0 :
    portUp w55 (↑w53 : ℕ) = true ∧
    kindFab w55 (↑w53 : ℕ) = false ∧
    (List.find? (fun e => e.1 == rxf.fid) (portOf w55 (↑w53 : ℕ)).ended = none) ∧
    rxf.upsets = [] ∧
    rxf.trunc = false ∧
    rxf.bytes.length + 4 ≤ parN w55 262 (↑w53 : ℕ) ∧
    takenAside w55 (↑w53 : ℕ) rxf.bytes = false ∧
    linkLocal rxf.bytes = false ∧
    (findCtx w55 (↑w53 : ℕ) rxf.bytes (parseFrame w55 (↑w53 : ℕ) rxf.bytes)).drop = none ∧
    (findCtx w55 (↑w53 : ℕ) rxf.bytes (parseFrame w55 (↑w53 : ℕ) rxf.bytes)).cfg = none ∧
    (findCtx w55 (↑w53 : ℕ) rxf.bytes (parseFrame w55 (↑w53 : ℕ) rxf.bytes)).vent = some w54 ∧
    (findCtx w55 (↑w53 : ℕ) rxf.bytes (parseFrame w55 (↑w53 : ℕ) rxf.bytes)).cls < 8 ∧
    l2Lookup w55 (↑w53 : ℕ) (findCtx w55 (↑w53 : ℕ) rxf.bytes (parseFrame w55 (↑w53 : ℕ) rxf.bytes)).vid (fieldBe rxf.bytes 0 6) w54.flood = FwdRes.port 11 ∧
    kindFab w55 11 = false ∧
    (portOf w55 11).st ≠ PortSt.down ∧
    (portOf w55 11).st ≠ PortSt.disabled ∧
    depthOf (voqOf w55 ((↑w53 : ℕ) / 8) 11 (findCtx w55 (↑w53 : ℕ) rxf.bytes (parseFrame w55 (↑w53 : ℕ) rxf.bytes)).cls).frames < (parGC w55 392 ((↑w53 : ℕ) / 8) (findCtx w55 (↑w53 : ℕ) rxf.bytes (parseFrame w55 (↑w53 : ℕ) rxf.bytes)).cls).toNat ∧
    16 ≤ profileOf w55 (findCtx w55 (↑w53 : ℕ) rxf.bytes (parseFrame w55 (↑w53 : ℕ) rxf.bytes)).cls (findCtx w55 (↑w53 : ℕ) rxf.bytes (parseFrame w55 (↑w53 : ℕ) rxf.bytes)).colour ∧
    (parG w55 391 ((↑w53 : ℕ) / 8)).toNat - calUsed w55 ((↑w53 : ℕ) / 8) + 2048 ≤ cellsFree w55 ((↑w53 : ℕ) / 8) := by decide +kernel

def w56 : PortIx := 3
def w57 : RxFrame := { rxf with bytes := be 6 0x0180C200000E ++ frm.drop 6 }
theorem witness_ForwardingDecisions_1_0 :
    (linkLocal (if (w57.trunc || decide (parN sw 262 (↑w56 : ℕ) < w57.bytes.length + 4)) = true then List.take (parN sw 262 (↑w56 : ℕ)) (w57.bytes ++ le 4 (crc32 w57.bytes).toNat) else w57.bytes) = true) ∧
    w57.upsets = [] := by decide +kernel

def w58 : PortIx := 3
def w59 : State := setPar 0x180 3 77 sw
theorem witness_ForwardingDecisions_2_0 :
    portUp w59 (↑w58 : ℕ) = true ∧
    kindFab w59 (↑w58 : ℕ) = false ∧
    (List.find? (fun e => e.1 == rxf.fid) (portOf w59 (↑w58 : ℕ)).ended = none) ∧
    rxf.upsets = [] ∧
    rxf.trunc = false ∧
    rxf.bytes.length + 4 ≤ parN w59 262 (↑w58 : ℕ) ∧
    takenAside w59 (↑w58 : ℕ) rxf.bytes = false ∧
    linkLocal rxf.bytes = false ∧
    Tbl.get w59.fwd.hw.vid (vidOf w59 (↑w58 : ℕ) rxf.bytes 12) = none ∧
    isBad w59 3 (vidOf w59 (↑w58 : ℕ) rxf.bytes 12) = false ∧
    (findCtx w59 (↑w58 : ℕ) rxf.bytes (parseFrame w59 (↑w58 : ℕ) rxf.bytes)).cfg = none := by decide +kernel

def w60 : State := { sw with boot := sw.boot }
theorem witness_TableCare_0_0 :
    obilwinUp w60 = true ∧
    domOn w60 10 = true := by decide +kernel

def w61 : Fin 7 := 3
theorem witness_TableCare_1_0 :
    domOn sw 10 = true ∧
    chipUp sw ∧
    isBad sw (↑w61 : ℕ) 1 = false := by decide +kernel

def w62 : State := fwdMod (fun x => { x with bad := [(badKey 3 1, ())], golden := { x.golden with vid := [(1, { learn := false, flood := 7 })] } }) sw
theorem witness_TableCare_2_0 :
    obilwinUp w62 = true ∧
    domOn w62 10 = true ∧
    isBad w62 3 1 = true := by decide +kernel

def w63 : State := fwdMod (fun x => { x with bad := [(badKey 0 (4 * l2Bucket 1 0x000102030405), ())] }) sw
theorem witness_TableCare_3_0 :
    obilwinUp w63 = true ∧
    domOn w63 10 = true ∧
    isBad w63 0 (4 * l2Bucket 1 4328719365) = true := by decide +kernel

def w64 : List GroupIx := []
theorem witness_CrossbarAndCongestion_0_0 :
    coreRuns std = true ∧
    (∀ (g : ℕ), (inGrp std g).voq = [] ∧ (inGrp std g).calq = [] ∧ ∀ (c : ℕ), (vget (inGrp std g).mcq c { : Queue }).frames = []) := ⟨by decide +kernel, (by intro g; exact crossIdle g)⟩

def w65 : List GroupIx := []
def w66 : State := inMod 0 (fun x => { x with calq := [dsc 8 [3]] }) std
theorem witness_CrossbarAndCongestion_0_1 :
    coreRuns w66 = true ∧ ∃ (m : Pair) (d : FrameDesc) (o : OutCopy) (rest : List FrameDesc), (matchSlot' (bump 0 2 w66)).1 = [m] ∧ m.lvl = 0 ∧
      (inGrp w66 m.inp).calq = d :: rest ∧ d.outs = [o] ∧ 0 < d.len ∧ d.len ≤ 128 ∧ wants m.out d = true :=
  ⟨by decide +kernel, ⟨0, 0, 0, 0, 8⟩, dsc 8 [3], _, [], by decide +kernel, rfl, by decide +kernel, rfl, by decide +kernel, by decide +kernel, by decide +kernel⟩

def w67 : State := cgs false 20 0
theorem witness_CrossbarAndCongestion_1_0 :
    coreRuns w67 = true ∧
    0 < 192 ∧
    (vget w67.q.cong 0 { : Cong }).marked = false ∧
    (vget w67.q.cong 0 { : Cong }).drops ≤ parN w67 397 0 ∧
    3 < 192 ∧
    (vget w67.q.cong 3 { : Cong }).marked = false ∧
    parN w67 397 3 < (vget w67.q.cong 3 { : Cong }).drops := by decide +kernel

def w68 : State := cgs true 2 7
theorem witness_CrossbarAndCongestion_1_1 :
    coreRuns w68 = true ∧
    0 < 192 ∧
    (vget w68.q.cong 0 { : Cong }).marked = false ∧
    (vget w68.q.cong 0 { : Cong }).drops ≤ parN w68 397 0 ∧
    3 < 192 ∧
    (vget w68.q.cong 3 { : Cong }).marked = true ∧
    0 < (vget w68.q.cong 3 { : Cong }).drops := by decide +kernel

def w69 : State := cgs true 0 7
theorem witness_CrossbarAndCongestion_1_2 :
    coreRuns w69 = true ∧
    0 < 192 ∧
    (vget w69.q.cong 0 { : Cong }).marked = false ∧
    (vget w69.q.cong 0 { : Cong }).drops ≤ parN w69 397 0 ∧
    3 < 192 ∧
    (vget w69.q.cong 3 { : Cong }).marked = true ∧
    (vget w69.q.cong 3 { : Cong }).drops = 0 ∧
    (vget w69.q.cong 3 { : Cong }).clear + 1 < 100 := by decide +kernel

def w70 : State := cgs true 0 99
theorem witness_CrossbarAndCongestion_1_3 :
    coreRuns w70 = true ∧
    0 < 192 ∧
    (vget w70.q.cong 0 { : Cong }).marked = false ∧
    (vget w70.q.cong 0 { : Cong }).drops ≤ parN w70 397 0 ∧
    3 < 192 ∧
    (vget w70.q.cong 3 { : Cong }).marked = true ∧
    (vget w70.q.cong 3 { : Cong }).drops = 0 ∧
    100 ≤ (vget w70.q.cong 3 { : Cong }).clear + 1 := by decide +kernel

end Sys2Proof.Tests.Forwarding1

namespace Sys2Proof.Tests.Forwarding2

set_option Elab.async false

def q (op : Nat) (p : List Byte) (s : State) : State := cmdAt 1 op p s
def l2 (vid mac kind res : Nat) : List Byte := le 2 vid ++ be 6 mac ++ le 1 kind ++ le 3 0 ++ le 4 res
def e2 (vid mac res : Nat) (st : Bool) : L2Entry := { static := st, hit := false, kind := 0, vid, mac, result := res }
def has (i : Nat) (e : L2Entry) (s : State) : State := { s with fwd := { s.fwd with hw := { s.fwd.hw with l2 := Tbl.set s.fwd.hw.l2 i e }, golden := { s.fwd.golden with l2 := Tbl.set s.fwd.golden.l2 i e } } }
def pl := (l2Place (l2Table std) 5 0x020304050607).getD 999
def full (f : Bool) : State := (List.range 4).foldl (fun s k => has (pl / 4 * 4 + k) (e2 6 (k+1) 3 f) s) std
def fl (k v : Nat) : List Byte := le 1 k ++ le 3 0 ++ le 4 v
def many := has 100 (e2 7 1 3 false) (has 104 (e2 9 1 4 false) (has 200 (e2 7 2 3 true) std))
def cx (i fl : Nat) : List Byte := le 2 i ++ le 1 fl ++ le 1 0 ++ le 4 0 ++ le 4 1000 ++ le 4 2000 ++ le 4 1600 ++ le 4 1700
def mw (i v : Nat) : List Byte := le 2 i ++ le 1 v ++ le 1 3 ++ le 6 77 ++ le 2 5 ++ le 2 8 ++ le 2 0
def vw (i f : Nat) : List Byte := le 2 i ++ le 1 f ++ le 1 0 ++ le 4 77
def mc (i v : Nat) : List Byte := le 2 i ++ le 1 v ++ le 1 0 ++ le 24 (2^191 + 9)
def mp (m x n : Nat) : List Byte := le 1 m ++ le 1 x ++ le 2 0 ++ (List.range n).map (fun k => BitVec.ofNat 8 ((k+3) % 8))
def wd : List Byte := le 1 3 ++ le 1 9 ++ le 2 50 ++ le 4 100 ++ le 4 2000
def w0 : Origin := .host 1
def w1 : List Byte := l2 5 0x020304050607 0 3
def w2 : State := q 0x510 (l2 5 0x020304050607 0 3) std
theorem witness_ForwardingCommands_0_0 :
    commandAt w2 w0 1296 = some w1 ∧
    5 = Machine.fieldLe w1 0 2 ∧
    2211975595527 = fieldBe w1 2 6 ∧
    5 ≤ 4095 ∧
    Machine.fieldLe w1 8 1 ≤ 3 ∧
    zeros w1 9 3 = true ∧
    l2Bad w2 (Machine.fieldLe w1 8 1) (Machine.fieldLe w1 12 4) = false ∧
    (l2Place (l2Table w2) 5 2211975595527).isSome = true ∧
    0 ≠ (l2Place (l2Table w2) 5 2211975595527).getD 0 ∧
    (vget w2.pm.dom 10 { : Domain }).st ≠ DomSt.off := by decide +kernel

def w3 : Origin := .host 1
def w4 : List Byte := l2 5 0x020304050607 0 3
def w5 : State := q 0x510 (l2 5 0x020304050607 0 3) (full true)
theorem witness_ForwardingCommands_0_1 :
    commandAt w5 w3 1296 = some w4 ∧
    5 = Machine.fieldLe w4 0 2 ∧
    2211975595527 = fieldBe w4 2 6 ∧
    5 ≤ 4095 ∧
    Machine.fieldLe w4 8 1 ≤ 3 ∧
    zeros w4 9 3 = true ∧
    l2Bad w5 (Machine.fieldLe w4 8 1) (Machine.fieldLe w4 12 4) = false ∧
    l2Place (l2Table w5) 5 2211975595527 = none := by decide +kernel

def w6 : Origin := .host 1
def w7 : List Byte := l2 5 0x020304050607 2 3
def w8 : State := q 0x510 (l2 5 0x020304050607 2 3) (dom 10 .off std)
theorem witness_ForwardingCommands_0_2 :
    commandAt w8 w6 1296 = some w7 ∧
    5 = Machine.fieldLe w7 0 2 ∧
    2211975595527 = fieldBe w7 2 6 ∧
    5 ≤ 4095 ∧
    Machine.fieldLe w7 8 1 ≤ 3 ∧
    zeros w7 9 3 = true ∧
    l2Bad w8 (Machine.fieldLe w7 8 1) (Machine.fieldLe w7 12 4) = false ∧
    (l2Place (l2Table w8) 5 2211975595527).isSome = true ∧
    0 ≠ (l2Place (l2Table w8) 5 2211975595527).getD 0 ∧
    (vget w8.pm.dom 10 { : Domain }).st = DomSt.off := by decide +kernel

def w9 : Origin := .host 1
def w10 : List Byte := le 2 5 ++ be 6 0x020304050607
def w11 : State := q 0x511 (le 2 5 ++ be 6 0x020304050607) (has pl (e2 5 0x020304050607 3 true) std)
theorem witness_ForwardingCommands_1_0 :
    commandAt w11 w9 1297 = some w10 ∧
    Machine.fieldLe w10 0 2 ≤ 4095 ∧
    (l2Find (l2Table w11) (Machine.fieldLe w10 0 2) (fieldBe w10 2 6)).isSome = true ∧
    0 ≠ (l2Find (l2Table w11) (Machine.fieldLe w10 0 2) (fieldBe w10 2 6)).getD 0 := by decide +kernel

def w12 : Origin := .host 1
def w13 : List Byte := le 2 5 ++ be 6 0x020304050607
def w14 : State := q 0x511 (le 2 5 ++ be 6 0x020304050607) std
theorem witness_ForwardingCommands_1_1 :
    commandAt w14 w12 1297 = some w13 ∧
    Machine.fieldLe w13 0 2 ≤ 4095 ∧
    l2Find (l2Table w14) (Machine.fieldLe w13 0 2) (fieldBe w13 2 6) = none := by decide +kernel

def w15 : Origin := .host 1
def w16 : List Byte := fl 0 0
def w17 : State := q 0x512 (fl 0 0) many
theorem witness_ForwardingCommands_2_0 :
    commandAt w17 w15 1298 = some w16 ∧
    Machine.fieldLe w16 0 1 ≤ 2 ∧
    zeros w16 1 3 = true ∧
    (Machine.fieldLe w16 0 1 = 0 → Machine.fieldLe w16 4 4 = 0) ∧
    (Machine.fieldLe w16 0 1 = 1 → Machine.fieldLe w16 4 4 ≤ 191) ∧
    (Machine.fieldLe w16 0 1 = 2 → Machine.fieldLe w16 4 4 ≤ 4095) ∧
    Machine.fieldLe w16 0 1 = 0 := by decide +kernel

def w18 : Origin := .host 1
def w19 : List Byte := fl 1 3
def w20 : State := q 0x512 (fl 1 3) many
theorem witness_ForwardingCommands_2_1 :
    commandAt w20 w18 1298 = some w19 ∧
    Machine.fieldLe w19 0 1 ≤ 2 ∧
    zeros w19 1 3 = true ∧
    (Machine.fieldLe w19 0 1 = 0 → Machine.fieldLe w19 4 4 = 0) ∧
    (Machine.fieldLe w19 0 1 = 1 → Machine.fieldLe w19 4 4 ≤ 191) ∧
    (Machine.fieldLe w19 0 1 = 2 → Machine.fieldLe w19 4 4 ≤ 4095) ∧
    Machine.fieldLe w19 0 1 = 1 := by decide +kernel

def w21 : Origin := .host 1
def w22 : List Byte := fl 2 7
def w23 : State := q 0x512 (fl 2 7) many
theorem witness_ForwardingCommands_2_2 :
    commandAt w23 w21 1298 = some w22 ∧
    Machine.fieldLe w22 0 1 ≤ 2 ∧
    zeros w22 1 3 = true ∧
    (Machine.fieldLe w22 0 1 = 0 → Machine.fieldLe w22 4 4 = 0) ∧
    (Machine.fieldLe w22 0 1 = 1 → Machine.fieldLe w22 4 4 ≤ 191) ∧
    (Machine.fieldLe w22 0 1 = 2 → Machine.fieldLe w22 4 4 ≤ 4095) ∧
    Machine.fieldLe w22 0 1 = 2 := by decide +kernel

def w24 : Origin := .host 1
def w25 : List Byte := cx 7 1 ++ le 8 0
def w26 : State := q 0x520 (cx 7 1 ++ le 8 0) std
theorem witness_ForwardingCommands_3_0 :
    commandAt w26 w24 1312 = some w25 ∧
    7 = Machine.fieldLe w25 0 2 ∧
    1 ≤ 7 ∧
    7 ≤ 4095 ∧
    Machine.fieldLe w25 3 1 = 0 ∧
    zeros w25 4 4 = true ∧
    1000 = Machine.fieldLe w25 8 4 ∧
    2000 = Machine.fieldLe w25 12 4 ∧
    1600 = Machine.fieldLe w25 16 4 ∧
    1700 = Machine.fieldLe w25 20 4 ∧
    1000 ≤ 2000 ∧
    2000 ≤ 3125000 ∧
    1518 ≤ 1600 ∧
    1600 < 2 ^ 24 ∧
    1518 ≤ 1700 ∧
    1700 < 2 ^ 24 ∧
    ctxHeld w26 7 = false ∧
    (vget w26.pm.dom 10 { : Domain }).st ≠ DomSt.off ∧
    0 ≠ 7 := by decide +kernel

def w27 : Origin := .host 1
def w28 : List Byte := cx 7 1 ++ le 8 0
def w29 : State := q 0x520 (cx 7 1 ++ le 8 0) (calMod (fun c => { c with streams := [⟨5, 7, 3, [3], 0, [], [], [], false⟩] }) std)
theorem witness_ForwardingCommands_3_1 :
    commandAt w29 w27 1312 = some w28 ∧
    7 = Machine.fieldLe w28 0 2 ∧
    1 ≤ 7 ∧
    7 ≤ 4095 ∧
    Machine.fieldLe w28 3 1 = 0 ∧
    zeros w28 4 4 = true ∧
    1000 = Machine.fieldLe w28 8 4 ∧
    2000 = Machine.fieldLe w28 12 4 ∧
    1600 = Machine.fieldLe w28 16 4 ∧
    1700 = Machine.fieldLe w28 20 4 ∧
    1000 ≤ 2000 ∧
    2000 ≤ 3125000 ∧
    1518 ≤ 1600 ∧
    1600 < 2 ^ 24 ∧
    1518 ≤ 1700 ∧
    1700 < 2 ^ 24 ∧
    ctxHeld w29 7 = true := by decide +kernel

def w30 : Origin := .host 1
def w31 : List Byte := le 2 7 ++ le 2 0
def w32 : CtxLive := {}
def w33 : State := q 0x521 (le 2 7 ++ le 2 0) { std with fwd := { std.fwd with live := Tbl.set std.fwd.live 7 {} } }
theorem witness_ForwardingCommands_4_0 :
    commandAt w33 w30 1313 = some w31 ∧
    1 ≤ Machine.fieldLe w31 0 2 ∧
    Machine.fieldLe w31 0 2 ≤ 4095 ∧
    zeros w31 2 2 = true ∧
    Tbl.get w33.fwd.live (Machine.fieldLe w31 0 2) = some w32 := by decide +kernel

def w34 : Origin := .host 1
def w35 : List Byte := mw 9 1
def w36 : MatchEntry := ⟨3, 77, 5, 8⟩
def w37 : State := q 0x522 (mw 9 1) std
theorem witness_ForwardingCommands_5_0 :
    commandAt w37 w34 1314 = some w35 ∧
    9 = Machine.fieldLe w35 0 2 ∧
    9 ≤ 8191 ∧
    w36 = { port := Machine.fieldLe w35 3 1, mac := Machine.fieldLe w35 4 6, vid := Machine.fieldLe w35 10 2, ctx := Machine.fieldLe w35 12 2 : MatchEntry } ∧
    Machine.fieldLe w35 2 1 ≤ 1 ∧
    w36.port ≤ 191 ∧
    w36.vid ≤ 4095 ∧
    w36.ctx ≤ 4095 ∧
    zeros w35 14 2 = true ∧
    (vget w37.pm.dom 10 { : Domain }).st ≠ DomSt.off ∧
    10 ≠ 9 := by decide +kernel

def w38 : Origin := .host 1
def w39 : List Byte := vw 9 3
def w40 : State := q 0x530 (vw 9 3) std
theorem witness_ForwardingCommands_6_0 :
    commandAt w40 w38 1328 = some w39 ∧
    9 = Machine.fieldLe w39 0 2 ∧
    9 ≤ 4095 ∧
    Machine.fieldLe w39 2 1 ≤ 3 ∧
    Machine.fieldLe w39 3 1 = 0 ∧
    Machine.fieldLe w39 4 4 ≤ 16383 ∧
    10 ≠ 9 := by decide +kernel

def w41 : Origin := .host 1
def w42 : List Byte := mc 9 1
def w43 : State := q 0x531 (mc 9 1) { std with fwd := { std.fwd with golden := { std.fwd.golden with mcast := [(9, ⟨true, 0, 5⟩)] } } }
theorem witness_ForwardingCommands_7_0 :
    commandAt w43 w41 1329 = some w42 ∧
    9 = Machine.fieldLe w42 0 2 ∧
    9 ≤ 16383 ∧
    Machine.fieldLe w42 2 1 ≤ 1 ∧
    Machine.fieldLe w42 3 1 = 0 ∧
    10 ≠ 9 := by decide +kernel

def w44 : Origin := .host 1
def w45 : List Byte := mp 0 3 64
def w46 : State := q 0x532 (mp 0 3 64) std
theorem witness_ForwardingCommands_8_0 :
    commandAt w46 w44 1330 = some w45 ∧
    3 = Machine.fieldLe w45 1 1 ∧
    zeros w45 2 2 = true ∧
    Machine.fieldLe w45 0 1 = 0 ∧
    3 ≤ 191 ∧
    (∀ k < 8, Machine.fieldLe w45 (4 + k) 1 ≤ 7) ∧
    (0 < 3 * 8 ∨ 3 * 8 + 8 ≤ 0) := by decide +kernel

def w47 : Origin := .host 1
def w48 : List Byte := mp 2 0 64
def w49 : State := q 0x532 (mp 2 0 64) std
theorem witness_ForwardingCommands_8_1 :
    commandAt w49 w47 1330 = some w48 ∧
    0 = Machine.fieldLe w48 1 1 ∧
    zeros w48 2 2 = true ∧
    Machine.fieldLe w48 0 1 = 1 + 1 ∧
    1 ≤ 3 ∧
    0 = 0 ∧
    (∀ k < 64, Machine.fieldLe w48 (4 + k) 1 ≤ 7) ∧
    (1 < 1 * 64 ∨ 1 * 64 + 64 ≤ 1) := by decide +kernel

def w50 : Origin := .host 1
def w51 : Wred := ⟨100, 2000, 50, 9⟩
def w52 : State := q 0x540 wd std
theorem witness_ForwardingCommands_9_0 :
    commandAt w52 w50 1344 = some wd ∧
    3 = Machine.fieldLe wd 0 1 ∧
    3 ≤ 15 ∧
    w51 = { minTh := Machine.fieldLe wd 4 4, maxTh := Machine.fieldLe wd 8 4, pmaxDen := Machine.fieldLe wd 2 2, weight := Machine.fieldLe wd 1 1 : Wred } ∧
    w51.weight ≤ 15 ∧
    1 ≤ w51.pmaxDen ∧
    w51.pmaxDen ≤ 1024 ∧
    w51.minTh < w51.maxTh ∧
    w51.maxTh ≤ 24576 := by decide +kernel

end Sys2Proof.Tests.Forwarding2
end

