-- ==== Sys2Proof/Tests/WitnessHost.lean ====
section
/-! SUPPORT. Witnesses: for each statement and each of its clauses, a state and operands that meet the hypotheses. -/

open Sys2Proof Sys2Proof.Machine

namespace Sys2Proof.Tests.Host1

set_option Elab.async false

def hdr (op hs len : Nat) : List Byte := le 2 op ++ le 1 0 ++ le 1 1 ++ le 2 hs ++ le 2 len ++ le 8 0
def pend (hs : Nat) (sync : Bool) (last : Nat) : State :=
  chanMod 1 (fun x => { x with st := .pending, cmdBuf := Mem.writeAll [] 0 (hdr 0x0101 hs 0), sync, lastHSeq := last, cached := le 4 7 ++ le 4 9 ++ le 8 3 }) up
def exn (r : Option CmdResult) : State := chanMod 1 (fun x => { x with st := .executing, sync := true, lastHSeq := 5, exec := some { cmd := { opcode := 0x0101, hseq := 5, chanField := 1, payload := [] }, result := r } }) up
def domT (d : Nat) (a b : DomSt) (f : Domain → Domain) (s : State) : State := domMod d (fun x => f { x with st := a, target := b }) s
def alarmed (i : Nat) : State := { eng with pm := { (domT 10 .stopped .stopped id eng).pm with alarm := eng.pm.alarm.set 2 { armed := true, instant := i, mask := 0x400 } } }
def rg (f : Ring → Ring) : State := ringMod true 2 f (ringMod false 2 f up)
def stf : StoreFrame := { fid := 3, bytes := List.replicate 64 1, port := 3, reason := 0, cls := 0, colour := 0, trunc := false, ts := none }
def wt (w : Option Word) (who : Initiator) : State := rstMod (fun r => { r with waiting := [{ who, off := 0x400000, write := w, domain := 4 }] }) up
def w0 : Fin 4 := 1
def w1 : Word := 1
theorem witness_DoorbellsAndBuffers_0_0 :
    answers Initiator.host up ∧
    ownerInReset up (RegId.mbDoorbell (↑w0 : ℕ)) = false ∧
    BitVec.getLsbD w1 0 = true ∧
    (chanOf up (↑w0 : ℕ)).st ≠ ChanSt.pending ∧
    (chanOf up (↑w0 : ℕ)).st ≠ ChanSt.executing ∧
    0 < 1024 ∧
    buffersOk up = true ∧
    0 ≠ (↑w0 : ℕ) ∧
    chanLocked up (↑w0 : ℕ) = false := by decide +kernel

def w2 : Fin 4 := 1
def w3 : Word := 0x1234567F
def w4 : State := pend 5 true 4
theorem witness_DoorbellsAndBuffers_0_1 :
    answers Initiator.host w4 ∧
    ownerInReset w4 (RegId.mbDoorbell (↑w2 : ℕ)) = false ∧
    BitVec.getLsbD w3 0 = true ∧
    ((chanOf w4 (↑w2 : ℕ)).st = ChanSt.pending ∨ (chanOf w4 (↑w2 : ℕ)).st = ChanSt.executing) ∧
    0 < 1024 ∧
    buffersOk w4 = true ∧
    0 ≠ (↑w2 : ℕ) ∧
    chanLocked w4 (↑w2 : ℕ) = true := by decide +kernel

def w5 : Fin 4 := 1
def w6 : State := pend 5 true 4
theorem witness_CommandsAreJudgedAndAnswered_0_0 :
    obilwinUp w6 = true ∧
    (chanOf w6 (↑w5 : ℕ)).st = ChanSt.pending ∧
    ((chanOf w6 (↑w5 : ℕ)).sync = false ∨ (cmdOf ((chanOf w6 (↑w5 : ℕ)).cmdBuf.readN 0 4096)).hseq = ((chanOf w6 (↑w5 : ℕ)).lastHSeq + 1) % 65536) ∧
    0 ≠ (↑w5 : ℕ) := by decide +kernel

def w7 : Fin 4 := 1
def w8 : State := pend 5 true 5
theorem witness_CommandsAreJudgedAndAnswered_0_1 :
    obilwinUp w8 = true ∧
    (chanOf w8 (↑w7 : ℕ)).st = ChanSt.pending ∧
    (chanOf w8 (↑w7 : ℕ)).sync = true ∧
    (cmdOf ((chanOf w8 (↑w7 : ℕ)).cmdBuf.readN 0 4096)).hseq ≠ ((chanOf w8 (↑w7 : ℕ)).lastHSeq + 1) % 65536 ∧
    (cmdOf ((chanOf w8 (↑w7 : ℕ)).cmdBuf.readN 0 4096)).hseq = (chanOf w8 (↑w7 : ℕ)).lastHSeq := by decide +kernel

def w9 : Fin 4 := 1
def w10 : State := pend 5 true 9
theorem witness_CommandsAreJudgedAndAnswered_0_2 :
    obilwinUp w10 = true ∧
    (chanOf w10 (↑w9 : ℕ)).st = ChanSt.pending ∧
    (chanOf w10 (↑w9 : ℕ)).sync = true ∧
    (cmdOf ((chanOf w10 (↑w9 : ℕ)).cmdBuf.readN 0 4096)).hseq ≠ ((chanOf w10 (↑w9 : ℕ)).lastHSeq + 1) % 65536 ∧
    (cmdOf ((chanOf w10 (↑w9 : ℕ)).cmdBuf.readN 0 4096)).hseq ≠ (chanOf w10 (↑w9 : ℕ)).lastHSeq := by decide +kernel

def w11 : Fin 4 := 1
def w12 : Exec := { cmd := { opcode := 0x0101, hseq := 5, chanField := 1, payload := [] }, result := some (okRes [1,2]) }
def w13 : CmdResult := okRes [1,2]
def w14 : State := exn (some (okRes [1,2]))
theorem witness_CommandsAreJudgedAndAnswered_1_0 :
    obilwinUp w14 = true ∧
    (chanOf w14 (↑w11 : ℕ)).exec = some w12 ∧
    w12.result = some w13 ∧
    w12.inProgress = false ∧
    w12.resetAfter = none ∧
    w12.d3After = none ∧
    buffersOk w14 = true := by decide +kernel

def w15 : Fin 4 := 1
def w16 : Exec := { cmd := { opcode := 0x0101, hseq := 5, chanField := 1, payload := [] } }
def w17 : State := exn none
theorem witness_CommandsAreJudgedAndAnswered_2_0 :
    obilwinUp w17 = true ∧
    (chanOf w17 (↑w15 : ℕ)).exec = some w16 ∧
    w16.result = none ∧
    w16.inProgress = false ∧
    buffersOk w17 = true := by decide +kernel

def w18 : Fin 4 := 1
def w19 : State := pend 5 true 4
theorem witness_CommandsAreJudgedAndAnswered_3_0 :
    (chanOf w19 (↑w18 : ℕ)).st = ChanSt.pending := by decide +kernel

def w20 : Word := 0xE5000007
def w21 : State := mbMod (fun m => { m with overflow := true, evqEvt := true }) up
theorem witness_EventRingAndCounters_0_0 :
    answers Initiator.host w21 := by decide +kernel

def w22 : Fin 1024 := 7
def w23 : State := { up with pc := { up.pc with pc := up.pc.pc.set 7 { count := 2^48-1, event := 7, ovf := false } } }
theorem witness_EventRingAndCounters_1_0 :
    w23.pc.pc[w22].count = 2 ^ 48 - 1 := by decide +kernel

def w24 : Fin 14 := 10
def w25 : State := domT 10 .on .off id up
theorem witness_PowerDomains_0_0 :
    (↑w24 : ℕ) ≠ 0 ∧
    w25.pm.dom[w24].target ≠ DomSt.on ∧
    w25.pm.dom[w24].st ≠ w25.pm.dom[w24].target ∧
    inChip w25 = false ∧
    w25.pm.dom[w24].queued = none ∧
    w25.pm.dom[w24].target = DomSt.off ∧
    (↑w24 : ℕ) = 10 ∧
    (∀ (o : Origin) (e : Exec) (todo : List ℕ) (k : ℕ), execOf w25 o = some e → e.wait ≠ some (CmdWait.power todo k)) := ⟨by decide +kernel, by decide +kernel, by decide +kernel, by decide +kernel, by decide +kernel, by decide +kernel, by decide +kernel, (by intro o e todo k h; exact noPowerWait _ rfl rfl o e todo k h)⟩

def w26 : Fin 14 := 4
def w27 : State := domT 4 .on .off id std
theorem witness_PowerDomains_0_1 :
    (↑w26 : ℕ) ≠ 0 ∧
    w27.pm.dom[w26].target ≠ DomSt.on ∧
    w27.pm.dom[w26].st ≠ w27.pm.dom[w26].target ∧
    inChip w27 = false ∧
    w27.pm.dom[w26].queued = none ∧
    w27.pm.dom[w26].target = DomSt.off ∧
    4 ≤ (↑w26 : ℕ) ∧
    (↑w26 : ℕ) ≤ 9 ∧
    3 / 32 = (↑w26 : ℕ) - 4 ∧
    (∀ (o : Origin) (e : Exec) (todo : List ℕ) (k : ℕ), execOf w27 o = some e → e.wait ≠ some (CmdWait.power todo k)) := ⟨by decide +kernel, by decide +kernel, by decide +kernel, by decide +kernel, by decide +kernel, by decide +kernel, by decide +kernel, by decide +kernel, by decide +kernel, (by intro o e todo k h; exact noPowerWait _ rfl rfl o e todo k h)⟩

def w28 : Fin 14 := 1
def w29 : State := domT 1 .on .stopped id eng
theorem witness_PowerDomains_0_2 :
    (↑w28 : ℕ) ≠ 0 ∧
    w29.pm.dom[w28].target ≠ DomSt.on ∧
    w29.pm.dom[w28].st ≠ w29.pm.dom[w28].target ∧
    inChip w29 = false ∧
    w29.pm.dom[w28].queued = none ∧
    ((↑w28 : ℕ) = 1 ∨ (↑w28 : ℕ) = 2) ∧
    w29.pm.dom[w28].st = DomSt.on ∧
    (∀ (o : Origin) (e : Exec) (todo : List ℕ) (k : ℕ), execOf w29 o = some e → e.wait ≠ some (CmdWait.power todo k)) := ⟨by decide +kernel, by decide +kernel, by decide +kernel, by decide +kernel, by decide +kernel, by decide +kernel, by decide +kernel, (by intro o e todo k h; exact noPowerWait _ rfl rfl o e todo k h)⟩

def w30 : Fin 14 := 10
def w31 : State := domT 10 .off .on (fun x => { x with wakeSrc := some 3 }) eng
theorem witness_PowerDomains_1_0 :
    raiseGoes w31 w31.pm.dom[w30] = true ∧
    inChip w31 = false ∧
    w31.pm.dom[w30].queued = none ∧
    w31.rst.waiting = [] ∧
    w31.rst.deferred = [] ∧
    (↑w30 : ℕ) = 10 ∧
    w31.pm.dom[w30].st = DomSt.off ∧
    obilwinUp w31 = true ∧
    (∀ (o : Origin) (e : Exec) (todo : List ℕ) (k : ℕ), execOf w31 o = some e → e.wait ≠ some (CmdWait.power todo k)) := ⟨by decide +kernel, by decide +kernel, by decide +kernel, by decide +kernel, by decide +kernel, by decide +kernel, by decide +kernel, by decide +kernel, (by intro o e todo k h; exact noPowerWait _ rfl rfl o e todo k h)⟩

def w32 : Fin 14 := 4
def w33 : State := domT 4 .retention .on (fun x => { x with wakeSrc := some 3 }) (laneMod 3 (fun x => { x with st := .sleep, txSleep := true, rxSleep := true }) { std with te := eng.te })
theorem witness_PowerDomains_1_1 :
    raiseGoes w33 w33.pm.dom[w32] = true ∧
    inChip w33 = false ∧
    w33.pm.dom[w32].queued = none ∧
    w33.rst.waiting = [] ∧
    w33.rst.deferred = [] ∧
    4 ≤ (↑w32 : ℕ) ∧
    (↑w32 : ℕ) ≤ 9 ∧
    3 / 32 = (↑w32 : ℕ) - 4 ∧
    (laneOf w33 3).st = LaneSt.sleep ∧
    (∀ (o : Origin) (e : Exec) (todo : List ℕ) (k : ℕ), execOf w33 o = some e → e.wait ≠ some (CmdWait.power todo k)) := ⟨by decide +kernel, by decide +kernel, by decide +kernel, by decide +kernel, by decide +kernel, by decide +kernel, by decide +kernel, by decide +kernel, by decide +kernel, (by intro o e todo k h; exact noPowerWait _ rfl rfl o e todo k h)⟩

def w34 : Fin 4 := 2
def w35 : State := { alarmed 5 with clk := { eng.clk with now := 6 } }
theorem witness_PowerDomains_2_0 :
    w35.pm.alarm[w34].armed = true ∧
    w35.pm.alarm[w34].instant ≤ w35.clk.now := by decide +kernel

def w36 : State := domT 3 .stopped .stopped id up
theorem witness_PowerDomains_3_0 :
    w36.pm.dom[3].st = DomSt.stopped ∧
    w36.pm.dom[3].target = DomSt.stopped ∧
    (wakeMask w36 3 0).getLsbD 3 = true ∧
    sameWake w36 (wakeMask w36 3 0) = false := by decide +kernel

def w37 : BitVec 16 := 5
theorem witness_PowerDomains_5_0 :
    obilwinUp up = true := by decide +kernel

theorem witness_PowerOnAndChipReset_2_0 :
    2 ≠ 0 ∧
    inChip eng = false := by decide +kernel

def w38 : Straps := { zone := 3, cluster := 4, boot := 1, oscf := 1, tepref := 1 }
theorem witness_PowerOnAndChipReset_3_0 :
    State.reset.rst.por = true ∧
    savedPar State.reset 451 = none ∧
    savedPar State.reset 452 = none := by decide +kernel

def w39 : State := { eng with pm := (alarmed 5).pm }
theorem witness_PowerOnAndChipReset_4_0 :
    3 ≠ 2 ∧
    inChip w39 = false := by decide +kernel

def w40 : State := rstMod (fun r => { r with chip := some 1 }) eng
theorem witness_PowerOnAndChipReset_4_1 :
    3 ≠ 2 ∧
    inChip w40 = true := by decide +kernel

def w41 : State := inMod 0 (fun x => { x with voq := [(3, {})] }) std
theorem witness_DataAndManagementReset_0_0 :
    3 ≠ 2 ∧
    inChip w41 = false ∧
    w41.rst.data = none ∧
    domOn w41 10 = true := by decide +kernel

def w42 : State := dom 10 .retention std
theorem witness_DataAndManagementReset_0_1 :
    3 ≠ 2 ∧
    inChip w42 = false ∧
    w42.rst.data = none ∧
    domOn w42 10 = false := by decide +kernel

def w43 : State := { eng with clk := { eng.clk with elapsed := 5 } }
theorem witness_DataAndManagementReset_1_0 :
    inChip w43 = false ∧
    w43.rst.mgmt = none ∧
    domOn w43 3 = true ∧
    3 ≠ 2 ∧
    ((List.filter (fun n => decide (w43.clk.elapsed ≤ n + 600 * uSec)) w43.rst.wdTimes).length < 2) := by decide +kernel

def w44 : State := rstMod (fun r => { r with wdTimes := [0, 1] }) eng
theorem witness_DataAndManagementReset_1_1 :
    inChip w44 = false ∧
    w44.rst.mgmt = none ∧
    domOn w44 3 = true ∧
    3 ≠ 2 ∧
    (2 ≤ (List.filter (fun n => decide (w44.clk.elapsed ≤ n + 600 * uSec)) w44.rst.wdTimes).length) := by decide +kernel

def w45 : Straps := { zone := 3, cluster := 4, boot := 1, oscf := 1, tepref := 1 }
def w46 : State := rstMod (fun r => { r with chip := some 1, data := some 3, mgmt := some 4 }) eng
theorem witness_DataAndManagementReset_2_0 :
    w46.rst.chip.isSome = true ∧
    w46.rst.halted = false := by decide +kernel

def w47 : Straps := { zone := 3, cluster := 4, boot := 1, oscf := 1, tepref := 1 }
def w48 : State := rstMod (fun r => { r with halted := true, mgmt := some 4, groups := r.groups.set 3 true, lanes := r.lanes.set 7 true }) eng
theorem witness_DataAndManagementReset_2_1 :
    w48.rst.halted = true := by decide +kernel

def w49 : Word := 0xA5C30001
theorem witness_ResetControlAndTimeouts_0_0 :
    answers Initiator.host eng ∧
    domOn eng 0 = true ∧
    domOn eng 3 = true ∧
    BitVec.toNat w49 / 65536 = 42435 ∧
    BitVec.toNat w49 % 8 = 1 := by decide +kernel

def w50 : Word := 0xA5C30002
theorem witness_ResetControlAndTimeouts_0_1 :
    answers Initiator.host eng ∧
    domOn eng 0 = true ∧
    domOn eng 3 = true ∧
    BitVec.toNat w50 / 65536 = 42435 ∧
    BitVec.toNat w50 % 8 = 2 ∧
    eng.rst.data = none := by decide +kernel

def w51 : Word := 0xA5C30003
def w52 : State := rstMod (fun r => { r with halted := true }) eng
theorem witness_ResetControlAndTimeouts_0_2 :
    answers Initiator.mgmt w52 ∧
    domOn w52 0 = true ∧
    domOn w52 3 = true ∧
    BitVec.toNat w51 / 65536 = 42435 ∧
    BitVec.toNat w51 % 8 = 3 := by decide +kernel

def w53 : Word := 0x00020002
theorem witness_ResetControlAndTimeouts_0_3 :
    answers Initiator.host eng ∧
    domOn eng 0 = true ∧
    domOn eng 3 = true ∧
    BitVec.toNat w53 / 65536 ≠ 42435 ∧
    BitVec.toNat w53 % 8 = 2 := by decide +kernel

def w54 : Waiting := { who := .host, off := 0x400000, write := none, domain := 4 }
def w55 : State := wt none .host
theorem witness_ResetControlAndTimeouts_1_0 :
    w55.rst.waiting[0]? = some w54 ∧
    w54.who = Initiator.host ∧
    w54.write = none := by decide +kernel

def w56 : Waiting := { who := .mgmt, off := 0x400000, write := some 4, domain := 4 }
def w57 : State := wt (some 4) .mgmt
theorem witness_ResetControlAndTimeouts_1_1 :
    w57.rst.waiting[0]? = some w56 ∧
    w56.who = Initiator.mgmt := by decide +kernel

def w58 : Fin 8 := 2
def w59 : Word := 0x86050304
theorem witness_DescriptorRings_1_0 :
    answers Initiator.host up ∧
    BitVec.getLsbD w59 31 = true ∧
    (true = false ∨ vget up.host.store (↑w58 : ℕ) [] = []) := by decide +kernel

def w60 : Fin 8 := 2
def w61 : Word := 0x00000000
def w62 : State := rg (fun g => { g with enable := true, unreported := 3, trunc := 4, noroom := 5, head := 2, tail := 3 })
theorem witness_DescriptorRings_1_1 :
    answers Initiator.host w62 ∧
    BitVec.getLsbD w61 31 = false ∧
    (ringOf true (↑w60 : ℕ) w62).enable = true ∧
    true = true := by decide +kernel

def w63 : Fin 8 := 2
def w64 : Word := 0x00000000
def w65 : State := rg (fun g => { g with enable := true, unreported := 3, trunc := 4, noroom := 5, head := 2, tail := 3 })
theorem witness_DescriptorRings_1_2 :
    answers Initiator.host w65 ∧
    BitVec.getLsbD w64 31 = false ∧
    (ringOf false (↑w63 : ℕ) w65).enable = true ∧
    false = false := by decide +kernel

def w66 : Fin 8 := 2
def w67 : List StoreFrame := [stf]
def w68 : State := hostMod (fun h => { h with store := h.store.set 2 [stf, stf] }) (rg (fun g => { g with enable := true, heldLen := some 30 }))
theorem witness_HostTransfersAndReset_0_0 :
    (ringOf true (↑w66 : ℕ) w68).heldLen = some 30 ∧
    (ringOf true (↑w66 : ℕ) w68).rxPosted = [] ∧
    rxMay (↑w66 : ℕ) w68 = true ∧
    vget w68.host.store (↑w66 : ℕ) [] = stf :: w67 := by decide +kernel

def w69 : List Byte := List.replicate 60 5
def w70 : State := ringMod false 2 (fun g => { g with enable := true, txPosted := [{ addr := 1000, len := 60, port := 3, ctrl := 0xC0, cls := 0 }] }) { std with host := up.host }
theorem witness_HostTransfersAndReset_1_0 :
    txTurnOf w70 = some 2 ∧
    dmaRuns w70 = true := by decide +kernel

def w71 : Fin 64 := 3
def w72 : State := hostMod (fun h => { h with pba := h.pba.set 3 true }) up
theorem witness_HostTransfersAndReset_2_0 :
    4 ≠ (↑w71 : ℕ) ∧
    w72.host.pba[w71] = true ∧
    w72.host.d3hot = false := by decide +kernel

def w73 : State := hostMod (fun h => { h with d3hot := true }) up
theorem witness_HostTransfersAndReset_4_0 :
    w73.host.d3hot = true := by decide +kernel

def w74 : State := hostMod (fun h => { h with perst := true, modeSet := true }) up
theorem witness_HostTransfersAndReset_6_0 :
    w74.host.perst = true ∧
    (domOn w74 3 = true ∨ (vget w74.pm.dom 3 { : Domain }).st = DomSt.stopped) := by decide +kernel

end Sys2Proof.Tests.Host1

namespace Sys2Proof.Tests.Host2

set_option Elab.async false

def bootS (f : Boot → Boot) : State := bootMod (fun b => f { b with stage := 0, slots := Vector.replicate 2 { bytes := img 5 } }) { eng with mb := { eng.mb with fwReady := false } }
def blk (f : BootBlock → BootBlock) : State := bootS (fun b => { b with blocks := b.blocks.set 0 (f { valid := true, seq := 4, active := 1 }) })
def evs : List DevEvent := (List.range 6).map (fun i => { dseq := 10 - i, code := 5, source := 1, lost := false, time := 7, data := [] })
def logS : State := mbMod (fun m => { m with log := evs, dseq := 10 }) up
def exo (op : Nat) (p : List Byte) : Exec := { cmd := { opcode := op, hseq := 5, chanField := 1, payload := p } }
def c1 (op : Nat) (p : List Byte) (s : State) : State := cmdAt 1 op p s
def pw (d st : Nat) : List Byte := le 2 (2^d) ++ le 1 st ++ le 1 0
def wm (src u m : Nat) : List Byte := le 1 src ++ le 1 u ++ le 2 0 ++ le 2 m ++ le 2 0
def al (n a m x : Nat) : List Byte := le 1 n ++ le 1 a ++ le 2 m ++ fullBytes x
def bf (op : Nat) (p : List Byte) : State := c1 op p eng
def ss (n f : Nat) : List Byte := le 1 n ++ le 3 0 ++ le 8 f
def sr (n sp m d r : Nat) : List Byte := le 1 n ++ le 1 sp ++ le 1 m ++ le 1 d ++ le 4 r
def bs (n v lim lo hi m : Nat) : List Byte := le 1 n ++ le 1 v ++ le 2 lim ++ le 4 lo ++ le 4 hi ++ le 4 m
def w0 : State := bootS id
theorem witness_BootStages_0_0 :
    inChip w0 = false ∧
    w0.rst.mgmt = none ∧
    w0.rst.halted = false ∧
    domOn w0 3 = true ∧
    w0.boot.stage = 0 ∧
    w0.boot.straps.boot % 4 = 0 ∧
    w0.boot.attempt = none ∧
    (blockOf w0).trial = false ∧
    (blockOf w0).active < 2 ∧
    slotState w0 (blockOf w0).active = 1 := ⟨by decide +kernel, by decide +kernel, by decide +kernel, by decide +kernel, by decide +kernel, by decide +kernel, by decide +kernel, by decide +kernel, by decide +kernel, ((slotState_img 5 _ _ (by decide) rfl rfl (by decide +kernel)).trans (by decide +kernel))⟩

def w1 : State := blk (fun b => { b with trial := true, trialSlot := 0 })
theorem witness_BootStages_0_1 :
    inChip w1 = false ∧
    w1.rst.mgmt = none ∧
    w1.rst.halted = false ∧
    domOn w1 3 = true ∧
    w1.boot.stage = 0 ∧
    w1.boot.straps.boot % 4 = 0 ∧
    w1.boot.attempt = none ∧
    (blockOf w1).trial = true ∧
    slotState w1 (blockOf w1).trialSlot = 1 := ⟨by decide +kernel, by decide +kernel, by decide +kernel, by decide +kernel, by decide +kernel, by decide +kernel, by decide +kernel, by decide +kernel, ((slotState_img 5 _ _ (by decide) rfl rfl (by decide +kernel)).trans (by decide +kernel))⟩

def w2 : State := bootMod (fun b => { b with attempt := some 0 }) (blk id)
theorem witness_BootStages_0_2 :
    inChip w2 = false ∧
    w2.rst.mgmt = none ∧
    w2.rst.halted = false ∧
    domOn w2 3 = true ∧
    w2.boot.stage = 0 ∧
    w2.boot.straps.boot % 4 = 0 ∧
    (w2.boot.attempt).isSome = true ∧
    slotState w2 (blockOf w2).active = 1 := ⟨by decide +kernel, by decide +kernel, by decide +kernel, by decide +kernel, by decide +kernel, by decide +kernel, by decide +kernel, ((slotState_img 5 _ _ (by decide) rfl rfl (by decide +kernel)).trans (by decide +kernel))⟩

def w3 : State := bootMod (fun b => { b with straps := { b.straps with boot := 3 } }) (blk id)
theorem witness_BootStages_0_3 :
    inChip w3 = false ∧
    w3.rst.mgmt = none ∧
    w3.rst.halted = false ∧
    domOn w3 3 = true ∧
    w3.boot.stage = 0 ∧
    w3.boot.straps.boot % 4 = 3 := by decide +kernel

def w4 : State := bootMod (fun b => { b with stage := 1, fresh := false }) (blk id)
theorem witness_BootStages_1_0 :
    inChip w4 = false ∧
    w4.rst.mgmt = none ∧
    domOn w4 3 = true ∧
    w4.boot.stage = 1 := by decide +kernel

def w5 : State := bootMod (fun b => { b with stage := 2, attempt := some 1, trial := true }) { blk id with mb := up.mb }
theorem witness_BootStages_2_0 :
    obilwinUp w5 = true ∧
    w5.boot.attempt = some 1 ∧
    w5.boot.trial = true := by decide +kernel

def w6 : Origin := .host 1
def w7 : List Byte := []
def w8 : State := cmdAt 1 0x0101 [] up
theorem witness_SystemAndPowerCommands_0_0 :
    commandAt w8 w6 257 = some w7 ∧
    w8.boot.stage ≠ 3 := by decide +kernel

def w9 : Origin := .host 1
def w10 : List Byte := le 4 7 ++ le 4 2
def w11 : State := cmdAt 1 0x0102 (le 4 7 ++ le 4 2) logS
theorem witness_SystemAndPowerCommands_1_0 :
    commandAt w11 w9 258 = some w10 ∧
    1 ≤ Machine.fieldLe w10 4 4 ∧
    Machine.fieldLe w10 4 4 ≤ 127 ∧
    Machine.fieldLe w10 0 4 ≤ w11.mb.dseq := by decide +kernel

def w12 : Origin := .host 1
def w13 : List Byte := pw 10 0
def w14 : Exec := exo 0x0110 (pw 10 0)
def w15 : State := c1 0x0110 (pw 10 0) eng
theorem witness_SystemAndPowerCommands_2_0 :
    commandAt w15 w12 272 = some w13 ∧
    execOf w15 w12 = some w14 ∧
    1 ≤ 10 ∧
    10 < 14 ∧
    Machine.fieldLe w13 0 2 = 2 ^ 10 ∧
    Machine.fieldLe w13 3 1 = 0 ∧
    (vget w15.pm.dom 10 { : Domain }).st = DomSt.on ∧
    domSettled w15 10 = true ∧
    Machine.fieldLe w13 2 1 = 0 ∧
    sameWake w15 (BitVec.ofNat 14 (2 ^ 10)) = false := by decide +kernel

def w16 : Origin := .host 1
def w17 : List Byte := pw 12 2
def w18 : Exec := exo 0x0110 (pw 12 2)
def w19 : State := c1 0x0110 (pw 12 2) eng
theorem witness_SystemAndPowerCommands_2_1 :
    commandAt w19 w16 272 = some w17 ∧
    execOf w19 w16 = some w18 ∧
    1 ≤ 12 ∧
    12 < 14 ∧
    Machine.fieldLe w17 0 2 = 2 ^ 12 ∧
    Machine.fieldLe w17 3 1 = 0 ∧
    (vget w19.pm.dom 12 { : Domain }).st = DomSt.on ∧
    domSettled w19 12 = true ∧
    10 ≤ 12 ∧
    1 ≤ Machine.fieldLe w17 2 1 ∧
    Machine.fieldLe w17 2 1 ≤ 3 := by decide +kernel

def w20 : Origin := .host 1
def w21 : List Byte := le 2 6 ++ le 1 3 ++ le 1 0
def w22 : State := c1 0x0110 (le 2 6 ++ le 1 3 ++ le 1 0) eng
theorem witness_SystemAndPowerCommands_3_0 :
    commandAt w22 w20 272 = some w21 ∧
    Machine.fieldLe w21 0 2 = 6 ∧
    Machine.fieldLe w21 3 1 = 0 ∧
    1 ≤ Machine.fieldLe w21 2 1 ∧
    Machine.fieldLe w21 2 1 ≤ 3 := by decide +kernel

def w23 : Origin := .host 1
def w24 : List Byte := wm 5 3 8
def w25 : State := c1 0x0111 (wm 5 3 8) eng
theorem witness_SystemAndPowerCommands_4_0 :
    commandAt w25 w23 273 = some w24 ∧
    5 = Machine.fieldLe w24 0 1 ∧
    3 = Machine.fieldLe w24 1 1 ∧
    8 = Machine.fieldLe w24 4 2 ∧
    5 ∈ [1, 2, 3, 5] ∧
    (3 < if 5 = 1 ∨ 5 = 2 then 192 else if 5 = 5 then 8 else 1) ∧
    zeros w24 2 2 = true ∧
    zeros w24 6 2 = true ∧
    (8 = 65535 ∨ maskBad 8 = false) := by decide +kernel

def w26 : Origin := .host 1
def w27 : List Byte := al 2 1 0x400 5000
def w28 : State := c1 0x0112 (al 2 1 0x400 5000) eng
theorem witness_SystemAndPowerCommands_5_0 :
    commandAt w28 w26 274 = some w27 ∧
    2 = Machine.fieldLe w27 0 1 ∧
    2 ≤ 3 ∧
    1024 = Machine.fieldLe w27 2 2 ∧
    maskBad 1024 = false ∧
    fullOf (slice w27 4 16) = some 5000 ∧
    Machine.fieldLe w27 1 1 = 1 ∧
    w28.clk.now < 5000 := by decide +kernel

def w29 : Origin := .host 1
def w30 : List Byte := al 2 1 0x400 0
def w31 : State := c1 0x0112 (al 2 1 0x400 0) eng
theorem witness_SystemAndPowerCommands_5_1 :
    commandAt w31 w29 274 = some w30 ∧
    2 = Machine.fieldLe w30 0 1 ∧
    2 ≤ 3 ∧
    1024 = Machine.fieldLe w30 2 2 ∧
    maskBad 1024 = false ∧
    fullOf (slice w30 4 16) = some 0 ∧
    Machine.fieldLe w30 1 1 = 1 ∧
    0 ≤ w31.clk.now := by decide +kernel

def w32 : Origin := .host 1
def w33 : List Byte := al 2 0 0x400 0
def w34 : State := c1 0x0112 (al 2 0 0x400 0) eng
theorem witness_SystemAndPowerCommands_5_2 :
    commandAt w34 w32 274 = some w33 ∧
    2 = Machine.fieldLe w33 0 1 ∧
    2 ≤ 3 ∧
    1024 = Machine.fieldLe w33 2 2 ∧
    maskBad 1024 = false ∧
    fullOf (slice w33 4 16) = some 0 ∧
    Machine.fieldLe w33 1 1 = 0 := by decide +kernel

def w35 : Origin := .host 1
def w36 : List Byte := le 4 2
def w37 : State := c1 0x0120 (le 4 2) eng
theorem witness_SystemAndPowerCommands_6_0 :
    commandAt w37 w35 288 = some w36 ∧
    1 ≤ Machine.fieldLe w36 0 1 ∧
    Machine.fieldLe w36 0 1 ≤ 3 ∧
    zeros w36 1 3 = true := by decide +kernel

def w38 : Origin := .host 1
def w39 : List Byte := le 4 0
def w40 : State := bf 0x120 (le 4 0)
theorem witness_BadFieldsAreRefused_0_0 :
    commandAt w40 w38 288 = some w39 ∧
    (Machine.fieldLe w39 0 1 < 1 ∨ 3 < Machine.fieldLe w39 0 1) := by decide +kernel

def w41 : Origin := .host 1
def w42 : List Byte := le 1 30 ++ le 7 0
def w43 : State := bf 0x142 (le 1 30 ++ le 7 0)
theorem witness_BadFieldsAreRefused_0_1 :
    commandAt w43 w41 322 = some w42 ∧
    29 < Machine.fieldLe w42 0 1 := by decide +kernel

def w44 : Origin := .host 1
def w45 : List Byte := le 1 28 ++ le 7 0
def w46 : State := bf 0x142 (le 1 28 ++ le 7 0)
theorem witness_BadFieldsAreRefused_0_2 :
    commandAt w46 w44 322 = some w45 ∧
    Machine.fieldLe w45 0 1 ≤ 29 ∧
    Machine.fieldLe w45 1 1 = 0 ∧
    (Machine.fieldLe w45 2 1 < 1 ∨ 9 < Machine.fieldLe w45 2 1) := by decide +kernel

def w47 : Origin := .host 1
def w48 : List Byte := le 8 (2^62)
def w49 : State := bf 0x222 (le 8 (2^62))
theorem witness_BadFieldsAreRefused_0_3 :
    commandAt w49 w47 546 = some w48 ∧
    parE w49 39 (ctl w49) < |toSigned 64 (Machine.fieldLe w48 0 8)| := by decide +kernel

def w50 : Origin := .host 1
def w51 : List Byte := le 4 5 ++ le 36 0
def w52 : State := bf 0x310 (le 4 5 ++ le 36 0)
theorem witness_BadFieldsAreRefused_0_4 :
    commandAt w52 w50 784 = some w51 ∧
    Machine.fieldLe w51 0 1 ≤ 7 ∧
    zeros w51 1 3 = true ∧
    Machine.fieldLe w51 4 4 = 0 := by decide +kernel

def w53 : Origin := .host 1
def w54 : List Byte := le 2 4096 ++ le 30 0
def w55 : State := bf 0x520 (le 2 4096 ++ le 30 0)
theorem witness_BadFieldsAreRefused_0_5 :
    commandAt w55 w53 1312 = some w54 ∧
    (Machine.fieldLe w54 0 2 = 0 ∨ 4095 < Machine.fieldLe w54 0 2) := by decide +kernel

def w56 : Origin := .host 1
def w57 : List Byte := le 1 4 ++ le 1 16 ++ le 10 0
def w58 : State := bf 0x540 (le 1 4 ++ le 1 16 ++ le 10 0)
theorem witness_BadFieldsAreRefused_0_6 :
    commandAt w58 w56 1344 = some w57 ∧
    Machine.fieldLe w57 0 1 ≤ 15 ∧
    15 < Machine.fieldLe w57 1 1 := by decide +kernel

def w59 : Origin := .host 1
def w60 : List Byte := le 4 1000 ++ le 4 1000
def w61 : State := bf 0x603 (le 4 1000 ++ le 4 1000)
theorem witness_BadFieldsAreRefused_0_7 :
    commandAt w61 w59 1539 = some w60 ∧
    1000 ≤ Machine.fieldLe w60 0 4 ∧
    Machine.fieldLe w60 0 4 ≤ 8192000 ∧
    Machine.fieldLe w60 0 4 ≤ Machine.fieldLe w60 4 4 := by decide +kernel

def w62 : Origin := .host 1
def w63 : List Byte := le 4 0
def w64 : State := c1 0x140 (le 4 0) eng
theorem witness_ClockCommands_0_0 :
    commandAt w64 w62 320 = some w63 ∧
    0 = Machine.fieldLe w63 0 4 ∧
    (0 = 0 ∨ (oscClass w64.boot.straps.oscf).1 ≤ 0 ∧ 0 ≤ (oscClass w64.boot.straps.oscf).2) := by decide +kernel

def w65 : Origin := .host 1
def w66 : List Byte := ss 28 100000000000
def w67 : State := c1 0x141 (ss 28 100000000000) eng
theorem witness_ClockCommands_1_0 :
    commandAt w67 w65 321 = some w66 ∧
    28 = Machine.fieldLe w66 0 1 ∧
    28 ≤ 28 ∧
    28 ≤ 29 ∧
    100000000000 = Machine.fieldLe w66 4 8 ∧
    zeros w66 1 3 = true ∧
    9770000000 ≤ 100000000000 ∧
    100000000000 ≤ 1250000000000 ∧
    3 ≠ 28 ∧
    (domOn w67 13 = true ∨ (vget w67.pm.dom 13 { : Domain }).st = DomSt.stopped) ∧
    (synOf w67 28).tune = TuneSt.idle := by decide +kernel

def w68 : Origin := .host 1
def w69 : List Byte := ss 29 100000000000
def w70 : State := c1 0x141 (ss 29 100000000000) (dom 13 .off eng)
theorem witness_ClockCommands_1_1 :
    commandAt w70 w68 321 = some w69 ∧
    29 = Machine.fieldLe w69 0 1 ∧
    28 ≤ 29 ∧
    29 ≤ 29 ∧
    100000000000 = Machine.fieldLe w69 4 8 ∧
    zeros w69 1 3 = true ∧
    9770000000 ≤ 100000000000 ∧
    100000000000 ≤ 1250000000000 ∧
    3 ≠ 29 ∧
    ((vget w70.pm.dom 13 { : Domain }).st = DomSt.retention ∨ (vget w70.pm.dom 13 { : Domain }).st = DomSt.off) := by decide +kernel

def w71 : Origin := .host 1
def w72 : List Byte := ss 29 100000000000
def w73 : State := c1 0x141 (ss 29 100000000000) (synMod 29 (fun x => { x with tune := .search 5 }) eng)
theorem witness_ClockCommands_1_2 :
    commandAt w73 w71 321 = some w72 ∧
    29 = Machine.fieldLe w72 0 1 ∧
    28 ≤ 29 ∧
    29 ≤ 29 ∧
    100000000000 = Machine.fieldLe w72 4 8 ∧
    zeros w72 1 3 = true ∧
    9770000000 ≤ 100000000000 ∧
    100000000000 ≤ 1250000000000 ∧
    3 ≠ 29 ∧
    (domOn w73 13 = true ∨ (vget w73.pm.dom 13 { : Domain }).st = DomSt.stopped) ∧
    (synOf w73 29).tune ≠ TuneSt.idle := by decide +kernel

def w74 : Origin := .host 1
def w75 : List Byte := sr 28 2 5 1 31000
def w76 : State := c1 0x142 (sr 28 2 5 1 31000) eng
theorem witness_ClockCommands_2_0 :
    commandAt w76 w74 322 = some w75 ∧
    28 = Machine.fieldLe w75 0 1 ∧
    2 = Machine.fieldLe w75 1 1 ∧
    5 = Machine.fieldLe w75 2 1 ∧
    1 = Machine.fieldLe w75 3 1 ∧
    31000 = Machine.fieldLe w75 4 4 ∧
    28 ≤ 29 ∧
    2 ≤ 2 ∧
    (2 ≠ 0 → 28 = 0 ∨ 28 = 28 ∨ 28 = 29) ∧
    1 ≤ 5 ∧
    5 ≤ 9 ∧
    1 ≤ 2 ∧
    (1 = 1 → 28 < 2 ∨ 26 ≤ 28) ∧
    30000 ≤ 31000 ∧
    31000 ≤ 33000 ∧
    (2 = 0 ∨ feedsAlign w76 28 = false) := by decide +kernel

def w77 : Origin := .host 1
def w78 : List Byte := sr 28 1 5 1 31000
def w79 : State := c1 0x142 (sr 28 1 5 1 31000) (setPar 0x6D 20 1 (setPar 0x6B 20 1 (setPar 0x60 20 1 eng)))
theorem witness_ClockCommands_2_1 :
    commandAt w79 w77 322 = some w78 ∧
    28 = Machine.fieldLe w78 0 1 ∧
    1 = Machine.fieldLe w78 1 1 ∧
    5 = Machine.fieldLe w78 2 1 ∧
    1 = Machine.fieldLe w78 3 1 ∧
    31000 = Machine.fieldLe w78 4 4 ∧
    28 ≤ 29 ∧
    1 ≤ 2 ∧
    (1 ≠ 0 → 28 = 0 ∨ 28 = 28 ∨ 28 = 29) ∧
    1 ≤ 5 ∧
    5 ≤ 9 ∧
    (1 = 1 → 28 < 2 ∨ 26 ≤ 28) ∧
    30000 ≤ 31000 ∧
    31000 ≤ 33000 ∧
    1 ≠ 0 ∧
    feedsAlign w79 28 = true := by decide +kernel

def w80 : Origin := .host 1
def w81 : List Byte := bs 3 1 (65536-100) 5000 6000 10
def w82 : BandSpec := ⟨5000, 6000, 10, -100⟩
def w83 : State := c1 0x143 (bs 3 1 (65536-100) 5000 6000 10) eng
theorem witness_ClockCommands_3_0 :
    commandAt w83 w80 323 = some w81 ∧
    3 = Machine.fieldLe w81 0 1 ∧
    3 ≤ 15 ∧
    w82 = { low := Machine.fieldLe w81 4 4, high := Machine.fieldLe w81 8 4, margin := Machine.fieldLe w81 12 4, limit := toSigned 16 (Machine.fieldLe w81 2 2) : BandSpec } ∧
    Machine.fieldLe w81 1 1 = 1 ∧
    -160 ≤ w82.limit ∧
    w82.limit ≤ -40 ∧
    1000 ≤ w82.low ∧
    w82.low ≤ 40000000 ∧
    w82.low < w82.high ∧
    w82.high ≤ 40000000 ∧
    w82.margin ≤ 100000 := by decide +kernel

def w84 : Origin := .host 1
def w85 : List Byte := bs 3 0 (65536-100) 5000 6000 10
def w86 : BandSpec := ⟨5000, 6000, 10, -100⟩
def w87 : State := c1 0x143 (bs 3 0 (65536-100) 5000 6000 10) eng
theorem witness_ClockCommands_3_1 :
    commandAt w87 w84 323 = some w85 ∧
    3 = Machine.fieldLe w85 0 1 ∧
    3 ≤ 15 ∧
    w86 = { low := Machine.fieldLe w85 4 4, high := Machine.fieldLe w85 8 4, margin := Machine.fieldLe w85 12 4, limit := toSigned 16 (Machine.fieldLe w85 2 2) : BandSpec } ∧
    Machine.fieldLe w85 1 1 = 0 := by decide +kernel

def w88 : Origin := .host 1
def w89 : List Byte := le 4 0
def w90 : State := c1 0x144 (le 4 0) eng
theorem witness_ClockCommands_4_0 :
    commandAt w90 w88 324 = some w89 := by decide +kernel

def w91 : Origin := .host 1
def w92 : List Byte := le 4 0
def w93 : State := c1 0x145 (le 4 0) eng
theorem witness_ClockCommands_5_0 :
    commandAt w93 w91 325 = some w92 := by decide +kernel

def w94 : Origin := .host 1
def w95 : List Byte := le 1 0 ++ le 1 0 ++ le 2 3
def w96 : State := c1 0x150 (le 1 0 ++ le 1 0 ++ le 2 3) std
theorem witness_ClockCommands_6_0 :
    commandAt w96 w94 336 = some w95 ∧
    Machine.fieldLe w95 1 1 = 0 ∧
    convNo (Machine.fieldLe w95 0 1) (Machine.fieldLe w95 2 2) = some 3 ∧
    domOn w96 (convDomain 3) = true := by decide +kernel

def w97 : Origin := .host 1
def w98 : List Byte := le 1 0 ++ le 1 0 ++ le 2 3
def w99 : State := c1 0x150 (le 1 0 ++ le 1 0 ++ le 2 3) (dom 4 .off std)
theorem witness_ClockCommands_6_1 :
    commandAt w99 w97 336 = some w98 ∧
    Machine.fieldLe w98 1 1 = 0 ∧
    convNo (Machine.fieldLe w98 0 1) (Machine.fieldLe w98 2 2) = some 3 ∧
    domOn w99 (convDomain 3) = false := by decide +kernel

def w100 : Origin := .host 1
def w101 : List Byte := le 1 0 ++ le 1 0 ++ le 2 3 ++ le 4 512
def w102 : State := c1 0x151 (le 1 0 ++ le 1 0 ++ le 2 3 ++ le 4 512) std
theorem witness_ClockCommands_7_0 :
    commandAt w102 w100 337 = some w101 ∧
    Machine.fieldLe w101 1 1 = 0 ∧
    convNo (Machine.fieldLe w101 0 1) (Machine.fieldLe w101 2 2) = some 3 ∧
    Machine.fieldLe w101 4 4 ∈ [0, 512, 1024, 1536] ∧
    (convOf w102 3).cur = [] := by decide +kernel

end Sys2Proof.Tests.Host2

namespace Sys2Proof.Tests.Host3

set_option Elab.async false

def q (op : Nat) (p : List Byte) (s : State) : State := cmdAt 1 op p s
def b4 (a b c d : Nat) : List Byte := le 1 a ++ le 1 b ++ le 1 c ++ le 1 d
def lt (l w s b : Nat) : List Byte := b4 l w s b ++ le 4 0xABCD
def ls (src : Nat) : List Byte := b4 3 2 0 0 ++ le 8 (2^64-5) ++ le 8 77 ++ le 4 (2^32-3) ++ le 4 5 ++ le 2 (2^16-100) ++ le 1 src ++ le 1 0 ++ le 6 500 ++ le 6 0
def w0 : Origin := .host 1
def w1 : List Byte := b4 3 1 0 0
def w2 : State := q 0x402 (b4 3 1 0 0) (portMod 3 (fun x => { x with admin := false, st := .down }) std)
theorem witness_PortAndLaneCommands_0_0 :
    commandAt w2 w0 1026 = some w1 ∧
    3 = Machine.fieldLe w1 0 1 ∧
    3 < 192 ∧
    portUsed w2 3 = true ∧
    zeros w1 2 2 = true ∧
    Machine.fieldLe w1 1 1 = 1 := by decide +kernel

def w3 : Origin := .host 1
def w4 : List Byte := b4 3 0 0 0
def w5 : State := q 0x402 (b4 3 0 0 0) std
theorem witness_PortAndLaneCommands_0_1 :
    commandAt w5 w3 1026 = some w4 ∧
    3 = Machine.fieldLe w4 0 1 ∧
    3 < 192 ∧
    portUsed w5 3 = true ∧
    zeros w4 2 2 = true ∧
    Machine.fieldLe w4 1 1 = 0 ∧
    ((portOf w5 3).st = PortSt.up ∨ (portOf w5 3).st = PortSt.hold) := by decide +kernel

def w6 : Origin := .host 1
def w7 : List Byte := b4 3 0 0 0
def w8 : State := q 0x402 (b4 3 0 0 0) (portMod 3 (fun x => { x with st := .down }) std)
theorem witness_PortAndLaneCommands_0_2 :
    commandAt w8 w6 1026 = some w7 ∧
    3 = Machine.fieldLe w7 0 1 ∧
    3 < 192 ∧
    portUsed w8 3 = true ∧
    zeros w7 2 2 = true ∧
    Machine.fieldLe w7 1 1 = 0 ∧
    (portOf w8 3).st ≠ PortSt.up ∧
    (portOf w8 3).st ≠ PortSt.hold := by decide +kernel

def w9 : Origin := .host 1
def w10 : List Byte := b4 0 0 0 0
def w11 : State := q 0x410 (b4 0 0 0 0) std
theorem witness_PortAndLaneCommands_1_0 :
    commandAt w11 w9 1040 = some w10 ∧
    0 = Machine.fieldLe w10 0 1 ∧
    0 < 24 ∧
    zeros w10 1 3 = true ∧
    inChip w11 = false ∧
    vget w11.rst.groups 0 false = false ∧
    domOn w11 (bankOf 0) = true := by decide +kernel

def w12 : Origin := .host 1
def w13 : List Byte := b4 0 0 0 0
def w14 : State := q 0x410 (b4 0 0 0 0) (dom 4 .off std)
theorem witness_PortAndLaneCommands_1_1 :
    commandAt w14 w12 1040 = some w13 ∧
    0 = Machine.fieldLe w13 0 1 ∧
    0 < 24 ∧
    zeros w13 1 3 = true ∧
    inChip w14 = false ∧
    vget w14.rst.groups 0 false = false ∧
    domOn w14 (bankOf 0) = false := by decide +kernel

def w15 : Origin := .host 1
def w16 : List Byte := b4 3 0 0 0
def w17 : State := q 0x411 (b4 3 0 0 0) std
theorem witness_PortAndLaneCommands_2_0 :
    commandAt w17 w15 1041 = some w16 ∧
    3 = Machine.fieldLe w16 0 1 ∧
    3 < 192 ∧
    zeros w16 1 3 = true ∧
    inChip w17 = false ∧
    vget w17.rst.groups (3 / 8) false = false ∧
    vget w17.rst.lanes 3 false = false ∧
    domOn w17 (bankOf (3 / 8)) = true := by decide +kernel

def w18 : Origin := .host 1
def w19 : List Byte := b4 3 0 0 0
def w20 : State := q 0x411 (b4 3 0 0 0) (dom 4 .stopped std)
theorem witness_PortAndLaneCommands_2_1 :
    commandAt w20 w18 1041 = some w19 ∧
    3 = Machine.fieldLe w19 0 1 ∧
    3 < 192 ∧
    zeros w19 1 3 = true ∧
    inChip w20 = false ∧
    vget w20.rst.groups (3 / 8) false = false ∧
    vget w20.rst.lanes 3 false = false ∧
    domOn w20 (bankOf (3 / 8)) = false := by decide +kernel

def w21 : Origin := .host 1
def w22 : List Byte := lt 3 3 1 0x12
def w23 : State := q 0x420 (lt 3 3 1 0x12) std
theorem witness_PortAndLaneCommands_3_0 :
    commandAt w23 w21 1056 = some w22 ∧
    3 = Machine.fieldLe w22 0 1 ∧
    3 < 192 ∧
    Machine.fieldLe w22 1 1 < 4 ∧
    18 = Machine.fieldLe w22 3 1 ∧
    18 % 16 < 9 ∧
    18 < 32 ∧
    Machine.fieldLe w22 2 1 = 1 ∧
    sentinelOf w23 (3 / 8) ≠ some 3 ∧
    domOn w23 (bankOf (3 / 8)) = true ∧
    ((laneOf w23 3).st = LaneSt.ready ∨ (laneOf w23 3).st = LaneSt.sleep) ∧
    Machine.fieldLe w22 1 1 ≠ 0 := by decide +kernel

def w24 : Origin := .host 1
def w25 : List Byte := lt 2 3 1 0x12
def w26 : State := q 0x420 (lt 2 3 1 0x12) std
theorem witness_PortAndLaneCommands_3_1 :
    commandAt w26 w24 1056 = some w25 ∧
    2 = Machine.fieldLe w25 0 1 ∧
    2 < 192 ∧
    Machine.fieldLe w25 1 1 < 4 ∧
    18 = Machine.fieldLe w25 3 1 ∧
    18 % 16 < 9 ∧
    18 < 32 ∧
    Machine.fieldLe w25 2 1 = 1 ∧
    sentinelOf w26 (2 / 8) ≠ some 2 ∧
    domOn w26 (bankOf (2 / 8)) = true ∧
    ((laneOf w26 2).st ≠ LaneSt.ready ∧ (laneOf w26 2).st ≠ LaneSt.sleep ∨ Machine.fieldLe w25 1 1 = 0) := by decide +kernel

def w27 : Origin := .host 1
def w28 : List Byte := lt 3 3 0 2
def w29 : State := q 0x420 (lt 3 3 0 2) (laneMod 3 (fun x => { x with st := .test }) std)
theorem witness_PortAndLaneCommands_3_2 :
    commandAt w29 w27 1056 = some w28 ∧
    3 = Machine.fieldLe w28 0 1 ∧
    3 < 192 ∧
    Machine.fieldLe w28 1 1 < 4 ∧
    2 = Machine.fieldLe w28 3 1 ∧
    2 % 16 < 9 ∧
    2 < 32 ∧
    Machine.fieldLe w28 2 1 = 0 ∧
    Machine.fieldLe w28 1 1 = 3 ∧
    domOn w29 (bankOf (3 / 8)) = true ∧
    (laneOf w29 3).st = LaneSt.test := by decide +kernel

def w30 : Origin := .host 1
def w31 : List Byte := lt 3 3 1 2
def w32 : State := q 0x420 (lt 3 3 1 2) (dom 4 .off std)
theorem witness_PortAndLaneCommands_3_3 :
    commandAt w32 w30 1056 = some w31 ∧
    3 = Machine.fieldLe w31 0 1 ∧
    3 < 192 ∧
    Machine.fieldLe w31 1 1 < 4 ∧
    2 = Machine.fieldLe w31 3 1 ∧
    2 % 16 < 9 ∧
    2 < 32 ∧
    (Machine.fieldLe w31 2 1 = 0 ∨ Machine.fieldLe w31 2 1 = 1 ∧ sentinelOf w32 (3 / 8) ≠ some 3) ∧
    domOn w32 (bankOf (3 / 8)) = false := by decide +kernel

def w33 : Origin := .host 1
def w34 : List Byte := b4 3 0 0 0
def w35 : State := q 0x421 (b4 3 0 0 0) std
theorem witness_PortAndLaneCommands_4_0 :
    commandAt w35 w33 1057 = some w34 ∧
    3 = Machine.fieldLe w34 0 1 ∧
    3 < 192 ∧
    zeros w34 1 3 = true ∧
    domOn w35 (bankOf (3 / 8)) = true ∧
    (laneOf w35 3).st = LaneSt.ready := by decide +kernel

def w36 : Origin := .host 1
def w37 : List Byte := b4 3 0 0 0
def w38 : State := q 0x421 (b4 3 0 0 0) (dom 4 .retention std)
theorem witness_PortAndLaneCommands_4_1 :
    commandAt w38 w36 1057 = some w37 ∧
    3 = Machine.fieldLe w37 0 1 ∧
    3 < 192 ∧
    zeros w37 1 3 = true ∧
    domOn w38 (bankOf (3 / 8)) = false := by decide +kernel

def w39 : Origin := .host 1
def w40 : List Byte := b4 2 0 0 0
def w41 : State := q 0x421 (b4 2 0 0 0) std
theorem witness_PortAndLaneCommands_4_2 :
    commandAt w41 w39 1057 = some w40 ∧
    2 = Machine.fieldLe w40 0 1 ∧
    2 < 192 ∧
    zeros w40 1 3 = true ∧
    domOn w41 (bankOf (2 / 8)) = true ∧
    (laneOf w41 2).st ≠ LaneSt.ready := by decide +kernel

def w42 : Origin := .host 1
def w43 : List Byte := b4 3 2 0 0
def w44 : State := q 0x422 (b4 3 2 0 0) { std with wx := { std.wx with permitted := vmodN std.wx.permitted 3 (fun _ => 1) } }
theorem witness_PortAndLaneCommands_5_0 :
    commandAt w44 w42 1058 = some w43 ∧
    3 = Machine.fieldLe w43 0 1 ∧
    3 < 192 ∧
    2 = Machine.fieldLe w43 1 1 ∧
    2 ≤ 3 ∧
    zeros w43 2 2 = true ∧
    0 ≠ 3 := by decide +kernel

def w45 : Origin := .host 1
def w46 : List Byte := b4 3 2 0 0
def w47 : State := q 0x430 (b4 3 2 0 0) std
theorem witness_PortAndLaneCommands_6_0 :
    commandAt w47 w45 1072 = some w46 ∧
    3 = Machine.fieldLe w46 0 1 ∧
    3 < 192 ∧
    2 = Machine.fieldLe w46 1 1 ∧
    2 ≤ 5 ∧
    zeros w46 2 2 = true := by decide +kernel

def w48 : Origin := .host 1
def w49 : List Byte := ls 3
def w50 : State := q 0x431 (ls 3) std
theorem witness_PortAndLaneCommands_7_0 :
    commandAt w50 w48 1073 = some w49 ∧
    3 = Machine.fieldLe w49 0 1 ∧
    3 < 192 ∧
    2 = Machine.fieldLe w49 1 1 ∧
    2 ≤ 5 ∧
    zeros w49 2 2 = true ∧
    zeros w49 31 1 = true ∧
    zeros w49 38 6 = true ∧
    (Machine.fieldLe w49 30 1 = 3 ∨ Machine.fieldLe w49 30 1 = 4) := by decide +kernel

def w51 : Origin := .host 1
def w52 : List Byte := ls 0
def w53 : State := q 0x431 (ls 0) std
theorem witness_PortAndLaneCommands_7_1 :
    commandAt w53 w51 1073 = some w52 ∧
    3 = Machine.fieldLe w52 0 1 ∧
    3 < 192 ∧
    2 = Machine.fieldLe w52 1 1 ∧
    2 ≤ 5 ∧
    zeros w52 2 2 = true ∧
    zeros w52 31 1 = true ∧
    zeros w52 38 6 = true ∧
    Machine.fieldLe w52 30 1 < 2 := by decide +kernel

def w54 : Origin := .host 1
def w55 : List Byte := b4 4 0 0 0
def w56 : State := q 0x440 (b4 4 0 0 0) fabT
theorem witness_PortAndLaneCommands_8_0 :
    commandAt w56 w54 1088 = some w55 ∧
    4 = Machine.fieldLe w55 0 1 ∧
    4 < 192 ∧
    portUsed w56 4 = true ∧
    zeros w55 1 3 = true ∧
    kindFab w56 4 = true := by decide +kernel

def w57 : Origin := .host 1
def w58 : List Byte := b4 3 0 0 0
def w59 : State := q 0x440 (b4 3 0 0 0) std
theorem witness_PortAndLaneCommands_8_1 :
    commandAt w59 w57 1088 = some w58 ∧
    3 = Machine.fieldLe w58 0 1 ∧
    3 < 192 ∧
    portUsed w59 3 = true ∧
    zeros w58 1 3 = true ∧
    kindFab w59 3 = false := by decide +kernel

end Sys2Proof.Tests.Host3

namespace Sys2Proof.Tests.Host4

set_option Elab.async false

def vw (r : Nat) (st : RefSt) (why : Nat) (s : State) : State := viewMod r (fun v => { v with st := st, reason := why }) s
def lk (st : ServoSt) (f : Engine → Engine) : State := engMod 0 (fun x => f { x with st := st, sel := some 2 }) (vw 2 .available 0 eng)
def mrS (y : Rat) : State := setPar 0x28 1 1 (setPar 0x29 1 1 (engxMod 0 (fun x => { x with modelReady := true, ySec := [y] }) (lk .locked id)))
def rg (f : Ring → Ring) : State := ringMod true 2 f (ringMod false 2 f up)
def q (op : Nat) (p : List Byte) (s : State) : State := cmdAt 1 op p s
def rq (op : Nat) (p : List Byte) (s : State) : State := fabMod (fun x => { x with remotes := [⟨0x1234, 7, [], 3, [], ⟩] }) (mbMod (fun m => { m with remote := [⟨0x1234, 44, false, { cmd := { opcode := op, hseq := 5, chanField := 0, payload := p } }⟩] }) s)
def w0 : State := nextOf (step eng)
theorem witness_EveryStepKeepsInterruptsRight_1_0 :
    interruptsOk eng ∧
    step eng = Host.Outcome.next w0 := ⟨by decide +kernel, rfl⟩

def w1 : StepReq := ⟨-5, true⟩
def w2 : State := { eng with clk := { eng.clk with now := 12345678, step := some ⟨-5, true⟩, tod := .set } }
theorem witness_TheTimeCounter_0_0 :
    w2.clk.step = some w1 ∧
    w2.clk.kettle = false := by decide +kernel

def w3 : PortIx := 3
def w4 : ℤ := 37
def w5 : State := setPar 0x11B 0x200 3 (setPar 0x102 3 1 std)
theorem witness_TheTimeCounter_3_0 :
    timingPort w5 ((↑w3 : ℕ) / 8) = some (↑w3 : ℕ) ∧
    (portOf w5 (↑w3 : ℕ)).st = PortSt.up ∧
    true = true := by decide +kernel

def w6 : PortIx := 3
def w7 : ℤ := 37
def w8 : State := setPar 0x11B 0x200 3 (setPar 0x102 3 1 std)
theorem witness_TheTimeCounter_3_1 :
    timingPort w8 ((↑w6 : ℕ) / 8) = some (↑w6 : ℕ) ∧
    (portOf w8 (↑w6 : ℕ)).st = PortSt.up ∧
    false = false := by decide +kernel

def w9 : State := engxMod 0 (fun x => { x with claim := 0 }) (engxMod 1 (fun x => { x with claim := 0 }) eng)
theorem witness_TheTimeCounter_4_0 :
    accepted w9 = none ∧
    w9.clk.kettle = false := by decide +kernel

def w10 : EngIx := 1
def w11 : State := domMod 6 (fun d => { d with heldRaise := true }) (ksMod (fun x => { x with control := none }) (engxMod 0 (fun x => { x with claim := 0 }) eng))
theorem witness_TheTimeCounter_5_0 :
    (engxOf w11 (↑w10 : ℕ)).on = true ∧
    w11.rst.por = false ∧
    w11.te.ks.control = none ∧
    (engxOf w11 (↑w10 : ℕ)).health ≠ 0 ∧
    (engxOf w11 (↑w10 : ℕ)).base ≠ 0 ∧
    (engxOf w11 (1 - (↑w10 : ℕ))).claim = 0 := by decide +kernel

def w12 : Word := 7
theorem witness_RegisterAccesses_0_0 :
    reaches Initiator.host 56 up := by decide +kernel

def w13 : Word := 7
def w14 : State := hostMod (fun h => { h with errEvt := true, mgmtHaltEvt := true }) up
theorem witness_RegisterAccesses_1_0 :
    answers Initiator.host w14 ∧
    domOn w14 3 = true := by decide +kernel

def w15 : Word := 0x80000000
def w16 : State := fwdMod (fun h => { h with parityEvt := true, learnFullEvt := true }) up
theorem witness_RegisterAccesses_2_0 :
    answers Initiator.host w16 ∧
    domOn w16 10 = true := by decide +kernel

def w17 : Word := 0x05000000
def w18 : State := { up with pm := { up.pm with alarm := up.pm.alarm.set 0 { armed := true, fired := true } } }
theorem witness_RegisterAccesses_3_0 :
    answers Initiator.host w18 ∧
    domOn w18 0 = true := by decide +kernel

def w19 : Word := 0x1234567
def w20 : Word := 0x55
theorem witness_RegisterPairs_1_0 :
    answers Initiator.host up ∧
    up.mb.evqEnable = false := by decide +kernel

def w21 : Word := 0x1234567
def w22 : Word := 0x55
def w23 : State := mbMod (fun m => { m with evqEnable := true }) up
theorem witness_RegisterPairs_1_1 :
    answers Initiator.host w23 ∧
    w23.mb.evqEnable = true := by decide +kernel

theorem witness_RegisterPairs_2_0 :
    answers Initiator.host eng ∧
    domOn eng 0 = true ∧
    Initiator.mgmt ≠ Initiator.host := by decide +kernel

theorem witness_FullTimeIsExact_0_0 :
    12345678901234567 < timeSpan := by decide +kernel

def w24 : List Byte := fullBytes 12345678901234567
theorem witness_FullTimeIsExact_1_0 :
    w24.length = 16 ∧
    fullOf w24 = some 12345678901234567 := by decide +kernel

def w25 : Fin 8 := 2
def w26 : Word := 3
def w27 : State := rg (fun g => { g with enable := true, tail := 1 })
theorem witness_DescriptorRings_0_0 :
    domOn w27 3 = true ∧
    inChip w27 = false ∧
    newlyPosted (ringOf true (↑w25 : ℕ) w27) (bits (BitVec.toNat w26) 0 15) ≤ [List.replicate 16 7, List.replicate 16 9].length ∧
    vget w27.host.store (↑w25 : ℕ) [] = [] ∧
    3 ≠ (↑w25 : ℕ) ∧
    newlyPosted (ringOf false (↑w25 : ℕ) w27) (bits (BitVec.toNat w26) 0 15) ≤ [List.replicate 16 7, List.replicate 16 9].length := by decide +kernel

def w28 : Fin 8 := 2
def w29 : State := rg (fun g => { g with enable := true, trunc := 4, noroom := 5 })
theorem witness_DescriptorRings_2_0 :
    answers Initiator.host w29 ∧
    domOn w29 3 = true := by decide +kernel

def w30 : Fin 8 := 2
def w31 : State := rg (fun g => { g with enable := true, unreported := 5 })
theorem witness_DescriptorRings_3_0 :
    0 < (ringOf true (↑w30 : ℕ) w31).unreported := by decide +kernel

def w32 : Fin 8 := 2
def w33 : State := rg (fun g => { g with enable := true, unreported := 0 })
theorem witness_DescriptorRings_3_1 :
    (ringOf false (↑w32 : ℕ) w33).unreported = 0 := by decide +kernel

def w34 : List Byte := le 4 0
def w35 : RemoteSeq := ⟨0x1234, 7, [], 3, []⟩
def w36 : State := rq 0x802 (le 4 0) eng
theorem witness_FabricAndReportCommands_4_0 :
    commandAt w36 (Origin.remote 4660 44) 2050 = some w34 ∧
    (List.find? (fun r => r.source == 4660) w36.fab.remotes = some w35) ∧
    Machine.fieldLe w34 0 4 = 0 := by decide +kernel

def w37 : ℚ := 2814749
def w38 : List ℚ := []
def w39 : State := mrS 2814749
theorem witness_ReferenceMeasurements_4_0 :
    2 < 32 ∧
    (engxOf w39 (ctl w39)).modelReady = true ∧
    (engOf w39 (ctl w39)).sel = some 2 ∧
    (engxOf w39 (ctl w39)).ySec = w37 :: w38 ∧
    autoMode w39 (ctl w39) = true ∧
    (viewOf w39 2).st = RefSt.available ∧
    oscBlamed w39 2 = false ∧
    (↑(parE w39 41 (ctl w39)) : ℚ) < absQ (sumQ (List.take (parE w39 40 (ctl w39)).toNat (ofWord (w37 - modelY (engOf w39 (ctl w39)).model (modelT w39) (engOf w39 (ctl w39)).temp) :: (engxOf w39 (ctl w39)).resid))) ∧
    absQ (sumQ (List.take (parE w39 40 (ctl w39)).toNat (ofWord (w37 - modelY (engOf w39 (ctl w39)).model (modelT w39) (engOf w39 (ctl w39)).temp) :: (engxOf w39 (ctl w39)).resid))) ≤ (↑(parE w39 42 (ctl w39)) : ℚ) := by decide +kernel

end Sys2Proof.Tests.Host4
end

