-- ==== Sys2Proof/Tests/WitnessLink.lean ====
section
/-! SUPPORT. Witnesses: for each statement and each of its clauses, a state and operands that meet the hypotheses. -/

open Sys2Proof Sys2Proof.Machine

namespace Sys2Proof.Tests.Link1

set_option Elab.async false

theorem witness_EmptyQueueTicks_0_0 :
    State.reset.pending = [] ∧
    State.reset.rst.por = true := by decide +kernel

theorem witness_FullTimeIsExact_2_0 :
    State.reset.clk.now % (8 * uNs) = 0 ∧
    State.reset.clk.now < timeSpan := by decide +kernel

end Sys2Proof.Tests.Link1

namespace Sys2Proof.Tests.Link2

set_option Elab.async false

def leapS (w : Word) (sec : Nat) : State := { eng with clk := { eng.clk with now := sec * uSec + 77, utc := w } }
def hold4 : State := engMod 0 (fun x => {x with st := .holdover}) { eng with clk := { eng.clk with utc := 0xC8000025 } }
def eq1 : RxEq := { ctle := 3, dfe1 := 5, eye := 77 }
def w0 : State := leapS 0xC0000025 (86400+37)
theorem witness_TheTimeCounter_2_0 :
    leapDue w0.clk.utc (nextSecond w0) = true ∧
    w0.clk.kettle = false ∧
    BitVec.getLsbD w0.clk.utc 30 = true := by decide +kernel

def w1 : State := leapS 0xA0000025 (86400+35)
theorem witness_TheTimeCounter_2_1 :
    leapDue w1.clk.utc (nextSecond w1) = true ∧
    w1.clk.kettle = false ∧
    BitVec.getLsbD w1.clk.utc 30 = false := by decide +kernel

theorem witness_TheTimeCounter_1_0 :
    utcNow hold4 ≠ hold4.clk.utc ∧
    (leapHeld hold4 = true ∨ leapDue hold4.clk.utc (nextSecond hold4) = true ∨ hold4.clk.leapAt = some (nextSecond hold4)) := by decide +kernel

theorem witness_ErroneousAccesses_0_0 :
    answers Initiator.host up ∧
    (4 ≠ 4 ∨ 57 % 4 ≠ 0) := by decide +kernel

theorem witness_ErroneousAccesses_1_0 :
    answers Initiator.mgmt up ∧
    327680 % 4 = 0 ∧
    regAt up 327680 = RegId.outside := by decide +kernel

def w2 : State := dom 3 .stopped up
theorem witness_ErroneousAccesses_2_0 :
    chipUp w2 ∧
    (vget w2.pm.dom 3 { : Domain }).st = DomSt.stopped ∧
    (2 ≠ 4 ∨ 56 % 4 ≠ 0) ∧
    (vget w2.pm.dom 3 { : Domain }).target ≠ DomSt.on ∧
    (wakeMask w2 3 0).getLsbD 3 = true := by decide +kernel

def w3 : Word := 5
theorem witness_ErroneousAccesses_3_0 :
    answers Initiator.mgmt up ∧
    domOn up 10 = true ∧
    33554432 ≤ 33554448 ∧
    33554448 < 67108864 ∧
    33554448 % 4 = 0 := by decide +kernel

theorem witness_ErroneousAccesses_4_0 :
    answers Initiator.host up ∧
    domOn up 0 = true := by decide +kernel

def w4 : Word := 5
def w5 : State := mode 0 3 (dom 4 .stopped up)
theorem witness_ErroneousAccesses_5_0 :
    answers Initiator.host w5 ∧
    4194304 % 4 = 0 ∧
    regAt w5 4194304 ≠ RegId.outside ∧
    regAt w5 4194304 ≠ RegId.hole ∧
    ownerInReset w5 (regAt w5 4194304) = false ∧
    domOn w5 (regOwner (regAt w5 4194304)).1 = false := by decide +kernel

def w6 : Word := 5
def w7 : State := mode 0 3 (rstMod (fun r => { r with groups := r.groups.set 0 true }) up)
theorem witness_ErroneousAccesses_5_1 :
    answers Initiator.host w7 ∧
    4227072 % 4 = 0 ∧
    regAt w7 4227072 ≠ RegId.outside ∧
    regAt w7 4227072 ≠ RegId.hole ∧
    ownerInReset w7 (regAt w7 4227072) = true := by decide +kernel

def w8 : LaneIx := 3
def w9 : List (ℕ × ℤ) := []
def w10 : State := mode 0 3 up
theorem witness_LanesComeUp_0_0 :
    laneInReset w10 (↑w8 : ℕ) = false ∧
    (laneOf w10 (↑w8 : ℕ)).sigDet = false ∧
    domOn w10 (bankOf ((↑w8 : ℕ) / 8)) = true ∧
    (laneOf w10 (↑w8 : ℕ)).st = LaneSt.off ∧
    modeOf w10 ((↑w8 : ℕ) / 8) ≠ 0 := by decide +kernel

def w11 : LaneIx := 3
def w12 : List (ℕ × ℤ) := []
def w13 : State := dom 4 .retention (mode 0 3 up)
theorem witness_LanesComeUp_0_1 :
    laneInReset w13 (↑w11 : ℕ) = false ∧
    (laneOf w13 (↑w11 : ℕ)).sigDet = false ∧
    domOn w13 (bankOf ((↑w11 : ℕ) / 8)) = false := by decide +kernel

def w14 : LaneIx := 3
def w15 : State := lane3 (fun x => { x with st := .acquire })
theorem witness_LanesComeUp_1_0 :
    (laneOf w15 (↑w14 : ℕ)).st = LaneSt.acquire ∧
    laneInReset w15 (↑w14 : ℕ) = false ∧
    trains w15 (portOfLane w15 (↑w14 : ℕ)) = false := by decide +kernel

def w16 : LaneIx := 3
def w17 : State := setPar 0x103 3 1 (lane3 (fun x => { x with st := .acquire }))
theorem witness_LanesComeUp_1_1 :
    (laneOf w17 (↑w16 : ℕ)).st = LaneSt.acquire ∧
    laneInReset w17 (↑w16 : ℕ) = false ∧
    trains w17 (portOfLane w17 (↑w16 : ℕ)) = true := by decide +kernel

def w18 : LaneIx := 3
def w19 : State := lane3 (fun x => { x with st := .acquire })
theorem witness_LanesComeUp_2_0 :
    (laneOf w19 (↑w18 : ℕ)).st = LaneSt.acquire := by decide +kernel

def w20 : LaneIx := 3
def w21 : Taps := { pre := 1, main := 60, post := 3 }
def w22 : State := lane3 (fun x => { x with st := .train })
theorem witness_LanesComeUp_3_0 :
    (laneOf w22 (↑w20 : ℕ)).st = LaneSt.train ∧
    (laneOf w22 (↑w20 : ℕ)).trainFails < 2 := by decide +kernel

def w23 : LaneIx := 3
def w24 : Taps := { pre := 1, main := 60, post := 3 }
def w25 : State := lane3 (fun x => { x with st := .train, trainFails := 2 })
theorem witness_LanesComeUp_3_1 :
    (laneOf w25 (↑w23 : ℕ)).st = LaneSt.train ∧
    2 ≤ (laneOf w25 (↑w23 : ℕ)).trainFails := by decide +kernel

end Sys2Proof.Tests.Link2

namespace Sys2Proof.Tests.Link3

set_option Elab.async false

def leapS (w : Word) (sec : Nat) : State := { eng with clk := { eng.clk with now := sec * uSec + 77, utc := w } }
def hold4 : State := engMod 0 (fun x => {x with st := .holdover}) { eng with clk := { eng.clk with utc := 0xC8000025 } }
def eq1 : RxEq := { ctle := 3, dfe1 := 5, eye := 77 }
def w0 : LaneIx := 3
theorem witness_LanesInService_0_0 :
    (laneOf std (↑w0 : ℕ)).st = LaneSt.ready := by decide +kernel

def w1 : LaneIx := 5
def w2 : ℤ := 150
def w3 : RxAdapt := {slicer := [1,2]}
def w4 : State := portMod 4 (fun x => { x with shared := true }) fab
theorem witness_LanesInService_1_0 :
    (laneOf w4 (↑w1 : ℕ)).st = LaneSt.ready ∧
    (laneOf w4 (↑w1 : ℕ)).rxSleep = false ∧
    w2.natAbs ≤ 20000 ∧
    kindFab w4 (portOfLane w4 (↑w1 : ℕ)) = true ∧
    100 < w2.natAbs := by decide +kernel

def w5 : LaneIx := 3
def w6 : ℤ := 15000
def w7 : RxAdapt := {}
theorem witness_LanesInService_1_1 :
    (laneOf std (↑w5 : ℕ)).st = LaneSt.ready ∧
    (laneOf std (↑w5 : ℕ)).rxSleep = false ∧
    w6.natAbs ≤ 20000 ∧
    (kindFab std (portOfLane std (↑w5 : ℕ)) = false ∨ w6.natAbs ≤ 100) := by decide +kernel

def w8 : LaneIx := 3
def w9 : ℤ := 25000
def w10 : RxAdapt := {}
theorem witness_LanesInService_1_2 :
    (laneOf std (↑w8 : ℕ)).st = LaneSt.ready ∧
    (laneOf std (↑w8 : ℕ)).rxSleep = false ∧
    20000 < w9.natAbs := by decide +kernel

def w11 : PortIx := 4
theorem witness_LanesInService_2_0 :
    (portOf fab (↑w11 : ℕ)).st = PortSt.up ∧
    kindFab fab (↑w11 : ℕ) = true ∧
    (∃ l ∈ lanesOf fab (↑w11 : ℕ), (laneOf fab l).st = LaneSt.ready ∧ (laneOf fab l).rxSleep = false) ∧
    (∀ l ∈ lanesOf fab (↑w11 : ℕ), (laneOf fab l).st = LaneSt.ready → (laneOf fab l).rxSleep = false → (laneOf fab l).rxOffset.natAbs ≤ 10) := by decide +kernel

def w12 : LaneIx := 3
def w13 : State := laneMod 3 (fun x => { x with eyeAtReady := 30, ph := { x.ph with excl := 0 } }) std
theorem witness_LanesInService_3_0 :
    (laneOf w13 (↑w12 : ℕ)).st = LaneSt.ready ∧
    2 * 2 < (laneOf w13 (↑w12 : ℕ)).eyeAtReady ∧
    (laneOf w13 (↑w12 : ℕ)).ph.excl ≠ 1 ∧
    fusionOff w13 (↑w12 : ℕ) = false := by decide +kernel

def w14 : LaneIx := 3
def w15 : State := laneMod 3 (fun x => { x with st := .test, pat := { x.pat with chkOn := true, chkSync := true, hist := List.replicate 64 true, errs := 3 } }) std
theorem witness_LanesInService_4_0 :
    (laneOf w15 (↑w14 : ℕ)).pat.chkOn = true ∧
    (laneOf w15 (↑w14 : ℕ)).pat.chkSync = true ∧
    List.count true (laneOf w15 (↑w14 : ℕ)).pat.win < 32 ∧
    (laneOf w15 (↑w14 : ℕ)).pat.errs < 2 ^ 32 := by decide +kernel

def w16 : LaneIx := 3
def w17 : State := laneMod 3 (fun x => { x with st := .test, pat := { x.pat with chkOn := true, chkSync := true, hist := List.replicate 64 true, errs := 3 } }) std
theorem witness_LanesInService_5_0 :
    (laneOf w17 (↑w16 : ℕ)).pat.chkOn = true ∧
    (laneOf w17 (↑w16 : ℕ)).pat.chkSync = true ∧
    nextBit (laneOf w17 (↑w16 : ℕ)).pat.chkPat (laneOf w17 (↑w16 : ℕ)).pat.chkUser (laneOf w17 (↑w16 : ℕ)).pat.hist = some false ∧
    List.count true (List.take 64 (((true ^^ (laneOf w17 (↑w16 : ℕ)).pat.chkInv) != false) :: (laneOf w17 (↑w16 : ℕ)).pat.win)) < 32 := by decide +kernel

end Sys2Proof.Tests.Link3

namespace Sys2Proof.Tests.Link4

set_option Elab.async false

def slp (tx rx : SleepSt) : State := sleepMod 4 (fun x => { x with tx := tx, rx := rx, seq := 9 }) fab
def msg : RxMsg := { lane := 4, ui := 1000, m := 0, laneUi := [1000], seqId := 7, origin := be 10 1000, corr := be 8 (65536 * 3 + 5), twoStep := false, tlv := [] }
def recent (l : Nat) (s : State) : State := laneMod l (fun x => { x with lat := { x.lat with sets := Vector.replicate 6 { source := 4, rxLat := 5 } } }) (phMod l (fun h => { h with recent := [⟨123456789, 990⟩] }) s)
def stdR (role : Int) : State := setPar 0x119 3 role (recent 3 std)
def msg3 : RxMsg := { msg with lane := 3 }
def trk : State := phMod 4 (fun h => { h with excl := 0 }) (servoMod 0 (fun x => { x with st := 3 }) fabT)
def st4 : ℚ := (rxStamp (recent 4 fab) 4 msg).getD 0
def st3 : ℚ := (rxStamp (stdR 3) 3 msg3).getD 0
def tl : TlvLane := ⟨1,2,3,4,5,6,-7,8,-9,10,11⟩
def lpi (tx _rx : Bool) : State := portMod 3 (fun x => {x with txLpi := tx, pause := x.pause}) (setPar 0x103 3 0 std)
def w0 : State := { eng with clk := { eng.clk with utcCfg := some 0x80000025 } }
theorem witness_TheTimeCounter_1_0 :
    utcNow w0 ≠ w0.clk.utc ∧
    leapHeld w0 = false ∧
    leapDue w0.clk.utc (nextSecond w0) = false ∧
    w0.clk.leapAt ≠ some (nextSecond w0) ∧
    w0.clk.kettle = false := by decide +kernel

def w1 : PortIx := 4
theorem witness_TransmitDirectionSleepsAndWakes_0_0 :
    portUsed fab (↑w1 : ℕ) = true ∧
    kindFab fab (↑w1 : ℕ) = true ∧
    (portOf fab (↑w1 : ℕ)).sleep.tx = SleepSt.awake ∧
    (portOf fab (↑w1 : ℕ)).st = PortSt.up ∧
    lanesReady fab (↑w1 : ℕ) = true := by decide +kernel

def w2 : PortIx := 4
def w3 : State := laneMod 5 (fun x => { x with st := .acquire }) fab
theorem witness_TransmitDirectionSleepsAndWakes_0_1 :
    portUsed w3 (↑w2 : ℕ) = true ∧
    kindFab w3 (↑w2 : ℕ) = true ∧
    (portOf w3 (↑w2 : ℕ)).sleep.tx = SleepSt.awake ∧
    lanesReady w3 (↑w2 : ℕ) = false := by decide +kernel

def w4 : PortIx := 4
def w5 : State := slp .requested .awake
theorem witness_TransmitDirectionSleepsAndWakes_1_0 :
    (portOf w5 (↑w4 : ℕ)).sleep.tx = SleepSt.requested ∧
    (portOf w5 (↑w4 : ℕ)).sleep.seq = 9 % 256 ∧
    0 ∉ sleepers w5 (↑w4 : ℕ) := by decide +kernel

def w6 : PortIx := 4
def w7 : State := slp .requested .awake
theorem witness_TransmitDirectionSleepsAndWakes_2_0 :
    (portOf w7 (↑w6 : ℕ)).sleep.tx = SleepSt.requested ∧
    (portOf w7 (↑w6 : ℕ)).sleep.tries < 2 := by decide +kernel

def w8 : PortIx := 4
def w9 : State := sleepMod 4 (fun x => { x with tries := 2 }) (slp .requested .awake)
theorem witness_TransmitDirectionSleepsAndWakes_2_1 :
    (portOf w9 (↑w8 : ℕ)).sleep.tx = SleepSt.requested ∧
    2 ≤ (portOf w9 (↑w8 : ℕ)).sleep.tries := by decide +kernel

def w10 : PortIx := 4
def w11 : State := slp .requested .awake
theorem witness_TransmitDirectionSleepsAndWakes_3_0 :
    (portOf w11 (↑w10 : ℕ)).txLpi = false ∧
    (portOf w11 (↑w10 : ℕ)).sleep.tx = SleepSt.requested := by decide +kernel

def w12 : PortIx := 4
def w13 : State := slp .asleep .awake
theorem witness_TransmitDirectionSleepsAndWakes_3_1 :
    (portOf w13 (↑w12 : ℕ)).txLpi = false ∧
    (portOf w13 (↑w12 : ℕ)).sleep.tx = SleepSt.asleep := by decide +kernel

def w14 : PortIx := 4
def w15 : State := slp .awake .awake
theorem witness_TransmitDirectionSleepsAndWakes_3_2 :
    (portOf w15 (↑w14 : ℕ)).txLpi = false ∧
    (portOf w15 (↑w14 : ℕ)).sleep.tx = SleepSt.awake := by decide +kernel

def w16 : PortIx := 4
def w17 : State := forEach [5,6,7] (fun l => laneMod l (fun x => { x with txSleep := true })) (slp .waking .awake)
theorem witness_TransmitDirectionSleepsAndWakes_4_0 :
    (portOf w17 (↑w16 : ℕ)).sleep.tx = SleepSt.waking ∧
    (portOf w17 (↑w16 : ℕ)).sleep.seq = 9 % 256 ∧
    helloPort w17 (↑w16 : ℕ) = true := by decide +kernel

def w18 : PortIx := 4
theorem witness_ReceiveDirectionFollowsThePeer_0_0 :
    (portOf fab (↑w18 : ℕ)).st = PortSt.up ∧
    kindFab fab (↑w18 : ℕ) = true ∧
    (portOf fab (↑w18 : ℕ)).sleep.wakePending = false := by decide +kernel

def w19 : PortIx := 4
def w20 : State := sleepMod 4 (fun x => { x with wakePending := true }) fab
theorem witness_ReceiveDirectionFollowsThePeer_0_1 :
    (portOf w20 (↑w19 : ℕ)).st = PortSt.up ∧
    kindFab w20 (↑w19 : ℕ) = true ∧
    (portOf w20 (↑w19 : ℕ)).sleep.wakePending = true := by decide +kernel

def w21 : PortIx := 4
def w22 : State := slp .awake .asleep
theorem witness_ReceiveDirectionFollowsThePeer_1_0 :
    (portOf w22 (↑w21 : ℕ)).st = PortSt.up ∧
    kindFab w22 (↑w21 : ℕ) = true ∧
    (portOf w22 (↑w21 : ℕ)).sleep.rx = SleepSt.asleep := by decide +kernel

def w23 : PortIx := 4
def w24 : List (Fin 8) := [5]
def w25 : State := forEach [5,6,7] (fun l => laneMod l (fun x => { x with rxSleep := true })) (slp .awake .waking)
theorem witness_ReceiveDirectionFollowsThePeer_2_0 :
    (portOf w25 (↑w23 : ℕ)).sleep.rx = SleepSt.waking := by decide +kernel

def w26 : PortIx := 4
def w27 : Byte := 0x53
theorem witness_ReceiveDirectionFollowsThePeer_3_0 :
    kindFab fab (↑w26 : ℕ) = true ∧
    w27 ≠ 81 ∧
    w27 ≠ 82 ∧
    w27 ≠ 87 ∧
    w27 ≠ 88 := by decide +kernel

def w28 : GroupIx := 0
def w29 : State := laneMod 5 (fun x => { x with txSleep := true }) fab
theorem witness_ReceiveDirectionFollowsThePeer_4_0 :
    sentinelOf w29 (↑w28 : ℕ) = some 4 ∧
    5 ∈ fabricLanes w29 (↑w28 : ℕ) ∧
    4 < 5 ∧
    (∀ l ∈ fabricLanes w29 (↑w28 : ℕ), 4 < l → 5 ≤ l) ∧
    5 < 192 := by decide +kernel

def w30 : GroupIx := 0
def w31 : ℤ := 410
def w32 : List (Fin 8 × List Sample) := []
theorem witness_GroupServo_0_0 :
    groupLive fab (↑w30 : ℕ) = true ∧
    31 / 8 ≠ (↑w30 : ℕ) ∧
    timingPort fab (↑w30 : ℕ) = none := by decide +kernel

def w33 : List FuseIn := [{ l := 4, e := 0, x := 5, v := 3, r := 0 }, { l := 5, e := 0, x := 7, v := 2, r := 0 }]
theorem witness_GroupServo_1_0 :
    w33 ≠ [] ∧
    (∀ i ∈ w33, 0 < i.v ∧ 0 ≤ i.r) := by decide +kernel

def w34 : FuseIn := { l := 4, e := 0, x := 5, v := 3, r := 0 }
theorem witness_GroupServo_2_0 :
    0 < w34.v ∧
    0 ≤ w34.r := by decide +kernel

def w35 : GroupIx := 0
def w36 : State := servoMod 0 (fun x => { x with st := 4, measN := 64, measSum := 64 * 100000, preMean := 7 }) fabT
theorem witness_GroupServo_3_0 :
    (groupOf w36 (↑w35 : ℕ)).servo.st = 4 ∧
    64 ≤ (groupOf w36 (↑w35 : ℕ)).servo.measN ∧
    stepThreshold w36 (↑w35 : ℕ) ≤ absQ (groupOf (nextOf (exec (Instr.stepMeasureEnd w35) w36)) (↑w35 : ℕ)).servo.delta := by decide +kernel

def w37 : GroupIx := 0
def w38 : State := servoMod 0 (fun x => { x with st := 4, measN := 64, measSum := 64 * 10, preMean := 7 }) fabT
theorem witness_GroupServo_3_1 :
    (groupOf w38 (↑w37 : ℕ)).servo.st = 4 ∧
    64 ≤ (groupOf w38 (↑w37 : ℕ)).servo.measN ∧
    absQ (groupOf (nextOf (exec (Instr.stepMeasureEnd w37) w38)) (↑w37 : ℕ)).servo.delta < stepThreshold w38 (↑w37 : ℕ) := by decide +kernel

def w39 : GroupIx := 0
def w40 : State := servoMod 0 (fun x => { x with st := 2 }) fabT
theorem witness_GroupServo_5_0 :
    ((groupOf w40 (↑w39 : ℕ)).servo.st = 1 ∨ (groupOf w40 (↑w39 : ℕ)).servo.st = 2) ∧
    timingPort w40 (↑w39 : ℕ) = some 4 := by decide +kernel

def w41 : PortIx := 4
def w42 : TxStamp := ⟨4, 7777, 3⟩
theorem witness_LinkDelay_0_0 :
    exchOn fab (↑w41 : ℕ) = true ∧
    (asMaster fab (↑w41 : ℕ) = true ∨ asAs fab (↑w41 : ℕ) = true) ∧
    par fab 280 (↑w41 : ℕ) = 0 ∧
    asAs fab (↑w41 : ℕ) = false ∧
    asSlave fab (↑w41 : ℕ) = true := by decide +kernel

def w43 : PortIx := 3
def w44 : TxStamp := ⟨3, 7777, 3⟩
def w45 : State := stdR 3
theorem witness_LinkDelay_0_1 :
    exchOn w45 (↑w43 : ℕ) = true ∧
    (asMaster w45 (↑w43 : ℕ) = true ∨ asAs w45 (↑w43 : ℕ) = true) ∧
    par w45 280 (↑w43 : ℕ) ≠ 0 ∧
    asAs w45 (↑w43 : ℕ) = true := by decide +kernel

def w46 : PortIx := 3
def w47 : TxStamp := ⟨3, 7777, 3⟩
def w48 : State := stdR 2
theorem witness_LinkDelay_0_2 :
    exchOn w48 (↑w46 : ℕ) = true ∧
    asAs w48 (↑w46 : ℕ) = false ∧
    asSlave w48 (↑w46 : ℕ) = true ∧
    par w48 280 (↑w46 : ℕ) ≠ 0 := by decide +kernel

def w49 : PortIx := 4
theorem witness_LinkDelay_1_0 :
    portUsed fabT (↑w49 : ℕ) = true ∧
    kindFab fabT (↑w49 : ℕ) = true ∧
    groupLive fabT ((↑w49 : ℕ) / 8) = true ∧
    (portOf fabT (↑w49 : ℕ)).ld.dstate = 0 := by decide +kernel

def w50 : PortIx := 4
def w51 : State := ldMod 4 (fun x => { x with dstate := 2 }) fabT
theorem witness_LinkDelay_1_1 :
    portUsed w51 (↑w50 : ℕ) = true ∧
    kindFab w51 (↑w50 : ℕ) = true ∧
    groupLive w51 ((↑w50 : ℕ) / 8) = true ∧
    (portOf w51 (↑w50 : ℕ)).ld.dstate = 2 ∧
    (portOf w51 (↑w50 : ℕ)).ld.peer = none ∧
    (portOf w51 (↑w50 : ℕ)).ld.winDiscard = 0 ∧
    (portOf w51 (↑w50 : ℕ)).ld.lastDisc = false := by decide +kernel

def w52 : PortIx := 4
def w53 : List WlReport := []
def w54 : State := ldMod 4 (fun x => { x with dstate := 2, lastModule := some 5 }) fabT
theorem witness_LinkDelay_2_0 :
    portUsed w54 (↑w52 : ℕ) = true ∧
    (portOf w54 (↑w52 : ℕ)).ld.lastModule ≠ some 77 ∧
    (portOf w54 (↑w52 : ℕ)).ld.lastModule ≠ none ∧
    (portOf w54 (↑w52 : ℕ)).ld.dstate = 2 := by decide +kernel

def w55 : PortIx := 4
def w56 : List WlReport := [⟨1,2,3,4⟩]
def w57 : State := ldMod 4 (fun x => { x with dstate := 2 }) fabT
theorem witness_LinkDelay_2_1 :
    portUsed w57 (↑w55 : ℕ) = true ∧
    (portOf w57 (↑w55 : ℕ)).ld.lastModule ≠ some 77 ∧
    (portOf w57 (↑w55 : ℕ)).ld.lastModule = none := by decide +kernel

def w58 : LaneIx := 5
def w59 : ℚ := 8000 * 55
def w60 : State := phMod 5 (fun h => { h with meas := some (8000, 8000 * 55), excl := 4 }) trk
theorem witness_GroupServo_4_0 :
    (laneOf w60 (↑w58 : ℕ)).ph.meas = some (8000, w59) ∧
    8000 ≤ 8000 ∧
    (laneOf w60 (↑w58 : ℕ)).ph.excl ≠ 0 ∧
    fusionOff w60 (↑w58 : ℕ) = false ∧
    mayReturn w60 (↑w58 : ℕ) = true ∧
    absQ (w59 / (↑8000 : ℚ)) ≤ skewMax := by decide +kernel

def w61 : LaneIx := 5
def w62 : ℚ := 8000 * 55555
def w63 : State := phMod 5 (fun h => { h with meas := some (8000, 8000 * 55555), excl := 4 }) trk
theorem witness_GroupServo_4_1 :
    (laneOf w63 (↑w61 : ℕ)).ph.meas = some (8000, w62) ∧
    8000 ≤ 8000 ∧
    (laneOf w63 (↑w61 : ℕ)).ph.excl ≠ 0 ∧
    fusionOff w63 (↑w61 : ℕ) = false ∧
    mayReturn w63 (↑w61 : ℕ) = true ∧
    skewMax < absQ (w62 / (↑8000 : ℚ)) := by decide +kernel

def w64 : PortIx := 4
def w65 : State := recent 4 fab
theorem witness_TwoWayExchange_0_0 :
    exchOn w65 (↑w64 : ℕ) = true ∧
    asSlave w65 (↑w64 : ℕ) = true ∧
    rxStamp w65 (↑w64 : ℕ) msg = some st4 ∧
    msg.twoStep = false := by decide +kernel

def w66 : PortIx := 4
def w67 : RxMsg := { msg with twoStep := true }
def w68 : State := recent 4 fab
theorem witness_TwoWayExchange_0_1 :
    exchOn w68 (↑w66 : ℕ) = true ∧
    asSlave w68 (↑w66 : ℕ) = true ∧
    rxStamp w68 (↑w66 : ℕ) w67 = some st4 ∧
    w67.twoStep = true := by decide +kernel

def w69 : PortIx := 4
def w70 : List Byte := be 10 1000
def w71 : List Byte := be 8 65541
def w72 : List Byte := []
def w73 : RxEvent := { msg := msg, t := 5555 }
def w74 : State := exchMod 4 (fun x => { x with sync := some { msg := msg, t := 5555 } }) fab
theorem witness_TwoWayExchange_1_0 :
    exchOn w74 (↑w69 : ℕ) = true ∧
    asSlave w74 (↑w69 : ℕ) = true ∧
    (portOf w74 (↑w69 : ℕ)).exch.sync = some w73 ∧
    w73.msg.seqId = 7 := by decide +kernel

def w75 : PortIx := 4
def w76 : State := recent 4 fab
theorem witness_TwoWayExchange_2_0 :
    exchOn w76 (↑w75 : ℕ) = true ∧
    rxStamp w76 (↑w75 : ℕ) msg = some st4 ∧
    asMaster w76 (↑w75 : ℕ) = true := by decide +kernel

def w77 : PortIx := 3
def w78 : State := stdR 3
theorem witness_TwoWayExchange_2_1 :
    exchOn w78 (↑w77 : ℕ) = true ∧
    rxStamp w78 (↑w77 : ℕ) msg3 = some st3 ∧
    asAs w78 (↑w77 : ℕ) = true := by decide +kernel

def w79 : PortIx := 4
def w80 : List Byte := be 10 1000
def w81 : List Byte := be 8 65541
def w82 : ℚ := 100
def w83 : ℚ := 200
def w84 : ℚ := 300
def w85 : State := exchMod 4 (fun x => { x with t3 := some (7, 300), t1 := some 100, t2 := some 200 }) fab
theorem witness_TwoWayExchange_3_0 :
    exchOn w85 (↑w79 : ℕ) = true ∧
    asSlave w85 (↑w79 : ℕ) = true ∧
    (portOf w85 (↑w79 : ℕ)).exch.t3 = some (7, w84) ∧
    (portOf w85 (↑w79 : ℕ)).exch.t1 = some w82 ∧
    (portOf w85 (↑w79 : ℕ)).exch.t2 = some w83 ∧
    (portOf w85 (↑w79 : ℕ)).exch.rts = [] ∧
    (portOf w85 (↑w79 : ℕ)).ld.dstate = 0 := by decide +kernel

def w86 : PortIx := 3
def w87 : List Byte := be 10 2000
def w88 : List Byte := be 8 0
def w89 : ℚ := 77
def w90 : State := exchMod 3 (fun x => { x with pd1 := some (7, 77) }) (stdR 3)
theorem witness_TwoWayExchange_4_0 :
    exchOn w90 (↑w86 : ℕ) = true ∧
    asAs w90 (↑w86 : ℕ) = true ∧
    (portOf w90 (↑w86 : ℕ)).exch.pd1 = some (msg3.seqId, w89) ∧
    rxStamp w90 (↑w86 : ℕ) msg3 = some st3 ∧
    (portOf w90 (↑w86 : ℕ)).exch.pdPrev = none := by decide +kernel

def w91 : PortIx := 3
def w92 : List Byte := be 10 2000
def w93 : List Byte := be 8 0
def w94 : ℚ := 77
def w95 : State := exchMod 3 (fun x => { x with pd1 := some (7, 77), pdPrev := some (5, 6) }) (stdR 3)
theorem witness_TwoWayExchange_4_1 :
    exchOn w95 (↑w91 : ℕ) = true ∧
    asAs w95 (↑w91 : ℕ) = true ∧
    (portOf w95 (↑w91 : ℕ)).exch.pd1 = some (msg3.seqId, w94) ∧
    rxStamp w95 (↑w91 : ℕ) msg3 = some st3 ∧
    (portOf w95 (↑w91 : ℕ)).exch.pdPrev = some (5, 6) ∧
    st3 ≠ 6 := by decide +kernel

def w96 : VemanTlv := ⟨1,1,3,4,5,6,7,8,[tl, tl],none⟩
theorem witness_TwoWayExchange_5_0 :
    tlvFits w96 := by decide +kernel

def w97 : PortIx := 3
def w98 : State := lpi true false
theorem witness_TransmitDirectionSleepsAndWakes_5_0 :
    eeeKind w98 (↑w97 : ℕ) ≠ 0 ∧
    (portOf w98 (↑w97 : ℕ)).st = PortSt.up ∧
    eeeKind w98 (↑w97 : ℕ) = 1 ∧
    (portOf w98 (↑w97 : ℕ)).txLpi = true := by decide +kernel

end Sys2Proof.Tests.Link4
end

