-- ==== Sys2Proof/Tests/WitnessTime.lean ====
section
/-! SUPPORT. Witnesses: for each statement and each of its clauses, a state and operands that meet the hypotheses. -/

open Sys2Proof Sys2Proof.Machine

namespace Sys2Proof.Tests.Time1

set_option Elab.async false

def vw (r : Nat) (st : RefSt) (why : Nat) (s : State) : State := viewMod r (fun v => { v with st := st, reason := why }) s
def lk (st : ServoSt) (f : Engine → Engine) : State := engMod 0 (fun x => f { x with st := st, sel := some 2 }) (vw 2 .available 0 eng)
def meas : CycleMeas := { edges := [(2, [1000])], cmp := 5, standby := some 3, ackA := true, ackB := true, memBadA := false, memBadB := false, tdc := none }
def rec512 : List Byte := List.replicate 508 (0 : Byte) ++ le 4 (crc32 (List.replicate 508 (0 : Byte))).toNat
def tie : State := ksMod (fun k => { k with tieOut := rec512 }) eng
def todm : List Byte := [0xA5, 0x5A, 0x01, 0x0C, 0, 0, 0, 0, 0x10, 0x00, 0, 37, 0, 0, 0, 0]
def fixTod (l : List Byte) : List Byte := l.set 15 (BitVec.ofNat 8 (256 - ((l.drop 2).map (·.toNat)).sum % 256))
def wnd : State := refMod 2 (fun r => { r with wandN := 8000, wander := [(5, 3), (3, 2), (1, 1)] }) (vw 2 .disqualified 3 eng)
def wnd5 : State := refMod 5 (fun r => { r with wandN := 8000, wander := (List.range 16).map (fun (n : Nat) => (20 - n, (n : Rat))) }) (vw 5 .disqualified 3 eng)
def mrS (y : Rat) : State := setPar 0x28 1 1 (setPar 0x29 1 1 (engxMod 0 (fun x => { x with modelReady := true, ySec := [y] }) (lk .locked id)))
theorem witness_ReferenceMonitoring_0_0 :
    cyclesRun eng = true := by decide +kernel

theorem witness_ReferenceMonitoring_0_1 :
    cyclesRun up = false := by decide +kernel

def w0 : Fin 32 := 2
def w1 : State := refMod 2 (fun r => { r with wandN := 8000, wander := [(5, 300000000000), (3, 200), (1, 1)] }) (vw 2 .qualifying 0 eng)
theorem witness_ReferenceMonitoring_1_0 :
    refPresent w1 (↑w0 : ℕ) = true ∧
    ((viewOf w1 (↑w0 : ℕ)).st = RefSt.qualifying ∨ (viewOf w1 (↑w0 : ℕ)).st = RefSt.wtr ∨ (viewOf w1 (↑w0 : ℕ)).st = RefSt.available ∨ (viewOf w1 (↑w0 : ℕ)).st = RefSt.suspect) ∧
    wanderDue w1 (↑w0 : ℕ) = true ∧
    (wanderOf (refOf w1 (↑w0 : ℕ)).wander).isSome = true ∧
    (↑(par w1 10 (↑w0 : ℕ)) : ℚ) < (wanderOf (refOf w1 (↑w0 : ℕ)).wander).getD 0 ∧
    isExt (↑w0 : ℕ) = true := by decide +kernel

def w2 : Fin 32 := 2
def w3 : ℤ := 5
def w4 : State := vw 2 .disqualified 2 eng
theorem witness_ReferenceMonitoring_2_0 :
    refPresent w4 (↑w2 : ℕ) = true ∧
    |w3| ≤ par w4 9 (↑w2 : ℕ) ∧
    (viewOf w4 (↑w2 : ℕ)).st = RefSt.disqualified ∧
    (viewOf w4 (↑w2 : ℕ)).reason = 2 := by decide +kernel

def w5 : Fin 32 := 2
def w6 : State := refMod 2 (fun r => { r with okFreq := true, okWander := true, okSignal := true }) (vw 2 .qualifying 0 eng)
theorem witness_ReferenceMonitoring_4_0 :
    (viewOf w6 (↑w5 : ℕ)).st = RefSt.qualifying ∧
    (refOf w6 (↑w5 : ℕ)).okFreq = true ∧
    (refOf w6 (↑w5 : ℕ)).okWander = true ∧
    (refOf w6 (↑w5 : ℕ)).okSignal = true := by decide +kernel

def w7 : Fin 32 := 2
def w8 : State := vw 2 .wtr 0 eng
theorem witness_ReferenceMonitoring_5_0 :
    (viewOf w8 (↑w7 : ℕ)).st = RefSt.wtr := by decide +kernel

def w9 : Fin 32 := 2
def w10 : State := vw 2 .disqualified 5 eng
theorem witness_ReferenceMonitoring_6_0 :
    (viewOf w10 (↑w9 : ℕ)).st = RefSt.disqualified ∧
    ((viewOf w10 (↑w9 : ℕ)).reason = 5 ∨ (viewOf w10 (↑w9 : ℕ)).reason = 6 ∨ (viewOf w10 (↑w9 : ℕ)).reason = 8) := by decide +kernel

def w11 : GroupIx := 0
def w12 : State := ldMod 4 (fun x => { x with dstate := 3 }) (vw 8 .available 0 fabT)
theorem witness_ReferenceMeasurements_0_0 :
    timingPort w12 (↑w11 : ℕ) = some 4 ∧
    (portOf w12 4).ld.dstate = 3 ∧
    (viewOf w12 ((↑w11 : ℕ) + 8)).st = RefSt.available := by decide +kernel

def w13 : Fin 32 := 2
def w14 : State := condMod 2 (fun c => { c with measuring := true, measN := 64, measSum := 6400, preMean := 99 }) (lk .locked id)
theorem witness_ReferenceMeasurements_2_0 :
    isExt (↑w13 : ℕ) = true ∧
    (refOf w14 (↑w13 : ℕ)).cond.measuring = true ∧
    64 ≤ (refOf w14 (↑w13 : ℕ)).cond.measN ∧
    absQ ((refOf w14 (↑w13 : ℕ)).cond.measSum / 64 - (refOf w14 (↑w13 : ℕ)).cond.preMean) < (↑(par w14 7 (↑w13 : ℕ)) : ℚ) := by decide +kernel

def w15 : State := lk .locked id
theorem witness_ReferenceMeasurements_3_0 :
    (engxOf w15 (ctl w15)).modelReady = false ∧
    autoMode w15 (ctl w15) = true := by decide +kernel

def w16 : List Byte := [1,2,3]
theorem witness_ReferenceMeasurements_5_0 :
    (w16.length ≠ 16 ∨ false = true ∨ 20000 < 10000 ∨ 900000 < 20000) := by decide +kernel

def w17 : State := {up with te := {up.te with tod := {up.te.tod with label := some 5}}}
theorem witness_ReferenceMeasurements_7_0 :
    w17.te.tod.label ≠ none := by decide +kernel

def w18 : ℤ := 12345
def w19 : State := lk .acquire id
theorem witness_EngineServo_0_0 :
    (engOf w19 (ctl w19)).st = ServoSt.acquire ∧
    (engOf w19 (ctl w19)).acqPhase = 0 ∧
    (engOf w19 (ctl w19)).sw = none ∧
    (engOf w19 (ctl w19)).sel = some 2 := by decide +kernel

def w20 : State := lk .acquire (fun x => { x with acqPhase := 2 })
theorem witness_EngineServo_1_0 :
    ((engOf w20 (ctl w20)).st = ServoSt.acquire ∨ (engOf w20 (ctl w20)).st = ServoSt.locked) ∧
    (engOf w20 (ctl w20)).acqPhase = 2 := by decide +kernel

def w21 : State := lk .acquire (fun x => { x with acqPhase := 3, lockCnt := 8000 })
theorem witness_EngineServo_2_0 :
    (engOf w21 (ctl w21)).st = ServoSt.acquire ∧
    8000 ≤ (engOf w21 (ctl w21)).lockCnt := by decide +kernel

def w22 : State := lk .locked (fun x => { x with unlockCnt := 8000 })
theorem witness_EngineServo_3_0 :
    (engOf w22 (ctl w22)).sel = some 2 ∧
    (engOf w22 (ctl w22)).st = ServoSt.locked ∧
    8000 ≤ (engOf w22 (ctl w22)).unlockCnt := by decide +kernel

def w23 : SwitchSt := ⟨64, some 2, 3, false, 6400, false⟩
def w24 : State := lk .locked (fun x => { x with sw := some ⟨64, some 2, 3, false, 6400, false⟩ })
theorem witness_EngineServo_4_0 :
    (engOf w24 (ctl w24)).sw = some w23 ∧
    64 ≤ w23.cycle ∧
    w23.incoming < 32 := by decide +kernel

def w25 : State := engxMod 0 (fun x => { x with ySec := [5] }) (lk .locked id)
theorem witness_EngineServo_5_0 :
    cyclesRun w25 = true ∧
    mayLearn w25 = true := by decide +kernel

def w26 : ℤ := 55
def w27 : Fin 2 := 0
def w28 : Fin 2 := 1
def w29 : State := engxMod 0 (fun x => { x with claim := 3 }) (lk .locked id)
theorem witness_KeystoneControl_0_0 :
    accepted w29 = some w28 ∧
    w29.te.ks.control = some w27 ∧
    w29.clk.kettle = false ∧
    w27 ≠ w28 := by decide +kernel

def w30 : ℤ := 55
def w31 : Fin 2 := 0
def w32 : Fin 2 := 0
def w33 : State := lk .locked id
theorem witness_KeystoneControl_0_1 :
    accepted w33 = some w32 ∧
    w33.te.ks.control = some w31 ∧
    w33.clk.kettle = false ∧
    w31 = w32 := by decide +kernel

def w34 : EngIx := 0
theorem witness_KeystoneControl_2_0 :
    (engxOf eng (↑w34 : ℕ)).on = true ∧
    2 < (engxOf eng (↑w34 : ℕ)).health := by decide +kernel

def w35 : EngIx := 0
def w36 : ℤ := 55
theorem witness_KeystoneControl_3_0 :
    eng.te.ks.control = some w35 ∧
    (engxOf eng (1 - (↑w35 : ℕ))).claim ≠ 0 := by decide +kernel

def w37 : EngIx := 1
def w38 : ℤ := 55
theorem witness_KeystoneControl_3_1 :
    eng.te.ks.control ≠ some w37 := by decide +kernel

def w39 : List (ℕ × Byte) := []
theorem witness_KeystoneComparison_0_0 :
    (engxOf tie (tieReceiver tie)).on = true ∧
    tie.te.ks.tieOut ≠ [] ∧
    tieValid (withNoise tie.te.ks.tieOut w39) = true := ⟨by decide +kernel, by decide +kernel, tie_valid _ (by decide +kernel)⟩

def w40 : List (ℕ × Byte) := [(508, 1)]
theorem witness_KeystoneComparison_0_1 :
    (engxOf tie (tieReceiver tie)).on = true ∧
    tie.te.ks.tieOut ≠ [] ∧
    tieValid (withNoise tie.te.ks.tieOut w40) = false := ⟨by decide +kernel, by decide +kernel, tie_noise _ (by decide +kernel)⟩

def w41 : State := engxMod 1 (fun x => { x with silent := 64 }) tie
theorem witness_KeystoneComparison_1_0 :
    engLive w41 (1 - ctl w41) = true ∧
    64 ≤ (engxOf w41 (1 - ctl w41)).silent ∧
    4 ≤ (engxOf w41 (1 - ctl w41)).health := by decide +kernel

def w42 : List (Fin 32 × ℤ × ℤ) := []
def w43 : State := ksMod (fun k => { k with disagree := 10 }) tie
theorem witness_KeystoneComparison_2_0 :
    (parV w43 66).toNat ≤ w43.te.ks.disagree ∧
    bothLive w43 = true := by decide +kernel

def w44 : EngIx := 1
def w45 : ℤ := 5
theorem witness_KeystoneComparison_3_0 :
    engLive eng (↑w44 : ℕ) = true ∧
    absQ (↑w45 : ℚ) ≤ 281474976710656 / 100000000000 ∧
    |(engOf eng (↑w44 : ℕ)).y| ≤ parE eng 39 (↑w44 : ℕ) := by decide +kernel

def w46 : EngIx := 1
def w47 : ℤ := 50000
theorem witness_KeystoneComparison_3_1 :
    engLive eng (↑w46 : ℕ) = true ∧
    281474976710656 / 100000000000 < absQ (↑w47 : ℚ) := by decide +kernel

def w48 : EngIx := 1
theorem witness_KeystoneComparison_4_0 :
    engLive eng (↑w48 : ℕ) = true := by decide +kernel

def w49 : EngIx := 1
def w50 : State := engxMod 1 (fun x => { x with health := 6 }) eng
theorem witness_KeystoneComparison_5_0 :
    (engxOf w50 (↑w49 : ℕ)).health = 6 ∧
    (w50.te.ks.control = none ∨ wouldAccept w50 (basesNow w50) w50.te.ks.pref (if (↑w49 : ℕ) = 0 then (7, (engxOf w50 1).health) else ((engxOf w50 0).health, 7)) = w50.te.ks.control) := by decide +kernel

def w51 : EngIx := 0
def w52 : State := engxMod 0 (fun x => { x with health := 6, claim := 0xC9 }) (ksMod (fun k => { k with control := some 1 }) eng)
theorem witness_KeystoneComparison_5_1 :
    (engxOf w52 (↑w51 : ℕ)).health = 6 ∧
    ((wouldAccept w52 (basesNow w52) w52.te.ks.pref (if (↑w51 : ℕ) = 0 then (7, (engxOf w52 1).health) else ((engxOf w52 0).health, 7))).isSome = true) ∧
    (w52.te.ks.control).isSome = true ∧
    ((wouldAccept w52 (basesNow w52) w52.te.ks.pref (if (↑w51 : ℕ) = 0 then (7, (engxOf w52 1).health) else ((engxOf w52 0).health, 7))).getD 0 ≠ w52.te.ks.control.getD 0) ∧
    w52.te.ks.disagree = 0 ∧
    w52.te.ks.align = none := by decide +kernel

def w53 : EngIx := 1
def w54 : State := engxMod 1 (fun x => { x with health := 2, agreeSince := some 0, passes := Vector.replicate 6 1 }) eng
theorem witness_KeystoneComparison_6_0 :
    (engxOf w54 (↑w53 : ℕ)).health = 2 ∧
    (engxOf w54 (↑w53 : ℕ)).agreeSince ≠ none ∧
    (((checksOf w54 (↑w53 : ℕ)).all fun k => decide (1 ≤ vget (engxOf w54 (↑w53 : ℕ)).passes k 0)) = true) := by decide +kernel

def w55 : State := ksMod (fun k => { k with align := some .software, alignOk := 8 }) eng
theorem witness_KeystoneComparison_7_0 :
    w55.te.ks.align ≠ none ∧
    8 ≤ w55.te.ks.alignOk := by decide +kernel

def w56 : Fin 32 := 2
def w57 : ℚ := (wanderOf (refOf wnd 2).wander).getD 0
theorem witness_ReferenceMonitoring_3_0 :
    refPresent wnd (↑w56 : ℕ) = true ∧
    wanderDue wnd (↑w56 : ℕ) = true ∧
    wanderOf (refOf wnd (↑w56 : ℕ)).wander = some w57 ∧
    w57 ≤ (↑(par wnd 10 (↑w56 : ℕ)) : ℚ) ∧
    (viewOf wnd (↑w56 : ℕ)).st = RefSt.disqualified ∧
    (viewOf wnd (↑w56 : ℕ)).reason = 3 := by decide +kernel

def w58 : List Byte := fixTod todm
theorem witness_ReferenceMeasurements_6_0 :
    w58.length = 16 ∧
    fieldBe w58 0 4 = 2774139148 ∧
    ((List.map (fun x => BitVec.toNat x) (List.drop 2 w58)).sum % 256 = 0) ∧
    10000 ≤ 20000 ∧
    20000 ≤ 900000 := by decide +kernel

def w59 : EngIx := 0
def w60 : State := lk .locked id
theorem witness_EngineServo_7_0 :
    (engxOf w60 (↑w59 : ℕ)).on = true ∧
    parE w60 48 (↑w59 : ℕ) = 0 := by decide +kernel

def w61 : EngIx := 1
def w62 : State := engMod 1 (fun x => { x with tempFails := 2 }) (lk .locked id)
theorem witness_EngineServo_8_0 :
    (engxOf w62 (↑w61 : ℕ)).on = true ∧
    2 ≤ (engOf w62 (↑w61 : ℕ)).tempFails := by decide +kernel

def w63 : State := lk .swClosed id
theorem witness_EngineServo_9_0 :
    (engOf w63 (ctl w63)).st = ServoSt.swClosed ∧
    (engOf w63 (ctl w63)).hoInSw = false := by decide +kernel

def w64 : State := ksMod (fun k => { k with align := some .reclaim, alignCyc := 64, alignTo := 1 }) eng
theorem witness_KeystoneComparison_8_0 :
    w64.te.ks.align = some AlignWhy.reclaim ∧
    AlignWhy.reclaim ≠ AlignWhy.powerDown ∧
    64 ≤ w64.te.ks.alignCyc ∧
    w64.te.ks.alignDone = false := by decide +kernel

def w65 : EngIx := 1
def w66 : State := engxMod 1 (fun x => { x with booting := true, loaded := true }) eng
theorem witness_KeystoneComparison_9_0 :
    (engxOf w66 (↑w65 : ℕ)).on = true ∧
    (engxOf w66 (↑w65 : ℕ)).booting = true ∧
    mayStart w66 (↑w65 : ℕ) = true := by decide +kernel

end Sys2Proof.Tests.Time1

namespace Sys2Proof.Tests.Time2

set_option Elab.async false

def vw (r : Nat) (st : RefSt) (why : Nat) (s : State) : State := viewMod r (fun v => { v with st := st, reason := why }) s
def lk (st : ServoSt) (f : Engine → Engine) : State := engMod 0 (fun x => f { x with st := st, sel := some 2, y := 77 }) (vw 2 .available 0 eng)
def ts (m v : Nat) : List Byte := le 1 m ++ le 7 0 ++ le 8 v
def q (op : Nat) (p : List Byte) (s : State) : State := cmdAt 1 op p s
def us (m w : Nat) : List Byte := le 1 m ++ le 3 0 ++ le 4 w
def rq (r a : Nat) : List Byte := le 1 r ++ le 1 a ++ le 2 0
def tg (j w x per c : Nat) : List Byte := le 1 j ++ le 3 0 ++ le 4 w ++ fullBytes x ++ le 8 per ++ le 4 c ++ le 4 0
def tp := tg 2 100 1000000000000 1000000 5
def te0 : TrigEntry := { handle := 3, start := 1048576000, width := 100, period := 1000000, count := 5 }
def w0 : Origin := .host 1
def w1 : List Byte := ts 0 1000
def w2 : State := q 0x201 (ts 0 1000) eng
theorem witness_TimeAndReferenceCommands_0_0 :
    commandAt w2 w0 513 = some w1 ∧
    zeros w1 1 7 = true ∧
    1000 = Machine.fieldLe w1 8 8 ∧
    Machine.fieldLe w1 0 1 = 0 ∧
    1000 < 2 ^ 48 := by decide +kernel

def w3 : Origin := .host 1
def w4 : List Byte := ts 1 1000
def w5 : State := q 0x201 (ts 1 1000) eng
theorem witness_TimeAndReferenceCommands_0_1 :
    commandAt w5 w3 513 = some w4 ∧
    zeros w4 1 7 = true ∧
    1000 = Machine.fieldLe w4 8 8 ∧
    Machine.fieldLe w4 0 1 = 1 ∧
    0 ≤ (↑(edgeSeconds w5 * uSec) : ℤ) + toSigned 64 1000 ∧
    (↑(edgeSeconds w5 * uSec) : ℤ) + toSigned 64 1000 < (↑timeSpan : ℤ) := by decide +kernel

def w6 : Origin := .host 1
def w7 : List Byte := ts 2 0
def w8 : State := q 0x201 (ts 2 0) { eng with clk := { eng.clk with step := some ⟨5, true⟩ } }
theorem witness_TimeAndReferenceCommands_0_2 :
    commandAt w8 w6 513 = some w7 ∧
    zeros w7 1 7 = true ∧
    0 = Machine.fieldLe w7 8 8 ∧
    Machine.fieldLe w7 0 1 = 2 ∧
    0 = 0 := by decide +kernel

def w9 : Origin := .host 1
def w10 : List Byte := us 0 0x80000025
def w11 : State := q 0x202 (us 0 0x80000025) eng
theorem witness_TimeAndReferenceCommands_1_0 :
    commandAt w11 w9 514 = some w10 ∧
    zeros w10 1 3 = true ∧
    2147483685 = Machine.fieldLe w10 4 4 ∧
    bits 2147483685 16 13 = 0 ∧
    bits 2147483685 29 2 ≠ 3 ∧
    Machine.fieldLe w10 0 1 ≤ 2 ∧
    (Machine.fieldLe w10 0 1 = 2 → 2147483685 = 0) := by decide +kernel

def w12 : Origin := .host 1
def w13 : List Byte := le 4 2
def w14 : State := q 0x211 (le 4 2) (lk .locked id)
theorem witness_TimeAndReferenceCommands_2_0 :
    commandAt w14 w12 529 = some w13 ∧
    2 = Machine.fieldLe w13 0 1 ∧
    zeros w13 1 3 = true ∧
    (2 = 255 ∨ 2 ∈ refList) ∧
    autoMode w14 (ctl w14) = true ∧
    (2 = 255 ∨ selectable w14 2 = true) ∧
    (engOf w14 (ctl w14)).sw = none := by decide +kernel

def w15 : Origin := .host 1
def w16 : List Byte := le 4 3
def w17 : State := q 0x211 (le 4 3) (lk .locked id)
theorem witness_TimeAndReferenceCommands_2_1 :
    commandAt w17 w15 529 = some w16 ∧
    3 = Machine.fieldLe w16 0 1 ∧
    zeros w16 1 3 = true ∧
    (3 = 255 ∨ 3 ∈ refList) ∧
    autoMode w17 (ctl w17) = true ∧
    3 ≠ 255 ∧
    selectable w17 3 = false := by decide +kernel

def w18 : Origin := .host 1
def w19 : List Byte := le 4 2
def w20 : State := q 0x211 (le 4 2) (lk .swOpen id)
theorem witness_TimeAndReferenceCommands_2_2 :
    commandAt w20 w18 529 = some w19 ∧
    2 = Machine.fieldLe w19 0 1 ∧
    zeros w19 1 3 = true ∧
    (2 = 255 ∨ 2 ∈ refList) ∧
    autoMode w20 (ctl w20) = false := by decide +kernel

def w21 : Origin := .host 1
def w22 : List Byte := le 4 255
def w23 : State := q 0x211 (le 4 255) (lk .locked (fun x => { x with sw := some ⟨3, none, 3, false, 0, false⟩ }))
theorem witness_TimeAndReferenceCommands_2_3 :
    commandAt w23 w21 529 = some w22 ∧
    255 = Machine.fieldLe w22 0 1 ∧
    zeros w22 1 3 = true ∧
    (255 = 255 ∨ 255 ∈ refList) ∧
    autoMode w23 (ctl w23) = true ∧
    (255 = 255 ∨ selectable w23 255 = true) ∧
    (engOf w23 (ctl w23)).sw ≠ none := by decide +kernel

def w24 : Origin := .host 1
def w25 : List Byte := rq 4 0
def w26 : State := q 0x212 (rq 4 0) (vw 4 .disqualified 3 eng)
theorem witness_TimeAndReferenceCommands_3_0 :
    commandAt w26 w24 530 = some w25 ∧
    4 = Machine.fieldLe w25 0 1 ∧
    4 ∈ refList ∧
    zeros w25 2 2 = true ∧
    Machine.fieldLe w25 1 1 = 0 ∧
    (viewOf w26 4).st = RefSt.disqualified := by decide +kernel

def w27 : Origin := .host 1
def w28 : List Byte := rq 4 0
def w29 : State := q 0x212 (rq 4 0) (vw 4 .suspect 3 eng)
theorem witness_TimeAndReferenceCommands_3_1 :
    commandAt w29 w27 530 = some w28 ∧
    4 = Machine.fieldLe w28 0 1 ∧
    4 ∈ refList ∧
    zeros w28 2 2 = true ∧
    Machine.fieldLe w28 1 1 = 0 ∧
    (viewOf w29 4).st = RefSt.suspect := by decide +kernel

def w30 : Origin := .host 1
def w31 : List Byte := rq 2 1
def w32 : State := q 0x212 (rq 2 1) (lk .locked id)
theorem witness_TimeAndReferenceCommands_3_2 :
    commandAt w32 w30 530 = some w31 ∧
    2 = Machine.fieldLe w31 0 1 ∧
    2 ∈ refList ∧
    zeros w31 2 2 = true ∧
    Machine.fieldLe w31 1 1 = 1 ∧
    (viewOf w32 2).st ≠ RefSt.disabled := by decide +kernel

def w33 : Origin := .host 1
def w34 : List Byte := rq 2 0
def w35 : State := q 0x213 (rq 2 0) (lk .locked id)
theorem witness_TimeAndReferenceCommands_4_0 :
    commandAt w35 w33 531 = some w34 ∧
    2 = Machine.fieldLe w34 0 1 ∧
    2 ∈ refList ∧
    zeros w34 1 3 = true ∧
    (engOf w35 (ctl w35)).sw = none ∧
    (engOf w35 (ctl w35)).sel = some 2 := by decide +kernel

def w36 : Origin := .host 1
def w37 : List Byte := rq 3 0
def w38 : State := q 0x213 (rq 3 0) (lk .locked id)
theorem witness_TimeAndReferenceCommands_4_1 :
    commandAt w38 w36 531 = some w37 ∧
    3 = Machine.fieldLe w37 0 1 ∧
    3 ∈ refList ∧
    zeros w37 1 3 = true ∧
    ((engOf w38 (ctl w38)).sw ≠ none ∨ (engOf w38 (ctl w38)).sel ≠ some 3) := by decide +kernel

def w39 : Origin := .host 1
def w40 : List Byte := le 4 1
def w41 : Fin 2 := 0
def w42 : State := q 0x221 (le 4 1) (lk .locked id)
theorem witness_SteeringAndModelCommands_0_0 :
    commandAt w42 w39 545 = some w40 ∧
    zeros w40 1 3 = true ∧
    w42.te.ks.control = some w41 ∧
    Machine.fieldLe w40 0 1 = 1 ∧
    (engOf w42 (↑w41 : ℕ)).st ≠ ServoSt.swOpen := by decide +kernel

def w43 : Origin := .host 1
def w44 : List Byte := le 4 2
def w45 : Fin 2 := 0
def w46 : State := q 0x221 (le 4 2) (lk .locked id)
theorem witness_SteeringAndModelCommands_0_1 :
    commandAt w46 w43 545 = some w44 ∧
    zeros w44 1 3 = true ∧
    w46.te.ks.control = some w45 ∧
    Machine.fieldLe w44 0 1 = 2 ∧
    (engOf w46 (↑w45 : ℕ)).st ≠ ServoSt.swClosed := by decide +kernel

def w47 : Origin := .host 1
def w48 : List Byte := le 4 0
def w49 : Fin 2 := 0
def w50 : State := q 0x221 (le 4 0) (lk .swClosed id)
theorem witness_SteeringAndModelCommands_0_2 :
    commandAt w50 w47 545 = some w48 ∧
    zeros w48 1 3 = true ∧
    w50.te.ks.control = some w49 ∧
    Machine.fieldLe w48 0 1 = 0 ∧
    autoMode w50 (↑w49 : ℕ) = false ∧
    Machine.wantedRef w50 none = some 2 := by decide +kernel

def w51 : Origin := .host 1
def w52 : List Byte := le 4 0
def w53 : Fin 2 := 0
def w54 : State := q 0x221 (le 4 0) (lk .locked id)
theorem witness_SteeringAndModelCommands_0_3 :
    commandAt w54 w51 545 = some w52 ∧
    zeros w52 1 3 = true ∧
    w54.te.ks.control = some w53 ∧
    Machine.fieldLe w52 0 1 = 0 ∧
    autoMode w54 (↑w53 : ℕ) = true := by decide +kernel

def w55 : Origin := .host 1
def w56 : List Byte := le 8 55
def w57 : State := q 0x222 (le 8 55) (lk .swOpen id)
theorem witness_SteeringAndModelCommands_1_0 :
    commandAt w57 w55 546 = some w56 ∧
    |toSigned 64 (Machine.fieldLe w56 0 8)| ≤ parE w57 39 (ctl w57) ∧
    ctlIn w57 ServoSt.swOpen = true := by decide +kernel

def w58 : Origin := .host 1
def w59 : List Byte := le 8 55
def w60 : State := q 0x222 (le 8 55) (lk .locked id)
theorem witness_SteeringAndModelCommands_1_1 :
    commandAt w60 w58 546 = some w59 ∧
    |toSigned 64 (Machine.fieldLe w59 0 8)| ≤ parE w60 39 (ctl w60) ∧
    ctlIn w60 ServoSt.swOpen = false := by decide +kernel

def w61 : Origin := .host 1
def w62 : List Byte := fullBytes 5000 ++ le 8 9
def w63 : State := q 0x223 (fullBytes 5000 ++ le 8 9) { lk .swClosed id with clk := { (lk .swClosed id).clk with now := 6000 } }
theorem witness_SteeringAndModelCommands_2_0 :
    commandAt w63 w61 547 = some w62 ∧
    fullOf (slice w62 0 16) = some 5000 ∧
    5000 ≤ w63.clk.now ∧
    w63.clk.now ≤ 5000 + uSec ∧
    ctlIn w63 ServoSt.swClosed = true := by decide +kernel

def w64 : Origin := .host 1
def w65 : List Byte := fullBytes 5000 ++ le 8 9
def w66 : State := q 0x223 (fullBytes 5000 ++ le 8 9) { lk .locked id with clk := { (lk .swClosed id).clk with now := 6000 } }
theorem witness_SteeringAndModelCommands_2_1 :
    commandAt w66 w64 547 = some w65 ∧
    fullOf (slice w65 0 16) = some 5000 ∧
    5000 ≤ w66.clk.now ∧
    w66.clk.now ≤ 5000 + uSec ∧
    ctlIn w66 ServoSt.swClosed = false := by decide +kernel

def w67 : Origin := .host 1
def w68 : List Byte := le 4 1 ++ le 4 3600
def w69 : State := q 0x224 (le 4 1 ++ le 4 3600) (lk .locked id)
theorem witness_SteeringAndModelCommands_3_0 :
    commandAt w69 w67 548 = some w68 ∧
    Machine.fieldLe w68 0 1 ≤ 1 ∧
    zeros w68 1 3 = true := by decide +kernel

def w70 : Origin := .host 1
def w71 : List Byte := le 4 1
def w72 : State := q 0x225 (le 4 1) (engMod 0 (fun x => { x with learned := 6 }) (lk .locked id))
theorem witness_SteeringAndModelCommands_4_0 :
    commandAt w72 w70 549 = some w71 ∧
    Machine.fieldLe w71 0 1 ≤ 3 ∧
    zeros w71 1 3 = true := by decide +kernel

def w73 : Origin := .host 1
def w74 : List Byte := le 4 1
def w75 : State := q 0x226 (le 4 1) (engxMod 1 (fun x => { x with health := 1, faultedAt := [5] }) eng)
theorem witness_SteeringAndModelCommands_5_0 :
    commandAt w75 w73 550 = some w74 ∧
    1 = Machine.fieldLe w74 0 1 ∧
    1 ≤ 1 ∧
    zeros w74 1 3 = true ∧
    (engxOf w75 1).health = 1 := by decide +kernel

def w76 : Origin := .host 1
def w77 : List Byte := le 4 1
def w78 : State := q 0x226 (le 4 1) eng
theorem witness_SteeringAndModelCommands_5_1 :
    commandAt w78 w76 550 = some w77 ∧
    1 = Machine.fieldLe w77 0 1 ∧
    1 ≤ 1 ∧
    zeros w77 1 3 = true ∧
    (engxOf w78 1).health ≠ 1 := by decide +kernel

def w79 : Origin := .host 1
def w80 : State := q 0x310 tp eng
theorem witness_TriggerCommands_0_0 :
    commandAt w80 w79 784 = some tp ∧
    2 = Machine.fieldLe tp 0 1 ∧
    2 ≤ 7 ∧
    100 = Machine.fieldLe tp 4 4 ∧
    1000000 = Machine.fieldLe tp 24 8 ∧
    fullOf (slice tp 8 16) = some 1000000000000 ∧
    zeros tp 1 3 = true ∧
    zeros tp 36 4 = true ∧
    1 ≤ 100 ∧
    100 ≤ 2 ^ 28 ∧
    w80.clk.now + 10 * uUs ≤ 1000000000000 ∧
    (1000000 = 0 ∨ 3200 + 1600 * 100 ≤ 1000000 ∧ 1000000 ≤ 1000000000000000) ∧
    domOn w80 13 = true ∧
    (trigOf w80 2).queue = [] ∧
    (trigOf w80 2).last = none := by decide +kernel

def w81 : Origin := .host 1
def w82 : State := q 0x310 tp (dom 13 .off eng)
theorem witness_TriggerCommands_0_1 :
    commandAt w82 w81 784 = some tp ∧
    2 = Machine.fieldLe tp 0 1 ∧
    2 ≤ 7 ∧
    100 = Machine.fieldLe tp 4 4 ∧
    1000000 = Machine.fieldLe tp 24 8 ∧
    fullOf (slice tp 8 16) = some 1000000000000 ∧
    zeros tp 1 3 = true ∧
    zeros tp 36 4 = true ∧
    1 ≤ 100 ∧
    100 ≤ 2 ^ 28 ∧
    w82.clk.now + 10 * uUs ≤ 1000000000000 ∧
    (1000000 = 0 ∨ 3200 + 1600 * 100 ≤ 1000000 ∧ 1000000 ≤ 1000000000000000) ∧
    domOn w82 13 = false := by decide +kernel

def w83 : Origin := .host 1
def w84 : State := q 0x310 tp (trigMod 2 (fun t => { t with queue := List.replicate 16 te0 }) eng)
theorem witness_TriggerCommands_0_2 :
    commandAt w84 w83 784 = some tp ∧
    2 = Machine.fieldLe tp 0 1 ∧
    2 ≤ 7 ∧
    100 = Machine.fieldLe tp 4 4 ∧
    1000000 = Machine.fieldLe tp 24 8 ∧
    fullOf (slice tp 8 16) = some 1000000000000 ∧
    zeros tp 1 3 = true ∧
    zeros tp 36 4 = true ∧
    1 ≤ 100 ∧
    100 ≤ 2 ^ 28 ∧
    w84.clk.now + 10 * uUs ≤ 1000000000000 ∧
    (1000000 = 0 ∨ 3200 + 1600 * 100 ≤ 1000000 ∧ 1000000 ≤ 1000000000000000) ∧
    domOn w84 13 = true ∧
    16 ≤ (trigOf w84 2).queue.length := by decide +kernel

def w85 : Origin := .host 1
def w86 : State := q 0x310 tp (trigMod 2 (fun t => { t with queue := [{ te0 with count := 0 }] }) eng)
theorem witness_TriggerCommands_0_3 :
    commandAt w86 w85 784 = some tp ∧
    2 = Machine.fieldLe tp 0 1 ∧
    2 ≤ 7 ∧
    100 = Machine.fieldLe tp 4 4 ∧
    1000000 = Machine.fieldLe tp 24 8 ∧
    fullOf (slice tp 8 16) = some 1000000000000 ∧
    zeros tp 1 3 = true ∧
    zeros tp 36 4 = true ∧
    1 ≤ 100 ∧
    100 ≤ 2 ^ 28 ∧
    w86.clk.now + 10 * uUs ≤ 1000000000000 ∧
    (1000000 = 0 ∨ 3200 + 1600 * 100 ≤ 1000000 ∧ 1000000 ≤ 1000000000000000) ∧
    domOn w86 13 = true ∧
    (trigOf w86 2).queue.length < 16 ∧
    (∃ q ∈ (trigOf w86 2).queue, q.count = 0) := by decide +kernel

def w87 : Origin := .host 1
def w88 : List Byte := le 1 2 ++ le 1 0 ++ le 2 3
def w89 : State := q 0x311 (le 1 2 ++ le 1 0 ++ le 2 3) (trigMod 2 (fun t => { t with queue := [te0, { te0 with handle := 4 }] }) eng)
theorem witness_TriggerCommands_1_0 :
    commandAt w89 w87 785 = some w88 ∧
    2 = Machine.fieldLe w88 0 1 ∧
    2 ≤ 7 ∧
    Machine.fieldLe w88 1 1 ≤ 1 := by decide +kernel

end Sys2Proof.Tests.Time2
end

