-- ==== Sys2Proof/Tests/Slice0.lean ====
section
/-! SUPPORT. Ill-formed commands, worked examples of the manual, and the witnesses that the other files leave. -/

namespace Sys2Proof.Tests

open Sys2Proof.Machine

set_option Elab.async false

/-! ### Ill-formed commands: one for each check -/

theorem test_wf_bad_access_offset : Instr.wf (.bar0BadAccess .host 0x4000000 4 true) = false := by decide
theorem test_wf_bad_access_width : Instr.wf (.bar0BadAccess .host 0 9 true) = false := by decide
theorem test_wf_bad_access_no_width : Instr.wf (.bar0BadAccess .host 0 0 false) = false := by decide
theorem test_wf_reg_write_unaligned : Instr.wf (.regWrite .host 2 0) = false := by decide
theorem test_wf_w1c_outside : Instr.wf (.w1cWrite .host 0x4000000 0) = false := by decide
theorem test_wf_pair_read_unaligned : Instr.wf (.pairLoRead .host 1) = false := by decide
theorem test_wf_pair_write_unaligned : Instr.wf (.pairHiWrite .host 3 0) = false := by decide
theorem test_wf_mirror_read_unaligned : Instr.wf (.mirrorEntryRead .host 0x2000002) = false := by decide
theorem test_wf_mirror_write_outside : Instr.wf (.mirrorWrite .host 0x4000000 0) = false := by decide
theorem test_wf_buffer_unaligned : Instr.wf (.mbBufferWrite 0x30001 0) = false := by decide
theorem test_wf_reset_source : Instr.wf (.chipReset 7) = false := by decide
theorem test_wf_data_source : Instr.wf (.dataReset 7) = false := by decide
theorem test_wf_mgmt_source : Instr.wf (.mgmtRestart 7) = false := by decide
theorem test_wf_tdcref_time : Instr.wf (.tdcrefAlign (2 ^ 48 * 1048576000000000)) = false := by decide
theorem test_wf_latch_time : Instr.wf (.ttLatch (2 ^ 48 * 1048576000000000)) = false := by decide
theorem test_wf_quanta : quantaOk [1, 2, 3] = false := by decide
theorem test_wf_quanta_range : quantaOk [0, 0, 0, 0, 0, 0, 0, 65536] = false := by decide
theorem test_wf_frame_short : frameOk (List.replicate 13 0) = false := by decide

/-! ### Worked examples of the manual -/

/-- R299: AVG becomes 281,856 units; yellow drops below 785, red always, green never. -/
theorem test_wred_average : wredAvg (1100 * 256) 1164 6 = 281856 := by decide
theorem test_wred_yellow :
    wredDrops { minTh := 512, maxTh := 2048, pmaxDen := 32, weight := 6 } 281856 784 = true ∧
    wredDrops { minTh := 512, maxTh := 2048, pmaxDen := 32, weight := 6 } 281856 785 = false := by decide
theorem test_wred_red_green :
    wredDrops { minTh := 128, maxTh := 512, pmaxDen := 1, weight := 6 } 281856 65534 = true ∧
    wredDrops { minTh := 2048, maxTh := 4096, pmaxDen := 64, weight := 6 } 281856 0 = false := by decide

/-- R269: frames 2, 3, 5 and 14 of the example. -/
theorem test_policer_frame_2 : meter false 0 1500 (7804 / 5) (23108 / 5) = (0, 304 / 5, 15608 / 5) := by decide +kernel
theorem test_policer_frame_3 : meter false 0 1500 (608 / 5) (16216 / 5) = (1, 608 / 5, 8716 / 5) := by decide +kernel
theorem test_policer_frame_5 : meter false 0 1500 (1216 / 5) (2432 / 5) = (2, 1216 / 5, 2432 / 5) := by decide +kernel
theorem test_policer_frame_14 : meter false 0 1500 (3952 / 5) (7904 / 5) = (1, 3952 / 5, 404 / 5) := by decide +kernel

/-- R407's example: DONE_EVT, ERR_EVT and HEAD 44. -/
theorem test_dma_head :
    regValue (ringMod true 0 (fun g => { g with enable := true, doneEvt := true, errEvt := true, head := 44 }) up) .host (.ring true 0 4) = 0x3000002C := by
  decide +kernel

/-- R369's example: D10 during its wake, and after it. -/
theorem test_domain_in_transit :
    regValue (domMod 10 (fun d => { d with st := .retention, target := .on, wakes := 36 }) up) .host (.pmDom 10) = 0x88000024 := by
  decide +kernel
theorem test_domain_woken :
    regValue (domMod 10 (fun d => { d with wakeEvt := true, lastSrc := 4, wakes := 37 }) up) .host (.pmDom 10) = 0x04040025 := by
  decide +kernel

/-- R492: a counter wraps, sets OVF and carries. -/
theorem test_counter_wraps :
    let s := { up with pc := { up.pc with pc := (up.pc.pc.set 0 { event := 0, count := 2 ^ 48 - 1 }).set 1 { event := 0xFFFE } } }
    (nextOf (exec (.counterWrap 0) s)).pc.pc[0] = { event := 0, count := 0, ovf := true } ∧
    (nextOf (exec (.counterWrap 0) s)).pc.pc[1] = { event := 0xFFFE, count := 1 } := by decide +kernel

/-- R37: the five edges from a multiple of 8 ns. -/
theorem test_edges :
    (List.range 5).map (fun k => (Nat.repeat timeClockEdge (k + 1) State.reset).clk.now) =
      [1677722, 3355443, 5033165, 6710886, 8388608] := by decide +kernel

/-- R410: a doorbell on an executing channel is ignored. -/
theorem test_doorbell_ignored :
    (nextOf (exec (.mbDoorbellRing 1 1) (cmdAt 1 0x0101 [] up))).mb.chan[1].dbIgnored = true ∧
    (nextOf (exec (.mbDoorbellRing 1 1) (cmdAt 1 0x0101 [] up))).mb.chan[1].st = .executing := by decide +kernel

/-! ### Witnesses -/

theorem witness_EmptyQueueTicks_engine :
    eng.pending = [] ∧ eng.rst.por = false ∧ eng.clk.kettle = false := by decide +kernel

theorem witness_FullTimeIsExact_bytes : timeSpan - 1 < timeSpan := by decide +kernel
theorem witness_FullTimeIsExact_spelt :
    (fullBytes (timeSpan - 1)).length = 16 ∧ fullOf (fullBytes (timeSpan - 1)) = some (timeSpan - 1) := by decide +kernel

theorem witness_RegisterPairs_pend : pairHi? .glPendLo = some .glPendHi ∧ reaches .host 0x30 up := by decide +kernel

/-- Entries of a parameter command. -/
def setOf (sel : Nat) (l : List (Nat × Nat × Nat)) : List Byte :=
  le 2 sel ++ le 2 l.length ++ l.flatMap (fun e => le 2 e.1 ++ le 1 e.2.1 ++ le 1 0 ++ le 8 e.2.2)
def devSet (l : List (Nat × Nat × Nat)) : State := cmdAt 1 0x0121 (setOf 0 l) eng

theorem witness_ParameterWrites_bad :
    (Instr.devSet (.host 1), 0x0121, PFam.dev) ∈ paramCommands (.host 1) ∧
    commandAt (devSet [(0x50, 0, 499)]) (.host 1) 0x0121 = some (setOf 0 [(0x50, 0, 499)]) ∧
    0 = Machine.fieldLe (setOf 0 [(0x50, 0, 499)]) 0 2 ∧ selKnown .dev 0 = true ∧
    readEntries (devSet [(0x50, 0, 499)]) .dev (setOf 0 [(0x50, 0, 499)]) 1 = .inl 4 := by decide +kernel

theorem witness_ParameterWrites_combination :
    let s := devSet [(0x50, 0, 20000)]
    ∃ l w, readEntries s .dev (setOf 0 [(0x50, 0, 20000)]) 1 = .inr l ∧ l.find? (combBad (putEntries 0 l s) 0) = some w := by
  refine ⟨[{ off := 4, info := { id := 0x50, sc := .dev, lo := 500, hi := 32000 }, cls := 0, dflt := false, val := 20000 }],
    { off := 4, info := { id := 0x50, sc := .dev, lo := 500, hi := 32000 }, cls := 0, dflt := false, val := 20000 }, ?_⟩
  decide +kernel

theorem witness_ParameterWrites_refused :
    let p := setOf 3 [(0x11A, 0, 0)]
    let s := cmdAt 1 0x0401 p std
    ∃ l, readEntries s .port p 1 = .inr l ∧ l.find? (combBad (putEntries 3 l s) 3) = none ∧
      paramRefused s (putEntries 3 l s) 3 l = some 0x0017 := by
  refine ⟨[{ off := 4, info := { id := 0x11A, sc := .fabPort, lo := -7, hi := 0 }, cls := 0, dflt := false, val := 0 }], ?_⟩
  decide +kernel

theorem witness_ParameterWrites_accepted :
    let s := devSet [(0x50, 0, 600)]
    ∃ l, readEntries s .dev (setOf 0 [(0x50, 0, 600)]) 1 = .inr l ∧ l.find? (combBad (putEntries 0 l s) 0) = none ∧
      paramRefused s (putEntries 0 l s) 0 l = none ∧ (∀ w ∈ l, w.info.id ∉ actingPars) := by
  refine ⟨[{ off := 4, info := { id := 0x50, sc := .dev, lo := 500, hi := 32000 }, cls := 0, dflt := false, val := 600 }], ?_⟩
  decide +kernel

theorem witness_ParameterReads :
    (Instr.devGet (.host 1), 0x01A1, PFam.dev) ∈ paramReads (.host 1) ∧
    commandAt (cmdAt 1 0x01A1 (le 4 0) eng) (.host 1) 0x01A1 = some (le 4 0) ∧ 0 = Machine.fieldLe (le 4 0) 0 2 ∧
    selKnown .dev 0 = true ∧ Machine.fieldLe (le 4 0) 2 2 = 0 := by decide +kernel

end Sys2Proof.Tests
end

/-! Register accesses (R8, R10, R364, R376, R386, R391): what becomes of an access at each of the places where it can
end, which parts of the state that moves, and the two statements about it. -/

namespace Sys2Proof.Machine

/-! ### Frames of the operations of an access -/

/-- The host part may move with its interrupt bookkeeping. -/
theorem keepsBut_hostMod (f : HostIf → HostIf) (s : State) : keepsBut [.host, .msi] s (hostMod f s) := by
  intro p hp
  cases p <;> first | rfl | simp at hp

theorem keepsBut_putData (who : Initiator) (v : Word) (s : State) : keepsBut [.host] s (putData who v s) := by
  intro p hp
  cases p <;> first | rfl | exact ⟨rfl, rfl, rfl⟩ | simp at hp

theorem keepsBut_sendVectors (m : Nat → Bool) (s : State) : keepsBut [.msi] s (sendVectors m s) := by
  intro p hp
  cases p <;> first | rfl | simp at hp

/-- Sending a vector's message again moves the interrupt bookkeeping only (R397). -/
theorem keepsBut_resend (r : RegId) (s : State) : keepsBut [.msi] s (resend r s) := by
  unfold resend
  split
  · split
    · exact keepsBut_sendVectors _ s
    · exact keepsBut_refl _ s
  · exact keepsBut_refl _ s

/-- A frame that keeps the host part keeps each field of it outside the interrupt bookkeeping. -/
theorem host_field_of_keepsBut {α : Type} {l : List Part} {s t : State} (f : HostIf → α)
    (hf : ∀ (h : HostIf) pend pba sent, f { h with pend, pba, sent } = f h) (h : keepsBut l s t) (m : Part.host ∉ l) :
    f t.host = f s.host := by
  have e : { t.host with pend := s.host.pend, pba := s.host.pba, sent := s.host.sent } = s.host := h .host m
  exact (hf t.host s.host.pend s.host.pba s.host.sent).symm.trans (congrArg f e)

@[simp] theorem resend_fwd (r : RegId) (s : State) : (resend r s).fwd = s.fwd := keepsBut_resend r s .fwd (by simp)
@[simp] theorem resend_pm (r : RegId) (s : State) : (resend r s).pm = s.pm := keepsBut_resend r s .pm (by simp)
@[simp] theorem resend_errEvt (r : RegId) (s : State) : (resend r s).host.errEvt = s.host.errEvt :=
  host_field_of_keepsBut HostIf.errEvt (fun _ _ _ _ => rfl) (keepsBut_resend r s) (by simp)
@[simp] theorem resend_mgmtRestartEvt (r : RegId) (s : State) :
    (resend r s).host.mgmtRestartEvt = s.host.mgmtRestartEvt :=
  host_field_of_keepsBut HostIf.mgmtRestartEvt (fun _ _ _ _ => rfl) (keepsBut_resend r s) (by simp)
@[simp] theorem resend_mgmtHaltEvt (r : RegId) (s : State) : (resend r s).host.mgmtHaltEvt = s.host.mgmtHaltEvt :=
  host_field_of_keepsBut HostIf.mgmtHaltEvt (fun _ _ _ _ => rfl) (keepsBut_resend r s) (by simp)
@[simp] theorem resend_rdata (r : RegId) (s : State) : (resend r s).host.rdata = s.host.rdata :=
  host_field_of_keepsBut HostIf.rdata (fun _ _ _ _ => rfl) (keepsBut_resend r s) (by simp)

/-! ### What an error log and a read's data leave behind -/

@[simp] theorem putData_rdata (who : Initiator) (v : Word) (s : State) :
    (putData who v s).host.rdata[(whoIx who).val] = v := by
  simp [putData]
@[simp] theorem putData_errEvt (who : Initiator) (v : Word) (s : State) :
    (putData who v s).host.errEvt = s.host.errEvt := rfl

section
variable (kind dom : Nat) (write : Bool) (who : Initiator) (addr : Nat) (s : State)

@[simp] theorem errLog_errEvt : (errLog kind dom write who addr s).host.errEvt = true := rfl
@[simp] theorem errLog_rdata : (errLog kind dom write who addr s).host.rdata = s.host.rdata := by
  unfold errLog
  generalize packW _ = x
  rfl
@[simp] theorem errLog_log1 : (errLog kind dom write who addr s).rst.log1 = BitVec.ofNat 32 addr := rfl
@[simp] theorem errLog_log0 : (errLog kind dom write who addr s).rst.log0 =
    packW [(kind, 28), (dom, 24), (b2n write, 23), (b2n (who == .mgmt), 22), ((s.rst.log0.toNat + 1) % 4096, 0)] := by rw [errLog]

end

/-! ### Where an access ends -/

/-- A register command ends where its access does. -/
theorem done_of_eq {t u : State} (h : t = u) : done t = .next (settle u) := by rw [h, done_eq]

/-- Where BAR0 answers, an access goes to the crossing (R364). -/
theorem anyAccess_of_answers {who : Initiator} {s : State} (h : answers who s) (off bytes : Nat) (w : Option Word) :
    anyAccess who off bytes w s = regCross who off bytes w s := by
  obtain ⟨⟨hpor, hchip⟩, hd3⟩ := h
  cases who with
  | host =>
    have hon : (vget s.pm.dom 3 {}).st = .on := by simpa [domOn] using hd3 rfl
    simp [anyAccess, hpor, hchip, hon]
  | mgmt => simp [anyAccess, hpor, hchip]

/-- An access of the host to D3 in Clock-stopped wakes D3 and waits (R364). -/
theorem anyAccess_of_stopped {s : State} (hc : chipUp s) (hd3 : (vget s.pm.dom 3 {}).st = .stopped) (off bytes : Nat)
    (w : Option Word) : anyAccess .host off bytes w s =
      rstMod (fun x => { x with waiting := x.waiting ++ [{ who := .host, off, write := w, domain := 3, bytes }] })
        (wakeFrom 3 0 (wakeMask s 3 0) s) := by
  obtain ⟨hpor, hchip⟩ := hc
  simp [anyAccess, hpor, hchip, hd3]

section
variable {who : Initiator} {off bytes : Nat} {s : State} (w : Option Word)

theorem regCross_bad (h : bytes ≠ 4 ∨ off % 4 ≠ 0) : regCross who off bytes w s = regCross.regBad who off w s := by
  have hb : (bytes != 4 || off % 4 != 0) = true := by simpa using h
  simp [regCross, hb]

theorem regCross_outside (ha : off % 4 = 0) (hr : regAt s off = .outside) :
    regCross who off 4 w s = regCross.regLost who off w s := by
  simp [regCross, ha, hr]

theorem regCross_inReset (ha : off % 4 = 0) (ho : regAt s off ≠ .outside) (hh : regAt s off ≠ .hole)
    (hr : ownerInReset s (regAt s off) = true) :
    regCross who off 4 w s = regError 4 (regOwner (regAt s off)).1 who off w s := by
  simp [regCross, ha, ho, hh, hr]

theorem regCross_waits (ha : off % 4 = 0) (ho : regAt s off ≠ .outside) (hh : regAt s off ≠ .hole)
    (hr : ownerInReset s (regAt s off) = false) (hd : domOn s (regOwner (regAt s off)).1 = false) :
    regCross who off 4 w s =
      rstMod (fun x => { x with waiting := x.waiting ++ [{ who, off, write := w, domain := (regOwner (regAt s off)).1 }] }) s := by
  simp [regCross, ha, ho, hh, hr, hd]

theorem regCross_performs (ha : off % 4 = 0) (ho : regAt s off ≠ .outside) (hh : regAt s off ≠ .hole)
    (hr : ownerInReset s (regAt s off) = false) (hd : domOn s (regOwner (regAt s off)).1 = true) :
    regCross who off 4 w s = regPerform who off (regAt s off) w s := by
  simp [regCross, ha, ho, hh, hr, hd]

/-- An access that reaches its register is performed on it. -/
theorem regAccess_of_reaches (h : reaches who off s) : regAccess who off w s = regPerform who off (regAt s off) w s := by
  obtain ⟨hans, ha, ho, hh, hr, hd⟩ := h
  exact (anyAccess_of_answers hans off 4 w).trans (regCross_performs w ha ho hh hr hd)

end

/-- An access to a register whose owner takes it: what `reaches` asks for, with the register known. -/
theorem reaches_of_regAt {who : Initiator} {off : Nat} {s : State} {r : RegId} (hans : answers who s) (hr : regAt s off = r)
    (ha : off % 4 = 0) (hn : r ≠ .outside ∧ r ≠ .hole) (hrst : ownerInReset s r = false) (hd : domOn s (regOwner r).1 = true) :
    reaches who off s := by
  subst hr
  exact ⟨hans, ha, hn.1, hn.2, hrst, hd⟩

/-- W1C_WRITE where the access reaches its register. -/
theorem exec_w1cWrite_of_regAt {who : Initiator} {off : Nat} {s : State} {r : RegId} (h : reaches who off s)
    (hr : regAt s off = r) (v : Word) :
    exec (.w1cWrite who off v) s = .next (settle (regPerform who off r (some v) s)) :=
  done_of_eq (hr ▸ regAccess_of_reaches (some v) h)

/-! ### What an access performs -/

/-- The state an access acts on: one of the management core that reaches its register clears the core's bus error. -/
def accessStart (who : Initiator) (s : State) : State :=
  if who == .mgmt then hostMod (fun x => { x with busError := false }) s else s

theorem regPerform_read (who : Initiator) (off : Nat) (r : RegId) (s : State) : regPerform who off r none s =
    putData who (readData who off r (accessStart who s)) (readEffect who off r (accessStart who s)) := rfl

theorem regPerform_write (who : Initiator) (off : Nat) (r : RegId) (v : Word) (s : State) :
    regPerform who off r (some v) s = resend r (writeEffect who off r v (accessStart who s)) := rfl

@[simp] theorem accessStart_host (s : State) : accessStart .host s = s := rfl
@[simp] theorem accessStart_rst (who : Initiator) (s : State) : (accessStart who s).rst = s.rst := by cases who <;> rfl
@[simp] theorem accessStart_rdata (who : Initiator) (s : State) : (accessStart who s).host.rdata = s.host.rdata := by
  cases who <;> rfl

theorem keepsBut_accessStart (who : Initiator) (s : State) : keepsBut [.host, .msi] s (accessStart who s) := by
  cases who with
  | host => exact keepsBut_refl _ s
  | mgmt => exact keepsBut_hostMod _ s

/-! ### The W1C registers of the statement (R10) -/

theorem writeEffect_glEvent (who : Initiator) (off : Nat) (v : Word) (s : State) : writeEffect who off .glEvent v s =
    hostMod (fun x => { x with
      errEvt := x.errEvt && !v.getLsbD 2
      mgmtRestartEvt := x.mgmtRestartEvt && !v.getLsbD 1
      mgmtHaltEvt := x.mgmtHaltEvt && !v.getLsbD 0 }) s := rfl

theorem writeEffect_fwdStatus (who : Initiator) (off : Nat) (v : Word) (s : State) : writeEffect who off .fwdStatus v s =
    fwdMod (fun f => { f with
      parityEvt := f.parityEvt && !v.getLsbD 31
      learnFullEvt := f.learnFullEvt && !v.getLsbD 30 }) s := rfl

theorem writeEffect_pmAlarm (who : Initiator) (off : Nat) (v : Word) (s : State) : writeEffect who off .pmAlarm v s =
    { s with pm := { s.pm with
        alarm := vmapI s.pm.alarm (fun i a => { a with fired := a.fired && !v.getLsbD (24 + i.val) }) } } := rfl

theorem getElem_vmapI {α : Type} {n : Nat} (v : Vector α n) (f : Fin n → α → α) (i : Fin n) : (vmapI v f)[i] = f i v[i] := by
  simp [vmapI]

/-- A write of GL_EVENT clears the events that it writes 1 to. -/
theorem w1c_glEvent (v : Word) (s : State) (hans : answers .host s) (hd : domOn s 3 = true) :
    ∃ t, exec (.w1cWrite .host 0x38 v) s = .next t ∧ keepsBut [.host, .msi] s t ∧
      t.host.errEvt = (s.host.errEvt && !v.getLsbD 2) ∧ t.host.mgmtRestartEvt = (s.host.mgmtRestartEvt && !v.getLsbD 1) ∧
      t.host.mgmtHaltEvt = (s.host.mgmtHaltEvt && !v.getLsbD 0) ∧ t.host.rdata = s.host.rdata := by
  have hr : regAt s 0x38 = .glEvent := rfl
  refine ⟨_, exec_w1cWrite_of_regAt (reaches_of_regAt hans hr rfl (by simp) rfl hd) hr v, ?_, ?_⟩
  · exact keepsBut_done (keepsBut_then (keepsBut_hostMod _ s) (keepsBut_resend _ _) (by simp) (by simp)) (by simp)
  · simp [regPerform_write, writeEffect_glEvent, hostMod]

/-- A write of SC_FWD_STATUS clears the events that it writes 1 to. -/
theorem w1c_fwdStatus (v : Word) (s : State) (hans : answers .host s) (hd : domOn s 10 = true) :
    ∃ t, exec (.w1cWrite .host 0x1008000 v) s = .next t ∧ keepsBut [.fwd, .msi] s t ∧
      t.fwd = { s.fwd with
        parityEvt := s.fwd.parityEvt && !v.getLsbD 31, learnFullEvt := s.fwd.learnFullEvt && !v.getLsbD 30 } := by
  have hr : regAt s 0x1008000 = .fwdStatus := rfl
  refine ⟨_, exec_w1cWrite_of_regAt (reaches_of_regAt hans hr rfl (by simp) rfl hd) hr v, ?_, ?_⟩
  · exact keepsBut_done (keepsBut_then (keepsBut_fwdMod _ s) (keepsBut_resend _ _) (by simp) (by simp)) (by simp)
  · simp [regPerform_write, writeEffect_fwdStatus, fwdMod]

theorem keepsBut_withPm (x : Power) (s : State) : keepsBut [.pm] s { s with pm := x } := by
  intro p hp
  cases p <;> first | rfl | exact ⟨rfl, rfl, rfl⟩ | simp at hp

/-- A write of PM_ALARM_STATUS clears the alarms that it writes 1 to, and disarms none. -/
theorem w1c_pmAlarm (v : Word) (s : State) (hans : answers .host s) (hd : domOn s 0 = true) :
    ∃ t, exec (.w1cWrite .host 0x10044 v) s = .next t ∧ keepsBut [.pm, .msi] s t ∧
      ∀ i : Fin 4, t.pm.alarm[i].fired = (s.pm.alarm[i].fired && !v.getLsbD (24 + i.val)) ∧
        t.pm.alarm[i].armed = s.pm.alarm[i].armed := by
  have hr : regAt s 0x10044 = .pmAlarm := rfl
  refine ⟨_, exec_w1cWrite_of_regAt (reaches_of_regAt hans hr rfl (by simp) rfl hd) hr v, ?_, fun i => ?_⟩
  · exact keepsBut_done (keepsBut_then (keepsBut_withPm _ s) (keepsBut_resend _ _) (by simp) (by simp)) (by simp)
  · simp only [settle_pm, regPerform_write, accessStart_host, writeEffect_pmAlarm, resend_pm, getElem_vmapI, and_self]

/-- Settles O7: an access that reaches its register is `regPerform` of it, and the three W1C registers clear bit by bit. -/
theorem registerAccesses : Obligations.RegisterAccesses := by
  unfold Obligations.RegisterAccesses
  refine ⟨fun who off v s h => ?_, w1c_glEvent, w1c_fwdStatus, w1c_pmAlarm⟩
  have hw := done_of_eq (regAccess_of_reaches (some v) h)
  have hr := done_of_eq (regAccess_of_reaches none h)
  exact ⟨hw, hw, hw, hr, hr⟩

/-! ### Wake sources -/

theorem keepsBut_engineBoot (e : Nat) (s : State) : keepsBut [.te] s (engineBoot e s) := by
  unfold engineBoot
  refine keepsBut_trans ?_ (keepsBut_engxMod _ _ _)
  split
  · exact keepsBut_trans (keepsBut_engMod _ _ _) (keepsBut_engxMod _ _ _)
  · exact keepsBut_refl _ s

/-- A raise moves its own domain, whose target becomes On, and the engines' part (R169, R170, R371). -/
theorem raiseOne_eq (src d : Nat) (s : State) : ∃ (f : Domain → Domain) (t : State),
    raiseOne src d s = domMod d f t ∧ (∀ x, (f x).target = .on) ∧ keepsBut [.te] s t := by
  unfold raiseOne
  extract_lets x t u
  have ht : keepsBut [.te] s t := by
    simp only [t]
    split
    · exact keepsBut_ksMod _ s
    · exact keepsBut_refl _ s
  have hu : keepsBut [.te] t u := by
    simp only [u]
    split
    · exact keepsBut_engineBoot _ t
    · exact keepsBut_refl _ t
  refine ⟨_, u, rfl, fun y => ?_, keepsBut_trans ht hu⟩
  split
  · rfl
  · rfl

theorem keepsBut_raiseOne (src d : Nat) (s : State) : keepsBut [.te, .pm] s (raiseOne src d s) := by
  obtain ⟨f, t, e, -, h⟩ := raiseOne_eq src d s
  rw [e]
  exact keepsBut_then h (keepsBut_domMod d f t) (by simp) (by simp)

/-- After a raise a domain's target is On if it was the one raised, or was so before. -/
theorem raiseOne_target {src d j : Nat} {s : State} (hj : j < 14) (h : j = d ∨ (vget s.pm.dom j {}).target = .on) :
    (vget (raiseOne src d s).pm.dom j {}).target = .on := by
  obtain ⟨f, t, e, hf, k⟩ := raiseOne_eq src d s
  have hpm : t.pm = s.pm := k .pm (by simp)
  have hdom : (raiseOne src d s).pm.dom = vmodN s.pm.dom d f := by rw [e, ← hpm]; rfl
  rw [hdom]
  by_cases hd : j = d
  · subst hd
    rw [vmodN_same _ _ _ _ hj, hf]
  · rw [vmodN_other _ _ _ _ _ hd]
    exact h.resolve_left hd

theorem forEach_raiseOne_target {src j : Nat} (hj : j < 14) (ds : List Nat) (s : State)
    (h : j ∈ ds ∨ (vget s.pm.dom j {}).target = .on) : (vget (forEach ds (raiseOne src) s).pm.dom j {}).target = .on := by
  induction ds generalizing s with
  | nil => simpa [forEach] using h
  | cons d ds ih =>
    refine ih (raiseOne src d s) ?_
    rcases h with h | h
    · rcases List.mem_cons.mp h with h | h
      · exact .inr (raiseOne_target hj (.inl h))
      · exact .inl h
    · exact .inr (raiseOne_target hj (.inr h))

/-- A wake moves the domains, the record of the wake, the engines that boot again, and the wake counter (R371, R372). -/
theorem keepsBut_wakeFrom (src detail : Nat) (m : BitVec 14) (s : State) :
    keepsBut [.te, .pm, .pc] s (wakeFrom src detail m s) := by
  unfold wakeFrom
  dsimp only
  split
  · exact keepsBut_refl _ s
  · refine keepsBut_then (l := [.te, .pm, .pc]) ?_ (keepsBut_withPm _ _) (by simp) (by simp)
    have hraise := fun by_ ds => keepsBut_foldl (fun s i => raiseOne by_ i s) (fun s d => keepsBut_raiseOne by_ d s) ds s
    split
    · exact keepsBut_then (hraise _ _) (keepsBut_withPm _ _) (by simp) (by simp)
    · exact keepsBut_then (hraise _ _) (keepsBut_bump _ _ _) (by simp) (by simp)

/-- After a wake every domain of its mask but D0 is On or on its way there (R363). -/
theorem wakeFrom_target {src detail j : Nat} {m : BitVec 14} {s : State} (hj : j < 14) (h0 : j ≠ 0)
    (hm : m.getLsbD j = true) : (vget (wakeFrom src detail m s).pm.dom j {}).target = .on := by
  unfold wakeFrom
  extract_lets ds again deep first by_ t _ u
  have hds : j ∈ ds ∨ (vget s.pm.dom j {}).target = .on := by
    by_cases ht : (vget s.pm.dom j {}).target = .on
    · exact .inr ht
    · exact .inl (by simp [ds, domsOf, hj, h0, hm, ht])
  have ht : (vget t.pm.dom j {}).target = .on := forEach_raiseOne_target hj ds s hds
  split
  · rename_i hnone
    have hnil : ds = [] := by simpa using (Bool.and_eq_true_iff.mp hnone).1
    simpa [hnil] using hds
  · show (vget u.pm.dom j {}).target = .on
    simp only [u]
    split
    · simpa [vget, hj] using ht
    · exact ht

/-! ### Accesses that end in error -/

section
variable (kind dom : Nat) (write : Bool) (who : Initiator) (off : Nat) (s : State)

theorem keepsBut_logged : keepsBut [.rst, .host, .msi] s (settle (errLog kind dom write who off s)) :=
  keepsBut_done (keepsBut_mono (keepsBut_errLog _ _ _ _ _ s) (by simp)) (by simp)

theorem keepsBut_logged_putData (v : Word) :
    keepsBut [.rst, .host, .msi] s (settle (putData who v (errLog kind dom write who off s))) :=
  keepsBut_done (keepsBut_then (keepsBut_errLog _ _ _ _ _ s) (keepsBut_putData _ _ _) (by simp) (by simp)) (by simp)

/-- A write that ends in error: no data, and the log. -/
theorem logged_settled :
    (settle (errLog kind dom write who off s)).host.rdata = s.host.rdata ∧
    (settle (errLog kind dom write who off s)).host.errEvt = true ∧
    (settle (errLog kind dom write who off s)).rst.log1 = BitVec.ofNat 32 off ∧
    (settle (errLog kind dom write who off s)).rst.log0 =
      packW [(kind, 28), (dom, 24), (b2n write, 23), (b2n (who == .mgmt), 22), ((s.rst.log0.toNat + 1) % 4096, 0)] := by
  rw [settle_rdata, settle_errEvt, settle_rst]
  exact ⟨errLog_rdata _ _ _ _ _ _, errLog_errEvt _ _ _ _ _ _, errLog_log1 _ _ _ _ _ _, errLog_log0 _ _ _ _ _ _⟩

/-- A read that ends in error: its data, and the log. -/
theorem logged_putData (v : Word) :
    (settle (putData who v (errLog kind dom write who off s))).host.rdata[whoIx who] = v ∧
    (settle (putData who v (errLog kind dom write who off s))).host.errEvt = true ∧
    (settle (putData who v (errLog kind dom write who off s))).rst.log1 = BitVec.ofNat 32 off ∧
    (settle (putData who v (errLog kind dom write who off s))).rst.log0 =
      packW [(kind, 28), (dom, 24), (b2n write, 23), (b2n (who == .mgmt), 22), ((s.rst.log0.toNat + 1) % 4096, 0)] := by
  rw [settle_rdata, settle_errEvt, settle_rst, putData_errEvt, putData_rst]
  exact ⟨putData_rdata _ _ _, errLog_errEvt _ _ _ _ _ _, errLog_log1 _ _ _ _ _ _, errLog_log0 _ _ _ _ _ _⟩

end

theorem regBad_read (who : Initiator) (off : Nat) (s : State) :
    regCross.regBad who off none s = putData who 0xFFFFFFFF (errLog 1 15 false who off s) := rfl
theorem regBad_write (who : Initiator) (off : Nat) (v : Word) (s : State) :
    regCross.regBad who off (some v) s = errLog 1 15 true who off s := rfl
theorem regLost_read (who : Initiator) (off : Nat) (s : State) :
    regCross.regLost who off none s = putData who 0 (errLog 1 15 false who off s) := rfl
theorem regLost_write (who : Initiator) (off : Nat) (v : Word) (s : State) :
    regCross.regLost who off (some v) s = errLog 1 15 true who off s := rfl
theorem regError_host_read (kind dom off : Nat) (s : State) :
    regError kind dom .host off none s = putData .host 0xFFFFFFFF (errLog kind dom false .host off s) := rfl
theorem regError_host_write (kind dom off : Nat) (v : Word) (s : State) :
    regError kind dom .host off (some v) s = errLog kind dom true .host off s := rfl

/-- BAR0_BAD_ACCESS is an access where it is a bad one. -/
theorem exec_bar0BadAccess {who : Initiator} {off bytes : Nat} {write : Bool} {s t : State}
    (hbad : (bytes ≠ 4 ∨ off % 4 ≠ 0) ∨ regAt s off = .outside)
    (h : anyAccess who off bytes (if write then some 0 else none) s = t) :
    exec (.bar0BadAccess who off bytes write) s = .next (settle t) := by
  have hb : (bytes != 4 || off % 4 != 0 || regAt s off == .outside) = true := by simpa using hbad
  show done (when _ (anyAccess who off bytes _ s) s) = _
  rw [h, hb]
  rfl

/-- A wrong width or alignment where BAR0 answers (R8). -/
theorem badWidth_logged (who : Initiator) (off bytes : Nat) (s : State) (hans : answers who s) (hb : bytes ≠ 4 ∨ off % 4 ≠ 0) :
    (∃ t, exec (.bar0BadAccess who off bytes false) s = .next t ∧ keepsBut [.rst, .host, .msi] s t ∧
      t.host.rdata[whoIx who] = 0xFFFFFFFF#32 ∧ t.host.errEvt = true ∧ t.rst.log1 = BitVec.ofNat 32 off ∧
      t.rst.log0 = packW [(1, 28), (15, 24), (0, 23), (b2n (who == .mgmt), 22), ((s.rst.log0.toNat + 1) % 4096, 0)]) ∧
    (∃ t, exec (.bar0BadAccess who off bytes true) s = .next t ∧ keepsBut [.rst, .host, .msi] s t ∧
      t.host.rdata = s.host.rdata ∧ t.host.errEvt = true ∧ t.rst.log1 = BitVec.ofNat 32 off ∧
      t.rst.log0 = packW [(1, 28), (15, 24), (1, 23), (b2n (who == .mgmt), 22), ((s.rst.log0.toNat + 1) % 4096, 0)]) := by
  have hacc : ∀ w, anyAccess who off bytes w s = regCross.regBad who off w s := fun w =>
    (anyAccess_of_answers hans off bytes w).trans (regCross_bad w hb)
  refine ⟨⟨_, exec_bar0BadAccess (.inl hb) ((hacc none).trans (regBad_read who off s)), ?_, ?_⟩,
    ⟨_, exec_bar0BadAccess (.inl hb) ((hacc (some 0)).trans (regBad_write who off 0 s)), ?_, ?_⟩⟩
  · exact keepsBut_logged_putData _ _ _ _ _ _ _
  · exact logged_putData 1 15 false who off s 0xFFFFFFFF
  · exact keepsBut_logged _ _ _ _ _ _
  · exact logged_settled 1 15 true who off s

/-- An offset outside every block, where BAR0 answers (R391). -/
theorem outside_logged (who : Initiator) (off : Nat) (s : State) (hans : answers who s) (ha : off % 4 = 0)
    (hr : regAt s off = .outside) :
    (∃ t, exec (.bar0BadAccess who off 4 false) s = .next t ∧ keepsBut [.rst, .host, .msi] s t ∧
      t.host.rdata[whoIx who] = 0 ∧ t.host.errEvt = true ∧ t.rst.log1 = BitVec.ofNat 32 off) ∧
    (∃ t, exec (.bar0BadAccess who off 4 true) s = .next t ∧ keepsBut [.rst, .host, .msi] s t ∧
      t.host.rdata = s.host.rdata ∧ t.host.errEvt = true ∧ t.rst.log1 = BitVec.ofNat 32 off) := by
  have hacc : ∀ w, anyAccess who off 4 w s = regCross.regLost who off w s := fun w =>
    (anyAccess_of_answers hans off 4 w).trans (regCross_outside w ha hr)
  refine ⟨⟨_, exec_bar0BadAccess (.inr hr) ((hacc none).trans (regLost_read who off s)), ?_, ?_⟩,
    ⟨_, exec_bar0BadAccess (.inr hr) ((hacc (some 0)).trans (regLost_write who off 0 s)), ?_, ?_⟩⟩
  · exact keepsBut_logged_putData _ _ _ _ _ _ _
  · obtain ⟨hdata, hevt, hlog1, -⟩ := logged_putData 1 15 false who off s 0
    exact ⟨hdata, hevt, hlog1⟩
  · exact keepsBut_logged _ _ _ _ _ _
  · obtain ⟨hdata, hevt, hlog1, -⟩ := logged_settled 1 15 true who off s
    exact ⟨hdata, hevt, hlog1⟩

/-- A bad access of the host through D3 in Clock-stopped (R364). -/
theorem badWidth_waits_for_D3 (off bytes : Nat) (s : State) (hc : chipUp s) (hd3 : (vget s.pm.dom 3 {}).st = .stopped)
    (hb : bytes ≠ 4 ∨ off % 4 ≠ 0) :
    ∃ t, exec (.bar0BadAccess .host off bytes false) s = .next t ∧ keepsBut [.te, .pm, .rst, .msi, .pc] s t ∧
      t.rst = { s.rst with waiting := s.rst.waiting ++ [{ who := .host, off, write := none, domain := 3, bytes }] } ∧
      ((vget s.pm.dom 3 {}).target ≠ .on → (wakeMask s 3 0).getLsbD 3 = true → (vget t.pm.dom 3 {}).target = .on) := by
  have hwake := keepsBut_wakeFrom 3 0 (wakeMask s 3 0) s
  have hrst : (wakeFrom 3 0 (wakeMask s 3 0) s).rst = s.rst := hwake .rst (by simp)
  refine ⟨_, exec_bar0BadAccess (.inl hb) (anyAccess_of_stopped hc hd3 off bytes none), ?_, ?_, fun _ hm => ?_⟩
  · exact keepsBut_done (keepsBut_then hwake (keepsBut_rstMod _ _) (by simp) (by simp)) (by simp)
  · simp [rstMod, hrst]
  · simpa using wakeFrom_target (by decide) (by decide) hm

/-! ### The mirror and the error log -/

theorem regAt_mirror {off : Nat} (s : State) (hlo : 0x2000000 ≤ off) (hhi : off < 0x4000000) :
    regAt s off = .mirror (off - 0x2000000) := by
  unfold regAt
  iterate 13 rw [if_neg (by omega)]
  rw [if_pos hhi]

/-- A write of the table mirror is discarded and logged (R284). -/
theorem mirrorWrite_logged (who : Initiator) (off : Nat) (v : Word) (s : State) (hans : answers who s)
    (hd : domOn s 10 = true) (hlo : 0x2000000 ≤ off) (hhi : off < 0x4000000) (ha : off % 4 = 0) :
    ∃ t, exec (.mirrorWrite who off v) s = .next t ∧ keepsBut [.rst, .host, .msi] s t ∧ t.host.errEvt = true ∧
      t.rst.log1 = BitVec.ofNat 32 off ∧ t.host.rdata = s.host.rdata ∧
      t.rst.log0 = packW [(5, 28), (10, 24), (1, 23), (b2n (who == .mgmt), 22), ((s.rst.log0.toNat + 1) % 4096, 0)] := by
  have hr := regAt_mirror s hlo hhi
  have hreach : reaches who off s := reaches_of_regAt hans hr ha (by simp) rfl hd
  have hacc : regAccess who off (some v) s = errLog 5 10 true who off (accessStart who s) := by
    rw [regAccess_of_reaches _ hreach, hr, regPerform_write]
    rfl
  obtain ⟨hdata, hevt, hlog1, hlog0⟩ := logged_settled 5 10 true who off (accessStart who s)
  rw [accessStart_rdata] at hdata
  rw [accessStart_rst] at hlog0
  refine ⟨_, done_of_eq hacc, ?_, hevt, hlog1, hdata, hlog0⟩
  exact keepsBut_then (keepsBut_accessStart who s) (keepsBut_logged _ _ _ _ _ _) (by simp) (by simp)

theorem readData_glErrLog0 (who : Initiator) (off : Nat) (s : State) : readData who off .glErrLog0 s = s.rst.log0 := rfl

theorem readEffect_glErrLog0 (who : Initiator) (off : Nat) (s : State) : readEffect who off .glErrLog0 s =
    rstMod (fun x => { x with log1Snap := x.log1Snap.set (whoIx who) x.log1 }) s := rfl

/-- A read of GL_ERR_LOG0 snapshots GL_ERR_LOG1 for its reader (R386). -/
theorem glErrLog0Read_snapshots (who : Initiator) (s : State) (hans : answers who s) (hd : domOn s 0 = true) :
    ∃ t, exec (.glErrLog0Read who) s = .next t ∧ keepsBut [.rst, .host, .msi] s t ∧
      t.host.rdata[whoIx who] = s.rst.log0 ∧ t.rst = { s.rst with log1Snap := s.rst.log1Snap.set (whoIx who) s.rst.log1 } := by
  have hr : regAt s 0x28 = .glErrLog0 := rfl
  have hacc := regAccess_of_reaches none (reaches_of_regAt hans hr rfl (by simp) rfl hd)
  rw [hr, regPerform_read, readData_glErrLog0, readEffect_glErrLog0, accessStart_rst] at hacc
  refine ⟨_, done_of_eq hacc, ?_, ?_⟩
  · have hread := keepsBut_then (n := [.rst, .host, .msi]) (keepsBut_accessStart who s)
      (keepsBut_rstMod (fun x => { x with log1Snap := x.log1Snap.set (whoIx who) x.log1 }) _) (by simp) (by simp)
    exact keepsBut_done (keepsBut_then hread (keepsBut_putData _ _ _) (fun _ q => q) (by simp)) (by simp)
  · simp [rstMod]

/-! ### Accesses that the owner cannot take -/

/-- Into a unit held in reset (R376). -/
theorem inReset_logged (off : Nat) (v : Word) (s : State) (hans : answers .host s) (ha : off % 4 = 0)
    (ho : regAt s off ≠ .outside) (hh : regAt s off ≠ .hole) (hr : ownerInReset s (regAt s off) = true) :
    (∃ t, exec (.pairLoRead .host off) s = .next t ∧ keepsBut [.rst, .host, .msi] s t ∧ t.host.rdata[whoIx .host] = 0xFFFFFFFF#32 ∧
      t.rst.log1 = BitVec.ofNat 32 off) ∧
    (∃ t, exec (.regWrite .host off v) s = .next t ∧ keepsBut [.rst, .host, .msi] s t ∧ t.rst.log1 = BitVec.ofNat 32 off) := by
  have hacc : ∀ w, regAccess .host off w s = regError 4 (regOwner (regAt s off)).1 .host off w s := fun w =>
    (anyAccess_of_answers hans off 4 w).trans (regCross_inReset w ha ho hh hr)
  constructor
  · refine ⟨_, done_of_eq ((hacc none).trans (regError_host_read _ _ _ _)),
      keepsBut_logged_putData _ _ _ _ _ _ _, ?_⟩
    obtain ⟨hdata, -, hlog1, -⟩ := logged_putData 4 (regOwner (regAt s off)).1 false .host off s 0xFFFFFFFF
    exact ⟨hdata, hlog1⟩
  · refine ⟨_, done_of_eq ((hacc (some v)).trans (regError_host_write _ _ _ _ _)),
      keepsBut_logged _ _ _ _ _ _, ?_⟩
    obtain ⟨-, -, hlog1, -⟩ := logged_settled 4 (regOwner (regAt s off)).1 true .host off s
    exact hlog1

/-- Into a domain below On (R376). -/
theorem belowOn_waits (off : Nat) (v : Word) (s : State) (hans : answers .host s) (ha : off % 4 = 0)
    (ho : regAt s off ≠ .outside) (hh : regAt s off ≠ .hole) (hr : ownerInReset s (regAt s off) = false)
    (hd : domOn s (regOwner (regAt s off)).1 = false) :
    ∃ t, exec (.regWrite .host off v) s = .next t ∧ keepsBut [.rst, .msi] s t ∧
      t.rst = { s.rst with
        waiting := s.rst.waiting ++ [{ who := .host, off, write := some v, domain := (regOwner (regAt s off)).1 }] } := by
  have hacc := (anyAccess_of_answers hans off 4 (some v)).trans (regCross_waits (some v) ha ho hh hr hd)
  exact ⟨_, done_of_eq hacc, keepsBut_done (keepsBut_mono (keepsBut_rstMod _ s) (by simp)) (by simp), rfl⟩

/-- Settles O9: one lemma for each place where a bad access, or one that its owner cannot take, ends. -/
theorem erroneousAccesses : Obligations.ErroneousAccesses := by
  unfold Obligations.ErroneousAccesses
  exact ⟨⟨badWidth_logged, outside_logged, badWidth_waits_for_D3⟩, ⟨mirrorWrite_logged, glErrLog0Read_snapshots⟩,
    fun off v s hans ha ho hh => ⟨inReset_logged off v s hans ha ho hh, belowOn_waits off v s hans ha ho hh⟩⟩

end Sys2Proof.Machine

/-! DATA reset, MGMT restart and the release of a scope (R19, R20, R243, R282, R307, R379 to R384, R423): which parts of
the state each of them moves, what a flush leaves of the queues, and the statement about them. -/

namespace Sys2Proof.Machine

/-! ### Frames of the operations of a flush (R254, R307) -/

theorem keepsBut_withTxPend (l : List TxPend) (s : State) :
    keepsBut [.host] s { s with host := { s.host with txPend := l } } := by
  intro p hp
  cases p <;> first | rfl | exact ⟨rfl, rfl, rfl⟩ | simp at hp

theorem keepsBut_withStore (v : Vector (List StoreFrame) 8) (s : State) :
    keepsBut [.host] s { s with host := { s.host with store := v } } := by
  intro p hp
  cases p <;> first | rfl | exact ⟨rfl, rfl, rfl⟩ | simp at hp

theorem keepsBut_txWriteback (t : TxPend) (res : Nat) (ts : Option (BitVec 64)) (s : State) :
    keepsBut [.host, .pc] s (txWriteback t res ts s) := by
  unfold txWriteback
  extract_lets eop stamp s₁ s₂ s₃ s₄
  have h₁ : keepsBut [.host] s s₁ := keepsBut_foldl _ (fun s a => keepsBut_hostWrite (a + 15) [0x80] s) _ s
  have h₂ : keepsBut [.host] s₁ s₂ := by
    simp only [s₂]
    clear_value stamp
    split
    · exact keepsBut_hostWrite _ _ s₁
    · exact keepsBut_refl _ s₁
  have h₃ : keepsBut [.host] s s₃ := keepsBut_trans h₁ (keepsBut_trans h₂ (keepsBut_hostWrite _ _ s₂))
  have h₄ : keepsBut [.host] s s₄ := keepsBut_trans h₃ (keepsBut_ringMod _ _ _ s₃)
  split
  · exact keepsBut_then h₄ (keepsBut_bump _ _ s₄) (by simp) (by simp)
  · exact keepsBut_mono h₄ (by simp)

theorem keepsBut_txDrain (r n : Nat) (s : State) : keepsBut [.host, .pc] s (txDrain r n s) := by
  induction n generalizing s with
  | zero => exact keepsBut_refl _ s
  | succ n ih =>
    unfold txDrain
    split
    · split
      · refine keepsBut_trans ?_ (ih _)
        exact keepsBut_then (keepsBut_withTxPend _ s) (keepsBut_txWriteback _ _ _ _) (by simp) (by simp)
      · exact keepsBut_refl _ s
    · exact keepsBut_refl _ s

theorem keepsBut_hostDropped (d : FrameDesc) (s : State) : keepsBut [.host, .pc] s (hostDropped d s) := by
  unfold hostDropped hostTxDone
  split
  · split
    · exact keepsBut_then (keepsBut_withTxPend _ s) (keepsBut_txDrain _ _ _) (by simp) (by simp)
    · exact keepsBut_refl _ s
  · exact keepsBut_refl _ s

theorem keepsBut_interject (p : Nat) (s : State) : keepsBut [.port] s (interject p s) := by
  unfold interject interrupt
  dsimp only
  split
  · exact keepsBut_trans (keepsBut_portMod p _ s) (keepsBut_macCount p 26 1 _)
  · exact keepsBut_refl _ s

theorem keepsBut_pauseSend (p mask quanta : Nat) (s : State) : keepsBut [.port] s (pauseSend p mask quanta s) := by
  have hcount : ∀ {t} k n, keepsBut [.port] s t → keepsBut [.port] s (macCount p k n t) := fun k n h =>
    keepsBut_trans h (keepsBut_macCount p k n _)
  refine hcount 25 1 (hcount 23 1 (hcount 21 1 (hcount 20 64 ?_)))
  exact keepsBut_trans (keepsBut_interject p s) (keepsBut_portMod p _ _)

theorem keepsBut_pauseJudge (p c : Nat) (s : State) : keepsBut [.port] s (pauseJudge p c s) := by
  have hxoff : ∀ mask quanta b, keepsBut [.port] s (pauseSend p mask quanta (setXoff p mask b s)) := fun mask quanta b =>
    keepsBut_trans (keepsBut_portMod p _ s) (keepsBut_pauseSend p mask quanta _)
  unfold pauseJudge
  dsimp only
  split
  · exact keepsBut_refl _ s
  · split
    · exact hxoff _ _ _
    · split
      · exact hxoff _ _ _
      · exact keepsBut_refl _ s

theorem keepsBut_dropQueued (d : FrameDesc) (s : State) : keepsBut [.port, .host, .pc] s (dropQueued d s) := by
  unfold dropQueued countCells
  refine keepsBut_then (l := [.port]) ?_ (keepsBut_hostDropped d _) (by simp) (by simp)
  split
  · exact keepsBut_refl _ s
  · exact keepsBut_trans (keepsBut_portMod d.port _ s) (keepsBut_pauseJudge _ _ _)

theorem keepsBut_copyDropped (d : FrameDesc) (s : State) : keepsBut [.fwd] s (copyDropped d s) := by
  unfold copyDropped
  split
  · exact keepsBut_fwdMod (fun _ => _) s
  · exact keepsBut_refl _ s

theorem keepsBut_flushVoq (g p c stat : Nat) (s : State) :
    keepsBut [.port, .q, .host, .pc] s (flushVoq g p c stat s) := by
  refine keepsBut_then (keepsBut_setVoq g p c [] s) (m := [.port, .host, .pc]) ?_ (by simp) (by simp)
  refine keepsBut_foldl _ (fun s d => ?_) _ _
  exact keepsBut_then (keepsBut_dropQueued d s) (keepsBut_macCount p stat 1 _) (by simp) (by simp)

theorem keepsBut_flushEgress (p stat : Nat) (keep : EgFrame → Bool) (s : State) :
    keepsBut [.port, .q, .host, .pc] s (flushEgress p stat keep s) := by
  refine keepsBut_then (keepsBut_outMod (p / 8) _ s) (keepsBut_foldl (l := [.port, .host, .pc]) _ (fun s e => ?_) _ _)
    (by simp) (by simp)
  exact keepsBut_then (keepsBut_hostDropped e.desc s) (keepsBut_macCount p stat 1 _) (by simp) (by simp)

theorem keepsBut_dropCal (p : Nat) (s : State) : keepsBut [.port, .fwd, .q, .host, .pc] s (dropCal p s) := by
  refine keepsBut_then (l := [.port, .fwd, .q]) (keepsBut_foldl _ (fun s g => ?_) _ s) (keepsBut_flushEgress p 30 _ _)
    (by simp) (by simp)
  refine keepsBut_then (keepsBut_inMod g _ s) (m := [.port, .fwd]) (keepsBut_foldl _ (fun s d => ?_) _ _) (by simp) (by simp)
  exact keepsBut_then (keepsBut_copyDropped d s) (keepsBut_macCount p 30 1 _) (by simp) (by simp)

/-- The VOQs of a port, flushed in every input group. -/
theorem keepsBut_flushVoqs (p : Nat) (s : State) : keepsBut [.port, .q, .host, .pc] s
    ((List.range 24).foldl (fun s g => (List.range 8).foldl (fun s c => flushVoq g p c 29 s) s) s) :=
  keepsBut_foldl _ (fun s g => keepsBut_foldl _ (fun s c => keepsBut_flushVoq g p c 29 s) _ s) _ s

theorem keepsBut_flushPort (p : Nat) (s : State) : keepsBut [.port, .fwd, .q, .host, .pc] s (flushPort p s) := by
  refine keepsBut_then (keepsBut_flushVoqs p s) (m := [.port, .fwd, .q, .host, .pc]) ?_ (by simp) (by simp)
  exact keepsBut_then (keepsBut_dropCal p _) (keepsBut_flushEgress p 29 _ _) (by simp) (by simp)

theorem keepsBut_cutTransmission (p : Nat) (s : State) : keepsBut [.port, .host, .pc] s (cutTransmission p s) := by
  refine keepsBut_then (keepsBut_portMod p _ s) (keepsBut_foldl (l := [.port, .host, .pc]) _ (fun s f => ?_) _ _)
    (by simp) (by simp)
  exact keepsBut_then (keepsBut_hostDropped f.desc s) (keepsBut_macCount p 30 1 _) (by simp) (by simp)

/-- A link that ends under a DATA reset: its lanes run on, and its delay state is kept (R20, R48). -/
theorem keepsBut_linkEnds_lanesRun (p : Nat) (s : State) :
    keepsBut [.port, .fab, .host, .pc] s (linkEnds p true true s) := by
  refine keepsBut_then (l := [.port, .host, .pc]) ?_ (keepsBut_fabMod (fun _ => _) _) (by simp) (by simp)
  exact keepsBut_then (keepsBut_cutTransmission p s) (keepsBut_portMod p _ _) (by simp) (by simp)

/-- The parts that a port's fall under a DATA reset moves (R20, R243): the lanes are not among them. -/
def portResetParts : List Part := [.port, .fwd, .q, .fab, .host, .mb, .pc]

theorem keepsBut_portDown_keepDelay (p : Nat) (st : PortSt) (cause : Nat) (s : State) :
    keepsBut portResetParts s (portDown p st cause true s) := by
  unfold portDown portResetParts
  extract_lets was s₁ s₂ s₃
  have h₁ : keepsBut [.port, .fab, .host, .pc] s s₁ := by
    simp only [s₁]
    split
    · exact keepsBut_linkEnds_lanesRun p s
    · exact keepsBut_refl _ s
  have h₃ : keepsBut [.port, .fwd, .q, .host, .pc] s₁ s₃ :=
    keepsBut_then (keepsBut_flushPort p s₁) (keepsBut_portMod p _ s₂) (by simp) (by simp)
  have h : keepsBut [.port, .fwd, .q, .fab, .host, .mb, .pc] s s₃ := keepsBut_then h₁ h₃ (by simp) (by simp)
  split
  · exact h
  · exact keepsBut_then h (keepsBut_portEvent p s₃) (by simp) (by simp)

theorem keepsBut_resetPort_keepDelay (p : Nat) (s : State) : keepsBut portResetParts s (resetPort p true s) := by
  unfold resetPort
  split
  · exact keepsBut_refl _ s
  · exact keepsBut_portDown_keepDelay p .down 6 s

theorem keepsBut_dataBank (d : Nat) (s : State) : keepsBut portResetParts s (dataBank d s) := by
  refine keepsBut_foldl _ (fun s k => ?_) _ s
  dsimp only
  split
  · exact keepsBut_then (keepsBut_resetPort_keepDelay _ s) (keepsBut_portMod _ _ _) (fun _ q => q) (by simp [portResetParts])
  · exact keepsBut_refl _ s

theorem keepsBut_flushFrame (d : FrameDesc) (s : State) : keepsBut [.port, .host, .pc] s (flushFrame d s) :=
  keepsBut_then (keepsBut_foldl _ (fun s (o : OutCopy) => keepsBut_macCount o.port _ 1 s) d.outs s) (keepsBut_dropQueued d _)
    (by simp) (by simp)

theorem keepsBut_flushFrames (l : List FrameDesc) (s : State) :
    keepsBut [.port, .host, .pc] s (l.foldl (fun s d => flushFrame d s) s) :=
  keepsBut_foldl _ (fun s d => keepsBut_flushFrame d s) l s

theorem keepsBut_flushInput (g : Nat) (s : State) : keepsBut [.port, .q, .host, .pc] s (flushInput g s) :=
  keepsBut_then (keepsBut_inMod g _ s) (keepsBut_flushFrames _ _) (by simp) (by simp)

/-- The frames of an egress buffer, counted and dropped. -/
theorem keepsBut_dropEgress (l : List EgFrame) (s : State) : keepsBut [.port, .host, .pc] s (l.foldl (fun s e =>
    hostDropped e.desc (e.ports.foldl (fun s p => macCount p (if e.desc.cls = 8 then 30 else 29) 1 s) s)) s) := by
  refine keepsBut_foldl _ (fun s e => ?_) l s
  exact keepsBut_then (keepsBut_foldl _ (fun s p => keepsBut_macCount p _ 1 s) e.ports s) (keepsBut_hostDropped e.desc _)
    (by simp) (by simp)

theorem keepsBut_flushOutput (g : Nat) (s : State) : keepsBut [.port, .q, .host, .pc] s (flushOutput g s) :=
  keepsBut_then (keepsBut_outMod g _ s) (keepsBut_dropEgress _ _) (by simp) (by simp)

theorem keepsBut_rxClose (r cause : Nat) (s : State) : keepsBut [.host, .pc] s (rxClose r cause s) := by
  unfold rxClose
  split
  · rename_i f _ k _ _
    have hwrite : keepsBut [.host] s (rxWriteback r f k true 1 cause s) :=
      keepsBut_trans (keepsBut_hostWrite _ _ s) (keepsBut_ringMod true r _ _)
    have hpop : ∀ s, keepsBut [.host, .pc] s (rxPop r s) := fun s =>
      keepsBut_then (keepsBut_trans (keepsBut_withStore _ s) (keepsBut_ringMod true r _ _)) (keepsBut_bump 34 1 _)
        (by simp) (by simp)
    exact keepsBut_then (keepsBut_then (n := [.host, .pc]) hwrite (hpop _) (by simp) (by simp)) (keepsBut_ringMod true r _ _)
      (by simp) (by simp)
  · exact keepsBut_refl _ s

/-! ### Frames of a retune -/

theorem keepsBut_clkouts (s : State) : keepsBut [.tio] s (clkouts s) := by
  have htio : ∀ (x : TimeIO) (s : State), keepsBut [.tio] s { s with tio := x } := by
    intro x s p hp
    cases p <;> first | rfl | exact ⟨rfl, rfl, rfl⟩ | simp at hp
  refine keepsBut_foldl _ (fun s c => ?_) _ s
  split
  · exact htio _ s
  · split
    · exact keepsBut_refl _ s
    · exact htio _ s

theorem keepsBut_startSearch (n t : Nat) (s : State) : keepsBut [.ck, .pc] s (startSearch n t s) :=
  keepsBut_then (keepsBut_synMod n _ s) (keepsBut_bump 30 1 _) (by simp) (by simp)

theorem keepsBut_beginTune (n t : Nat) (s : State) : keepsBut [.ck, .pc] s (beginTune n t s) := by
  unfold beginTune
  extract_lets u
  have hu : keepsBut [.ck] s u := keepsBut_synMod n _ s
  split
  · exact keepsBut_then hu (keepsBut_synMod n _ u) (by simp) (by simp)
  · exact keepsBut_then hu (keepsBut_startSearch n t u) (by simp) (by simp)

theorem keepsBut_retune (n : Nat) (s : State) : keepsBut [.tio, .ck, .pc] s (retune n s) := by
  unfold retune
  dsimp only
  split
  · exact keepsBut_then (keepsBut_synMod n _ s) (keepsBut_clkouts _) (by simp) (by simp)
  · split
    · exact keepsBut_then (keepsBut_beginTune n _ s) (keepsBut_clkouts _) (by simp) (by simp)
    · exact keepsBut_mono (keepsBut_synMod n _ s) (by simp)

/-- A retune counts its searches by performance counters, and writes no recovery record. -/
theorem beginTune_kinds (n t : Nat) (s : State) : (beginTune n t s).pc.kinds = s.pc.kinds := by
  unfold beginTune
  dsimp only
  split
  · rfl
  · rfl

theorem clkouts_pc (s : State) : (clkouts s).pc = s.pc := keepsBut_clkouts s .pc (by simp)

theorem retune_kinds (n : Nat) (s : State) : (retune n s).pc.kinds = s.pc.kinds := by
  unfold retune
  dsimp only
  split
  · rw [clkouts_pc, synMod_pc]
  · split
    · rw [clkouts_pc, beginTune_kinds]
    · rw [synMod_pc]

/-- A scope's synthesiser takes up the option that waited for its reset (R212). -/
def takeWaiting (n : Nat) (s : State) : State :=
  if (synOf s n).pendOpt.isSome then retune n (takeOption n s) else s

theorem keepsBut_takeWaiting (n : Nat) (s : State) : keepsBut [.tio, .ck, .pc] s (takeWaiting n s) := by
  unfold takeWaiting
  split
  · exact keepsBut_then (keepsBut_synMod n _ s) (keepsBut_retune n _) (by simp) (by simp)
  · exact keepsBut_refl _ s

theorem takeWaiting_kinds (n : Nat) (s : State) : (takeWaiting n s).pc.kinds = s.pc.kinds := by
  unfold takeWaiting
  split
  · rw [retune_kinds]; rfl
  · rfl

/-! ### What a flush leaves (R282, R307) -/

/-- The forwarding tables that a statement about a DATA reset names: a flush counts dropped copies in the multicast table. -/
def namedTables (s : State) : Tbl L2Entry × Tbl VidEntry × FwdTables := (s.fwd.hw.l2, s.fwd.hw.vid, s.fwd.golden)

/-- A frame that keeps the forwarding part keeps the tables. -/
theorem namedTables_of_keepsBut {l : List Part} {s t : State} (h : keepsBut l s t) (m : Part.fwd ∉ l) :
    namedTables t = namedTables s := by
  have hfwd : t.fwd = s.fwd := h .fwd m
  simp only [namedTables, hfwd]

/-- What one operation keeps, a fold of it keeps. -/
theorem foldl_keeps {α β : Type} (p : State → β) (f : State → α → State) (h : ∀ s x, p (f s x) = p s) (xs : List α)
    (s : State) : p (xs.foldl f s) = p s :=
  List.foldlRecOn xs f (motive := fun t => p t = p s) rfl fun t ht x _ => (h t x).trans ht

theorem copyDropped_namedTables (d : FrameDesc) (s : State) : namedTables (copyDropped d s) = namedTables s := by
  unfold copyDropped
  split
  · rfl
  · rfl

theorem dropCal_namedTables (p : Nat) (s : State) : namedTables (dropCal p s) = namedTables s := by
  refine (namedTables_of_keepsBut (keepsBut_flushEgress p 30 _ _) (by simp)).trans ?_
  refine foldl_keeps namedTables _ (fun s g => ?_) _ s
  refine (foldl_keeps namedTables _ (fun s d => ?_) _ _).trans rfl
  exact copyDropped_namedTables d s

theorem flushPort_namedTables (p : Nat) (s : State) : namedTables (flushPort p s) = namedTables s := by
  refine (namedTables_of_keepsBut (keepsBut_flushEgress p 29 _ _) (by simp)).trans ?_
  exact (dropCal_namedTables p _).trans (namedTables_of_keepsBut (keepsBut_flushVoqs p s) (by simp))

theorem portDown_keepDelay_namedTables (p : Nat) (st : PortSt) (cause : Nat) (s : State) :
    namedTables (portDown p st cause true s) = namedTables s := by
  unfold portDown
  extract_lets was s₁ s₂ s₃
  have h₁ : namedTables s₁ = namedTables s := by
    simp only [s₁]
    split
    · exact namedTables_of_keepsBut (keepsBut_linkEnds_lanesRun p s) (by simp)
    · rfl
  have h₃ : namedTables s₃ = namedTables s := (flushPort_namedTables p s₁).trans h₁
  split
  · exact h₃
  · exact (namedTables_of_keepsBut (keepsBut_portEvent p s₃) (by simp)).trans h₃

theorem resetPort_keepDelay_namedTables (p : Nat) (s : State) : namedTables (resetPort p true s) = namedTables s := by
  unfold resetPort
  split
  · rfl
  · exact portDown_keepDelay_namedTables p .down 6 s

theorem dataBank_namedTables (d : Nat) (s : State) : namedTables (dataBank d s) = namedTables s := by
  refine foldl_keeps namedTables _ (fun s k => ?_) _ s
  dsimp only
  split
  · exact resetPort_keepDelay_namedTables _ s
  · rfl

/-- An input group holds no frame for a port or for the calendar. -/
def inputEmpty (x : InGroup) : Prop := x.voq = [] ∧ x.calq = []

/-- An input group is empty after a flush if it was the one flushed, or was so before. -/
theorem inputEmpty_flushInput {g j : Nat} {s : State} (hj : j < 24) (h : j = g ∨ inputEmpty (inGrp s j)) :
    inputEmpty (inGrp (flushInput g s) j) := by
  have hq : (flushInput g s).q = _ := keepsBut_flushFrames _ _ .q (by simp)
  unfold inGrp at *
  rw [hq]
  unfold inMod
  by_cases hg : j = g
  · subst hg
    rw [vmodN_same _ _ _ _ hj]
    exact ⟨rfl, rfl⟩
  · rw [vmodN_other _ _ _ _ _ hg]
    exact h.resolve_left hg

/-- The flush of an egress buffer moves no input group. -/
theorem flushOutput_inp (g : Nat) (s : State) : (flushOutput g s).q.inp = s.q.inp := by
  have hq : (flushOutput g s).q = _ := keepsBut_dropEgress _ _ .q (by simp)
  rw [hq]
  rfl

/-- After the flush of a list of groups an input group is empty if it was among them, or was so before. -/
theorem inputEmpty_flushes {j : Nat} (hj : j < 24) (gs : List Nat) (s : State) (h : j ∈ gs ∨ inputEmpty (inGrp s j)) :
    inputEmpty (inGrp (gs.foldl (fun s g => flushOutput g (flushInput g s)) s) j) := by
  induction gs generalizing s with
  | nil => simpa using h
  | cons g gs ih =>
    have hstep : j = g ∨ inputEmpty (inGrp s j) → inputEmpty (inGrp (flushOutput g (flushInput g s)) j) := by
      intro hg
      unfold inGrp
      rw [flushOutput_inp]
      exact inputEmpty_flushInput hj hg
    refine ih _ ?_
    rcases h with h | h
    · rcases List.mem_cons.mp h with h | h
      · exact .inr (hstep (.inl h))
      · exact .inl h
    · exact .inr (hstep (.inr h))

theorem vget_map {α β : Type} {n : Nat} (f : α → β) (v : Vector α n) (i : Nat) (d : α) :
    vget (v.map f) i (f d) = f (vget v i d) := by
  by_cases h : i < n
  · simp [vget, h]
  · simp [vget, h]

/-! ### The part of a DATA reset in the switch core -/

/-- Every group's queues flushed. -/
def flushGroups (s : State) : State := (List.range 24).foldl (fun s g => flushOutput g (flushInput g s)) s

/-- Flushed queues with their pointers and deficits at their start. -/
def clearQueues (q : Queues) : Queues :=
  { q with
    inp := q.inp.map (fun (x : InGroup) => { x with accept := Vector.replicate 3 0 })
    out := q.out.map (fun (_ : OutGroup) => {}) }

/-- The switch core with its queues empty, and its calendar to synchronise again. -/
def coreFlushed (s : State) : State :=
  calMod (fun c => { c with resync := true }) { flushGroups s with q := clearQueues (flushGroups s).q }

theorem dataCore_eq (s : State) :
    dataCore s = (List.range 8).foldl (fun s r => rxClose r 2 s) (refill (coreFlushed s)) := by
  unfold dataCore coreFlushed flushGroups clearQueues
  rfl

theorem keepsBut_flushGroups (s : State) : keepsBut [.port, .q, .host, .pc] s (flushGroups s) :=
  keepsBut_foldl _ (fun s g => keepsBut_trans (keepsBut_flushInput g s) (keepsBut_flushOutput g _)) _ s

theorem keepsBut_withQ (x : Queues) (s : State) : keepsBut [.q] s { s with q := x } := by
  intro p hp
  cases p <;> first | rfl | exact ⟨rfl, rfl, rfl⟩ | simp at hp

theorem keepsBut_coreFlushed (s : State) : keepsBut [.port, .q, .cald, .host, .pc] s (coreFlushed s) := by
  have hq := keepsBut_then (n := [.port, .q, .host, .pc]) (keepsBut_flushGroups s)
    (keepsBut_withQ (clearQueues (flushGroups s).q) _) (fun _ q => q) (by simp)
  exact keepsBut_then hq (keepsBut_calMod _ _) (by simp) (by simp)

theorem keepsBut_refill (s : State) : keepsBut [.fwd] s (refill s) := keepsBut_fwdMod (fun _ => _) s

/-- The end of a core's reset: the policers full, the host-bound frames in progress closed. -/
theorem keepsBut_dataCore_of_coreFlushed (s : State) : keepsBut [.fwd, .host, .pc] (coreFlushed s) (dataCore s) := by
  rw [dataCore_eq]
  exact keepsBut_then (keepsBut_refill _) (keepsBut_foldl _ (fun s r => keepsBut_rxClose r 2 s) _ _) (by simp) (by simp)

theorem keepsBut_dataCore (s : State) : keepsBut [.port, .fwd, .q, .cald, .host, .pc] s (dataCore s) :=
  keepsBut_then (keepsBut_coreFlushed s) (keepsBut_dataCore_of_coreFlushed s) (by simp) (by simp)

theorem refill_namedTables (s : State) : namedTables (refill s) = namedTables s := rfl

theorem dataCore_namedTables (s : State) : namedTables (dataCore s) = namedTables s := by
  rw [dataCore_eq, foldl_keeps namedTables _ fun s r => namedTables_of_keepsBut (keepsBut_rxClose r 2 s) (by simp),
    refill_namedTables]
  exact namedTables_of_keepsBut (keepsBut_coreFlushed s) (by simp)

theorem dataCore_cald (s : State) : (dataCore s).cald = { s.cald with resync := true } := by
  have h : (flushGroups s).cald = s.cald := keepsBut_flushGroups s .cald (by simp)
  have hcore : (coreFlushed s).cald = { (flushGroups s).cald with resync := true } := by
    unfold coreFlushed
    generalize flushGroups s = u
    rfl
  rw [keepsBut_dataCore_of_coreFlushed s .cald (by simp), hcore, h]

theorem dataCore_q (s : State) : (dataCore s).q = clearQueues (flushGroups s).q := by
  rw [keepsBut_dataCore_of_coreFlushed s .q (by simp)]
  unfold coreFlushed
  generalize flushGroups s = u
  rfl

/-- A DATA reset where D10 is On flushes every queue (R282, R307). -/
theorem dataCore_empty (s : State) (g : Nat) :
    inputEmpty (inGrp (dataCore s) g) ∧ (outGrp (dataCore s) g).egress = [] := by
  unfold outGrp inGrp
  rw [dataCore_q]
  constructor
  · by_cases hg : g < 24
    · have h : inputEmpty (inGrp (flushGroups s) g) := inputEmpty_flushes hg _ s (.inl (List.mem_range.mpr hg))
      exact (vget_map (fun (x : InGroup) => { x with accept := Vector.replicate 3 0 }) _ g {}).symm ▸ h
    · rw [vget, dif_neg hg]
      exact ⟨rfl, rfl⟩
  · exact congrArg OutGroup.egress (vget_map (fun (_ : OutGroup) => {}) _ g {})

/-! ### DATA reset (R20, R379, R382) -/

/-- A DATA reset in one domain: at once where it is On, else left for its next entry to On (R382). -/
def dataDomain (d : Nat) (s : State) : State :=
  if domOn s d then dataPart d s else rstMod (fun r => { r with deferred := r.deferred ++ [(2, d)] }) s

/-- The state in which a DATA reset reaches the domains. -/
def dataAsserted (src : Nat) (s : State) : State := rstMod (fun r => { r with data := some src }) (noteReset 2 src s)

/-- The domains of the lanes. -/
def laneBanks : List Nat := [4, 5, 6, 7, 8, 9]

theorem dataReset_eq {s : State} (hchip : inChip s = false) (hdata : s.rst.data = none) (src : Nat) :
    dataReset src s = takeWaiting 0 (dataDomain 10 (forEach laneBanks dataDomain (dataAsserted src s))) := by
  have hlast : ∀ t, dataDomain 10 (forEach laneBanks dataDomain t) = forEach (laneBanks ++ [10]) dataDomain t := fun t => by
    simp only [forEach, List.foldl_append, List.foldl_cons, List.foldl_nil]
  rw [hlast]
  unfold dataReset
  rw [hchip, hdata, if_neg (by simp)]
  unfold takeWaiting dataAsserted forEach dataDomain
  rfl

/-- The parts that a DATA reset moves in a domain that is On. -/
def dataParts : List Part := [.port, .fwd, .q, .cald, .fab, .host, .mb, .pc]

theorem keepsBut_dataPart (d : Nat) (s : State) : keepsBut dataParts s (dataPart d s) := by
  unfold dataPart
  split
  · exact keepsBut_mono (keepsBut_dataCore s) (by simp [dataParts])
  · exact keepsBut_mono (keepsBut_dataBank d s) (by simp [portResetParts, dataParts])

theorem dataPart_namedTables (d : Nat) (s : State) : namedTables (dataPart d s) = namedTables s := by
  unfold dataPart
  split
  · exact dataCore_namedTables s
  · exact dataBank_namedTables d s

/-- What a DATA reset has done to a state when it has reached some of the domains. -/
structure DataReached (s t : State) : Prop where
  frame : keepsBut (.rst :: dataParts) s t
  rst : t.rst = { s.rst with deferred := t.rst.deferred }
  cald : t.cald = { s.cald with resync := t.cald.resync }
  tables : namedTables t = namedTables s

theorem DataReached.refl (s : State) : DataReached s s := ⟨keepsBut_refl _ s, rfl, rfl, rfl⟩

theorem DataReached.trans {s t u : State} (h : DataReached s t) (k : DataReached t u) : DataReached s u where
  frame := keepsBut_trans h.frame k.frame
  rst := by rw [k.rst, h.rst]
  cald := by rw [k.cald, h.cald]
  tables := k.tables.trans h.tables

theorem dataPart_cald (d : Nat) (s : State) : (dataPart d s).cald = { s.cald with resync := (dataPart d s).cald.resync } := by
  unfold dataPart
  split
  · rw [dataCore_cald]
  · rw [keepsBut_dataBank d s .cald (by simp [portResetParts])]

theorem dataReached_dataDomain (d : Nat) (s : State) : DataReached s (dataDomain d s) := by
  unfold dataDomain
  split
  · have hrst : (dataPart d s).rst = s.rst := keepsBut_dataPart d s .rst (by simp [dataParts])
    exact ⟨keepsBut_mono (keepsBut_dataPart d s) fun _ q => List.mem_cons_of_mem _ q, by rw [hrst], dataPart_cald d s,
      dataPart_namedTables d s⟩
  · exact ⟨keepsBut_mono (keepsBut_rstMod _ s) (by simp), rfl, rfl, rfl⟩

theorem dataReached_forEach (ds : List Nat) (s : State) : DataReached s (forEach ds dataDomain s) :=
  List.foldlRecOn ds _ (motive := DataReached s) (DataReached.refl s) fun t h d _ => h.trans (dataReached_dataDomain d t)

/-- D10 On: its queues are empty. -/
theorem dataDomain_core_on {s : State} (h : domOn s 10 = true) : dataDomain 10 s = dataCore s := by
  simp [dataDomain, h, dataPart]

/-- D10 below On: its part waits. -/
theorem dataDomain_core_waits {s : State} (h : domOn s 10 = false) : (2, 10) ∈ (dataDomain 10 s).rst.deferred := by
  simp [dataDomain, h, rstMod]

theorem keepsBut_noteReset (scope src : Nat) (s : State) : keepsBut [.rst, .pc] s (noteReset scope src s) :=
  keepsBut_then (keepsBut_rstMod _ s) (keepsBut_recover 14 scope 0 _) (by simp) (by simp)

theorem keepsBut_dataAsserted (src : Nat) (s : State) : keepsBut [.rst, .pc] s (dataAsserted src s) :=
  keepsBut_then (keepsBut_noteReset 2 src s) (keepsBut_rstMod _ _) (by simp) (by simp)

/-- The domains see the power states as they were. -/
theorem domOn_of_keepsBut {l : List Part} {s t : State} (h : keepsBut l s t) (m : Part.pm ∉ l) (d : Nat) :
    domOn t d = domOn s d := by
  have hpm : t.pm = s.pm := h .pm m
  rw [domOn, domOn, hpm]

theorem keepsBut_dataReset {s : State} (hchip : inChip s = false) (hdata : s.rst.data = none) (src : Nat) :
    keepsBut [.port, .tio, .ck, .fwd, .q, .cald, .fab, .rst, .host, .mb, .pc] s (dataReset src s) := by
  rw [dataReset_eq hchip hdata]
  have hreached := (dataReached_forEach laneBanks (dataAsserted src s)).trans (dataReached_dataDomain 10 _)
  have hdom := keepsBut_then (n := .rst :: dataParts) (keepsBut_dataAsserted src s) hreached.frame
    (by simp [dataParts]) (fun _ q => q)
  exact keepsBut_then hdom (keepsBut_takeWaiting 0 _) (by simp [dataParts]) (by simp)

/-- What a DATA reset leaves (R20, R243, R282, R307, R379). -/
theorem dataReset_keeps {s : State} (hchip : inChip s = false) (hdata : s.rst.data = none) (src : Nat) :
    (dataReset src s).rst = { (dataAsserted src s).rst with deferred := (dataReset src s).rst.deferred } ∧
    (dataReset src s).cald = { s.cald with resync := (dataReset src s).cald.resync } ∧
    namedTables (dataReset src s) = namedTables s := by
  rw [dataReset_eq hchip hdata]
  have hend := keepsBut_takeWaiting 0 (dataDomain 10 (forEach laneBanks dataDomain (dataAsserted src s)))
  obtain ⟨-, hrst, hcald, htables⟩ :=
    (dataReached_forEach laneBanks (dataAsserted src s)).trans (dataReached_dataDomain 10 _)
  refine ⟨?_, ?_, (namedTables_of_keepsBut hend (by simp)).trans htables⟩
  · rw [hend .rst (by simp)]
    exact hrst
  · rw [hend .cald (by simp)]
    exact hcald

/-- What becomes of D10's queues in a DATA reset: flushed, or the reset waits for the domain (R282, R307, R382). -/
theorem dataReset_core {s : State} (hchip : inChip s = false) (hdata : s.rst.data = none) (src : Nat) :
    (domOn s 10 = true → ∀ g, inputEmpty (inGrp (dataReset src s) g) ∧ (outGrp (dataReset src s) g).egress = []) ∧
    (domOn s 10 = false → (2, 10) ∈ (dataReset src s).rst.deferred) := by
  rw [dataReset_eq hchip hdata]
  generalize hu : forEach laneBanks dataDomain (dataAsserted src s) = u
  have hreached : DataReached (dataAsserted src s) u := hu ▸ dataReached_forEach laneBanks (dataAsserted src s)
  have hdom : domOn u 10 = domOn s 10 :=
    (domOn_of_keepsBut hreached.frame (by simp [dataParts]) 10).trans
      (domOn_of_keepsBut (keepsBut_dataAsserted src s) (by simp) 10)
  have hend := keepsBut_takeWaiting 0 (dataDomain 10 u)
  constructor
  · intro hon g
    unfold inGrp outGrp
    rw [hend .q (by simp), dataDomain_core_on (hdom.trans hon)]
    exact dataCore_empty u g
  · intro hoff
    rw [hend .rst (by simp)]
    exact dataDomain_core_waits (hdom.trans hoff)

theorem exec_dataReset {src : Nat} (s : State) (hsrc : src ≠ 2) :
    exec (.dataReset src) s = .next (settle (dataReset src s)) := by
  have ht : triggered s 2 src = true := by simp [triggered, hsrc]
  show done (when (triggered s 2 src) (dataReset src s) s) = _
  rw [ht]
  rfl

/-! ### MGMT restart (R19, R379, R423) -/

/-- The management core's accesses that wait fail by the error log alone (R378). -/
theorem mgmtAccessesFail_rst (s : State) : ∃ waiting log0 log1,
    (mgmtAccessesFail s).rst = { s.rst with waiting := waiting, log0 := log0, log1 := log1 } := by
  refine List.foldlRecOn _ _ (motive := fun t : State => ∃ waiting log0 log1,
    t.rst = { s.rst with waiting := waiting, log0 := log0, log1 := log1 }) ⟨_, _, _, rfl⟩ ?_
  intro t ⟨waiting, log0, log1, h⟩ x _
  unfold errLog
  exact ⟨waiting, _, _, by rw [h]⟩

theorem keepsBut_mgmtAccessesFail (s : State) : keepsBut [.rst, .host] s (mgmtAccessesFail s) :=
  keepsBut_then (keepsBut_rstMod _ s) (keepsBut_foldl _ (fun s x => keepsBut_errLog 4 _ _ .mgmt _ s) _ _) (by simp) (fun _ q => q)

/-- The management core in reset, before its synthesiser takes up what waited for it. -/
def coreHeld (src : Nat) (s : State) : State :=
  bootMod (fun b => { b with stage := 0, update := none, keys := { b.keys with locked := false } })
    (hostMod (fun h => { h with mgmtRestartEvt := true })
      (mbMod (fun m => { m with fwReady := false, remote := [] })
        (rstMod (fun r => { r with mgmt := some src }) (mgmtAccessesFail s))))

theorem mgmtCore_eq (src : Nat) (s : State) : mgmtCore src s = takeWaiting 1 (coreHeld src s) := rfl

theorem keepsBut_coreHeld (src : Nat) (s : State) : keepsBut [.rst, .host, .msi, .mb, .boot] s (coreHeld src s) := by
  have hrst := keepsBut_then (n := [.rst, .host]) (keepsBut_mgmtAccessesFail s)
    (keepsBut_rstMod (fun r => { r with mgmt := some src }) _) (fun _ q => q) (by simp)
  have hmb := keepsBut_then (n := [.rst, .host, .mb]) hrst
    (keepsBut_mbMod (fun m => { m with fwReady := false, remote := [] }) _) (by simp) (by simp)
  have hhost := keepsBut_then (n := [.rst, .host, .msi, .mb]) hmb
    (keepsBut_hostMod (fun h => { h with mgmtRestartEvt := true }) _) (by simp) (by simp)
  exact keepsBut_then hhost (keepsBut_bootMod _ _) (by simp) (by simp)

theorem keepsBut_mgmtCore_of_coreHeld (src : Nat) (s : State) :
    keepsBut [.tio, .ck, .pc] (coreHeld src s) (mgmtCore src s) := keepsBut_takeWaiting 1 _

theorem keepsBut_mgmtCore (src : Nat) (s : State) :
    keepsBut [.tio, .ck, .rst, .host, .msi, .mb, .boot, .pc] s (mgmtCore src s) :=
  keepsBut_then (keepsBut_coreHeld src s) (keepsBut_mgmtCore_of_coreHeld src s) (by simp) (by simp)

theorem mgmtCore_rst (src : Nat) (s : State) : ∃ waiting log0 log1,
    (mgmtCore src s).rst = { s.rst with mgmt := some src, waiting := waiting, log0 := log0, log1 := log1 } := by
  obtain ⟨waiting, log0, log1, h⟩ := mgmtAccessesFail_rst s
  refine ⟨waiting, log0, log1, ?_⟩
  rw [keepsBut_mgmtCore_of_coreHeld src s .rst (by simp)]
  show { (mgmtAccessesFail s).rst with mgmt := some src } = _
  rw [h]

theorem mgmtCore_mb (src : Nat) (s : State) : (mgmtCore src s).mb.fwReady = false := by
  rw [keepsBut_mgmtCore_of_coreHeld src s .mb (by simp)]
  rfl

theorem mgmtCore_boot (src : Nat) (s : State) :
    (mgmtCore src s).boot.stage = 0 ∧ (mgmtCore src s).boot.keys.locked = false := by
  rw [keepsBut_mgmtCore_of_coreHeld src s .boot (by simp)]
  exact ⟨rfl, rfl⟩

theorem mgmtCore_mgmtRestartEvt (src : Nat) (s : State) : (mgmtCore src s).host.mgmtRestartEvt = true :=
  host_field_of_keepsBut HostIf.mgmtRestartEvt (fun _ _ _ _ => rfl) (keepsBut_mgmtCore_of_coreHeld src s) (by simp)

theorem mgmtCore_kinds (src : Nat) (s : State) : (mgmtCore src s).pc.kinds = s.pc.kinds := by
  have hpc : (coreHeld src s).pc = s.pc := keepsBut_coreHeld src s .pc (by simp)
  rw [mgmtCore_eq, takeWaiting_kinds, hpc]

section
variable {s : State} (hchip : inChip s = false) (hmgmt : s.rst.mgmt = none) (hd3 : domOn s 3 = true) (src : Nat)
include hchip hmgmt hd3

theorem mgmtRestart_eq : mgmtRestart src s = mgmtCore src (noteReset 3 src s) := by
  have hdom : domOn (noteReset 3 src s) 3 = true := (domOn_of_keepsBut (keepsBut_noteReset 3 src s) (by simp) 3).trans hd3
  unfold mgmtRestart
  rw [hchip, hmgmt]
  simp [hdom]

theorem keepsBut_mgmtRestart : keepsBut [.tio, .ck, .rst, .host, .msi, .mb, .boot, .pc] s (mgmtRestart src s) := by
  rw [mgmtRestart_eq hchip hmgmt hd3]
  exact keepsBut_then (keepsBut_noteReset 3 src s) (keepsBut_mgmtCore src _) (by simp) (fun _ q => q)

theorem mgmtRestart_rst : (mgmtRestart src s).rst.mgmt = some src ∧
    (mgmtRestart src s).rst.mgmtCount = satU 8 (s.rst.mgmtCount + 1) ∧
    (mgmtRestart src s).rst.halted = s.rst.halted ∧ (mgmtRestart src s).rst.wdTimes = s.rst.wdTimes := by
  obtain ⟨waiting, log0, log1, h⟩ := mgmtCore_rst src (noteReset 3 src s)
  rw [mgmtRestart_eq hchip hmgmt hd3, h]
  exact ⟨rfl, rfl, rfl, rfl⟩

/-- A MGMT restart is counted as a reset, and as no other recovery. -/
theorem mgmtRestart_kinds {k : Nat} (hk : k ≠ 14) :
    vget (mgmtRestart src s).pc.kinds k 0 = vget s.pc.kinds k 0 := by
  rw [mgmtRestart_eq hchip hmgmt hd3, mgmtCore_kinds]
  exact vmodN_other _ _ _ _ _ hk

end

theorem exec_mgmtRestart {src : Nat} (s : State) (hsrc : src ≠ 2) :
    exec (.mgmtRestart src) s = .next (settle (mgmtRestart src s)) := by
  have ht : triggered s 3 src = true := by simp [triggered, hsrc]
  show done (when (triggered s 3 src) (mgmtRestart src s) s) = _
  rw [ht]
  rfl

/-! ### The firmware watchdog (R383, R384) -/

/-- The watchdog restarts of the last 10 min. -/
def recentRestarts (s : State) : List Nat := s.rst.wdTimes.filter (fun n => decide (s.clk.elapsed ≤ n + 600 * uSec))

/-- The management core is held at the third restart within 10 min, this one among them. -/
theorem watchdogHalt_eq (s : State) : watchdogHalt s =
    if 2 ≤ (recentRestarts s).length then
      hostMod (fun h => { h with mgmtHaltEvt := true })
        (rstMod (fun r => { r with wdTimes := s.clk.elapsed :: recentRestarts s, halted := true }) s)
    else rstMod (fun r => { r with wdTimes := s.clk.elapsed :: recentRestarts s }) s := by
  have hnow : decide (s.clk.elapsed ≤ s.clk.elapsed + 600 * uSec) = true := by simp
  have hlist : (s.clk.elapsed :: s.rst.wdTimes).filter (fun n => decide (s.clk.elapsed ≤ n + 600 * uSec)) =
      s.clk.elapsed :: recentRestarts s := List.filter_cons_of_pos hnow
  unfold watchdogHalt
  rw [hlist]
  simp only [List.length_cons, Nat.reduceLeDiff]
  rfl

theorem keepsBut_watchdogHalt (s : State) : keepsBut [.rst, .host, .msi] s (watchdogHalt s) := by
  rw [watchdogHalt_eq]
  split
  · exact keepsBut_then (keepsBut_rstMod _ s) (keepsBut_hostMod _ _) (by simp) (by simp)
  · exact keepsBut_mono (keepsBut_rstMod _ s) (by simp)

theorem watchdogHalt_mgmt (s : State) : (watchdogHalt s).rst.mgmt = s.rst.mgmt := by
  rw [watchdogHalt_eq]
  split
  · rfl
  · rfl

theorem watchdogHalt_third {s : State} (h : 2 ≤ (recentRestarts s).length) :
    (watchdogHalt s).rst.halted = true ∧ (watchdogHalt s).host.mgmtHaltEvt = true := by
  rw [watchdogHalt_eq, if_pos h]
  exact ⟨rfl, rfl⟩

theorem watchdogHalt_before_third {s : State} (h : (recentRestarts s).length < 2) :
    (watchdogHalt s).rst.halted = s.rst.halted := by
  rw [watchdogHalt_eq, if_neg (by omega)]
  rfl

/-- The state in which the watchdog restarts the core: the restart counted (R384). -/
def watchdogCounted (s : State) : State := recover 11 0 3 (bump 16 1 s)

theorem keepsBut_watchdogCounted (s : State) : keepsBut [.pc] s (watchdogCounted s) :=
  keepsBut_trans (keepsBut_bump 16 1 s) (keepsBut_recover 11 0 3 _)

theorem watchdogCounted_kinds (s : State) : vget (watchdogCounted s).pc.kinds 11 0 = satU 32 (vget s.pc.kinds 11 0 + 1) :=
  vmodN_same s.pc.kinds 11 _ 0 (by decide)

theorem exec_firmwareWatchdog {s : State} (hchip : inChip s = false) (hmgmt : s.rst.mgmt = none) (hd3 : domOn s 3 = true) :
    exec .firmwareWatchdog s = .next (settle (watchdogHalt (mgmtRestart 4 (watchdogCounted s)))) := by
  show execFirmwareWatchdog s = _
  unfold execFirmwareWatchdog
  rw [hchip, hmgmt, hd3]
  rfl

/-! ### The release of a scope (R380, R381, R383) -/

theorem keepsBut_runTrims (apply : Bool) (taps : List Nat) (s : State) : keepsBut [.cal, .free] s (runTrims apply taps s) := by
  intro p hp
  cases p <;> first | rfl | exact ⟨rfl, rfl, rfl⟩ | simp at hp

theorem keepsBut_cupRecord (e k : Nat) (pass : Bool) (s : State) : keepsBut [.te] s (cupRecord e k pass s) :=
  keepsBut_engxMod e _ s

theorem keepsBut_convReject (c reason : Nat) (s : State) :
    keepsBut [.te, .cal, .host, .mb, .pc] s (convReject c reason s) := by
  unfold convReject
  extract_lets v n wait stale s₁ s₂ s₃
  have h₂ : keepsBut [.cal, .pc] s s₂ := keepsBut_then (keepsBut_convMod c _ s) (keepsBut_bump 29 1 s₁) (by simp) (by simp)
  have h₃ : keepsBut [.te] s₂ s₃ := by
    simp only [s₃]
    split
    · exact keepsBut_trans (keepsBut_cupRecord 0 2 false s₂) (keepsBut_cupRecord 1 2 false _)
    · exact keepsBut_refl _ s₂
  have h : keepsBut [.te, .cal, .host, .mb, .pc] s s₃ := keepsBut_then h₂ h₃ (by simp) (by simp)
  split
  · exact keepsBut_then h (keepsBut_issueEvent _ _ _ s₃) (fun _ q => q) (by simp)
  · exact h

theorem keepsBut_convCoarse (c : Nat) (s : State) : keepsBut [.te, .cal, .host, .mb, .pc] s (convCoarse c s) := by
  refine keepsBut_then (l := [.te, .cal, .host, .mb, .pc]) ?_ (keepsBut_convMod c _ _) (fun _ q => q) (by simp)
  unfold convAbort
  split
  · exact keepsBut_convReject c 6 s
  · exact keepsBut_refl _ s

theorem keepsBut_convsCoarse (d : Nat) (s : State) : keepsBut [.te, .cal, .host, .mb, .pc] s (convsCoarse d s) := by
  refine keepsBut_foldl _ (fun s c => ?_) _ s
  split
  · exact keepsBut_convCoarse c s
  · exact keepsBut_refl _ s

theorem keepsBut_releaseTrims (s : State) : keepsBut [.te, .cal, .host, .mb, .pc, .free] s (releaseTrims s) := by
  refine keepsBut_then (l := [.cal, .free]) ?_ (keepsBut_trans (keepsBut_convsCoarse 0 _) (keepsBut_convsCoarse 13 _))
    (by simp) (by simp)
  exact keepsBut_trans (keepsBut_runTrims _ _ s) (keepsBut_runTrims _ _ _)

theorem keepsBut_startSynths (s : State) : keepsBut [.tio, .ck, .pc] s (startSynths s) :=
  keepsBut_foldl _ (fun s n => keepsBut_retune n s) oscSyns s

theorem keepsBut_takeStraps (straps : Straps) (s : State) : keepsBut [.te, .fab, .boot] s (takeStraps straps s) := by
  refine keepsBut_then (l := [.te, .boot]) ?_ (keepsBut_fabMod (fun _ => _) _) (by simp) (by simp)
  exact keepsBut_then (keepsBut_bootMod _ s) (keepsBut_ksMod _ _) (by simp) (by simp)

/-- CHIP leaves reset: the straps taken, the trims run, the first synthesisers started. -/
def chipReleased (straps : Straps) (s : State) : State :=
  startSynths (releaseTrims (takeStraps straps (rstMod (fun r => { r with chip := none }) s)))

/-- The trims and the synthesisers of a release. -/
theorem keepsBut_chipReleased_of_takeStraps (straps : Straps) (s : State) :
    keepsBut [.te, .tio, .ck, .cal, .host, .mb, .pc, .free] (takeStraps straps (rstMod (fun r => { r with chip := none }) s))
      (chipReleased straps s) :=
  keepsBut_then (keepsBut_releaseTrims _) (keepsBut_startSynths _) (by simp) (by simp)

theorem keepsBut_chipReleased (straps : Straps) (s : State) :
    keepsBut [.te, .tio, .ck, .cal, .fab, .rst, .host, .mb, .boot, .pc, .free] s (chipReleased straps s) := by
  have h := keepsBut_then (n := [.te, .fab, .rst, .boot]) (keepsBut_rstMod (fun r => { r with chip := none }) s)
    (keepsBut_takeStraps straps _) (by simp) (by simp)
  exact keepsBut_then h (keepsBut_chipReleased_of_takeStraps straps s) (by simp) (by simp)

theorem chipReleased_chip (straps : Straps) (s : State) : (chipReleased straps s).rst.chip = none := by
  rw [keepsBut_chipReleased_of_takeStraps straps s .rst (by simp)]
  rfl

theorem chipReleased_straps (straps : Straps) (s : State) : (chipReleased straps s).boot.straps = straps := by
  rw [keepsBut_chipReleased_of_takeStraps straps s .boot (by simp)]
  rfl

theorem exec_resetRelease_chip {s : State} (h : s.rst.chip.isSome = true) (straps : Straps) :
    exec (.resetRelease .chip straps) s = .next (settle (chipReleased straps s)) := by
  show done (when s.rst.chip.isSome (chipReleased straps s) s) = _
  rw [h]
  rfl

theorem exec_resetRelease_mgmt (straps : Straps) (s : State) : exec (.resetRelease .mgmt straps) s =
    .next (settle (if s.rst.halted then s else rstMod (fun r => { r with mgmt := none }) s)) := by
  show done (when (!s.rst.halted) (rstMod (fun r => { r with mgmt := none }) s) s) = _
  cases s.rst.halted with
  | true => rfl
  | false => rfl

/-- A release that moves the reset part alone. -/
theorem rstMod_released {c : Instr} {s : State} {f : Resets → Resets} (h : exec c s = .next (settle (rstMod f s))) :
    ∃ t, exec c s = .next t ∧ keepsBut [.rst, .msi] s t ∧ t.rst = f s.rst :=
  ⟨_, h, keepsBut_done (keepsBut_mono (keepsBut_rstMod f s) (by simp)) (by simp), rfl⟩

/-! ### The statement -/

/-- The clause on a DATA reset. -/
theorem dataReset_flushes_and_keeps (src : Nat) (s : State) (hsrc : src ≠ 2) (hchip : inChip s = false)
    (hdata : s.rst.data = none) : ∃ t, exec (.dataReset src) s = .next t ∧
      keepsBut [.lane, .group, .port, .tio, .ck, .fwd, .q, .cald, .fab, .rst, .host, .msi, .mb, .pc] s t ∧
      t.cald = { s.cald with resync := t.cald.resync } ∧ t.rst.data = some src ∧ t.rst.lastScope = 2 ∧
      t.rst.dataCount = satU 8 (s.rst.dataCount + 1) ∧
      t.fwd.hw.l2 = s.fwd.hw.l2 ∧ t.fwd.hw.vid = s.fwd.hw.vid ∧ t.fwd.golden = s.fwd.golden ∧
      (∀ l, (laneOf t l).st = (laneOf s l).st) ∧
      (domOn s 10 = true → ∀ g, (inGrp t g).voq = [] ∧ (inGrp t g).calq = [] ∧ (outGrp t g).egress = []) ∧
      (domOn s 10 = false → (2, 10) ∈ t.rst.deferred) := by
  have hframe := keepsBut_dataReset hchip hdata src
  obtain ⟨hrst, hcald, htables⟩ := dataReset_keeps hchip hdata src
  obtain ⟨hflushed, hwaits⟩ := dataReset_core hchip hdata src
  simp only [namedTables, Prod.mk.injEq] at htables
  obtain ⟨hl2, hvid, hgolden⟩ := htables
  have hlane : (dataReset src s).lane = s.lane := hframe .lane (by simp)
  refine ⟨_, exec_dataReset s hsrc, keepsBut_done (keepsBut_mono hframe (by simp)) (by simp), ?_⟩
  rw [settle_cald, settle_rst, settle_fwd]
  refine ⟨hcald, ?_, ?_, ?_, hl2, hvid, hgolden, fun l => ?_, fun hon g => ?_, hwaits⟩
  · rw [hrst]; rfl
  · rw [hrst]; rfl
  · rw [hrst]; rfl
  · rw [laneOf, laneOf, settle_lane, hlane]
  · obtain ⟨⟨hvoq, hcalq⟩, hegress⟩ := hflushed hon g
    rw [inGrp, outGrp, settle_q]
    exact ⟨hvoq, hcalq, hegress⟩

/-- The clause on a MGMT restart. -/
theorem mgmtRestart_takes_core {s : State} (hchip : inChip s = false) (hmgmt : s.rst.mgmt = none) (hd3 : domOn s 3 = true)
    (src : Nat) (hsrc : src ≠ 2) : ∃ t, exec (.mgmtRestart src) s = .next t ∧
      keepsBut [.tio, .ck, .rst, .host, .msi, .mb, .boot, .pc] s t ∧
      t.rst.mgmt = some src ∧ t.mb.fwReady = false ∧ t.boot.stage = 0 ∧ t.host.mgmtRestartEvt = true ∧
      t.boot.keys.locked = false ∧ t.rst.mgmtCount = satU 8 (s.rst.mgmtCount + 1) ∧ t.rst.halted = s.rst.halted := by
  obtain ⟨hheld, hcount, hhalted, -⟩ := mgmtRestart_rst hchip hmgmt hd3 src
  have heq := mgmtRestart_eq hchip hmgmt hd3 src
  obtain ⟨hstage, hlocked⟩ := mgmtCore_boot src (noteReset 3 src s)
  have hready := mgmtCore_mb src (noteReset 3 src s)
  have hevt := mgmtCore_mgmtRestartEvt src (noteReset 3 src s)
  rw [← heq] at hstage hlocked hready hevt
  refine ⟨_, exec_mgmtRestart s hsrc, keepsBut_done (keepsBut_mgmtRestart hchip hmgmt hd3 src) (by simp), ?_⟩
  rw [settle_rst, settle_mb, settle_boot, settle_mgmtRestartEvt]
  exact ⟨hheld, hready, hstage, hevt, hlocked, hcount, hhalted⟩

/-- The clause on the firmware watchdog. -/
theorem firmwareWatchdog_restarts_core {s : State} (hchip : inChip s = false) (hmgmt : s.rst.mgmt = none)
    (hd3 : domOn s 3 = true) : ∃ t, exec .firmwareWatchdog s = .next t ∧
      keepsBut [.tio, .ck, .rst, .host, .msi, .mb, .boot, .pc] s t ∧ t.rst.mgmt = some 4 ∧
      t.mb.fwReady = false ∧ vget t.pc.kinds 11 0 = satU 32 (vget s.pc.kinds 11 0 + 1) ∧
      (2 ≤ (recentRestarts s).length → t.rst.halted = true ∧ t.host.mgmtHaltEvt = true) ∧
      ((recentRestarts s).length < 2 → t.rst.halted = s.rst.halted) := by
  have hexec := exec_firmwareWatchdog hchip hmgmt hd3
  have hcounted := keepsBut_watchdogCounted s
  have hkinds := watchdogCounted_kinds s
  generalize watchdogCounted s = u at hexec hcounted hkinds
  have hrst : u.rst = s.rst := hcounted .rst (by simp)
  have hclk : u.clk = s.clk := hcounted .clk (by simp)
  have hchip' : inChip u = false := by rw [inChip, hrst]; exact hchip
  have hmgmt' : u.rst.mgmt = none := by rw [hrst]; exact hmgmt
  have hd3' : domOn u 3 = true := (domOn_of_keepsBut hcounted (by simp) 3).trans hd3
  obtain ⟨hheld, -, hhalted, htimes⟩ := mgmtRestart_rst hchip' hmgmt' hd3' 4
  have hframe := keepsBut_mgmtRestart hchip' hmgmt' hd3' 4
  have hready : (mgmtRestart 4 u).mb.fwReady = false := by
    rw [mgmtRestart_eq hchip' hmgmt' hd3']
    exact mgmtCore_mb 4 _
  have hk := mgmtRestart_kinds hchip' hmgmt' hd3' 4 (k := 11) (by decide)
  generalize mgmtRestart 4 u = v at hexec hheld hhalted htimes hframe hready hk
  have hrecent : recentRestarts v = recentRestarts s := by
    rw [recentRestarts, recentRestarts, htimes, hrst, hframe .clk (by simp), hclk]
  have hwd := keepsBut_watchdogHalt v
  refine ⟨_, hexec, ?_, ?_⟩
  · exact keepsBut_done (keepsBut_then (keepsBut_then (n := [.tio, .ck, .rst, .host, .msi, .mb, .boot, .pc]) hcounted hframe
      (by simp) (fun _ q => q)) hwd (fun _ q => q) (by simp)) (by simp)
  · rw [settle_rst, settle_mb, settle_pc, settle_mgmtHaltEvt, hwd .mb (by simp), hwd .pc (by simp), watchdogHalt_mgmt]
    refine ⟨hheld, hready, hk.trans hkinds, fun h => ?_, fun h => ?_⟩
    · exact watchdogHalt_third (hrecent ▸ h)
    · rw [watchdogHalt_before_third (hrecent ▸ h), hhalted, hrst]

/-- The clause on CHIP's release. -/
theorem chip_leaves_reset {s : State} (h : s.rst.chip.isSome = true) (straps : Straps) :
    ∃ t, exec (.resetRelease .chip straps) s = .next t ∧
      keepsBut [.te, .tio, .ck, .cal, .fab, .rst, .host, .msi, .mb, .boot, .pc, .free] s t ∧ t.rst.chip = none ∧
      t.boot.straps = straps := by
  refine ⟨_, exec_resetRelease_chip h straps, ?_, ?_, ?_⟩
  · exact keepsBut_done (keepsBut_mono (keepsBut_chipReleased straps s) (by simp)) (by simp)
  · rw [settle_rst]
    exact chipReleased_chip straps s
  · rw [settle_boot]
    exact chipReleased_straps straps s

/-- Settles O42: a DATA reset is a fold over its domains, a MGMT restart one state of the core, and a release moves the reset
part and, for CHIP, what the straps and trims give. -/
theorem dataAndManagementReset : Obligations.DataAndManagementReset := by
  unfold Obligations.DataAndManagementReset
  refine ⟨dataReset_flushes_and_keeps, fun s hchip hmgmt hd3 => ⟨mgmtRestart_takes_core hchip hmgmt hd3,
    firmwareWatchdog_restarts_core hchip hmgmt hd3⟩, fun straps s => ⟨fun h => chip_leaves_reset h straps,
    ?_, fun h => ?_, fun h => ?_, fun g => ?_, fun l => ?_⟩⟩
  · exact rstMod_released (f := fun r => { r with data := none }) rfl
  · exact rstMod_released (f := fun r => { r with mgmt := none }) (by rw [exec_resetRelease_mgmt, h]; rfl)
  · rw [exec_resetRelease_mgmt, h]
    rfl
  · exact rstMod_released (f := fun r => { r with groups := r.groups.set g false }) rfl
  · exact rstMod_released (f := fun r => { r with lanes := r.lanes.set l false }) rfl

end Sys2Proof.Machine

/-! The time model (R27, R28, R37, R150, R169): the bytes that spell a full time, the five-edge pattern of the time clock,
and the engine that the time counter does not take while it hands over to be powered down. -/

namespace Sys2Proof.Machine

/-! ### Bytes that spell a number (R9) -/

@[simp] theorem length_le (n v : Nat) : (le n v).length = n := by
  induction n generalizing v with
  | zero => rfl
  | succ n ih => simp [le, ih]

theorem leNat_le_mod (n v : Nat) : leNat (le n v) = v % 256 ^ n := by
  induction n generalizing v with
  | zero => simp [le, leNat, Nat.mod_one]
  | succ n ih => rw [le, leNat, ih, BitVec.toNat_ofNat, show 2 ^ 8 = 256 from rfl, Nat.pow_succ', Nat.mod_mul]

theorem le_leNat (l : List Byte) : le l.length (leNat l) = l := by
  induction l with
  | nil => rfl
  | cons b l ih =>
    have hb : b.toNat < 256 := b.isLt
    have hlow : BitVec.ofNat 8 (b.toNat + 256 * leNat l) = b := BitVec.eq_of_toNat_eq (by simp; omega)
    have hrest : (b.toNat + 256 * leNat l) / 256 = leNat l := by omega
    rw [leNat, List.length_cons, le, hlow, hrest, ih]

theorem slice_eq_take_drop {l : List Byte} {o n : Nat} (h : o + n ≤ l.length) : slice l o n = (l.drop o).take n := by
  refine List.ext_getElem (by simp [slice]; omega) fun i h₁ _ => ?_
  have hi : i < n := by simpa [slice] using h₁
  simp [slice, List.getElem?_eq_getElem (show o + i < l.length by omega)]

/-- A field reads back the number that was placed there. -/
theorem fieldLe_append_le {a c : List Byte} {o n v : Nat} (ha : a.length = o) (hv : v < 256 ^ n) :
    fieldLe (a ++ (le n v ++ c)) o n = v := by
  subst ha
  have hs : slice (a ++ (le n v ++ c)) a.length n = le n v := by
    rw [slice_eq_take_drop (by simp), List.drop_left, List.take_left' (length_le n v)]
  rw [fieldLe, hs, leNat_le_mod, Nat.mod_eq_of_lt hv]

theorem le_fieldLe (l : List Byte) (o n : Nat) : le n (fieldLe l o n) = slice l o n := by
  have h := le_leNat (slice l o n)
  rwa [show (slice l o n).length = n by simp [slice]] at h

/-! ### Full time and its fields (R27, R28) -/

theorem fracOf_lt (t : Nat) : fracOf t < 2 ^ 20 := Nat.mod_lt t (by decide)

theorem nsOf_lt (t : Nat) : nsOf t < 1000000000 := by
  unfold nsOf uSec uNs
  omega

theorem secOf_lt {t : Nat} (h : t < timeSpan) : secOf t < 2 ^ 48 := Nat.div_lt_of_lt_mul (by rwa [Nat.mul_comm])

theorem spelt_by_fields (t : Nat) : t = secOf t * uSec + nsOf t * uNs + fracOf t := by
  unfold secOf nsOf fracOf uSec uNs
  omega

section
variable {f n : Nat} (s : Nat) (hf : f < 2 ^ 20) (hn : n < 1000000000)
include hf

theorem fracOf_spelt (n : Nat) : fracOf (s * uSec + n * uNs + f) = f := by
  unfold fracOf uSec uNs
  omega

include hn

theorem nsOf_spelt : nsOf (s * uSec + n * uNs + f) = n := by
  unfold nsOf uSec uNs
  omega

theorem secOf_spelt : secOf (s * uSec + n * uNs + f) = s := by
  unfold secOf uSec uNs
  omega

theorem spelt_lt_timeSpan {s : Nat} (hs : s < 2 ^ 48) : s * uSec + n * uNs + f < timeSpan := by
  unfold timeSpan uSec uNs
  omega

end

/-! ### The sixteen bytes (R27) -/

theorem length_fullBytes (t : Nat) : (fullBytes t).length = 16 := by simp [fullBytes]

theorem fieldLe_fullBytes_frac (t : Nat) : fieldLe (fullBytes t) 0 4 = fracOf t := by
  rw [fullBytes, List.append_assoc]
  exact fieldLe_append_le (a := []) (n := 4) rfl (lt_trans (fracOf_lt t) (by decide))

theorem fieldLe_fullBytes_ns (t : Nat) : fieldLe (fullBytes t) 4 4 = nsOf t := by
  rw [fullBytes, List.append_assoc]
  exact fieldLe_append_le (length_le 4 _) (lt_trans (nsOf_lt t) (by decide))

theorem fieldLe_fullBytes_sec {t : Nat} (ht : t < timeSpan) : fieldLe (fullBytes t) 8 8 = secOf t := by
  rw [fullBytes, ← List.append_nil (le 8 (secOf t))]
  exact fieldLe_append_le (by simp) (lt_trans (secOf_lt ht) (by decide))

/-- What sixteen bytes must hold to be a full time, and the time they then spell. -/
theorem fullOf_eq_some {l : List Byte} {t : Nat} : fullOf l = some t ↔
    (fieldLe l 0 4 < 2 ^ 20 ∧ fieldLe l 4 4 < 1000000000 ∧ fieldLe l 8 8 < 2 ^ 48) ∧
      fieldLe l 8 8 * uSec + fieldLe l 4 4 * uNs + fieldLe l 0 4 = t := by
  simp [fullOf]

theorem fullOf_fullBytes {t : Nat} (ht : t < timeSpan) : fullOf (fullBytes t) = some t := by
  rw [fullOf_eq_some, fieldLe_fullBytes_frac, fieldLe_fullBytes_ns, fieldLe_fullBytes_sec ht]
  exact ⟨⟨fracOf_lt t, nsOf_lt t, secOf_lt ht⟩, (spelt_by_fields t).symm⟩

theorem slices_append {l : List Byte} (hl : l.length = 16) : slice l 0 4 ++ slice l 4 4 ++ slice l 8 8 = l := by
  have h4 : slice l 4 4 = (l.drop 4).take 4 := slice_eq_take_drop (by omega)
  have h8 : slice l 8 8 = (l.drop 4).drop 4 := by
    rw [slice_eq_take_drop (by omega), List.drop_drop, List.take_of_length_le (by simp; omega)]
  rw [slice_eq_take_drop (by omega), h4, h8, List.append_assoc, List.take_append_drop, List.drop_zero, List.take_append_drop]

theorem fullBytes_of_fullOf {l : List Byte} {t : Nat} (hl : l.length = 16) (h : fullOf l = some t) :
    t < timeSpan ∧ fullBytes t = l := by
  obtain ⟨⟨hf, hn, hs⟩, rfl⟩ := fullOf_eq_some.mp h
  refine ⟨spelt_lt_timeSpan hf hn hs, ?_⟩
  rw [fullBytes, fracOf_spelt _ hf, nsOf_spelt _ hf hn, secOf_spelt _ hf hn, le_fieldLe, le_fieldLe, le_fieldLe,
    slices_append hl]

/-! ### One edge of the time clock (R37) -/

/-- Which edge of the five-edge pattern comes next: the pattern starts again on an 8 ns boundary. -/
def nextEdge (s : State) : Nat := if s.clk.now % (8 * uNs) = 0 then 0 else s.clk.edge.val

@[simp] theorem latchClaims_clk (s : State) : (latchClaims s).clk = s.clk := by
  unfold latchClaims
  split
  · rfl
  · rfl

/-- The time clock's part of an edge: the latch of the claims does not touch it (R155). -/
theorem timeClockEdge_clk (s : State) : (timeClockEdge s).clk = { s.clk with
    now := (s.clk.now + edgeAdd (nextEdge s)) % timeSpan
    elapsed := s.clk.elapsed + edgeAdd (nextEdge s)
    edge := if nextEdge s = 4 then 0 else Fin.ofNat 5 (nextEdge s + 1) } := by
  unfold timeClockEdge nextEdge
  extract_lets e u v
  have hv : v.clk = u.clk := by
    simp only [v]
    split
    · exact latchClaims_clk u
    · rfl
  change { v.clk with edge := if e = 4 then 0 else Fin.ofNat 5 (e + 1) } = _
  rw [hv]
  rfl

theorem nextEdge_lt (s : State) : nextEdge s < 5 := by
  unfold nextEdge
  split
  · decide
  · exact s.clk.edge.isLt

theorem timeClockEdge_edge (s : State) : (timeClockEdge s).clk.edge.val = (nextEdge s + 1) % 5 := by
  have hlt := nextEdge_lt s
  rw [timeClockEdge_clk]
  dsimp only
  split
  · omega
  · rfl

/-- What the first `k` edges from an 8 ns boundary add. -/
def edgeSum (k : Nat) : Nat := ((List.range k).map edgeAdd).sum

theorem edgeSum_succ (k : Nat) : edgeSum (k + 1) = edgeSum k + edgeAdd k := by
  simp [edgeSum, List.range_succ]

/-- The five edges add exactly 8 ns, and the first four end on no boundary. -/
theorem edgeSum_five : edgeSum 5 = 8 * uNs := by decide

theorem edgeSum_off_boundary : ∀ k : Fin 5, edgeSum k % (8 * uNs) = 0 → k = 0 := by decide

/-- Full time wraps on an 8 ns boundary. -/
theorem mod_timeSpan_mod_boundary (t : Nat) : t % timeSpan % (8 * uNs) = t % (8 * uNs) :=
  Nat.mod_mod_of_dvd t (by decide)

/-! ### The pattern of R37 -/

/-- A state that stands `k` edges of the time clock after another one, which stood on an 8 ns boundary. -/
structure EdgesAfter (k : Nat) (s t : State) : Prop where
  next : nextEdge t = k % 5
  now : t.clk.now = (s.clk.now + edgeSum k) % timeSpan
  elapsed : t.clk.elapsed = s.clk.elapsed + edgeSum k

section
variable {s : State} (hb : s.clk.now % (8 * uNs) = 0)
include hb

theorem EdgesAfter.start (hr : s.clk.now < timeSpan) : EdgesAfter 0 s s where
  next := by rw [nextEdge, if_pos hb]
  now := (Nat.mod_eq_of_lt hr).symm
  elapsed := rfl

theorem EdgesAfter.succ {k : Nat} (hk : k < 5) {t : State} (h : EdgesAfter k s t) :
    EdgesAfter (k + 1) s (timeClockEdge t) := by
  obtain ⟨hnext, hnow, helapsed⟩ := h
  rw [Nat.mod_eq_of_lt hk] at hnext
  have hsum := edgeSum_succ k
  have hnow' : (timeClockEdge t).clk.now = (s.clk.now + edgeSum (k + 1)) % timeSpan := by
    rw [timeClockEdge_clk, hnext, hnow, hsum, ← Nat.add_assoc, Nat.mod_add_mod]
  refine ⟨?_, hnow', by rw [timeClockEdge_clk, hnext, helapsed, hsum, Nat.add_assoc]⟩
  unfold nextEdge
  split
  next hbound =>
    rw [hnow', mod_timeSpan_mod_boundary, Nat.add_mod, hb, Nat.zero_add, Nat.mod_mod] at hbound
    by_contra hne
    have hfirst : k + 1 < 5 := by omega
    exact absurd (edgeSum_off_boundary ⟨k + 1, hfirst⟩ hbound) (by simp [Fin.ext_iff])
  next => rw [timeClockEdge_edge, hnext]

theorem edgesAfter_repeat (hr : s.clk.now < timeSpan) : ∀ k ≤ 5, EdgesAfter k s (Nat.repeat timeClockEdge k s)
  | 0, _ => EdgesAfter.start hb hr
  | k + 1, hk => EdgesAfter.succ hb (by omega) (edgesAfter_repeat hr k (by omega))

/-- The pattern repeats: each five edges add 8 ns and end on a boundary again. -/
theorem repeat_five_edges (hr : s.clk.now < timeSpan) (n : Nat) :
    (Nat.repeat timeClockEdge (5 * n) s).clk.now = (s.clk.now + n * (8 * uNs)) % timeSpan ∧
      (Nat.repeat timeClockEdge (5 * n) s).clk.elapsed = s.clk.elapsed + n * (8 * uNs) := by
  induction n with
  | zero =>
    rw [Nat.zero_mul]
    exact ⟨(Nat.mod_eq_of_lt hr).symm, rfl⟩
  | succ n ih =>
    rw [show Nat.repeat timeClockEdge (5 * (n + 1)) s =
      Nat.repeat timeClockEdge 5 (Nat.repeat timeClockEdge (5 * n) s) from rfl]
    generalize Nat.repeat timeClockEdge (5 * n) s = u at ih
    obtain ⟨hnow, helapsed⟩ := ih
    have hub : u.clk.now % (8 * uNs) = 0 := by
      rw [hnow, mod_timeSpan_mod_boundary, Nat.add_mul_mod_self_right, hb]
    have hur : u.clk.now < timeSpan := hnow ▸ Nat.mod_lt _ (by decide)
    obtain ⟨-, hnow', helapsed'⟩ := edgesAfter_repeat hub hur 5 le_rfl
    rw [hnow', helapsed', hnow, helapsed, edgeSum_five, Nat.mod_add_mod, Nat.add_mul]
    exact ⟨by rw [Nat.one_mul, Nat.add_assoc], by rw [Nat.one_mul, Nat.add_assoc]⟩

end

/-- The values of the first five edges. -/
theorem edgeSum_eq : ∀ k : Fin 5, [1677722, 3355443, 5033165, 6710886, 8388608].getD k 0 = edgeSum (k + 1) := by decide

/-- Settles O5: a full time's bytes are its three fields cut apart and put together again, and the pattern of R37 is followed
edge by edge to the next 8 ns boundary, where it starts again. -/
theorem fullTimeIsExact : Obligations.FullTimeIsExact := by
  unfold Obligations.FullTimeIsExact
  refine ⟨⟨fun t ht => ⟨fullOf_fullBytes ht, length_fullBytes t, fieldLe_fullBytes_frac t, fieldLe_fullBytes_ns t,
    fieldLe_fullBytes_sec ht, fracOf_lt t, nsOf_lt t, secOf_lt ht, spelt_by_fields t⟩,
    fun l t hl h => fullBytes_of_fullOf hl h⟩, fun n s hb hr => ⟨fun k hk => ?_, repeat_five_edges hb hr n⟩⟩
  rw [(edgesAfter_repeat hb hr (k + 1) hk).now, edgeSum_eq ⟨k, hk⟩]

/-! ### An engine that hands over to be powered down (R150, R169) -/

/-- The claim of an engine that a planned handover takes out of service is 0x00. -/
theorem claimOf_of_leaving {s : State} {e : EngIx} {st : Nat} (hp : s.te.ks.planned = true)
    (hq : s.te.ks.pendingPower = some (e, st)) : claimOf s e.val = 0 := by
  simp [claimOf, hp, hq]

/-- Where neither engine presents a claim, the time counter takes none (R150). -/
theorem accepted_eq_none {s : State} (h : ∀ e : EngIx, (engxOf s e.val).claim = 0) : accepted s = none := by
  have h₀ : (engxOf s 0).claim = 0 := h 0
  have h₁ : (engxOf s 1).claim = 0 := h 1
  simp [accepted, claimWinner, h₀, h₁]

@[simp] theorem engxMod_ks (e : Nat) (f : EngineX → EngineX) (s : State) : (engxMod e f s).te.ks = s.te.ks := rfl

theorem engxOf_engxMod_same (e : EngIx) (f : EngineX → EngineX) (s : State) :
    engxOf (engxMod e.val f s) e.val = f (engxOf s e.val) := vmodN_same s.te.engx e.val f {} e.isLt

theorem engxOf_engxMod_other {e i : EngIx} (h : i ≠ e) (f : EngineX → EngineX) (s : State) :
    engxOf (engxMod e.val f s) i.val = engxOf s i.val :=
  vmodN_other s.te.engx e.val i.val f {} (Fin.val_ne_of_ne h)

/-- The engines once the time clock of one is good again and its claim is presented anew. -/
def clockGood (e : EngIx) (s : State) : State :=
  let u := engxMod e.val (fun x => { x with clkOk := true }) s
  engxMod e.val (fun x => { x with claim := claimOf u e.val }) u

theorem clockGood_claim (e : EngIx) (s : State) : (engxOf (clockGood e s) e.val).claim =
    claimOf (engxMod e.val (fun x => { x with clkOk := true }) s) e.val := by
  rw [clockGood, engxOf_engxMod_same]

theorem clockGood_other {e i : EngIx} (h : i ≠ e) (s : State) : engxOf (clockGood e s) i.val = engxOf s i.val := by
  rw [clockGood, engxOf_engxMod_other h, engxOf_engxMod_other h]

/-- With nobody in control and no claim presented, an engine's good time clock leaves nobody in control. -/
theorem exec_engineTimeClockSupply_unclaimed {s : State} {e : EngIx} (hon : (engxOf s e.val).on = true)
    (hpor : s.rst.por = false) (hctl : s.te.ks.control = none) (h : accepted (clockGood e s) = none) :
    exec (.engineTimeClockSupply e) s = .next (settle (clockGood e s)) := by
  change execEngineTimeClockSupply e s = done (clockGood e s)
  simp only [clockGood] at h ⊢
  simp only [execEngineTimeClockSupply, hon, hpor, hctl, engxMod_ks, Option.isNone_none, h, Bool.not_true, Bool.or_false,
    Bool.false_eq_true, if_false, if_true]

/-- An engine that hands over to be powered down does not take control when its time clock is good again. -/
theorem engineTimeClockSupply_of_leaving {s : State} {e : EngIx} {st : Nat} (hon : (engxOf s e.val).on = true)
    (hpor : s.rst.por = false) (hctl : s.te.ks.control = none) (hother : ∀ i ≠ e, (engxOf s i.val).claim = 0)
    (hp : s.te.ks.planned = true) (hq : s.te.ks.pendingPower = some (e, st)) :
    ∃ t, exec (.engineTimeClockSupply e) s = .next t ∧ t.te.ks.control = none := by
  have hclaims : ∀ i : EngIx, (engxOf (clockGood e s) i.val).claim = 0 := by
    intro i
    by_cases hi : i = e
    · subst hi
      rw [clockGood_claim]
      exact claimOf_of_leaving hp hq
    · rw [clockGood_other hi, hother i hi]
  exact ⟨_, exec_engineTimeClockSupply_unclaimed hon hpor hctl (accepted_eq_none hclaims), hctl⟩

/-- Out of power-on reset with nobody in control: TE-A is On and healthy, and a planned handover is under way after which it
is to be powered down; TE-B presents no claim. -/
def leavingEngine : State :=
  ksMod (fun k => { k with planned := true, pendingPower := some (0, domCode .off) })
    (engxMod 0 (fun x => { x with on := true, health := 7, base := 8 })
      { State.reset with rst := { State.reset.rst with por := false } })

/-- Refutes O6: its last clause asks that the engine whose time clock is good take control where the other presents no claim.
An engine that a planned handover takes out of service presents none either (R169), so nobody is accepted (R150). -/
theorem not_theTimeCounter : ¬ Obligations.TheTimeCounter := by
  unfold Obligations.TheTimeCounter
  rintro ⟨-, -, -, hsupply⟩
  obtain ⟨t, ht, -, hcontrol, -⟩ := hsupply 0 leavingEngine rfl rfl rfl (by decide) (by decide) rfl
  obtain ⟨u, hu, hnone⟩ := engineTimeClockSupply_of_leaving (s := leavingEngine) (e := 0) rfl rfl rfl (by decide) rfl rfl
  rw [hu, Host.Outcome.next.injEq] at ht
  rw [← ht, hnone] at hcontrol
  cases hcontrol

end Sys2Proof.Machine

/-! Lanes, their sleep, and frames at ports (R48 to R63, R243 to R249, R257): what the operations of a lane, of a port and of a
MAC do to the one lane or port that they name, and the statements about them. -/

namespace Sys2Proof.Machine

/-! ### One lane, one port, one group -/

theorem laneOf_laneMod_same {l : Nat} (hl : l < 192) (f : Lane → Lane) (s : State) :
    laneOf (laneMod l f s) l = f (laneOf s l) := vmodN_same s.lane l f {} hl

theorem portOf_portMod_same {p : Nat} (hp : p < 192) (f : Port → Port) (s : State) :
    portOf (portMod p f s) p = f (portOf s p) := vmodN_same s.port p f {} hp

theorem groupOf_groupMod_same {g : Nat} (hg : g < 24) (f : Group → Group) (s : State) :
    groupOf (groupMod g f s) g = f (groupOf s g) := vmodN_same s.group g f {} hg

/-- A frame that keeps the lanes keeps each of them; the same for the ports. -/
theorem laneOf_of_keepsBut {m : List Part} {s t : State} (h : keepsBut m s t) (hm : Part.lane ∉ m) (l : Nat) :
    laneOf t l = laneOf s l := congrArg (fun v : Vector Lane 192 => vget v l {}) (h .lane hm)

theorem portOf_of_keepsBut {m : List Part} {s t : State} (h : keepsBut m s t) (hm : Part.port ∉ m) (p : Nat) :
    portOf t p = portOf s p := congrArg (fun v : Vector Port 192 => vget v p {}) (h .port hm)

@[simp] theorem laneOf_settle (s : State) (l : Nat) : laneOf (settle s) l = laneOf s l := rfl
@[simp] theorem portOf_settle (s : State) (p : Nat) : portOf (settle s) p = portOf s p := rfl
@[simp] theorem laneOf_portMod (p l : Nat) (f : Port → Port) (s : State) : laneOf (portMod p f s) l = laneOf s l := rfl
@[simp] theorem portOf_laneMod (l p : Nat) (f : Lane → Lane) (s : State) : portOf (laneMod l f s) p = portOf s p := rfl

theorem otherLanes_trans {l : Nat} {s t u : State} (h : otherLanes l s t) (k : otherLanes l t u) : otherLanes l s u :=
  fun j hj => (k j hj).trans (h j hj)

theorem otherLanes_laneMod (l : Nat) (f : Lane → Lane) (s : State) : otherLanes l s (laneMod l f s) :=
  fun j hj => vmodN_other s.lane l j f {} hj

theorem otherLanes_of_keepsBut {m : List Part} {s t : State} (h : keepsBut m s t) (hm : Part.lane ∉ m) (l : Nat) :
    otherLanes l s t := fun j _ => laneOf_of_keepsBut h hm j

theorem otherLanes_settle {l : Nat} {s t : State} (h : otherLanes l s t) : otherLanes l s (settle t) := h

theorem otherPorts_trans {p : Nat} {s t u : State} (h : otherPorts p s t) (k : otherPorts p t u) : otherPorts p s u :=
  fun j hj => (k j hj).trans (h j hj)

theorem otherPorts_portMod (p : Nat) (f : Port → Port) (s : State) : otherPorts p s (portMod p f s) :=
  fun j hj => vmodN_other s.port p j f {} hj

theorem otherPorts_of_keepsBut {m : List Part} {s t : State} (h : keepsBut m s t) (hm : Part.port ∉ m) (p : Nat) :
    otherPorts p s t := fun j _ => portOf_of_keepsBut h hm j

theorem otherPorts_settle {p : Nat} {s t : State} (h : otherPorts p s t) : otherPorts p s (settle t) := h

/-! ### The pattern checker's counter of bits (R55) -/

/-- A checker in sync that receives a bit leaves its counter within 64 bits, whatever it held. -/
theorem checkBit_bits_lt {q : LanePat} (h : q.chkSync = true) (rx : Bool) : (checkBit q rx).bits < 2 ^ 64 := by
  unfold checkBit
  rw [if_pos h]
  dsimp only
  split
  · exact Nat.lt_of_le_of_lt (Nat.min_le_right _ _) (by decide)
  · exact Nat.lt_of_le_of_lt (Nat.min_le_right _ _) (by decide)

/-- A command that hands bits to a running checker: the lane's pattern state after them. -/
theorem patternCheckerSync_pat {l : LaneIx} {rx : List Bool} {s t : State} (hon : (laneOf s l.val).pat.chkOn = true)
    (h : exec (.patternCheckerSync l rx) s = .next t) :
    (laneOf t l.val).pat = rx.foldl checkBit (laneOf s l.val).pat := by
  have ht : .next (settle (laneMod l.val (fun x => { x with pat := checkBits rx x.pat }) s)) = Host.Outcome.next t := h
  rw [Host.Outcome.next.injEq] at ht
  rw [← ht, laneOf_settle, laneOf_laneMod_same l.isLt]
  exact if_pos hon

theorem patternBits_one (sel : Nat) (inv : Bool) (user : Word) (hist : List Bool) :
    patternBits sel inv user 1 hist = [(nextBit sel user hist).getD false ^^ inv] := rfl

/-- A checker in sync whose counter holds more than its 64 bits can count. -/
def overfullChecker : State :=
  laneMod 0 (fun x => { x with pat := { chkOn := true, chkSync := true, bits := 2 ^ 64 } }) State.reset

theorem overfullChecker_pat :
    (laneOf overfullChecker (0 : LaneIx).val).pat = { chkOn := true, chkSync := true, bits := 2 ^ 64 } :=
  congrArg Lane.pat (laneOf_laneMod_same (by decide) _ State.reset)

/-- Refutes O11: its clause on a checker in sync lets a counter that already stands beyond 64 bits stay where it is, while a
bit received saturates it to the largest 64-bit value (R55). No run of the block reaches such a counter, but the clause speaks
of every state. -/
theorem not_lanesInService : ¬ Obligations.LanesInService := by
  unfold Obligations.LanesInService
  rintro ⟨-, -, -, hchecker, -⟩
  have hon := congrArg LanePat.chkOn overfullChecker_pat
  have hinSync := congrArg LanePat.chkSync overfullChecker_pat
  obtain ⟨hsync, -⟩ := hchecker 0 1 overfullChecker hon
  obtain ⟨t, ht, -, -, -, -, hbits, -⟩ := hsync hinSync (by rw [overfullChecker_pat]; decide)
  rw [patternCheckerSync_pat hon ht, patternBits_one, List.foldl_cons, List.foldl_nil, congrArg LanePat.bits overfullChecker_pat] at hbits
  exact absurd (hbits ▸ checkBit_bits_lt hinSync _) (by decide)

end Sys2Proof.Machine

/-! A lane on its way to READY (R51 to R53, R56, R215, R234, R384). -/

namespace Sys2Proof.Machine

/-! ### Entry to ACQUIRE -/

/-- What the entry to ACQUIRE changes of the lane. -/
def acquired (x : Lane) : Lane := { x with st := .acquire, cdrLock := false, trainFails := 0 }

/-- The trims and the calibration run that come with the entry move no lane (R215, R221). -/
theorem keepsBut_laneAcquire_of_laneMod (l : Nat) (s : State) :
    keepsBut [.te, .cal, .host, .mb, .pc, .free] (laneMod l acquired s) (laneAcquire l s) :=
  keepsBut_then (keepsBut_runTrims true (acquireTaps l) _) (keepsBut_convCoarse l _) (by simp) (by simp)

theorem keepsBut_laneAcquire (l : Nat) (s : State) :
    keepsBut [.te, .lane, .cal, .host, .mb, .pc, .free] s (laneAcquire l s) :=
  keepsBut_then (keepsBut_laneMod l acquired s) (keepsBut_laneAcquire_of_laneMod l s) (by simp) (by simp)

theorem laneOf_laneAcquire {l : Nat} (hl : l < 192) (s : State) : laneOf (laneAcquire l s) l = acquired (laneOf s l) := by
  rw [laneOf_of_keepsBut (keepsBut_laneAcquire_of_laneMod l s) (by simp), laneOf_laneMod_same hl]

theorem otherLanes_laneAcquire (l : Nat) (s : State) : otherLanes l s (laneAcquire l s) :=
  otherLanes_trans (otherLanes_laneMod l acquired s)
    (otherLanes_of_keepsBut (keepsBut_laneAcquire_of_laneMod l s) (by simp) l)

theorem bump_kinds (ev n : Nat) (s : State) : (bump ev n s).pc.kinds = s.pc.kinds := rfl

/-- An event is counted by performance counters, and writes no recovery record. -/
theorem issueEvent_kinds (code source : Nat) (data : List Byte) (s : State) :
    (issueEvent code source data s).pc.kinds = s.pc.kinds := by
  unfold issueEvent
  split
  · extract_lets d e
    rw [bump_kinds, show (ringWrite e _).pc = _ from keepsBut_ringWrite e _ .pc (by simp)]
  · rfl

theorem convReject_kinds (c reason : Nat) (s : State) : (convReject c reason s).pc.kinds = s.pc.kinds := by
  unfold convReject
  extract_lets v n wait stale s₁ s₂ s₃
  have h₃ : s₃.pc.kinds = s.pc.kinds := by
    simp only [s₃]
    split
    · rfl
    · rfl
  split
  · rw [issueEvent_kinds, h₃]
  · exact h₃

theorem convAbort_kinds (c : Nat) (s : State) : (convAbort c s).pc.kinds = s.pc.kinds := by
  unfold convAbort
  split
  · exact convReject_kinds c 6 s
  · rfl

/-- Its trims and its calibration run write no recovery record. -/
theorem laneAcquire_kinds (l : Nat) (s : State) : (laneAcquire l s).pc.kinds = s.pc.kinds :=
  convAbort_kinds l _

/-! ### A signal on a lane in OFF -/

theorem keepsBut_applyTrims (rows : List Nat) (l : List (Nat × Int)) (s : State) : keepsBut [.cal] s (applyTrims rows l s) := by
  intro p hp
  cases p <;> first | rfl | exact ⟨rfl, rfl, rfl⟩ | simp at hp

theorem keepsBut_lanesIn (g : Nat) (s : State) : keepsBut [.group] s (lanesIn g s) := by
  unfold lanesIn
  split
  · exact keepsBut_groupMod _ _ s
  · exact keepsBut_refl _ s

/-- The signal is there: the wake it is, SIG_DET, and the trims of the transmitter's swing (R51, R215, R363). -/
def signalled (n : Nat) (trims : List (Nat × Int)) (s : State) : State :=
  applyTrims [rowSwing] trims (laneMod n (fun x => { x with sigDet := true }) (wakeFrom 1 n (wakeMask s 1 n) s))

theorem keepsBut_signalled (n : Nat) (trims : List (Nat × Int)) (s : State) :
    keepsBut [.te, .lane, .cal, .pm, .pc] s (signalled n trims s) :=
  keepsBut_then (keepsBut_wakeFrom 1 n _ s)
    (keepsBut_then (n := [.lane, .cal]) (keepsBut_laneMod n _ _) (keepsBut_applyTrims _ _ _) (by simp) (by simp))
    (by simp) (by simp)

theorem laneOf_signalled {n : Nat} (hn : n < 192) (trims : List (Nat × Int)) (s : State) :
    laneOf (signalled n trims s) n = { laneOf s n with sigDet := true } := by
  rw [signalled, laneOf_of_keepsBut (keepsBut_applyTrims _ _ _) (by simp), laneOf_laneMod_same hn,
    laneOf_of_keepsBut (keepsBut_wakeFrom _ _ _ s) (by simp)]

theorem otherLanes_signalled (n : Nat) (trims : List (Nat × Int)) (s : State) : otherLanes n s (signalled n trims s) :=
  otherLanes_trans (otherLanes_of_keepsBut (keepsBut_wakeFrom 1 n _ s) (by simp) n)
    (otherLanes_trans (otherLanes_laneMod n _ _) (otherLanes_of_keepsBut (keepsBut_applyTrims _ _ _) (by simp) n))

section
variable {l : LaneIx} {s : State} (trims : List (Nat × Int)) (hrst : laneInReset s l.val = false)
  (hsig : (laneOf s l.val).sigDet = false)
include hrst hsig

theorem exec_laneSignalDetect_below (hon : domOn s (bankOf (l.val / 8)) = false) :
    exec (.laneSignalDetect l trims) s = .next (settle (wakeFrom 1 l.val (wakeMask s 1 l.val) s)) := by
  show execLaneSignalDetect l trims s = _
  simp [execLaneSignalDetect, hrst, hsig, hon, done_eq]

theorem exec_laneSignalDetect_off (hon : domOn s (bankOf (l.val / 8)) = true) (hoff : (laneOf s l.val).st = .off)
    (hmode : modeOf s (l.val / 8) ≠ 0) : exec (.laneSignalDetect l trims) s =
      .next (settle (lanesIn (l.val / 8) (laneAcquire l.val (signalled l.val trims s)))) := by
  show execLaneSignalDetect l trims s = _
  simp [execLaneSignalDetect, hrst, hsig, hon, hoff, hmode, done_eq, signalled]

theorem exec_laneSignalDetect_running (hon : domOn s (bankOf (l.val / 8)) = true) (hoff : (laneOf s l.val).st ≠ .off) :
    exec (.laneSignalDetect l trims) s = .next (settle (laneMod l.val (fun x => { x with sigDet := true }) s)) := by
  show execLaneSignalDetect l trims s = _
  simp [execLaneSignalDetect, hrst, hsig, hon, hoff, done_eq, when]

/-- A signal on a lane (R51, R363). -/
theorem laneSignalDetect_acquires :
    (domOn s (bankOf (l.val / 8)) = true → (laneOf s l.val).st = .off → modeOf s (l.val / 8) ≠ 0 →
      ∃ t, exec (.laneSignalDetect l trims) s = .next t ∧ keepsBut [.te, .lane, .group, .cal, .pm, .host, .msi, .mb, .pc, .free] s t ∧
        otherLanes l.val s t ∧ (laneOf t l.val).st = .acquire ∧ (laneOf t l.val).sigDet = true ∧
        (laneOf t l.val).cdrLock = false ∧ (laneOf t l.val).taps = (laneOf s l.val).taps) ∧
    (domOn s (bankOf (l.val / 8)) = true → (laneOf s l.val).st ≠ .off →
      ∃ t, exec (.laneSignalDetect l trims) s = .next t ∧ keepsBut [.lane, .msi] s t ∧ otherLanes l.val s t ∧
        laneOf t l.val = { laneOf s l.val with sigDet := true }) ∧
    (domOn s (bankOf (l.val / 8)) = false →
      exec (.laneSignalDetect l trims) s = .next (settle (wakeFrom 1 l.val (wakeMask s 1 l.val) s))) := by
  refine ⟨fun hon hoff hmode => ?_, fun hon hoff => ?_, exec_laneSignalDetect_below trims hrst hsig⟩
  · refine ⟨_, exec_laneSignalDetect_off trims hrst hsig hon hoff hmode, ?_, ?_, ?_⟩
    · refine keepsBut_done (keepsBut_then (keepsBut_signalled _ trims s) (keepsBut_then
        (n := [.te, .lane, .group, .cal, .host, .mb, .pc, .free]) (keepsBut_laneAcquire _ _) (keepsBut_lanesIn _ _)
        ?_ ?_) ?_ ?_) ?_ <;> simp
    · exact otherLanes_settle (otherLanes_trans (otherLanes_signalled _ trims s)
        (otherLanes_trans (otherLanes_laneAcquire _ _) (otherLanes_of_keepsBut (keepsBut_lanesIn _ _) (by simp) _)))
    · rw [laneOf_settle, laneOf_of_keepsBut (keepsBut_lanesIn _ _) (by simp), laneOf_laneAcquire l.isLt,
        laneOf_signalled l.isLt]
      exact ⟨rfl, rfl, rfl, rfl⟩
  · refine ⟨_, exec_laneSignalDetect_running trims hrst hsig hon hoff, ?_, otherLanes_settle (otherLanes_laneMod _ _ s), ?_⟩
    · exact keepsBut_done (keepsBut_mono (keepsBut_laneMod _ _ s) (by simp)) (by simp)
    · rw [laneOf_settle, laneOf_laneMod_same l.isLt]

end

/-! ### Entry to READY -/

theorem keepsBut_withScanDue (v : Vector Bool 192) (s : State) :
    keepsBut [.wx] s { s with wx := { s.wx with scanDue := v } } := by
  intro p hp
  cases p <;> first | rfl | exact ⟨rfl, rfl, rfl⟩ | simp at hp

theorem keepsBut_scanWaiting (l : Nat) (s : State) : keepsBut [.lane, .wx] s (scanWaiting l s) := by
  unfold scanWaiting
  split
  · exact keepsBut_then (keepsBut_withScanDue _ s) (keepsBut_laneMod l _ _) (by simp) (by simp)
  · exact keepsBut_refl _ s

theorem otherLanes_scanWaiting (l : Nat) (s : State) : otherLanes l s (scanWaiting l s) := by
  unfold scanWaiting
  split
  · exact otherLanes_laneMod l _ _
  · exact fun _ _ => rfl

/-- A scan that starts moves the lane's scan alone. -/
theorem laneOf_scanWaiting {l : Nat} (hl : l < 192) (s : State) :
    ∃ e, laneOf (scanWaiting l s) l = { laneOf s l with eye := e } := by
  unfold scanWaiting
  split
  · exact ⟨_, laneOf_laneMod_same hl _ _⟩
  · exact ⟨_, rfl⟩

/-- A pattern test waits for the lane or owns it (R56). -/
def testing (x : Lane) : Bool := x.pat.genOn || x.pat.chkOn

/-- READY, or TEST where a pattern test waits for the lane (R51, R56). -/
def upState (x : Lane) : LaneSt := if testing x then .test else .ready

theorem laneReady_frame (l : Nat) (taps : Taps) (eq : RxEq) (s : State) :
    keepsBut [.lane, .wx] s (laneReady l taps eq s) ∧ otherLanes l s (laneReady l taps eq s) := by
  unfold laneReady
  extract_lets test t
  have ht : keepsBut [.lane] s t := keepsBut_laneMod l _ s
  have ho : otherLanes l s t := otherLanes_laneMod l _ s
  split
  · exact ⟨keepsBut_mono ht (by simp), ho⟩
  · exact ⟨keepsBut_then ht (keepsBut_scanWaiting l t) (by simp) (by simp), otherLanes_trans ho (otherLanes_scanWaiting l t)⟩

/-- The lane that enters READY: besides what is named, its phase bookkeeping and its scan move. -/
theorem laneOf_laneReady {l : Nat} (hl : l < 192) (taps : Taps) (eq : RxEq) (s : State) :
    ∃ ph eye, laneOf (laneReady l taps eq s) l = { takeEq eq (laneOf s l) with
      st := upState (laneOf s l), taps := taps, eyeAtReady := eq.eye, trainFails := 0, ph := ph, eye := eye } := by
  unfold laneReady
  extract_lets test t
  have ht : ∃ ph, laneOf t l = { takeEq eq (laneOf s l) with
      st := upState (laneOf s l), taps := taps, eyeAtReady := eq.eye, trainFails := 0, ph := ph } :=
    ⟨_, laneOf_laneMod_same hl _ s⟩
  obtain ⟨ph, ht⟩ := ht
  split
  · exact ⟨ph, _, ht⟩
  · obtain ⟨eye, he⟩ := laneOf_scanWaiting hl t
    exact ⟨ph, eye, by rw [he, ht]⟩

/-! ### The CDR locks, or its timeout (R51, R384) -/

/-- The lane with its CDR locked. -/
def locked (n : Nat) (s : State) : State := laneMod n (fun x => { x with cdrLock := true, sigDet := true }) s

section
variable {l : LaneIx} {s : State} (eq : RxEq) (hst : (laneOf s l.val).st = .acquire) (hrst : laneInReset s l.val = false)
include hst hrst

theorem exec_cdrLock_trains (htr : trains s (portOfLane s l.val) = true) : exec (.cdrLock l eq) s =
    .next (settle (laneMod l.val (fun x => { x with st := .train, taps := initPreset, trainFails := 0 }) (locked l.val s))) := by
  show execCdrLock l eq s = _
  rw [execCdrLock, if_pos (by simp [hst, hrst])]
  exact if_pos htr

theorem exec_cdrLock_ready (htr : trains s (portOfLane s l.val) = false) : exec (.cdrLock l eq) s =
    .next (settle (laneReady l.val (presetTaps s l.val) eq (locked l.val s))) := by
  show execCdrLock l eq s = _
  rw [execCdrLock, if_pos (by simp [hst, hrst])]
  exact if_neg (Bool.not_eq_true _ ▸ htr)

/-- The CDR of a lane in ACQUIRE locks (R51 to R53, R56). -/
theorem cdrLock_trains_or_readies :
    ∃ t, exec (.cdrLock l eq) s = .next t ∧ keepsBut [.lane, .wx, .msi] s t ∧ otherLanes l.val s t ∧
      (laneOf t l.val).cdrLock = true ∧ (laneOf t l.val).sigDet = true ∧
      (trains s (portOfLane s l.val) = true → (laneOf t l.val).st = .train ∧ (laneOf t l.val).taps = initPreset) ∧
      (trains s (portOfLane s l.val) = false → (laneOf t l.val).taps = presetTaps s l.val ∧ (laneOf t l.val).eyeAtReady = eq.eye ∧
        (laneOf t l.val).ctle = eq.ctle ∧ (laneOf t l.val).dfe1 = eq.dfe1 ∧ (laneOf t l.val).adapt = eq.rest ∧
        (laneOf t l.val).st = upState (laneOf s l.val)) := by
  have hlocked := laneOf_laneMod_same l.isLt (fun x => { x with cdrLock := true, sigDet := true }) s
  have hkeep : keepsBut [.lane] s (locked l.val s) := keepsBut_laneMod _ _ s
  have hother : otherLanes l.val s (locked l.val s) := otherLanes_laneMod _ _ s
  cases htr : trains s (portOfLane s l.val) with
  | true =>
    refine ⟨_, exec_cdrLock_trains eq hst hrst htr, ?_, ?_, ?_⟩
    · exact keepsBut_done (keepsBut_then hkeep (keepsBut_laneMod _ _ _) (by simp) (by simp)) (by simp)
    · exact otherLanes_settle (otherLanes_trans hother (otherLanes_laneMod _ _ _))
    · rw [laneOf_settle, laneOf_laneMod_same l.isLt, locked, hlocked]
      exact ⟨rfl, rfl, fun _ => ⟨rfl, rfl⟩, nofun⟩
  | false =>
    obtain ⟨hframe, hothers⟩ := laneReady_frame l.val (presetTaps s l.val) eq (locked l.val s)
    obtain ⟨ph, eye, hlane⟩ := laneOf_laneReady l.isLt (presetTaps s l.val) eq (locked l.val s)
    refine ⟨_, exec_cdrLock_ready eq hst hrst htr, ?_, otherLanes_settle (otherLanes_trans hother hothers), ?_⟩
    · exact keepsBut_done (keepsBut_then hkeep hframe (by simp) (by simp)) (by simp)
    · rw [laneOf_settle, hlane, locked, hlocked]
      exact ⟨rfl, rfl, nofun, fun _ => ⟨rfl, rfl, rfl, rfl, rfl, rfl⟩⟩

end

/-- A timeout of the hierarchy: counted by its performance counter, and logged (R384, R495). -/
def timedOut (kind ev n : Nat) (s : State) : State := recover kind 0 n (bump ev 1 s)

theorem keepsBut_timedOut (kind ev n : Nat) (s : State) : keepsBut [.pc] s (timedOut kind ev n s) :=
  keepsBut_trans (keepsBut_bump ev 1 s) (keepsBut_recover kind 0 n _)

theorem timedOut_kinds {kind : Nat} (hk : kind < 17) (ev n : Nat) (s : State) :
    vget (timedOut kind ev n s).pc.kinds kind 0 = satU 32 (vget s.pc.kinds kind 0 + 1) :=
  vmodN_same s.pc.kinds kind _ 0 hk

theorem exec_cdrLockTimeout {l : LaneIx} {s : State} (hst : (laneOf s l.val).st = .acquire) :
    exec (.cdrLockTimeout l) s = .next (settle (laneAcquire l.val (timedOut 1 (40 + 2 * l.val) l.val s))) := by
  show execCdrLockTimeout l s = _
  rw [execCdrLockTimeout, if_pos (by simp [hst])]
  rfl

/-- A lane whose CDR does not lock in time acquires again (R51, R384). -/
theorem cdrLockTimeout_acquires {l : LaneIx} {s : State} (hst : (laneOf s l.val).st = .acquire) :
    ∃ t, exec (.cdrLockTimeout l) s = .next t ∧ keepsBut [.te, .lane, .cal, .host, .msi, .mb, .pc, .free] s t ∧ otherLanes l.val s t ∧
      (laneOf t l.val).st = .acquire ∧ (laneOf t l.val).cdrLock = false ∧
      vget t.pc.kinds 1 0 = satU 32 (vget s.pc.kinds 1 0 + 1) := by
  have hkeep := keepsBut_timedOut 1 (40 + 2 * l.val) l.val s
  have hkinds := timedOut_kinds (kind := 1) (by decide) (40 + 2 * l.val) l.val s
  refine ⟨_, exec_cdrLockTimeout hst, ?_, ?_, ?_⟩
  · exact keepsBut_done (keepsBut_then hkeep (keepsBut_laneAcquire _ _) (by simp) (by simp)) (by simp)
  · exact otherLanes_settle (otherLanes_trans (otherLanes_of_keepsBut hkeep (by simp) _) (otherLanes_laneAcquire _ _))
  · rw [laneOf_settle, laneOf_laneAcquire l.isLt, settle_pc, laneAcquire_kinds, hkinds]
    exact ⟨rfl, rfl, rfl⟩

/-! ### Training (R51, R52) -/

section
variable {l : LaneIx} {s : State} (eq : RxEq) (hst : (laneOf s l.val).st = .train)
include hst

theorem exec_trainingComplete (taps : Taps) : exec (.trainingComplete l taps eq) s =
    .next (settle (laneReady l.val taps eq (laneMod l.val (fun x => { x with goodTaps := some taps }) s))) := by
  show execTrainingComplete l taps eq s = _
  rw [execTrainingComplete, if_pos (by simp [hst])]
  rfl

/-- Training completes (R51, R52, R56). -/
theorem trainingComplete_readies (taps : Taps) :
    ∃ t, exec (.trainingComplete l taps eq) s = .next t ∧ keepsBut [.lane, .wx, .msi] s t ∧ otherLanes l.val s t ∧
      (laneOf t l.val).st = upState (laneOf s l.val) ∧ (laneOf t l.val).taps = taps ∧ (laneOf t l.val).goodTaps = some taps ∧
      (laneOf t l.val).ctle = eq.ctle ∧ (laneOf t l.val).dfe1 = eq.dfe1 ∧ (laneOf t l.val).trainFails = 0 := by
  have hgood := laneOf_laneMod_same l.isLt (fun x => { x with goodTaps := some taps }) s
  obtain ⟨hframe, hothers⟩ := laneReady_frame l.val taps eq (laneMod l.val (fun x => { x with goodTaps := some taps }) s)
  obtain ⟨ph, eye, hlane⟩ := laneOf_laneReady l.isLt taps eq (laneMod l.val (fun x => { x with goodTaps := some taps }) s)
  refine ⟨_, exec_trainingComplete eq hst taps, ?_, ?_, ?_⟩
  · exact keepsBut_done (keepsBut_then (keepsBut_laneMod _ _ s) hframe (by simp) (by simp)) (by simp)
  · exact otherLanes_settle (otherLanes_trans (otherLanes_laneMod _ _ s) hothers)
  · rw [laneOf_settle, hlane, hgood]
    exact ⟨rfl, rfl, rfl, rfl, rfl, rfl⟩

theorem exec_trainingTimeout_again (hf : (laneOf s l.val).trainFails < 2) : exec (.trainingTimeout l eq) s =
    .next (settle (laneMod l.val (fun x => { x with trainFails := x.trainFails + 1, taps := initPreset })
      (timedOut 2 (41 + 2 * l.val) l.val s))) := by
  show execTrainingTimeout l eq s = _
  rw [execTrainingTimeout, if_pos (by simp [hst])]
  exact if_pos (by omega)

theorem exec_trainingTimeout_third (hf : 2 ≤ (laneOf s l.val).trainFails) : exec (.trainingTimeout l eq) s =
    .next (settle (laneMod l.val (fun x => { x with trainFallback := true })
      (laneReady l.val ((laneOf s l.val).goodTaps.getD initPreset) eq (timedOut 2 (41 + 2 * l.val) l.val s)))) := by
  show execTrainingTimeout l eq s = _
  rw [execTrainingTimeout, if_pos (by simp [hst])]
  exact if_neg (by omega)

/-- A training timeout: twice from the initial preset again, the third time READY as it is (R51, R52, R56). -/
theorem trainingTimeout_retries_or_readies :
    ∃ t, exec (.trainingTimeout l eq) s = .next t ∧ keepsBut [.lane, .wx, .msi, .pc] s t ∧ otherLanes l.val s t ∧
      vget t.pc.kinds 2 0 = satU 32 (vget s.pc.kinds 2 0 + 1) ∧
      ((laneOf s l.val).trainFails < 2 → (laneOf t l.val).st = .train ∧ (laneOf t l.val).taps = initPreset ∧
        (laneOf t l.val).trainFails = (laneOf s l.val).trainFails + 1) ∧
      (2 ≤ (laneOf s l.val).trainFails → (laneOf t l.val).st = upState (laneOf s l.val) ∧ (laneOf t l.val).trainFallback = true ∧
        (laneOf t l.val).taps = (laneOf s l.val).goodTaps.getD initPreset) := by
  have hkeep := keepsBut_timedOut 2 (41 + 2 * l.val) l.val s
  have hkinds := timedOut_kinds (kind := 2) (by decide) (41 + 2 * l.val) l.val s
  have hlane := laneOf_of_keepsBut hkeep (by simp) l.val
  have hother := otherLanes_of_keepsBut hkeep (by simp) l.val
  rcases Nat.lt_or_ge (laneOf s l.val).trainFails 2 with hf | hf
  · refine ⟨_, exec_trainingTimeout_again eq hst hf, ?_, ?_, hkinds, fun _ => ?_, fun h => absurd h (by omega)⟩
    · exact keepsBut_done (keepsBut_then hkeep (keepsBut_laneMod _ _ _) (by simp) (by simp)) (by simp)
    · exact otherLanes_settle (otherLanes_trans hother (otherLanes_laneMod _ _ _))
    · rw [laneOf_settle, laneOf_laneMod_same l.isLt, hlane]
      exact ⟨hst, rfl, rfl⟩
  · obtain ⟨hframe, hothers⟩ := laneReady_frame l.val ((laneOf s l.val).goodTaps.getD initPreset) eq
      (timedOut 2 (41 + 2 * l.val) l.val s)
    obtain ⟨ph, eye, hready⟩ := laneOf_laneReady l.isLt ((laneOf s l.val).goodTaps.getD initPreset) eq
      (timedOut 2 (41 + 2 * l.val) l.val s)
    refine ⟨_, exec_trainingTimeout_third eq hst hf, ?_, ?_, ?_, fun h => absurd h (by omega), fun _ => ?_⟩
    · exact keepsBut_done (keepsBut_then hkeep (keepsBut_then (n := [.lane, .wx]) hframe (keepsBut_laneMod _ _ _) (by simp)
        (by simp)) (by simp) (by simp)) (by simp)
    · exact otherLanes_settle (otherLanes_trans hother (otherLanes_trans hothers (otherLanes_laneMod _ _ _)))
    · rw [settle_pc, laneMod_pc, hframe .pc (by simp), hkinds]
    · rw [laneOf_settle, laneOf_laneMod_same l.isLt, hready, hlane]
      exact ⟨rfl, rfl, rfl⟩

end

/-- Settles O10: one lemma for each moment of a lane's way up. -/
theorem lanesComeUp : Obligations.LanesComeUp := by
  unfold Obligations.LanesComeUp
  exact ⟨fun l trims s hrst hsig => laneSignalDetect_acquires trims hrst hsig,
    fun l eq s hst hrst => cdrLock_trains_or_readies eq hst hrst, fun l s hst => cdrLockTimeout_acquires hst,
    fun l taps eq s hst => ⟨trainingComplete_readies eq hst taps, trainingTimeout_retries_or_readies eq hst⟩⟩

end Sys2Proof.Machine

/-! Veman sleep (R60 to R63, R333, R335, R365): the lanes that fall asleep and wake, the ordered sets, and the two directions of
a port. -/

namespace Sys2Proof.Machine

/-! ### An operation on each lane of a list -/

section
variable {f : Nat → State → State}

theorem keepsBut_forEach {m : List Part} (h : ∀ l s, keepsBut m s (f l s)) (ls : List Nat) (s : State) :
    keepsBut m s (forEach ls f s) := keepsBut_foldl (fun s l => f l s) (fun s l => h l s) ls s

variable (hother : ∀ l s, otherLanes l s (f l s))
include hother

/-- A lane outside the list stays as it is. -/
theorem laneOf_forEach_not_mem {ls : List Nat} {l : Nat} (hl : l ∉ ls) (s : State) :
    laneOf (forEach ls f s) l = laneOf s l := by
  induction ls generalizing s with
  | nil => rfl
  | cons k ls ih =>
    rw [List.mem_cons, not_or] at hl
    exact (ih hl.2 (f k s)).trans (hother k s l hl.1)

/-- A lane of the list has what the operation gives its lane, in whatever state that keeps an invariant `I` of the others. -/
theorem laneOf_forEach_mem {l : Nat} {P : Lane → Prop} {I : State → Prop} (hI : ∀ k s, I s → I (f k s))
    (hset : ∀ s, I s → P (laneOf (f l s) l)) {ls : List Nat} {s : State} (hs : I s) (h : l ∈ ls ∨ P (laneOf s l)) :
    P (laneOf (forEach ls f s) l) := by
  induction ls generalizing s with
  | nil => exact h.resolve_left (by simp)
  | cons k ls ih =>
    refine ih (hI k s hs) ?_
    by_cases hk : l = k
    · subst hk
      exact .inr (hset s hs)
    · rcases h with h | h
      · exact .inl ((List.mem_cons.mp h).resolve_left hk)
      · exact .inr (show P (laneOf (f k s) l) from (show laneOf (f k s) l = laneOf s l from hother k s l hk) ▸ h)

end

/-! ### One direction of one lane -/

/-- What follows for a lane's state from its two sleep bits (R51, R56). -/
def joined (x : Lane) : Lane := { x with
  st := if x.st == .ready && x.txSleep && x.rxSleep then .sleep
    else if x.st == .sleep && !x.txSleep && !x.rxSleep then upState x else x.st }

theorem sleepJoin_eq (l : Nat) (s : State) : sleepJoin l s = laneMod l joined s := rfl

/-- A transmitter stops or starts. -/
def transmitTo (asleep : Bool) (l : Nat) (s : State) : State := sleepJoin l (laneMod l (fun x => { x with txSleep := asleep }) s)

/-- A receiver stops, as a lane that is no longer READY, or starts. -/
def receiveTo (asleep : Bool) (l : Nat) (s : State) : State :=
  sleepJoin l (laneMod l (fun x => { x with rxSleep := asleep }) (if asleep then laneUnready l s else s))

theorem keepsBut_transmitTo (b : Bool) (l : Nat) (s : State) : keepsBut [.lane] s (transmitTo b l s) :=
  keepsBut_trans (keepsBut_laneMod l _ s) (keepsBut_laneMod l _ _)

theorem otherLanes_transmitTo (b : Bool) (l : Nat) (s : State) : otherLanes l s (transmitTo b l s) :=
  otherLanes_trans (otherLanes_laneMod l _ s) (otherLanes_laneMod l _ _)

theorem transmitTo_txSleep (b : Bool) {l : Nat} (hl : l < 192) (s : State) : (laneOf (transmitTo b l s) l).txSleep = b := by
  rw [transmitTo, sleepJoin_eq, laneOf_laneMod_same hl, laneOf_laneMod_same hl]
  rfl

theorem keepsBut_excludeLane (l why : Nat) (s : State) : keepsBut [.lane, .cal] s (excludeLane l why s) :=
  keepsBut_then (keepsBut_laneMod l _ s) (keepsBut_convMod l _ _) (by simp) (by simp)

theorem otherLanes_excludeLane (l why : Nat) (s : State) : otherLanes l s (excludeLane l why s) :=
  otherLanes_trans (otherLanes_laneMod l _ s) (otherLanes_of_keepsBut (keepsBut_convMod l _ _) (by simp) l)

/-- A lane that leaves fusion keeps its sleep bits. -/
theorem laneOf_excludeLane {l : Nat} (hl : l < 192) (why : Nat) (s : State) :
    (laneOf (excludeLane l why s) l).ph.excl = why ∧ (laneOf (excludeLane l why s) l).rxSleep = (laneOf s l).rxSleep := by
  have h : laneOf (excludeLane l why s) l = _ := laneOf_laneMod_same hl _ s
  rw [h]
  exact ⟨rfl, rfl⟩

theorem keepsBut_laneUnready (l : Nat) (s : State) : keepsBut [.lane, .cal] s (laneUnready l s) :=
  keepsBut_then (keepsBut_excludeLane l _ s) (keepsBut_laneMod l _ _) (by simp) (by simp)

theorem otherLanes_laneUnready (l : Nat) (s : State) : otherLanes l s (laneUnready l s) :=
  otherLanes_trans (otherLanes_excludeLane l _ s) (otherLanes_laneMod l _ _)

theorem receiveTo_frame (b : Bool) (l : Nat) (s : State) :
    keepsBut [.lane, .cal] s (receiveTo b l s) ∧ otherLanes l s (receiveTo b l s) := by
  have hmods : ∀ t, keepsBut [.lane] t (sleepJoin l (laneMod l (fun x => { x with rxSleep := b }) t)) ∧
      otherLanes l t (sleepJoin l (laneMod l (fun x => { x with rxSleep := b }) t)) := fun t =>
    ⟨keepsBut_trans (keepsBut_laneMod l _ t) (keepsBut_laneMod l _ _),
      otherLanes_trans (otherLanes_laneMod l _ t) (otherLanes_laneMod l _ _)⟩
  obtain ⟨hk, ho⟩ := hmods (if b then laneUnready l s else s)
  unfold receiveTo
  cases b with
  | true =>
    exact ⟨keepsBut_then (keepsBut_laneUnready l s) hk (by simp) (by simp), otherLanes_trans (otherLanes_laneUnready l s) ho⟩
  | false => exact ⟨keepsBut_mono hk (by simp), ho⟩

theorem keepsBut_receiveTo (b : Bool) (l : Nat) (s : State) : keepsBut [.lane, .cal] s (receiveTo b l s) := (receiveTo_frame b l s).1
theorem otherLanes_receiveTo (b : Bool) (l : Nat) (s : State) : otherLanes l s (receiveTo b l s) := (receiveTo_frame b l s).2

theorem receiveTo_rxSleep (b : Bool) {l : Nat} (hl : l < 192) (s : State) : (laneOf (receiveTo b l s) l).rxSleep = b := by
  rw [receiveTo, sleepJoin_eq, laneOf_laneMod_same hl, laneOf_laneMod_same hl]
  rfl

section
variable (b : Bool) (ls : List Nat) (s : State)

theorem forEach_transmitTo_txSleep {l : Nat} (hm : l ∈ ls) (hl : l < 192) :
    (laneOf (forEach ls (transmitTo b) s) l).txSleep = b :=
  laneOf_forEach_mem (P := fun x => x.txSleep = b) (I := fun _ => True) (otherLanes_transmitTo b) (fun _ _ _ => trivial)
    (fun t _ => transmitTo_txSleep b hl t) trivial (.inl hm)

theorem forEach_receiveTo_rxSleep {l : Nat} (hm : l ∈ ls) (hl : l < 192) :
    (laneOf (forEach ls (receiveTo b) s) l).rxSleep = b :=
  laneOf_forEach_mem (P := fun x => x.rxSleep = b) (I := fun _ => True) (otherLanes_receiveTo b) (fun _ _ _ => trivial)
    (fun t _ => receiveTo_rxSleep b hl t) trivial (.inl hm)

end

/-! ### One port's sleep exchange -/

/-- Nothing moves but one port. -/
structure PortMoved (p : Nat) (s t : State) : Prop where
  frame : keepsBut [.port] s t
  others : otherPorts p s t

theorem PortMoved.refl (p : Nat) (s : State) : PortMoved p s s := ⟨keepsBut_refl _ s, fun _ _ => rfl⟩

theorem PortMoved.trans {p : Nat} {s t u : State} (h : PortMoved p s t) (k : PortMoved p t u) : PortMoved p s u :=
  ⟨keepsBut_trans h.frame k.frame, otherPorts_trans h.others k.others⟩

theorem PortMoved.settled {p : Nat} {s t : State} (h : PortMoved p s t) :
    keepsBut [.port, .msi] s (settle t) ∧ otherPorts p s (settle t) :=
  ⟨keepsBut_done (keepsBut_mono h.frame (by simp)) (by simp), otherPorts_settle h.others⟩

theorem portMoved_portMod (p : Nat) (f : Port → Port) (s : State) : PortMoved p s (portMod p f s) :=
  ⟨keepsBut_portMod p f s, otherPorts_portMod p f s⟩

theorem portMoved_sleepMod (p : Nat) (f : PortSleep → PortSleep) (s : State) : PortMoved p s (sleepMod p f s) :=
  portMoved_portMod p _ s

theorem portMoved_sendSet_sleepMod (p d1 d2 d3 : Nat) (f : PortSleep → PortSleep) (s : State) :
    PortMoved p s (sendSet p d1 d2 d3 (sleepMod p f s)) := (portMoved_sleepMod p f s).trans (portMoved_sleepMod p _ _)

section
variable {p : Nat} (hp : p < 192) (f : PortSleep → PortSleep) (s : State)
include hp

theorem portOf_sleepMod : portOf (sleepMod p f s) p = { portOf s p with sleep := f (portOf s p).sleep } :=
  portOf_portMod_same hp _ s

theorem sleep_sleepMod : (portOf (sleepMod p f s) p).sleep = f (portOf s p).sleep := congrArg Port.sleep (portOf_sleepMod hp f s)

/-- An ordered set leaves, newest first. -/
theorem sleep_sendSet (d1 d2 d3 : Nat) : (portOf (sendSet p d1 d2 d3 s) p).sleep =
    { (portOf s p).sleep with sent := osBlock d1 d2 d3 :: (portOf s p).sleep.sent } := sleep_sleepMod hp _ s

theorem sleep_sendSet_sleepMod (d1 d2 d3 : Nat) : (portOf (sendSet p d1 d2 d3 (sleepMod p f s)) p).sleep =
    { f (portOf s p).sleep with sent := osBlock d1 d2 d3 :: (f (portOf s p).sleep).sent } := by
  rw [sleep_sendSet hp, sleep_sleepMod hp]

end

/-! ### The transmit direction falls asleep (R61, R63) -/

section
variable {p : PortIx} {s : State}

section
variable (hused : portUsed s p.val = true) (hfab : kindFab s p.val = true) (htx : (portOf s p.val).sleep.tx = .awake)
include hused hfab htx

theorem exec_transmitSleep_starts (hup : (portOf s p.val).st = .up) (hready : lanesReady s p.val = true) :
    exec (.transmitSleep p) s = .next (settle (startSleep p.val s)) := by
  show execTransmitSleep p s = _
  simp [execTransmitSleep, hused, hfab, htx, hup, hready, done_eq]

theorem exec_transmitSleep_waits (h : ¬((portOf s p.val).st = .up ∧ lanesReady s p.val = true)) :
    exec (.transmitSleep p) s = .next (settle (sleepMod p.val (fun x => { x with txWaiting := true }) s)) := by
  show execTransmitSleep p s = _
  simp [execTransmitSleep, hused, hfab, htx, h, done_eq]

/-- A fabric port asks for its transmit direction's sleep, or waits for its lanes. -/
theorem transmitSleep_requests_or_waits :
    ∃ t, exec (.transmitSleep p) s = .next t ∧ keepsBut [.port, .msi] s t ∧ otherPorts p.val s t ∧
      ((portOf s p.val).st = .up → lanesReady s p.val = true →
        (portOf t p.val).sleep.tx = .requested ∧ (portOf t p.val).sleep.seq = ((portOf s p.val).sleep.seq + 1) % 256 ∧
        (portOf t p.val).sleep.sent.head? = some (osBlock 0x51 0x01 (((portOf s p.val).sleep.seq + 1) % 256))) ∧
      (lanesReady s p.val = false → (portOf t p.val).sleep.txWaiting = true ∧ (portOf t p.val).sleep.tx = .awake) := by
  by_cases h : (portOf s p.val).st = .up ∧ lanesReady s p.val = true
  · obtain ⟨hkeep, hothers⟩ := (portMoved_sendSet_sleepMod p.val 0x51 0x01 _ _ s : PortMoved p.val s (startSleep p.val s)).settled
    refine ⟨_, exec_transmitSleep_starts hused hfab htx h.1 h.2, hkeep, hothers, fun _ _ => ?_, fun hn => absurd h.2 (by simp [hn])⟩
    rw [portOf_settle, startSleep, sleep_sendSet_sleepMod p.isLt]
    exact ⟨rfl, rfl, rfl⟩
  · obtain ⟨hkeep, hothers⟩ := (portMoved_sleepMod p.val (fun x => { x with txWaiting := true }) s).settled
    refine ⟨_, exec_transmitSleep_waits hused hfab htx h, hkeep, hothers, fun hup hready => absurd ⟨hup, hready⟩ h, fun _ => ?_⟩
    rw [portOf_settle, sleep_sleepMod p.isLt]
    exact ⟨rfl, htx⟩

end

/-- The port whose SLEEP_REQ has been acknowledged. -/
def txAsleep (n : Nat) (s : State) : State :=
  sleepMod n (fun x => { x with tx := .asleep, tries := 0, txAlone := hasSentinel s n }) s

theorem exec_sleepAckReceive {seq : Nat} (htx : (portOf s p.val).sleep.tx = .requested)
    (hseq : (portOf s p.val).sleep.seq = seq % 256) : exec (.sleepAckReceive p seq) s =
      .next (settle (forEach (sleepers s p.val) (transmitTo true) (txAsleep p.val s))) := by
  show execSleepAckReceive p seq s = _
  rw [execSleepAckReceive, if_pos (by simp [htx, hseq])]
  rfl

/-- The acknowledgement stops the transmitters, all but the sentinel's. -/
theorem sleepAckReceive_stops {seq : Nat} (htx : (portOf s p.val).sleep.tx = .requested)
    (hseq : (portOf s p.val).sleep.seq = seq % 256) :
    ∃ t, exec (.sleepAckReceive p seq) s = .next t ∧ keepsBut [.lane, .port, .msi] s t ∧ otherPorts p.val s t ∧
      (portOf t p.val).sleep.tx = .asleep ∧
      (∀ l ∈ sleepers s p.val, l < 192 → (laneOf t l).txSleep = true) ∧
      ∀ l, l ∉ sleepers s p.val → laneOf t l = laneOf s l := by
  have hmoved : PortMoved p.val s (txAsleep p.val s) := portMoved_sleepMod _ _ s
  have hlanes := keepsBut_forEach (keepsBut_transmitTo true) (sleepers s p.val) (txAsleep p.val s)
  refine ⟨_, exec_sleepAckReceive htx hseq, ?_, ?_, ?_, fun l hm hl => ?_, fun l hm => ?_⟩
  · exact keepsBut_done (keepsBut_then hmoved.frame hlanes (by simp) (by simp)) (by simp)
  · exact otherPorts_settle (otherPorts_trans hmoved.others (otherPorts_of_keepsBut hlanes (by simp) _))
  · rw [portOf_settle, portOf_of_keepsBut hlanes (by simp), txAsleep, sleep_sleepMod p.isLt]
  · rw [laneOf_settle, forEach_transmitTo_txSleep true _ _ hm hl]
  · exact (laneOf_settle _ l).trans <| laneOf_forEach_not_mem (otherLanes_transmitTo true) hm _

theorem exec_sleepAckTimeout_repeats (htx : (portOf s p.val).sleep.tx = .requested) (htries : (portOf s p.val).sleep.tries < 2) :
    exec (.sleepAckTimeout p) s = .next (settle (sendSet p.val 0x51 0x01 (portOf s p.val).sleep.seq
      (sleepMod p.val (fun x => { x with tries := 2 }) s))) := by
  show execSleepAckTimeout p s = _
  simp [execSleepAckTimeout, htx, htries, done_eq]

theorem exec_sleepAckTimeout_gives_up (htx : (portOf s p.val).sleep.tx = .requested)
    (htries : ¬(portOf s p.val).sleep.tries < 2) :
    exec (.sleepAckTimeout p) s = .next (settle (sleepMod p.val (fun x => { x with tx := .awake, tries := 0 }) s)) := by
  show execSleepAckTimeout p s = _
  simp [execSleepAckTimeout, htx, htries, done_eq]

/-- A missing acknowledgement: the request once more with its number, then the direction stays awake. -/
theorem sleepAckTimeout_repeats_once (htx : (portOf s p.val).sleep.tx = .requested) :
    ∃ t, exec (.sleepAckTimeout p) s = .next t ∧ keepsBut [.port, .msi] s t ∧ otherPorts p.val s t ∧
      ((portOf s p.val).sleep.tries < 2 → (portOf t p.val).sleep.tx = .requested ∧
        (portOf t p.val).sleep.sent.head? = some (osBlock 0x51 0x01 (portOf s p.val).sleep.seq)) ∧
      (2 ≤ (portOf s p.val).sleep.tries → (portOf t p.val).sleep.tx = .awake) := by
  by_cases htries : (portOf s p.val).sleep.tries < 2
  · obtain ⟨hkeep, hothers⟩ := (portMoved_sendSet_sleepMod p.val 0x51 0x01 (portOf s p.val).sleep.seq
      (fun x => { x with tries := 2 }) s).settled
    refine ⟨_, exec_sleepAckTimeout_repeats htx htries, hkeep, hothers, fun _ => ?_, fun h => absurd h (by omega)⟩
    rw [portOf_settle, sleep_sendSet_sleepMod p.isLt]
    exact ⟨htx, rfl⟩
  · obtain ⟨hkeep, hothers⟩ := (portMoved_sleepMod p.val (fun x => { x with tx := .awake, tries := 0 }) s).settled
    refine ⟨_, exec_sleepAckTimeout_gives_up htx htries, hkeep, hothers, fun h => absurd h htries, fun _ => ?_⟩
    rw [portOf_settle, sleep_sleepMod p.isLt]

/-! ### The transmit direction wakes (R61, R63) -/

/-- A local wake on a port that sends no low-power idle, by the state of its transmit direction. -/
def wokenHere (n : Nat) (s : State) : State :=
  match (portOf s n).sleep.tx with
  | .asleep => requestWake n s
  | .requested => sendSet n 0x57 0x01 (((portOf s n).sleep.seq + 1) % 256)
      (sleepMod n (fun x => { x with tx := .awake, seq := ((portOf s n).sleep.seq + 1) % 256, tries := 0 }) s)
  | .awake => sleepMod n (fun x => { x with txWaiting := false }) s
  | .waking => s

theorem exec_localWake (hlpi : (portOf s p.val).txLpi = false) :
    exec (.localWake p) s = .next (settle (wokenHere p.val s)) := by
  show execLocalWake p s = _
  rw [execLocalWake, if_neg (by simp [hlpi]), wokenHere]
  cases (portOf s p.val).sleep.tx <;> rfl

theorem portMoved_wokenHere (n : Nat) (s : State) : PortMoved n s (wokenHere n s) := by
  unfold wokenHere
  split
  · exact portMoved_sendSet_sleepMod n _ _ _ _ s
  · exact portMoved_sendSet_sleepMod n _ _ _ _ s
  · exact portMoved_sleepMod n _ s
  · exact .refl n s

theorem sleep_requestWake {n : Nat} (hn : n < 192) (s : State) : (portOf (requestWake n s) n).sleep = { (portOf s n).sleep with
    tx := .waking, seq := ((portOf s n).sleep.seq + 1) % 256, wakePending := true
    sent := osBlock 0x57 0x01 (((portOf s n).sleep.seq + 1) % 256) :: (portOf s n).sleep.sent } :=
  sleep_sendSet_sleepMod hn _ s _ _ _

/-- A local wake asks for the direction back, or cancels the sleep that has not completed. -/
theorem localWake_wakes_or_cancels (hlpi : (portOf s p.val).txLpi = false) :
    ∃ t, exec (.localWake p) s = .next t ∧ keepsBut [.port, .msi] s t ∧ otherPorts p.val s t ∧
      ((portOf s p.val).sleep.tx = .asleep → (portOf t p.val).sleep.tx = .waking ∧ (portOf t p.val).sleep.wakePending = true ∧
        (portOf t p.val).sleep.sent.head? = some (osBlock 0x57 0x01 (((portOf s p.val).sleep.seq + 1) % 256))) ∧
      ((portOf s p.val).sleep.tx = .requested → (portOf t p.val).sleep.tx = .awake) ∧
      ((portOf s p.val).sleep.tx = .awake → (portOf t p.val).sleep.txWaiting = false) := by
  obtain ⟨hkeep, hothers⟩ := (portMoved_wokenHere p.val s).settled
  refine ⟨_, exec_localWake hlpi, hkeep, hothers, fun h => ?_, fun h => ?_, fun h => ?_⟩
  · rw [portOf_settle, wokenHere, h]
    dsimp only
    rw [sleep_requestWake p.isLt]
    exact ⟨rfl, rfl, rfl⟩
  · rw [portOf_settle, wokenHere, h]
    dsimp only
    rw [sleep_sendSet_sleepMod p.isLt]
  · rw [portOf_settle, wokenHere, h]
    dsimp only
    rw [sleep_sleepMod p.isLt]

end

/-! ### The hello that follows a wake (R333, R335) -/

theorem portMoved_macCount (p k n : Nat) (s : State) : PortMoved p s (macCount p k n s) := portMoved_portMod p _ s

theorem portMoved_interrupt (p : Nat) (cut : Bool) (s : State) : PortMoved p s (interrupt p cut s) :=
  (portMoved_portMod p _ s).trans (portMoved_macCount p 26 1 _)

theorem portMoved_interject (p : Nat) (s : State) : PortMoved p s (interject p s) := by
  unfold interject
  dsimp only
  split
  · exact portMoved_interrupt p false s
  · exact .refl p s

theorem portMoved_countSent (p da len : Nat) (s : State) : PortMoved p s (countSent p da len s) :=
  ((portMoved_macCount p 20 len s).trans (portMoved_macCount p 21 1 _)).trans (portMoved_macCount p _ 1 _)

theorem interrupt_eq (p : Nat) (cut : Bool) (s : State) : interrupt p cut s = macCount p 26 1
    (portMod p (fun q => { q with tx := { q.tx with cut, fragments := q.tx.fragments + 1 } }) s) := rfl

section
variable {p : Nat} (hp : p < 192) (s : State)
include hp

/-- A counter moves in its place. -/
theorem portOf_macCount (k n : Nat) : portOf (macCount p k n s) p =
    { portOf s p with live := vmodN (portOf s p).live k (fun v => (v + n) % 2 ^ 64) } := portOf_portMod_same hp _ s

theorem portOf_interrupt (cut : Bool) : portOf (interrupt p cut s) p = { portOf s p with
    tx := { (portOf s p).tx with cut, fragments := (portOf s p).tx.fragments + 1 }
    live := vmodN (portOf s p).live 26 (fun v => (v + 1) % 2 ^ 64) } := by
  rw [interrupt_eq, portOf_macCount hp, portOf_portMod_same hp]

theorem sleep_countSent (da len : Nat) : (portOf (countSent p da len s) p).sleep = (portOf s p).sleep := by
  rw [countSent, portOf_macCount hp, portOf_macCount hp, portOf_macCount hp]

theorem sleep_interject : (portOf (interject p s) p).sleep = (portOf s p).sleep := by
  unfold interject
  dsimp only
  split
  · rw [portOf_interrupt hp]
  · rfl

end

/-- What a hello leaves on its port: the sequence number of the adjacency, and the frame (R333). -/
def helloLeft (p : Nat) (s : State) : State :=
  adjMod p (fun a => { a with helloSeq := (ownHello s p).seq, lastSent := some (helloFrame s p) }) s

theorem keepsBut_helloLeft (p : Nat) (s : State) : keepsBut [.fab] s (helloLeft p s) := keepsBut_adjMod p _ s

theorem sendHello_eq (p : Nat) (s : State) : sendHello p s = if helloPort s p && (portOf s p).sleep.tx == .awake then
    countSent p (parN s 0x1C1 0) 80 (interject p (helloLeft p s)) else s := rfl

theorem sendHello_frame (p : Nat) (s : State) : keepsBut [.port, .fab] s (sendHello p s) ∧ otherPorts p s (sendHello p s) := by
  have hleft := keepsBut_helloLeft p s
  have hsent := (portMoved_interject p (helloLeft p s)).trans (portMoved_countSent p (parN s 0x1C1 0) 80 _)
  rw [sendHello_eq]
  split
  · exact ⟨keepsBut_then hleft hsent.frame (by simp) (by simp),
      otherPorts_trans (otherPorts_of_keepsBut hleft (by simp) p) hsent.others⟩
  · exact ⟨keepsBut_refl _ s, fun _ _ => rfl⟩

theorem sleep_sendHello {p : Nat} (hp : p < 192) (s : State) : (portOf (sendHello p s) p).sleep = (portOf s p).sleep := by
  rw [sendHello_eq]
  split
  · rw [sleep_countSent hp, sleep_interject hp, portOf_of_keepsBut (keepsBut_helloLeft p s) (by simp)]
  · rfl

theorem sendHello_helloSeq {p : Nat} (hp : p < 192) {s : State} (h : helloPort s p = true)
    (htx : (portOf s p).sleep.tx = .awake) : (adjOf (sendHello p s) p).helloSeq = ((adjOf s p).helloSeq + 1) % 65536 := by
  have hsent := (portMoved_interject p (helloLeft p s)).trans (portMoved_countSent p (parN s 0x1C1 0) 80 _)
  have hadj : vget (helloLeft p s).fab.adj p {} = _ := vmodN_same s.fab.adj p _ {} hp
  rw [sendHello_eq, if_pos (by simp [h, htx]), adjOf, show (countSent _ _ _ _).fab = _ from hsent.frame .fab (by simp), hadj]
  rfl

/-- Whether a port exchanges hellos hangs on its group's mode, its kind, its state and its resets. -/
theorem helloPort_of_keepsBut {m : List Part} {s t : State} {p : Nat} (h : keepsBut m s t) (hpar : Part.par ∉ m)
    (hgroup : Part.group ∉ m) (hrst : Part.rst ∉ m) (hst : (portOf t p).st = (portOf s p).st) :
    helloPort t p = helloPort s p := by
  have epar : t.par = s.par := h .par hpar
  have egroup : t.group = s.group := h .group hgroup
  have erst : t.rst = s.rst := h .rst hrst
  simp only [helloPort, portUsed, modeOf, kindFab, parD, parSet?, portInReset, epar, egroup, erst, hst]

section
variable {p : PortIx} {s : State}

/-- The port whose WAKE_REQ has been acknowledged. -/
def txAwake (n : Nat) (s : State) : State :=
  sleepMod n (fun x => { x with tx := .awake, wakePending := false, txAlone := false }) s

theorem helloPort_txAwake (ls : List Nat) :
    helloPort (forEach ls (transmitTo false) (txAwake p.val s)) p.val = helloPort s p.val := by
  have hlanes := keepsBut_forEach (keepsBut_transmitTo false) ls (txAwake p.val s)
  have hkeep := keepsBut_then (n := [.lane, .port]) (keepsBut_sleepMod p.val _ s) hlanes (by simp) (by simp)
  refine helloPort_of_keepsBut hkeep (by simp) (by simp) (by simp) ?_
  rw [portOf_of_keepsBut hlanes (by simp), txAwake, portOf_sleepMod p.isLt]

theorem exec_wakeAckReceive {seq : Nat} (htx : (portOf s p.val).sleep.tx = .waking)
    (hseq : (portOf s p.val).sleep.seq = seq % 256) : exec (.wakeAckReceive p seq) s =
      .next (settle (sendHello p.val (forEach (lanesOf s p.val) (transmitTo false) (txAwake p.val s)))) := by
  show execWakeAckReceive p seq s = _
  rw [execWakeAckReceive, if_pos (by simp [htx, hseq])]
  rfl

/-- The acknowledgement brings the transmitters back, and a hello goes (R51, R61, R335). -/
theorem wakeAckReceive_wakes {seq : Nat} (htx : (portOf s p.val).sleep.tx = .waking)
    (hseq : (portOf s p.val).sleep.seq = seq % 256) :
    ∃ t, exec (.wakeAckReceive p seq) s = .next t ∧ keepsBut [.lane, .port, .fab, .msi] s t ∧ otherPorts p.val s t ∧
      (portOf t p.val).sleep.tx = .awake ∧ (portOf t p.val).sleep.wakePending = false ∧
      (∀ l ∈ lanesOf s p.val, l < 192 → (laneOf t l).txSleep = false) ∧
      (helloPort s p.val = true → (adjOf t p.val).helloSeq = ((adjOf s p.val).helloSeq + 1) % 65536) := by
  have hmoved : PortMoved p.val s (txAwake p.val s) := portMoved_sleepMod _ _ s
  have hlanes := keepsBut_forEach (keepsBut_transmitTo false) (lanesOf s p.val) (txAwake p.val s)
  have htxs := fun l hm => forEach_transmitTo_txSleep false (lanesOf s p.val) (txAwake p.val s) (l := l) hm
  have hhello := helloPort_txAwake (p := p) (s := s) (lanesOf s p.val)
  have hexec := exec_wakeAckReceive htx hseq
  generalize forEach (lanesOf s p.val) (transmitTo false) (txAwake p.val s) = u at hlanes htxs hhello hexec
  have hsleep : (portOf u p.val).sleep = { (portOf s p.val).sleep with tx := .awake, wakePending := false, txAlone := false } := by
    rw [portOf_of_keepsBut hlanes (by simp), txAwake, sleep_sleepMod p.isLt]
  have hfab : u.fab = s.fab := (hlanes .fab (by simp)).trans (hmoved.frame .fab (by simp))
  obtain ⟨hframe, hothers⟩ := sendHello_frame p.val u
  refine ⟨_, hexec, ?_, ?_, ?_, ?_, fun l hm hl => ?_, fun hport => ?_⟩
  · exact keepsBut_done (keepsBut_then hmoved.frame (keepsBut_then (n := [.lane, .port, .fab]) hlanes hframe (by simp) (by simp))
      (by simp) (by simp)) (by simp)
  · exact otherPorts_settle (otherPorts_trans hmoved.others
      (otherPorts_trans (otherPorts_of_keepsBut hlanes (by simp) _) hothers))
  · rw [portOf_settle, sleep_sendHello p.isLt, hsleep]
  · rw [portOf_settle, sleep_sendHello p.isLt, hsleep]
  · rw [laneOf_settle, laneOf_of_keepsBut hframe (by simp), htxs l hm hl]
  · rw [adjOf, settle_fab, ← adjOf, sendHello_helloSeq p.isLt (hhello.trans hport) (by rw [hsleep]), adjOf, hfab, ← adjOf]

/-! ### Energy-Efficient Ethernet (R60) -/

theorem kindFab_of_eeeKind {n : Nat} (h : eeeKind s n ≠ 0) : kindFab s n = false := by
  unfold eeeKind at h
  split at h
  · exact absurd rfl h
  · rename_i hn
    simpa using (not_or.mp (by simpa using hn : ¬(portUsed s n = false ∨ kindFab s n = true))).2

/-- The port signals low-power idle, or its end. -/
def lpiSent (on : Bool) (n : Nat) (s : State) : State := portMod n (fun q => { q with txLpi := on }) s

theorem exec_transmitSleep_eee (hkind : eeeKind s p.val ≠ 0) (hup : (portOf s p.val).st = .up) : exec (.transmitSleep p) s =
    .next (settle (when (eeeKind s p.val == 1) (forEach (lanesOf s p.val) (transmitTo true) (lpiSent true p.val s))
      (lpiSent true p.val s))) := by
  show execTransmitSleep p s = _
  rw [execTransmitSleep, if_neg (by simp [kindFab_of_eeeKind hkind]), if_pos (by simp [hkind, hup])]
  rfl

theorem exec_localWake_lpi (hlpi : (portOf s p.val).txLpi = true) : exec (.localWake p) s =
    .next (settle (forEach (lanesOf s p.val) (transmitTo false) (lpiSent false p.val s))) := by
  show execLocalWake p s = _
  rw [execLocalWake, if_pos hlpi]
  rfl

theorem lpi_lanes_frame (on b : Bool) (n : Nat) (ls : List Nat) (s : State) :
    keepsBut [.lane, .port, .msi] s (settle (forEach ls (transmitTo b) (lpiSent on n s))) ∧
      otherPorts n s (settle (forEach ls (transmitTo b) (lpiSent on n s))) := by
  have hlanes := keepsBut_forEach (keepsBut_transmitTo b) ls (lpiSent on n s)
  have hmoved : PortMoved n s (lpiSent on n s) := portMoved_portMod n _ s
  exact ⟨keepsBut_done (keepsBut_then hmoved.frame hlanes (by simp) (by simp)) (by simp),
    otherPorts_settle (otherPorts_trans hmoved.others (otherPorts_of_keepsBut hlanes (by simp) n))⟩

theorem portOf_lpi_lanes (on b : Bool) (ls : List Nat) :
    portOf (settle (forEach ls (transmitTo b) (lpiSent on p.val s))) p.val = { portOf s p.val with txLpi := on } := by
  rw [portOf_settle, portOf_of_keepsBut (keepsBut_forEach (keepsBut_transmitTo b) ls _) (by simp), lpiSent,
    portOf_portMod_same p.isLt]

/-- Low-power idle is sent, in deep sleep with the transmitters asleep, and ended by a local wake. -/
theorem lowPowerIdle_sent_and_ended (hkind : eeeKind s p.val ≠ 0) (hup : (portOf s p.val).st = .up) :
    (∃ t, exec (.transmitSleep p) s = .next t ∧ keepsBut [.lane, .port, .msi] s t ∧ otherPorts p.val s t ∧
      portOf t p.val = { portOf s p.val with txLpi := true } ∧
      (eeeKind s p.val = 1 → ∀ l ∈ lanesOf s p.val, l < 192 → (laneOf t l).txSleep = true) ∧
      (eeeKind s p.val = 2 → t.lane = s.lane)) ∧
    ((portOf s p.val).txLpi = true → ∃ t, exec (.localWake p) s = .next t ∧ keepsBut [.lane, .port, .msi] s t ∧
      otherPorts p.val s t ∧ portOf t p.val = { portOf s p.val with txLpi := false } ∧
      ∀ l ∈ lanesOf s p.val, l < 192 → (laneOf t l).txSleep = false) := by
  constructor
  · have hexec := exec_transmitSleep_eee hkind hup
    by_cases hdeep : eeeKind s p.val = 1
    · rw [hdeep] at hexec
      obtain ⟨hkeep, hothers⟩ := lpi_lanes_frame true true p.val (lanesOf s p.val) s
      refine ⟨_, hexec, hkeep, hothers, portOf_lpi_lanes true true _, fun _ l hm hl => ?_, fun h => absurd h (by omega)⟩
      exact (congrArg Lane.txSleep (laneOf_settle _ l)).trans (forEach_transmitTo_txSleep true _ _ hm hl)
    · rw [beq_eq_false_iff_ne.mpr hdeep] at hexec
      have hnone := lpi_lanes_frame true true p.val [] s
      exact ⟨_, hexec, hnone.1, hnone.2, portOf_lpi_lanes true true [], fun h => absurd h hdeep, fun _ => rfl⟩
  · intro hlpi
    obtain ⟨hkeep, hothers⟩ := lpi_lanes_frame false false p.val (lanesOf s p.val) s
    refine ⟨_, exec_localWake_lpi hlpi, hkeep, hothers, portOf_lpi_lanes false false _, fun l hm hl => ?_⟩
    exact (congrArg Lane.txSleep (laneOf_settle _ l)).trans (forEach_transmitTo_txSleep false _ _ hm hl)

end

/-- Settles O12: the fabric port's way into sleep, its way back, and the Energy-Efficient Ethernet port. -/
theorem transmitDirectionSleepsAndWakes : Obligations.TransmitDirectionSleepsAndWakes := by
  unfold Obligations.TransmitDirectionSleepsAndWakes
  exact ⟨⟨fun p s => transmitSleep_requests_or_waits, fun p seq s => sleepAckReceive_stops, fun p s => sleepAckTimeout_repeats_once⟩,
    fun p s => localWake_wakes_or_cancels, fun p seq s => wakeAckReceive_wakes, fun p s => lowPowerIdle_sent_and_ended⟩

end Sys2Proof.Machine

/-! The receive direction of a fabric port, its discarded ordered sets, and the sentinel (R61 to R63, R74, R335, R365). -/

namespace Sys2Proof.Machine

/-! ### A WAKE_ACK that is owed (R365) -/

theorem portMoved_ackWake (p : Nat) (s : State) : PortMoved p s (ackWake p s) := by
  unfold ackWake
  split
  · split
    · exact portMoved_sendSet_sleepMod p _ _ _ _ s
    · exact .refl p s
  · exact .refl p s

/-- It stays owed while the receivers are not awake. -/
theorem ackWake_of_not_awake {p : Nat} {s : State} (h : (portOf s p).sleep.rx ≠ .awake) : ackWake p s = s := by
  unfold ackWake
  split
  · exact if_neg (by simp [h])
  · rfl

theorem ackWake_rx {p : Nat} (hp : p < 192) (s : State) : (portOf (ackWake p s) p).sleep.rx = (portOf s p).sleep.rx := by
  unfold ackWake
  split
  · split
    · rw [sleep_sendSet_sleepMod hp]
    · rfl
  · rfl

/-! ### SLEEP_REQ -/

section
variable {p : PortIx} {s : State} (seq : Nat) (hup : (portOf s p.val).st = .up) (hfab : kindFab s p.val = true)

/-- The receive direction of a port has agreed to sleep, and its hellos are suspended. -/
def rxAgreed (n seq : Nat) (s : State) : State := sendSet n 0x52 0x02 (seq % 256) (sleepMod n (fun x => { x with
  rx := .asleep, rxSeq := seq % 256, rxAlone := hasSentinel s n }) s)

/-- The adjacency of a port is suspended, or no longer so. -/
def suspend (on : Bool) (n : Nat) (s : State) : State := adjMod n (fun a => { a with suspended := on }) s

theorem keepsBut_suspend (on : Bool) (n : Nat) (s : State) : keepsBut [.fab] s (suspend on n s) := keepsBut_adjMod n _ s

theorem suspend_suspended (on : Bool) {n : Nat} (hn : n < 192) (s : State) :
    (vget (suspend on n s).fab.adj n {}).suspended = on := congrArg Adjacency.suspended (vmodN_same s.fab.adj n _ {} hn)

section
include hup hfab

theorem exec_sleepReqReceive_refused (hwake : (portOf s p.val).sleep.wakePending = true) : exec (.sleepReqReceive p 1 seq) s =
    .next (settle (sendSet p.val 0x57 0x02 (((portOf s p.val).sleep.seq + 1) % 256)
      (sleepMod p.val (fun x => { x with seq := ((portOf s p.val).sleep.seq + 1) % 256 }) s))) := by
  show execSleepReqReceive p 1 seq s = _
  rw [execSleepReqReceive, if_pos (by simp [hup, hfab]), if_pos hwake]
  rfl

theorem exec_sleepReqReceive_agreed (hwake : (portOf s p.val).sleep.wakePending = false) : exec (.sleepReqReceive p 1 seq) s =
    .next (settle (suspend true p.val (forEach (sleepers s p.val) (receiveTo true) (rxAgreed p.val seq s)))) := by
  show execSleepReqReceive p 1 seq s = _
  rw [execSleepReqReceive, if_pos (by simp [hup, hfab]), if_neg (by simp [hwake])]
  rfl

/-- A SLEEP_REQ is agreed to, or answered with WAKE_REQ. -/
theorem sleepReqReceive_agrees_or_wakes :
    ∃ t, exec (.sleepReqReceive p 1 seq) s = .next t ∧ keepsBut [.lane, .port, .cal, .fab, .msi] s t ∧ otherPorts p.val s t ∧
      ((portOf s p.val).sleep.wakePending = true → t.lane = s.lane ∧ t.fab = s.fab ∧
        (portOf t p.val).sleep.rx = (portOf s p.val).sleep.rx ∧
        (portOf t p.val).sleep.sent.head? = some (osBlock 0x57 0x02 (((portOf s p.val).sleep.seq + 1) % 256))) ∧
      ((portOf s p.val).sleep.wakePending = false → (portOf t p.val).sleep.rx = .asleep ∧
        (portOf t p.val).sleep.sent.head? = some (osBlock 0x52 0x02 (seq % 256)) ∧
        (vget t.fab.adj p.val {}).suspended = true ∧
        ∀ l ∈ sleepers s p.val, l < 192 → (laneOf t l).rxSleep = true) := by
  cases hwake : (portOf s p.val).sleep.wakePending with
  | true =>
    have hmoved := portMoved_sendSet_sleepMod p.val 0x57 0x02 (((portOf s p.val).sleep.seq + 1) % 256)
      (fun x => { x with seq := ((portOf s p.val).sleep.seq + 1) % 256 }) s
    refine ⟨_, exec_sleepReqReceive_refused seq hup hfab hwake, keepsBut_mono hmoved.settled.1 (by simp), hmoved.settled.2,
      fun _ => ⟨rfl, rfl, ?_⟩, nofun⟩
    rw [portOf_settle, sleep_sendSet_sleepMod p.isLt]
    exact ⟨rfl, rfl⟩
  | false =>
    have hagreed : PortMoved p.val s (rxAgreed p.val seq s) := portMoved_sendSet_sleepMod _ _ _ _ _ s
    have hsleep : (portOf (rxAgreed p.val seq s) p.val).sleep = _ := sleep_sendSet_sleepMod p.isLt _ s _ _ _
    have hlanes := keepsBut_forEach (keepsBut_receiveTo true) (sleepers s p.val) (rxAgreed p.val seq s)
    have hasleep := fun l hm => forEach_receiveTo_rxSleep true (sleepers s p.val) (rxAgreed p.val seq s) (l := l) hm
    have hexec := exec_sleepReqReceive_agreed seq hup hfab hwake
    generalize forEach (sleepers s p.val) (receiveTo true) (rxAgreed p.val seq s) = u at hlanes hasleep hexec
    have hsus := keepsBut_suspend true p.val u
    have hport : (portOf (suspend true p.val u) p.val).sleep = (portOf (rxAgreed p.val seq s) p.val).sleep := by
      rw [portOf_of_keepsBut hsus (by simp), portOf_of_keepsBut hlanes (by simp)]
    refine ⟨_, hexec, ?_, ?_, nofun, fun _ => ⟨?_, ?_, ?_, fun l hm hl => ?_⟩⟩
    · exact keepsBut_done (keepsBut_then hagreed.frame (keepsBut_then (n := [.lane, .cal, .fab]) hlanes hsus (by simp) (by simp))
        (by simp) (by simp)) (by simp)
    · exact otherPorts_settle (otherPorts_trans hagreed.others (otherPorts_trans (otherPorts_of_keepsBut hlanes (by simp) _)
        (otherPorts_of_keepsBut hsus (by simp) _)))
    · rw [portOf_settle, hport, hsleep]
    · rw [portOf_settle, hport, hsleep]
      rfl
    · rw [settle_fab, suspend_suspended true p.isLt]
    · rw [laneOf_settle, laneOf_of_keepsBut hsus (by simp), hasleep l hm hl]

/-! ### WAKE_REQ -/

/-- The port that a WAKE_REQ for its receive direction has reached. -/
def wakeAsked (n seq : Nat) (s : State) : State := sleepMod n (fun x => { x with
  tx := if x.tx == .requested then .awake else x.tx
  tries := if x.tx == .requested then 0 else x.tries
  rx := if x.rx == .asleep && 1 != 2 then .waking else x.rx
  rxSeq := seq % 256, ackHeld := some (seq % 256) }) s

theorem exec_wakeReqReceive : exec (.wakeReqReceive p 1 seq) s =
    .next (settle (ackWake p.val (wakeFrom 2 p.val (wakeMask s 2 p.val) (wakeAsked p.val seq s)))) := by
  show execWakeReqReceive p 1 seq s = _
  rw [execWakeReqReceive, if_pos (by simp [hup, hfab])]
  rfl

/-- A WAKE_REQ wakes the receive direction and raises the domains that the port's mask names. -/
theorem wakeReqReceive_wakes (hrx : (portOf s p.val).sleep.rx = .asleep) :
    ∃ t, exec (.wakeReqReceive p 1 seq) s = .next t ∧ keepsBut [.te, .port, .pm, .msi, .pc] s t ∧ otherPorts p.val s t ∧
      (portOf t p.val).sleep.rx = .waking ∧ (portOf t p.val).sleep.ackHeld = some (seq % 256) ∧
      ((portOf s p.val).sleep.tx = .requested → (portOf t p.val).sleep.tx = .awake) ∧
      ∀ d, d < 14 → d ≠ 0 → (wakeMask s 2 p.val).getLsbD d = true → domBelow s d = true → (vget t.pm.dom d {}).target = .on := by
  have hasked : PortMoved p.val s (wakeAsked p.val seq s) := portMoved_sleepMod _ _ s
  have hsleep : (portOf (wakeAsked p.val seq s) p.val).sleep = _ := sleep_sleepMod p.isLt _ s
  have hwake := keepsBut_wakeFrom 2 p.val (wakeMask s 2 p.val) (wakeAsked p.val seq s)
  have htarget := fun d hd h0 hm => wakeFrom_target (src := 2) (detail := p.val) (j := d) (m := wakeMask s 2 p.val)
    (s := wakeAsked p.val seq s) hd h0 hm
  have hexec := exec_wakeReqReceive seq hup hfab
  generalize wakeFrom 2 p.val (wakeMask s 2 p.val) (wakeAsked p.val seq s) = u at hwake htarget hexec
  have hu : (portOf u p.val).sleep = (portOf (wakeAsked p.val seq s) p.val).sleep := by rw [portOf_of_keepsBut hwake (by simp)]
  have hwaking : (portOf u p.val).sleep.rx = .waking := by rw [hu, hsleep, hrx]; rfl
  rw [ackWake_of_not_awake (by rw [hwaking]; simp)] at hexec
  refine ⟨_, hexec, ?_, ?_, hwaking, ?_, fun htx => ?_, fun d hd h0 hm _ => ?_⟩
  · exact keepsBut_done (keepsBut_then hasked.frame hwake (by simp) (by simp)) (by simp)
  · exact otherPorts_settle (otherPorts_trans hasked.others (otherPorts_of_keepsBut hwake (by simp) _))
  · rw [portOf_settle, hu, hsleep]
  · rw [portOf_settle, hu, hsleep, htx]
    rfl
  · rw [settle_pm]
    exact htarget d hd h0 hm

end

/-! ### The woken receivers are aligned -/

theorem fusionOff_eq (s : State) (l : Nat) : fusionOff s l = ((Tbl.get s.par (pKey 0x121 (0x100 + l) 0)).getD 1 == 0) := rfl

theorem fusionOff_of_keepsBut {m : List Part} {s t : State} (h : keepsBut m s t) (hm : Part.par ∉ m) (l : Nat) :
    fusionOff t l = fusionOff s l := by
  rw [fusionOff_eq, fusionOff_eq, show t.par = s.par from h .par hm]

/-- A woken receiver, out of fusion where its marker position does not fit (R74). -/
def alignLane (off : List (Fin 8)) (l : Nat) (s : State) : State :=
  if off.any (fun k => k.val == l % 8) && !fusionOff (receiveTo false l s) l then excludeLane l 4 (receiveTo false l s)
  else receiveTo false l s

theorem alignLane_frame (off : List (Fin 8)) (l : Nat) (s : State) :
    keepsBut [.lane, .cal] s (alignLane off l s) ∧ otherLanes l s (alignLane off l s) := by
  have hr := receiveTo_frame false l s
  unfold alignLane
  split
  · exact ⟨keepsBut_trans hr.1 (keepsBut_excludeLane l 4 _), otherLanes_trans hr.2 (otherLanes_excludeLane l 4 _)⟩
  · exact hr

theorem alignLane_lane (off : List (Fin 8)) {l : Nat} (hl : l < 192) (s : State) :
    (laneOf (alignLane off l s) l).rxSleep = false ∧
      ((∃ k ∈ off, k.val = l % 8) → fusionOff s l = false → (laneOf (alignLane off l s) l).ph.excl = 4) := by
  have hrx := receiveTo_rxSleep false hl s
  have hfus := fusionOff_of_keepsBut (keepsBut_receiveTo false l s) (by simp) l
  obtain ⟨hexcl, hsame⟩ := laneOf_excludeLane hl 4 (receiveTo false l s)
  unfold alignLane
  rw [hfus]
  split
  · exact ⟨hsame.trans hrx, fun _ _ => hexcl⟩
  · rename_i hn
    refine ⟨hrx, fun hoff hfo => absurd ?_ hn⟩
    simpa [hfo] using hoff

theorem forEach_alignLane {off : List (Fin 8)} {ls : List Nat} {l : Nat} (hm : l ∈ ls) (hl : l < 192) (u : State) :
    (laneOf (forEach ls (alignLane off) u) l).rxSleep = false ∧
      ((∃ k ∈ off, k.val = l % 8) → fusionOff u l = false → (laneOf (forEach ls (alignLane off) u) l).ph.excl = 4) :=
  laneOf_forEach_mem (I := keepsBut [.lane, .cal] u)
    (P := fun x => x.rxSleep = false ∧ ((∃ k ∈ off, k.val = l % 8) → fusionOff u l = false → x.ph.excl = 4))
    (fun k t => (alignLane_frame off k t).2) (fun k t ht => keepsBut_trans ht (alignLane_frame off k t).1)
    (fun t ht => fusionOff_of_keepsBut ht (by simp) l ▸ alignLane_lane off hl t) (keepsBut_refl _ u) (.inl hm)

/-- The port whose receivers are awake and aligned. -/
def rxAwake (n : Nat) (s : State) : State := sleepMod n (fun x => { x with rx := .awake, rxAlone := false }) s

theorem exec_wakeAlignComplete (off : List (Fin 8)) (hrx : (portOf s p.val).sleep.rx = .waking) :
    exec (.wakeAlignComplete p off) s =
      .next (settle (ackWake p.val (suspend false p.val (forEach (lanesOf s p.val) (alignLane off) (rxAwake p.val s))))) := by
  show execWakeAlignComplete p off s = _
  rw [execWakeAlignComplete, if_pos (by simp [hrx])]
  rfl

/-- The receivers are awake again; a lane that is out of place is unfit for fusion. -/
theorem wakeAlignComplete_wakes (off : List (Fin 8)) (hrx : (portOf s p.val).sleep.rx = .waking) :
    ∃ t, exec (.wakeAlignComplete p off) s = .next t ∧ keepsBut [.lane, .port, .cal, .fab, .msi] s t ∧ otherPorts p.val s t ∧
      (portOf t p.val).sleep.rx = .awake ∧ (vget t.fab.adj p.val {}).suspended = false ∧
      ∀ l ∈ lanesOf s p.val, l < 192 → (laneOf t l).rxSleep = false ∧
        ((∃ k ∈ off, k.val = l % 8) → fusionOff s l = false → (laneOf t l).ph.excl = 4) := by
  have hawake : PortMoved p.val s (rxAwake p.val s) := portMoved_sleepMod _ _ s
  have hsleep : (portOf (rxAwake p.val s) p.val).sleep = _ := sleep_sleepMod p.isLt _ s
  have hlanes := keepsBut_forEach (fun l t => (alignLane_frame off l t).1) (lanesOf s p.val) (rxAwake p.val s)
  have haligned := fun l hm hl => forEach_alignLane (off := off) (ls := lanesOf s p.val) (l := l) hm hl (rxAwake p.val s)
  have hexec := exec_wakeAlignComplete off hrx
  generalize forEach (lanesOf s p.val) (alignLane off) (rxAwake p.val s) = u at hlanes haligned hexec
  have hsus := keepsBut_suspend false p.val u
  have hack := portMoved_ackWake p.val (suspend false p.val u)
  refine ⟨_, hexec, ?_, ?_, ?_, ?_, fun l hm hl => ?_⟩
  · have hrest := keepsBut_then (n := [.port, .fab]) hsus hack.frame (by simp) (by simp)
    exact keepsBut_done (keepsBut_then hawake.frame (keepsBut_then (n := [.lane, .port, .cal, .fab]) hlanes hrest (by simp)
      (by simp)) (by simp) (by simp)) (by simp)
  · exact otherPorts_settle (otherPorts_trans hawake.others (otherPorts_trans (otherPorts_of_keepsBut hlanes (by simp) _)
      (otherPorts_trans (otherPorts_of_keepsBut hsus (by simp) _) hack.others)))
  · rw [portOf_settle, ackWake_rx p.isLt, portOf_of_keepsBut hsus (by simp), portOf_of_keepsBut hlanes (by simp), hsleep]
  · rw [settle_fab, show (ackWake _ _).fab = _ from hack.frame .fab (by simp), suspend_suspended false p.isLt]
  · rw [laneOf_settle, laneOf_of_keepsBut hack.frame (by simp), laneOf_of_keepsBut hsus (by simp)]
    exact haligned l hm hl

/-! ### An ordered set with another D1 -/

theorem exec_orderedSetBadD1 {d1 : Byte} (hfab : kindFab s p.val = true) (h51 : d1 ≠ 0x51) (h52 : d1 ≠ 0x52) (h57 : d1 ≠ 0x57)
    (h58 : d1 ≠ 0x58) : exec (.orderedSetBadD1 p d1) s =
      .next (settle (bump 24 1 (sleepMod p.val (fun x => { x with badD1 := x.badD1 + 1 }) s))) := by
  show execOrderedSetBadD1 p d1 s = _
  rw [execOrderedSetBadD1, if_pos (by simpa [hfab] using ⟨⟨⟨h51, h52⟩, h57⟩, h58⟩)]
  rfl

/-- It is counted, and has no other effect. -/
theorem orderedSetBadD1_counted {d1 : Byte} (hfab : kindFab s p.val = true) (h51 : d1 ≠ 0x51) (h52 : d1 ≠ 0x52)
    (h57 : d1 ≠ 0x57) (h58 : d1 ≠ 0x58) :
    ∃ t, exec (.orderedSetBadD1 p d1) s = .next t ∧ keepsBut [.port, .msi, .pc] s t ∧ otherPorts p.val s t ∧
      portOf t p.val = { portOf s p.val with
        sleep := { (portOf s p.val).sleep with badD1 := (portOf s p.val).sleep.badD1 + 1 } } := by
  have hmoved := portMoved_sleepMod p.val (fun x => { x with badD1 := x.badD1 + 1 }) s
  have hbump := keepsBut_bump 24 1 (sleepMod p.val (fun x => { x with badD1 := x.badD1 + 1 }) s)
  refine ⟨_, exec_orderedSetBadD1 hfab h51 h52 h57 h58, ?_, ?_, ?_⟩
  · exact keepsBut_done (keepsBut_then hmoved.frame hbump (by simp) (by simp)) (by simp)
  · exact otherPorts_settle (otherPorts_trans hmoved.others (otherPorts_of_keepsBut hbump (by simp) _))
  · rw [portOf_settle, portOf_of_keepsBut hbump (by simp), portOf_sleepMod p.isLt]

end

/-! ### The sentinel (R62) -/

/-- The lanes of two used ports of a group lie apart. -/
theorem lanes_apart {s : State} {a b : Nat} (ha : portUsed s a = true) (hb : portUsed s b = true) (hg : a / 8 = b / 8)
    (h : a < b) : a + laneCount s a ≤ b := by
  unfold portUsed at ha hb
  unfold laneCount
  rw [← hg] at hb
  generalize modeOf s (a / 8) = m at ha hb
  split
  · simp only [beq_iff_eq] at ha hb
    omega
  · simp only [beq_iff_eq] at ha hb
    omega
  · exact h

theorem pairwise_lanesOf (s : State) (p : Nat) : (lanesOf s p).Pairwise (· < ·) :=
  List.pairwise_map.mpr (List.pairwise_lt_range.imp (by simp))

theorem mem_lanesOf {s : State} {p l : Nat} : l ∈ lanesOf s p ↔ p ≤ l ∧ l < p + laneCount s p := by
  unfold lanesOf
  rw [List.mem_map]
  constructor
  · rintro ⟨k, hk, rfl⟩
    rw [List.mem_range] at hk
    omega
  · intro h
    exact ⟨l - p, List.mem_range.mpr (by omega), by omega⟩

theorem mem_fabricPorts {s : State} {g p : Nat} (h : p ∈ fabricPorts s g) : portUsed s p = true ∧ p / 8 = g := by
  unfold fabricPorts at h
  obtain ⟨hp, hq⟩ := List.mem_filter.mp h
  obtain ⟨k, hk, rfl⟩ := List.mem_map.mp hp
  rw [List.mem_range] at hk
  exact ⟨(Bool.and_eq_true_iff.mp hq).1, by omega⟩

/-- The lanes of a group's fabric ports rise. -/
theorem pairwise_fabricLanes (s : State) (g : Nat) : (fabricLanes s g).Pairwise (· < ·) := by
  have hports : (fabricPorts s g).Pairwise (· < ·) :=
    (List.pairwise_map.mpr (List.pairwise_lt_range.imp (by simp))).filter _
  refine List.pairwise_flatMap.mpr ⟨fun p _ => pairwise_lanesOf s p, hports.imp_of_mem fun {a b} ha hb hab => ?_⟩
  obtain ⟨hua, hga⟩ := mem_fabricPorts ha
  obtain ⟨hub, hgb⟩ := mem_fabricPorts hb
  have hapart := lanes_apart hua hub (hga.trans hgb.symm) hab
  intro x hx y hy
  have hx' := mem_lanesOf.mp hx
  have hy' := mem_lanesOf.mp hy
  omega

/-- The first element of a rising list that meets a condition is the least one. -/
theorem head?_filter_of_least {l : List Nat} (hl : l.Pairwise (· < ·)) {q : Nat → Bool} {n : Nat} (hn : n ∈ l) (hq : q n = true)
    (hleast : ∀ x ∈ l, q x = true → n ≤ x) : (l.filter q).head? = some n := by
  have hmem : n ∈ l.filter q := List.mem_filter.mpr ⟨hn, hq⟩
  have hrise := hl.filter q
  cases hf : l.filter q with
  | nil => simp [hf] at hmem
  | cons a r =>
    rw [hf] at hmem hrise
    obtain ⟨hal, hqa⟩ := List.mem_filter.mp (hf ▸ List.mem_cons_self : a ∈ l.filter q)
    rcases List.mem_cons.mp hmem with h | h
    · rw [h, List.head?_cons]
    · exact absurd ((List.pairwise_cons.mp hrise).1 n h) (Nat.not_lt.mpr (hleast a hal hqa))

/-- The sentinel of a group is another lane. -/
def sentinelMoved (g nx : Nat) (s : State) : State := groupMod g (fun x => { x with sentinel := some (Fin.ofNat 8 (nx % 8)) }) s

theorem exec_sentinelLoss {g : GroupIx} {cur nx : Nat} {s : State} (hcur : sentinelOf s g.val = some cur)
    (hnx : nx ∈ fabricLanes s g.val) (hlt : cur < nx) (hleast : ∀ l ∈ fabricLanes s g.val, cur < l → nx ≤ l) :
    exec (.sentinelLoss g) s = .next (settle (laneWakes nx (sentinelMoved g.val nx s))) := by
  have hhead := head?_filter_of_least (pairwise_fabricLanes s g.val) (q := fun l => decide (cur < l)) hnx
    (decide_eq_true hlt) (fun l hl h => hleast l hl (of_decide_eq_true h))
  show execSentinelLoss g s = _
  rw [execSentinelLoss, hcur]
  simp only [List.head?_append, hhead, Option.some_or]
  rfl

/-- The next fabric lane of the group takes the place of a sentinel without a signal. -/
theorem sentinelLoss_moves {g : GroupIx} {cur nx : Nat} {s : State} (hcur : sentinelOf s g.val = some cur)
    (hnx : nx ∈ fabricLanes s g.val) (hlt : cur < nx) (hleast : ∀ l ∈ fabricLanes s g.val, cur < l → nx ≤ l) (hl : nx < 192) :
    ∃ t, exec (.sentinelLoss g) s = .next t ∧ keepsBut [.lane, .group, .msi] s t ∧ otherGroups g.val s t ∧
      (groupOf t g.val).sentinel = some (Fin.ofNat 8 (nx % 8)) ∧ otherLanes nx s t ∧
      (laneOf t nx).txSleep = false ∧ (laneOf t nx).rxSleep = false := by
  have hgroup : keepsBut [.group] s (sentinelMoved g.val nx s) := keepsBut_groupMod _ _ s
  have hwakes : keepsBut [.lane] (sentinelMoved g.val nx s) (laneWakes nx (sentinelMoved g.val nx s)) :=
    keepsBut_trans (keepsBut_laneMod nx _ _) (keepsBut_laneMod nx _ _)
  have hothers : otherLanes nx (sentinelMoved g.val nx s) (laneWakes nx (sentinelMoved g.val nx s)) :=
    otherLanes_trans (otherLanes_laneMod nx _ _) (otherLanes_laneMod nx _ _)
  refine ⟨_, exec_sentinelLoss hcur hnx hlt hleast, ?_, fun j hj => vmodN_other s.group g.val j _ {} hj, ?_, ?_, ?_⟩
  · exact keepsBut_done (keepsBut_then hgroup hwakes (by simp) (by simp)) (by simp)
  · exact congrArg Group.sentinel (groupOf_groupMod_same g.isLt _ s)
  · exact otherLanes_settle (otherLanes_trans (otherLanes_of_keepsBut hgroup (by simp) nx) hothers)
  · rw [laneOf_settle, laneWakes, sleepJoin_eq, laneOf_laneMod_same hl, laneOf_laneMod_same hl]
    exact ⟨rfl, rfl⟩

/-- Settles O13: the answers to the peer's requests, the aligned receivers, a discarded ordered set, and the next sentinel. -/
theorem receiveDirectionFollowsThePeer : Obligations.ReceiveDirectionFollowsThePeer := by
  unfold Obligations.ReceiveDirectionFollowsThePeer
  exact ⟨⟨fun p seq s => sleepReqReceive_agrees_or_wakes seq, fun p seq s => wakeReqReceive_wakes seq,
      fun p off s => wakeAlignComplete_wakes off⟩,
    fun p d1 s => orderedSetBadD1_counted, fun g cur nx s => sentinelLoss_moves⟩

end Sys2Proof.Machine

/-! Weathering (R58, R59, R229 to R235, R510): eye scans, guard time, core voltage, retention and the history. -/

namespace Sys2Proof.Machine

theorem keepsBut_withWx (x : Weather) (s : State) : keepsBut [.wx] s { s with wx := x } := by
  intro p hp
  cases p <;> first | rfl | exact ⟨rfl, rfl, rfl⟩ | simp at hp

theorem keepsBut_withPins (x : Pins) (s : State) : keepsBut [.pins] s { s with pins := x } := by
  intro p hp
  cases p <;> first | rfl | exact ⟨rfl, rfl, rfl⟩ | simp at hp

/-- What moves weathering and the pins alone, at the end of a command. -/
theorem keepsBut_settle_wx_pins (x : Weather) (y : Pins) (s : State) :
    keepsBut [.wx, .pins, .msi] s (settle { s with wx := x, pins := y }) :=
  keepsBut_done (keepsBut_then (keepsBut_withWx x s) (keepsBut_withPins y _) (by simp) (by simp)) (by simp)

/-! ### Eye scans (R58, R59, R234) -/

section
variable {l : LaneIx} {s : State}

theorem exec_weatherEyeScan_starts (hst : (laneOf s l.val).st = .ready) (hrx : (laneOf s l.val).rxSleep = false) :
    exec (.weatherEyeScan l) s = .next (settle (startScan l.val s)) := by
  show execWeatherEyeScan l s = _
  rw [execWeatherEyeScan, if_pos (by simp [hst, hrx])]
  rfl

theorem exec_weatherEyeScan_waits (h : (laneOf s l.val).st ≠ .ready ∨ (laneOf s l.val).rxSleep = true) :
    exec (.weatherEyeScan l) s = .next (settle { s with wx := { s.wx with scanDue := s.wx.scanDue.set l true } }) := by
  show execWeatherEyeScan l s = _
  rw [execWeatherEyeScan, if_neg (by simpa [or_iff_not_imp_left] using h)]
  rfl

/-- A weathering scan runs on a READY awake lane, and is due on another. -/
theorem weatherEyeScan_starts_or_waits :
    ((laneOf s l.val).st = .ready → (laneOf s l.val).rxSleep = false →
      ∃ t, exec (.weatherEyeScan l) s = .next t ∧ keepsBut [.lane, .msi] s t ∧ otherLanes l.val s t ∧ (laneOf t l.val).eye.running = true) ∧
    ((laneOf s l.val).st ≠ .ready ∨ (laneOf s l.val).rxSleep = true → ∃ t, exec (.weatherEyeScan l) s = .next t ∧ keepsBut [.wx, .msi] s t ∧
      vget t.wx.scanDue l.val false = true) := by
  constructor
  · intro hst hrx
    refine ⟨_, exec_weatherEyeScan_starts hst hrx, ?_, otherLanes_settle (otherLanes_laneMod _ _ s), ?_⟩
    · exact keepsBut_done (keepsBut_mono (keepsBut_laneMod _ _ s) (by simp)) (by simp)
    · rw [laneOf_settle, startScan, laneOf_laneMod_same l.isLt]
      dsimp only
      split
      · assumption
      · rfl
  · intro h
    refine ⟨_, exec_weatherEyeScan_waits h, keepsBut_done (keepsBut_mono (keepsBut_withWx _ s) (by simp)) (by simp), ?_⟩
    rw [settle_wx]
    simp [vget]

/-- The lane whose scan has completed. -/
def scanned (n : Nat) (scan : EyeScan) (s : State) : State := laneMod n (fun x => { x with eye := {
  running := false, valid := true, seq := (x.eye.seq + 1) % 4096, width := (eyeResult scan).1, height := (eyeResult scan).2 } }) s

/-- The plans that rest on a port's narrowest eye (R233). -/
def guardTaken (p : Nat) (s : State) : State :=
  match narrowest s p with
  | some w => when (decide (w < parV s 0x5E)) { s with wx := { s.wx with guard := vmodN s.wx.guard p (fun g => min 64 (g + 8)) } } s
  | none => s

/-- What Obilwin, where it runs, plans from a scan's results (R232, R233). -/
def scanPlans (n : Nat) (s : State) : State :=
  if obilwinUp s then guardTaken (portOfLane (floorJudge n s) n) (floorJudge n s) else s

theorem keepsBut_floorJudge (n : Nat) (s : State) : keepsBut [.wx, .host, .mb, .pc] s (floorJudge n s) := by
  unfold floorJudge
  extract_lets e low wx k r t
  split
  · exact keepsBut_mono (keepsBut_withWx _ s) (by simp)
  · split
    · exact keepsBut_mono (keepsBut_withWx _ s) (by simp)
    · have ht : keepsBut [.wx] s t := keepsBut_withWx _ s
      split
      · exact keepsBut_mono ht (by simp)
      · exact keepsBut_then ht (keepsBut_issueEvent _ _ _ t) (by simp) (by simp)

theorem keepsBut_guardTaken (p : Nat) (s : State) : keepsBut [.wx] s (guardTaken p s) := by
  unfold guardTaken
  split
  · exact keepsBut_when _ (keepsBut_withWx _ s)
  · exact keepsBut_refl _ s

theorem keepsBut_scanPlans (n : Nat) (s : State) : keepsBut [.wx, .host, .mb, .pc] s (scanPlans n s) := by
  unfold scanPlans
  split
  · exact keepsBut_then (keepsBut_floorJudge n s) (keepsBut_guardTaken _ _) (by simp) (by simp)
  · exact keepsBut_refl _ s

theorem exec_eyeScanComplete (scan : EyeScan) (hrun : (laneOf s l.val).eye.running = true) :
    exec (.eyeScanComplete l scan) s = .next (settle (scanPlans l.val (scanned l.val scan s))) := by
  show execEyeScanComplete l scan s = _
  rw [execEyeScanComplete, if_neg (by simp [hrun])]
  unfold scanned scanPlans guardTaken
  dsimp only
  generalize laneMod l.val _ s = u
  cases obilwinUp u with
  | false => rfl
  | true =>
    generalize hw : narrowest (floorJudge l.val u) _ = w
    cases w <;> rfl

/-- A completed scan's results are written under the next sequence number. -/
theorem eyeScanComplete_writes (scan : EyeScan) (hrun : (laneOf s l.val).eye.running = true) :
    ∃ t, exec (.eyeScanComplete l scan) s = .next t ∧ keepsBut [.lane, .wx, .host, .msi, .mb, .pc] s t ∧ otherLanes l.val s t ∧
      (laneOf t l.val).eye = {
        running := false, valid := true, seq := ((laneOf s l.val).eye.seq + 1) % 4096
        width := (eyeResult scan).1, height := (eyeResult scan).2 } := by
  have hscan : keepsBut [.lane] s (scanned l.val scan s) := keepsBut_laneMod _ _ s
  have hplans := keepsBut_scanPlans l.val (scanned l.val scan s)
  refine ⟨_, exec_eyeScanComplete scan hrun, ?_, ?_, ?_⟩
  · exact keepsBut_done (keepsBut_then hscan hplans (by simp) (by simp)) (by simp)
  · exact otherLanes_settle (otherLanes_trans (otherLanes_laneMod _ _ s) (otherLanes_of_keepsBut hplans (by simp) _))
  · rw [laneOf_settle, laneOf_of_keepsBut hplans (by simp), scanned, laneOf_laneMod_same l.isLt]

end

/-! ### Guard time (R233) -/

theorem exec_guardRelease {p : PortIx} {w : Rat} {s : State} (hw : narrowest s p.val = some w) (hup : obilwinUp s = true)
    (hwide : (parV s 0x5E : Rat) + 50 < w) : exec (.guardRelease p) s =
      .next (settle { s with wx := { s.wx with guard := vmodN s.wx.guard p.val (fun g => g - 8) } }) := by
  show execGuardRelease p s = _
  rw [execGuardRelease, hw]
  exact if_pos ⟨hup, hwide⟩

theorem guardRelease_gives_back {p : PortIx} {w : Rat} {s : State} (hw : narrowest s p.val = some w) (hup : obilwinUp s = true)
    (hwide : (parV s 0x5E : Rat) + 50 < w) :
    ∃ t, exec (.guardRelease p) s = .next t ∧ keepsBut [.wx, .msi] s t ∧ vget t.wx.guard p.val 0 = vget s.wx.guard p.val 0 - 8 ∧
      t.wx.permitted = s.wx.permitted :=
  ⟨_, exec_guardRelease hw hup hwide, keepsBut_done (keepsBut_mono (keepsBut_withWx _ s) (by simp)) (by simp),
    vmodN_same s.wx.guard p.val (fun g => g - 8) 0 p.isLt, rfl⟩

/-! ### The core supply (R231, R510) -/

section
variable {s : State} (hup : obilwinUp s = true)
include hup

section
variable (hdata : s.rst.data = none) (hon : domOn s 10 = true) (hring : s.wx.rings[10] < 1000 + (parV s 0x5F).toNat)
include hdata hon hring

theorem exec_coreVoltageAdjust_orders (h : s.wx.target + 5 ≤ 850) : exec .coreVoltageAdjust s =
    .next (settle { s with pins := { s.pins with vout := s.wx.target + 5, voutRetried := false } }) := by
  show execCoreVoltageAdjust s = _
  rw [execCoreVoltageAdjust, if_neg (by simp [hup, hdata, hon])]
  dsimp only
  rw [if_pos hring, if_neg (by omega)]
  rfl

theorem exec_coreVoltageAdjust_margin (h : 850 < s.wx.target + 5) : exec .coreVoltageAdjust s =
    .next (settle { s with wx := { s.wx with voltMargin := true } }) := by
  show execCoreVoltageAdjust s = _
  rw [execCoreVoltageAdjust, if_neg (by simp [hup, hdata, hon])]
  dsimp only
  rw [if_pos hring, if_pos h]
  rfl

/-- The core's ring lacks margin: one step upwards is ordered, or VOLT_MARGIN sets at the top. -/
theorem coreVoltageAdjust_raises :
    ∃ t, exec .coreVoltageAdjust s = .next t ∧ keepsBut [.wx, .pins, .msi] s t ∧ t.wx.target = s.wx.target ∧
      (s.wx.target + 5 ≤ 850 → t.pins.vout = s.wx.target + 5) ∧
      (850 < s.wx.target + 5 → t.wx.voltMargin = true ∧ t.pins = s.pins) := by
  rcases Nat.lt_or_ge 850 (s.wx.target + 5) with h | h
  · exact ⟨_, exec_coreVoltageAdjust_margin hup hdata hon hring h, keepsBut_settle_wx_pins _ s.pins s, rfl,
      fun h' => absurd h (by omega), fun _ => ⟨rfl, rfl⟩⟩
  · exact ⟨_, exec_coreVoltageAdjust_orders hup hdata hon hring h, keepsBut_settle_wx_pins s.wx _ s, rfl, fun _ => rfl,
      fun h' => absurd h' (by omega)⟩

end

section
variable {mv : Nat} (hv : s.pins.vout ≠ 0)
include hv

theorem exec_voutReadback_within (h₁ : mv ≤ s.pins.vout + 5) (h₂ : s.pins.vout ≤ mv + 5) : exec (.voutReadback mv) s =
    .next (settle { s with wx := { s.wx with target := s.pins.vout }, pins := { s.pins with voutRetried := false } }) := by
  show execVoutReadback mv s = _
  rw [execVoutReadback, if_neg (by simp [hup, hv]), if_pos ⟨h₁, h₂⟩]
  rfl

section
variable (hout : s.pins.vout + 5 < mv ∨ mv + 5 < s.pins.vout)
include hout

theorem exec_voutReadback_retries (h : s.pins.voutRetried = false) : exec (.voutReadback mv) s =
    .next (settle { s with pins := { s.pins with voutRetried := true } }) := by
  show execVoutReadback mv s = _
  rw [execVoutReadback, if_neg (by simp [hup, hv]), if_neg (by omega), if_pos (by simp [h])]
  rfl

theorem exec_voutReadback_holds (h : s.pins.voutRetried = true) : exec (.voutReadback mv) s =
    .next (settle { s with
      wx := { s.wx with voltMargin := true }, pins := { s.pins with vout := s.wx.target, voutRetried := false } }) := by
  show execVoutReadback mv s = _
  rw [execVoutReadback, if_neg (by simp [hup, hv]), if_neg (by omega), if_neg (by simp [h])]
  rfl

/-- A reading that is out of place: one more try, then the voltage in force is held with VOLT_MARGIN. -/
theorem voutReadback_retries_once :
    ∃ t, exec (.voutReadback mv) s = .next t ∧ keepsBut [.wx, .pins, .msi] s t ∧
      t.wx.target = s.wx.target ∧ (s.pins.voutRetried = false → t.pins.voutRetried = true ∧ t.wx = s.wx) ∧
      (s.pins.voutRetried = true → t.wx.voltMargin = true ∧ t.pins.vout = s.wx.target) := by
  cases h : s.pins.voutRetried with
  | false =>
    exact ⟨_, exec_voutReadback_retries hup hv hout h, keepsBut_settle_wx_pins s.wx _ s, rfl, fun _ => ⟨rfl, rfl⟩, nofun⟩
  | true =>
    exact ⟨_, exec_voutReadback_holds hup hv hout h, keepsBut_settle_wx_pins _ _ s, rfl, nofun, fun _ => ⟨rfl, rfl⟩⟩

end

theorem voutReadback_takes_or_retries :
    (mv ≤ s.pins.vout + 5 → s.pins.vout ≤ mv + 5 → ∃ t, exec (.voutReadback mv) s = .next t ∧ keepsBut [.wx, .pins, .msi] s t ∧
      t.wx.target = s.pins.vout ∧ t.wx.voltMargin = s.wx.voltMargin) ∧
    (s.pins.vout + 5 < mv ∨ mv + 5 < s.pins.vout → ∃ t, exec (.voutReadback mv) s = .next t ∧ keepsBut [.wx, .pins, .msi] s t ∧
      t.wx.target = s.wx.target ∧ (s.pins.voutRetried = false → t.pins.voutRetried = true ∧ t.wx = s.wx) ∧
      (s.pins.voutRetried = true → t.wx.voltMargin = true ∧ t.pins.vout = s.wx.target)) :=
  ⟨fun h₁ h₂ => ⟨_, exec_voutReadback_within hup hv h₁ h₂, keepsBut_settle_wx_pins _ _ s, rfl, rfl⟩,
    voutReadback_retries_once hup hv⟩

end

end

/-! ### Retention (R229, R231) -/

theorem retIndex_lt {d k : Nat} (h : retIndex d = some k) : k < 4 := by
  unfold retIndex at h
  split at h <;> simp at h <;> omega

/-- The minimum that a retention check found. -/
def retMeasured (k minimum : Nat) (s : State) : State :=
  { s with wx := { s.wx with retMin := vmodN s.wx.retMin k (fun _ => minimum) } }

theorem exec_retentionCheck {d : Fin 14} {k : Nat} (minimum : Nat) (s : State) (hk : retIndex d.val = some k) :
    exec (.retentionCheck d minimum) s = .next (settle (when (obilwinUp s) { retMeasured k minimum s with
      wx := { (retMeasured k minimum s).wx with retVolt := vmodN s.wx.retVolt k (fun _ => minimum + 50) } }
      (retMeasured k minimum s))) := by
  show execRetentionCheck d minimum s = _
  rw [execRetentionCheck, hk]
  rfl

/-- The minimum is stored, and Obilwin sets the retention voltage from it. -/
theorem retentionCheck_stores {d : Fin 14} {k : Nat} (minimum : Nat) {s : State} (hk : retIndex d.val = some k) :
    ∃ t, exec (.retentionCheck d minimum) s = .next t ∧ keepsBut [.wx, .msi] s t ∧ vget t.wx.retMin k 0 = minimum ∧
      (obilwinUp s = true → vget t.wx.retVolt k 0 = minimum + 50) ∧ (obilwinUp s = false → t.wx.retVolt = s.wx.retVolt) := by
  have hmin : vget (vmodN s.wx.retMin k (fun _ => minimum)) k 0 = minimum := vmodN_same _ _ _ _ (retIndex_lt hk)
  have hvolt : vget (vmodN s.wx.retVolt k (fun _ => minimum + 50)) k 0 = minimum + 50 := vmodN_same _ _ _ _ (retIndex_lt hk)
  have hexec := exec_retentionCheck minimum s hk
  have hkeep : ∀ x, keepsBut [.wx, .msi] s (settle { s with wx := x }) := fun x =>
    keepsBut_done (keepsBut_mono (keepsBut_withWx x s) (by simp)) (by simp)
  cases hup : obilwinUp s with
  | true =>
    rw [hup] at hexec
    exact ⟨_, hexec, hkeep _, hmin, fun _ => hvolt, nofun⟩
  | false =>
    rw [hup] at hexec
    exact ⟨_, hexec, hkeep _, hmin, nofun, fun _ => rfl⟩

/-! ### The history (R235) -/

/-- What a statement about the history names: the hourly records, and whether it has lost any. -/
def historyOf (s : State) : List WeatherRec × Bool := (s.wx.hourly, s.wx.historyLost)

theorem keepsBut_marginEvents (s : State) : keepsBut [.wx, .host, .mb, .pc] s (marginEvents s) := by
  refine keepsBut_foldl _ (fun s k => ?_) _ s
  split
  · exact keepsBut_then (keepsBut_withWx _ s) (keepsBut_issueEvent _ _ _ _) (by simp) (by simp)
  · exact keepsBut_refl _ s

theorem issueEvent_wx (code source : Nat) (data : List Byte) (s : State) : (issueEvent code source data s).wx = s.wx :=
  keepsBut_issueEvent code source data s .wx (by simp)

/-- A floor that is reported is not part of the history. -/
theorem marginEvents_historyOf (s : State) : historyOf (marginEvents s) = historyOf s := by
  refine foldl_keeps historyOf _ (fun s k => ?_) _ s
  dsimp only
  split
  · rw [historyOf, issueEvent_wx]
    rfl
  · rfl

/-- The hourly records with the one of this second. -/
def hourlyNow (s : State) : List WeatherRec := (weatherRec 0 (secOf s.clk.now) (recordVals s) :: s.wx.hourly).take 720

/-- Weathering with this hour's record. -/
def recorded (flashOk : Bool) (s : State) : Weather :=
  let full := decide (24 ≤ s.wx.inDay + 1)
  { s.wx with
    hourly := hourlyNow s, inDay := if full then 0 else s.wx.inDay + 1
    daily := if full && flashOk then (weatherRec 1 (secOf s.clk.now) (meanVals ((hourlyNow s).take 24)) :: s.wx.daily).take 7300
      else s.wx.daily
    first := if s.wx.first.isEmpty then recordVals s else s.wx.first
    historyLost := s.wx.historyLost || !flashOk }

/-- The record, and the event of a history that has just lost one. -/
def historyWritten (flashOk : Bool) (s : State) : State :=
  if !flashOk && !s.wx.historyLost then issueEvent 0x0802 0 [] { s with wx := recorded flashOk s }
  else { s with wx := recorded flashOk s }

theorem historyWritten_frame (flashOk : Bool) (s : State) :
    keepsBut [.wx, .host, .mb, .pc] s (historyWritten flashOk s) ∧ (historyWritten flashOk s).wx = recorded flashOk s := by
  have h := keepsBut_withWx (recorded flashOk s) s
  unfold historyWritten
  split
  · exact ⟨keepsBut_then h (keepsBut_issueEvent _ _ _ _) (by simp) (by simp), issueEvent_wx _ _ _ _⟩
  · exact ⟨keepsBut_mono h (by simp), rfl⟩

theorem exec_weatherRecord {s : State} (flashOk : Bool) (hup : obilwinUp s = true) :
    exec (.weatherRecord flashOk) s = .next (settle (marginEvents (historyWritten flashOk s))) := by
  show execWeatherRecord flashOk s = _
  rw [execWeatherRecord, if_neg (by simp [hup])]
  rfl

/-- The hourly record is written with its second, and at most 720 are kept. -/
theorem weatherRecord_writes {s : State} (flashOk : Bool) (hup : obilwinUp s = true) :
    ∃ t, exec (.weatherRecord flashOk) s = .next t ∧ keepsBut [.wx, .host, .msi, .mb, .pc] s t ∧
      t.wx.hourly.head?.map (fun r => r.sec) = some (secOf s.clk.now) ∧ t.wx.hourly.length ≤ 720 ∧
      t.wx.historyLost = (s.wx.historyLost || !flashOk) := by
  obtain ⟨hkeep, hwx⟩ := historyWritten_frame flashOk s
  have hhist := marginEvents_historyOf (historyWritten flashOk s)
  rw [historyOf, historyOf, hwx, Prod.mk.injEq] at hhist
  obtain ⟨hhourly, hlost⟩ := hhist
  refine ⟨_, exec_weatherRecord flashOk hup, ?_, ?_, ?_, ?_⟩
  · exact keepsBut_done (keepsBut_then hkeep (keepsBut_marginEvents _) (by simp) (by simp)) (by simp)
  · rw [settle_wx, hhourly]
    rfl
  · rw [settle_wx, hhourly]
    exact List.length_take_le _ _
  · rw [settle_wx, hlost]
    rfl

/-- Settles O26: scans and guard time, the core supply, retention and the history. -/
theorem weathering : Obligations.Weathering := by
  unfold Obligations.Weathering
  exact ⟨⟨fun l s => weatherEyeScan_starts_or_waits, fun l scan s => eyeScanComplete_writes scan,
      fun p w s => guardRelease_gives_back⟩,
    ⟨fun s => coreVoltageAdjust_raises, fun mv s hup hv => voutReadback_takes_or_retries hup hv⟩,
    fun d k minimum s => retentionCheck_stores minimum, fun flashOk s => weatherRecord_writes flashOk⟩

end Sys2Proof.Machine

/-! Frames at the ports (R60, R243 to R249, R257, R296): low-power idle received, the counters of received and sent frames, what
a MAC begins and ends, and the snapshots of the statistics. -/

namespace Sys2Proof.Machine

/-! ### Low-power idle from the peer (R60, R243) -/

section
variable {p : PortIx} {on : Bool} {s : State}

/-- The peer's low-power idle, or its end, as the port notes it. -/
def lpiHeard (on : Bool) (n : Nat) (s : State) : State := portMod n (fun q => { q with lowPower := on }) s

theorem exec_lowPowerIdle (hup : (portOf s p.val).st = .up) (hkind : eeeKind s p.val ≠ 0) : exec (.lowPowerIdle p on) s =
    .next (settle (forEach (if eeeKind s p.val = 1 then lanesOf s p.val else []) (receiveTo on) (lpiHeard on p.val s))) := by
  show execLowPowerIdle p on s = _
  rw [execLowPowerIdle, if_pos (by simp [hup, hkind])]
  by_cases hdeep : eeeKind s p.val = 1
  · rw [if_pos hdeep, if_pos hdeep]
    rfl
  · rw [if_neg hdeep, if_neg hdeep]
    rfl

/-- The receive direction follows in deep sleep; with fast wake the lanes stay as they are. -/
theorem lowPowerIdle_followed (hup : (portOf s p.val).st = .up) (hkind : eeeKind s p.val ≠ 0) :
    ∃ t, exec (.lowPowerIdle p on) s = .next t ∧ keepsBut [.lane, .port, .cal, .msi] s t ∧ otherPorts p.val s t ∧
      portOf t p.val = { portOf s p.val with lowPower := on } ∧
      (eeeKind s p.val = 1 → ∀ l ∈ lanesOf s p.val, l < 192 → (laneOf t l).rxSleep = on) ∧
      (eeeKind s p.val = 2 → t.lane = s.lane) := by
  have hmoved : PortMoved p.val s (lpiHeard on p.val s) := portMoved_portMod p.val _ s
  have hlanes := fun ls => keepsBut_forEach (keepsBut_receiveTo on) ls (lpiHeard on p.val s)
  refine ⟨_, exec_lowPowerIdle hup hkind, ?_, ?_, ?_, ?_, ?_⟩
  · exact keepsBut_done (keepsBut_then hmoved.frame (hlanes _) (by simp) (by simp)) (by simp)
  · exact otherPorts_settle (otherPorts_trans hmoved.others (otherPorts_of_keepsBut (hlanes _) (by simp) _))
  · rw [portOf_settle, portOf_of_keepsBut (hlanes _) (by simp), lpiHeard, portOf_portMod_same p.isLt]
  · intro hdeep l hm hl
    rw [if_pos hdeep, laneOf_settle]
    exact forEach_receiveTo_rxSleep on _ _ hm hl
  · intro hfast
    rw [if_neg (by omega)]
    rfl

end

/-! ### A port's counters (R257) -/

/-- Nothing moves but the live counters of one port. -/
structure Counted (p : Nat) (s t : State) : Prop where
  moved : PortMoved p s t
  port : portOf t p = { portOf s p with live := (portOf t p).live }

theorem Counted.trans {p : Nat} {s t u : State} (h : Counted p s t) (k : Counted p t u) : Counted p s u :=
  ⟨h.moved.trans k.moved, by rw [k.port, h.port]⟩

section
variable {p : Nat} (hp : p < 192) (s : State)
include hp

theorem counted_macCount (k n : Nat) : Counted p s (macCount p k n s) :=
  ⟨portMoved_macCount p k n s, by rw [portOf_macCount hp]⟩

theorem counted_countGood (da len : Nat) : Counted p s (countGood p da len s) :=
  ((counted_macCount hp s 1 1).trans (counted_macCount hp _ _ 1)).trans (counted_macCount hp _ _ 1)

theorem live_macCount_same {k : Nat} (n : Nat) (hk : k < 32) :
    vget (portOf (macCount p k n s) p).live k 0 = (vget (portOf s p).live k 0 + n) % 2 ^ 64 := by
  rw [portOf_macCount hp]
  exact vmodN_same _ _ _ _ hk

theorem live_macCount_other {j k : Nat} (n : Nat) (h : j ≠ k) :
    vget (portOf (macCount p k n s) p).live j 0 = vget (portOf s p).live j 0 := by
  rw [portOf_macCount hp]
  exact vmodN_other _ _ _ _ _ h

end

theorem castOf_le (da : Nat) : castOf da ≤ 2 := by
  unfold castOf
  split_ifs <;> omega

theorem sizeBucket_range (len : Nat) : 12 ≤ sizeBucket len ∧ sizeBucket len ≤ 18 := by
  unfold sizeBucket
  split_ifs <;> omega

section
variable {p : Nat} (hp : p < 192) (da len : Nat) (s : State)
include hp

theorem live_countGood_other {j : Nat} (hgood : j ≠ 1) (hcast : j ≠ 2 + castOf da) (hsize : j ≠ sizeBucket len) :
    vget (portOf (countGood p da len s) p).live j 0 = vget (portOf s p).live j 0 := by
  rw [countGood, live_macCount_other hp _ 1 hsize, live_macCount_other hp _ 1 hcast, live_macCount_other hp _ 1 hgood]

theorem live_countGood_good :
    vget (portOf (countGood p da len s) p).live 1 0 = (vget (portOf s p).live 1 0 + 1) % 2 ^ 64 := by
  have hsize := sizeBucket_range len
  rw [countGood, live_macCount_other hp _ 1 (by omega), live_macCount_other hp _ 1 (by omega), live_macCount_same hp _ 1 (by decide)]

theorem live_countGood_cast : vget (portOf (countGood p da len s) p).live (2 + castOf da) 0 =
    (vget (portOf s p).live (2 + castOf da) 0 + 1) % 2 ^ 64 := by
  have hcast := castOf_le da
  have hsize := sizeBucket_range len
  rw [countGood, live_macCount_other hp _ 1 (by omega), live_macCount_same hp _ 1 (by omega), live_macCount_other hp _ 1 (by omega)]

theorem live_countGood_size : vget (portOf (countGood p da len s) p).live (sizeBucket len) 0 =
    (vget (portOf s p).live (sizeBucket len) 0 + 1) % 2 ^ 64 := by
  have hcast := castOf_le da
  have hsize := sizeBucket_range len
  rw [countGood, live_macCount_same hp _ 1 (by omega), live_macCount_other hp _ 1 (by omega), live_macCount_other hp _ 1 (by omega)]

theorem live_countSent_frames :
    vget (portOf (countSent p da len s) p).live 21 0 = (vget (portOf s p).live 21 0 + 1) % 2 ^ 64 := by
  rw [countSent, live_macCount_other hp _ 1 (by omega), live_macCount_same hp _ 1 (by decide),
    live_macCount_other hp _ len (by decide)]

theorem live_countSent_octets :
    vget (portOf (countSent p da len s) p).live 20 0 = (vget (portOf s p).live 20 0 + len) % 2 ^ 64 := by
  rw [countSent, live_macCount_other hp _ 1 (by omega), live_macCount_other hp _ 1 (by decide),
    live_macCount_same hp _ len (by decide)]

end

/-! ### A frame received (R244, R257) -/

/-- A port's transmitters as they see that a frame has ended. -/
def portEnded (fid : Nat) (bad : Bool) (q : Port) : Port :=
  let ended := fun (t : Option TxFrame) => t.map (fun (x : TxFrame) => { x with
    desc := if x.desc.fid = fid then endDesc bad x.desc else x.desc, corrupt := x.corrupt || (bad && x.desc.fid == fid) })
  { q with tx := { q.tx with express := ended q.tx.express, preempt := ended q.tx.preempt } }

theorem keepsBut_frameEnds (fid : Nat) (bad : Bool) (s : State) : keepsBut [.port, .q] s (frameEnds fid bad s) := by
  intro x hx
  cases x <;> first | rfl | exact ⟨rfl, rfl, rfl⟩ | simp at hx

theorem portOf_frameEnds (fid : Nat) (bad : Bool) (s : State) (p : Nat) :
    portOf (frameEnds fid bad s) p = portEnded fid bad (portOf s p) := vget_map (portEnded fid bad) s.port p {}

theorem ite_done {c : Prop} [Decidable c] (s t : State) :
    (if c then done s else done t) = .next (settle (if c then s else t)) := by
  split <;> rfl

/-- The end of a received frame reaches the frame where it is held, or waits for its decision. -/
def endNoted (p fid how : Nat) (s : State) : State :=
  if frameHeld fid s then frameEnds fid (how != 0) s
  else portMod p (fun q => { q with ended := ((fid, how) :: q.ended).take 32 }) s

theorem endNoted_frame {p : Nat} (hp : p < 192) (fid how : Nat) (s : State) :
    keepsBut [.port, .q] s (endNoted p fid how s) ∧ (portOf (endNoted p fid how s) p).st = (portOf s p).st ∧
      (portOf (endNoted p fid how s) p).snap = (portOf s p).snap ∧
      (portOf (endNoted p fid how s) p).live = (portOf s p).live := by
  unfold endNoted
  split
  · rw [portOf_frameEnds]
    exact ⟨keepsBut_frameEnds fid _ s, rfl, rfl, rfl⟩
  · rw [portOf_portMod_same hp]
    exact ⟨keepsBut_mono (keepsBut_portMod p _ s) (by simp), rfl, rfl, rfl⟩

/-- Octets and fragments of a received frame, then what its checks count. -/
def octetsCounted (p octets frags : Nat) (s : State) : State := macCount p 10 frags (macCount p 0 octets s)
def verdictCounted (p : Nat) (fin : RxEnd) (v : Option Nat) (s : State) : State :=
  match v with
  | some k => macCount p k 1 s
  | none => countGood p fin.da fin.len s

theorem counted_octetsCounted {p : Nat} (hp : p < 192) (octets frags : Nat) (s : State) :
    Counted p s (octetsCounted p octets frags s) := (counted_macCount hp s 0 octets).trans (counted_macCount hp _ 10 frags)

theorem counted_verdictCounted {p : Nat} (hp : p < 192) (fin : RxEnd) (v : Option Nat) (s : State) :
    Counted p s (verdictCounted p fin v s) := by
  cases v with
  | some k => exact counted_macCount hp s k 1
  | none => exact counted_countGood hp s fin.da fin.len

theorem live_octetsCounted_other {p : Nat} (hp : p < 192) (octets frags : Nat) (s : State) {j : Nat} (h0 : j ≠ 0) (h10 : j ≠ 10) :
    vget (portOf (octetsCounted p octets frags s) p).live j 0 = vget (portOf s p).live j 0 := by
  rw [octetsCounted, live_macCount_other hp _ frags h10, live_macCount_other hp _ octets h0]

theorem live_octetsCounted_octets {p : Nat} (hp : p < 192) (octets frags : Nat) (s : State) :
    vget (portOf (octetsCounted p octets frags s) p).live 0 0 = (vget (portOf s p).live 0 0 + octets) % 2 ^ 64 := by
  rw [octetsCounted, live_macCount_other hp _ frags (by decide), live_macCount_same hp _ octets (by decide)]

/-- The octets that a received frame counts: at most MAX_FRAME of one that is too long. -/
def octetsOf (s : State) (p : Nat) (fin : RxEnd) : Nat := if (rxVerdict s p fin).1 = some 7 then parN s 0x106 p else fin.len

/-- Every counter of a received frame moved. -/
def frameCounted (p : Nat) (fin : RxEnd) (s : State) : State :=
  verdictCounted p fin (rxVerdict s p fin).1 (octetsCounted p (octetsOf s p fin) fin.frags s)

section
variable {p : PortIx} {fid : Nat} {fin : RxEnd} {s : State}

theorem exec_frameReceive (hup : (portOf s p.val).st = .up) : exec (.frameReceive p fid fin) s =
    .next (settle (endNoted p.val fid (rxVerdict s p.val fin).2 (frameCounted p.val fin s))) := by
  show execFrameReceive p fid fin s = _
  rw [execFrameReceive, if_neg (by simp [hup])]
  exact ite_done _ _

theorem rxVerdict_short (hre : fin.reasmBad = false) (hlen : fin.len < 64) : rxVerdict s p.val fin = (some 6, 2) := by
  rw [rxVerdict, if_neg (by simp [hre]), if_pos hlen]

theorem rxVerdict_badFcs (hre : fin.reasmBad = false) (hmin : 64 ≤ fin.len) (hmax : fin.len ≤ parN s 0x106 p.val)
    (hpcs : fin.pcsBad = false) (hfcs : fin.fcsBad = true) : rxVerdict s p.val fin = (some 5, 1) := by
  rw [rxVerdict, if_neg (by simp [hre]), if_neg (by omega), if_neg (by omega), if_neg (by simp [hpcs]), if_pos hfcs]

theorem rxVerdict_good (hre : fin.reasmBad = false) (hmin : 64 ≤ fin.len) (hmax : fin.len ≤ parN s 0x106 p.val)
    (hpcs : fin.pcsBad = false) (hfcs : fin.fcsBad = false) : rxVerdict s p.val fin = (none, 0) := by
  rw [rxVerdict, if_neg (by simp [hre]), if_neg (by omega), if_neg (by omega), if_neg (by simp [hpcs]), if_neg (by simp [hfcs])]

/-- A frame that fails one check counts there, and not as good. -/
theorem live_frameCounted_failed {k how : Nat} (h : rxVerdict s p.val fin = (some k, how)) (hk : k < 32) (h0 : k ≠ 0) (h1 : k ≠ 1)
    (h10 : k ≠ 10) :
    vget (portOf (frameCounted p.val fin s) p.val).live k 0 = (vget (portOf s p.val).live k 0 + 1) % 2 ^ 64 ∧
      vget (portOf (frameCounted p.val fin s) p.val).live 1 0 = vget (portOf s p.val).live 1 0 := by
  rw [frameCounted, h]
  dsimp only [verdictCounted]
  rw [live_macCount_same p.isLt _ 1 hk, live_macCount_other p.isLt _ 1 h1.symm, live_octetsCounted_other p.isLt _ _ _ h0 h10,
    live_octetsCounted_other p.isLt _ _ _ (by decide) (by decide)]
  exact ⟨rfl, rfl⟩

/-- A good frame counts with its octets, its destination and its size. -/
theorem live_frameCounted_good (h : rxVerdict s p.val fin = (none, 0)) :
    vget (portOf (frameCounted p.val fin s) p.val).live 1 0 = (vget (portOf s p.val).live 1 0 + 1) % 2 ^ 64 ∧
      vget (portOf (frameCounted p.val fin s) p.val).live 0 0 = (vget (portOf s p.val).live 0 0 + fin.len) % 2 ^ 64 ∧
      vget (portOf (frameCounted p.val fin s) p.val).live (2 + castOf fin.da) 0 =
        (vget (portOf s p.val).live (2 + castOf fin.da) 0 + 1) % 2 ^ 64 ∧
      vget (portOf (frameCounted p.val fin s) p.val).live (sizeBucket fin.len) 0 =
        (vget (portOf s p.val).live (sizeBucket fin.len) 0 + 1) % 2 ^ 64 ∧
      vget (portOf (frameCounted p.val fin s) p.val).live 5 0 = vget (portOf s p.val).live 5 0 := by
  have hcast := castOf_le fin.da
  have hsize := sizeBucket_range fin.len
  have hoctets : octetsOf s p.val fin = fin.len := by rw [octetsOf, h, if_neg (by simp)]
  rw [frameCounted, h, hoctets]
  dsimp only [verdictCounted]
  rw [live_countGood_good p.isLt, live_countGood_cast p.isLt, live_countGood_size p.isLt,
    live_countGood_other p.isLt (j := 0) _ _ _ (by omega) (by omega) (by omega),
    live_countGood_other p.isLt (j := 5) _ _ _ (by omega) (by omega) (by omega), live_octetsCounted_octets p.isLt,
    live_octetsCounted_other p.isLt (j := 1) _ _ _ (by omega) (by omega),
    live_octetsCounted_other p.isLt (j := 5) _ _ _ (by omega) (by omega),
    live_octetsCounted_other p.isLt (j := 2 + castOf fin.da) _ _ _ (by omega) (by omega),
    live_octetsCounted_other p.isLt (j := sizeBucket fin.len) _ _ _ (by omega) (by omega)]
  exact ⟨rfl, rfl, rfl, rfl, rfl⟩

theorem frameReceive_counts (hup : (portOf s p.val).st = .up) (hre : fin.reasmBad = false) :
    ∃ t, exec (.frameReceive p fid fin) s = .next t ∧ keepsBut [.port, .q, .msi] s t ∧ (portOf t p.val).st = .up ∧
      (portOf t p.val).snap = (portOf s p.val).snap ∧
      (64 ≤ fin.len → fin.len ≤ parN s 0x106 p.val → fin.pcsBad = false → fin.fcsBad = false →
        vget (portOf t p.val).live 1 0 = (vget (portOf s p.val).live 1 0 + 1) % 2 ^ 64 ∧
        vget (portOf t p.val).live 0 0 = (vget (portOf s p.val).live 0 0 + fin.len) % 2 ^ 64 ∧
        vget (portOf t p.val).live (2 + castOf fin.da) 0 = (vget (portOf s p.val).live (2 + castOf fin.da) 0 + 1) % 2 ^ 64 ∧
        vget (portOf t p.val).live (sizeBucket fin.len) 0 = (vget (portOf s p.val).live (sizeBucket fin.len) 0 + 1) % 2 ^ 64 ∧
        vget (portOf t p.val).live 5 0 = vget (portOf s p.val).live 5 0) ∧
      (fin.len < 64 → vget (portOf t p.val).live 6 0 = (vget (portOf s p.val).live 6 0 + 1) % 2 ^ 64 ∧
        vget (portOf t p.val).live 1 0 = vget (portOf s p.val).live 1 0) ∧
      (64 ≤ fin.len → fin.len ≤ parN s 0x106 p.val → fin.pcsBad = false → fin.fcsBad = true →
        vget (portOf t p.val).live 5 0 = (vget (portOf s p.val).live 5 0 + 1) % 2 ^ 64 ∧
        vget (portOf t p.val).live 1 0 = vget (portOf s p.val).live 1 0) := by
  have hcounted : Counted p.val s (frameCounted p.val fin s) :=
    (counted_octetsCounted p.isLt _ _ s).trans (counted_verdictCounted p.isLt fin _ _)
  obtain ⟨hkeep, hst, hsnap, hlive⟩ := endNoted_frame p.isLt fid (rxVerdict s p.val fin).2 (frameCounted p.val fin s)
  refine ⟨_, exec_frameReceive hup, ?_, ?_, ?_, ?_, ?_, ?_⟩
  · exact keepsBut_done (keepsBut_then hcounted.moved.frame hkeep (by simp) (by simp)) (by simp)
  · rw [portOf_settle, hst, hcounted.port]
    exact hup
  · rw [portOf_settle, hsnap, hcounted.port]
  all_goals rw [portOf_settle, hlive]
  · exact fun hmin hmax hpcs hfcs => live_frameCounted_good (rxVerdict_good hre hmin hmax hpcs hfcs)
  · exact fun hlen => live_frameCounted_failed (rxVerdict_short hre hlen) (by decide) (by decide) (by decide) (by decide)
  · exact fun hmin hmax hpcs hfcs =>
      live_frameCounted_failed (rxVerdict_badFcs hre hmin hmax hpcs hfcs) (by decide) (by decide) (by decide) (by decide)

end

/-! ### A frame begun (R245 to R249, R296) -/

theorem outGrp_of_keepsBut {m : List Part} {s t : State} (h : keepsBut m s t) (hm : Part.q ∉ m) (g : Nat) :
    outGrp t g = outGrp s g := congrArg (fun q : Queues => vget q.out g {}) (h .q hm)

theorem outGrp_outMod_other {g k : Nat} (h : g ≠ k) (f : OutGroup → OutGroup) (s : State) :
    outGrp (outMod k f s) g = outGrp s g := vmodN_other s.q.out k g f {} h

/-- A frame leaves the reassembly buffer of the port's own group. -/
theorem takeEgress_frame (p : Nat) (e : EgFrame) (s : State) :
    keepsBut [.q] s (takeEgress p e s) ∧ ∀ g, g ≠ p / 8 → outGrp (takeEgress p e s) g = outGrp s g := by
  unfold takeEgress
  dsimp only
  split
  · exact ⟨keepsBut_outMod _ _ s, fun g hg => outGrp_outMod_other hg _ s⟩
  · exact ⟨keepsBut_egMod _ _ _ _ s, fun g hg => outGrp_outMod_other hg _ s⟩

/-- A frame whose departure could not be written is counted. -/
def residenceCounted (written : Bool) (s : State) : State := if written then s else bump 26 1 s

theorem keepsBut_residenceCounted (written : Bool) (s : State) : keepsBut [.pc] s (residenceCounted written s) := by
  cases written with
  | true => exact keepsBut_refl _ s
  | false => exact keepsBut_bump 26 1 s

/-- The frame in the transmitter, with its edited bytes. -/
def txFrameOf (s : State) (p : Nat) (b : List Byte) (tx : TxStamp) (t : Int) (e : EgFrame) : TxFrame :=
  let event := (eventAt b (if kindFab s p then 16 else 0)).isSome
  { desc := e.desc, bytes := b, corrupt := e.crcBad || e.desc.trunc, started := s.clk.elapsed
    ts := if event then some (compact t.toNat) else none
    lane := if event then some tx.lane else none }

/-- One-step correction holds the compensation of a port that does not share its clock. -/
def compensated (p : Nat) (f : TxFrame) (s : State) : State :=
  if f.desc.oneStep && f.lane.isSome && !(portOf s p).shared then
    portMod p (fun q => { q with tx := { q.tx with compHeld := true } }) s
  else s

/-- The frame enters its transmitter. -/
def transmitting (p : Nat) (express : Bool) (f : TxFrame) (s : State) : State :=
  if express then portMod p (fun q => { q with tx := { q.tx with express := some f } }) (cutPreempt p s)
  else portMod p (fun q => { q with tx := { q.tx with preempt := some f, cut := false, fragments := 0 } }) s

theorem beginFrame_eq {p : Nat} {tx : TxStamp} {e : EgFrame} {o : OutCopy} {s : State} (express : Bool)
    (ho : e.desc.outs.find? (fun x => x.port == p) = some o) (htrunc : e.desc.trunc = false) (hbad : e.desc.bad = false)
    (hfits : (egressBytes s p e.desc o (txStamp s p tx).floor).1.length + 4 ≤ parN s 0x106 p) :
    beginFrame p express tx e s =
      let b := egressBytes s p e.desc o (txStamp s p tx).floor
      let u := residenceCounted b.2 s
      let f := txFrameOf u p b.1 tx (txStamp s p tx).floor e
      transmitting p express f (compensated p f (takeEgress p e u)) := by
  rw [beginFrame, ho]
  dsimp only
  rw [if_neg (by simp [htrunc]; omega), if_neg (by simp [hbad])]
  rfl

theorem compensated_frame {p : Nat} (hp : p < 192) (f : TxFrame) (s : State) : PortMoved p s (compensated p f s) ∧
    (portOf (compensated p f s) p).tx.preempt = (portOf s p).tx.preempt := by
  unfold compensated
  split
  · rw [portOf_portMod_same hp]
    exact ⟨portMoved_portMod p _ s, rfl⟩
  · exact ⟨.refl p s, rfl⟩

theorem portMoved_cutPreempt (p : Nat) (s : State) : PortMoved p s (cutPreempt p s) := by
  unfold cutPreempt
  dsimp only
  split
  · exact portMoved_interrupt p true s
  · exact .refl p s

/-- A preemptable frame in progress stands interrupted. -/
theorem cutPreempt_cut {p : Nat} (hp : p < 192) {s : State} (h : (portOf s p).tx.preempt.isSome = true) :
    (portOf (cutPreempt p s) p).tx.cut = true := by
  unfold cutPreempt
  dsimp only
  rw [h, Bool.true_and]
  split
  case isTrue => rw [portOf_interrupt hp]
  case isFalse hcut => simpa using hcut

theorem transmitting_frame {p : Nat} (hp : p < 192) (express : Bool) (f : TxFrame) (s : State) :
    PortMoved p s (transmitting p express f s) ∧
      (if express then (portOf (transmitting p express f s) p).tx.express
        else (portOf (transmitting p express f s) p).tx.preempt) = some f ∧
      (express = true → (portOf s p).tx.preempt.isSome = true → (portOf (transmitting p express f s) p).tx.cut = true) := by
  cases express with
  | true =>
    refine ⟨(portMoved_cutPreempt p s).trans (portMoved_portMod p _ _), ?_, fun _ h => ?_⟩
    all_goals
      simp only [transmitting, if_true]
      rw [portOf_portMod_same hp]
    exact cutPreempt_cut hp h
  | false =>
    refine ⟨portMoved_portMod p _ s, ?_, nofun⟩
    simp only [transmitting, Bool.false_eq_true, if_false]
    rw [portOf_portMod_same hp]

theorem exec_egressFrameStart {p : PortIx} {express : Bool} {tx : TxStamp} {e : EgFrame} {s : State}
    (hmay : macMay s p.val express = true) (hnext : nextFrame s p.val express = some e) :
    exec (.egressFrameStart p express tx) s = .next (settle (beginFrame p.val express tx e s)) := by
  show execEgressFrameStart p express tx s = _
  rw [execEgressFrameStart, if_pos hmay, hnext]
  rfl

theorem egressFrameStart_begins {p : PortIx} {express : Bool} {tx : TxStamp} {e : EgFrame} {o : OutCopy} {s : State}
    (hmay : macMay s p.val express = true) (hnext : nextFrame s p.val express = some e)
    (ho : e.desc.outs.find? (fun x => x.port == p.val) = some o) (htrunc : e.desc.trunc = false) (hbad : e.desc.bad = false)
    (hfits : (egressBytes s p.val e.desc o (txStamp s p.val tx).floor).1.length + 4 ≤ parN s 0x106 p.val) :
    ∃ t, exec (.egressFrameStart p express tx) s = .next t ∧ keepsBut [.port, .q, .msi, .pc] s t ∧ otherPorts p.val s t ∧
      (∃ f : TxFrame, (if express then (portOf t p.val).tx.express else (portOf t p.val).tx.preempt) = some f ∧ f.desc = e.desc ∧
        f.bytes = (egressBytes s p.val e.desc o (txStamp s p.val tx).floor).1 ∧ f.corrupt = e.crcBad) ∧
      (express = true → (portOf s p.val).tx.preempt.isSome = true → (portOf t p.val).tx.cut = true) ∧
      ∀ g, g ≠ p.val / 8 → outGrp t g = outGrp s g := by
  refine ⟨_, exec_egressFrameStart hmay hnext, ?_⟩
  rw [beginFrame_eq express ho htrunc hbad hfits]
  generalize egressBytes s p.val e.desc o (txStamp s p.val tx).floor = b
  dsimp only
  have hcount := keepsBut_residenceCounted b.2 s
  generalize residenceCounted b.2 s = u at hcount
  have hf : (txFrameOf u p.val b.1 tx (txStamp s p.val tx).floor e).corrupt = e.crcBad := by
    rw [txFrameOf, htrunc, Bool.or_false]
  obtain ⟨htake, hgroups⟩ := takeEgress_frame p.val e u
  generalize takeEgress p.val e u = v at htake hgroups
  obtain ⟨hcomp, hpreempt⟩ := compensated_frame p.isLt (txFrameOf u p.val b.1 tx (txStamp s p.val tx).floor e) v
  generalize compensated p.val _ v = w at hcomp hpreempt
  obtain ⟨hsend, hframe, hcut⟩ := transmitting_frame p.isLt express (txFrameOf u p.val b.1 tx (txStamp s p.val tx).floor e) w
  have hport := hcomp.trans hsend
  have hstart : keepsBut [.q, .pc] s v := keepsBut_then hcount htake (by simp) (by simp)
  refine ⟨?_, ?_, ⟨_, hframe, rfl, rfl, hf⟩, fun hx hp => ?_, fun g hg => ?_⟩
  · exact keepsBut_done (keepsBut_then hstart hport.frame (by simp) (by simp)) (by simp)
  · exact otherPorts_settle (otherPorts_trans (otherPorts_of_keepsBut hstart (by simp) _) hport.others)
  · exact hcut hx (by rwa [hpreempt, portOf_of_keepsBut hstart (by simp)])
  · exact (outGrp_of_keepsBut hport.frame (by simp) g).trans ((hgroups g hg).trans (outGrp_of_keepsBut hcount (by simp) g))

/-! ### A frame sent (R249, R257) -/

/-- What stays of a port as its interrupted frame goes on and its holds take effect: transmitters and counters. -/
structure LineKept (p : Nat) (s t : State) : Prop where
  moved : PortMoved p s t
  express : (portOf t p).tx.express = (portOf s p).tx.express
  preempt : (portOf t p).tx.preempt = (portOf s p).tx.preempt
  live : (portOf t p).live = (portOf s p).live

theorem LineKept.refl (p : Nat) (s : State) : LineKept p s s := ⟨.refl p s, rfl, rfl, rfl⟩

theorem LineKept.trans {p : Nat} {s t u : State} (h : LineKept p s t) (k : LineKept p t u) : LineKept p s u :=
  ⟨h.moved.trans k.moved, k.express.trans h.express, k.preempt.trans h.preempt, k.live.trans h.live⟩

/-- The frame that left last, as its port keeps it. -/
def leftLast (f : TxFrame) (q : Port) : Port :=
  { q with tx := { q.tx with compHeld := false, last := some { f with bytes := withFcs f.bytes f.corrupt } } }

section
variable {p : Nat} (hp : p < 192) (s : State)
include hp

theorem lineKept_joinPause : LineKept p s (joinPause p s) := by
  refine ⟨portMoved_portMod p _ s, ?_, ?_, ?_⟩ <;> rw [joinPause, pauseMod, portOf_portMod_same hp]

theorem lineKept_resumeCut : LineKept p s (resumeCut p s) := by
  unfold resumeCut
  dsimp only
  split
  · refine ⟨portMoved_portMod p _ s, ?_, ?_, ?_⟩ <;> rw [portOf_portMod_same hp]
  · exact .refl p s

theorem tx_countSent (da len : Nat) : (portOf (countSent p da len s) p).tx = (portOf s p).tx := by
  rw [countSent, portOf_macCount hp, portOf_macCount hp, portOf_macCount hp]

/-- A whole frame of the network counts as sent. -/
theorem sentFrame_sent {f : TxFrame} (hhost : f.desc.hostTx = none) (htrunc : f.desc.trunc = false) (hcorrupt : f.corrupt = false) :
    PortMoved p s (sentFrame p f s) ∧ (portOf (sentFrame p f s) p).tx.express = (portOf s p).tx.express ∧
      (portOf (sentFrame p f s) p).tx.preempt = (portOf s p).tx.preempt ∧
      vget (portOf (sentFrame p f s) p).live 21 0 = (vget (portOf s p).live 21 0 + 1) % 2 ^ 64 ∧
      vget (portOf (sentFrame p f s) p).live 20 0 = (vget (portOf s p).live 20 0 + (f.bytes.length + 4)) % 2 ^ 64 := by
  have heq : sentFrame p f s = portMod p (leftLast f) (countSent p (fieldBe f.bytes 0 6) (f.bytes.length + 4) s) := by
    rw [sentFrame]
    dsimp only
    rw [if_neg (by simp [hhost]), if_neg (by simp [htrunc]), if_neg (by simp [hcorrupt])]
    rfl
  have hmoved := portMoved_countSent p (fieldBe f.bytes 0 6) (f.bytes.length + 4) s
  have htx := tx_countSent hp s (fieldBe f.bytes 0 6) (f.bytes.length + 4)
  rw [heq, portOf_portMod_same hp, ← live_countSent_frames hp, ← live_countSent_octets hp]
  exact ⟨hmoved.trans (portMoved_portMod p _ _), by rw [leftLast, htx], by rw [leftLast, htx], rfl, rfl⟩

end

/-- A transmitter is free. -/
def expressFree (p : Nat) (s : State) : State := portMod p (fun q => { q with tx := { q.tx with express := none } }) s
def preemptFree (p : Nat) (s : State) : State := portMod p (fun q => { q with tx := { q.tx with preempt := none } }) s

section
variable {p : PortIx} {f : TxFrame} {s : State}

theorem portOf_expressFree : portOf (expressFree p.val s) p.val =
    { portOf s p.val with tx := { (portOf s p.val).tx with express := none } } := portOf_portMod_same p.isLt _ s
theorem portOf_preemptFree : portOf (preemptFree p.val s) p.val =
    { portOf s p.val with tx := { (portOf s p.val).tx with preempt := none } } := portOf_portMod_same p.isLt _ s

theorem exec_egressFrameDone_express (htx : (portOf s p.val).tx.express = some f) (hcls : f.desc.cls ≠ 8) :
    exec (.egressFrameDone p true) s =
      .next (settle (joinPause p.val (resumeCut p.val (sentFrame p.val f (expressFree p.val s))))) := by
  show execEgressFrameDone p true s = _
  rw [execEgressFrameDone, if_pos rfl, htx]
  dsimp only
  rw [if_neg hcls]
  rfl

theorem exec_egressFrameDone_preempt (hfree : (portOf s p.val).tx.express = none) (htx : (portOf s p.val).tx.preempt = some f)
    (hcut : (portOf s p.val).tx.cut = false) :
    exec (.egressFrameDone p false) s = .next (settle (joinPause p.val (sentFrame p.val f (preemptFree p.val s)))) := by
  show execEgressFrameDone p false s = _
  rw [execEgressFrameDone, if_neg (by simp), htx]
  dsimp only
  rw [if_neg (by simp [hfree, hcut])]
  rfl

theorem egressFrameDone_express (htx : (portOf s p.val).tx.express = some f) (hcls : f.desc.cls ≠ 8)
    (hhost : f.desc.hostTx = none) (htrunc : f.desc.trunc = false) (hcorrupt : f.corrupt = false) :
    ∃ t, exec (.egressFrameDone p true) s = .next t ∧ keepsBut [.port, .msi] s t ∧ otherPorts p.val s t ∧
      (portOf t p.val).tx.express = none ∧ (portOf t p.val).tx.preempt = (portOf s p.val).tx.preempt ∧
      vget (portOf t p.val).live 21 0 = (vget (portOf s p.val).live 21 0 + 1) % 2 ^ 64 ∧
      vget (portOf t p.val).live 20 0 = (vget (portOf s p.val).live 20 0 + (f.bytes.length + 4)) % 2 ^ 64 := by
  have hfreed : PortMoved p.val s (expressFree p.val s) := portMoved_portMod p.val _ s
  obtain ⟨hmoved, hexpress, hpreempt, hframes, hoctets⟩ :=
    sentFrame_sent p.isLt (expressFree p.val s) hhost htrunc hcorrupt
  have hline := (lineKept_resumeCut p.isLt (sentFrame p.val f (expressFree p.val s))).trans (lineKept_joinPause p.isLt _)
  obtain ⟨hkeep, hothers⟩ := ((hfreed.trans hmoved).trans hline.moved).settled
  rw [portOf_expressFree] at hexpress hpreempt hframes hoctets
  refine ⟨_, exec_egressFrameDone_express htx hcls, hkeep, hothers, ?_⟩
  rw [portOf_settle, hline.express, hline.preempt, hline.live]
  exact ⟨hexpress, hpreempt, hframes, hoctets⟩

theorem egressFrameDone_preempt (hfree : (portOf s p.val).tx.express = none) (htx : (portOf s p.val).tx.preempt = some f)
    (hcut : (portOf s p.val).tx.cut = false) (hhost : f.desc.hostTx = none) (htrunc : f.desc.trunc = false)
    (hcorrupt : f.corrupt = false) :
    ∃ t, exec (.egressFrameDone p false) s = .next t ∧ keepsBut [.port, .msi] s t ∧ otherPorts p.val s t ∧
      (portOf t p.val).tx.preempt = none ∧ (portOf t p.val).tx.express = none ∧
      vget (portOf t p.val).live 21 0 = (vget (portOf s p.val).live 21 0 + 1) % 2 ^ 64 := by
  have hfreed : PortMoved p.val s (preemptFree p.val s) := portMoved_portMod p.val _ s
  obtain ⟨hmoved, hexpress, hpreempt, hframes, -⟩ := sentFrame_sent p.isLt (preemptFree p.val s) hhost htrunc hcorrupt
  have hline := lineKept_joinPause p.isLt (sentFrame p.val f (preemptFree p.val s))
  obtain ⟨hkeep, hothers⟩ := ((hfreed.trans hmoved).trans hline.moved).settled
  rw [portOf_preemptFree] at hexpress hpreempt hframes
  refine ⟨_, exec_egressFrameDone_preempt hfree htx hcut, hkeep, hothers, ?_⟩
  rw [portOf_settle, hline.express, hline.preempt, hline.live]
  exact ⟨hpreempt, hexpress.trans hfree, hframes⟩

end

/-! ### Snapshots of the statistics (R257) -/

/-- A port's counters copied and cleared. -/
def snapped (q : Port) : Port := { q with snap := q.live, live := Vector.replicate 32 0, snapSeq := (q.snapSeq + 1) % 65536 }

theorem portMoved_macSnap (p : Nat) (s : State) : PortMoved p s (macSnap p s) := portMoved_portMod p snapped s

theorem portOf_macSnap {p : Nat} (hp : p < 192) (s : State) : portOf (macSnap p s) p = snapped (portOf s p) :=
  portOf_portMod_same hp snapped s

theorem readData_macSnap (who : Initiator) (off p : Nat) (s : State) : readData who off (.mac p 1) s =
    packW [(1, 31), (((portOf s p).snapSeq + 1) % 65536, 0)] := rfl

theorem readEffect_macSnap (who : Initiator) (off p : Nat) (s : State) : readEffect who off (.mac p 1) s = macSnap p s := rfl

/-- A read of MAC_SNAP takes the snapshot and returns its number. -/
theorem macSnapRead_snaps {who : Initiator} {p : PortIx} {s : State} (hans : answers who s)
    (hd : domOn s (regOwner (.mac p.val 1)).1 = true) (hrst : ownerInReset s (.mac p.val 1) = false)
    (hr : regAt s (0x400004 + p.val / 8 * 0x10000 + p.val % 8 * 0x400) = .mac p.val 1) :
    ∃ t, exec (.macSnapRead who p) s = .next t ∧ keepsBut [.port, .host, .msi] s t ∧ otherPorts p.val s t ∧
      (portOf t p.val).snap = (portOf s p.val).live ∧ (portOf t p.val).live = Vector.replicate 32 0 ∧
      (portOf t p.val).snapSeq = ((portOf s p.val).snapSeq + 1) % 65536 ∧
      t.host.rdata[whoIx who] = packW [(1, 31), ((portOf t p.val).snapSeq, 0)] := by
  have hacc := regAccess_of_reaches none (reaches_of_regAt hans hr (by omega) (by simp) hrst hd)
  rw [hr, regPerform_read, readData_macSnap, readEffect_macSnap] at hacc
  have hstart := keepsBut_accessStart who s
  have hbefore := portOf_of_keepsBut hstart (by simp) p.val
  have hsnap := portMoved_macSnap p.val (accessStart who s)
  have hdata := keepsBut_putData who (packW [(1, 31), (((portOf (accessStart who s) p.val).snapSeq + 1) % 65536, 0)])
    (macSnap p.val (accessStart who s))
  have hport : portOf (settle (putData who (packW [(1, 31), (((portOf (accessStart who s) p.val).snapSeq + 1) % 65536, 0)])
      (macSnap p.val (accessStart who s)))) p.val = snapped (portOf s p.val) := by
    rw [portOf_settle, portOf_of_keepsBut hdata (by simp), portOf_macSnap p.isLt, hbefore]
  refine ⟨_, done_of_eq hacc, ?_, ?_, congrArg Port.snap hport, congrArg Port.live hport, congrArg Port.snapSeq hport, ?_⟩
  · have hread := keepsBut_then (n := [.port, .host, .msi]) hstart hsnap.frame (by simp) (by simp)
    exact keepsBut_done (keepsBut_then hread hdata (fun _ q => q) (by simp)) (by simp)
  · exact otherPorts_settle (otherPorts_trans (otherPorts_of_keepsBut hstart (by simp) _)
      (otherPorts_trans hsnap.others (otherPorts_of_keepsBut hdata (by simp) _)))
  · rw [hport, hbefore, settle_rdata]
    exact putData_rdata _ _ _

/-- The ports whose counters a write of PG_STAT_SNAP copies, by their place in the group. -/
def snapPorts (s : State) (g : Nat) (v : Word) : List Nat :=
  (List.range 8).filter (fun n => v.getLsbD n && portUsed s (8 * g + n))

theorem mem_snapPorts {s : State} {g n : Nat} {v : Word} :
    n ∈ snapPorts s g v ↔ n < 8 ∧ v.getLsbD n = true ∧ portUsed s (8 * g + n) = true := by
  simp [snapPorts]

/-- The snapshots of a group's ports. -/
def snapAll (g : Nat) (ls : List Nat) (s : State) : State := forEach ls (fun n s => macSnap (8 * g + n) s) s

theorem keepsBut_snapAll (g : Nat) (ls : List Nat) (s : State) : keepsBut [.port] s (snapAll g ls s) :=
  keepsBut_forEach (fun n s => (portMoved_macSnap (8 * g + n) s).frame) ls s

theorem portOf_snapAll_not_mem {g p : Nat} {ls : List Nat} (h : ∀ n ∈ ls, 8 * g + n ≠ p) (s : State) :
    portOf (snapAll g ls s) p = portOf s p := by
  induction ls generalizing s with
  | nil => rfl
  | cons n ls ih =>
    rw [List.forall_mem_cons] at h
    exact (ih h.2 (macSnap (8 * g + n) s)).trans ((portMoved_macSnap (8 * g + n) s).others p (Ne.symm h.1))

theorem portOf_snapAll_mem {g p n : Nat} {ls : List Nat} (hp : p < 192) (hn : 8 * g + n = p) (hmem : n ∈ ls) (hnodup : ls.Nodup)
    (s : State) : portOf (snapAll g ls s) p = snapped (portOf s p) := by
  induction ls generalizing s with
  | nil => simp at hmem
  | cons k ls ih =>
    rw [List.nodup_cons] at hnodup
    show portOf (snapAll g ls (macSnap (8 * g + k) s)) p = _
    rcases List.mem_cons.mp hmem with rfl | hmem
    · rw [portOf_snapAll_not_mem fun j hj e => hnodup.1 (by rwa [show n = j by omega]), hn, portOf_macSnap hp]
    · have hk : k ≠ n := fun e => hnodup.1 (e ▸ hmem)
      exact (ih hmem hnodup.2 _).trans (congrArg snapped ((portMoved_macSnap (8 * g + k) s).others p (by omega)))

theorem regAt_pgSnap (s : State) (g : GroupIx) : regAt s (0x40A004 + g.val * 0x10000) = .pgSnap g.val := by
  have hg := g.isLt
  have hgroup : (0x40A004 + g.val * 0x10000 - 0x400000) / 0x10000 = g.val := by omega
  have hoff : (0x40A004 + g.val * 0x10000) % 0x10000 = 0xA004 := by omega
  unfold regAt
  iterate 10 rw [if_neg (by omega)]
  rw [if_pos (by omega), hgroup, hoff]
  rfl

theorem writeEffect_pgSnap (who : Initiator) (off g : Nat) (v : Word) (s : State) :
    writeEffect who off (.pgSnap g) v s = snapAll g (snapPorts s g v) s := rfl

/-- A write of PG_STAT_SNAP snapshots the used ports of its mask, and no other. -/
theorem pgStatSnapWrite_snaps {g : GroupIx} (v : Word) {s : State} (hans : answers .host s)
    (hd : domOn s (regOwner (.pgSnap g.val)).1 = true) (hrst : ownerInReset s (.pgSnap g.val) = false) :
    ∃ t, exec (.pgStatSnapWrite g v) s = .next t ∧ keepsBut [.port, .msi] s t ∧
      ∀ p, p < 192 →
        (p / 8 = g.val ∧ v.getLsbD (p % 8) = true ∧ portUsed s p = true →
          (portOf t p).snap = (portOf s p).live ∧ (portOf t p).live = Vector.replicate 32 0) ∧
        (¬(p / 8 = g.val ∧ v.getLsbD (p % 8) = true ∧ portUsed s p = true) → portOf t p = portOf s p) := by
  have hr := regAt_pgSnap s g
  have hacc : regAccess .host (0x40A004 + g.val * 0x10000) (some v) s = snapAll g.val (snapPorts s g.val v) s := by
    rw [regAccess_of_reaches _ (reaches_of_regAt hans hr (by omega) (by simp) hrst hd), hr, regPerform_write, accessStart_host,
      writeEffect_pgSnap]
    rfl
  refine ⟨_, done_of_eq hacc, keepsBut_done (keepsBut_mono (keepsBut_snapAll _ _ s) (by simp)) (by simp), fun p hp => ⟨?_, ?_⟩⟩
  · rintro ⟨hgroup, hbit, hused⟩
    have hn : 8 * g.val + p % 8 = p := by omega
    have hmem : p % 8 ∈ snapPorts s g.val v := mem_snapPorts.mpr ⟨by omega, hbit, by rwa [hn]⟩
    rw [portOf_settle, portOf_snapAll_mem hp hn hmem (List.nodup_range.filter _)]
    exact ⟨rfl, rfl⟩
  · intro hnot
    rw [portOf_settle]
    refine portOf_snapAll_not_mem (fun n hn e => hnot ?_) s
    obtain ⟨hlt, hbit, hused⟩ := mem_snapPorts.mp hn
    exact ⟨by omega, by rwa [show p % 8 = n by omega], e ▸ hused⟩

/-- Settles O28: low-power idle, frames received, begun and sent, and the snapshots. -/
theorem framesAtPorts : Obligations.FramesAtPorts := by
  unfold Obligations.FramesAtPorts
  exact ⟨fun p on s => lowPowerIdle_followed, fun p fid fin s => frameReceive_counts,
    ⟨fun p express tx e o s => egressFrameStart_begins,
      fun p f s => egressFrameDone_express, fun p f s => egressFrameDone_preempt⟩,
    fun who p s => macSnapRead_snaps, fun g v s => pgStatSnapWrite_snaps v⟩

end Sys2Proof.Machine

/-! Lane timing (R65 to R93, R384): what an operation on lanes, ports and groups keeps of them, the weights of fusion, and the
group servo. -/

namespace Sys2Proof.Machine

-- The joined text is one compile: no thread beside the main one for each proof.
set_option Elab.async false

/-! ### What an update keeps -/

/-- What an update of a place keeps of it, it keeps of every place. -/
theorem vget_vmodN_kept {α β : Type} {n : Nat} (v : Vector α n) (i j : Nat) (d : α) {f : α → α} (P : α → β)
    (h : ∀ x, P (f x) = P x) : P (vget (vmodN v i f) j d) = P (vget v j d) := by
  by_cases hj : j = i
  · subst hj
    by_cases hn : j < n
    · rw [vmodN_same v j f d hn, h]
    · rw [vmodN_out v j f (Nat.not_lt.mp hn)]
  · rw [vmodN_other v i j f d hj]

theorem laneOf_laneMod_other {k l : Nat} (h : l ≠ k) (f : Lane → Lane) (s : State) : laneOf (laneMod k f s) l = laneOf s l :=
  otherLanes_laneMod k f s l h

theorem portOf_portMod_kept {β : Type} (P : Port → β) {f : Port → Port} (h : ∀ x, P (f x) = P x) (q p : Nat) (s : State) :
    P (portOf (portMod q f s) p) = P (portOf s p) := vget_vmodN_kept s.port q p {} P h

theorem groupOf_groupMod_kept {β : Type} (P : Group → β) {f : Group → Group} (h : ∀ x, P (f x) = P x) (k g : Nat) (s : State) :
    P (groupOf (groupMod k f s) g) = P (groupOf s g) := vget_vmodN_kept s.group k g {} P h

/-- A predicate that an update of a lane preserves holds of every lane that had it. -/
theorem laneOf_laneMod_preserved {P : Lane → Prop} {f : Lane → Lane} (h : ∀ x, P x → P (f x)) {k l : Nat} {s : State}
    (hP : P (laneOf s l)) : P (laneOf (laneMod k f s) l) := by
  by_cases hl : l = k
  · subst hl
    by_cases hn : l < 192
    · rw [laneOf_laneMod_same hn]
      exact h _ hP
    · rwa [laneMod, vmodN_out s.lane l f (Nat.not_lt.mp hn)]
  · rwa [laneOf_laneMod_other hl]

theorem groupOf_of_keepsBut {m : List Part} {s t : State} (h : keepsBut m s t) (hm : Part.group ∉ m) (g : Nat) :
    groupOf t g = groupOf s g := congrArg (fun v : Vector Group 24 => vget v g {}) (h .group hm)

theorem otherGroups_trans {g : Nat} {s t u : State} (h : otherGroups g s t) (k : otherGroups g t u) : otherGroups g s u :=
  fun j hj => (k j hj).trans (h j hj)

theorem otherGroups_groupMod (g : Nat) (f : Group → Group) (s : State) : otherGroups g s (groupMod g f s) :=
  fun j hj => vmodN_other s.group g j f {} hj

theorem otherGroups_of_keepsBut {m : List Part} {s t : State} (h : keepsBut m s t) (hm : Part.group ∉ m) (g : Nat) :
    otherGroups g s t := fun j _ => groupOf_of_keepsBut h hm j

theorem otherGroups_settle {g : Nat} {s t : State} (h : otherGroups g s t) : otherGroups g s (settle t) := h

@[simp] theorem groupOf_settle (s : State) (g : Nat) : groupOf (settle s) g = groupOf s g := rfl

/-! ### What a group's timing port rests on (R76) -/

theorem modeOf_eq (s : State) (g : Nat) : modeOf s g = (groupOf s g).mode := by
  unfold modeOf groupOf vget
  split
  · rfl
  · rfl

theorem kindFab_eq (s : State) (p : Nat) : kindFab s p = ((Tbl.get s.par (pKey 0x102 p 0)).getD 0 == 1) := rfl

theorem portUsed_of_mode {s t : State} {p : Nat} (h : modeOf t (p / 8) = modeOf s (p / 8)) : portUsed t p = portUsed s p := by
  unfold portUsed
  rw [h]

theorem laneCount_of_mode {s t : State} {p : Nat} (h : modeOf t (p / 8) = modeOf s (p / 8)) : laneCount t p = laneCount s p := by
  unfold laneCount
  rw [h]

theorem lanesOf_of_mode {s t : State} {p : Nat} (h : modeOf t (p / 8) = modeOf s (p / 8)) : lanesOf t p = lanesOf s p := by
  unfold lanesOf
  rw [laneCount_of_mode h]

/-- The lane that TIMING_PORT names. -/
def timingLane (s : State) (g : Nat) : Nat := ((Tbl.get s.par (pKey 0x11B (0x200 + g) 0)).getD 255).toNat

theorem timingPort_eq (s : State) (g : Nat) : timingPort s g =
    if timingLane s g < 8 ∧ portUsed s (8 * g + timingLane s g) ∧ kindFab s (8 * g + timingLane s g) then
      some (8 * g + timingLane s g) else none := rfl

/-- The timing port follows the parameters and the group's mode alone. -/
theorem timingPort_of_mode {s t : State} {g : Nat} (hpar : t.par = s.par) (hmode : modeOf t g = modeOf s g) :
    timingPort t g = timingPort s g := by
  rw [timingPort_eq, timingPort_eq, show timingLane t g = timingLane s g by unfold timingLane; rw [hpar]]
  by_cases hc : timingLane s g < 8
  · have hg : (8 * g + timingLane s g) / 8 = g := by omega
    rw [portUsed_of_mode (t := t) (s := s) (by rw [hg, hmode]), kindFab_eq, kindFab_eq, hpar]
  · rw [if_neg (by simp [hc]), if_neg (by simp [hc])]

theorem timingPort_of_keepsBut {m : List Part} {s t : State} {g : Nat} (h : keepsBut m s t) (hm : Part.par ∉ m)
    (hmode : (groupOf t g).mode = (groupOf s g).mode) : timingPort t g = timingPort s g :=
  timingPort_of_mode (h .par hm) (by rw [modeOf_eq, modeOf_eq, hmode])

/-- The timing port lies in its group. -/
theorem timingPort_group {s : State} {g p : Nat} (h : timingPort s g = some p) : p / 8 = g := by
  rw [timingPort_eq] at h
  obtain ⟨⟨hc, -⟩, heq⟩ := Option.ite_none_right_eq_some.mp h
  rw [Option.some.injEq] at heq
  omega

/-! ### Weights of fusion (R72) -/

theorem sumQ_eq (l : List Rat) : sumQ l = l.sum := by
  rw [sumQ, List.sum_eq_foldl]

theorem sum_map_div (l : List FuseIn) (w : FuseIn → Rat) (c : Rat) : (l.map (fun i => w i / c)).sum = (l.map w).sum / c := by
  simp only [div_eq_mul_inv, List.sum_map_mul_right]

/-- The lanes whose weight rises, and those at their full weight (R74). -/
def rising (f : List FuseIn) : List FuseIn := f.filter (fun j => decide (j.r < 1))
def risen (f : List FuseIn) : List FuseIn := f.filter (fun j => decide (1 ≤ j.r))

theorem sum_rising_add_risen (f : List FuseIn) (w : FuseIn → Rat) : ((rising f).map w).sum + ((risen f).map w).sum = (f.map w).sum := by
  have h := List.sum_map_filter_add_sum_map_filter_not (fun j : FuseIn => j.r < 1) w f
  simpa only [rising, risen, not_lt] using h

/-- What the rising lanes hold, and the computed weight of the others. -/
def risingShare (f : List FuseIn) : Rat := ((rising f).map (fun j => j.r * weightOf f j)).sum
def risenShare (f : List FuseIn) : Rat := ((risen f).map (weightOf f)).sum

theorem fuseWeight_eq (f : List FuseIn) (i : FuseIn) : fuseWeight f i =
    if risenShare f = 0 then (if risingShare f = 0 then weightOf f i else i.r * weightOf f i / risingShare f)
    else if i.r < 1 then i.r * weightOf f i
    else weightOf f i / risenShare f * (1 - risingShare f) := by
  unfold fuseWeight
  extract_lets rising up full
  rw [show full = risenShare f from sumQ_eq _, show up = risingShare f from sumQ_eq _]

section
variable {f : List FuseIn} (hv : ∀ i ∈ f, 0 < i.v)
include hv

theorem sum_inverse_pos (hf : f ≠ []) : 0 < (f.map (fun j => 1 / j.v)).sum :=
  List.sum_pos _ (by simpa using hv) (by simpa using hf)

theorem weightOf_pos {i : FuseIn} (hi : i ∈ f) : 0 < weightOf f i := by
  rw [weightOf, sumQ_eq]
  exact div_pos (one_div_pos.mpr (hv i hi)) (sum_inverse_pos hv (List.ne_nil_of_mem hi))

/-- Where the full weights add up to nothing, every lane rises. -/
theorem risen_eq_nil (h : risenShare f = 0) : risen f = [] := by
  by_contra hne
  refine (List.sum_pos ((risen f).map (weightOf f)) ?_ (by simpa using hne)).ne' h
  simp only [List.mem_map, forall_exists_index, and_imp]
  rintro _ i hi rfl
  exact weightOf_pos hv (List.mem_of_mem_filter hi)

variable (hf : f ≠ [])
include hf

theorem sum_weightOf : (f.map (weightOf f)).sum = 1 := by
  have h : weightOf f = fun i => 1 / i.v / (f.map (fun j => 1 / j.v)).sum := by
    funext i
    rw [weightOf, sumQ_eq]
  rw [h, sum_map_div, div_self (sum_inverse_pos hv hf).ne']

/-- The weights in use add up to one: the rising lanes have their share, and the others share the rest. -/
theorem sum_fuseWeight : (f.map (fuseWeight f)).sum = 1 := by
  by_cases hfull : risenShare f = 0
  · have hall : (f.map (fun j => j.r * weightOf f j)).sum = risingShare f := by
      rw [← sum_rising_add_risen, risen_eq_nil hv hfull]
      simp [risingShare]
    by_cases hup : risingShare f = 0
    · rw [← sum_weightOf hv hf]
      congr 1
      exact List.map_congr_left fun i _ => by rw [fuseWeight_eq, if_pos hfull, if_pos hup]
    · have hw : fuseWeight f = fun i => i.r * weightOf f i / risingShare f := by
        funext i
        rw [fuseWeight_eq, if_pos hfull, if_neg hup]
      rw [hw, sum_map_div, hall, div_self hup]
  · have hrising : (rising f).map (fuseWeight f) = (rising f).map (fun j => j.r * weightOf f j) :=
      List.map_congr_left fun i hi => by
        rw [fuseWeight_eq, if_neg hfull, if_pos (of_decide_eq_true (List.mem_filter.mp hi).2)]
    have hrisen : (risen f).map (fuseWeight f) = (risen f).map (fun j => weightOf f j / risenShare f * (1 - risingShare f)) :=
      List.map_congr_left fun i hi => by
        rw [fuseWeight_eq, if_neg hfull, if_neg (not_lt.mpr (of_decide_eq_true (List.mem_filter.mp hi).2))]
    rw [← sum_rising_add_risen, hrising, hrisen, List.sum_map_mul_right, sum_map_div]
    change risingShare f + risenShare f / risenShare f * (1 - risingShare f) = 1
    rw [div_self hfull]
    ring

end

/-- One lane alone is the fused value. -/
theorem fuse_singleton {i : FuseIn} (hv : 0 < i.v) : fuse [i] = i.x := by
  have hone : fuseWeight [i] i = 1 := by
    have h := sum_fuseWeight (f := [i]) (by simpa using hv) (by simp)
    simpa using h
  rw [fuse, sumQ_eq]
  simp [hone]

end Sys2Proof.Machine

/-! The group servo (R65 to R79, R90, R384): what its operations move, and the statement about it. -/

namespace Sys2Proof.Machine

-- The joined text is one compile: no thread beside the main one for each proof.
set_option Elab.async false

/-! ### The servo's work on its group -/

/-- What the servo's operations leave of its group. -/
def servoKept (x : Group) : Int × Nat × Nat × Bool := (x.temp, x.mode, x.servo.seq, x.servo.valid)

/-- Work of a group's servo: the group's lanes with their converters, and the group. -/
structure ServoWork (g : Nat) (s t : State) : Prop where
  frame : keepsBut [.lane, .group, .cal] s t
  groups : otherGroups g s t
  lanes : ∀ l, l / 8 ≠ g → laneOf t l = laneOf s l
  kept : servoKept (groupOf t g) = servoKept (groupOf s g)

namespace ServoWork

variable {g : Nat}

theorem refl (g : Nat) (s : State) : ServoWork g s s := ⟨keepsBut_refl _ s, fun _ _ => rfl, fun _ _ => rfl, rfl⟩

theorem trans {s t u : State} (h : ServoWork g s t) (k : ServoWork g t u) : ServoWork g s u :=
  ⟨keepsBut_trans h.frame k.frame, otherGroups_trans h.groups k.groups, fun l hl => (k.lanes l hl).trans (h.lanes l hl),
    k.kept.trans h.kept⟩

theorem mode {s t : State} (h : ServoWork g s t) : (groupOf t g).mode = (groupOf s g).mode :=
  congrArg (fun q : Int × Nat × Nat × Bool => q.2.1) h.kept

theorem of_laneMod {l : Nat} (hl : l / 8 = g) (f : Lane → Lane) (s : State) : ServoWork g s (laneMod l f s) :=
  ⟨keepsBut_mono (keepsBut_laneMod l f s) (by simp), fun _ _ => rfl,
    fun k hk => laneOf_laneMod_other (fun e => hk (by rw [e, hl])) f s, rfl⟩

theorem of_phMod {l : Nat} (hl : l / 8 = g) (f : LanePh → LanePh) (s : State) : ServoWork g s (phMod l f s) := of_laneMod hl _ s

theorem of_convMod (c : Nat) (f : Conv → Conv) (s : State) : ServoWork g s (convMod c f s) :=
  ⟨keepsBut_mono (keepsBut_convMod c f s) (by simp), fun _ _ => rfl, fun _ _ => rfl, rfl⟩

theorem of_groupMod {f : Group → Group} (hf : ∀ x, servoKept (f x) = servoKept x) (s : State) :
    ServoWork g s (groupMod g f s) :=
  ⟨keepsBut_mono (keepsBut_groupMod g f s) (by simp), otherGroups_groupMod g f s, fun _ _ => rfl,
    groupOf_groupMod_kept servoKept hf g g s⟩

theorem of_servoMod {f : GroupServo → GroupServo} (s : State)
    (hf : ∀ v, (f v).seq = v.seq ∧ (f v).valid = v.valid := by exact fun _ => ⟨rfl, rfl⟩) : ServoWork g s (servoMod g f s) :=
  of_groupMod (fun x => by rw [servoKept, servoKept, (hf x.servo).1, (hf x.servo).2]) s

theorem of_excludeLane {l : Nat} (hl : l / 8 = g) (why : Nat) (s : State) : ServoWork g s (excludeLane l why s) :=
  (of_laneMod hl _ s).trans (of_convMod _ _ _)

theorem of_foldl {α : Type} {f : State → α → State} {xs : List α} (h : ∀ x ∈ xs, ∀ t, ServoWork g t (f t x)) (s : State) :
    ServoWork g s (xs.foldl f s) := by
  induction xs generalizing s with
  | nil => exact refl g s
  | cons x xs ih => exact (h x List.mem_cons_self s).trans (ih (fun y hy => h y (List.mem_cons_of_mem x hy)) _)

/-- Work on each of the group's eight lanes. -/
theorem of_eightLanes {f : Nat → State → State} (h : ∀ l, l / 8 = g → ∀ t, ServoWork g t (f l t)) (s : State) :
    ServoWork g s (forEach ((List.range 8).map (8 * g + ·)) f s) :=
  of_foldl (fun l hl t => h l (by
    obtain ⟨k, hk, rfl⟩ := List.mem_map.mp hl
    rw [List.mem_range] at hk
    omega) t) s

theorem of_eight {f : Nat → State → State} (h : ∀ n, (8 * g + n) / 8 = g → ∀ t, ServoWork g t (f n t)) (s : State) :
    ServoWork g s ((List.range 8).foldl (fun s n => f n s) s) :=
  of_foldl (fun n hn t => h n (by rw [List.mem_range] at hn; omega) t) s

end ServoWork

/-! ### IDLE, and the advance from it (R76) -/

/-- A lane out of fusion. -/
def excluded (why : Nat) (x : Lane) : Lane := { x with
  ph := { x.ph with excl := why, weight := 0, meas := none, ramp := 0, outlier := 0 }
  lat := { x.lat with blend := 64 }, ld := { x.ld with blend := 64 } }

/-- What leaving fusion preserves of lanes, an excluded lane keeps. -/
theorem laneOf_excludeLane_preserved {P : Lane → Prop} (h : ∀ why x, P x → P (excluded why x)) (k why : Nat) {l : Nat} {s : State}
    (hP : P (laneOf s l)) : P (laneOf (excludeLane k why s) l) :=
  show P (laneOf (laneMod k (excluded why) s) l) from laneOf_laneMod_preserved (h why) hP

theorem laneOf_forEach_preserved {P : Lane → Prop} {l : Nat} {f : Nat → State → State}
    (h : ∀ k t, P (laneOf t l) → P (laneOf (f k t) l)) (ls : List Nat) {s : State} (hP : P (laneOf s l)) :
    P (laneOf (forEach ls f s) l) := by
  induction ls generalizing s with
  | nil => exact hP
  | cons k ls ih => exact ih (h k s hP)

/-- The servo in IDLE. -/
def idled (v : GroupServo) : GroupServo := { v with
  st := 0, hist := [], tracked := 0, sub := 0, measN := 0, measSum := 0, reported := none, remeasured := false }

theorem servoIdle_eq (g : Nat) (s : State) : servoIdle g s = servoMod g idled
    (forEach ((List.range 8).map (8 * g + ·)) (fun l s => if (laneOf s l).ph.excl = 0 then excludeLane l 2 s else s) s) := rfl

theorem servoWork_servoIdle (g : Nat) (s : State) : ServoWork g s (servoIdle g s) := by
  rw [servoIdle_eq]
  refine (ServoWork.of_eightLanes (fun l hl t => ?_) s).trans (.of_servoMod _)
  split
  · exact .of_excludeLane hl 2 t
  · exact .refl g t

theorem servoIdle_servo {g : Nat} (hg : g < 24) (s : State) : (groupOf (servoIdle g s) g).servo.st = 0 :=
  congrArg (fun x : Group => x.servo.st) (groupOf_groupMod_same hg _ _)

theorem laneOf_servoIdle_preserved {P : Lane → Prop} (h : ∀ why x, P x → P (excluded why x)) (g : Nat) {l : Nat} {s : State}
    (hP : P (laneOf s l)) : P (laneOf (servoIdle g s) l) := by
  rw [servoIdle_eq]
  refine laneOf_forEach_preserved (fun k t ht => ?_) _ hP
  split
  · exact laneOf_excludeLane_preserved h k 2 ht
  · exact ht

/-- IDLE ends with the timing port up. -/
def wakesServo (g p : Nat) (s : State) : State :=
  if (groupOf s g).servo.st = 0 && (portOf s p).st == .up then servoMod g (fun v => { v with st := 1 }) s else s

theorem servoAdvance_some {g p : Nat} {s : State} (hp : timingPort s g = some p) : servoAdvance g s =
    if (groupOf (wakesServo g p s) g).servo.st = 1 && s.boot.factoryLoaded && decide (1 ≤ (portOf s p).ld.dstate) then
      servoMod g (fun v => { v with st := 2 }) (wakesServo g p s)
    else wakesServo g p s := by
  have hport : portOf (wakesServo g p s) p = portOf s p ∧ (wakesServo g p s).boot = s.boot := by
    unfold wakesServo
    split
    · exact ⟨rfl, rfl⟩
    · exact ⟨rfl, rfl⟩
  unfold servoAdvance
  rw [hp, ← hport.1, ← hport.2]
  rfl

theorem servoAdvance_none {g : Nat} {s : State} (hp : timingPort s g = none) :
    servoAdvance g s = if (groupOf s g).servo.st = 0 then s else servoIdle g s := by
  unfold servoAdvance
  rw [hp]

theorem servoWork_servoAdvance (g : Nat) (s : State) : ServoWork g s (servoAdvance g s) := by
  cases hp : timingPort s g with
  | none =>
    rw [servoAdvance_none hp]
    split
    · exact .refl g s
    · exact servoWork_servoIdle g s
  | some p =>
    have hw : ServoWork g s (wakesServo g p s) := by
      unfold wakesServo
      split
      · exact .of_servoMod s
      · exact .refl g s
    rw [servoAdvance_some hp]
    split
    · exact hw.trans (.of_servoMod _)
    · exact hw

theorem laneOf_servoAdvance_preserved {P : Lane → Prop} (h : ∀ why x, P x → P (excluded why x)) (g : Nat) {l : Nat} {s : State}
    (hP : P (laneOf s l)) : P (laneOf (servoAdvance g s) l) := by
  cases hp : timingPort s g with
  | none =>
    rw [servoAdvance_none hp]
    split
    · exact hP
    · exact laneOf_servoIdle_preserved h g hP
  | some p =>
    have hw : laneOf (wakesServo g p s) l = laneOf s l := by
      unfold wakesServo
      split
      · rfl
      · rfl
    rw [servoAdvance_some hp]
    split
    · exact show P (laneOf (wakesServo g p s) l) from hw ▸ hP
    · exact hw ▸ hP

/-- Without a timing port the servo is IDLE. -/
theorem servoAdvance_none_st {g : Nat} (hg : g < 24) {s : State} (hp : timingPort s g = none) :
    (groupOf (servoAdvance g s) g).servo.st = 0 := by
  rw [servoAdvance_none hp]
  split
  · assumption
  · exact servoIdle_servo hg s

/-- Without a delay the servo waits in WAIT_CAL once the timing port is up. -/
theorem servoAdvance_idle_st {g p : Nat} (hg : g < 24) {s : State} (hp : timingPort s g = some p)
    (hst : (groupOf s g).servo.st = 0) (hdelay : (portOf s p).ld.dstate = 0) :
    (groupOf (servoAdvance g s) g).servo.st = if (portOf s p).st = .up then 1 else 0 := by
  rw [servoAdvance_some hp, if_neg (by simp [hdelay]), wakesServo, hst]
  by_cases hup : (portOf s p).st = .up
  · rw [if_pos (by simp [hup]), if_pos hup]
    exact congrArg (fun x : Group => x.servo.st) (groupOf_groupMod_same hg _ s)
  · rw [if_neg (by simp [hup]), if_neg hup, hst]

/-! ### A servo cycle (R72 to R79) -/

section
variable {g : Nat}

theorem servoWork_ingest {l : Nat} (hl : l / 8 = g) (xs : List Sample) (s : State) : ServoWork g s (ingest l xs s) := by
  unfold ingest
  split
  · exact .of_laneMod hl _ s
  · exact .refl g s

theorem servoWork_blendLane {l : Nat} (hl : l / 8 = g) (s : State) : ServoWork g s (blendLane l s) :=
  (ServoWork.of_laneMod hl _ s).trans (.of_convMod _ _ _)

theorem servoWork_noLane (s : State) : ServoWork g s (noLane g s) := by
  unfold noLane
  split
  · exact .refl g s
  · refine (ServoWork.of_servoMod s).trans (.of_eightLanes (fun l hl t => ?_) _)
    exact .of_phMod hl _ t

theorem servoWork_servoTake (fused var : Rat) (s : State) : ServoWork g s (servoTake g fused var s) := by
  unfold servoTake
  extract_lets th v put
  split
  · split
    · exact .of_servoMod s
    · split
      · exact .of_servoMod s
      · exact .of_servoMod s
  · split
    · refine (ServoWork.of_servoMod s).trans (.of_eight (f := fun n t => phMod (8 * g + n) _ t) (fun n hn t => ?_) _)
      exact .of_phMod hn _ t
    · exact .of_servoMod s

section
variable {f : List FuseIn} (hf : ∀ i ∈ f, i.l / 8 = g)
include hf

theorem servoWork_excludeOne (s : State) : ServoWork g s (excludeOne g f s) := by
  unfold excludeOne
  extract_lets u why
  have hu : ServoWork g s u := .of_foldl (fun i hi t => .of_phMod (hf i hi) _ t) s
  split
  · next i heq =>
    have hi : i ∈ f := (List.mem_filter.mp (heq ▸ List.mem_singleton_self i)).1
    exact hu.trans (.of_excludeLane (hf i hi) _ u)
  · exact hu

theorem servoWork_trackLanes (fused : Rat) (measuring : Bool) (s : State) : ServoWork g s (trackLanes f fused measuring s) := by
  unfold trackLanes
  extract_lets u m v
  have hu : ServoWork g s u := .of_foldl (fun i hi t => .of_phMod (hf i hi) _ t) s
  have hv : ServoWork g u v := .of_foldl (fun i hi t => .of_phMod (hf i hi) _ t) u
  refine (hu.trans hv).trans (.of_foldl (fun i hi t => ?_) v)
  split
  · exact .of_excludeLane (hf i hi) 8 t
  · exact .refl g t

end

section
variable {es : List (Nat × Rat)} (hes : ∀ q ∈ es, q.1 / 8 = g)
include hes

theorem servoWork_admitFirst (s : State) : ServoWork g s (admitFirst g es s) := by
  unfold admitFirst
  extract_lets v
  split
  · split
    · next q heq =>
      have hq : q.1 / 8 = g := hes q (List.mem_of_find?_eq_some heq)
      exact (ServoWork.of_phMod hq _ s).trans (.of_servoMod _)
    · exact .refl g s
  · exact .refl g s

theorem servoWork_remeasure (fused : Rat) (s : State) : ServoWork g s (remeasure es fused s) :=
  .of_foldl (fun q hq t => .of_phMod (hes q hq) _ t) s

theorem servoWork_reportLanes (s : State) : ServoWork g s (reportLanes es s) :=
  .of_foldl (fun q hq t => .of_phMod (hes q hq) _ t) s

theorem fuseIns_lane (s : State) : ∀ i ∈ fuseIns s es, i.l / 8 = g := by
  intro i hi
  obtain ⟨q, hq, rfl⟩ := List.mem_map.mp hi
  exact hes q (List.mem_of_mem_filter hq)

theorem servoWork_servoFuse (s : State) : ServoWork g s (servoFuse g es s) := by
  unfold servoFuse
  extract_lets u st v f fused var w now4 x
  have hu : ServoWork g s u := (servoWork_admitFirst hes s).trans (servoWork_reportLanes hes _)
  split
  · have hv : ServoWork g u v := servoWork_excludeOne (fuseIns_lane hes u) u
    have hf : ∀ i ∈ f, i.l / 8 = g := fuseIns_lane hes v
    split
    · exact (hu.trans hv).trans (servoWork_noLane v)
    · have hx : ServoWork g v x := (servoWork_servoTake fused var v).trans (servoWork_trackLanes hf fused now4 w)
      refine ((hu.trans hv).trans hx).trans (.trans ?_ (servoWork_noLane _))
      split
      · exact .refl g x
      · exact servoWork_remeasure hes fused x
  · exact hu

end

end

/-- In IDLE nothing is fused. -/
theorem servoFuse_idle {g : Nat} {s : State} (hst : (groupOf s g).servo.st = 0) : servoFuse g [] s = s := by
  have hadmit : admitFirst g [] s = s := by
    unfold admitFirst
    rw [if_neg (by simp [hst])]
  unfold servoFuse
  rw [hadmit]
  exact if_neg (by simp [reportLanes, hst])

/-! ### The end of a servo cycle (R72, R85, R90) -/

/-- The group with its temperature and its samples taken, and the servo's state advanced. -/
def cycleSampled (g : Nat) (lanes : List (Fin 8 × List Sample)) (s : State) : State :=
  servoAdvance g (lanes.foldl (fun s q => ingest (8 * g + q.1.val) q.2 s) s)

/-- The means of the timing port's lanes. -/
def cycleMeans (g : Nat) (lanes : List (Fin 8 × List Sample)) (s : State) : List (Nat × Rat) :=
  match timingPort s g with
  | some p => lanes.filterMap (fun q =>
      let l := 8 * g + q.1.val
      if (lanesOf s p).contains l then (cycleErr s l q.2).map (fun e => (l, e)) else none)
  | none => []

/-- The result of the cycle is valid and has the next sequence number. -/
def cycleCounted (v : GroupServo) : GroupServo := { v with seq := (v.seq + 1) % 4096, valid := true }

/-- The blends move on, and every lane's words are valid. -/
def cycleBlended (g : Nat) (s : State) : State :=
  (List.range 8).foldl (fun s k => blendLane (8 * g + k) (phMod (8 * g + k) (fun h => { h with valid := true }) s)) s

/-- A cycle from the temperature on. -/
def cycleFused (g : Nat) (lanes : List (Fin 8 × List Sample)) (s : State) : State :=
  servoFuse g (cycleMeans g lanes (cycleSampled g lanes s)) (cycleSampled g lanes s)

/-- The result of a cycle counted, and its words reported. -/
def cycleReported (g : Nat) (s : State) : State := servoReport g (cycleBlended g (servoMod g cycleCounted s))

/-- The temperature of a cycle. -/
def warmed (g : Nat) (temp : Int) (s : State) : State := groupMod g (fun x => { x with temp := temp }) s

theorem exec_groupServoCycle {g : GroupIx} (temp : Int) (lanes : List (Fin 8 × List Sample)) {s : State}
    (h : groupLive s g.val = true) : exec (.groupServoCycle g temp lanes) s =
      .next (settle (cycleReported g.val (cycleFused g.val lanes (warmed g.val temp s)))) := by
  show execGroupServoCycle g temp lanes s = _
  rw [execGroupServoCycle, if_pos h]
  rfl

theorem cycleMeans_lane {g : Nat} (lanes : List (Fin 8 × List Sample)) (s : State) : ∀ q ∈ cycleMeans g lanes s, q.1 / 8 = g := by
  unfold cycleMeans
  split
  · intro q hq
    obtain ⟨x, -, hx⟩ := List.mem_filterMap.mp hq
    dsimp only at hx
    split at hx
    · obtain ⟨e, -, rfl⟩ := Option.map_eq_some_iff.mp hx
      omega
    · simp at hx
  · simp

theorem servoWork_cycleSampled (g : Nat) (lanes : List (Fin 8 × List Sample)) (s : State) :
    ServoWork g s (cycleSampled g lanes s) :=
  (ServoWork.of_foldl (fun q _ t => servoWork_ingest (by omega) q.2 t) s).trans (servoWork_servoAdvance g _)

theorem servoWork_cycleFused (g : Nat) (lanes : List (Fin 8 × List Sample)) (s : State) : ServoWork g s (cycleFused g lanes s) :=
  (servoWork_cycleSampled g lanes s).trans (servoWork_servoFuse (cycleMeans_lane lanes _) _)

theorem servoWork_cycleBlended (g : Nat) (s : State) : ServoWork g s (cycleBlended g s) :=
  .of_eight (fun _ hk t => (ServoWork.of_phMod hk _ t).trans (servoWork_blendLane hk _)) s

theorem cycleBlended_frame (g : Nat) (s : State) : keepsBut [.lane, .cal] s (cycleBlended g s) :=
  keepsBut_foldl _ (fun t k => keepsBut_then (l := [.lane]) (keepsBut_trans (keepsBut_phMod _ _ t) (keepsBut_laneMod _ _ _))
    (keepsBut_convMod _ _ _) (by simp) (by simp)) _ s

theorem servoReport_eq (g : Nat) (s : State) : ∃ rep, servoReport g s = groupMod g (fun x => { x with rep := rep }) s := ⟨_, rfl⟩

theorem servoWork_servoReport (g : Nat) (s : State) : ServoWork g s (servoReport g s) := by
  obtain ⟨rep, hrep⟩ := servoReport_eq g s
  rw [hrep]
  exact .of_groupMod (by exact fun _ => rfl) s

theorem cycleReported_frame (g : Nat) (s : State) : keepsBut [.lane, .group, .cal] s (cycleReported g s) ∧
    otherGroups g s (cycleReported g s) ∧ ∀ l, l / 8 ≠ g → laneOf (cycleReported g s) l = laneOf s l := by
  have hcounted : keepsBut [.group] s (servoMod g cycleCounted s) := keepsBut_servoMod g cycleCounted s
  have hothers : otherGroups g s (servoMod g cycleCounted s) := otherGroups_groupMod g _ s
  have hlanes : ∀ l, laneOf (servoMod g cycleCounted s) l = laneOf s l := fun _ => rfl
  unfold cycleReported
  generalize servoMod g cycleCounted s = u at hcounted hothers hlanes
  have hwork := (servoWork_cycleBlended g u).trans (servoWork_servoReport g _)
  exact ⟨keepsBut_then hcounted hwork.frame (by simp) (by simp), otherGroups_trans hothers hwork.groups,
    fun l hl => (hwork.lanes l hl).trans (hlanes l)⟩

theorem groupOf_cycleReported {g : Nat} (hg : g < 24) (s : State) : ∃ rep, groupOf (cycleReported g s) g =
    { groupOf s g with servo := cycleCounted (groupOf s g).servo, rep := rep } := by
  obtain ⟨rep, hrep⟩ := servoReport_eq g (cycleBlended g (servoMod g cycleCounted s))
  refine ⟨rep, ?_⟩
  rw [cycleReported, hrep, groupOf_groupMod_same hg, groupOf_of_keepsBut (cycleBlended_frame g _) (by simp), servoMod,
    groupOf_groupMod_same hg]

/-- Without a timing port a cycle leaves the servo in IDLE. -/
theorem cycleFused_idle {g : Nat} (hg : g < 24) (lanes : List (Fin 8 × List Sample)) {s : State} (hp : timingPort s g = none) :
    (groupOf (cycleFused g lanes s) g).servo.st = 0 := by
  have hsampled := ServoWork.of_foldl (g := g) (fun (q : Fin 8 × List Sample) (_ : q ∈ lanes) t =>
    servoWork_ingest (l := 8 * g + q.1.val) (by omega) q.2 t) s
  have hidle : (groupOf (cycleSampled g lanes s) g).servo.st = 0 :=
    servoAdvance_none_st hg ((timingPort_of_keepsBut hsampled.frame (by simp) hsampled.mode).trans hp)
  have hwork := servoWork_cycleSampled g lanes s
  have hmeans : cycleMeans g lanes (cycleSampled g lanes s) = [] := by
    unfold cycleMeans
    rw [timingPort_of_keepsBut hwork.frame (by simp) hwork.mode, hp]
  rw [cycleFused, hmeans, servoFuse_idle hidle, hidle]

/-- The end of a servo cycle of a running group. -/
theorem groupServoCycle_counts (g : GroupIx) (temp : Int) (lanes : List (Fin 8 × List Sample)) (s : State)
    (h : groupLive s g.val = true) :
    ∃ t, exec (.groupServoCycle g temp lanes) s = .next t ∧ keepsBut [.lane, .group, .cal, .msi] s t ∧ otherGroups g.val s t ∧
      (∀ l, l / 8 ≠ g.val → laneOf t l = laneOf s l) ∧ (groupOf t g.val).temp = temp ∧
      (groupOf t g.val).servo.valid = true ∧ (groupOf t g.val).servo.seq = ((groupOf s g.val).servo.seq + 1) % 4096 ∧
      (groupOf t g.val).mode = (groupOf s g.val).mode ∧
      (timingPort s g.val = none → (groupOf t g.val).servo.st = 0) := by
  have hwarm : keepsBut [.group] s (warmed g.val temp s) := keepsBut_groupMod _ _ s
  have hothers : otherGroups g.val s (warmed g.val temp s) := otherGroups_groupMod _ _ s
  have hlanes : ∀ l, laneOf (warmed g.val temp s) l = laneOf s l := fun _ => rfl
  have htaken : groupOf (warmed g.val temp s) g.val = { groupOf s g.val with temp := temp } := groupOf_groupMod_same g.isLt _ s
  have hexec := exec_groupServoCycle temp lanes h
  generalize warmed g.val temp s = u at hwarm hothers hlanes htaken hexec
  have hfused := servoWork_cycleFused g.val lanes u
  have hidle := cycleFused_idle g.isLt lanes (s := u)
  generalize cycleFused g.val lanes u = v at hfused hidle hexec
  obtain ⟨hframe, hgroups, hkeep⟩ := cycleReported_frame g.val v
  obtain ⟨rep, hlast⟩ := groupOf_cycleReported g.isLt v
  have hkept := hfused.kept
  simp only [servoKept, htaken, Prod.mk.injEq] at hkept
  obtain ⟨htemp, hmode, hseq, -⟩ := hkept
  refine ⟨_, hexec, ?_, ?_, fun l hl => ?_, ?_⟩
  · exact keepsBut_done (keepsBut_then hwarm (keepsBut_trans hfused.frame hframe) (by simp) (by simp)) (by simp)
  · exact otherGroups_settle (otherGroups_trans hothers (otherGroups_trans hfused.groups hgroups))
  · rw [laneOf_settle, hkeep l hl, hfused.lanes l hl, hlanes]
  · rw [groupOf_settle, hlast, ← htemp, ← hmode, ← hseq]
    refine ⟨rfl, rfl, rfl, rfl, fun hp => hidle ?_⟩
    rw [timingPort_of_keepsBut hwarm (by simp) (by rw [htaken]), hp]

/-! ### The end of STEP_MEASURE (R77) -/

/-- The step: the measured mean less the mean before it. -/
def stepDelta (v : GroupServo) : Rat := v.measSum / 64 - v.preMean

/-- The servo tracks again, with the step reported or counted as a transient. -/
def stepTaken (real : Bool) (d : Rat) (v : GroupServo) : GroupServo := { v with
  st := 3, delta := d, hist := [], tracked := 0, measN := 0, measSum := 0
  reported := if real then some d else none
  transients := if real then v.transients else v.transients + 1 }

/-- The lanes' histories before the step are no measure any more. -/
def stepForgotten (g : Nat) (s : State) : State :=
  (List.range 8).foldl (fun s k => phMod (8 * g + k) (fun h => { h with eHist := [] }) s) s

theorem exec_stepMeasureEnd {g : GroupIx} {s : State} (hst : (groupOf s g.val).servo.st = 4)
    (hn : 64 ≤ (groupOf s g.val).servo.measN) : exec (.stepMeasureEnd g) s =
      .next (settle (stepForgotten g.val (servoMod g.val (stepTaken
        (decide (stepThreshold s g.val ≤ absQ (stepDelta (groupOf s g.val).servo))) (stepDelta (groupOf s g.val).servo)) s))) := by
  show execStepMeasureEnd g s = _
  rw [execStepMeasureEnd, if_pos ⟨hst, hn⟩]
  rfl

/-- A step is reported, or is a transient. -/
theorem stepMeasureEnd_measures (g : GroupIx) (s : State) (hst : (groupOf s g.val).servo.st = 4)
    (hn : 64 ≤ (groupOf s g.val).servo.measN) :
    ∃ t, exec (.stepMeasureEnd g) s = .next t ∧ keepsBut [.lane, .group, .msi] s t ∧ otherGroups g.val s t ∧
      (groupOf t g.val).servo.st = 3 ∧ (groupOf t g.val).servo.hist = [] ∧
      (groupOf t g.val).servo.delta = (groupOf s g.val).servo.measSum / 64 - (groupOf s g.val).servo.preMean ∧
      (stepThreshold s g.val ≤ absQ (groupOf t g.val).servo.delta →
        (groupOf t g.val).servo.reported = some (groupOf t g.val).servo.delta ∧
        (groupOf t g.val).servo.transients = (groupOf s g.val).servo.transients) ∧
      (absQ (groupOf t g.val).servo.delta < stepThreshold s g.val →
        (groupOf t g.val).servo.reported = none ∧
        (groupOf t g.val).servo.transients = (groupOf s g.val).servo.transients + 1) := by
  have hexec := exec_stepMeasureEnd hst hn
  generalize hd : stepDelta (groupOf s g.val).servo = d at hexec
  generalize hr : decide (stepThreshold s g.val ≤ absQ d) = real at hexec
  have hforgotten : ∀ u, keepsBut [.lane] u (stepForgotten g.val u) := fun u =>
    keepsBut_foldl _ (fun t k => keepsBut_phMod _ _ t) _ u
  have hgroup := groupOf_of_keepsBut (hforgotten (servoMod g.val (stepTaken real d) s)) (by simp) g.val
  rw [show groupOf (servoMod g.val (stepTaken real d) s) g.val = { groupOf s g.val with servo := stepTaken real d (groupOf s g.val).servo }
    from groupOf_groupMod_same g.isLt _ s] at hgroup
  refine ⟨_, hexec, ?_, ?_, ?_⟩
  · exact keepsBut_done (keepsBut_then (keepsBut_servoMod _ _ s) (hforgotten _) (by simp) (by simp)) (by simp)
  · exact otherGroups_settle (otherGroups_trans (otherGroups_groupMod _ _ s) (otherGroups_of_keepsBut (hforgotten _) (by simp) _))
  · rw [groupOf_settle, hgroup]
    refine ⟨rfl, rfl, hd.symm, fun hreal => ?_, fun hsmall => ?_⟩
    · rw [show real = true from hr ▸ decide_eq_true hreal]
      exact ⟨rfl, rfl⟩
    · rw [show real = false from hr ▸ decide_eq_false (not_le.mpr hsmall)]
      exact ⟨rfl, rfl⟩

/-! ### The end of a lane's remeasurement (R74) -/

/-- The lane returns with its residual as measured and its weight at zero. -/
def returned (r : Rat) (h : LanePh) : LanePh := { h with
  excl := 0, sTrk := r, sApp := r, meas := none, ramp := 0, outlier := 0, eHist := []
  hist := h.hist.map (fun x => x + h.sApp - r) }

section
variable {l : LaneIx} {k : Nat} {sum : Rat} {s : State} (hmeas : (laneOf s l.val).ph.meas = some (k, sum)) (hk : 8000 ≤ k)
  (hexcl : (laneOf s l.val).ph.excl ≠ 0) (hon : fusionOff s l.val = false) (hmay : mayReturn s l.val = true)
include hmeas hk hexcl hon hmay

theorem exec_laneRemeasureEnd : exec (.laneRemeasureEnd l) s = .next (settle (phMod l.val
    (if skewMax < absQ (sum / k) then fun h => { h with excl := 8, meas := none } else returned (sum / k)) s)) := by
  show execLaneRemeasureEnd l s = _
  unfold execLaneRemeasureEnd
  extract_lets n h
  rw [show h.meas = some (k, sum) from hmeas]
  dsimp only
  rw [if_pos ⟨hk, hexcl, by simpa using hon, hmay⟩]
  split
  · rfl
  · rfl

/-- A lane returns to fusion, or stays out for its residual. -/
theorem laneRemeasureEnd_returns :
    ∃ t, exec (.laneRemeasureEnd l) s = .next t ∧ keepsBut [.lane, .msi] s t ∧ otherLanes l.val s t ∧
      (laneOf t l.val).ph.meas = none ∧ (laneOf t l.val).st = (laneOf s l.val).st ∧
      (absQ (sum / k) ≤ skewMax → (laneOf t l.val).ph.excl = 0 ∧ (laneOf t l.val).ph.sTrk = sum / k ∧
        (laneOf t l.val).ph.sApp = sum / k ∧ (laneOf t l.val).ph.ramp = 0) ∧
      (skewMax < absQ (sum / k) → (laneOf t l.val).ph.excl = 8) := by
  have hexec := exec_laneRemeasureEnd hmeas hk hexcl hon hmay
  have hlane : ∀ f : LanePh → LanePh, laneOf (phMod l.val f s) l.val = { laneOf s l.val with ph := f (laneOf s l.val).ph } :=
    fun f => laneOf_laneMod_same l.isLt _ s
  refine ⟨_, hexec, keepsBut_done (keepsBut_mono (keepsBut_phMod _ _ s) (by simp)) (by simp),
    otherLanes_settle (otherLanes_laneMod _ _ s), ?_⟩
  rw [laneOf_settle, hlane]
  by_cases hout : skewMax < absQ (sum / k)
  · rw [if_pos hout]
    exact ⟨rfl, rfl, fun h => absurd hout (not_lt.mpr h), fun _ => rfl⟩
  · rw [if_neg hout]
    exact ⟨rfl, rfl, fun _ => ⟨rfl, rfl, rfl, rfl⟩, fun h => absurd h hout⟩

end

/-! ### The lock timeout (R384) -/

/-- The delay state and what goes with it, as NONE leaves them (R105, R107). -/
def noDelay (d : PortLd) : PortLd := { d with
  dstate := 0, plumb := 0, peer := none, peerUsed := none, solution := none, pairs := 0, rtMean := 0, cfg := [] }
def noExchange (x : PortExch) : PortExch := { x with
  rts := [], rtLast := none, suspect := false, t1 := none, t2 := none, t3 := none, pd1 := none, pdPrev := none, sync := none }
def noLaneDelay (d : LaneLd) : LaneLd := { d with
  hasDelay := false, rtPrev := none, rtHist := [], app := none, blend := 64, winBad := true }

theorem delayNone_eq (p : Nat) (s : State) : delayNone p s =
    forEach (lanesOf s p) (laneLdMod · noLaneDelay) (exchMod p noExchange (ldMod p noDelay s)) := rfl

theorem delayNone_frame (p : Nat) (s : State) : keepsBut [.lane, .port] s (delayNone p s) ∧ otherPorts p s (delayNone p s) := by
  rw [delayNone_eq]
  have hport : PortMoved p s (exchMod p noExchange (ldMod p noDelay s)) :=
    (portMoved_portMod p _ s).trans (portMoved_portMod p _ _)
  have hlanes := keepsBut_forEach (fun l t => keepsBut_laneLdMod l noLaneDelay t) (lanesOf s p) (exchMod p noExchange (ldMod p noDelay s))
  exact ⟨keepsBut_then hport.frame hlanes (by simp) (by simp),
    otherPorts_trans hport.others (otherPorts_of_keepsBut hlanes (by simp) p)⟩

theorem portOf_delayNone {p : Nat} (hp : p < 192) (s : State) : portOf (delayNone p s) p =
    { portOf s p with ld := noDelay (portOf s p).ld, exch := noExchange (portOf s p).exch } := by
  rw [delayNone_eq, portOf_of_keepsBut (keepsBut_forEach (fun l t => keepsBut_laneLdMod l noLaneDelay t) _ _) (by simp),
    exchMod, portOf_portMod_same hp, ldMod, portOf_portMod_same hp]

theorem delayNone_hasDelay {p l : Nat} {s : State} (hm : l ∈ lanesOf s p) (hl : l < 192) :
    (laneOf (delayNone p s) l).ld.hasDelay = false := by
  rw [delayNone_eq]
  refine laneOf_forEach_mem (P := fun x => x.ld.hasDelay = false) (I := fun _ => True) (fun k t => otherLanes_laneMod k _ t)
    (fun _ _ _ => trivial) (fun t _ => ?_) trivial (.inl hm)
  exact congrArg (fun x : Lane => x.ld.hasDelay) (laneOf_laneMod_same hl _ t)

/-- A lane without bookkeeping and without a delay. -/
def Cleared (x : Lane) : Prop := x.ph.anchor = none ∧ x.ph.weight = 0 ∧ x.ld.hasDelay = false

theorem cleared_excluded (why : Nat) (x : Lane) (h : Cleared x) : Cleared (excluded why x) := ⟨h.1, rfl, h.2.2⟩

theorem clearBookkeeping_clears {l : Nat} (hl : l < 192) {s : State} (h : (laneOf s l).ld.hasDelay = false) :
    Cleared (laneOf (clearBookkeeping l s) l) := by
  rw [clearBookkeeping, phMod, laneOf_laneMod_same hl]
  exact ⟨rfl, rfl, h⟩

theorem clearBookkeeping_hasDelay (k : Nat) {l : Nat} {s : State} (h : (laneOf s l).ld.hasDelay = false) :
    (laneOf (clearBookkeeping k s) l).ld.hasDelay = false := by
  unfold clearBookkeeping phMod
  exact laneOf_laneMod_preserved (P := fun x => x.ld.hasDelay = false) (by exact fun _ hx => hx) h

theorem forEach_clearBookkeeping_clears {ls : List Nat} {l : Nat} (hm : l ∈ ls) (hl : l < 192) {s : State}
    (h : (laneOf s l).ld.hasDelay = false) : Cleared (laneOf (forEach ls clearBookkeeping s) l) :=
  laneOf_forEach_mem (f := clearBookkeeping) (P := Cleared) (I := fun t => (laneOf t l).ld.hasDelay = false)
    (fun k t => otherLanes_laneMod k _ t) (fun k _ ht => clearBookkeeping_hasDelay k ht)
    (fun _ ht => clearBookkeeping_clears hl ht) h (.inl hm)

/-- The delay and the bookkeeping of a port's lanes dropped. -/
def delayDropped (p : Nat) (s : State) : State := forEach (lanesOf s p) clearBookkeeping (delayNone p s)

theorem delayDropped_frame (p : Nat) (s : State) : keepsBut [.lane, .port] s (delayDropped p s) ∧ otherPorts p s (delayDropped p s) := by
  obtain ⟨hdelay, hports⟩ := delayNone_frame p s
  have hlanes := keepsBut_forEach (f := clearBookkeeping) (fun l t => keepsBut_phMod l _ t) (lanesOf s p) (delayNone p s)
  exact ⟨keepsBut_then hdelay hlanes (by simp) (by simp), otherPorts_trans hports (otherPorts_of_keepsBut hlanes (by simp) p)⟩

theorem portOf_delayDropped {p : Nat} (hp : p < 192) (s : State) : portOf (delayDropped p s) p =
    { portOf s p with ld := noDelay (portOf s p).ld, exch := noExchange (portOf s p).exch } := by
  rw [delayDropped, portOf_of_keepsBut (keepsBut_forEach (f := clearBookkeeping) (fun l t => keepsBut_phMod l _ t) _ _) (by simp),
    portOf_delayNone hp]

theorem delayDropped_clears {p l : Nat} {s : State} (hm : l ∈ lanesOf s p) (hl : l < 192) :
    Cleared (laneOf (delayDropped p s) l) := forEach_clearBookkeeping_clears hm hl (delayNone_hasDelay hm hl)

/-- The servo begins again, without a delay. -/
def servoRestarted (g p : Nat) (s : State) : State := servoAdvance g (servoIdle g (delayDropped p s))

section
variable {g p : Nat} {s : State}

theorem servoRestarted_frame (g p : Nat) (s : State) : keepsBut [.lane, .group, .port, .cal] s (servoRestarted g p s) ∧
    otherPorts p s (servoRestarted g p s) ∧ otherGroups g s (servoRestarted g p s) := by
  obtain ⟨hdrop, hports⟩ := delayDropped_frame p s
  have hwork := (servoWork_servoIdle g (delayDropped p s)).trans (servoWork_servoAdvance g _)
  exact ⟨keepsBut_then hdrop hwork.frame (by simp) (by simp),
    otherPorts_trans hports (otherPorts_of_keepsBut hwork.frame (by simp) p),
    otherGroups_trans (otherGroups_of_keepsBut hdrop (by simp) g) hwork.groups⟩

theorem servoRestarted_clears {l : Nat} (hm : l ∈ lanesOf s p) (hl : l < 192) : Cleared (laneOf (servoRestarted g p s) l) :=
  laneOf_servoAdvance_preserved (P := Cleared) cleared_excluded g
    (laneOf_servoIdle_preserved (P := Cleared) cleared_excluded g (delayDropped_clears hm hl))

theorem portOf_servoRestarted (hp : p < 192) : portOf (servoRestarted g p s) p =
    { portOf s p with ld := noDelay (portOf s p).ld, exch := noExchange (portOf s p).exch } := by
  rw [servoRestarted, portOf_of_keepsBut (servoWork_servoAdvance g _).frame (by simp),
    portOf_of_keepsBut (servoWork_servoIdle g _).frame (by simp), portOf_delayDropped hp]

theorem servoRestarted_st (hg : g < 24) (hp : timingPort s g = some p) :
    (groupOf (servoRestarted g p s) g).servo.st = if (portOf s p).st = .up then 1 else 0 := by
  have hp192 : p < 192 := by have := timingPort_group hp; omega
  have hdrop := (delayDropped_frame p s).1
  have hidle := servoWork_servoIdle g (delayDropped p s)
  have hport : portOf (servoIdle g (delayDropped p s)) p = _ :=
    (portOf_of_keepsBut hidle.frame (by simp) p).trans (portOf_delayDropped hp192 s)
  have htiming : timingPort (servoIdle g (delayDropped p s)) g = some p := by
    rw [timingPort_of_keepsBut hidle.frame (by simp) hidle.mode,
      timingPort_of_keepsBut hdrop (by simp) (by rw [groupOf_of_keepsBut hdrop (by simp)]), hp]
  rw [servoRestarted, servoAdvance_idle_st hg htiming (servoIdle_servo hg _) (by rw [hport]; rfl), hport]

end

section
variable {g : GroupIx} {p : Nat} {s : State} (hst : (groupOf s g.val).servo.st = 1 ∨ (groupOf s g.val).servo.st = 2)
  (hp : timingPort s g.val = some p)
include hst hp

theorem exec_groupServoLockTimeout : exec (.groupServoLockTimeout g) s =
    .next (settle (servoRestarted g.val p (timedOut 7 (groupEvent g.val 23) g.val s))) := by
  show execGroupServoLockTimeout g s = _
  unfold execGroupServoLockTimeout
  extract_lets n st
  rw [if_pos hst, hp]
  rfl

/-- The lock timeout begins the servo and the delay measurement again. -/
theorem groupServoLockTimeout_restarts :
    ∃ t, exec (.groupServoLockTimeout g) s = .next t ∧ keepsBut [.lane, .group, .port, .cal, .msi, .pc] s t ∧
      otherPorts p s t ∧ otherGroups g.val s t ∧ (portOf t p).ld.dstate = 0 ∧ (portOf t p).st = (portOf s p).st ∧
      (∀ l ∈ lanesOf s p, l < 192 → (laneOf t l).ph.anchor = none ∧ (laneOf t l).ph.weight = 0 ∧ (laneOf t l).ld.hasDelay = false) ∧
      ((groupOf t g.val).servo.st = if (portOf s p).st = .up then 1 else 0) ∧
      vget t.pc.kinds 7 0 = satU 32 (vget s.pc.kinds 7 0 + 1) := by
  have hexec := exec_groupServoLockTimeout hst hp
  have htimed := keepsBut_timedOut 7 (groupEvent g.val 23) g.val s
  have hkinds := timedOut_kinds (kind := 7) (by decide) (groupEvent g.val 23) g.val s
  have hlanes : lanesOf (timedOut 7 (groupEvent g.val 23) g.val s) p = lanesOf s p := rfl
  have htiming : timingPort (timedOut 7 (groupEvent g.val 23) g.val s) g.val = some p := hp
  have hsame := portOf_of_keepsBut htimed (by simp) p
  generalize timedOut 7 (groupEvent g.val 23) g.val s = u at htimed hkinds hexec hlanes htiming hsame
  obtain ⟨hframe, hports, hgroups⟩ := servoRestarted_frame g.val p u
  have hport := portOf_servoRestarted (g := g.val) (s := u) (show p < 192 by have := timingPort_group hp; omega)
  refine ⟨_, hexec, ?_, ?_, ?_, ?_, ?_, fun l hm hl => ?_, ?_, ?_⟩
  · exact keepsBut_done (keepsBut_then htimed hframe (by simp) (by simp)) (by simp)
  · exact otherPorts_settle (otherPorts_trans (otherPorts_of_keepsBut htimed (by simp) p) hports)
  · exact otherGroups_settle (otherGroups_trans (otherGroups_of_keepsBut htimed (by simp) _) hgroups)
  · rw [portOf_settle, hport]
    rfl
  · rw [portOf_settle, hport, hsame]
  · rw [laneOf_settle]
    exact servoRestarted_clears (hlanes ▸ hm) hl
  · rw [groupOf_settle, servoRestarted_st g.isLt htiming, hsame]
  · rw [settle_pc, show (servoRestarted g.val p u).pc = u.pc from hframe .pc (by simp), hkinds]

end

/-- Settles O14: servo cycles, fusion, measured steps, lanes that return, and the lock timeout. -/
theorem groupServo : Obligations.GroupServo := by
  unfold Obligations.GroupServo
  exact ⟨groupServoCycle_counts, ⟨fun f hf hin => by rw [sumQ_eq]; exact sum_fuseWeight (fun i hi => (hin i hi).1) hf,
      fun i hv _ => fuse_singleton hv⟩,
    stepMeasureEnd_measures, fun l k sum s => laneRemeasureEnd_returns, fun g p s => groupServoLockTimeout_restarts⟩

end Sys2Proof.Machine

/-! The Veman TLV on the wire (R9, R97): big-endian fields, records of one length, and the TLV that reads back as sent. -/

namespace Sys2Proof.Machine

-- The joined text is one compile: no thread beside the main one for each proof.
set_option Elab.async false

/-! ### Big-endian fields (R9) -/

@[simp] theorem length_be (n v : Nat) : (be n v).length = n := by simp [be]

theorem fieldBe_drop (l : List Byte) (o j n : Nat) : fieldBe (l.drop o) j n = fieldBe l (o + j) n := by
  simp [fieldBe, slice, List.getElem?_drop, Nat.add_assoc]

/-- A field behind the bytes in front. -/
theorem fieldBe_append {a c : List Byte} {o n : Nat} (h : a.length ≤ o) : fieldBe (a ++ c) o n = fieldBe c (o - a.length) n := by
  have hdrop : (a ++ c).drop a.length = c := List.drop_left
  calc fieldBe (a ++ c) o n = fieldBe ((a ++ c).drop a.length) (o - a.length) n := by
        rw [fieldBe_drop, Nat.add_sub_cancel' h]
    _ = fieldBe c (o - a.length) n := by rw [hdrop]

theorem fieldBe_be_append {k v o n : Nat} {c : List Byte} (h : k ≤ o) : fieldBe (be k v ++ c) o n = fieldBe c (o - k) n := by
  rw [fieldBe_append (by simpa using h), length_be]

/-- A field reads back the number that was placed there. -/
theorem fieldBe_be {n v : Nat} {c : List Byte} (h : v < 256 ^ n) : fieldBe (be n v ++ c) 0 n = v := by
  have hs : slice (be n v ++ c) 0 n = be n v := by
    rw [slice_eq_take_drop (by simp), List.drop_zero, List.take_left' (length_be n v)]
  rw [fieldBe, hs, beNat, be, List.reverse_reverse, leNat_le_mod, Nat.mod_eq_of_lt h]

theorem signedBe_drop (l : List Byte) (o j n : Nat) : signedBe (l.drop o) j n = signedBe l (o + j) n := by
  rw [signedBe, signedBe, fieldBe_drop]

theorem signedBe_be_append {k v o n : Nat} {c : List Byte} (h : k ≤ o) : signedBe (be k v ++ c) o n = signedBe c (o - k) n := by
  rw [signedBe, signedBe, fieldBe_be_append h]

theorem ofSigned_lt (w : Nat) (v : Int) : ofSigned w v < 2 ^ w := by
  have hpos : (0 : Int) < ((2 ^ w : Nat) : Int) := by positivity
  have hnonneg := Int.emod_nonneg v hpos.ne'
  have hlt := Int.emod_lt_of_pos v hpos
  unfold ofSigned
  omega

/-- A signed value of a width is spelt by that many low bits. -/
theorem toSigned_ofSigned {w : Nat} (hw : 0 < w) {v : Int} (h : fitsS w v) : toSigned w (ofSigned w v) = v := by
  obtain ⟨hlo, hhi⟩ := h
  obtain ⟨k, rfl⟩ : ∃ k, w = k + 1 := ⟨w - 1, by omega⟩
  have hdouble : 2 ^ (k + 1) = 2 * 2 ^ k := Nat.pow_succ'
  simp only [Nat.add_sub_cancel] at hlo hhi
  unfold toSigned
  rw [Nat.mod_eq_of_lt (ofSigned_lt _ v), Nat.add_sub_cancel]
  unfold ofSigned
  rw [hdouble]
  generalize 2 ^ k = m at hlo hhi
  by_cases hneg : 0 ≤ v
  · rw [Int.emod_eq_of_lt hneg (by omega), if_pos (by omega)]
    omega
  · have hmod : v % ((2 * m : Nat) : Int) = v + (2 * m : Nat) := by
      rw [← Int.add_emod_right, Int.emod_eq_of_lt (by omega) (by omega)]
    rw [hmod, if_neg (by omega)]
    omega

theorem signedBe_be {n w : Nat} {v : Int} {c : List Byte} (hw : w = 8 * n) (hn : 0 < n) (h : fitsS w v) :
    signedBe (be n (ofSigned w v) ++ c) 0 n = v := by
  subst hw
  rw [signedBe, fieldBe_be (by rw [show 256 = 2 ^ 8 from rfl, ← Nat.pow_mul]; exact ofSigned_lt _ v),
    toSigned_ofSigned (by omega) h]

/-! ### Records of one length -/

section
variable {α : Type} {f : α → List Byte} {w : Nat}

theorem length_flatMap_records {xs : List α} (hw : ∀ x ∈ xs, (f x).length = w) : (xs.flatMap f).length = w * xs.length := by
  induction xs with
  | nil => rfl
  | cons x xs ih =>
    rw [List.flatMap_cons, List.length_append, hw x List.mem_cons_self, ih fun y hy => hw y (List.mem_cons_of_mem x hy),
      List.length_cons, Nat.mul_succ, Nat.add_comm]

/-- Records that stand one after another read back as they were placed. -/
theorem map_range_records {read : List Byte → α} {xs : List α} (hw : ∀ x ∈ xs, (f x).length = w)
    (hread : ∀ x ∈ xs, ∀ c, read (f x ++ c) = x) (c : List Byte) :
    (List.range xs.length).map (fun k => read ((xs.flatMap f ++ c).drop (w * k))) = xs := by
  induction xs with
  | nil => rfl
  | cons x xs ih =>
    have hrest : ∀ k, (f x ++ (xs.flatMap f ++ c)).drop (w * (k + 1)) = (xs.flatMap f ++ c).drop (w * k) := fun k => by
      rw [Nat.mul_succ, Nat.add_comm, ← List.drop_drop, List.drop_left' (hw x List.mem_cons_self)]
    rw [List.flatMap_cons, List.append_assoc, List.length_cons, List.range_succ_eq_map, List.map_cons, List.map_map, Nat.mul_zero,
      List.drop_zero, hread x List.mem_cons_self]
    simp only [Function.comp_def, Nat.succ_eq_add_one, hrest]
    rw [ih (fun y hy => hw y (List.mem_cons_of_mem x hy)) fun y hy => hread y (List.mem_cons_of_mem x hy)]

end

/-! ### The lane records (R97) -/

theorem tlvLaneBytes_append (r : TlvLane) (c : List Byte) : tlvLaneBytes r ++ c =
    be 1 r.lane ++ (be 1 r.lstat ++ (be 3 r.wlTx ++ (be 3 r.wlRx ++ (be 1 r.sigTx ++ (be 1 r.sigRx ++ (be 2 0 ++
      (be 4 (ofSigned 32 r.txSkew) ++ (be 4 (ofSigned 32 r.extTx) ++ (be 4 (ofSigned 32 r.extRx) ++
        (be 8 (ofSigned 64 r.app) ++ (be 4 r.appSigma ++ c))))))))))) := by
  simp only [tlvLaneBytes, List.append_assoc]
  rfl

theorem length_tlvLaneBytes (r : TlvLane) : (tlvLaneBytes r).length = 36 := by simp [tlvLaneBytes]

theorem tlvLaneAt_drop (l : List Byte) (o : Nat) : tlvLaneAt (l.drop o) 0 = tlvLaneAt l o := by
  simp only [tlvLaneAt, fieldBe_drop, signedBe_drop, Nat.zero_add, Nat.add_zero]

theorem tlvLaneAt_tlvLaneBytes {r : TlvLane} (h : tlvLaneFits r) (c : List Byte) : tlvLaneAt (tlvLaneBytes r ++ c) 0 = r := by
  obtain ⟨hlane, hlstat, hwlTx, hwlRx, hsigTx, hsigRx, hskew, hextTx, hextRx, happ, hsigma⟩ := h
  rw [tlvLaneBytes_append]
  simp only [tlvLaneAt, fieldBe_be_append, signedBe_be_append, Nat.reduceAdd, Nat.reduceSub, Nat.reduceLeDiff]
  rw [fieldBe_be (n := 1) hlane, fieldBe_be (n := 1) hlstat, fieldBe_be (n := 3) hwlTx, fieldBe_be (n := 3) hwlRx,
    fieldBe_be (n := 1) hsigTx, fieldBe_be (n := 1) hsigRx, signedBe_be (n := 4) rfl (by decide) hskew,
    signedBe_be (n := 4) rfl (by decide) hextTx, signedBe_be (n := 4) rfl (by decide) hextRx,
    signedBe_be (n := 8) rfl (by decide) happ, fieldBe_be (n := 4) hsigma]

/-! ### The solution block (R97) -/

/-- A lane's pair of fibre delays, as sent and as received. -/
def delayPairBytes (q : Int × Int) : List Byte := be 8 (ofSigned 64 q.1) ++ be 8 (ofSigned 64 q.2)
def delayPairAt (l : List Byte) : Int × Int := (signedBe l 0 8, signedBe l 8 8)

theorem delayPairAt_bytes {q : Int × Int} (h : fitsS 64 q.1 ∧ fitsS 64 q.2) (c : List Byte) :
    delayPairAt (delayPairBytes q ++ c) = q := by
  rw [delayPairBytes, delayPairAt, List.append_assoc, signedBe_be (n := 8) rfl (by decide) h.1, signedBe_be_append (le_refl 8),
    signedBe_be (n := 8) rfl (by decide) h.2]

/-- A solution block whose fields have the widths of R97. -/
def solutionFits (x : PlumbSolution) : Prop :=
  x.seq < 2 ^ 16 ∧ x.status < 2 ^ 8 ∧ x.pairs < 2 ^ 8 ∧ x.residual < 2 ^ 32 ∧ x.sigmaP < 2 ^ 32 ∧
    ∀ q ∈ x.lanes, fitsS 64 q.1 ∧ fitsS 64 q.2

theorem tlvSolBytes_append (x : PlumbSolution) (c : List Byte) : tlvSolBytes x ++ c =
    be 2 x.seq ++ (be 1 x.status ++ (be 1 x.pairs ++ (be 4 x.residual ++ (be 4 x.sigmaP ++
      (x.lanes.flatMap delayPairBytes ++ c))))) := by
  simp only [tlvSolBytes, List.append_assoc]
  rfl

theorem length_delayPairBytes (q : Int × Int) : (delayPairBytes q).length = 16 := by simp [delayPairBytes]

theorem length_tlvSolBytes (x : PlumbSolution) : (tlvSolBytes x).length = 12 + 16 * x.lanes.length := by
  have h := length_flatMap_records (xs := x.lanes) fun q _ => length_delayPairBytes q
  rw [← List.append_nil (tlvSolBytes x), tlvSolBytes_append]
  simp only [List.length_append, length_be, h, List.length_nil]
  omega

theorem tlvSolAt_drop (l : List Byte) (o n : Nat) : tlvSolAt (l.drop o) 0 n = tlvSolAt l o n := by
  simp only [tlvSolAt, fieldBe_drop, signedBe_drop, Nat.zero_add, Nat.add_zero, Nat.add_assoc]

theorem tlvSolAt_tlvSolBytes {x : PlumbSolution} (h : solutionFits x) (c : List Byte) :
    tlvSolAt (tlvSolBytes x ++ c) 0 x.lanes.length = x := by
  obtain ⟨hseq, hstatus, hpairs, hresidual, hsigma, hlanes⟩ := h
  have hdrop : (tlvSolBytes x ++ c).drop 12 = x.lanes.flatMap delayPairBytes ++ c := by
    rw [tlvSolBytes_append]
    simp only [← List.append_assoc]
    rw [List.append_assoc _ _ c]
    exact List.drop_left' (by simp)
  have hpair : ∀ k, (signedBe (tlvSolBytes x ++ c) (0 + 12 + 16 * k) 8, signedBe (tlvSolBytes x ++ c) (0 + 20 + 16 * k) 8) =
      delayPairAt ((x.lanes.flatMap delayPairBytes ++ c).drop (16 * k)) := fun k => by
    rw [delayPairAt, ← hdrop, signedBe_drop, signedBe_drop, signedBe_drop, signedBe_drop]
    congr 2
    omega
  have hread : (List.range x.lanes.length).map
      (fun k => (signedBe (tlvSolBytes x ++ c) (0 + 12 + 16 * k) 8, signedBe (tlvSolBytes x ++ c) (0 + 20 + 16 * k) 8)) = x.lanes := by
    simp only [hpair]
    exact map_range_records (fun q _ => length_delayPairBytes q) (fun q hq => delayPairAt_bytes (hlanes q hq)) c
  rw [tlvSolAt, hread, tlvSolBytes_append]
  simp only [fieldBe_be_append, Nat.reduceAdd, Nat.reduceSub, Nat.reduceLeDiff]
  rw [fieldBe_be (n := 2) hseq, fieldBe_be (n := 1) hstatus, fieldBe_be (n := 1) hpairs, fieldBe_be (n := 4) hresidual,
    fieldBe_be (n := 4) hsigma]

/-! ### The TLV (R97) -/

/-- The solution block where there is one. -/
def solutionBytes : Option PlumbSolution → List Byte
  | some x => tlvSolBytes x
  | none => []

/-- The TLV's first 30 bytes. -/
def tlvHead (v : VemanTlv) (c : List Byte) : List Byte :=
  be 2 3 ++ (be 2 (tlvLength v.lanes.length v.solution.isSome) ++ (be 3 v.orgId ++ (be 3 1 ++ (be 1 v.version ++ (be 1 v.flags ++
    (be 1 v.lanes.length ++ (be 1 v.plumb ++ (be 4 v.sigmaAcc ++ (be 4 v.cAcc ++ (be 6 v.winSec ++ (be 2 v.winSeq ++ c)))))))))))

theorem tlvBytes_eq (v : VemanTlv) : tlvBytes v = tlvHead v (v.lanes.flatMap tlvLaneBytes ++ solutionBytes v.solution) := by
  simp only [tlvBytes, tlvHead, List.append_assoc]
  rfl

theorem drop_tlvHead (v : VemanTlv) (c : List Byte) : (tlvHead v c).drop 30 = c := by
  simp only [tlvHead, ← List.append_assoc]
  exact List.drop_left' (by simp)

theorem length_tlvHead (v : VemanTlv) (c : List Byte) : (tlvHead v c).length = 30 + c.length := by
  simp only [tlvHead, List.length_append, length_be]
  omega

theorem length_solutionBytes {x : Option PlumbSolution} {n : Nat} (h : ∀ y, x = some y → y.lanes.length = n) :
    (solutionBytes x).length = if x.isSome then 12 + 16 * n else 0 := by
  cases x with
  | none => rfl
  | some y => rw [solutionBytes, length_tlvSolBytes, h y rfl, Option.isSome_some, if_pos rfl]

theorem tlvLength_lt {n : Nat} (h : n ≤ 8) (solution : Bool) : tlvLength n solution < 256 ^ 2 := by
  cases solution with
  | false => simp only [tlvLength, Bool.false_eq_true, if_false]; omega
  | true => simp only [tlvLength, if_true]; omega

section
variable {v : VemanTlv} (h : tlvFits v)
include h

theorem solutionFits_of_tlvFits {x : PlumbSolution} (hx : v.solution = some x) : solutionFits x ∧ x.lanes.length = v.lanes.length := by
  obtain ⟨-, -, -, -, -, -, -, -, -, -, -, -, hsol⟩ := h
  obtain ⟨hseq, hstatus, hpairs, hresidual, hsigma, hlen, hlanes⟩ := hsol x hx
  exact ⟨⟨hseq, hstatus, hpairs, hresidual, hsigma, hlanes⟩, hlen⟩

theorem length_tlvBytes : (tlvBytes v).length = 4 + tlvLength v.lanes.length v.solution.isSome := by
  rw [tlvBytes_eq, length_tlvHead, List.length_append, length_flatMap_records fun r _ => length_tlvLaneBytes r,
    length_solutionBytes fun y hy => (solutionFits_of_tlvFits h hy).2, tlvLength]
  omega

/-- The fields of the first 30 bytes. -/
theorem fieldBe_tlvHead (c : List Byte) :
    fieldBe (tlvHead v c) 0 2 = 3 ∧ fieldBe (tlvHead v c) 2 2 = tlvLength v.lanes.length v.solution.isSome ∧
      fieldBe (tlvHead v c) 4 3 = v.orgId ∧ fieldBe (tlvHead v c) 7 3 = 1 ∧ fieldBe (tlvHead v c) 10 1 = v.version ∧
      fieldBe (tlvHead v c) 11 1 = v.flags ∧ fieldBe (tlvHead v c) 12 1 = v.lanes.length ∧ fieldBe (tlvHead v c) 13 1 = v.plumb ∧
      fieldBe (tlvHead v c) 14 4 = v.sigmaAcc ∧ fieldBe (tlvHead v c) 18 4 = v.cAcc ∧ fieldBe (tlvHead v c) 22 6 = v.winSec ∧
      fieldBe (tlvHead v c) 28 2 = v.winSeq := by
  obtain ⟨horg, hversion, hflags, hplumb, hsigma, hacc, hsec, hseq, -, height, -⟩ := h
  simp only [tlvHead, fieldBe_be_append, Nat.reduceSub, Nat.reduceLeDiff]
  exact ⟨fieldBe_be (by decide), fieldBe_be (tlvLength_lt height _), fieldBe_be horg, fieldBe_be (by decide),
    fieldBe_be (by omega), fieldBe_be hflags, fieldBe_be (by omega), fieldBe_be hplumb, fieldBe_be hsigma, fieldBe_be hacc,
    fieldBe_be hsec, fieldBe_be hseq⟩

theorem lanes_tlvBytes : (List.range v.lanes.length).map (fun k => tlvLaneAt (tlvBytes v) (30 + 36 * k)) = v.lanes := by
  obtain ⟨-, -, -, -, -, -, -, -, -, -, hlanes, -⟩ := h
  have hat : ∀ k, tlvLaneAt (tlvBytes v) (30 + 36 * k) =
      tlvLaneAt ((v.lanes.flatMap tlvLaneBytes ++ solutionBytes v.solution).drop (36 * k)) 0 := fun k => by
    rw [← tlvLaneAt_drop, ← List.drop_drop, tlvBytes_eq, drop_tlvHead]
  simp only [hat]
  exact map_range_records (read := fun l => tlvLaneAt l 0) (fun r _ => length_tlvLaneBytes r)
    (fun r hr => tlvLaneAt_tlvLaneBytes (hlanes r hr)) _

theorem solution_tlvBytes : (if v.solution.isSome then
    some (tlvSolAt (tlvBytes v) (30 + 36 * v.lanes.length) v.lanes.length) else none) = v.solution := by
  cases hx : v.solution with
  | none => rfl
  | some x =>
    obtain ⟨hfits, hlen⟩ := solutionFits_of_tlvFits h hx
    have hread := tlvSolAt_tlvSolBytes hfits []
    rw [hlen, List.append_nil] at hread
    rw [Option.isSome_some, if_pos rfl, ← tlvSolAt_drop, ← List.drop_drop, tlvBytes_eq, drop_tlvHead,
      List.drop_left' (length_flatMap_records fun r _ => length_tlvLaneBytes r), hx, solutionBytes, hread]

/-- The bytes of a TLV spell it. -/
theorem tlvOf_tlvBytes : tlvOf (tlvBytes v) = some v := by
  have hlength := length_tlvBytes h
  have hlanes := lanes_tlvBytes h
  have hsolution := solution_tlvBytes h
  obtain ⟨htype, hlen, horg, hsub, hversion, hflags, hn, hplumb, hsigma, hacc, hsec, hseq⟩ := fieldBe_tlvHead h
    (v.lanes.flatMap tlvLaneBytes ++ solutionBytes v.solution)
  rw [← tlvBytes_eq] at htype hlen horg hsub hversion hflags hn hplumb hsigma hacc hsec hseq
  obtain ⟨-, -, -, -, -, -, -, -, hone, height, -, hbit, -⟩ := h
  unfold tlvOf
  simp only [htype, hlen, horg, hsub, hversion, hflags, hn, hplumb, hsigma, hacc, hsec, hseq, hbit, hlength, hlanes, hsolution]
  exact if_pos ⟨trivial, trivial, fun _ => ⟨hone, height, trivial, trivial⟩⟩

end

end Sys2Proof.Machine

/-! Link delay (R69, R88 to R109): what the operations of a port's exchange and of its windows move, and what each leaves of the
exchange. -/

namespace Sys2Proof.Machine

-- The joined text is one compile: no thread beside the main one for each proof.
set_option Elab.async false

/-! ### Work on the link of a port -/

/-- Work on a port's link: besides the parts named it moves no other port, and leaves the sequence of the port's windows and the
samples that its lanes have gathered. -/
structure LinkWork (m : List Part) (p : Nat) (s t : State) : Prop where
  frame : keepsBut m s t
  others : otherPorts p s t
  seq : (portOf t p).ld.seq = (portOf s p).ld.seq
  winN : ∀ l, (laneOf t l).ld.winN = (laneOf s l).ld.winN

namespace LinkWork

variable {m : List Part} {p : Nat}

theorem refl (m : List Part) (p : Nat) (s : State) : LinkWork m p s s := ⟨keepsBut_refl m s, fun _ _ => rfl, rfl, fun _ => rfl⟩

theorem trans {s t u : State} (h : LinkWork m p s t) (k : LinkWork m p t u) : LinkWork m p s u :=
  ⟨keepsBut_trans h.frame k.frame, otherPorts_trans h.others k.others, k.seq.trans h.seq, fun l => (k.winN l).trans (h.winN l)⟩

theorem mono {n : List Part} {s t : State} (h : LinkWork n p s t) (hm : ∀ x ∈ n, x ∈ m := by simp) : LinkWork m p s t :=
  ⟨keepsBut_mono h.frame hm, h.others, h.seq, h.winN⟩

/-- Work that touches neither ports nor lanes. -/
theorem of_frame {n : List Part} {s t : State} (h : keepsBut n s t) (hport : Part.port ∉ n := by simp)
    (hlane : Part.lane ∉ n := by simp) (hm : ∀ x ∈ n, x ∈ m := by simp) : LinkWork m p s t :=
  ⟨keepsBut_mono h hm, otherPorts_of_keepsBut h hport p, by rw [portOf_of_keepsBut h hport],
    fun l => by rw [laneOf_of_keepsBut h hlane]⟩

theorem of_exchMod (f : PortExch → PortExch) (s : State) (hm : Part.port ∈ m := by simp) : LinkWork m p s (exchMod p f s) :=
  ⟨keepsBut_mono (keepsBut_exchMod p f s) (by simpa using hm), otherPorts_portMod p _ s,
    portOf_portMod_kept (fun x => x.ld.seq) (by exact fun _ => rfl) p p s, fun _ => rfl⟩

theorem of_ldMod {f : PortLd → PortLd} (s : State) (hf : ∀ d, (f d).seq = d.seq := by exact fun _ => rfl)
    (hm : Part.port ∈ m := by simp) : LinkWork m p s (ldMod p f s) :=
  ⟨keepsBut_mono (keepsBut_ldMod p f s) (by simpa using hm), otherPorts_portMod p _ s,
    portOf_portMod_kept (fun x => x.ld.seq) (fun x => hf x.ld) p p s, fun _ => rfl⟩

theorem of_laneMod {l : Nat} {f : Lane → Lane} (s : State) (hf : ∀ x, (f x).ld.winN = x.ld.winN := by exact fun _ => rfl)
    (hm : Part.lane ∈ m := by simp) : LinkWork m p s (laneMod l f s) :=
  ⟨keepsBut_mono (keepsBut_laneMod l f s) (by simpa using hm), fun _ _ => rfl, rfl,
    fun k => vget_vmodN_kept s.lane l k {} (fun x => x.ld.winN) hf⟩

theorem of_laneLdMod {l : Nat} {f : LaneLd → LaneLd} (s : State) (hf : ∀ d, (f d).winN = d.winN := by exact fun _ => rfl)
    (hm : Part.lane ∈ m := by simp) : LinkWork m p s (laneLdMod l f s) := of_laneMod s (fun x => hf x.ld) hm

theorem of_phMod {l : Nat} (f : LanePh → LanePh) (s : State) (hm : Part.lane ∈ m := by simp) : LinkWork m p s (phMod l f s) :=
  of_laneMod s (by exact fun _ => rfl) hm

theorem of_excludeLane (l why : Nat) (s : State) (hlane : Part.lane ∈ m := by simp) (hcal : Part.cal ∈ m := by simp) :
    LinkWork m p s (excludeLane l why s) :=
  (of_laneMod s (by exact fun _ => rfl) hlane).trans (of_frame (keepsBut_convMod l _ _) (by simp) (by simp) (by simpa using hcal))

theorem of_foldl {α : Type} {f : State → α → State} (h : ∀ t x, LinkWork m p t (f t x)) (xs : List α) (s : State) :
    LinkWork m p s (xs.foldl f s) := by
  induction xs generalizing s with
  | nil => exact refl m p s
  | cons x xs ih => exact (h s x).trans (ih _)

theorem of_forEach {f : Nat → State → State} (h : ∀ l t, LinkWork m p t (f l t)) (ls : List Nat) (s : State) :
    LinkWork m p s (forEach ls f s) := of_foldl (fun t l => h l t) ls s

theorem settled {s t : State} (h : LinkWork m p s t) (hm : Part.msi ∈ m := by simp) :
    keepsBut m s (settle t) ∧ otherPorts p s (settle t) := ⟨keepsBut_done h.frame hm, otherPorts_settle h.others⟩

end LinkWork

theorem linkWork_servoAdvance {m : List Part} {p : Nat} (g : Nat) (s : State) (hm : ∀ x ∈ [Part.lane, .group, .cal], x ∈ m := by simp) :
    LinkWork m p s (servoAdvance g s) := by
  have hframe := (servoWork_servoAdvance g s).frame
  exact ⟨keepsBut_mono hframe hm, otherPorts_of_keepsBut hframe (by simp) p, by rw [portOf_of_keepsBut hframe (by simp)],
    fun l => laneOf_servoAdvance_preserved (P := fun x => x.ld.winN = (laneOf s l).ld.winN) (by exact fun _ _ h => h) g rfl⟩

theorem portOf_ldMod {p : Nat} (hp : p < 192) (f : PortLd → PortLd) (s : State) :
    portOf (ldMod p f s) p = { portOf s p with ld := f (portOf s p).ld } := portOf_portMod_same hp _ s

theorem portOf_exchMod {p : Nat} (hp : p < 192) (f : PortExch → PortExch) (s : State) :
    portOf (exchMod p f s) p = { portOf s p with exch := f (portOf s p).exch } := portOf_portMod_same hp _ s

/-! ### A TLV received (R97) -/

theorem linkWork_takeTlv (p : Nat) (l : List Byte) (s : State) : LinkWork [.port, .pc] p s (takeTlv p l s) := by
  unfold takeTlv
  split
  · exact .refl _ p s
  · split
    · exact .refl _ p s
    · split
      · exact (LinkWork.of_exchMod _ s).trans (.of_frame (keepsBut_bump 23 1 _))
      · exact .of_ldMod s

/-- Besides the count of ignored TLVs the exchange stays. -/
theorem portOf_takeTlv {p : Nat} (hp : p < 192) (l : List Byte) (s : State) : ∃ n ld, portOf (takeTlv p l s) p =
    { portOf s p with exch := { (portOf s p).exch with tlvIgnored := n }, ld := ld } := by
  unfold takeTlv
  split
  · exact ⟨_, _, rfl⟩
  · split
    · exact ⟨_, _, rfl⟩
    · split
      · exact ⟨_, _, (portOf_of_keepsBut (keepsBut_bump 23 1 _) (by simp) p).trans (portOf_exchMod hp _ s)⟩
      · exact ⟨_, _, portOf_ldMod hp _ s⟩

/-! ### Receive timestamps (R81, R82) -/

theorem fecOn_eq (s : State) (p : Nat) :
    fecOn s p = (portOf s p).anFec.getD ((Tbl.get s.par (pKey 0x101 p 0)).getD 1 != 0) := rfl

/-- A receive timestamp rests on lanes, groups, parameters and the port's FEC. -/
theorem rxStamp_of_keepsBut {n : List Part} {s t : State} {p : Nat} (h : keepsBut n s t) (hlane : Part.lane ∉ n)
    (hgroup : Part.group ∉ n) (hpar : Part.par ∉ n) (hfec : (portOf t p).anFec = (portOf s p).anFec) (m : RxMsg) :
    rxStamp t p m = rxStamp s p m := by
  have hmode : ∀ g, modeOf t g = modeOf s g := fun g => by rw [modeOf_eq, modeOf_eq, groupOf_of_keepsBut h hgroup]
  have hset : setOf t p = setOf s p := by
    unfold setOf
    rw [hmode, fecOn_eq, fecOn_eq, hfec, show t.par = s.par from h .par hpar]
  have harrival : ∀ u, arrivalAt t p u = arrivalAt s p u := fun u => by
    unfold arrivalAt
    rw [laneOf_of_keepsBut h hlane, hmode]
  have hentry : latEntry t p (setOf s p) = latEntry s p (setOf s p) := by
    unfold latEntry
    rw [laneOf_of_keepsBut h hlane]
  have hlat : rxLatOf t p = rxLatOf s p := by
    unfold rxLatOf
    rw [hset, hentry, laneOf_of_keepsBut h hlane, groupOf_of_keepsBut h hgroup]
  unfold rxStamp
  rw [harrival, hlat]

theorem rxStamp_takeTlv {p : Nat} (hp : p < 192) (l : List Byte) (s : State) (m : RxMsg) :
    rxStamp (takeTlv p l s) p m = rxStamp s p m := by
  obtain ⟨n, ld, hport⟩ := portOf_takeTlv hp l s
  exact rxStamp_of_keepsBut (linkWork_takeTlv p l s).frame (by simp) (by simp) (by simp) (by rw [hport]) m

/-! ### Messages sent (R88, R91) -/

/-- The port's EXCH mode: one-step by default on a fabric port (R88). -/
theorem par_oneStep_of_par {s t : State} (h : t.par = s.par) (p : Nat) : par t 0x118 p = par s 0x118 p := by
  have heq : ∀ u : State, par u 0x118 p = (Tbl.get u.par (pKey 0x118 p 0)).getD
      (if (Tbl.get u.par (pKey 0x102 p 0)).getD 0 == 1 then 0 else 1) := fun _ => rfl
  rw [heq, heq, h]

/-- A message as it leaves. -/
def sentMsg (kind seq : Nat) (time corr : Int) (tlv : List Byte) : SentPtp :=
  { kind := kind, seqId := seq % 65536, time := timeField time, corr := corrField corr, tlv := tlv }

/-- An event message: in one-step mode with its departure time, in two-step mode without one. -/
def sentEvent (s : State) (p kind seq : Nat) (t : Rat) (tlv : List Byte) : SentPtp :=
  if par s 0x118 p = 0 then sentMsg kind seq (splitTime t).1 (splitTime t).2 tlv else sentMsg kind seq 0 0 tlv

theorem sentEvent_kind (s : State) (p kind seq : Nat) (t : Rat) (tlv : List Byte) : (sentEvent s p kind seq t tlv).kind = kind := by
  unfold sentEvent
  split
  · rfl
  · rfl

theorem ptpEvent_eq (p kind seq : Nat) (t : Rat) (tlv : List Byte) (s : State) : ptpEvent p kind seq t tlv s =
    exchMod p (fun x => { x with sent := sentEvent s p kind seq t tlv :: x.sent }) s := by
  unfold ptpEvent sentEvent
  split
  · rfl
  · rfl

theorem linkWork_ptpSend (p kind seq : Nat) (time corr : Int) (tlv : List Byte) (s : State) :
    LinkWork [.port] p s (ptpSend p kind seq time corr tlv s) := .of_exchMod _ s

theorem linkWork_ptpEvent (p kind seq : Nat) (t : Rat) (tlv : List Byte) (s : State) :
    LinkWork [.port] p s (ptpEvent p kind seq t tlv s) := by
  rw [ptpEvent_eq]
  exact .of_exchMod _ s

section
variable {p : Nat} (hp : p < 192)
include hp

theorem exch_ptpSend (kind seq : Nat) (time corr : Int) (tlv : List Byte) (s : State) :
    (portOf (ptpSend p kind seq time corr tlv s) p).exch =
      { (portOf s p).exch with sent := sentMsg kind seq time corr tlv :: (portOf s p).exch.sent } :=
  congrArg Port.exch (portOf_exchMod hp _ s)

theorem exch_ptpEvent (kind seq : Nat) (t : Rat) (tlv : List Byte) (s : State) :
    (portOf (ptpEvent p kind seq t tlv s) p).exch =
      { (portOf s p).exch with sent := sentEvent s p kind seq t tlv :: (portOf s p).exch.sent } := by
  rw [ptpEvent_eq]
  exact congrArg Port.exch (portOf_exchMod hp _ s)

end

/-! ### The departure time of a Sync (R69, R71, R109) -/

theorem linkWork_slipLane (p l : Nat) (k : Int) (s : State) : LinkWork [.lane, .cal] p s (slipLane l k s) := .of_phMod _ s

theorem linkWork_takeAnchor (p : Nat) (m : RxMsg) (t1 : Rat) (s : State) : LinkWork [.lane, .cal] p s (takeAnchor p m t1 s) := by
  unfold takeAnchor
  extract_lets loss put
  have hput : ∀ k t, LinkWork [.lane, .cal] p t (put k t) := fun k t => .of_phMod _ t
  clear_value loss
  refine .of_forEach (fun k t => ?_) _ s
  dsimp only
  split
  · exact .refl _ p t
  · split
    · have hout : LinkWork [.lane, .cal] p t (if fusionOff t (p + k) then t else excludeLane (p + k) 7 t) := by
        split
        · exact .refl _ p t
        · exact .of_excludeLane (p + k) 7 t
      exact hout.trans ((LinkWork.of_phMod _ _).trans (.of_laneLdMod _))
    · split
      · split
        · exact (hput k t).trans (linkWork_slipLane p _ _ _)
        · exact hput k t
      · exact hput k t

/-- The windows of a stepped peer are discarded. -/
def windowsDiscarded (d : PortLd) : PortLd := { d with lastDisc := true, winDiscard := max d.winDiscard 1 }

theorem discardWindows_eq (p : Nat) (s : State) : discardWindows p s =
    ldMod p windowsDiscarded (forEach (lanesOf s p) (laneLdMod · (fun d => { d with app := none })) s) := rfl

theorem linkWork_discardWindows (p : Nat) (s : State) : LinkWork [.lane, .port] p s (discardWindows p s) := by
  rw [discardWindows_eq]
  refine LinkWork.trans (.of_forEach (fun l t => ?_) _ s) (.of_ldMod _)
  exact .of_laneLdMod t

theorem exch_discardWindows {p : Nat} (hp : p < 192) (s : State) : (portOf (discardWindows p s) p).exch = (portOf s p).exch := by
  rw [discardWindows_eq, portOf_ldMod hp, portOf_of_keepsBut (keepsBut_forEach (fun l t => keepsBut_laneLdMod l _ t) _ s) (by simp)]

/-- The exchange with t1 and t2 of a Sync. -/
def syncTaken (e : RxEvent) (t1 : Rat) (x : PortExch) : PortExch :=
  { x with t1 := some t1, t2 := some e.t, t2Lane := some e.msg.lane, sync := none }

theorem syncKnown_eq (p : Nat) (e : RxEvent) (t1 : Rat) (s : State) : syncKnown p e t1 s =
    if kindFab (exchMod p (syncTaken e t1) s) p then
      if peerStepped (exchMod p (syncTaken e t1) s) p e.msg t1 then
        discardWindows p (takeAnchor p e.msg t1 (exchMod p (syncTaken e t1) s))
      else takeAnchor p e.msg t1 (exchMod p (syncTaken e t1) s)
    else exchMod p (syncTaken e t1) s := rfl

theorem linkWork_syncKnown (p : Nat) (e : RxEvent) (t1 : Rat) (s : State) :
    LinkWork [.lane, .port, .cal] p s (syncKnown p e t1 s) := by
  rw [syncKnown_eq]
  have htaken : LinkWork [.lane, .port, .cal] p s (exchMod p (syncTaken e t1) s) := .of_exchMod _ s
  have hanchor := (linkWork_takeAnchor p e.msg t1 (exchMod p (syncTaken e t1) s)).mono (m := [.lane, .port, .cal])
  split
  · split
    · exact (htaken.trans hanchor).trans (linkWork_discardWindows p _).mono
    · exact htaken.trans hanchor
  · exact htaken

theorem exch_syncKnown {p : Nat} (hp : p < 192) (e : RxEvent) (t1 : Rat) (s : State) :
    (portOf (syncKnown p e t1 s) p).exch = syncTaken e t1 (portOf s p).exch := by
  have htaken : (portOf (exchMod p (syncTaken e t1) s) p).exch = syncTaken e t1 (portOf s p).exch :=
    congrArg Port.exch (portOf_exchMod hp _ s)
  have hanchor := portOf_of_keepsBut (linkWork_takeAnchor p e.msg t1 (exchMod p (syncTaken e t1) s)).frame (by simp) p
  rw [syncKnown_eq]
  split
  · split
    · rw [exch_discardWindows hp, hanchor, htaken]
    · rw [hanchor, htaken]
  · exact htaken

/-! ### COARSE values and path changes (R102, R107, R108) -/

theorem linkWork_setDelay (m : List Part) (p k : Nat) (blend : Bool) (lp pl : Rat) (s : State) (hm : Part.lane ∈ m := by simp) :
    LinkWork m p s (setDelay p k blend lp pl s) := by
  unfold setDelay
  exact .of_laneLdMod s (by exact fun _ => rfl) hm

theorem keepsBut_setDelay (p k : Nat) (blend : Bool) (lp pl : Rat) (s : State) : keepsBut [.lane] s (setDelay p k blend lp pl s) :=
  keepsBut_laneLdMod _ _ s

/-- Splitting a port's round trip moves its lanes, and the port's uncertainties. -/
theorem splitCoarse_eq (p : Nat) (rt : Rat) (s : State) : ∃ (a : Rat) (b : Nat) (f : State → Nat → State),
    (∀ t k, LinkWork [.lane, .port] p t (f t k) ∧ keepsBut [.lane] t (f t k)) ∧
    splitCoarse p rt s = (List.range (laneCount s p)).foldl f (ldMod p (fun d => { d with sigmaPSq := a, sigma := b }) s) := by
  refine ⟨_, _, _, fun t k => ⟨?_, ?_⟩, rfl⟩
  · exact LinkWork.trans (linkWork_setDelay _ p k false _ _ t) (.of_laneLdMod _)
  · exact keepsBut_trans (keepsBut_setDelay p k false _ _ t) (keepsBut_laneLdMod _ _ _)

theorem linkWork_splitCoarse (p : Nat) (rt : Rat) (s : State) : LinkWork [.lane, .port] p s (splitCoarse p rt s) := by
  obtain ⟨a, b, f, hf, heq⟩ := splitCoarse_eq p rt s
  rw [heq]
  exact LinkWork.trans (.of_ldMod s) (.of_foldl (fun t k => (hf t k).1) _ _)

theorem portOf_splitCoarse {p : Nat} (hp : p < 192) (rt : Rat) (s : State) : ∃ a b, portOf (splitCoarse p rt s) p =
    { portOf s p with ld := { (portOf s p).ld with sigmaPSq := a, sigma := b } } := by
  obtain ⟨a, b, f, hf, heq⟩ := splitCoarse_eq p rt s
  exact ⟨a, b, by rw [heq, portOf_of_keepsBut (keepsBut_foldl f (fun t k => (hf t k).2) _ _) (by simp), portOf_ldMod hp]⟩

/-- The delay state after a path change (R107, R108). -/
def pathState (d : Nat) : Nat := if d = 2 ∨ d = 3 then 4 else d

/-- The exchange without the round trips before a path change. -/
def pathForgets (x : PortExch) : PortExch := { x with rts := [], suspect := false }

/-- A path change up to its COARSE values. -/
theorem pathChange_eq (p : Nat) (s : State) : ∃ u, LinkWork [.lane, .port, .cald, .host, .mb, .pc] p s u ∧
    (p < 192 → (portOf u p).exch = pathForgets (portOf s p).exch ∧
      (portOf u p).ld.dstate = pathState (portOf s p).ld.dstate) ∧
    (pathChange p s = u ∨ ∃ rt, pathChange p s = splitCoarse p rt u) := by
  unfold pathChange
  extract_lets s₁ s₂ s₃ s₄ s₅
  have h₁ : LinkWork [.lane, .port, .cald, .host, .mb, .pc] p s s₁ := .of_forEach (fun l t => .of_laneLdMod t) _ s
  have h₂ : LinkWork [.lane, .port, .cald, .host, .mb, .pc] p s₁ s₂ := .of_exchMod _ s₁
  have h₃ : LinkWork [.lane, .port, .cald, .host, .mb, .pc] p s₂ s₃ := .of_ldMod s₂
  have hevent : keepsBut [.mb, .host, .pc] s₃ s₄ := keepsBut_issueEvent _ _ _ s₃
  have hcal : keepsBut [.cald] s₄ s₅ := keepsBut_calMod _ s₄
  have h₅ : LinkWork [.lane, .port, .cald, .host, .mb, .pc] p s₃ s₅ := (LinkWork.of_frame hevent).trans (.of_frame hcal)
  have hport : p < 192 → (portOf s₅ p).exch = pathForgets (portOf s p).exch ∧
      (portOf s₅ p).ld.dstate = pathState (portOf s p).ld.dstate := fun hp => by
    have hs₁ : portOf s₁ p = portOf s p := portOf_of_keepsBut (keepsBut_forEach (fun l t => keepsBut_laneLdMod l _ t) _ s) (by simp) p
    rw [portOf_of_keepsBut hcal (by simp), portOf_of_keepsBut hevent (by simp), portOf_ldMod hp, portOf_exchMod hp, hs₁]
    exact ⟨rfl, rfl⟩
  refine ⟨s₅, h₁.trans (h₂.trans (h₃.trans h₅)), hport, ?_⟩
  split
  · split
    · exact .inr ⟨_, rfl⟩
    · exact .inl rfl
  · exact .inl rfl

theorem linkWork_pathChange (p : Nat) (s : State) : LinkWork [.lane, .port, .cald, .host, .mb, .pc] p s (pathChange p s) := by
  obtain ⟨u, hu, -, heq | ⟨rt, heq⟩⟩ := pathChange_eq p s
  · rwa [heq]
  · rw [heq]
    exact hu.trans (linkWork_splitCoarse p rt u).mono

/-- A path change forgets the round trips, and VALID and HELD become REMEASURE. -/
theorem portOf_pathChange {p : Nat} (hp : p < 192) (s : State) :
    (portOf (pathChange p s) p).exch = pathForgets (portOf s p).exch ∧
      (portOf (pathChange p s) p).ld.dstate = pathState (portOf s p).ld.dstate := by
  obtain ⟨u, -, hport, heq | ⟨rt, heq⟩⟩ := pathChange_eq p s
  · rw [heq]
    exact hport hp
  · obtain ⟨a, b, hsplit⟩ := portOf_splitCoarse hp rt u
    rw [heq, hsplit]
    exact hport hp

theorem keepsBut_plumbEvent (p : Nat) (old s : State) : keepsBut [.mb, .host, .pc] s (plumbEvent p old s) := by
  unfold plumbEvent
  extract_lets a b
  split
  · exact keepsBut_refl _ s
  · exact keepsBut_issueEvent _ _ _ s

end Sys2Proof.Machine

/-! The two-way exchange (R69, R88 to R93, R97, R107): completed exchanges, and the statement about the messages received. -/

namespace Sys2Proof.Machine

-- The joined text is one compile: no thread beside the main one for each proof.
set_option Elab.async false

/-! ### A completed exchange (R93, R107) -/

theorem par_outlier_eq (s : State) (p : Nat) : par s 0x139 p = (Tbl.get s.par (pKey 0x139 p 0)).getD 1048576 := rfl

/-- A round trip beyond the outlier limit of the mean (R93). -/
def roundTripOff (s : State) (p : Nat) (rt : Rat) : Bool :=
  !(portOf s p).exch.rts.isEmpty && decide ((par s 0x139 p : Rat) < absQ (rt - meanQ (portOf s p).exch.rts))

/-- The exchange counted; a first outlier kept as a suspect; a round trip taken. -/
def exchCounted (x : PortExch) : PortExch := { x with exchanges := x.exchanges + 1 }
def exchSuspect (x : PortExch) : PortExch := { x with suspect := true, outliers := x.outliers + 1 }
def exchTaken (rt : Rat) (x : PortExch) : PortExch := { x with suspect := false, rts := (rt :: x.rts).take 64, rtLast := some rt }

/-- The exchange's round trip taken, after a path change where it is a second outlier. -/
def roundTripTaken (p : Nat) (rt : Rat) (s : State) : State :=
  exchMod p (exchTaken rt) (if roundTripOff s p rt then pathChange p (exchMod p exchCounted s) else exchMod p exchCounted s)

/-- The mean of the round trips; with the first one NONE ends (R107). -/
def delayMeasured (p : Nat) (s : State) : State := ldMod p (fun d => { d with
  rtMean := roundAway (meanQ (portOf s p).exch.rts), dstate := if d.dstate = 0 then 1 else d.dstate
  plumb := if d.dstate = 0 ∧ kindFab s p then (plumbJudge s p []).1 else d.plumb }) s

/-- Where no window gives lane delays, the round trip does (R102). -/
def coarseSplit (p : Nat) (rt : Rat) (s : State) : State :=
  if (portOf s p).ld.dstate = 1 ∨ (portOf s p).ld.dstate = 4 ∨ !kindFab s p then splitCoarse p rt s else s

/-- The exchange done: a first outlier is discarded, every other round trip measures the delay. -/
theorem exchangeDone_eq (p : Nat) (rt : Rat) (s : State) : exchangeDone p rt s =
    if roundTripOff s p rt && !(portOf s p).exch.suspect then bump 25 1 (exchMod p exchSuspect (exchMod p exchCounted s))
    else plumbEvent p s (servoAdvance (p / 8) (coarseSplit p rt (delayMeasured p (roundTripTaken p rt s)))) := rfl

theorem linkWork_roundTripTaken (p : Nat) (rt : Rat) (s : State) :
    LinkWork [.lane, .port, .cald, .host, .mb, .pc] p s (roundTripTaken p rt s) := by
  have hcount : LinkWork [.lane, .port, .cald, .host, .mb, .pc] p s (exchMod p exchCounted s) := .of_exchMod _ s
  unfold roundTripTaken
  refine LinkWork.trans ?_ (.of_exchMod _ _)
  split
  · exact hcount.trans (linkWork_pathChange p _)
  · exact hcount

theorem linkWork_coarseSplit (p : Nat) (rt : Rat) (s : State) : LinkWork [.lane, .port] p s (coarseSplit p rt s) := by
  unfold coarseSplit
  split
  · exact linkWork_splitCoarse p rt s
  · exact .refl _ p s

theorem linkWork_exchangeDone (p : Nat) (rt : Rat) (s : State) :
    LinkWork [.lane, .group, .port, .cal, .cald, .host, .mb, .pc] p s (exchangeDone p rt s) := by
  rw [exchangeDone_eq]
  split
  · exact (LinkWork.of_exchMod _ s).trans ((LinkWork.of_exchMod _ _).trans (.of_frame (keepsBut_bump 25 1 _)))
  · have hmeasured : LinkWork [.lane, .group, .port, .cal, .cald, .host, .mb, .pc] p (roundTripTaken p rt s)
        (delayMeasured p (roundTripTaken p rt s)) := .of_ldMod _
    exact ((linkWork_roundTripTaken p rt s).mono.trans hmeasured).trans ((linkWork_coarseSplit p rt _).mono.trans
      ((linkWork_servoAdvance _ _).trans (.of_frame (keepsBut_plumbEvent p s _))))

section
variable {p : Nat} (hp : p < 192) {rt : Rat} {s : State}
include hp

theorem exch_exchCounted : (portOf (exchMod p exchCounted s) p).exch = exchCounted (portOf s p).exch :=
  congrArg Port.exch (portOf_exchMod hp _ s)

/-- A first outlier leaves the round trips, and is a suspect. -/
theorem exch_exchangeDone_off (hoff : roundTripOff s p rt = true) (hsuspect : (portOf s p).exch.suspect = false) :
    (portOf (exchangeDone p rt s) p).exch = exchSuspect (exchCounted (portOf s p).exch) := by
  rw [exchangeDone_eq, if_pos (by simp [hoff, hsuspect]), portOf_of_keepsBut (keepsBut_bump 25 1 _) (by simp),
    portOf_exchMod hp, exch_exchCounted hp]

theorem exch_roundTripTaken : (portOf (roundTripTaken p rt s) p).exch = exchTaken rt
    (if roundTripOff s p rt then pathForgets (exchCounted (portOf s p).exch) else exchCounted (portOf s p).exch) := by
  rw [roundTripTaken, portOf_exchMod hp]
  split
  · rw [(portOf_pathChange hp _).1, exch_exchCounted hp]
  · rw [exch_exchCounted hp]

theorem portOf_coarseSplit : ∃ a b, portOf (coarseSplit p rt s) p =
    { portOf s p with ld := { (portOf s p).ld with sigmaPSq := a, sigma := b } } := by
  unfold coarseSplit
  split
  · exact portOf_splitCoarse hp rt s
  · exact ⟨_, _, rfl⟩

/-- The port after a round trip that is taken. -/
theorem portOf_exchangeDone (htaken : ¬(roundTripOff s p rt = true ∧ (portOf s p).exch.suspect = false)) :
    (portOf (exchangeDone p rt s) p).exch = (portOf (roundTripTaken p rt s) p).exch ∧
      (portOf (exchangeDone p rt s) p).ld.dstate =
        if (portOf (roundTripTaken p rt s) p).ld.dstate = 0 then 1 else (portOf (roundTripTaken p rt s) p).ld.dstate := by
  obtain ⟨a, b, hsplit⟩ := portOf_coarseSplit hp (rt := rt) (s := delayMeasured p (roundTripTaken p rt s))
  rw [exchangeDone_eq, if_neg (by simpa using htaken), portOf_of_keepsBut (keepsBut_plumbEvent p s _) (by simp),
    portOf_of_keepsBut (servoWork_servoAdvance _ _).frame (by simp), hsplit, delayMeasured, portOf_ldMod hp]
  exact ⟨rfl, rfl⟩

/-- Whatever becomes of its round trip, an exchange is counted, and leaves what is outstanding. -/
theorem exch_exchangeDone_kept : ∃ (suspect : Bool) (outliers : Nat) (rts : List Rat) (last : Option Rat),
    (portOf (exchangeDone p rt s) p).exch = { exchCounted (portOf s p).exch with
      suspect := suspect, outliers := outliers, rts := rts, rtLast := last } := by
  by_cases hoff : roundTripOff s p rt = true ∧ (portOf s p).exch.suspect = false
  · exact ⟨_, _, _, _, exch_exchangeDone_off hp hoff.1 hoff.2⟩
  · rw [(portOf_exchangeDone hp hoff).1, exch_roundTripTaken hp]
    split
    · exact ⟨_, _, _, _, rfl⟩
    · exact ⟨_, _, _, _, rfl⟩

/-- The first round trip of a port (R107). -/
theorem exchangeDone_first (hrts : (portOf s p).exch.rts = []) :
    (portOf (exchangeDone p rt s) p).exch.rtLast = some rt ∧ (portOf (exchangeDone p rt s) p).exch.rts = [rt] ∧
      ((portOf s p).ld.dstate = 0 → (portOf (exchangeDone p rt s) p).ld.dstate = 1) := by
  have hoff : roundTripOff s p rt = false := by simp [roundTripOff, hrts]
  obtain ⟨hexch, hstate⟩ := portOf_exchangeDone hp (rt := rt) (s := s) (by simp [hoff])
  have hld : (portOf (roundTripTaken p rt s) p).ld = (portOf s p).ld := by
    rw [roundTripTaken, hoff, portOf_exchMod hp, if_neg (by simp), portOf_exchMod hp]
  rw [hexch, exch_roundTripTaken hp, hoff, hstate, hld, if_neg (by simp)]
  refine ⟨rfl, ?_, fun h => if_pos h⟩
  simp [exchTaken, exchCounted, hrts]

end

/-! ### Messages of the master (R69, R88) -/

section
variable {p : PortIx} {s : State}

section
variable {m : RxMsg} {x : Rat} (hon : exchOn s p.val = true) (hslave : asSlave s p.val = true)
include hon hslave

theorem exec_ptpSyncReceive (hx : rxStamp s p.val m = some x) : exec (.ptpSyncReceive p m) s = .next (settle
    (if m.twoStep then exchMod p.val (fun e => { e with sync := some { msg := m, t := x } }) (takeTlv p.val m.tlv s)
      else syncKnown p.val { msg := m, t := x } (peerTime m.origin m.corr) (takeTlv p.val m.tlv s))) := by
  show execPtpSyncReceive p m s = _
  unfold execPtpSyncReceive
  extract_lets n u
  rw [if_pos (by simp [n, hon, hslave]), show rxStamp u n m = some x from (rxStamp_takeTlv p.isLt m.tlv s m).trans hx]
  dsimp only
  split
  · rfl
  · rfl

/-- A Sync is timestamped; a one-step one gives its departure time. -/
theorem ptpSyncReceive_stamps (hx : rxStamp s p.val m = some x) :
    ∃ t, exec (.ptpSyncReceive p m) s = .next t ∧ keepsBut [.lane, .port, .cal, .msi, .pc] s t ∧ otherPorts p.val s t ∧
      (m.twoStep = true → (portOf t p.val).exch.sync = some { msg := m, t := x } ∧
        (portOf t p.val).exch.t1 = (portOf s p.val).exch.t1) ∧
      (m.twoStep = false → (portOf t p.val).exch.t1 = some (peerTime m.origin m.corr) ∧ (portOf t p.val).exch.t2 = some x) := by
  have hexec := exec_ptpSyncReceive hon hslave hx
  have htlv := (linkWork_takeTlv p.val m.tlv s).mono (m := [.lane, .port, .cal, .msi, .pc])
  obtain ⟨n, ld, hport⟩ := portOf_takeTlv p.isLt m.tlv s
  cases htwo : m.twoStep with
  | true =>
    rw [htwo, if_pos rfl] at hexec
    obtain ⟨hframe, hothers⟩ := (htlv.trans (.of_exchMod (fun e => { e with sync := some { msg := m, t := x } }) _)).settled
    refine ⟨_, hexec, hframe, hothers, fun _ => ?_, nofun⟩
    rw [portOf_settle, portOf_exchMod p.isLt, hport]
    exact ⟨rfl, rfl⟩
  | false =>
    rw [htwo, if_neg (by simp)] at hexec
    obtain ⟨hframe, hothers⟩ := (htlv.trans (linkWork_syncKnown p.val { msg := m, t := x } _ _).mono).settled
    refine ⟨_, hexec, hframe, hothers, nofun, fun _ => ?_⟩
    rw [portOf_settle, exch_syncKnown p.isLt]
    exact ⟨rfl, rfl⟩

end

section
variable {seqId : Nat} {e : RxEvent} (origin corr tlv : List Byte) (hon : exchOn s p.val = true)
  (hslave : asSlave s p.val = true) (hsync : (portOf s p.val).exch.sync = some e) (hseq : e.msg.seqId = seqId)
include hon hslave hsync hseq

theorem exec_ptpFollowUpReceive : exec (.ptpFollowUpReceive p seqId origin corr tlv) s =
    .next (settle (syncKnown p.val e (peerTime origin corr) (takeTlv p.val tlv s))) := by
  obtain ⟨n, ld, hport⟩ := portOf_takeTlv p.isLt tlv s
  have hsame : (portOf (takeTlv p.val tlv s) p.val).exch.sync = some e := by rw [hport]; exact hsync
  show execPtpFollowUpReceive p seqId origin corr tlv s = _
  unfold execPtpFollowUpReceive
  extract_lets n u
  rw [if_pos (by simp [n, hon, hslave]), show (portOf u n).exch.sync = some e from hsame]
  exact if_pos hseq

/-- The Follow_Up gives the departure time of its Sync. -/
theorem ptpFollowUpReceive_gives :
    ∃ t, exec (.ptpFollowUpReceive p seqId origin corr tlv) s = .next t ∧ keepsBut [.lane, .port, .cal, .msi, .pc] s t ∧
      otherPorts p.val s t ∧ (portOf t p.val).exch.t1 = some (peerTime origin corr) ∧
      (portOf t p.val).exch.t2 = some e.t ∧ (portOf t p.val).exch.sync = none := by
  obtain ⟨hframe, hothers⟩ := ((linkWork_takeTlv p.val tlv s).mono (m := [.lane, .port, .cal, .msi, .pc]) |>.trans
    (linkWork_syncKnown p.val e (peerTime origin corr) _).mono).settled
  refine ⟨_, exec_ptpFollowUpReceive origin corr tlv hon hslave hsync hseq, hframe, hothers, ?_⟩
  rw [portOf_settle, exch_syncKnown p.isLt]
  exact ⟨rfl, rfl, rfl⟩

end

/-! ### Requests answered (R91, R92) -/

section
variable {m : RxMsg} {x : Rat} (hon : exchOn s p.val = true) (hx : rxStamp s p.val m = some x)
include hon hx

theorem exec_ptpDelayReqReceive (hmaster : asMaster s p.val = true) : exec (.ptpDelayReqReceive p m) s = .next (settle
    (ptpSend p.val 3 m.seqId (splitTime x).1 (wireCorr m.corr - (splitTime x).2) [] (takeTlv p.val m.tlv s))) := by
  show execPtpDelayReqReceive p m s = _
  unfold execPtpDelayReqReceive
  extract_lets n u
  rw [if_pos (by simp [n, hon, hmaster]), show rxStamp u n m = some x from (rxStamp_takeTlv p.isLt m.tlv s m).trans hx]
  rfl

/-- A Delay_Req is answered with its receive time. -/
theorem ptpDelayReqReceive_answers (hmaster : asMaster s p.val = true) :
    ∃ t, exec (.ptpDelayReqReceive p m) s = .next t ∧ keepsBut [.port, .msi, .pc] s t ∧ otherPorts p.val s t ∧
      (portOf t p.val).exch.sent =
        { kind := 3, seqId := m.seqId % 65536, time := timeField (splitTime x).1
          corr := corrField (wireCorr m.corr - (splitTime x).2), tlv := [] } :: (portOf s p.val).exch.sent := by
  obtain ⟨n, ld, hport⟩ := portOf_takeTlv p.isLt m.tlv s
  obtain ⟨hframe, hothers⟩ := ((linkWork_takeTlv p.val m.tlv s).mono (m := [.port, .msi, .pc]) |>.trans
    (linkWork_ptpSend p.val 3 m.seqId (splitTime x).1 (wireCorr m.corr - (splitTime x).2) [] _).mono).settled
  refine ⟨_, exec_ptpDelayReqReceive hon hx hmaster, hframe, hothers, ?_⟩
  rw [portOf_settle, exch_ptpSend p.isLt, hport]
  rfl

theorem exec_pdelayReqReceive (tx : TxStamp) (has : asAs s p.val = true) : exec (.pdelayReqReceive p m tx) s = .next (settle
    (ptpSend p.val 6 m.seqId (splitTime (txStamp s p.val tx)).1 (splitTime (txStamp s p.val tx)).2 []
      (ptpSend p.val 5 m.seqId (splitTime x).1 (wireCorr m.corr - (splitTime x).2) [] s))) := by
  show execPdelayReqReceive p m tx s = _
  unfold execPdelayReqReceive
  extract_lets n
  rw [if_pos (by simp [n, hon, has]), show rxStamp s n m = some x from hx]
  rfl

/-- A Pdelay_Req is answered with its receive time, and with the departure time of that answer. -/
theorem pdelayReqReceive_answers (tx : TxStamp) (has : asAs s p.val = true) :
    ∃ t, exec (.pdelayReqReceive p m tx) s = .next t ∧ keepsBut [.port, .msi] s t ∧ otherPorts p.val s t ∧
      (portOf t p.val).exch.sent =
        { kind := 6, seqId := m.seqId % 65536, time := timeField (splitTime (txStamp s p.val tx)).1
          corr := corrField (splitTime (txStamp s p.val tx)).2, tlv := [] } ::
        { kind := 5, seqId := m.seqId % 65536, time := timeField (splitTime x).1
          corr := corrField (wireCorr m.corr - (splitTime x).2), tlv := [] } :: (portOf s p.val).exch.sent := by
  obtain ⟨hframe, hothers⟩ := ((linkWork_ptpSend p.val 5 m.seqId (splitTime x).1 (wireCorr m.corr - (splitTime x).2) [] s).mono
    (m := [.port, .msi]) |>.trans (linkWork_ptpSend p.val 6 m.seqId _ _ [] _).mono).settled
  refine ⟨_, exec_pdelayReqReceive hon hx tx has, hframe, hothers, ?_⟩
  rw [portOf_settle, exch_ptpSend p.isLt, exch_ptpSend p.isLt]
  rfl

end

/-! ### Answers received (R92, R93) -/

/-- The round trip of an exchange (R93). -/
def roundTrip (rx corr : List Byte) (t1 t2 t3 : Rat) : Rat := ((wireTime rx : Rat) - (wireCorr corr : Rat) * 16 - t1) - (t3 - t2)

section
variable {seqId : Nat} (rx corr : List Byte) {t1 t2 t3 : Rat} (hon : exchOn s p.val = true) (hslave : asSlave s p.val = true)
  (ht3 : (portOf s p.val).exch.t3 = some (seqId, t3)) (ht1 : (portOf s p.val).exch.t1 = some t1)
  (ht2 : (portOf s p.val).exch.t2 = some t2)
include hon hslave ht3 ht1 ht2

theorem exec_ptpDelayRespReceive : exec (.ptpDelayRespReceive p seqId rx corr) s = .next (settle
    (exchangeDone p.val (roundTrip rx corr t1 t2 t3) (exchMod p.val (fun x => { x with t3 := none }) s))) := by
  show execPtpDelayRespReceive p seqId rx corr s = _
  unfold execPtpDelayRespReceive
  extract_lets n x
  rw [if_pos (by simp [n, hon, hslave]), show x.t3 = some (seqId, t3) from ht3, show x.t1 = some t1 from ht1,
    show x.t2 = some t2 from ht2]
  exact if_pos rfl

/-- A Delay_Resp completes the exchange. -/
theorem ptpDelayRespReceive_completes :
    ∃ t, exec (.ptpDelayRespReceive p seqId rx corr) s = .next t ∧
      keepsBut [.lane, .group, .port, .cal, .cald, .host, .msi, .mb, .pc] s t ∧ otherPorts p.val s t ∧
      (portOf t p.val).exch.exchanges = (portOf s p.val).exch.exchanges + 1 ∧ (portOf t p.val).exch.t3 = none ∧
      ((portOf s p.val).exch.rts = [] → (portOf t p.val).exch.rtLast = some (roundTrip rx corr t1 t2 t3) ∧
        (portOf t p.val).exch.rts = [roundTrip rx corr t1 t2 t3] ∧
        ((portOf s p.val).ld.dstate = 0 → (portOf t p.val).ld.dstate = 1)) ∧
      ((portOf s p.val).exch.rts ≠ [] → (portOf s p.val).exch.suspect = false →
        (par s 0x139 p.val : Rat) < absQ (roundTrip rx corr t1 t2 t3 - meanQ (portOf s p.val).exch.rts) →
        (portOf t p.val).exch.rts = (portOf s p.val).exch.rts ∧ (portOf t p.val).exch.suspect = true ∧
        (portOf t p.val).exch.outliers = (portOf s p.val).exch.outliers + 1) := by
  have hexec := exec_ptpDelayRespReceive rx corr hon hslave ht3 ht1 ht2
  generalize roundTrip rx corr t1 t2 t3 = rt at hexec
  have hport := portOf_exchMod p.isLt (fun x => { x with t3 := none }) s
  have hpar : par (exchMod p.val (fun x => { x with t3 := none }) s) 0x139 p.val = par s 0x139 p.val := by
    rw [par_outlier_eq, par_outlier_eq]
    rfl
  have hbegun : LinkWork [.lane, .group, .port, .cal, .cald, .host, .msi, .mb, .pc] p.val s
      (exchMod p.val (fun x => { x with t3 := none }) s) := .of_exchMod _ s
  generalize exchMod p.val (fun x => { x with t3 := none }) s = u at hexec hport hpar hbegun
  obtain ⟨hframe, hothers⟩ := (hbegun.trans (linkWork_exchangeDone p.val rt u).mono).settled
  obtain ⟨suspect, outliers, rts, last, hexch⟩ := exch_exchangeDone_kept p.isLt (rt := rt) (s := u)
  refine ⟨_, hexec, hframe, hothers, ?_, ?_, fun hrts => ?_, fun hrts hsuspect hlimit => ?_⟩
  · rw [portOf_settle, hexch, hport]
    rfl
  · rw [portOf_settle, hexch, hport]
    rfl
  · have hfirst := exchangeDone_first p.isLt (rt := rt) (s := u) (by rw [hport]; exact hrts)
    rwa [hport] at hfirst
  · have hoff : roundTripOff u p.val rt = true := by
      rw [roundTripOff, hpar, hport]
      simpa [hrts] using hlimit
    rw [portOf_settle, exch_exchangeDone_off p.isLt hoff (by rw [hport]; exact hsuspect), hport]
    exact ⟨rfl, rfl, rfl⟩

end

/-- The neighbour's rate that two responses give (R92). -/
def neighbourRate (prev : Option (Rat × Rat)) (t3 t4 : Rat) : Rat :=
  match prev with
  | some (a, b) => if t4 = b then 1 else (t3 - a) / (t4 - b)
  | none => 1

section
variable {m : RxMsg} (respTx corr : List Byte) {t1 t4 : Rat} (hon : exchOn s p.val = true) (has : asAs s p.val = true)
  (hpd : (portOf s p.val).exch.pd1 = some (m.seqId, t1)) (hx : rxStamp s p.val m = some t4)

/-- The peer's own interval between request and response. -/
def peerInterval (m : RxMsg) (t3 : Rat) : Rat := t3 - ((wireTime m.origin : Rat) - wireCorr m.corr * 16)

/-- The departure of a Pdelay_Resp. -/
def respDeparture (respTx corr : List Byte) : Rat := (wireTime respTx : Rat) + wireCorr corr * 16

/-- The exchange with a peer delay measured. -/
def peerDelayTaken (rt t3 t4 : Rat) (x : PortExch) : PortExch := { x with
  pd1 := none, pdelay := some (rt / 2), pdPrev := some (t3, t4) }

/-- The round trip to the neighbour, at its rate. -/
def peerRoundTrip (prev : Option (Rat × Rat)) (m : RxMsg) (t1 t3 t4 : Rat) : Rat :=
  neighbourRate prev t3 t4 * (t4 - t1) - peerInterval m t3

include hon has hpd hx

theorem exec_pdelayRespReceive : exec (.pdelayRespReceive p m respTx corr) s = .next (settle
    (exchangeDone p.val (peerRoundTrip (portOf s p.val).exch.pdPrev m t1 (respDeparture respTx corr) t4)
      (exchMod p.val (peerDelayTaken (peerRoundTrip (portOf s p.val).exch.pdPrev m t1 (respDeparture respTx corr) t4)
        (respDeparture respTx corr) t4) s))) := by
  show execPdelayRespReceive p m respTx corr s = _
  unfold execPdelayRespReceive
  extract_lets n t3
  rw [if_pos (by simp [n, hon, has]), show (portOf s n).exch.pd1 = some (m.seqId, t1) from hpd,
    show rxStamp s n m = some t4 from hx]
  exact if_pos rfl

/-- A Pdelay_Resp gives the peer delay. -/
theorem pdelayRespReceive_measures :
    ∃ t, exec (.pdelayRespReceive p m respTx corr) s = .next t ∧
      keepsBut [.lane, .group, .port, .cal, .cald, .host, .msi, .mb, .pc] s t ∧ otherPorts p.val s t ∧
      (portOf t p.val).exch.pd1 = none ∧ (portOf t p.val).exch.pdPrev = some (respDeparture respTx corr, t4) ∧
      (portOf t p.val).exch.pdelay =
        some (peerRoundTrip (portOf s p.val).exch.pdPrev m t1 (respDeparture respTx corr) t4 / 2) := by
  have hexec := exec_pdelayRespReceive respTx corr hon has hpd hx
  generalize peerRoundTrip (portOf s p.val).exch.pdPrev m t1 (respDeparture respTx corr) t4 = rt at hexec
  generalize respDeparture respTx corr = t3 at hexec
  have hbegun : LinkWork [.lane, .group, .port, .cal, .cald, .host, .msi, .mb, .pc] p.val s
      (exchMod p.val (peerDelayTaken rt t3 t4) s) := .of_exchMod _ s
  obtain ⟨hframe, hothers⟩ := (hbegun.trans (linkWork_exchangeDone p.val rt _).mono).settled
  obtain ⟨suspect, outliers, rts, last, hexch⟩ := exch_exchangeDone_kept p.isLt (rt := rt)
    (s := exchMod p.val (peerDelayTaken rt t3 t4) s)
  refine ⟨_, hexec, hframe, hothers, ?_⟩
  rw [portOf_settle, hexch, portOf_exchMod p.isLt]
  exact ⟨rfl, rfl, rfl⟩

end

end

/-- Settles O15: the messages of the two-way exchange, its completion, the peer delay, and the TLV's bytes. -/
theorem twoWayExchange : Obligations.TwoWayExchange := by
  unfold Obligations.TwoWayExchange
  refine ⟨⟨fun p m x s => ptpSyncReceive_stamps, fun p seqId origin corr tlv e s => ptpFollowUpReceive_gives origin corr tlv⟩,
    fun p m x s hon hx => ⟨ptpDelayReqReceive_answers hon hx, pdelayReqReceive_answers hon hx⟩,
    ⟨fun p seqId rx corr t1 t2 t3 s => ptpDelayRespReceive_completes rx corr, fun p m respTx corr t1 t4 s hon has hpd hx => ?_⟩,
    fun v hv => ⟨tlvOf_tlvBytes hv, length_tlvBytes hv⟩⟩
  obtain ⟨t, hexec, hframe, hothers, hpd1, hprev, hpdelay⟩ := pdelayRespReceive_measures respTx corr hon has hpd hx
  refine ⟨t, hexec, hframe, hothers, hpd1, hprev, fun hnone => ?_, fun a b hsome hb => ?_⟩
  · rw [hpdelay, hnone, peerRoundTrip, neighbourRate, one_mul]
    rfl
  · rw [hpdelay, hsome, peerRoundTrip, neighbourRate, if_neg hb]
    rfl

end Sys2Proof.Machine

/-! Exchange intervals, measurement windows and path changes (R87 to R109): what ends at a whole second and what a module's change
brings, and the statement about them. -/

namespace Sys2Proof.Machine

-- The joined text is one compile: no thread beside the main one for each proof.
set_option Elab.async false

/-! ### The message interval (R87, R88, R91, R92) -/

section
variable {p : PortIx} {s : State} (tx : TxStamp)

/-- The TLV that a fabric port's messages carry. -/
def carriedTlv (s : State) (p : Nat) : List Byte := if kindFab s p then tlvBytes (ownTlv s p) else []

/-- The part of a departure time that a one-step message carries. -/
def carried (s : State) (p : Nat) (tx : TxStamp) : Rat := if par s 0x118 p = 0 then (splitTime (txStamp s p tx)).2 * 16 else 0

/-- The exchange with its next Sync, Pdelay_Req or Delay_Req under way. -/
def syncNext (x : PortExch) : PortExch := { x with syncSeq := (x.syncSeq + 1) % 65536 }
def pdelayNext (lane : Fin 8) (t : Rat) (x : PortExch) : PortExch :=
  { x with pd1 := some (x.pdelaySeq, t), pd1Lane := some lane, pdelaySeq := (x.pdelaySeq + 1) % 65536 }
def delayNext (lane : Fin 8) (t : Rat) (x : PortExch) : PortExch :=
  { x with t3 := some (x.delaySeq, t), t3Lane := some lane, delaySeq := (x.delaySeq + 1) % 65536 }

/-- The port with its next Sync sent. -/
def syncSent (p : Nat) (tx : TxStamp) (s : State) : State :=
  ptpEvent p 0 (portOf s p).exch.syncSeq (txStamp s p tx) (carriedTlv s p) (exchMod p syncNext s)

variable (hon : exchOn s p.val = true)
include hon

theorem exec_ptpInterval_sync (h : asMaster s p.val = true ∨ asAs s p.val = true) : exec (.ptpInterval p false tx) s =
    .next (settle (if par (syncSent p.val tx s) 0x118 p.val = 0 then syncSent p.val tx s
      else ptpSend p.val 1 (portOf s p.val).exch.syncSeq (splitTime (txStamp s p.val tx)).1 (splitTime (txStamp s p.val tx)).2
        (carriedTlv s p.val) (syncSent p.val tx s))) := by
  show execPtpInterval p false tx s = _
  unfold execPtpInterval
  extract_lets n x t tlv carried u
  rw [if_neg (by simp [n, hon]), if_neg (by simp), if_pos (by simpa [n] using h)]
  split
  · next h0 => rw [if_pos (show par (syncSent p.val tx s) 0x118 p.val = 0 from h0)]; rfl
  · next h0 => rw [if_neg (show ¬par (syncSent p.val tx s) 0x118 p.val = 0 from h0)]; rfl

theorem exec_ptpInterval_pdelayReq (has : asAs s p.val = true) : exec (.ptpInterval p true tx) s = .next (settle
    (ptpEvent p.val 4 (portOf s p.val).exch.pdelaySeq (txStamp s p.val tx) []
      (exchMod p.val (pdelayNext tx.lane (txStamp s p.val tx - carried s p.val tx)) s))) := by
  show execPtpInterval p true tx s = _
  unfold execPtpInterval
  rw [if_neg (by simp [hon]), if_pos rfl, if_pos has]
  rfl

theorem exec_ptpInterval_delayReq (has : asAs s p.val = false) (hslave : asSlave s p.val = true) :
    exec (.ptpInterval p true tx) s = .next (settle
      (ptpEvent p.val 2 (portOf s p.val).exch.delaySeq (txStamp s p.val tx) (carriedTlv s p.val)
        (exchMod p.val (delayNext tx.lane (txStamp s p.val tx - carried s p.val tx)) s))) := by
  show execPtpInterval p true tx s = _
  unfold execPtpInterval
  rw [if_neg (by simp [hon]), if_pos rfl, if_neg (by simp [has]), if_pos hslave]
  rfl

omit hon in
theorem linkWork_syncSent : LinkWork [.port] p.val s (syncSent p.val tx s) :=
  (LinkWork.of_exchMod syncNext s).trans (linkWork_ptpEvent _ _ _ _ _ _)

omit hon in
theorem exch_syncSent : (portOf (syncSent p.val tx s) p.val).exch = { (portOf s p.val).exch with
    syncSeq := ((portOf s p.val).exch.syncSeq + 1) % 65536
    sent := sentEvent (exchMod p.val syncNext s) p.val 0 (portOf s p.val).exch.syncSeq (txStamp s p.val tx) (carriedTlv s p.val) ::
      (portOf s p.val).exch.sent } := by
  rw [syncSent, exch_ptpEvent p.isLt, portOf_exchMod p.isLt]
  rfl

/-- The next Sync, and its Follow_Up in two-step mode. -/
theorem ptpInterval_sends_sync (h : asMaster s p.val = true ∨ asAs s p.val = true) :
    ∃ t, exec (.ptpInterval p false tx) s = .next t ∧ keepsBut [.port, .msi] s t ∧ otherPorts p.val s t ∧
      (portOf t p.val).exch.syncSeq = ((portOf s p.val).exch.syncSeq + 1) % 65536 ∧
      (par s 0x118 p.val = 0 → (portOf t p.val).exch.sent.map (fun m => m.kind) =
        0 :: (portOf s p.val).exch.sent.map (fun m => m.kind)) ∧
      (par s 0x118 p.val ≠ 0 → (portOf t p.val).exch.sent.map (fun m => m.kind) =
        1 :: 0 :: (portOf s p.val).exch.sent.map (fun m => m.kind)) ∧
      ((portOf t p.val).exch.sent.head?.map (fun m => (m.seqId, m.time, m.corr)) =
        some ((portOf s p.val).exch.syncSeq % 65536, timeField (splitTime (txStamp s p.val tx)).1,
          corrField (splitTime (txStamp s p.val tx)).2)) := by
  have hexec := exec_ptpInterval_sync tx hon h
  have hsent := (linkWork_syncSent (p := p) (s := s) tx).mono (m := [.port, .msi])
  have hexch := exch_syncSent (p := p) (s := s) tx
  have hpar : par (syncSent p.val tx s) 0x118 p.val = par s 0x118 p.val := par_oneStep_of_par (hsent.frame .par (by simp)) _
  have hevent : par (exchMod p.val syncNext s) 0x118 p.val = par s 0x118 p.val := par_oneStep_of_par rfl _
  rw [hpar] at hexec
  by_cases hone : par s 0x118 p.val = 0
  · rw [if_pos hone] at hexec
    refine ⟨_, hexec, hsent.settled.1, hsent.settled.2, ?_⟩
    rw [portOf_settle, hexch, sentEvent, hevent, if_pos hone]
    exact ⟨rfl, fun _ => rfl, fun h => absurd hone h, rfl⟩
  · rw [if_neg hone] at hexec
    obtain ⟨hframe, hothers⟩ := (hsent.trans (linkWork_ptpSend p.val 1 (portOf s p.val).exch.syncSeq
      (splitTime (txStamp s p.val tx)).1 (splitTime (txStamp s p.val tx)).2 (carriedTlv s p.val) _).mono).settled
    refine ⟨_, hexec, hframe, hothers, ?_⟩
    rw [portOf_settle, exch_ptpSend p.isLt, hexch]
    refine ⟨rfl, fun h => absurd h hone, fun _ => ?_, rfl⟩
    rw [List.map_cons, List.map_cons, sentEvent_kind]
    rfl

/-- The next Pdelay_Req. -/
theorem ptpInterval_sends_pdelayReq (has : asAs s p.val = true) :
    ∃ t, exec (.ptpInterval p true tx) s = .next t ∧ keepsBut [.port, .msi] s t ∧ otherPorts p.val s t ∧
      (par s 0x118 p.val ≠ 0 → (portOf t p.val).exch.pd1 = some ((portOf s p.val).exch.pdelaySeq, txStamp s p.val tx)) ∧
      (par s 0x118 p.val = 0 → (portOf t p.val).exch.pd1 =
        some ((portOf s p.val).exch.pdelaySeq, txStamp s p.val tx - (splitTime (txStamp s p.val tx)).2 * 16)) ∧
      (portOf t p.val).exch.sent.head?.map (fun m => m.kind) = some 4 := by
  have hbegun : LinkWork [.port, .msi] p.val s
      (exchMod p.val (pdelayNext tx.lane (txStamp s p.val tx - carried s p.val tx)) s) := .of_exchMod _ s
  obtain ⟨hframe, hothers⟩ := (hbegun.trans (linkWork_ptpEvent p.val 4 (portOf s p.val).exch.pdelaySeq
    (txStamp s p.val tx) [] _).mono).settled
  refine ⟨_, exec_ptpInterval_pdelayReq tx hon has, hframe, hothers, ?_⟩
  rw [portOf_settle, exch_ptpEvent p.isLt, portOf_exchMod p.isLt]
  refine ⟨fun h => ?_, fun h => ?_, congrArg some (sentEvent_kind _ _ _ _ _ _)⟩
  · rw [carried, if_neg h, sub_zero]
    rfl
  · rw [carried, if_pos h]
    rfl

/-- The next Delay_Req. -/
theorem ptpInterval_sends_delayReq (has : asAs s p.val = false) (hslave : asSlave s p.val = true) :
    ∃ t, exec (.ptpInterval p true tx) s = .next t ∧ keepsBut [.port, .msi] s t ∧ otherPorts p.val s t ∧
      (par s 0x118 p.val ≠ 0 → (portOf t p.val).exch.t3 = some ((portOf s p.val).exch.delaySeq, txStamp s p.val tx)) ∧
      (par s 0x118 p.val = 0 → (portOf t p.val).exch.t3 =
        some ((portOf s p.val).exch.delaySeq, txStamp s p.val tx - (splitTime (txStamp s p.val tx)).2 * 16)) ∧
      (portOf t p.val).exch.sent.head?.map (fun m => m.kind) = some 2 := by
  have hbegun : LinkWork [.port, .msi] p.val s
      (exchMod p.val (delayNext tx.lane (txStamp s p.val tx - carried s p.val tx)) s) := .of_exchMod _ s
  obtain ⟨hframe, hothers⟩ := (hbegun.trans (linkWork_ptpEvent p.val 2 (portOf s p.val).exch.delaySeq
    (txStamp s p.val tx) (carriedTlv s p.val) _).mono).settled
  refine ⟨_, exec_ptpInterval_delayReq tx hon has hslave, hframe, hothers, ?_⟩
  rw [portOf_settle, exch_ptpEvent p.isLt, portOf_exchMod p.isLt]
  refine ⟨fun h => ?_, fun h => ?_, congrArg some (sentEvent_kind _ _ _ _ _ _)⟩
  · rw [carried, if_neg h, sub_zero]
    rfl
  · rw [carried, if_pos h]
    rfl

end

/-! ### The whole second (R39, R527) -/

theorem keepsBut_latchClaims (s : State) : keepsBut [.te] s (latchClaims s) := by
  unfold latchClaims
  split
  · exact keepsBut_refl _ s
  · intro x hx
    cases x <;> first | rfl | exact ⟨rfl, rfl, rfl⟩ | simp at hx

theorem keepsBut_withClk (c : Clock) (s : State) : keepsBut [.clk] s { s with clk := c } := by
  intro x hx
  cases x <;> first | rfl | exact ⟨rfl, rfl, rfl⟩ | simp at hx

theorem keepsBut_advance (d : Nat) (s : State) : keepsBut [.clk] s (advance d s) := keepsBut_withClk _ s

theorem keepsBut_ahead (d : Nat) (s : State) : keepsBut [.clk, .te] s (ahead d s) := by
  unfold ahead
  split
  · exact keepsBut_then (keepsBut_advance _ s) (keepsBut_withClk _ _) (by simp) (by simp)
  · exact keepsBut_then (keepsBut_then (n := [.clk, .te]) (keepsBut_advance d s) (keepsBut_latchClaims _) (by simp) (by simp))
      (keepsBut_withClk _ _) (by simp) (by simp)

theorem keepsBut_atSecond (s : State) : keepsBut [.clk, .te] s (atSecond s) := by
  unfold atSecond
  split
  · exact keepsBut_refl _ s
  · exact keepsBut_ahead _ s

theorem ahead_now {s : State} (hk : s.clk.kettle = false) (d : Nat) : (ahead d s).clk.now = (s.clk.now + d) % timeSpan := by
  unfold ahead
  rw [if_neg (by simp [hk])]
  exact congrArg Clock.now (keepsBut_latchClaims (advance d s) .clk (by simp))

/-- While an engine supplies the time clock, the action falls on the second itself. -/
theorem atSecond_now {s : State} (hk : s.clk.kettle = false) : (atSecond s).clk.now % uSec = 0 := by
  unfold atSecond
  by_cases h : firstEdgeAt (s.clk.now % uSec) s = true
  · rw [if_pos h]
    simpa [firstEdgeAt, hk] using h
  · rw [if_neg h, ahead_now hk, timeSpan, Nat.mod_mul_left_mod]
    have hlt : s.clk.now % uSec < uSec := Nat.mod_lt _ (by decide)
    rw [← Nat.mod_add_mod, Nat.add_sub_cancel' hlt.le, Nat.mod_self]

/-! ### The end of a window (R95) -/

/-- A lane's window ends, and a new one begins. -/
def windowBegun (whole : Bool) (d : LaneLd) : LaneLd := { d with
  appPrev := d.app, app := if whole then winResult d else none
  winN := 0, winSum := 0, winSq := 0, winBad := false }

/-- A lane whose samples count for the window. -/
def wholeLane (disc : Bool) (s : State) (l : Nat) : Bool := (laneOf s l).st == .ready && (laneOf s l).ph.anchor.isSome && !disc

/-- The port's own counts of its windows. -/
def windowCounted (now : Nat) (disc : Bool) (d : PortLd) : PortLd := { d with
  prevSec := d.winSec, prevDisc := d.lastDisc, lastDisc := disc
  winSec := secOf now, winSeq := (d.winSeq + 1) % 65536, winDiscard := d.winDiscard - 1 }

/-- Each lane of a port begins a window. -/
def lanesBegun (p : Nat) (s : State) : State :=
  forEach (lanesOf s p) (fun l t => laneLdMod l (windowBegun (wholeLane (decide (0 < (portOf s p).ld.winDiscard)) t l)) t) s

theorem windowClose_eq (p : Nat) (s : State) : windowClose p s =
    ldMod p (windowCounted (lanesBegun p s).clk.now (decide (0 < (portOf s p).ld.winDiscard))) (lanesBegun p s) := rfl

theorem keepsBut_lanesBegun (p : Nat) (s : State) : keepsBut [.lane] s (lanesBegun p s) :=
  keepsBut_forEach (fun l t => keepsBut_laneLdMod l _ t) _ s

theorem windowClose_frame (p : Nat) (s : State) : keepsBut [.lane, .port] s (windowClose p s) ∧ otherPorts p s (windowClose p s) := by
  rw [windowClose_eq]
  have hlanes := keepsBut_lanesBegun p s
  exact ⟨keepsBut_then hlanes (keepsBut_ldMod p _ _) (by simp) (by simp),
    otherPorts_trans (otherPorts_of_keepsBut hlanes (by simp) p) (otherPorts_portMod p _ _)⟩

theorem portOf_windowClose {p : Nat} (hp : p < 192) (s : State) : ∃ now, portOf (windowClose p s) p =
    { portOf s p with ld := windowCounted now (decide (0 < (portOf s p).ld.winDiscard)) (portOf s p).ld } :=
  ⟨_, by rw [windowClose_eq, portOf_ldMod hp, portOf_of_keepsBut (keepsBut_lanesBegun p s) (by simp)]⟩

theorem windowClose_winN {p l : Nat} {s : State} (hm : l ∈ lanesOf s p) (hl : l < 192) :
    (laneOf (windowClose p s) l).ld.winN = 0 := by
  rw [windowClose_eq]
  refine laneOf_forEach_mem (P := fun x => x.ld.winN = 0) (I := fun _ => True) (fun k t => otherLanes_laneMod k _ t)
    (fun _ _ _ => trivial) (fun t _ => ?_) trivial (.inl hm)
  exact congrArg (fun x : Lane => x.ld.winN) (laneOf_laneMod_same hl _ t)

/-! ### A window judged (R99 to R108) -/

theorem linkWork_windowEmpty (p : Nat) (s : State) : LinkWork [.port] p s (windowEmpty p s) := by
  unfold windowEmpty
  exact .of_ldMod s

theorem linkWork_solveOwn (p : Nat) (l : List RtLane) (s : State) : LinkWork [.lane, .port] p s (solveOwn p l s) := by
  unfold solveOwn
  extract_lets sfb bias
  split
  extract_lets _ u
  refine LinkWork.trans ?_ (.of_ldMod u)
  refine .of_foldl (fun t x => ?_) l s
  exact LinkWork.trans (linkWork_setDelay _ p x.k true _ _ t) (.of_laneLdMod _)

theorem linkWork_solvePeer (p : Nat) (l : List RtLane) (s : State) : LinkWork [.lane, .port] p s (solvePeer p l s) := by
  unfold solvePeer
  split
  · refine LinkWork.trans (.of_foldl (fun t x => ?_) l s) (.of_ldMod _)
    split
    · exact LinkWork.trans (linkWork_setDelay _ p x.k true _ _ t) (.of_laneLdMod _)
    · exact .refl _ p t
  · refine LinkWork.trans (.of_foldl (fun t x => ?_) l s) (.of_ldMod _)
    exact LinkWork.trans (linkWork_setDelay _ p x.k true _ _ t) (.of_laneLdMod _)

theorem linkWork_selfSpan (p : Nat) (l : List RtLane) (latest : Bool) (s : State) : LinkWork [.port] p s (selfSpan p l latest s) := by
  unfold selfSpan
  split
  · exact .of_ldMod s
  · exact .refl _ p s

/-- The parts that a window's work moves. -/
def windowParts : List Part := [.lane, .group, .port, .cald, .host, .mb, .pc]

theorem linkWork_windowUse (p : Nat) (latest : Bool) (l : List RtLane) (s : State) :
    LinkWork windowParts p s (windowUse p latest l s) := by
  unfold windowUse
  extract_lets used s₁ step moved s₂ s₃ s₄ s₅
  have h₁ : LinkWork windowParts p s s₁ := .of_ldMod s (hm := by simp [windowParts])
  split
  · exact h₁.trans ((linkWork_pathChange p s₁).mono (by simp [windowParts]))
  · have h₂ : LinkWork windowParts p s₁ s₂ := .of_foldl (fun t x => .of_laneLdMod t (hm := by simp [windowParts])) l s₁
    have h₃ : LinkWork windowParts p s₂ s₃ := by
      simp only [s₃]
      split
      · exact (linkWork_solveOwn p l s₂).mono (by simp [windowParts])
      · exact (linkWork_solvePeer p l s₂).mono (by simp [windowParts])
    have h₄ : LinkWork windowParts p s₃ s₄ := (linkWork_selfSpan p l latest s₃).mono (by simp [windowParts])
    have h₅ : LinkWork windowParts p s₄ s₅ := by
      simp only [s₅]
      split
      · exact .refl _ p s₄
      · exact .of_ldMod s₄ (hm := by simp [windowParts])
    refine (h₁.trans (h₂.trans (h₃.trans (h₄.trans h₅)))).trans ?_
    split
    · exact .of_frame (keepsBut_servoMod _ _ s₅) (hm := by simp [windowParts])
    · exact .refl _ p s₅

/-- What the window just closed gives the port. -/
def windowJudged (p : Nat) (s : State) : State :=
  if (portOf s p).ld.dstate = 0 then s
  else match pairedWindow s p with
    | some latest => if (roundTrips s p latest).isEmpty then windowEmpty p s else windowUse p latest (roundTrips s p latest) s
    | none => if (portOf s p).ld.lastDisc || (portOf s p).ld.prevDisc then s else windowEmpty p s

theorem linkWork_windowJudged (p : Nat) (s : State) : LinkWork windowParts p s (windowJudged p s) := by
  have hempty : LinkWork windowParts p s (windowEmpty p s) := (linkWork_windowEmpty p s).mono (by simp [windowParts])
  unfold windowJudged
  split
  · exact .refl _ p s
  · split
    · split
      · exact hempty
      · exact linkWork_windowUse p _ _ s
    · split
      · exact .refl _ p s
      · exact hempty

theorem windowJudged_none {p : Nat} {s : State} (h : (portOf s p).ld.dstate = 0) : windowJudged p s = s := if_pos h

/-- Without a peer's half no window pairs. -/
theorem windowJudged_unpaired {p : Nat} {s : State} (hstate : (portOf s p).ld.dstate ≠ 0) (hpeer : (portOf s p).ld.peer = none)
    (hlast : (portOf s p).ld.lastDisc = false) (hprev : (portOf s p).ld.prevDisc = false) :
    windowJudged p s = windowEmpty p s := by
  have hpair : pairedWindow s p = none := by
    unfold pairedWindow
    extract_lets d
    rw [show d.peer = none from hpeer]
  rw [windowJudged, if_neg hstate, hpair]
  exact if_neg (by simp [hlast, hprev])

theorem windowEmpty_held {p : Nat} (hp : p < 192) {s : State} (h : (portOf s p).ld.dstate = 2) :
    (portOf (windowEmpty p s) p).ld.dstate = 3 := by
  rw [windowEmpty, portOf_ldMod hp]
  exact if_pos h

/-- The next window has the parameters as they stand. -/
def configured (p : Nat) (s : State) : State := ldMod p (fun d => { d with cfg := ldCfgNow s p }) s

theorem windowLatch_eq (p : Nat) (s : State) : windowLatch p s =
    if samePath (portOf s p).ld.cfg (ldCfgNow s p) ∨ (portOf s p).ld.cfg = [] then configured p s
    else forEach (lanesOf (configured p s) p) (laneLdMod · (fun d => { d with rtPrev := none, rtHist := [] })) (configured p s) := rfl

theorem linkWork_windowLatch (p : Nat) (s : State) : LinkWork [.lane, .port] p s (windowLatch p s) := by
  have hconf : LinkWork [.lane, .port] p s (configured p s) := .of_ldMod s
  rw [windowLatch_eq]
  split
  · exact hconf
  · refine hconf.trans (.of_forEach (fun l t => ?_) _ _)
    exact .of_laneLdMod t

theorem portOf_windowLatch {p : Nat} (hp : p < 192) (s : State) : portOf (windowLatch p s) p =
    { portOf s p with ld := { (portOf s p).ld with cfg := ldCfgNow s p } } := by
  have hconf : portOf (configured p s) p = _ := portOf_ldMod hp _ s
  rw [windowLatch_eq]
  split
  · exact hconf
  · exact (portOf_of_keepsBut (keepsBut_forEach (fun l t => keepsBut_laneLdMod l _ t) _ _) (by simp) p).trans hconf

theorem keepsBut_ldReport (p : Nat) (s : State) : keepsBut [.group] s (ldReport p s) := keepsBut_groupMod _ _ s

/-- The result of a window counted. -/
def resultCounted (p : Nat) (s : State) : State := ldMod p (fun d => { d with
  valid := true, seq := (d.seq + 1) % 4096, solver := solves s p, selfSpan := isSelfSpan s p }) s

/-- A window judged, with the next one's parameters. -/
def windowTurned (p : Nat) (s : State) : State := windowLatch p (windowJudged p s)

/-- What follows a window: its report, and the servo that a delay lets go on. -/
def windowReported (p : Nat) (old s : State) : State := plumbEvent p old (servoAdvance (p / 8) (ldReport p s))

theorem linkWork_windowTurned (p : Nat) (s : State) : LinkWork windowParts p s (windowTurned p s) :=
  (linkWork_windowJudged p s).trans ((linkWork_windowLatch p _).mono (by simp [windowParts]))

theorem linkWork_windowReported (p : Nat) (old s : State) :
    LinkWork [.lane, .group, .cal, .host, .mb, .pc] p s (windowReported p old s) :=
  (LinkWork.of_frame (keepsBut_ldReport p s)).trans
    ((linkWork_servoAdvance _ _).trans (.of_frame (keepsBut_plumbEvent p old _)))

theorem portOf_windowReported (p : Nat) (old s : State) : portOf (windowReported p old s) p = portOf s p := by
  rw [windowReported, portOf_of_keepsBut (keepsBut_plumbEvent p old _) (by simp),
    portOf_of_keepsBut (servoWork_servoAdvance _ _).frame (by simp), portOf_of_keepsBut (keepsBut_ldReport p s) (by simp)]

/-- The window that ends at the second, with its result counted. -/
def windowEnded (p : Nat) (s : State) : State := resultCounted p (windowTurned p (windowClose p (atSecond s)))

/-- The delay state of a port whose window has been judged. -/
theorem windowTurned_dstate {p : Nat} (hp : p < 192) (s : State) :
    (portOf (windowTurned p s) p).ld.dstate = (portOf (windowJudged p s) p).ld.dstate := by
  rw [windowTurned, portOf_windowLatch hp]

section
variable {p : Nat} (hp : p < 192) (s : State)
include hp

theorem portOf_resultCounted : portOf (resultCounted p s) p = { portOf s p with ld := { (portOf s p).ld with
    valid := true, seq := ((portOf s p).ld.seq + 1) % 4096, solver := solves s p, selfSpan := isSelfSpan s p } } :=
  portOf_ldMod hp _ s

/-- The port at the end of its window. -/
theorem windowEnded_ld : (portOf (windowEnded p s) p).ld.valid = true ∧
    (portOf (windowEnded p s) p).ld.seq = ((portOf s p).ld.seq + 1) % 4096 ∧
    (portOf (windowEnded p s) p).ld.dstate = (portOf (windowJudged p (windowClose p (atSecond s))) p).ld.dstate := by
  have hsecond := portOf_of_keepsBut (keepsBut_atSecond s) (by simp) p
  obtain ⟨now, hclose⟩ := portOf_windowClose hp (atSecond s)
  rw [windowEnded, portOf_resultCounted hp, (linkWork_windowTurned p _).seq, hclose, hsecond]
  exact ⟨rfl, rfl, windowTurned_dstate hp _⟩

end

theorem windowEnded_frame (p : Nat) (s : State) :
    keepsBut [.clk, .te, .lane, .group, .port, .cald, .host, .mb, .pc] s (windowEnded p s) ∧ otherPorts p s (windowEnded p s) ∧
      (windowEnded p s).clk = (atSecond s).clk := by
  have hsecond := keepsBut_atSecond s
  obtain ⟨hclose, hports⟩ := windowClose_frame p (atSecond s)
  have hturned := linkWork_windowTurned p (windowClose p (atSecond s))
  have hcounted : keepsBut [.port] _ (windowEnded p s) := keepsBut_ldMod p _ (windowTurned p (windowClose p (atSecond s)))
  have hwindow : keepsBut windowParts (atSecond s) (windowEnded p s) :=
    keepsBut_trans (keepsBut_mono hclose (by simp [windowParts])) (keepsBut_trans hturned.frame
      (keepsBut_mono hcounted (by simp [windowParts])))
  exact ⟨keepsBut_then hsecond hwindow (by simp) (by simp [windowParts]),
    otherPorts_trans (otherPorts_of_keepsBut hsecond (by simp) p)
      (otherPorts_trans hports (otherPorts_trans hturned.others (otherPorts_portMod p _ _))),
    hwindow .clk (by simp [windowParts])⟩

theorem windowEnded_winN {p l : Nat} {s : State} (hm : l ∈ lanesOf s p) (hl : l < 192) :
    (laneOf (windowEnded p s) l).ld.winN = 0 := by
  have hlanes : lanesOf (atSecond s) p = lanesOf s p :=
    lanesOf_of_mode (by rw [modeOf_eq, modeOf_eq, groupOf_of_keepsBut (keepsBut_atSecond s) (by simp)])
  exact ((linkWork_windowTurned p (windowClose p (atSecond s))).winN l).trans (windowClose_winN (hlanes ▸ hm) hl)

/-- In NONE a window leaves the delay state. -/
theorem windowEnded_none {p : Nat} (hp : p < 192) {s : State} (h : (portOf s p).ld.dstate = 0) :
    (portOf (windowEnded p s) p).ld.dstate = 0 := by
  obtain ⟨now, hclose⟩ := portOf_windowClose hp (atSecond s)
  rw [portOf_of_keepsBut (keepsBut_atSecond s) (by simp)] at hclose
  have hclosed : (portOf (windowClose p (atSecond s)) p).ld.dstate = 0 := by
    rw [hclose]
    exact h
  rw [(windowEnded_ld hp s).2.2, windowJudged_none hclosed, hclosed]

/-- In VALID a window without the peer's half holds the delay. -/
theorem windowEnded_held {p : Nat} (hp : p < 192) {s : State} (h : (portOf s p).ld.dstate = 2) (hpeer : (portOf s p).ld.peer = none)
    (hdiscard : (portOf s p).ld.winDiscard = 0) (hlast : (portOf s p).ld.lastDisc = false) :
    (portOf (windowEnded p s) p).ld.dstate = 3 := by
  obtain ⟨now, hclose⟩ := portOf_windowClose hp (atSecond s)
  rw [portOf_of_keepsBut (keepsBut_atSecond s) (by simp), hdiscard] at hclose
  have hclosed : (portOf (windowClose p (atSecond s)) p).ld.dstate = 2 := by
    rw [hclose]
    exact h
  have hunpaired : windowJudged p (windowClose p (atSecond s)) = windowEmpty p (windowClose p (atSecond s)) :=
    windowJudged_unpaired (by rw [hclosed]; decide) (by rw [hclose]; exact hpeer) (by rw [hclose]; rfl) (by rw [hclose]; exact hlast)
  rw [(windowEnded_ld hp s).2.2, hunpaired, windowEmpty_held hp hclosed]

section
variable {p : PortIx} {s : State} (hused : portUsed s p.val = true) (hfab : kindFab s p.val = true)
  (hlive : groupLive s (p.val / 8) = true)
include hused hfab hlive

theorem exec_ldWindowEnd : exec (.ldWindowEnd p) s = .next (settle (windowReported p.val s
    (windowEnded p.val s))) := by
  show execLdWindowEnd p s = _
  rw [execLdWindowEnd, if_pos (by simp [hused, hfab, hlive])]
  rfl

/-- The end of a window. -/
theorem ldWindowEnd_ends :
    ∃ t, exec (.ldWindowEnd p) s = .next t ∧ keepsBut [.clk, .te, .lane, .group, .port, .cal, .cald, .host, .msi, .mb, .pc] s t ∧
      otherPorts p.val s t ∧ (s.clk.kettle = false → t.clk.now % uSec = 0) ∧ (portOf t p.val).ld.valid = true ∧
      (portOf t p.val).ld.seq = ((portOf s p.val).ld.seq + 1) % 4096 ∧
      (∀ l ∈ lanesOf s p.val, l < 192 → (laneOf t l).ld.winN = 0) ∧
      ((portOf s p.val).ld.dstate = 0 → (portOf t p.val).ld.dstate = 0) ∧
      ((portOf s p.val).ld.dstate = 2 → (portOf s p.val).ld.peer = none → (portOf s p.val).ld.winDiscard = 0 →
        (portOf s p.val).ld.lastDisc = false → (portOf t p.val).ld.dstate = 3) := by
  have hexec := exec_ldWindowEnd hused hfab hlive
  obtain ⟨hframe, hothers, hclk⟩ := windowEnded_frame p.val s
  obtain ⟨hvalid, hseq, -⟩ := windowEnded_ld p.isLt s
  have hreported := linkWork_windowReported p.val s (windowEnded p.val s)
  have hport := portOf_windowReported p.val s (windowEnded p.val s)
  refine ⟨_, hexec, ?_, ?_, fun hk => ?_, ?_, ?_, fun l hm hl => ?_, fun h => ?_, fun h hpeer hdiscard hlast => ?_⟩
  · exact keepsBut_done (keepsBut_then hframe hreported.frame (by simp) (by simp)) (by simp)
  · exact otherPorts_settle (otherPorts_trans hothers hreported.others)
  · rw [settle_clk, show (windowReported p.val s (windowEnded p.val s)).clk = _ from hreported.frame .clk (by simp), hclk,
      atSecond_now hk]
  · rw [portOf_settle, hport, hvalid]
  · rw [portOf_settle, hport, hseq]
  · rw [laneOf_settle, hreported.winN, windowEnded_winN hm hl]
  · rw [portOf_settle, hport, windowEnded_none p.isLt h]
  · rw [portOf_settle, hport, windowEnded_held p.isLt h hpeer hdiscard hlast]

end

/-! ### Another module (R94, R108) -/

/-- A lane's wavelengths as the module reports them. -/
def reported (lasers : List WlReport) (k : Nat) : Option ModuleWl :=
  (lasers[k]?).map (fun w => { wlTx := w.wlTx, wlRx := w.wlRx, sigTx := w.sigTx, sigRx := w.sigRx })

/-- The wavelengths of a port's first lanes read. -/
def wavesRead (p : Nat) (lasers : List WlReport) (ks : List Nat) (s : State) : State :=
  ks.foldl (fun t k => laneLdMod (p + k) (fun d => { d with module := reported lasers k }) t) s

theorem keepsBut_wavesRead (p : Nat) (lasers : List WlReport) (ks : List Nat) (s : State) :
    keepsBut [.lane] s (wavesRead p lasers ks s) := keepsBut_foldl _ (fun t _ => keepsBut_laneLdMod _ _ t) ks s

theorem wavesRead_module {p k : Nat} (hk : p + k < 192) {lasers : List WlReport} {ks : List Nat} {s : State}
    (h : k ∈ ks ∨ (laneOf s (p + k)).ld.module = reported lasers k) :
    (laneOf (wavesRead p lasers ks s) (p + k)).ld.module = reported lasers k := by
  induction ks generalizing s with
  | nil => exact h.resolve_left (by simp)
  | cons j ks ih =>
    refine ih ?_
    by_cases hj : k = j
    · subst hj
      exact .inr (congrArg (fun x : Lane => x.ld.module) (laneOf_laneMod_same hk _ s))
    · refine h.imp (fun h => (List.mem_cons.mp h).resolve_left hj) fun h => ?_
      exact (congrArg (fun x : Lane => x.ld.module) (laneOf_laneMod_other (show p + k ≠ p + j by omega) _ s)).trans h

/-- The module as it shows itself now. -/
def moduleTaken (ident : Nat) (bidi : Bool) (d : PortLd) : PortLd := { d with lastModule := some ident, bidi := bidi }

section
variable {p : PortIx} {ident : Nat} (bidi : Bool) (lasers : List WlReport) {s : State}

/-- The port after the path change that another module is; the first module is none. -/
def moduleChanged (p : Nat) (s : State) : State := if (portOf s p).ld.lastModule.isSome then pathChange p s else s

theorem linkWork_moduleChanged (p : Nat) (s : State) :
    LinkWork [.lane, .port, .cald, .host, .mb, .pc] p s (moduleChanged p s) := by
  unfold moduleChanged
  split
  · exact linkWork_pathChange p s
  · exact .refl _ p s

theorem exec_moduleChange (hused : portUsed s p.val = true) (hnew : (portOf s p.val).ld.lastModule ≠ some ident) :
    exec (.moduleChange p ident bidi lasers) s = .next (settle (wavesRead p.val lasers (List.range (laneCount s p.val))
      (ldMod p.val (moduleTaken ident bidi) (moduleChanged p.val s)))) := by
  have hmode := groupOf_of_keepsBut (linkWork_moduleChanged p.val s).frame (by simp) (p.val / 8)
  have hcount : laneCount (ldMod p.val (moduleTaken ident bidi) (moduleChanged p.val s)) p.val = laneCount s p.val :=
    laneCount_of_mode (by rw [modeOf_eq, modeOf_eq, ← hmode]; rfl)
  show execModuleChange p ident bidi lasers s = _
  rw [execModuleChange, if_neg (by simp [hused, hnew]), ← hcount]
  rfl

/-- Another module is a path change, and its wavelengths are taken. -/
theorem moduleChange_changes (hused : portUsed s p.val = true) (hnew : (portOf s p.val).ld.lastModule ≠ some ident) :
    ∃ t, exec (.moduleChange p ident bidi lasers) s = .next t ∧ keepsBut [.lane, .port, .cald, .host, .msi, .mb, .pc] s t ∧
      otherPorts p.val s t ∧ (portOf t p.val).ld.lastModule = some ident ∧ (portOf t p.val).ld.bidi = bidi ∧
      ((portOf s p.val).ld.lastModule ≠ none → (portOf s p.val).ld.dstate = 2 → (portOf t p.val).ld.dstate = 4) ∧
      ((portOf s p.val).ld.lastModule = none → (portOf t p.val).ld.dstate = (portOf s p.val).ld.dstate) ∧
      ∀ k, k < laneCount s p.val → p.val + k < 192 → (laneOf t (p.val + k)).ld.module =
        (lasers[k]?).map (fun w => { wlTx := w.wlTx, wlRx := w.wlRx, sigTx := w.sigTx, sigRx := w.sigRx }) := by
  have hexec := exec_moduleChange bidi lasers hused hnew
  have hchanged := (linkWork_moduleChanged p.val s).mono (m := [.lane, .port, .cald, .host, .msi, .mb, .pc])
  have htaken := portOf_ldMod p.isLt (moduleTaken ident bidi) (moduleChanged p.val s)
  have hwork := hchanged.trans (.of_ldMod (f := moduleTaken ident bidi) _)
  generalize ldMod p.val (moduleTaken ident bidi) (moduleChanged p.val s) = u at hexec htaken hwork
  have hread := keepsBut_wavesRead p.val lasers (List.range (laneCount s p.val)) u
  have hport := (portOf_of_keepsBut hread (by simp) p.val).trans htaken
  refine ⟨_, hexec, ?_, ?_, ?_, ?_, fun hsome h => ?_, fun hnone => ?_, fun k hk hl => ?_⟩
  · exact keepsBut_done (keepsBut_then hwork.frame hread (fun _ h => h) (by simp)) (by simp)
  · exact otherPorts_settle (otherPorts_trans hwork.others (otherPorts_of_keepsBut hread (by simp) _))
  · rw [portOf_settle, hport]
    rfl
  · rw [portOf_settle, hport]
    rfl
  · have hstate := (portOf_pathChange p.isLt s).2
    rw [h] at hstate
    rw [portOf_settle, hport, moduleChanged, if_pos (Option.isSome_iff_ne_none.mpr hsome)]
    exact hstate
  · rw [portOf_settle, hport, moduleChanged, if_neg (by simp [hnone])]
    rfl
  · rw [laneOf_settle]
    exact wavesRead_module hl (.inl (List.mem_range.mpr hk))

end

/-- Settles O16: the messages of an interval, the end of a window, and the change of a module. -/
theorem linkDelay : Obligations.LinkDelay := by
  unfold Obligations.LinkDelay
  exact ⟨fun p tx s hon => ⟨ptpInterval_sends_sync tx hon, ptpInterval_sends_pdelayReq tx hon, ptpInterval_sends_delayReq tx hon⟩,
    fun p s => ldWindowEnd_ends, fun p ident bidi lasers s => moduleChange_changes bidi lasers⟩

end Sys2Proof.Machine

/-! Engines and references (R112 to R145): what the updates of an engine, of a reference and of a view leave, and what a change of
a reference's state does. -/

namespace Sys2Proof.Machine

-- The joined text is one compile: no thread beside the main one for each proof.
set_option Elab.async false

/-! ### Parameters in force -/

/-- A parameter's value rests on the parameters written and on the modes of the groups alone (R432). -/
theorem par_congr {s t : State} (hpar : t.par = s.par) (hgroup : t.group = s.group) (id sel : Nat) :
    par t id sel = par s id sel := by
  have heq : ∀ u : State, par u id sel = par { par := u.par, group := u.group } id sel := fun _ => rfl
  rw [heq t, heq s, hpar, hgroup]

/-! ### One engine, one reference, one view -/

@[simp] theorem ctl_lt (s : State) : ctl s < 2 := by
  unfold ctl
  cases s.te.ks.control with
  | none => exact Nat.zero_lt_two
  | some e => exact e.isLt

section
variable (e i r j : Nat) (f : Engine → Engine) (g : EngineX → EngineX) (h : Reference → Reference) (v : RefView → RefView) (s : State)

@[simp] theorem engOf_engxMod : engOf (engxMod e g s) i = engOf s i := rfl
@[simp] theorem engOf_viewMod : engOf (viewMod r v s) i = engOf s i := rfl
@[simp] theorem engOf_refMod : engOf (refMod r h s) i = engOf s i := rfl
@[simp] theorem engxOf_engMod : engxOf (engMod e f s) i = engxOf s i := rfl
@[simp] theorem engxOf_refMod : engxOf (refMod r h s) i = engxOf s i := rfl
@[simp] theorem viewOf_engMod : viewOf (engMod e f s) j = viewOf s j := rfl
@[simp] theorem viewOf_refMod : viewOf (refMod r h s) j = viewOf s j := rfl

end

section
variable {e r : Nat} {s : State}

@[simp] theorem engOf_engMod_same (he : e < 2) (f : Engine → Engine) : engOf (engMod e f s) e = f (engOf s e) :=
  vmodN_same s.te.eng e f {} he

@[simp] theorem engxOf_engxMod_of_lt (he : e < 2) (f : EngineX → EngineX) : engxOf (engxMod e f s) e = f (engxOf s e) :=
  vmodN_same s.te.engx e f {} he

theorem refOf_refMod_same (hr : r < 32) (f : Reference → Reference) : refOf (refMod r f s) r = f (refOf s r) :=
  vmodN_same s.te.ref r f {} hr

theorem refOf_refMod_other {j : Nat} (h : j ≠ r) (f : Reference → Reference) : refOf (refMod r f s) j = refOf s j :=
  vmodN_other s.te.ref r j f {} h

theorem viewOf_viewMod_same (hr : r < 32) (f : RefView → RefView) : viewOf (viewMod r f s) r = f (viewOf s r) := by
  have hrefs : engxOf (viewMod r f s) (ctl s) = _ := engxOf_engxMod_of_lt (ctl_lt s) _
  show vget (engxOf (viewMod r f s) (ctl s)).refs r {} = _
  rw [hrefs]
  exact vmodN_same _ r f {} hr

end

/-- What an update keeps of an engine or of a reference, it keeps of all of them. -/
theorem engOf_engMod_kept {β : Type} (P : Engine → β) {f : Engine → Engine} (h : ∀ x, P (f x) = P x) (k e : Nat) (s : State) :
    P (engOf (engMod k f s) e) = P (engOf s e) := vget_vmodN_kept s.te.eng k e {} P h

theorem engxOf_engxMod_kept {β : Type} (P : EngineX → β) {f : EngineX → EngineX} (h : ∀ x, P (f x) = P x) (k e : Nat) (s : State) :
    P (engxOf (engxMod k f s) e) = P (engxOf s e) := vget_vmodN_kept s.te.engx k e {} P h

theorem refOf_refMod_kept {β : Type} (P : Reference → β) {f : Reference → Reference} (h : ∀ x, P (f x) = P x) (k r : Nat)
    (s : State) : P (refOf (refMod k f s) r) = P (refOf s r) := vget_vmodN_kept s.te.ref k r {} P h

theorem engxOf_viewMod_kept {β : Type} (P : EngineX → β) (h : ∀ x refs, P { x with refs := refs } = P x) (r e : Nat)
    (f : RefView → RefView) (s : State) : P (engxOf (viewMod r f s) e) = P (engxOf s e) :=
  engxOf_engxMod_kept P (fun x => h x _) (ctl s) e s

theorem viewOf_engxMod {f : EngineX → EngineX} (h : ∀ x, (f x).refs = x.refs) (e r : Nat) (s : State) :
    viewOf (engxMod e f s) r = viewOf s r :=
  congrArg (fun v : Vector RefView 32 => vget v r {}) (engxOf_engxMod_kept EngineX.refs h e (ctl s) s)

/-- A predicate that an update of a reference preserves holds of every reference that had it. -/
theorem refOf_refMod_preserved {P : Reference → Prop} {f : Reference → Reference} (h : ∀ x, P x → P (f x)) {r j : Nat} {s : State}
    (hP : P (refOf s j)) : P (refOf (refMod r f s) j) := by
  by_cases hj : j = r
  · subst hj
    by_cases hn : j < 32
    · rw [refOf_refMod_same hn]
      exact h _ hP
    · rwa [refMod, vmodN_out s.te.ref j f (Nat.not_lt.mp hn)]
  · rwa [refOf_refMod_other hj]

/-! ### Work that leaves the time side -/

section
variable {s t : State} (h : t.te = s.te)
include h

theorem ctl_of_te : ctl t = ctl s := by rw [ctl, ctl, h]
theorem engOf_of_te (e : Nat) : engOf t e = engOf s e := by rw [engOf, engOf, h]
theorem engxOf_of_te (e : Nat) : engxOf t e = engxOf s e := by rw [engxOf, engxOf, h]
theorem refOf_of_te (r : Nat) : refOf t r = refOf s r := by rw [refOf, refOf, h]
theorem viewOf_of_te (r : Nat) : viewOf t r = viewOf s r := by rw [viewOf, viewOf, ctl_of_te h, engxOf_of_te h]

end

@[simp] theorem issueEvent_te (code source : Nat) (data : List Byte) (s : State) : (issueEvent code source data s).te = s.te :=
  keepsBut_issueEvent code source data s .te (by simp)

@[simp] theorem setTod_te (x : TodSt) (s : State) : (setTod x s).te = s.te := keepsBut_setTod x s .te (by simp)

@[simp] theorem engOf_settle (s : State) (e : Nat) : engOf (settle s) e = engOf s e := engOf_of_te (settle_te s) e
@[simp] theorem engxOf_settle (s : State) (e : Nat) : engxOf (settle s) e = engxOf s e := engxOf_of_te (settle_te s) e
@[simp] theorem refOf_settle (s : State) (r : Nat) : refOf (settle s) r = refOf s r := refOf_of_te (settle_te s) r
@[simp] theorem viewOf_settle (s : State) (r : Nat) : viewOf (settle s) r = viewOf s r := viewOf_of_te (settle_te s) r

theorem keepsBut_withTe (x : TimeSide) (s : State) : keepsBut [.te] s { s with te := x } := by
  intro p hp
  cases p <;> first | rfl | exact ⟨rfl, rfl, rfl⟩ | simp at hp

theorem keepsBut_withFab (x : Fabric) (s : State) : keepsBut [.fab] s { s with fab := x } := by
  intro p hp
  cases p <;> first | rfl | exact ⟨rfl, rfl, rfl⟩ | simp at hp

/-- Two operations, and the end of the command. -/
theorem keepsBut_then_done {l m n : List Part} {s t u : State} (h : keepsBut l s t) (k : keepsBut m t u)
    (hl : ∀ p ∈ l, p ∈ n := by simp) (hm : ∀ p ∈ m, p ∈ n := by simp) (hn : Part.msi ∈ n := by simp) : keepsBut n s (settle u) :=
  keepsBut_done (keepsBut_then h k hl hm) hn

/-! ### A reference changes state (R119, R120) -/

/-- What a reference forgets as it enters a state: in QUALIFYING its monitors begin again, without a signal there is nothing to
compare. -/
def refEntered (st : RefSt) : Reference → Reference :=
  if st = .qualifying then fun x => { x with
    suspGood := 0, okFreq := false, okWander := false, okSignal := false, badFreq := false, badWander := false, badXcmp := false
    wandN := 0, wander := [] }
  else if st = .absent ∨ st = .disabled then fun x => { x with
    suspGood := 0, signal := x.signal && st != .absent, change10 := none, raw10 := none, wandN := 0, wander := [], utc := none
    cond := { x.cond with
      last := if st = .absent then none else x.cond.last, resolved := false
      hist := [], count := 0, measuring := false, measN := 0, measSum := 0, sub := 0, fresh := false } }
  else fun x => { x with suspGood := 0 }

/-- The view as it enters a state at an instant, for an interval. -/
def viewEntered (st : RefSt) (why now len : Nat) (v : RefView) : RefView :=
  { v with st := st, reason := why, since := now, len := len }

theorem refMod_refMod (r : Nat) (f g : Reference → Reference) (s : State) :
    refMod r g (refMod r f s) = refMod r (fun x => g (f x)) s := by
  have hte : vmodN (vmodN s.te.ref r f) r g = vmodN s.te.ref r (fun x => g (f x)) := by
    unfold vmodN
    split
    · simp
    · rfl
  rw [refMod, refMod, refMod]
  simp only [hte]

/-- A change of state is the view's, what the reference forgets with it, and the event. -/
theorem setRef_te {r : Nat} {st : RefSt} {why : Nat} {s : State} (h : ¬((viewOf s r).st = st ∧ (viewOf s r).reason = why)) :
    (setRef r st why s).te =
      (refMod r (refEntered st) (viewMod r (viewEntered st why s.clk.elapsed (intervalOf s r st why)) s)).te := by
  unfold setRef
  dsimp only
  rw [if_neg h, issueEvent_te]
  by_cases hq : st = .qualifying
  · rw [if_pos hq, refMod_refMod, refEntered, if_pos hq]
    rfl
  · by_cases ha : st = .absent ∨ st = .disabled
    · rw [if_neg hq, if_pos ha, refMod_refMod, refEntered, if_neg hq, if_pos ha]
      rfl
    · rw [if_neg hq, if_neg ha, refEntered, if_neg hq, if_neg ha]
      rfl

section
variable (r : Nat) (st : RefSt) (why : Nat) (s : State)

/-- A reference that stands already in the state with the reason is left as it is. -/
theorem setRef_same (h : (viewOf s r).st = st ∧ (viewOf s r).reason = why) : setRef r st why s = s := if_pos h

/-- Of the time side a change of state moves views and references alone. -/
theorem setRef_te_kept {β : Type} (P : TimeSide → β) (h : ∀ x engx ref, P { x with engx := engx, ref := ref } = P x) :
    P (setRef r st why s).te = P s.te := by
  by_cases hs : (viewOf s r).st = st ∧ (viewOf s r).reason = why
  · rw [setRef_same r st why s hs]
  · rw [setRef_te hs]
    exact h s.te _ _

theorem engOf_setRef (e : Nat) : engOf (setRef r st why s) e = engOf s e :=
  setRef_te_kept r st why s (fun x => vget x.eng e {}) (fun _ _ _ => rfl)

theorem engxOf_setRef_kept {β : Type} (P : EngineX → β) (h : ∀ x refs, P { x with refs := refs } = P x) (e : Nat) :
    P (engxOf (setRef r st why s) e) = P (engxOf s e) := by
  by_cases hs : (viewOf s r).st = st ∧ (viewOf s r).reason = why
  · rw [setRef_same r st why s hs]
  · rw [engxOf_of_te (setRef_te hs), engxOf_refMod]
    exact engxOf_viewMod_kept P h r e _ s

/-- The state and the reason are the ones entered. -/
theorem viewOf_setRef {r : Nat} (hr : r < 32) :
    (viewOf (setRef r st why s) r).st = st ∧ (viewOf (setRef r st why s) r).reason = why := by
  by_cases h : (viewOf s r).st = st ∧ (viewOf s r).reason = why
  · rwa [setRef_same r st why s h]
  · rw [viewOf_of_te (setRef_te h), viewOf_refMod, viewOf_viewMod_same hr]
    exact ⟨rfl, rfl⟩

/-- What no entry into the state destroys stays with every reference. -/
theorem refOf_setRef_preserved {st : RefSt} {P : Reference → Prop} (h : ∀ x, P x → P (refEntered st x)) {j : Nat}
    (hP : P (refOf s j)) : P (refOf (setRef r st why s) j) := by
  by_cases hs : (viewOf s r).st = st ∧ (viewOf s r).reason = why
  · rwa [setRef_same r st why s hs]
  · rw [refOf_of_te (setRef_te hs)]
    exact refOf_refMod_preserved h hP

end

/-! ### Monitors (R118, R120) -/

/-- The states in which a failing monitor disqualifies a reference. -/
def Monitored (st : RefSt) : Prop := st = .qualifying ∨ st = .wtr ∨ st = .available ∨ st = .suspect

theorem disqualify_eq {r why : Nat} {s : State} (h : Monitored (viewOf s r).st) :
    disqualify r why s = setRef r .disqualified why s := by
  unfold disqualify
  rcases h with h | h | h | h <;> rw [h]

theorem disqualify_cases (r why : Nat) (s : State) :
    disqualify r why s = setRef r .disqualified why s ∨ disqualify r why s = s := by
  unfold disqualify
  split
  · exact .inl rfl
  · exact .inl rfl
  · exact .inl rfl
  · exact .inl rfl
  · exact .inr rfl

theorem requalify_eq {r why : Nat} {s : State} (hst : (viewOf s r).st = .disqualified) (hwhy : (viewOf s r).reason = why) :
    requalify r why s = setRef r .qualifying 0 s := if_pos ⟨hst, hwhy⟩

theorem requalify_cases (r why : Nat) (s : State) : requalify r why s = setRef r .qualifying 0 s ∨ requalify r why s = s := by
  unfold requalify
  split
  · exact .inl rfl
  · exact .inr rfl

end Sys2Proof.Machine

/-! References are monitored (R112 to R173): the end of a servo cycle, and the monitors and timers that move a reference from
state to state. -/

namespace Sys2Proof.Machine

-- The joined text is one compile: no thread beside the main one for each proof.
set_option Elab.async false

/-! ### The work of a servo cycle (R112 to R148, R155 to R173) -/

/-- The parts that a servo cycle may move. -/
def cycleParts : List Part := [.clk, .te, .group, .tio, .cal, .fab, .pm, .host, .msi, .mb, .boot, .pc]

/-- Work of a servo cycle before its report: the result sequence stands. -/
structure CycleWork (s t : State) : Prop where
  frame : keepsBut cycleParts s t
  seq : t.te.seq = s.te.seq

namespace CycleWork

variable {s t u : State}

theorem refl (s : State) : CycleWork s s := ⟨keepsBut_refl _ s, rfl⟩

theorem trans (h : CycleWork s t) (k : CycleWork t u) : CycleWork s u := ⟨keepsBut_trans h.frame k.frame, k.seq.trans h.seq⟩

/-- Work that leaves the time side. -/
theorem then_frame {l : List Part} (h : CycleWork s t) (k : keepsBut l t u) (hl : ∀ p ∈ l, p ∈ cycleParts := by simp [cycleParts])
    (hte : Part.te ∉ l := by simp) : CycleWork s u :=
  h.trans ⟨keepsBut_mono k hl, congrArg TimeSide.seq (k .te hte)⟩

/-- Work on the time side that leaves the sequence. -/
theorem then_te {l : List Part} (h : CycleWork s t) (k : keepsBut l t u) (hseq : u.te.seq = t.te.seq)
    (hl : ∀ p ∈ l, p ∈ cycleParts := by simp [cycleParts]) : CycleWork s u := h.trans ⟨keepsBut_mono k hl, hseq⟩

theorem ite {c : Prop} [Decidable c] (h : CycleWork s t) (k : CycleWork s u) : CycleWork s (if c then t else u) := by
  split
  · exact h
  · exact k

theorem foldl {α : Type} {f : State → α → State} (h : CycleWork s t) (hf : ∀ x u, CycleWork s u → CycleWork s (f u x)) (xs : List α) :
    CycleWork s (xs.foldl f t) := List.foldlRecOn xs f (motive := CycleWork s) h fun u hu x _ => hf x u hu

section
variable (h : CycleWork s t)
include h

theorem then_engMod {e : Nat} {f : Engine → Engine} : CycleWork s (engMod e f t) := h.then_te (keepsBut_engMod e f t) rfl
theorem then_engxMod {e : Nat} {f : EngineX → EngineX} : CycleWork s (engxMod e f t) := h.then_te (keepsBut_engxMod e f t) rfl
theorem then_viewMod {r : Nat} {f : RefView → RefView} : CycleWork s (viewMod r f t) := h.then_te (keepsBut_viewMod r f t) rfl
theorem then_refMod {r : Nat} {f : Reference → Reference} : CycleWork s (refMod r f t) := h.then_te (keepsBut_refMod r f t) rfl
theorem then_condMod {r : Nat} {f : Conditioner → Conditioner} : CycleWork s (condMod r f t) := h.then_refMod
theorem then_ksMod {f : Keystone → Keystone} : CycleWork s (ksMod f t) := h.then_te (keepsBut_ksMod f t) rfl
theorem then_bothX {f : EngineX → EngineX} : CycleWork s (bothX f t) := h.then_engxMod.then_engxMod
theorem then_bump {ev n : Nat} : CycleWork s (bump ev n t) := h.then_frame (keepsBut_bump ev n t)
theorem then_issueEvent {code source : Nat} {data : List Byte} : CycleWork s (issueEvent code source data t) :=
  h.then_frame (keepsBut_issueEvent code source data t)
theorem then_setTod {x : TodSt} : CycleWork s (setTod x t) := h.then_frame (keepsBut_setTod x t)
theorem then_setRef {r : Nat} {st : RefSt} {why : Nat} : CycleWork s (setRef r st why t) :=
  h.then_te (keepsBut_setRef r st why t) (setRef_te_kept r st why t TimeSide.seq fun _ _ _ => rfl)

theorem then_setServo {e : Nat} {st : ServoSt} : CycleWork s (setServo e st t) := by
  unfold setServo
  dsimp only
  exact h.ite (h.then_engMod.then_issueEvent.ite h.then_engMod)

/-! #### References -/

theorem then_requalify {r why : Nat} : CycleWork s (requalify r why t) := h.then_setRef.ite h

theorem then_loseRef {r : Nat} : CycleWork s (loseRef r t) := h.then_refMod.ite h.then_setRef

theorem then_todPulse {ts : List Rat} : CycleWork s (todPulse ts t) := by
  refine h.foldl (fun x u hu => ?_) ts
  split
  · exact hu.then_te (keepsBut_withTe _ u) rfl
  · exact hu

theorem then_condTake {r : Nat} {raw : Rat} : CycleWork s (condTake r raw t) := by
  unfold condTake
  exact h.then_condMod

theorem then_takeEdgesOf {r : Nat} {ts : List Rat} : CycleWork s (takeEdgesOf r ts t) := by
  unfold takeEdgesOf
  have hpulse : CycleWork s (if r = todPair t then todPulse (edgesUsed t r ts) t else t) := h.then_todPulse.ite h
  dsimp only
  split
  · exact hpulse.then_condMod
  · exact hpulse.then_refMod.then_condMod.ite hpulse.then_refMod.then_condMod.then_condTake

theorem then_resolvePair {r : Nat} : CycleWork s (resolvePair r t) := by
  unfold resolvePair
  dsimp only
  split
  · exact h.then_refMod.ite h
  · exact h

theorem then_takeEdges {m : CycleMeas} : CycleWork s (takeEdges m t) :=
  (h.foldl (fun _ _ hu => hu.then_takeEdgesOf) _).foldl (fun _ _ hu => hu.then_resolvePair) _

theorem then_refConfigure {r : Nat} : CycleWork s (refConfigure r t) := h.then_setRef.ite (h.then_setRef.ite h)

theorem then_refMonitor {r : Nat} : CycleWork s (refMonitor r t) := by
  have hc : CycleWork s (refConfigure r t) := h.then_refConfigure
  unfold refMonitor
  dsimp only
  have hq := (hc.then_setRef (r := r) (st := .qualifying) (why := 0)).ite (c := (viewOf (refConfigure r t) r).st = .absent) hc
  refine hc.ite (CycleWork.ite ?_ (hc.ite hc.then_loseRef))
  refine CycleWork.ite ?_ hq.then_refMod
  split
  · exact hq.then_refMod.then_requalify.ite hq.then_refMod
  · exact hq.then_refMod

theorem then_takeInelig : CycleWork s (takeInelig t) := h.then_frame (keepsBut_withFab _ t)

theorem then_refValues : CycleWork s (refValues t) := h.then_te (keepsBut_withTe _ t) (by simp only [refValues])

theorem then_takeRanks : CycleWork s (takeRanks t) := h.then_te (keepsBut_withTe _ t) (by simp only [takeRanks])

theorem then_wtrRelease : CycleWork s (wtrRelease t) := h.ite (h.foldl (fun _ _ hu => hu.then_setRef.ite hu) _)

theorem then_references {m : CycleMeas} : CycleWork s (references m t) :=
  (h.then_takeEdges.then_takeInelig.then_refValues.foldl (fun _ _ hu => hu.then_refMonitor) _).then_wtrRelease.then_takeRanks

/-! #### Steps reported, selection and switches -/

theorem then_stepReported {r : Nat} {d : Rat} : CycleWork s (stepReported r d t) := by
  unfold stepReported
  dsimp only
  refine CycleWork.ite (then_engMod (then_bump (then_bothX (then_viewMod ?_)))) ?_
  · exact h.then_refMod.then_engMod.ite h.then_refMod
  · exact h.then_refMod.then_engMod.ite h.then_refMod

theorem then_servoMod {g : Nat} {f : GroupServo → GroupServo} : CycleWork s (servoMod g f t) :=
  h.then_frame (keepsBut_servoMod g f t)

theorem then_takeReports : CycleWork s (takeReports t) := by
  refine h.foldl (fun g u hu => ?_) _
  split
  · exact hu.then_servoMod.then_stepReported
  · exact hu

theorem then_switchCycle : CycleWork s (switchCycle t) := by
  unfold switchCycle
  dsimp only
  split
  · exact h.then_engMod.ite h
  · exact h

theorem then_switchEvent {inc : Nat} {out : Option Nat} {forced uncompleted : Bool} {off : Rat} :
    CycleWork s (switchEvent inc out forced uncompleted off t) := h.then_issueEvent

theorem then_takeSelCmd : CycleWork s (takeSelCmd t) := by
  unfold takeSelCmd
  split
  · exact h.then_bothX
  · exact h

theorem then_abandonSwitch : CycleWork s (abandonSwitch t) := by
  unfold abandonSwitch
  dsimp only
  split
  · exact h.then_switchEvent.then_engMod.then_takeSelCmd
  · exact h

theorem then_beginSwitch {inc : Nat} {planned : Bool} : CycleWork s (beginSwitch inc planned t) := h.then_engMod

theorem then_enterModel {e : Nat} : CycleWork s (enterModel e t) := h.then_engMod

theorem then_noReference {e : Nat} : CycleWork s (noReference e t) := by
  unfold noReference
  dsimp only
  have hcleared := h.then_engMod (e := e) (f := fun x => { x with
    sel := none, sw := none, forceSw := false, slewing := false, slewHo := false, acqPhase := 0 })
  generalize engMod e _ t = u at hcleared
  have hservo : CycleWork s (if (engOf u e).everLocked60 then setServo e .holdover (enterModel e u) else setServo e .freeRun u) :=
    CycleWork.ite hcleared.then_enterModel.then_setServo hcleared.then_setServo
  exact CycleWork.ite (then_setTod (hservo.ite hservo.then_enterModel)) hservo

theorem then_startAcquire {e r : Nat} : CycleWork s (startAcquire e r t) :=
  h.then_viewMod.then_engxMod.then_refMod.then_engMod.then_setServo

theorem then_selectRef : CycleWork s (selectRef t) := by
  unfold selectRef
  dsimp only
  have hb : CycleWork s (bothX (fun v => { v with selHeld := v.selHeld.filter (selectable t) }) t) := h.then_bothX
  refine hb.ite ?_
  split
  · exact hb.then_abandonSwitch.then_engMod.ite (hb.then_engMod.ite hb)
  · refine CycleWork.ite ?_ ?_
    · split
      · exact hb.then_engMod.then_beginSwitch
      · exact hb.then_engMod.then_noReference
    · split
      · split
        · exact hb.then_startAcquire
        · exact hb
      · split
        · exact hb.then_startAcquire
        · exact hb
      · split
        · exact hb.then_noReference
        · exact hb.ite hb.then_beginSwitch

/-! #### Steering -/

theorem then_releaseStep : CycleWork s (releaseStep t) := by
  unfold releaseStep
  dsimp only
  split
  · exact (h.then_viewMod.then_engMod.ite h.then_viewMod).ite h
  · exact h

theorem then_requestStep {d : Int} {software : Bool} : CycleWork s (requestStep d software t) :=
  h.then_frame (keepsBut_withClk _ t)

theorem then_acquirePhase {e : Nat} : CycleWork s (acquirePhase e t) := by
  unfold acquirePhase
  split
  · exact h
  · dsimp only
    refine CycleWork.ite h.then_engMod.then_engMod ?_
    split
    · exact h.then_requestStep.then_engMod.ite h.then_viewMod.then_engMod.then_engMod
    · exact h.then_requestStep.then_engMod.ite h.then_viewMod.then_engMod.then_engMod
    · exact h.then_viewMod.then_engMod.then_engMod

theorem then_loopStep {e : Nat} {fresh : Bool} {err : Rat} : CycleWork s (loopStep e fresh err t) := h.then_engMod.ite h.then_engMod

theorem then_bridgeStep {e : Nat} : CycleWork s (bridgeStep e t) := h.then_engMod

theorem then_openStep {e : Nat} : CycleWork s (openStep e t) := h.then_engxMod.then_engMod

theorem then_closedStep {e : Nat} : CycleWork s (closedStep e t) := by
  unfold closedStep
  dsimp only
  split
  · exact h.then_engMod.ite h.then_loopStep
  · exact h.then_engxMod.then_engMod.then_loopStep

theorem then_steer {e : Nat} {fresh : Bool} {err : Rat} : CycleWork s (steer e fresh err t) := by
  unfold steer
  dsimp only
  split
  · exact h
  · exact h.then_engMod
  · exact h.then_openStep
  · exact h.then_closedStep
  · exact CycleWork.ite h.then_bridgeStep (h.ite (CycleWork.ite h.then_bridgeStep h.then_loopStep))
  · exact CycleWork.ite h.then_bridgeStep (h.ite (CycleWork.ite h.then_bridgeStep h.then_loopStep))

theorem then_steerControl : CycleWork s (steerControl t) := by
  unfold steerControl
  dsimp only
  split
  · exact (h.then_acquirePhase.ite h).then_steer
  · exact (h.then_acquirePhase.ite h).then_steer

theorem then_recordWord {e : Nat} {q : Int} : CycleWork s (recordWord e q t) := h.then_engxMod

theorem then_lockCounts : CycleWork s (lockCounts t) := h.then_engMod

theorem then_todAndForecast : CycleWork s (todAndForecast t) :=
  (h.then_setTod.ite h).foldl (fun _ _ hu => hu.then_engMod) _

theorem then_putAcc : CycleWork s (putAcc t) :=
  (h.then_frame (keepsBut_withClk _ t)).ite (h.then_frame (keepsBut_withClk _ t))

theorem then_advertise : CycleWork s (advertise t) := by
  have hfab : ∀ x : Fabric, CycleWork s (putAcc { t with fab := x }) := fun x => (h.then_frame (keepsBut_withFab x t)).then_putAcc
  unfold advertise
  dsimp only
  refine CycleWork.ite (hfab _) (CycleWork.ite (hfab _) ?_)
  split
  · exact h.then_putAcc
  · exact hfab _

/-! #### Comparison, alignment, cupping and the standby -/

theorem then_compare {cmp : Rat} : CycleWork s (compare cmp t) := by
  unfold compare
  exact h.then_ksMod

theorem then_startAlign {nxt : Fin 2} {why : AlignWhy} : CycleWork s (startAlign nxt why t) := h.then_ksMod

theorem then_reclaimDue : CycleWork s (reclaimDue t) := by
  unfold reclaimDue
  split
  · exact h.then_ksMod.then_startAlign.ite h
  · exact h

theorem then_trimDco {e : Nat} {lim : Rat} : CycleWork s (trimDco e lim t) := h.then_engxMod

theorem then_alignCycle : CycleWork s (alignCycle t) := by
  have hboot := h.foldl (f := fun s e => if (engxOf s e).on && (engxOf s e).booting && e != ctl s then trimDco e uNs s else s)
    (fun _ _ hu => hu.then_trimDco.ite hu) [0, 1]
  exact hboot.ite hboot.then_trimDco.then_ksMod

theorem then_cupRecord {e k : Nat} {pass : Bool} : CycleWork s (cupRecord e k pass t) := h.then_te (keepsBut_cupRecord e k pass t) rfl

theorem then_cupCycle {m : CycleMeas} : CycleWork s (cupCycle m t) :=
  h.foldl (fun _ _ hu => hu.ite (then_engxMod
    (hu.then_cupRecord.then_cupRecord.ite hu.then_cupRecord.then_cupRecord.then_engxMod.then_cupRecord))) _

theorem then_tieLoad {e : Nat} {l : List Byte} {takenAt lag : Nat} : CycleWork s (tieLoad e l takenAt lag t) :=
  h.then_engMod.then_engxMod

theorem then_standbyCycle : CycleWork s (standbyCycle t) := by
  unfold standbyCycle
  dsimp only
  refine h.ite (then_recordWord (CycleWork.ite (then_engxMod (CycleWork.ite h.then_tieLoad h)) ?_))
  split
  · exact then_steer (then_engxMod (CycleWork.ite h.then_tieLoad h))
  · exact then_steer (then_engxMod (CycleWork.ite h.then_tieLoad h))

theorem then_setHealth {e n : Nat} : CycleWork s (setHealth e n t) := by
  unfold setHealth
  exact h.ite (then_issueEvent (CycleWork.ite h.then_engxMod.then_ksMod h.then_engxMod))

theorem then_healthJudge {e : Nat} : CycleWork s (healthJudge e t) := by
  unfold healthJudge
  dsimp only
  have hset : ∀ n, CycleWork s (setHealth e n t) := fun n => h.then_setHealth
  exact ((hset 1).ite h).ite (((hset 2).ite ((h.ite (hset 5)).ite ((hset 6).ite h))).ite
    (((hset 2).ite ((hset 6).ite h)).ite h))

/-! #### Claims and settings -/

theorem then_takeSettings : CycleWork s (takeSettings t) := by
  unfold takeSettings
  dsimp only
  split
  · exact h.then_engxMod.then_engxMod.then_ksMod
  · exact h.then_ksMod

theorem then_alignAbandon : CycleWork s (alignAbandon t) := h.then_ksMod

theorem then_alignApply : CycleWork s (alignApply t) := by
  unfold alignApply
  dsimp only
  split
  · exact h.then_setHealth.then_takeSettings.then_ksMod.ite h.then_alignAbandon
  · exact h.then_takeSettings.then_ksMod
  · exact h.then_alignAbandon.ite h.then_takeSettings.then_ksMod
  · exact h.then_ksMod

theorem then_setClaims : CycleWork s (setClaims t).2 := by
  unfold setClaims
  dsimp only
  have hk := (h.then_ksMod (f := fun k => { k with pendBase := some (wantedBases t), pendPref := some (wantedPref t) })).then_ksMod
    (f := fun k => { k with alignCyc := 0, alignOk := 0, alignDone := k.alignDone && k.align.isNone })
  split
  · split
    · exact hk.then_takeSettings
    · dsimp only
      exact then_ksMod (CycleWork.ite hk.then_startAlign hk)
  · dsimp only
    exact then_takeSettings (CycleWork.ite hk.then_ksMod hk)

theorem then_heldSettings : CycleWork s (heldSettings t) := by
  unfold heldSettings
  exact CycleWork.ite (then_setClaims (h.then_frame (keepsBut_bootMod (fun b => { b with heldPref := false }) t))) h

theorem then_presentClaims : CycleWork s (presentClaims t) := h.then_engxMod.then_engxMod

theorem then_blendEngines : CycleWork s (blendEngines t) :=
  h.foldl (fun _ _ hu => hu.then_frame (keepsBut_convMod _ _ _)) _

theorem then_tdcMod {f : TdcRef → TdcRef} : CycleWork s (tdcMod f t) := h.then_frame (keepsBut_tdcMod f t)

theorem then_tdcOffset {m : Option TdcSample} : CycleWork s (tdcOffset m t) := by
  unfold tdcOffset
  split
  · exact h.ite (h.then_tdcMod.then_tdcMod.then_tdcMod.ite h.then_tdcMod)
  · exact h

end

end CycleWork

/-! ### The end of a servo cycle -/

/-- The report advances the sequence and sets VALID (R112, R148). -/
theorem engineReport_te (s : State) :
    (engineReport s).te.seq = (s.te.seq + 1) % 65536 ∧ (engineReport s).te.valid = true := ⟨rfl, rfl⟩

theorem keepsBut_engineReport (s : State) : keepsBut [.te] s (engineReport s) := by
  unfold engineReport
  exact keepsBut_withTe _ s

/-- With an engine in control a servo cycle ends with its report. -/
theorem engineServoCycle_reports (m : CycleMeas) {s : State} (h : cyclesRun s = true) :
    ∃ t, exec (.engineServoCycle m) s = .next t ∧ keepsBut cycleParts s t ∧
      t.te.seq = (s.te.seq + 1) % 65536 ∧ t.te.valid = true ∧ t.te.ks.arbitrating = false := by
  show ∃ t, execEngineServoCycle m s = .next t ∧ _
  rw [execEngineServoCycle, if_neg (by simp [h])]
  extract_lets measured selected steered worded advertised aligned cupped judged claimed reported
  have hselected : CycleWork s selected := (CycleWork.refl s).then_bump.then_references.then_takeReports.then_switchCycle.then_selectRef
  have hworded : CycleWork s worded := hselected.then_releaseStep.then_steerControl.then_recordWord
  have haligned : CycleWork s aligned :=
    hworded.then_lockCounts.then_todAndForecast.then_advertise.then_compare.then_reclaimDue.then_alignCycle
  have hjudged : CycleWork s judged :=
    haligned.then_standbyCycle.then_cupCycle.foldl (fun _ _ hu => hu.then_healthJudge.ite hu) [0, 1]
  have hclaimed : CycleWork s claimed := (CycleWork.ite hjudged.then_alignApply hjudged).then_heldSettings.then_presentClaims
  have hdone : CycleWork s (tdcOffset m.tdc (blendEngines claimed)) := hclaimed.then_blendEngines.then_tdcOffset
  obtain ⟨hseq, hvalid⟩ := engineReport_te (tdcOffset m.tdc (blendEngines claimed))
  refine ⟨_, rfl, ?_, ?_, hvalid, rfl⟩
  · have hreport := keepsBut_then (keepsBut_engineReport (tdcOffset m.tdc (blendEngines claimed)))
      (keepsBut_ksMod (fun k => { k with
        arbitrating := false, tieOut := tieRecord reported (ctl reported), tieAt := reported.clk.elapsed
        side := Fin.ofNat 2 (ctl reported) }) reported) (n := cycleParts) (by simp [cycleParts]) (by simp [cycleParts])
    exact keepsBut_done (keepsBut_trans hdone.frame hreport) (by simp [cycleParts])
  · exact hseq.trans (by rw [hdone.seq])

/-- With no engine in control nothing happens. -/
theorem engineServoCycle_waits (m : CycleMeas) {s : State} (h : cyclesRun s = false) :
    ∃ t, exec (.engineServoCycle m) s = .next t ∧ nothingBut s t := by
  show ∃ t, execEngineServoCycle m s = .next t ∧ _
  rw [execEngineServoCycle, if_pos (by simp [h])]
  exact ⟨_, done_eq s, keepsBut_settle s⟩

/-! ### Monitors that fail (R118, R120) -/

section
variable {r : Fin 32} {s : State}

/-- The result of a frequency gate, and of a wander window, on a reference's record. -/
def gateTaken (offset : Int) (bad : Bool) (x : Reference) : Reference :=
  { x with freqOff := offset, badFreq := bad, okFreq := x.okFreq || !bad }
def wanderForgotten (x : Reference) : Reference := { x with wandN := 0, wander := [] }
def wanderTaken (bad : Bool) (x : Reference) : Reference := { x with badWander := bad, okWander := x.okWander || !bad }

/-- What a monitor's verdict does to a reference. -/
def verdict (n why : Nat) (bad : Bool) (s : State) : State := if bad then disqualify n why s else requalify n why s

theorem exec_refFreqGate {offset : Int} {bad : Bool} (hp : refPresent s r.val = true)
    (h : decide (par s 0x09 r.val < |offset|) = bad) :
    exec (.refFreqGate r offset) s = .next (settle (verdict r.val 2 bad (refMod r.val (gateTaken offset bad) s))) := by
  subst h
  exact if_neg (by simp [hp])

theorem exec_refWanderWindow {q : Rat} {bad : Bool} (hp : refPresent s r.val = true) (hdue : wanderDue s r.val = true)
    (hq : wanderOf (refOf s r.val).wander = some q) (h : decide ((par s 0x0A r.val : Rat) < q) = bad) :
    exec (.refWanderWindow r) s = .next (settle (verdict r.val 3 bad
      (refMod r.val (fun x => wanderTaken bad (wanderForgotten x)) s))) := by
  subst h
  have hpar : par (refMod r.val wanderForgotten s) 0x0A r.val = par s 0x0A r.val := par_congr rfl rfl _ _
  rw [← refMod_refMod, ← hpar]
  show execRefWanderWindow r s = _
  rw [execRefWanderWindow, if_neg (by simp [hp, hdue]), hq]
  rfl

theorem verdict_bad {n why : Nat} (f : Reference → Reference) (hst : Monitored (viewOf s n).st) :
    verdict n why true (refMod n f s) = setRef n .disqualified why (refMod n f s) := disqualify_eq (by rwa [viewOf_refMod])

theorem verdict_good {n why : Nat} (f : Reference → Reference) (hst : (viewOf s n).st = .disqualified)
    (hwhy : (viewOf s n).reason = why) : verdict n why false (refMod n f s) = setRef n .qualifying 0 (refMod n f s) :=
  requalify_eq (by rwa [viewOf_refMod]) (by rwa [viewOf_refMod])

/-- A command that ends with a reference's change of state, after work on the time side. -/
theorem setRef_ends {c : Instr} {st : RefSt} {why : Nat} {u : State} (h : exec c s = .next (settle (setRef r.val st why u)))
    (hu : keepsBut [.te] s u) :
    ∃ t, exec c s = .next t ∧ keepsBut [.te, .host, .msi, .mb, .pc] s t ∧
      (viewOf t r.val).st = st ∧ (viewOf t r.val).reason = why ∧
      ∀ P : Reference → Prop, (∀ x, P x → P (refEntered st x)) → P (refOf u r.val) → P (refOf t r.val) := by
  obtain ⟨hst, hwhy⟩ := viewOf_setRef st why u r.isLt
  refine ⟨_, h, keepsBut_then_done hu (keepsBut_setRef _ _ _ _), ?_, ?_, fun P hP hf => ?_⟩
  · rw [viewOf_settle, hst]
  · rw [viewOf_settle, hwhy]
  · rw [refOf_settle]
    exact refOf_setRef_preserved r.val why _ hP hf

/-- The same after work on the reference's own record. -/
theorem setRef_refMod_ends {c : Instr} {st : RefSt} {why : Nat} {f : Reference → Reference}
    (h : exec c s = .next (settle (setRef r.val st why (refMod r.val f s)))) :
    ∃ t, exec c s = .next t ∧ keepsBut [.te, .host, .msi, .mb, .pc] s t ∧
      (viewOf t r.val).st = st ∧ (viewOf t r.val).reason = why ∧
      ∀ P : Reference → Prop, (∀ x, P x → P (refEntered st x)) → P (f (refOf s r.val)) → P (refOf t r.val) := by
  have hends := setRef_ends h (keepsBut_refMod _ _ _)
  rwa [refOf_refMod_same r.isLt] at hends

/-- A command that does nothing but such a change. -/
theorem setRef_moves {c : Instr} {st : RefSt} {why : Nat} (h : exec c s = .next (settle (setRef r.val st why s))) :
    ∃ t, exec c s = .next t ∧ keepsBut [.te, .host, .msi, .mb, .pc] s t ∧ (viewOf t r.val).st = st := by
  obtain ⟨t, ht, hframe, hview, -⟩ := setRef_ends h (keepsBut_refl _ s)
  exact ⟨t, ht, hframe, hview⟩

theorem refFreqGate_disqualifies {offset : Int} (hp : refPresent s r.val = true) (hst : Monitored (viewOf s r.val).st)
    (h : par s 0x09 r.val < |offset|) :
    ∃ t, exec (.refFreqGate r offset) s = .next t ∧ keepsBut [.te, .host, .msi, .mb, .pc] s t ∧
      (viewOf t r.val).st = .disqualified ∧ (viewOf t r.val).reason = 2 ∧ (refOf t r.val).freqOff = offset := by
  have hexec := exec_refFreqGate hp (decide_eq_true h)
  rw [verdict_bad _ hst] at hexec
  obtain ⟨t, ht, hframe, hview, hwhy, hkept⟩ := setRef_refMod_ends hexec
  exact ⟨t, ht, hframe, hview, hwhy, hkept (fun x => x.freqOff = offset) (fun _ h => h) rfl⟩

theorem refWanderWindow_disqualifies {q : Rat} (hp : refPresent s r.val = true) (hst : Monitored (viewOf s r.val).st)
    (hdue : wanderDue s r.val = true) (hq : wanderOf (refOf s r.val).wander = some q) (h : (par s 0x0A r.val : Rat) < q) :
    ∃ t, exec (.refWanderWindow r) s = .next t ∧ keepsBut [.te, .host, .msi, .mb, .pc] s t ∧
      (viewOf t r.val).st = .disqualified ∧ (viewOf t r.val).reason = 3 ∧ (refOf t r.val).wander = [] := by
  have hexec := exec_refWanderWindow hp hdue hq (decide_eq_true h)
  rw [verdict_bad _ hst] at hexec
  obtain ⟨t, ht, hframe, hview, hwhy, hkept⟩ := setRef_refMod_ends hexec
  exact ⟨t, ht, hframe, hview, hwhy, hkept (fun x => x.wander = []) (fun _ h => h) rfl⟩

theorem loseRef_refMod (f : Reference → Reference) (hst : Monitored (viewOf s r.val).st) :
    loseRef r.val (refMod r.val f s) = setRef r.val .absent 1 (refMod r.val f s) := by
  refine if_neg ?_
  rw [viewOf_refMod]
  rcases hst with h | h | h | h <;> simp [h]

theorem refLos_absents (hst : Monitored (viewOf s r.val).st) (hext : isExt r.val = true) :
    ∃ t, exec (.refLos r) s = .next t ∧ keepsBut [.te, .host, .msi, .mb, .pc] s t ∧
      (viewOf t r.val).st = .absent ∧ (refOf t r.val).signal = false := by
  have hexec : exec (.refLos r) s = .next (settle (loseRef r.val (refMod r.val (fun x => { x with signal := false }) s))) := if_pos hext
  rw [loseRef_refMod _ hst] at hexec
  obtain ⟨t, ht, hframe, hview, -, hkept⟩ := setRef_refMod_ends hexec
  exact ⟨t, ht, hframe, hview, hkept (fun x => x.signal = false) (fun x hx => by simp [refEntered, hx]) rfl⟩

/-! ### References that come back (R120) -/

theorem refFreqGate_requalifies {offset : Int} (hp : refPresent s r.val = true) (h : |offset| ≤ par s 0x09 r.val)
    (hst : (viewOf s r.val).st = .disqualified) (hwhy : (viewOf s r.val).reason = 2) :
    ∃ t, exec (.refFreqGate r offset) s = .next t ∧ keepsBut [.te, .host, .msi, .mb, .pc] s t ∧
      (viewOf t r.val).st = .qualifying := by
  have hexec := exec_refFreqGate hp (decide_eq_false (not_lt.mpr h))
  rw [verdict_good _ hst hwhy] at hexec
  obtain ⟨t, ht, hframe, hview, -⟩ := setRef_refMod_ends hexec
  exact ⟨t, ht, hframe, hview⟩

theorem refWanderWindow_requalifies {q : Rat} (hp : refPresent s r.val = true) (hdue : wanderDue s r.val = true)
    (hq : wanderOf (refOf s r.val).wander = some q) (h : q ≤ (par s 0x0A r.val : Rat))
    (hst : (viewOf s r.val).st = .disqualified) (hwhy : (viewOf s r.val).reason = 3) :
    ∃ t, exec (.refWanderWindow r) s = .next t ∧ keepsBut [.te, .host, .msi, .mb, .pc] s t ∧
      (viewOf t r.val).st = .qualifying := by
  have hexec := exec_refWanderWindow hp hdue hq (decide_eq_false (not_lt.mpr h))
  rw [verdict_good _ hst hwhy] at hexec
  obtain ⟨t, ht, hframe, hview, -⟩ := setRef_refMod_ends hexec
  exact ⟨t, ht, hframe, hview⟩

theorem qualTimeExpiry_qualifies (hst : (viewOf s r.val).st = .qualifying) (hfreq : (refOf s r.val).okFreq = true)
    (hwander : (refOf s r.val).okWander = true) (hsignal : (refOf s r.val).okSignal = true) :
    ∃ t, exec (.qualTimeExpiry r) s = .next t ∧ keepsBut [.te, .host, .msi, .mb, .pc] s t ∧
      (viewOf t r.val).st = (if (refOf s r.val).qualBefore then RefSt.wtr else RefSt.available) ∧
      (refOf t r.val).qualBefore = true := by
  have hexec : exec (.qualTimeExpiry r) s = if (refOf s r.val).qualBefore then .next (settle (setRef r.val .wtr 0 s))
      else .next (settle (setRef r.val .available 0 (refMod r.val (fun x => { x with qualBefore := true }) s))) :=
    if_pos ⟨hst, hfreq, hwander, hsignal⟩
  by_cases hq : (refOf s r.val).qualBefore = true
  · rw [if_pos hq] at hexec ⊢
    obtain ⟨t, ht, hframe, hview, -, hkept⟩ := setRef_ends hexec (keepsBut_refl _ s)
    exact ⟨t, ht, hframe, hview, hkept (fun x => x.qualBefore = true) (fun _ h => h) hq⟩
  · rw [if_neg hq] at hexec ⊢
    obtain ⟨t, ht, hframe, hview, -, hkept⟩ := setRef_refMod_ends hexec
    exact ⟨t, ht, hframe, hview, hkept (fun x => x.qualBefore = true) (fun _ h => h) rfl⟩

end

/-- Settles O17: the end of a servo cycle, the monitors that disqualify a reference, and the ways it comes back. -/
theorem referenceMonitoring : Obligations.ReferenceMonitoring := by
  unfold Obligations.ReferenceMonitoring
  refine ⟨fun m s => ⟨engineServoCycle_reports m, engineServoCycle_waits m⟩, fun r s hp hst => ⟨?_, ?_, ?_⟩, ?_, ?_, ?_, ?_, ?_⟩
  · exact fun offset => refFreqGate_disqualifies hp hst
  · exact fun q hdue hq => refWanderWindow_disqualifies hp hst hdue hq
  · exact refLos_absents hst
  · exact fun r offset s => refFreqGate_requalifies
  · exact fun r q s => refWanderWindow_requalifies
  · exact fun r s => qualTimeExpiry_qualifies
  · exact fun r s hst => setRef_moves (if_pos hst)
  · exact fun r s hst hwhy => setRef_moves (if_pos ⟨hst, hwhy⟩)

end Sys2Proof.Machine

/-! What the engines measure of their references (R114 to R124): stale delays, the changes of 10 s intervals, steps, the model's
residual, and TODIN messages. -/

namespace Sys2Proof.Machine

-- The joined text is one compile: no thread beside the main one for each proof.
set_option Elab.async false

/-! ### Stale delays and steps (R114, R115, R118) -/

/-- A port reference whose delay has been HELD too long is disqualified. -/
theorem delayStale_disqualifies {g : GroupIx} {p : Nat} {s : State} (hport : timingPort s g.val = some p)
    (hheld : (portOf s p).ld.dstate = 3) (hst : (viewOf s (g.val + 8)).st = .available) :
    ∃ t, exec (.delayStale g) s = .next t ∧ keepsBut [.te, .host, .msi, .mb, .pc] s t ∧
      (viewOf t (g.val + 8)).st = .disqualified ∧ (viewOf t (g.val + 8)).reason = 7 := by
  have hexec : exec (.delayStale g) s = .next (settle (setRef (g.val + 8) .disqualified 7 s)) := by
    rw [← disqualify_eq (.inr (.inr (.inl hst))), ← done_eq]
    show execDelayStale g s = _
    rw [execDelayStale, hport]
    exact if_pos hheld
  have hr : g.val + 8 < 32 := by have := g.isLt; omega
  obtain ⟨t, ht, hframe, hview, hwhy, -⟩ := setRef_ends (r := ⟨g.val + 8, hr⟩) hexec (keepsBut_refl _ s)
  exact ⟨t, ht, hframe, hview, hwhy⟩

/-- The step that a conditioner has measured. -/
def condStep (c : Conditioner) : Rat := c.measSum / 64 - c.preMean

/-- The conditioner after a measurement that was a transient. -/
def transientTaken (d : Rat) (c : Conditioner) : Conditioner := { c with
  measuring := false, delta := d, hist := [], count := 0, measN := 0, measSum := 0, transients := c.transients + 1 }

/-- A step below STEP_THRESHOLD is a transient. -/
theorem conditionerStepEnd_transient {r : Fin 32} {s : State} (hext : isExt r.val = true)
    (hmeas : (refOf s r.val).cond.measuring = true) (hn : 64 ≤ (refOf s r.val).cond.measN)
    (h : absQ (condStep (refOf s r.val).cond) < (par s 0x07 r.val : Rat)) :
    ∃ t, exec (.conditionerStepEnd r) s = .next t ∧ keepsBut [.te, .msi] s t ∧ (refOf t r.val).cond.measuring = false ∧
      (refOf t r.val).cond.transients = (refOf s r.val).cond.transients + 1 ∧ viewOf t r.val = viewOf s r.val ∧
      (refOf t r.val).cond.delta = condStep (refOf s r.val).cond := by
  have hexec : exec (.conditionerStepEnd r) s =
      .next (settle (condMod r.val (transientTaken (condStep (refOf s r.val).cond)) s)) := by
    have hreal : decide ((par s 0x07 r.val : Rat) ≤ absQ ((refOf s r.val).cond.measSum / 64 - (refOf s r.val).cond.preMean)) = false :=
      decide_eq_false (not_le.mpr h)
    show execConditionerStepEnd r s = _
    rw [execConditionerStepEnd, if_pos ⟨hext, hmeas, hn⟩]
    simp only [hreal, Bool.false_eq_true, if_false]
    rfl
  have hcond : (refOf (condMod r.val (transientTaken (condStep (refOf s r.val).cond)) s) r.val).cond =
      transientTaken (condStep (refOf s r.val).cond) (refOf s r.val).cond := congrArg Reference.cond (refOf_refMod_same r.isLt _)
  refine ⟨_, hexec, keepsBut_done (keepsBut_mono (keepsBut_condMod _ _ s) (by simp)) (by simp), ?_, ?_, ?_, ?_⟩
  · rw [refOf_settle, hcond]
    rfl
  · rw [refOf_settle, hcond]
    rfl
  · rw [viewOf_settle]
    rfl
  · rw [refOf_settle, hcond]
    rfl

/-! ### The changes of a 10 s interval (R118) -/

/-- A reference as an interval ends. -/
def intervalTaken (x : Reference) : Reference := { x with change10 := x.raw10.map (fun q => x.raw - q), raw10 := some x.raw }

/-- The interval ends for those of some references that are present. -/
def intervalsTaken (l : List Nat) (s : State) : State :=
  l.foldl (fun s r => if refPresent s r then refMod r intervalTaken s else s) s

theorem keepsBut_intervalsTaken (l : List Nat) (s : State) : keepsBut [.te] s (intervalsTaken l s) := by
  refine keepsBut_foldl _ (fun t r => ?_) l s
  split
  · exact keepsBut_refMod _ _ t
  · exact keepsBut_refl _ t

theorem refOf_intervalsTaken_not_mem {r : Nat} {l : List Nat} (hm : r ∉ l) (s : State) :
    refOf (intervalsTaken l s) r = refOf s r := by
  refine List.foldlRecOn l _ (motive := fun t => refOf t r = refOf s r) rfl fun t ht k hk => ?_
  split
  · rw [refOf_refMod_other (fun h : r = k => hm (h ▸ hk)), ht]
  · exact ht

theorem refOf_intervalsTaken_mem {r : Nat} (hr : r < 32) {l : List Nat} (hl : l.Nodup) (hm : r ∈ l) {s : State}
    (hp : refPresent s r = true) : refOf (intervalsTaken l s) r = intervalTaken (refOf s r) := by
  induction l generalizing s with
  | nil => cases hm
  | cons k l ih =>
    obtain ⟨hk, hl⟩ := List.nodup_cons.mp hl
    show refOf (intervalsTaken l (if refPresent s k then refMod k intervalTaken s else s)) r = _
    by_cases h : r = k
    · subst h
      rw [refOf_intervalsTaken_not_mem hk, if_pos hp, refOf_refMod_same hr]
    · have hm : r ∈ l := (List.mem_cons.mp hm).resolve_left h
      by_cases hpk : refPresent s k = true
      · have hp' : refPresent (refMod k intervalTaken s) r = true := by
          unfold refPresent at hp ⊢
          rwa [viewOf_refMod]
        rw [if_pos hpk, ih hl hm hp', refOf_refMod_other h]
      · rw [if_neg hpk, ih hl hm hp]

/-- Judging of the references by the changes of the interval. -/
structure Judging (s t : State) : Prop where
  frame : keepsBut [.te, .host, .mb, .pc] s t
  raw10 : ∀ r, (refOf t r).raw10 = (refOf s r).raw10
  change10 : ∀ r, (refOf t r).change10 = (refOf s r).change10

namespace Judging

variable {s t u : State}

theorem refl (s : State) : Judging s s := ⟨keepsBut_refl _ s, fun _ => rfl, fun _ => rfl⟩

theorem trans (h : Judging s t) (k : Judging t u) : Judging s u :=
  ⟨keepsBut_trans h.frame k.frame, fun r => (k.raw10 r).trans (h.raw10 r), fun r => (k.change10 r).trans (h.change10 r)⟩

theorem foldl {α : Type} {f : State → α → State} (h : ∀ t x, Judging t (f t x)) (xs : List α) (s : State) :
    Judging s (xs.foldl f s) := List.foldlRecOn xs f (motive := Judging s) (.refl s) fun t ht x _ => ht.trans (h t x)

theorem of_setRef {r : Nat} {st : RefSt} {why : Nat} {s : State}
    (h : ∀ x, (refEntered st x).raw10 = x.raw10 ∧ (refEntered st x).change10 = x.change10) : Judging s (setRef r st why s) where
  frame := keepsBut_mono (keepsBut_setRef r st why s) (by simp)
  raw10 j := refOf_setRef_preserved r why s (P := fun x => x.raw10 = (refOf s j).raw10) (fun x hx => (h x).1.trans hx) rfl
  change10 j := refOf_setRef_preserved r why s (P := fun x => x.change10 = (refOf s j).change10) (fun x hx => (h x).2.trans hx) rfl

theorem of_disqualify (r why : Nat) (s : State) : Judging s (disqualify r why s) := by
  rcases disqualify_cases r why s with h | h <;> rw [h]
  · exact of_setRef fun _ => ⟨rfl, rfl⟩
  · exact .refl s

theorem of_requalify (r why : Nat) (s : State) : Judging s (requalify r why s) := by
  rcases requalify_cases r why s with h | h <;> rw [h]
  · exact of_setRef fun _ => ⟨rfl, rfl⟩
  · exact .refl s

theorem of_badXcmp (r : Nat) (s : State) : Judging s (refMod r (fun x => { x with badXcmp := true }) s) where
  frame := keepsBut_mono (keepsBut_refMod _ _ s) (by simp)
  raw10 j := refOf_refMod_kept Reference.raw10 (by exact fun _ => rfl) r j s
  change10 j := refOf_refMod_kept Reference.change10 (by exact fun _ => rfl) r j s

theorem of_engMod (e : Nat) (f : Engine → Engine) (s : State) : Judging s (engMod e f s) :=
  ⟨keepsBut_mono (keepsBut_engMod e f s) (by simp), fun _ => rfl, fun _ => rfl⟩

theorem of_oscEvent (e : Nat) (s : State) : Judging s (oscEvent e s) :=
  ⟨keepsBut_mono (keepsBut_issueEvent _ _ _ s) (by simp), fun r => congrArg _ (refOf_of_te (issueEvent_te _ _ _ s) r),
    fun r => congrArg _ (refOf_of_te (issueEvent_te _ _ _ s) r)⟩

end Judging

theorem nodup_refList : refList.Nodup := by decide
theorem lt_of_mem_refList : ∀ r ∈ refList, r < 32 := by decide

/-- Judging ends a command with the changes that the interval left. -/
theorem refXcmpInterval_judges (s : State) :
    ∃ u, exec .refXcmpInterval s = .next (settle u) ∧ Judging (intervalsTaken refList s) u := by
  show ∃ u, execRefXcmpInterval s = .next (settle u) ∧ _
  unfold execRefXcmpInterval
  extract_lets e lim taken qual med far n judged verdicts back
  refine ⟨_, rfl, ?_⟩
  have hverdicts : Judging taken verdicts := by
    simp only [verdicts]
    split
    · refine .foldl (fun t r => ?_) judged taken
      split
      · exact (Judging.of_badXcmp r t).trans (.of_disqualify r 4 _)
      · exact .refl t
    · split
      · split
        · exact .refl taken
        · exact (Judging.of_engMod e _ taken).trans (.of_oscEvent e _)
      · exact .of_engMod e _ taken
  split
  · exact hverdicts
  · exact hverdicts.trans (.foldl (fun t r => .of_requalify r 4 t) back verdicts)

/-- At the end of an interval a present reference's change is what its raw phase moved. -/
theorem refXcmpInterval_measures (s : State) :
    ∃ t, exec .refXcmpInterval s = .next t ∧ keepsBut [.te, .host, .msi, .mb, .pc] s t ∧
      ∀ r ∈ refList, refPresent s r = true → (refOf t r).raw10 = some (refOf s r).raw ∧
        (refOf t r).change10 = (refOf s r).raw10.map (fun q => (refOf s r).raw - q) := by
  obtain ⟨u, hexec, hjudged⟩ := refXcmpInterval_judges s
  refine ⟨_, hexec, keepsBut_then_done (keepsBut_intervalsTaken refList s) hjudged.frame, fun r hm hp => ?_⟩
  have htaken := refOf_intervalsTaken_mem (lt_of_mem_refList r hm) nodup_refList hm hp
  rw [refOf_settle, hjudged.raw10, hjudged.change10, htaken]
  exact ⟨rfl, rfl⟩

/-! ### Both engines in turn -/

/-- Work on both engines in turn, where each turn leaves what is looked at of the other engine: an engine ends as its own turn
leaves it. -/
theorem foldl_engines {β : Type} {f : State → Nat → State} (P : Nat → State → β) (h : ∀ e k s, e ≠ k → P e (f s k) = P e s)
    {e : Nat} (he : e < 2) (s : State) :
    ∃ u, (u = s ∨ u = f s 0) ∧ P e u = P e s ∧ P e ([0, 1].foldl f s) = P e (f u e) := by
  obtain rfl | rfl : e = 0 ∨ e = 1 := by omega
  · exact ⟨s, .inl rfl, rfl, h 0 1 (f s 0) (by simp)⟩
  · exact ⟨f s 0, .inr rfl, h 1 0 s (by simp), rfl⟩

theorem engxOf_engxMod_ne {e k : Nat} (h : e ≠ k) (f : EngineX → EngineX) (s : State) : engxOf (engxMod k f s) e = engxOf s e :=
  vmodN_other s.te.engx k e f {} h

/-- A fit moves the model alone. -/
theorem refit_eq (s : State) (e : Nat) : ∃ m : Engine → OscModel, refit s e = engMod e (fun x => { x with model := m x }) s :=
  ⟨_, rfl⟩

/-! ### The residual of a second (R121) -/

/-- An engine's residual window with a second's mean word. -/
def residWindow (s : State) (e : Nat) (y : Rat) : List Rat :=
  (ofWord (y - modelY (engOf s e).model (modelT s) (engOf s e).temp) :: (engxOf s e).resid).take (parE s 0x28 e).toNat

/-- The window that a second leaves, with its sum. -/
def residSet (l : List Rat) (n : Int) (v : EngineX) : EngineX := { v with resid := l, residNow := n }

theorem residSecond_of_not_ready {e : Nat} {s : State} (h : (engxOf s e).modelReady = false) :
    residSecond e s = engxMod e (residSet [] 0) s := by
  unfold residSecond
  dsimp only
  rw [h]
  rfl

theorem residSecond_of_ready {e : Nat} {y : Rat} {ys : List Rat} {s : State} (h : (engxOf s e).modelReady = true)
    (hy : (engxOf s e).ySec = y :: ys) :
    residSecond e s = engxMod e (residSet (residWindow s e y) (roundAway (sumQ (residWindow s e y)))) s := by
  unfold residSecond
  dsimp only
  rw [h, hy]
  rfl

theorem residSecond_eq (e : Nat) (s : State) : ∃ l n, residSecond e s = engxMod e (residSet l n) s := by
  unfold residSecond
  dsimp only
  split
  · exact ⟨_, _, rfl⟩
  · exact ⟨_, _, rfl⟩

/-- Work before the judging of a residual: the windows of the engines and the counts of good seconds. -/
structure ResidWork (s t : State) : Prop where
  frame : keepsBut [.te] s t
  ctl : ctl t = ctl s
  eng : ∀ e, engOf t e = engOf s e
  view : ∀ r, viewOf t r = viewOf s r
  change10 : ∀ r, (refOf t r).change10 = (refOf s r).change10

namespace ResidWork

variable {s t u : State}

theorem refl (s : State) : ResidWork s s := ⟨keepsBut_refl _ s, rfl, fun _ => rfl, fun _ => rfl, fun _ => rfl⟩

theorem trans (h : ResidWork s t) (k : ResidWork t u) : ResidWork s u where
  frame := keepsBut_trans h.frame k.frame
  ctl := k.ctl.trans h.ctl
  eng e := (k.eng e).trans (h.eng e)
  view r := (k.view r).trans (h.view r)
  change10 r := (k.change10 r).trans (h.change10 r)

theorem foldl {α : Type} {f : State → α → State} (h : ∀ t x, ResidWork t (f t x)) (xs : List α) (s : State) :
    ResidWork s (xs.foldl f s) := List.foldlRecOn xs f (motive := ResidWork s) (.refl s) fun t ht x _ => ht.trans (h t x)

theorem of_residSecond (e : Nat) (s : State) : ResidWork s (residSecond e s) := by
  obtain ⟨l, n, h⟩ := residSecond_eq e s
  rw [h]
  exact ⟨keepsBut_engxMod _ _ s, rfl, fun _ => rfl, fun r => viewOf_engxMod (by exact fun _ => rfl) e r s, fun _ => rfl⟩

theorem of_suspGood (r n : Nat) (s : State) : ResidWork s (refMod r (fun x => { x with suspGood := n }) s) :=
  ⟨keepsBut_refMod _ _ s, rfl, fun _ => rfl, fun _ => rfl, fun j => refOf_refMod_kept Reference.change10 (by exact fun _ => rfl) r j s⟩

/-- Work that leaves all that the residual is taken from. -/
theorem residWindow (h : ResidWork s t) {e : Nat} (hx : engxOf t e = engxOf s e) (y : Rat) :
    residWindow t e y = residWindow s e y := by
  have hclk : t.clk = s.clk := h.frame .clk (by simp)
  unfold Machine.residWindow modelT parE
  rw [h.eng, hx, hclk, par_congr (h.frame .par (by simp)) (h.frame .group (by simp))]

theorem parE (h : ResidWork s t) (id e : Nat) : parE t id e = parE s id e :=
  par_congr (h.frame .par (by simp)) (h.frame .group (by simp)) id (e + 1)

end ResidWork

/-- The residual windows of the engines that work, a second on. -/
def residsTaken (s : State) : State :=
  [0, 1].foldl (fun t k => if k = ctl s ∨ engLive t k then residSecond k t else t) s

/-- A reference that is not selected has no seconds towards its return (R124). -/
def goodForgotten (sel : Option Nat) (s : State) : State :=
  refList.foldl (fun t r => if sel = some r then t else refMod r (fun x => { x with suspGood := 0 }) t) s

theorem residWork_residsTaken (s : State) : ResidWork s (residsTaken s) := by
  refine .foldl (fun t k => ?_) [0, 1] s
  split
  · exact .of_residSecond k t
  · exact .refl t

theorem residWork_goodForgotten (sel : Option Nat) (s : State) : ResidWork s (goodForgotten sel s) := by
  refine .foldl (fun t r => ?_) refList s
  split
  · exact .refl t
  · exact .of_suspGood r 0 t

theorem engxOf_goodForgotten (sel : Option Nat) (s : State) (e : Nat) : engxOf (goodForgotten sel s) e = engxOf s e := by
  refine foldl_keeps (fun t => engxOf t e) _ (fun t r => ?_) refList s
  split
  · rfl
  · rfl

/-- The engine in control has its turn from a state with its own windows. -/
theorem residsTaken_ctl (s : State) : ∃ u, ResidWork s u ∧ engxOf u (ctl s) = engxOf s (ctl s) ∧
    engxOf (residsTaken s) (ctl s) = engxOf (residSecond (ctl s) u) (ctl s) := by
  obtain ⟨u, hu, hown, hturn⟩ := foldl_engines (f := fun t k => if k = ctl s ∨ engLive t k then residSecond k t else t)
    (fun e t => engxOf t e) (fun e k t hne => by
      obtain ⟨l, n, h⟩ := residSecond_eq k t
      split
      · rw [h, engxOf_engxMod_ne hne]
      · rfl) (ctl_lt s) s
  refine ⟨u, ?_, hown, hturn.trans (by rw [if_pos (.inl rfl)])⟩
  rcases hu with rfl | rfl
  · exact .refl u
  · split
    · exact .of_residSecond 0 s
    · exact .refl s

/-- While its model is not ready the window is empty; else it has the second that has ended. -/
theorem residsTaken_not_ready {s : State} (h : (engxOf s (ctl s)).modelReady = false) :
    engxOf (residsTaken s) (ctl s) = residSet [] 0 (engxOf s (ctl s)) := by
  obtain ⟨u, -, hown, hturn⟩ := residsTaken_ctl s
  rw [hturn, residSecond_of_not_ready (by rw [hown, h]), engxOf_engxMod_of_lt (ctl_lt s), hown]

theorem residsTaken_ready {s : State} {y : Rat} {ys : List Rat} (h : (engxOf s (ctl s)).modelReady = true)
    (hy : (engxOf s (ctl s)).ySec = y :: ys) : engxOf (residsTaken s) (ctl s) =
      residSet (residWindow s (ctl s) y) (roundAway (sumQ (residWindow s (ctl s) y))) (engxOf s (ctl s)) := by
  obtain ⟨u, hwork, hown, hturn⟩ := residsTaken_ctl s
  rw [hturn, residSecond_of_ready (by rw [hown, h]) (by rw [hown, hy]), engxOf_engxMod_of_lt (ctl_lt s), hown,
    hwork.residWindow hown]

/-- The state in which the residual is judged. -/
def residJudged (s : State) : State := goodForgotten (engOf (residsTaken s) (ctl s)).sel (residsTaken s)

theorem residWork_residJudged (s : State) : ResidWork s (residJudged s) :=
  (residWork_residsTaken s).trans (residWork_goodForgotten _ _)

theorem engxOf_residJudged (s : State) (e : Nat) : engxOf (residJudged s) e = engxOf (residsTaken s) e :=
  engxOf_goodForgotten _ _ e

theorem execModelResidual_eq {s : State} (hauto : autoMode s (ctl s) = true) : execModelResidual s =
    match (engOf (residsTaken s) (ctl s)).sel with
    | some r => done (if (engxOf (residJudged s) (ctl s)).modelReady then residJudge r (residJudged s) else residJudged s)
    | none => done (residJudged s) := by
  rw [execModelResidual, if_neg (by simp [hauto])]
  rfl

theorem exec_modelResidual_not_ready {s : State} (hauto : autoMode s (ctl s) = true) (h : (engxOf s (ctl s)).modelReady = false) :
    exec .modelResidual s = .next (settle (residJudged s)) := by
  have hready : (engxOf (residJudged s) (ctl s)).modelReady = false := by
    rw [engxOf_residJudged, residsTaken_not_ready h]
    exact h
  show execModelResidual s = _
  rw [execModelResidual_eq hauto, hready]
  split
  · rfl
  · rfl

theorem exec_modelResidual_ready {s : State} {r : Nat} (hauto : autoMode s (ctl s) = true)
    (hready : (engxOf (residJudged s) (ctl s)).modelReady = true) (hsel : (engOf s (ctl s)).sel = some r) :
    exec .modelResidual s = .next (settle (residJudge r (residJudged s))) := by
  show execModelResidual s = _
  rw [execModelResidual_eq hauto, hready, (residWork_residsTaken s).eng, hsel]
  rfl

/-- While the model is not ready the residual window is empty. -/
theorem modelResidual_empties {s : State} (h : (engxOf s (ctl s)).modelReady = false) (hauto : autoMode s (ctl s) = true) :
    ∃ t, exec .modelResidual s = .next t ∧ keepsBut [.te, .msi] s t ∧ (engxOf t (ctl s)).resid = [] ∧
      (engxOf t (ctl s)).residNow = 0 := by
  refine ⟨_, exec_modelResidual_not_ready hauto h,
    keepsBut_done (keepsBut_mono (residWork_residJudged s).frame (by simp)) (by simp), ?_⟩
  rw [engxOf_settle, engxOf_residJudged, residsTaken_not_ready h]
  exact ⟨rfl, rfl⟩

/-! ### A residual beyond RESID_SOFT (R122) -/

section
variable {β : Type} (s : State)

theorem engOf_refit_kept (P : Engine → β) (h : ∀ x m, P { x with model := m } = P x) (k e : Nat) :
    P (engOf (refit s k) e) = P (engOf s e) := by
  obtain ⟨m, hm⟩ := refit_eq s k
  rw [hm]
  exact engOf_engMod_kept P (fun x => h x _) k e s

theorem keepsBut_refit (k : Nat) : keepsBut [.te] s (refit s k) := keepsBut_engMod _ _ s

/-- One engine's recent rows withheld from learning. -/
def withheld (e : Nat) (s : State) : State :=
  let n := (engxOf s e).learnRecent.length
  if n = 0 then s
  else refit (engxMod e (fun v => { v with learnRecent := [] }) (engMod e (fun x => { x with learned := x.learned - n }) s)) e

/-- What a fit and the two updates keep, withholding keeps. -/
theorem withhold_kept (P : State → β) (hrefit : ∀ k t, P (refit t k) = P t)
    (hx : ∀ k t, P (engxMod k (fun v => { v with learnRecent := [] }) t) = P t)
    (he : ∀ k n t, P (engMod k (fun x => { x with learned := x.learned - n }) t) = P t) : P (withhold s) = P s := by
  refine foldl_keeps P (fun t e => withheld e t) (fun t e => ?_) [0, 1] s
  unfold withheld
  dsimp only
  split
  · rfl
  · rw [hrefit, hx, he]

theorem keepsBut_withhold : keepsBut [.te] s (withhold s) := by
  refine keepsBut_foldl _ (fun t e => ?_) [0, 1] s
  dsimp only
  split
  · exact keepsBut_refl _ t
  · exact keepsBut_trans (keepsBut_trans (keepsBut_engMod _ _ t) (keepsBut_engxMod _ _ _)) (keepsBut_refit _ _)

theorem suspectAlarm_withhold (e : Nat) : (engOf (withhold s) e).suspectAlarm = (engOf s e).suspectAlarm :=
  withhold_kept s (fun t => (engOf t e).suspectAlarm)
    (fun k t => engOf_refit_kept t Engine.suspectAlarm (by exact fun _ _ => rfl) k e) (fun _ _ => rfl)
    (fun k n t => engOf_engMod_kept Engine.suspectAlarm (by exact fun _ => rfl) k e t)

theorem residNow_withhold (e : Nat) : (engxOf (withhold s) e).residNow = (engxOf s e).residNow :=
  withhold_kept s (fun t => (engxOf t e).residNow) (fun _ _ => rfl)
    (fun k t => engxOf_engxMod_kept EngineX.residNow (by exact fun _ => rfl) k e t) (fun _ _ _ => rfl)

theorem viewOf_withhold (r : Nat) : viewOf (withhold s) r = viewOf s r :=
  withhold_kept s (fun t => viewOf t r) (fun _ _ => rfl) (fun k t => viewOf_engxMod (by exact fun _ => rfl) k r t) (fun _ _ _ => rfl)

end

theorem oscBlamed_residWork {s t : State} (h : ResidWork s t) (r : Nat) : oscBlamed t r = oscBlamed s r := by
  unfold oscBlamed isQualified
  simp only [h.view, h.change10, h.ctl, h.parE]

/-- The reference becomes SUSPECT: the alarm, its state, and the data withheld. -/
def suspected (r : Nat) (s : State) : State :=
  withhold (setRef r .suspect (viewOf s r).reason (engMod (ctl s) (fun x => { x with suspectAlarm := true }) s))

theorem residJudge_suspects {r : Nat} {s : State} (hst : (viewOf s r).st = .available) (hosc : oscBlamed s r = false)
    (hsoft : (parE s 0x29 (ctl s) : Rat) < absQ (sumQ (engxOf s (ctl s)).resid))
    (hhard : absQ (sumQ (engxOf s (ctl s)).resid) ≤ (parE s 0x2A (ctl s) : Rat)) : residJudge r s = suspected r s := by
  unfold residJudge
  dsimp only
  rw [if_pos hsoft, hosc, if_neg Bool.false_ne_true, if_neg (not_lt.mpr hhard), if_pos hst]
  rfl

theorem keepsBut_suspected (r : Nat) (s : State) : keepsBut [.te, .mb, .host, .pc] s (suspected r s) :=
  keepsBut_then (keepsBut_then (n := [.te, .mb, .host, .pc]) (keepsBut_engMod _ _ s) (keepsBut_setRef _ _ _ _) (by simp) (by simp))
    (keepsBut_withhold _) (fun _ h => h) (by simp)

/-- A residual of the selected reference beyond RESID_SOFT makes it SUSPECT and alarms. -/
theorem modelResidual_suspects {r : Nat} (hr : r < 32) {y : Rat} {ys : List Rat} {s : State}
    (hready : (engxOf s (ctl s)).modelReady = true)
    (hsel : (engOf s (ctl s)).sel = some r) (hy : (engxOf s (ctl s)).ySec = y :: ys) (hauto : autoMode s (ctl s) = true)
    (hst : (viewOf s r).st = .available) (hosc : oscBlamed s r = false)
    (hsoft : (parE s 0x29 (ctl s) : Rat) < absQ (sumQ (residWindow s (ctl s) y)))
    (hhard : absQ (sumQ (residWindow s (ctl s) y)) ≤ (parE s 0x2A (ctl s) : Rat)) :
    ∃ t, exec .modelResidual s = .next t ∧ keepsBut [.te, .host, .msi, .mb, .pc] s t ∧
      (engxOf t (ctl s)).residNow = roundAway (sumQ (residWindow s (ctl s) y)) ∧ (viewOf t r).st = .suspect ∧
      (engOf t (ctl s)).suspectAlarm = true := by
  have hwork := residWork_residJudged s
  have htaken : engxOf (residJudged s) (ctl s) = _ := (engxOf_residJudged s (ctl s)).trans (residsTaken_ready hready hy)
  have hexec := exec_modelResidual_ready hauto (by rw [htaken]; exact hready) hsel
  have hjudge : residJudge r (residJudged s) = suspected r (residJudged s) := by
    refine residJudge_suspects (by rw [hwork.view, hst]) (by rw [oscBlamed_residWork hwork, hosc]) ?_ ?_
    · rw [hwork.ctl, hwork.parE, htaken]
      exact hsoft
    · rw [hwork.ctl, hwork.parE, htaken]
      exact hhard
  rw [hjudge] at hexec
  refine ⟨_, hexec, keepsBut_then_done hwork.frame (keepsBut_suspected r _), ?_, ?_, ?_⟩
  · rw [engxOf_settle, suspected, residNow_withhold, engxOf_setRef_kept r _ _ _ EngineX.residNow (by exact fun _ _ => rfl),
      engxOf_engMod, htaken]
    rfl
  · rw [viewOf_settle, suspected, viewOf_withhold, (viewOf_setRef _ _ _ hr).1]
  · rw [engOf_settle, suspected, suspectAlarm_withhold, engOf_setRef, hwork.ctl, engOf_engMod_same (ctl_lt s)]

/-! ### TODIN (R116, R117) -/

/-- A message that is malformed or mistimed is discarded and counted. -/
theorem todinMessage_discards {bytes : List Byte} {after : Nat} {lineError : Bool} {s : State}
    (h : bytes.length ≠ 16 ∨ lineError = true ∨ after < 10000 ∨ 900000 < after) :
    ∃ t, exec (.todinMessage bytes after lineError) s = .next t ∧ keepsBut [.te, .msi, .pc] s t ∧
      t.te = { s.te with tod := { s.te.tod with discarded := s.te.tod.discarded + 1 } } := by
  show ∃ t, execTodinMessage bytes after lineError s = .next t ∧ _
  unfold execTodinMessage
  extract_lets t good
  have hgood : good = false := by
    rcases h with h | h | h | h
    · simp [good, h]
    · simp [good, h]
    · simp [good, not_le.mpr h]
    · simp [good, not_le.mpr h]
  rw [if_pos (by rw [hgood]; rfl)]
  exact ⟨_, rfl, keepsBut_then_done (keepsBut_withTe _ s) (keepsBut_bump 22 1 _), rfl⟩

theorem disqualify_tod (r why : Nat) (s : State) : (disqualify r why s).te.tod = s.te.tod := by
  rcases disqualify_cases r why s with h | h <;> rw [h]
  exact setRef_te_kept r _ why s TimeSide.tod fun _ _ _ => rfl

/-- A good message brings its second: where it agrees with the label, or follows its predecessor. -/
theorem todinMessage_takes {bytes : List Byte} {after : Nat} {s : State} (hlen : bytes.length = 16)
    (hhead : fieldBe bytes 0 4 = 0xA55A010C) (hsum : ((bytes.drop 2).map (·.toNat)).sum % 256 = 0) (hlo : 10000 ≤ after)
    (hhi : after ≤ 900000) :
    ∃ t, exec (.todinMessage bytes after false) s = .next t ∧ keepsBut [.te, .host, .msi, .mb, .pc] s t ∧
      t.te.tod.lastSec = some (fieldBe bytes 4 6) ∧ t.te.tod.lost = false ∧ t.te.tod.discarded = s.te.tod.discarded ∧
      (s.te.tod.todOk = true → s.te.tod.label = some (fieldBe bytes 4 6) → t.te.tod.todOk = true ∧ t.te.tod.label = s.te.tod.label) ∧
      (s.te.tod.todOk = false → 1 ≤ fieldBe bytes 4 6 → s.te.tod.lastSec = some (fieldBe bytes 4 6 - 1) → t.te.tod.todOk = true) := by
  show ∃ t, execTodinMessage bytes after false s = .next t ∧ _
  unfold execTodinMessage
  extract_lets tod good side sec st agrees bad lost ok taken judged
  have hgood : good = true := by
    simp only [good, hlen, hhead, hsum, hlo, hhi, beq_self_eq_true, Bool.not_false, and_self, decide_true, Bool.and_self]
  rw [if_neg (by rw [hgood]; decide)]
  have hjudged : keepsBut [.te, .mb, .host, .pc] s judged ∧ judged.te.tod = taken.te.tod := by
    simp only [judged]
    split
    · exact ⟨keepsBut_then (keepsBut_withTe _ s) (keepsBut_disqualify _ _ _) (by simp) (by simp), disqualify_tod _ _ _⟩
    · exact ⟨keepsBut_mono (keepsBut_withTe _ s) (by simp), rfl⟩
  have hended : keepsBut [.te, .mb, .host, .pc] s (if st % 2 = 0 then disqualify (todPair judged) 8 judged else judged) ∧
      (if st % 2 = 0 then disqualify (todPair judged) 8 judged else judged).te.tod = taken.te.tod := by
    split
    · exact ⟨keepsBut_trans hjudged.1 (keepsBut_disqualify _ _ _), (disqualify_tod _ _ _).trans hjudged.2⟩
    · exact hjudged
  obtain ⟨hframe, htod⟩ := hended
  refine ⟨_, rfl, keepsBut_done (keepsBut_mono hframe (by simp)) (by simp), ?_⟩
  rw [settle_te, htod]
  refine ⟨rfl, rfl, rfl, fun hok hlabel => ?_, fun hok hsec hlast => ?_⟩
  · have hagrees : agrees = true := by simp [agrees, tod, hlabel, sec]
    have hlost : lost = false := by simp [lost, bad, hagrees]
    exact ⟨by simp [taken, ok, tod, hok, hlost], by simp [taken, tod, hok, hlost]⟩
  · have hlost : lost = false := by simp [lost, bad, tod, hok]
    simp [taken, ok, tod, hok, sec, hlast, hsec]

/-- Without messages the label goes on as lost. -/
theorem todinLost_goes_on {s : State} (h : s.te.tod.label ≠ none) :
    ∃ t, exec .todinLost s = .next t ∧ keepsBut [.te, .msi] s t ∧ t.te = { s.te with tod := { s.te.tod with lost := true } } := by
  have hexec : exec .todinLost s = .next (settle { s with te := { s.te with tod := { s.te.tod with lost := true } } }) :=
    if_pos (Option.isSome_iff_ne_none.mpr h)
  exact ⟨_, hexec, keepsBut_done (keepsBut_mono (keepsBut_withTe _ s) (by simp)) (by simp), settle_te _⟩

/-- Settles O18: stale delays, intervals and transients; the model's residual; TODIN messages. -/
theorem referenceMeasurements : Obligations.ReferenceMeasurements := by
  unfold Obligations.ReferenceMeasurements
  exact ⟨⟨fun g p s => delayStale_disqualifies, refXcmpInterval_measures, fun r s => conditionerStepEnd_transient⟩,
    ⟨fun s => modelResidual_empties, fun r y ys s hr => modelResidual_suspects hr⟩,
    fun bytes after lineError s => todinMessage_discards, fun bytes after s => todinMessage_takes, fun s => todinLost_goes_on⟩

end Sys2Proof.Machine

/-! The engine servo (R128 to R145): acquisition and lock, the end of a switch, learning, the temperature, and software steering
without estimates. -/

namespace Sys2Proof.Machine

-- The joined text is one compile: no thread beside the main one for each proof.
set_option Elab.async false

/-! ### The servo's state (R135) -/

/-- An engine that changes its servo state. -/
theorem engOf_setServo {e : Nat} (he : e < 2) {st : ServoSt} {s : State} (h : (engOf s e).st ≠ st) :
    engOf (setServo e st s) e = { engOf s e with st := st, lockCnt := 0, unlockCnt := 0 } := by
  unfold setServo
  dsimp only
  rw [if_neg h]
  split
  · rw [engOf_of_te (issueEvent_te _ _ _ _), engOf_engMod_same he]
  · rw [engOf_engMod_same he]

theorem issueEvent_clk (code source : Nat) (data : List Byte) (s : State) : (issueEvent code source data s).clk = s.clk :=
  keepsBut_issueEvent code source data s .clk (by simp)

theorem setTod_now (x : TodSt) (s : State) : (setTod x s).clk.now = s.clk.now := by
  unfold setTod
  split
  · rfl
  · dsimp only
    rw [issueEvent_clk]

/-- With 8,000 cycles within LOCK_WINDOW the engine is LOCKED. -/
theorem engineLock_locks {s : State} (hst : (engOf s (ctl s)).st = .acquire) (hn : 8000 ≤ (engOf s (ctl s)).lockCnt) :
    ∃ t, exec .engineLock s = .next t ∧ keepsBut [.clk, .te, .host, .msi, .mb, .pc] s t ∧ (engOf t (ctl s)).st = .locked ∧
      t.clk.now = s.clk.now := by
  have hframe := keepsBut_setServo (ctl s) .locked s
  have hlocked : (engOf (setServo (ctl s) .locked s) (ctl s)).st = .locked := by
    rw [engOf_setServo (ctl_lt s) (by rw [hst]; decide)]
  have hclk : (setServo (ctl s) .locked s).clk = s.clk := hframe .clk (by simp)
  show ∃ t, execEngineLock s = .next t ∧ _
  unfold execEngineLock
  extract_lets e x u tod
  rw [if_pos ⟨hst, hn⟩]
  refine ⟨_, rfl, ?_, ?_, ?_⟩
  · refine keepsBut_done (l := [.clk, .te, .host, .msi, .mb, .pc]) ?_ (by simp)
    split
    · exact keepsBut_then hframe (keepsBut_setTod _ u) (by simp) (by simp)
    · exact keepsBut_mono hframe (by simp)
  · rw [engOf_settle]
    split
    · rw [engOf_of_te (setTod_te _ u), hlocked]
    · exact hlocked
  · rw [settle_clk]
    split
    · rw [setTod_now, hclk]
    · rw [hclk]

/-- With 8,000 cycles beyond the window it acquires again. -/
theorem engineUnlock_acquires {r : Nat} {s : State} (hsel : (engOf s (ctl s)).sel = some r) (hst : (engOf s (ctl s)).st = .locked)
    (hn : 8000 ≤ (engOf s (ctl s)).unlockCnt) :
    ∃ t, exec .engineUnlock s = .next t ∧ keepsBut [.te, .host, .msi, .mb, .pc] s t ∧ (engOf t (ctl s)).st = .acquire ∧
      (engOf t (ctl s)).sel = some r ∧ (engOf t (ctl s)).acqPhase = 0 := by
  have hexec : exec .engineUnlock s = .next (settle (startAcquire (ctl s) r s)) := by
    show execEngineUnlock s = _
    unfold execEngineUnlock
    dsimp only
    rw [hsel]
    exact if_pos ⟨hst, hn⟩
  have hframe : keepsBut [.te, .mb, .host, .pc] s (startAcquire (ctl s) r s) := by
    have hte := keepsBut_trans (keepsBut_trans (keepsBut_viewMod r (fun v => { v with absorb := 0 }) s)
      (keepsBut_engxMod (ctl s) (fun v => { v with acqSw := false }) _)) (keepsBut_refMod r (fun x => { x with suspGood := 0 }) _)
    exact keepsBut_then (keepsBut_trans hte (keepsBut_engMod _ _ _)) (keepsBut_setServo _ _ _) (by simp) (fun _ h => h)
  have heng : engOf (startAcquire (ctl s) r s) (ctl s) = { engOf s (ctl s) with
      st := .acquire, lockCnt := 0, unlockCnt := 0, sel := some r, sw := none, forceSw := false, acqPhase := 0, slewing := false
      slewHo := false, hoInSw := false, lastFresh := 0 } := by
    unfold startAcquire
    dsimp only
    rw [engOf_setServo (ctl_lt s), engOf_engMod_same (ctl_lt s)]
    · rfl
    · rw [engOf_engMod_same (ctl_lt s), engOf_refMod, engOf_engxMod, engOf_viewMod, hst]
      decide
  refine ⟨_, hexec, keepsBut_done (keepsBut_mono hframe (by simp)) (by simp), ?_⟩
  rw [engOf_settle, heng]
  exact ⟨rfl, rfl, rfl⟩

/-! ### The initial phase of an acquisition (R136, R137) -/

/-- Work on an engine's acquisition: full time and the integrator stand. -/
structure AcquireWork (e : Nat) (s t : State) : Prop where
  frame : keepsBut [.clk, .te] s t
  now : t.clk.now = s.clk.now
  integ : (engOf t e).integ = (engOf s e).integ

namespace AcquireWork

variable {e : Nat} {s t : State}

theorem refl (e : Nat) (s : State) : AcquireWork e s s := ⟨keepsBut_refl _ s, rfl, rfl⟩

theorem then_engMod (h : AcquireWork e s t) {f : Engine → Engine} (hf : ∀ x, (f x).integ = x.integ := by exact fun _ => rfl) :
    AcquireWork e s (engMod e f t) :=
  ⟨keepsBut_trans h.frame (keepsBut_mono (keepsBut_engMod e f t) (by simp)), h.now,
    (engOf_engMod_kept Engine.integ hf e e t).trans h.integ⟩

theorem then_viewMod (h : AcquireWork e s t) {r : Nat} {f : RefView → RefView} : AcquireWork e s (viewMod r f t) :=
  ⟨keepsBut_trans h.frame (keepsBut_mono (keepsBut_viewMod r f t) (by simp)), h.now, h.integ⟩

theorem then_requestStep (h : AcquireWork e s t) {d : Int} {software : Bool} : AcquireWork e s (requestStep d software t) :=
  ⟨keepsBut_trans h.frame (keepsBut_mono (keepsBut_withClk _ t) (by simp)), h.now, h.integ⟩

end AcquireWork

/-- The acquisition waits for a step of full time, or the loop begins. -/
theorem acquirePhase_begins {e r : Nat} (he : e < 2) {s : State} (hsel : (engOf s e).sel = some r) :
    AcquireWork e s (acquirePhase e s) ∧
      ((engOf (acquirePhase e s) e).acqPhase = 1 ∨ (engOf (acquirePhase e s) e).acqPhase = 2) := by
  have hwait : ∀ u, AcquireWork e s u → AcquireWork e s (engMod e (fun x => { x with acqPhase := 1 }) u) ∧
      ((engOf (engMod e (fun x => { x with acqPhase := 1 }) u) e).acqPhase = 1 ∨
        (engOf (engMod e (fun x => { x with acqPhase := 1 }) u) e).acqPhase = 2) :=
    fun u hu => ⟨hu.then_engMod, .inl (by rw [engOf_engMod_same he])⟩
  have hloop : ∀ u, AcquireWork e s u → AcquireWork e s (engMod e (fun x => { x with acqPhase := 2, lastFresh := 0 }) u) ∧
      ((engOf (engMod e (fun x => { x with acqPhase := 2, lastFresh := 0 }) u) e).acqPhase = 1 ∨
        (engOf (engMod e (fun x => { x with acqPhase := 2, lastFresh := 0 }) u) e).acqPhase = 2) :=
    fun u hu => ⟨hu.then_engMod, .inr (by rw [engOf_engMod_same he])⟩
  have hs := AcquireWork.refl e s
  unfold acquirePhase
  rw [hsel]
  dsimp only
  split
  · exact hloop _ hs.then_engMod
  · split
    · split
      · exact hwait _ hs.then_requestStep
      · exact hloop _ hs.then_viewMod.then_engMod
    · split
      · exact hwait _ hs.then_requestStep
      · exact hloop _ hs.then_viewMod.then_engMod
    · exact hloop _ hs.then_viewMod.then_engMod

/-- The measured offset becomes the integrator. -/
theorem acquireFreqMeasured_begins {offset : Int} {r : Nat} {s : State} (hst : (engOf s (ctl s)).st = .acquire)
    (hphase : (engOf s (ctl s)).acqPhase = 0) (hsw : (engOf s (ctl s)).sw = none) (hsel : (engOf s (ctl s)).sel = some r) :
    ∃ t, exec (.acquireFreqMeasured offset) s = .next t ∧ keepsBut [.clk, .te, .msi] s t ∧
      (engOf t (ctl s)).integ = (offset : Rat) ∧ ((engOf t (ctl s)).acqPhase = 1 ∨ (engOf t (ctl s)).acqPhase = 2) ∧
      t.clk.now = s.clk.now := by
  have hexec : exec (.acquireFreqMeasured offset) s =
      .next (settle (acquirePhase (ctl s) (engMod (ctl s) (fun x => { x with integ := offset }) s))) :=
    if_pos ⟨hst, hphase, by rw [hsw]; rfl⟩
  have hset : engOf (engMod (ctl s) (fun x => { x with integ := offset }) s) (ctl s) = { engOf s (ctl s) with integ := offset } :=
    engOf_engMod_same (ctl_lt s) _
  obtain ⟨hwork, hphase⟩ := acquirePhase_begins (ctl_lt s) (r := r) (by rw [hset]; exact hsel)
  refine ⟨_, hexec, keepsBut_then_done (keepsBut_engMod _ _ s) hwork.frame, ?_, ?_, ?_⟩
  · rw [engOf_settle, hwork.integ, hset]
  · rw [engOf_settle]
    exact hphase
  · rw [settle_clk, hwork.now]
    rfl

/-- After eight seconds the bandwidth is the loop's own. -/
theorem acquireBandwidthStep_settles {s : State} (hst : (engOf s (ctl s)).st = .acquire ∨ (engOf s (ctl s)).st = .locked)
    (hphase : (engOf s (ctl s)).acqPhase = 2) :
    ∃ t, exec .acquireBandwidthStep s = .next t ∧ keepsBut [.te, .msi] s t ∧ (engOf t (ctl s)).acqPhase = 3 ∧
      (engOf t (ctl s)).st = (engOf s (ctl s)).st := by
  have hexec : exec .acquireBandwidthStep s = .next (settle (engMod (ctl s) (fun x => { x with acqPhase := 3 }) s)) :=
    if_pos ⟨hst, hphase⟩
  refine ⟨_, hexec, keepsBut_done (keepsBut_mono (keepsBut_engMod _ _ s) (by simp)) (by simp), ?_⟩
  rw [engOf_settle, engOf_engMod_same (ctl_lt s)]
  exact ⟨rfl, rfl⟩

/-! ### The end of a switch (R128 to R132) -/

theorem engxOf_bothX {e : Nat} (he : e < 2) (f : EngineX → EngineX) (s : State) : engxOf (bothX f s) e = f (engxOf s e) := by
  obtain rfl | rfl : e = 0 ∨ e = 1 := by omega
  · rw [bothX, engxOf_engxMod_ne (by decide), engxOf_engxMod_of_lt (by decide)]
  · rw [bothX, engxOf_engxMod_of_lt (by decide), engxOf_engxMod_ne (by decide)]

theorem viewOf_bothX {f : EngineX → EngineX} (h : ∀ x, (f x).refs = x.refs) (r : Nat) (s : State) :
    viewOf (bothX f s) r = viewOf s r := by
  rw [bothX, viewOf_engxMod h, viewOf_engxMod h]

theorem keepsBut_bothX (f : EngineX → EngineX) (s : State) : keepsBut [.te] s (bothX f s) :=
  keepsBut_trans (keepsBut_engxMod 0 f s) (keepsBut_engxMod 1 f _)

/-- Work after a switch: what the switch has set stands. -/
structure SwitchedWork (s t : State) : Prop where
  frame : keepsBut [.clk, .te, .mb, .host, .pc] s t
  now : t.clk.now = s.clk.now
  sw : ∀ e, (engOf t e).sw = (engOf s e).sw
  sel : ∀ e, (engOf t e).sel = (engOf s e).sel
  resid : ∀ e, (engxOf t e).resid = (engxOf s e).resid
  view : ∀ r, viewOf t r = viewOf s r

namespace SwitchedWork

variable {s t u : State}

theorem refl (s : State) : SwitchedWork s s := ⟨keepsBut_refl _ s, rfl, fun _ => rfl, fun _ => rfl, fun _ => rfl, fun _ => rfl⟩

theorem trans (h : SwitchedWork s t) (k : SwitchedWork t u) : SwitchedWork s u where
  frame := keepsBut_trans h.frame k.frame
  now := k.now.trans h.now
  sw e := (k.sw e).trans (h.sw e)
  sel e := (k.sel e).trans (h.sel e)
  resid e := (k.resid e).trans (h.resid e)
  view r := (k.view r).trans (h.view r)

/-- Work that leaves the time side and full time. -/
theorem of_te {l : List Part} (h : keepsBut l s t) (hte : t.te = s.te) (hnow : t.clk.now = s.clk.now)
    (hl : ∀ p ∈ l, p ∈ [.clk, .te, .mb, .host, .pc] := by simp) : SwitchedWork s t where
  frame := keepsBut_mono h hl
  now := hnow
  sw e := by rw [engOf_of_te hte]
  sel e := by rw [engOf_of_te hte]
  resid e := by rw [engxOf_of_te hte]
  view := viewOf_of_te hte

theorem of_setTod (x : TodSt) (s : State) : SwitchedWork s (setTod x s) :=
  of_te (keepsBut_setTod x s) (setTod_te x s) (setTod_now x s)

theorem of_switchEvent (inc : Nat) (out : Option Nat) (forced uncompleted : Bool) (off : Rat) (s : State) :
    SwitchedWork s (switchEvent inc out forced uncompleted off s) := by
  have hframe := keepsBut_issueEvent 0x0202 inc ([BitVec.ofNat 8 (out.getD 255), BitVec.ofNat 8 (b2n forced + 2 * b2n uncompleted)]
    ++ le 6 0 ++ s64 (roundAway off)) s
  exact of_te hframe (issueEvent_te _ _ _ s) (congrArg Clock.now (hframe .clk (by simp)))

theorem of_engMod {e : Nat} {f : Engine → Engine} (s : State) (hsw : ∀ x, (f x).sw = x.sw := by exact fun _ => rfl)
    (hsel : ∀ x, (f x).sel = x.sel := by exact fun _ => rfl) : SwitchedWork s (engMod e f s) :=
  ⟨keepsBut_mono (keepsBut_engMod e f s) (by simp), rfl, fun i => engOf_engMod_kept Engine.sw hsw e i s,
    fun i => engOf_engMod_kept Engine.sel hsel e i s, fun _ => rfl, fun _ => rfl⟩

theorem of_bothX {f : EngineX → EngineX} (s : State) (hresid : ∀ x, (f x).resid = x.resid := by exact fun _ => rfl)
    (hrefs : ∀ x, (f x).refs = x.refs := by exact fun _ => rfl) : SwitchedWork s (bothX f s) :=
  ⟨keepsBut_mono (keepsBut_bothX f s) (by simp), rfl, fun _ => rfl, fun _ => rfl,
    fun e => (engxOf_engxMod_kept EngineX.resid hresid 1 e _).trans (engxOf_engxMod_kept EngineX.resid hresid 0 e s),
    fun r => viewOf_bothX hrefs r s⟩

theorem of_takeSelCmd (s : State) : SwitchedWork s (takeSelCmd s) := by
  unfold takeSelCmd
  split
  · exact .of_bothX s
  · exact .refl s

theorem of_todOnSwitch (r : Nat) (s : State) : SwitchedWork s (todOnSwitch r s) := by
  unfold todOnSwitch
  dsimp only
  split
  · exact (SwitchedWork.of_engMod s).trans (.of_setTod _ _)
  · split
    · exact .of_setTod _ s
    · exact .refl s

end SwitchedWork

/-- The outgoing reference absorbs nothing more, the incoming one the mean difference (R130). -/
def switchAbsorbed (w : SwitchSt) (s : State) : State :=
  viewMod w.incoming (fun v => { v with absorb := w.sum / 64 }) (match w.outgoing with
    | some r => viewMod r (fun v => { v with absorb := 0 }) s
    | none => s)

/-- What a switch sets as its 64 cycles are over, before it is reported. -/
def switched (w : SwitchSt) (s : State) : State :=
  let emptied := bothX (fun v => { v with resid := [] }) (bump 20 1 (switchAbsorbed w s))
  let forgot := refMod w.incoming (fun x => { x with suspGood := 0 }) emptied
  engMod (ctl s) (fun x => { x with
    sw := none, sel := some w.incoming
    slewing := (x.slewHo && x.slewing) || par forgot 0x05 w.incoming == 1
    slewAt := if x.slewHo && x.slewing then x.slewAt else forgot.clk.elapsed
    slewHo := x.slewHo && x.slewing }) forgot

section
variable (w : SwitchSt) (s : State)

theorem exec_switchComplete {w : SwitchSt} {s : State} (hsw : (engOf s (ctl s)).sw = some w) (hcycle : 64 ≤ w.cycle) :
    exec .switchComplete s = .next (settle (takeSelCmd (todOnSwitch w.incoming
      (switchEvent w.incoming w.outgoing w.forced false (w.sum / 64) (switched w s))))) := by
  show execSwitchComplete s = _
  unfold execSwitchComplete
  dsimp only
  rw [hsw]
  exact if_neg (Nat.not_lt.mpr hcycle)

theorem keepsBut_switchAbsorbed : keepsBut [.te] s (switchAbsorbed w s) := by
  unfold switchAbsorbed
  split
  · exact keepsBut_trans (keepsBut_viewMod _ _ s) (keepsBut_viewMod _ _ _)
  · exact keepsBut_viewMod _ _ s

theorem keepsBut_switched : keepsBut [.te, .pc] s (switched w s) :=
  keepsBut_then (keepsBut_then (n := [.te, .pc]) (keepsBut_switchAbsorbed w s) (keepsBut_bump 20 1 _) (by simp) (by simp))
    (keepsBut_trans (keepsBut_trans (keepsBut_bothX _ _) (keepsBut_refMod _ _ _)) (keepsBut_engMod _ _ _)) (fun _ h => h) (by simp)

theorem engOf_switched : (engOf (switched w s) (ctl s)).sw = none ∧ (engOf (switched w s) (ctl s)).sel = some w.incoming := by
  rw [switched, engOf_engMod_same (ctl_lt s)]
  exact ⟨rfl, rfl⟩

theorem resid_switched : (engxOf (switched w s) (ctl s)).resid = [] := by
  rw [switched, engxOf_engMod, engxOf_refMod, engxOf_bothX (ctl_lt s)]

theorem viewOf_switched {w : SwitchSt} (hinc : w.incoming < 32) : (viewOf (switched w s) w.incoming).absorb = w.sum / 64 := by
  rw [switched, viewOf_engMod, viewOf_refMod, viewOf_bothX (by exact fun _ => rfl), viewOf_of_te (bump_te 20 1 _), switchAbsorbed,
    viewOf_viewMod_same hinc]

end

/-- The mean difference of a switch's cycles is absorbed by the incoming reference, which is then the selected one. -/
theorem switchComplete_absorbs {w : SwitchSt} {s : State} (hsw : (engOf s (ctl s)).sw = some w) (hcycle : 64 ≤ w.cycle)
    (hinc : w.incoming < 32) :
    ∃ t, exec .switchComplete s = .next t ∧ keepsBut [.clk, .te, .host, .msi, .mb, .pc] s t ∧ (engOf t (ctl s)).sw = none ∧
      (engOf t (ctl s)).sel = some w.incoming ∧ (viewOf t w.incoming).absorb = w.sum / 64 ∧ (engxOf t (ctl s)).resid = [] ∧
      t.clk.now = s.clk.now := by
  have hwork : SwitchedWork (switched w s) (takeSelCmd (todOnSwitch w.incoming
      (switchEvent w.incoming w.outgoing w.forced false (w.sum / 64) (switched w s)))) :=
    ((SwitchedWork.of_switchEvent _ _ _ _ _ _).trans (.of_todOnSwitch _ _)).trans (.of_takeSelCmd _)
  have hframe := keepsBut_switched w s
  obtain ⟨hnone, hsel⟩ := engOf_switched w s
  refine ⟨_, exec_switchComplete hsw hcycle, keepsBut_then_done hframe hwork.frame, ?_, ?_, ?_, ?_, ?_⟩
  · rw [engOf_settle, hwork.sw, hnone]
  · rw [engOf_settle, hwork.sel, hsel]
  · rw [viewOf_settle, hwork.view, viewOf_switched s hinc]
  · rw [engxOf_settle, hwork.resid, resid_switched]
  · rw [settle_clk, hwork.now, hframe .clk (by simp)]

/-! ### Learning (R138) -/

theorem engOf_engMod_ne {e k : Nat} (h : e ≠ k) (f : Engine → Engine) (s : State) : engOf (engMod k f s) e = engOf s e :=
  vmodN_other s.te.eng k e f {} h

theorem engOf_refit_ne {e k : Nat} (h : e ≠ k) (s : State) : engOf (refit s k) e = engOf s e := engOf_engMod_ne h _ s

theorem engxOf_refit (e k : Nat) (s : State) : engxOf (refit s k) e = engxOf s e := rfl

theorem keepsBut_withFree (n : Nat) (s : State) : keepsBut [.free] s { s with free := n } := by
  intro p hp
  cases p <;> first | rfl | exact ⟨rfl, rfl, rfl⟩ | simp at hp

/-- An engine that has learnt nothing begins its model at a time of its own. -/
def learnBegun (e : Nat) (s : State) : State :=
  if (engOf s e).learned = 0 ∧ (engxOf s e).learnRecent.isEmpty then
    engMod e (fun x => { x with model := { x.model with t0 := Config.freeRat s.free } }) { s with free := s.free + 1 }
  else s

section
variable (e : Nat) (s : State)

theorem keepsBut_learnBegun : keepsBut [.te, .free] s (learnBegun e s) := by
  have hdraw : keepsBut [.free] s { s with free := s.free + 1 } := keepsBut_withFree _ s
  unfold learnBegun
  split
  · exact keepsBut_then hdraw (keepsBut_engMod _ _ _) (by simp) (by simp)
  · exact keepsBut_refl _ s

theorem learned_learnBegun : (engOf (learnBegun e s) e).learned = (engOf s e).learned := by
  unfold learnBegun
  split
  · exact engOf_engMod_kept Engine.learned (by exact fun _ => rfl) e e _
  · rfl

theorem engxOf_learnBegun (k : Nat) : engxOf (learnBegun e s) k = engxOf s k := by
  unfold learnBegun
  split
  · rfl
  · rfl

theorem engOf_learnBegun_ne {e k : Nat} (h : k ≠ e) : engOf (learnBegun e s) k = engOf s k := by
  unfold learnBegun
  split
  · exact engOf_engMod_ne h _ _
  · rfl

/-- A second without a word learns nothing; one with a word is one more row of the fit. -/
theorem learnSecond_cases :
    (engxOf s e).ySec = [] ∧ learnSecond e s = learnBegun e s ∨
      ∃ (fit : FitSums) (g : EngineX → EngineX), learnSecond e s =
        refit (engxMod e g (engMod e (fun x => { x with fit := fit, learned := x.learned + 1 }) (learnBegun e s))) e := by
  rw [← engxOf_learnBegun e s e]
  unfold learnSecond
  dsimp only
  split
  next hsec => exact .inl ⟨hsec, rfl⟩
  next => exact .inr ⟨_, _, rfl⟩

/-- A second of one engine's learning leaves the other engine. -/
theorem learnSecond_other {e k : Nat} (h : k ≠ e) (s : State) :
    engOf (learnSecond e s) k = engOf s k ∧ engxOf (learnSecond e s) k = engxOf s k := by
  obtain ⟨-, hsame⟩ | ⟨fit, g, hrow⟩ := learnSecond_cases e s
  · rw [hsame, engOf_learnBegun_ne s h, engxOf_learnBegun]
    exact ⟨rfl, rfl⟩
  · rw [hrow, engOf_refit_ne h, engOf_engxMod, engOf_engMod_ne h, engOf_learnBegun_ne s h, engxOf_refit, engxOf_engxMod_ne h,
      engxOf_engMod, engxOf_learnBegun]
    exact ⟨rfl, rfl⟩

theorem keepsBut_learnSecond : keepsBut [.te, .free] s (learnSecond e s) := by
  have hbegun := keepsBut_learnBegun e s
  obtain ⟨-, hsame⟩ | ⟨fit, g, hrow⟩ := learnSecond_cases e s
  · rw [hsame]
    exact hbegun
  · rw [hrow]
    exact keepsBut_then hbegun (keepsBut_trans (keepsBut_trans (keepsBut_engMod _ _ _) (keepsBut_engxMod _ _ _)) (keepsBut_refit _ _))
      (fun _ h => h) (by simp)

/-- A second of learning is one more row of an engine with a mean word. -/
theorem learned_learnSecond {e : Nat} (he : e < 2) {s : State} (h : (engxOf s e).ySec ≠ []) :
    (engOf (learnSecond e s) e).learned = (engOf s e).learned + 1 := by
  obtain ⟨hnil, -⟩ | ⟨fit, g, hrow⟩ := learnSecond_cases e s
  · exact absurd hnil h
  · rw [hrow, engOf_refit_kept _ Engine.learned (fun _ _ => rfl), engOf_engxMod, engOf_engMod_same he]
    exact congrArg (· + 1) (learned_learnBegun e s)

end

theorem engLive_congr {s t : State} {e : Nat} (h : engxOf t e = engxOf s e) : engLive t e = engLive s e := by
  rw [engLive, engLive, h]

/-- A second of learning is one more row for every live engine. -/
theorem holdoverLearn_learns {s : State} (hcycles : cyclesRun s = true) (hlearn : mayLearn s = true) :
    ∃ t, exec .holdoverLearn s = .next t ∧ keepsBut [.te, .msi, .free] s t ∧
      ∀ e, e < 2 → engLive s e = true → (engxOf s e).ySec ≠ [] → (engOf t e).learned = (engOf s e).learned + 1 := by
  have hexec : exec .holdoverLearn s =
      .next (settle ([0, 1].foldl (fun s e => if engLive s e then learnSecond e s else s) s)) :=
    if_pos (by rw [hcycles, hlearn]; rfl)
  have hframe : ∀ (t : State) (e : Nat), keepsBut [.te, .free] t (if engLive t e then learnSecond e t else t) := by
    intro t e
    split
    · exact keepsBut_learnSecond e t
    · exact keepsBut_refl _ t
  have hother : ∀ (e k : Nat) (t : State), e ≠ k →
      (engOf (if engLive t k then learnSecond k t else t) e, engxOf (if engLive t k then learnSecond k t else t) e) =
        (engOf t e, engxOf t e) := by
    intro e k t hne
    split
    · obtain ⟨hx, hv⟩ := learnSecond_other hne t
      rw [hx, hv]
    · rfl
  refine ⟨_, hexec, keepsBut_done (keepsBut_mono (keepsBut_foldl _ hframe [0, 1] s) (by simp)) (by simp), ?_⟩
  intro e he hlive hword
  obtain ⟨u, -, hu, hfold⟩ := foldl_engines (fun e s => (engOf s e, engxOf s e)) hother he s
  obtain ⟨hx, hv⟩ := Prod.mk.inj hu
  have hturn : (engOf (learnSecond e u) e).learned = (engOf u e).learned + 1 := learned_learnSecond he (by rw [hv]; exact hword)
  rw [engOf_settle, (Prod.mk.inj hfold).1, if_pos (by rw [engLive_congr hv, hlive]), hturn, hx]

/-- One engine's model becomes ready after 24 h. -/
def readied (s : State) (e : Nat) : State :=
  if 86400 ≤ (engOf s e).learned ∧ !(engxOf s e).modelReady then refit (engxMod e (fun v => { v with modelReady := true }) s) e else s

theorem keepsBut_readied (s : State) (e : Nat) : keepsBut [.te] s (readied s e) := by
  unfold readied
  split
  · exact keepsBut_trans (keepsBut_engxMod _ _ s) (keepsBut_refit _ _)
  · exact keepsBut_refl _ s

theorem readied_other {e k : Nat} (h : e ≠ k) (s : State) :
    engOf (readied s k) e = engOf s e ∧ engxOf (readied s k) e = engxOf s e := by
  unfold readied
  split
  · rw [engOf_refit_ne h, engOf_engxMod, engxOf_refit, engxOf_engxMod_ne h]
    exact ⟨rfl, rfl⟩
  · exact ⟨rfl, rfl⟩

/-- An engine whose model was ready stays so; another's is ready with a day of rows. -/
theorem modelReady_readied {e : Nat} (he : e < 2) (s : State) :
    (engxOf (readied s e) e).modelReady = ((engxOf s e).modelReady || decide (86400 ≤ (engOf s e).learned)) := by
  unfold readied
  split
  next h => rw [engxOf_refit, engxOf_engxMod_of_lt he, decide_eq_true h.1, Bool.or_true]
  next h =>
    cases hready : (engxOf s e).modelReady with
    | true => rfl
    | false => rw [decide_eq_false fun hday => h ⟨hday, by rw [hready]; rfl⟩, Bool.or_false]

/-- The model is ready after 24 h of rows. -/
theorem modelReadyReached_readies (s : State) : ∃ t, exec .modelReadyReached s = .next t ∧ keepsBut [.te, .msi] s t ∧
    ∀ e, e < 2 → (86400 ≤ (engOf s e).learned → (engxOf t e).modelReady = true) ∧
      ((engOf s e).learned < 86400 → (engxOf t e).modelReady = (engxOf s e).modelReady) := by
  have hexec : exec .modelReadyReached s = .next (settle ([0, 1].foldl readied s)) := rfl
  refine ⟨_, hexec, keepsBut_done (keepsBut_mono (keepsBut_foldl _ keepsBut_readied [0, 1] s) (by simp)) (by simp), ?_⟩
  intro e he
  obtain ⟨u, -, hu, hfold⟩ := foldl_engines (fun e s => (engOf s e, engxOf s e))
    (fun e k t h => Prod.ext (readied_other h t).1 (readied_other h t).2) he s
  obtain ⟨hx, hv⟩ := Prod.mk.inj hu
  rw [engxOf_settle, (Prod.mk.inj hfold).2, modelReady_readied he, hx, hv]
  constructor
  · intro hday
    rw [decide_eq_true hday, Bool.or_true]
  · intro hday
    rw [decide_eq_false (Nat.not_le.mpr hday), Bool.or_false]

/-! ### The temperature (R139) -/

/-- The I2C device and register a poll reads. -/
def polled (e : Nat) (s : State) : State :=
  engMod e (fun x => { x with
    polled := if parE s 0x30 e = 1 then some (bits (parE s 0x31 e).toNat 0 7, bits (parE s 0x31 e).toNat 8 8) else none }) s

/-- What the reading of a sensor says of the temperature. -/
def tempRead (s : State) (e w : Nat) : Rat :=
  if parE s 0x30 e = 0 then (tempRaw s e w : Rat) / 16
  else (parE s 0x32 e : Rat) * tempRaw s e w / 65536 + (parE s 0x33 e : Rat) / 16

/-- An alarm of the oscillator is an event alone. -/
theorem keepsBut_oscEvent (e : Nat) (s : State) : keepsBut [.mb, .host, .pc] s (oscEvent e s) := keepsBut_issueEvent _ _ _ s

theorem oscEvent_te (e : Nat) (s : State) : (oscEvent e s).te = s.te := issueEvent_te _ _ _ s

/-- A poll ends with the engine changed, and perhaps an event. -/
theorem tempPoll_ends {e : Nat} (he : e < 2) {s t : State} {c : Prop} [Decidable c] {f : Engine → Engine}
    (hframe : keepsBut [.te] s t) :
    keepsBut [.te, .host, .msi, .mb, .pc] s (settle (if c then oscEvent e (engMod e f t) else engMod e f t)) ∧
      engOf (settle (if c then oscEvent e (engMod e f t) else engMod e f t)) e = f (engOf t e) := by
  have hte := keepsBut_trans hframe (keepsBut_engMod e f t)
  split
  · refine ⟨keepsBut_then_done hte (keepsBut_oscEvent e _), ?_⟩
    rw [engOf_settle, engOf_of_te (oscEvent_te e _), engOf_engMod_same he]
  · refine ⟨keepsBut_done (keepsBut_mono hte (by simp)) (by simp), ?_⟩
    rw [engOf_settle, engOf_engMod_same he]

theorem exec_tempPoll_some {e : EngIx} {v : Nat} {s : State} (hon : (engxOf s e.val).on = true) : ∃ c : Bool,
    exec (.tempPoll e (some v)) s = .next (settle
      (if c then oscEvent e.val (engMod e.val (fun x => { x with temp := tempRead s e.val v, tempFails := 0, tempFault := false })
        (polled e.val s))
      else engMod e.val (fun x => { x with temp := tempRead s e.val v, tempFails := 0, tempFault := false }) (polled e.val s))) :=
  ⟨_, if_neg (by rw [hon]; simp)⟩

theorem exec_tempPoll_none {e : EngIx} {s : State} (hon : (engxOf s e.val).on = true) : ∃ n : Nat,
    n = (engOf (polled e.val s) e.val).tempFails + 1 ∧ exec (.tempPoll e none) s = .next (settle
      (if n = 3 then oscEvent e.val (engMod e.val (fun x => { x with tempFails := n, tempFault := x.tempFault || decide (3 ≤ n) })
        (polled e.val s))
      else engMod e.val (fun x => { x with tempFails := n, tempFault := x.tempFault || decide (3 ≤ n) }) (polled e.val s))) :=
  ⟨_, rfl, if_neg (by rw [hon]; simp)⟩

/-- On the die the reading is in 1/16 °C. -/
theorem tempRead_of_die {s : State} {e : Nat} (h : parE s 0x30 e = 0) (v : Nat) : tempRead s e v = (toSigned 16 v : Rat) / 16 := by
  rw [tempRead, if_pos h, tempRaw, if_neg (by rw [h]; decide), if_neg (by rw [h]; simp)]

/-- Behind a converter it has the scale and the offset of the parameters. -/
theorem tempRead_of_input {s : State} {e v : Nat} (h : parE s 0x30 e = 2) (hv : v ≤ 2000) :
    tempRead s e v = (parE s 0x32 e : Rat) * (v : Rat) / 65536 + (parE s 0x33 e : Rat) / 16 := by
  rw [tempRead, if_neg (by rw [h]; decide), tempRaw, if_pos h, min_eq_left (by exact_mod_cast hv), Int.cast_natCast]

/-- The temperature follows the sensor. -/
theorem tempPoll_follows {e : EngIx} {s : State} (v : Nat) (hon : (engxOf s e.val).on = true) :
    ∃ t, exec (.tempPoll e (some v)) s = .next t ∧ keepsBut [.te, .host, .msi, .mb, .pc] s t ∧
      (parE s 0x30 e.val = 0 → (engOf t e.val).temp = (toSigned 16 v : Rat) / 16) ∧
      (parE s 0x30 e.val = 2 → v ≤ 2000 →
        (engOf t e.val).temp = (parE s 0x32 e.val : Rat) * (v : Rat) / 65536 + (parE s 0x33 e.val : Rat) / 16) ∧
      (engOf t e.val).tempFault = false ∧ (engOf t e.val).tempFails = 0 := by
  obtain ⟨c, hexec⟩ := exec_tempPoll_some (v := v) hon
  obtain ⟨hframe, heng⟩ := tempPoll_ends e.isLt (c := c = true) (t := polled e.val s) (keepsBut_engMod _ _ s)
  refine ⟨_, hexec, hframe, ?_⟩
  rw [heng]
  exact ⟨fun h => tempRead_of_die h v, tempRead_of_input, rfl, rfl⟩

/-- The third failed reading in a row is a fault. -/
theorem tempPoll_fails {e : EngIx} {s : State} (hon : (engxOf s e.val).on = true) :
    ∃ t, exec (.tempPoll e none) s = .next t ∧ keepsBut [.te, .host, .msi, .mb, .pc] s t ∧
      (engOf t e.val).tempFails = (engOf s e.val).tempFails + 1 ∧ (engOf t e.val).temp = (engOf s e.val).temp ∧
      (2 ≤ (engOf s e.val).tempFails → (engOf t e.val).tempFault = true) := by
  obtain ⟨n, hn, hexec⟩ := exec_tempPoll_none hon
  obtain ⟨hframe, heng⟩ := tempPoll_ends e.isLt (c := n = 3) (t := polled e.val s) (keepsBut_engMod _ _ s)
  have hpolled : engOf (polled e.val s) e.val = _ := engOf_engMod_same e.isLt _
  replace hn : n = (engOf s e.val).tempFails + 1 := by rw [hn, hpolled]
  refine ⟨_, hexec, hframe, ?_⟩
  rw [heng, hpolled]
  exact ⟨hn, rfl, fun h => by rw [decide_eq_true (show 3 ≤ n by omega), Bool.or_true]⟩

/-! ### Software steering without estimates (R145) -/

/-- An engine that begins to steer from its model. -/
theorem enterModel_eq (e : Nat) (s : State) : ∃ f : Engine → Engine, enterModel e s = engMod e f s ∧
    ∀ x, (f x).st = x.st ∧ (f x).hoIn ≠ none :=
  ⟨_, rfl, fun _ => ⟨rfl, Option.some_ne_none _⟩⟩

/-- Without estimates SW_CLOSED steers from the model and stays SW_CLOSED. -/
theorem swTimeoutExpiry_steers {s : State} (hst : (engOf s (ctl s)).st = .swClosed) (hin : (engOf s (ctl s)).hoInSw = false) :
    ∃ t, exec .swTimeoutExpiry s = .next t ∧ keepsBut [.te, .msi] s t ∧ (engOf t (ctl s)).hoInSw = true ∧
      (engOf t (ctl s)).st = .swClosed ∧ (engOf t (ctl s)).hoIn ≠ none := by
  have hexec : exec .swTimeoutExpiry s = .next (settle (engMod (ctl s) (fun x => { x with hoInSw := true }) (enterModel (ctl s) s))) :=
    if_pos ⟨hst, by rw [hin]; rfl⟩
  obtain ⟨f, hmodel, hf⟩ := enterModel_eq (ctl s) s
  obtain ⟨hkept, hsteer⟩ := hf (engOf s (ctl s))
  rw [hmodel] at hexec
  refine ⟨_, hexec, keepsBut_then_done (keepsBut_engMod _ f s) (keepsBut_engMod _ _ _), ?_⟩
  rw [engOf_settle, engOf_engMod_same (ctl_lt s), engOf_engMod_same (ctl_lt s)]
  exact ⟨rfl, hkept.trans hst, hsteer⟩

/-- Settles O19: an acquisition, a lock, a switch, a second of learning, a reading of the temperature and the loss of software's
estimates, each by the lemma over its command. -/
theorem engineServo : Obligations.EngineServo := by
  refine ⟨⟨?_, ?_, ?_, ?_⟩, ?_, ?_, ?_, ?_, ?_, ?_⟩
  · exact fun _ _ _ hst hphase hsw hsel => acquireFreqMeasured_begins hst hphase hsw hsel
  · exact fun _ hst hphase => acquireBandwidthStep_settles hst hphase
  · exact fun _ hst hn => engineLock_locks hst hn
  · exact fun _ _ hsel hst hn => engineUnlock_acquires hsel hst hn
  · exact fun _ _ hsw hcycle hinc => switchComplete_absorbs hsw hcycle hinc
  · exact fun _ hcycles hlearn => holdoverLearn_learns hcycles hlearn
  · exact modelReadyReached_readies
  · exact fun _ v _ hon => tempPoll_follows v hon
  · exact fun _ _ hon => tempPoll_fails hon
  · exact fun _ hst hin => swTimeoutExpiry_steers hst hin

end Sys2Proof.Machine

/-! An edge of the clock on an empty queue (R37, R41, R155). -/

namespace Sys2Proof.Machine

-- The joined text is one compile: no thread beside the main one for each proof.
set_option Elab.async false

/-! ### The claims that the output stages latch (R155) -/

/-- Every output stage holds the claims that the engines present. -/
def allLatched (s : State) : Bool := s.te.engx.all (fun x => x.latched == x.claim)

theorem latchClaims_of_allLatched {s : State} (h : allLatched s = true) : latchClaims s = s := if_pos h

/-- The time side with the claims presented latched now. -/
def claimsLatched (s : State) : TimeSide := { s.te with
  engx := s.te.engx.map (fun (x : EngineX) => { x with latched := x.claim }), ks := { s.te.ks with latchAt := s.clk.elapsed } }

theorem latchClaims_of_changed {s : State} (h : allLatched s ≠ true) : latchClaims s = { s with te := claimsLatched s } := if_neg h

theorem latchClaims_te (s : State) : (latchClaims s).te = s.te ∨ (latchClaims s).te = claimsLatched s := by
  by_cases h : allLatched s = true
  · exact .inl (by rw [latchClaims_of_allLatched h])
  · exact .inr (by rw [latchClaims_of_changed h])

/-! ### The two kinds of edges -/

/-- A time-clock edge is an advance, the latch where it ends on an 8 ns boundary, and a new place in the pattern. -/
theorem timeClockEdge_eq (s : State) : ∃ u c, u = advance (edgeAdd (nextEdge s)) s ∧
    timeClockEdge s = { (if u.clk.now % (8 * uNs) = 0 then latchClaims u else u) with clk := c } :=
  ⟨_, _, rfl, rfl⟩

theorem keepsBut_timeClockEdge (s : State) : keepsBut [.clk, .te] s (timeClockEdge s) := by
  obtain ⟨u, c, rfl, hedge⟩ := timeClockEdge_eq s
  rw [hedge]
  have hadvance := keepsBut_advance (edgeAdd (nextEdge s)) s
  split
  · exact keepsBut_then (keepsBut_then (n := [.clk, .te]) hadvance (keepsBut_latchClaims _) (by simp) (by simp))
      (keepsBut_withClk c _) (by simp) (by simp)
  · exact keepsBut_mono (keepsBut_trans hadvance (keepsBut_withClk c _)) (by simp)

theorem timeClockEdge_te (s : State) : (timeClockEdge s).te = s.te ∨
    (timeClockEdge s).clk.now % (8 * uNs) = 0 ∧ (timeClockEdge s).te = { s.te with
      engx := s.te.engx.map (fun (x : EngineX) => { x with latched := x.claim })
      ks := { s.te.ks with latchAt := (timeClockEdge s).clk.elapsed } } := by
  rw [timeClockEdge_clk]
  obtain ⟨u, c, rfl, hedge⟩ := timeClockEdge_eq s
  rw [hedge]
  split
  next hbound => exact (latchClaims_te _).imp_right fun hte => ⟨hbound, hte⟩
  next => exact .inl rfl

theorem keepsBut_kettleEdge (s : State) : keepsBut [.clk] s (kettleEdge s) :=
  keepsBut_trans (keepsBut_advance _ s) (keepsBut_withClk _ _)

/-- 1.6 ns to the nearest unit, up or down. -/
theorem edgeAdd_cases (k : Nat) : edgeAdd k = 1677722 ∨ edgeAdd k = 1677721 := by
  unfold edgeAdd
  split
  · exact .inl rfl
  · exact .inr rfl

/-! ### The step -/

theorem tick_of_por {s : State} (h : s.rst.por = true) : tick s = s := if_pos h

theorem tick_of_kettle {s : State} (h : s.rst.por = false) (hk : s.clk.kettle = true) : tick s = kettleEdge s := by
  rw [tick, if_neg (by rw [h]; decide), if_pos hk]

theorem tick_of_timeClock {s : State} (h : s.rst.por = false) (hk : s.clk.kettle = false) : tick s = timeClockEdge s := by
  rw [tick, if_neg (by rw [h]; decide), if_neg (by rw [hk]; decide)]

theorem step_of_empty {s : State} (h : s.pending = []) : step s = .next (tick s) := by
  unfold step
  rw [h]

/-- Settles O2: nothing during power-on reset, a Kettle edge that touches the counter alone, or a time-clock edge. -/
theorem emptyQueueTicks : Obligations.EmptyQueueTicks := by
  unfold Obligations.EmptyQueueTicks
  intro s hempty
  refine ⟨_, step_of_empty hempty, ?_⟩
  cases hpor : s.rst.por with
  | true =>
    rw [tick_of_por hpor]
    exact ⟨keepsBut_refl _ s, rfl, rfl, .inl rfl, fun _ => rfl, fun h => nomatch h⟩
  | false =>
    cases hkettle : s.clk.kettle with
    | true =>
      rw [tick_of_kettle hpor hkettle]
      exact ⟨keepsBut_mono (keepsBut_kettleEdge s) (by simp), rfl, rfl, .inl rfl, fun h => (nomatch h), fun _ h => nomatch h⟩
    | false =>
      rw [tick_of_timeClock hpor hkettle]
      have hclk := timeClockEdge_clk s
      refine ⟨keepsBut_timeClockEdge s, by rw [hclk], by rw [hclk], timeClockEdge_te s, fun h => (nomatch h), fun _ _ => ?_⟩
      exact ⟨_, edgeAdd_cases (nextEdge s), by rw [hclk], by rw [hclk]⟩

end Sys2Proof.Machine

/-! Health and the handover of control (R150 to R158). -/

namespace Sys2Proof.Machine

-- The joined text is one compile: no thread beside the main one for each proof.
set_option Elab.async false

@[simp] theorem engxOf_ksMod (f : Keystone → Keystone) (s : State) (e : Nat) : engxOf (ksMod f s) e = engxOf s e := rfl
@[simp] theorem engxOf_bump (ev n : Nat) (s : State) (e : Nat) : engxOf (bump ev n s) e = engxOf s e := rfl

/-! ### Health (R154) -/

/-- A change of health moves one engine's record and perhaps the reclaim that waits, and is reported. -/
theorem setHealth_of_ne {e n : Nat} {s : State} (h : (engxOf s e).health ≠ n) : ∃ (f : EngineX → EngineX) (w : Option (Fin 2))
    (data : List Byte), setHealth e n s = issueEvent 0x0205 e data (ksMod (fun k => { k with reclaimWait := w }) (engxMod e f s)) ∧
      ∀ x, (f x).health = n ∨ n = 2 ∧ (f x).health = 1 := by
  unfold setHealth
  extract_lets x recent n' u v
  rw [if_neg h]
  have hn' : n' = n ∨ n = 2 ∧ n' = 1 := by
    simp only [n']
    split
    next hthird => exact .inr ⟨hthird.1, rfl⟩
    next => exact .inl rfl
  have hv : ∃ w, v = ksMod (fun k => { k with reclaimWait := w }) u := by
    simp only [v]
    split
    · exact ⟨none, rfl⟩
    · exact ⟨u.te.ks.reclaimWait, rfl⟩
  obtain ⟨w, hv⟩ := hv
  rw [hv]
  exact ⟨_, w, _, rfl, fun _ => hn'⟩

theorem setHealth_of_eq {e n : Nat} {s : State} (h : (engxOf s e).health = n) : setHealth e n s = s := if_pos h

theorem keepsBut_setHealth (e n : Nat) (s : State) : keepsBut [.te, .mb, .host, .pc] s (setHealth e n s) := by
  by_cases h : (engxOf s e).health = n
  · rw [setHealth_of_eq h]
    exact keepsBut_refl _ s
  · obtain ⟨f, w, data, heq, -⟩ := setHealth_of_ne h
    rw [heq]
    exact keepsBut_then (keepsBut_trans (keepsBut_engxMod e f s) (keepsBut_ksMod _ _)) (keepsBut_issueEvent _ _ _ _)
      (by simp) (by simp)

theorem setHealth_health {e n : Nat} (he : e < 2) (s : State) : (engxOf (setHealth e n s) e).health = n ∨
    n = 2 ∧ (engxOf (setHealth e n s) e).health = 1 := by
  by_cases h : (engxOf s e).health = n
  · rw [setHealth_of_eq h]
    exact .inl h
  · obtain ⟨f, w, data, heq, hf⟩ := setHealth_of_ne h
    have hx : engxOf (setHealth e n s) e = f (engxOf s e) := by
      rw [heq, engxOf_of_te (issueEvent_te _ _ _ _)]
      exact engxOf_engxMod_of_lt he f
    rw [hx]
    exact hf _

/-- Only FAULTED can become another health than the one asked for. -/
theorem setHealth_health_of_ne_two {e n : Nat} (he : e < 2) (hn : n ≠ 2) (s : State) : (engxOf (setHealth e n s) e).health = n :=
  (setHealth_health he s).resolve_right fun h => hn h.1

theorem setHealth_faulted {e : Nat} (he : e < 2) (s : State) :
    (engxOf (setHealth e 2 s) e).health = 2 ∨ (engxOf (setHealth e 2 s) e).health = 1 :=
  (setHealth_health he s).imp_right And.right

theorem setHealth_other {e i : Nat} (hi : i ≠ e) (n : Nat) (s : State) : engxOf (setHealth e n s) i = engxOf s i := by
  by_cases h : (engxOf s e).health = n
  · rw [setHealth_of_eq h]
  · obtain ⟨f, w, data, heq, -⟩ := setHealth_of_ne h
    rw [heq, engxOf_of_te (issueEvent_te _ _ _ _)]
    exact (engxOf_ksMod _ _ i).trans (engxOf_engxMod_ne hi f s)

theorem setHealth_ks (e n : Nat) (s : State) : ∃ w, (setHealth e n s).te.ks = { s.te.ks with reclaimWait := w } := by
  by_cases h : (engxOf s e).health = n
  · rw [setHealth_of_eq h]
    exact ⟨_, rfl⟩
  · obtain ⟨f, w, data, heq, -⟩ := setHealth_of_ne h
    rw [heq, issueEvent_te]
    exact ⟨w, rfl⟩

theorem setHealth_kinds (e n : Nat) (s : State) : (setHealth e n s).pc.kinds = s.pc.kinds := by
  by_cases h : (engxOf s e).health = n
  · rw [setHealth_of_eq h]
  · obtain ⟨f, w, data, heq, -⟩ := setHealth_of_ne h
    rw [heq, issueEvent_kinds]
    rfl

/-! ### The claims (R150, R151, R155) -/

theorem claimWinner_eq_none {a b : Nat} : claimWinner a b = none ↔ a = 0 ∧ b = 0 := by
  unfold claimWinner
  split
  next h => simp [h]
  next h => split <;> simp [h]

theorem claimWinner_eq_one {a b : Nat} : claimWinner a b = some 1 ↔ a < b := by
  unfold claimWinner
  split
  · exact ⟨fun h => (nomatch h), fun h => by omega⟩
  · split
    · exact ⟨fun h => absurd h (by decide), fun h => by omega⟩
    · exact ⟨fun _ => by omega, fun _ => rfl⟩

theorem claimWinner_eq_zero {a b : Nat} : claimWinner a b = some 0 ↔ b ≤ a ∧ 0 < a := by
  unfold claimWinner
  split
  · exact ⟨fun h => (nomatch h), fun h => by omega⟩
  · split
    · exact ⟨fun _ => by omega, fun _ => rfl⟩
    · exact ⟨fun h => absurd h (by decide), fun h => by omega⟩

/-- What an engine's settings call for does not depend on the claim it presents. -/
theorem claimOf_withClaim {e : Nat} (he : e < 2) (c : Nat) (s : State) :
    claimOf (engxMod e (fun x => { x with claim := c }) s) e = claimOf s e := by
  unfold claimOf
  rw [engxOf_engxMod_of_lt he]
  rfl

theorem claimOf_settle (s : State) (e : Nat) : claimOf (settle s) e = claimOf s e := rfl

/-- A fatal fault is a change of health and the claim at once. -/
theorem engineFault_of_inService {e : Nat} {s : State} (hon : (engxOf s e).on = true) (hh : 2 < (engxOf s e).health) :
    engineFault e s = engxMod e (fun x => { x with claim := claimOf (setHealth e 2 s) e }) (setHealth e 2 s) := by
  unfold engineFault
  rw [if_neg (by rw [hon]; decide), if_pos hh]

theorem engineFatalFault_faults {e : EngIx} {s : State} (hon : (engxOf s e.val).on = true) (hh : 2 < (engxOf s e.val).health) :
    ∃ t, exec (.engineFatalFault e) s = .next t ∧ keepsBut [.te, .host, .msi, .mb, .pc] s t ∧
      ((engxOf t e.val).health = 2 ∨ (engxOf t e.val).health = 1) ∧ (engxOf t e.val).claim = claimOf t e.val ∧
      (engxOf t (1 - e.val)) = (engxOf s (1 - e.val)) := by
  have hother : 1 - e.val ≠ e.val := by omega
  refine ⟨_, done_of_eq (engineFault_of_inService hon hh), ?_, ?_, ?_, ?_⟩
  · exact keepsBut_then_done (keepsBut_setHealth _ _ s) (keepsBut_engxMod _ _ _)
  · rw [engxOf_settle, engxOf_engxMod_of_lt e.isLt]
    exact setHealth_faulted e.isLt s
  · rw [engxOf_settle, engxOf_engxMod_of_lt e.isLt, claimOf_settle, claimOf_withClaim e.isLt]
  · rw [engxOf_settle, engxOf_engxMod_ne hother, setHealth_other hother]

/-! ### To the 8 ns boundary of the switch (R155) -/

theorem ahead_eq {s : State} (hk : s.clk.kettle = false) (d : Nat) :
    ahead d s = { latchClaims (advance d s) with clk := { (latchClaims (advance d s)).clk with edge := 0 } } := by
  unfold ahead
  rw [if_neg (by rw [hk]; decide)]

theorem latched_of_allLatched {s : State} (h : allLatched s = true) {e : Nat} (he : e < 2) : (engxOf s e).latched = (engxOf s e).claim := by
  have hall := Vector.all_eq_true.mp h e he
  simpa [engxOf, vget, he] using hall

theorem engxOf_latchClaims {s : State} (h : allLatched s ≠ true) (e : Nat) :
    engxOf (latchClaims s) e = { engxOf s e with latched := (engxOf s e).claim } := by
  rw [latchClaims_of_changed h]
  exact vget_map (fun (x : EngineX) => { x with latched := x.claim }) s.te.engx e {}

/-- The latch takes every claim presented. -/
theorem latchClaims_latched {e : Nat} (he : e < 2) (s : State) : (engxOf (latchClaims s) e).latched = (engxOf s e).claim := by
  by_cases h : allLatched s = true
  · rw [latchClaims_of_allLatched h, latched_of_allLatched h he]
  · rw [engxOf_latchClaims h]

theorem latchClaims_claim (s : State) (e : Nat) : (engxOf (latchClaims s) e).claim = (engxOf s e).claim := by
  by_cases h : allLatched s = true
  · rw [latchClaims_of_allLatched h]
  · rw [engxOf_latchClaims h]

theorem latchClaims_eng (s : State) : (latchClaims s).te.eng = s.te.eng := by
  rcases latchClaims_te s with h | h
  · rw [h]
  · rw [h]
    rfl

theorem latchClaims_ks (s : State) : ∃ a, (latchClaims s).te.ks = { s.te.ks with latchAt := a } := by
  rcases latchClaims_te s with h | h
  · rw [h]
    exact ⟨_, rfl⟩
  · rw [h]
    exact ⟨_, rfl⟩

/-- A state that the counter's edges lead to within `u` units: the engines stand, but for what the output stages have latched. -/
structure EdgesOn (u : Nat) (s t : State) : Prop where
  frame : keepsBut [.clk, .te] s t
  kettle : t.clk.kettle = s.clk.kettle
  tod : t.clk.tod = s.clk.tod
  elapsed : t.clk.elapsed ≤ s.clk.elapsed + u
  eng : t.te.eng = s.te.eng
  ks : ∃ a, t.te.ks = { s.te.ks with latchAt := a }
  claim : ∀ e, (engxOf t e).claim = (engxOf s e).claim

namespace EdgesOn

theorem refl (u : Nat) (s : State) : EdgesOn u s s :=
  ⟨keepsBut_refl _ s, rfl, rfl, Nat.le_add_right _ _, rfl, ⟨_, rfl⟩, fun _ => rfl⟩

theorem trans {u v : Nat} {s t w : State} (h : EdgesOn u s t) (k : EdgesOn v t w) : EdgesOn (u + v) s w where
  frame := keepsBut_trans h.frame k.frame
  kettle := k.kettle.trans h.kettle
  tod := k.tod.trans h.tod
  elapsed := by
    have := h.elapsed
    have := k.elapsed
    omega
  eng := k.eng.trans h.eng
  ks := by
    obtain ⟨a, ha⟩ := h.ks
    obtain ⟨b, hb⟩ := k.ks
    exact ⟨b, by rw [hb, ha]⟩
  claim e := (k.claim e).trans (h.claim e)

theorem ahead {u d : Nat} {s : State} (hk : s.clk.kettle = false) (hd : d ≤ u) : EdgesOn u s (ahead d s) := by
  have hclk := latchClaims_clk (advance d s)
  refine ⟨keepsBut_ahead d s, ?_, ?_, ?_, ?_, ?_, fun e => ?_⟩
  · rw [ahead_eq hk, hclk]
    rfl
  · rw [ahead_eq hk, hclk]
    rfl
  · rw [ahead_eq hk, hclk]
    exact Nat.add_le_add_left hd _
  · rw [ahead_eq hk]
    exact latchClaims_eng _
  · rw [ahead_eq hk]
    exact latchClaims_ks _
  · rw [ahead_eq hk]
    exact latchClaims_claim _ e

end EdgesOn

/-- How far the next 8 ns boundary lies ahead. -/
def toBoundary (s : State) : Nat := 8 * uNs - s.clk.now % (8 * uNs)

theorem ahead_boundary {s : State} (hk : s.clk.kettle = false) : (ahead (toBoundary s) s).clk.now % (8 * uNs) = 0 := by
  rw [ahead_now hk, mod_timeSpan_mod_boundary]
  unfold toBoundary uNs
  omega

theorem ahead_latched {s : State} (hk : s.clk.kettle = false) (d : Nat) {e : Nat} (he : e < 2) :
    (engxOf (ahead d s) e).latched = (engxOf s e).claim := by
  rw [ahead_eq hk]
  exact latchClaims_latched he (advance d s)

/-- The first boundary of a switch: the one at which changed claims are latched. -/
def latchEdge (s : State) : State := if allLatched s then s else ahead (toBoundary s) s

/-- The second one, at which the output stages switch. -/
theorem toSwitchEdge_eq (s : State) : toSwitchEdge s =
    if (latchEdge s).clk.now % (8 * uNs) = 0 ∧ (latchEdge s).te.ks.latchAt < (latchEdge s).clk.elapsed then latchEdge s
    else ahead (toBoundary (latchEdge s)) (latchEdge s) := rfl

section
variable {s : State} (hk : s.clk.kettle = false)
include hk

theorem edgesOn_boundary : EdgesOn (8 * uNs) s (ahead (toBoundary s) s) := EdgesOn.ahead hk (Nat.sub_le _ _)

theorem latchEdge_reached : EdgesOn (8 * uNs) s (latchEdge s) ∧ ∀ e < 2, (engxOf (latchEdge s) e).latched = (engxOf s e).claim := by
  unfold latchEdge
  split
  next h => exact ⟨EdgesOn.refl _ s, fun e he => latched_of_allLatched h he⟩
  next => exact ⟨edgesOn_boundary hk, fun e he => ahead_latched hk _ he⟩

theorem toSwitchEdge_reached : EdgesOn (16 * uNs) s (toSwitchEdge s) ∧ (toSwitchEdge s).clk.now % (8 * uNs) = 0 ∧
    ∀ e < 2, (engxOf (toSwitchEdge s) e).latched = (engxOf s e).claim := by
  obtain ⟨hedges, hlatched⟩ := latchEdge_reached hk
  have hk' : (latchEdge s).clk.kettle = false := hedges.kettle.trans hk
  rw [toSwitchEdge_eq]
  split
  next hreached => exact ⟨hedges.trans (EdgesOn.refl (8 * uNs) _), hreached.1, hlatched⟩
  next =>
    refine ⟨hedges.trans (edgesOn_boundary hk'), ahead_boundary hk', fun e he => ?_⟩
    rw [ahead_latched hk' _ he, hedges.claim]

/-- The engine that the latched claims name is the one that the claims presented name. -/
theorem toSwitchEdge_winner : claimWinner (engxOf (toSwitchEdge s) 0).latched (engxOf (toSwitchEdge s) 1).latched = accepted s := by
  obtain ⟨-, -, hlatched⟩ := toSwitchEdge_reached hk
  rw [hlatched 0 (by decide), hlatched 1 (by decide), accepted]

end

/-! ### Control passes (R155 to R158, R169) -/

/-- An engine that hands over to be powered down is lowered. -/
def lowerLeaving (leaves : Option (Fin 2 × Nat)) (s : State) : State :=
  match leaves with
  | some q => lowerEngine q.1.val q.2 s
  | none => s

theorem keepsBut_lowerLeaving (leaves : Option (Fin 2 × Nat)) (s : State) : keepsBut [.te, .pm] s (lowerLeaving leaves s) := by
  cases leaves with
  | none => exact keepsBut_refl _ s
  | some q => exact keepsBut_then (keepsBut_domMod _ _ s) (keepsBut_engxMod _ _ _) (by simp) (by simp)

theorem lowerLeaving_eng (leaves : Option (Fin 2 × Nat)) (s : State) : (lowerLeaving leaves s).te.eng = s.te.eng := by
  cases leaves with
  | none => rfl
  | some q => rfl

theorem lowerLeaving_ks (leaves : Option (Fin 2 × Nat)) (s : State) : (lowerLeaving leaves s).te.ks = s.te.ks := by
  cases leaves with
  | none => rfl
  | some q => rfl

theorem engxOf_lowerEngine (e st : Nat) (s : State) (i : Nat) :
    engxOf (lowerEngine e st s) i = engxOf (engxMod e (fun x => { x with on := false, claim := 0 }) s) i := rfl

theorem lowerLeaving_clkOk (leaves : Option (Fin 2 × Nat)) (s : State) (e : Nat) :
    (engxOf (lowerLeaving leaves s) e).clkOk = (engxOf s e).clkOk := by
  cases leaves with
  | none => rfl
  | some q =>
    refine (congrArg EngineX.clkOk (engxOf_lowerEngine q.1.val q.2 s e)).trans (engxOf_engxMod_kept EngineX.clkOk ?_ q.1.val e s)
    exact fun _ => rfl

/-- A claim of 0x00 stays 0x00 where its own engine or the other one is lowered. -/
theorem lowerLeaving_claim_zero (leaves : Option (Fin 2 × Nat)) {s : State} {e : Nat} (h : (engxOf s e).claim = 0) :
    (engxOf (lowerLeaving leaves s) e).claim = 0 := by
  cases leaves with
  | none => exact h
  | some q =>
    by_cases he : e = q.1.val
    · subst he
      exact congrArg EngineX.claim (engxOf_engxMod_of_lt q.1.isLt _)
    · exact (congrArg EngineX.claim (engxOf_engxMod_ne he _ _)).trans h

theorem keepsBut_withGroup (v : Vector Group 24) (s : State) : keepsBut [.group] s { s with group := v } := by
  intro p hp
  cases p <;> first | rfl | exact ⟨rfl, rfl, rfl⟩ | simp at hp

theorem keepsBut_withLane (v : Vector Lane 192) (s : State) : keepsBut [.lane] s { s with lane := v } := by
  intro p hp
  cases p <;> first | rfl | exact ⟨rfl, rfl, rfl⟩ | simp at hp

theorem keepsBut_shiftHistories (d : Rat) (s : State) : keepsBut [.te, .lane, .group] s (shiftHistories d s) :=
  keepsBut_then (keepsBut_withGroup _ s) (keepsBut_then (n := [.te, .lane]) (keepsBut_withLane _ _) (keepsBut_withTe _ _)
    (by simp) (by simp)) (by simp) (by simp)

theorem engxOf_shiftHistories (d : Rat) (s : State) (e : Nat) : engxOf (shiftHistories d s) e = engxOf s e := rfl

theorem keepsBut_carryOver (a b : Nat) (s : State) : keepsBut [.te] s (carryOver a b s) :=
  keepsBut_trans (keepsBut_engMod b _ s) (keepsBut_engxMod b _ _)

/-- The servo's state and its progress go over to the new engine (R158). -/
theorem carryOver_servo {b : Nat} (hb : b < 2) (a : Nat) (s : State) :
    (engOf (carryOver a b s) b).acqPhase = (engOf s a).acqPhase ∧ (engOf (carryOver a b s) b).everLocked60 = (engOf s a).everLocked60 ∧
      (engOf (carryOver a b s) b).st = (engOf s a).st ∧ (engOf (carryOver a b s) b).sel = (engOf s a).sel := by
  have heng : engOf (carryOver a b s) b = _ := engOf_engMod_same hb _
  rw [heng]
  exact ⟨rfl, rfl, rfl, rfl⟩

/-- The new engine presents the claim and the clock that it did. -/
theorem carryOver_engx (a b : Nat) (s : State) : ∃ f : EngineX → EngineX,
    (∀ e, engxOf (carryOver a b s) e = engxOf (engxMod b f s) e) ∧ ∀ x, (f x).clkOk = x.clkOk ∧ (f x).claim = x.claim :=
  ⟨_, fun _ => rfl, fun _ => ⟨rfl, rfl⟩⟩

theorem carryOver_clkOk (a b : Nat) (s : State) (e : Nat) : (engxOf (carryOver a b s) e).clkOk = (engxOf s e).clkOk := by
  obtain ⟨f, heq, hf⟩ := carryOver_engx a b s
  rw [heq]
  exact engxOf_engxMod_kept EngineX.clkOk (fun x => (hf x).1) b e s

theorem carryOver_claim (a b : Nat) (s : State) (e : Nat) : (engxOf (carryOver a b s) e).claim = (engxOf s e).claim := by
  obtain ⟨f, heq, hf⟩ := carryOver_engx a b s
  rw [heq]
  exact engxOf_engxMod_kept EngineX.claim (fun x => (hf x).2) b e s

/-- What a handover to another engine leaves. -/
structure HandedOver (old nxt : Fin 2) (cmp : Rat) (s t : State) : Prop where
  frame : keepsBut [.te, .lane, .group, .pm, .host, .mb, .pc] s t
  control : t.te.ks.control = some nxt
  handoverEvt : t.te.ks.handoverEvt = true
  handovers : t.te.ks.handovers = s.te.ks.handovers + 1
  cmpEdge : t.te.ks.cmpEdge = cmp
  acqPhase : (engOf t nxt.val).acqPhase = (engOf s old.val).acqPhase
  everLocked60 : (engOf t nxt.val).everLocked60 = (engOf s old.val).everLocked60
  st : (engOf t nxt.val).st = (engOf s old.val).st
  sel : (engOf t nxt.val).sel = (engOf s old.val).sel
  clkOk : ∀ e, (engxOf t e).clkOk = (engxOf s e).clkOk
  claim_zero : ∀ e, (engxOf s e).claim = 0 → (engxOf t e).claim = 0

/-- Histories shifted and the Keystone changed, the engines stand as they were carried over. -/
theorem handover_eq {old nxt : Fin 2} {s : State} (hctl : s.te.ks.control = some old) (hne : old ≠ nxt) (cmp : Rat) :
    ∃ (d : Rat) (k : Keystone → Keystone) (leaves : Option (Fin 2 × Nat)) (data : List Byte),
      handover nxt cmp s = issueEvent 0x0204 nxt.val data (lowerLeaving leaves
        (bump 18 1 (ksMod k (shiftHistories d (carryOver old.val nxt.val s))))) ∧
      ∀ x, (k x).control = some nxt ∧ (k x).handoverEvt = true ∧ (k x).handovers = x.handovers + 1 ∧ (k x).cmpEdge = cmp := by
  unfold handover
  rw [hctl]
  dsimp only
  rw [if_neg hne]
  exact ⟨_, _, _, _, rfl, fun _ => ⟨rfl, rfl, rfl, rfl⟩⟩

theorem handover_passes {old nxt : Fin 2} {s : State} (hctl : s.te.ks.control = some old) (hne : old ≠ nxt) (cmp : Rat) :
    HandedOver old nxt cmp s (handover nxt cmp s) := by
  obtain ⟨d, k, leaves, data, heq, hk⟩ := handover_eq hctl hne cmp
  have hks : (handover nxt cmp s).te.ks = k s.te.ks := by
    rw [heq, issueEvent_te, lowerLeaving_ks]
    rfl
  have heng : engOf (handover nxt cmp s) nxt.val = engOf (carryOver old.val nxt.val s) nxt.val := by
    rw [heq, engOf_of_te (issueEvent_te _ _ _ _)]
    exact congrArg (fun v : Vector Engine 2 => vget v nxt.val {}) (lowerLeaving_eng leaves _)
  have hcontrol := hk s.te.ks
  have hservo := carryOver_servo nxt.isLt old.val s
  rw [← hks] at hcontrol
  rw [← heng] at hservo
  obtain ⟨hcontrol, hevt, hcount, hcmp⟩ := hcontrol
  obtain ⟨hphase, hever, hst, hsel⟩ := hservo
  refine ⟨?_, hcontrol, hevt, hcount, hcmp, hphase, hever, hst, hsel, fun e => ?_, fun e h => ?_⟩
  · rw [heq]
    refine keepsBut_then (l := [.te, .lane, .group, .pm, .pc]) ?_ (keepsBut_issueEvent _ _ _ _) (by simp) (by simp)
    refine keepsBut_then (l := [.te, .lane, .group, .pc]) ?_ (keepsBut_lowerLeaving _ _) (by simp) (by simp)
    refine keepsBut_then (l := [.te, .lane, .group]) ?_ (keepsBut_bump _ _ _) (by simp) (by simp)
    refine keepsBut_then (l := [.te, .lane, .group]) ?_ (keepsBut_ksMod _ _) (by simp) (by simp)
    exact keepsBut_then (keepsBut_carryOver _ _ s) (keepsBut_shiftHistories _ _) (by simp) (by simp)
  · rw [heq, engxOf_of_te (issueEvent_te _ _ _ _), lowerLeaving_clkOk, engxOf_bump, engxOf_ksMod, engxOf_shiftHistories,
      carryOver_clkOk]
  · rw [heq, engxOf_of_te (issueEvent_te _ _ _ _)]
    apply lowerLeaving_claim_zero
    rw [engxOf_bump, engxOf_ksMod, engxOf_shiftHistories, carryOver_claim, h]

theorem handover_same {nxt : Fin 2} {s : State} (hctl : s.te.ks.control = some nxt) (cmp : Rat) : handover nxt cmp s = s := by
  unfold handover
  rw [hctl]
  exact if_pos rfl

/-! ### The handover edge -/

section
variable {cmp : Int} {old nxt : Fin 2} {s : State} (hctl : s.te.ks.control = some old)
include hctl

theorem exec_handoverEdge (hacc : accepted s = some nxt) (hk : s.clk.kettle = false) : exec (.handoverEdge cmp) s =
    if (toSwitchEdge s).te.ks.control = some nxt ∧ (toSwitchEdge s).te.ks.planned then
      .next (settle (ksMod (fun k => { k with planned := false, alignResult := 2, pendingPower := none }) (toSwitchEdge s)))
    else .next (settle (handover nxt cmp (toSwitchEdge s))) := by
  show execHandoverEdge cmp s = _
  unfold execHandoverEdge
  rw [if_neg (by rw [hctl]; exact Bool.false_ne_true)]
  dsimp only
  rw [toSwitchEdge_winner hk, hacc]
  rfl

/-- Where the claims name the engine in control, it stays: at most a planned handover is given up. -/
theorem exec_handoverEdge_stays (hacc : accepted s = some old) (hk : s.clk.kettle = false) : ∃ k : Keystone → Keystone,
    exec (.handoverEdge cmp) s = .next (settle (ksMod k (toSwitchEdge s))) ∧
      ∀ x, (k x).control = x.control ∧ (k x).handovers = x.handovers := by
  obtain ⟨⟨_, _, _, _, _, ⟨a, hks⟩, _⟩, -, -⟩ := toSwitchEdge_reached hk
  have hctl' : (toSwitchEdge s).te.ks.control = some old := by rw [hks]; exact hctl
  rw [exec_handoverEdge hctl hacc hk]
  split
  · exact ⟨_, rfl, fun _ => ⟨rfl, rfl⟩⟩
  · rw [handover_same hctl']
    generalize toSwitchEdge s = u
    exact ⟨id, rfl, fun _ => ⟨rfl, rfl⟩⟩

theorem exec_handoverEdge_passes (hacc : accepted s = some nxt) (hk : s.clk.kettle = false) (hne : old ≠ nxt) :
    exec (.handoverEdge cmp) s = .next (settle (handover nxt cmp (toSwitchEdge s))) ∧
      HandedOver old nxt cmp (toSwitchEdge s) (handover nxt cmp (toSwitchEdge s)) := by
  obtain ⟨⟨_, _, _, _, _, ⟨a, hks⟩, _⟩, -, -⟩ := toSwitchEdge_reached hk
  have hctl' : (toSwitchEdge s).te.ks.control = some old := by rw [hks]; exact hctl
  refine ⟨?_, handover_passes hctl' hne cmp⟩
  rw [exec_handoverEdge hctl hacc hk, if_neg]
  rw [hctl']
  exact fun h => hne (Option.some.inj h.1)

end

theorem handoverEdge_switches {cmp : Int} {old nxt : Fin 2} {s : State} (hacc : accepted s = some nxt)
    (hctl : s.te.ks.control = some old) (hk : s.clk.kettle = false) :
    ∃ t, exec (.handoverEdge cmp) s = .next t ∧ keepsBut [.clk, .te, .lane, .group, .pm, .host, .msi, .mb, .pc] s t ∧
      t.clk.now % (8 * uNs) = 0 ∧ t.clk.elapsed ≤ s.clk.elapsed + 16 * uNs ∧ t.clk.tod = s.clk.tod ∧
      (old = nxt → t.te.ks.control = some old ∧ t.te.ks.handovers = s.te.ks.handovers ∧ t.te.eng = s.te.eng ∧ t.pm = s.pm ∧
        t.lane = s.lane ∧ t.group = s.group) ∧
      (old ≠ nxt → t.te.ks.control = some nxt ∧ t.te.ks.handoverEvt = true ∧ t.te.ks.handovers = s.te.ks.handovers + 1 ∧
        t.te.ks.cmpEdge = (cmp : Rat) ∧ (engOf t nxt.val).acqPhase = (engOf s old.val).acqPhase ∧
        (engOf t nxt.val).everLocked60 = (engOf s old.val).everLocked60 ∧ (engOf t nxt.val).st = (engOf s old.val).st ∧
        (engOf t nxt.val).sel = (engOf s old.val).sel) := by
  obtain ⟨hedges, hbound, -⟩ := toSwitchEdge_reached hk
  obtain ⟨a, hks⟩ := hedges.ks
  by_cases hne : old = nxt
  · subst hne
    obtain ⟨k, hexec, hkept⟩ := exec_handoverEdge_stays (cmp := cmp) hctl hacc hk
    generalize toSwitchEdge s = u at hedges hbound hks hexec
    obtain ⟨hcontrol, hcount⟩ := hkept u.te.ks
    refine ⟨_, hexec, keepsBut_then_done hedges.frame (keepsBut_ksMod _ _), hbound, hedges.elapsed, hedges.tod, fun _ => ?_,
      fun h => absurd rfl h⟩
    refine ⟨hcontrol.trans ?_, hcount.trans ?_, hedges.eng, hedges.frame .pm (by simp), hedges.frame .lane (by simp),
      hedges.frame .group (by simp)⟩
    · rw [hks]
      exact hctl
    · rw [hks]
  · obtain ⟨hexec, hpassed⟩ := exec_handoverEdge_passes (cmp := cmp) hctl hacc hk hne
    generalize toSwitchEdge s = u at hedges hbound hks hexec hpassed
    have hclk : (handover nxt cmp u).clk = u.clk := hpassed.frame .clk (by simp)
    have heng : engOf u old.val = engOf s old.val :=
      congrArg (fun v : Vector Engine 2 => vget v old.val {}) hedges.eng
    refine ⟨_, hexec, keepsBut_then_done hedges.frame hpassed.frame, ?_, ?_, ?_, fun h => absurd h hne, fun _ => ?_⟩
    · rw [settle_clk, hclk]
      exact hbound
    · rw [settle_clk, hclk]
      exact hedges.elapsed
    · rw [settle_clk, hclk]
      exact hedges.tod
    · rw [settle_te, engOf_settle, ← heng, hpassed.handovers, hks]
      exact ⟨hpassed.control, hpassed.handoverEvt, rfl, hpassed.cmpEdge, hpassed.acqPhase, hpassed.everLocked60, hpassed.st,
        hpassed.sel⟩

/-! ### A time clock that stops (R156) -/

/-- The engine's clock is gone, and its claim with it. -/
def clockStopped (e : EngIx) (s : State) : State := engxMod e.val (fun x => { x with clkOk := false, claim := 0 }) s

theorem engxOf_clockStopped (e : EngIx) (s : State) :
    engxOf (clockStopped e s) e.val = { engxOf s e.val with clkOk := false, claim := 0 } := engxOf_engxMod_same e _ s

theorem otherEng_ne (e : EngIx) : Fin.ofNat 2 (otherEng e.val) ≠ e := by
  fin_cases e <;> decide

theorem engxOf_clockStopped_other (e : EngIx) (s : State) : engxOf (clockStopped e s) (1 - e.val) = engxOf s (1 - e.val) :=
  engxOf_engxMod_ne (by omega) _ s

section
variable {e : EngIx} {cmp : Int} {s : State}

theorem exec_engineClockStop_passes (hctl : s.te.ks.control = some e) (hclaim : (engxOf s (1 - e.val)).claim ≠ 0) :
    exec (.engineClockStop e cmp) s = .next (settle (handover (Fin.ofNat 2 (otherEng e.val)) cmp
      (ksMod (fun k => { k with planned := false }) (clockStopped e s)))) :=
  if_pos ⟨hctl, by rw [← engxOf_clockStopped_other] at hclaim; exact hclaim⟩

theorem exec_engineClockStop_stays (h : ¬ (s.te.ks.control = some e ∧ (engxOf s (1 - e.val)).claim ≠ 0)) :
    exec (.engineClockStop e cmp) s = .next (settle (clockStopped e s)) := by
  rw [← engxOf_clockStopped_other] at h
  exact if_neg h

end

theorem engineClockStop_drops_claim (e : EngIx) (cmp : Int) (s : State) :
    ∃ t, exec (.engineClockStop e cmp) s = .next t ∧ keepsBut [.te, .lane, .group, .pm, .host, .msi, .mb, .pc] s t ∧
      (engxOf t e.val).claim = 0 ∧ (engxOf t e.val).clkOk = false ∧
      (s.te.ks.control = some e → (engxOf s (1 - e.val)).claim ≠ 0 →
        (∃ o : Fin 2, o ≠ e ∧ t.te.ks.control = some o) ∧ t.te.ks.cmpEdge = (cmp : Rat)) ∧
      (s.te.ks.control ≠ some e → t.te.ks.control = s.te.ks.control) := by
  have hstop := keepsBut_engxMod e.val (fun x => { x with clkOk := false, claim := 0 }) s
  have hx := engxOf_clockStopped e s
  by_cases h : s.te.ks.control = some e ∧ (engxOf s (1 - e.val)).claim ≠ 0
  · obtain ⟨hctl, hclaim⟩ := h
    have hpassed := handover_passes (s := ksMod (fun k => { k with planned := false }) (clockStopped e s)) hctl
      (otherEng_ne e).symm cmp
    have hframe := keepsBut_trans hstop (keepsBut_ksMod (fun k => { k with planned := false }) _)
    refine ⟨_, exec_engineClockStop_passes hctl hclaim, keepsBut_then_done hframe hpassed.frame, ?_, ?_, fun _ _ => ?_,
      fun hne => absurd hctl hne⟩
    · rw [engxOf_settle]
      apply hpassed.claim_zero
      rw [engxOf_ksMod, hx]
    · rw [engxOf_settle, hpassed.clkOk, engxOf_ksMod, hx]
    · exact ⟨⟨_, otherEng_ne e, hpassed.control⟩, hpassed.cmpEdge⟩
  · refine ⟨_, exec_engineClockStop_stays h, keepsBut_done (keepsBut_mono hstop (by simp)) (by simp), ?_, ?_,
      fun hctl hclaim => absurd ⟨hctl, hclaim⟩ h, fun _ => rfl⟩
    · rw [engxOf_settle, hx]
    · rw [engxOf_settle, hx]

/-- Settles O20: the handover edge, the order of the claims, a fatal fault, and a time clock that stops. -/
theorem keystoneControl : Obligations.KeystoneControl := by
  unfold Obligations.KeystoneControl
  refine ⟨fun cmp old nxt s => handoverEdge_switches, fun s => ⟨claimWinner_eq_none, claimWinner_eq_one, claimWinner_eq_zero⟩,
    fun e s => engineFatalFault_faults, engineClockStop_drops_claim⟩

end Sys2Proof.Machine

/-! The wall tie, the checks of the engines, arbitration and alignment (R154, R159 to R170). -/

namespace Sys2Proof.Machine

-- The joined text is one compile: no thread beside the main one for each proof.
set_option Elab.async false

/-! ### One run of a check (R154, R166) -/

/-- An engine's record after a run of check `k` that ended at `at_`. -/
def checkRun (k : Nat) (pass : Bool) (at_ : Nat) (x : EngineX) : EngineX := { x with
  fails := vmodN x.fails k (fun n => if pass then 0 else n + 1)
  lastFail := if pass then x.lastFail else some at_
  passes := vmodN x.passes k (fun n => if pass then n + 1 else 0)
  failAt := vmodN x.failAt k (fun _ => if pass then none else some at_) }

theorem engxOf_cupRecord {e : Nat} (he : e < 2) (k : Nat) (pass : Bool) (s : State) :
    engxOf (cupRecord e k pass s) e = checkRun k pass s.clk.elapsed (engxOf s e) :=
  engxOf_engxMod_of_lt he (checkRun k pass s.clk.elapsed)

theorem vget_default {α : Type} {n : Nat} (v : Vector α n) {i : Nat} (h : i < n) (d d' : α) : vget v i d = vget v i d' := by
  simp [vget, h]

/-- Consecutive failures: none after a pass, one more after a failure. -/
theorem fails_cupRecord {e k : Nat} (he : e < 2) (hk : k < 6) (pass : Bool) (d : Nat) (s : State) :
    vget (engxOf (cupRecord e k pass s) e).fails k d = if pass then 0 else vget (engxOf s e).fails k 0 + 1 := by
  rw [engxOf_cupRecord he, checkRun, vmodN_same _ _ _ _ hk, vget_default _ hk d 0]

section
variable {e : EngIx} {s : State} (hlive : engLive s e.val = true)
include hlive

theorem exec_dcoRangeCheck (diff : Int) : exec (.dcoRangeCheck e diff) s = .next (settle (cupRecord e.val 0
    (decide (absQ diff ≤ (281474976710656 : Rat) / 100000000000) && decide (|(engOf s e.val).y| ≤ parE s 0x27 e.val)) s)) :=
  if_neg (by rw [hlive]; decide)

theorem dcoRangeCheck_counts (diff : Int) :
    ∃ t, exec (.dcoRangeCheck e diff) s = .next t ∧ keepsBut [.te, .msi] s t ∧
      (absQ (diff : Rat) ≤ (281474976710656 : Rat) / 100000000000 → |(engOf s e.val).y| ≤ parE s 0x27 e.val →
        vget (engxOf t e.val).fails 0 9 = 0) ∧
      ((281474976710656 : Rat) / 100000000000 < absQ (diff : Rat) →
        vget (engxOf t e.val).fails 0 0 = vget (engxOf s e.val).fails 0 0 + 1) := by
  refine ⟨_, exec_dcoRangeCheck hlive diff, keepsBut_done (keepsBut_mono (keepsBut_cupRecord _ _ _ s) (by simp)) (by simp),
    fun hdiff hy => ?_, fun hdiff => ?_⟩
  · rw [engxOf_settle, fails_cupRecord e.isLt (by decide), decide_eq_true hdiff, decide_eq_true hy]
    rfl
  · rw [engxOf_settle, fails_cupRecord e.isLt (by decide), decide_eq_false (not_le.mpr hdiff)]
    rfl

theorem converterCodeCheck_counts (pass : Bool) :
    ∃ t, exec (.converterCodeCheck e pass) s = .next t ∧ keepsBut [.te, .msi] s t ∧
      vget (engxOf t e.val).fails 2 9 = if pass then 0 else vget (engxOf s e.val).fails 2 0 + 1 := by
  have hexec : exec (.converterCodeCheck e pass) s = .next (settle (cupRecord e.val 2 pass s)) := if_pos hlive
  refine ⟨_, hexec, keepsBut_done (keepsBut_mono (keepsBut_cupRecord _ _ _ s) (by simp)) (by simp), ?_⟩
  rw [engxOf_settle, fails_cupRecord e.isLt (by decide)]

end

/-! ### The wall tie (R159, R162) -/

/-- The bank that a record goes to. -/
def idleBank (x : EngineX) : Fin 2 := if x.bank = 0 then 1 else 0

theorem idleBank_ne (x : EngineX) : idleBank x ≠ x.bank := by
  unfold idleBank
  split
  next h => rw [h]; decide
  next h => exact fun h' => h h'.symm

/-- The receiver's record once a record of the wire, good or bad, stands in the idle bank. -/
def tieStored (l : List Byte) (ok : Bool) (idle : Fin 2) (at_ : Nat) (x : EngineX) : EngineX := { x with
  banks := x.banks.set idle l, bankAt := x.bankAt.set idle at_, bank := if ok then idle else x.bank
  silent := if ok then 0 else x.silent, badRun := if ok then 0 else x.badRun + 1, loaded := x.loaded || ok }

/-- A record of the wire is stored and checked. -/
def tieTaken (l : List Byte) (ok : Bool) (s : State) : State :=
  cupRecord (tieReceiver s) 5 ok
    (engxMod (tieReceiver s) (tieStored l ok (idleBank (engxOf s (tieReceiver s))) s.te.ks.tieAt) s)

theorem tieReceiver_lt (s : State) : tieReceiver s < 2 := by
  unfold tieReceiver otherEng
  omega

theorem keepsBut_tieTaken (l : List Byte) (ok : Bool) (s : State) : keepsBut [.te] s (tieTaken l ok s) :=
  keepsBut_trans (keepsBut_engxMod _ _ s) (keepsBut_cupRecord _ _ _ _)

theorem engxOf_tieTaken (l : List Byte) (ok : Bool) (s : State) : engxOf (tieTaken l ok s) (tieReceiver s) =
    checkRun 5 ok s.clk.elapsed
      (tieStored l ok (idleBank (engxOf s (tieReceiver s))) s.te.ks.tieAt (engxOf s (tieReceiver s))) := by
  rw [tieTaken, engxOf_cupRecord (tieReceiver_lt s), engxOf_engxMod_of_lt (tieReceiver_lt s)]
  rfl

theorem tieTaken_ks (l : List Byte) (ok : Bool) (s : State) : (tieTaken l ok s).te.ks = s.te.ks := rfl

/-- The record in the current bank. -/
def currentRecord (x : EngineX) : List Byte := x.banks[x.bank]

/-- A record that is good becomes the current one. -/
theorem currentRecord_good (l : List Byte) (idle : Fin 2) (at_ at' : Nat) (x : EngineX) :
    currentRecord (checkRun 5 true at' (tieStored l true idle at_ x)) = l := Vector.getElem_set_self _

/-- One that fails leaves it. -/
theorem bank_bad (l : List Byte) (idle : Fin 2) (at_ at' : Nat) (x : EngineX) :
    (checkRun 5 false at' (tieStored l false idle at_ x)).bank = x.bank := rfl

section
variable {noise : List (Nat × Byte)} {l : List Byte} {s : State} (hon : (engxOf s (tieReceiver s)).on = true)
  (hout : s.te.ks.tieOut ≠ []) (hl : withNoise s.te.ks.tieOut noise = l)
include hon hout hl

theorem exec_wallTieRecord : exec (.wallTieRecord noise) s = if tieValid l then
      .next (settle (ksMod (fun k => { k with lastSeq := fieldLe l 0 2 }) (tieTaken l (tieValid l) s)))
    else .next (settle (bump 19 1 (ksMod (fun k => { k with crcErrors := satU 16 (k.crcErrors + 1) })
      (tieTaken l (tieValid l) s)))) := by
  have hempty : s.te.ks.tieOut.isEmpty = false := List.isEmpty_eq_false_iff.mpr hout
  subst hl
  show execWallTieRecord noise s = _
  unfold execWallTieRecord
  dsimp only
  rw [if_neg (by rw [hon, hempty]; decide)]
  rfl

theorem wallTieRecord_good (hok : tieValid l = true) :
    ∃ t, exec (.wallTieRecord noise) s = .next t ∧ keepsBut [.te, .msi, .pc] s t ∧
      (engxOf t (tieReceiver s)).bank ≠ (engxOf s (tieReceiver s)).bank ∧
      (engxOf t (tieReceiver s)).banks[(engxOf t (tieReceiver s)).bank] = l ∧
      (engxOf t (tieReceiver s)).silent = 0 ∧ t.te.ks.crcErrors = s.te.ks.crcErrors := by
  have hexec := exec_wallTieRecord hon hout hl
  rw [hok, if_pos rfl] at hexec
  have hx : engxOf (settle (ksMod (fun k => { k with lastSeq := fieldLe l 0 2 }) (tieTaken l true s))) (tieReceiver s) = _ :=
    (engxOf_settle _ _).trans (engxOf_tieTaken l true s)
  refine ⟨_, hexec, keepsBut_then_done (keepsBut_tieTaken l true s) (keepsBut_ksMod _ _), ?_, ?_, ?_, rfl⟩
  · exact (congrArg EngineX.bank hx).trans_ne (idleBank_ne _)
  · exact (congrArg currentRecord hx).trans (currentRecord_good l _ _ _ _)
  · exact congrArg EngineX.silent hx

theorem wallTieRecord_bad (hok : tieValid l = false) :
    ∃ t, exec (.wallTieRecord noise) s = .next t ∧ keepsBut [.te, .msi, .pc] s t ∧
      (engxOf t (tieReceiver s)).bank = (engxOf s (tieReceiver s)).bank ∧
      t.te.ks.crcErrors = satU 16 (s.te.ks.crcErrors + 1) := by
  have hexec := exec_wallTieRecord hon hout hl
  rw [hok, if_neg Bool.false_ne_true] at hexec
  refine ⟨_, hexec, ?_, ?_, ?_⟩
  · exact keepsBut_then_done (keepsBut_trans (keepsBut_tieTaken l false s) (keepsBut_ksMod _ _)) (keepsBut_bump _ _ _)
  · rw [engxOf_settle, engxOf_bump, engxOf_ksMod, engxOf_tieTaken, bank_bad]
  · exact congrArg (fun k : Keystone => satU 16 (k.crcErrors + 1)) (tieTaken_ks l false s)

end

/-- The receiver takes a good record and counts a bad one. -/
theorem wallTieRecord_taken {noise : List (Nat × Byte)} {s : State} (hon : (engxOf s (tieReceiver s)).on = true)
    (hout : s.te.ks.tieOut ≠ []) :
    ∃ t, exec (.wallTieRecord noise) s = .next t ∧ keepsBut [.te, .msi, .pc] s t ∧
      (tieValid (withNoise s.te.ks.tieOut noise) = true → (engxOf t (tieReceiver s)).bank ≠ (engxOf s (tieReceiver s)).bank ∧
        (engxOf t (tieReceiver s)).banks[(engxOf t (tieReceiver s)).bank] = withNoise s.te.ks.tieOut noise ∧
        (engxOf t (tieReceiver s)).silent = 0 ∧ t.te.ks.crcErrors = s.te.ks.crcErrors) ∧
      (tieValid (withNoise s.te.ks.tieOut noise) = false → (engxOf t (tieReceiver s)).bank = (engxOf s (tieReceiver s)).bank ∧
        t.te.ks.crcErrors = satU 16 (s.te.ks.crcErrors + 1)) := by
  cases hok : tieValid (withNoise s.te.ks.tieOut noise) with
  | true =>
    obtain ⟨t, ht, hframe, htaken⟩ := wallTieRecord_good hon hout rfl hok
    exact ⟨t, ht, hframe, fun _ => htaken, fun h => nomatch h⟩
  | false =>
    obtain ⟨t, ht, hframe, hcounted⟩ := wallTieRecord_bad hon hout rfl hok
    exact ⟨t, ht, hframe, fun h => (nomatch h), fun _ => hcounted⟩

/-- A change of health that ends a command. -/
theorem setHealth_ends {c : Instr} {e n : Nat} {s : State} (h : exec c s = .next (settle (setHealth e n s))) :
    ∃ t, exec c s = .next t ∧ keepsBut [.te, .host, .msi, .mb, .pc] s t ∧ engxOf t e = engxOf (setHealth e n s) e :=
  ⟨_, h, keepsBut_done (keepsBut_mono (keepsBut_setHealth e n s) (by simp)) (by simp), engxOf_settle _ e⟩

/-- A silent standby is held at fault. -/
theorem wallTieSilence_faults {s : State} (hlive : engLive s (1 - ctl s) = true) (hsilent : 64 ≤ (engxOf s (1 - ctl s)).silent)
    (hh : 4 ≤ (engxOf s (1 - ctl s)).health) :
    ∃ t, exec .wallTieSilence s = .next t ∧ keepsBut [.te, .host, .msi, .mb, .pc] s t ∧
      ((engxOf t (1 - ctl s)).health = 2 ∨ (engxOf t (1 - ctl s)).health = 1) := by
  have hexec : exec .wallTieSilence s = .next (settle (setHealth (1 - ctl s) 2 s)) :=
    if_pos (by rw [otherEng, hlive, decide_eq_true hsilent, decide_eq_true hh]; rfl)
  obtain ⟨t, ht, hframe, hx⟩ := setHealth_ends hexec
  refine ⟨t, ht, hframe, ?_⟩
  rw [hx]
  exact setHealth_faulted (by omega) s

/-! ### Arbitration (R163 to R165, R171) -/

/-- What a work on pending settings and alignments leaves of the comparison and of the engines' health. -/
structure ArbitrationStands (s t : State) : Prop where
  frame : keepsBut [.te] s t
  arbitrating : t.te.ks.arbitrating = s.te.ks.arbitrating
  disagree : t.te.ks.disagree = s.te.ks.disagree
  disagreeAlarm : t.te.ks.disagreeAlarm = s.te.ks.disagreeAlarm
  health : ∀ e, (engxOf t e).health = (engxOf s e).health

theorem arbitrationStands_refl (s : State) : ArbitrationStands s s := ⟨keepsBut_refl _ s, rfl, rfl, rfl, fun _ => rfl⟩

theorem arbitrationStands_alignAbandon (s : State) : ArbitrationStands s (alignAbandon s) :=
  ⟨keepsBut_ksMod _ s, rfl, rfl, rfl, fun _ => rfl⟩

theorem arbitrationStands_takeSettings (s : State) : ArbitrationStands s (takeSettings s) := by
  unfold takeSettings
  dsimp only
  split
  next b _ =>
    refine ⟨keepsBut_trans (keepsBut_trans (keepsBut_engxMod 0 _ s) (keepsBut_engxMod 1 _ _)) (keepsBut_ksMod _ _), rfl, rfl, rfl,
      fun e => ?_⟩
    refine (engxOf_engxMod_kept EngineX.health ?_ 1 e _).trans (engxOf_engxMod_kept EngineX.health ?_ 0 e s)
    · exact fun _ => rfl
    · exact fun _ => rfl
  next => exact ⟨keepsBut_ksMod _ s, rfl, rfl, rfl, fun _ => rfl⟩

theorem arbitrationStands_alignArbitrated (f : Fin 2) (s : State) : ArbitrationStands s (alignArbitrated f s) := by
  unfold alignArbitrated
  dsimp only
  split
  · exact arbitrationStands_refl s
  · split
    · exact arbitrationStands_alignAbandon s
    · exact ⟨keepsBut_ksMod _ s, rfl, rfl, rfl, fun _ => rfl⟩
  · split
    · exact arbitrationStands_alignAbandon s
    · obtain ⟨hframe, harb, hdis, halarm, hhealth⟩ := arbitrationStands_takeSettings s
      exact ⟨keepsBut_trans hframe (keepsBut_ksMod _ _), harb, hdis, halarm, hhealth⟩
  · exact arbitrationStands_alignAbandon s

/-- The state in which the engine held at fault loses its health: the arbitration counted, logged and reported (R163, R495). -/
def attributed (views : List (Fin 32 × Int × Int)) (s : State) : State :=
  ksMod (fun k => { k with
    arbitrating := true, disagree := 0, agree := 0, disagreeAlarm := true
    unattributed := k.unattributed || (heldAtFault views s).2 }) (timedOut 13 17 (heldAtFault views s).1.val s)

theorem keepsBut_attributed (views : List (Fin 32 × Int × Int)) (s : State) : keepsBut [.te, .pc] s (attributed views s) :=
  keepsBut_then (keepsBut_timedOut 13 17 _ s) (keepsBut_ksMod _ _) (by simp) (by simp)

theorem attributed_kinds (views : List (Fin 32 × Int × Int)) (s : State) :
    vget (attributed views s).pc.kinds 13 0 = satU 32 (vget s.pc.kinds 13 0 + 1) := timedOut_kinds (by decide) 17 _ s

theorem exec_arbitration {views : List (Fin 32 × Int × Int)} {s : State} (hdis : (parV s 0x42).toNat ≤ s.te.ks.disagree)
    (hlive : bothLive s = true) : exec (.arbitration views) s = .next (settle
      (alignArbitrated (heldAtFault views s).1 (setHealth (heldAtFault views s).1.val 2 (attributed views s)))) :=
  if_neg (by rw [hlive]; simpa using hdis)

theorem arbitration_attributes {views : List (Fin 32 × Int × Int)} {s : State} (hdis : (parV s 0x42).toNat ≤ s.te.ks.disagree)
    (hlive : bothLive s = true) :
    ∃ t, exec (.arbitration views) s = .next t ∧ keepsBut [.te, .host, .msi, .mb, .pc] s t ∧ t.te.ks.disagreeAlarm = true ∧
      t.te.ks.arbitrating = true ∧ t.te.ks.disagree = 0 ∧
      ((engxOf t (heldAtFault views s).1.val).health = 2 ∨ (engxOf t (heldAtFault views s).1.val).health = 1) ∧
      vget t.pc.kinds 13 0 = satU 32 (vget s.pc.kinds 13 0 + 1) := by
  have hexec := exec_arbitration (views := views) hdis hlive
  have hkinds := attributed_kinds views s
  have hfaulted := setHealth_faulted (heldAtFault views s).1.isLt (attributed views s)
  obtain ⟨w, hks⟩ := setHealth_ks (heldAtFault views s).1.val 2 (attributed views s)
  obtain ⟨hframe, harb, hdisagree, halarm, hhealth⟩ := arbitrationStands_alignArbitrated (heldAtFault views s).1
    (setHealth (heldAtFault views s).1.val 2 (attributed views s))
  rw [hks] at harb hdisagree halarm
  refine ⟨_, hexec, ?_, halarm, harb, hdisagree, ?_, ?_⟩
  · exact keepsBut_then_done (keepsBut_then (n := [.te, .host, .mb, .pc]) (keepsBut_attributed views s) (keepsBut_setHealth _ _ _)
      (by simp) (by simp)) hframe
  · rw [engxOf_settle, hhealth]
    exact hfaulted
  · rw [settle_pc, hframe .pc (by simp), setHealth_kinds, hkinds]

/-! ### The way back to service (R154, R167, R171) -/

/-- The engine that would be in control with one engine HEALTHY. -/
def wouldControl (e : EngIx) (s : State) : Option (Fin 2) :=
  wouldAccept s (basesNow s) s.te.ks.pref (if e.val = 0 then (7, (engxOf s 1).health) else ((engxOf s 0).health, 7))

section
variable {e : EngIx} {s : State} (hh : (engxOf s e.val).health = 6)
include hh

/-- Where control would not move, the engine is HEALTHY; a software change that waited for this begins its alignment. -/
theorem exec_engineWtrExpiry_heals (hafter : s.te.ks.control = none ∨ wouldControl e s = s.te.ks.control) :
    ∃ t, exec (.engineWtrExpiry e) s = .next (settle t) ∧
      (t = setHealth e.val 7 s ∨ ∃ b, t = startAlign b .software (setHealth e.val 7 s)) := by
  show ∃ t, execEngineWtrExpiry e s = _ ∧ _
  unfold execEngineWtrExpiry
  dsimp only
  rw [if_neg (fun h => h hh)]
  split
  next a c hwould hctl =>
    have hac : a = c := by
      rw [hctl, wouldControl, hwould] at hafter
      exact Option.some.inj (hafter.resolve_left (Option.some_ne_none c))
    rw [if_neg (fun h => h hac)]
    split
    next b _ =>
      split
      · exact ⟨_, rfl, .inl rfl⟩
      · exact ⟨_, rfl, .inr ⟨b, rfl⟩⟩
    next => exact ⟨_, rfl, .inl rfl⟩
  next => exact ⟨_, rfl, .inl rfl⟩

theorem engineWtrExpiry_heals (hafter : s.te.ks.control = none ∨ wouldControl e s = s.te.ks.control) :
    ∃ t, exec (.engineWtrExpiry e) s = .next t ∧ keepsBut [.te, .host, .msi, .mb, .pc] s t ∧ (engxOf t e.val).health = 7 := by
  have hframe := keepsBut_setHealth e.val 7 s
  have hhealed := setHealth_health_of_ne_two (n := 7) e.isLt (by decide) s
  obtain ⟨t, hexec, rfl | ⟨b, rfl⟩⟩ := exec_engineWtrExpiry_heals hh hafter
  · obtain ⟨t, ht, hkept, hx⟩ := setHealth_ends hexec
    exact ⟨t, ht, hkept, by rw [hx, hhealed]⟩
  · exact ⟨_, hexec, keepsBut_then_done hframe (keepsBut_ksMod _ _), hhealed⟩

/-- Where control would move, the reclaim aligns first. -/
theorem engineWtrExpiry_reclaims {a c : Fin 2} (hwould : wouldControl e s = some a) (hctl : s.te.ks.control = some c) (hne : a ≠ c)
    (hdis : s.te.ks.disagree = 0) (halign : s.te.ks.align = none) :
    ∃ t, exec (.engineWtrExpiry e) s = .next t ∧ keepsBut [.te, .msi] s t ∧ t.te.ks.align = some .reclaim ∧
      t.te.ks.alignTo = a ∧ t.te.ks.control = some c := by
  have hexec : exec (.engineWtrExpiry e) s = .next (settle (startAlign a .reclaim s)) := by
    show execEngineWtrExpiry e s = _
    unfold execEngineWtrExpiry
    dsimp only
    rw [wouldControl] at hwould
    rw [if_neg (fun h => h hh), hwould, hctl]
    dsimp only
    rw [if_pos hne, if_neg (by rw [hdis, halign]; simp)]
    rfl
  exact ⟨_, hexec, keepsBut_done (keepsBut_mono (keepsBut_ksMod _ s) (by simp)) (by simp), rfl, rfl, hctl⟩

end

/-- A FAULTED engine that has agreed for 64 s is RESTORING. -/
theorem faultRecoveryAgree_restores {e : EngIx} {s : State} (hh : (engxOf s e.val).health = 2)
    (hagree : (engxOf s e.val).agreeSince ≠ none)
    (hpasses : (checksOf s e.val).all (fun k => decide (1 ≤ vget (engxOf s e.val).passes k 0)) = true) :
    ∃ t, exec (.faultRecoveryAgree e) s = .next t ∧ keepsBut [.te, .host, .msi, .mb, .pc] s t ∧ (engxOf t e.val).health = 6 := by
  have hexec : exec (.faultRecoveryAgree e) s = .next (settle (setHealth e.val 6 s)) :=
    if_pos ⟨hh, Option.isSome_iff_ne_none.mpr hagree, hpasses⟩
  obtain ⟨t, ht, hframe, hx⟩ := setHealth_ends hexec
  exact ⟨t, ht, hframe, by rw [hx, setHealth_health_of_ne_two e.isLt (by decide)]⟩

/-! ### Alignment (R167, R170) -/

theorem alignmentComplete_due {s : State} (halign : s.te.ks.align ≠ none) (hok : 8 ≤ s.te.ks.alignOk) :
    ∃ t, exec .alignmentComplete s = .next t ∧ keepsBut [.te, .msi] s t ∧
      t.te = { s.te with ks := { s.te.ks with alignDone := true } } := by
  have hexec : exec .alignmentComplete s = .next (settle (ksMod (fun k => { k with alignDone := true }) s)) :=
    if_pos ⟨Option.isSome_iff_ne_none.mpr halign, hok⟩
  exact ⟨_, hexec, keepsBut_done (keepsBut_mono (keepsBut_ksMod _ s) (by simp)) (by simp), rfl⟩

section
variable {why : AlignWhy} {s : State} (halign : s.te.ks.align = some why) (hwhy : why ≠ .powerDown) (hcyc : 64 ≤ s.te.ks.alignCyc)
  (hdone : s.te.ks.alignDone = false)
include halign hwhy hcyc hdone

theorem exec_alignmentTimeout :
    exec .alignmentTimeout s = .next (settle (setHealth s.te.ks.alignTo.val 5 (alignAbandon s))) := by
  show execAlignmentTimeout s = _
  unfold execAlignmentTimeout
  dsimp only
  rw [if_neg (by rw [hdone]; simpa using hcyc), halign]
  cases why with
  | powerDown => exact absurd rfl hwhy
  | reclaim => rfl
  | software => rfl

/-- A reclaim or a software change that does not align is abandoned, and the engine that was to take over is in WARNING. -/
theorem alignmentTimeout_abandons :
    ∃ t, exec .alignmentTimeout s = .next t ∧ keepsBut [.te, .host, .msi, .mb, .pc] s t ∧ t.te.ks.align = none ∧
      (engxOf t s.te.ks.alignTo.val).health = 5 := by
  obtain ⟨w, hks⟩ := setHealth_ks s.te.ks.alignTo.val 5 (alignAbandon s)
  refine ⟨_, exec_alignmentTimeout halign hwhy hcyc hdone, keepsBut_then_done (keepsBut_ksMod _ s) (keepsBut_setHealth _ _ _), ?_, ?_⟩
  · rw [settle_te, hks]
    rfl
  · rw [engxOf_settle, setHealth_health_of_ne_two (Fin.isLt _) (by decide)]

end

/-- A booting engine at the null that may start steers on its own. -/
theorem engineSlewDone_steers {e : EngIx} {s : State} (hon : (engxOf s e.val).on = true) (hboot : (engxOf s e.val).booting = true)
    (hstart : mayStart s e.val = true) :
    ∃ t, exec (.engineSlewDone e) s = .next t ∧ keepsBut [.te, .msi] s t ∧ (engxOf t e.val).booting = false ∧
      (engxOf t e.val).silent = 0 ∧ (engxOf t e.val).health = (engxOf s e.val).health := by
  have hexec : exec (.engineSlewDone e) s = .next (settle (engxMod e.val (fun x => { x with
      booting := false, silent := 0, badRun := 0, viewBad := 0, fails := Vector.replicate 6 0, passes := Vector.replicate 6 0 }) s)) :=
    if_pos (by rw [hon, hboot, hstart]; rfl)
  refine ⟨_, hexec, keepsBut_done (keepsBut_mono (keepsBut_engxMod _ _ s) (by simp)) (by simp), ?_⟩
  rw [engxOf_settle, engxOf_engxMod_same]
  exact ⟨rfl, rfl, rfl⟩

/-- Settles O21: one lemma for each command of the wall tie, of the comparison and of alignment. -/
theorem keystoneComparison : Obligations.KeystoneComparison := by
  unfold Obligations.KeystoneComparison
  refine ⟨⟨?_, ?_⟩, ⟨?_, ?_, ?_, ?_, ?_⟩, ?_, ?_, ?_⟩
  · exact fun noise s hon hout => wallTieRecord_taken hon hout
  · exact fun s hlive hsilent hh => wallTieSilence_faults hlive hsilent hh
  · exact fun views s hdis hlive => arbitration_attributes hdis hlive
  · exact fun e diff s hlive => dcoRangeCheck_counts hlive diff
  · exact fun e pass s hlive => converterCodeCheck_counts hlive pass
  · exact fun e s hh => ⟨engineWtrExpiry_heals hh, fun a c hwould hctl hne hdis halign =>
      engineWtrExpiry_reclaims hh hwould hctl hne hdis halign⟩
  · exact fun e s hh hagree hpasses => faultRecoveryAgree_restores hh hagree hpasses
  · exact fun s halign hok => alignmentComplete_due halign hok
  · exact fun why s halign hwhy hcyc hdone => alignmentTimeout_abandons halign hwhy hcyc hdone
  · exact fun e s hon hboot hstart => engineSlewDone_steers hon hboot hstart

end Sys2Proof.Machine

/-! Time inputs (R174 to R182, R195, R197): an edge that is captured, lost to dead time or to a full FIFO; the reads of the FIFO and
of the clearing counters; TDCREF aligns, is lost and returns. -/

namespace Sys2Proof.Machine

-- The joined text is one compile: no thread beside the main one for each proof.
set_option Elab.async false

/-! ### One input of the eight -/

theorem evOf_evMod_same {k : Nat} (hk : k < 8) (f : EvIn → EvIn) (s : State) : evOf (evMod k f s) k = f (evOf s k) :=
  vmodN_same _ _ _ _ hk

theorem evOf_evMod_other {j k : Nat} (h : j ≠ k) (f : EvIn → EvIn) (s : State) : evOf (evMod k f s) j = evOf s j :=
  vmodN_other _ _ _ _ _ h

theorem vmodN_of_fixed {α : Type} {n : Nat} {v : Vector α n} {i : Nat} {f : α → α} {d : α} (h : f (vget v i d) = vget v i d) :
    vmodN v i f = v := by
  unfold vmodN
  split
  next hi =>
    rw [vget, dif_pos hi] at h
    rw [h, Vector.set_getElem_self]
  next => rfl

theorem evMod_of_fixed {k : Nat} {f : EvIn → EvIn} {s : State} (h : f (evOf s k) = evOf s k) : evMod k f s = s := by
  have hv : vmodN s.tio.ev k f = s.tio.ev := vmodN_of_fixed h
  rw [evMod, hv]

theorem evOf_of_tio {s t : State} (h : t.tio = s.tio) (k : Nat) : evOf t k = evOf s k := by rw [evOf, evOf, h]

@[simp] theorem evOf_settle (s : State) (k : Nat) : evOf (settle s) k = evOf s k := evOf_of_tio (settle_tio s) k

@[simp] theorem issueEvent_tio (code source : Nat) (data : List Byte) (s : State) : (issueEvent code source data s).tio = s.tio :=
  keepsBut_issueEvent code source data s .tio (by simp)

/-! ### An edge on an input (R174 to R178) -/

/-- An edge within 2 ns of the last capture (R175). -/
def deadAt (e : EvIn) (at_ : Nat) : Bool :=
  match e.lastCap with
  | some c => decide (c ≤ at_) && decide (at_ - c < 2 * uNs)
  | none => false

theorem deadAt_iff (e : EvIn) (at_ : Nat) : deadAt e at_ = true ↔ ∃ c, e.lastCap = some c ∧ c ≤ at_ ∧ at_ - c < 2 * uNs := by
  unfold deadAt
  cases e.lastCap with
  | none => simp
  | some c => simp

/-- A lost edge marks the input's unused start edges and nothing else of it. -/
theorem evOf_startLost {k : Nat} (hk : k < 8) (s : State) : evOf (startLost k s) k =
    { evOf s k with starts := (evOf s k).starts.map (fun x => { x with lost := true }) } := evOf_evMod_same hk _ s

theorem keepsBut_startLost (k : Nat) (s : State) : keepsBut [.tio] s (startLost k s) := keepsBut_evMod k _ s

/-- An edge in the dead time is counted, and starts no dead time of its own (R175). -/
def lostToDead (k : Nat) (s : State) : State := startLost k (evMod k (fun e => { e with dead := satU 16 (e.dead + 1) }) s)

theorem keepsBut_lostToDead (k : Nat) (s : State) : keepsBut [.tio] s (lostToDead k s) :=
  keepsBut_trans (keepsBut_evMod k _ s) (keepsBut_startLost k _)

theorem evOf_lostToDead {k : Nat} (hk : k < 8) (s : State) : evOf (lostToDead k s) k = { evOf s k with
    dead := satU 16 ((evOf s k).dead + 1)
    starts := (evOf s k).starts.map (fun x => { x with lost := true }) } := by
  rw [lostToDead, evOf_startLost hk, evOf_evMod_same hk]

/-- An edge that finds the FIFO full is counted, and the next entry will say so (R176). -/
def lostToFull (k : Nat) (s : State) : State :=
  startLost k (evMod k (fun e => { e with full := satU 16 (e.full + 1), overflow := true, ovfPending := true }) s)

theorem keepsBut_lostToFull (k : Nat) (s : State) : keepsBut [.tio] s (lostToFull k s) :=
  keepsBut_trans (keepsBut_evMod k _ s) (keepsBut_startLost k _)

theorem evOf_lostToFull {k : Nat} (hk : k < 8) (s : State) : evOf (lostToFull k s) k = { evOf s k with
    full := satU 16 ((evOf s k).full + 1), overflow := true, ovfPending := true
    starts := (evOf s k).starts.map (fun x => { x with lost := true }) } := by
  rw [lostToFull, evOf_startLost hk, evOf_evMod_same hk]

theorem capture_full {k : Nat} {s : State} (hfull : 512 ≤ (evOf s k).fifo.length) (rising tb : Bool) (ts : Int) :
    capture k rising tb ts s = lostToFull k s := if_pos hfull

/-- The edge of a start input is kept for the stops that follow (R178). -/
def startNoted (k : Nat) (ts : Int) (s : State) : State :=
  if isStart s k then evMod k (fun e => { e with starts := { t := ts, tb := false, epoch := 0, lost := false } :: e.starts }) s else s

theorem keepsBut_startNoted (k : Nat) (ts : Int) (s : State) : keepsBut [.tio] s (startNoted k ts s) := by
  unfold startNoted
  split
  · exact keepsBut_evMod k _ s
  · exact keepsBut_refl _ s

theorem startNoted_same {k : Nat} (hk : k < 8) (ts : Int) (s : State) :
    ∃ l, evOf (startNoted k ts s) k = { evOf s k with starts := l } := by
  unfold startNoted
  split
  · exact ⟨_, evOf_evMod_same hk _ s⟩
  · exact ⟨(evOf s k).starts, rfl⟩

theorem startNoted_other {j k : Nat} (h : j ≠ k) (ts : Int) (s : State) : evOf (startNoted k ts s) j = evOf s j := by
  unfold startNoted
  split
  · exact evOf_evMod_other h _ s
  · rfl

/-- A timestamp on the counter's base goes to the back of the FIFO under the next sequence number (R176, R177). -/
def stamped (rising : Bool) (ts : Int) (e : EvIn) : EvIn := { e with
  entrySeq := (e.entrySeq + 1) % 65536, ovfPending := false
  fifo := e.fifo ++ [{
    value := compactInt ts, rising := rising, tb := false, ivl := false, afterOvf := e.ovfPending, epoch := 0
    seq := (e.entrySeq + 1) % 65536 }] }

/-- An input that is no stop of a pair records the edge's own timestamp. -/
theorem capture_stamps {k : Nat} {s : State} (hroom : (evOf s k).fifo.length < 512) (hstart : startOf s k = none)
    (rising : Bool) (ts : Int) : capture k rising false ts s = evMod k (stamped rising ts) (startNoted k ts s) := by
  unfold capture
  rw [if_neg (Nat.not_le.mpr hroom), hstart]
  rfl

/-- Dead time starts at a captured edge, one that a full FIFO loses too (R175). -/
def capturedAt (k at_ : Nat) (s : State) : State := evMod k (fun e => { e with lastCap := some at_ }) s

theorem evOf_capturedAt {k : Nat} (hk : k < 8) (at_ : Nat) (s : State) :
    evOf (capturedAt k at_ s) k = { evOf s k with lastCap := some at_ } := evOf_evMod_same hk _ s

theorem keepsBut_capturedAt (k at_ : Nat) (s : State) : keepsBut [.tio] s (capturedAt k at_ s) := keepsBut_evMod k _ s

section
variable {k : Fin 8} {rising : Bool} {s : State} (hon : ioOn s k.val = true)
  (hsel : if rising then parN s 0x62 k.val = 1 ∨ parN s 0x62 k.val = 3 else parN s 0x62 k.val = 2 ∨ parN s 0x62 k.val = 3)
  (hd13 : domOn s 13 = true) (hctl : s.te.ks.control ≠ none) (hbase : baseOf s k.val = some false)
include hon hsel hd13 hctl hbase

theorem exec_eventEdge (at_ : Nat) (tdc : Option TdcSample) : exec (.eventEdge k rising at_ tdc) s =
    if deadAt (evOf s k.val) at_ then .next (settle (lostToDead k.val s))
    else .next (settle (capturedAt k.val at_ (capture k.val rising false ((at_ : Int) - par s 0x63 k.val) s))) := by
  have hedge : (if rising then parN s 0x62 k.val == 1 || parN s 0x62 k.val == 3
      else parN s 0x62 k.val == 2 || parN s 0x62 k.val == 3) = true := by
    cases rising <;> simpa using hsel
  have hsupply : s.te.ks.control.isNone = false := Option.isNone_eq_false_iff.mpr (Option.isSome_iff_ne_none.mpr hctl)
  show execEventEdge k rising at_ tdc s = _
  unfold execEventEdge
  dsimp only
  rw [hedge, hon, if_neg (by decide), hd13, if_neg (by decide), hsupply, if_neg (by decide), hbase]
  rfl

theorem eventEdge_dead {at_ : Nat} (hdead : deadAt (evOf s k.val) at_ = true) (tdc : Option TdcSample) :
    ∃ t, exec (.eventEdge k rising at_ tdc) s = .next t ∧ keepsBut [.tio, .msi] s t ∧
      (evOf t k.val).fifo = (evOf s k.val).fifo ∧ (evOf t k.val).dead = satU 16 ((evOf s k.val).dead + 1) ∧
      (evOf t k.val).lastCap = (evOf s k.val).lastCap := by
  have hexec := exec_eventEdge hon hsel hd13 hctl hbase at_ tdc
  rw [hdead, if_pos rfl] at hexec
  refine ⟨_, hexec, keepsBut_done (keepsBut_mono (keepsBut_lostToDead _ s) (by simp)) (by simp), ?_⟩
  rw [evOf_settle, evOf_lostToDead k.isLt]
  exact ⟨rfl, rfl, rfl⟩

theorem eventEdge_full {at_ : Nat} (hlive : deadAt (evOf s k.val) at_ = false) (hfull : 512 ≤ (evOf s k.val).fifo.length)
    (tdc : Option TdcSample) :
    ∃ t, exec (.eventEdge k rising at_ tdc) s = .next t ∧ keepsBut [.tio, .msi] s t ∧
      (evOf t k.val).fifo = (evOf s k.val).fifo ∧ (evOf t k.val).overflow = true ∧
      (evOf t k.val).full = satU 16 ((evOf s k.val).full + 1) := by
  have hexec := exec_eventEdge hon hsel hd13 hctl hbase at_ tdc
  rw [hlive, if_neg Bool.false_ne_true, capture_full hfull] at hexec
  refine ⟨_, hexec, keepsBut_then_done (keepsBut_lostToFull _ s) (keepsBut_capturedAt _ _ _), ?_⟩
  rw [evOf_settle, evOf_capturedAt k.isLt, evOf_lostToFull k.isLt]
  exact ⟨rfl, rfl, rfl⟩

theorem eventEdge_captured {at_ : Nat} (hlive : deadAt (evOf s k.val) at_ = false) (hroom : (evOf s k.val).fifo.length < 512)
    (hstart : startOf s k.val = none) (tdc : Option TdcSample) :
    ∃ t, exec (.eventEdge k rising at_ tdc) s = .next t ∧ keepsBut [.tio, .msi] s t ∧
      (evOf t k.val).fifo = (evOf s k.val).fifo ++ [{
        value := compactInt ((at_ : Int) - par s 0x63 k.val), rising := rising, tb := false, ivl := false
        afterOvf := (evOf s k.val).ovfPending, epoch := 0, seq := ((evOf s k.val).entrySeq + 1) % 65536 }] ∧
      (evOf t k.val).lastCap = some at_ ∧ ∀ j, j ≠ k.val → evOf t j = evOf s j := by
  have hexec := exec_eventEdge hon hsel hd13 hctl hbase at_ tdc
  rw [hlive, if_neg Bool.false_ne_true, capture_stamps hroom hstart] at hexec
  obtain ⟨starts, hnoted⟩ := startNoted_same k.isLt ((at_ : Int) - par s 0x63 k.val) s
  refine ⟨_, hexec, ?_, ?_, ?_, fun j hj => ?_⟩
  · exact keepsBut_then_done (keepsBut_trans (keepsBut_startNoted _ _ s) (keepsBut_evMod _ _ _)) (keepsBut_capturedAt _ _ _)
  · rw [evOf_settle, evOf_capturedAt k.isLt, evOf_evMod_same k.isLt, hnoted]
    rfl
  · rw [evOf_settle, evOf_capturedAt k.isLt]
  · rw [evOf_settle, capturedAt, evOf_evMod_other hj, evOf_evMod_other hj, startNoted_other hj]

end

/-! ### The reads of an input's registers (R177, R197) -/

/-- Where an input's registers stand in BAR0. -/
theorem regAt_ev {k w off : Nat} (hk : k < 8) (hw : w < 8) (hoff : off = 0x90000 + (k * 0x40 + w * 4)) (s : State) :
    regAt s off = .ev k w := by
  have hblock : off - 0x90000 = k * 0x40 + w * 4 := by omega
  have hinput : (k * 0x40 + w * 4) / 0x40 = k := by omega
  have hword : (k * 0x40 + w * 4) % 0x40 / 4 = w := by omega
  unfold regAt
  iterate 5 rw [if_neg (by omega)]
  rw [if_pos (by omega), hblock, regEv, if_pos (by omega), if_pos (by omega), hinput, hword]

/-- A read that reaches an input's register returns what it shows and has its effect on that input alone. -/
theorem evRead_takes {who : Initiator} {k w off : Nat} {s : State} {c : Instr} {shown : EvIn → Word} {effect : EvIn → EvIn}
    (hc : exec c s = done (regAccess who off none s)) (hans : answers who s) (hd13 : domOn s 13 = true) (hk : k < 8) (hw : w < 8)
    (hoff : off = 0x90000 + (k * 0x40 + w * 4)) (hshown : ∀ u, readData who off (.ev k w) u = shown (evOf u k))
    (heffect : ∀ u, readEffect who off (.ev k w) u = evMod k effect u) :
    ∃ t, exec c s = .next t ∧ keepsBut [.tio, .host, .msi] s t ∧ t.host.rdata[whoIx who] = shown (evOf s k) ∧
      t.tio = (evMod k effect s).tio := by
  have hr : regAt s off = .ev k w := regAt_ev hk hw hoff s
  have hstart : (accessStart who s).tio = s.tio := keepsBut_accessStart who s .tio (by simp)
  have hacc := regAccess_of_reaches none (reaches_of_regAt hans hr (by omega) (by simp) rfl hd13)
  rw [hr, regPerform_read, hshown, heffect, evOf_of_tio hstart] at hacc
  refine ⟨_, hc.trans (done_of_eq hacc), ?_, putData_rdata _ _ _, ?_⟩
  · have hread := keepsBut_then (n := [.tio, .host, .msi]) (keepsBut_accessStart who s) (keepsBut_evMod k effect _)
      (by simp) (by simp)
    exact keepsBut_then_done hread (keepsBut_putData _ _ _)
  · rw [settle_tio, putData_tio, evMod, evMod, hstart]

/-- The oldest entry moves to the timestamp registers. -/
def popped (e : EvIn) : EvIn :=
  match e.fifo with
  | x :: r => { e with fifo := r, ts := x.value }
  | [] => e

theorem popped_fifo (e : EvIn) : (popped e).fifo = e.fifo.tail := by
  unfold popped
  split
  next hfifo => rw [hfifo]; rfl
  next hfifo => rw [hfifo]; rfl

theorem popped_ts {e : EvIn} {x : EvEntry} {r : List EvEntry} (h : e.fifo = x :: r) : (popped e).ts = x.value := by
  rw [popped, h]

theorem popped_of_empty {e : EvIn} (h : e.fifo = []) : popped e = e := by rw [popped, h]

theorem popWord_of_empty {e : EvIn} (h : e.fifo = []) : popWord e = 0 := by rw [popWord, h]

theorem popEv_eq (k : Nat) (s : State) : popEv k s = evMod k popped s := rfl

section
variable {who : Initiator} {k : Fin 8} {s : State} (hans : answers who s) (hd13 : domOn s 13 = true)
include hans hd13

theorem evPopRead_pops :
    ∃ t, exec (.evPopRead who k) s = .next t ∧ keepsBut [.tio, .host, .msi] s t ∧
      t.host.rdata[whoIx who] = popWord (evOf s k.val) ∧ (evOf t k.val).fifo = (evOf s k.val).fifo.tail ∧
      (∀ x r, (evOf s k.val).fifo = x :: r → (evOf t k.val).ts = x.value) ∧
      ((evOf s k.val).fifo = [] → t.host.rdata[whoIx who] = 0 ∧ t.tio = s.tio) := by
  obtain ⟨t, ht, hframe, hdata, htio⟩ := evRead_takes (c := .evPopRead who k) (shown := popWord)
    rfl hans hd13 k.isLt (w := 1) (by decide) (by omega) (fun _ => rfl) (popEv_eq k.val)
  have hev : evOf t k.val = popped (evOf s k.val) := (evOf_of_tio htio _).trans (evOf_evMod_same k.isLt _ s)
  refine ⟨t, ht, hframe, hdata, ?_, fun x r hfifo => ?_, fun hempty => ⟨?_, ?_⟩⟩
  · rw [hev, popped_fifo]
  · rw [hev, popped_ts hfifo]
  · exact hdata.trans (popWord_of_empty hempty)
  · rw [htio, evMod_of_fixed (popped_of_empty hempty)]

theorem evLostRead_clears :
    ∃ t, exec (.evLostRead who k) s = .next t ∧ keepsBut [.tio, .host, .msi] s t ∧
      t.host.rdata[whoIx who] = packW [((evOf s k.val).dead, 16), ((evOf s k.val).full, 0)] ∧
      evOf t k.val = { evOf s k.val with dead := 0, full := 0 } := by
  obtain ⟨t, ht, hframe, hdata, htio⟩ := evRead_takes (c := .evLostRead who k) (shown := fun e => packW [(e.dead, 16), (e.full, 0)])
    rfl hans hd13 k.isLt (w := 4) (by decide) (by omega) (fun _ => rfl) (fun _ => rfl)
  exact ⟨t, ht, hframe, hdata, (evOf_of_tio htio _).trans (evOf_evMod_same k.isLt _ s)⟩

theorem evNobaseRead_clears :
    ∃ t, exec (.evNobaseRead who k) s = .next t ∧ keepsBut [.tio, .host, .msi] s t ∧
      t.host.rdata[whoIx who] = BitVec.ofNat 32 (evOf s k.val).noBase ∧ evOf t k.val = { evOf s k.val with noBase := 0 } := by
  obtain ⟨t, ht, hframe, hdata, htio⟩ := evRead_takes (c := .evNobaseRead who k) (shown := fun e => BitVec.ofNat 32 e.noBase)
    rfl hans hd13 k.isLt (w := 5) (by decide) (by omega) (fun _ => rfl) (fun _ => rfl)
  exact ⟨t, ht, hframe, hdata, (evOf_of_tio htio _).trans (evOf_evMod_same k.isLt _ s)⟩

end

/-! ### TDCREF (R181, R182) -/

/-- A command that changes the time base and reports it. -/
theorem tdcEvent_ends {c : Instr} {f : TdcRef → TdcRef} {s : State} (hc : exec c s = done (tdcEvent (tdcMod f s))) :
    ∃ t, exec c s = .next t ∧ keepsBut [.tio, .host, .msi, .mb, .pc] s t ∧ t.tio = { s.tio with tdc := f s.tio.tdc } :=
  ⟨_, hc, keepsBut_then_done (keepsBut_tdcMod f s) (keepsBut_issueEvent _ _ _ _), (settle_tio _).trans (issueEvent_tio _ _ _ _)⟩

section
variable {s : State} (hon : ioOn s 23 = true) (hd13 : domOn s 13 = true)
include hon hd13

theorem tdcrefAlign_aligns (at_ : Nat) (hunaligned : s.tio.tdc.aligned = false) (hin : s.tio.tdc.out = false) :
    ∃ t, exec (.tdcrefAlign at_) s = .next t ∧ keepsBut [.tio, .host, .msi, .mb, .pc] s t ∧ t.tio.tdc.aligned = true ∧
      t.tio.tdc.epoch = (s.tio.tdc.epoch + 1) % 16 ∧ t.tio.tdc.base = (at_ : Rat) + s.tio.tdc.lastOffset.getD 0 ∧
      t.tio.tdc.mark = 0 ∧ t.tio.tdc.present = true ∧ t.tio.tdc.fallen = false ∧ t.tio.ev = s.tio.ev := by
  obtain ⟨t, ht, hframe, htio⟩ := tdcEvent_ends (c := .tdcrefAlign at_) (s := s)
    (if_neg (by rw [hon, hd13, hunaligned, hin]; decide))
  refine ⟨t, ht, hframe, ?_⟩
  rw [htio]
  exact ⟨rfl, rfl, rfl, rfl, rfl, rfl, rfl⟩

theorem tdcrefLoss_unaligns (hin : s.tio.tdc.out = false) :
    ∃ t, exec .tdcrefLoss s = .next t ∧ keepsBut [.tio, .host, .msi, .mb, .pc] s t ∧
      t.tio.tdc.lost = true ∧ t.tio.tdc.out = true ∧ t.tio.tdc.aligned = false ∧ t.tio.tdc.present = false ∧
      t.tio.tdc.fallen = parB s 0x6F 23 ∧ t.tio.tdc.epoch = s.tio.tdc.epoch := by
  obtain ⟨t, ht, hframe, htio⟩ := tdcEvent_ends (c := .tdcrefLoss) (s := s) (if_neg (by rw [hon, hd13, hin]; decide))
  refine ⟨t, ht, hframe, ?_⟩
  rw [htio]
  exact ⟨rfl, rfl, rfl, rfl, rfl, rfl⟩

theorem tdcrefRestore_returns (hout : s.tio.tdc.out = true) :
    ∃ t, exec .tdcrefRestore s = .next t ∧ keepsBut [.tio, .host, .msi, .mb, .pc] s t ∧
      t.tio.tdc.present = true ∧ t.tio.tdc.out = false ∧ t.tio.tdc.lost = false ∧ t.tio.tdc.aligned = s.tio.tdc.aligned := by
  obtain ⟨t, ht, hframe, htio⟩ := tdcEvent_ends (c := .tdcrefRestore) (s := s) (if_neg (by rw [hon, hd13, hout]; decide))
  refine ⟨t, ht, hframe, ?_⟩
  rw [htio]
  exact ⟨rfl, rfl, rfl, rfl⟩

end

/-- Settles O22: the three ends of an edge, the three reads, and TDCREF's alignment, loss and return. -/
theorem timeInputs : Obligations.TimeInputs := by
  unfold Obligations.TimeInputs
  refine ⟨fun k rising at_ tdc s hon hsel hd13 hctl hbase => ?_, fun who k s hans hd13 => ?_, fun s hon hd13 => ?_⟩
  · dsimp only
    rw [← deadAt_iff, Bool.not_eq_true]
    exact ⟨fun hdead => eventEdge_dead hon hsel hd13 hctl hbase hdead tdc,
      fun hlive hfull => eventEdge_full hon hsel hd13 hctl hbase hlive hfull tdc,
      fun hlive hroom hstart => eventEdge_captured hon hsel hd13 hctl hbase hlive hroom hstart tdc⟩
  · exact ⟨evPopRead_pops hans hd13, evLostRead_clears hans hd13, evNobaseRead_clears hans hd13⟩
  · exact ⟨fun at_ => tdcrefAlign_aligns hon hd13 at_, tdcrefLoss_unaligns hon hd13, tdcrefRestore_returns hon hd13⟩

end Sys2Proof.Machine

/-! Time outputs (R183 to R188, R195) and the Time Tap (R189 to R194): pulses that are emitted, placed or missed, an aligned clock
output that starts, the digitiser's reads, the latch, and TT_CLK. -/

namespace Sys2Proof.Machine

-- The joined text is one compile: no thread beside the main one for each proof.
set_option Elab.async false

/-! ### The parts that an output names -/

theorem trigOf_trigMod_same {j : Nat} (hj : j < 8) (f : TrigOut → TrigOut) (s : State) :
    trigOf (trigMod j f s) j = f (trigOf s j) := vmodN_same _ _ _ _ hj

theorem trigOf_of_tio {s t : State} (h : t.tio = s.tio) (j : Nat) : trigOf t j = trigOf s j := by rw [trigOf, trigOf, h]

@[simp] theorem trigOf_settle (s : State) (j : Nat) : trigOf (settle s) j = trigOf s j := trigOf_of_tio (settle_tio s) j

@[simp] theorem trigOf_issueEvent (code source : Nat) (data : List Byte) (s : State) (j : Nat) :
    trigOf (issueEvent code source data s) j = trigOf s j := trigOf_of_tio (issueEvent_tio code source data s) j

theorem keepsBut_withTio (x : TimeIO) (s : State) : keepsBut [.tio] s { s with tio := x } := by
  intro p hp
  cases p <;> first | rfl | exact ⟨rfl, rfl, rfl⟩ | simp at hp

theorem getElem_vmodN_same {α : Type} {n : Nat} (v : Vector α n) (i : Fin n) (f : α → α) : (vmodN v i.val f)[i] = f v[i] := by
  simp [vmodN]

theorem getElem_vmodN_other {α : Type} {n : Nat} (v : Vector α n) {i j : Fin n} (h : j ≠ i) (f : α → α) :
    (vmodN v i.val f)[j] = v[j] := by
  have hval : i.val ≠ j.val := fun e => h (Fin.ext e.symm)
  simp [vmodN, Vector.getElem_set_ne, hval]

/-! ### Where a pulse is placed (R183, R186, R527) -/

/-- The instant less the delay, cut into a time-clock edge and the rest. -/
theorem placePulse_places (s : State) (sel : Nat) (p : Int) (width : Nat) (invert : Bool) :
    (placePulse s sel p width invert).edge % 1600 = 0 ∧ (placePulse s sel p width invert).delay < 1600 ∧
      (placePulse s sel p width invert).edge + (placePulse s sel p width invert).delay = p - toPs (par s 0x63 sel) ∧
      (placePulse s sel p width invert).fall =
        (placePulse s sel p width invert).edge + (placePulse s sel p width invert).delay + 1600 * width ∧
      (placePulse s sel p width invert).invert = invert := by
  unfold placePulse
  dsimp only
  refine ⟨?_, ?_, ?_, ?_, rfl⟩ <;> omega

/-! ### Triggers (R183, R185) -/

theorem keepsBut_trigStep (j h n : Nat) (s : State) : keepsBut [.tio] s (trigStep j h n s) := keepsBut_trigMod j _ s

/-- An entry that goes on moves the output's queue and nothing else of it. -/
theorem trigOf_trigStep {j : Nat} (hj : j < 8) (h n : Nat) (s : State) :
    ∃ q, trigOf (trigStep j h n s) j = { trigOf s j with queue := q } := ⟨_, trigOf_trigMod_same hj _ s⟩

section
variable {j : Fin 8} {e : TrigEntry} {s : State} (hnext : nextTrig (trigOf s j.val).queue = some e)
include hnext

/-- The next pulse is emitted or missed. -/
theorem exec_triggerPulse : exec (.triggerPulse j) s = if ioOn s (8 + j.val) && tioLive s then
      .next (settle (trigMod j.val (fun t => { t with
        pulses := (t.pulses + 1) % 65536, last := some ((pulseAt e e.emitted).toNat, e.width)
        out := some (placePulse s (8 + j.val) (pulseAt e e.emitted) e.width (parB s 0x67 (8 + j.val))) })
        (trigStep j.val e.handle 1 s)))
    else .next (settle (trigMiss j.val e.handle 1 s)) := by
  show execTriggerPulse j s = _
  unfold execTriggerPulse
  dsimp only
  rw [hnext]
  rfl

theorem triggerPulse_emits (hon : ioOn s (8 + j.val) = true) (hlive : tioLive s = true) :
    ∃ t, exec (.triggerPulse j) s = .next t ∧ keepsBut [.tio, .msi] s t ∧
      (trigOf t j.val).pulses = ((trigOf s j.val).pulses + 1) % 65536 ∧
      (trigOf t j.val).last = some ((pulseAt e e.emitted).toNat, e.width) ∧
      (trigOf t j.val).out = some (placePulse s (8 + j.val) (pulseAt e e.emitted) e.width (parB s 0x67 (8 + j.val))) ∧
      (trigOf t j.val).missed = (trigOf s j.val).missed := by
  have hexec := exec_triggerPulse hnext
  rw [hon, hlive, if_pos (by decide)] at hexec
  obtain ⟨q, hstep⟩ := trigOf_trigStep j.isLt e.handle 1 s
  refine ⟨_, hexec, keepsBut_then_done (keepsBut_trigStep _ _ _ s) (keepsBut_trigMod _ _ _), ?_⟩
  rw [trigOf_settle, trigOf_trigMod_same j.isLt, hstep]
  exact ⟨rfl, rfl, rfl, rfl⟩

theorem triggerPulse_missed (hoff : ioOn s (8 + j.val) = false ∨ tioLive s = false) :
    ∃ t, exec (.triggerPulse j) s = .next t ∧ keepsBut [.tio, .host, .msi, .mb, .pc] s t ∧
      (trigOf t j.val).missedFlag = true ∧ (trigOf t j.val).missed = (trigOf s j.val).missed + 1 ∧
      (trigOf t j.val).pulses = (trigOf s j.val).pulses := by
  have hheld : (ioOn s (8 + j.val) && tioLive s) = false := Bool.and_eq_false_iff.mpr hoff
  have hexec := exec_triggerPulse hnext
  rw [hheld, if_neg Bool.false_ne_true, trigMiss, if_neg one_ne_zero] at hexec
  obtain ⟨q, hstep⟩ := trigOf_trigStep j.isLt e.handle 1 s
  refine ⟨_, hexec, ?_, ?_⟩
  · exact keepsBut_then_done (keepsBut_trans (keepsBut_trigStep _ _ _ s) (keepsBut_trigMod _ _ _)) (keepsBut_issueEvent _ _ _ _)
  · rw [trigOf_settle, trigOf_issueEvent, trigOf_trigMod_same j.isLt, hstep]
    exact ⟨rfl, rfl, rfl⟩

end

/-! ### Pulses per second (R186) -/

theorem roundAway_intCast (k : Int) : roundAway (k : Rat) = k := by
  have hfloor : ∀ n : Int, ((n : Rat) + 1 / 2).floor = n := by
    intro n
    have hhalf : ⌊(1 / 2 : Rat)⌋ = 0 := by norm_num
    exact (Int.floor_intCast_add n (1 / 2 : Rat)).trans (by rw [hhalf, add_zero])
  unfold roundAway
  split
  · exact hfloor k
  · rw [← Int.cast_neg, hfloor, neg_neg]

/-- At a whole second plus an offset, the second that the counter stands on. -/
theorem wholeSecond_of_now {now k off : Int} (h : now = k * (uSec : Int) + off) :
    roundAway (((now - off : Int) : Rat) / (uSec : Rat)) = k := by
  have hspan : now - off = k * (uSec : Int) := by omega
  have hsec : (uSec : Rat) ≠ 0 := by norm_num [uSec]
  rw [hspan, Int.cast_mul, Int.cast_natCast, mul_div_cancel_right₀ _ hsec, roundAway_intCast]

theorem ppsOutPulse_pulses {j : Fin 2} {k : Int} {s : State} (hon : ioOn s (16 + j.val) = true) (hlive : tioLive s = true)
    (hgate : parN s 0x6A (16 + j.val) = 0 ∨ s.clk.tod = .traceable ∨ s.clk.tod = .holdover)
    (hnow : (s.clk.now : Int) = k * (uSec : Int) + par s 0x68 (16 + j.val)) :
    ∃ t, exec (.ppsOutPulse j) s = .next t ∧ keepsBut [.tio, .msi] s t ∧
      t.tio.pps[j] = some (placePulse s (16 + j.val) (toPs ((s.clk.now : Int) : Rat)) (parN s 0x69 (16 + j.val)) false) ∧
      t.tio.trig = s.tio.trig := by
  have hexec : exec (.ppsOutPulse j) s = .next (settle { s with tio := { s.tio with pps := s.tio.pps.set j (some
      (placePulse s (16 + j.val) (toPs ((s.clk.now : Int) : Rat)) (parN s 0x69 (16 + j.val)) false)) } }) := by
    show execPpsOutPulse j s = _
    unfold execPpsOutPulse
    dsimp only
    rw [if_pos (by rw [hon, hlive, decide_eq_true hgate]; decide), wholeSecond_of_now hnow, ← hnow]
    rfl
  refine ⟨_, hexec, keepsBut_done (keepsBut_mono (keepsBut_withTio _ s) (by simp)) (by simp), ?_, rfl⟩
  exact Vector.getElem_set_self _

/-! ### Aligned clock outputs (R188) -/

/-- A clock output runs from the first edge of its grid, and no longer waits to be aligned again. -/
def gridStarted (c : Fin 4) (first : Nat) (s : State) : State :=
  clkStart c.val (some first) { s with tio := { s.tio with clkRealign := s.tio.clkRealign.set c false } }

theorem keepsBut_gridStarted (c : Fin 4) (first : Nat) (s : State) : keepsBut [.tio] s (gridStarted c first s) :=
  keepsBut_trans (keepsBut_withTio _ s) (keepsBut_withTio _ _)

/-- A start after a step is reported, another one is not. -/
theorem exec_clkoutAlignStart {c : Fin 4} {s : State} (hmay : clkoutMay s c.val = true) (halign : parB s 0x6D (18 + c.val) = true)
    (hstopped : s.tio.clkRun[c] = false) :
    ∃ first, exec (.clkoutAlignStart c) s = .next (settle (if s.tio.clkRealign[c] then
      issueEvent 0x0303 (18 + c.val) [] (gridStarted c first s) else gridStarted c first s)) :=
  ⟨_, if_pos (by rw [hmay, halign, hstopped]; decide)⟩

theorem clkoutAlignStart_starts {c : Fin 4} {s : State} (hmay : clkoutMay s c.val = true)
    (halign : parB s 0x6D (18 + c.val) = true) (hstopped : s.tio.clkRun[c] = false) :
    ∃ t, exec (.clkoutAlignStart c) s = .next t ∧ keepsBut [.tio, .host, .msi, .mb, .pc] s t ∧ t.tio.clkRun[c] = true ∧
      t.tio.clkFirst[c] ≠ none ∧ t.tio.clkPhases[c] = clkPhasesOf s c ∧ t.tio.clkRealign[c] = false ∧
      ∀ d : Fin 4, d ≠ c → t.tio.clkRun[d] = s.tio.clkRun[d] := by
  obtain ⟨first, hexec⟩ := exec_clkoutAlignStart hmay halign hstopped
  have hreport : ∀ u : State, keepsBut [.host, .mb, .pc] u
      (if s.tio.clkRealign[c] then issueEvent 0x0303 (18 + c.val) [] u else u) := by
    intro u
    split
    · exact keepsBut_mono (keepsBut_issueEvent _ _ _ u) (by simp)
    · exact keepsBut_refl _ u
  have htio : (settle (if s.tio.clkRealign[c] then issueEvent 0x0303 (18 + c.val) [] (gridStarted c first s)
      else gridStarted c first s)).tio = (gridStarted c first s).tio :=
    (settle_tio _).trans (hreport _ .tio (by simp))
  refine ⟨_, hexec, keepsBut_then_done (keepsBut_gridStarted c first s) (hreport _), ?_⟩
  rw [htio]
  refine ⟨getElem_vmodN_same _ c _, ?_, getElem_vmodN_same _ c _, Vector.getElem_set_self _, fun d hd => getElem_vmodN_other _ hd _⟩
  exact (getElem_vmodN_same _ c _).trans_ne (Option.some_ne_none first)

/-! ### The Time Tap (R190 to R194) -/

/-- A command that changes the Time Tap alone. -/
theorem tapMod_ends {c : Instr} {f : TimeTap → TimeTap} {s : State} (hc : exec c s = done (tapMod f s)) :
    ∃ t, exec c s = .next t ∧ keepsBut [.tio, .msi] s t ∧ t.tio.tap = f s.tio.tap :=
  ⟨_, hc, keepsBut_done (keepsBut_mono (keepsBut_tapMod f s) (by simp)) (by simp), rfl⟩

/-- A command that changes the Time Tap and reports it. -/
theorem tapEvent_ends {c : Instr} {n src : Nat} {d : List Byte} {f : TimeTap → TimeTap} {s : State}
    (hc : exec c s = done (issueEvent n src d (tapMod f s))) :
    ∃ t, exec c s = .next t ∧ keepsBut [.tio, .host, .msi, .mb, .pc] s t ∧ t.tio.tap = f s.tio.tap :=
  ⟨_, hc, keepsBut_then_done (keepsBut_tapMod f s) (keepsBut_issueEvent _ _ _ _),
    congrArg TimeIO.tap ((settle_tio _).trans (issueEvent_tio _ _ _ _))⟩

/-- The mirror fills over the cycles since TT_CLK came back (R194). -/
def refilled (cycle : Nat) (s : State) : State := tapMod (fun x => { x with refill := max x.refill (min 4 cycle) }) s

/-- A snapshot of the instant that a read names (R190, R191). -/
def snapTaken (back : Nat) (s : State) : State :=
  tapMod (fun t => { t with snap := vec4 (tapWords s (snapEdge s back)), mirror := snapEdge s back }) s

/-- A word goes onto TT_D. -/
def driven (a : Fin 16) (s : State) : State := tapMod (fun t => { t with ttD := tapWord s a }) s

theorem keepsBut_refilled (cycle : Nat) (s : State) : keepsBut [.tio] s (refilled cycle s) := keepsBut_tapMod _ s
theorem keepsBut_snapTaken (back : Nat) (s : State) : keepsBut [.tio] s (snapTaken back s) := keepsBut_tapMod _ s
theorem keepsBut_driven (a : Fin 16) (s : State) : keepsBut [.tio] s (driven a s) := keepsBut_tapMod _ s

section
variable {s : State} (hd13 : domOn s 13 = true)
include hd13

theorem exec_timeTapWord0Read (hon : ioOn s 22 = true) (hclk : s.tio.tap.clkPresent = true) (a : Fin 16) (cycle back : Nat) :
    exec (.timeTapWord0Read a cycle back) s =
      .next (settle (driven a (if a = 0 then snapTaken back (refilled cycle s) else refilled cycle s))) :=
  if_neg (by rw [hd13, hon, hclk]; decide)

theorem timeTapWord0Read_drives (a : Fin 16) (cycle back : Nat) (hon : ioOn s 22 = true) (hclk : s.tio.tap.clkPresent = true) :
    ∃ t, exec (.timeTapWord0Read a cycle back) s = .next t ∧ keepsBut [.tio, .msi] s t ∧ t.tio.tap.latch = s.tio.tap.latch ∧
      (a = 0 → t.tio.tap.snap = vec4 (tapWords (refilled cycle s) (snapEdge s back)) ∧ t.tio.tap.mirror = snapEdge s back ∧
        t.tio.tap.ttD = t.tio.tap.snap[0]) ∧
      (a ≠ 0 → t.tio.tap.snap = s.tio.tap.snap ∧ t.tio.tap.ttD = tapWord s a) := by
  have hexec := exec_timeTapWord0Read hd13 hon hclk a cycle back
  by_cases ha : a = 0
  · rw [if_pos ha] at hexec
    refine ⟨_, hexec, ?_, rfl, fun _ => ⟨rfl, rfl, ?_⟩, fun h => absurd ha h⟩
    · exact keepsBut_then_done (keepsBut_trans (keepsBut_refilled cycle s) (keepsBut_snapTaken back _)) (keepsBut_driven a _)
    · rw [ha]
      rfl
  · rw [if_neg ha] at hexec
    exact ⟨_, hexec, keepsBut_then_done (keepsBut_refilled cycle s) (keepsBut_driven a _), rfl, fun h => absurd h ha,
      fun _ => ⟨rfl, rfl⟩⟩

theorem ttClkLost_flags (hthere : s.tio.tap.clkAbsent = false) :
    ∃ t, exec .ttClkLost s = .next t ∧ keepsBut [.tio, .host, .msi, .mb, .pc] s t ∧ t.tio.tap.clkLost = true ∧
      t.tio.tap.clkPresent = false ∧ t.tio.tap.clkAbsent = true := by
  obtain ⟨t, ht, hframe, htap⟩ := tapEvent_ends (c := .ttClkLost) (s := s) (if_neg (by rw [hd13, hthere]; decide))
  refine ⟨t, ht, hframe, ?_⟩
  rw [htap]
  exact ⟨rfl, rfl, rfl⟩

theorem ttClkReturn_refills (haway : s.tio.tap.clkPresent = false) :
    ∃ t, exec .ttClkReturn s = .next t ∧ keepsBut [.tio, .host, .msi, .mb, .pc] s t ∧ t.tio.tap.clkPresent = true ∧
      t.tio.tap.clkAbsent = false ∧ t.tio.tap.refill = 0 ∧ t.tio.tap.clkLost = s.tio.tap.clkLost := by
  obtain ⟨t, ht, hframe, htap⟩ := tapEvent_ends (c := .ttClkReturn) (s := s) (if_neg (by rw [hd13, haway]; decide))
  refine ⟨t, ht, hframe, ?_⟩
  rw [htap]
  exact ⟨rfl, rfl, rfl, rfl⟩

end

theorem ttLatch_computes {at_ : Nat} {s : State} (hlive : tioLive s = true) (hon : ioOn s 22 = true) :
    ∃ t, exec (.ttLatch at_) s = .next t ∧ keepsBut [.tio, .msi] s t ∧
      (s.tio.tap.computing = none → t.tio.tap.valid = false ∧
        t.tio.tap.computing = some (tapWords s (((at_ : Int) - par s 0x63 22) % (timeSpan : Int)).toNat)) ∧
      (s.tio.tap.computing ≠ none → t.tio.tap = { s.tio.tap with ignored := true }) := by
  have hexec : exec (.ttLatch at_) s = if s.tio.tap.computing.isSome then
        done (tapMod (fun x => { x with ignored := true }) s)
      else done (tapMod (fun x => { x with
        valid := false, computing := some (tapWords s (((at_ : Int) - par s 0x63 22) % (timeSpan : Int)).toNat) }) s) :=
    if_neg (by rw [hlive, hon]; decide)
  cases hbusy : s.tio.tap.computing with
  | none =>
    rw [hbusy] at hexec
    obtain ⟨t, ht, hframe, htap⟩ := tapMod_ends hexec
    refine ⟨t, ht, hframe, fun _ => ?_, fun h => absurd rfl h⟩
    rw [htap]
    exact ⟨rfl, rfl⟩
  | some w =>
    rw [hbusy] at hexec
    obtain ⟨t, ht, hframe, htap⟩ := tapMod_ends hexec
    exact ⟨t, ht, hframe, nofun, fun _ => htap⟩

theorem ttLatchResult_ready {w : List Word} {s : State} (hw : s.tio.tap.computing = some w) :
    ∃ t, exec .ttLatchResult s = .next t ∧ keepsBut [.tio, .msi] s t ∧
      t.tio.tap.latch = vec4 w ∧ t.tio.tap.valid = true ∧ t.tio.tap.overrun = s.tio.tap.ignored ∧ t.tio.tap.computing = none ∧
      t.tio.tap.seq = (s.tio.tap.seq + 1) % 65536 := by
  have hexec : exec .ttLatchResult s = done (tapMod (fun x => { x with
      latch := vec4 w, computing := none, seq := (x.seq + 1) % 65536, valid := true, overrun := x.ignored, ignored := false }) s) := by
    show execTtLatchResult s = _
    rw [execTtLatchResult, hw]
  obtain ⟨t, ht, hframe, htap⟩ := tapMod_ends hexec
  refine ⟨t, ht, hframe, ?_⟩
  rw [htap]
  exact ⟨rfl, rfl, rfl, rfl, rfl⟩

/-- Settles O23: the pulses, the placement, the aligned clock outputs, and the commands of the Time Tap. -/
theorem timeOutputs : Obligations.TimeOutputs := by
  unfold Obligations.TimeOutputs
  refine ⟨⟨fun j e s hnext => ?_, fun j k s hon hlive hgate hnow => ?_, fun sel width p invert s => placePulse_places s sel p width invert,
    fun c s hmay halign hstopped => ?_⟩, fun s hd13 => ?_⟩
  · exact ⟨triggerPulse_emits hnext, triggerPulse_missed hnext⟩
  · exact ppsOutPulse_pulses hon hlive hgate hnow
  · exact clkoutAlignStart_starts hmay halign hstopped
  · exact ⟨fun a cycle back hon hclk => timeTapWord0Read_drives hd13 a cycle back hon hclk, fun _ => ttLatch_computes,
      fun _ => ttLatchResult_ready, ttClkLost_flags hd13, ttClkReturn_refills hd13⟩

end Sys2Proof.Machine

/-! What a loss of lock leads to (R206, R243, R307, R379): the resets, the lanes and the engine that follow it leave the record of
the loss as it is. -/

namespace Sys2Proof.Machine

-- The joined text is one compile: no thread beside the main one for each proof.
set_option Elab.async false

/-! ### The synthesisers -/

theorem synOf_of_ck {s t : State} (h : t.ck = s.ck) (n : Nat) : synOf t n = synOf s n := by rw [synOf, synOf, h]

@[simp] theorem synOf_settle (s : State) (n : Nat) : synOf (settle s) n = synOf s n := synOf_of_ck (settle_ck s) n

@[simp] theorem synOf_clkouts (s : State) (n : Nat) : synOf (clkouts s) n = synOf s n :=
  synOf_of_ck (keepsBut_clkouts s .ck (by simp)) n

theorem synOf_synMod_same {n : Nat} (hn : n < 30) (f : Synth → Synth) (s : State) : synOf (synMod n f s) n = f (synOf s n) :=
  vmodN_same s.ck.syn n f {} hn

theorem synOf_synMod_kept {β : Type} (P : Synth → β) {f : Synth → Synth} (h : ∀ x, P (f x) = P x) (n k : Nat) (s : State) :
    P (synOf (synMod n f s) k) = P (synOf s k) := vget_vmodN_kept s.ck.syn n k {} P h

theorem beginTune_lockLost (n target k : Nat) (s : State) : (synOf (beginTune n target s) k).lockLost = (synOf s k).lockLost := by
  have hkept : ∀ (f : Synth → Synth) (t : State), (∀ x, (f x).lockLost = x.lockLost) →
      (synOf (synMod n f t) k).lockLost = (synOf t k).lockLost := fun f t h => synOf_synMod_kept Synth.lockLost h n k t
  unfold beginTune
  extract_lets u
  have hu : (synOf u k).lockLost = (synOf s k).lockLost := hkept _ s (by exact fun _ => rfl)
  split
  · exact (hkept _ u (by exact fun _ => rfl)).trans hu
  · exact (hkept _ u (by exact fun _ => rfl)).trans hu

/-- A retune reports no loss of lock, and clears none. -/
theorem retune_lockLost (n k : Nat) (s : State) : (synOf (retune n s) k).lockLost = (synOf s k).lockLost := by
  unfold retune
  dsimp only
  split
  · rw [synOf_clkouts]
    exact synOf_synMod_kept Synth.lockLost (by exact fun _ => rfl) n k s
  · split
    · rw [synOf_clkouts, beginTune_lockLost]
    · exact synOf_synMod_kept Synth.lockLost (by exact fun _ => rfl) n k s

/-! ### The record of a loss -/

/-- The record of a loss of lock stands: LOCK_LOST of each synthesiser and the count of the recovery log, with time, the parameters
and the commands that wait. -/
structure LossStands (s t : State) : Prop where
  clk : t.clk = s.clk
  par : t.par = s.par
  pending : t.pending = s.pending
  logged : vget t.pc.kinds 15 0 = vget s.pc.kinds 15 0
  lockLost : ∀ n, (synOf t n).lockLost = (synOf s n).lockLost

namespace LossStands

theorem refl (s : State) : LossStands s s := ⟨rfl, rfl, rfl, rfl, fun _ => rfl⟩

theorem trans {s t u : State} (h : LossStands s t) (k : LossStands t u) : LossStands s u :=
  ⟨k.clk.trans h.clk, k.par.trans h.par, k.pending.trans h.pending, k.logged.trans h.logged,
    fun n => (k.lockLost n).trans (h.lockLost n)⟩

/-- Work that may count by performance counters, and logs no loss of lock. -/
theorem of_logged {l : List Part} {s t : State} (h : keepsBut l s t) (hlogged : vget t.pc.kinds 15 0 = vget s.pc.kinds 15 0)
    (hl : ∀ p ∈ [Part.clk, .par, .pending, .ck], p ∉ l := by simp) : LossStands s t :=
  ⟨h .clk (hl _ (by simp)), h .par (hl _ (by simp)), h .pending (hl _ (by simp)), hlogged,
    fun n => by rw [synOf_of_ck (h .ck (hl _ (by simp)))]⟩

/-- Work on other parts. -/
theorem of_frame {l : List Part} {s t : State} (h : keepsBut l s t)
    (hl : ∀ p ∈ [Part.clk, .par, .pending, .ck, .pc], p ∉ l := by simp) : LossStands s t :=
  of_logged h (by rw [h .pc (hl _ (by simp))]) fun p hp => hl p (List.mem_append_left [Part.pc] hp)

theorem of_bump (ev n : Nat) (s : State) : LossStands s (bump ev n s) := of_logged (keepsBut_bump ev n s) rfl

theorem of_issueEvent (code source : Nat) (data : List Byte) (s : State) : LossStands s (issueEvent code source data s) :=
  of_logged (keepsBut_issueEvent code source data s) (by rw [issueEvent_kinds])

theorem of_macCount (p k n : Nat) (s : State) : LossStands s (macCount p k n s) := of_frame (keepsBut_macCount p k n s)

theorem of_portMod (p : Nat) (f : Port → Port) (s : State) : LossStands s (portMod p f s) := of_frame (keepsBut_portMod p f s)

theorem of_laneMod (l : Nat) (f : Lane → Lane) (s : State) : LossStands s (laneMod l f s) := of_frame (keepsBut_laneMod l f s)

theorem of_rstMod (f : Resets → Resets) (s : State) : LossStands s (rstMod f s) := of_frame (keepsBut_rstMod f s)

theorem of_foldl {α : Type} {f : State → α → State} (h : ∀ t x, LossStands t (f t x)) (xs : List α) (s : State) :
    LossStands s (xs.foldl f s) :=
  List.foldlRecOn xs f (motive := LossStands s) (refl s) fun t ht x _ => ht.trans (h t x)

end LossStands

theorem lossStands_retune (n : Nat) (s : State) : LossStands s (retune n s) := by
  have hframe := keepsBut_retune n s
  exact ⟨hframe .clk (by simp), hframe .par (by simp), hframe .pending (by simp), by rw [retune_kinds], fun k => retune_lockLost n k s⟩

/-! ### Frames flushed (R254, R307) -/

theorem lossStands_txWriteback (x : TxPend) (res : Nat) (ts : Option (BitVec 64)) (s : State) :
    LossStands s (txWriteback x res ts s) := by
  unfold txWriteback
  extract_lets eop stamp s₁ s₂ s₃ s₄
  have h₁ : LossStands s s₁ := .of_foldl (fun t a => .of_frame (keepsBut_hostWrite (a + 15) [0x80] t)) _ s
  have h₂ : LossStands s₁ s₂ := by
    simp only [s₂]
    clear_value stamp
    split
    · exact .of_frame (keepsBut_hostWrite _ _ s₁)
    · exact .refl s₁
  have h₃ : LossStands s₂ s₃ := .of_frame (keepsBut_hostWrite _ _ s₂)
  have h₄ : LossStands s s₄ := h₁.trans (h₂.trans (h₃.trans (.of_frame (keepsBut_ringMod _ _ _ s₃))))
  split
  · exact h₄.trans (.of_bump 35 1 s₄)
  · exact h₄

theorem lossStands_txDrain (r n : Nat) (s : State) : LossStands s (txDrain r n s) := by
  induction n generalizing s with
  | zero => exact .refl s
  | succ n ih =>
    unfold txDrain
    split
    · split
      · exact ((LossStands.of_frame (keepsBut_withTxPend _ s)).trans (lossStands_txWriteback _ _ _ _)).trans (ih _)
      · exact .refl s
    · exact .refl s

theorem lossStands_hostDropped (d : FrameDesc) (s : State) : LossStands s (hostDropped d s) := by
  unfold hostDropped hostTxDone
  split
  · split
    · exact (LossStands.of_frame (keepsBut_withTxPend _ s)).trans (lossStands_txDrain _ _ _)
    · exact .refl s
  · exact .refl s

theorem lossStands_dropQueued (d : FrameDesc) (s : State) : LossStands s (dropQueued d s) := by
  refine LossStands.trans ?_ (lossStands_hostDropped d _)
  unfold countCells
  split
  · exact .refl s
  · exact (LossStands.of_portMod d.port _ s).trans (.of_frame (keepsBut_pauseJudge _ _ _))

theorem lossStands_flushEgress (p stat : Nat) (keep : EgFrame → Bool) (s : State) : LossStands s (flushEgress p stat keep s) :=
  (LossStands.of_frame (keepsBut_outMod (p / 8) _ s)).trans
    (.of_foldl (fun t (e : EgFrame) => (lossStands_hostDropped e.desc t).trans (.of_macCount p stat 1 _)) _ _)

theorem lossStands_dropCal (p : Nat) (s : State) : LossStands s (dropCal p s) := by
  refine LossStands.trans (.of_foldl (fun t g => ?_) _ s) (lossStands_flushEgress p 30 _ _)
  exact (LossStands.of_frame (keepsBut_inMod g _ t)).trans
    (.of_foldl (fun u d => (LossStands.of_frame (keepsBut_copyDropped d u)).trans (.of_macCount p 30 1 _)) _ _)

theorem lossStands_flushVoq (g p c stat : Nat) (s : State) : LossStands s (flushVoq g p c stat s) :=
  (LossStands.of_frame (keepsBut_setVoq g p c [] s)).trans
    (.of_foldl (fun t d => (lossStands_dropQueued d t).trans (.of_macCount p stat 1 _)) _ _)

theorem lossStands_flushPort (p : Nat) (s : State) : LossStands s (flushPort p s) := by
  refine LossStands.trans (.of_foldl (fun t g => ?_) _ s) ((lossStands_dropCal p _).trans (lossStands_flushEgress p 29 _ _))
  exact .of_foldl (fun u c => lossStands_flushVoq g p c 29 u) _ t

theorem lossStands_cutTransmission (p : Nat) (s : State) : LossStands s (cutTransmission p s) :=
  (LossStands.of_portMod p _ s).trans
    (.of_foldl (fun t (f : TxFrame) => (lossStands_hostDropped f.desc t).trans (.of_macCount p 30 1 _)) _ _)

/-! ### A port that falls (R107, R243, R254) -/

/-- A link's delay state dropped, and with it the group servo that follows the port. -/
theorem lossStands_delayEnds (p : Nat) (s : State) : LossStands s (servoPortDown p (delayNone p s)) := by
  refine LossStands.trans (.of_frame (delayNone_frame p s).1) ?_
  unfold servoPortDown
  split
  · exact .of_frame (servoWork_servoIdle _ _).frame
  · exact .refl _

theorem lossStands_linkEnds (p : Nat) (keepDelay lanesRun : Bool) (s : State) : LossStands s (linkEnds p keepDelay lanesRun s) := by
  unfold linkEnds
  extract_lets s₁ s₂ s₃ s₄
  have h₂ : LossStands s s₂ := (lossStands_cutTransmission p s).trans (.of_portMod p _ s₁)
  have h₃ : LossStands s₂ s₃ := by
    simp only [s₃]
    split
    · exact .refl s₂
    · refine LossStands.trans (.of_portMod p _ s₂) (.of_foldl (fun t l => ?_) _ _)
      exact (LossStands.of_laneMod l _ t).trans (.of_laneMod l _ _)
  have h₄ : LossStands s s₄ := (h₂.trans h₃).trans (.of_frame (keepsBut_fabMod (fun _ => _) s₃))
  split
  · exact h₄
  · exact h₄.trans (lossStands_delayEnds p s₄)

theorem lossStands_portDown (p : Nat) (st : PortSt) (cause : Nat) (keepDelay : Bool) (s : State) :
    LossStands s (portDown p st cause keepDelay s) := by
  unfold portDown
  extract_lets was s₁ s₂ s₃
  have h₁ : LossStands s s₁ := by
    simp only [s₁]
    split
    · exact lossStands_linkEnds p keepDelay keepDelay s
    · split
      · exact .refl s
      · exact lossStands_delayEnds p s
  have h₃ : LossStands s s₃ := (h₁.trans (lossStands_flushPort p s₁)).trans (.of_portMod p _ s₂)
  split
  · exact h₃
  · exact h₃.trans (.of_issueEvent _ _ _ s₃)

theorem lossStands_portHold (p cause : Nat) (keepDelay : Bool) (s : State) : LossStands s (portHold p cause keepDelay s) := by
  unfold portHold
  split
  · split
    · exact .refl s
    · exact lossStands_delayEnds p s
  · split
    · exact (lossStands_portDown p .down cause keepDelay s).trans (.of_portMod p _ _)
    · have h := (lossStands_linkEnds p keepDelay false s).trans (lossStands_dropCal p _)
      exact (h.trans (.of_portMod p _ _)).trans (.of_issueEvent _ _ _ _)

/-! ### A lane that loses its clock (R51, R206) -/

theorem lossStands_laneLeaves (l : Nat) (st : LaneSt) (cause : Nat) (keepDelay : Bool) (s : State) :
    LossStands s (laneLeaves l st cause keepDelay s) := by
  unfold laneLeaves
  extract_lets was p s₁ s₂ s₃
  have h₁ : LossStands s s₁ := by
    simp only [s₁]
    split
    · exact (LossStands.of_frame (keepsBut_laneUnready l s)).trans (.of_portMod p _ _)
    · exact .refl s
  have h₃ : LossStands s₂ s₃ := by
    simp only [s₃]
    split
    · exact .of_laneMod l _ s₂
    · exact .refl s₂
  have h : LossStands s s₃ := (h₁.trans (.of_laneMod l _ s₁)).trans h₃
  split
  · exact h.trans (lossStands_portHold p cause keepDelay s₃)
  · exact h

theorem lossStands_laneAcquire (l : Nat) (s : State) : LossStands s (laneAcquire l s) :=
  .of_logged (keepsBut_laneAcquire l s) (by rw [laneAcquire_kinds])

/-- A lane that runs acquires again. -/
def laneReacquires (l : Nat) (s : State) : State :=
  match (laneOf s l).st with
  | .off | .sleep => s
  | _ => laneAcquire l (laneLeaves l .acquire 1 false s)

theorem lossStands_laneReacquires (l : Nat) (s : State) : LossStands s (laneReacquires l s) := by
  unfold laneReacquires
  split
  · exact .refl s
  · exact .refl s
  · exact (lossStands_laneLeaves l .acquire 1 false s).trans (lossStands_laneAcquire l _)

/-! ### DATA reset and MGMT restart (R20, R19, R379) -/

theorem lossStands_flushFrame (d : FrameDesc) (s : State) : LossStands s (flushFrame d s) :=
  LossStands.trans (.of_foldl (fun t (o : OutCopy) => .of_macCount o.port _ 1 t) d.outs s) (lossStands_dropQueued d _)

theorem lossStands_flushInput (g : Nat) (s : State) : LossStands s (flushInput g s) :=
  (LossStands.of_frame (keepsBut_inMod g _ s)).trans (.of_foldl (fun t d => lossStands_flushFrame d t) _ _)

theorem lossStands_flushOutput (g : Nat) (s : State) : LossStands s (flushOutput g s) := by
  refine (LossStands.of_frame (keepsBut_outMod g _ s)).trans (.of_foldl (fun t e => ?_) _ _)
  exact LossStands.trans (.of_foldl (fun u p => .of_macCount p _ 1 u) e.ports t) (lossStands_hostDropped e.desc _)

theorem lossStands_rxClose (r cause : Nat) (s : State) : LossStands s (rxClose r cause s) := by
  unfold rxClose
  split
  · rename_i f _ k _ _
    have hwrite : LossStands s (rxWriteback r f k true 1 cause s) :=
      (LossStands.of_frame (keepsBut_hostWrite _ _ s)).trans (.of_frame (keepsBut_ringMod true r _ _))
    have hpop : ∀ t, LossStands t (rxPop r t) := fun t =>
      ((LossStands.of_frame (keepsBut_withStore _ t)).trans (.of_frame (keepsBut_ringMod true r _ _))).trans (.of_bump 34 1 _)
    exact (hwrite.trans (hpop _)).trans (.of_frame (keepsBut_ringMod true r _ _))
  · exact .refl s

theorem lossStands_dataCore (s : State) : LossStands s (dataCore s) := by
  have hflush : LossStands s (flushGroups s) :=
    .of_foldl (fun t g => (lossStands_flushInput g t).trans (lossStands_flushOutput g _)) _ s
  have hcore : LossStands (flushGroups s) (coreFlushed s) :=
    (LossStands.of_frame (keepsBut_withQ _ _)).trans (.of_frame (keepsBut_calMod _ _))
  rw [dataCore_eq]
  exact ((hflush.trans hcore).trans (.of_frame (keepsBut_refill _))).trans (.of_foldl (fun t r => lossStands_rxClose r 2 t) _ _)

theorem lossStands_dataBank (d : Nat) (s : State) : LossStands s (dataBank d s) := by
  refine .of_foldl (fun t k => ?_) _ s
  dsimp only
  split
  · refine LossStands.trans ?_ (.of_portMod _ _ _)
    unfold resetPort
    split
    · exact .refl t
    · exact lossStands_portDown _ .down 6 true t
  · exact .refl t

theorem lossStands_dataDomain (d : Nat) (s : State) : LossStands s (dataDomain d s) := by
  unfold dataDomain dataPart
  split
  · split
    · exact lossStands_dataCore s
    · exact lossStands_dataBank d s
  · exact .of_rstMod _ s

/-- A reset is logged as one, under a kind of its own. -/
theorem lossStands_noteReset (scope src : Nat) (s : State) : LossStands s (noteReset scope src s) :=
  .of_logged (keepsBut_noteReset scope src s) (vmodN_other s.pc.kinds 14 15 _ 0 (by decide))

theorem lossStands_takeWaiting (n : Nat) (s : State) : LossStands s (takeWaiting n s) := by
  unfold takeWaiting
  split
  · refine LossStands.trans ?_ (lossStands_retune n _)
    exact ⟨rfl, rfl, rfl, rfl, fun k => synOf_synMod_kept Synth.lockLost (by exact fun _ => rfl) n k s⟩
  · exact .refl s

/-- A DATA reset, also one that falls within a wider or an equal one. -/
theorem lossStands_dataReset (src : Nat) (s : State) : LossStands s (dataReset src s) := by
  by_cases hin : (inChip s || s.rst.data.isSome) = true
  · rw [dataReset, if_pos hin]
    exact .of_rstMod _ s
  · simp only [Bool.or_eq_true, not_or, Bool.not_eq_true, Option.isSome_eq_false_iff, Option.isNone_iff_eq_none] at hin
    obtain ⟨hchip, hdata⟩ := hin
    rw [dataReset_eq hchip hdata]
    have hnoted : LossStands s (dataAsserted src s) := (lossStands_noteReset 2 src s).trans (.of_rstMod _ _)
    have hbanks : LossStands s (forEach laneBanks dataDomain (dataAsserted src s)) :=
      hnoted.trans (.of_foldl (fun t d => lossStands_dataDomain d t) _ _)
    exact (hbanks.trans (lossStands_dataDomain 10 _)).trans (lossStands_takeWaiting 0 _)

/-- A MGMT restart, also one that falls within a reset, or waits for D3. -/
theorem lossStands_mgmtRestart (src : Nat) (s : State) : LossStands s (mgmtRestart src s) := by
  unfold mgmtRestart
  extract_lets u
  split
  · exact .of_rstMod _ s
  · have hu : LossStands s u := lossStands_noteReset 3 src s
    split
    · rw [mgmtCore_eq]
      exact hu.trans (LossStands.trans (.of_frame (keepsBut_coreHeld src u)) (lossStands_takeWaiting 1 _))
    · exact hu.trans (.of_rstMod _ u)

/-! ### An engine that loses its DCO or its distribution (R155) -/

theorem lossStands_engineFault (e : Nat) (s : State) : LossStands s (engineFault e s) := by
  unfold engineFault
  extract_lets u
  split
  · exact .refl s
  · have hu : LossStands s u := by
      simp only [u]
      split
      · exact .of_logged (keepsBut_setHealth e 2 s) (by rw [setHealth_kinds])
      · exact .refl s
    exact hu.trans (.of_frame (keepsBut_engxMod e _ u))

end Sys2Proof.Machine

/-! Clock synthesis (R198 to R206, R361): OSC_IN that stops and returns, synthesisers that lose lock, and the hops and searches by
which they find it again. -/

namespace Sys2Proof.Machine

-- The joined text is one compile: no thread beside the main one for each proof.
set_option Elab.async false

/-! ### OSC_IN (R206, R361) -/

theorem keepsBut_withCk (x : Synthesis) (s : State) : keepsBut [.ck] s { s with ck := x } := by
  intro p hp
  cases p <;> first | rfl | exact ⟨rfl, rfl, rfl⟩ | simp at hp

theorem keepsBut_lockLost (n : Nat) (s : State) : keepsBut [.ck, .pc] s (lockLost n s) := by
  have hcounted := keepsBut_trans (keepsBut_bump 31 1 (synMod n (fun x => { x with lock := false, lockLost := true }) s))
    (keepsBut_recover 15 n 0 _)
  exact keepsBut_then (keepsBut_synMod n _ s) hcounted (by simp) (by simp)

theorem synOf_lockLost_same {n : Nat} (hn : n < 30) (s : State) :
    synOf (lockLost n s) n = { synOf s n with lock := false, lockLost := true } := synOf_synMod_same hn _ s

/-- What stands of OSC_IN: whether it is there, whether it was lost, and whether the Kettle runs from the internal oscillator. -/
def oscStands (s : State) : Bool × Bool × Bool := (s.ck.present, s.ck.oscLost, s.ck.kettleInt)

theorem oscStands_of_ck {s t : State} (h : t.ck = s.ck) : oscStands t = oscStands s := by rw [oscStands, oscStands, h]

theorem oscStands_clkouts (s : State) : oscStands (clkouts s) = oscStands s := oscStands_of_ck (keepsBut_clkouts s .ck (by simp))

theorem oscStands_beginTune (n target : Nat) (s : State) : oscStands (beginTune n target s) = oscStands s := by
  unfold beginTune
  dsimp only
  split
  · rfl
  · rfl

theorem oscStands_retune (n : Nat) (s : State) : oscStands (retune n s) = oscStands s := by
  unfold retune
  dsimp only
  split
  · rw [oscStands_clkouts]
    rfl
  · split
    · rw [oscStands_clkouts, oscStands_beginTune]
    · rfl

/-- The Kettle's count begins again with its new clock, if the Kettle counts (R41). -/
def kettleMoved (s : State) : State := if s.clk.kettle then kettleRestart s else s

theorem keepsBut_kettleMoved (s : State) : keepsBut [.clk] s (kettleMoved s) := by
  unfold kettleMoved
  split
  · exact keepsBut_withClk _ s
  · exact keepsBut_refl _ s

theorem kettleMoved_now (s : State) : (kettleMoved s).clk.now = s.clk.now := by
  unfold kettleMoved
  split
  · rfl
  · rfl

/-- A synthesiser that is locked loses lock. -/
def losesLock (s : State) (n : Nat) : State := if (synOf s n).lock then lockLost n s else s

theorem keepsBut_losesLock (s : State) (n : Nat) : keepsBut [.ck, .pc] s (losesLock s n) := by
  unfold losesLock
  split
  · exact keepsBut_lockLost n s
  · exact keepsBut_refl _ s

theorem oscStands_losesLock (s : State) (n : Nat) : oscStands (losesLock s n) = oscStands s := by
  unfold losesLock
  split
  · rfl
  · rfl

/-- A synthesiser is unlocked once it has lost lock, and one that was unlocked stays so. -/
theorem losesLock_unlocked {k n : Nat} (hk : k < 30) {s : State} (h : k = n ∨ (synOf s k).lock = false) :
    (synOf (losesLock s n) k).lock = false := by
  unfold losesLock
  by_cases hn : k = n
  · subst hn
    split
    next => rw [synOf_lockLost_same hk]
    next hlock => exact Bool.eq_false_iff.mpr hlock
  · have hother : (synOf (lockLost n s) k).lock = (synOf s k).lock := congrArg Synth.lock (vmodN_other s.ck.syn n k _ {} hn)
    split
    · exact hother.trans (h.resolve_left hn)
    · exact h.resolve_left hn

theorem foldl_losesLock_unlocked {k : Nat} (hk : k < 30) (ns : List Nat) (s : State) (h : k ∈ ns ∨ (synOf s k).lock = false) :
    (synOf (ns.foldl losesLock s) k).lock = false := by
  induction ns generalizing s with
  | nil => exact h.resolve_left (by simp)
  | cons n ns ih =>
    refine ih _ ?_
    rw [List.mem_cons, or_right_comm] at h
    exact h.elim (fun h => .inr (losesLock_unlocked hk h)) .inl

/-- OSC_IN is gone: LOST is set, and the Kettle runs from the internal oscillator. -/
def oscGone (s : State) : State := kettleMoved { s with ck := { s.ck with present := false, oscLost := true, kettleInt := true } }

theorem exec_oscInAbsent {s : State} (h : s.ck.present = true) :
    exec .oscInAbsent s = .next (settle (clkouts (oscSyns.foldl losesLock (bump 39 1 (oscGone s))))) :=
  if_neg (by rw [h]; decide)

/-- The clause on OSC_IN's absence. -/
theorem oscInAbsent_loses {s : State} (h : s.ck.present = true) : ∃ t, exec .oscInAbsent s = .next t ∧
    keepsBut [.clk, .tio, .ck, .msi, .pc] s t ∧ t.ck.present = false ∧ t.ck.oscLost = true ∧ t.ck.kettleInt = true ∧
    t.clk.now = s.clk.now ∧ ∀ n ∈ oscSyns, (synOf t n).lock = false := by
  have hgone : keepsBut [.clk, .ck] s (oscGone s) :=
    keepsBut_then (keepsBut_withCk _ s) (keepsBut_kettleMoved _) (by simp) (by simp)
  have hosc : oscStands (oscGone s) = (false, true, true) := oscStands_of_ck (keepsBut_kettleMoved _ .ck (by simp))
  have hnow : (oscGone s).clk.now = s.clk.now := kettleMoved_now _
  have hexec := exec_oscInAbsent h
  generalize oscGone s = u at hexec hgone hosc hnow
  have hloss : keepsBut [.ck, .pc] u (oscSyns.foldl losesLock (bump 39 1 u)) :=
    keepsBut_then (keepsBut_bump 39 1 u) (keepsBut_foldl losesLock keepsBut_losesLock oscSyns _) (by simp) (by simp)
  have hstands : oscStands (oscSyns.foldl losesLock (bump 39 1 u)) = (false, true, true) :=
    (foldl_keeps oscStands losesLock oscStands_losesLock oscSyns _).trans hosc
  have hunlocked : ∀ n ∈ oscSyns, (synOf (oscSyns.foldl losesLock (bump 39 1 u)) n).lock = false := fun n hn =>
    foldl_losesLock_unlocked (by revert n; decide) oscSyns _ (.inl hn)
  generalize oscSyns.foldl losesLock (bump 39 1 u) = v at hexec hloss hstands hunlocked
  have hframe := keepsBut_then (n := [.clk, .tio, .ck, .pc]) (keepsBut_then (n := [.clk, .ck, .pc]) hgone hloss (by simp) (by simp))
    (keepsBut_clkouts v) (by simp) (by simp)
  rw [← oscStands_clkouts v] at hstands
  simp only [oscStands, Prod.mk.injEq] at hstands
  obtain ⟨hpresent, hlost, hint⟩ := hstands
  refine ⟨_, hexec, keepsBut_done (keepsBut_mono hframe (by simp)) (by simp), ?_⟩
  rw [settle_ck, settle_clk]
  refine ⟨hpresent, hlost, hint, ?_, fun n hn => ?_⟩
  · rw [keepsBut_clkouts v .clk (by simp), hloss .clk (by simp), hnow]
  · rw [synOf_settle, synOf_clkouts]
    exact hunlocked n hn

/-- A synthesiser without lock whose domain is On tunes again. -/
def relocks (s : State) (n : Nat) : State := if !(synOf s n).lock && domOn s (synDomain n) then retune n s else s

theorem keepsBut_relocks (s : State) (n : Nat) : keepsBut [.tio, .ck, .pc] s (relocks s n) := by
  unfold relocks
  split
  · exact keepsBut_retune n s
  · exact keepsBut_refl _ s

theorem oscStands_relocks (s : State) (n : Nat) : oscStands (relocks s n) = oscStands s := by
  unfold relocks
  split
  · exact oscStands_retune n s
  · rfl

/-- OSC_IN is back: the Kettle runs from it again. -/
def oscBack (s : State) : State := kettleMoved { s with ck := { s.ck with present := true, kettleInt := false } }

theorem exec_oscInReturn {s : State} (h : s.ck.present = false) :
    exec .oscInReturn s = .next (settle (oscSyns.foldl relocks (oscBack s))) :=
  if_neg (by rw [h]; decide)

/-- The clause on OSC_IN's return. -/
theorem oscInReturn_returns {s : State} (h : s.ck.present = false) : ∃ t, exec .oscInReturn s = .next t ∧
    keepsBut [.clk, .tio, .ck, .msi, .pc] s t ∧ t.ck.present = true ∧ t.ck.kettleInt = false ∧ t.clk.now = s.clk.now ∧
    t.ck.oscLost = s.ck.oscLost := by
  have hback : keepsBut [.clk, .ck] s (oscBack s) :=
    keepsBut_then (keepsBut_withCk _ s) (keepsBut_kettleMoved _) (by simp) (by simp)
  have hosc : oscStands (oscBack s) = (true, s.ck.oscLost, false) := oscStands_of_ck (keepsBut_kettleMoved _ .ck (by simp))
  have hnow : (oscBack s).clk.now = s.clk.now := kettleMoved_now _
  have htuned := keepsBut_foldl relocks keepsBut_relocks oscSyns (oscBack s)
  have hstands := (foldl_keeps oscStands relocks oscStands_relocks oscSyns (oscBack s)).trans hosc
  simp only [oscStands, Prod.mk.injEq] at hstands
  obtain ⟨hpresent, hlost, hint⟩ := hstands
  refine ⟨_, exec_oscInReturn h, keepsBut_then_done hback htuned, ?_⟩
  rw [settle_ck, settle_clk, htuned .clk (by simp)]
  exact ⟨hpresent, hint, hnow, hlost⟩

/-! ### Loss of lock (R206) -/

/-- A synthesiser that has lost lock tunes again at once. -/
def lostAndTuning (n : Nat) (s : State) : State := retune n (lockLost n s)

theorem keepsBut_lostAndTuning (n : Nat) (s : State) : keepsBut [.tio, .ck, .pc] s (lostAndTuning n s) :=
  keepsBut_then (keepsBut_lockLost n s) (keepsBut_retune n _) (by simp) (fun _ q => q)

/-- A loss of lock is in the recovery log (R495). -/
theorem lockLost_kinds (n : Nat) (s : State) : vget (lockLost n s).pc.kinds 15 0 = satU 32 (vget s.pc.kinds 15 0 + 1) :=
  vmodN_same s.pc.kinds 15 _ 0 (by decide)

/-- The action of a synthesiser's row of R206, after its own loss of lock: the core PLL, the management PLL, a group's PLL, an engine's
DCO, and the others. -/
def lossAction (n : Nat) (s : State) : State :=
  if n = 0 then dataReset 5 s
  else if n = 1 then mgmtRestart 6 s
  else if n < 26 then forEach ((List.range 8).map (8 * (n - 2) + ·)) laneReacquires s
  else if n < 28 then engineFault (n - 26) s
  else s

theorem lossStands_lossAction (n : Nat) (s : State) : LossStands s (lossAction n s) := by
  unfold lossAction
  split
  · exact lossStands_dataReset 5 s
  · split
    · exact lossStands_mgmtRestart 6 s
    · split
      · exact .of_foldl (fun t l => lossStands_laneReacquires l t) _ s
      · split
        · exact lossStands_engineFault _ s
        · exact .refl s

theorem exec_synthLockLoss {n : Fin 30} {s : State} (hlock : (synOf s n.val).lock = true) :
    exec (.synthLockLoss n) s = .next (settle (lossAction n.val (lostAndTuning n.val s))) := by
  show execSynthLockLoss n s = _
  unfold execSynthLockLoss lossAction
  dsimp only
  rw [if_neg (by rw [hlock]; decide)]
  split_ifs <;> rfl

/-- A DATA reset that takes effect is in progress with its source, and is the last one noted (R386). -/
theorem dataReset_held {s : State} (hchip : inChip s = false) (hdata : s.rst.data = none) (src : Nat) :
    (dataReset src s).rst.data = some src ∧ (dataReset src s).rst.lastScope = 2 := by
  obtain ⟨hrst, -, -⟩ := dataReset_keeps hchip hdata src
  rw [hrst]
  exact ⟨rfl, rfl⟩

/-- The same of a MGMT restart, whose firmware is no longer ready. -/
theorem mgmtRestart_held {s : State} (hchip : inChip s = false) (hmgmt : s.rst.mgmt = none) (hd3 : domOn s 3 = true) (src : Nat) :
    (mgmtRestart src s).rst.mgmt = some src ∧ (mgmtRestart src s).rst.lastScope = 3 ∧ (mgmtRestart src s).mb.fwReady = false := by
  rw [mgmtRestart_eq hchip hmgmt hd3]
  obtain ⟨waiting, log0, log1, hrst⟩ := mgmtCore_rst src (noteReset 3 src s)
  rw [hrst]
  exact ⟨rfl, rfl, mgmtCore_mb src _⟩

theorem inChip_eq_false {s : State} (hpor : s.rst.por = false) (hchip : s.rst.chip = none) : inChip s = false := by
  rw [inChip, hpor, hchip]
  rfl

/-- The clause on a loss of lock. -/
theorem synthLockLoss_acts (n : Fin 30) (s : State) (hlock : (synOf s n.val).lock = true) :
    ∃ t, exec (.synthLockLoss n) s = .next t ∧ (synOf t n.val).lockLost = true ∧ t.clk = s.clk ∧ t.par = s.par ∧ t.pending = s.pending ∧
      vget t.pc.kinds 15 0 = satU 32 (vget s.pc.kinds 15 0 + 1) ∧
      (n.val = 0 → s.rst.por = false → s.rst.chip = none → s.rst.data = none → t.rst.data = some 5 ∧ t.rst.lastScope = 2) ∧
      (n.val = 1 → s.rst.por = false → s.rst.chip = none → s.rst.mgmt = none → domOn s 3 = true →
        t.rst.mgmt = some 6 ∧ t.rst.lastScope = 3 ∧ t.mb.fwReady = false) ∧
      (28 ≤ n.val → keepsBut [.ck, .tio, .msi, .pc] s t) := by
  have htuning := keepsBut_lostAndTuning n.val s
  have hrst : (lostAndTuning n.val s).rst = s.rst := htuning .rst (by simp)
  have hin : s.rst.por = false → s.rst.chip = none → inChip (lostAndTuning n.val s) = false := fun hpor hchip =>
    inChip_eq_false (by rw [hrst, hpor]) (by rw [hrst, hchip])
  have hlost : (synOf (lockLost n.val s) n.val).lockLost = true := by rw [synOf_lockLost_same n.isLt]
  have hstands : LossStands (lockLost n.val s) (lossAction n.val (lostAndTuning n.val s)) :=
    (lossStands_retune n.val _).trans (lossStands_lossAction n.val _)
  refine ⟨_, exec_synthLockLoss hlock, ?_⟩
  rw [synOf_settle, settle_clk, settle_par, settle_pending, settle_pc, settle_rst, settle_mb]
  refine ⟨(hstands.lockLost n.val).trans hlost, hstands.clk, hstands.par, hstands.pending,
    hstands.logged.trans (lockLost_kinds n.val s), fun hn hpor hchip hdata => ?_, fun hn hpor hchip hmgmt hd3 => ?_, fun hn => ?_⟩
  · rw [lossAction, if_pos hn]
    exact dataReset_held (hin hpor hchip) (by rw [hrst, hdata]) 5
  · rw [lossAction, if_neg (by omega), if_pos hn]
    exact mgmtRestart_held (hin hpor hchip) (by rw [hrst, hmgmt]) ((domOn_of_keepsBut htuning (by simp) 3).trans hd3) 6
  · have hnone : lossAction n.val (lostAndTuning n.val s) = lostAndTuning n.val s := by
      rw [lossAction, if_neg (by omega), if_neg (by omega), if_neg (by omega), if_neg (by omega)]
    rw [hnone]
    exact keepsBut_done (keepsBut_mono htuning (by simp)) (by simp)

/-! ### Hops and searches (R204, R205) -/

/-- A synthesiser that has found its band, with nothing more asked of it. -/
def lockedIdle (x : Synth) : Synth := { x with tune := .idle, lock := true }

/-- A result of a search or hop in front of the stored ones, and in use. -/
def bandTaken (bands : List BandResult) (src band : Nat) (x : Synth) : Synth := { x with bands, bandSrc := src, band }

theorem tuned_of_no_second {n : Nat} {s : State} (h : (synOf s n).second = none) :
    tuned n s = clkouts (synMod n lockedIdle s) := by
  unfold tuned
  rw [h]
  rfl

theorem keepsBut_tuned_of_no_second {n : Nat} {s : State} (h : (synOf s n).second = none) :
    keepsBut [.tio, .ck] s (tuned n s) := by
  rw [tuned_of_no_second h]
  exact keepsBut_then (keepsBut_synMod n lockedIdle s) (keepsBut_clkouts _) (by simp) (by simp)

theorem synOf_tuned_of_no_second {n : Nat} (hn : n < 30) {s : State} (h : (synOf s n).second = none) :
    synOf (tuned n s) n = lockedIdle (synOf s n) := by
  rw [tuned_of_no_second h, synOf_clkouts, synOf_synMod_same hn]

/-- A stored band takes the front of the list. -/
def hopTaken (n : Nat) (b : BandResult) (s : State) : State :=
  { synMod n (fun x => bandTaken (b :: x.bands.filter (· != b)) 1 b.band x) s with
    wx := { s.wx with bandLeft := vmodN s.wx.bandLeft n (fun _ => min b.band (255 - b.band)) } }

theorem keepsBut_hopTaken (n : Nat) (b : BandResult) (s : State) : keepsBut [.ck, .wx] s (hopTaken n b s) :=
  keepsBut_then (keepsBut_synMod n _ s) (keepsBut_withWx _ _) (by simp) (by simp)

theorem synOf_hopTaken {n : Nat} (hn : n < 30) (b : BandResult) (s : State) :
    synOf (hopTaken n b s) n = bandTaken (b :: (synOf s n).bands.filter (· != b)) 1 b.band (synOf s n) :=
  synOf_synMod_same hn _ s

theorem exec_bandHopLock {n : Fin 30} {target : Nat} {b : BandResult} {s : State} (htune : (synOf s n.val).tune = .hop target)
    (hb : storedBand s n.val target = some b) : exec (.bandHopLock n) s = .next (settle (tuned n.val (hopTaken n.val b s))) := by
  show execBandHopLock n s = _
  unfold execBandHopLock
  dsimp only
  rw [htune]
  dsimp only
  rw [hb]
  rfl

/-- The clause on a hop that locks. -/
theorem bandHopLock_locks {n : Fin 30} {target : Nat} {b : BandResult} {s : State} (htune : (synOf s n.val).tune = .hop target)
    (hb : storedBand s n.val target = some b) (hsecond : (synOf s n.val).second = none) :
    ∃ t, exec (.bandHopLock n) s = .next t ∧ keepsBut [.tio, .ck, .wx, .msi] s t ∧ (synOf t n.val).lock = true ∧
      (synOf t n.val).tune = .idle ∧ (synOf t n.val).bands.head? = some b ∧ (synOf t n.val).bandSrc = 1 ∧
      (synOf t n.val).band = b.band := by
  have hsyn := synOf_hopTaken n.isLt b s
  have hnone : (synOf (hopTaken n.val b s) n.val).second = none := by rw [hsyn]; exact hsecond
  refine ⟨_, exec_bandHopLock htune hb, ?_, ?_⟩
  · exact keepsBut_then_done (keepsBut_hopTaken n.val b s) (keepsBut_tuned_of_no_second hnone)
  · rw [synOf_settle, synOf_tuned_of_no_second n.isLt hnone, hsyn]
    exact ⟨rfl, rfl, rfl, rfl, rfl⟩

theorem exec_hopMiss {n : Fin 30} {target : Nat} {s : State} (htune : (synOf s n.val).tune = .hop target) :
    exec (.hopMiss n) s = .next (settle (startSearch n.val target s)) := by
  show execHopMiss n s = _
  unfold execHopMiss
  rw [htune]
  rfl

/-- The clause on a hop that does not lock in time. -/
theorem hopMiss_searches {n : Fin 30} {target : Nat} {s : State} (htune : (synOf s n.val).tune = .hop target) :
    ∃ t, exec (.hopMiss n) s = .next t ∧ keepsBut [.ck, .msi, .pc] s t ∧ (synOf t n.val).tune = .search target ∧
      (synOf t n.val).searches = satU 8 ((synOf s n.val).searches + 1) := by
  have hsyn : synOf (startSearch n.val target s) n.val = _ := synOf_synMod_same n.isLt _ s
  refine ⟨_, exec_hopMiss htune, keepsBut_done (keepsBut_mono (keepsBut_startSearch n.val target s) (by simp)) (by simp), ?_⟩
  rw [synOf_settle, hsyn]
  exact ⟨rfl, rfl⟩

/-- The stored results after a search: the new one in place of the one whose hop missed, or of the least recently used. -/
def searchedBands (missed : Option BandResult) (b : BandResult) (bands : List BandResult) : List BandResult :=
  (b :: (match missed with
    | some m => bands.erase m
    | none => bands)).take 8

/-- A search's result is stored, with the temperature it was found at. -/
def searchTaken (n : Nat) (b : BandResult) (s : State) : State :=
  let t := synMod n (fun x => bandTaken (searchedBands (storedBand s n b.target) b x.bands) 2 b.band x) s
  { t with
    pins := { t.pins with temps := vmodN t.pins.temps (synDomain n) (fun _ => b.temp) }
    wx := { t.wx with bandLeft := vmodN t.wx.bandLeft n (fun _ => min b.band (255 - b.band)) } }

theorem keepsBut_withWx_withPins (x : Weather) (y : Pins) (s : State) : keepsBut [.wx, .pins] s { s with wx := x, pins := y } :=
  keepsBut_then (keepsBut_withWx x s) (keepsBut_withPins y _) (by simp) (by simp)

theorem keepsBut_searchTaken (n : Nat) (b : BandResult) (s : State) : keepsBut [.ck, .wx, .pins] s (searchTaken n b s) :=
  keepsBut_then (keepsBut_synMod n _ s) (keepsBut_withWx_withPins _ _ _) (by simp) (by simp)

theorem synOf_searchTaken {n : Nat} (hn : n < 30) (b : BandResult) (s : State) : synOf (searchTaken n b s) n =
    bandTaken (searchedBands (storedBand s n b.target) b (synOf s n).bands) 2 b.band (synOf s n) := synOf_synMod_same hn _ s

theorem exec_fullSearchLock {n : Fin 30} {target : Nat} {s : State} (htune : (synOf s n.val).tune = .search target) (band : Nat)
    (temp : Int) : exec (.fullSearchLock n band temp) s =
      .next (settle (tuned n.val (searchTaken n.val { target := target, band := band % 256, temp := temp } s))) := by
  show execFullSearchLock n band temp s = _
  unfold execFullSearchLock
  dsimp only
  rw [htune]
  rfl

/-- The clause on a search that locks. -/
theorem fullSearchLock_stores {n : Fin 30} {target : Nat} {s : State} (htune : (synOf s n.val).tune = .search target)
    (hsecond : (synOf s n.val).second = none) (band : Nat) (temp : Int) :
    ∃ t, exec (.fullSearchLock n band temp) s = .next t ∧ keepsBut [.tio, .ck, .wx, .pins, .msi] s t ∧
      (synOf t n.val).lock = true ∧ (synOf t n.val).tune = .idle ∧ (synOf t n.val).bandSrc = 2 ∧
      (synOf t n.val).bands.head? = some { target := target, band := band % 256, temp := temp } ∧
      (synOf t n.val).bands.length ≤ 8 := by
  have hexec := exec_fullSearchLock htune band temp
  generalize ({ target := target, band := band % 256, temp := temp } : BandResult) = b at hexec ⊢
  have hsyn := synOf_searchTaken n.isLt b s
  have hnone : (synOf (searchTaken n.val b s) n.val).second = none := by rw [hsyn]; exact hsecond
  refine ⟨_, hexec, ?_, ?_⟩
  · exact keepsBut_then_done (keepsBut_searchTaken n.val b s) (keepsBut_tuned_of_no_second hnone)
  · rw [synOf_settle, synOf_tuned_of_no_second n.isLt hnone, hsyn]
    exact ⟨rfl, rfl, rfl, rfl, List.length_take_le 8 _⟩

/-- Settles O24: OSC_IN that stops and returns, a loss of lock with the action of its row, and the ends of a hop and of a search. -/
theorem clockSynthesis : Obligations.ClockSynthesis := by
  unfold Obligations.ClockSynthesis
  refine ⟨⟨fun _ => oscInAbsent_loses, fun _ => oscInReturn_returns⟩, synthLockLoss_acts, fun n target s => ⟨fun htune => ?_,
    fun htune hsecond band temp => fullSearchLock_stores htune hsecond band temp⟩⟩
  exact ⟨fun b hb hsecond => bandHopLock_locks htune hb hsecond, hopMiss_searches htune⟩

end Sys2Proof.Machine

/-! Calibration (R215, R216, R219 to R230): the trims, the code-density runs of the converters, the replica measurements and the
latency update they lead to. -/

namespace Sys2Proof.Machine

-- The joined text is one compile: no thread beside the main one for each proof.
set_option Elab.async false

theorem keepsBut_withCal (x : Calib) (s : State) : keepsBut [.cal] s { s with cal := x } := by
  intro p hp
  cases p <;> first | rfl | exact ⟨rfl, rfl, rfl⟩ | simp at hp

/-! ### Trims (R215, R216) -/

/-- A table has nothing at a key that none of its entries bears. -/
theorem Tbl.get_eq_none_iff {α : Type} (t : Tbl α) (k : Nat) : Tbl.get t k = none ↔ ∀ e ∈ t, e.1 ≠ k := by
  simp [Tbl.get]

section
variable {c : Calib} {tap : Nat} (s : State) (hfree : Tbl.get c.trimHeld tap = none)
include hfree

/-- No result comes to wait at a tap where none waited. -/
theorem trimHeld_trimSettle : Tbl.get (trimSettle s c).trimHeld tap = none := by
  rw [Tbl.get_eq_none_iff] at hfree ⊢
  exact fun e he => hfree e (List.mem_of_mem_filter he)

/-- Results that come into force move no tap but those they waited at. -/
theorem trims_trimSettle : Tbl.get (trimSettle s c).trims tap = Tbl.get c.trims tap := by
  rw [Tbl.get_eq_none_iff] at hfree
  refine List.foldlRecOn c.trimHeld _ (motive := fun t => Tbl.get t tap = Tbl.get c.trims tap) rfl fun t ht e he => ?_
  split
  · rw [Tbl.get_set, if_neg (hfree e he).symm, ht]
  · exact ht

end

theorem trimCode_of_not_held {s : State} {tap : Nat} (h : Tbl.get s.cal.trimHeld tap = none) :
    trimCode s tap = (Tbl.get s.cal.trims tap).getD (Config.trimNominal tap) := by
  rw [trimCode, h]

@[simp] theorem trimCode_settle (s : State) (tap : Nat) : trimCode (settle s) tap = trimCode s tap := by
  rw [trimCode, trimCode, settle_cal, settle_clk]

/-- One result taken, with the results before it that have waited for their moment. -/
def trimTaken (tap : Nat) (v : Int) (s : State) : State := { s with cal := trimInto s true (trimSettle s s.cal) (tap, v) }

theorem exec_trimPeriodic {tap : Nat} (hrow : tap / 65536 = 1 ∨ tap / 65536 = 5) (v : Int) (s : State) :
    exec (.trimPeriodic [(tap, v)]) s = .next (settle (trimTaken tap v s)) := by
  show execTrimPeriodic [(tap, v)] s = _
  have htaken : [(tap, v)].filter (fun e => [rowTermination, rowDelayLine].contains (e.1 / 65536)) = [(tap, v)] :=
    List.filter_eq_self.mpr (by simpa [rowTermination, rowDelayLine] using hrow)
  rw [execTrimPeriodic, applyTrims, htaken]
  rfl

section
variable {tap : Nat} {v : Int} {s : State}

/-- A result inside the fused window clears the tap's flag and its retry. -/
theorem trimTaken_inside_clears (hin : Config.trimLow tap ≤ v ∧ v ≤ Config.trimHigh tap) :
    Tbl.get (trimTaken tap v s).cal.flags tap = none ∧ Tbl.get (trimTaken tap v s).cal.trimRetry tap = none := by
  simp [trimTaken, trimInto, hin, Tbl.get_erase]

/-- A result inside the window is in force where its moment has come. -/
theorem trimCode_trimTaken_inside (hin : Config.trimLow tap ≤ v ∧ v ≤ Config.trimHigh tap)
    (hnow : trimMoment s tap ≤ s.clk.elapsed) : trimCode (trimTaken tap v s) tap = v := by
  have hheld : Tbl.get (trimTaken tap v s).cal.trimHeld tap = none := by
    simp [trimTaken, trimInto, hin, Nat.not_lt.mpr hnow, Tbl.get_erase]
  have hcode : Tbl.get (trimTaken tap v s).cal.trims tap = some v := by
    simp [trimTaken, trimInto, hin, Nat.not_lt.mpr hnow, Tbl.get_set]
  rw [trimCode_of_not_held hheld, hcode, Option.getD_some]

variable (hout : v < Config.trimLow tap ∨ Config.trimHigh tap < v)
include hout

/-- A result outside the window sets the tap's flag, and leaves every code as it is. -/
theorem trimTaken_outside : Tbl.get (trimTaken tap v s).cal.flags tap = some () ∧
    (trimTaken tap v s).cal.trims = (trimSettle s s.cal).trims ∧ (trimTaken tap v s).cal.trimHeld = (trimSettle s s.cal).trimHeld := by
  have hwin : ¬ (Config.trimLow tap ≤ v ∧ v ≤ Config.trimHigh tap) := by omega
  simp [trimTaken, trimInto, hwin, Tbl.get_set]

theorem trimCode_trimTaken_outside (hfree : Tbl.get s.cal.trimHeld tap = none) :
    trimCode (trimTaken tap v s) tap = trimCode s tap := by
  obtain ⟨-, htrims, hheld⟩ := trimTaken_outside (s := s) hout
  rw [trimCode_of_not_held (by rw [hheld, trimHeld_trimSettle s hfree]), trimCode_of_not_held hfree, htrims,
    trims_trimSettle s hfree]

/-- The first rejection of a tap is tried again after 10 s. -/
theorem trimRetry_trimTaken_outside (hfirst : Tbl.get s.cal.trimRetry tap = none) :
    Tbl.get (trimTaken tap v s).cal.trimRetry tap = some (10, s.clk.elapsed + 10 * uSec) := by
  have hwin : ¬ (Config.trimLow tap ≤ v ∧ v ≤ Config.trimHigh tap) := by omega
  have hfirst' : Tbl.get (trimSettle s s.cal).trimRetry tap = none := hfirst
  simp [trimTaken, trimInto, hwin, hfirst', Tbl.get_set]

end

/-- The clause on a periodic trim. -/
theorem trimPeriodic_takes (tap : Nat) (v : Int) (s : State) (hrow : tap / 65536 = 1 ∨ tap / 65536 = 5) :
    ∃ t, exec (.trimPeriodic [(tap, v)]) s = .next t ∧ keepsBut [.cal, .msi] s t ∧ t.cal.conv = s.cal.conv ∧
      (Config.trimLow tap ≤ v ∧ v ≤ Config.trimHigh tap → Tbl.get t.cal.flags tap = none ∧ Tbl.get t.cal.trimRetry tap = none ∧
        (trimMoment s tap ≤ s.clk.elapsed → trimCode t tap = v)) ∧
      (v < Config.trimLow tap ∨ Config.trimHigh tap < v → Tbl.get t.cal.flags tap = some () ∧
        (Tbl.get s.cal.trimHeld tap = none → trimCode t tap = trimCode s tap) ∧
        (Tbl.get s.cal.trimRetry tap = none → Tbl.get t.cal.trimRetry tap = some (10, s.clk.elapsed + 10 * uSec))) := by
  refine ⟨_, exec_trimPeriodic hrow v s, keepsBut_done (keepsBut_mono (keepsBut_withCal _ s) (by simp)) (by simp), rfl, ?_, ?_⟩
  · intro hin
    obtain ⟨hflag, hretry⟩ := trimTaken_inside_clears (s := s) hin
    rw [settle_cal, trimCode_settle]
    exact ⟨hflag, hretry, trimCode_trimTaken_inside hin⟩
  · intro hout
    rw [settle_cal, trimCode_settle]
    exact ⟨(trimTaken_outside hout).1, trimCode_trimTaken_outside hout, trimRetry_trimTaken_outside hout⟩

/-! ### Converters (R219 to R228) -/

theorem convOf_of_conv {s t : State} (h : t.cal.conv = s.cal.conv) (c : Nat) : convOf t c = convOf s c := by
  rw [convOf, convOf, h]

theorem convOf_of_keepsBut {m : List Part} {s t : State} (h : keepsBut m s t) (hm : Part.cal ∉ m) (c : Nat) :
    convOf t c = convOf s c := congrArg (fun x : Calib => vget x.conv c {}) (h .cal hm)

@[simp] theorem convOf_settle (s : State) (c : Nat) : convOf (settle s) c = convOf s c :=
  convOf_of_conv (congrArg Calib.conv (settle_cal s)) c

theorem convOf_convMod_same {c : Nat} (hc : c < 217) (f : Conv → Conv) (s : State) : convOf (convMod c f s) c = f (convOf s c) :=
  vmodN_same s.cal.conv c f {} hc

/-- A converter's record after a run that was rejected (R223, R224). -/
def rejectedRun (period reason : Nat) (v : Conv) : Conv := { v with
  valid := true, running := false, rejected := true, reason := reason, lastOk := false
  fails := satU 4 (v.fails + 1), seq := (v.seq + 1) % 4096
  retry := if 3 ≤ v.fails + 1 then period else if v.fails = 0 then 10 else min (2 * v.retry) period
  stale := v.stale || decide (3 ≤ v.fails + 1) }

theorem convOf_convReject {c : Nat} (hc : c < 217) (reason : Nat) (s : State) :
    convOf (convReject c reason s) c = rejectedRun (parN s 0x58 0) reason (convOf s c) := by
  unfold convReject
  extract_lets v n wait stale s₁ s₂ s₃
  have h₁ : convOf s₁ c = rejectedRun (parN s 0x58 0) reason (convOf s c) := convOf_convMod_same hc _ s
  have h₃ : convOf s₃ c = convOf s₁ c := by
    simp only [s₃]
    split <;> rfl
  split
  · rw [convOf_of_keepsBut (keepsBut_issueEvent _ _ _ s₃) (by simp), h₃, h₁]
  · rw [h₃, h₁]

/-- A converter's record after a run that was accepted at a temperature and an elapsed time; `blends` tells that a lane's table
moves to the new one over 64 cycles (R220 to R226). -/
def acceptedRun (blends : Bool) (hits : List Nat) (temp : Int) (now : Nat) (v : Conv) : Conv := { v with
  old := if blends then [] else tableNow v, cur := (binCentres 0 (binWidths hits)).map ps, blend := if blends then 64 else 0
  valid := true, running := false, fails := 0, stale := false, accepted := true, lastOk := true
  inlMax := satU 8 (roundAway (inlMax hits * 32)).toNat, seq := (v.seq + 1) % 4096
  line := (roundAway (ps (lineLength hits))).toNat, lastAt := now, lastTemp := temp, retry := 0 }

section
variable {c : Fin 217} {s : State}

/-- A row that makes a run fall due does nothing else. -/
theorem due_of_exec {row : Instr} (hrow : exec row s = .next (settle (convMod c.val (fun v => { v with due := true }) s))) :
    ∃ t, exec row s = .next t ∧ keepsBut [.cal, .msi] s t ∧ convOf t c.val = { convOf s c.val with due := true } := by
  refine ⟨_, hrow, keepsBut_done (keepsBut_mono (keepsBut_convMod c.val _ s) (by simp)) (by simp), ?_⟩
  rw [convOf_settle, convOf_convMod_same c.isLt]

theorem exec_calDue (hmay : convMay s c.val = true) (hidle : (convOf s c.val).running = false) (hwant : calWanted s c.val = true) :
    exec (.calDue c) s = .next (settle (convMod c.val (fun v => { v with due := true }) s)) := by
  show execCalDue c s = _
  rw [execCalDue, if_pos (by simp [hmay, hidle, hwant])]
  rfl

theorem exec_calRetryTimer (hmay : convMay s c.val = true) (hidle : (convOf s c.val).running = false)
    (hretry : 0 < (convOf s c.val).retry) :
    exec (.calRetryTimer c) s = .next (settle (convMod c.val (fun v => { v with due := true }) s)) := by
  show execCalRetryTimer c s = _
  rw [execCalRetryTimer, if_pos (by simp [hmay, hidle, hretry])]
  rfl

/-- The ring's trim moves on where its ratio lies near a fraction (R219). -/
def ringMoved (ring : Nat) (ratio : Nat × Nat) (s : State) : State :=
  if nearFraction ((ratio.1 : Rat) / ratio.2) then
    { s with cal := { s.cal with ringTrim := vmodN s.cal.ringTrim ring (fun t => (t + 1) % 8) } }
  else s

theorem keepsBut_ringMoved (ring : Nat) (ratio : Nat × Nat) (s : State) : keepsBut [.cal] s (ringMoved ring ratio s) := by
  unfold ringMoved
  split
  · exact keepsBut_withCal _ s
  · exact keepsBut_refl _ s

theorem convOf_ringMoved (ring : Nat) (ratio : Nat × Nat) (s : State) (k : Nat) : convOf (ringMoved ring ratio s) k = convOf s k := by
  unfold ringMoved
  split <;> rfl

theorem exec_codeDensityStart (ratio : Nat × Nat) (hdue : (convOf s c.val).due = true) (hmay : convMay s c.val = true)
    (hring : ∀ k, k < 217 → convRing k = convRing c.val → (convOf s k).running = false ∧ (k < c.val → (convOf s k).due = false)) :
    exec (.codeDensityStart c ratio) s = .next (settle (convMod c.val (fun v => { v with due := false, running := true, valid := false })
      (ringMoved (convRing c.val) ratio s))) := by
  show execCodeDensityStart c ratio s = _
  have hfree : ((List.range 217).filter (fun k => convRing k == convRing c.val)).any (fun k => (convOf s k).running) = false := by
    rw [List.any_eq_false]
    intro k hk
    obtain ⟨hlt, hsame⟩ : k < 217 ∧ convRing k = convRing c.val := by simpa using hk
    simp [(hring k hlt hsame).1]
  have hfirst : ((List.range 217).filter (fun k => convRing k == convRing c.val)).any
      (fun k => decide (k < c.val) && (convOf s k).due && convMay s k) = false := by
    rw [List.any_eq_false]
    intro k hk
    obtain ⟨hlt, hsame⟩ : k < 217 ∧ convRing k = convRing c.val := by simpa using hk
    by_cases hbelow : k < c.val
    · simp [(hring k hlt hsame).2 hbelow]
    · simp [hbelow]
  unfold execCodeDensityStart
  extract_lets n ring peers
  rw [if_pos (by rw [hdue, hmay, hfree, hfirst]; rfl)]
  rfl

/-- The clause on the start of a run. -/
theorem codeDensityStart_starts (ratio : Nat × Nat) (hdue : (convOf s c.val).due = true) (hmay : convMay s c.val = true)
    (hring : ∀ k, k < 217 → convRing k = convRing c.val → (convOf s k).running = false ∧ (k < c.val → (convOf s k).due = false)) :
    ∃ t, exec (.codeDensityStart c ratio) s = .next t ∧ keepsBut [.cal, .msi] s t ∧
      convOf t c.val = { convOf s c.val with due := false, running := true, valid := false } := by
  refine ⟨_, exec_codeDensityStart ratio hdue hmay hring,
    keepsBut_then_done (keepsBut_ringMoved _ ratio s) (keepsBut_convMod c.val _ _), ?_⟩
  rw [convOf_settle, convOf_convMod_same c.isLt, convOf_ringMoved]

/-- An accepted run: the converter's record, event 28, the temperature, the engines' converter checks. -/
def densityAccepted (n : Nat) (hits : List Nat) (temp : Int) (s : State) : State :=
  let t := bump 28 1 (convMod n (acceptedRun (decide (n < 192) && (laneOf s n).ph.excl != 0) hits temp s.clk.elapsed) s)
  let t := if 192 ≤ n then { t with pins := { t.pins with temps := vmodN t.pins.temps (convDomain n) (fun _ => temp) } } else t
  if 192 ≤ n ∧ n ≤ 198 then cupRecord 1 2 true (cupRecord 0 2 true t) else t

theorem keepsBut_densityAccepted (n : Nat) (hits : List Nat) (temp : Int) (s : State) :
    keepsBut [.te, .cal, .pc, .pins] s (densityAccepted n hits temp s) := by
  unfold densityAccepted
  extract_lets t pins u
  have ht : keepsBut [.cal, .pc] s t := keepsBut_then (keepsBut_convMod n _ s) (keepsBut_bump 28 1 _) (by simp) (by simp)
  have hu : keepsBut [.cal, .pc, .pins] s u := by
    simp only [u]
    split
    · exact keepsBut_then ht (keepsBut_withPins _ t) (by simp) (by simp)
    · exact keepsBut_mono ht (by simp)
  split
  · exact keepsBut_then hu (keepsBut_trans (keepsBut_cupRecord 0 2 true u) (keepsBut_cupRecord 1 2 true _)) (by simp) (by simp)
  · exact keepsBut_mono hu (by simp)

theorem convOf_densityAccepted {n : Nat} (hn : n < 217) (hits : List Nat) (temp : Int) (s : State) :
    convOf (densityAccepted n hits temp s) n =
      acceptedRun (decide (n < 192) && (laneOf s n).ph.excl != 0) hits temp s.clk.elapsed (convOf s n) := by
  refine Eq.trans ?_ (convOf_convMod_same hn _ s)
  unfold densityAccepted
  split <;> split <;> rfl

section
variable (hrun : (convOf s c.val).running = true)
include hrun

theorem exec_codeDensityEnd_accepts {hits : List Nat} (hok : densityReason hits = 0) (temp : Int) :
    exec (.codeDensityEnd c hits temp) s = .next (settle (densityAccepted c.val hits temp s)) := by
  show execCodeDensityEnd c hits temp s = _
  unfold execCodeDensityEnd
  dsimp only
  rw [hrun, hok]
  rfl

theorem exec_codeDensityEnd_rejects {hits : List Nat} (hbad : densityReason hits ≠ 0) (temp : Int) :
    exec (.codeDensityEnd c hits temp) s = .next (settle (convReject c.val (densityReason hits) s)) := by
  show execCodeDensityEnd c hits temp s = _
  obtain ⟨r, hr⟩ := Nat.exists_eq_succ_of_ne_zero hbad
  unfold execCodeDensityEnd
  dsimp only
  rw [hrun, hr]
  rfl

/-- The clause on the end of a run. -/
theorem codeDensityEnd_ends (hits : List Nat) (temp : Int) :
    ∃ t, exec (.codeDensityEnd c hits temp) s = .next t ∧ keepsBut [.te, .cal, .host, .msi, .mb, .pc, .pins] s t ∧
      (convOf t c.val).running = false ∧ (convOf t c.val).valid = true ∧ (convOf t c.val).seq = ((convOf s c.val).seq + 1) % 4096 ∧
      (densityReason hits = 0 → (convOf t c.val).accepted = true ∧ (convOf t c.val).lastOk = true ∧ (convOf t c.val).fails = 0 ∧
        (convOf t c.val).cur = (binCentres 0 (binWidths hits)).map ps) ∧
      (densityReason hits ≠ 0 → (convOf t c.val).rejected = true ∧ (convOf t c.val).reason = densityReason hits ∧
        (convOf t c.val).cur = (convOf s c.val).cur) := by
  by_cases hok : densityReason hits = 0
  · refine ⟨_, exec_codeDensityEnd_accepts hrun hok temp,
      keepsBut_done (keepsBut_mono (keepsBut_densityAccepted c.val hits temp s) (by simp)) (by simp), ?_⟩
    rw [convOf_settle, convOf_densityAccepted c.isLt]
    exact ⟨rfl, rfl, rfl, fun _ => ⟨rfl, rfl, rfl, rfl⟩, fun hbad => absurd hok hbad⟩
  · refine ⟨_, exec_codeDensityEnd_rejects hrun hok temp,
      keepsBut_done (keepsBut_mono (keepsBut_convReject c.val _ s) (by simp)) (by simp), ?_⟩
    rw [convOf_settle, convOf_convReject c.isLt]
    exact ⟨rfl, rfl, rfl, fun h => absurd h hok, fun _ => ⟨rfl, rfl, rfl⟩⟩

/-- The clause on a run with too few hits. -/
theorem calRunHitsTimeout_rejects :
    ∃ t, exec (.calRunHitsTimeout c) s = .next t ∧ keepsBut [.te, .cal, .host, .msi, .mb, .pc] s t ∧
      (convOf t c.val).rejected = true ∧ (convOf t c.val).reason = 5 ∧ (convOf t c.val).running = false := by
  have hexec : exec (.calRunHitsTimeout c) s = .next (settle (convReject c.val 5 s)) := if_pos hrun
  refine ⟨_, hexec, keepsBut_done (keepsBut_mono (keepsBut_convReject c.val 5 s) (by simp)) (by simp), ?_⟩
  rw [convOf_settle, convOf_convReject c.isLt]
  exact ⟨rfl, rfl, rfl⟩

end
end

/-! ### Replica measurements (R229, R230) -/

/-- A group's replica paths with one more measurement, referred to T_REF. -/
def replicaKept (m : ReplicaMeas) (tRef : Int) (r : Replica) : Replica := { r with
  tx := ((m.tx - (Config.replicaTc m.group).1 * ((m.temp - tRef : Int) / 16)) :: r.tx).take 10
  rx := ((m.rx - (Config.replicaTc m.group).2 * ((m.temp - tRef : Int) / 16)) :: r.rx).take 10 }

theorem exec_replicaMeasure {m : ReplicaMeas} {s : State} (hgroup : m.group < 24) (hon : domOn s (bankOf m.group) = true) :
    exec (.replicaMeasure [m] []) s = .next (settle { s with wx := { s.wx with
      replica := vmodN s.wx.replica m.group (replicaKept m (groupTRef s m.group)) } }) :=
  congrArg done (if_pos ⟨hgroup, hon⟩)

/-- The clause on a replica measurement. -/
theorem replicaMeasure_keeps (m : ReplicaMeas) (s : State) (hgroup : m.group < 24) (hon : domOn s (bankOf m.group) = true) :
    ∃ t, exec (.replicaMeasure [m] []) s = .next t ∧ keepsBut [.wx, .msi] s t ∧
      (vget t.wx.replica m.group {}).tx.head? =
        some ((m.tx : Rat) - (Config.replicaTc m.group).1 * (((m.temp - groupTRef s m.group : Int) : Rat) / 16)) ∧
      (vget t.wx.replica m.group {}).tx.length ≤ 10 := by
  refine ⟨_, exec_replicaMeasure hgroup hon, keepsBut_done (keepsBut_mono (keepsBut_withWx _ s) (by simp)) (by simp), ?_⟩
  rw [settle_wx, vmodN_same _ _ _ _ hgroup]
  exact ⟨rfl, List.length_take_le 10 _⟩

/-! ### The latency update (R226, R230) -/

theorem vget_vmapI {α : Type} {n : Nat} (v : Vector α n) (f : Fin n → α → α) {i : Nat} (h : i < n) (d : α) :
    vget (vmapI v f) i d = f ⟨i, h⟩ (vget v i d) := by
  simp [vget, vmapI, h]

theorem latEntry_of_laneOf {s t : State} {l : Nat} (h : laneOf t l = laneOf s l) (k : Nat) : latEntry t l k = latEntry s l k := by
  rw [latEntry, latEntry, h]

/-- An entry with a drift added in a second. -/
def drifted (dTx dRx : Int) (sec : Nat) (b : LatEntry) : LatEntry :=
  { b with txLat := b.txLat + dTx, rxLat := b.rxLat + dRx, calSec := sec, source := if b.source = 1 then 2 else b.source }

theorem keepsBut_latAdd (l : Nat) (dTx dRx : Int) (s : State) : keepsBut [.lane] s (latAdd l dTx dRx s) := keepsBut_laneMod l _ s

theorem otherLanes_latAdd (l : Nat) (dTx dRx : Int) (s : State) : otherLanes l s (latAdd l dTx dRx s) := otherLanes_laneMod l _ s

/-- An entry that software does not own takes the drift. -/
theorem latAdd_entry {l k : Nat} (hl : l < 192) (hk : k < 6) {s : State} (hown : (vget (laneOf s l).lat.sets k {}).source ≠ 4)
    (dTx dRx : Int) : vget (laneOf (latAdd l dTx dRx s) l).lat.sets k {} = drifted dTx dRx (secOf s.clk.now) (latEntry s l k) := by
  unfold latAdd
  extract_lets set tx rx inF sec e
  rw [laneOf_laneMod_same hl, vget_vmapI _ _ hk, if_neg hown]
  rfl

/-- A lane that a list names once has its operation done in a state that differs from the first one elsewhere. -/
theorem laneOf_forEach_once {m : List Part} {f : Nat → State → State} (hkeep : ∀ l s, keepsBut m s (f l s))
    (hother : ∀ l s, otherLanes l s (f l s)) {ls : List Nat} (hnodup : ls.Nodup) {l : Nat} (hl : l ∈ ls) (s : State) :
    ∃ u, keepsBut m s u ∧ laneOf u l = laneOf s l ∧ laneOf (forEach ls f s) l = laneOf (f l u) l := by
  obtain ⟨before, after, rfl⟩ := List.append_of_mem hl
  obtain ⟨-, hafter, hbefore⟩ := List.nodup_append.mp hnodup
  refine ⟨forEach before f s, keepsBut_forEach hkeep before s, ?_, ?_⟩
  · exact laneOf_forEach_not_mem hother (fun h => hbefore l h l List.mem_cons_self rfl) s
  · rw [forEach, List.foldl_append, List.foldl_cons]
    exact laneOf_forEach_not_mem hother (List.nodup_cons.mp hafter).1 _

/-- The lanes of a group. -/
def groupLanes (g : Nat) : List Nat := (List.range 8).map (8 * g + ·)

theorem mem_groupLanes {g l : Nat} (h : l / 8 = g) : l ∈ groupLanes g :=
  List.mem_map.mpr ⟨l % 8, List.mem_range.mpr (Nat.mod_lt l (by decide)), by omega⟩

theorem nodup_groupLanes (g : Nat) : (groupLanes g).Nodup :=
  List.nodup_range.map fun _ _ h => Nat.add_left_cancel h

/-- The values of a group's replica paths at an update. -/
def replicaBased (g : GroupIx) (s : State) : State := { s with wx := { s.wx with
  replica := s.wx.replica.set g { s.wx.replica[g] with
    txAt := some (meanQ s.wx.replica[g].tx), rxAt := some (meanQ s.wx.replica[g].rx) } } }

theorem keepsBut_replicaBased (g : GroupIx) (s : State) : keepsBut [.wx] s (replicaBased g s) := keepsBut_withWx _ s

theorem replicaBased_txAt (g : GroupIx) (s : State) :
    (replicaBased g s).wx.replica[g].txAt = some (meanQ s.wx.replica[g].tx) := by
  simp [replicaBased]

section
variable {g : GroupIx} {s : State} (hup : obilwinUp s = true) (hfull : 10 ≤ s.wx.replica[g].tx.length)
include hup hfull

theorem latencyUpdate_goes_on : ¬ (!obilwinUp s || decide (s.wx.replica[g].tx.length < 10)) = true := by
  rw [hup, decide_eq_false (Nat.not_lt.mpr hfull)]
  decide

theorem exec_latencyUpdate_base (hnone : s.wx.replica[g].txAt = none) :
    exec (.latencyUpdate g) s = .next (settle (replicaBased g s)) := by
  show execLatencyUpdate g s = _
  unfold execLatencyUpdate
  extract_lets r mt mr dt dr step base t
  have hbase : base = true := by simp [base, show r.txAt = none from hnone]
  rw [if_neg (latencyUpdate_goes_on hup hfull), if_pos (by rw [hbase]; rfl), if_pos hbase]
  rfl

theorem exec_latencyUpdate_drift {a b : Rat} (ha : s.wx.replica[g].txAt = some a) (hb : s.wx.replica[g].rxAt = some b)
    (hstep : (parV s 0x5A : Rat) ≤ absQ (meanQ s.wx.replica[g].tx - a)) :
    exec (.latencyUpdate g) s = .next (settle (forEach (groupLanes g.val) (fun l => latAdd l
      (roundAway (meanQ s.wx.replica[g].tx - a)) (roundAway (meanQ s.wx.replica[g].rx - b))) (replicaBased g s))) := by
  show execLatencyUpdate g s = _
  unfold execLatencyUpdate
  extract_lets r mt mr dt dr step base t
  have ha' : r.txAt = some a := ha
  have hb' : r.rxAt = some b := hb
  have hbase : ¬ base = true := by simp [base, ha', hb']
  have hdt : dt = mt - a := by simp only [dt, ha', Option.getD_some]
  have hdr : dr = mr - b := by simp only [dr, hb', Option.getD_some]
  have hmoved : (base || decide (step ≤ absQ dt) || decide (step ≤ absQ dr)) = true := by
    rw [hdt, decide_eq_true (show step ≤ absQ (mt - a) from hstep), Bool.or_true, Bool.true_or]
  rw [if_neg (latencyUpdate_goes_on hup hfull), if_pos hmoved, if_neg hbase, hdt, hdr, forEach, groupLanes, List.foldl_map]
  rfl

/-- The clause on a drift: it goes into each entry of the group's lanes that software does not own. -/
theorem latencyUpdate_adds {a b : Rat} (ha : s.wx.replica[g].txAt = some a) (hb : s.wx.replica[g].rxAt = some b)
    (hstep : (parV s 0x5A : Rat) ≤ absQ (meanQ s.wx.replica[g].tx - a)) {l k : Nat} (hl : l / 8 = g.val) (hk : k < 6)
    (hown : (vget (laneOf s l).lat.sets k {}).source ≠ 4) :
    ∃ t, exec (.latencyUpdate g) s = .next t ∧ keepsBut [.lane, .wx, .msi] s t ∧
      (vget (laneOf t l).lat.sets k {}).txLat = (latEntry s l k).txLat + roundAway (meanQ s.wx.replica[g].tx - a) ∧
      (vget (laneOf t l).lat.sets k {}).rxLat = (latEntry s l k).rxLat + roundAway (meanQ s.wx.replica[g].rx - b) ∧
      (vget (laneOf t l).lat.sets k {}).calSec = secOf s.clk.now := by
  refine ⟨_, exec_latencyUpdate_drift hup hfull ha hb hstep, ?_, ?_⟩
  · exact keepsBut_then_done (keepsBut_replicaBased g s) (keepsBut_forEach (fun l => keepsBut_latAdd l _ _) _ _)
  · obtain ⟨u, hu, hlane, hdone⟩ := laneOf_forEach_once (fun l => keepsBut_latAdd l (roundAway (meanQ s.wx.replica[g].tx - a))
      (roundAway (meanQ s.wx.replica[g].rx - b))) (fun l => otherLanes_latAdd l _ _) (nodup_groupLanes g.val) (mem_groupLanes hl)
      (replicaBased g s)
    have hsame : laneOf u l = laneOf s l := hlane
    have hclk : u.clk = s.clk := hu .clk (by simp)
    rw [laneOf_settle, hdone, latAdd_entry (by omega) hk (by rwa [hsame]), latEntry_of_laneOf hsame, hclk]
    exact ⟨rfl, rfl, rfl⟩

/-- The clause on the first full set of measurements. -/
theorem latencyUpdate_bases (hnone : s.wx.replica[g].txAt = none) :
    ∃ t, exec (.latencyUpdate g) s = .next t ∧ keepsBut [.wx, .msi] s t ∧ t.wx.replica[g].txAt = some (meanQ s.wx.replica[g].tx) := by
  refine ⟨_, exec_latencyUpdate_base hup hfull hnone, keepsBut_done (keepsBut_mono (keepsBut_replicaBased g s) (by simp)) (by simp), ?_⟩
  rw [settle_wx, replicaBased_txAt]

end

/-- Settles O25: the trims of the two periodic rows, the runs of a converter from the moment they fall due to their end, and what
replica measurements lead to. -/
theorem calibration : Obligations.Calibration := by
  unfold Obligations.Calibration
  refine ⟨trimPeriodic_takes, fun c s => ⟨fun hmay hidle => ⟨?_, ?_⟩, codeDensityStart_starts, codeDensityEnd_ends,
    calRunHitsTimeout_rejects⟩, replicaMeasure_keeps, fun g s hup hfull => ⟨latencyUpdate_bases hup hfull, ?_⟩⟩
  · exact fun hwant => due_of_exec (exec_calDue hmay hidle hwant)
  · exact fun hretry => due_of_exec (exec_calRetryTimer hmay hidle hretry)
  · exact fun a b l k ha hb hstep hl hk hown => latencyUpdate_adds hup hfull ha hb hstep hl hk hown

end Sys2Proof.Machine

/-! Pause and preemption (R248, R251 to R253): pauses received and sent, the timers that end them, and the verification of the
peer's merge sublayer. -/

namespace Sys2Proof.Machine

-- The joined text is one compile: no thread beside the main one for each proof.
set_option Elab.async false

/-! ### A port's flow control -/

theorem portMoved_pauseMod (p : Nat) (f : PortPause → PortPause) (s : State) : PortMoved p s (pauseMod p f s) :=
  portMoved_portMod p _ s

section
variable {p : Nat} (hp : p < 192) (s : State)
include hp

theorem portOf_pauseMod (f : PortPause → PortPause) :
    portOf (pauseMod p f s) p = { portOf s p with pause := f (portOf s p).pause } := portOf_portMod_same hp _ s

theorem pause_pauseMod (f : PortPause → PortPause) : (portOf (pauseMod p f s) p).pause = f (portOf s p).pause :=
  congrArg Port.pause (portOf_pauseMod hp s f)

theorem live_pauseMod (f : PortPause → PortPause) : (portOf (pauseMod p f s) p).live = (portOf s p).live := by
  rw [portOf_pauseMod hp]

theorem pause_macCount (k n : Nat) : (portOf (macCount p k n s) p).pause = (portOf s p).pause := by
  rw [portOf_macCount hp]

/-- What goes out between two fragments moves the transmitter and the counters alone. -/
theorem portOf_interject : ∃ tx live, portOf (interject p s) p = { portOf s p with tx := tx, live := live } := by
  unfold interject
  dsimp only
  split
  · exact ⟨_, _, portOf_interrupt hp s false⟩
  · exact ⟨_, _, rfl⟩

end

/-! ### The classes of a mask -/

theorem getElem_maskSet (v : Vector Bool 8) (mask : Nat) (b : Bool) (c : Fin 8) :
    (maskSet v mask b)[c] = if mask.testBit c.val then b else v[c] := getElem_vmapI v _ c

theorem testBit_all : ∀ c : Fin 8, Nat.testBit 255 c.val = true := by decide

theorem testBit_class (c k : Fin 8) : (2 ^ c.val).testBit k.val = decide (c = k) := by
  simp only [Nat.testBit_two_pow, Fin.ext_iff]

theorem testBit_rxMask_self (s : State) (p : Nat) (c : Fin 8) : (rxMask s p c.val).testBit c.val = true := by
  unfold rxMask
  split
  · exact testBit_all c
  · exact Nat.testBit_two_pow_self

theorem testBit_rxMask_other {s : State} {p : Nat} {c k : Fin 8} (hmode : par s 0x10E p ≠ 1) (h : k ≠ c) :
    (rxMask s p c.val).testBit k.val = false := by
  rw [rxMask, if_neg hmode, testBit_class, decide_eq_false (Ne.symm h)]

theorem testBit_rxMask_all {s : State} {p : Nat} (hmode : par s 0x10E p = 1) (c k : Fin 8) :
    (rxMask s p c.val).testBit k.val = true := by
  rw [rxMask, if_pos hmode, testBit_all]

/-! ### A pause received (R251, R252) -/

section
variable {p : Nat} (hp : p < 192) {mask q : Nat} {c : Fin 8} (s : State)
include hp

/-- A class of the mask takes the pause. -/
theorem takePause_takes (hmask : mask.testBit c.val = true) (hig : (portOf s p).pause.wdIgnore[c] = false) :
    (portOf (takePause p mask q s) p).pause.paused[c] = (q != 0) ∧ (portOf (takePause p mask q s) p).pause.quanta[c] = q := by
  rw [takePause, pause_pauseMod hp, getElem_vmapI, getElem_vmapI, hmask, hig]
  exact ⟨rfl, rfl⟩

/-- A class in recovery, or outside the mask, goes on as it was. -/
theorem takePause_leaves (h : mask.testBit c.val = false ∨ (portOf s p).pause.wdIgnore[c] = true) :
    (portOf (takePause p mask q s) p).pause.paused[c] = (portOf s p).pause.paused[c] := by
  rw [takePause, pause_pauseMod hp, getElem_vmapI, if_neg]
  rcases h with h | h
  · simp [h]
  · simp [h]

end

/-- A PAUSE or PFC frame with a bad FCS, counted; and a good one. -/
def badPause (p : Nat) (s : State) : State := macCount p 5 1 (macCount p 0 64 s)
def goodPause (p : Nat) (s : State) : State := macCount p 9 1 (countGood p 0x0180C2000001 64 (macCount p 0 64 s))

/-- What a good pause does in each mode. -/
def pauseActed (p : Nat) (pfc : Bool) (mask : BitVec 8) (quanta : List Nat) (s : State) : State :=
  if par s 0x10E p = 1 ∧ !pfc then takePause p 255 (quanta.getD 0 0 % 65536) s
  else if par s 0x10E p = 2 ∧ pfc then
    forEach ((List.range 8).filter (fun i => mask.getLsbD i)) (fun i s =>
      takePause p (2 ^ bits (parN s 0x10F p) (3 * i) 3) (quanta.getD i 0 % 65536) s) s
  else s

theorem Counted.pause {p : Nat} {s t : State} (h : Counted p s t) : (portOf t p).pause = (portOf s p).pause := by
  rw [h.port]

section
variable {p : Nat} (hp : p < 192) (s : State)
include hp

theorem counted_badPause : Counted p s (badPause p s) := (counted_macCount hp s 0 64).trans (counted_macCount hp _ 5 1)

theorem counted_goodPause : Counted p s (goodPause p s) :=
  ((counted_macCount hp s 0 64).trans (counted_countGood hp _ 0x0180C2000001 64)).trans (counted_macCount hp _ 9 1)

theorem live_badPause : vget (portOf (badPause p s) p).live 5 0 = (vget (portOf s p).live 5 0 + 1) % 2 ^ 64 ∧
    vget (portOf (badPause p s) p).live 9 0 = vget (portOf s p).live 9 0 := by
  constructor
  · rw [badPause, live_macCount_same hp _ 1 (by decide), live_macCount_other hp _ 64 (by decide)]
  · rw [badPause, live_macCount_other hp _ 1 (by decide), live_macCount_other hp _ 64 (by decide)]

theorem live_goodPause : vget (portOf (goodPause p s) p).live 9 0 = (vget (portOf s p).live 9 0 + 1) % 2 ^ 64 := by
  rw [goodPause, live_macCount_same hp _ 1 (by decide), live_countGood_other hp _ _ _ (by decide) (by decide) (by decide),
    live_macCount_other hp _ 64 (by decide)]

end

theorem par_of_portMoved {p : Nat} {s t : State} (h : PortMoved p s t) (id sel : Nat) : par t id sel = par s id sel :=
  par_congr (h.frame .par (by simp)) (h.frame .group (by simp)) id sel

theorem portMoved_takePause (p mask q : Nat) (s : State) : PortMoved p s (takePause p mask q s) := by
  unfold takePause
  exact portMoved_pauseMod p _ s

/-- A PFC frame for one priority. -/
theorem priorities_one : ∀ i : Fin 8, (List.range 8).filter (fun k => (BitVec.ofNat 8 (2 ^ i.val)).getLsbD k) = [i.val] := by
  decide

section
variable {p : Nat} {pfc : Bool} {mask : BitVec 8} {quanta : List Nat} {s : State}

theorem pauseActed_off (hmode : par s 0x10E p = 0) : pauseActed p pfc mask quanta s = s := by
  simp [pauseActed, hmode]

theorem pauseActed_pause (hmode : par s 0x10E p = 1) (hpfc : pfc = false) :
    pauseActed p pfc mask quanta s = takePause p 255 (quanta.getD 0 0 % 65536) s := by
  simp [pauseActed, hmode, hpfc]

theorem pauseActed_pfc {i : Fin 8} (hmode : par s 0x10E p = 2) (hpfc : pfc = true) :
    pauseActed p pfc (BitVec.ofNat 8 (2 ^ i.val)) quanta s =
      takePause p (2 ^ bits (parN s 0x10F p) (3 * i.val) 3) (quanta.getD i.val 0 % 65536) s := by
  rw [pauseActed, if_neg (by simp [hmode]), if_pos ⟨hmode, hpfc⟩, priorities_one]
  rfl

/-- Nothing but pauses of the port. -/
theorem pauseActed_frame (hp : p < 192) : PortMoved p s (pauseActed p pfc mask quanta s) ∧
    (portOf (pauseActed p pfc mask quanta s) p).live = (portOf s p).live := by
  have htake : ∀ m q t, PortMoved p t (takePause p m q t) ∧ (portOf (takePause p m q t) p).live = (portOf t p).live :=
    fun m q t => ⟨portMoved_takePause p m q t, live_pauseMod hp t _⟩
  unfold pauseActed
  split
  · exact htake _ _ s
  · split
    · refine List.foldlRecOn _ _ (motive := fun t => PortMoved p s t ∧ (portOf t p).live = (portOf s p).live)
        ⟨.refl p s, rfl⟩ fun t ht i _ => ?_
      obtain ⟨hmoved, hlive⟩ := htake (2 ^ bits (parN t 0x10F p) (3 * i) 3) (quanta.getD i 0 % 65536) t
      exact ⟨ht.1.trans hmoved, hlive.trans ht.2⟩
    · exact ⟨.refl p s, rfl⟩

end

section
variable {p : PortIx} {pfc : Bool} {mask : BitVec 8} {quanta : List Nat} {s : State} (hup : (portOf s p.val).st = .up)
include hup

theorem exec_pauseReceive_bad : exec (.pauseReceive p pfc mask quanta true) s = .next (settle (badPause p.val s)) := by
  show execPauseReceive p pfc mask quanta true s = _
  rw [execPauseReceive, if_neg (by simp [hup])]
  rfl

theorem exec_pauseReceive_good : exec (.pauseReceive p pfc mask quanta false) s =
    .next (settle (pauseActed p.val pfc mask quanta (goodPause p.val s))) := by
  show execPauseReceive p pfc mask quanta false s = _
  rw [execPauseReceive, if_neg (by simp [hup])]
  exact (congrArg (ite _ _) (ite_done _ _)).trans (ite_done _ _)

/-- A pause with a bad FCS is counted, and not acted on (R251). -/
theorem pauseReceive_bad : ∃ t, exec (.pauseReceive p pfc mask quanta true) s = .next t ∧ keepsBut [.port, .msi] s t ∧
    otherPorts p.val s t ∧ (portOf t p.val).pause = (portOf s p.val).pause ∧
    vget (portOf t p.val).live 5 0 = (vget (portOf s p.val).live 5 0 + 1) % 2 ^ 64 ∧
    vget (portOf t p.val).live 9 0 = vget (portOf s p.val).live 9 0 := by
  have hcounted := counted_badPause p.isLt s
  obtain ⟨hframe, hothers⟩ := hcounted.moved.settled
  exact ⟨_, exec_pauseReceive_bad hup, hframe, hothers, hcounted.pause, live_badPause p.isLt s⟩

end

section
variable {p : PortIx} {pfc : Bool} {quanta : List Nat} {i : Fin 8} {s : State}

/-- A good pause is counted, and acted on in the mode it belongs to (R251, R252). -/
theorem pauseReceive_good (hup : (portOf s p.val).st = .up) :
    ∃ t, exec (.pauseReceive p pfc (BitVec.ofNat 8 (2 ^ i.val)) quanta false) s = .next t ∧ keepsBut [.port, .msi] s t ∧
      otherPorts p.val s t ∧ vget (portOf t p.val).live 9 0 = (vget (portOf s p.val).live 9 0 + 1) % 2 ^ 64 ∧
      (par s 0x10E p.val = 0 → (portOf t p.val).pause = (portOf s p.val).pause) ∧
      (par s 0x10E p.val = 1 → pfc = false → ∀ c : Fin 8,
        ((portOf s p.val).pause.wdIgnore[c] = false → (portOf t p.val).pause.paused[c] = (quanta.getD 0 0 % 65536 != 0) ∧
          (portOf t p.val).pause.quanta[c] = quanta.getD 0 0 % 65536) ∧
        ((portOf s p.val).pause.wdIgnore[c] = true → (portOf t p.val).pause.paused[c] = (portOf s p.val).pause.paused[c])) ∧
      (par s 0x10E p.val = 2 → pfc = true → ∀ c : Fin 8,
        (c.val = bits (parN s 0x10F p.val) (3 * i.val) 3 → (portOf s p.val).pause.wdIgnore[c] = false →
          (portOf t p.val).pause.paused[c] = (quanta.getD i.val 0 % 65536 != 0)) ∧
        (c.val ≠ bits (parN s 0x10F p.val) (3 * i.val) 3 →
          (portOf t p.val).pause.paused[c] = (portOf s p.val).pause.paused[c])) := by
  have hcounted := counted_goodPause p.isLt s
  have hlive := live_goodPause p.isLt s
  have hexec := exec_pauseReceive_good (pfc := pfc) (mask := BitVec.ofNat 8 (2 ^ i.val)) (quanta := quanta) hup
  generalize goodPause p.val s = u at hcounted hlive hexec
  have hpause : (portOf u p.val).pause = (portOf s p.val).pause := hcounted.pause
  have hpar := fun id => par_of_portMoved hcounted.moved id p.val
  have hmap : parN u 0x10F p.val = parN s 0x10F p.val := congrArg Int.toNat (hpar 0x10F)
  obtain ⟨hacted, hkept⟩ := pauseActed_frame (pfc := pfc) (mask := BitVec.ofNat 8 (2 ^ i.val)) (quanta := quanta) (s := u) p.isLt
  obtain ⟨hframe, hothers⟩ := (hcounted.moved.trans hacted).settled
  refine ⟨_, hexec, hframe, hothers, ?_, fun hmode => ?_, fun hmode hpfc c => ?_, fun hmode hpfc c => ?_⟩
  · rw [portOf_settle, hkept, hlive]
  · rw [portOf_settle, pauseActed_off (by rw [hpar, hmode]), hpause]
  · rw [portOf_settle, pauseActed_pause (by rw [hpar, hmode]) hpfc, ← hpause]
    exact ⟨takePause_takes p.isLt u (testBit_all c), fun hig => takePause_leaves p.isLt u (.inr hig)⟩
  · rw [portOf_settle, pauseActed_pfc (by rw [hpar, hmode]) hpfc, hmap, ← hpause]
    refine ⟨fun hc hig => (takePause_takes p.isLt u ?_ hig).1, fun hc => takePause_leaves p.isLt u (.inl ?_)⟩
    · rw [← hc]
      exact Nat.testBit_two_pow_self
    · exact Nat.testBit_two_pow_of_ne (Ne.symm hc)

end

/-! ### A pause that ends (R251, R252) -/

theorem portMoved_endPause (p mask : Nat) (s : State) : PortMoved p s (endPause p mask s) := portMoved_pauseMod p _ s

/-- The watchdog has acted on the classes of a mask: their pause is ended, and ignored from now on. -/
def wdActed (p mask : Nat) (s : State) : State :=
  macCount p 31 1 (pauseMod p (fun x => { x with wdIgnore := maskSet x.wdIgnore mask true, wdEvent := true }) (endPause p mask s))

theorem portMoved_wdActed (p mask : Nat) (s : State) : PortMoved p s (wdActed p mask s) :=
  ((portMoved_endPause p mask s).trans (portMoved_pauseMod p _ _)).trans (portMoved_macCount p 31 1 _)

section
variable {p : Nat} (hp : p < 192) {mask : Nat} {c : Fin 8} (s : State)
include hp

theorem pause_wdActed (hmask : mask.testBit c.val = true) : (portOf (wdActed p mask s) p).pause.paused[c] = false ∧
    (portOf (wdActed p mask s) p).pause.wdIgnore[c] = true ∧ (portOf (wdActed p mask s) p).pause.wdEvent = true := by
  rw [wdActed, pause_macCount hp, pause_pauseMod hp, endPause, pause_pauseMod hp]
  simp only [getElem_maskSet, hmask, if_true, and_self]

theorem live_wdActed : vget (portOf (wdActed p mask s) p).live 31 0 = (vget (portOf s p).live 31 0 + 1) % 2 ^ 64 := by
  rw [wdActed, live_macCount_same hp _ 1 (by decide), live_pauseMod hp, endPause, live_pauseMod hp]

end

/-- A recovery by the watchdog on a class, counted, logged and reported. -/
def wdLogged (p c : Nat) (data : List Byte) (s : State) : State :=
  issueEvent 0x0402 p data (recover 6 c p (bump (groupEvent (p / 8) 22) 1 s))

theorem keepsBut_wdLogged (p c : Nat) (data : List Byte) (s : State) : keepsBut [.mb, .host, .pc] s (wdLogged p c data s) :=
  keepsBut_then (l := [.pc]) (keepsBut_trans (keepsBut_bump _ 1 s) (keepsBut_recover 6 c p _)) (keepsBut_issueEvent _ p data _)
    (by simp) (by simp)

theorem wdLogged_kinds (p c : Nat) (data : List Byte) (s : State) :
    vget (wdLogged p c data s).pc.kinds 6 0 = satU 32 (vget s.pc.kinds 6 0 + 1) := by
  rw [wdLogged, issueEvent_kinds]
  exact vmodN_same s.pc.kinds 6 _ 0 (by decide)

section
variable {p : PortIx} {c : Fin 8} {s : State}

section
variable (hpaused : (portOf s p.val).pause.paused[c] = true)
include hpaused

theorem exec_pauseTimerExpiry : exec (.pauseTimerExpiry p c) s =
    .next (settle (endPause p.val (rxMask s p.val c.val) s)) := by
  show execPauseTimerExpiry p c s = _
  rw [execPauseTimerExpiry, if_pos hpaused]
  rfl

/-- The pause timer resumes its class, or all of them in PAUSE mode. -/
theorem pauseTimerExpiry_resumes :
    ∃ t, exec (.pauseTimerExpiry p c) s = .next t ∧ keepsBut [.port, .msi] s t ∧ otherPorts p.val s t ∧
      (portOf t p.val).pause.paused[c] = false ∧ (portOf t p.val).pause.held[c] = false ∧
      (par s 0x10E p.val ≠ 1 → ∀ k : Fin 8, k ≠ c → (portOf t p.val).pause.paused[k] = (portOf s p.val).pause.paused[k]) ∧
      (par s 0x10E p.val = 1 → ∀ k : Fin 8, (portOf t p.val).pause.paused[k] = false) := by
  obtain ⟨hframe, hothers⟩ := (portMoved_endPause p.val (rxMask s p.val c.val) s).settled
  have hself := testBit_rxMask_self s p.val c
  refine ⟨_, exec_pauseTimerExpiry hpaused, hframe, hothers, ?_⟩
  rw [portOf_settle, endPause, pause_pauseMod p.isLt]
  simp only [getElem_maskSet]
  refine ⟨if_pos hself, if_pos hself, fun hmode k hk => if_neg ?_, fun hmode k => if_pos (testBit_rxMask_all hmode c k)⟩
  simp [testBit_rxMask_other hmode hk]

theorem exec_pauseWdExpiry (hlimit : 0 < parN s 0x110 p.val) : exec (.pauseWdExpiry p c) s =
    .next (settle (wdLogged p.val c.val [BitVec.ofNat 8 (if rxMask s p.val c.val = 255 then 0 else c.val)]
      (wdActed p.val (rxMask s p.val c.val) s))) := by
  show execPauseWdExpiry p c s = _
  unfold execPauseWdExpiry
  extract_lets n m
  exact if_pos (by simp [n, hpaused, hlimit])

/-- The watchdog resumes the class, ignores pause for it, counts and logs. -/
theorem pauseWdExpiry_ignores (hlimit : 0 < parN s 0x110 p.val) :
    ∃ t, exec (.pauseWdExpiry p c) s = .next t ∧ keepsBut [.port, .host, .msi, .mb, .pc] s t ∧ otherPorts p.val s t ∧
      (portOf t p.val).pause.paused[c] = false ∧ (portOf t p.val).pause.wdIgnore[c] = true ∧
      (portOf t p.val).pause.wdEvent = true ∧ vget t.pc.kinds 6 0 = satU 32 (vget s.pc.kinds 6 0 + 1) ∧
      vget (portOf t p.val).live 31 0 = (vget (portOf s p.val).live 31 0 + 1) % 2 ^ 64 := by
  have hexec := exec_pauseWdExpiry hpaused hlimit
  have hacted := portMoved_wdActed p.val (rxMask s p.val c.val) s
  obtain ⟨hresumed, hignored, hevent⟩ := pause_wdActed p.isLt s (testBit_rxMask_self s p.val c)
  have hlive := live_wdActed (mask := rxMask s p.val c.val) p.isLt s
  generalize wdActed p.val (rxMask s p.val c.val) s = u at hexec hacted hresumed hignored hevent hlive
  have hlogged := fun data => keepsBut_wdLogged p.val c.val data u
  have hport := fun data => portOf_of_keepsBut (hlogged data) (by simp) p.val
  refine ⟨_, hexec, ?_, ?_, ?_, ?_, ?_, ?_, ?_⟩
  · exact keepsBut_done (keepsBut_then hacted.frame (hlogged _) (by simp) (by simp)) (by simp)
  · exact otherPorts_settle (otherPorts_trans hacted.others (otherPorts_of_keepsBut (hlogged _) (by simp) _))
  · rw [portOf_settle, hport, hresumed]
  · rw [portOf_settle, hport, hignored]
  · rw [portOf_settle, hport, hevent]
  · rw [settle_pc, wdLogged_kinds, show u.pc = s.pc from hacted.frame .pc (by simp)]
  · rw [portOf_settle, hport, hlive]

end

/-- Pause is honoured again when PAUSE_RECOVERY ends. -/
theorem pauseRecoveryEnd_honours (hig : (portOf s p.val).pause.wdIgnore[c] = true) :
    ∃ t, exec (.pauseRecoveryEnd p c) s = .next t ∧ keepsBut [.port, .msi] s t ∧ otherPorts p.val s t ∧
      (portOf t p.val).pause.wdIgnore[c] = false ∧ (portOf t p.val).pause.wdEvent = (portOf s p.val).pause.wdEvent := by
  have hexec : exec (.pauseRecoveryEnd p c) s = .next (settle (pauseMod p.val (fun x => { x with
      wdIgnore := maskSet x.wdIgnore (rxMask s p.val c.val) false }) s)) := if_pos hig
  obtain ⟨hframe, hothers⟩ := (portMoved_pauseMod p.val (fun x => { x with
    wdIgnore := maskSet x.wdIgnore (rxMask s p.val c.val) false }) s).settled
  refine ⟨_, hexec, hframe, hothers, ?_⟩
  rw [portOf_settle, pause_pauseMod p.isLt, getElem_maskSet, testBit_rxMask_self]
  exact ⟨rfl, rfl⟩

end

/-! ### A pause sent again (R253) -/

/-- A pause frame, among those sent. -/
def pauseNoted (mask quanta : Nat) (wire : List Byte) (x : PortPause) : PortPause :=
  { x with sent := (mask, quanta) :: x.sent, wire := wire :: x.wire }

theorem pauseSend_eq (p mask quanta : Nat) (s : State) : pauseSend p mask quanta s =
    macCount p 25 1 (macCount p 23 1 (macCount p 21 1 (macCount p 20 64
      (pauseMod p (pauseNoted mask quanta (pauseFrame (interject p s) p mask quanta)) (interject p s))))) := rfl

theorem portMoved_pauseSend (p mask quanta : Nat) (s : State) : PortMoved p s (pauseSend p mask quanta s) := by
  rw [pauseSend_eq]
  exact (((((portMoved_interject p s).trans (portMoved_pauseMod p _ _)).trans (portMoved_macCount p 20 64 _)).trans
    (portMoved_macCount p 21 1 _)).trans (portMoved_macCount p 23 1 _)).trans (portMoved_macCount p 25 1 _)

/-- A pause frame's bytes rest on the parameters and on the modes of the groups. -/
theorem pauseFrame_congr {s t : State} (hpar : t.par = s.par) (hgroup : t.group = s.group) (p mask quanta : Nat) :
    pauseFrame t p mask quanta = pauseFrame s p mask quanta := by
  simp only [pauseFrame, pfcPriorities, parN, par_congr hpar hgroup]

theorem pause_pauseSend {p : Nat} (hp : p < 192) (mask quanta : Nat) (s : State) : (portOf (pauseSend p mask quanta s) p).pause =
    pauseNoted mask quanta (pauseFrame s p mask quanta) (portOf s p).pause := by
  obtain ⟨tx, live, hport⟩ := portOf_interject hp s
  have hframe := (portMoved_interject p s).frame
  rw [pauseSend_eq, pause_macCount hp, pause_macCount hp, pause_macCount hp, pause_macCount hp, pause_pauseMod hp, hport,
    pauseFrame_congr (hframe .par (by simp)) (hframe .group (by simp))]

section
variable {p : PortIx} {c : Fin 8} {s : State} (hup : (portOf s p.val).st = .up)
  (hxoff : vget (portOf s p.val).pause.xoff (pauseCls s p.val c.val) false = true)
  (hfill : (parC s 0x113 p.val (pauseCls s p.val c.val)).toNat < fillOf s p.val (pauseCls s p.val c.val))
include hup hxoff hfill

theorem exec_pauseRepeat : exec (.pauseRepeat p c) s =
    .next (settle (pauseSend p.val (pauseMask s p.val (pauseCls s p.val c.val)) 0xFFFF s)) := by
  show execPauseRepeat p c s = _
  unfold execPauseRepeat
  extract_lets n k
  exact if_pos (by simp [n, k, hup, hxoff, hfill])

theorem pauseRepeat_sends :
    ∃ t, exec (.pauseRepeat p c) s = .next t ∧ keepsBut [.port, .msi] s t ∧ otherPorts p.val s t ∧
      (portOf t p.val).pause = { (portOf s p.val).pause with
        sent := (pauseMask s p.val (pauseCls s p.val c.val), 0xFFFF) :: (portOf s p.val).pause.sent
        wire := pauseFrame s p.val (pauseMask s p.val (pauseCls s p.val c.val)) 0xFFFF :: (portOf s p.val).pause.wire } := by
  obtain ⟨hframe, hothers⟩ := (portMoved_pauseSend p.val (pauseMask s p.val (pauseCls s p.val c.val)) 0xFFFF s).settled
  refine ⟨_, exec_pauseRepeat hup hxoff hfill, hframe, hothers, ?_⟩
  rw [portOf_settle, pause_pauseSend p.isLt, pauseNoted]

end

/-! ### Verification of preemption (R248) -/

/-- The merge sublayer of a port changes. -/
def preMod (p : Nat) (f : PortPreempt → PortPreempt) (s : State) : State := portMod p (fun q => { q with pre := f q.pre }) s

theorem pre_preMod {p : Nat} (hp : p < 192) (f : PortPreempt → PortPreempt) (s : State) :
    (portOf (preMod p f s) p).pre = f (portOf s p).pre := by
  rw [preMod, portOf_portMod_same hp]

theorem portMoved_preMod (p : Nat) (f : PortPreempt → PortPreempt) (s : State) : PortMoved p s (preMod p f s) :=
  portMoved_portMod p _ s

section
variable {p : PortIx} {s : State} (hverify : (portOf s p.val).pre.verify = 1)
include hverify

theorem exec_preemptVerifyTimer_again (hn : (portOf s p.val).pre.attempts < 3) : exec (.preemptVerifyTimer p) s =
    .next (settle (preMod p.val (fun x => { x with attempts := x.attempts + 1 }) s)) := by
  show execPreemptVerifyTimer p s = _
  rw [execPreemptVerifyTimer, if_pos hverify]
  exact if_pos hn

theorem exec_preemptVerifyTimer_fails (hn : 3 ≤ (portOf s p.val).pre.attempts) : exec (.preemptVerifyTimer p) s =
    .next (settle (preMod p.val (fun x => { x with verify := 3, active := false }) s)) := by
  show execPreemptVerifyTimer p s = _
  rw [execPreemptVerifyTimer, if_pos hverify]
  exact if_neg (by omega)

/-- Three attempts, and then FAILED. -/
theorem preemptVerifyTimer_tries_thrice :
    ∃ t, exec (.preemptVerifyTimer p) s = .next t ∧ keepsBut [.port, .msi] s t ∧ otherPorts p.val s t ∧
      ((portOf s p.val).pre.attempts < 3 → (portOf t p.val).pre.verify = 1 ∧
        (portOf t p.val).pre.attempts = (portOf s p.val).pre.attempts + 1 ∧
        (portOf t p.val).pre.active = (portOf s p.val).pre.active) ∧
      (3 ≤ (portOf s p.val).pre.attempts → (portOf t p.val).pre.verify = 3 ∧ (portOf t p.val).pre.active = false) := by
  have hmoved := fun f => (portMoved_preMod p.val f s).settled
  rcases Nat.lt_or_ge (portOf s p.val).pre.attempts 3 with hn | hn
  · refine ⟨_, exec_preemptVerifyTimer_again hverify hn, (hmoved _).1, (hmoved _).2, fun _ => ?_, fun h => absurd h (by omega)⟩
    rw [portOf_settle, pre_preMod p.isLt]
    exact ⟨hverify, rfl, rfl⟩
  · refine ⟨_, exec_preemptVerifyTimer_fails hverify hn, (hmoved _).1, (hmoved _).2, fun h => absurd h (by omega), fun _ => ?_⟩
    rw [portOf_settle, pre_preMod p.isLt]
    exact ⟨rfl, rfl⟩

theorem preemptVerifyResponse_verifies (frag : Fin 4) :
    ∃ t, exec (.preemptVerifyResponse p frag) s = .next t ∧ keepsBut [.port, .msi] s t ∧ otherPorts p.val s t ∧
      (portOf t p.val).pre.verify = 2 ∧ (portOf t p.val).pre.active = true ∧ (portOf t p.val).pre.peerFrag = frag.val := by
  have hexec : exec (.preemptVerifyResponse p frag) s = .next (settle (preMod p.val (fun x => { x with
      verify := 2, active := true, peerFrag := frag.val }) s)) := if_pos hverify
  obtain ⟨hframe, hothers⟩ := (portMoved_preMod p.val (fun x => { x with verify := 2, active := true, peerFrag := frag.val }) s).settled
  refine ⟨_, hexec, hframe, hothers, ?_⟩
  rw [portOf_settle, pre_preMod p.isLt]
  exact ⟨rfl, rfl, rfl⟩

end

/-- Settles O29: pauses received with a bad FCS and with a good one, the four moments of a pause that runs or was sent, and the
timer and the response of a verification. -/
theorem pauseAndPreemption : Obligations.PauseAndPreemption := by
  unfold Obligations.PauseAndPreemption
  exact ⟨fun p pfc quanta i s hup => ⟨pauseReceive_bad hup, pauseReceive_good hup⟩,
    fun p c s => ⟨pauseTimerExpiry_resumes, pauseWdExpiry_ignores, pauseRecoveryEnd_honours, pauseRepeat_sends⟩,
    fun p frag s hverify => ⟨preemptVerifyTimer_tries_thrice hverify, preemptVerifyResponse_verifies hverify frag⟩⟩

end Sys2Proof.Machine

/-! The states of a port (R241, R243, R248, R254, R334, R366, R384): what a port carries along as it comes UP, loses its link,
falls from HOLD, negotiates, and times out on its way up. -/

namespace Sys2Proof.Machine

-- The joined text is one compile: no thread beside the main one for each proof.
set_option Elab.async false

theorem parB_congr {s t : State} (hpar : t.par = s.par) (hgroup : t.group = s.group) (id sel : Nat) :
    parB t id sel = parB s id sel := by
  rw [parB, parB, par_congr hpar hgroup]

/-! ### UP (R243, R248, R366) -/

/-- A hello moves the transmitter and the counters of its port alone. -/
theorem portOf_sendHello {p : Nat} (hp : p < 192) (s : State) :
    ∃ tx live, portOf (sendHello p s) p = { portOf s p with tx := tx, live := live } := by
  rw [sendHello_eq]
  split
  · obtain ⟨tx, live, h⟩ := portOf_interject hp (helloLeft p s)
    rw [portOf_of_keepsBut (keepsBut_helloLeft p s) (by simp)] at h
    rw [countSent, portOf_macCount hp, portOf_macCount hp, portOf_macCount hp, h]
    exact ⟨_, _, rfl⟩
  · exact ⟨_, _, rfl⟩

/-- The wake times that an Energy-Efficient Ethernet port advertises. -/
def wakeTimes (s : State) (p : Nat) : Option (Nat × Nat) := if eeeKind s p = 0 then none else some (40, 40)

/-- Preemption as a port comes UP. -/
def preStarted (on verify : Bool) (x : PortPreempt) : PortPreempt :=
  if on then { x with verify := if verify then 1 else 4, attempts := if verify then 1 else 0, active := !verify }
  else { x with verify := 0, attempts := 0, active := false }

/-- A port that is UP, with preemption begun again. -/
def linkedUp (p : Nat) (s : State) : State :=
  startPreempt p (portMod p (fun q => { q with st := .up, holdStart := 0, dllWake := wakeTimes s p }) s)

/-- What hears of it: the host, the group servo, and the peer by a hello. -/
def announced (p : Nat) (s : State) : State := sendHello p (servoAdvance (p / 8) (portEvent p s))

/-- A sleep that waited for UP goes on. -/
def sleepResumed (p : Nat) (s : State) : State :=
  if (portOf s p).sleep.txWaiting && kindFab s p then startSleep p s else s

theorem startPreempt_eq (p : Nat) (s : State) :
    startPreempt p s = preMod p (preStarted (parB s 0x109 p) (parB s 0x10A p)) s := by
  unfold startPreempt preStarted
  dsimp only
  split
  · rfl
  · rfl

theorem linkedUp_eq (p : Nat) (s : State) : linkedUp p s = preMod p (preStarted (parB s 0x109 p) (parB s 0x10A p))
    (portMod p (fun q => { q with st := .up, holdStart := 0, dllWake := wakeTimes s p }) s) := by
  rw [linkedUp, startPreempt_eq, parB_congr (portMod_par p _ s) (portMod_group p _ s),
    parB_congr (portMod_par p _ s) (portMod_group p _ s)]

theorem portMoved_linkedUp (p : Nat) (s : State) : PortMoved p s (linkedUp p s) := by
  rw [linkedUp_eq]
  exact (portMoved_portMod p _ s).trans (portMoved_preMod p _ _)

theorem portOf_linkedUp {p : Nat} (hp : p < 192) (s : State) : portOf (linkedUp p s) p = { portOf s p with
    st := .up, holdStart := 0, dllWake := wakeTimes s p
    pre := preStarted (parB s 0x109 p) (parB s 0x10A p) (portOf s p).pre } := by
  rw [linkedUp_eq, preMod, portOf_portMod_same hp, portOf_portMod_same hp]

theorem announced_frame (p : Nat) (s : State) :
    keepsBut [.lane, .group, .port, .cal, .fab, .host, .mb, .pc] s (announced p s) ∧ otherPorts p s (announced p s) := by
  have hevent := keepsBut_portEvent p s
  have hservo := (servoWork_servoAdvance (p / 8) (portEvent p s)).frame
  obtain ⟨hhello, hothers⟩ := sendHello_frame p (servoAdvance (p / 8) (portEvent p s))
  exact ⟨keepsBut_then (keepsBut_then (n := [.lane, .group, .cal, .host, .mb, .pc]) hevent hservo (by simp) (by simp)) hhello
      (by simp) (by simp),
    otherPorts_trans (otherPorts_of_keepsBut hevent (by simp) p)
      (otherPorts_trans (otherPorts_of_keepsBut hservo (by simp) p) hothers)⟩

theorem portOf_announced {p : Nat} (hp : p < 192) (s : State) :
    ∃ tx live, portOf (announced p s) p = { portOf s p with tx := tx, live := live } := by
  obtain ⟨tx, live, h⟩ := portOf_sendHello hp (servoAdvance (p / 8) (portEvent p s))
  rw [portOf_of_keepsBut (servoWork_servoAdvance (p / 8) _).frame (by simp),
    portOf_of_keepsBut (keepsBut_portEvent p s) (by simp)] at h
  exact ⟨tx, live, h⟩

theorem portMoved_sleepResumed (p : Nat) (s : State) : PortMoved p s (sleepResumed p s) := by
  unfold sleepResumed
  split
  · exact portMoved_sendSet_sleepMod p _ _ _ _ s
  · exact .refl p s

theorem portOf_sleepResumed {p : Nat} (hp : p < 192) (s : State) :
    ∃ sleep, portOf (sleepResumed p s) p = { portOf s p with sleep := sleep } := by
  unfold sleepResumed
  split
  · rw [startSleep, sendSet, portOf_sleepMod hp, portOf_sleepMod hp]
    exact ⟨_, rfl⟩
  · exact ⟨_, rfl⟩

section
variable {p : PortIx} {s : State}

theorem exec_portLinkUp_stays (h : linkReady s p.val = false) : exec (.portLinkUp p) s = .next (settle s) := by
  show execPortLinkUp p s = _
  rw [execPortLinkUp, if_neg (by simp [h])]
  rfl

theorem exec_portLinkUp (h : linkReady s p.val = true) : exec (.portLinkUp p) s =
    .next (settle (sleepResumed p.val (announced p.val (linkedUp p.val s)))) := by
  show execPortLinkUp p s = _
  rw [execPortLinkUp, if_pos h]
  rfl

/-- A port whose conditions hold comes UP. -/
theorem portLinkUp_comes_up (h : linkReady s p.val = true) :
    ∃ t, exec (.portLinkUp p) s = .next t ∧ keepsBut [.lane, .group, .port, .cal, .fab, .host, .msi, .mb, .pc] s t ∧
      otherPorts p.val s t ∧ (portOf t p.val).st = .up ∧
      (portOf t p.val).dllWake = (if eeeKind s p.val = 0 then none else some (40, 40)) ∧ (portOf t p.val).ld = (portOf s p.val).ld ∧
      (portOf t p.val).pre.active = (parB s 0x109 p.val && !parB s 0x10A p.val) ∧
      (portOf t p.val).pre.verify = if parB s 0x109 p.val then (if parB s 0x10A p.val then 1 else 4) else 0 := by
  have hup := portMoved_linkedUp p.val s
  obtain ⟨hframe, hothers⟩ := announced_frame p.val (linkedUp p.val s)
  have hsleep := portMoved_sleepResumed p.val (announced p.val (linkedUp p.val s))
  obtain ⟨tx, live, hport⟩ := portOf_announced p.isLt (linkedUp p.val s)
  obtain ⟨sleep, hlast⟩ := portOf_sleepResumed p.isLt (announced p.val (linkedUp p.val s))
  refine ⟨_, exec_portLinkUp h, ?_, ?_, ?_⟩
  · exact keepsBut_done (keepsBut_then (keepsBut_then hup.frame hframe (by simp) (fun _ q => q)) hsleep.frame
      (by simp) (by simp)) (by simp)
  · exact otherPorts_settle (otherPorts_trans hup.others (otherPorts_trans hothers hsleep.others))
  · rw [portOf_settle, hlast, hport, portOf_linkedUp p.isLt]
    refine ⟨rfl, rfl, rfl, ?_⟩
    unfold preStarted
    cases parB s 0x109 p.val <;> exact ⟨rfl, rfl⟩

end

/-! ### Frames that leave with the link (R254, R307) -/

/-- What the flush of a port leaves of each port: the pauses it has received, and the state of its delay. -/
def linkKept (q : Port) : Vector Bool 8 × Nat := (q.pause.paused, q.ld.dstate)

/-- Frames leave queues and buffers: no recovery is logged. -/
structure FramesLeave (s t : State) : Prop where
  kinds : t.pc.kinds = s.pc.kinds
  link : ∀ p, linkKept (portOf t p) = linkKept (portOf s p)

namespace FramesLeave

theorem refl (s : State) : FramesLeave s s := ⟨rfl, fun _ => rfl⟩

theorem trans {s t u : State} (h : FramesLeave s t) (k : FramesLeave t u) : FramesLeave s u :=
  ⟨k.kinds.trans h.kinds, fun p => (k.link p).trans (h.link p)⟩

/-- Work that may count by performance counters. -/
theorem of_counted {l : List Part} {s t : State} (h : keepsBut l s t) (hkinds : t.pc.kinds = s.pc.kinds)
    (hport : Part.port ∉ l := by simp) : FramesLeave s t :=
  ⟨hkinds, fun p => by rw [portOf_of_keepsBut h hport]⟩

/-- Work on other parts. -/
theorem of_frame {l : List Part} {s t : State} (h : keepsBut l s t) (hport : Part.port ∉ l := by simp)
    (hpc : Part.pc ∉ l := by simp) : FramesLeave s t := of_counted h (by rw [h .pc hpc]) hport

theorem of_portMod {p : Nat} {f : Port → Port} (s : State) (h : ∀ q, linkKept (f q) = linkKept q := by exact fun _ => rfl) :
    FramesLeave s (portMod p f s) := ⟨rfl, fun j => portOf_portMod_kept linkKept h p j s⟩

theorem of_macCount (p k n : Nat) (s : State) : FramesLeave s (macCount p k n s) :=
  of_portMod (f := fun q => { q with live := vmodN q.live k (fun v => (v + n) % 2 ^ 64) }) s

theorem of_foldl {α : Type} {f : State → α → State} (h : ∀ t x, FramesLeave t (f t x)) (xs : List α) (s : State) :
    FramesLeave s (xs.foldl f s) :=
  List.foldlRecOn xs f (motive := FramesLeave s) (refl s) fun t ht x _ => ht.trans (h t x)

end FramesLeave

/-- A completion written back is counted by performance counters alone. -/
theorem txWriteback_kinds (x : TxPend) (res : Nat) (ts : Option (BitVec 64)) (s : State) :
    (txWriteback x res ts s).pc.kinds = s.pc.kinds := by
  unfold txWriteback
  extract_lets eop stamp s₁ s₂ s₃ s₄
  have h₁ : s₁.pc = s.pc := foldl_keeps State.pc _ (fun t a => keepsBut_hostWrite (a + 15) [0x80] t .pc (by simp)) _ s
  have h₂ : s₂.pc = s₁.pc := by
    simp only [s₂]
    clear_value stamp
    split
    · rfl
    · rfl
  have h₄ : s₄.pc = s₃.pc := keepsBut_ringMod _ _ _ s₃ .pc (by simp)
  have h : s₄.pc = s.pc := h₄.trans (h₂.trans h₁)
  split
  · rw [bump_kinds, h]
  · rw [h]

theorem txDrain_kinds (r n : Nat) (s : State) : (txDrain r n s).pc.kinds = s.pc.kinds := by
  induction n generalizing s with
  | zero => rfl
  | succ n ih =>
    unfold txDrain
    split
    · split
      · rw [ih, txWriteback_kinds]
      · rfl
    · rfl

theorem hostDropped_kinds (d : FrameDesc) (s : State) : (hostDropped d s).pc.kinds = s.pc.kinds := by
  unfold hostDropped hostTxDone
  split
  · split
    · rw [txDrain_kinds]
    · rfl
  · rfl

theorem framesLeave_hostDropped (d : FrameDesc) (s : State) : FramesLeave s (hostDropped d s) :=
  .of_counted (keepsBut_hostDropped d s) (hostDropped_kinds d s)

theorem framesLeave_interject (p : Nat) (s : State) : FramesLeave s (interject p s) := by
  unfold interject
  dsimp only
  split
  · rw [interrupt_eq]
    exact (FramesLeave.of_portMod s).trans (.of_macCount p 26 1 _)
  · exact .refl s

theorem framesLeave_pauseSend (p mask quanta : Nat) (s : State) : FramesLeave s (pauseSend p mask quanta s) := by
  have hnoted : ∀ w t, FramesLeave t (pauseMod p (pauseNoted mask quanta w) t) := fun _ t => .of_portMod t
  rw [pauseSend_eq]
  exact (((((framesLeave_interject p s).trans (hnoted _ _)).trans (.of_macCount p 20 64 _)).trans
    (.of_macCount p 21 1 _)).trans (.of_macCount p 23 1 _)).trans (.of_macCount p 25 1 _)

theorem framesLeave_pauseJudge (p c : Nat) (s : State) : FramesLeave s (pauseJudge p c s) := by
  have hxoff : ∀ mask quanta b, FramesLeave s (pauseSend p mask quanta (setXoff p mask b s)) := fun mask quanta b =>
    (FramesLeave.of_portMod (f := fun q => { q with pause := { q.pause with
      xoff := vmapI q.pause.xoff (fun i v => if mask.testBit i.val then b else v) } }) s).trans
      (framesLeave_pauseSend p mask quanta _)
  unfold pauseJudge
  dsimp only
  split
  · exact .refl s
  · split
    · exact hxoff _ _ _
    · split
      · exact hxoff _ _ _
      · exact .refl s

theorem framesLeave_dropQueued (d : FrameDesc) (s : State) : FramesLeave s (dropQueued d s) := by
  unfold dropQueued countCells
  refine FramesLeave.trans ?_ (framesLeave_hostDropped d _)
  split
  · exact .refl s
  · exact (FramesLeave.of_portMod (p := d.port) (f := fun q => { q with pause := { q.pause with
      cells := vmodN q.pause.cells d.cls (fun v => if false then v + cellsLeft d else v - cellsLeft d) } }) s).trans
      (framesLeave_pauseJudge d.port d.cls _)

theorem framesLeave_flushVoq (g p c stat : Nat) (s : State) : FramesLeave s (flushVoq g p c stat s) :=
  (FramesLeave.of_frame (keepsBut_setVoq g p c [] s)).trans
    (.of_foldl (fun t d => (framesLeave_dropQueued d t).trans (.of_macCount p stat 1 _)) _ _)

theorem framesLeave_flushEgress (p stat : Nat) (keep : EgFrame → Bool) (s : State) : FramesLeave s (flushEgress p stat keep s) :=
  (FramesLeave.of_frame (keepsBut_outMod (p / 8) _ s)).trans
    (.of_foldl (fun t (e : EgFrame) => (framesLeave_hostDropped e.desc t).trans (.of_macCount p stat 1 _)) _ _)

theorem framesLeave_dropCal (p : Nat) (s : State) : FramesLeave s (dropCal p s) := by
  refine FramesLeave.trans (.of_foldl (fun t g => ?_) _ s) (framesLeave_flushEgress p 30 _ _)
  exact (FramesLeave.of_frame (keepsBut_inMod g _ t)).trans
    (.of_foldl (fun u d => (FramesLeave.of_frame (keepsBut_copyDropped d u)).trans (.of_macCount p 30 1 _)) _ _)

theorem framesLeave_flushPort (p : Nat) (s : State) : FramesLeave s (flushPort p s) := by
  refine FramesLeave.trans (.of_foldl (fun t g => ?_) _ s) ((framesLeave_dropCal p _).trans (framesLeave_flushEgress p 29 _ _))
  exact .of_foldl (fun u c => framesLeave_flushVoq g p c 29 u) _ t

/-! ### Virtual output queues (R254) -/

/-- The virtual output queues of an input group. -/
def voqs (g : Nat) (s : State) : Tbl Queue := (inGrp s g).voq

theorem voqOf_eq (s : State) (g p c : Nat) : voqOf s g p c = (Tbl.get (voqs g s) (voqKey p c)).getD {} := rfl

theorem voqs_of_q {s t : State} (h : t.q = s.q) (g : Nat) : voqs g t = voqs g s := by
  rw [voqs, voqs, inGrp, inGrp, h]

theorem voqs_flushEgress (g p stat : Nat) (keep : EgFrame → Bool) (s : State) : voqs g (flushEgress p stat keep s) = voqs g s := by
  refine foldl_keeps (voqs g) _ (fun t (e : EgFrame) => ?_) _ _
  exact voqs_of_q (keepsBut_hostDropped e.desc t .q (by simp)) g

/-- Calendar frames have queues of their own. -/
theorem voqs_dropCal (g p : Nat) (s : State) : voqs g (dropCal p s) = voqs g s := by
  refine (voqs_flushEgress g p 30 _ _).trans (foldl_keeps (voqs g) _ (fun t k => ?_) _ s)
  refine (foldl_keeps (voqs g) _ (fun u d => ?_) _ _).trans ?_
  · exact voqs_of_q (keepsBut_copyDropped d u .q (by simp)) g
  exact vget_vmodN_kept t.q.inp k g {} InGroup.voq (by exact fun _ => rfl)


theorem voqs_setVoq_same {g : Nat} (hg : g < 24) (p c : Nat) (s : State) :
    voqs g (setVoq g p c [] s) = Tbl.erase (voqs g s) (voqKey p c) :=
  congrArg InGroup.voq (vmodN_same s.q.inp g _ {} hg)

theorem voqs_setVoq_other {g k : Nat} (h : g ≠ k) (p c : Nat) (s : State) : voqs g (setVoq k p c [] s) = voqs g s :=
  congrArg InGroup.voq (vmodN_other s.q.inp k g _ {} h)

theorem voqs_flushVoq (g k p c stat : Nat) (s : State) : voqs g (flushVoq k p c stat s) = voqs g (setVoq k p c [] s) := by
  refine foldl_keeps (voqs g) _ (fun t d => ?_) _ _
  exact voqs_of_q (keepsBut_dropQueued d t .q (by simp)) g

/-- A virtual output queue holds nothing. -/
def voqEmpty (g p c : Nat) (s : State) : Prop := Tbl.get (voqs g s) (voqKey p c) = none

theorem voqOf_of_voqEmpty {g p c : Nat} {s : State} (h : voqEmpty g p c s) : (voqOf s g p c).frames = [] := by
  rw [voqOf_eq, show Tbl.get (voqs g s) (voqKey p c) = none from h]
  rfl

theorem voqEmpty_of_voqs {g p c : Nat} {s t : State} (h : voqs g t = voqs g s) (he : voqEmpty g p c s) : voqEmpty g p c t := by
  rw [voqEmpty, h]
  exact he

/-- A flush empties its queue. -/
theorem voqEmpty_flushVoq {g : Nat} (hg : g < 24) (p c stat : Nat) (s : State) : voqEmpty g p c (flushVoq g p c stat s) := by
  rw [voqEmpty, voqs_flushVoq, voqs_setVoq_same hg, Tbl.get_erase, if_pos rfl]

/-- A flush of any queue leaves an empty one empty. -/
theorem voqEmpty_flushVoq_kept {g : Nat} (hg : g < 24) {p c : Nat} (k q e stat : Nat) {s : State} (h : voqEmpty g p c s) :
    voqEmpty g p c (flushVoq k q e stat s) := by
  by_cases hk : g = k
  · subst hk
    rw [voqEmpty, voqs_flushVoq, voqs_setVoq_same hg, Tbl.get_erase]
    split
    · rfl
    · exact h
  · exact voqEmpty_of_voqs ((voqs_flushVoq g k q e stat s).trans (voqs_setVoq_other hk q e s)) h

/-- What one step of a fold brings about, and the others preserve, the fold brings about. -/
theorem foldl_reaches {α β : Type} {f : β → α → β} {I P : β → Prop} {xs : List α} {x : α} (hx : x ∈ xs)
    (hI : ∀ t, I t → ∀ y ∈ xs, I (f t y)) (hP : ∀ t, I t → P t → ∀ y ∈ xs, P (f t y)) (hset : ∀ t, I t → P (f t x))
    {s : β} (hs : I s) : P (xs.foldl f s) := by
  obtain ⟨before, after, rfl⟩ := List.append_of_mem hx
  rw [List.foldl_append, List.foldl_cons]
  have hbefore : I (before.foldl f s) :=
    List.foldlRecOn before f hs fun t ht y hy => hI t ht y (List.mem_append_left _ hy)
  refine (List.foldlRecOn after f (motive := fun t => I t ∧ P t)
    ⟨hI _ hbefore x (by simp), hset _ hbefore⟩ fun t ht y hy => ?_).2
  exact ⟨hI t ht.1 y (by simp [hy]), hP t ht.1 ht.2 y (by simp [hy])⟩

/-- Every virtual output queue of a flushed port is empty. -/
theorem voqEmpty_flushPort {g c : Nat} (hg : g < 24) (hc : c < 8) (p : Nat) (s : State) : voqEmpty g p c (flushPort p s) := by
  have hkept : ∀ k t, voqEmpty g p c t → voqEmpty g p c ((List.range 8).foldl (fun s e => flushVoq k p e 29 s) t) := fun k t ht =>
    List.foldlRecOn _ _ ht fun u hu e _ => voqEmpty_flushVoq_kept hg k p e 29 hu
  have hset : ∀ t, voqEmpty g p c ((List.range 8).foldl (fun s e => flushVoq g p e 29 s) t) := fun t =>
    foldl_reaches (I := fun _ => True) (List.mem_range.mpr hc) (fun _ _ _ _ => trivial)
      (fun u _ hu e _ => voqEmpty_flushVoq_kept hg g p e 29 hu) (fun u _ => voqEmpty_flushVoq hg p c 29 u) trivial
  refine voqEmpty_of_voqs ((voqs_flushEgress g p 29 _ _).trans (voqs_dropCal g p _)) ?_
  exact foldl_reaches (I := fun _ => True) (List.mem_range.mpr hg) (fun _ _ _ _ => trivial) (fun t _ ht k _ => hkept k t ht)
    (fun t _ => hset t) trivial

/-! ### A link that ends (R107, R254, R334) -/

/-- The delay state dropped, and with it the group servo that follows the port. -/
def delayEnded (p : Nat) (s : State) : State := servoPortDown p (delayNone p s)

theorem servoPortDown_cases (p : Nat) (s : State) : servoPortDown p s = servoIdle (p / 8) s ∨ servoPortDown p s = s := by
  unfold servoPortDown
  split
  · exact .inl rfl
  · exact .inr rfl

theorem servoWork_servoPortDown (p : Nat) (s : State) : ServoWork (p / 8) s (servoPortDown p s) := by
  rcases servoPortDown_cases p s with h | h
  · rw [h]
    exact servoWork_servoIdle _ s
  · rw [h]
    exact .refl _ s

theorem delayEnded_frame (p : Nat) (s : State) : keepsBut [.lane, .group, .port, .cal] s (delayEnded p s) ∧
    otherPorts p s (delayEnded p s) := by
  obtain ⟨hframe, hothers⟩ := delayNone_frame p s
  have hservo := (servoWork_servoPortDown p (delayNone p s)).frame
  exact ⟨keepsBut_then hframe hservo (by simp) (by simp), otherPorts_trans hothers (otherPorts_of_keepsBut hservo (by simp) p)⟩

theorem portOf_delayEnded {p : Nat} (hp : p < 192) (s : State) : portOf (delayEnded p s) p =
    { portOf s p with ld := noDelay (portOf s p).ld, exch := noExchange (portOf s p).exch } := by
  rw [delayEnded, portOf_of_keepsBut (servoWork_servoPortDown p _).frame (by simp), portOf_delayNone hp]

/-- Pause and preemption as a link leaves them. -/
def linkStopped (q : Port) : Port := { q with
  pause := { q.pause with
    paused := Vector.replicate 8 false, held := Vector.replicate 8 false, wdIgnore := Vector.replicate 8 false
    xoff := Vector.replicate 8 false }
  pre := { q.pre with verify := 0, attempts := 0, active := false } }

/-- The sleep of a port as its link leaves it. -/
def sleepStopped (q : Port) : Port := { q with
  sleep := { q.sleep with
    tx := .awake, rx := .awake, tries := 0, wakePending := false, ackHeld := none, txAlone := false, rxAlone := false }
  shared := false, lowPower := false, txLpi := false, dllWake := none }

/-- Transmission, pause, preemption and sleep ended with the link, and the lanes awake. -/
def linkCut (p : Nat) (s : State) : State :=
  let s := portMod p linkStopped (cutTransmission p s)
  forEach (lanesOf s p) laneWakes (portMod p sleepStopped s)

theorem linkEnds_eq (p : Nat) (s : State) : linkEnds p false false s = delayEnded p (adjDown p (linkCut p s)) := rfl

theorem keepsBut_laneWakes (l : Nat) (s : State) : keepsBut [.lane] s (laneWakes l s) :=
  keepsBut_trans (keepsBut_laneMod l _ s) (keepsBut_laneMod l _ _)

theorem keepsBut_linkCut (p : Nat) (s : State) : keepsBut [.lane, .port, .host, .pc] s (linkCut p s) := by
  have hstopped := keepsBut_portMod p linkStopped (cutTransmission p s)
  refine keepsBut_then (keepsBut_then (n := [.port, .host, .pc]) (keepsBut_cutTransmission p s) hstopped (by simp) (by simp))
    (m := [.lane, .port]) ?_ (by simp) (by simp)
  exact keepsBut_then (keepsBut_portMod p sleepStopped _) (keepsBut_forEach keepsBut_laneWakes _ _) (by simp) (by simp)

theorem paused_linkCut {p : Nat} (hp : p < 192) (s : State) :
    (portOf (linkCut p s) p).pause.paused = Vector.replicate 8 false := by
  rw [linkCut, portOf_of_keepsBut (keepsBut_forEach keepsBut_laneWakes _ _) (by simp), portOf_portMod_same hp,
    portOf_portMod_same hp]
  rfl

theorem keepsBut_adjDown (p : Nat) (s : State) : keepsBut [.fab] s (adjDown p s) := keepsBut_fabMod (fun _ => _) s

/-- The parts that a link's end moves. -/
def linkParts : List Part := [.lane, .group, .port, .cal, .fab, .host, .pc]

theorem keepsBut_linkEnds (p : Nat) (s : State) : keepsBut linkParts s (linkEnds p false false s) := by
  rw [linkEnds_eq]
  exact keepsBut_then (keepsBut_then (n := linkParts) (keepsBut_linkCut p s) (keepsBut_adjDown p _) (by simp [linkParts])
    (by simp [linkParts])) (delayEnded_frame p _).1 (fun _ q => q) (by simp [linkParts])

/-- A link that has ended has no pause and no delay, and its adjacency is down. -/
theorem linkEnds_ends {p : Nat} (hp : p < 192) (s : State) :
    (portOf (linkEnds p false false s) p).pause.paused = Vector.replicate 8 false ∧
    (portOf (linkEnds p false false s) p).ld.dstate = 0 ∧ (vget (linkEnds p false false s).fab.adj p {}).st = .down := by
  have hcut := paused_linkCut hp s
  rw [linkEnds_eq]
  generalize linkCut p s = u at hcut
  rw [portOf_delayEnded hp, portOf_of_keepsBut (keepsBut_adjDown p u) (by simp),
    show (delayEnded p (adjDown p u)).fab = (adjDown p u).fab from (delayEnded_frame p _).1 .fab (by simp)]
  refine ⟨hcut, rfl, ?_⟩
  exact congrArg Adjacency.st (vmodN_same u.fab.adj p _ {} hp)

/-! ### DOWN and HOLD (R243, R254) -/

/-- The state of a port and the cause. -/
def fallen (st : PortSt) (cause : Nat) (q : Port) : Port := { q with st := st, downCause := cause }

/-- DOWN, with what the port held flushed. -/
def flushedDown (p cause : Nat) (s : State) : State :=
  portMod p (fun q => { q with flushed := true }) (portEvent p (portMod p (fallen .down cause) (flushPort p s)))

/-- HOLD, with the queues held but for calendar frames. -/
def heldUp (p cause : Nat) (s : State) : State :=
  portEvent p (portMod p (fun q => { q with st := .hold, downCause := cause, holdStart := (dropCal p s).clk.elapsed }) (dropCal p s))

theorem keepsBut_flushedDown (p cause : Nat) (s : State) :
    keepsBut [.port, .fwd, .q, .host, .mb, .pc] s (flushedDown p cause s) := by
  have hflush := keepsBut_then (n := [.port, .fwd, .q, .host, .pc]) (keepsBut_flushPort p s)
    (keepsBut_portMod p (fallen .down cause) _) (by simp) (by simp)
  exact keepsBut_then (keepsBut_then (n := [.port, .fwd, .q, .host, .mb, .pc]) hflush (keepsBut_portEvent p _) (by simp) (by simp))
    (keepsBut_portMod p _ _) (fun _ q => q) (by simp)

theorem keepsBut_heldUp (p cause : Nat) (s : State) : keepsBut [.port, .fwd, .q, .host, .mb, .pc] s (heldUp p cause s) :=
  keepsBut_then (n := [.port, .fwd, .q, .host, .mb, .pc]) (keepsBut_dropCal p s)
    (keepsBut_then (n := [.port, .host, .mb, .pc]) (keepsBut_portMod p _ _) (keepsBut_portEvent p _) (by simp) (by simp))
    (by simp) (by simp)

section
variable {p : Nat} (hp : p < 192) (cause : Nat) (s : State)
include hp

theorem portOf_flushedDown : portOf (flushedDown p cause s) p =
    { portOf (flushPort p s) p with st := .down, downCause := cause, flushed := true } := by
  rw [flushedDown, portOf_portMod_same hp, portOf_of_keepsBut (keepsBut_portEvent p _) (by simp), portOf_portMod_same hp]
  rfl

theorem portOf_heldUp : portOf (heldUp p cause s) p =
    { portOf (dropCal p s) p with st := .hold, downCause := cause, holdStart := (dropCal p s).clk.elapsed } := by
  rw [heldUp, portOf_of_keepsBut (keepsBut_portEvent p _) (by simp), portOf_portMod_same hp]

/-- What a fall leaves of pause and delay. -/
theorem linkKept_fall : linkKept (portOf (flushedDown p cause s) p) = linkKept (portOf s p) ∧
    linkKept (portOf (heldUp p cause s) p) = linkKept (portOf s p) := by
  rw [portOf_flushedDown hp, portOf_heldUp hp]
  exact ⟨(framesLeave_flushPort p s).link p, (framesLeave_dropCal p s).link p⟩

end

theorem voqs_heldUp (g p cause : Nat) (s : State) : voqs g (heldUp p cause s) = voqs g s := by
  refine (voqs_of_q ?_ g).trans (voqs_dropCal g p s)
  exact keepsBut_portEvent p _ .q (by simp)

theorem voqEmpty_flushedDown {g c : Nat} (hg : g < 24) (hc : c < 8) (p cause : Nat) (s : State) :
    voqEmpty g p c (flushedDown p cause s) :=
  voqEmpty_of_voqs (voqs_of_q (keepsBut_portEvent p _ .q (by simp)) g) (voqEmpty_flushPort hg hc p s)

theorem flushedDown_kinds (p cause : Nat) (s : State) : (flushedDown p cause s).pc.kinds = s.pc.kinds :=
  (issueEvent_kinds _ _ _ _).trans (framesLeave_flushPort p s).kinds

/-- A port that was not DOWN falls. -/
theorem portDown_down {p : Nat} {s : State} (h : (portOf s p).st ≠ .down) (cause : Nat) (keepDelay : Bool) :
    portMod p (fun q => { q with flushed := true }) (portDown p .down cause keepDelay s) = flushedDown p cause
      (if (portOf s p).st == .up then linkEnds p keepDelay keepDelay s else if keepDelay then s else delayEnded p s) := by
  unfold portDown
  extract_lets was s₁ s₂ s₃
  rw [if_neg (by simp [was, h])]
  rfl

section
variable {p : Nat} {s : State} (hup : (portOf s p).st = .up) (cause : Nat)
include hup

theorem portHold_flushes (hhold : parN s 0x114 p = 0) :
    portHold p cause false s = flushedDown p cause (linkEnds p false false s) := by
  unfold portHold
  rw [if_neg (by simp [hup]), if_pos hhold, portDown_down (by simp [hup]), if_pos (by simp [hup])]

theorem portHold_holds (hhold : parN s 0x114 p ≠ 0) : portHold p cause false s = heldUp p cause (linkEnds p false false s) := by
  unfold portHold
  rw [if_neg (by simp [hup]), if_neg hhold]
  rfl

end

/-! ### The loss of a link (R243, R254) -/

/-- The codes of DOWN_CAUSE. -/
def causeCode : LossCause → Nat
  | .lock => 1 | .localFault => 2 | .remoteFault => 3 | .laneNotReady => 5

/-- The condition that a loss records on its port. -/
def lossNoted : LossCause → Port → Port
  | .lock, q => { q with aligned := false }
  | .localFault, q => { q with localFault := true }
  | .remoteFault, q => { q with remoteFault := true }
  | .laneNotReady, q => q

theorem lossNoted_st (cause : LossCause) (q : Port) : (lossNoted cause q).st = q.st := by
  cases cause <;> rfl

theorem vmodN_self {α : Type} {n : Nat} (v : Vector α n) (i : Nat) : vmodN v i (fun x => x) = v := by
  unfold vmodN
  split
  · exact Vector.set_getElem_self _
  · rfl

section
variable {p : PortIx} {cause : LossCause} {s : State}

theorem exec_portLinkLoss (hused : portUsed s p.val = true) (hlanes : cause = .laneNotReady → lanesReady s p.val = false) :
    exec (.portLinkLoss p cause) s =
      .next (settle (portHold p.val (causeCode cause) false (portMod p.val (lossNoted cause) s))) := by
  show execPortLinkLoss p cause s = _
  unfold execPortLinkLoss
  extract_lets n
  rw [if_neg (by simp [n, hused])]
  cases cause with
  | lock => rfl
  | localFault => rfl
  | remoteFault => rfl
  | laneNotReady =>
    have hself : portMod p.val (lossNoted .laneNotReady) s = s := by
      rw [portMod, show lossNoted .laneNotReady = fun q => q from rfl, vmodN_self]
    rw [hself]
    exact if_neg (by simp [n, hlanes rfl])

/-- An UP port that loses its link, in HOLD or at once DOWN. -/
theorem portLinkLoss_falls (hused : portUsed s p.val = true) (hup : (portOf s p.val).st = .up)
    (hlanes : cause = .laneNotReady → lanesReady s p.val = false) :
    ∃ t, exec (.portLinkLoss p cause) s = .next t ∧
      keepsBut [.lane, .group, .port, .cal, .fwd, .q, .fab, .host, .msi, .mb, .pc] s t ∧
      (portOf t p.val).st = (if parN s 0x114 p.val = 0 then PortSt.down else PortSt.hold) ∧
      (portOf t p.val).downCause = causeCode cause ∧
      (portOf t p.val).pause.paused = Vector.replicate 8 false ∧ (portOf t p.val).ld.dstate = 0 ∧
      (vget t.fab.adj p.val {}).st = .down ∧
      (parN s 0x114 p.val ≠ 0 → ∀ g c, voqOf t g p.val c = voqOf s g p.val c) := by
  have hexec := exec_portLinkLoss hused hlanes
  have hnoted := keepsBut_portMod p.val (lossNoted cause) s
  have hst : (portOf (portMod p.val (lossNoted cause) s) p.val).st = .up := by
    rw [portOf_portMod_same p.isLt, lossNoted_st, hup]
  have hhold : parN (portMod p.val (lossNoted cause) s) 0x114 p.val = parN s 0x114 p.val :=
    congrArg Int.toNat (par_congr (portMod_par _ _ s) (portMod_group _ _ s) 0x114 p.val)
  generalize portMod p.val (lossNoted cause) s = u at hexec hnoted hst hhold
  have hends := keepsBut_linkEnds p.val u
  obtain ⟨hpaused, hdelay, hadj⟩ := linkEnds_ends p.isLt u
  have hq : (linkEnds p.val false false u).q = s.q := (hends .q (by simp [linkParts])).trans (hnoted .q (by simp))
  generalize hL : linkEnds p.val false false u = L at hends hpaused hdelay hadj hq
  have hlink : linkKept (portOf L p.val) = (Vector.replicate 8 false, 0) := by rw [linkKept, hpaused, hdelay]
  obtain ⟨hdown, hheld⟩ := linkKept_fall p.isLt (causeCode cause) L
  have hframe : ∀ {t}, keepsBut [.port, .fwd, .q, .host, .mb, .pc] L t →
      keepsBut [.lane, .group, .port, .cal, .fwd, .q, .fab, .host, .msi, .mb, .pc] s (settle t) ∧
        (vget (settle t).fab.adj p.val {}).st = .down := fun {t} ht =>
    ⟨keepsBut_done (keepsBut_then hnoted (keepsBut_then (n := [.lane, .group, .port, .cal, .fwd, .q, .fab, .host, .mb, .pc])
        hends ht (by simp [linkParts]) (by simp)) (by simp) (by simp)) (by simp),
      by rw [settle_fab, show t.fab = L.fab from ht .fab (by simp), hadj]⟩
  by_cases h0 : parN s 0x114 p.val = 0
  · rw [portHold_flushes hst _ (hhold.trans h0), hL] at hexec
    obtain ⟨hkeep, hadj'⟩ := hframe (keepsBut_flushedDown p.val (causeCode cause) L)
    obtain ⟨hpaused', hdelay'⟩ := Prod.mk.inj (hdown.trans hlink)
    refine ⟨_, hexec, hkeep, ?_, ?_, ?_, ?_, hadj', fun h => absurd h0 h⟩
    · rw [if_pos h0, portOf_settle, portOf_flushedDown p.isLt]
    · rw [portOf_settle, portOf_flushedDown p.isLt]
    · rw [portOf_settle, hpaused']
    · rw [portOf_settle, hdelay']
  · rw [portHold_holds hst _ (by rwa [hhold]), hL] at hexec
    obtain ⟨hkeep, hadj'⟩ := hframe (keepsBut_heldUp p.val (causeCode cause) L)
    obtain ⟨hpaused', hdelay'⟩ := Prod.mk.inj (hheld.trans hlink)
    refine ⟨_, hexec, hkeep, ?_, ?_, ?_, ?_, hadj', fun _ g c => ?_⟩
    · rw [if_neg h0, portOf_settle, portOf_heldUp p.isLt]
    · rw [portOf_settle, portOf_heldUp p.isLt]
    · rw [portOf_settle, hpaused']
    · rw [portOf_settle, hdelay']
    · rw [voqOf_eq, voqOf_eq, voqs_of_q (settle_q _), voqs_heldUp, voqs_of_q hq]

end

/-! ### The end of HOLD (R243, R254) -/

section
variable {p : PortIx} {s : State} (hst : (portOf s p.val).st = .hold)
include hst

theorem exec_linkHoldExpiry : exec (.linkHoldExpiry p) s = .next (settle (portMod p.val (fun q => { q with flushed := true })
    (portDown p.val .down (portOf s p.val).downCause ((portOf s p.val).downCause == 4)
      (timedOut 8 (groupEvent (p.val / 8) 24) p.val s)))) := by
  show execLinkHoldExpiry p s = _
  unfold execLinkHoldExpiry
  extract_lets n
  exact if_pos (by simp [n, hst])

/-- What the port held is flushed, the recovery counted and logged. -/
theorem linkHoldExpiry_flushes :
    ∃ t, exec (.linkHoldExpiry p) s = .next t ∧
      keepsBut [.lane, .group, .port, .cal, .fwd, .q, .fab, .host, .msi, .mb, .pc] s t ∧
      (portOf t p.val).st = .down ∧ (portOf t p.val).flushed = true ∧ (portOf t p.val).downCause = (portOf s p.val).downCause ∧
      (∀ g c, g < 24 → c < 8 → (voqOf t g p.val c).frames = []) ∧
      vget t.pc.kinds 8 0 = satU 32 (vget s.pc.kinds 8 0 + 1) := by
  have hexec := exec_linkHoldExpiry hst
  have htimed := keepsBut_timedOut 8 (groupEvent (p.val / 8) 24) p.val s
  have hkinds := timedOut_kinds (kind := 8) (by decide) (groupEvent (p.val / 8) 24) p.val s
  generalize timedOut 8 (groupEvent (p.val / 8) 24) p.val s = u at hexec htimed hkinds
  have hhold : (portOf u p.val).st = .hold := by rw [portOf_of_keepsBut htimed (by simp), hst]
  rw [portDown_down (by simp [hhold]), if_neg (by simp [hhold])] at hexec
  have hdelay : keepsBut [.lane, .group, .port, .cal] u
      (if (portOf s p.val).downCause == 4 then u else delayEnded p.val u) := by
    split
    · exact keepsBut_refl _ u
    · exact (delayEnded_frame p.val u).1
  generalize (if (portOf s p.val).downCause == 4 then u else delayEnded p.val u) = L at hexec hdelay
  have hdown := keepsBut_flushedDown p.val (portOf s p.val).downCause L
  refine ⟨_, hexec, ?_, ?_, ?_, ?_, fun g c hg hc => ?_, ?_⟩
  · exact keepsBut_done (keepsBut_then htimed (keepsBut_then (n := [.lane, .group, .port, .cal, .fwd, .q, .host, .mb, .pc]) hdelay
      hdown (by simp) (by simp)) (by simp) (by simp)) (by simp)
  · rw [portOf_settle, portOf_flushedDown p.isLt]
  · rw [portOf_settle, portOf_flushedDown p.isLt]
  · rw [portOf_settle, portOf_flushedDown p.isLt]
  · exact voqOf_of_voqEmpty (voqEmpty_of_voqs (voqs_of_q (settle_q _) g) (voqEmpty_flushedDown hg hc p.val _ L))
  · rw [settle_pc, flushedDown_kinds, show L.pc = u.pc from hdelay .pc (by simp), hkinds]

end

/-! ### Negotiation and alignment (R241, R243) -/

/-- A running blend of a lane ends. -/
theorem keepsBut_setChange (p : Nat) (old s : State) : keepsBut [.lane] s (setChange p old s) := by
  refine keepsBut_forEach (fun l t => ?_) _ s
  split
  · exact keepsBut_refl _ t
  · exact keepsBut_laneMod l _ t

/-- What negotiation resolves on a port in a mode. -/
def negotiated (mode : Nat) (fec : Bool) (pause : Nat) (q : Port) : Port := { q with
  anDone := true, anFec := if mode = 3 then some fec else none, anPause := if mode = 1 then pause else 0 }

section
variable {p : PortIx} {peer : List Nat} {fec : Bool} {pause : Nat} {s : State}

theorem exec_anComplete_stays (hmode : modeOf s (p.val / 8) ≠ 1) (hpeer : modeOf s (p.val / 8) ∉ peer) :
    exec (.anComplete p peer fec pause) s = .next (settle s) := by
  show execAnComplete p peer fec pause s = _
  unfold execAnComplete
  extract_lets n own
  exact if_neg (by simp [own, anAdvert, n, hmode, hpeer])

section
variable (hused : portUsed s p.val = true) (hreset : portInReset s p.val = false) (hruns : anRuns s p.val = true)
  (hst : (portOf s p.val).st = .down ∨ (portOf s p.val).st = .hold) (hmode : modeOf s (p.val / 8) = 1 ∨ modeOf s (p.val / 8) ∈ peer)
include hused hreset hruns hst hmode

theorem exec_anComplete : exec (.anComplete p peer fec pause) s = .next (settle (setChange p.val s
    (portMod p.val (negotiated (modeOf s (p.val / 8)) (parB s 0x101 p.val || fec) pause) s))) := by
  show execAnComplete p peer fec pause s = _
  unfold execAnComplete
  extract_lets n own
  exact if_pos (by simp [own, anAdvert, n, hused, hreset, hruns, hst, hmode])

/-- Negotiation completes where the abilities match. -/
theorem anComplete_completes :
    ∃ t, exec (.anComplete p peer fec pause) s = .next t ∧ keepsBut [.lane, .port, .msi] s t ∧ otherPorts p.val s t ∧
      (portOf t p.val).anDone = true ∧ (portOf t p.val).st = (portOf s p.val).st ∧
      (modeOf s (p.val / 8) = 3 → (portOf t p.val).anFec = some (parB s 0x101 p.val || fec)) ∧
      (modeOf s (p.val / 8) = 1 → (portOf t p.val).anPause = pause) := by
  have hmoved := portMoved_portMod p.val (negotiated (modeOf s (p.val / 8)) (parB s 0x101 p.val || fec) pause) s
  have hset := keepsBut_setChange p.val s (portMod p.val (negotiated (modeOf s (p.val / 8)) (parB s 0x101 p.val || fec) pause) s)
  refine ⟨_, exec_anComplete hused hreset hruns hst hmode, ?_, ?_, ?_⟩
  · exact keepsBut_done (keepsBut_then hmoved.frame hset (by simp) (by simp)) (by simp)
  · exact otherPorts_settle (otherPorts_trans hmoved.others (otherPorts_of_keepsBut hset (by simp) _))
  · rw [portOf_settle, portOf_of_keepsBut hset (by simp), portOf_portMod_same p.isLt]
    exact ⟨rfl, rfl, fun h => if_pos h, fun h => if_pos h⟩

end

/-- Block lock and alignment clear the faults. -/
theorem pcsAlignmentLock_aligns (hused : portUsed s p.val = true) (hlanes : lanesReady s p.val = true) :
    ∃ t, exec (.pcsAlignmentLock p) s = .next t ∧ keepsBut [.port, .msi] s t ∧ otherPorts p.val s t ∧
      portOf t p.val = { portOf s p.val with aligned := true, localFault := false, remoteFault := false } := by
  have hexec : exec (.pcsAlignmentLock p) s = .next (settle (portMod p.val (fun q => { q with
      aligned := true, localFault := false, remoteFault := false }) s)) := if_pos (by simp [hused, hlanes])
  obtain ⟨hframe, hothers⟩ := (portMoved_portMod p.val (fun q => { q with
    aligned := true, localFault := false, remoteFault := false }) s).settled
  refine ⟨_, hexec, hframe, hothers, ?_⟩
  rw [portOf_settle, portOf_portMod_same p.isLt]

end

/-! ### The link-up timeout (R384) -/

/-- The parts that the reset of a port's lanes moves. -/
def laneResetParts : List Part := [.te, .lane, .group, .port, .cal, .host, .mb, .pc]

/-- The reset of lanes below a port: the port's state and its group's mode stay, no recovery is logged, and of every lane the
trained coefficients stay, and OFF. -/
structure LanesReset (p : Nat) (s t : State) : Prop where
  frame : keepsBut laneResetParts s t
  kinds : t.pc.kinds = s.pc.kinds
  st : (portOf t p).st = (portOf s p).st
  mode : modeOf t (p / 8) = modeOf s (p / 8)
  lanes : ∀ l, (laneOf t l).goodTaps = (laneOf s l).goodTaps ∧ ((laneOf s l).st = .off → (laneOf t l).st = .off)

namespace LanesReset

variable {p : Nat} {s t : State}

theorem refl (p : Nat) (s : State) : LanesReset p s s := ⟨keepsBut_refl _ s, rfl, rfl, rfl, fun _ => ⟨rfl, id⟩⟩

theorem trans {u : State} (h : LanesReset p s t) (k : LanesReset p t u) : LanesReset p s u :=
  ⟨keepsBut_trans h.frame k.frame, k.kinds.trans h.kinds, k.st.trans h.st, k.mode.trans h.mode,
    fun l => ⟨(k.lanes l).1.trans (h.lanes l).1, fun hl => (k.lanes l).2 ((h.lanes l).2 hl)⟩⟩

/-- Work beside the lanes and the ports. -/
theorem of_frame {m : List Part} (h : keepsBut m s t) (hkinds : t.pc.kinds = s.pc.kinds)
    (hm : ∀ x ∈ m, x ∈ [Part.te, .cal, .host, .mb, .pc] := by simp) : LanesReset p s t := by
  have hkeep := keepsBut_mono h hm
  exact ⟨keepsBut_mono hkeep (by simp [laneResetParts]), hkinds, by rw [portOf_of_keepsBut hkeep (by simp)],
    by rw [modeOf_eq, modeOf_eq, groupOf_of_keepsBut hkeep (by simp)],
    fun l => by rw [laneOf_of_keepsBut hkeep (by simp)]; exact ⟨rfl, id⟩⟩

theorem of_laneMod {l : Nat} {f : Lane → Lane} (s : State) (hoff : ∀ x, x.st = .off → (f x).st = .off := by exact fun _ h => h)
    (htaps : ∀ x, (f x).goodTaps = x.goodTaps := by exact fun _ => rfl) : LanesReset p s (laneMod l f s) :=
  ⟨keepsBut_mono (keepsBut_laneMod l f s) (by simp [laneResetParts]), rfl, rfl, rfl, fun j =>
    laneOf_laneMod_preserved (P := fun x => x.goodTaps = (laneOf s j).goodTaps ∧ ((laneOf s j).st = .off → x.st = .off))
      (fun x hx => ⟨(htaps x).trans hx.1, fun hj => hoff x (hx.2 hj)⟩) ⟨rfl, id⟩⟩

theorem of_portMod {q : Nat} {f : Port → Port} (s : State) (hst : ∀ x, (f x).st = x.st := by exact fun _ => rfl) :
    LanesReset p s (portMod q f s) :=
  ⟨keepsBut_mono (keepsBut_portMod q f s) (by simp [laneResetParts]), rfl, portOf_portMod_kept Port.st hst q p s, rfl,
    fun _ => ⟨rfl, id⟩⟩

theorem of_excludeLane (l why : Nat) (s : State) : LanesReset p s (excludeLane l why s) :=
  (of_laneMod s).trans (of_frame (keepsBut_convMod l _ _) rfl)

theorem of_laneUnready (l : Nat) (s : State) : LanesReset p s (laneUnready l s) :=
  (of_excludeLane l _ s).trans (of_laneMod _)

theorem of_convAbort (c : Nat) (s : State) : LanesReset p s (convAbort c s) := by
  refine of_frame (m := [.te, .cal, .host, .mb, .pc]) ?_ (convAbort_kinds c s)
  unfold convAbort
  split
  · exact keepsBut_convReject c 6 s
  · exact keepsBut_refl _ s

theorem of_foldl {α : Type} {f : State → α → State} {xs : List α} (h : ∀ u x, LanesReset p u (f u x)) (s : State) :
    LanesReset p s (xs.foldl f s) :=
  List.foldlRecOn xs f (motive := LanesReset p s) (refl p s) fun u hu x _ => hu.trans (h u x)

theorem of_servoPortDown (s : State) : LanesReset p s (servoPortDown p s) := by
  have hservo := servoWork_servoPortDown p s
  refine ⟨keepsBut_mono hservo.frame (by simp [laneResetParts]), by rw [hservo.frame .pc (by simp)],
    by rw [portOf_of_keepsBut hservo.frame (by simp)], by rw [modeOf_eq, modeOf_eq, hservo.mode], fun l => ?_⟩
  rcases servoPortDown_cases p s with h | h
  · rw [h]
    exact laneOf_servoIdle_preserved (P := fun x => x.goodTaps = (laneOf s l).goodTaps ∧ ((laneOf s l).st = .off → x.st = .off))
      (fun _ _ hx => hx) _ ⟨rfl, id⟩
  · rw [h]
    exact ⟨rfl, id⟩

theorem of_delayEnded (s : State) : LanesReset p s (delayEnded p s) := by
  have hnone : LanesReset p s (delayNone p s) := by
    rw [delayNone_eq]
    exact ((of_portMod s).trans (of_portMod _)).trans (of_foldl (fun u l => of_laneMod u) _)
  exact hnone.trans (of_servoPortDown _)

/-- A port that is not UP loses its delay state at most. -/
theorem of_portHold {s : State} (h : (portOf s p).st ≠ .up) (cause : Nat) : LanesReset p s (portHold p cause false s) := by
  unfold portHold
  rw [if_pos (by simp [h])]
  split
  · exact refl p s
  · exact of_delayEnded s

end LanesReset

/-- A used port is the port of its lanes. -/
theorem portOfLane_of_mem {s : State} {p l : Nat} (hused : portUsed s p = true) (hm : l ∈ lanesOf s p) : portOfLane s l = p := by
  obtain ⟨hlo, hhi⟩ := mem_lanesOf.mp hm
  unfold laneCount at hhi
  unfold portUsed at hused
  by_cases h4 : modeOf s (p / 8) = 4
  · simp only [h4, beq_iff_eq] at hused hhi
    rw [portOfLane, show l / 8 = p / 8 by omega, h4]
    show l / 4 * 4 = p
    omega
  · by_cases h5 : modeOf s (p / 8) = 5
    · simp only [h5, beq_iff_eq] at hused hhi
      rw [portOfLane, show l / 8 = p / 8 by omega, h5]
      show p / 8 * 8 = p
      omega
    · split at hhi
      · exact absurd ‹_› h4
      · exact absurd ‹_› h5
      · obtain rfl : l = p := by omega
        unfold portOfLane
        split
        · exact absurd ‹_› h4
        · exact absurd ‹_› h5
        · rfl

section
variable {p l : Nat} {s : State} (hused : portUsed s p = true) (hst : (portOf s p).st = .down) (hm : l ∈ lanesOf s p)
include hused hst hm

/-- A lane of a port in DOWN leaves for OFF. -/
theorem lanesReset_laneLeaves (cause : Nat) : LanesReset p s (laneLeaves l .off cause false s) ∧
    (l < 192 → (laneOf (laneLeaves l .off cause false s) l).st = .off) := by
  unfold laneLeaves
  extract_lets was q s₁ s₂ s₃
  have hq : q = p := portOfLane_of_mem hused hm
  have h₁ : LanesReset p s s₁ := by
    simp only [s₁]
    split
    · exact (LanesReset.of_laneUnready l s).trans (.of_portMod _)
    · exact .refl p s
  have h₂ : LanesReset p s₁ s₂ := .of_laneMod s₁ (by exact fun _ _ => rfl)
  have h₃ : LanesReset p s₂ s₃ := .of_laneMod s₂
  have h := (h₁.trans h₂).trans h₃
  have hoff : l < 192 → (laneOf s₃ l).st = .off := fun hl =>
    (h₃.lanes l).2 (congrArg Lane.st (laneOf_laneMod_same hl _ s₁))
  rw [hq]
  split
  · have hhold := LanesReset.of_portHold (p := p) (s := s₃) (by rw [h.st, hst]; decide) cause
    exact ⟨h.trans hhold, fun hl => (hhold.lanes l).2 (hoff hl)⟩
  · exact ⟨h, hoff⟩

/-- A lane of a port in DOWN is reset. -/
theorem lanesReset_laneReset (cause : Nat) : LanesReset p s (laneReset' l cause false s) ∧
    (l < 192 → (laneOf (laneReset' l cause false s) l).st = .off) := by
  obtain ⟨hleaves, hoff⟩ := lanesReset_laneLeaves hused hst hm cause
  have habort : LanesReset p _ (convAbort l (laneLeaves l .off cause false s)) := .of_convAbort l _
  have hrest : LanesReset p (convAbort l (laneLeaves l .off cause false s)) (laneReset' l cause false s) :=
    (LanesReset.of_laneMod _).trans (.of_laneMod _)
  exact ⟨(hleaves.trans habort).trans hrest, fun hl => (hrest.lanes l).2 ((habort.lanes l).2 (hoff hl))⟩

end

/-- Every lane of a port reset, as LANE does. -/
def portLanesReset (p : Nat) (s : State) : State :=
  forEach (lanesOf s p) (fun l s => laneReset' l (portOf s p).downCause false s) s

theorem portLanesReset_resets {p : Nat} {s : State} (hused : portUsed s p = true) (hst : (portOf s p).st = .down) :
    LanesReset p s (portLanesReset p s) ∧ ∀ l ∈ lanesOf s p, l < 192 → (laneOf (portLanesReset p s) l).st = .off := by
  have hstep : ∀ t, LanesReset p s t → ∀ l ∈ lanesOf s p, LanesReset p t (laneReset' l (portOf t p).downCause false t) ∧
      (l < 192 → (laneOf (laneReset' l (portOf t p).downCause false t) l).st = .off) := fun t ht l hm =>
    lanesReset_laneReset ((portUsed_of_mode ht.mode).trans hused) (ht.st.trans hst) (by rwa [lanesOf_of_mode ht.mode]) _
  refine ⟨List.foldlRecOn _ _ (motive := LanesReset p s) (.refl p s) fun t ht l hm => ht.trans (hstep t ht l hm).1,
    fun l hm hl => ?_⟩
  exact foldl_reaches (I := LanesReset p s) (P := fun t => (laneOf t l).st = .off) hm
    (fun t ht k hk => ht.trans (hstep t ht k hk).1) (fun t ht hoff k hk => ((hstep t ht k hk).1.lanes l).2 hoff)
    (fun t ht => (hstep t ht l hm).2 hl) (.refl p s)

/-- A port whose negotiation begins again. -/
def unnegotiated (q : Port) : Port := { q with anDone := false, anFec := none, anPause := 0 }

theorem lanesReset_setChange (p : Nat) (old s : State) : LanesReset p s (setChange p old s) := by
  refine LanesReset.of_foldl (fun u l => ?_) s
  dsimp only
  split
  · exact .refl p u
  · exact .of_laneMod u

section
variable {p : PortIx} {s : State} (hused : portUsed s p.val = true) (hst : (portOf s p.val).st = .down)
include hused hst

theorem exec_linkUpTimeout : exec (.linkUpTimeout p) s = .next (settle (setChange p.val s
    (portMod p.val unnegotiated (portLanesReset p.val (timedOut 5 (groupEvent (p.val / 8) 21) p.val s))))) := by
  show execLinkUpTimeout p s = _
  unfold execLinkUpTimeout
  extract_lets n
  exact if_pos (by simp [n, hused, hst])

/-- The lanes are reset with their trained coefficients kept, and negotiation restarts. -/
theorem linkUpTimeout_restarts :
    ∃ t, exec (.linkUpTimeout p) s = .next t ∧
      keepsBut [.te, .lane, .group, .port, .cal, .fwd, .q, .fab, .host, .msi, .mb, .pc] s t ∧
      (portOf t p.val).st = .down ∧ (portOf t p.val).anDone = false ∧
      vget t.pc.kinds 5 0 = satU 32 (vget s.pc.kinds 5 0 + 1) ∧
      ∀ l ∈ lanesOf s p.val, l < 192 → (laneOf t l).st = .off ∧ (laneOf t l).goodTaps = (laneOf s l).goodTaps := by
  have hexec := exec_linkUpTimeout hused hst
  have htimed := keepsBut_timedOut 5 (groupEvent (p.val / 8) 21) p.val s
  have hkinds := timedOut_kinds (kind := 5) (by decide) (groupEvent (p.val / 8) 21) p.val s
  have hmode : modeOf (timedOut 5 (groupEvent (p.val / 8) 21) p.val s) (p.val / 8) = modeOf s (p.val / 8) := rfl
  generalize timedOut 5 (groupEvent (p.val / 8) 21) p.val s = u at hexec htimed hkinds hmode
  obtain ⟨hreset, hoff⟩ := portLanesReset_resets ((portUsed_of_mode hmode).trans hused)
    (show (portOf u p.val).st = .down by rw [portOf_of_keepsBut htimed (by simp), hst])
  have hport := portOf_portMod_same p.isLt unnegotiated (portLanesReset p.val u)
  have hrest := (LanesReset.of_portMod (p := p.val) (q := p.val) (f := unnegotiated) (portLanesReset p.val u)).trans
    (lanesReset_setChange p.val s _)
  have hall := hreset.trans hrest
  have hset := keepsBut_setChange p.val s (portMod p.val unnegotiated (portLanesReset p.val u))
  refine ⟨_, hexec, ?_, ?_, ?_, ?_, fun l hm hl => ⟨?_, ?_⟩⟩
  · exact keepsBut_done (keepsBut_then htimed hall.frame (by simp) (by simp [laneResetParts])) (by simp)
  · rw [portOf_settle, hall.st, portOf_of_keepsBut htimed (by simp), hst]
  · rw [portOf_settle, portOf_of_keepsBut hset (by simp), hport]
    rfl
  · rw [settle_pc, hall.kinds, hkinds]
  · rw [laneOf_settle]
    exact (hrest.lanes l).2 (hoff l (by rwa [lanesOf_of_mode hmode]) hl)
  · rw [laneOf_settle, (hall.lanes l).1, laneOf_of_keepsBut htimed (by simp)]

end

/-- Settles O27: a port comes UP, loses its link, falls from HOLD, negotiates, is aligned, and times out. -/
theorem portStates : Obligations.PortStates := by
  unfold Obligations.PortStates
  refine ⟨fun p s => ⟨exec_portLinkUp_stays, fun hused hreset hst hadmin hlanes haligned hlocal hremote han =>
      portLinkUp_comes_up (by simp [linkReady, hused, hreset, hst, hadmin, hlanes, haligned, hlocal, hremote, han])⟩,
    fun p cause s hused hup hlanes => ?_, fun p s => linkHoldExpiry_flushes,
    fun p peer fec pause s hused hreset hruns hst => ⟨exec_anComplete_stays, anComplete_completes hused hreset hruns hst⟩,
    fun p s => pcsAlignmentLock_aligns, fun p s => linkUpTimeout_restarts⟩
  have hfalls := portLinkLoss_falls hused hup hlanes
  cases cause <;> exact hfalls

end Sys2Proof.Machine

/-! The step, and the interrupt bookkeeping that every step keeps right (R396, R397). -/

namespace Sys2Proof.Machine

-- The joined text is one compile: no thread beside the main one for each proof.
set_option Elab.async false

/-- Settles O1: the front of the queue is matched, and the rest is put in its place. -/
theorem stepRunsTheFrontCommand : Obligations.StepRunsTheFrontCommand :=
  fun _ _ _ => rfl

/-! ### Every command ends with its interrupt conditions settled -/

/-- An outcome in which a command has ended, and nothing has stopped. -/
def Settles (o : Host.Outcome State Fault Refusal) : Prop := ∃ t, o = done t

theorem settles_done (t : State) : Settles (done t) := ⟨t, rfl⟩

theorem settles_ite {c : Prop} [Decidable c] {o q : Host.Outcome State Fault Refusal} (ho : Settles o) (hq : Settles q) :
    Settles (if c then o else q) := by
  split
  · exact ho
  · exact hq

/-- Every command ends in `done`: at once, after a test, or after it has looked for what it works on. -/
theorem exec_settles (i : Instr) (s : State) : Settles (exec i s) := by
  cases i
  case bar0BadAccess | regWrite | w1cWrite | pairLoRead | pairHiWrite | teTime0Read | glErrLog0Read | mirrorEntryRead
      | mirrorWrite | engineFatalFault | evPopRead | evLostRead | evNobaseRead | trimPeriodic | replicaMeasure | macSnapRead
      | pgStatSnapWrite | helloSend | chipReset | dataReset | mgmtRestart | resetCtrlChip | resetCtrlData | resetCtrlMgmt
      | interconnectTimeout | pmbAlert | rxTailWrite | txTailWrite | dmaRingEnable | dmaRingDisable | rxStarveTimeout
      | dmaHoldoffExpiry | dmaDropsRead | mbDoorbellRing | mbBufferWrite | mbDoorbellAckTimeout | mbEvqTailWrite
      | mbEvqEnable | obilwinStart | counterWrap | identify | eventReplay | powerSet | wakeMap | alarmSet | reset | devSet
      | devGet | oscSet | synSet | synReq | bandSet | planRun | spurMapGet | calRun | calTableGet | timeSet | utcSet | refSet
      | refGet | refSelect | refQualify | refRelease | engineSet | engineGet | servoMode | freqWrite | phaseEst | modelGet
      | modelReset | engineClear | ioSet | ioGet | trigSchedule | trigCancel | portSet | portGet | portAdmin | groupReset
      | laneReset | laneTest | eyeScan | laneRate | latGet | latSet | plumbGet | fwdSet | fwdGet | l2Write | l2Delete
      | l2Flush | ctxWrite | ctxStatsGet | matchWrite | vidWrite | mcastWrite | mapWrite | wredSet | calAdmit | calWithdraw
      | courseSet | calListGet | fabSet | fabGet | remoteCmd | fabDbGet | pcMap | healthGet | weatherGet | spdmMsg
      | spdmRemote | fwOpen | fwWrite | fwClose | fwActivate | fwCommit | patternCheckerSync | patternCheckerSyncLoss
      | msixVectorUnmask | refXcmpInterval | modelReadyReached | unitHoldExpiry | spfCompute | segmentReassemblyTimeout
      | alarmFire | pcieL1Exit | por | thermtrip | perstNAssert | perstNRelease | functionLevelReset | d3hotEntry | romStart
      | trialConfirm | d3hotExit =>
    exact settles_done _
  case cdrLockTimeout | trainingComplete | laneLossOfLock | laneOffsetUpdate | sharedClockEnter | eyeReadapt
      | sleepAckReceive | wakeReqReceive | wakeAckReceive | orderedSetBadD1 | wakeAlignComplete | groupServoCycle
      | stepMeasureEnd | ldWindowEnd | engineServoCycle | refFreqGate | wtrExpiry | disqHoldExpiry | conditionerStepEnd
      | todinMessage | acquireFreqMeasured | engineClockStop | arbitration | dcoRangeCheck | converterCodeCheck
      | faultRecoveryAgree | engineSlewDone | tdcrefAlign | ppsOutPulse | clkoutAlignStart | timeTapWord0Read | calDue
      | codeDensityStart | calRunHitsTimeout | calRetryTimer | weatherEyeScan | weatherRecord | portLinkUp | linkHoldExpiry
      | anComplete | linkUpTimeout | pauseTimerExpiry | pauseWdExpiry | pauseRecoveryEnd | pauseRepeat
      | preemptVerifyResponse | scrubPass | crossbarMatch | helloReceive | helloDeadExpiry | domainLowerComplete
      | domainWakeComplete | porRelease | supplyBrownout | ptpAnnounceReceive | pcsAlignmentLock | moduleChange
      | utcChangeApply | leapSecond | kettleCountTakeover | todinLost | acquireBandwidthStep | engineLock | holdoverLearn
      | swTimeoutExpiry | wallTieSilence | alignmentComplete | tdcrefLoss | tdcrefRestore | ttClkLost | ttClkReturn
      | oscInAbsent | oscInReturn | ageingSweep | congestionWindow | courseBoundary | recordRetransmit | recordAgeExpiry
      | recordRefresh | firmwareWatchdog =>
    exact settles_ite (settles_done _) (settles_done _)
  case laneSignalDetect | cdrLock | trainingTimeout | eyeScanComplete | transmitSleep | sleepReqReceive | sleepAckTimeout
      | localWake | sentinelLoss | laneRemeasureEnd | groupServoLockTimeout | ptpSyncReceive | ptpFollowUpReceive
      | ptpDelayReqReceive | ptpDelayRespReceive | pdelayReqReceive | pdelayRespReceive | ptpInterval | delayStale | refLos
      | refWanderWindow | qualTimeExpiry | tempPoll | handoverEdge | wallTieRecord | engineWtrExpiry | eventEdge
      | triggerPulse | ttLatch | synthLockLoss | bandHopLock | hopMiss | fullSearchLock | codeDensityEnd | latencyUpdate
      | guardRelease | retentionCheck | portLinkLoss | frameReceive | pauseReceive | preemptVerifyTimer | egressFrameStart
      | egressFrameDone | ingressDecision | parityRepair | calWaitExpiry | slotGate | calDeparture | calActivationTimeout
      | addrReqReceive | addrGrantReceive | recordReceive | recordAckReceive | recordOriginate | remoteCommandReceive
      | remoteResponseReceive | remoteRetry | remoteTimeoutExpiry | attestRequestReceive | resetRelease | crossingTimeout
      | voutReadback | txFrameFetch | mbAcknowledge | mbFinalResponse | commandDeadline | lowPowerIdle
      | engineTimeClockSupply | stepApply | switchComplete | modelResidual | engineUnlock | alignmentTimeout | ttLatchResult
      | coreVoltageAdjust | courseParamApply | addrRequestStart | addrReqRetry =>
    simp only [exec, execLaneSignalDetect, execCdrLock, execTrainingTimeout, execEyeScanComplete, execTransmitSleep,
      execSleepReqReceive, execSleepAckTimeout, execLocalWake, execSentinelLoss, execLaneRemeasureEnd,
      execGroupServoLockTimeout, execPtpSyncReceive, execPtpFollowUpReceive, execPtpDelayReqReceive, execPtpDelayRespReceive,
      execPdelayReqReceive, execPdelayRespReceive, execPtpInterval, execDelayStale, execRefLos, execRefWanderWindow,
      execQualTimeExpiry, execTempPoll, execHandoverEdge, execWallTieRecord, execEngineWtrExpiry, execEventEdge,
      execTriggerPulse, execTtLatch, execSynthLockLoss, execBandHopLock, execHopMiss, execFullSearchLock, execCodeDensityEnd,
      execLatencyUpdate, execGuardRelease, execRetentionCheck, execPortLinkLoss, execFrameReceive, execPauseReceive,
      execPreemptVerifyTimer, execEgressFrameStart, execEgressFrameDone, execIngressDecision, execParityRepair,
      execCalWaitExpiry, execSlotGate, execCalDeparture, execCalActivationTimeout, execAddrReqReceive, execAddrGrantReceive,
      execRecordReceive, execRecordAckReceive, execRecordOriginate, execRemoteCommandReceive, execRemoteResponseReceive,
      execRemoteRetry, execRemoteTimeoutExpiry, execAttestRequestReceive, execResetRelease, execCrossingTimeout,
      execVoutReadback, execTxFrameFetch, execMbAcknowledge, execMbFinalResponse, execCommandDeadline, execLowPowerIdle,
      execEngineTimeClockSupply, execStepApply, execSwitchComplete, execModelResidual, execEngineUnlock, execAlignmentTimeout,
      execTtLatchResult, execCoreVoltageAdjust, execCourseParamApply, execAddrRequestStart, execAddrReqRetry]
    repeat' split
    all_goals exact settles_done _

/-! ### The interrupt bookkeeping -/

theorem interruptsOk_settle (s : State) : interruptsOk (settle s) :=
  ⟨(settle_pend s).trans (pendVec_settle s).symm, settle_pba_le s⟩

/-- The sources of the vectors lie outside the clock, and in the engines and the Keystone's flags of the time side. -/
theorem vectorSet_of_keepsBut {s t : State} (h : keepsBut [.clk, .te] s t) (heng : t.te.eng = s.te.eng)
    (hks : t.te.ks = { s.te.ks with latchAt := t.te.ks.latchAt }) (v : Nat) : vectorSet t v = vectorSet s v := by
  have hmb : t.mb = s.mb := h .mb (by simp)
  have hpm : t.pm = s.pm := h .pm (by simp)
  have htio : t.tio = s.tio := h .tio (by simp)
  have hck : t.ck = s.ck := h .ck (by simp)
  have hgroup : t.group = s.group := h .group (by simp)
  have hport : t.port = s.port := h .port (by simp)
  have hlane : t.lane = s.lane := h .lane (by simp)
  have hcald : t.cald = s.cald := h .cald (by simp)
  have hfab : t.fab = s.fab := h .fab (by simp)
  have hfabS : t.fabS = s.fabS := h .fabS (by simp)
  have hfwd : t.fwd = s.fwd := h .fwd (by simp)
  have hq : t.q = s.q := h .q (by simp)
  have hcal : t.cal = s.cal := h .cal (by simp)
  have hhost {α : Type} (f : HostIf → α) (hf : ∀ (x : HostIf) pend pba sent, f { x with pend, pba, sent } = f x) :
      f t.host = f s.host := host_field_of_keepsBut f hf h (by simp)
  have herr := hhost HostIf.errEvt fun _ _ _ _ => rfl
  have hrestart := hhost HostIf.mgmtRestartEvt fun _ _ _ _ => rfl
  have hhalt := hhost HostIf.mgmtHaltEvt fun _ _ _ _ => rfl
  have hrx := hhost HostIf.rx fun _ _ _ _ => rfl
  have htx := hhost HostIf.tx fun _ _ _ _ => rfl
  have hevt : t.te.ks.handoverEvt = s.te.ks.handoverEvt := by rw [hks]
  have halarm : t.te.ks.disagreeAlarm = s.te.ks.disagreeAlarm := by rw [hks]
  have hun : t.te.ks.unattributed = s.te.ks.unattributed := by rw [hks]
  simp only [vectorSet, scFlags, groupFlags, anyRejected, hmb, hpm, htio, hck, hgroup, hport, hlane, hcald, hfab, hfabS, hfwd, hq,
    hcal, herr, hrestart, hhalt, hrx, htx, heng, hevt, halarm, hun]

/-- An edge of the clock moves no source of a vector. -/
theorem vectorSet_tick (s : State) (v : Nat) : vectorSet (tick s) v = vectorSet s v := by
  cases hpor : s.rst.por with
  | true => rw [tick_of_por hpor]
  | false =>
    cases hkettle : s.clk.kettle with
    | true =>
      rw [tick_of_kettle hpor hkettle]
      exact vectorSet_of_keepsBut (keepsBut_mono (keepsBut_kettleEdge s) (by simp)) rfl rfl v
    | false =>
      rw [tick_of_timeClock hpor hkettle]
      refine vectorSet_of_keepsBut (keepsBut_timeClockEdge s) ?_ ?_ v
      · rcases timeClockEdge_te s with hte | ⟨-, hte⟩ <;> rw [hte]
      · rcases timeClockEdge_te s with hte | ⟨-, hte⟩ <;> rw [hte]

theorem keepsBut_tick (s : State) : keepsBut [.clk, .te] s (tick s) := by
  unfold tick
  split
  · exact keepsBut_refl _ s
  · split
    · exact keepsBut_mono (keepsBut_kettleEdge s) (by simp)
    · exact keepsBut_timeClockEdge s

theorem interruptsOk_tick {s : State} (h : interruptsOk s) : interruptsOk (tick s) := by
  obtain ⟨hpend, hpba, -⟩ : same .msi s (tick s) := keepsBut_tick s .msi (by simp)
  obtain ⟨hbits, hstands⟩ := h
  refine ⟨?_, fun v hv hwaits => ?_⟩
  · rw [hpend, hbits, pendVec, pendVec, funext (vectorSet_tick s)]
  · rw [hpend]
    exact hstands v hv (by rwa [← hpba])

theorem step_of_cons {s : State} {c : Instr} {rest : List Instr} (h : s.pending = c :: rest) :
    step s = exec c { s with pending := rest } := by
  unfold step
  rw [h]

/-- Settles O3: an edge of the clock moves no source, and a command ends with its conditions settled. -/
theorem everyStepKeepsInterruptsRight : Obligations.EveryStepKeepsInterruptsRight := by
  refine ⟨fun s => ?_, fun s t hok hstep => ?_⟩
  · cases hpend : s.pending with
    | nil => exact ⟨_, step_of_empty hpend⟩
    | cons c rest =>
      obtain ⟨t, ht⟩ := exec_settles c { s with pending := rest }
      exact ⟨_, (step_of_cons hpend).trans ht⟩
  · cases hpend : s.pending with
    | nil =>
      rw [step_of_empty hpend] at hstep
      cases hstep
      exact interruptsOk_tick hok
    | cons c rest =>
      obtain ⟨u, hu⟩ := exec_settles c { s with pending := rest }
      rw [step_of_cons hpend, hu] at hstep
      cases hstep
      exact interruptsOk_settle u

/-- Settles O4: after reset no condition stands and the buffers are empty. -/
theorem resetIsSound : Obligations.ResetIsSound := by
  unfold Obligations.ResetIsSound
  refine ⟨⟨?_, ?_⟩, ?_, ?_, rfl⟩
  · decide +kernel
  · decide +kernel
  · decide +kernel
  · decide +kernel

end Sys2Proof.Machine

/-! The ingress decision (R260 to R297). -/

namespace Sys2Proof.Machine

-- The joined text is one compile: no thread beside the main one for each proof.
set_option Elab.async false

/-- A command that tests something first ends in a state of which a fact holds either way. -/
theorem ends_ite {c : Prop} [Decidable c] {o q : Host.Outcome State Fault Refusal} {P : State → Prop}
    (ho : c → ∃ u, o = done u ∧ P u) (hq : ¬ c → ∃ u, q = done u ∧ P u) : ∃ u, (if c then o else q) = done u ∧ P u := by
  split
  next h => exact ho h
  next h => exact hq h

/-! ### What the stages leave as it was -/

theorem keepsBut_learn (g vid mac kind result : Nat) (s : State) :
    keepsBut [.fwd, .mb, .host, .pc] s (learn g vid mac kind result s) := by
  unfold learn
  dsimp only
  split
  · split
    · split
      · exact keepsBut_refl _ s
      · split
        · exact keepsBut_mono (keepsBut_hwMod _ s) (by simp)
        · split
          · exact keepsBut_mono (keepsBut_bump _ _ s) (by simp)
          · exact keepsBut_then (keepsBut_hwMod _ s) (keepsBut_bump _ _ _) (by simp) (by simp)
    · exact keepsBut_refl _ s
  · split
    · exact keepsBut_mono (keepsBut_hwMod _ s) (by simp)
    · exact keepsBut_then (keepsBut_then (n := [.fwd, .pc]) (keepsBut_fwdMod _ s) (keepsBut_bump _ _ _) (by simp) (by simp))
        (keepsBut_issueEvent _ _ _ _) (by simp) (by simp)

theorem keepsBut_learnFrame (p : Nat) (b : List Byte) (pre : Option Nat) (x : Parsed) (loc : Bool) (s : State) :
    keepsBut [.fwd, .mb, .host, .pc] s (learnFrame p b pre x loc s) := by
  unfold learnFrame
  split
  · split
    · split
      · split
        · exact keepsBut_learn _ _ _ _ _ s
        · exact keepsBut_refl _ s
      · exact keepsBut_learn _ _ _ _ _ s
    · exact keepsBut_refl _ s
  · exact keepsBut_refl _ s

/-- Nothing is learned from a frame that a stage before has dropped (R272). -/
theorem learnFrame_dropped {p : Nat} {b : List Byte} {k : Nat} {x : Parsed} {loc : Bool} {s : State} :
    learnFrame p b (some k) x loc s = s := rfl

theorem keepsBut_withStoreRing (r : Nat) (f : List StoreFrame → List StoreFrame) (s : State) :
    keepsBut [.host] s { s with host := { s.host with store := vmodN s.host.store r f } } := by
  intro p hp
  cases p <;> first | rfl | exact ⟨rfl, rfl, rfl⟩ | simp at hp

theorem keepsBut_rxWriteback (r : Nat) (f : StoreFrame) (len : Nat) (eop : Bool) (trunc cause : Nat) (s : State) :
    keepsBut [.host] s (rxWriteback r f len eop trunc cause s) :=
  keepsBut_trans (keepsBut_hostWrite _ _ s) (keepsBut_ringMod _ _ _ _)

theorem keepsBut_rxPop (r : Nat) (s : State) : keepsBut [.host, .pc] s (rxPop r s) :=
  keepsBut_then (keepsBut_trans (keepsBut_withStoreRing r _ s) (keepsBut_ringMod _ _ _ _)) (keepsBut_bump _ _ _) (by simp)
    (by simp)

/-- A buffer is written, its descriptor goes from the ring, and the frame in the store is noted as far. -/
theorem keepsBut_rxFill (r a : Nat) (b : List Byte) (g : Ring → Ring) (h : List StoreFrame → List StoreFrame) (s : State) :
    keepsBut [.host, .pc] s { ringMod true r g (hostWrite a b s) with
      host := { (ringMod true r g (hostWrite a b s)).host with
        store := vmodN (ringMod true r g (hostWrite a b s)).host.store r h } } :=
  keepsBut_mono (keepsBut_trans (keepsBut_trans (keepsBut_hostWrite a b s) (keepsBut_ringMod true r g _))
    (keepsBut_withStoreRing r h _)) (by simp)

theorem keepsBut_rxRun (r n : Nat) : ∀ s : State, keepsBut [.host, .pc] s (rxRun r n s) := by
  have hbase {s t : State} (h : keepsBut [.host] s t) : keepsBut [.host, .pc] s t := keepsBut_mono h (by simp)
  induction n with
  | zero => exact fun s => keepsBut_refl _ s
  | succ n ih =>
    intro s
    unfold rxRun
    split
    · exact keepsBut_refl _ s
    · dsimp only
      split
      · exact keepsBut_refl _ s
      · split
        · exact keepsBut_trans (hbase (keepsBut_rxWriteback _ _ _ _ _ _ s)) (ih _)
        · split
          · exact keepsBut_trans (keepsBut_trans (keepsBut_trans (keepsBut_rxFill _ _ _ _ _ s)
              (hbase (keepsBut_rxWriteback _ _ _ _ _ _ _))) (keepsBut_rxPop _ _)) (ih _)
          · exact keepsBut_trans (keepsBut_trans (keepsBut_rxFill _ _ _ _ _ s) (hbase (keepsBut_ringMod _ _ _ _))) (ih _)
        · exact keepsBut_refl _ s

theorem keepsBut_rxDeliver (r : Nat) (f : StoreFrame) (s : State) : keepsBut [.host, .pc] s (rxDeliver r f s) := by
  unfold rxDeliver
  dsimp only
  split
  · exact keepsBut_mono (keepsBut_ringMod _ _ _ s) (by simp)
  · exact keepsBut_trans (keepsBut_mono (keepsBut_withStoreRing r _ s) (by simp)) (keepsBut_rxRun _ _ _)

/-! ### Before the stages -/

/-- The port's record of what its MAC did with a frame goes as the decision is made. -/
def fateForgotten (p : Nat) (f : RxFrame) (s : State) : State :=
  portMod p (fun q => { q with ended := q.ended.filter (fun e => e.1 != f.fid) }) s

theorem keepsBut_fateForgotten (p : Nat) (f : RxFrame) (s : State) : keepsBut [.port] s (fateForgotten p f s) :=
  keepsBut_portMod _ _ s

theorem portOf_fateForgotten_st (p : Nat) (f : RxFrame) (s : State) (q : Nat) :
    (portOf (fateForgotten p f s) q).st = (portOf s q).st :=
  portOf_portMod_kept Port.st (f := fun q => { q with ended := q.ended.filter (fun e => e.1 != f.fid) }) (fun _ => rfl) p q s

section
variable {p : PortIx} {f : RxFrame} {s : State}

theorem up_of_portUp {p : Nat} (h : portUp s p = true) : (portOf s p).st = .up := by
  simp only [portUp, Bool.and_eq_true, beq_iff_eq] at h
  exact h.1.1.2

theorem portUp_fateForgotten (q : Nat) : portUp (fateForgotten p.val f s) q = portUp s q := by
  unfold portUp
  rw [portOf_fateForgotten_st]
  rfl

/-- A whole frame that no unit beside the stages takes goes through them. -/
theorem exec_ingressDecision_forwards (hup : portUp s p.val = true)
    (hended : (portOf s p.val).ended.find? (fun e => e.1 == f.fid) = none) (hupsets : f.upsets = []) (htrunc : f.trunc = false)
    (hlen : f.bytes.length + 4 ≤ parN s 0x106 p.val) (haside : takenAside s p.val f.bytes = false)
    (hlocal : linkLocal f.bytes = false) : exec (.ingressDecision p f) s =
      .next (settle (pipeline p.val f f.bytes false (0, false) (fateForgotten p.val f s))) := by
  show execIngressDecision p f s = _
  have hst := up_of_portUp hup
  have hmax : ¬ parN (fateForgotten p.val f s) 0x106 p.val < f.bytes.length + 4 := Nat.not_lt.mpr hlen
  have haside' : takenAside (fateForgotten p.val f s) p.val f.bytes = false := haside
  have hup' := (portUp_fateForgotten (f := f) (p := p) p.val).trans hup
  unfold fateForgotten at *
  simp [execIngressDecision, hst, hended, hupsets, htrunc, hmax, haside', hup', hlocal, b2n, done]

end

/-! ### A frame for one standard port (R271, R287, R289) -/

/-- A frame without a context is not policed. -/
theorem policeFrame_none {len : Nat} {x : Parsed} (h : x.cfg = none) (s : State) : policeFrame len x s = (x, s) := by
  simp [policeFrame, h]

theorem parseFrame_standard_hdr {s : State} {p : Nat} (hfab : kindFab s p = false) (b : List Byte) :
    (parseFrame s p b).hdr = none := by
  simp [parseFrame, hfab]

theorem findCtx_hdr (s : State) (p : Nat) (b : List Byte) (x : Parsed) : (findCtx s p b x).hdr = x.hdr := rfl
theorem findCtx_vent (s : State) (p : Nat) (b : List Byte) (x : Parsed) : (findCtx s p b x).vent = x.vent := rfl

/-- Without a header and a context the L2 database decides. -/
theorem lookupFrame_port {s : State} {p q : Nat} {b : List Byte} {x : Parsed} {v : VidEntry} (hhdr : x.hdr = none)
    (hcfg : x.cfg = none) (hvent : x.vent = some v) (hl2 : l2Lookup s p x.vid (fieldBe b 0 6) v.flood = .port q) :
    lookupFrame s p b x = (.port q, none) := by
  simp [lookupFrame, hhdr, hcfg, hvent, hl2]

theorem addressed_standard {s : State} {g q : Nat} {k : Option Nat} (hfab : kindFab s q = false) :
    addressed s g ([q], k) = (([q], k), s) := by
  simp [addressed, hfab]

/-- The frame as it stands in the queue of its one output. -/
def queuedFrame (s : State) (p q : Nat) (f : RxFrame) (x : Parsed) : FrameDesc := {
  fid := f.fid, port := p, hostTx := none, bytes := f.bytes, len := f.bytes.length + 4, cls := x.cls, colour := x.colour, ctx := x.ctx
  outs := [editFor s p f.bytes x none (s.free + q) q], group := none, cut := false, trunc := false, bad := false, complete := false
  rxTime := eventStamp s p (x.off - 12) f
  rxLane := if (eventStamp s p (x.off - 12) f).isSome then f.stamp.map (·.lane) else none, oneStep := false, crossed := [] }

/-- A whole frame that the L2 database gives one standard port is learned from, and admitted for that port. -/
theorem pipeline_port {s u : State} {p q : Nat} {f : RxFrame} {v : VidEntry} {x : Parsed} (hfab : kindFab s p = false)
    (hx : findCtx s p f.bytes (parseFrame s p f.bytes) = x) (hdrop : x.drop = none) (hcfg : x.cfg = none) (hvent : x.vent = some v)
    (hl2 : l2Lookup s p x.vid (fieldBe f.bytes 0 6) v.flood = .port q) (hq : kindFab s q = false)
    (hu : learnFrame p f.bytes (parseFrame s p f.bytes).drop x true s = u) :
    pipeline p f f.bytes false (0, false) s = admitFrame (p / 8) (queuedFrame u p q f x) { u with free := u.free + 192 } := by
  have hhdr : x.hdr = none := by rw [← hx, findCtx_hdr, parseFrame_standard_hdr hfab]
  have hlook := lookupFrame_port hhdr hcfg hvent hl2
  simp [pipeline, hx, policeFrame_none hcfg, hdrop, hhdr, hlook, expand, addressed_standard hq, hq, hu, queuedFrame]

/-! ### Admission to a queue (R287, R254) -/

/-- No copy of a frame for a port that is there is lost at ingress. -/
theorem dropDown_single {s : State} {d : FrameDesc} {o : OutCopy} (houts : d.outs = [o]) (hcls : d.cls < 8)
    (hdown : (portOf s o.port).st ≠ .down) (hdis : (portOf s o.port).st ≠ .disabled) : dropDown d s = (d, s) := by
  have hne : d.cls ≠ 8 := by omega
  cases d
  simp_all [dropDown]

theorem queueOf_single {s : State} {g : Nat} {d : FrameDesc} {o : OutCopy} (houts : d.outs = [o]) :
    queueOf s g d = voqOf s g o.port d.cls := by
  simp [queueOf, houts]

/-- Checks 3 to 5 of R287 let a frame for port `q` of a class and colour in: its queue has room, no drop profile applies and the
slice has room. -/
def Admits (s : State) (g q cls colour : Nat) : Prop :=
  depthOf (voqOf s g q cls).frames < (parGC s 0x188 g cls).toNat ∧ 16 ≤ profileOf s cls colour ∧
    (parG s 0x187 g).toNat - calUsed s g + 2048 ≤ cellsFree s g

/-- The checks rest on the parameters, the modes and the queues. -/
theorem Admits.congr {s t : State} {g q cls colour : Nat} (h : Admits s g q cls colour) (hpar : t.par = s.par)
    (hgroup : t.group = s.group) (hq : t.q = s.q) : Admits t g q cls colour := by
  have heq : ∀ u : State, Admits u g q cls colour ↔ Admits { par := u.par, group := u.group, q := u.q } g q cls colour :=
    fun _ => Iff.rfl
  rw [heq t, hpar, hgroup, hq]
  exact (heq s).mp h

theorem admitFrame_enters {s : State} {g : Nat} {d : FrameDesc} {o : OutCopy} (houts : d.outs = [o]) (hcls : d.cls < 8)
    (hdown : (portOf s o.port).st ≠ .down) (hdis : (portOf s o.port).st ≠ .disabled)
    (hadmits : Admits s g o.port d.cls d.colour) : admitFrame g d s = enqueue g d s := by
  obtain ⟨hroom, hwred, hslice⟩ := hadmits
  have hne : d.cls ≠ 8 := by omega
  have hfull : ¬ (parGC s 0x188 g d.cls).toNat ≤ depthOf (queueOf s g d).frames := by
    rw [queueOf_single houts]
    omega
  have hstep : wredStep g d s = (false, s) := by simp [wredStep, hwred]
  have hfree : ¬ cellsFree s g + calUsed s g < (parG s 0x187 g).toNat + 2048 := by omega
  simp [admitFrame, dropDown_single houts hcls hdown hdis, houts, hne, admitTc, hfull, hstep, hfree]

theorem keepsBut_countCells (d : FrameDesc) (add : Bool) (n : Nat) (s : State) : keepsBut [.port] s (countCells d add n s) := by
  unfold countCells
  split
  · exact keepsBut_refl _ s
  · exact keepsBut_trans (keepsBut_portMod _ _ s) (keepsBut_pauseJudge _ _ _)

theorem voqOf_of_q {s t : State} (h : t.q = s.q) (g p c : Nat) : voqOf t g p c = voqOf s g p c := by
  simp only [voqOf, inGrp, h]

/-- A frame for one port enters at the end of that port's queue of its class, with the mark of R297. -/
theorem enqueue_voq {s : State} {g : Nat} {d : FrameDesc} {o : OutCopy} (hg : g < 24) (houts : d.outs = [o]) (hcls : d.cls < 8) :
    keepsBut [.port, .q] s (enqueue g d s) ∧ (enqueue g d s).q.out = s.q.out ∧
      (voqOf (enqueue g d s) g o.port d.cls).frames = (voqOf s g o.port d.cls).frames ++ [{ d with cut := cutMark s g d }] := by
  have hne : d.cls ≠ 8 := by omega
  have hcount := keepsBut_countCells { d with cut := cutMark s g d } true (cellsOf d.len)
    (setQueue g { d with cut := cutMark s g d } (fun q => { q with frames := q.frames ++ [{ d with cut := cutMark s g d }] }) s)
  have henq : enqueue g d s = countCells { d with cut := cutMark s g d } true (cellsOf d.len)
    (setQueue g { d with cut := cutMark s g d } (fun q => { q with frames := q.frames ++ [{ d with cut := cutMark s g d }] }) s) := by
    simp [enqueue, hne]
  have hq := hcount .q (by simp)
  rw [← henq] at hcount hq
  refine ⟨keepsBut_then (keepsBut_setQueue _ _ _ s) hcount (by simp) (by simp), ?_, ?_⟩
  · rw [show (enqueue g d s).q = _ from hq]
    simp [setQueue, houts, inMod]
  · rw [voqOf_of_q hq]
    simp [setQueue, houts, voqOf, inGrp, inMod, vmodN_same _ _ _ _ hg, Tbl.get_set]

theorem keepsBut_withFreeTaken (n : Nat) (s : State) : keepsBut [.free] s { s with free := n } := by
  intro p hp
  cases p <;> first | rfl | exact ⟨rfl, rfl, rfl⟩ | simp at hp

theorem ingressDecision_queues {p : PortIx} {f : RxFrame} {v : VidEntry} {q : Nat} {s : State}
    (hup : portUp s p.val = true) (hfab : kindFab s p.val = false)
    (hended : (portOf s p.val).ended.find? (fun e => e.1 == f.fid) = none) (hupsets : f.upsets = []) (htrunc : f.trunc = false)
    (hlen : f.bytes.length + 4 ≤ parN s 0x106 p.val) (haside : takenAside s p.val f.bytes = false)
    (hlocal : linkLocal f.bytes = false) {x : Parsed} (hx : findCtx s p.val f.bytes (parseFrame s p.val f.bytes) = x)
    (hdrop : x.drop = none) (hcfg : x.cfg = none) (hvent : x.vent = some v) (hcls : x.cls < 8)
    (hl2 : l2Lookup s p.val x.vid (fieldBe f.bytes 0 6) v.flood = .port q) (hq : kindFab s q = false)
    (hdown : (portOf s q).st ≠ .down) (hdis : (portOf s q).st ≠ .disabled)
    (hadmits : Admits s (p.val / 8) q x.cls x.colour) :
    ∃ t d, exec (.ingressDecision p f) s = .next t ∧ keepsBut [.port, .fwd, .q, .host, .msi, .mb, .pc, .free] s t ∧
      (voqOf t (p.val / 8) q x.cls).frames = (voqOf s (p.val / 8) q x.cls).frames ++ [d] ∧
      d.fid = f.fid ∧ d.bytes = f.bytes ∧ d.port = p.val ∧ d.cls = x.cls ∧ d.outs.map (fun o => o.port) = [q] ∧
      t.q.out = s.q.out := by
  have hexec := exec_ingressDecision_forwards hup hended hupsets htrunc hlen haside hlocal
  obtain ⟨u, hu⟩ : ∃ u, learnFrame p.val f.bytes (parseFrame s p.val f.bytes).drop x true (fateForgotten p.val f s) = u :=
    ⟨_, rfl⟩
  have hpipe := pipeline_port (s := fateForgotten p.val f s) (u := u) hfab hx hdrop hcfg hvent hl2 hq hu
  have hlearnt : keepsBut [.port, .fwd, .mb, .host, .pc] s u := by
    rw [← hu]
    exact keepsBut_then (keepsBut_fateForgotten _ _ s) (keepsBut_learnFrame _ _ _ _ _ _) (by simp) (by simp)
  have hst : ∀ r, (portOf u r).st = (portOf s r).st := fun r => by
    rw [← hu, portOf_of_keepsBut (keepsBut_learnFrame _ _ _ _ _ _) (by simp), portOf_fateForgotten_st]
  have hw := keepsBut_then (n := [.port, .fwd, .mb, .host, .pc, .free]) hlearnt (keepsBut_withFreeTaken (u.free + 192) u)
    (by simp) (by simp)
  have hport : (editFor u p.val f.bytes x none (u.free + q) q).port = q := by
    unfold editFor
    split <;> rfl
  generalize hd : queuedFrame u p.val q f x = d at hpipe
  have houts : d.outs = [editFor u p.val f.bytes x none (u.free + q) q] := by rw [← hd]; rfl
  have hdcls : d.cls = x.cls := by rw [← hd]; rfl
  have hcolour : d.colour = x.colour := by rw [← hd]; rfl
  have hqueues : ({ u with free := u.free + 192 } : State).q = s.q := hlearnt .q (by simp)
  have hadm : Admits { u with free := u.free + 192 } (p.val / 8) q x.cls x.colour :=
    hadmits.congr (hlearnt .par (by simp)) (hlearnt .group (by simp)) hqueues
  have hstw : ∀ r, (portOf { u with free := u.free + 192 } r).st = (portOf s r).st := hst
  generalize ({ u with free := u.free + 192 } : State) = w at hpipe hw hqueues hadm hstw
  rw [hpipe, admitFrame_enters houts (hdcls ▸ hcls) (by rwa [hport, hstw]) (by rwa [hport, hstw])
    (by rwa [hport, hdcls, hcolour])] at hexec
  obtain ⟨hframe, hout, hvoq⟩ := enqueue_voq (s := w) (g := p.val / 8) (by omega) houts (hdcls ▸ hcls)
  rw [hport, hdcls] at hvoq
  refine ⟨_, { d with cut := cutMark w (p.val / 8) d }, hexec,
    keepsBut_done (keepsBut_then hw hframe (by simp) (by simp)) (by simp), ?_, ?_⟩
  · rw [voqOf_of_q (settle_q _), hvoq, voqOf_of_q hqueues, hdcls]
  · rw [settle_q, hout, hqueues]
    rw [← hd]
    exact ⟨rfl, rfl, rfl, rfl, congrArg (fun r => [r]) hport, rfl⟩

/-! ### Frames that are not forwarded -/

theorem keepsBut_toHost (ring reason p : Nat) (f : RxFrame) (bytes : List Byte) (x : Parsed) (trunc : Bool) (s : State) :
    keepsBut [.host, .pc] s (toHost ring reason p f bytes x trunc s) := keepsBut_rxDeliver _ _ s

/-- A frame as the stages see it: cut at the longest length where it is longer (R244). -/
def seenBytes (p : Nat) (f : RxFrame) (s : State) : List Byte :=
  if f.trunc || decide (parN s 0x106 p < f.bytes.length + 4) then (f.bytes ++ le 4 (crc32 f.bytes).toNat).take (parN s 0x106 p)
  else f.bytes

/-- R262: a link-local frame goes to the host at most. -/
theorem ingressDecision_linkLocal {p : PortIx} {f : RxFrame} {s : State} (hlocal : linkLocal (seenBytes p.val f s) = true)
    (hupsets : f.upsets = []) :
    ∃ t, exec (.ingressDecision p f) s = .next t ∧ keepsBut [.port, .host, .msi, .pc] s t := by
  have hforgot := keepsBut_fateForgotten p.val f s
  suffices h : ∃ u, execIngressDecision p f s = done u ∧ keepsBut [.port, .host, .pc] s u by
    obtain ⟨u, hexec, hu⟩ := h
    exact ⟨_, hexec, keepsBut_done (keepsBut_mono hu (by simp)) (by simp)⟩
  refine ends_ite (fun _ => ⟨s, rfl, keepsBut_refl _ s⟩) fun _ => ends_ite (fun _ => ⟨_, rfl, keepsBut_mono hforgot (by simp)⟩)
    fun _ => ends_ite (fun _ => ⟨_, rfl, keepsBut_then hforgot (keepsBut_bump _ _ _) (by simp) (by simp)⟩) fun _ => ?_
  rw [hupsets, List.foldl_nil]
  exact ends_ite (fun _ => ends_ite (fun _ => ⟨_, rfl, keepsBut_mono hforgot (by simp)⟩)
      fun _ => ⟨_, rfl, keepsBut_then hforgot (keepsBut_toHost _ _ _ _ _ _ _ _) (by simp) (by simp)⟩)
    fun hnot => absurd hlocal hnot

/-- R263: a frame of a VID without an entry is dropped in stage 1, and nothing is learned. -/
theorem pipeline_noVid {s : State} {p : Nat} {f : RxFrame} (hfab : kindFab s p = false)
    (hvid : Tbl.get s.fwd.hw.vid (vidOf s p f.bytes 12) = none) (hbad : isBad s 3 (vidOf s p f.bytes 12) = false)
    (hcfg : (findCtx s p f.bytes (parseFrame s p f.bytes)).cfg = none) :
    pipeline p f f.bytes false (0, false) s = bump (groupEvent (p / 8) 2) 1 s := by
  have hparsed : (parseFrame s p f.bytes).drop = some 2 := by simp [parseFrame, hfab, hvid, hbad]
  have hdrop : (findCtx s p f.bytes (parseFrame s p f.bytes)).drop = some 2 := by simp [findCtx, hparsed]
  simp [pipeline, policeFrame_none hcfg, hdrop, expand, addressed, hparsed, learnFrame_dropped]

/-- Settles O30: a frame that nothing holds back ends in its queue, a link-local one goes to the host at most, and one of an
unknown VID is counted. -/
theorem forwardingDecisions : Obligations.ForwardingDecisions := by
  unfold Obligations.ForwardingDecisions
  refine ⟨fun p f v q s hup hfab hended hupsets htrunc hlen haside hlocal hdrop hcfg hvent hcls hl2 hq hdown hdis hroom hwred hslice =>
      ingressDecision_queues hup hfab hended hupsets htrunc hlen haside hlocal rfl hdrop hcfg hvent hcls hl2 hq hdown hdis
        ⟨hroom, hwred, hslice⟩,
    fun p f s hlocal hupsets => ingressDecision_linkLocal hlocal hupsets,
    fun p f s hup hfab hended hupsets htrunc hlen haside hlocal hvid hbad hcfg => ?_⟩
  have hexec := exec_ingressDecision_forwards hup hended hupsets htrunc hlen haside hlocal
  rw [pipeline_noVid (s := fateForgotten p.val f s) hfab hvid hbad hcfg] at hexec
  exact ⟨_, hexec, keepsBut_done (keepsBut_then (keepsBut_fateForgotten _ _ s) (keepsBut_bump _ _ _) (by simp) (by simp))
    (by simp), rfl⟩

end Sys2Proof.Machine

/-! Ageing, scrubbing and repair of the tables (R273, R280, R281). -/

namespace Sys2Proof.Machine

-- The joined text is one compile: no thread beside the main one for each proof.
set_option Elab.async false

/-! ### The sweep (R273) -/

/-- The learned and static entries after a sweep. -/
def swept (t : Tbl L2Entry) : Tbl L2Entry :=
  (t.filter (fun e => e.2.static || e.2.hit)).map (fun e => if e.2.static then e else (e.1, { e.2 with hit := false }))

theorem mem_swept {t : Tbl L2Entry} {i : Nat} {e : L2Entry} : (i, e) ∈ swept t ↔
    ∃ e₀ : L2Entry, (i, e₀) ∈ t ∧ (e₀.static = true ∨ e₀.hit = true) ∧ e = { e₀ with hit := e₀.static && e₀.hit } := by
  have hkept : ∀ (j : Nat) (e₀ : L2Entry), (if e₀.static then (j, e₀) else (j, { e₀ with hit := false })) =
      (j, { e₀ with hit := e₀.static && e₀.hit }) := by
    intro j e₀
    cases e₀ with
    | mk static hit => cases static <;> rfl
  simp only [swept, List.mem_map, List.mem_filter, Bool.or_eq_true, Prod.exists, hkept, Prod.mk.injEq]
  constructor
  · rintro ⟨j, e₀, ⟨hmem, hlive⟩, rfl, rfl⟩
    exact ⟨e₀, hmem, hlive, rfl⟩
  · rintro ⟨e₀, hmem, hlive, rfl⟩
    exact ⟨i, e₀, ⟨hmem, hlive⟩, rfl, rfl⟩

theorem ageingSweep_sweeps {s : State} (hobw : obilwinUp s = true) (hon : domOn s 10 = true) :
    ∃ t, exec .ageingSweep s = .next t ∧ keepsBut [.fwd, .msi] s t ∧
      t.fwd = { s.fwd with hw := { s.fwd.hw with l2 := t.fwd.hw.l2 } } ∧ t.fwd.hw.l2 = swept s.fwd.hw.l2 :=
  ⟨settle (hwMod (fun h => { h with l2 := swept h.l2 }) s), if_pos (by rw [hobw, hon]; rfl),
    keepsBut_done (keepsBut_mono (keepsBut_hwMod _ s) (by simp)) (by simp), rfl, rfl⟩

/-! ### The scrubber (R280, R281) -/

/-- The mark, the log and the flag of an entry found bad. -/
def marked (k i : Nat) (s : State) : State :=
  fwdMod (fun x => { x with
    bad := Tbl.set x.bad (badKey k i) (), parityEvt := true, logTable := k, logSeq := (x.logSeq + 1) % 4096, logIndex := i }) s

theorem isBad_of_bad {s t : State} {k i : Nat} (h : t.fwd.bad = s.fwd.bad) : isBad t k i = isBad s k i := by
  simp only [isBad, h]

theorem isBad_marked (k i : Nat) (s : State) : isBad (marked k i s) k i = true := by
  simp [isBad, marked, fwdMod, Tbl.has, Tbl.get_set]

/-- Only a policer's entry holds more than the mark: its buckets are full again. -/
theorem parityFound_marks {k i : Nat} {s : State} (hbad : isBad s k i = false) :
    keepsBut [.fwd, .host, .mb, .pc] s (parityFound k i s) ∧
      ∃ live, (parityFound k i s).fwd = { (marked k i s).fwd with live := live } := by
  have hmark : markBad k i s = issueEvent 0x0502 k (le 4 i) (bump 32 1 (marked k i s)) := by simp [markBad, hbad, marked]
  have hframe : keepsBut [.fwd, .host, .mb, .pc] s (markBad k i s) := by
    rw [hmark]
    exact keepsBut_then (keepsBut_then (n := [.fwd, .pc]) (keepsBut_fwdMod _ s) (keepsBut_bump _ _ _) (by simp) (by simp))
      (keepsBut_issueEvent _ _ _ _) (by simp) (by simp)
  have hfwd : (markBad k i s).fwd = (marked k i s).fwd := by
    rw [hmark]
    exact keepsBut_issueEvent _ _ _ _ .fwd (by simp)
  unfold parityFound
  dsimp only
  split
  · exact ⟨keepsBut_then hframe (keepsBut_fwdMod _ _) (by simp) (by simp), _, by rw [← hfwd]; rfl⟩
  · exact ⟨hframe, _, hfwd⟩

theorem scrubPass_marks {k : Fin 7} {i : Nat} {s : State} (hon : domOn s 10 = true) (hup : chipUp s) (hbad : isBad s k.val i = false) :
    ∃ t, exec (.scrubPass [(k, i)]) s = .next t ∧ keepsBut [.fwd, .host, .msi, .mb, .pc] s t ∧
      ∃ live, t.fwd = { (marked k.val i s).fwd with live := live } := by
  obtain ⟨hpor, hchip⟩ := hup
  obtain ⟨hframe, live, hfwd⟩ := parityFound_marks hbad
  refine ⟨settle (bump 33 1 (parityFound k.val i s)), if_pos ?_, ?_, live, hfwd⟩
  · simp [hon, execScrubPass.inReset, hpor, hchip]
  · exact keepsBut_done (keepsBut_then hframe (keepsBut_bump _ _ _) (by simp) (by simp)) (by simp)

/-! ### Repair (R281) -/

theorem get_putGold {α : Type} (i j : Nat) (t gold : Tbl α) :
    Tbl.get (putGold i t gold) j = if j = i then Tbl.get gold i else Tbl.get t j := by
  unfold putGold
  split
  next v hv => rw [Tbl.get_set, hv]
  next hnone => rw [Tbl.get_erase, hnone]

theorem isBad_clearBad (k i : Nat) (s : State) : isBad (clearBad k i s) k i = false := by
  simp [isBad, clearBad, fwdMod, Tbl.has, Tbl.get_erase]

/-- The tables with one entry repaired. -/
theorem keepsBut_repair (k i : Nat) (f : FwdTables → FwdTables) (s : State) :
    keepsBut [.fwd, .msi] s (settle (hwMod f (clearBad k i s))) :=
  keepsBut_done (keepsBut_mono (keepsBut_trans (keepsBut_fwdMod _ s) (keepsBut_hwMod f _)) (by simp)) (by simp)

/-- Settles O31: the sweep, the mark and the two repairs, each entry by entry. -/
theorem tableCare : Obligations.TableCare := by
  unfold Obligations.TableCare
  refine ⟨fun s hobw hon => ?_, fun k i s hon hup hbad => ?_, fun i s hobw hon hbad => ?_, fun i s hobw hon hbad => ?_⟩
  · obtain ⟨t, hexec, hframe, hfwd, hl2⟩ := ageingSweep_sweeps hobw hon
    exact ⟨t, hexec, hframe, hfwd, fun i e => by rw [hl2]; exact mem_swept⟩
  · obtain ⟨t, hexec, hframe, live, hfwd⟩ := scrubPass_marks hon hup hbad
    refine ⟨t, hexec, hframe, ?_, ?_⟩
    · rw [isBad_of_bad (s := marked k.val i s) (by rw [hfwd]), isBad_marked]
    · rw [hfwd]
      exact ⟨rfl, rfl, rfl, rfl, rfl, rfl⟩
  · have hruns : (obilwinUp s && domOn s 10 && isBad s 3 i) = true := by rw [hobw, hon, hbad]; rfl
    exact ⟨settle (hwMod (fun h => { h with vid := putGold i h.vid s.fwd.golden.vid }) (clearBad 3 i s)), if_pos hruns,
      keepsBut_repair _ _ _ _, isBad_clearBad 3 i s, fun j => get_putGold _ _ _ _, rfl, rfl⟩
  · have hruns : (obilwinUp s && domOn s 10 && isBad s 0 i) = true := by rw [hobw, hon, hbad]; rfl
    exact ⟨settle (hwMod (fun h => { h with l2 := putGold i h.l2 s.fwd.golden.l2 }) (clearBad 0 i s)), if_pos hruns,
      keepsBut_repair _ _ _ _, isBad_clearBad 0 i s, fun j => get_putGold _ _ _ _, rfl⟩

end Sys2Proof.Machine

/-! The crossbar match and congestion marking (R291, R301, R302). -/

namespace Sys2Proof.Machine

-- The joined text is one compile: no thread beside the main one for each proof.
set_option Elab.async false

/-! ### The parts that a crossing cell moves -/

/-- The parts that a cell's way into the reassembly buffer may move. -/
def cellParts : List Part := [.port, .fwd, .q, .cald, .host, .pc]

/-- A cell's way into the reassembly buffer leaves the calendar queues of the input groups. -/
structure CellWork (s t : State) : Prop where
  frame : keepsBut cellParts s t
  calq : ∀ g, (inGrp t g).calq = (inGrp s g).calq

namespace CellWork

theorem refl (s : State) : CellWork s s := ⟨keepsBut_refl _ s, fun _ => rfl⟩

theorem trans {s t u : State} (h : CellWork s t) (k : CellWork t u) : CellWork s u :=
  ⟨keepsBut_trans h.frame k.frame, fun g => (k.calq g).trans (h.calq g)⟩

theorem of_frame {l : List Part} {s t : State} (h : keepsBut l s t) (i : ∀ p ∈ l, p ∈ cellParts) (m : Part.q ∉ l) :
    CellWork s t := by
  refine ⟨keepsBut_mono h i, fun g => ?_⟩
  have hq : t.q = s.q := h .q m
  simp only [inGrp, hq]

theorem of_outMod (o : Nat) (f : OutGroup → OutGroup) (s : State) : CellWork s (outMod o f s) :=
  ⟨keepsBut_mono (keepsBut_outMod o f s) (by simp [cellParts]), fun _ => rfl⟩

theorem of_inMod {f : InGroup → InGroup} (hf : ∀ x, (f x).calq = x.calq) (i : Nat) (s : State) : CellWork s (inMod i f s) :=
  ⟨keepsBut_mono (keepsBut_inMod i f s) (by simp [cellParts]), fun g => vget_vmodN_kept s.q.inp i g {} InGroup.calq hf⟩

theorem of_foldl {α : Type} {f : State → α → State} (h : ∀ s x, CellWork s (f s x)) (xs : List α) (s : State) :
    CellWork s (xs.foldl f s) :=
  List.foldlRecOn xs f (motive := fun t => CellWork s t) (refl s) fun t ht x _ => ht.trans (h t x)

theorem of_bump (ev n : Nat) (s : State) : CellWork s (bump ev n s) :=
  of_frame (keepsBut_bump ev n s) (by simp [cellParts]) (by simp)

theorem of_hostDropped (d : FrameDesc) (s : State) : CellWork s (hostDropped d s) :=
  of_frame (keepsBut_hostDropped d s) (by simp [cellParts]) (by simp)

theorem of_copyDropped (d : FrameDesc) (s : State) : CellWork s (copyDropped d s) :=
  of_frame (keepsBut_copyDropped d s) (by simp [cellParts]) (by simp)

theorem of_egMod (o fid i : Nat) (f : EgFrame → EgFrame) (s : State) : CellWork s (egMod o fid i f s) := of_outMod o _ s

theorem of_calMiss (p ctx : Nat) (s : State) : CellWork s (calMiss p ctx s) := by
  refine of_frame (l := [.cald]) ?_ (by simp [cellParts]) (by simp)
  unfold calMiss
  dsimp only
  split
  · split
    · exact keepsBut_trans (keepsBut_pcalMod _ _ s) (keepsBut_calMod _ _)
    · exact keepsBut_pcalMod _ _ s
  · exact keepsBut_pcalMod _ _ s

theorem of_corruptTx (o fid : Nat) (s : State) : CellWork s (corruptTx o fid s) :=
  of_frame (keepsBut_forEach (fun p s => keepsBut_portMod p _ s) _ s) (by simp [cellParts]) (by simp)

theorem of_badFrame (o fid i ev : Nat) (s : State) : CellWork s (badFrame o fid i ev s) := by
  unfold badFrame
  split
  next e _ =>
    dsimp only
    have hcorrupt := of_corruptTx o fid s
    split
    · exact hcorrupt
    · refine ((hcorrupt.trans (of_outMod o _ _)).trans (of_foldl (fun t _ => ?_) _ _)).trans ((of_bump _ _ _).trans (of_hostDropped _ _))
      split
      · exact of_copyDropped _ t
      · exact refl t
  · exact refl s

/-- A calendar frame's first cell finds its slots, or is missed. -/
theorem of_calPorts (d : FrameDesc) (ports : List Nat) (s : State) : CellWork s (calPorts d ports s).2.2 := by
  refine List.foldlRecOn ports _ (motive := fun (a : List Nat × List SlotMatch × State) => CellWork s a.2.2) (refl s) fun a ha p _ => ?_
  dsimp only
  split
  · exact ha.trans ((of_frame (keepsBut_macCount _ _ _ _) (by simp [cellParts]) (by simp)).trans (of_calMiss _ _ _))
  · split
    · exact ha.trans (of_calMiss _ _ _)
    · split
      · exact ha.trans (of_frame (keepsBut_pcalMod _ _ _) (by simp [cellParts]) (by simp))
      · exact ha.trans (of_calMiss _ _ _)

theorem of_copyFrame (o i : Nat) (e : EgFrame) (s : State) : CellWork s (copyFrame o i e s) := by
  unfold copyFrame
  split
  · exact refl s
  · dsimp only
    have hgone : ∀ l : List Nat, CellWork s (l.foldl (fun s ev => copyDropped e.desc (bump ev 1 s)) s) := fun l =>
      of_foldl (fun t ev => (of_bump ev 1 t).trans (of_copyDropped _ _)) l s
    split
    · exact (hgone _).trans (of_outMod o _ _)
    · exact (hgone _).trans (of_egMod o _ i _ _)

/-- What is done as the last cell of a frame is there. -/
theorem of_egressLast (i o : Nat) (d : FrameDesc) (s : State) : CellWork s
    (match (outGrp s o).egress.find? (fun e => e.desc.fid == d.fid && e.src.val == i) with
    | some e =>
      if e.ports.isEmpty then outMod o (fun g => { g with egress := g.egress.filter (fun x => !(x.desc.fid == d.fid && x.src.val == i)) }) s
      else copyFrame o i e s
    | none => s) := by
  split
  · split
    · exact of_outMod o _ s
    · exact of_copyFrame o i _ s
  · exact refl s

theorem of_egressCell (i o : Nat) (d : FrameDesc) (bad : Bool) (s : State) : CellWork s (egressCell i o d bad s) := by
  unfold egressCell
  extract_lets total ports c e s₁ s₂ s₃
  have hports : CellWork s c.2.2 := by
    dsimp only [c]
    split
    · exact of_calPorts d ports s
    · exact refl s
  clear_value c
  have hfirst : CellWork s s₁ := by
    dsimp only [s₁]
    split
    · split
      · exact hports.trans (of_hostDropped d _)
      · exact hports.trans (of_outMod o _ _)
    · exact of_egMod o _ i _ s
  clear_value s₁
  have hcrc : CellWork s s₂ := by
    dsimp only [s₂]
    split
    · exact hfirst.trans ((of_inMod (f := fun x => { x with cellCrcEvt := true }) (fun _ => rfl) i s₁).trans (of_badFrame _ _ _ _ _))
    · exact hfirst
  clear_value s₂
  have hbad : CellWork s s₃ := by
    dsimp only [s₃]
    split
    · exact hcrc.trans (of_badFrame _ _ _ _ _)
    · exact hcrc
  split
  · exact hbad.trans (of_egressLast i o d s₃)
  · exact hcrc

theorem of_payCell (o p c n : Nat) (s : State) : CellWork s (payCell o p c n s) := of_outMod o _ s

end CellWork

/-! ### A cell crosses (R289, R302) -/

/-- The frame whose cell a matched pair crosses, with its queue. -/
def crossPick (m : Pair) (s : State) : Option (Nat × FrameDesc) :=
  let x := inGrp s m.inp
  let hs := (heads x).filter (fun h => wants m.out h.2)
  if m.lvl = 0 then (x.calq.head?.filter (wants m.out)).map (fun d => (2 ^ 20, d))
  else if m.lvl = 1 then hs.find? (fun h => decide (0 < crossedTo h.2 m.out))
  else hs.find? (fun h => crossedTo h.2 m.out == 0 && askPort s m.out h.2 == some m.port && h.2.cls == m.cls)

/-- The frame's cell is out of its queue, and the frame with it where that was its last. -/
def cellTaken (m : Pair) (k : Nat) (d : FrameDesc) (s : State) : State :=
  if k = 2 ^ 20 then inMod m.inp (fun x => { x with calq := swapHead (afterCell m.out d) x.calq }) s
  else if k < 8 then setMcq m.inp k (swapHead (afterCell m.out d) (vget (inGrp s m.inp).mcq k {}).frames) s
  else setVoq m.inp ((k - 8) / 8) ((k - 8) % 8) (swapHead (afterCell m.out d) ((Tbl.get (inGrp s m.inp).voq (k - 8)).getD {}).frames) s

theorem keepsBut_cellTaken (m : Pair) (k : Nat) (d : FrameDesc) (s : State) : keepsBut [.q] s (cellTaken m k d s) := by
  unfold cellTaken
  split
  · exact keepsBut_inMod _ _ s
  · split
    · exact keepsBut_setMcq _ _ _ s
    · exact keepsBut_setVoq _ _ _ _ s

theorem crossCell_none {bad : Bool} {m : Pair} {s : State} (h : crossPick m s = none) : crossCell bad m s = s := by
  have hpick : crossCell bad m s = match crossPick m s with
    | none => s
    | some _ => crossCell bad m s := by rw [h]; unfold crossCell; unfold crossPick at h; dsimp only at h ⊢; rw [h]
  rw [hpick, h]

theorem cellWork_released (d : FrameDesc) (rel : Nat) (s : State) :
    CellWork s (if rel = 0 then s else countCells d false rel s) := by
  split
  · exact .refl s
  · exact .of_frame (keepsBut_countCells _ _ _ _) (by simp [cellParts]) (by simp)

theorem crossCell_some {bad : Bool} {m : Pair} {s : State} {k : Nat} {d : FrameDesc} (h : crossPick m s = some (k, d)) :
    CellWork (cellTaken m k d s) (crossCell bad m s) := by
  unfold crossCell
  unfold crossPick at h
  dsimp only at h ⊢
  rw [h]
  dsimp only
  exact (cellWork_released d _ (cellTaken m k d s)).trans
    ((CellWork.of_payCell _ _ _ _ _).trans ((CellWork.of_bump 3 1 _).trans (CellWork.of_egressCell _ _ _ _ _)))

theorem keepsBut_crossCell (bad : Bool) (m : Pair) (s : State) : keepsBut cellParts s (crossCell bad m s) := by
  cases h : crossPick m s with
  | none => rw [crossCell_none h]; exact keepsBut_refl _ s
  | some x => exact keepsBut_trans (keepsBut_mono (keepsBut_cellTaken m x.1 x.2 s) (by simp [cellParts])) (crossCell_some h).frame

/-! ### One iteration of the match (R291) -/

theorem map_filterMap_sublist {α β : Type} {f : α → Option β} {k : β → α} (h : ∀ a b, f a = some b → k b = a) (l : List α) :
    ((l.filterMap f).map k).Sublist l := by
  induction l with
  | nil => exact .slnil
  | cons a l ih =>
    cases hf : f a with
    | none => rw [List.filterMap_cons_none hf]; exact ih.cons a
    | some b => rw [List.filterMap_cons_some hf, List.map_cons, h a b hf]; exact ih.cons_cons a

theorem grantOf_out {s : State} {asks : Nat → Nat → Ask} {free : List Nat} {o : Nat} {p : Pair}
    (h : (grantOf s asks free o).1 = some p) : p.out = o := by
  unfold grantOf at h
  dsimp only at h
  split at h
  · cases h; rfl
  · cases h; rfl
  · split at h
    · cases h
    · split at h
      · cases h; rfl
      · cases h

theorem acceptOf_mem {s : State} {grants : List Pair} {i : Nat} {p : Pair} (h : acceptOf s grants i = some p) :
    p ∈ grants ∧ p.inp = i := by
  unfold acceptOf at h
  dsimp only at h
  split at h
  · have hmem := List.mem_of_find?_eq_some h
    simp only [List.mem_filter, beq_iff_eq] at hmem
    exact hmem.1
  · cases h

/-- The pairs have distinct input groups and distinct output groups. -/
def Matching (l : List Pair) : Prop := (l.map (fun m => m.inp)).Nodup ∧ (l.map (fun m => m.out)).Nodup

/-- The groups that no pair has yet. -/
def freeIns (l : List Pair) : List Nat := (List.range 24).filter (fun i => !l.any (fun p => p.inp == i))
def freeOuts (l : List Pair) : List Nat := (List.range 24).filter (fun o => !l.any (fun p => p.out == o))

theorem matching_iteration {asks : Nat → Nat → Ask} {first : Bool} {l : List Pair} {s : State} (h : Matching l) :
    Matching (iteration asks first l s).1 := by
  obtain ⟨hin, hout⟩ := h
  have hins : ∀ i ∈ freeIns l, ∀ p ∈ l, p.inp ≠ i := by simp [freeIns]
  have houts : ∀ o ∈ freeOuts l, ∀ p ∈ l, p.out ≠ o := by simp [freeOuts]
  have hgrants : ((freeOuts l).map (fun o => (o, grantOf s asks (freeIns l) o))).filterMap (fun g => g.2.1) =
      (freeOuts l).filterMap (fun o => (grantOf s asks (freeIns l) o).1) := by
    rw [List.filterMap_map]; rfl
  have hresult : (iteration asks first l s).1 =
      l ++ (freeIns l).filterMap (acceptOf s ((freeOuts l).filterMap (fun o => (grantOf s asks (freeIns l) o).1))) := by
    rw [← hgrants]; rfl
  have hgsub := map_filterMap_sublist (f := fun o => (grantOf s asks (freeIns l) o).1) (k := fun p => p.out)
    (fun o p hp => grantOf_out hp) (freeOuts l)
  generalize (freeOuts l).filterMap (fun o => (grantOf s asks (freeIns l) o).1) = grants at hresult hgsub
  have hasub := map_filterMap_sublist (f := acceptOf s grants) (k := fun p => p.inp) (fun i p hp => (acceptOf_mem hp).2) (freeIns l)
  have hamem : ∀ p ∈ (freeIns l).filterMap (acceptOf s grants), p ∈ grants := by
    intro p hp
    obtain ⟨i, -, hi⟩ := List.mem_filterMap.mp hp
    exact (acceptOf_mem hi).1
  generalize (freeIns l).filterMap (acceptOf s grants) = acc at hresult hasub hamem
  have hain : (acc.map (fun p => p.inp)).Nodup := hasub.nodup (List.nodup_range.filter _)
  have hgout : (grants.map (fun p => p.out)).Nodup := hgsub.nodup (List.nodup_range.filter _)
  have haout : (acc.map (fun p => p.out)).Nodup :=
    hain.of_map.map_on fun x hx y hy hxy => List.inj_on_of_nodup_map hgout (hamem x hx) (hamem y hy) hxy
  rw [hresult]
  refine ⟨?_, ?_⟩
  · rw [List.map_append]
    refine List.nodup_append.mpr ⟨hin, hain, fun i hi j hj hij => ?_⟩
    obtain ⟨p, hp, rfl⟩ := List.mem_map.mp hi
    exact hins j (hasub.subset hj) p hp hij
  · rw [List.map_append]
    refine List.nodup_append.mpr ⟨hout, haout, fun o ho q hq hoq => ?_⟩
    obtain ⟨p, hp, rfl⟩ := List.mem_map.mp ho
    obtain ⟨r, hr, rfl⟩ := List.mem_map.mp hq
    exact houts r.out (hgsub.subset (List.mem_map_of_mem (hamem r hr))) p hp hoq

/-- An iteration moves the places and the pointers of the groups. -/
theorem cellWork_iteration (asks : Nat → Nat → Ask) (first : Bool) (l : List Pair) (s : State) :
    CellWork s (iteration asks first l s).2 := by
  have hmove (p : Pair) (t : State) : CellWork t (movePointers p t) :=
    (CellWork.of_inMod (f := fun x => { x with accept := vmodN x.accept p.lvl (fun _ => Fin.ofNat 24 (p.out + 1)) })
      (fun _ => rfl) p.inp t).trans (.of_outMod _ _ _)
  cases first with
  | true => exact (CellWork.of_foldl (fun t g => .of_outMod _ _ t) _ s).trans (.of_foldl (fun t p => hmove p t) _ _)
  | false => exact .refl s

/-! ### The match of one slot -/

/-- Who asks whom in a slot, as the match tabulates it (R290). -/
def asksOf (s : State) (i o : Nat) : Ask :=
  (((List.range 24).map (fun i => (List.range 24).map (fun o => askOf s i o))).getD i []).getD o ⟨false, false, []⟩

theorem matching_matchSlot' (s : State) : Matching (matchSlot' s).1 :=
  matching_iteration (matching_iteration (matching_iteration (matching_iteration ⟨List.nodup_nil, List.nodup_nil⟩)))

theorem cellWork_matchSlot' (s : State) : CellWork s (matchSlot' s).2 :=
  (cellWork_iteration _ true _ s).trans ((cellWork_iteration _ false _ _).trans
    ((cellWork_iteration _ false _ _).trans (cellWork_iteration _ false _ _)))

/-! ### Where nothing is queued -/

/-- No frame waits in an input group. -/
def NothingQueued (s : State) : Prop :=
  ∀ g, (inGrp s g).voq = [] ∧ (inGrp s g).calq = [] ∧ ∀ c, (vget (inGrp s g).mcq c {}).frames = []

theorem NothingQueued.of_q {s t : State} (h : NothingQueued s) (hq : t.q = s.q) : NothingQueued t := by
  intro g
  simpa only [inGrp, hq] using h g

theorem heads_of_empty {x : InGroup} (hvoq : x.voq = []) (hmcq : ∀ c, (vget x.mcq c {}).frames = []) : heads x = [] := by
  simp [heads, hvoq, hmcq]

theorem askOf_of_nothingQueued {s : State} (h : NothingQueued s) (i o : Nat) : askOf s i o = ⟨false, false, []⟩ := by
  obtain ⟨hvoq, hcalq, hmcq⟩ := h i
  have hempty : ∀ x : InGroup, x.voq = [] → x.calq = [] → (∀ c, (vget x.mcq c {}).frames = []) →
      ({ cal := x.calq.head?.any (wants o)
         cont := ((heads x).filter (fun h => wants o h.2)).any (fun h => decide (0 < crossedTo h.2 o))
         new := ((heads x).filter (fun h => wants o h.2)).filterMap
          (fun h => if crossedTo h.2 o = 0 then (askPort s o h.2).map (fun p => (p, h.2.cls)) else none) } : Ask) =
      ⟨false, false, []⟩ := by
    intro x hx hc hm
    simp [heads_of_empty hx hm, hc]
  unfold askOf
  dsimp only
  split
  · exact hempty _ hvoq hcalq hmcq
  · refine hempty _ rfl rfl fun c => ?_
    unfold vget
    split <;> simp

theorem asksOf_of_nothingQueued {s : State} (h : NothingQueued s) (i o : Nat) : asksOf s i o = ⟨false, false, []⟩ := by
  have hrow {α : Type} (x d : α) (hd : d = x) (n j : Nat) : ((List.range n).map (fun _ => x)).getD j d = x := by
    rw [List.getD_eq_getElem?_getD, List.getElem?_map]
    cases (List.range n)[j]? with
    | none => exact hd
    | some _ => rfl
  simp only [asksOf, askOf_of_nothingQueued h]
  have hrows (row : List Ask) (n : Nat) : ((List.range n).map (fun _ => row)).getD i [] = row ∨
      ((List.range n).map (fun _ => row)).getD i [] = [] := by
    rw [List.getD_eq_getElem?_getD, List.getElem?_map]
    cases (List.range n)[i]? with
    | none => exact .inr rfl
    | some _ => exact .inl rfl
  rcases hrows ((List.range 24).map (fun _ => ⟨false, false, []⟩)) 24 with hfull | hempty
  · rw [hfull]
    exact hrow _ _ rfl 24 o
  · rw [hempty]
    rfl

theorem grantOf_of_idle {asks : Nat → Nat → Ask} (h : ∀ i o, asks i o = ⟨false, false, []⟩) (s : State) (free : List Nat) (o : Nat) :
    grantOf s asks free o = (none, outGrp s o) := by
  simp [grantOf, h, firstFrom]

theorem outMod_self {s : State} {o : Nat} : outMod o (fun _ => outGrp s o) s = s := by
  unfold outMod
  rw [vmodN_of_fixed (d := {}) rfl]

/-- An iteration without requests makes no pair and moves nothing. -/
theorem iteration_of_idle {asks : Nat → Nat → Ask} (h : ∀ i o, asks i o = ⟨false, false, []⟩) (first : Bool) (l : List Pair)
    (s : State) : iteration asks first l s = (l, s) := by
  have hfold : ∀ os : List Nat, (os.map (fun o => (o, (none : Option Pair), outGrp s o))).foldl
      (fun s g => outMod g.1 (fun _ => g.2.2) s) s = s := by
    intro os
    induction os with
    | nil => rfl
    | cons o os ih => rw [List.map_cons, List.foldl_cons, outMod_self, ih]
  have hacc : ∀ is : List Nat, is.filterMap (acceptOf s []) = [] := fun is =>
    List.filterMap_eq_nil_iff.mpr fun i _ => by simp [acceptOf, firstFrom]
  cases first <;> simp [iteration, grantOf_of_idle h, hacc, hfold, List.filterMap_map]

theorem matchSlot'_of_nothingQueued {s : State} (h : NothingQueued s) : matchSlot' s = ([], s) := by
  have hidle := asksOf_of_nothingQueued h
  have hstep (first : Bool) (l : List Pair) : iteration (asksOf s) first l s = (l, s) := iteration_of_idle hidle first l s
  unfold matchSlot'
  extract_lets tab asks r₁ r₂ r₃
  have h₁ : r₁ = ([], s) := hstep true []
  have h₂ : r₂ = ([], s) := by
    show iteration (asksOf s) false r₁.1 r₁.2 = _
    rw [h₁, hstep]
  have h₃ : r₃ = ([], s) := by
    show iteration (asksOf s) false r₂.1 r₂.2 = _
    rw [h₂, hstep]
  show iteration (asksOf s) false r₃.1 r₃.2 = _
  rw [h₃, hstep]

/-! ### A matched calendar frame of one cell -/

/-- The frame has all its cells across once its only one is. -/
theorem afterCell_of_oneCell {d : FrameDesc} {c : OutCopy} {o : Nat} (houts : d.outs = [c]) (hpos : 0 < d.len) (hlen : d.len ≤ 128)
    (hwants : wants o d = true) : afterCell o d = none := by
  have hcells : cellsOf d.len = 1 := by unfold cellsOf; omega
  have hgroups : ∀ x : FrameDesc, x.outs = [c] → outGroups x = [c.port / 8] := by
    intro x hx
    simp [outGroups, hx]
  have hready : cellsReady d ≤ 1 := by
    unfold cellsReady
    rw [hcells]
    split <;> simp
  simp only [wants, hgroups d houts, Bool.and_eq_true, beq_iff_eq, decide_eq_true_eq, List.contains_eq_mem, List.mem_singleton] at hwants
  obtain ⟨⟨rfl, hcrossed⟩, hhead⟩ := hwants
  have hzero : crossedTo d (c.port / 8) = 0 := by omega
  have hone : crossedTo { d with crossed := Tbl.set d.crossed (c.port / 8) 1 } (c.port / 8) = 1 := by simp [crossedTo, Tbl.get_set]
  have hall : ∀ x : FrameDesc, x.outs = [c] → x.len = d.len → crossedTo x (c.port / 8) = 1 → headCell x = cellsOf d.len := by
    intro x hx hl hc
    simp [headCell, hgroups x hx, hl, hc, hcells]
  unfold afterCell
  rw [hzero]
  exact if_pos (hall { d with crossed := Tbl.set d.crossed (c.port / 8) 1 } houts rfl hone)

theorem crossCell_takes_calendar {bad : Bool} {m : Pair} {s : State} {d : FrameDesc} {c : OutCopy} {rest : List FrameDesc}
    (hlvl : m.lvl = 0) (hcalq : (inGrp s m.inp).calq = d :: rest) (houts : d.outs = [c]) (hpos : 0 < d.len) (hlen : d.len ≤ 128)
    (hwants : wants m.out d = true) : (inGrp (crossCell bad m s) m.inp).calq = rest := by
  have hpick : crossPick m s = some (2 ^ 20, d) := by simp [crossPick, hlvl, hcalq, hwants]
  have hin : m.inp < 24 := by
    by_contra hout
    simp [inGrp, vget, hout] at hcalq
  rw [(crossCell_some hpick).calq, cellTaken, if_pos rfl, afterCell_of_oneCell houts hpos hlen hwants]
  show (vget (vmodN s.q.inp m.inp _) m.inp {}).calq = rest
  rw [vmodN_same _ _ _ _ hin]
  show swapHead none (inGrp s m.inp).calq = rest
  rw [hcalq]
  rfl

theorem crossbarMatch_matches {crcBad : List GroupIx} {s : State} (hruns : coreRuns s = true) :
    ∃ t, exec (.crossbarMatch crcBad) s = .next t ∧ keepsBut [.port, .fwd, .q, .cald, .host, .msi, .pc] s t ∧
      (NothingQueued s → t.pc = (bump 0 2 s).pc ∧ t.q = s.q ∧ t.port = s.port) ∧
      (∀ (m : Pair) (d : FrameDesc) (o : OutCopy) (rest : List FrameDesc), (matchSlot' (bump 0 2 s)).1 = [m] → m.lvl = 0 →
        (inGrp s m.inp).calq = d :: rest → d.outs = [o] → 0 < d.len → d.len ≤ 128 → wants m.out d = true →
        (inGrp t m.inp).calq = rest) := by
  obtain ⟨r, hr⟩ : ∃ r, matchSlot' (bump 0 2 s) = r := ⟨_, rfl⟩
  have hexec : exec (.crossbarMatch crcBad) s = .next (settle (r.1.foldl
      (fun s m => crossCell (crcBad.any (fun g => g.val == m.inp)) m s) (if r.1.isEmpty then r.2 else bump 2 1 r.2))) := by
    rw [← hr]
    exact if_pos hruns
  have hcounted : CellWork s (if r.1.isEmpty then r.2 else bump 2 1 r.2) := by
    have hmatch : CellWork s r.2 := by
      rw [← hr]
      exact (CellWork.of_bump 0 2 s).trans (cellWork_matchSlot' _)
    split
    · exact hmatch
    · exact hmatch.trans (.of_bump _ _ _)
  have hframe := keepsBut_trans hcounted.frame (keepsBut_foldl
    (fun s m => crossCell (crcBad.any (fun g => g.val == m.inp)) m s) (fun s m => keepsBut_crossCell _ m s) r.1 _)
  refine ⟨_, hexec, keepsBut_done (keepsBut_mono hframe (by simp [cellParts])) (by simp), fun hnothing => ?_, ?_⟩
  · rw [matchSlot'_of_nothingQueued (s := bump 0 2 s) (hnothing.of_q rfl)] at hr
    rw [← hr]
    exact ⟨rfl, rfl, rfl⟩
  · intro m d o rest hone hlvl hcalq houts hpos hlen hwants
    rw [hr] at hone
    rw [hone] at hcounted ⊢
    show (inGrp (crossCell _ m (if [m].isEmpty then r.2 else bump 2 1 r.2)) m.inp).calq = rest
    exact crossCell_takes_calendar hlvl ((hcounted.calq m.inp).trans hcalq) houts hpos hlen hwants

/-! ### Congestion (R301) -/

/-- A port's congestion record after a window in which nothing else is said. -/
def windowOver (c : Cong) : Cong := { c with drops := 0, clear := if c.marked ∧ c.drops = 0 then c.clear + 1 else 0 }

/-- The record after a change of the mark. -/
def congMarked (on : Bool) (c : Cong) : Cong :=
  { c with marked := on, evt := true, clear := 0, onsets := if on then (c.onsets + 1) % 65536 else c.onsets }

/-- A port's congestion record after the end of a window, with its threshold. -/
def congAfter (on : Nat) (c : Cong) : Cong :=
  if !c.marked && decide (on < c.drops) then congMarked true (windowOver c)
  else if c.marked && c.drops == 0 && decide (100 ≤ c.clear + 1) then congMarked false (windowOver c)
  else windowOver c

theorem keepsBut_withCong (p : Nat) (f : Cong → Cong) (s : State) :
    keepsBut [.q] s { s with q := { s.q with cong := vmodN s.q.cong p f } } := by
  intro p hp
  cases p <;> first | rfl | exact ⟨rfl, rfl, rfl⟩ | simp at hp

theorem vmodN_vmodN {α : Type} {n : Nat} (v : Vector α n) (i : Nat) (f g : α → α) :
    vmodN (vmodN v i f) i g = vmodN v i (fun x => g (f x)) := by
  unfold vmodN
  split <;> simp

/-- Two changes that agree at the place's value. -/
theorem vmodN_congr {α : Type} {n : Nat} {v : Vector α n} {i : Nat} {d : α} {f g : α → α} (h : f (vget v i d) = g (vget v i d)) :
    vmodN v i f = vmodN v i g := by
  unfold vmodN
  split
  next hi =>
    rw [vget, dif_pos hi] at h
    rw [h]
  · rfl

/-- The queues after a port's window: its congestion record has moved. -/
def congQ (p on : Nat) (q : Queues) : Queues := { q with cong := vmodN q.cong p (congAfter on) }

/-- A port's window is over. -/
def portWindowOver (p : Nat) (s : State) : State := { s with q := { s.q with cong := vmodN s.q.cong p windowOver } }

theorem congPort_eq (p : Nat) (s : State) : congPort p s =
    if !(vget s.q.cong p {}).marked && decide (parN s 0x18D p < (vget s.q.cong p {}).drops) then
      setCong p true (vget s.q.cong p {}).drops (portWindowOver p s)
    else if (vget s.q.cong p {}).marked && (vget s.q.cong p {}).drops == 0 && decide (100 ≤ (vget s.q.cong p {}).clear + 1) then
      setCong p false 0 (portWindowOver p s)
    else portWindowOver p s := rfl

theorem setCong_marks (p : Nat) (on : Bool) (drops : Nat) (u : State) : keepsBut [.q, .host, .mb, .pc] u (setCong p on drops u) ∧
    (setCong p on drops u).q = { u.q with cong := vmodN u.q.cong p (congMarked on) } := by
  have hevent := keepsBut_issueEvent 0x0501 p ([BitVec.ofNat 8 (b2n on), 0, 0, 0] ++ le 4 drops)
    { u with q := { u.q with cong := vmodN u.q.cong p (congMarked on) } }
  exact ⟨keepsBut_then (keepsBut_withCong p _ u) hevent (by simp) (by simp), hevent .q (by simp)⟩

/-- A port's window is over, and its mark may change. -/
theorem portWindowOver_marks (p : Nat) (on : Bool) (drops : Nat) (s : State) :
    keepsBut [.q, .host, .mb, .pc] s (setCong p on drops (portWindowOver p s)) ∧
      (setCong p on drops (portWindowOver p s)).q = { s.q with cong := vmodN s.q.cong p (fun c => congMarked on (windowOver c)) } := by
  obtain ⟨hframe, hq⟩ := setCong_marks p on drops (portWindowOver p s)
  refine ⟨keepsBut_then (keepsBut_withCong p _ s) hframe (by simp) (by simp), hq.trans ?_⟩
  exact congrArg (fun v => ({ s.q with cong := v } : Queues)) (vmodN_vmodN _ _ _ _)

theorem congPort_moves (p : Nat) (s : State) :
    keepsBut [.q, .host, .mb, .pc] s (congPort p s) ∧ (congPort p s).q = congQ p (parN s 0x18D p) s.q := by
  have hcong : ∀ f, f (vget s.q.cong p {}) = congAfter (parN s 0x18D p) (vget s.q.cong p {}) →
      ({ s.q with cong := vmodN s.q.cong p f } : Queues) = congQ p (parN s 0x18D p) s.q := fun f hf =>
    congrArg (fun v => ({ s.q with cong := v } : Queues)) (vmodN_congr hf)
  rw [congPort_eq]
  split
  next h =>
    obtain ⟨hframe, hq⟩ := portWindowOver_marks p true (vget s.q.cong p {}).drops s
    exact ⟨hframe, hq.trans (hcong _ (if_pos h).symm)⟩
  next h =>
    split
    next h' =>
      obtain ⟨hframe, hq⟩ := portWindowOver_marks p false 0 s
      exact ⟨hframe, hq.trans (hcong _ ((if_neg h).trans (if_pos h')).symm)⟩
    next h' => exact ⟨keepsBut_mono (keepsBut_withCong p _ s) (by simp), hcong _ ((if_neg h).trans (if_neg h')).symm⟩

/-- The congestion records after the windows of some ports. -/
theorem foldl_congPort (ps : List Nat) : ∀ s : State, keepsBut [.q, .host, .mb, .pc] s (ps.foldl (fun s p => congPort p s) s) ∧
    (ps.foldl (fun s p => congPort p s) s).q = ps.foldl (fun q p => congQ p (parN s 0x18D p) q) s.q := by
  induction ps with
  | nil => exact fun s => ⟨keepsBut_refl _ s, rfl⟩
  | cons p ps ih =>
    intro s
    obtain ⟨hframe, hq⟩ := congPort_moves p s
    obtain ⟨hrest, hqs⟩ := ih (congPort p s)
    refine ⟨keepsBut_trans hframe hrest, ?_⟩
    have hpar : ∀ r, parN (congPort p s) 0x18D r = parN s 0x18D r := fun r =>
      congrArg Int.toNat (par_congr (hframe .par (by simp)) (hframe .group (by simp)) 0x18D r)
    rw [List.foldl_cons, hqs, hq, List.foldl_cons]
    simp only [hpar]

theorem congQ_other {p r on : Nat} (h : r ≠ p) (q : Queues) : vget (congQ p on q).cong r {} = vget q.cong r {} :=
  vmodN_other _ _ _ _ _ h

/-- Each port's window changes its own record, and nothing else of the queues. -/
theorem foldl_congQ (on : Nat → Nat) {ps : List Nat} (hnodup : ps.Nodup) : ∀ q : Queues,
    (ps.foldl (fun q p => congQ p (on p) q) q).inp = q.inp ∧ (ps.foldl (fun q p => congQ p (on p) q) q).out = q.out ∧
      (∀ r ∉ ps, vget (ps.foldl (fun q p => congQ p (on p) q) q).cong r {} = vget q.cong r {}) ∧
      ∀ r ∈ ps, r < 192 → vget (ps.foldl (fun q p => congQ p (on p) q) q).cong r {} = congAfter (on r) (vget q.cong r {}) := by
  induction ps with
  | nil => exact fun q => ⟨rfl, rfl, fun _ _ => rfl, fun _ h => nomatch h⟩
  | cons p ps ih =>
    intro q
    obtain ⟨hp, hnodup⟩ := List.nodup_cons.mp hnodup
    obtain ⟨hinp, hout, hother, hsame⟩ := ih hnodup (congQ p (on p) q)
    refine ⟨hinp, hout, fun r hr => ?_, fun r hr hlt => ?_⟩
    · obtain ⟨hne, hnot⟩ := not_or.mp (mt List.mem_cons.mpr hr)
      exact (hother r hnot).trans (congQ_other hne q)
    · by_cases hrp : r = p
      · subst hrp
        exact (hother r hp).trans (vmodN_same _ _ _ _ hlt)
      · have hmem : r ∈ ps := (List.mem_cons.mp hr).resolve_left hrp
        rw [List.foldl_cons, hsame r hmem hlt, congQ_other hrp]

theorem keepsBut_withWindow (n : Nat) (s : State) : keepsBut [.q] s { s with q := { s.q with window := n } } := by
  intro p hp
  cases p <;> first | rfl | exact ⟨rfl, rfl, rfl⟩ | simp at hp

theorem congestionWindow_judges {s : State} (hruns : coreRuns s = true) :
    ∃ t, exec .congestionWindow s = .next t ∧ keepsBut [.q, .host, .msi, .mb, .pc] s t ∧ t.q.inp = s.q.inp ∧ t.q.out = s.q.out ∧
      t.q.window = s.clk.now / uMs ∧
      ∀ p, p < 192 → vget t.q.cong p {} = congAfter (parN s 0x18D p) (vget s.q.cong p {}) := by
  obtain ⟨hframe, hq⟩ := foldl_congPort (List.range 192) s
  obtain ⟨hinp, hout, -, hsame⟩ := foldl_congQ (parN s 0x18D) (List.nodup_range (n := 192)) s.q
  have hclk : ((List.range 192).foldl (fun s p => congPort p s) s).clk = s.clk := hframe .clk (by simp)
  generalize hu : (List.range 192).foldl (fun s p => congPort p s) s = u at hframe hq hclk
  have hexec : exec .congestionWindow s = .next (settle { u with q := { u.q with window := u.clk.now / uMs } }) := by
    rw [← hu]
    exact if_pos hruns
  refine ⟨_, hexec, keepsBut_done (keepsBut_then hframe (keepsBut_withWindow _ u) (by simp) (by simp)) (by simp), ?_, ?_, ?_, ?_⟩
  · exact (congrArg Queues.inp hq).trans hinp
  · exact (congrArg Queues.out hq).trans hout
  · exact congrArg (fun c => c.now / uMs) hclk
  · intro p hp
    exact (congrArg (fun q : Queues => vget q.cong p {}) hq).trans (hsame p (List.mem_range.mpr hp) hp)

/-- Settles O32: the match of a slot, and each port's record by what its window was. -/
theorem crossbarAndCongestion : Obligations.CrossbarAndCongestion := by
  unfold Obligations.CrossbarAndCongestion
  refine ⟨fun crcBad s hruns => ?_, fun s hruns => ?_⟩
  · obtain ⟨t, hexec, hframe, hnothing, htaken⟩ := crossbarMatch_matches (crcBad := crcBad) hruns
    exact ⟨t, hexec, hframe, (matching_matchSlot' _).1, (matching_matchSlot' _).2, hnothing, htaken⟩
  · obtain ⟨t, hexec, hframe, hinp, hout, hwindow, hports⟩ := congestionWindow_judges hruns
    refine ⟨t, hexec, hframe, hinp, hout, hwindow, fun p hp => ?_⟩
    dsimp only
    rw [hports p hp]
    generalize vget s.q.cong p {} = c
    refine ⟨?_, fun hm hon => ?_, fun hm hon => ?_, fun hm hd => ?_, fun hm hd hc => ?_, fun hm hd hc => ?_⟩
    · unfold congAfter
      split
      · rfl
      · split <;> rfl
    · simp [congAfter, hm, hon, congMarked, windowOver]
    · simp [congAfter, hm, Nat.not_lt.mpr hon, windowOver]
    · simp [congAfter, hm, Nat.ne_of_gt hd, windowOver]
    · simp [congAfter, hm, hd, Nat.not_le.mpr hc, windowOver]
    · simp [congAfter, hm, hd, hc, congMarked, windowOver]

end Sys2Proof.Machine

/-! The calendar's settings come into force at a whole second, where the output stages latch the engines' claims (R155, R311). -/

namespace Sys2Proof.Machine

-- The joined text is one compile: no thread beside the main one for each proof.
set_option Elab.async false

/-- New settings of the calendar wait 8 ns past a whole second, and the engine in slot 0 presents a claim that no output stage has
latched yet. -/
def settingsWait : State :=
  engxMod 0 (fun x => { x with claim := 1 }) { State.reset with
    clk := { State.reset.clk with now := 8 * uNs, kettle := false }
    cald := { State.reset.cald with pending := some (1000, 0) } }

/-- On the way to the whole second the output stages latch the claim. -/
theorem settingsWait_latches : (engxOf (atSecond settingsWait) 0).latched ≠ (engxOf settingsWait 0).latched := by
  decide +kernel

theorem exec_courseParamApply_te {len off : Nat} {s t : State} (h : s.cald.pending = some (len, off))
    (hexec : exec .courseParamApply s = .next t) : t.te = (atSecond s).te := by
  have heq : exec .courseParamApply s = match s.cald.pending with
    | some (len, off) => done (calMod (fun c => { c with number := courseNow (calMod (fun c =>
        { c with courseLen := len, offset := off, running := true, pending := none }) (atSecond s)) })
          (calMod (fun c => { c with courseLen := len, offset := off, running := true, pending := none }) (atSecond s)))
    | none => done s := rfl
  rw [heq, h] at hexec
  cases hexec
  rfl

/-- Refutes O33: its clause on new settings lets only the clock, the calendar and the interrupt bookkeeping move. The settings come
into force at the next whole second (R311), an 8 ns boundary, where the output stages latch the claims that the engines present
(R155): the time side moves as well. -/
theorem not_theCalendar : ¬ Obligations.TheCalendar := by
  unfold Obligations.TheCalendar
  rintro ⟨-, -, ⟨-, hsettings⟩, -⟩
  obtain ⟨t, hexec, hframe, -⟩ := hsettings 1000 0 settingsWait rfl
  have hlatched := exec_courseParamApply_te rfl hexec
  have hkept : t.te = settingsWait.te := hframe .te (by simp)
  exact settingsWait_latches (congrArg (fun x : TimeSide => (vget x.engx 0 {}).latched) (hlatched.symm.trans hkept))

end Sys2Proof.Machine

/-! Messages, hellos and addresses of the fabric (R332 to R338, R348, R349). -/

namespace Sys2Proof.Machine

-- The joined text is one compile: no thread beside the main one for each proof.
set_option Elab.async false

/-! ### Fields in network byte order -/

/-- A field reads back what fits of the number that was placed there. -/
theorem fieldBe_be_mod (n v : Nat) (c : List Byte) : fieldBe (be n v ++ c) 0 n = v % 256 ^ n := by
  have hs : slice (be n v ++ c) 0 n = be n v := by
    rw [slice_eq_take_drop (by simp), List.drop_zero, List.take_left' (length_be n v)]
  rw [fieldBe, hs, beNat, be, List.reverse_reverse, leNat_le_mod]

/-- The 48 bytes of a hello spell it (R333). -/
theorem length_helloBytes (h : Hello) : (helloBytes h).length = 48 := by
  simp only [helloBytes, List.length_append, length_be]

theorem helloOf_helloBytes {h : Hello} (hfits : helloFits h) : helloOf (helloBytes h) = h := by
  obtain ⟨hversion, hflags, haddr, hport, hserial, hnbr, hcaps, htiming, hdepth, htree, hsigma, hacc, hlsa, hseq⟩ := hfits
  have hlast : fieldBe (be 2 h.seq) 0 2 = h.seq := by
    rw [← List.append_nil (be 2 h.seq)]
    exact fieldBe_be (by omega)
  simp only [helloOf, helloBytes, List.append_assoc, fieldBe_be_append, Nat.reduceSub, Nat.reduceLeDiff, hlast]
  simp only [fieldBe_be_mod]
  cases h
  simp only [Hello.mk.injEq]
  dsimp only at *
  refine ⟨?_, ?_, ?_, ?_, ?_, ?_, ?_, ?_, ?_, ?_, ?_, ?_, ?_, trivial⟩ <;> omega

/-! ### Messages (R348, R349) -/

/-- A link-local message as it is kept: its number is the next one. -/
def linkMsg (p type kind : Nat) (body : List Byte) (s : State) : SentMsg :=
  { port := some p, dest := 0, type, kind, xid := s.fab.nextXid, mflags := 0, body, head := linkHead s p type
    segs := segmentsOf s.fab.nextXid kind 0 body }

/-- The fabric's part after a link-local message. -/
def linkSent (p type kind : Nat) (body : List Byte) (s : State) : Fabric :=
  { s.fab with nextXid := (s.fab.nextXid + 1) % 65536, sent := linkMsg p type kind body s :: s.fab.sent }

/-- A link-local message moves the fabric's numbers and the counters of its port. -/
theorem sendLink_moves (p type kind : Nat) (body : List Byte) (s : State) :
    keepsBut [.port, .fab] s (sendLink p type kind body s) ∧ otherPorts p s (sendLink p type kind body s) ∧
      (sendLink p type kind body s).fab = linkSent p type kind body s := by
  have hkept := keepsBut_fabMod (fun _ => linkSent p type kind body s) s
  have hframes : ∀ (l : List (List Byte)) (t : State),
      PortMoved p t (l.foldl (fun s g => countSent p (parN s 0x1C1 0) (max 64 (g.length + 32)) s) t) := by
    intro l
    induction l with
    | nil => exact fun t => .refl p t
    | cons g l ih => exact fun t => (portMoved_countSent p _ _ t).trans (ih _)
  have hsent := (portMoved_interject p (fabMod (fun _ => linkSent p type kind body s) s)).trans
    (hframes (segmentsOf s.fab.nextXid kind 0 body) _)
  exact ⟨keepsBut_then hkept hsent.frame (by simp) (by simp), otherPorts_trans (otherPorts_of_keepsBut hkept (by simp) p) hsent.others,
    hsent.frame .fab (by simp)⟩

theorem keepsBut_sendLink (p type kind : Nat) (body : List Byte) (s : State) :
    keepsBut [.port, .fab] s (sendLink p type kind body s) := (sendLink_moves p type kind body s).1

theorem sendLink_fab (p type kind : Nat) (body : List Byte) (s : State) :
    (sendLink p type kind body s).fab = linkSent p type kind body s := (sendLink_moves p type kind body s).2.2

/-- A message of one segment is whole as it comes. -/
theorem assemble_single {type : Nat} {g : Seg} {s : State} (h : g.count ≤ 1) : assemble type g s = (some g.body, s) := if_pos h

theorem keepsBut_addressEvent (s : State) : keepsBut [.mb, .host, .pc] s (addressEvent s) := keepsBut_issueEvent _ _ _ s

theorem addressEvent_fab (s : State) : (addressEvent s).fab = s.fab := keepsBut_addressEvent s .fab (by simp)

theorem keepsBut_takeUnit (u : Nat) (s : State) : keepsBut [.fab, .host, .mb, .pc] s (takeUnit u s) :=
  keepsBut_then (keepsBut_fabMod _ s) (keepsBut_addressEvent _) (by simp) (by simp)

theorem takeUnit_fab (u : Nat) (s : State) :
    (takeUnit u s).fab = { s.fab with unit := u % 64, addrValid := true, reqTries := 0, reqPort := none } :=
  addressEvent_fab _

theorem keepsBut_conflict (n : Nat) (s : State) : keepsBut [.fab, .host, .mb, .pc] s (conflict n s) := by
  refine keepsBut_then (l := [.fab]) ?_ (keepsBut_addressEvent _) (by simp) (by simp)
  split
  · exact keepsBut_trans (keepsBut_fabMod _ s) (keepsBut_fabMod _ _)
  · exact keepsBut_fabMod _ s

theorem conflict_adj (n : Nat) (s : State) : (conflict n s).fab.adj = s.fab.adj := by
  unfold conflict
  dsimp only
  rw [addressEvent_fab]
  split <;> rfl

/-! ### Hellos (R333 to R335) -/

theorem adjOf_of_adj {s t : State} (h : t.fab.adj = s.fab.adj) (p : Nat) : adjOf t p = adjOf s p := by
  simp only [adjOf, h]

theorem adjOf_adjMod_same {p : Nat} (hp : p < 192) (f : Adjacency → Adjacency) (s : State) :
    adjOf (adjMod p f s) p = f (adjOf s p) := vmodN_same s.fab.adj p f {} hp

theorem adjOf_adjMod_other {p q : Nat} (h : q ≠ p) (f : Adjacency → Adjacency) (s : State) :
    adjOf (adjMod p f s) q = adjOf s q := vmodN_other s.fab.adj p q f {} h

theorem length_linkHead (s : State) (p type : Nat) : (linkHead s p type).length = 28 := by
  simp [linkHead, newHdr, sealHdr]

theorem helloFrame_spells (s : State) (p : Nat) : (helloFrame s p).length = 76 ∧ (helloFrame s p).drop 28 = helloBytes (ownHello s p) ∧
    fieldBe (helloFrame s p) 0 6 = parN s 0x1C1 0 % 2 ^ 48 := by
  refine ⟨?_, ?_, ?_⟩
  · rw [helloFrame, List.length_append, length_linkHead, length_helloBytes]
  · exact List.drop_left' (length_linkHead s p 1)
  · simp only [helloFrame, linkHead, List.append_assoc, fieldBe_be_mod]
    rfl

theorem sendHello_adj {p : Nat} (hp : p < 192) {s : State} (h : helloPort s p = true) (htx : (portOf s p).sleep.tx = .awake) :
    adjOf (sendHello p s) p = { adjOf s p with helloSeq := (ownHello s p).seq, lastSent := some (helloFrame s p) } := by
  have hsent := (portMoved_interject p (helloLeft p s)).trans (portMoved_countSent p (parN s 0x1C1 0) 80 _)
  rw [sendHello_eq, if_pos (by simp [h, htx]), adjOf, show (countSent _ _ _ _).fab = _ from hsent.frame .fab (by simp)]
  exact adjOf_adjMod_same hp _ s

theorem helloSend_sends {p : PortIx} {s : State} (hport : helloPort s p.val = true) (htx : (portOf s p.val).sleep.tx = .awake) :
    ∃ t, exec (.helloSend p) s = .next t ∧ keepsBut [.port, .fab, .msi] s t ∧ otherPorts p.val s t ∧
      adjOf t p.val = { adjOf s p.val with helloSeq := (ownHello s p.val).seq, lastSent := some (helloFrame s p.val) } := by
  obtain ⟨hframe, hother⟩ := sendHello_frame p.val s
  exact ⟨settle (sendHello p.val s), rfl, keepsBut_done (keepsBut_mono hframe (by simp)) (by simp),
    otherPorts_settle hother, sendHello_adj p.isLt hport htx⟩

/-- The database goes out on a port: messages, and the acknowledgements they are owed. -/
theorem sendDatabase_moves (p : Nat) (s : State) :
    keepsBut [.port, .fab] s (sendDatabase p s) ∧ (sendDatabase p s).fab.adj = s.fab.adj := by
  unfold sendDatabase
  split
  · exact ⟨keepsBut_refl _ s, rfl⟩
  · refine List.foldlRecOn _ _ (motive := fun t => keepsBut [.port, .fab] s t ∧ t.fab.adj = s.fab.adj)
      ⟨keepsBut_mono (keepsBut_fabMod _ s) (by simp), rfl⟩ fun t ht r _ => ?_
    obtain ⟨hframe, hadj⟩ := ht
    refine ⟨keepsBut_trans hframe (keepsBut_sendLink _ _ _ _ t), ?_⟩
    rw [sendLink_fab]
    exact hadj

/-- The adjacency after a hello. -/
def helloHeard (h : Hello) (a : Adjacency) : Adjacency :=
  { a with st := nextAdj a h, hello := some h, inelig := if nextAdj a h = .twoWay then a.inelig else 1 }

theorem adjMod_adjMod (p : Nat) (f g : Adjacency → Adjacency) (s : State) :
    adjMod p g (adjMod p f s) = adjMod p (fun a => g (f a)) s :=
  congrArg (fun v => fabMod (fun x => { x with adj := v }) s) (vmodN_vmodN s.fab.adj p f g)

theorem adjMod_congr {p : Nat} {f g : Adjacency → Adjacency} {s : State} (h : f (adjOf s p) = g (adjOf s p)) :
    adjMod p f s = adjMod p g s :=
  congrArg (fun v => fabMod (fun x => { x with adj := v }) s) (vmodN_congr (d := ({} : Adjacency)) h)

/-- The two writes of a hello's receipt are one change of the adjacency. -/
theorem helloNoted (p : Nat) (h : Hello) (s : State) :
    (if nextAdj (adjOf s p) h == .twoWay then adjMod p (fun a => { a with st := nextAdj (adjOf s p) h, hello := some h }) s
      else adjMod p (fun a => { a with inelig := 1 }) (adjMod p (fun a => { a with st := nextAdj (adjOf s p) h, hello := some h }) s)) =
      adjMod p (helloHeard h) s := by
  rw [adjMod_adjMod]
  split
  next hst => exact adjMod_congr (by simp_all [helloHeard])
  next hst => exact adjMod_congr (by simp_all [helloHeard])

theorem helloReceive_moves {p : PortIx} {frame : List Byte} {s : State} (hport : helloPort s p.val = true) :
    ∃ t, exec (.helloReceive p frame) s = .next t ∧ keepsBut [.port, .fab, .host, .msi, .mb, .pc] s t ∧
      t.fab.adj = vmodN s.fab.adj p.val (helloHeard (helloOf frame)) := by
  -- a new two-way neighbour gets the database
  obtain ⟨u, hu, hframe, hadj⟩ : ∃ u, u = (if nextAdj (adjOf s p.val) (helloOf frame) == .twoWay && (adjOf s p.val).st != .twoWay then
      sendDatabase p.val (adjMod p.val (helloHeard (helloOf frame)) s) else adjMod p.val (helloHeard (helloOf frame)) s) ∧
      keepsBut [.port, .fab] s u ∧ u.fab.adj = vmodN s.fab.adj p.val (helloHeard (helloOf frame)) := by
    have hnoted := keepsBut_adjMod p.val (helloHeard (helloOf frame)) s
    refine ⟨_, rfl, ?_⟩
    split
    · obtain ⟨hsent, hadj⟩ := sendDatabase_moves p.val (adjMod p.val (helloHeard (helloOf frame)) s)
      exact ⟨keepsBut_then hnoted hsent (by simp) (by simp), hadj⟩
    · exact ⟨keepsBut_mono hnoted (by simp), rfl⟩
  have hconf : ∀ c : Bool, keepsBut [.port, .fab, .host, .msi, .mb, .pc] s (if c then conflict (helloOf frame).serial u else u) ∧
      (if c then conflict (helloOf frame).serial u else u).fab.adj = vmodN s.fab.adj p.val (helloHeard (helloOf frame)) := by
    intro c
    split
    · exact ⟨keepsBut_then hframe (keepsBut_conflict _ u) (by simp) (by simp), (conflict_adj _ u).trans hadj⟩
    · exact ⟨keepsBut_mono hframe (by simp), hadj⟩
  obtain ⟨c, hexec⟩ : ∃ c : Bool, exec (.helloReceive p frame) s = done (if c then conflict (helloOf frame).serial u else u) := by
    show ∃ c : Bool, execHelloReceive p frame s = _
    simp only [execHelloReceive, if_pos hport, helloNoted, ← hu]
    exact ⟨_, rfl⟩
  obtain ⟨hmoves, hkept⟩ := hconf c
  exact ⟨_, hexec, keepsBut_done hmoves (by simp), hkept⟩

theorem helloDeadExpiry_ends {p : PortIx} {s : State} (hst : (adjOf s p.val).st ≠ .down) (hawake : (adjOf s p.val).suspended = false) :
    ∃ t, exec (.helloDeadExpiry p) s = .next t ∧ keepsBut [.fab, .msi] s t ∧ (adjOf t p.val).st = .down ∧
      (adjOf t p.val).deadEvt = true ∧ ∀ q, q ≠ p.val → adjOf t q = adjOf s q := by
  have hends : adjDown p.val s = adjMod p.val (fun a => { a with st := .down, suspended := false, inelig := 1 }) s := rfl
  have hexec : exec (.helloDeadExpiry p) s = done (adjMod p.val (fun a => { a with deadEvt := true }) (adjDown p.val s)) :=
    if_pos (by simp [hst, hawake])
  rw [hends, adjMod_adjMod] at hexec
  refine ⟨_, hexec, keepsBut_done (keepsBut_mono (keepsBut_adjMod _ _ s) (by simp)) (by simp), ?_, ?_, fun q hq => adjOf_adjMod_other hq _ s⟩
  · exact congrArg Adjacency.st (adjOf_adjMod_same p.isLt _ s)
  · exact congrArg Adjacency.deadEvt (adjOf_adjMod_same p.isLt _ s)

/-! ### Units (R336 to R338, R349) -/

theorem sendRequest_moves (p attempt : Nat) (s : State) :
    keepsBut [.port, .fab] s (sendRequest p attempt s) ∧ (sendRequest p attempt s).fab = 
      linkSent p 2 4 (addrBody ownSerial ((unitCfg s).getD 255) (zoneOf (ownAddr s)) (clusterOf (ownAddr s) % 64) 0 0 255 0 0 attempt)
        (fabMod (fun x => { x with reqTries := attempt, reqPort := some p }) s) :=
  ⟨keepsBut_then (keepsBut_fabMod _ s) (keepsBut_sendLink _ _ _ _ _) (by simp) (by simp), sendLink_fab ..⟩

theorem addrRequestStart_asks {s : State} {p : Nat} {l : List Nat} (hup : obilwinUp s = true) (hnone : s.fab.addrValid = false)
    (hstuck : s.fab.stuck = false) (hports : requestPorts s = p :: l) :
    ∃ t m, exec .addrRequestStart s = .next t ∧ keepsBut [.port, .fab, .msi] s t ∧ t.fab.reqTries = 1 ∧ t.fab.reqPort = some p ∧
      t.fab.sent = m :: s.fab.sent ∧ m.port = some p ∧ m.kind = 4 ∧ fieldBe m.body 0 8 = ownSerial % 2 ^ 64 ∧ t.fab.addrValid = false := by
  obtain ⟨hframe, hfab⟩ := sendRequest_moves p 1 s
  have hexec : exec .addrRequestStart s = done (sendRequest p 1 s) := by
    show execAddrRequestStart s = _
    simp [execAddrRequestStart, hup, hnone, hstuck, hports]
  refine ⟨_, linkMsg p 2 4 (addrBody ownSerial ((unitCfg s).getD 255) (zoneOf (ownAddr s)) (clusterOf (ownAddr s) % 64) 0 0 255 0 0 1)
    (fabMod (fun x => { x with reqTries := 1, reqPort := some p }) s), hexec,
    keepsBut_done (keepsBut_mono hframe (by simp)) (by simp), ?_⟩
  change (sendRequest p 1 s).fab.reqTries = 1 ∧ (sendRequest p 1 s).fab.reqPort = some p ∧ (sendRequest p 1 s).fab.sent = _ ∧ _ ∧ _ ∧ _ ∧
    (sendRequest p 1 s).fab.addrValid = false
  rw [hfab]
  refine ⟨rfl, rfl, rfl, rfl, rfl, ?_, hnone⟩
  simp only [linkMsg, addrBody, List.append_assoc]
  exact fieldBe_be_mod ..

theorem addrRequestStart_assigns {s : State} {u b : Nat} (hup : obilwinUp s = true) (hnone : s.fab.addrValid = false)
    (hstuck : s.fab.stuck = false) (hports : requestPorts s = []) (hunit : chooseUnit s ownSerial (unitCfg s) = some (u, b)) :
    ∃ t, exec .addrRequestStart s = .next t ∧ keepsBut [.fab, .host, .msi, .mb, .pc] s t ∧ t.fab.addrValid = true ∧
      t.fab.unit = u % 64 ∧ t.fab.zone = s.fab.zone ∧ t.fab.cluster = s.fab.cluster := by
  have hexec : exec .addrRequestStart s = done (takeUnit u (holdUnit ownSerial u s)) := by
    show execAddrRequestStart s = _
    simp [execAddrRequestStart, hup, hnone, hstuck, hports, assignSelf, hunit]
  have hframe : keepsBut [.fab, .host, .mb, .pc] s (takeUnit u (holdUnit ownSerial u s)) :=
    keepsBut_trans (keepsBut_mono (keepsBut_fabMod _ s) (by simp)) (keepsBut_takeUnit u _)
  refine ⟨_, hexec, keepsBut_done (keepsBut_mono hframe (by simp)) (by simp), ?_⟩
  simp [takeUnit_fab, holdUnit, fabMod]

theorem addrReqRetry_asks {s : State} {p : Nat} {l : List Nat} (hup : obilwinUp s = true) (hnone : s.fab.addrValid = false)
    (hstuck : s.fab.stuck = false) (htries : 0 < s.fab.reqTries)
    (hports : (requestPorts s).filter (fun q => decide ((s.fab.reqPort.getD 0) < q)) = p :: l) :
    ∃ t, exec .addrReqRetry s = .next t ∧ keepsBut [.port, .fab, .msi] s t ∧ t.fab.reqPort = some p ∧
      t.fab.reqTries = min 255 (s.fab.reqTries + 1) := by
  obtain ⟨hframe, hfab⟩ := sendRequest_moves p (min 255 (s.fab.reqTries + 1)) s
  have hexec : exec .addrReqRetry s = done (sendRequest p (min 255 (s.fab.reqTries + 1)) s) := by
    show execAddrReqRetry s = _
    simp [execAddrReqRetry, hup, hnone, hstuck, htries, hports]
  refine ⟨_, hexec, keepsBut_done (keepsBut_mono hframe (by simp)) (by simp), ?_⟩
  simp [hfab, linkSent, fabMod]

theorem addrGrantReceive_takes {p : PortIx} {src : Nat} {frame : List Byte} {s : State} (hup : obilwinUp s = true)
    (hnone : s.fab.addrValid = false) (hstuck : s.fab.stuck = false) (hone : (segOf src frame).count ≤ 1)
    (hserial : fieldBe (segOf src frame).body 0 8 = ownSerial) :
    exec (.addrGrantReceive p src frame) s = done (takeGrant (segOf src frame).body s) := by
  show execAddrGrantReceive p src frame s = _
  simp [execAddrGrantReceive, hup, assemble_single hone, hserial, hnone, hstuck, when]

theorem addrGrantReceive_grants {p : PortIx} {src : Nat} {frame : List Byte} {s : State} (hup : obilwinUp s = true)
    (hnone : s.fab.addrValid = false) (hstuck : s.fab.stuck = false) (hone : (segOf src frame).count ≤ 1)
    (hserial : fieldBe (segOf src frame).body 0 8 = ownSerial) :
    (fieldBe (segOf src frame).body 11 1 = 0 → fieldBe (segOf src frame).body 16 1 < 64 →
      ∃ t, exec (.addrGrantReceive p src frame) s = .next t ∧ keepsBut [.fab, .host, .msi, .mb, .pc] s t ∧ t.fab.addrValid = true ∧
        t.fab.unit = fieldBe (segOf src frame).body 16 1 ∧ t.fab.clusterFull = s.fab.clusterFull) ∧
    (fieldBe (segOf src frame).body 11 1 = 1 →
      ∃ t, exec (.addrGrantReceive p src frame) s = .next t ∧ keepsBut [.fab, .host, .msi, .mb, .pc] s t ∧ t.fab.addrValid = false ∧
        t.fab.clusterFull = true) := by
  rw [addrGrantReceive_takes hup hnone hstuck hone hserial]
  obtain ⟨b, hb⟩ : ∃ b, (segOf src frame).body = b := ⟨_, rfl⟩
  rw [hb]
  constructor
  · intro hgrant hunit
    have htake : takeGrant b s = takeUnit (fieldBe b 16 1) s := if_pos ⟨hgrant, hunit⟩
    rw [htake]
    refine ⟨_, rfl, keepsBut_done (keepsBut_mono (keepsBut_takeUnit _ s) (by simp)) (by simp), ?_⟩
    simp [takeUnit_fab, Nat.mod_eq_of_lt hunit]
  · intro hrefused
    have htake : takeGrant b s =
        addressEvent (fabMod (fun x => { x with clusterFull := true, reqTries := 0, reqPort := none }) s) := by
      simp [takeGrant, hrefused]
    rw [htake]
    refine ⟨_, rfl, keepsBut_done (keepsBut_then (keepsBut_fabMod _ s) (keepsBut_addressEvent _) (by simp) (by simp)) (by simp), ?_⟩
    simp [addressEvent_fab, fabMod, hnone]

theorem addrReqReceive_answers {p : PortIx} {src : Nat} {frame : List Byte} {s : State} {u b : Nat} (hup : obilwinUp s = true)
    (haddr : s.fab.addrValid = true) (hone : (segOf src frame).count ≤ 1) (hlink : fieldBe (segOf src frame).body 15 1 = 255)
    (hassigner : isAssigner s = true)
    (hunit : chooseUnit s (fieldBe (segOf src frame).body 0 8)
      (if fieldBe (segOf src frame).body 8 1 = 255 then none else some (fieldBe (segOf src frame).body 8 1)) = some (u, b)) :
    ∃ t m, exec (.addrReqReceive p src frame) s = .next t ∧ keepsBut [.port, .fab, .msi] s t ∧ t.fab.sent = m :: s.fab.sent ∧
      m.port = some p.val ∧ m.kind = 5 ∧
      m.body = addrBody (fieldBe (segOf src frame).body 0 8) (fieldBe (segOf src frame).body 8 1) (fieldBe (segOf src frame).body 9 1)
        (fieldBe (segOf src frame).body 10 1) 0 (ownAddr s) p.val u b (fieldBe (segOf src frame).body 18 1) ∧
      (∃ h ∈ t.fab.held, h.serial = fieldBe (segOf src frame).body 0 8 ∧ h.unit = u) := by
  have hexec : exec (.addrReqReceive p src frame) s =
      done (answerRequest (segOf src frame).body (segOf src frame).xid (ownAddr s) p.val (some p.val) s) := by
    show execAddrReqReceive p src frame s = _
    simp [execAddrReqReceive, hup, haddr, assemble_single hone, hlink, hassigner]
  rw [hexec]
  generalize (segOf src frame).body = g at *
  have hanswer : answerRequest g (segOf src frame).xid (ownAddr s) p.val (some p.val) s =
      sendLink p.val 2 5 (addrBody (fieldBe g 0 8) (fieldBe g 8 1) (fieldBe g 9 1) (fieldBe g 10 1) 0 (ownAddr s) p.val u b
        (fieldBe g 18 1)) (holdUnit (fieldBe g 0 8) u s) := by
    simp only [answerRequest, grantFor, hunit]
  rw [hanswer]
  have hframe : ∀ body, keepsBut [.port, .fab] s (sendLink p.val 2 5 body (holdUnit (fieldBe g 0 8) u s)) := fun body =>
    keepsBut_then (keepsBut_fabMod _ s) (keepsBut_sendLink _ _ _ _ _) (by simp) (by simp)
  refine ⟨_, linkMsg p.val 2 5 (addrBody (fieldBe g 0 8) (fieldBe g 8 1) (fieldBe g 9 1) (fieldBe g 10 1) 0 (ownAddr s) p.val u b
    (fieldBe g 18 1)) (holdUnit (fieldBe g 0 8) u s), rfl, keepsBut_done (keepsBut_mono (hframe _) (by simp)) (by simp), ?_⟩
  rw [settle_fab, sendLink_fab]
  exact ⟨rfl, rfl, rfl, rfl, ⟨_, List.mem_append_right _ (List.mem_singleton_self _), rfl, rfl⟩⟩

theorem addrReqReceive_relays {p : PortIx} {src : Nat} {frame : List Byte} {s : State} {n a : Nat} (hup : obilwinUp s = true)
    (haddr : s.fab.addrValid = true) (hone : (segOf src frame).count ≤ 1) (hlink : fieldBe (segOf src frame).body 15 1 = 255)
    (hother : isAssigner s = false) (hassigner : assigner s = some (n, a)) :
    ∃ t m, exec (.addrReqReceive p src frame) s = .next t ∧ keepsBut [.fab, .msi] s t ∧ t.fab.sent = m :: s.fab.sent ∧
      m.port = none ∧ m.dest = a ∧ m.kind = 4 ∧ m.xid = (segOf src frame).xid ∧
      m.body = patch (segOf src frame).body 12 (be 3 (ownAddr s) ++ be 1 p.val) := by
  have hexec : exec (.addrReqReceive p src frame) s =
      done (sendDev a 2 4 (segOf src frame).xid 0 (patch (segOf src frame).body 12 (be 3 (ownAddr s) ++ be 1 p.val)) s) := by
    show execAddrReqReceive p src frame s = _
    simp [execAddrReqReceive, hup, haddr, assemble_single hone, hlink, hother, hassigner]
  exact ⟨_, _, hexec, keepsBut_done (keepsBut_mono (keepsBut_sendDev _ _ _ _ _ _ _) (by simp)) (by simp), rfl, rfl, rfl, rfl, rfl, rfl⟩

theorem unitHoldExpiry_drops {n : Nat} {s : State} (hup : obilwinUp s = true)
    (hfirst : (s.fab.held.filterMap (fun h => h.goneAt)).min? = some n) :
    ∃ t, exec .unitHoldExpiry s = .next t ∧ keepsBut [.fab, .msi] s t ∧
      ∀ h, h ∈ t.fab.held ↔ h ∈ s.fab.held ∧ h.goneAt ≠ some n := by
  have hexec : exec .unitHoldExpiry s =
      done (fabMod (fun x => { x with held := x.held.filter (fun (h : HeldUnit) => h.goneAt != some n) }) s) := by
    show execUnitHoldExpiry s = _
    simp [execUnitHoldExpiry, hup, hfirst, when]
  refine ⟨_, hexec, keepsBut_done (keepsBut_mono (keepsBut_fabMod _ s) (by simp)) (by simp), fun h => ?_⟩
  show h ∈ s.fab.held.filter (fun (h : HeldUnit) => h.goneAt != some n) ↔ _
  simp

/-- Settles O34: each command by the lemma that says what it does. -/
theorem adjacenciesAndAddresses : Obligations.AdjacenciesAndAddresses := by
  unfold Obligations.AdjacenciesAndAddresses
  refine ⟨⟨?_, ?_, fun p s => helloDeadExpiry_ends⟩, fun s hup hnone hstuck => ⟨?_, ?_, ?_, ?_⟩,
    ⟨fun p src frame s hup haddr hone hlink => ⟨?_, ?_⟩, fun n s => unitHoldExpiry_drops⟩,
    fun h hfits => ⟨helloOf_helloBytes hfits, length_helloBytes h⟩⟩
  · intro p s hport htx h
    obtain ⟨t, hexec, hframe, hother, hadj⟩ := helloSend_sends hport htx
    obtain ⟨hlength, hbytes, hmac⟩ := helloFrame_spells s p.val
    refine ⟨t, hexec, hframe, hother, ⟨_, congrArg Adjacency.lastSent hadj, hlength, hbytes, hmac⟩, rfl, rfl, rfl, rfl,
      congrArg Adjacency.helloSeq hadj, rfl, rfl, by rw [hadj]⟩
  · intro p frame s hport h
    obtain ⟨t, hexec, hframe, hadj⟩ := helloReceive_moves (frame := frame) hport
    have hsame : adjOf t p.val = helloHeard h (adjOf s p.val) := by
      rw [adjOf, hadj]
      exact vmodN_same _ _ _ _ p.isLt
    have hst : (adjOf t p.val).st = nextAdj (adjOf s p.val) h := congrArg Adjacency.st hsame
    refine ⟨t, hexec, hframe, congrArg Adjacency.hello hsame, fun q hq => ?_, ?_⟩
    · rw [adjOf, hadj]
      exact vmodN_other _ _ _ _ _ hq
    · rw [hst]
      refine ⟨fun hv => if_pos hv, fun hv hown => ?_, fun hv hown ha => ?_, fun hv hown ha => ?_, fun hv hown ha => ?_⟩
      · simp [nextAdj, hv, hown]
      · simp [nextAdj, hv, hown, ha]
      · simp [nextAdj, hv, hown, ha]
      · simp [nextAdj, hv, hown, ha]
  · exact fun p l hports => addrRequestStart_asks hup hnone hstuck hports
  · exact fun u b hports hunit => addrRequestStart_assigns hup hnone hstuck hports hunit
  · exact fun p l htries hports => addrReqRetry_asks hup hnone hstuck htries hports
  · exact fun p src frame hone hserial => addrGrantReceive_grants hup hnone hstuck hone hserial
  · exact fun u b hassigner hunit => addrReqReceive_answers hup haddr hone hlink hassigner hunit
  · exact fun n a hother hassigner => addrReqReceive_relays hup haddr hone hlink hother hassigner

end Sys2Proof.Machine

/-! Link-state records and the routes computed from them (R340 to R345, R348, R349, R355). -/

namespace Sys2Proof.Machine

-- The joined text is one compile: no thread beside the main one for each proof.
set_option Elab.async false

/-! ### Link-local messages one after the other -/

/-- Messages have left on ports, and nothing else has happened. -/
structure Sends (s t : State) : Prop where
  frame : keepsBut [.port, .fab] s t
  fab : ∃ x l, t.fab = { s.fab with nextXid := x, sent := l ++ s.fab.sent }

theorem Sends.refl (s : State) : Sends s s := ⟨keepsBut_refl _ s, s.fab.nextXid, [], rfl⟩

theorem Sends.trans {s t u : State} (h : Sends s t) (k : Sends t u) : Sends s u := by
  obtain ⟨x, l, hl⟩ := h.fab
  obtain ⟨y, m, hm⟩ := k.fab
  exact ⟨keepsBut_trans h.frame k.frame, y, m ++ l, by rw [hm, hl, List.append_assoc]⟩

theorem sends_sendLink (p type kind : Nat) (body : List Byte) (s : State) : Sends s (sendLink p type kind body s) :=
  ⟨keepsBut_sendLink p type kind body s, _, [_], sendLink_fab p type kind body s⟩

theorem sends_foldl {α : Type} {f : State → α → State} (h : ∀ s x, Sends s (f s x)) (xs : List α) (s : State) : Sends s (xs.foldl f s) :=
  List.foldlRecOn xs f (motive := fun t => Sends s t) (.refl s) fun t ht x _ => ht.trans (h t x)

/-- A message has been sent on a port. -/
def linkCarries (p kind : Nat) (body : List Byte) (x : Fabric) : Prop :=
  ∃ m ∈ x.sent, m.port = some p ∧ m.kind = kind ∧ m.body = body

theorem linkCarries_mono {p kind : Nat} {body : List Byte} {x y : Fabric} (h : linkCarries p kind body x)
    (hsub : ∀ m ∈ x.sent, m ∈ y.sent) : linkCarries p kind body y := by
  obtain ⟨m, hm, hcarried⟩ := h
  exact ⟨m, hsub m hm, hcarried⟩

theorem Sends.mem {s t : State} (h : Sends s t) : ∀ m ∈ s.fab.sent, m ∈ t.fab.sent := by
  obtain ⟨x, l, hl⟩ := h.fab
  rw [hl]
  exact fun m hm => List.mem_append_right l hm

theorem sendLink_carries (p type kind : Nat) (body : List Byte) (s : State) :
    linkCarries p kind body (sendLink p type kind body s).fab := by
  rw [sendLink_fab]
  exact ⟨linkMsg p type kind body s, List.mem_cons_self, rfl, rfl, rfl⟩

/-- The same message on each of some ports. -/
theorem sendLinks_carry (type kind : Nat) (body : List Byte) {ports : List Nat} {k : Nat} (hk : k ∈ ports) (s : State) :
    linkCarries k kind body (ports.foldl (fun s p => sendLink p type kind body s) s).fab :=
  foldl_reaches (I := fun _ => True) (P := fun t => linkCarries k kind body t.fab) hk (fun _ _ _ _ => trivial)
    (fun t _ ht y _ => linkCarries_mono ht (sends_sendLink y type kind body t).mem)
    (fun t _ => sendLink_carries k type kind body t) trivial

/-! ### The database -/

/-- A record as it is stored. -/
def storedAs (r : LsRecord) (ports : List Nat) (s : State) : StoredRecord :=
  { body := r, born := (s.clk.elapsed : Int) - ((r.age * uSec : Nat) : Int), unacked := ports }

theorem holdUnits_fab (s : State) : ∃ h, (holdUnits s).fab = { s.fab with held := h } := ⟨(holdUnits s).fab.held, rfl⟩

/-- The fabric's part after a record has been stored: the database, the messages, what is held. -/
theorem storeRecord_moves (r : LsRecord) (ports : List Nat) (s : State) :
    keepsBut [.port, .fab] s (storeRecord r ports s) ∧
      (∃ x l h, (storeRecord r ports s).fab = { s.fab with
        records := s.fab.records.filter (fun q => !sameRec q.body r) ++ [storedAs r ports s], nextXid := x, sent := l ++ s.fab.sent,
        held := h }) ∧
      ∀ k ∈ ports, linkCarries k 2 (recBytes r r.age) (storeRecord r ports s).fab := by
  obtain ⟨u, hu⟩ : ∃ u, u = fabMod (fun x => { x with
    records := x.records.filter (fun q => !sameRec q.body r) ++ [storedAs r ports s] }) s := ⟨_, rfl⟩
  have hsent := sends_foldl (fun s p => sends_sendLink p 2 2 (recBytes r r.age) s) ports u
  obtain ⟨x, l, hl⟩ := hsent.fab
  have hstore : storeRecord r ports s = holdUnits (ports.foldl (fun s p => sendLink p 2 2 (recBytes r r.age) s) u) := by rw [hu]; rfl
  rw [hstore]
  refine ⟨keepsBut_trans ?_ (keepsBut_trans hsent.frame (keepsBut_mono (keepsBut_fabMod _ _) (by simp))), ⟨x, l, ?_⟩, ?_⟩
  · rw [hu]
    exact keepsBut_mono (keepsBut_fabMod _ s) (by simp)
  · obtain ⟨h, hh⟩ := holdUnits_fab (ports.foldl (fun s p => sendLink p 2 2 (recBytes r r.age) s) u)
    exact ⟨h, by rw [hh, hl, hu]; rfl⟩
  · exact fun k hk => sendLinks_carry 2 2 (recBytes r r.age) hk u

theorem keepsBut_dbChanged (s : State) : keepsBut [.fab, .fabS] s (dbChanged s) := by
  intro p hp; cases p <;> first | rfl | exact ⟨rfl, rfl, rfl⟩ | simp at hp

theorem dbChanged_reconv (s : State) : (dbChanged s).fabS.reconv = true := rfl
theorem dbChanged_fab (s : State) : ∃ h, (dbChanged s).fab = { s.fab with held := h } := ⟨(dbChanged s).fab.held, rfl⟩

theorem conflict_keeps (n : Nat) (s : State) :
    (conflict n s).fab.records = s.fab.records ∧ (conflict n s).fab.sent = s.fab.sent ∧ (conflict n s).fabS = s.fabS := by
  refine ⟨?_, ?_, keepsBut_conflict n s .fabS (by simp)⟩ <;>
  · unfold conflict
    dsimp only
    rw [addressEvent_fab]
    split <;> rfl

/-- The ports of a scope depend on the neighbours and on the own address. -/
theorem scopePorts_congr {s t : State} (hadj : t.fab.adj = s.fab.adj) (haddr : ownAddr t = ownAddr s) (sc : Nat) :
    scopePorts t sc = scopePorts s sc := by
  simp only [scopePorts, twoWays, adjOf_of_adj hadj, haddr]

/-- What of the fabric's part the receipt of a record reads: the neighbours and the own address. -/
theorem Sends.scope {s t : State} (h : Sends s t) (sc : Nat) : scopePorts t sc = scopePorts s sc ∧ ownAddr t = ownAddr s := by
  obtain ⟨x, l, hl⟩ := h.fab
  have haddr : ownAddr t = ownAddr s := by simp [ownAddr, hl]
  exact ⟨scopePorts_congr (by rw [hl]) haddr sc, haddr⟩

/-- A record that the database has room for is taken. -/
theorem takeRecord_stores {p : Nat} {r : LsRecord} {s : State}
    (hroom : s.fab.records.any (fun q => sameRec q.body r) = true ∨
      (s.fab.records.filter (fun q => q.body.scope == r.scope)).length < scaleOf r.scope) :
    keepsBut [.port, .fab, .fabS, .host, .mb, .pc] s (takeRecord p r s) ∧
      (∃ q ∈ (takeRecord p r s).fab.records, q.body = r ∧ q.unacked = (scopePorts s r.scope).filter (fun k => k != p)) ∧
      linkCarries p 3 (ackBody r) (takeRecord p r s).fab ∧
      (∀ k ∈ scopePorts s r.scope, k ≠ p → linkCarries k 2 (recBytes r r.age) (takeRecord p r s).fab) ∧
      (takeRecord p r s).fabS.reconv = true := by
  have hsent := sends_sendLink p 2 3 (ackBody r) s
  have hcarried := sendLink_carries p 2 3 (ackBody r) s
  obtain ⟨hscope, -⟩ := hsent.scope r.scope
  unfold takeRecord
  rw [if_neg (by simpa using fun h => hroom.resolve_left (by simpa using h))]
  extract_lets s₁ s₂ s₃
  -- the unit of the record's serial is held
  obtain ⟨held, hheld, hframe₂⟩ : ∃ h, s₂.fab = { s₁.fab with held := h } ∧ keepsBut [.fab] s₁ s₂ := by
    simp only [s₂]
    split
    · exact ⟨_, rfl, keepsBut_fabMod _ _⟩
    · exact ⟨_, rfl, keepsBut_refl _ _⟩
  have hports : scopePorts s₂ r.scope = scopePorts s r.scope :=
    (scopePorts_congr (by rw [hheld]) (by simp only [ownAddr, hheld]; rfl) _).trans hscope
  clear_value s₂
  obtain ⟨hframe₃, ⟨x, l, h, hfab⟩, hon⟩ := storeRecord_moves r ((scopePorts s₂ r.scope).filter (fun q => q != p)) s₂
  have hdone : ∀ c : Bool, keepsBut [.port, .fab, .fabS, .host, .mb, .pc] s₃ (if c then conflict r.serial s₃ else s₃) ∧
      (if c then conflict r.serial s₃ else s₃).fab.records = s₃.fab.records ∧
      (if c then conflict r.serial s₃ else s₃).fab.sent = s₃.fab.sent ∧ (if c then conflict r.serial s₃ else s₃).fabS = s₃.fabS := by
    intro c
    split
    · exact ⟨keepsBut_mono (keepsBut_conflict _ _) (by simp), conflict_keeps _ _⟩
    · exact ⟨keepsBut_refl _ _, rfl, rfl, rfl⟩
  have hstored := keepsBut_trans hsent.frame (keepsBut_trans (keepsBut_mono hframe₂ (by simp)) hframe₃)
  have hframe : keepsBut [.port, .fab, .fabS, .host, .mb, .pc] s s₃ := keepsBut_then hstored (keepsBut_dbChanged _) (by simp) (by simp)
  obtain ⟨g, hg⟩ := dbChanged_fab (storeRecord r ((scopePorts s₂ r.scope).filter (fun q => q != p)) s₂)
  have hrecords : s₃.fab.records = s₂.fab.records.filter (fun q => !sameRec q.body r) ++
      [storedAs r ((scopePorts s₂ r.scope).filter (fun q => q != p)) s₂] := by rw [show s₃.fab = _ from hg, hfab]
  have hsent₃ : s₃.fab.sent = (storeRecord r ((scopePorts s₂ r.scope).filter (fun q => q != p)) s₂).fab.sent := by
    rw [show s₃.fab = _ from hg]
  have hreconv : s₃.fabS.reconv = true := dbChanged_reconv _
  clear_value s₃
  obtain ⟨hend, hrecs, hmsgs, hstat⟩ := hdone (s₃.fab.addrValid && r.origin == ownAddr s₃ && r.serial != ownSerial && !withdrawn r)
  refine ⟨keepsBut_trans hframe hend, ⟨storedAs r ((scopePorts s₂ r.scope).filter (fun q => q != p)) s₂, ?_, rfl, ?_⟩, ?_, ?_, ?_⟩
  · rw [hrecs, hrecords]
    exact List.mem_append_right _ (List.mem_singleton_self _)
  · rw [← hports]; rfl
  · refine linkCarries_mono hcarried fun m hm => ?_
    rw [hmsgs, hsent₃, hfab, hheld]
    exact List.mem_append_right l hm
  · intro k hk hkp
    refine linkCarries_mono (hon k ?_) fun m hm => by rwa [hmsgs, hsent₃]
    rw [hports]
    exact List.mem_filter.mpr ⟨hk, by simpa using hkp⟩
  · rw [hstat]
    exact hreconv

/-- The record of a message of one segment, held or not, as the receipt judges it. -/
theorem recordReceive_judges {p : PortIx} {src : Nat} {frame : List Byte} {s : State} (hup : obilwinUp s = true)
    (hport : helloPort s p.val = true) (hone : (segOf src frame).count ≤ 1) (hlow : 1 ≤ (recOf (segOf src frame).body).scope)
    (hhigh : (recOf (segOf src frame).body).scope ≤ 3) (hage : (recOf (segOf src frame).body).age < 3600)
    (hother : (recOf (segOf src frame).body).serial ≠ ownSerial) {r : LsRecord} (hr : recOf (segOf src frame).body = r) :
    exec (.recordReceive p src frame) s = match (s.fab.records.map (fun q => q.body)).find? (fun q => sameRec q r) with
      | none => done (takeRecord p.val r s)
      | some o => if newer r o then done (takeRecord p.val r s)
        else if r.seq = o.seq then done (sendLink p.val 2 3 (ackBody o) s) else done s := by
  show execRecordReceive p src frame s = _
  rw [hr] at hlow hhigh hage hother
  simp only [execRecordReceive, hup, hport, assemble_single hone, hr, Bool.and_self, if_true]
  rw [if_neg (by omega), if_neg fun h => hother h.1] <;> rfl

theorem any_sameRec_of_find {r : LsRecord} {s : State} {o : LsRecord}
    (h : (s.fab.records.map (fun q => q.body)).find? (fun q => sameRec q r) = some o) :
    s.fab.records.any (fun q => sameRec q.body r) = true := by
  obtain ⟨q, hq, hbody⟩ := List.mem_map.mp (List.mem_of_find?_eq_some h)
  have hsame := List.find?_some h
  exact List.any_eq_true.mpr ⟨q, hq, by rw [hbody]; exact hsame⟩

theorem not_any_sameRec_of_find {r : LsRecord} {s : State}
    (h : (s.fab.records.map (fun q => q.body)).find? (fun q => sameRec q r) = none) :
    s.fab.records.any (fun q => sameRec q.body r) = false := by
  rw [List.find?_map, Option.map_eq_none_iff, List.find?_eq_none] at h
  exact List.any_eq_false.mpr fun q hq => by simpa using h q hq

/-- An unknown record beyond the scale is reported and not stored (R355). -/
theorem takeRecord_refuses {p : Nat} {r : LsRecord} {s : State} (hnew : s.fab.records.any (fun q => sameRec q.body r) = false)
    (hfull : scaleOf r.scope ≤ (s.fab.records.filter (fun q => q.body.scope == r.scope)).length) :
    takeRecord p r s = issueEvent 0x0703 r.scope [] { s with fabS := { s.fabS with scaleLimit := true } } :=
  if_pos (by simp [hnew, hfull])

theorem keepsBut_fabS (x : FabStatus) (s : State) : keepsBut [.fabS] s { s with fabS := x } := by
  intro p hp; cases p <;> first | rfl | exact ⟨rfl, rfl, rfl⟩ | simp at hp

/-- A stored record after an acknowledgement on a port. -/
def acked (p : Nat) (b : List Byte) (r : StoredRecord) : StoredRecord :=
  if fieldBe b 0 1 = r.body.scope ∧ fieldBe b 2 3 % 2 ^ 18 = r.body.origin ∧ fieldBe b 8 8 = r.body.serial ∧ r.body.seq ≤ fieldBe b 16 4
  then { r with unacked := r.unacked.filter (fun q => q != p) } else r

theorem recordAckReceive_acks {p : PortIx} {src : Nat} {frame : List Byte} {s : State} (hup : obilwinUp s = true)
    (hone : (segOf src frame).count ≤ 1) (hlength : (segOf src frame).body.length = 20) :
    exec (.recordAckReceive p src frame) s =
      done (fabMod (fun x => { x with records := x.records.map (acked p.val (segOf src frame).body) }) s) := by
  show execRecordAckReceive p src frame s = _
  simp only [execRecordAckReceive, hup, assemble_single hone, if_true, hlength, Nat.reduceDiv, List.range_one, List.map_cons, List.map_nil,
    List.any_cons, List.any_nil, Bool.or_false, Nat.mul_zero, Nat.zero_add, Bool.and_eq_true, beq_iff_eq, decide_eq_true_eq, and_assoc]
  rfl

/-- A record goes out again on the two-way ports that owe its acknowledgement. -/
def resendRecord (s t : State) (r : StoredRecord) : State :=
  (r.unacked.filter (fun p => (adjOf s p).st == .twoWay)).foldl (fun t p => sendLink p 2 2 (recBytes r.body (ageOf s r)) t) t

theorem sends_resendRecord (s t : State) (r : StoredRecord) : Sends t (resendRecord s t r) :=
  sends_foldl (fun t p => sends_sendLink p 2 2 (recBytes r.body (ageOf s r)) t) _ t

theorem recordRetransmit_resends {s : State} (hup : obilwinUp s = true) :
    ∃ t, exec .recordRetransmit s = .next t ∧ keepsBut [.port, .fab, .msi] s t ∧ t.fab.records = s.fab.records ∧
      ∀ r ∈ s.fab.records, ∀ k ∈ r.unacked, (adjOf s k).st = .twoWay → linkCarries k 2 (recBytes r.body (ageOf s r)) t.fab := by
  have hsent := sends_foldl (sends_resendRecord s) s.fab.records s
  obtain ⟨x, l, hl⟩ := hsent.fab
  refine ⟨settle (s.fab.records.foldl (resendRecord s) s), if_pos hup, keepsBut_done (keepsBut_mono hsent.frame (by simp)) (by simp), ?_,
    fun r hr k hk hst => ?_⟩
  · rw [settle_fab, hl]
  · exact foldl_reaches (I := fun _ => True) (P := fun t => linkCarries k 2 (recBytes r.body (ageOf s r)) t.fab) hr (fun _ _ _ _ => trivial)
      (fun t _ ht y _ => linkCarries_mono ht (sends_resendRecord s t y).mem)
      (fun t _ => sendLinks_carry 2 2 _ (List.mem_filter.mpr ⟨hk, by simp [hst]⟩) t) trivial

theorem recordAgeExpiry_discards {b : Int} {s : State} (hup : obilwinUp s = true)
    (hfirst : (s.fab.records.map (fun r => r.born)).min? = some b) :
    ∃ t, exec .recordAgeExpiry s = .next t ∧ keepsBut [.fab, .fabS, .msi] s t ∧ t.fabS.reconv = true ∧
      ∀ r, r ∈ t.fab.records ↔ r ∈ s.fab.records ∧ r.born ≠ b := by
  have hsome : s.fab.records ≠ [] := by rintro h; simp [h] at hfirst
  have hexec : exec .recordAgeExpiry s =
      done (dbChanged (fabMod (fun x => { x with records := x.records.filter (fun (r : StoredRecord) => some b != some r.born) }) s)) := by
    show execRecordAgeExpiry s = _
    simp only [execRecordAgeExpiry, hup, hfirst, Bool.true_and]
    exact if_pos (by simpa using hsome)
  refine ⟨_, hexec, keepsBut_done (keepsBut_then (keepsBut_fabMod _ s) (keepsBut_dbChanged _) (by simp) (by simp)) (by simp), rfl, fun r => ?_⟩
  show r ∈ s.fab.records.filter (fun (r : StoredRecord) => some b != some r.born) ↔ _
  simp only [List.mem_filter, bne_iff_ne, ne_eq, Option.some.injEq]
  exact and_congr_right fun _ => not_congr eq_comm

theorem segmentReassemblyTimeout_discards {n : Nat} {s : State} (hfirst : (s.fab.reasm.map (fun r => r.firstAt)).min? = some n) :
    ∃ t, exec .segmentReassemblyTimeout s = .next t ∧ keepsBut [.fab, .msi] s t ∧
      ∀ r, r ∈ t.fab.reasm ↔ r ∈ s.fab.reasm ∧ r.firstAt ≠ n := by
  have hexec : exec .segmentReassemblyTimeout s =
      done (fabMod (fun x => { x with reasm := x.reasm.filter (fun (r : Reassembly) => some n != some r.firstAt) }) s) := by
    show execSegmentReassemblyTimeout s = _
    simp only [execSegmentReassemblyTimeout, hfirst]
  refine ⟨_, hexec, keepsBut_done (keepsBut_mono (keepsBut_fabMod _ s) (by simp)) (by simp), fun r => ?_⟩
  show r ∈ s.fab.reasm.filter (fun (r : Reassembly) => some n != some r.firstAt) ↔ _
  simp only [List.mem_filter, bne_iff_ne, ne_eq, Option.some.injEq]
  exact and_congr_right fun _ => not_congr eq_comm

/-! ### Own records (R340, R342) -/

/-- The own record of a scope. -/
def ownAs (sc seq flags : Nat) (es : List LsEntry) (s : State) : LsRecord :=
  { scope := sc, flags, origin := ownAddr s, age := 0, serial := ownSerial, seq, entries := es }

/-- The own record is stored with its number; the records of other scopes stay. -/
theorem originate_moves (sc seq flags : Nat) (es : List LsEntry) (s : State) :
    keepsBut [.port, .fab] s (originate sc seq flags es s) ∧
      (originate sc seq flags es s).fab.ownSeq = vmodN s.fab.ownSeq sc (fun _ => seq) ∧
      (∃ q, q.body = ownAs sc seq flags es s ∧ (originate sc seq flags es s).fab.records =
        s.fab.records.filter (fun k => !sameRec k.body (ownAs sc seq flags es s)) ++ [q]) := by
  obtain ⟨u, hu⟩ : ∃ u, u = fabMod (fun x => { x with ownSeq := vmodN x.ownSeq sc (fun _ => seq) }) s := ⟨_, rfl⟩
  obtain ⟨hframe, ⟨x, l, h, hfab⟩, -⟩ := storeRecord_moves (ownAs sc seq flags es s) (scopePorts s sc) u
  have horig : originate sc seq flags es s = storeRecord (ownAs sc seq flags es s) (scopePorts s sc) u := by rw [hu]; rfl
  rw [horig, hfab]
  refine ⟨keepsBut_trans ?_ hframe, ?_, storedAs (ownAs sc seq flags es s) (scopePorts s sc) u, rfl, ?_⟩
  · rw [hu]
    exact keepsBut_mono (keepsBut_fabMod _ s) (by simp)
  · rw [hu]; rfl
  · rw [hu]; rfl

/-- The own record of another scope is found as before. -/
theorem ownRecord_originate_other {sc k : Nat} (hne : k ≠ sc) (seq flags : Nat) (es : List LsEntry) (s : State) :
    ownRecord (originate sc seq flags es s) k = ownRecord s k := by
  obtain ⟨-, -, q, hq, hrecs⟩ := originate_moves sc seq flags es s
  simp only [ownRecord, hrecs, List.map_append, List.map_cons, List.map_nil, List.find?_append, hq]
  have hlast : [ownAs sc seq flags es s].find? (fun r => r.scope == k && r.serial == ownSerial) = none := by
    simp [ownAs, Ne.symm hne]
  rw [hlast, Option.or_none, List.find?_map, List.find?_map, List.find?_filter]
  congr 2
  funext r
  by_cases hk : r.body.scope = k
  · simp [sameRec, ownAs, hk, hne, beq_eq_decide]
  · simp [hk]

theorem recordOriginate_originates {scope : Nat} {s : State} (hup : obilwinUp s = true) (haddr : s.fab.addrValid = true)
    (hlow : 1 ≤ scope) (hhigh : scope ≤ 3) (hsome : ownEntries s scope ≠ [])
    (hdiff : ∀ r, ownRecord s scope = some r → r.entries ≠ ownEntries s scope) :
    ∃ t, exec (.recordOriginate scope) s = .next t ∧ keepsBut [.port, .fab, .fabS, .msi] s t ∧ t.fabS.reconv = true ∧
      vget t.fab.ownSeq scope 0 = (vget s.fab.ownSeq scope 0 + 1) % 2 ^ 32 ∧
      ∃ q ∈ t.fab.records, q.body.scope = scope ∧ q.body.serial = ownSerial ∧ q.body.origin = ownAddr s ∧
        q.body.entries = ownEntries s scope ∧ q.body.seq = (vget s.fab.ownSeq scope 0 + 1) % 2 ^ 32 := by
  obtain ⟨fl, hexec⟩ : ∃ fl, exec (.recordOriginate scope) s =
      done (dbChanged (originate scope ((vget s.fab.ownSeq scope 0 + 1) % 2 ^ 32) fl (ownEntries s scope) s)) := by
    refine ⟨b2n s.fab.transit * 128 + (if scope ≠ 1 ∧ (ownEntries s scope).isEmpty then 64 else 0), ?_⟩
    show execRecordOriginate scope s = _
    simp only [execRecordOriginate, hup, haddr, hlow, hhigh, and_self, decide_true, Bool.and_self, if_true]
    rw [if_neg]
    cases hown : ownRecord s scope with
    | none => simp [hsome]
    | some r => simp [hdiff r hown]
  obtain ⟨hframe, hseq, q, hq, hrecs⟩ := originate_moves scope ((vget s.fab.ownSeq scope 0 + 1) % 2 ^ 32) fl (ownEntries s scope) s
  generalize originate scope ((vget s.fab.ownSeq scope 0 + 1) % 2 ^ 32) fl (ownEntries s scope) s = o at *
  obtain ⟨h, hh⟩ := dbChanged_fab o
  refine ⟨_, hexec, keepsBut_done (keepsBut_then hframe (keepsBut_dbChanged _) (by simp) (by simp)) (by simp), ?_, ?_, q, ?_, ?_⟩
  · rw [settle_fabS, dbChanged_reconv]
  · rw [settle_fab, hh, hseq, vmodN_same _ _ _ _ (by omega)]
  · rw [settle_fab, hh, hrecs]
    exact List.mem_append_right _ (List.mem_singleton_self q)
  · rw [hq]
    exact ⟨rfl, rfl, rfl, rfl, rfl⟩

/-- A refresh of one scope. -/
def refreshScope (t : State) (sc : Nat) : State :=
  match ownRecord t sc with
  | some r => if withdrawn r then t else originate sc ((vget t.fab.ownSeq sc 0 + 1) % 2 ^ 32) r.flags r.entries t
  | none => t

theorem keepsBut_refreshScope (t : State) (sc : Nat) : keepsBut [.port, .fab] t (refreshScope t sc) := by
  unfold refreshScope
  split
  · split
    · exact keepsBut_refl _ t
    · exact (originate_moves _ _ _ _ t).1
  · exact keepsBut_refl _ t

theorem refreshScope_other {t : State} {sc k : Nat} (hne : k ≠ sc) :
    ownRecord (refreshScope t sc) k = ownRecord t k ∧ vget (refreshScope t sc).fab.ownSeq k 0 = vget t.fab.ownSeq k 0 := by
  unfold refreshScope
  split
  · split
    · exact ⟨rfl, rfl⟩
    · refine ⟨ownRecord_originate_other hne _ _ _ t, ?_⟩
      rw [(originate_moves _ _ _ _ t).2.1, vmodN_other _ _ _ _ _ hne]
  · exact ⟨rfl, rfl⟩

theorem refreshScope_same {t : State} {sc : Nat} {r : LsRecord} (hsc : sc < 4) (hr : ownRecord t sc = some r)
    (hlive : withdrawn r = false) : vget (refreshScope t sc).fab.ownSeq sc 0 = (vget t.fab.ownSeq sc 0 + 1) % 2 ^ 32 := by
  obtain ⟨-, hseq, -⟩ := originate_moves sc ((vget t.fab.ownSeq sc 0 + 1) % 2 ^ 32) r.flags r.entries t
  simp only [refreshScope, hr, hlive, Bool.false_eq_true, if_false]
  rw [hseq, vmodN_same _ _ _ _ hsc]

theorem recordRefresh_refreshes {s : State} (hup : obilwinUp s = true) (haddr : s.fab.addrValid = true) :
    ∃ t, exec .recordRefresh s = .next t ∧ keepsBut [.port, .fab, .msi] s t ∧
      ∀ sc, 1 ≤ sc → sc ≤ 3 → ∀ r, ownRecord s sc = some r → withdrawn r = false →
        vget t.fab.ownSeq sc 0 = (vget s.fab.ownSeq sc 0 + 1) % 2 ^ 32 := by
  have hframe := keepsBut_foldl refreshScope keepsBut_refreshScope [1, 2, 3] s
  refine ⟨settle ([1, 2, 3].foldl refreshScope s), if_pos (by simp [hup, haddr]),
    keepsBut_done (keepsBut_mono hframe (by simp)) (by simp), fun sc hlow hhigh r hr hlive => ?_⟩
  show vget (refreshScope (refreshScope (refreshScope s 1) 2) 3).fab.ownSeq sc 0 = _
  obtain rfl | rfl | rfl : sc = 1 ∨ sc = 2 ∨ sc = 3 := by omega
  · rw [(refreshScope_other (by omega)).2, (refreshScope_other (by omega)).2]
    exact refreshScope_same (by omega) hr hlive
  · obtain ⟨hrec, hseq⟩ := refreshScope_other (t := s) (sc := 1) (k := 2) (by omega)
    rw [(refreshScope_other (by omega)).2, refreshScope_same (by omega) (hrec.trans hr) hlive, hseq]
  · obtain ⟨hrec, hseq⟩ := refreshScope_other (t := s) (sc := 1) (k := 3) (by omega)
    obtain ⟨hrec', hseq'⟩ := refreshScope_other (t := refreshScope s 1) (sc := 2) (k := 3) (by omega)
    rw [refreshScope_same (by omega) (hrec'.trans (hrec.trans hr)) hlive, hseq', hseq]

/-! ### Routes (R343 to R345) -/

/-- The entry of a route as the database gives it. -/
def routeEntry (s : State) (i : Nat) : Option RouteEntry :=
  if (routeTargets s i).isEmpty then none else routeFor s (hopsOf s) (routeTargets s i)

/-- A table with one entry as given. -/
def putRoute (i : Nat) (e : Option RouteEntry) (t : Tbl RouteEntry) : Tbl RouteEntry :=
  match e with
  | some v => Tbl.set t i v
  | none => Tbl.erase t i

theorem get_putRoute (i j : Nat) (e : Option RouteEntry) (t : Tbl RouteEntry) :
    Tbl.get (putRoute i e t) j = if j = i then e else Tbl.get t j := by
  cases e with
  | none => exact Tbl.get_erase t i j
  | some v => exact Tbl.get_set t i j v

/-- One route, written where it has changed. -/
def writeRoute (on : Bool) (e : Nat → Option RouteEntry) (a : Nat × State) (i : Nat) : Nat × State :=
  if Tbl.get a.2.fwd.golden.route i = e i then a
  else (a.1 + 1, clearBad 4 i (fwdMod (fun f => { f with
    golden := { f.golden with route := putRoute i (e i) f.golden.route }
    hw := if on then { f.hw with route := putRoute i (e i) f.hw.route } else f.hw }) a.2))

theorem writeRoutes_eq (s : State) : writeRoutes s = (List.range 192).foldl (writeRoute (domOn s 10) (routeEntry s)) (0, s) := rfl

/-- Routes have been written: both tables hold what is computed where the golden one did not hold it yet. -/
structure RoutesWritten (e : Nat → Option RouteEntry) (l : List Nat) (s t : State) : Prop where
  frame : keepsBut [.fwd] s t
  golden : ∀ j, Tbl.get t.fwd.golden.route j = if j ∈ l then e j else Tbl.get s.fwd.golden.route j
  hw : ∀ j, Tbl.get t.fwd.hw.route j =
    if j ∈ l ∧ Tbl.get s.fwd.golden.route j ≠ e j then e j else Tbl.get s.fwd.hw.route j

theorem writeRoute_writes {e : Nat → Option RouteEntry} {l : List Nat} {s : State} {a : Nat × State} {i : Nat}
    (h : RoutesWritten e l s a.2) (hi : i ∉ l) : RoutesWritten e (l ++ [i]) s (writeRoute true e a i).2 := by
  have hold : Tbl.get a.2.fwd.golden.route i = Tbl.get s.fwd.golden.route i := by rw [h.golden, if_neg hi]
  unfold writeRoute
  split
  next heq =>
    refine ⟨h.frame, fun j => ?_, fun j => ?_⟩
    · rw [h.golden]
      grind
    · rw [h.hw]
      grind
  next hne =>
    refine ⟨keepsBut_trans h.frame (keepsBut_trans (keepsBut_fwdMod _ _) (keepsBut_fwdMod _ _)), fun j => ?_, fun j => ?_⟩
    · show Tbl.get (putRoute i (e i) a.2.fwd.golden.route) j = _
      rw [get_putRoute, h.golden]
      grind
    · show Tbl.get (putRoute i (e i) a.2.fwd.hw.route) j = _
      rw [get_putRoute, h.hw]
      grind

theorem writeRoutes_writes {s : State} (hon : domOn s 10 = true) : RoutesWritten (routeEntry s) (List.range 192) s (writeRoutes s).2 := by
  rw [writeRoutes_eq, hon]
  have hrange : ∀ n, RoutesWritten (routeEntry s) (List.range n) s ((List.range n).foldl (writeRoute true (routeEntry s)) (0, s)).2 := by
    intro n
    induction n with
    | zero => exact ⟨keepsBut_refl _ s, fun j => by simp, fun j => by simp⟩
    | succ n ih =>
      rw [List.range_succ, List.foldl_append]
      exact writeRoute_writes ih (by simp)
  exact hrange 192

theorem transitPower_of_keepsBut {l : List Part} {s t : State} (h : keepsBut l s t) (hp : Part.pm ∉ l) (hc : Part.par ∉ l)
    (hg : Part.group ∉ l) : transitPower t = transitPower s := by
  have heq : ∀ u : State, transitPower u = transitPower { pm := u.pm, par := u.par, group := u.group } := fun _ => rfl
  rw [heq t, heq s, h .pm hp, h .par hc, h .group hg]

/-- The state after the computation, before the changes are reported. -/
def spfDone (w : Nat × State) : State :=
  { w.2 with
    fab := { w.2.fab with transit := w.2.fab.transit || transitPower w.2, installed := true }
    fabS := { w.2.fabS with
      reconv := false, spfRuns := (w.2.fabS.spfRuns + 1) % 65536, topoEvt := w.2.fabS.topoEvt || decide (0 < w.1) } }

theorem spfRun_eq (s : State) : spfRun s = if (writeRoutes s).1 = 0 then spfDone (writeRoutes s)
    else issueEvent 0x0702 0 (le 2 (spfDone (writeRoutes s)).fabS.spfRuns) (spfDone (writeRoutes s)) := rfl

theorem keepsBut_spfDone (w : Nat × State) : keepsBut [.fab, .fabS] w.2 (spfDone w) := by
  intro p hp; cases p <;> first | rfl | exact ⟨rfl, rfl, rfl⟩ | simp at hp

theorem spfDone_counts (w : Nat × State) : (spfDone w).fabS.reconv = false ∧ (spfDone w).fabS.spfRuns = (w.2.fabS.spfRuns + 1) % 65536 ∧
    (spfDone w).fab.transit = (w.2.fab.transit || transitPower w.2) := ⟨rfl, rfl, rfl⟩

/-- The computation counts itself, and moves nothing of the tables but the routes. -/
theorem spfRun_runs (s : State) : keepsBut [.host, .mb, .pc] (spfDone (writeRoutes s)) (spfRun s) := by
  rw [spfRun_eq]
  split
  · exact keepsBut_refl _ _
  · exact keepsBut_mono (keepsBut_issueEvent _ _ _ _) (by simp)

theorem replanAll_none {down : Bool} {s : State} (h : s.cald.streams = []) : replanAll down s = s := by
  simp [replanAll, h]

theorem spfCompute_computes {s : State} (hup : obilwinUp s = true) (hreconv : s.fabS.reconv = true) (hon : domOn s 10 = true)
    (hstreams : s.cald.streams = []) :
    ∃ t, exec .spfCompute s = .next t ∧ keepsBut [.fwd, .fab, .fabS, .host, .msi, .mb, .pc] s t ∧
      t.fabS.reconv = false ∧ t.fabS.spfRuns = (s.fabS.spfRuns + 1) % 65536 ∧ t.fab.transit = (s.fab.transit || transitPower s) ∧
      RoutesWritten (routeEntry s) (List.range 192) s { s with fwd := t.fwd } := by
  have hwritten := writeRoutes_writes hon
  have hissued := spfRun_runs s
  have hdone := keepsBut_spfDone (writeRoutes s)
  have hnone : (spfRun s).cald.streams = [] := by
    rw [hissued .cald (by simp), hdone .cald (by simp), hwritten.frame .cald (by simp), hstreams]
  have hexec : exec .spfCompute s = done (spfRun s) := by
    show execSpfCompute s = _
    rw [execSpfCompute, replanAll_none hnone]
    simp [hup, hreconv, when]
  obtain ⟨hreset, hruns, htransit⟩ := spfDone_counts (writeRoutes s)
  have hfabS := hissued .fabS (by simp)
  have hfab := hissued .fab (by simp)
  have hfwd := (hissued .fwd (by simp)).trans (hdone .fwd (by simp))
  have hframe : keepsBut [.fwd, .fab, .fabS, .host, .mb, .pc] s (spfRun s) :=
    keepsBut_trans (keepsBut_mono hwritten.frame (by simp))
      (keepsBut_trans (keepsBut_mono hdone (by simp)) (keepsBut_mono hissued (by simp)))
  refine ⟨_, hexec, keepsBut_done (keepsBut_mono hframe (by simp)) (by simp), ?_, ?_, ?_, ?_⟩
  · rw [settle_fabS, hfabS, hreset]
  · rw [settle_fabS, hfabS, hruns, hwritten.frame .fabS (by simp)]
  · rw [settle_fab, hfab, htransit, hwritten.frame .fab (by simp),
      transitPower_of_keepsBut hwritten.frame (by simp) (by simp) (by simp)]
  · rw [settle_fwd, hfwd]
    generalize writeRoutes s = w at hwritten ⊢
    exact ⟨keepsBut_fwdMod (fun _ => w.2.fwd) s, hwritten.golden, hwritten.hw⟩

/-- Settles O35: each command by the lemma that says what it does. -/
theorem linkStateRecords : Obligations.LinkStateRecords := by
  unfold Obligations.LinkStateRecords
  refine ⟨?_, ⟨?_, fun s => recordRetransmit_resends, fun b s => recordAgeExpiry_discards,
    fun n s => segmentReassemblyTimeout_discards⟩, ⟨fun scope s => recordOriginate_originates, fun s => recordRefresh_refreshes⟩, ?_⟩
  · intro p src frame s seg hup hport hone r hlow hhigh hage hother held
    have hjudged := recordReceive_judges hup hport hone hlow hhigh hage hother rfl
    change exec (.recordReceive p src frame) s = match held with
      | none => done (takeRecord p.val r s)
      | some o => if newer r o then done (takeRecord p.val r s)
        else if r.seq = o.seq then done (sendLink p.val 2 3 (ackBody o) s) else done s at hjudged
    refine ⟨fun hnewer hroom => ?_, fun o ho hold hseq => ?_, fun hnone hfull => ?_⟩
    · have hexec : exec (.recordReceive p src frame) s = done (takeRecord p.val r s) := by
        rw [hjudged]
        cases hheld : held with
        | none => rfl
        | some o => exact if_pos (hnewer o hheld)
      have hplace : s.fab.records.any (fun q => sameRec q.body r) = true ∨
          (s.fab.records.filter (fun q => q.body.scope == r.scope)).length < scaleOf r.scope := by
        cases hheld : held with
        | none => exact .inr (hroom hheld)
        | some o => exact .inl (any_sameRec_of_find hheld)
      obtain ⟨hframe, hstored, hack, hon, hreconv⟩ := takeRecord_stores (p := p.val) hplace
      exact ⟨_, hexec, keepsBut_done (keepsBut_mono hframe (by simp)) (by simp), hstored, hack, hon, hreconv⟩
    · have hexec : exec (.recordReceive p src frame) s = done (sendLink p.val 2 3 (ackBody o) s) := by
        rw [hjudged, ho]
        simp [hold, hseq]
      refine ⟨_, linkMsg p.val 2 3 (ackBody o) s, hexec,
        keepsBut_done (keepsBut_mono (keepsBut_sendLink _ _ _ _ s) (by simp)) (by simp), ?_⟩
      rw [settle_fab, sendLink_fab]
      exact ⟨rfl, rfl, rfl, rfl, rfl⟩
    · have hexec : exec (.recordReceive p src frame) s =
          done (issueEvent 0x0703 r.scope [] { s with fabS := { s.fabS with scaleLimit := true } }) := by
        rw [hjudged, hnone, ← takeRecord_refuses (p := p.val) (not_any_sameRec_of_find hnone) hfull]
      have hissue := keepsBut_issueEvent 0x0703 r.scope [] { s with fabS := { s.fabS with scaleLimit := true } }
      refine ⟨_, hexec, keepsBut_done (keepsBut_then (keepsBut_fabS _ s) hissue (by simp) (by simp)) (by simp), ?_, ?_⟩
      · rw [settle_fab, hissue .fab (by simp)]
      · rw [settle_fabS, hissue .fabS (by simp)]
  · intro p src frame s seg hup hone hlength
    refine ⟨_, recordAckReceive_acks hup hone hlength, keepsBut_done (keepsBut_mono (keepsBut_fabMod _ s) (by simp)) (by simp), ?_⟩
    have hacked : acked p.val seg.body = fun r => if r.body.scope = fieldBe seg.body 0 1 ∧ r.body.origin = fieldBe seg.body 2 3 % 2 ^ 18 ∧
        r.body.serial = fieldBe seg.body 8 8 ∧ r.body.seq ≤ fieldBe seg.body 16 4
        then { r with unacked := r.unacked.filter (fun q => q != p.val) } else r := by
      funext r
      simp only [acked, eq_comm (b := r.body.scope), eq_comm (b := r.body.origin), eq_comm (b := r.body.serial)]
    exact congrArg (fun f => ({ s.fab with records := s.fab.records.map f } : Fabric)) hacked
  · intro s hup hreconv hon hstreams
    obtain ⟨t, hexec, hframe, hdone, hruns, htransit, hwritten⟩ := spfCompute_computes hup hreconv hon hstreams
    refine ⟨t, hexec, hframe, hdone, hruns, htransit, fun i hi => ?_⟩
    have hentry : (if routeTargets s i = [] then none else routeFor s (hopsOf s) (routeTargets s i)) = routeEntry s i := by
      simp only [routeEntry, List.isEmpty_iff]
    have hmem : i ∈ List.range 192 := List.mem_range.mpr hi
    dsimp only
    rw [hentry]
    refine ⟨(hwritten.golden i).trans (if_pos hmem), (hwritten.hw i).trans ?_⟩
    by_cases heq : Tbl.get s.fwd.golden.route i = routeEntry s i <;> simp [heq, hmem]

end Sys2Proof.Machine

/-! Commands and attestation over the fabric (R348, R350 to R352). -/

namespace Sys2Proof.Machine

-- The joined text is one compile: no thread beside the main one for each proof.
set_option Elab.async false

/-! ### Segments (R348) -/

theorem segOf_segBytes {g : Seg} (hfits : segFits g) : segOf g.source (segBytes g) = g := by
  obtain ⟨hxid, hkind, hindex, hlow, hcount, hmflags, hlength⟩ := hfits
  have hwidth : (be 2 g.xid ++ be 1 g.kind ++ be 1 (16 * g.index + (g.count - 1)) ++ be 2 g.body.length ++ be 1 g.mflags ++ [0]).length = 8 := by
    simp
  have hbody : (segBytes g).drop 8 = g.body := List.drop_left' hwidth
  simp only [segOf, hbody]
  simp only [segBytes, List.append_assoc, fieldBe_be_append, Nat.reduceSub, Nat.reduceLeDiff, fieldBe_be_mod]
  cases g
  simp only [Seg.mk.injEq]
  dsimp only at *
  refine ⟨trivial, ?_, ?_, ?_, ?_, ?_, ?_⟩
  · omega
  · omega
  · omega
  · omega
  · omega
  · rw [Nat.mod_eq_of_lt (by omega), List.take_length]

/-- A segment of a message's body, of 1,024 bytes or the last. -/
def segmentOf (xid kind mflags : Nat) (body : List Byte) (i : Nat) : Seg :=
  { source := 0, xid, kind, index := i, count := max 1 ((body.length + 1023) / 1024), mflags, body := (body.drop (1024 * i)).take 1024 }

theorem segmentsOf_spell {xid kind mflags : Nat} {body : List Byte} (hxid : xid < 2 ^ 16) (hkind : kind < 2 ^ 8) (hmflags : mflags < 2 ^ 8)
    (hlength : body.length ≤ 16384) :
    (segmentsOf xid kind mflags body).map (segOf 0) =
      (List.range (max 1 ((body.length + 1023) / 1024))).map (segmentOf xid kind mflags body) := by
  simp only [segmentsOf, List.map_map]
  refine List.map_congr_left fun i hi => segOf_segBytes (g := segmentOf xid kind mflags body i) ⟨hxid, hkind, ?_, ?_, ?_, hmflags, ?_⟩
  all_goals simp only [segmentOf, List.mem_range, List.length_take, List.length_drop] at hi ⊢; omega

/-- Pieces one after the other are the beginning of the whole. -/
theorem flatMap_pieces (body : List Byte) (k n : Nat) :
    (List.range n).flatMap (fun i => (body.drop (k * i)).take k) = body.take (k * n) := by
  induction n with
  | zero => simp
  | succ n ih => rw [List.range_succ, List.flatMap_append, ih, Nat.mul_succ, List.take_add, List.flatMap_singleton]

theorem segments_carry {xid kind mflags : Nat} {body : List Byte} (hxid : xid < 2 ^ 16) (hkind : kind < 2 ^ 8) (hmflags : mflags < 2 ^ 8)
    (hlength : body.length ≤ 16384) :
    let l := (segmentsOf xid kind mflags body).map (segOf 0)
    l.flatMap (fun g => g.body) = body ∧ l.length = max 1 ((body.length + 1023) / 1024) ∧
      ∀ g ∈ l, g.xid = xid ∧ g.kind = kind ∧ g.mflags = mflags ∧ g.count = l.length ∧ g.body.length ≤ 1024 := by
  intro l
  have hl : l = _ := segmentsOf_spell hxid hkind hmflags hlength
  clear_value l
  subst hl
  refine ⟨?_, by simp, fun g hg => ?_⟩
  · rw [List.flatMap_map]
    exact (flatMap_pieces body 1024 _).trans (List.take_of_length_le (by omega))
  · obtain ⟨i, -, rfl⟩ := List.mem_map.mp hg
    refine ⟨rfl, rfl, rfl, by simp [segmentOf], ?_⟩
    simp only [segmentOf, List.length_take]
    omega

/-! ### Messages to devices -/

theorem sendDev_sends (dest type kind xid mflags : Nat) (body : List Byte) {s u : State} (h : u.fab.sent = s.fab.sent) :
    ∃ m, (settle (sendDev dest type kind xid mflags body u)).fab.sent = m :: s.fab.sent ∧ m.dest = dest ∧ m.type = type ∧ m.kind = kind ∧
      m.xid = xid ∧ m.mflags = mflags ∧ m.body = body := by
  refine ⟨{ port := none, dest, type, kind, xid, mflags, body, head := devHead u dest type, segs := segmentsOf xid kind mflags body }, ?_,
    rfl, rfl, rfl, rfl, rfl, rfl⟩
  rw [settle_fab, ← h]
  rfl

/-! ### Commands of other devices (R350) -/

/-- The sequence state that a source has, or a fresh one. -/
def remoteSeqOf (src : Nat) (s : State) : RemoteSeq :=
  (s.fab.remotes.find? (fun r => r.source == src)).getD { source := src, lastSeq := 0, response := [] }

theorem remoteSeqOf_source (src : Nat) (s : State) : (remoteSeqOf src s).source = src := by
  unfold remoteSeqOf
  cases h : s.fab.remotes.find? (fun r => r.source == src) with
  | none => rfl
  | some q => simpa using List.find?_some h

/-- A command of another device is taken up. -/
def takeRemote (src xid : Nat) (relayed : Bool) (b : List Byte) (seqReset : Bool) (s : State) : State :=
  mbMod (fun m => { m with remote := m.remote ++ [{
      source := src, xid, relayed, exec := { (newExec s (.remote src xid) b seqReset relayed).1 with inProgress := false } }] })
    (remoteSeqSet { (remoteSeqOf src s) with lastSeq := (cmdOf b).hseq, response := [] } (newExec s (.remote src xid) b seqReset relayed).2)

theorem keepsBut_newExec (s : State) (o : Origin) (b : List Byte) (r l : Bool) : keepsBut [.free] s (newExec s o b r l).2 := by
  unfold newExec
  dsimp only
  split
  · exact keepsBut_withFree _ s
  · exact keepsBut_refl _ s

theorem takeRemote_takes {src xid : Nat} {s : State} (relayed : Bool) (b : List Byte) (seqReset : Bool)
    (hnone : execOf s (.remote src xid) = none) :
    ∃ e q, keepsBut [.fab, .mb, .free] s (takeRemote src xid relayed b seqReset s) ∧
      execOf (takeRemote src xid relayed b seqReset s) (.remote src xid) = some e ∧ e.cmd = { cmdOf b with seqReset } ∧
      (takeRemote src xid relayed b seqReset s).fab.remotes.head? = some q ∧ q.source = src ∧ q.lastSeq = (cmdOf b).hseq := by
  have hnew := keepsBut_newExec s (.remote src xid) b seqReset relayed
  refine ⟨{ (newExec s (.remote src xid) b seqReset relayed).1 with inProgress := false }, _, ?_, ?_, rfl, rfl, remoteSeqOf_source src s, rfl⟩
  · exact keepsBut_trans (keepsBut_mono hnew (by simp))
      (keepsBut_trans (keepsBut_mono (keepsBut_fabMod _ _) (by simp)) (keepsBut_mono (keepsBut_mbMod _ _) (by simp)))
  · have hmb : (newExec s (.remote src xid) b seqReset relayed).2.mb = s.mb := hnew .mb (by simp)
    rw [execOf, Option.map_eq_none_iff] at hnone
    show ((((newExec s (.remote src xid) b seqReset relayed).2.mb.remote ++ [_]).find? _).map _) = _
    rw [hmb, List.find?_append, hnone]
    simp

theorem remoteCommand_new {src xid : Nat} {relayed : Bool} {b : List Byte} {s : State} {r : Bool}
    (hnone : execOf s (.remote src xid) = none)
    (hnew : judge (s.fab.remotes.find? (fun r => r.source == src)).isSome
      (((s.fab.remotes.find? (fun r => r.source == src)).map (fun q => q.lastSeq)).getD 0) (cmdOf b).hseq = .new r) :
    remoteCommand src xid relayed b s = takeRemote src xid relayed b r s := by
  simp only [remoteCommand, hnew, hnone]
  rfl

/-- The same number again is a replay: no number is the one after itself. -/
theorem judge_same (n : Nat) : judge true n n = .replay := by
  have hnext : ¬ n = (n + 1) % 65536 := by omega
  simp [judge, hnext]

theorem remoteCommandReceive_whole {src : Nat} {frame : List Byte} {s : State} (hup : obilwinUp s = true) (hkind : (segOf src frame).kind = 0)
    (hone : (segOf src frame).count ≤ 1) (hlength : 16 ≤ (segOf src frame).body.length) :
    exec (.remoteCommandReceive src frame) s = done (remoteCommand (segOf src frame).source (segOf src frame).xid
      ((segOf src frame).mflags.testBit 0) (segOf src frame).body s) := by
  show execRemoteCommandReceive src frame s = _
  simp [execRemoteCommandReceive, hup, hkind, assemble_single hone, Nat.not_lt.mpr hlength]

theorem remoteCommandReceive_judges {src : Nat} {frame : List Byte} {s : State} (hup : obilwinUp s = true)
    (hkind : (segOf src frame).kind = 0) (hone : (segOf src frame).count ≤ 1) (hlength : 16 ≤ (segOf src frame).body.length)
    (hnone : execOf s (.remote (segOf src frame).source (segOf src frame).xid) = none) :
    ((∀ q ∈ s.fab.remotes, q.source ≠ (segOf src frame).source) →
      ∃ t e q, exec (.remoteCommandReceive src frame) s = .next t ∧ keepsBut [.fab, .mb, .free, .msi] s t ∧
        execOf t (.remote (segOf src frame).source (segOf src frame).xid) = some e ∧
        e.cmd = { cmdOf (segOf src frame).body with seqReset := true } ∧
        t.fab.remotes.head? = some q ∧ q.source = (segOf src frame).source ∧ q.lastSeq = (cmdOf (segOf src frame).body).hseq) ∧
    (∀ q, s.fab.remotes.find? (fun r => r.source == (segOf src frame).source) = some q →
      (cmdOf (segOf src frame).body).hseq = (q.lastSeq + 1) % 65536 →
      ∃ t e, exec (.remoteCommandReceive src frame) s = .next t ∧ keepsBut [.fab, .mb, .free, .msi] s t ∧
        execOf t (.remote (segOf src frame).source (segOf src frame).xid) = some e ∧
        e.cmd = { cmdOf (segOf src frame).body with seqReset := false }) ∧
    (∀ q, s.fab.remotes.find? (fun r => r.source == (segOf src frame).source) = some q → (cmdOf (segOf src frame).body).hseq = q.lastSeq →
      q.response ≠ [] →
      ∃ t m, exec (.remoteCommandReceive src frame) s = .next t ∧ keepsBut [.fab, .msi] s t ∧ t.fab.sent = m :: s.fab.sent ∧
        m.dest = (segOf src frame).source ∧ m.kind = 1 ∧ m.xid = (segOf src frame).xid ∧ m.body = asReplay q.response) := by
  have hexec := remoteCommandReceive_whole hup hkind hone hlength
  generalize (segOf src frame).source = source at *
  generalize (segOf src frame).xid = xid at *
  generalize (segOf src frame).body = b at *
  generalize (segOf src frame).mflags.testBit 0 = relayed at *
  rw [hexec]
  refine ⟨fun hsource => ?_, fun q hq hnext => ?_, fun q hq hsame hresp => ?_⟩
  · have hfresh : s.fab.remotes.find? (fun r => r.source == source) = none := by
      simpa [List.find?_eq_none] using hsource
    obtain ⟨e, q, hframe, hexecOf, hcmd, hhead, hq, hlast⟩ := takeRemote_takes relayed b true hnone
    rw [remoteCommand_new hnone (r := true) (by simp [hfresh, judge])]
    exact ⟨_, e, q, rfl, keepsBut_done (keepsBut_mono hframe (by simp)) (by simp), (execOf_congr (settle_mb _) _).trans hexecOf, hcmd, hhead, hq, hlast⟩
  · obtain ⟨e, -, hframe, hexecOf, hcmd, -⟩ := takeRemote_takes relayed b false hnone
    rw [remoteCommand_new hnone (r := false) (by simp [hq, hnext, judge])]
    exact ⟨_, e, rfl, keepsBut_done (keepsBut_mono hframe (by simp)) (by simp), (execOf_congr (settle_mb _) _).trans hexecOf, hcmd⟩
  · have hreplay : remoteCommand source xid relayed b s = sendResponse source xid (asReplay q.response) (remoteSeqSet q s) := by
      simp [remoteCommand, hq, hsame, judge_same, hresp]
    have hset : keepsBut [.fab] s (remoteSeqSet q s) := keepsBut_fabMod _ s
    have hsent : (remoteSeqSet q s).fab.sent = s.fab.sent := rfl
    rw [hreplay]
    obtain ⟨m, hm, hdest, -, hkind, hxid, -, hbody⟩ := sendDev_sends source 2 1 xid
      (b2n ((fieldLe (asReplay q.response) 2 1).testBit 4) * 2) (asReplay q.response) hsent
    exact ⟨_, m, rfl, keepsBut_done (keepsBut_mono (keepsBut_trans hset (keepsBut_sendDev _ _ _ _ _ _ _)) (by simp))
      (by simp), hm, hdest, hkind, hxid, hbody⟩

/-! ### Relayed commands (R351, R352) -/

theorem find_source_xid {l : List Relay} {xid source : Nat} {r : Relay} (h : l.find? (fun q => q.xid == xid && q.target == source) = some r) :
    r.xid = xid := by
  have := List.find?_some h
  simp only [Bool.and_eq_true, beq_iff_eq] at this
  exact this.1

theorem find_xid {l : List Relay} {xid : Nat} {r : Relay} (h : l.find? (fun q => q.xid == xid) = some r) : r.xid = xid := by
  simpa using List.find?_some h

/-- A command's result with its relay gone. -/
theorem setResult_dropped {o : Origin} {e : Exec} {xid : Nat} {s : State} (r : CmdResult) (h : execOf s o = some e) :
    let t := settle (setResult o r (fabMod (fun f => { f with relays := f.relays.filter (fun q => q.xid != xid) }) s))
    keepsBut [.fab, .mb, .msi] s t ∧ execOf t o = some { e with result := some r, wait := none } ∧ ∀ q ∈ t.fab.relays, q.xid ≠ xid := by
  intro t
  obtain ⟨u, hu⟩ : ∃ u, u = fabMod (fun f => { f with relays := f.relays.filter (fun q => q.xid != xid) }) s := ⟨_, rfl⟩
  have ht : t = settle (setResult o r u) := by rw [hu]
  have hkept : keepsBut [.mb] u (setResult o r u) := keepsBut_execMod o _ u
  have hexec : execOf u o = some e := by
    rw [hu]
    exact h
  rw [ht]
  have hdropped : keepsBut [.fab] s u := by
    rw [hu]
    exact keepsBut_fabMod _ s
  refine ⟨keepsBut_done (keepsBut_then hdropped hkept (by simp) (by simp)) (by simp), execOf_execMod _ hexec, fun q hq => ?_⟩
  · rw [settle_fab, hkept .fab (by simp), hu] at hq
    exact bne_iff_ne.mp (List.mem_filter.mp hq).2

theorem remoteResponseReceive_ends {src : Nat} {frame : List Byte} {r : Relay} {e : Exec} {s : State}
    (hfind : s.fab.relays.find? (fun q => q.xid == (segOf src frame).xid && q.target == (segOf src frame).source) = some r)
    (hup : obilwinUp s = true) (hkind : (segOf src frame).kind = 1) (hone : (segOf src frame).count ≤ 1) (hcmd : r.attest = false)
    (he : execOf s r.origin = some e) :
    ∃ t, exec (.remoteResponseReceive src frame) s = .next t ∧ keepsBut [.fab, .mb, .msi] s t ∧
      execOf t r.origin = some { e with result := some (okRes (segOf src frame).body), wait := none } ∧
      ∀ q ∈ t.fab.relays, q.xid ≠ (segOf src frame).xid := by
  refine ⟨_, ?_, setResult_dropped (okRes (segOf src frame).body) he⟩
  show execRemoteResponseReceive src frame s = _
  simp only [execRemoteResponseReceive, hfind, hup, hkind, hcmd, assemble_single hone, find_source_xid hfind]
  rfl

theorem remoteRetry_sends {r : Relay} {xid : Nat} {s : State} (hfind : s.fab.relays.find? (fun q => q.xid == xid) = some r)
    (hup : obilwinUp s = true) (hleft : r.sends < 3) (hcmd : r.attest = false) :
    ∃ t m, exec (.remoteRetry xid) s = .next t ∧ keepsBut [.fab, .msi] s t ∧
      t.fab.sent = m :: s.fab.sent ∧ m.dest = r.target ∧ m.xid = xid ∧ m.body = r.body ∧ m.mflags = 1 ∧
      (t.fab.relays.find? (fun q => q.xid == xid)).map (fun q => q.sends) = some (r.sends + 1) := by
  have hexec : exec (.remoteRetry xid) s = done (sendDev r.target 2 0 r.xid 1 r.body (fabMod (fun f => { f with
      relays := f.relays.map (fun (q : Relay) => if q.xid = xid then { q with sends := q.sends + 1 } else q) }) s)) := by
    show execRemoteRetry xid s = _
    simp [execRemoteRetry, hfind, hup, hleft, hcmd, when, sendRelay]
  obtain ⟨m, hm, hdest, -, -, hxid, hmflags, hbody⟩ := sendDev_sends r.target 2 0 r.xid 1 r.body (s := s) (u := fabMod (fun f => { f with
      relays := f.relays.map (fun (q : Relay) => if q.xid = xid then { q with sends := q.sends + 1 } else q) }) s) rfl
  refine ⟨_, m, hexec, keepsBut_done (keepsBut_mono (keepsBut_trans (keepsBut_fabMod _ s) (keepsBut_sendDev _ _ _ _ _ _ _)) (by simp))
    (by simp), hm, hdest, hxid.trans (find_xid hfind), hbody, hmflags, ?_⟩
  show ((s.fab.relays.map (fun (q : Relay) => if q.xid = xid then { q with sends := q.sends + 1 } else q)).find? _).map _ = _
  have hsame : (fun q : Relay => q.xid == xid) ∘ (fun (q : Relay) => if q.xid = xid then { q with sends := q.sends + 1 } else q) =
      fun q => q.xid == xid := by
    funext q
    by_cases h : q.xid = xid <;> simp [h]
  rw [List.find?_map, hsame, hfind]
  simp [find_xid hfind]

theorem remoteRetry_stops {r : Relay} {xid : Nat} {s : State} (hfind : s.fab.relays.find? (fun q => q.xid == xid) = some r)
    (hspent : 3 ≤ r.sends) : exec (.remoteRetry xid) s = .next (settle s) := by
  show execRemoteRetry xid s = _
  simp [execRemoteRetry, hfind, Nat.not_lt.mpr hspent, when, done]

theorem remoteTimeoutExpiry_ends {r : Relay} {e : Exec} {xid : Nat} {s : State}
    (hfind : s.fab.relays.find? (fun q => q.xid == xid) = some r) (hup : obilwinUp s = true) (he : execOf s r.origin = some e) :
    ∃ t, exec (.remoteTimeoutExpiry xid) s = .next t ∧ keepsBut [.fab, .mb, .msi] s t ∧
      execOf t r.origin = some { e with result := some { status := stTimeout }, wait := none } ∧ ∀ q ∈ t.fab.relays, q.xid ≠ xid := by
  refine ⟨_, ?_, setResult_dropped { status := stTimeout } he⟩
  show execRemoteTimeoutExpiry xid s = _
  simp only [execRemoteTimeoutExpiry, hfind, hup, when, if_true]
  rfl

/-! ### Attestation requests (R351, R352) -/

theorem connOf_source (s : State) (src : Nat) : (connOf s src).source = src := by
  unfold connOf
  cases h : s.boot.conns.find? (fun c => c.source == src) with
  | none => rfl
  | some c => simpa using List.find?_some h

/-- A connection that has been kept is the one its source has. -/
theorem connOf_keepConn {c : SpdmConn} {src : Nat} (hsource : c.source = src) (s : State) : connOf (keepConn c s) src = c := by
  subst hsource
  have hgone : (s.boot.conns.filter (fun (x : SpdmConn) => x.source != c.source)).find? (fun x => x.source == c.source) = none := by
    simp [List.find?_eq_none]
  have hchan : ((s.boot.conns.filter (fun (x : SpdmConn) => x.source != c.source)).filter (fun x => x.source == chan3)).find?
      (fun x => x.source == c.source) = none := by
    rw [List.find?_eq_none] at hgone ⊢
    exact fun x hx => hgone x (List.mem_filter.mp hx).1
  simp only [connOf, keepConn, bootMod, List.find?_append, hchan, Option.none_or]
  split <;> simp

theorem keepsBut_keepConn (c : SpdmConn) (s : State) : keepsBut [.boot] s (keepConn c s) := keepsBut_bootMod _ s

theorem keepsBut_spdmReply (src : Nat) (m : List Byte) (s : State) : keepsBut [.boot, .free] s (spdmReply src m s).2 := by
  unfold spdmReply
  extract_lets op c c' r
  split
  · exact keepsBut_refl _ s
  · split
    · exact keepsBut_mono (keepsBut_keepConn _ s) (by simp)
    · split
      · exact keepsBut_mono (keepsBut_keepConn _ s) (by simp)
      · exact keepsBut_then (keepsBut_withFree _ s) (keepsBut_keepConn _ _) (by simp) (by simp)

theorem attestRequestReceive_fresh {src : Nat} {frame : List Byte} {s : State} (hup : obilwinUp s = true)
    (hkind : (segOf src frame).kind = 0) (hone : (segOf src frame).count ≤ 1)
    (hfresh : ∀ x b, (connOf s (segOf src frame).source).last = some (x, b) → x ≠ (segOf src frame).xid) :
    exec (.attestRequestReceive src frame) s = done (execAttestRequestReceive.fresh (segOf src frame) (segOf src frame).body s) := by
  show execAttestRequestReceive src frame s = _
  simp only [execAttestRequestReceive, hup, hkind, assemble_single hone]
  cases hlast : (connOf s (segOf src frame).source).last with
  | none => rfl
  | some a => exact if_neg (hfresh a.1 a.2 hlast)

theorem attestRequestReceive_answers {src : Nat} {frame : List Byte} {s : State} (hup : obilwinUp s = true)
    (hkind : (segOf src frame).kind = 0) (hone : (segOf src frame).count ≤ 1) :
    ((∀ x b, (connOf s (segOf src frame).source).last = some (x, b) → x ≠ (segOf src frame).xid) →
      ∃ t m, exec (.attestRequestReceive src frame) s = .next t ∧ keepsBut [.fab, .boot, .free, .msi] s t ∧ t.fab.sent = m :: s.fab.sent ∧
        m.dest = (segOf src frame).source ∧ m.type = 3 ∧ m.kind = 1 ∧ m.xid = (segOf src frame).xid ∧
        m.body = (spdmReply (segOf src frame).source (segOf src frame).body s).1 ∧
        (connOf t (segOf src frame).source).last = some ((segOf src frame).xid, m.body)) ∧
    (∀ b, (connOf s (segOf src frame).source).last = some ((segOf src frame).xid, b) →
      ∃ t m, exec (.attestRequestReceive src frame) s = .next t ∧ keepsBut [.fab, .msi] s t ∧ t.fab.sent = m :: s.fab.sent ∧
        m.dest = (segOf src frame).source ∧ m.kind = 1 ∧ m.body = b) := by
  refine ⟨fun hfresh => ?_, fun b hlast => ?_⟩
  · rw [attestRequestReceive_fresh hup hkind hone hfresh]
    obtain ⟨g, hg⟩ : ∃ g, segOf src frame = g := ⟨_, rfl⟩
    rw [hg]
    have hreply := keepsBut_spdmReply g.source g.body s
    have hfab : (spdmReply g.source g.body s).2.fab = s.fab := hreply .fab (by simp)
    unfold execAttestRequestReceive.fresh
    dsimp only
    generalize spdmReply g.source g.body s = r at *
    have hsource : (connOf r.2 g.source).source = g.source := connOf_source _ _
    have hframe : keepsBut [.fab, .boot, .free] s
        (sendDev g.source 3 1 g.xid 0 r.1 (keepConn { connOf r.2 g.source with last := some (g.xid, r.1) } r.2)) :=
      keepsBut_trans (keepsBut_mono hreply (by simp))
        (keepsBut_trans (keepsBut_mono (keepsBut_keepConn _ _) (by simp)) (keepsBut_mono (keepsBut_sendDev _ _ _ _ _ _ _) (by simp)))
    obtain ⟨m, hm, hdest, htype, hkind, hxid, -, hbody⟩ := sendDev_sends g.source 3 1 g.xid 0 r.1 (s := s)
      (u := keepConn { connOf r.2 g.source with last := some (g.xid, r.1) } r.2) (congrArg Fabric.sent hfab)
    refine ⟨_, m, rfl, keepsBut_done (keepsBut_mono hframe (by simp)) (by simp), hm, hdest, htype, hkind, hxid, hbody, ?_⟩
    · rw [hbody]
      exact congrArg SpdmConn.last (connOf_keepConn (c := { connOf r.2 g.source with last := some (g.xid, r.1) }) hsource r.2)
  · have hexec : exec (.attestRequestReceive src frame) s = done (sendDev (segOf src frame).source 3 1 (segOf src frame).xid 0 b s) := by
      show execAttestRequestReceive src frame s = _
      simp [execAttestRequestReceive, hup, hkind, assemble_single hone, hlast]
    obtain ⟨m, hm, hdest, -, hkind, -, -, hbody⟩ := sendDev_sends (segOf src frame).source 3 1 (segOf src frame).xid 0 b (rfl : s.fab.sent = _)
    exact ⟨_, m, hexec, keepsBut_done (keepsBut_mono (keepsBut_sendDev _ _ _ _ _ _ _) (by simp)) (by simp), hm, hdest, hkind, hbody⟩

/-- Settles O36: each command by the lemma that says what it does. -/
theorem commandsOverTheFabric : Obligations.CommandsOverTheFabric := by
  unfold Obligations.CommandsOverTheFabric
  refine ⟨fun src frame s => remoteCommandReceive_judges, ⟨fun src frame r e s => remoteResponseReceive_ends,
    fun r e xid s hfind hup => ⟨remoteRetry_sends hfind hup, remoteRetry_stops hfind, remoteTimeoutExpiry_ends hfind hup⟩,
    fun src frame s => attestRequestReceive_answers⟩, fun g => segOf_segBytes, fun xid kind mflags body => segments_carry⟩

end Sys2Proof.Machine

/-! Power domains: descents, raises, alarms and the other wakes (R282, R358 to R372, R505, R510). -/

namespace Sys2Proof.Machine

-- The joined text is one compile: no thread beside the main one for each proof.
set_option Elab.async false

/-! ### Events leave the commands alone -/

/-- The commands of the mailbox: its channels, and those of other devices. -/
def sameCommands (s t : State) : Prop := t.mb.chan = s.mb.chan ∧ t.mb.remote = s.mb.remote

theorem sameCommands_ringWrite (e : DevEvent) (s : State) : sameCommands s (ringWrite e s) := by
  unfold ringWrite
  dsimp only
  split
  · exact ⟨rfl, rfl⟩
  · split
    · exact ⟨rfl, rfl⟩
    · exact ⟨rfl, rfl⟩

theorem sameCommands_issueEvent (c x : Nat) (d : List Byte) (s : State) : sameCommands s (issueEvent c x d s) := by
  unfold issueEvent
  extract_lets n e
  split
  · exact sameCommands_ringWrite e { s with mb := { s.mb with dseq := n, log := (e :: s.mb.log).take 1024 } }
  · exact ⟨rfl, rfl⟩

theorem execOf_of_sameCommands {s t : State} (h : sameCommands s t) (o : Origin) : execOf t o = execOf s o := by
  obtain ⟨hchan, hremote⟩ := h
  cases o <;> simp [execOf, chanOf, hchan, hremote]

/-! ### What work of a domain keeps -/

/-- No POWER_SET is under way. -/
def noPower (s : State) : Prop := ∀ o e todo k, execOf s o = some e → e.wait ≠ some (.power todo k)

theorem noPower_congr {s t : State} (h : ∀ o, execOf t o = execOf s o) (hs : noPower s) : noPower t := fun o e todo k he =>
  hs o e todo k ((h o).symm.trans he)

/-- The parts that a domain's descent or return moves, the domains aside. -/
def workParts : List Part := [.te, .lane, .group, .port, .tio, .ck, .cal, .fwd, .q, .cald, .fab, .rst, .host, .msi, .mb, .boot, .pc]

/-- Work of a domain: Obilwin's golden copies stay, no POWER_SET begins, and no lane leaves OFF. -/
structure DomainWork (s t : State) : Prop where
  frame : keepsBut workParts s t
  golden : t.fwd.golden = s.fwd.golden
  idle : noPower s → noPower t
  off : ∀ l, (laneOf s l).st = .off → (laneOf t l).st = .off

namespace DomainWork

variable {s t u : State}

theorem refl (s : State) : DomainWork s s := ⟨keepsBut_refl _ s, rfl, id, fun _ h => h⟩

theorem trans (h : DomainWork s t) (k : DomainWork t u) : DomainWork s u :=
  ⟨keepsBut_trans h.frame k.frame, k.golden.trans h.golden, fun hs => k.idle (h.idle hs), fun l hl => k.off l (h.off l hl)⟩

/-- Work beside the lanes, the tables and the mailbox. -/
theorem of_frame {m : List Part} (h : keepsBut m s t)
    (hm : ∀ x ∈ m, x ∈ [Part.te, .group, .port, .tio, .ck, .cal, .q, .cald, .fab, .rst, .host, .msi, .boot, .pc] := by simp) : DomainWork s t := by
  have hkeep := keepsBut_mono h hm
  refine ⟨keepsBut_mono hkeep (by simp [workParts]), by rw [hkeep .fwd (by simp)],
    noPower_congr (execOf_congr (hkeep .mb (by simp))), fun l hl => ?_⟩
  rw [laneOf_of_keepsBut hkeep (by simp)]
  exact hl

theorem of_laneMod {l : Nat} {f : Lane → Lane} (s : State) (hoff : ∀ x, x.st = .off → (f x).st = .off := by exact fun _ h => h) :
    DomainWork s (laneMod l f s) :=
  ⟨keepsBut_mono (keepsBut_laneMod l f s) (by simp [workParts]), rfl, noPower_congr (execOf_congr rfl), fun _ hk =>
    laneOf_laneMod_preserved (P := fun x => x.st = .off) hoff hk⟩

theorem of_portMod {q : Nat} {f : Port → Port} (s : State) : DomainWork s (portMod q f s) := of_frame (keepsBut_portMod q f s)

theorem of_foldl {α : Type} {f : State → α → State} (h : ∀ u x, DomainWork u (f u x)) (xs : List α) (s : State) :
    DomainWork s (xs.foldl f s) :=
  List.foldlRecOn xs f (motive := DomainWork s) (refl s) fun u hu x _ => hu.trans (h u x)

theorem of_forEach {f : Nat → State → State} (h : ∀ l u, DomainWork u (f l u)) (ls : List Nat) (s : State) :
    DomainWork s (forEach ls f s) := of_foldl (fun u l => h l u) ls s

/-- Work of the queues with the tables among its parts. -/
theorem of_tables {m : List Part} (h : keepsBut m s t) (hgolden : namedTables t = namedTables s)
    (hm : ∀ x ∈ m, x ∈ [Part.te, .group, .port, .tio, .ck, .cal, .fwd, .q, .cald, .fab, .rst, .host, .msi, .boot, .pc] := by simp) :
    DomainWork s t := by
  have hkeep := keepsBut_mono h hm
  refine ⟨keepsBut_mono hkeep (by simp [workParts]), congrArg (fun x => x.2.2) hgolden,
    noPower_congr (execOf_congr (hkeep .mb (by simp))), fun l hl => ?_⟩
  rw [laneOf_of_keepsBut hkeep (by simp)]
  exact hl

theorem of_issueEvent (c x : Nat) (d : List Byte) (s : State) : DomainWork s (issueEvent c x d s) := by
  have h := keepsBut_issueEvent c x d s
  refine ⟨keepsBut_mono h (by simp [workParts]), by rw [h .fwd (by simp)], noPower_congr (execOf_of_sameCommands (sameCommands_issueEvent c x d s)),
    fun l hl => ?_⟩
  rw [laneOf_of_keepsBut h (by simp)]
  exact hl

theorem of_laneWakes (l : Nat) (s : State) : DomainWork s (laneWakes l s) := by
  refine (of_laneMod s).trans (of_laneMod _ fun x hx => ?_)
  simp [hx]

theorem of_excludeLane (l why : Nat) (s : State) : DomainWork s (excludeLane l why s) :=
  (of_laneMod s).trans (of_frame (keepsBut_convMod l _ _))

theorem of_laneUnready (l : Nat) (s : State) : DomainWork s (laneUnready l s) := (of_excludeLane l _ s).trans (of_laneMod _)

theorem of_servoPortDown (p : Nat) (s : State) : DomainWork s (servoPortDown p s) := by
  have hservo := (servoWork_servoPortDown p s).frame
  refine ⟨keepsBut_mono hservo (by simp [workParts]), by rw [hservo .fwd (by simp)],
    noPower_congr (execOf_congr (hservo .mb (by simp))), fun l hl => ?_⟩
  rcases servoPortDown_cases p s with h | h
  · rw [h]
    exact laneOf_servoIdle_preserved (P := fun x => x.st = .off) (fun _ _ hx => hx) _ hl
  · rw [h]
    exact hl

theorem of_delayEnded (p : Nat) (s : State) : DomainWork s (servoPortDown p (delayNone p s)) := by
  rw [delayNone_eq]
  exact (((of_portMod s).trans (of_portMod _)).trans (of_forEach (fun l u => of_laneMod u) _ _)).trans (of_servoPortDown p _)

theorem of_linkEnds (p : Nat) (s : State) : DomainWork s (linkEnds p false false s) := by
  rw [linkEnds_eq, linkCut]
  have hcut : DomainWork s (portMod p linkStopped (cutTransmission p s)) :=
    (of_frame (keepsBut_cutTransmission p s)).trans (of_portMod _)
  generalize portMod p linkStopped (cutTransmission p s) = u at hcut
  have hawake : DomainWork u (forEach (lanesOf u p) laneWakes (portMod p sleepStopped u)) :=
    (of_portMod u).trans (of_forEach of_laneWakes _ _)
  exact (hcut.trans hawake).trans ((of_frame (keepsBut_adjDown p _)).trans (of_delayEnded p _))

theorem of_portDown (p : Nat) (st : PortSt) (cause : Nat) (s : State) : DomainWork s (portDown p st cause false s) := by
  unfold portDown
  extract_lets was s₁ s₂ s₃
  have h₁ : DomainWork s s₁ := by
    simp only [s₁]
    split
    · exact of_linkEnds p s
    · exact of_delayEnded p s
  have h₃ : DomainWork s s₃ := (h₁.trans (of_tables (keepsBut_flushPort p s₁) (flushPort_namedTables p s₁))).trans (of_portMod _)
  split
  · exact h₃
  · exact h₃.trans (of_issueEvent _ _ _ _)

theorem of_portHold (p cause : Nat) (s : State) : DomainWork s (portHold p cause false s) := by
  unfold portHold
  split
  · split
    · exact refl s
    · exact of_delayEnded p s
  · split
    · exact (of_portDown p .down cause s).trans (of_portMod _)
    · exact (((of_linkEnds p s).trans (of_tables (keepsBut_dropCal p _) (dropCal_namedTables p _))).trans (of_portMod _)).trans
        (of_issueEvent _ _ _ _)

/-- A lane that leaves for OFF. -/
theorem of_laneLeaves (l cause : Nat) (s : State) : DomainWork s (laneLeaves l .off cause false s) := by
  unfold laneLeaves
  extract_lets was p s₁ s₂ s₃
  have h₁ : DomainWork s s₁ := by
    simp only [s₁]
    split
    · exact (of_laneUnready l s).trans (of_portMod _)
    · exact refl s
  have h₃ : DomainWork s s₃ := (h₁.trans (of_laneMod s₁ fun _ _ => rfl)).trans (of_laneMod s₂)
  split
  · exact h₃.trans (of_portHold _ _ _)
  · exact h₃

theorem of_convReject (c reason : Nat) (s : State) : DomainWork s (convReject c reason s) := by
  unfold convReject
  extract_lets v n wait stale s₁ s₂ s₃
  have h₂ : DomainWork s s₂ := (of_frame (keepsBut_convMod c _ s)).trans (of_frame (keepsBut_bump 29 1 s₁))
  have h₃ : DomainWork s s₃ := by
    simp only [s₃]
    split
    · exact h₂.trans ((of_frame (keepsBut_cupRecord 0 2 false s₂)).trans (of_frame (keepsBut_cupRecord 1 2 false _)))
    · exact h₂
  split
  · exact h₃.trans (of_issueEvent _ _ _ _)
  · exact h₃

theorem of_convAbort (c : Nat) (s : State) : DomainWork s (convAbort c s) := by
  unfold convAbort
  split
  · exact of_convReject c 6 s
  · exact refl s

theorem of_convsLeave (d : Nat) (s : State) : DomainWork s (convsLeave d s) :=
  of_foldl (fun u c => (of_convAbort c u).trans (of_frame (keepsBut_convMod c _ _))) _ s

theorem of_synStop (d : Nat) (lost : Bool) (s : State) : DomainWork s (synStop d lost s) :=
  of_foldl (fun u n => of_frame (keepsBut_synMod n _ u)) _ s

theorem of_retunes (l : List Nat) (s : State) : DomainWork s (l.foldl (fun s n => retune n s) s) :=
  of_foldl (fun u n => of_frame (keepsBut_retune n u)) l s

theorem of_clkouts (s : State) : DomainWork s (clkouts s) := of_frame (keepsBut_clkouts s)

end DomainWork

/-! ### Descents (R358, R366, R369) -/

theorem domainWork_outputsLow (s : State) : DomainWork s (outputsLow s) := by
  unfold outputsLow
  split
  · exact .refl s
  · exact (DomainWork.of_frame (keepsBut_withTio _ s)).trans (.of_clkouts _)

theorem domainWork_leaveOn (d : Nat) (st : DomSt) (s : State) : DomainWork s (leaveOn d st s) := by
  unfold leaveOn
  split
  · exact .of_frame (keepsBut_engxMod _ _ s)
  · split
    · exact .of_frame (keepsBut_hostMod _ s)
    · split
      · refine DomainWork.trans (.of_forEach (fun l u => ?_) _ s) (.of_convsLeave d _)
        split
        · exact .refl u
        · exact .of_laneLeaves l 5 u
      · split
        · exact .of_frame (keepsBut_fabMod _ s)
        · split
          · exact (DomainWork.of_convsLeave d s).trans (.of_frame (keepsBut_tapMod _ _))
          · exact .refl s

/-- A lane's state is lost (R366). -/
def loseLane (l : Nat) (s : State) : State := laneMod l (fun _ => {}) (laneLeaves l .off 5 false s)

theorem domainWork_loseLane (l : Nat) (s : State) : DomainWork s (loseLane l s) :=
  (DomainWork.of_laneLeaves l 5 s).trans (.of_laneMod _ fun _ _ => rfl)

/-- A port of a bank, with its converter, loses its state. -/
def losePort (p : Nat) (s : State) : State := convMod p (fun _ => {}) (portMod p (fun q => { q with
  live := Vector.replicate 32 0, snap := Vector.replicate 32 0, snapSeq := 0, pause := {}, pre := {}, sleep := {}, exch := {}, ld := {} }) s)

theorem loseState_bank {d : Nat} (hlow : 4 ≤ d) (hhigh : d ≤ 9) (s : State) : loseState d s =
    (List.range 4).foldl (fun s k => groupMod (4 * (d - 4) + k) (fun g => { g with servo := {}, rep := [] }) s)
      (forEach (bankUnits d) losePort (forEach (bankUnits d) loseLane s)) := by
  unfold loseState
  rw [if_neg (by omega), if_neg (by omega), if_pos ⟨hlow, hhigh⟩]
  rfl

/-- A bank's ports and groups lose their state after its lanes. -/
theorem domainWork_loseBank {d : Nat} (hlow : 4 ≤ d) (hhigh : d ≤ 9) (s : State) :
    DomainWork (forEach (bankUnits d) loseLane s) (loseState d s) := by
  rw [loseState_bank hlow hhigh]
  refine DomainWork.trans (.of_forEach (fun p u => ?_) _ _) (.of_foldl (fun u k => .of_frame (keepsBut_groupMod _ _ u)) _ _)
  exact (DomainWork.of_portMod u).trans (.of_frame (keepsBut_convMod p _ _))

/-- The core loses its tables and banks (R366). -/
def coreLost (s : State) : State :=
  { s with
    fwd := { s.fwd with hw := {}, live := [], bad := [] }
    q := { s.q with out := Vector.replicate 24 {} }
    cald := { s.cald with port := s.cald.port.map (fun (c : PortCal) => { c with banks := Vector.replicate 2 [], pending := none, used := [] }) } }

theorem domainWork_coreLost (s : State) : DomainWork s (coreLost s) := by
  refine ⟨fun p hp => ?_, rfl, noPower_congr (execOf_congr rfl), fun _ h => h⟩
  cases p <;> first | rfl | exact ⟨rfl, rfl, rfl⟩ | simp [workParts] at hp

/-- Obilwin's part loses its state (R366). -/
def hostLost (s : State) : State :=
  { s with
    host := { perst := s.host.perst, sent := s.host.sent, writes := s.host.writes }
    mb := { epoch := s.mb.epoch }
    fab := { s.fab with records := [], reasm := [], remotes := [], relays := [] }
    boot := { flashOf s.boot with straps := s.boot.straps, starts := s.boot.starts } }

theorem execOf_lost (o : Origin) (n : Nat) (s : State) : execOf { s with mb := { epoch := n } } o = none := by
  cases o with
  | host c => simp [execOf, chanOf, vget]
  | remote src xid => rfl

theorem domainWork_hostLost (s : State) : DomainWork s (hostLost (hostReset s)) := by
  refine ⟨fun p hp => ?_, rfl, fun _ o e todo k he => ?_, fun _ h => h⟩
  · cases p <;> first | rfl | exact ⟨rfl, rfl, rfl⟩ | simp [workParts] at hp
  · have hnone : execOf (hostLost (hostReset s)) o = none :=
      (execOf_congr (s := { s with mb := { epoch := s.mb.epoch } }) rfl o).trans (execOf_lost o _ s)
    rw [hnone] at he
    exact absurd he nofun

theorem domainWork_loseState (d : Nat) (s : State) : DomainWork s (loseState d s) := by
  by_cases hd : 4 ≤ d ∧ d ≤ 9
  · exact (DomainWork.of_forEach domainWork_loseLane _ s).trans (domainWork_loseBank hd.1 hd.2 s)
  · unfold loseState
    rw [if_neg hd]
    split
    · exact .of_frame (keepsBut_engMod _ _ s)
    · split
      · exact domainWork_hostLost s
      · split
        · exact (DomainWork.of_foldl (fun u g => .of_frame (keepsBut_flushOutput g u)) _ s).trans (domainWork_coreLost _)
        · split
          · exact .of_foldl (fun u k => .of_frame (keepsBut_flushInput _ u)) _ s
          · exact (DomainWork.of_foldl (fun u c => .of_frame (keepsBut_convMod c _ u)) _ s).trans (.of_frame (keepsBut_withTio _ _))

theorem loseState_lanes {d l : Nat} (hlow : 4 ≤ d) (hhigh : d ≤ 9) (hl : l / 32 = d - 4) (s : State) :
    (laneOf (loseState d s) l).st = .off := by
  refine (domainWork_loseBank hlow hhigh s).off l ?_
  have hmem : l ∈ bankUnits d := List.mem_map.mpr ⟨l % 32, List.mem_range.mpr (by omega), by omega⟩
  refine foldl_reaches (f := fun s i => loseLane i s) (I := fun _ => True) (P := fun t => (laneOf t l).st = .off) hmem (fun _ _ _ _ => trivial)
    (fun t _ ht k _ => (domainWork_loseLane k t).off l ht) (fun t _ => ?_) trivial
  exact congrArg Lane.st (laneOf_laneMod_same (by omega) _ _)

theorem loseState_tables (s : State) : (loseState 10 s).fwd.hw = {} := rfl

/-- A descent before its domain's state is written. -/
def descended (d : Nat) (st : DomSt) (s : State) : State :=
  let was := (vget s.pm.dom d {}).st
  let s := if was == .on then leaveOn d st s else s
  let s := if was == .on || was == .stopped then (if st == .stopped then s else synStop d (st == .off) s)
    else if st == .off then synStop d true s else if st == .stopped then (synsOf d).foldl (fun s n => retune n s) s else s
  if st == .off && was != .off then loseState d s else s

theorem lowerTo_eq (d : Nat) (st : DomSt) (s : State) : lowerTo d st s =
    if d = 13 then outputsLow (domMod d (fun x => { x with st := st }) (descended d st s))
    else domMod d (fun x => { x with st := st }) (descended d st s) := rfl

theorem descended_works (d : Nat) (st : DomSt) (s : State) : DomainWork s (descended d st s) ∧
    (st = .off → (vget s.pm.dom d {}).st ≠ .off → ∃ u, descended d st s = loseState d u) ∧
    ((d = 1 ∨ d = 2) → (vget s.pm.dom d {}).st = .on →
      (descended d st s).te.engx = (engineOff (d - 1) s).te.engx) := by
  unfold descended
  extract_lets was s₁ s₂
  have h₁ : DomainWork s s₁ := by
    simp only [s₁]
    split
    · exact domainWork_leaveOn d st s
    · exact .refl s
  have htwo : DomainWork s₁ s₂ ∧ s₂.te = s₁.te := by
    have hstop : ∀ lost, DomainWork s₁ (synStop d lost s₁) ∧ (synStop d lost s₁).te = s₁.te := fun lost =>
      ⟨.of_synStop d lost s₁, keepsBut_foldl _ (fun u n => keepsBut_synMod n _ u) _ s₁ .te (by simp)⟩
    simp only [s₂]
    split
    · split
      · exact ⟨.refl s₁, rfl⟩
      · exact hstop _
    · split
      · exact hstop _
      · split
        · exact ⟨.of_retunes _ s₁, keepsBut_foldl _ (fun u n => keepsBut_retune n u) _ s₁ .te (by simp)⟩
        · exact ⟨.refl s₁, rfl⟩
  obtain ⟨h₂, hte⟩ := htwo
  refine ⟨?_, fun hoff hwas => ⟨s₂, if_pos (by simp [hoff, was, hwas])⟩, fun hd hon => ?_⟩
  · split
    · exact (h₁.trans h₂).trans (domainWork_loseState d s₂)
    · exact h₁.trans h₂
  · have hleft : s₁ = engineOff (d - 1) s := by
      simp only [s₁, was, hon, beq_self_eq_true, if_true]
      exact if_pos hd
    rw [← hleft, ← hte]
    split
    · rw [loseState, if_pos hd]
      rfl
    · rfl

theorem domMod_dom_same {d : Nat} (hd : d < 14) (f : Domain → Domain) (s : State) :
    vget (domMod d f s).pm.dom d {} = f (vget s.pm.dom d {}) := vmodN_same _ _ _ _ hd

theorem domMod_dom_other {d e : Nat} (h : e ≠ d) (f : Domain → Domain) (s : State) :
    vget (domMod d f s).pm.dom e {} = vget s.pm.dom e {} := vmodN_other _ _ _ _ _ h

theorem vget_dom (s : State) (d : Fin 14) : vget s.pm.dom d.val {} = s.pm.dom[d] := by
  simp [vget]

/-- Work of a domain leaves the domains alone. -/
theorem DomainWork.pm {s t : State} (h : DomainWork s t) : t.pm = s.pm := h.frame .pm (by simp [workParts])

theorem domainWork_domainEvent (d src : Nat) (s : State) : DomainWork s (domainEvent d src s) := .of_issueEvent _ _ _ s

theorem powerAll_of_noPower {s : State} (h : noPower s) : powerAll s = s := by
  unfold powerAll
  refine List.foldlRecOn _ _ (motive := fun t => t = s) rfl fun t ht o _ => ?_
  subst ht
  split
  next e he =>
    split
    next todo k hwait => exact absurd hwait (h o e todo k he)
    next => rfl
  next => rfl

theorem startQueued_of_none {d : Nat} {s : State} (h : (vget s.pm.dom d {}).queued = none) : startQueued d s = s := by
  unfold startQueued
  rw [h]

/-- After a descent the domain's state is the one given, and nothing else of the domains has moved. -/
theorem lowerTo_works (d : Nat) (st : DomSt) (s : State) :
    DomainWork (domMod d (fun x => { x with st := st }) (descended d st s)) (lowerTo d st s) := by
  rw [lowerTo_eq]
  split
  · exact domainWork_outputsLow _
  · exact .refl _

theorem lowerTo_of_ne {d : Nat} (hd : d ≠ 13) (st : DomSt) (s : State) :
    lowerTo d st s = domMod d (fun x => { x with st := st }) (descended d st s) := if_neg hd

theorem keepsBut_domMod_of_work {s t : State} (h : DomainWork s t) (d : Nat) (f : Domain → Domain) :
    keepsBut (.pm :: workParts) s (domMod d f t) :=
  keepsBut_then h.frame (keepsBut_domMod d f t) (fun _ hp => List.mem_cons_of_mem _ hp) (by simp)

section
variable {d : Fin 14} {s : State}

/-- The end of a descent, where no request is queued and no POWER_SET under way. -/
theorem exec_domainLowerComplete (hd : d.val ≠ 0) (htarget : s.pm.dom[d].target ≠ .on) (hst : s.pm.dom[d].st ≠ s.pm.dom[d].target)
    (hchip : inChip s = false) (hqueue : s.pm.dom[d].queued = none) (hidle : noPower s) :
    exec (.domainLowerComplete d) s = done (domainEvent d.val 0 (lowerTo d.val s.pm.dom[d].target s)) := by
  obtain ⟨hwork, -, -⟩ := descended_works d.val s.pm.dom[d].target s
  have hlower := (lowerTo_works d.val s.pm.dom[d].target s).trans (domainWork_domainEvent d.val 0 _)
  have hqueued : (vget (domainEvent d.val 0 (lowerTo d.val s.pm.dom[d].target s)).pm.dom d.val {}).queued = none := by
    rw [hlower.pm, domMod_dom_same d.isLt, hwork.pm, vget_dom]
    exact hqueue
  show execDomainLowerComplete d s = _
  unfold execDomainLowerComplete
  dsimp only
  rw [if_neg (by simpa [hchip, hd] using And.intro htarget hst), startQueued_of_none hqueued, powerAll_of_noPower]
  exact hlower.idle (noPower_congr (execOf_congr rfl) (hwork.idle hidle))

theorem domainLowerComplete_descends (hd : d.val ≠ 0) (htarget : s.pm.dom[d].target ≠ .on) (hst : s.pm.dom[d].st ≠ s.pm.dom[d].target)
    (hchip : inChip s = false) (hqueue : s.pm.dom[d].queued = none) (hidle : noPower s) :
    ∃ t, exec (.domainLowerComplete d) s = .next t ∧ keepsBut (.pm :: workParts) s t ∧
      t.pm.dom[d].st = s.pm.dom[d].target ∧ t.pm.dom[d].target = s.pm.dom[d].target ∧
      (∀ e : Fin 14, e ≠ d → t.pm.dom[e] = s.pm.dom[e]) ∧ t.pm.alarm = s.pm.alarm ∧ t.fwd.golden = s.fwd.golden ∧
      (s.pm.dom[d].target = .off → 4 ≤ d.val → d.val ≤ 9 → ∀ l, l / 32 = d.val - 4 → (laneOf t l).st = .off) ∧
      (s.pm.dom[d].target = .off → d.val = 10 → t.fwd.hw = {}) ∧
      ((d.val = 1 ∨ d.val = 2) → s.pm.dom[d].st = .on → (engxOf t (d.val - 1)).on = false ∧ (engxOf t (d.val - 1)).claim = 0) := by
  refine ⟨_, exec_domainLowerComplete hd htarget hst hchip hqueue hidle, ?_⟩
  generalize htgt : s.pm.dom[d].target = tgt at htarget hst ⊢
  obtain ⟨hwork, hlost, hengine⟩ := descended_works d.val tgt s
  have hlower := (lowerTo_works d.val tgt s).trans (domainWork_domainEvent d.val 0 _)
  have hevent := keepsBut_issueEvent 0x0110 d.val
    [BitVec.ofNat 8 (domCode (vget (lowerTo d.val tgt s).pm.dom d.val {}).st), BitVec.ofNat 8 (if 0 = 6 then 0 else 0)] (lowerTo d.val tgt s)
  change keepsBut [.mb, .host, .pc] (lowerTo d.val tgt s) (domainEvent d.val 0 (lowerTo d.val tgt s)) at hevent
  have hlowered := lowerTo_of_ne (d := d.val) (st := tgt) (s := s)
  generalize hw : domainEvent d.val 0 (lowerTo d.val tgt s) = w at hlower hevent ⊢
  have hdom : ∀ e : Fin 14, (settle w).pm.dom[e] = vget (domMod d.val (fun x => { x with st := tgt }) s).pm.dom e.val {} := fun e => by
    rw [settle_pm, ← vget_dom, hlower.pm]
    show vget (vmodN (descended d.val tgt s).pm.dom d.val _) e.val {} = _
    rw [hwork.pm]
    rfl
  refine ⟨keepsBut_done (keepsBut_trans (keepsBut_domMod_of_work hwork d.val _)
    (keepsBut_mono hlower.frame fun _ hp => List.mem_cons_of_mem _ hp)) (by simp [workParts]), ?_, ?_, fun e he => ?_, ?_, ?_, ?_, ?_, ?_⟩
  · rw [hdom, domMod_dom_same d.isLt]
  · rw [hdom, domMod_dom_same d.isLt, vget_dom, ← htgt]
  · rw [hdom, domMod_dom_other (fun h => he (Fin.ext h)), vget_dom]
  · rw [settle_pm, hlower.pm]
    show (descended d.val tgt s).pm.alarm = _
    rw [hwork.pm]
  · rw [settle_fwd, hlower.golden]
    exact hwork.golden
  · intro hoff hlow hhigh l hl
    obtain ⟨u, hu⟩ := hlost hoff (by rw [vget_dom]; rw [hoff] at hst; exact hst)
    rw [laneOf_settle]
    refine hlower.off l ?_
    show (laneOf (descended d.val tgt s) l).st = .off
    rw [hu]
    exact loseState_lanes hlow hhigh hl u
  · intro hoff hten
    obtain ⟨u, hu⟩ := hlost hoff (by rw [vget_dom]; rw [hoff] at hst; exact hst)
    rw [settle_fwd, hevent .fwd (by simp), hlowered (by omega)]
    show (descended d.val tgt s).fwd.hw = _
    rw [hu, hten]
    exact loseState_tables u
  · intro heng hon
    have hengx : (settle w).te.engx = (engineOff (d.val - 1) s).te.engx := by
      rw [settle_te, hevent .te (by simp), hlowered (by omega)]
      exact hengine heng (by rw [vget_dom]; exact hon)
    have hoff : engxOf (settle w) (d.val - 1) = engxOf (engineOff (d.val - 1) s) (d.val - 1) := by
      rw [engxOf, hengx]
      rfl
    rw [hoff, show engxOf (engineOff (d.val - 1) s) (d.val - 1) = _ from vmodN_same s.te.engx (d.val - 1) _ {} (by omega)]
    exact ⟨rfl, rfl⟩

end

/-! ### Returns (R359, R368, R372) -/

/-- Work of a return: a domain's work that leaves the resets alone. -/
def ReturnWork (s t : State) : Prop := DomainWork s t ∧ t.rst = s.rst

namespace ReturnWork

variable {s t u : State}

theorem refl (s : State) : ReturnWork s s := ⟨.refl s, rfl⟩

theorem trans (h : ReturnWork s t) (k : ReturnWork t u) : ReturnWork s u := ⟨h.1.trans k.1, k.2.trans h.2⟩

theorem of_frame {m : List Part} (h : keepsBut m s t)
    (hm : ∀ x ∈ m, x ∈ [Part.te, .group, .port, .tio, .ck, .cal, .q, .cald, .fab, .host, .msi, .boot, .pc] := by simp) : ReturnWork s t := by
  have hkeep := keepsBut_mono h hm
  exact ⟨.of_frame hkeep, hkeep .rst (by simp)⟩

theorem of_laneMod {l : Nat} {f : Lane → Lane} (s : State) (hoff : ∀ x, x.st = .off → (f x).st = .off := by exact fun _ h => h) :
    ReturnWork s (laneMod l f s) := ⟨.of_laneMod s hoff, rfl⟩

theorem of_foldl {α : Type} {f : State → α → State} (h : ∀ u x, ReturnWork u (f u x)) (xs : List α) (s : State) :
    ReturnWork s (xs.foldl f s) :=
  List.foldlRecOn xs f (motive := ReturnWork s) (refl s) fun u hu x _ => hu.trans (h u x)

theorem of_forEach {f : Nat → State → State} (h : ∀ l u, ReturnWork u (f l u)) (ls : List Nat) (s : State) :
    ReturnWork s (forEach ls f s) := of_foldl (fun u l => h l u) ls s

end ReturnWork

theorem keepsBut_portAwake (p : Nat) (s : State) : keepsBut [.port, .fab] s (portAwake p s) := by
  unfold portAwake
  extract_lets x u
  split
  · exact keepsBut_refl _ s
  · exact keepsBut_trans (keepsBut_mono (keepsBut_sleepMod p _ s) (by simp))
      (keepsBut_trans (keepsBut_mono (keepsBut_adjMod p _ u) (by simp)) (sendHello_frame p _).1)

/-- A lane as it is READY again, unfit for fusion. -/
def laneBack (off : Bool) (x : Lane) : Lane :=
  { x with st := .ready, txSleep := false, rxSleep := false, ph := { x.ph with excl := if off then 9 else 2, anchor := none } }

/-- READY, and out of fusion until it has been remeasured. -/
def backReady (x : Lane) : Prop := x.st = .ready ∧ (x.ph.excl = 2 ∨ x.ph.excl = 9)

theorem laneReturns_of_sleep {l : Nat} {s : State} (h : (laneOf s l).st = .sleep) :
    laneReturns l s = portAwake (portOfLane (laneMod l (laneBack (fusionOff s l)) s) l) (laneMod l (laneBack (fusionOff s l)) s) :=
  if_pos (by simp [h])

theorem laneReturns_of_ne {l : Nat} {s : State} (h : (laneOf s l).st ≠ .sleep) : laneReturns l s = s := if_neg (by simp [h])

theorem returnWork_laneReturns (l : Nat) (s : State) : ReturnWork s (laneReturns l s) := by
  by_cases h : (laneOf s l).st = .sleep
  · rw [laneReturns_of_sleep h]
    refine ReturnWork.trans ⟨⟨keepsBut_mono (keepsBut_laneMod l _ s) (by simp [workParts]), rfl, noPower_congr (execOf_congr rfl), ?_⟩, rfl⟩
      (.of_frame (keepsBut_portAwake _ _))
    intro k hk
    have hne : k ≠ l := fun e => by rw [e, h] at hk; exact absurd hk (by decide)
    rw [laneOf_laneMod_other hne]
    exact hk
  · rw [laneReturns_of_ne h]
    exact .refl s

/-- A lane that slept is back after its own return, and stays so through the others'. -/
theorem backReady_laneReturns {l k : Nat} (hl : l < 192) {s : State} (h : (laneOf s l).st = .sleep ∨ backReady (laneOf s l)) :
    ((laneOf (laneReturns k s) l).st = .sleep ∨ backReady (laneOf (laneReturns k s) l)) ∧
      (backReady (laneOf s l) → backReady (laneOf (laneReturns k s) l)) ∧ (k = l → backReady (laneOf (laneReturns k s) l)) := by
  by_cases hsleep : (laneOf s k).st = .sleep
  · rw [laneReturns_of_sleep hsleep, laneOf_of_keepsBut (keepsBut_portAwake _ _) (by simp)]
    by_cases hk : l = k
    · subst hk
      have hback : backReady (laneOf (laneMod l (laneBack (fusionOff s l)) s) l) := by
        rw [laneOf_laneMod_same hl]
        exact ⟨rfl, by cases fusionOff s l <;> simp [laneBack]⟩
      exact ⟨.inr hback, fun _ => hback, fun _ => hback⟩
    · rw [laneOf_laneMod_other hk]
      exact ⟨h, id, fun e => absurd e.symm hk⟩
  · rw [laneReturns_of_ne hsleep]
    exact ⟨h, id, fun e => by subst e; exact h.resolve_left hsleep⟩

theorem returnWork_loadFactory (l : Nat) (s : State) : ReturnWork s (loadFactory l s) := .of_laneMod s

theorem backReady_loadFactory {l : Nat} (k : Nat) {s : State} (h : backReady (laneOf s l)) : backReady (laneOf (loadFactory k s) l) := by
  unfold loadFactory
  exact laneOf_laneMod_preserved (P := backReady) (by exact fun _ hx => hx) h

theorem returnWork_loadGolden (s : State) : ReturnWork s (loadGolden s) ∧ (loadGolden s).fwd.hw = s.fwd.golden := by
  unfold loadGolden
  extract_lets k u
  have hu : ReturnWork s u :=
    ⟨⟨keepsBut_mono (keepsBut_fwdMod _ s) (by simp [workParts]), rfl, noPower_congr (execOf_congr rfl), fun _ h => h⟩, rfl⟩
  have hbanks : keepsBut [.cald] u ((List.range 192).foldl (fun s p =>
      if (vget s.cald.golden p []).isEmpty then s
      else pcalMod p (fun c => { c with
        banks := vmodN c.banks (1 - c.active.val) (fun _ => vget s.cald.golden p []), pending := some k }) s) u) := by
    refine keepsBut_foldl _ (fun t p => ?_) _ u
    split
    · exact keepsBut_refl _ t
    · exact keepsBut_pcalMod p _ t
  exact ⟨hu.trans (.of_frame hbanks), by rw [hbanks .fwd (by simp)]; rfl⟩

theorem returnWork_convCoarse (c : Nat) (s : State) : ReturnWork s (convCoarse c s) := by
  refine ⟨(DomainWork.of_convAbort c s).trans (.of_frame (keepsBut_convMod c _ _)), ?_⟩
  exact keepsBut_convCoarse c s .rst (by simp)

theorem returnWork_convsCoarse (d : Nat) (s : State) : ReturnWork s (convsCoarse d s) :=
  .of_foldl (fun u c => by
    split
    · exact returnWork_convCoarse c u
    · exact .refl u) _ s

/-- A domain On again: its record, its VCO option and its synthesisers. -/
def roused (d : Nat) (was : DomSt) (s : State) : State :=
  let s := domMod d (fun x => wakeDone { x with st := .on, heldRaise := false }) s
  let s := if d = 1 ∨ d = 2 then takeOption (25 + d) s else s
  if was == .retention || was == .off then (synsOf d).foldl (fun s n => retune n s) s else s

/-- What returns with it. -/
def domReturned (d : Nat) (was : DomSt) (s : State) : State :=
  if d = 1 ∨ d = 2 then engineBoot (d - 1) s
  else if d = 3 then hostMod (fun h => { h with inL1 := false, linkUp := h.modeSet && !h.perst }) s
  else if 4 ≤ d ∧ d ≤ 9 then
    let s := forEach (bankUnits d) laneReturns s
    if obilwinUp s && s.boot.factoryLoaded then forEach ((bankUnits d).filter (latBare s)) loadFactory s else s
  else if d = 10 then (if was == .off && obilwinUp s then loadGolden s else s)
  else if d = 13 then clkouts (convsCoarse 13 s) else s

/-- With it, transit. -/
def brought (d : Nat) (was : DomSt) (s : State) : State :=
  fabMod (fun f => { f with transit := f.transit || (f.installed && transitPower (domReturned d was (roused d was s))) })
    (domReturned d was (roused d was s))

theorem raiseTo_eq (d : Nat) (was : DomSt) (s : State) : raiseTo d was s =
    if d = 3 then rxGoAll (completeWaiting d (applyDeferred d (brought d was s)))
    else completeWaiting d (applyDeferred d (brought d was s)) := rfl

theorem returnWork_roused (d : Nat) (was : DomSt) (s : State) :
    ReturnWork (domMod d (fun x => wakeDone { x with st := .on, heldRaise := false }) s) (roused d was s) := by
  unfold roused
  extract_lets s₁ s₂
  have h₂ : ReturnWork s₁ s₂ := by
    simp only [s₂]
    split
    · exact .of_frame (keepsBut_synMod _ _ s₁)
    · exact .refl s₁
  split
  · exact h₂.trans (.of_foldl (fun u n => .of_frame (keepsBut_retune n u)) _ s₂)
  · exact h₂

theorem keepsBut_roused (d : Nat) (was : DomSt) (s : State) : keepsBut [.tio, .ck, .pm, .pc] s (roused d was s) ∧
    (roused d was s).pm = (domMod d (fun x => wakeDone { x with st := .on, heldRaise := false }) s).pm := by
  refine ⟨?_, (returnWork_roused d was s).1.pm⟩
  unfold roused
  extract_lets s₁ s₂
  have h₂ : keepsBut [.ck, .pm] s s₂ := by
    have h₁ : keepsBut [.ck, .pm] s s₁ := keepsBut_mono (keepsBut_domMod d _ s) (by simp)
    simp only [s₂]
    split
    · exact keepsBut_trans h₁ (keepsBut_mono (keepsBut_synMod _ _ s₁) (by simp))
    · exact h₁
  split
  · exact keepsBut_then h₂ (keepsBut_foldl _ (fun u n => keepsBut_retune n u) _ s₂) (by simp) (by simp)
  · exact keepsBut_mono h₂ (by simp)

theorem obilwinUp_roused {d : Nat} (hd : d ≠ 3) (was : DomSt) (s : State) : obilwinUp (roused d was s) = obilwinUp s := by
  obtain ⟨hframe, hpm⟩ := keepsBut_roused d was s
  have hthree : vget (roused d was s).pm.dom 3 {} = vget s.pm.dom 3 {} := by
    rw [hpm]
    exact domMod_dom_other (Ne.symm hd) _ s
  have hboot : (roused d was s).boot = s.boot := hframe .boot (by simp)
  have hmb : (roused d was s).mb = s.mb := hframe .mb (by simp)
  have hrst : (roused d was s).rst = s.rst := hframe .rst (by simp)
  rw [obilwinUp, obilwinUp, hthree, hboot, hmb, hrst]

theorem domReturned_tables {s : State} (hup : obilwinUp s = true) : (domReturned 10 .off s).fwd.hw = s.fwd.golden := by
  have hload : domReturned 10 .off s = loadGolden s := by
    simp [domReturned, hup]
  rw [hload]
  exact (returnWork_loadGolden s).2

theorem returnWork_domReturned (d : Nat) (was : DomSt) (s : State) : ReturnWork s (domReturned d was s) := by
  unfold domReturned
  split
  · exact .of_frame (keepsBut_engineBoot _ s)
  · split
    · exact .of_frame (keepsBut_hostMod _ s)
    · split
      · extract_lets u
        have hu : ReturnWork s u := .of_forEach returnWork_laneReturns _ s
        split
        · exact hu.trans (.of_forEach returnWork_loadFactory _ u)
        · exact hu
      · split
        · split
          · exact (returnWork_loadGolden s).1
          · exact .refl s
        · split
          · exact (returnWork_convsCoarse 13 s).trans (.of_frame (keepsBut_clkouts _))
          · exact .refl s

theorem domReturned_lanes {d l : Nat} (hlow : 4 ≤ d) (hhigh : d ≤ 9) (hl : l / 32 = d - 4) (was : DomSt) {s : State}
    (hsleep : (laneOf s l).st = .sleep) : backReady (laneOf (domReturned d was s) l) := by
  have hmem : l ∈ bankUnits d := List.mem_map.mpr ⟨l % 32, List.mem_range.mpr (by omega), by omega⟩
  have hback : backReady (laneOf (forEach (bankUnits d) laneReturns s) l) :=
    foldl_reaches (f := fun s i => laneReturns i s) (I := fun t => (laneOf t l).st = .sleep ∨ backReady (laneOf t l))
      (P := fun t => backReady (laneOf t l)) hmem (fun t ht k _ => (backReady_laneReturns (by omega) ht).1)
      (fun t ht hp k _ => (backReady_laneReturns (by omega) ht).2.1 hp) (fun t ht => (backReady_laneReturns (by omega) ht).2.2 rfl)
      (.inl hsleep)
  unfold domReturned
  rw [if_neg (by omega), if_neg (by omega), if_pos ⟨hlow, hhigh⟩]
  extract_lets u
  split
  · exact laneOf_forEach_preserved (P := backReady) (fun k t ht => backReady_loadFactory k ht) _ hback
  · exact hback

theorem applyDeferred_of_none {d : Nat} {s : State} (h : s.rst.deferred = []) :
    applyDeferred d s = rstMod (fun r => { r with deferred := r.deferred.filter (fun e => deferDomain e != d) }) s := by
  simp [applyDeferred, h]

theorem completeWaiting_of_none {d : Nat} {s : State} (h : s.rst.waiting = []) :
    completeWaiting d s = rstMod (fun x => { x with waiting := x.waiting.filter (fun (y : Waiting) => y.domain != d) }) s := by
  simp [completeWaiting, h]

theorem keepsBut_rxGoAll (s : State) : keepsBut [.host, .pc] s (rxGoAll s) := keepsBut_foldl _ (fun u r => keepsBut_rxRun r _ u) _ s

theorem keepsBut_ackWake (p : Nat) (s : State) : keepsBut [.port] s (ackWake p s) := by
  unfold ackWake
  split
  · split
    · exact keepsBut_trans (keepsBut_sleepMod p _ s) (keepsBut_sleepMod p _ _)
    · exact keepsBut_refl _ s
  · exact keepsBut_refl _ s

/-- The accesses and resets that waited aside, a raise moves nothing behind what returns. -/
theorem raiseTo_brought {d : Nat} {was : DomSt} {s : State} (hwaiting : s.rst.waiting = []) (hdeferred : s.rst.deferred = []) :
    keepsBut [.rst, .host, .pc] (brought d was s) (raiseTo d was s) := by
  have hrst : (brought d was s).rst = s.rst := ((returnWork_roused d was s).trans (returnWork_domReturned d was _)).2
  generalize hb : brought d was s = b at hrst
  have hgoes : completeWaiting d (applyDeferred d b) = rstMod (fun x => { x with
      waiting := x.waiting.filter (fun (y : Waiting) => y.domain != d) }) (applyDeferred d b) := by
    refine completeWaiting_of_none ?_
    rw [applyDeferred_of_none (by rw [hrst, hdeferred])]
    exact (congrArg Resets.waiting hrst).trans hwaiting
  have hframe : keepsBut [.rst] b (completeWaiting d (applyDeferred d b)) := by
    rw [hgoes, applyDeferred_of_none (by rw [hrst, hdeferred])]
    exact keepsBut_trans (keepsBut_rstMod _ b) (keepsBut_rstMod _ _)
  rw [raiseTo_eq, hb]
  split
  · exact keepsBut_then hframe (keepsBut_rxGoAll _) (by simp) (by simp)
  · exact keepsBut_mono hframe (by simp)

/-- The state after a return, as it is reported and the wake acknowledgements leave. -/
def wakeReported (d src : Nat) (s : State) : State := forEach (List.range 192) ackWake (domainEvent d src s)

section
variable {d : Fin 14} {s : State} (hgoes : raiseGoes s s.pm.dom[d] = true) (hchip : inChip s = false)
  (hqueue : s.pm.dom[d].queued = none) (hwaiting : s.rst.waiting = []) (hdeferred : s.rst.deferred = []) (hidle : noPower s)

/-- A raise behind its domain's record. -/
theorem domainWork_raised (was : DomSt) (src : Nat) (hwaiting : s.rst.waiting = []) (hdeferred : s.rst.deferred = []) :
    DomainWork (domMod d.val (fun x => wakeDone { x with st := .on, heldRaise := false }) s) (brought d.val was s) ∧
      DomainWork (brought d.val was s) (wakeReported d.val src (raiseTo d.val was s)) ∧
      keepsBut [.port, .rst, .host, .mb, .pc] (brought d.val was s) (wakeReported d.val src (raiseTo d.val was s)) := by
  have hraise := raiseTo_brought (d := d.val) (was := was) hwaiting hdeferred
  have hevent := keepsBut_issueEvent 0x0110 d.val [BitVec.ofNat 8 (domCode (vget (raiseTo d.val was s).pm.dom d.val {}).st),
    BitVec.ofNat 8 (if src = 6 then 0 else src)] (raiseTo d.val was s)
  have hacks : keepsBut [.port] (domainEvent d.val src (raiseTo d.val was s)) (wakeReported d.val src (raiseTo d.val was s)) :=
    keepsBut_forEach keepsBut_ackWake _ _
  refine ⟨?_, ?_, ?_⟩
  · exact ((returnWork_roused d.val was s).trans (returnWork_domReturned d.val was _)).1.trans (.of_frame (keepsBut_fabMod _ _))
  · exact ((DomainWork.of_frame hraise).trans (domainWork_domainEvent _ _ _)).trans (.of_frame hacks)
  · exact keepsBut_trans (keepsBut_mono hraise (by simp)) (keepsBut_trans (keepsBut_mono hevent (by simp)) (keepsBut_mono hacks (by simp)))

include hgoes hchip hqueue hwaiting hdeferred hidle

theorem exec_domainWakeComplete : exec (.domainWakeComplete d) s =
    done (wakeReported d.val (s.pm.dom[d].wakeSrc.getD 0) (raiseTo d.val s.pm.dom[d].st s)) := by
  obtain ⟨hbrought, hreported, -⟩ := domainWork_raised (d := d) s.pm.dom[d].st (s.pm.dom[d].wakeSrc.getD 0) hwaiting hdeferred
  have hwork := hbrought.trans hreported
  show execDomainWakeComplete d s = _
  unfold execDomainWakeComplete
  dsimp only
  rw [if_neg (by rw [hchip]; simpa using hgoes)]
  change done (powerAll (startQueued d.val (wakeReported d.val _ _))) = _
  rw [startQueued_of_none, powerAll_of_noPower]
  · exact hwork.idle (noPower_congr (execOf_congr rfl) hidle)
  · rw [hwork.pm, domMod_dom_same d.isLt, vget_dom]
    simp only [wakeDone]
    split
    · exact hqueue
    · exact hqueue

theorem domainWakeComplete_returns :
    ∃ t, exec (.domainWakeComplete d) s = .next t ∧ keepsBut (.pm :: workParts) s t ∧
      t.pm.dom[d].st = .on ∧ (∀ e : Fin 14, e ≠ d → t.pm.dom[e] = s.pm.dom[e]) ∧
      (∀ k, s.pm.dom[d].wakeSrc = some k → t.pm.dom[d].wakeEvt = true ∧ t.pm.dom[d].lastSrc = k ∧
        t.pm.dom[d].wakes = (s.pm.dom[d].wakes + 1) % 65536 ∧ t.pm.dom[d].wakeSrc = none) ∧
      (4 ≤ d.val → d.val ≤ 9 → ∀ l, l / 32 = d.val - 4 → (laneOf s l).st = .sleep → backReady (laneOf t l)) ∧
      (d.val = 10 → s.pm.dom[d].st = .off → obilwinUp s = true → t.fwd.hw = s.fwd.golden) := by
  refine ⟨_, exec_domainWakeComplete hgoes hchip hqueue hwaiting hdeferred hidle, ?_⟩
  obtain ⟨hbrought, hreported, hframe⟩ := domainWork_raised (d := d) s.pm.dom[d].st (s.pm.dom[d].wakeSrc.getD 0) hwaiting hdeferred
  have hroused := (returnWork_roused d.val s.pm.dom[d].st s).1
  have hwork := hbrought.trans hreported
  have hlanes : ∀ l, laneOf (brought d.val s.pm.dom[d].st s) l = laneOf (domReturned d.val s.pm.dom[d].st (roused d.val s.pm.dom[d].st s)) l :=
    fun _ => rfl
  have htables : (brought d.val s.pm.dom[d].st s).fwd = (domReturned d.val s.pm.dom[d].st (roused d.val s.pm.dom[d].st s)).fwd := rfl
  generalize wakeReported d.val (s.pm.dom[d].wakeSrc.getD 0) (raiseTo d.val s.pm.dom[d].st s) = w at hreported hframe hwork ⊢
  have hdom : ∀ e : Fin 14, (settle w).pm.dom[e] =
      vget (domMod d.val (fun x => wakeDone { x with st := .on, heldRaise := false }) s).pm.dom e.val {} := fun e => by
    rw [settle_pm, ← vget_dom, hwork.pm]
  have hown : (settle w).pm.dom[d] = wakeDone { s.pm.dom[d] with st := .on, heldRaise := false } := by
    rw [hdom, domMod_dom_same d.isLt, vget_dom]
  refine ⟨keepsBut_done (keepsBut_trans (keepsBut_mono (keepsBut_domMod d.val _ s) (by simp))
    (keepsBut_mono hwork.frame fun _ hp => List.mem_cons_of_mem _ hp)) (by simp [workParts]), ?_, fun e he => ?_, fun k hk => ?_,
    fun hlow hhigh l hl hsleep => ?_, fun hten hoff hup => ?_⟩
  · rw [hown, wakeDone]
    split <;> rfl
  · rw [hdom, domMod_dom_other (fun h => he (Fin.ext h)), vget_dom]
  · rw [hown, wakeDone]
    dsimp only
    rw [hk]
    exact ⟨rfl, rfl, rfl, rfl⟩
  · rw [laneOf_settle, laneOf_of_keepsBut hframe (by simp), hlanes]
    refine domReturned_lanes hlow hhigh hl _ ?_
    rw [laneOf_of_keepsBut (keepsBut_roused d.val s.pm.dom[d].st s).1 (by simp)]
    exact hsleep
  · rw [settle_fwd, hframe .fwd (by simp), htables, hoff, hten,
      domReturned_tables (by rw [obilwinUp_roused (by omega)]; exact hup), (keepsBut_roused 10 .off s).1 .fwd (by simp)]

end

/-! ### Alarms (R362) -/

theorem wakeFrom_alarm (src detail : Nat) (m : BitVec 14) (s : State) : (wakeFrom src detail m s).pm.alarm = s.pm.alarm := by
  have hraise : ∀ by_ d (t : State), (raiseOne by_ d t).pm.alarm = t.pm.alarm := fun by_ d t => by
    obtain ⟨f, u, hu, -, hte⟩ := raiseOne_eq by_ d t
    rw [hu, ← hte .pm (by simp)]
    rfl
  have hraises : ∀ by_ ds, (forEach ds (raiseOne by_) s).pm.alarm = s.pm.alarm := fun by_ ds =>
    foldl_keeps (fun t => t.pm.alarm) (fun t d => raiseOne by_ d t) (fun t d => hraise by_ d t) ds s
  unfold wakeFrom
  extract_lets ds again deep first by_ t _ u
  split
  · rfl
  · show u.pm.alarm = s.pm.alarm
    simp only [u]
    split
    · exact hraises by_ ds
    · exact hraises by_ ds

/-- A domain on its way to On stays so through a wake. -/
theorem wakeFrom_target_kept {j : Nat} (hj : j < 14) (src detail : Nat) (m : BitVec 14) {s : State}
    (h : (vget s.pm.dom j {}).target = .on) : (vget (wakeFrom src detail m s).pm.dom j {}).target = .on := by
  unfold wakeFrom
  extract_lets ds again deep first by_ t _ u
  have ht : (vget t.pm.dom j {}).target = .on := forEach_raiseOne_target hj ds s (.inr h)
  split
  · exact h
  · show (vget u.pm.dom j {}).target = .on
    simp only [u]
    split
    · simpa [vget, hj] using ht
    · exact ht

/-- An alarm as it has fired. -/
def rung (a : Alarm) : Alarm := { a with armed := false, fired := true }

/-- The state in which an alarm wakes its domains. -/
def ringing (n : Nat) (s : State) : State :=
  issueEvent 0x0111 n (fullBytes (vget s.pm.alarm n {}).instant) { s with pm := { s.pm with alarm := vmodN s.pm.alarm n rung } }

theorem fireAlarm_eq (n : Nat) (s : State) : fireAlarm n s = wakeFrom 4 n (vget s.pm.alarm n {}).mask (ringing n s) := rfl

theorem ringing_pm (n : Nat) (s : State) : (ringing n s).pm = { s.pm with alarm := vmodN s.pm.alarm n rung } :=
  keepsBut_issueEvent _ _ _ _ .pm (by simp)

theorem keepsBut_ringing (n : Nat) (s : State) : keepsBut [.pm, .host, .mb, .pc] s (ringing n s) :=
  keepsBut_then (keepsBut_withPm _ s) (keepsBut_issueEvent _ _ _ _) (by simp) (by simp)

theorem keepsBut_fireAlarm (n : Nat) (s : State) : keepsBut [.te, .pm, .host, .mb, .pc] s (fireAlarm n s) :=
  keepsBut_then (keepsBut_ringing n s) (keepsBut_wakeFrom 4 n _ _) (by simp) (by simp)

theorem fireAlarm_alarm (n : Nat) (s : State) : (fireAlarm n s).pm.alarm = vmodN s.pm.alarm n rung := by
  rw [fireAlarm_eq, wakeFrom_alarm, ringing_pm]

theorem fireAlarm_target {n d : Nat} {s : State} (hd : d < 14) (h0 : d ≠ 0)
    (hmask : (vget s.pm.alarm n {}).mask.getLsbD d = true) : (vget (fireAlarm n s).pm.dom d {}).target = .on :=
  wakeFrom_target hd h0 hmask

theorem fireAlarm_target_kept {n d : Nat} {s : State} (hd : d < 14) (h : (vget s.pm.dom d {}).target = .on) :
    (vget (fireAlarm n s).pm.dom d {}).target = .on := by
  rw [fireAlarm_eq]
  refine wakeFrom_target_kept hd 4 n _ ?_
  rw [ringing_pm]
  exact h

/-- One alarm's turn. -/
def alarmTurn (s : State) (n : Nat) : State := when (alarmDue s n) (fireAlarm n s) s

theorem keepsBut_alarmTurn (s : State) (n : Nat) : keepsBut [.te, .pm, .host, .mb, .pc] s (alarmTurn s n) :=
  keepsBut_when _ (keepsBut_fireAlarm n s)

theorem alarmTurn_due {s : State} {n : Nat} (h : alarmDue s n = true) : alarmTurn s n = fireAlarm n s := if_pos h

theorem alarmTurn_other {s : State} {n k : Nat} (h : k ≠ n) : vget (alarmTurn s n).pm.alarm k {} = vget s.pm.alarm k {} := by
  unfold alarmTurn when
  split
  · rw [fireAlarm_alarm, vmodN_other _ _ _ _ _ h]
  · rfl

theorem alarmTurn_idle {s : State} {n : Nat} (h : alarmDue s n = false) : alarmTurn s n = s := if_neg (by simp [h])

theorem alarmTurn_target_kept {s : State} {n d : Nat} (hd : d < 14) (h : (vget s.pm.dom d {}).target = .on) :
    (vget (alarmTurn s n).pm.dom d {}).target = .on := by
  unfold alarmTurn when
  split
  · exact fireAlarm_target_kept hd h
  · exact h

/-- An alarm has fired, and its domains go On. -/
def hasFired (n : Nat) (m : BitVec 14) (s : State) : Prop :=
  (vget s.pm.alarm n {}).armed = false ∧ (vget s.pm.alarm n {}).fired = true ∧
    ∀ d, d < 14 → d ≠ 0 → m.getLsbD d = true → (vget s.pm.dom d {}).target = .on

theorem alarmDue_congr {s t : State} {n : Nat} (halarm : vget t.pm.alarm n {} = vget s.pm.alarm n {}) (hclk : t.clk = s.clk) :
    alarmDue t n = alarmDue s n := by
  simp only [alarmDue, halarm, hclk]

theorem hasFired_alarmTurn {s : State} {n k : Nat} {m : BitVec 14} (h : hasFired n m s) : hasFired n m (alarmTurn s k) := by
  obtain ⟨harmed, hfired, htargets⟩ := h
  have hidle : k = n → alarmTurn s k = s := fun e => alarmTurn_idle (by rw [e, alarmDue, harmed]; rfl)
  have halarm : vget (alarmTurn s k).pm.alarm n {} = vget s.pm.alarm n {} := by
    by_cases hk : k = n
    · rw [hidle hk]
    · exact alarmTurn_other (Ne.symm hk)
  rw [hasFired, halarm]
  exact ⟨harmed, hfired, fun d hd h0 hm => alarmTurn_target_kept hd (htargets d hd h0 hm)⟩

theorem hasFired_of_due {s : State} {n : Nat} (hn : n < 4) (h : alarmDue s n = true) :
    hasFired n (vget s.pm.alarm n {}).mask (alarmTurn s n) := by
  rw [alarmTurn_due h, hasFired, fireAlarm_alarm, vmodN_same _ _ _ _ hn]
  exact ⟨rfl, rfl, fun d hd h0 hm => fireAlarm_target hd h0 hm⟩

theorem alarmFire_fires {n : Fin 4} {s : State} (harmed : s.pm.alarm[n].armed = true) (hpast : s.pm.alarm[n].instant ≤ s.clk.now) :
    ∃ t, exec .alarmFire s = .next t ∧ keepsBut [.te, .pm, .host, .msi, .mb, .pc] s t ∧ t.pm.alarm[n].armed = false ∧
      t.pm.alarm[n].fired = true ∧ (∀ k : Fin 4, alarmDue s k.val = false → t.pm.alarm[k] = s.pm.alarm[k]) ∧
      ∀ d : Fin 14, d.val ≠ 0 → s.pm.alarm[n].mask.getLsbD d.val = true → domBelow s d.val = true → t.pm.dom[d].target = .on := by
  have hget : ∀ (u : State) (k : Fin 4), vget u.pm.alarm k.val {} = u.pm.alarm[k] := fun u k => by simp [vget]
  have hframe := keepsBut_foldl alarmTurn keepsBut_alarmTurn (List.range 4) s
  have hdue : alarmDue s n.val = true := by
    rw [alarmDue, hget]
    simp only [harmed, hpast, decide_true, Bool.and_self]
  -- until its turn the alarm stands as it was; after it, it has fired
  have hfired : hasFired n.val s.pm.alarm[n].mask ((List.range 4).foldl alarmTurn s) := by
    refine foldl_reaches (f := alarmTurn) (I := fun t => t.clk = s.clk ∧ (vget t.pm.alarm n.val {} = vget s.pm.alarm n.val {} ∨
      hasFired n.val s.pm.alarm[n].mask t)) (P := hasFired n.val s.pm.alarm[n].mask) (List.mem_range.mpr n.isLt) ?_ ?_ ?_ ⟨rfl, .inl rfl⟩
    · rintro t ⟨hclk, ht⟩ k -
      refine ⟨(keepsBut_alarmTurn t k .clk (by simp)).trans hclk, ?_⟩
      rcases ht with ht | ht
      · by_cases hk : k = n.val
        · rw [hk]
          have hfires := hasFired_of_due n.isLt ((alarmDue_congr ht hclk).trans hdue)
          rw [ht, hget] at hfires
          exact .inr hfires
        · exact .inl ((alarmTurn_other (Ne.symm hk)).trans ht)
      · exact .inr (hasFired_alarmTurn ht)
    · exact fun t _ ht k _ => hasFired_alarmTurn ht
    · rintro t ⟨hclk, ht | ht⟩
      · have hfires := hasFired_of_due n.isLt ((alarmDue_congr ht hclk).trans hdue)
        rw [ht, hget] at hfires
        exact hfires
      · exact hasFired_alarmTurn ht
  have hkept : ∀ k : Fin 4, alarmDue s k.val = false → vget ((List.range 4).foldl alarmTurn s).pm.alarm k.val {} = vget s.pm.alarm k.val {} := by
    intro k hk
    refine (List.foldlRecOn _ alarmTurn (motive := fun t => t.clk = s.clk ∧ vget t.pm.alarm k.val {} = vget s.pm.alarm k.val {})
      ⟨rfl, rfl⟩ fun t ht j _ => ?_).2
    obtain ⟨hclk, halarm⟩ := ht
    refine ⟨(keepsBut_alarmTurn t j .clk (by simp)).trans hclk, ?_⟩
    by_cases hj : j = k.val
    · rw [alarmTurn_idle (by rw [hj, alarmDue_congr halarm hclk, hk]), halarm]
    · exact (alarmTurn_other (Ne.symm hj)).trans halarm
  have hexec : exec .alarmFire s = done ((List.range 4).foldl alarmTurn s) := rfl
  generalize (List.range 4).foldl alarmTurn s = t at hframe hfired hkept hexec
  obtain ⟨hdisarmed, hflag, htargets⟩ := hfired
  refine ⟨_, hexec, keepsBut_done (keepsBut_mono hframe (by simp)) (by simp), ?_, ?_, fun k hk => ?_, fun d h0 hm _ => ?_⟩
  · rw [settle_pm, ← hget]
    exact hdisarmed
  · rw [settle_pm, ← hget]
    exact hflag
  · rw [settle_pm, ← hget, hkept k hk, hget]
  · rw [settle_pm, ← vget_dom]
    exact htargets d.val d.isLt h0 hm

/-! ### The end of L1, THERMTRIP_N, supply alerts (R364, R505, R510) -/

/-- A domain below On as a raise leaves it. -/
theorem raiseOne_below {src d j : Nat} (hj : j < 14) {s : State} (hst : (vget s.pm.dom j {}).st ≠ .on) :
    (vget (raiseOne src d s).pm.dom j {}).st ≠ .on ∧
      (d = j → (vget (raiseOne src d s).pm.dom j {}).target = .on ∧ (vget (raiseOne src d s).pm.dom j {}).wakeSrc = some src) ∧
      (d ≠ j → vget (raiseOne src d s).pm.dom j {} = vget s.pm.dom j {}) := by
  unfold raiseOne
  extract_lets x t u
  have hu : u.pm = s.pm := by
    have ht : t.pm = s.pm := by
      simp only [t]
      split <;> rfl
    simp only [u]
    split
    · exact (keepsBut_engineBoot _ t .pm (by simp)).trans ht
    · exact ht
  by_cases hd : d = j
  · subst hd
    rw [domMod_dom_same hj, hu]
    simp [hst]
  · rw [domMod_dom_other (Ne.symm hd), hu]
    exact ⟨hst, fun e => absurd e hd, fun _ => rfl⟩

theorem pcieL1Exit_wakes {s : State} (hst : s.pm.dom[(3 : Fin 14)].st = .stopped) (htarget : s.pm.dom[(3 : Fin 14)].target = .stopped)
    (hmask : (wakeMask s 3 0).getLsbD 3 = true) (hnew : sameWake s (wakeMask s 3 0) = false) :
    ∃ t, exec .pcieL1Exit s = .next t ∧ keepsBut [.te, .pm, .host, .msi, .pc] s t ∧ t.host.inL1 = false ∧
      t.pm.dom[(3 : Fin 14)].target = .on ∧ t.pm.dom[(3 : Fin 14)].wakeSrc = some 3 ∧ t.pm.causeSrc = 3 := by
  have hst' : (vget s.pm.dom 3 {}).st = .stopped := hst
  have htarget' : (vget s.pm.dom 3 {}).target = .stopped := htarget
  have hexec : exec .pcieL1Exit s = done (hostMod (fun h => { h with inL1 := false }) (wakeFrom 3 0 (wakeMask s 3 0) s)) := by
    show execPcieL1Exit s = _
    rw [execPcieL1Exit, hst']
    rfl
  have hwake := keepsBut_wakeFrom 3 0 (wakeMask s 3 0) s
  have hthree : (vget (wakeFrom 3 0 (wakeMask s 3 0) s).pm.dom 3 {}).target = .on ∧
      (vget (wakeFrom 3 0 (wakeMask s 3 0) s).pm.dom 3 {}).wakeSrc = some 3 ∧ (wakeFrom 3 0 (wakeMask s 3 0) s).pm.causeSrc = 3 := by
    unfold wakeFrom
    extract_lets ds again deep first by_ t _ u
    have hmem : 3 ∈ ds := by simp [ds, domsOf, hmask, htarget']
    have hby : by_ = 3 := if_neg (by simp [again, hnew])
    have hraised : (vget t.pm.dom 3 {}).target = .on ∧ (vget t.pm.dom 3 {}).wakeSrc = some 3 := by
      simp only [t, hby]
      refine foldl_reaches (f := fun s i => raiseOne 3 i s) (I := fun v => (vget v.pm.dom 3 {}).st ≠ .on)
        (P := fun v => (vget v.pm.dom 3 {}).target = .on ∧ (vget v.pm.dom 3 {}).wakeSrc = some 3) hmem
        (fun v hv d _ => (raiseOne_below (by omega) hv).1) (fun v hv hp d _ => ?_) (fun v hv => (raiseOne_below (by omega) hv).2.1 rfl)
        (by rw [hst']; decide)
      obtain ⟨-, hown, hother⟩ := raiseOne_below (src := 3) (d := d) (by omega) hv
      by_cases hd : d = 3
      · exact hown hd
      · rw [hother hd]
        exact hp
    rw [if_neg (by simp [List.ne_nil_of_mem hmem])]
    have hu : u.pm.dom = t.pm.dom := by
      simp only [u]
      rw [if_neg (by simp [again, hnew])]
      rfl
    show (vget u.pm.dom 3 {}).target = .on ∧ (vget u.pm.dom 3 {}).wakeSrc = some 3 ∧ by_ = 3
    rw [hu]
    exact ⟨hraised.1, hraised.2, hby⟩
  obtain ⟨hon, hsrc, hcause⟩ := hthree
  generalize wakeFrom 3 0 (wakeMask s 3 0) s = w at hexec hwake hon hsrc hcause
  exact ⟨_, hexec, keepsBut_done (keepsBut_then hwake (keepsBut_hostMod _ w) (by simp) (by simp)) (by simp), rfl, hon, hsrc, hcause⟩

theorem pmbAlert_records {status : BitVec 16} {s : State} (hup : obilwinUp s = true) :
    ∃ t, exec (.pmbAlert status) s = .next t ∧ keepsBut [.pc, .msi] s t ∧ vget t.pc.kinds 16 0 = satU 32 (vget s.pc.kinds 16 0 + 1) := by
  refine ⟨settle (recover 16 (status.toNat % 256) s.pins.pmbAddr s), congrArg done (if_pos hup),
    keepsBut_done (keepsBut_mono (keepsBut_recover _ _ _ s) (by simp)) (by simp), ?_⟩
  show vget (recover 16 (status.toNat % 256) s.pins.pmbAddr s).pc.kinds 16 0 = _
  exact vmodN_same _ _ _ _ (by omega)

/-- Settles O40: a descent and a return by the works they are made of, the wakes by what a raise leaves. -/
theorem powerDomains : Obligations.PowerDomains := by
  unfold Obligations.PowerDomains
  refine ⟨fun d s hd htarget hst hchip hqueue hidle => ?_, fun d s hgoes hchip hqueue hwaiting hdeferred hidle => ?_,
    ⟨fun n s => alarmFire_fires, fun s => pcieL1Exit_wakes, fun s => ?_, fun status s => pmbAlert_records⟩⟩
  · obtain ⟨t, hexec, hframe, hrest⟩ := domainLowerComplete_descends hd htarget hst hchip hqueue hidle
    exact ⟨t, hexec, keepsBut_mono hframe (by simp [workParts]), hrest⟩
  · obtain ⟨t, hexec, hframe, hrest⟩ := domainWakeComplete_returns hgoes hchip hqueue hwaiting hdeferred hidle
    exact ⟨t, hexec, keepsBut_mono hframe (by simp [workParts]), hrest⟩
  · exact ⟨_, rfl, keepsBut_done (keepsBut_mono (keepsBut_withPins _ s) (by simp)) (by simp), rfl⟩

end Sys2Proof.Machine

/-! POR, CHIP reset, GL_RESET_CTRL and the timeouts of accesses (R376, R377, R379 to R386, R490, R509). -/

namespace Sys2Proof.Machine

-- The joined text is one compile: no thread beside the main one for each proof.
set_option Elab.async false

/-! ### The engines through the trims of a release -/

/-- The engines stand as they did: booting or not, at the same health. -/
def EnginesStand (s t : State) : Prop :=
  ∀ e : Fin 2, t.te.engx[e].booting = s.te.engx[e].booting ∧ t.te.engx[e].health = s.te.engx[e].health

theorem enginesStand_refl (s : State) : EnginesStand s s := fun _ => ⟨rfl, rfl⟩

theorem enginesStand_trans {s t u : State} (h : EnginesStand s t) (k : EnginesStand t u) : EnginesStand s u := fun e =>
  ⟨(k e).1.trans (h e).1, (k e).2.trans (h e).2⟩

theorem enginesStand_of_te {s t : State} (h : t.te = s.te) : EnginesStand s t := fun e => by rw [h]; exact ⟨rfl, rfl⟩

theorem enginesStand_cupRecord (e k : Nat) (pass : Bool) (s : State) : EnginesStand s (cupRecord e k pass s) := by
  intro i
  have hi : vget (cupRecord e k pass s).te.engx i.val {} = (cupRecord e k pass s).te.engx[i] := dif_pos i.isLt
  have hs : vget s.te.engx i.val {} = s.te.engx[i] := dif_pos i.isLt
  rw [← hi, ← hs]
  by_cases h : i.val = e
  · subst h
    have hsame : vget (cupRecord i.val k pass s).te.engx i.val {} = _ := vmodN_same _ _ _ _ i.isLt
    rw [hsame]
    exact ⟨rfl, rfl⟩
  · have hother : vget (cupRecord e k pass s).te.engx i.val {} = _ := vmodN_other _ _ _ _ _ h
    rw [hother]
    exact ⟨rfl, rfl⟩

theorem enginesStand_convReject (c reason : Nat) (s : State) : EnginesStand s (convReject c reason s) := by
  unfold convReject
  extract_lets v n wait stale s₁ s₂ s₃
  have h₂ : EnginesStand s s₂ := enginesStand_of_te rfl
  have h₃ : EnginesStand s₂ s₃ := by
    simp only [s₃]
    split
    · exact enginesStand_trans (enginesStand_cupRecord 0 2 false s₂) (enginesStand_cupRecord 1 2 false _)
    · exact enginesStand_refl s₂
  refine enginesStand_trans (enginesStand_trans h₂ h₃) ?_
  split
  · exact enginesStand_of_te (keepsBut_issueEvent _ _ _ s₃ .te (by simp))
  · exact enginesStand_refl s₃

theorem enginesStand_convCoarse (c : Nat) (s : State) : EnginesStand s (convCoarse c s) := by
  refine enginesStand_trans (t := convAbort c s) ?_ (enginesStand_of_te rfl)
  unfold convAbort
  split
  · exact enginesStand_convReject c 6 s
  · exact enginesStand_refl s

theorem enginesStand_convsCoarse (d : Nat) (s : State) : EnginesStand s (convsCoarse d s) := by
  refine List.foldlRecOn _ _ (motive := EnginesStand s) (enginesStand_refl s) (fun t ht c _ => ?_)
  split
  · exact enginesStand_trans ht (enginesStand_convCoarse c t)
  · exact ht

theorem enginesStand_releaseTrims (s : State) : EnginesStand s (releaseTrims s) :=
  enginesStand_trans
    (enginesStand_of_te (keepsBut_trans (keepsBut_runTrims _ _ s) (keepsBut_runTrims _ _ _) .te (by simp)))
    (enginesStand_trans (enginesStand_convsCoarse 0 _) (enginesStand_convsCoarse 13 _))

/-! ### The release of POR (R380, R386, R470) -/

/-- The state that POR leaves before the trims and the synthesisers: straps and cause taken, both engines booting. -/
def porLeft (straps : Straps) (monitor : Bool) (s : State) : State :=
  let s := rstMod (fun r => { r with por := false, lastScope := 0, lastSource := b2n monitor }) s
  let s := ksMod (fun k => { k with pref := k.prefStrap }) (takeStraps straps s)
  let s := { s with
    te := { s.te with engx := s.te.engx.map (fun (x : EngineX) => { x with base := 8, on := true, booting := true, health := 4 }) }
    ck := { s.ck with present := true, oscHz := oscNominal straps.oscf } }
  kettleRestart { s with q := { s.q with seed := s.free }, free := s.free + 1 }

theorem exec_porRelease {s : State} (h : s.rst.por = true) (straps : Straps) (monitor : Bool) :
    exec (.porRelease straps monitor) s = .next (settle (startSynths (releaseTrims (porLeft straps monitor s)))) := by
  show execPorRelease straps monitor s = _
  unfold execPorRelease
  rw [h]
  rfl

theorem keepsBut_porLeft (straps : Straps) (monitor : Bool) (s : State) :
    keepsBut [.clk, .te, .ck, .q, .fab, .rst, .boot, .free] s (porLeft straps monitor s) := by
  intro p hp
  cases p <;> first | rfl | exact ⟨rfl, rfl, rfl⟩ | simp at hp

theorem takeAddress_zone {s : State} (h : savedPar s 0x1C3 = none) : (takeAddress s).fab.zone = s.boot.straps.zone := by
  show (if (savedPar s 0x1C3).getD (-1) < 0 then _ else _) = _
  rw [h, if_pos (by decide)]

theorem takeAddress_cluster {s : State} (h : savedPar s 0x1C4 = none) : (takeAddress s).fab.cluster = s.boot.straps.cluster := by
  show (if (savedPar s 0x1C4).getD (-1) < 0 then _ else _) = _
  rw [h, if_pos (by decide)]

theorem porRelease_holds (straps : Straps) (monitor : Bool) (s : State) (h : s.rst.por = true) :
    ∃ t, exec (.porRelease straps monitor) s = .next t ∧
      keepsBut [.clk, .te, .tio, .ck, .cal, .q, .fab, .rst, .host, .msi, .mb, .boot, .pc, .free] s t ∧
      t.rst.por = false ∧ t.rst.lastScope = 0 ∧ t.rst.lastSource = b2n monitor ∧ t.boot.straps = straps ∧
      (∀ e : Fin 2, t.te.engx[e].booting = true ∧ t.te.engx[e].health = 4) ∧
      (savedPar s 0x1C3 = none → t.fab.zone = straps.zone) ∧ (savedPar s 0x1C4 = none → t.fab.cluster = straps.cluster) := by
  have hleft := keepsBut_porLeft straps monitor s
  have htrims := keepsBut_releaseTrims (porLeft straps monitor s)
  have hsyns := keepsBut_startSynths (releaseTrims (porLeft straps monitor s))
  have hframe := keepsBut_then htrims hsyns (n := [.te, .tio, .ck, .cal, .host, .mb, .pc, .free]) (by simp) (by simp)
  refine ⟨_, exec_porRelease h straps monitor, keepsBut_done (keepsBut_then hleft hframe (by simp) (by simp)) (by simp), ?_⟩
  have hte : (startSynths (releaseTrims (porLeft straps monitor s))).te = (releaseTrims (porLeft straps monitor s)).te :=
    hsyns .te (by simp)
  have hengines := enginesStand_trans (enginesStand_releaseTrims (porLeft straps monitor s)) (enginesStand_of_te hte)
  have hrst : (startSynths (releaseTrims (porLeft straps monitor s))).rst = (porLeft straps monitor s).rst := hframe .rst (by simp)
  have hboot : (startSynths (releaseTrims (porLeft straps monitor s))).boot = (porLeft straps monitor s).boot :=
    hframe .boot (by simp)
  have hfab : (startSynths (releaseTrims (porLeft straps monitor s))).fab = (porLeft straps monitor s).fab := hframe .fab (by simp)
  rw [settle_rst, settle_boot, settle_te, settle_fab, hrst, hboot, hfab]
  refine ⟨rfl, rfl, rfl, rfl, fun e => ?_, fun hz => ?_, fun hc => ?_⟩
  · rw [(hengines e).1, (hengines e).2]
    simp [porLeft, kettleRestart, ksMod]
  · exact takeAddress_zone (s := ksMod _ (bootMod _ (rstMod _ s))) hz
  · exact takeAddress_cluster (s := ksMod _ (bootMod _ (rstMod _ s))) hc

/-! ### CHIP reset (R379, R41, R362, R371, R386) -/

theorem exec_por (s : State) : exec .por s = .next (settle (porReset s)) := rfl

theorem exec_chipReset {src : Nat} (h : src ≠ 2) (s : State) : exec (.chipReset src) s = .next (settle (chipReset src s)) := by
  show done (when (triggered s 1 src) (chipReset src s) s) = _
  rw [show triggered s 1 src = true by simp [triggered, h]]
  rfl

theorem chipReset_inChip {s : State} (h : inChip s = true) (src : Nat) :
    chipReset src s = rstMod (fun r => { r with ordered := r.ordered.filter (· != 1) }) s := by
  unfold chipReset
  rw [if_pos (by simpa [inChip] using h)]

theorem flashOf_bytes (b : Boot) (k : Fin 2) : (flashOf b).slots[k].bytes = b.slots[k].bytes := by
  simp [flashOf]

section
variable {s : State} (h : inChip s = false) (src : Nat)
include h

theorem chipReset_por : s.rst.por = false := by
  simp only [inChip, Bool.or_eq_false_iff] at h
  exact h.1

/-- What a CHIP reset records of itself. -/
theorem chipReset_rst : (chipReset src s).rst.chip = some src ∧ (chipReset src s).rst.lastScope = 1 ∧
    (chipReset src s).rst.lastSource = src ∧ (chipReset src s).rst.chipCount = satU 8 (s.rst.chipCount + 1) := by
  unfold chipReset
  rw [if_neg (by simpa [inChip] using h)]
  exact ⟨rfl, rfl, rfl, rfl⟩

/-- What D0, the alarms and the time clock keep. -/
theorem chipReset_kept : (chipReset src s).clk.now = s.clk.now ∧ (chipReset src s).clk.kettle = true ∧
    (chipReset src s).clk.tod = .coarse ∧ (chipReset src s).pm.alarm = s.pm.alarm ∧ (chipReset src s).lane = State.reset.lane ∧
    (chipReset src s).q = State.reset.q ∧ (chipReset src s).fwd.golden = s.fwd.golden ∧
    (chipReset src s).boot.rollback = s.boot.rollback ∧ (chipReset src s).pending = s.pending := by
  unfold chipReset
  rw [if_neg (by simpa [inChip] using h)]
  exact ⟨rfl, rfl, rfl, rfl, rfl, rfl, rfl, rfl, rfl⟩

theorem chipReset_dom (d : Fin 14) : (chipReset src s).pm.dom[d].st = .on ∧ (chipReset src s).pm.dom[d].target = .on := by
  unfold chipReset
  rw [if_neg (by simpa [inChip] using h)]
  simp

theorem chipReset_bytes (k : Fin 2) : (chipReset src s).boot.slots[k].bytes = s.boot.slots[k].bytes := by
  unfold chipReset
  rw [if_neg (by simpa [inChip] using h)]
  exact flashOf_bytes s.boot k

end

theorem porReset_holds (s : State) : ∃ t, exec .por s = .next t ∧ t.rst.por = true ∧ t.clk = State.reset.clk ∧
    t.te = State.reset.te ∧ t.lane = State.reset.lane ∧ t.port = State.reset.port ∧ t.q = State.reset.q ∧ t.pm = State.reset.pm ∧
    t.pc = State.reset.pc ∧ t.boot.blocks = s.boot.blocks ∧ t.boot.rollback = s.boot.rollback ∧ t.boot.saved = s.boot.saved ∧
    (∀ k : Fin 2, t.boot.slots[k].bytes = s.boot.slots[k].bytes) ∧ t.wx.hourly = s.wx.hourly ∧ t.pending = s.pending :=
  ⟨_, exec_por s, rfl, rfl, rfl, rfl, rfl, rfl, rfl, rfl, rfl, rfl, rfl, flashOf_bytes s.boot, rfl, rfl⟩

/-- Settles O41: POR and CHIP reset write the whole state, so what they keep is what their definitions copy; the release of
POR keeps the engines booting through the trims and the start of the synthesisers. -/
theorem powerOnAndChipReset : Obligations.PowerOnAndChipReset := by
  refine ⟨⟨porReset_holds, fun _ => rfl, fun rail s hrail h => ?_, porRelease_holds⟩, fun src s hsrc => ⟨fun h => ?_, fun h => ?_⟩⟩
  · have hexec : exec (.supplyBrownout rail) s = .next (settle (chipReset 1 s)) := by
      show (if rail = 0 then _ else _) = _
      rw [if_neg hrail]
      rfl
    obtain ⟨hchip, -, -, -⟩ := chipReset_rst h 1
    exact ⟨hexec.trans (exec_chipReset (by decide) s).symm, _, hexec, by rw [settle_rst, hchip]⟩
  · obtain ⟨hchip, hscope, hsource, hcount⟩ := chipReset_rst h src
    obtain ⟨hnow, hkettle, htod, halarm, hlane, hq, hgolden, hrollback, hpending⟩ := chipReset_kept h src
    refine ⟨_, exec_chipReset hsrc s, ?_⟩
    rw [settle_rst, settle_clk, settle_pm, settle_lane, settle_q, settle_fwd, settle_boot, settle_pending]
    exact ⟨hchip, hscope, hsource, hcount, hnow, hkettle, htod, halarm, chipReset_dom h src, hlane, hq, hgolden, hrollback,
      chipReset_bytes h src, hpending⟩
  · refine ⟨_, exec_chipReset hsrc s, ?_, ?_⟩
    · rw [chipReset_inChip h]
      exact keepsBut_done (keepsBut_mono (keepsBut_rstMod _ s) (by simp)) (by simp)
    · rw [settle_rst, chipReset_inChip h]
      rfl

end Sys2Proof.Machine

/-! GL_RESET_CTRL and the timeouts of accesses (R376, R377, R383, R384, R386). -/

namespace Sys2Proof.Machine

-- The joined text is one compile: no thread beside the main one for each proof.
set_option Elab.async false

/-! ### GL_RESET_CTRL (R383, R386) -/

/-- A write of GL_RESET_CTRL that its access carries there. -/
theorem regAccess_resetCtrl {who : Initiator} {s : State} (hans : answers who s) (hd0 : domOn s 0 = true) (v : Word) :
    regAccess who 0x24 (some v) s = writeResetCtrl who v (accessStart who s) := by
  have hr : regAt s 0x24 = .glResetCtrl := rfl
  rw [regAccess_of_reaches (some v) (reaches_of_regAt hans hr (by decide) (by simp) rfl hd0), hr, regPerform_write]
  rfl

theorem writeResetCtrl_key {v : Word} (h : v.toNat / 65536 = 0xA5C3) (who : Initiator) (s : State) :
    writeResetCtrl who v s = resetByCtrl (v.toNat % 8) s := by
  unfold writeResetCtrl
  rw [if_pos (by simpa [resetKeyOk] using h)]

theorem writeResetCtrl_noKey {v : Word} (h : v.toNat / 65536 ≠ 0xA5C3) (who : Initiator) (s : State) :
    writeResetCtrl who v s = errLog 6 0 true who 0x24 s := by
  unfold writeResetCtrl
  rw [if_neg (by simpa [resetKeyOk] using h)]

theorem inChip_of_answers {who : Initiator} {s : State} (h : answers who s) : inChip s = false := by
  obtain ⟨⟨hpor, hchip⟩, -⟩ := h
  simp [inChip, hpor, hchip]

theorem inChip_accessStart (who : Initiator) (s : State) : inChip (accessStart who s) = inChip s := by
  simp only [inChip, accessStart_rst]

theorem resetByCtrl_mgmt (s : State) :
    resetByCtrl 3 s = mgmtRestart 3 (rstMod (fun r => { r with halted := false }) s) := rfl

/-- A MGMT restart while one lasts is absorbed. -/
theorem mgmtRestart_again {s : State} {src : Nat} (h : s.rst.mgmt = some src) (again : Nat) :
    mgmtRestart again s = rstMod (fun r => { r with ordered := r.ordered.filter (· != 3) }) s := by
  unfold mgmtRestart
  rw [if_pos (by simp [h])]

/-- The log that an error leaves. -/
theorem errLog_rst (kind dom : Nat) (write : Bool) (who : Initiator) (off : Nat) (s : State) :
    (errLog kind dom write who off s).rst = { s.rst with
      log0 := packW [(kind, 28), (dom, 24), (b2n write, 23), (b2n (who == .mgmt), 22), ((s.rst.log0.toNat + 1) % 4096, 0)]
      log1 := BitVec.ofNat 32 off } := by rw [errLog]

theorem errLog_data (kind dom : Nat) (write : Bool) (who : Initiator) (off : Nat) (s : State) :
    (errLog kind dom write who off s).rst.data = s.rst.data := by simp only [errLog_rst]

theorem b2n_le_one (b : Bool) : b2n b ≤ 1 := by cases b <;> decide

/-- The KIND field of a logged word. -/
theorem logged_kind {kind dom write who seq : Nat} (hkind : kind < 16) (hdom : dom < 16) (hwrite : write ≤ 1) (hwho : who ≤ 1)
    (hseq : seq < 4096) : (packW [(kind, 28), (dom, 24), (write, 23), (who, 22), (seq, 0)]).toNat / 2 ^ 28 = kind := by
  simp only [packW, List.foldl_cons, List.foldl_nil, BitVec.toNat_ofNat]
  omega

section
variable {who : Initiator} {v : Word} {s : State} (hans : answers who s) (hd0 : domOn s 0 = true)
include hans hd0

theorem exec_resetCtrlChip (hscope : v.toNat % 8 = 1) :
    exec (.resetCtrlChip who v) s = .next (settle (writeResetCtrl who v (accessStart who s))) := by
  show done (when (v.toNat % 8 == 1) (regAccess who 0x24 (some v) s) s) = _
  rw [hscope, regAccess_resetCtrl hans hd0]
  rfl

theorem exec_resetCtrlData (hscope : v.toNat % 8 = 2) :
    exec (.resetCtrlData who v) s = .next (settle (writeResetCtrl who v (accessStart who s))) := by
  show done (when (v.toNat % 8 == 2) (regAccess who 0x24 (some v) s) s) = _
  rw [hscope, regAccess_resetCtrl hans hd0]
  rfl

theorem exec_resetCtrlMgmt (hscope : v.toNat % 8 = 3) :
    exec (.resetCtrlMgmt who v) s = .next (settle (writeResetCtrl who v (accessStart who s))) := by
  show done (when (v.toNat % 8 == 3) (regAccess who 0x24 (some v) s) s) = _
  rw [hscope, regAccess_resetCtrl hans hd0]
  rfl

theorem resetCtrlChip_holds (hkey : v.toNat / 65536 = 0xA5C3) (hscope : v.toNat % 8 = 1) :
    ∃ t, exec (.resetCtrlChip who v) s = .next t ∧ t.rst.chip = some 3 ∧ t.rst.lastSource = 3 ∧ t.clk.now = s.clk.now ∧
      t.pm.alarm = s.pm.alarm := by
  have hchip : inChip (accessStart who s) = false := (inChip_accessStart who s).trans (inChip_of_answers hans)
  obtain ⟨hset, -, hsource, -⟩ := chipReset_rst hchip 3
  obtain ⟨hnow, -, -, halarm, -⟩ := chipReset_kept hchip 3
  have hstart := keepsBut_accessStart who s
  refine ⟨_, exec_resetCtrlChip hans hd0 hscope, ?_⟩
  rw [writeResetCtrl_key hkey, hscope, settle_rst, settle_clk, settle_pm]
  refine ⟨hset, hsource, hnow.trans ?_, halarm.trans ?_⟩
  · rw [show (accessStart who s).clk = s.clk from hstart .clk (by simp)]
  · rw [show (accessStart who s).pm = s.pm from hstart .pm (by simp)]

theorem resetCtrlData_holds (hkey : v.toNat / 65536 = 0xA5C3) (hscope : v.toNat % 8 = 2) (hdata : s.rst.data = none) :
    ∃ t, exec (.resetCtrlData who v) s = .next t ∧
      keepsBut [.lane, .group, .port, .tio, .ck, .fwd, .q, .cald, .fab, .rst, .host, .msi, .mb, .pc] s t ∧ t.rst.data = some 3 := by
  have hchip : inChip (accessStart who s) = false := (inChip_accessStart who s).trans (inChip_of_answers hans)
  have hdata' : (accessStart who s).rst.data = none := (congrArg Resets.data (accessStart_rst who s)).trans hdata
  obtain ⟨hrst, -, -⟩ := dataReset_keeps hchip hdata' 3
  refine ⟨_, exec_resetCtrlData hans hd0 hscope, ?_⟩
  rw [writeResetCtrl_key hkey, hscope]
  refine ⟨keepsBut_done (keepsBut_then (keepsBut_accessStart who s) (keepsBut_dataReset hchip hdata' 3) (by simp) (by simp))
    (by simp), ?_⟩
  show (settle (dataReset 3 _)).rst.data = _
  rw [settle_rst, hrst]
  rfl

theorem resetCtrlData_logged (hkey : v.toNat / 65536 ≠ 0xA5C3) (hscope : v.toNat % 8 = 2) :
    ∃ t, exec (.resetCtrlData who v) s = .next t ∧ keepsBut [.rst, .host, .msi] s t ∧ t.rst.data = s.rst.data ∧
      t.rst.log1 = 0x24#32 ∧ t.rst.log0.toNat / 2 ^ 28 = 6 := by
  refine ⟨_, exec_resetCtrlData hans hd0 hscope, ?_⟩
  rw [writeResetCtrl_noKey hkey]
  refine ⟨keepsBut_done (keepsBut_then (keepsBut_accessStart who s) (keepsBut_errLog _ _ _ _ _ _) (by simp) (by simp)) (by simp),
    ?_, ?_, ?_⟩
  · rw [settle_rst, errLog_data, accessStart_rst]
  · rw [settle_rst, errLog_log1]
  · rw [settle_rst, errLog_log0]
    exact logged_kind (by decide) (by decide) (b2n_le_one _) (b2n_le_one _) (Nat.mod_lt _ (by decide))

theorem resetCtrlMgmt_holds (hd3 : domOn s 3 = true) (hkey : v.toNat / 65536 = 0xA5C3) (hscope : v.toNat % 8 = 3) :
    ∃ t, exec (.resetCtrlMgmt who v) s = .next t ∧ keepsBut [.tio, .ck, .rst, .host, .msi, .mb, .boot, .pc] s t ∧
      t.rst.halted = false ∧ t.rst.mgmt = some (s.rst.mgmt.getD 3) := by
  have hstart := keepsBut_then (keepsBut_accessStart who s)
    (keepsBut_rstMod (fun r => { r with halted := false }) (accessStart who s)) (n := [.rst, .host, .msi]) (by simp) (by simp)
  refine ⟨_, exec_resetCtrlMgmt hans hd0 hscope, ?_⟩
  rw [writeResetCtrl_key hkey, hscope, resetByCtrl_mgmt]
  have hrst : (rstMod (fun r => { r with halted := false }) (accessStart who s)).rst = { s.rst with halted := false } := by
    rw [← accessStart_rst who s]
    rfl
  have hchip : inChip (rstMod (fun r => { r with halted := false }) (accessStart who s)) = false :=
    (inChip_accessStart who s).trans (inChip_of_answers hans)
  have hon := (domOn_of_keepsBut hstart (by simp) 3).trans hd3
  generalize rstMod (fun r => { r with halted := false }) (accessStart who s) = u at hstart hrst hchip hon
  cases hm : s.rst.mgmt with
  | none =>
    have hmgmt : u.rst.mgmt = none := by rw [hrst]; exact hm
    obtain ⟨hset, -, hhalted, -⟩ := mgmtRestart_rst hchip hmgmt hon 3
    refine ⟨keepsBut_done (keepsBut_then hstart (keepsBut_mgmtRestart hchip hmgmt hon 3) (by simp) (fun _ q => q)) (by simp), ?_, ?_⟩
    · rw [settle_rst, hhalted, hrst]
    · rw [settle_rst, hset]
      rfl
  | some src =>
    have hmgmt : u.rst.mgmt = some src := by rw [hrst]; exact hm
    rw [mgmtRestart_again hmgmt]
    refine ⟨keepsBut_done (keepsBut_then hstart (keepsBut_rstMod _ u) (by simp) (by simp)) (by simp), ?_, ?_⟩
    · rw [settle_rst]
      exact congrArg Resets.halted hrst
    · rw [settle_rst]
      exact hmgmt

end

/-! ### Accesses that end at a timeout (R376, R377, R384) -/

/-- An access that ends in error: its initiator sees it, and the log holds it. -/
theorem regError_holds (kind dom : Nat) (who : Initiator) (off : Nat) (w : Option Word) (s : State) :
    (regError kind dom who off w s).rst = (errLog kind dom w.isSome who off s).rst ∧
    (who = .host → w = none → (regError kind dom who off w s).host.rdata[whoIx .host] = 0xFFFFFFFF#32) ∧
    (who = .mgmt → (regError kind dom who off w s).host.busError = true) := by
  cases who with
  | host =>
    cases w with
    | none => exact ⟨rfl, fun _ _ => putData_rdata .host _ _, fun h => (by cases h)⟩
    | some v => exact ⟨rfl, fun _ h => (by cases h), fun h => (by cases h)⟩
  | mgmt => exact ⟨rfl, fun h => (by cases h), fun _ => rfl⟩

theorem keepsBut_regError (kind dom : Nat) (who : Initiator) (off : Nat) (w : Option Word) (s : State) :
    keepsBut [.rst, .host, .msi] s (regError kind dom who off w s) := by
  have hlog := keepsBut_errLog kind dom w.isSome who off s
  cases who with
  | host =>
    cases w with
    | none => exact keepsBut_then hlog (keepsBut_putData _ _ _) (by simp) (by simp)
    | some v => exact keepsBut_mono hlog (by simp)
  | mgmt => exact keepsBut_then hlog (keepsBut_hostMod _ _) (by simp) (by simp)

theorem errLog_waiting (kind dom : Nat) (write : Bool) (who : Initiator) (off : Nat) (s : State) :
    (errLog kind dom write who off s).rst.waiting = s.rst.waiting := by simp only [errLog_rst]

/-- The timeout of the level that an access waits at, counted (R376, R384). -/
def crossingCounted (w : Waiting) (s : State) : State :=
  match (regOwner (regAt s w.off)).2, regAt s w.off with
  | .lane, .lane l _ => recover 3 0 l (bump (groupEvent (l / 8) 19) 1 s)
  | .group, .mac p _ => recover 4 0 (p / 8) (bump (groupEvent (p / 8) 20) 1 s)
  | .group, .cal p _ => recover 4 0 (p / 8) (bump (groupEvent (p / 8) 20) 1 s)
  | .group, .pgMode g => recover 4 0 g (bump (groupEvent g 20) 1 s)
  | .group, .pgSnap g => recover 4 0 g (bump (groupEvent g 20) 1 s)
  | .group, .grp g _ => recover 4 0 g (bump (groupEvent g 20) 1 s)
  | .group, .ld g _ => recover 4 0 g (bump (groupEvent g 20) 1 s)
  | _, _ => recover 9 0 w.domain (bump 13 1 s)

/-- An occurrence counted and recorded touches the counters alone. -/
theorem keepsBut_counted (kind detail unit ev n : Nat) (s : State) : keepsBut [.pc] s (recover kind detail unit (bump ev n s)) :=
  keepsBut_trans (keepsBut_bump ev n s) (keepsBut_recover kind detail unit _)

theorem keepsBut_crossingCounted (w : Waiting) (s : State) : keepsBut [.pc] s (crossingCounted w s) := by
  unfold crossingCounted
  split <;> exact keepsBut_counted _ _ _ _ _ s

theorem exec_crossingTimeout {i : Nat} {w : Waiting} {s : State} (h : s.rst.waiting[i]? = some w) :
    exec (.crossingTimeout i) s = .next (settle (regError 2 w.domain w.who w.off w.write
      (crossingCounted w (rstMod (fun r => { r with waiting := r.waiting.eraseIdx i }) s)))) := by
  show execCrossingTimeout i s = _
  unfold execCrossingTimeout
  rw [h]
  rfl

theorem crossingTimeout_holds (i : Nat) (w : Waiting) (s : State) (h : s.rst.waiting[i]? = some w) :
    ∃ t, exec (.crossingTimeout i) s = .next t ∧ keepsBut [.rst, .host, .msi, .pc] s t ∧ t.rst.waiting = s.rst.waiting.eraseIdx i ∧
      t.rst.log1 = BitVec.ofNat 32 w.off ∧
      t.rst.log0 = packW [(2, 28), (w.domain, 24), (b2n w.write.isSome, 23), (b2n (w.who == .mgmt), 22), ((s.rst.log0.toNat + 1) % 4096, 0)] ∧
      (w.who = .host → w.write = none → t.host.rdata[whoIx .host] = 0xFFFFFFFF#32) ∧ (w.who = .mgmt → t.host.busError = true) := by
  have hcounted := keepsBut_crossingCounted w (rstMod (fun r => { r with waiting := r.waiting.eraseIdx i }) s)
  have hrst : (crossingCounted w (rstMod (fun r => { r with waiting := r.waiting.eraseIdx i }) s)).rst =
      { s.rst with waiting := s.rst.waiting.eraseIdx i } := hcounted .rst (by simp)
  have hframe := keepsBut_then (keepsBut_rstMod (fun r => { r with waiting := r.waiting.eraseIdx i }) s) hcounted (n := [.rst, .pc])
    (by simp) (by simp)
  refine ⟨_, exec_crossingTimeout h, ?_⟩
  generalize crossingCounted w (rstMod (fun r => { r with waiting := r.waiting.eraseIdx i }) s) = u at hrst hframe
  obtain ⟨hlog, hread, herror⟩ := regError_holds 2 w.domain w.who w.off w.write u
  refine ⟨keepsBut_done (keepsBut_then hframe (keepsBut_regError _ _ _ _ _ u) (by simp) (by simp)) (by simp), ?_, ?_, ?_, ?_, ?_⟩
  · rw [settle_rst, hlog, errLog_waiting, hrst]
  · rw [settle_rst, hlog, errLog_log1]
  · rw [settle_rst, hlog, errLog_log0, hrst]
  · rw [settle_rdata]
    exact hread
  · rw [settle_busError]
    exact herror

/-- A transaction that no crossing timeout has ended, counted (R377). -/
def transactionLost (who : Initiator) (off : Nat) (write : Bool) (s : State) : State :=
  recover 12 0 (regOwner (regAt s off)).1 (bump 14 1 (rstMod (fun r => { r with
    waiting := r.waiting.eraseP (fun w => w.who == who && w.off == off && w.write.isSome == write) }) s))

theorem keepsBut_transactionLost (who : Initiator) (off : Nat) (write : Bool) (s : State) :
    keepsBut [.rst, .pc] s (transactionLost who off write s) :=
  keepsBut_then (keepsBut_rstMod _ s) (keepsBut_counted 12 0 _ 14 1 _) (by simp) (by simp)

theorem interconnectTimeout_holds (who : Initiator) (off : Nat) (write : Bool) (s : State) :
    ∃ t, exec (.interconnectTimeout who off write) s = .next t ∧ keepsBut [.rst, .host, .msi, .pc] s t ∧
      t.rst.log1 = BitVec.ofNat 32 off ∧
      t.rst.waiting = s.rst.waiting.eraseP (fun w => w.who == who && w.off == off && w.write.isSome == write) ∧
      t.rst.log0 = packW [(3, 28), ((regOwner (regAt s off)).1, 24), (b2n write, 23), (b2n (who == .mgmt), 22),
        ((s.rst.log0.toNat + 1) % 4096, 0)] ∧
      vget t.pc.kinds 12 0 = satU 32 (vget s.pc.kinds 12 0 + 1) := by
  have hexec : exec (.interconnectTimeout who off write) s = .next (settle (regError 3 (regOwner (regAt s off)).1 who off
      (if write then some 0 else none) (transactionLost who off write s))) := rfl
  have hwrite : (if write then some (0 : Word) else none).isSome = write := by cases write <;> rfl
  have hframe := keepsBut_transactionLost who off write s
  have hrst : (transactionLost who off write s).rst = { s.rst with
      waiting := s.rst.waiting.eraseP (fun w => w.who == who && w.off == off && w.write.isSome == write) } := rfl
  have hkinds : vget (transactionLost who off write s).pc.kinds 12 0 = satU 32 (vget s.pc.kinds 12 0 + 1) :=
    vmodN_same s.pc.kinds 12 _ 0 (by decide)
  refine ⟨_, hexec, ?_⟩
  generalize transactionLost who off write s = u at hrst hframe hkinds
  have herror := keepsBut_regError 3 (regOwner (regAt s off)).1 who off (if write then some 0 else none) u
  obtain ⟨hlog, -, -⟩ := regError_holds 3 (regOwner (regAt s off)).1 who off (if write then some 0 else none) u
  rw [hwrite] at hlog
  refine ⟨keepsBut_done (keepsBut_then hframe herror (by simp) (by simp)) (by simp), ?_, ?_, ?_, ?_⟩
  · rw [settle_rst, hlog, errLog_log1]
  · rw [settle_rst, hlog, errLog_waiting, hrst]
  · rw [settle_rst, hlog, errLog_log0, hrst]
  · rw [settle_pc, show (regError 3 _ who off _ u).pc = u.pc from herror .pc (by simp), hkinds]

/-- Settles O43: a write of GL_RESET_CTRL reaches its reset through the access rules, or the error log; a timeout ends an access
as an error does. -/
theorem resetControlAndTimeouts : Obligations.ResetControlAndTimeouts :=
  ⟨fun _ _ _ hans hd0 hd3 => ⟨resetCtrlChip_holds hans hd0, resetCtrlData_holds hans hd0, resetCtrlMgmt_holds hans hd0 hd3,
    resetCtrlData_logged hans hd0⟩, crossingTimeout_holds, interconnectTimeout_holds⟩

end Sys2Proof.Machine

/-! Descriptor rings: tails, DMA_CTRL, DMA_DROPS and HOLDOFF (R398 to R408). -/

namespace Sys2Proof.Machine

-- The joined text is one compile: no thread beside the main one for each proof.
set_option Elab.async false

/-! ### A ring and a changed ring -/

theorem ringOf_ringMod_same {r : Nat} (hr : r < 8) (rx : Bool) (f : Ring → Ring) (s : State) :
    ringOf rx r (ringMod rx r f s) = f (ringOf rx r s) := by
  cases rx with
  | false => exact vmodN_same s.host.tx r f {} hr
  | true => exact vmodN_same s.host.rx r f {} hr

theorem ringOf_ringMod_other {r k : Nat} (h : k ≠ r) (rx : Bool) (f : Ring → Ring) (s : State) :
    ringOf rx k (ringMod rx r f s) = ringOf rx k s := by
  cases rx with
  | false => exact vmodN_other s.host.tx r k f {} h
  | true => exact vmodN_other s.host.rx r k f {} h

theorem ringMod_true_tx (r : Nat) (f : Ring → Ring) (s : State) : (ringMod true r f s).host.tx = s.host.tx := rfl
theorem ringMod_false_rx (r : Nat) (f : Ring → Ring) (s : State) : (ringMod false r f s).host.rx = s.host.rx := rfl

theorem ringOf_settle (rx : Bool) (r : Nat) (s : State) : ringOf rx r (settle s) = ringOf rx r s := by
  cases rx <;> rfl

theorem ringOf_putData (rx : Bool) (r : Nat) (who : Initiator) (v : Word) (s : State) :
    ringOf rx r (putData who v s) = ringOf rx r s := by
  cases rx <;> rfl

/-- A ring is its vector's. -/
theorem ringOf_congr {rx : Bool} {s t : State} (hrx : t.host.rx = s.host.rx) (htx : t.host.tx = s.host.tx) (r : Nat) :
    ringOf rx r t = ringOf rx r s := by
  cases rx with
  | false => exact congrArg (fun v => vget v r {}) htx
  | true => exact congrArg (fun v => vget v r {}) hrx

/-! ### What the receive engine leaves of the rings -/

/-- What software set in a ring. -/
def ringSettings (g : Ring) : Bool × Nat × Nat × Nat × Nat := (g.enable, g.size, g.holdoff, g.count, g.tail)

/-- The receive engine of ring `r` worked: other rings, the settings of its own and the function's state stand. -/
structure RxWork (r : Nat) (s t : State) : Prop where
  frame : keepsBut [.host, .pc] s t
  tx : t.host.tx = s.host.tx
  d3hot : t.host.d3hot = s.host.d3hot
  others : ∀ k, k ≠ r → ringOf true k t = ringOf true k s
  settings : ringSettings (ringOf true r t) = ringSettings (ringOf true r s)

namespace RxWork

theorem refl (r : Nat) (s : State) : RxWork r s s := ⟨keepsBut_refl _ s, rfl, rfl, fun _ _ => rfl, rfl⟩

theorem trans {r : Nat} {s t u : State} (h : RxWork r s t) (k : RxWork r t u) : RxWork r s u :=
  ⟨keepsBut_trans h.frame k.frame, k.tx.trans h.tx, k.d3hot.trans h.d3hot, fun j hj => (k.others j hj).trans (h.others j hj),
    k.settings.trans h.settings⟩

/-- A change of the ring beside its settings. -/
theorem of_ringMod (r : Nat) (f : Ring → Ring) (hf : ∀ g, ringSettings (f g) = ringSettings g) (s : State) :
    RxWork r s (ringMod true r f s) where
  frame := keepsBut_mono (keepsBut_ringMod true r f s) (by simp)
  tx := rfl
  d3hot := rfl
  others := fun _ h => ringOf_ringMod_other h true f s
  settings := by
    by_cases hr : r < 8
    · rw [ringOf_ringMod_same hr, hf]
    · have hout : (ringMod true r f s).host.rx = s.host.rx := vmodN_out s.host.rx r f (by omega)
      rw [ringOf_congr hout rfl]

/-- Work that leaves the rings alone. -/
theorem of_rings {r : Nat} {s t : State} (h : keepsBut [.host, .pc] s t) (hrx : t.host.rx = s.host.rx) (htx : t.host.tx = s.host.tx)
    (hd : t.host.d3hot = s.host.d3hot) : RxWork r s t :=
  ⟨h, htx, hd, fun _ _ => ringOf_congr hrx htx _, congrArg ringSettings (ringOf_congr hrx htx r)⟩

theorem of_hostWrite (r a : Nat) (b : List Byte) (s : State) : RxWork r s (hostWrite a b s) :=
  of_rings (keepsBut_mono (keepsBut_hostWrite a b s) (by simp)) rfl rfl rfl

theorem of_store (r : Nat) (h : List StoreFrame → List StoreFrame) (s : State) :
    RxWork r s { s with host := { s.host with store := vmodN s.host.store r h } } :=
  of_rings (keepsBut_mono (keepsBut_withStoreRing r h s) (by simp)) rfl rfl rfl

theorem of_writeback (r : Nat) (f : StoreFrame) (len : Nat) (eop : Bool) (trunc cause : Nat) (s : State) :
    RxWork r s (rxWriteback r f len eop trunc cause s) :=
  (of_hostWrite r _ _ s).trans (of_ringMod r (fun g => { g with head := (g.head + 1) % 2 ^ g.size, heldLen := none }) (fun _ => rfl) _)

end RxWork

theorem ringFrameDone_settings (g : Ring) : ringSettings (ringFrameDone g) = ringSettings g := by
  unfold ringFrameDone
  split <;> rfl

namespace RxWork

theorem of_pop (r : Nat) (s : State) : RxWork r s (rxPop r s) :=
  ((of_store r List.tail s).trans (of_ringMod r ringFrameDone ringFrameDone_settings _)).trans
    (of_rings (keepsBut_mono (keepsBut_bump 34 1 _) (by simp)) rfl rfl rfl)

theorem of_rxRun (r n : Nat) : ∀ s : State, RxWork r s (rxRun r n s) := by
  induction n with
  | zero => exact fun s => refl r s
  | succ n ih =>
    intro s
    unfold rxRun
    split
    · exact refl r s
    · dsimp only
      split
      · exact refl r s
      · split
        · exact (of_writeback r _ _ _ _ _ s).trans (ih _)
        · have hfill := fun (a : Nat) (b : List Byte) (rest : List (Nat × Nat)) (h : List StoreFrame → List StoreFrame) =>
            ((of_hostWrite r a b s).trans (of_ringMod r (fun g => { g with rxPosted := rest }) (fun _ => rfl) _)).trans
              (of_store r h _)
          split
          · exact (((hfill _ _ _ _).trans (of_writeback r _ _ _ _ _ _)).trans (of_pop r _)).trans (ih _)
          · exact ((hfill _ _ _ _).trans (of_ringMod r (fun g => { g with heldLen := some _ }) (fun _ => rfl) _)).trans (ih _)
        · exact refl r s

theorem of_rxGo (r : Nat) (s : State) : RxWork r s (rxGo r s) := of_rxRun r _ s

theorem of_rxClose (r cause : Nat) (s : State) : RxWork r s (rxClose r cause s) := by
  unfold rxClose
  split
  · exact ((of_writeback r _ _ _ _ _ s).trans (of_pop r _)).trans
      (of_ringMod r (fun g => { g with errEvt := true, trunc := if cause = 1 then satU 16 (g.trunc + 1) else g.trunc }) (fun _ => rfl) _)
  · exact refl r s

end RxWork

/-- With an empty store the receive engine has nothing to do. -/
theorem rxGo_empty {r : Nat} {s : State} (h : vget s.host.store r [] = []) : rxGo r s = s := by
  unfold rxGo rxRun
  rw [h]

/-! ### Tails (R398, R402, R403) -/

theorem rxTail_eq {r v : Nat} {descs : List (List Byte)} {s : State}
    (h : newlyPosted (ringOf true r s) (bits v 0 15) ≤ descs.length) :
    rxTail r v descs s = rxGo r (ringMod true r (fun g => { g with
      tail := bits v 0 15
      rxPosted := g.rxPosted ++ (descs.take (newlyPosted (ringOf true r s) (bits v 0 15))).map rxDescOf }) s) := by
  have hfill : newlyPosted (ringOf true r s) (bits v 0 15) - descs.length = 0 := by omega
  simp [rxTail, hfill]

theorem txTail_eq {r v : Nat} {descs : List (List Byte)} {s : State}
    (h : newlyPosted (ringOf false r s) (bits v 0 15) ≤ descs.length) :
    txTail r v descs s = ringMod false r (fun g => { g with
      tail := bits v 0 15
      txPosted := g.txPosted ++ (descs.take (newlyPosted (ringOf false r s) (bits v 0 15))).map txDescOf }) s := by
  have hfill : newlyPosted (ringOf false r s) (bits v 0 15) - descs.length = 0 := by omega
  simp [txTail, hfill]

section
variable {s : State} (hd3 : domOn s 3 = true) (hchip : inChip s = false) (r : Fin 8) (v : Word) {descs : List (List Byte)}
include hd3 hchip

theorem exec_rxTailWrite : exec (.rxTailWrite r v descs) s = .next (settle (rxTail r.val v.toNat descs s)) := by
  have hon : ((vget s.pm.dom 3 {}).st == .on) = true := hd3
  show done (if (vget s.pm.dom 3 {}).st == .on && !inChip s then _ else _) = _
  rw [hon, hchip]
  rfl

theorem exec_txTailWrite : exec (.txTailWrite r v descs) s = .next (settle (txTail r.val v.toNat descs s)) := by
  have hon : ((vget s.pm.dom 3 {}).st == .on) = true := hd3
  show done (if (vget s.pm.dom 3 {}).st == .on && !inChip s then _ else _) = _
  rw [hon, hchip]
  rfl

theorem rxTailWrite_empty (h : newlyPosted (ringOf true r.val s) (bits v.toNat 0 15) ≤ descs.length)
    (hstore : vget s.host.store r.val [] = []) :
    ∃ t, exec (.rxTailWrite r v descs) s = .next t ∧ keepsBut [.host, .msi] s t ∧ ringOf true r.val t =
      { ringOf true r.val s with
        tail := bits v.toNat 0 15
        rxPosted := (ringOf true r.val s).rxPosted ++
          (descs.take (newlyPosted (ringOf true r.val s) (bits v.toNat 0 15))).map rxDescOf } ∧
      t.host.tx = s.host.tx ∧ ∀ k, k ≠ r.val → ringOf true k t = ringOf true k s := by
  refine ⟨_, exec_rxTailWrite hd3 hchip r v, ?_⟩
  rw [rxTail_eq h, rxGo_empty (s := ringMod true r.val _ s) hstore]
  refine ⟨keepsBut_done (keepsBut_mono (keepsBut_ringMod _ _ _ s) (by simp)) (by simp), ?_, ?_, fun k hk => ?_⟩
  · rw [ringOf_settle, ringOf_ringMod_same r.isLt]
  · rw [settle_tx, ringMod_true_tx]
  · rw [ringOf_settle, ringOf_ringMod_other hk]

theorem rxTailWrite_posts (h : newlyPosted (ringOf true r.val s) (bits v.toNat 0 15) ≤ descs.length) :
    ∃ t, exec (.rxTailWrite r v descs) s = .next t ∧ keepsBut [.host, .msi, .pc] s t ∧
      (ringOf true r.val t).tail = bits v.toNat 0 15 ∧ t.host.tx = s.host.tx ∧
      ∀ k, k ≠ r.val → ringOf true k t = ringOf true k s := by
  refine ⟨_, exec_rxTailWrite hd3 hchip r v, ?_⟩
  rw [rxTail_eq h]
  generalize hu : ringMod true r.val _ s = u
  have hmod : keepsBut [.host] s u := hu ▸ keepsBut_ringMod _ _ _ s
  have hwork := RxWork.of_rxGo r.val u
  have htail : (ringOf true r.val (rxGo r.val u)).tail = (ringOf true r.val u).tail := congrArg (fun x => x.2.2.2.2) hwork.settings
  refine ⟨keepsBut_done (keepsBut_then hmod hwork.frame (by simp) (by simp)) (by simp), ?_, ?_, fun k hk => ?_⟩
  · rw [ringOf_settle, htail, ← hu, ringOf_ringMod_same r.isLt]
  · rw [settle_tx, hwork.tx, ← hu, ringMod_true_tx]
  · rw [ringOf_settle, hwork.others k hk, ← hu, ringOf_ringMod_other hk]

theorem txTailWrite_posts (h : newlyPosted (ringOf false r.val s) (bits v.toNat 0 15) ≤ descs.length) :
    ∃ t, exec (.txTailWrite r v descs) s = .next t ∧ keepsBut [.host, .msi] s t ∧ ringOf false r.val t =
      { ringOf false r.val s with
        tail := bits v.toNat 0 15
        txPosted := (ringOf false r.val s).txPosted ++
          (descs.take (newlyPosted (ringOf false r.val s) (bits v.toNat 0 15))).map txDescOf } ∧
      t.host.rx = s.host.rx ∧ ∀ k, k ≠ r.val → ringOf false k t = ringOf false k s := by
  refine ⟨_, exec_txTailWrite hd3 hchip r v, ?_⟩
  rw [txTail_eq h]
  refine ⟨keepsBut_done (keepsBut_mono (keepsBut_ringMod _ _ _ s) (by simp)) (by simp), ?_, ?_, fun k hk => ?_⟩
  · rw [ringOf_settle, ringOf_ringMod_same r.isLt]
  · rw [settle_rx, ringMod_false_rx]
  · rw [ringOf_settle, ringOf_ringMod_other hk]

end

/-! ### DMA_CTRL (R407, R408) -/

theorem regAt_ring {off w : Nat} (rx : Bool) (r : Fin 8) (hw : w < 6)
    (hoff : off = (if rx then 0x100000 else 0x101000) + r.val * 0x40 + w * 4) (s : State) :
    regAt s off = .ring rx r.val w := by
  have hr := r.isLt
  have hdma : regAt s off = regDma (off - 0x100000) := by
    have hlo : 0x100000 ≤ off ∧ off < 0x200000 := by
      cases rx <;> simp only [if_true, if_false, Bool.false_eq_true] at hoff <;> omega
    unfold regAt
    iterate 8 rw [if_neg (by omega)]
    rw [if_pos (by omega)]
  rw [hdma]
  unfold regDma
  cases rx with
  | true =>
    simp only [if_true] at hoff
    have hring : (off - 0x100000) / 0x40 = r.val := by omega
    have hword : (off - 0x100000) % 0x40 = w * 4 := by omega
    rw [if_pos (by omega), hword, hring, if_pos (by omega), Nat.mul_div_cancel w (by decide)]
  | false =>
    simp only [Bool.false_eq_true, if_false] at hoff
    have hring : (off - 0x100000 - 0x1000) / 0x40 = r.val := by omega
    have hword : (off - 0x100000) % 0x40 = w * 4 := by omega
    rw [if_neg (by omega), if_pos (by omega), hword, hring, if_pos (by omega), Nat.mul_div_cancel w (by decide)]

/-- A ring's registers belong to D3. -/
theorem reaches_ring {who : Initiator} {off w : Nat} {s : State} (hans : answers who s) (hd3 : domOn s 3 = true) (rx : Bool)
    (r : Fin 8) (hw : w < 6) (hoff : off = (if rx then 0x100000 else 0x101000) + r.val * 0x40 + w * 4) : reaches who off s := by
  refine reaches_of_regAt hans (regAt_ring rx r hw hoff s) ?_ (by simp) rfl hd3
  cases rx <;> simp only [if_true, if_false, Bool.false_eq_true] at hoff <;> omega

theorem regAccess_ringCtrl {s : State} (hans : answers .host s) (rx : Bool) (r : Fin 8) (v : Word) :
    regAccess .host ((if rx then 0x100008 else 0x101008) + r.val * 0x40) (some v) s = ringCtrl rx r.val v.toNat s := by
  have hoff : (if rx then 0x100008 else 0x101008) + r.val * 0x40 = (if rx then 0x100000 else 0x101000) + r.val * 0x40 + 2 * 4 := by
    cases rx <;> simp only [if_true, if_false, Bool.false_eq_true] <;> omega
  obtain ⟨hup, hd3⟩ := hans
  rw [regAccess_of_reaches (some v) (reaches_ring ⟨hup, hd3⟩ (hd3 rfl) rx r (by decide) hoff),
    regAt_ring rx r (by decide) hoff, regPerform_write]
  rfl

/-- What DMA_CTRL sets in a ring. -/
def ringSet (v : Nat) (g : Ring) : Ring :=
  { g with enable := v.testBit 31, size := bits v 24 4, holdoff := bits v 8 8, count := bits v 0 8 }

theorem ringCtrl_enable {rx : Bool} {r v : Nat} (h : v.testBit 31 = true) (s : State) :
    ringCtrl rx r v s = if rx then rxGo r (ringMod rx r (ringSet v) s) else ringMod rx r (ringSet v) s := by
  unfold ringCtrl
  simp only [h, Bool.not_true, Bool.and_false, Bool.and_true, Bool.false_eq_true, if_false]
  simp only [← h]
  rfl

theorem ringCtrl_disable {rx : Bool} {r v : Nat} {s : State} (h : v.testBit 31 = false) (hon : (ringOf rx r s).enable = true) :
    ringCtrl rx r v s = ringMod rx r (ringSet v) (if rx then rxDisable r s else txDisable r s) := by
  unfold ringCtrl
  simp only [h, hon, Bool.not_false, Bool.and_true, Bool.and_false, Bool.false_eq_true, if_false, if_true]
  simp only [← h]
  rfl

theorem ringCtrl_disabled {rx : Bool} {r v : Nat} {s : State} (h : v.testBit 31 = false) (hoff : (ringOf rx r s).enable = false) :
    ringCtrl rx r v s = ringMod rx r (ringSet v) s := by
  unfold ringCtrl
  simp only [h, hoff, Bool.false_and, Bool.and_false, Bool.false_eq_true, if_false]
  simp only [← h]
  rfl

section
variable {s : State} (hans : answers .host s) (rx : Bool) (r : Fin 8) {v : Word}
include hans

theorem exec_dmaRingEnable (hv : v.getLsbD 31 = true) :
    exec (.dmaRingEnable rx r v) s = .next (settle (ringCtrl rx r.val v.toNat s)) := by
  show done (when (v.getLsbD 31) (regAccess .host _ (some v) s) s) = _
  rw [hv, regAccess_ringCtrl hans]
  rfl

theorem exec_dmaRingDisable (hv : v.getLsbD 31 = false) :
    exec (.dmaRingDisable rx r v) s = .next (settle (ringCtrl rx r.val v.toNat s)) := by
  show done (when (!v.getLsbD 31) (regAccess .host _ (some v) s) s) = _
  rw [hv, regAccess_ringCtrl hans]
  rfl

theorem dmaRingEnable_idle (hv : v.getLsbD 31 = true) (hidle : rx = false ∨ vget s.host.store r.val [] = []) :
    ∃ t, exec (.dmaRingEnable rx r v) s = .next t ∧ keepsBut [.host, .msi] s t ∧ ringOf rx r.val t =
      { ringOf rx r.val s with
        enable := true, size := bits v.toNat 24 4, holdoff := bits v.toNat 8 8, count := bits v.toNat 0 8 } := by
  have hbit : v.toNat.testBit 31 = true := hv
  have hctrl : ringCtrl rx r.val v.toNat s = ringMod rx r.val (ringSet v.toNat) s := by
    rw [ringCtrl_enable hbit]
    cases rx with
    | false => rfl
    | true => exact rxGo_empty (hidle.resolve_left (by decide))
  refine ⟨_, exec_dmaRingEnable hans rx r hv, ?_⟩
  rw [hctrl]
  refine ⟨keepsBut_done (keepsBut_mono (keepsBut_ringMod _ _ _ s) (by simp)) (by simp), ?_⟩
  rw [ringOf_settle, ringOf_ringMod_same r.isLt]
  simp only [ringSet, hbit]

theorem dmaRingEnable_sets (hv : v.getLsbD 31 = true) :
    ∃ t, exec (.dmaRingEnable rx r v) s = .next t ∧ keepsBut [.host, .msi, .pc] s t ∧ (ringOf rx r.val t).enable = true ∧
      (ringOf rx r.val t).size = bits v.toNat 24 4 ∧ (ringOf rx r.val t).holdoff = bits v.toNat 8 8 ∧
      (ringOf rx r.val t).count = bits v.toNat 0 8 ∧ (ringOf rx r.val t).tail = (ringOf rx r.val s).tail := by
  have hbit : v.toNat.testBit 31 = true := hv
  have hmod := keepsBut_ringMod rx r.val (ringSet v.toNat) s
  have hsettings : keepsBut [.host, .pc] s (ringCtrl rx r.val v.toNat s) ∧
      ringSettings (ringOf rx r.val (ringCtrl rx r.val v.toNat s)) = ringSettings (ringSet v.toNat (ringOf rx r.val s)) := by
    rw [ringCtrl_enable hbit]
    cases rx with
    | false => exact ⟨keepsBut_mono hmod (by simp), congrArg ringSettings (ringOf_ringMod_same r.isLt _ _ s)⟩
    | true =>
      have hwork := RxWork.of_rxGo r.val (ringMod true r.val (ringSet v.toNat) s)
      exact ⟨keepsBut_then hmod hwork.frame (by simp) (by simp),
        hwork.settings.trans (congrArg ringSettings (ringOf_ringMod_same r.isLt _ _ s))⟩
  obtain ⟨hframe, hset⟩ := hsettings
  simp only [ringSettings, ringSet, hbit, Prod.mk.injEq] at hset
  exact ⟨_, exec_dmaRingEnable hans rx r hv, keepsBut_done (keepsBut_mono hframe (by simp)) (by simp), by rwa [ringOf_settle]⟩

end

theorem rxDisable_ring (r : Fin 8) (s : State) : keepsBut [.host, .pc] s (rxDisable r.val s) ∧
    (ringOf true r.val (rxDisable r.val s)).head = 0 ∧ (ringOf true r.val (rxDisable r.val s)).tail = 0 ∧
    (ringOf true r.val (rxDisable r.val s)).rxPosted = [] ∧ vget (rxDisable r.val s).host.store r.val [] = [] := by
  have hclose := keepsBut_rxClose r.val 2 s
  unfold rxDisable
  generalize rxClose r.val 2 s = u at hclose
  dsimp only
  generalize (vget u.host.store r.val []).length = n
  refine ⟨keepsBut_trans hclose (keepsBut_mono (keepsBut_trans (keepsBut_withStoreRing r.val _ u) (keepsBut_ringMod _ _ _ _)) (by simp)),
    ?_, ?_, ?_, vmodN_same u.host.store r.val _ [] r.isLt⟩
  · rw [ringOf_ringMod_same r.isLt]
  · rw [ringOf_ringMod_same r.isLt]
  · rw [ringOf_ringMod_same r.isLt]

theorem txDisable_ring (r : Fin 8) (s : State) : keepsBut [.host, .msi] s (txDisable r.val s) ∧
    (ringOf false r.val (txDisable r.val s)).head = 0 ∧ (ringOf false r.val (txDisable r.val s)).tail = 0 ∧
    (ringOf false r.val (txDisable r.val s)).txPosted = [] := by
  unfold txDisable
  refine ⟨keepsBut_trans (keepsBut_hostMod (fun h => { h with
    txPend := h.txPend.map (fun (t : TxPend) => if t.ring = r.val then { t with old := true } else t) }) s)
    (keepsBut_mono (keepsBut_ringMod _ _ _ _) (by simp)), ?_, ?_, ?_⟩
  · rw [ringOf_ringMod_same r.isLt]
  · rw [ringOf_ringMod_same r.isLt]
  · rw [ringOf_ringMod_same r.isLt]

section
variable {s : State} (hans : answers .host s) (rx : Bool) (r : Fin 8) {v : Word}
include hans

theorem dmaRingDisable_empties (hv : v.getLsbD 31 = false) (hon : (ringOf rx r.val s).enable = true) :
    ∃ t, exec (.dmaRingDisable rx r v) s = .next t ∧ keepsBut [.host, .msi, .pc] s t ∧ (ringOf rx r.val t).enable = false ∧
      (ringOf rx r.val t).head = 0 ∧ (ringOf rx r.val t).tail = 0 ∧
      (rx = true → (ringOf rx r.val t).rxPosted = [] ∧ vget t.host.store r.val [] = []) ∧
      (rx = false → (ringOf rx r.val t).txPosted = []) := by
  have hbit : v.toNat.testBit 31 = false := hv
  refine ⟨_, exec_dmaRingDisable hans rx r hv, ?_⟩
  rw [ringCtrl_disable hbit hon, ringOf_settle, ringOf_ringMod_same r.isLt]
  cases rx with
  | false =>
    obtain ⟨hframe, hhead, htail, hposted⟩ := txDisable_ring r s
    exact ⟨keepsBut_done (keepsBut_then hframe (keepsBut_ringMod _ _ _ _) (by simp) (by simp)) (by simp), hbit, hhead, htail,
      fun h => absurd h (by decide), fun _ => hposted⟩
  | true =>
    obtain ⟨hframe, hhead, htail, hposted, hstore⟩ := rxDisable_ring r s
    exact ⟨keepsBut_done (keepsBut_then hframe (keepsBut_ringMod _ _ _ _) (by simp) (by simp)) (by simp), hbit, hhead, htail,
      fun _ => ⟨hposted, hstore⟩, fun h => absurd h (by decide)⟩

theorem dmaRingDisable_off (hv : v.getLsbD 31 = false) (hoff : (ringOf rx r.val s).enable = false) :
    ∃ t, exec (.dmaRingDisable rx r v) s = .next t ∧ keepsBut [.host, .msi] s t ∧ ringOf rx r.val t =
      { ringOf rx r.val s with size := bits v.toNat 24 4, holdoff := bits v.toNat 8 8, count := bits v.toNat 0 8 } := by
  have hbit : v.toNat.testBit 31 = false := hv
  refine ⟨_, exec_dmaRingDisable hans rx r hv, ?_⟩
  rw [ringCtrl_disabled hbit hoff]
  refine ⟨keepsBut_done (keepsBut_mono (keepsBut_ringMod _ _ _ s) (by simp)) (by simp), ?_⟩
  rw [ringOf_settle, ringOf_ringMod_same r.isLt]
  simp only [ringSet, hbit, ← hoff]

end

/-! ### DMA_DROPS and HOLDOFF (R406, R407) -/

theorem dmaDropsRead_clears (who : Initiator) (rx : Bool) (r : Fin 8) (s : State) (hans : answers who s) (hd3 : domOn s 3 = true) :
    ∃ t, exec (.dmaDropsRead who rx r) s = .next t ∧ keepsBut [.host, .msi] s t ∧ ringOf rx r.val t =
        { ringOf rx r.val s with trunc := 0, noroom := 0 } ∧
      t.host.rdata[whoIx who] = packW [((ringOf rx r.val s).trunc, 16), (if rx then (ringOf rx r.val s).noroom else 0, 0)] := by
  have hoff : (if rx then 0x100014 else 0x101014) + r.val * 0x40 = (if rx then 0x100000 else 0x101000) + r.val * 0x40 + 5 * 4 := by
    cases rx <;> simp only [if_true, if_false, Bool.false_eq_true] <;> omega
  have hexec : exec (.dmaDropsRead who rx r) s = .next (settle (putData who (ringWord (accessStart who s) rx r.val 5)
      (ringMod rx r.val (fun g => { g with trunc := 0, noroom := 0 }) (accessStart who s)))) := by
    refine done_of_eq ?_
    rw [regAccess_of_reaches none (reaches_ring hans hd3 rx r (by decide) hoff), regAt_ring rx r (by decide) hoff, regPerform_read]
    rfl
  have hring : ringOf rx r.val (accessStart who s) = ringOf rx r.val s := by
    cases who <;> rfl
  refine ⟨_, hexec, keepsBut_done (keepsBut_then (keepsBut_then (keepsBut_accessStart who s) (keepsBut_ringMod _ _ _ _)
    (n := [.host, .msi]) (by simp) (by simp)) (keepsBut_putData _ _ _) (by simp) (by simp)) (by simp), ?_, ?_⟩
  · rw [ringOf_settle, ringOf_putData, ringOf_ringMod_same r.isLt, hring]
  · rw [settle_rdata]
    refine (putData_rdata who _ _).trans ?_
    show packW [((ringOf rx r.val (accessStart who s)).trunc, 16), _] = _
    rw [hring]

theorem dmaHoldoffExpiry_reports (rx : Bool) (r : Fin 8) (s : State) :
    ∃ t, exec (.dmaHoldoffExpiry rx r) s = .next t ∧ keepsBut [.host, .msi] s t ∧
      (0 < (ringOf rx r.val s).unreported → (ringOf rx r.val t).doneEvt = true ∧ (ringOf rx r.val t).unreported = 0) ∧
      ((ringOf rx r.val s).unreported = 0 → ringOf rx r.val t = ringOf rx r.val s) := by
  refine ⟨_, rfl, keepsBut_done (keepsBut_mono (keepsBut_ringMod _ _ _ s) (by simp)) (by simp), ?_⟩
  rw [ringOf_settle, ringOf_ringMod_same r.isLt]
  refine ⟨fun h => ?_, fun h => ?_⟩
  · rw [if_pos h]
    exact ⟨rfl, rfl⟩
  · rw [if_neg (by omega)]

/-- Settles O44: the receive engine, which a tail and DMA_CTRL start, leaves the settings of its ring and every other ring. -/
theorem descriptorRings : Obligations.DescriptorRings :=
  ⟨fun r v _ hd3 hchip => ⟨fun _ => rxTailWrite_empty hd3 hchip r v, fun _ => rxTailWrite_posts hd3 hchip r v,
      fun _ => txTailWrite_posts hd3 hchip r v⟩,
    fun rx r _ _ hans => ⟨dmaRingEnable_idle hans rx r, dmaRingEnable_sets hans rx r, dmaRingDisable_empties hans rx r,
      dmaRingDisable_off hans rx r⟩,
    dmaDropsRead_clears, dmaHoldoffExpiry_reports⟩

end Sys2Proof.Machine

/-! DMA of frames, MSI-X, PERST_N and the Function Level Reset (R363, R389, R390, R396 to R405). -/

namespace Sys2Proof.Machine

-- The joined text is one compile: no thread beside the main one for each proof.
set_option Elab.async false

/-! ### The starved receive frame (R402) -/

theorem rxPop_ring (r : Fin 8) (s : State) : ringOf true r.val (rxPop r.val s) = ringFrameDone (ringOf true r.val s) :=
  ringOf_ringMod_same r.isLt true ringFrameDone
    { s with host := { s.host with store := vmodN s.host.store r.val List.tail } }

theorem rxPop_store (r : Fin 8) (s : State) :
    vget (rxPop r.val s).host.store r.val [] = (vget s.host.store r.val []).tail :=
  vmodN_same s.host.store r.val List.tail [] r.isLt

theorem rxWriteback_ring (r : Fin 8) (f : StoreFrame) (len : Nat) (eop : Bool) (trunc cause : Nat) (s : State) :
    ringOf true r.val (rxWriteback r.val f len eop trunc cause s) = { ringOf true r.val s with
      head := ((ringOf true r.val s).head + 1) % 2 ^ (ringOf true r.val s).size, heldLen := none } :=
  ringOf_ringMod_same r.isLt true _ (hostWrite _ _ s)

theorem ringFrameDone_keeps (g : Ring) : (ringFrameDone g).head = g.head ∧ (ringFrameDone g).heldLen = g.heldLen ∧
    (ringFrameDone g).trunc = g.trunc ∧ (ringFrameDone g).rxPosted = g.rxPosted := by
  unfold ringFrameDone
  split <;> exact ⟨rfl, rfl, rfl, rfl⟩

/-- A frame in progress that is closed: its descriptor is written back, and the ring flags it. -/
theorem rxClose_held {r : Fin 8} {cause k : Nat} {f : StoreFrame} {rest : List StoreFrame} {s : State}
    (hheld : (ringOf true r.val s).heldLen = some k) (hstore : vget s.host.store r.val [] = f :: rest) :
    (ringOf true r.val (rxClose r.val cause s)).errEvt = true ∧
    (ringOf true r.val (rxClose r.val cause s)).trunc =
      (if cause = 1 then satU 16 ((ringOf true r.val s).trunc + 1) else (ringOf true r.val s).trunc) ∧
    (ringOf true r.val (rxClose r.val cause s)).heldLen = none ∧
    (ringOf true r.val (rxClose r.val cause s)).head =
      ((ringOf true r.val s).head + 1) % 2 ^ (ringOf true r.val s).size ∧
    (ringOf true r.val (rxClose r.val cause s)).rxPosted = (ringOf true r.val s).rxPosted ∧
    vget (rxClose r.val cause s).host.store r.val [] = rest := by
  have hclose : rxClose r.val cause s = ringMod true r.val (fun g => { g with
      errEvt := true, trunc := if cause = 1 then satU 16 (g.trunc + 1) else g.trunc })
      (rxPop r.val (rxWriteback r.val f k true 1 cause s)) := by
    unfold rxClose
    rw [hstore, hheld]
  obtain ⟨hhead, hlen, htrunc, hposted⟩ := ringFrameDone_keeps (ringOf true r.val (rxWriteback r.val f k true 1 cause s))
  rw [rxWriteback_ring] at hhead hlen htrunc hposted
  rw [hclose, ringOf_ringMod_same r.isLt, rxPop_ring, rxWriteback_ring]
  dsimp only
  rw [htrunc]
  refine ⟨rfl, rfl, hlen, hhead, hposted, ?_⟩
  show vget (rxPop r.val (rxWriteback r.val f k true 1 cause s)).host.store r.val [] = rest
  rw [rxPop_store]
  exact congrArg List.tail hstore

/-- Without a descriptor the receive engine waits. -/
theorem rxGo_starved {r : Nat} {s : State} (hheld : (ringOf true r s).heldLen = none) (hposted : (ringOf true r s).rxPosted = []) :
    rxGo r s = s := by
  unfold rxGo rxRun
  split
  · rfl
  · simp only [hheld, hposted]
    split <;> rfl

theorem rxStarveTimeout_closes (r : Fin 8) (k : Nat) (f : StoreFrame) (rest : List StoreFrame) (s : State)
    (hheld : (ringOf true r.val s).heldLen = some k) (hposted : (ringOf true r.val s).rxPosted = []) (hmay : rxMay r.val s = true)
    (hstore : vget s.host.store r.val [] = f :: rest) :
    ∃ t, exec (.rxStarveTimeout r) s = .next t ∧ keepsBut [.host, .msi, .pc] s t ∧ (ringOf true r.val t).errEvt = true ∧
      (ringOf true r.val t).trunc = satU 16 ((ringOf true r.val s).trunc + 1) ∧ (ringOf true r.val t).heldLen = none ∧
      (ringOf true r.val t).head = ((ringOf true r.val s).head + 1) % 2 ^ (ringOf true r.val s).size ∧
      vget t.host.store r.val [] = rest := by
  obtain ⟨herr, htrunc, hlen, hhead, hnone, hrest⟩ := rxClose_held (cause := 1) hheld hstore
  have hexec : exec (.rxStarveTimeout r) s = .next (settle (rxClose r.val 1 s)) := by
    show done (when ((ringOf true r.val s).heldLen.isSome && (ringOf true r.val s).rxPosted.isEmpty && rxMay r.val s) _ s) = _
    rw [hheld, hposted, hmay, rxGo_starved hlen (hnone.trans hposted)]
    rfl
  refine ⟨_, hexec, keepsBut_done (keepsBut_mono (keepsBut_rxClose _ _ s) (by simp)) (by simp), ?_⟩
  rw [ringOf_settle, settle_store]
  exact ⟨herr, htrunc, hlen, hhead, hrest⟩

/-! ### The transmit engine's turn (R399, R403 to R405) -/

/-- Work of the switch on a frame: neither the transmit engine's turn nor what its rings have posted moves. -/
structure TxWork (s t : State) : Prop where
  frame : keepsBut [.port, .fwd, .q, .host, .msi, .pc] s t
  turn : t.host.txTurn = s.host.txTurn
  posted : ∀ k, (ringOf false k t).txPosted = (ringOf false k s).txPosted

namespace TxWork

theorem refl (s : State) : TxWork s s := ⟨keepsBut_refl _ s, rfl, fun _ => rfl⟩

theorem trans {s t u : State} (h : TxWork s t) (k : TxWork t u) : TxWork s u :=
  ⟨keepsBut_trans h.frame k.frame, k.turn.trans h.turn, fun j => (k.posted j).trans (h.posted j)⟩

theorem of_foldl {α : Type} {f : State → α → State} (h : ∀ t x, TxWork t (f t x)) (xs : List α) (s : State) :
    TxWork s (xs.foldl f s) :=
  List.foldlRecOn xs f (motive := TxWork s) (refl s) fun t ht x _ => ht.trans (h t x)

/-- Work on the ports, tables, queues or counters. -/
theorem of_frame {l : List Part} {s t : State} (h : keepsBut l s t) (hl : ∀ p ∈ l, p ∈ [Part.port, .fwd, .q, .msi, .pc] := by simp) :
    TxWork s t := by
  have hhost : Part.host ∉ l := fun m => by simpa using hl _ m
  have htx : t.host.tx = s.host.tx := host_field_of_keepsBut HostIf.tx (fun _ _ _ _ => rfl) h hhost
  exact ⟨keepsBut_mono h fun p hp => by have := hl p hp; simp at this ⊢; tauto,
    host_field_of_keepsBut HostIf.txTurn (fun _ _ _ _ => rfl) h hhost, fun k => congrArg (fun v => (vget v k {}).txPosted) htx⟩

theorem of_hostWrite (a : Nat) (b : List Byte) (s : State) : TxWork s (hostWrite a b s) :=
  ⟨keepsBut_mono (keepsBut_hostWrite a b s) (by simp), rfl, fun _ => rfl⟩

theorem of_ringMod (r : Nat) (f : Ring → Ring) (hf : ∀ g, (f g).txPosted = g.txPosted) (s : State) :
    TxWork s (ringMod false r f s) :=
  ⟨keepsBut_mono (keepsBut_ringMod false r f s) (by simp), rfl, fun k => vget_vmodN_kept s.host.tx r k {} Ring.txPosted hf⟩

theorem of_txPend (l : List TxPend) (s : State) : TxWork s { s with host := { s.host with txPend := l } } :=
  ⟨keepsBut_mono (keepsBut_withTxPend l s) (by simp), rfl, fun _ => rfl⟩

end TxWork

theorem ringFrameDone_txPosted (g : Ring) : (ringFrameDone g).txPosted = g.txPosted := by
  unfold ringFrameDone
  split <;> rfl

theorem txWork_txWriteback (x : TxPend) (res : Nat) (ts : Option (BitVec 64)) (s : State) : TxWork s (txWriteback x res ts s) := by
  unfold txWriteback
  extract_lets eop stamp s₁ s₂ s₃ s₄
  have h₁ : TxWork s s₁ := .of_foldl (fun t a => .of_hostWrite (a + 15) [0x80] t) _ s
  have h₂ : TxWork s₁ s₂ := by
    simp only [s₂]
    clear_value stamp
    split
    · exact .of_hostWrite _ _ s₁
    · exact .refl s₁
  have h₃ : TxWork s₂ s₃ := .of_hostWrite _ _ s₂
  have h₄ : TxWork s₃ s₄ := by
    refine .of_ringMod _ _ (fun g => ?_) s₃
    dsimp only
    split
    · rfl
    · rw [ringFrameDone_txPosted]
  have h := h₁.trans (h₂.trans (h₃.trans h₄))
  split
  · exact h.trans (.of_frame (keepsBut_bump 35 1 s₄))
  · exact h

theorem txWork_txDrain (r n : Nat) (s : State) : TxWork s (txDrain r n s) := by
  induction n generalizing s with
  | zero => exact .refl s
  | succ n ih =>
    unfold txDrain
    split
    · split
      · exact ((TxWork.of_txPend _ s).trans (txWork_txWriteback _ _ _ _)).trans (ih _)
      · exact .refl s
    · exact .refl s

theorem txWork_hostTxDone (fid res : Nat) (ts : Option (BitVec 64)) (s : State) : TxWork s (hostTxDone fid res ts s) := by
  unfold hostTxDone
  split
  · exact (TxWork.of_txPend _ s).trans (txWork_txDrain _ _ _)
  · exact .refl s

theorem txWork_hostDropped (d : FrameDesc) (s : State) : TxWork s (hostDropped d s) := by
  unfold hostDropped
  split
  · exact txWork_hostTxDone _ _ _ s
  · exact .refl s

theorem txWork_dropDown (d : FrameDesc) (s : State) : TxWork s (dropDown d s).2 := by
  unfold dropDown
  exact .of_foldl (fun t (o : OutCopy) => (TxWork.of_frame (keepsBut_macCount o.port 30 1 t)).trans (.of_frame (keepsBut_copyDropped d _))) _ s

theorem txWork_wredStep (g : Nat) (d : FrameDesc) (s : State) : TxWork s (wredStep g d s).2 := by
  unfold wredStep
  dsimp only
  split
  · exact .refl s
  · refine (TxWork.of_frame (keepsBut_inMod g (fun x => { x with draws := (x.draws + 1) % 65535 }) s)).trans ?_
    split
    · exact .refl _
    · exact .of_frame (keepsBut_setQueue g d _ _)

theorem txWork_refuse (g k : Nat) (d : FrameDesc) (s : State) : TxWork s (refuse g k d s) := by
  unfold refuse
  extract_lets s₁ s₂ s₃
  have h₁ : TxWork s s₁ := .of_frame (keepsBut_bump _ _ s)
  have h₂ : TxWork s₁ s₂ := by
    simp only [s₂]
    split
    · exact .of_frame (keepsBut_inMod g _ s₁)
    · exact .refl s₁
  have h₃ : TxWork s₂ s₃ := by
    simp only [s₃]
    split
    · exact .refl s₂
    · exact .of_foldl (fun t _ => .of_frame (keepsBut_withQ _ t)) _ s₂
  exact h₁.trans (h₂.trans (h₃.trans (txWork_hostDropped d s₃)))

theorem txWork_enqueue (g : Nat) (d : FrameDesc) (s : State) : TxWork s (enqueue g d s) := by
  unfold enqueue
  dsimp only
  refine TxWork.trans ?_ (.of_frame (keepsBut_countCells _ _ _ _))
  split
  · exact .of_frame (keepsBut_inMod g _ s)
  · exact .of_frame (keepsBut_setQueue g _ _ s)

theorem txWork_admitTc (g : Nat) (d : FrameDesc) (s : State) : TxWork s (admitTc g d s) := by
  unfold admitTc
  dsimp only
  split
  · exact txWork_refuse g 13 d s
  · refine (txWork_wredStep g d s).trans ?_
    split
    · exact txWork_refuse g _ d _
    · split
      · exact txWork_refuse g 17 d _
      · exact txWork_enqueue g d _

theorem txWork_admitFrame (g : Nat) (d : FrameDesc) (s : State) : TxWork s (admitFrame g d s) := by
  unfold admitFrame
  dsimp only
  refine (txWork_dropDown d s).trans ?_
  split
  · exact txWork_hostDropped d _
  · split
    · split
      · exact txWork_refuse g 12 _ _
      · exact txWork_enqueue g _ _
    · exact txWork_admitTc g _ _

/-- The state in which a chain has been fetched from ring `r`: the turn is past it. -/
def txTaken (r fid : Nat) (x : TxPend) (rest : List TxDesc) (s : State) : State :=
  ringMod false r (fun g => { g with txPosted := rest }) { s with
    nextFid := fid, host := { s.host with txTurn := (r + 1) % 8, txPend := s.host.txPend ++ [x] } }

theorem keepsBut_txTaken (r fid : Nat) (x : TxPend) (rest : List TxDesc) (s : State) :
    keepsBut [.host, .nextFid] s (txTaken r fid x rest s) := by
  intro p hp
  cases p <;> first | rfl | exact ⟨rfl, rfl, rfl⟩ | simp at hp

theorem txFetch_works (r : Nat) (bytes : List Byte) (s : State) :
    ∃ x, TxWork (txTaken r (s.nextFid + 1) x (chainOf (ringOf false r s).txPosted).2 s) (txFetch r bytes s) := by
  unfold txFetch
  extract_lets g c b d0 first fid _ s₁
  refine ⟨_, (?_ : TxWork s₁ _)⟩
  clear_value s₁
  split
  · refine TxWork.trans ?_ (txWork_hostTxDone _ _ _ _)
    split
    · exact .of_frame (keepsBut_bump _ _ s₁)
    · exact .refl s₁
  · exact txWork_admitFrame _ _ s₁

theorem txTurnOf_lt {s : State} {r : Nat} (h : txTurnOf s = some r) : r < 8 := by
  obtain ⟨i, -, rfl⟩ := List.mem_map.mp (List.mem_of_find?_eq_some h)
  exact Nat.mod_lt _ (by decide)

theorem txFrameFetch_takes (bytes : List Byte) (r : Nat) (s : State) (hturn : txTurnOf s = some r) (hruns : dmaRuns s = true) :
    ∃ t, exec (.txFrameFetch bytes) s = .next t ∧ keepsBut [.port, .fwd, .q, .host, .msi, .pc, .nextFid] s t ∧
      t.host.txTurn = (r + 1) % 8 ∧ t.nextFid = s.nextFid + 1 ∧
      (ringOf false r t).txPosted = (chainOf (ringOf false r s).txPosted).2 := by
  have hexec : exec (.txFrameFetch bytes) s = .next (settle (txFetch r bytes s)) := by
    show execTxFrameFetch bytes s = _
    unfold execTxFrameFetch
    rw [hturn, hruns]
    rfl
  obtain ⟨x, hwork⟩ := txFetch_works r bytes s
  refine ⟨_, hexec, keepsBut_done (keepsBut_then (keepsBut_txTaken r _ x _ s) hwork.frame (by simp) (by simp)) (by simp), ?_, ?_, ?_⟩
  · rw [settle_txTurn, hwork.turn]
    rfl
  · rw [settle_nextFid, show (txFetch r bytes s).nextFid = _ from hwork.frame .nextFid (by simp)]
    rfl
  · rw [ringOf_settle, hwork.posted, txTaken, ringOf_ringMod_same (txTurnOf_lt hturn)]

/-! ### MSI-X and D3hot (R389, R396, R397) -/

theorem vget_set {α : Type} {n : Nat} (v : Vector α n) (i : Fin n) (x : α) (k : Nat) (d : α) :
    vget (v.set i x) k d = if k = i.val then x else vget v k d := by
  unfold vget
  by_cases hk : k < n
  · simp [hk, Vector.getElem_set, eq_comm]
  · have hne : k ≠ i.val := fun e => hk (e ▸ i.isLt)
    simp [hk, hne]

/-- A message that may leave has left, and waits no more. -/
theorem sentHost_leaves {m : Nat → Bool} {h : HostIf} {v : Nat} (hv : v < 64) (hm : m v = true) (hmay : mayLeave h v = true) :
    v ∈ (sentHost m h).sent ∧ vget (sentHost m h).pba v false = false := by
  refine ⟨List.mem_append_left _ ?_, (vectorBits_get _ v false hv).trans (by simp [hm, hmay])⟩
  simp [hv, hm, hmay]

/-- What may leave once no longer waits after a settlement. -/
theorem settle_sent {s : State} {v : Nat} (hv : v < 64) (hmay : mayLeave s.host v = true) (hsent : v ∈ s.host.sent)
    (hpba : vget s.host.pba v false = false) : v ∈ (settle s).host.sent ∧ vget (settle s).host.pba v false = false := by
  refine ⟨List.mem_append_right _ hsent, (vectorBits_get _ v false hv).trans ?_⟩
  have hout : vget (sentHost (fun v => vectorSet s v && !(vget s.host.pend v false)) s.host).pba v false = _ :=
    vectorBits_get _ v false hv
  rw [hout, hmay, hpba]
  simp

theorem msixVectorUnmask_sends (v : Fin 64) (s : State) :
    ∃ t, exec (.msixVectorUnmask v) s = .next t ∧ keepsBut [.host, .msi] s t ∧
      vget t.host.masked v.val true = false ∧ (∀ k, k ≠ v.val → vget t.host.masked k true = vget s.host.masked k true) ∧
      t.host.rx = s.host.rx ∧ (s.host.pba[v] = true → s.host.d3hot = false → v.val ∈ t.host.sent ∧ vget t.host.pba v.val false = false) := by
  generalize hu : hostMod (fun h => { h with masked := h.masked.set v false }) s = u
  have hframe : keepsBut [.host, .msi] s u := hu ▸ keepsBut_hostMod _ s
  have hexec : exec (.msixVectorUnmask v) s = done (if s.host.pba[v] then sendVectors (· == v.val) u else u) := by rw [← hu]; rfl
  have hmasked : ∀ k, vget u.host.masked k true = if k = v.val then false else vget s.host.masked k true := fun k => by
    rw [← hu]
    exact vget_set s.host.masked v false k true
  have hrx : u.host.rx = s.host.rx := by rw [← hu]; rfl
  have hd3hot : u.host.d3hot = s.host.d3hot := by rw [← hu]; rfl
  have hv : vget u.host.masked v.val true = false := by rw [hmasked, if_pos rfl]
  have hrest : ∀ k, k ≠ v.val → vget u.host.masked k true = vget s.host.masked k true := fun k hk => by rw [hmasked, if_neg hk]
  cases hp : s.host.pba[v] with
  | false =>
    rw [hp, if_neg (by simp)] at hexec
    refine ⟨_, hexec, keepsBut_done hframe (by simp), ?_⟩
    rw [settle_masked, settle_rx]
    exact ⟨hv, hrest, hrx, fun h => absurd h (by simp)⟩
  | true =>
    rw [hp, if_pos rfl] at hexec
    refine ⟨_, hexec, keepsBut_done (keepsBut_then hframe (keepsBut_sendVectors _ u) (by simp) (by simp)) (by simp), ?_⟩
    rw [settle_masked, settle_rx]
    refine ⟨hv, hrest, hrx, fun _ hd => ?_⟩
    have hmay : mayLeave u.host v.val = true := by
      unfold mayLeave
      rw [hd3hot, hd, hv]
      rfl
    obtain ⟨hsent, hpba⟩ := sentHost_leaves (m := (· == v.val)) v.isLt (by simp) hmay
    exact settle_sent (s := sendVectors (· == v.val) u) v.isLt hmay hsent hpba

theorem rxGoAll_d3hot (s : State) : (rxGoAll s).host.d3hot = s.host.d3hot := by
  have hgo : ∀ (u : State) (r : Nat), (rxGo r u).host.d3hot = u.host.d3hot := fun u r => (RxWork.of_rxGo r u).d3hot
  unfold rxGoAll
  exact foldl_keeps (fun u => u.host.d3hot) (fun u r => rxGo r u) hgo (List.range 8) s

theorem d3hotExit_goesOn (s : State) (h : s.host.d3hot = true) :
    ∃ t, exec .d3hotExit s = .next t ∧ keepsBut [.host, .msi, .pc] s t ∧ t.host.d3hot = false := by
  have hexec : exec .d3hotExit s = done (rxGoAll (sendVectors
      (fun v => vget (hostMod (fun h => { h with d3hot := false }) s).host.pba v false)
      (hostMod (fun h => { h with d3hot := false }) s))) := by
    show done (when s.host.d3hot _ s) = _
    rw [h]
    rfl
  refine ⟨_, hexec, keepsBut_done (keepsBut_then (keepsBut_then (keepsBut_hostMod _ s) (keepsBut_sendVectors _ _)
    (n := [.host, .msi]) (by simp) (by simp)) (keepsBut_rxGoAll _) (by simp) (by simp)) (by simp), ?_⟩
  rw [settle_d3hot, rxGoAll_d3hot]
  rfl

/-! ### PERST_N and the Function Level Reset (R363, R378, R390) -/

/-- The host's accesses fail: those of the management core wait on, and the link is as it was. -/
structure HostFails (s t : State) : Prop where
  frame : keepsBut [.rst, .host, .msi] s t
  waiting : t.rst.waiting = s.rst.waiting
  perst : t.host.perst = s.host.perst
  linkUp : t.host.linkUp = s.host.linkUp

theorem putData_perst (who : Initiator) (v : Word) (s : State) : (putData who v s).host.perst = s.host.perst := rfl
theorem putData_linkUp (who : Initiator) (v : Word) (s : State) : (putData who v s).host.linkUp = s.host.linkUp := rfl

theorem errLog_perst (kind dom : Nat) (write : Bool) (who : Initiator) (off : Nat) (s : State) :
    (errLog kind dom write who off s).host.perst = s.host.perst := by
  unfold errLog
  generalize packW _ = x
  rfl

theorem errLog_linkUp (kind dom : Nat) (write : Bool) (who : Initiator) (off : Nat) (s : State) :
    (errLog kind dom write who off s).host.linkUp = s.host.linkUp := by
  unfold errLog
  generalize packW _ = x
  rfl

theorem hostFails_regError (kind dom off : Nat) (w : Option Word) (s : State) : HostFails s (regError kind dom .host off w s) where
  frame := keepsBut_regError kind dom .host off w s
  waiting := by
    obtain ⟨hlog, -, -⟩ := regError_holds kind dom .host off w s
    rw [hlog, errLog_waiting]
  perst := by
    cases w with
    | none => rw [regError_host_read, putData_perst, errLog_perst]
    | some v => rw [regError_host_write, errLog_perst]
  linkUp := by
    cases w with
    | none => rw [regError_host_read, putData_linkUp, errLog_linkUp]
    | some v => rw [regError_host_write, errLog_linkUp]

theorem hostAccessesFail_fails (s : State) :
    HostFails (rstMod (fun r => { r with waiting := r.waiting.filter (fun (y : Waiting) => y.who != .host) }) s)
      (hostAccessesFail s) :=
  List.foldlRecOn _ _ (motive := HostFails _) ⟨keepsBut_refl _ _, rfl, rfl, rfl⟩ fun t ht x _ => by
    have hx := hostFails_regError 4 x.domain x.off x.write t
    exact ⟨keepsBut_trans ht.frame hx.frame, hx.waiting.trans ht.waiting, hx.perst.trans ht.perst, hx.linkUp.trans ht.linkUp⟩

theorem keepsBut_hostReset (s : State) : keepsBut [.rst, .host, .msi, .mb] s (hostReset s) := by
  intro p hp
  cases p <;> first | rfl | exact ⟨rfl, rfl, rfl⟩ | simp at hp

theorem ringOf_hostReset (rx : Bool) (r : Nat) (s : State) : (ringOf rx r (hostReset s)).enable = false := by
  have hempty : ∀ n (v : Vector Ring n), ¬ r < n → (vget v r {}).enable = false := fun n v h => by simp [vget, h]
  by_cases hr : r < 8
  · cases rx with
    | true =>
      have hring : ringOf true r (hostReset s) = _ := vget_vmapI s.host.rx
        (fun i g => ringReset true g (vget s.host.store i.val []).length) hr {}
      rw [hring]
      rfl
    | false =>
      have hring : vget (s.host.tx.map (fun g => ringReset false g 0)) r (ringReset false {} 0) = _ :=
        vget_map (fun g => ringReset false g 0) s.host.tx r {}
      rw [vget_default _ hr (ringReset false {} 0) {}] at hring
      show (vget (s.host.tx.map (fun g => ringReset false g 0)) r {}).enable = false
      rw [hring]
      rfl
  · cases rx <;> exact hempty 8 _ hr

/-- What the reset of the host-facing units leaves, whatever is done with the link. -/
theorem hostReset_holds (s : State) (f : HostIf → HostIf) (hrx : ∀ h, (f h).rx = h.rx) (htx : ∀ h, (f h).tx = h.tx)
    (hmasked : ∀ h, (f h).masked = h.masked) :
    keepsBut [.rst, .host, .msi, .mb] s (settle (hostMod f (hostReset (hostAccessesFail s)))) ∧
    (∀ w ∈ (settle (hostMod f (hostReset (hostAccessesFail s)))).rst.waiting, w.who = .mgmt) ∧
    (∀ v : Fin 64, (settle (hostMod f (hostReset (hostAccessesFail s)))).host.masked[v] = true) ∧
    (∀ rx r, (ringOf rx r (settle (hostMod f (hostReset (hostAccessesFail s))))).enable = false) ∧
    (settle (hostMod f (hostReset (hostAccessesFail s)))).mb.chan = s.mb.chan := by
  have hfails := hostAccessesFail_fails s
  have hmb : (hostAccessesFail s).mb = s.mb := hfails.frame .mb (by simp)
  have hframe := keepsBut_then (keepsBut_rstMod (fun r => { r with waiting := r.waiting.filter (fun (y : Waiting) => y.who != .host) }) s)
    hfails.frame (n := [.rst, .host, .msi]) (by simp) (by simp)
  refine ⟨keepsBut_done (keepsBut_then (keepsBut_then hframe (keepsBut_hostReset _) (n := [.rst, .host, .msi, .mb]) (by simp)
    (fun _ q => q)) (keepsBut_hostMod f _) (by simp) (by simp)) (by simp), fun w hw => ?_, fun v => ?_, fun rx r => ?_, ?_⟩
  · rw [settle_rst] at hw
    have hwait : w ∈ (hostAccessesFail s).rst.waiting := hw
    rw [hfails.waiting] at hwait
    have hwho := (List.mem_filter.mp hwait).2
    cases h : w.who with
    | host => simp [h] at hwho
    | mgmt => rfl
  · rw [settle_masked, show (hostMod f (hostReset (hostAccessesFail s))).host.masked = Vector.replicate 64 true from hmasked _]
    simp
  · rw [ringOf_settle, ringOf_congr (s := hostReset (hostAccessesFail s)) (hrx _) (htx _), ringOf_hostReset]
  · rw [settle_mb]
    show (hostAccessesFail s).mb.chan = s.mb.chan
    rw [hmb]

theorem perstNAssert_resets (s : State) :
    ∃ t, exec .perstNAssert s = .next t ∧ keepsBut [.rst, .host, .msi, .mb] s t ∧ (∀ w ∈ t.rst.waiting, w.who = .mgmt) ∧
      t.host.perst = true ∧ t.host.linkUp = false ∧ (∀ v : Fin 64, t.host.masked[v] = true) ∧
      (∀ rx r, (ringOf rx r t).enable = false) ∧ t.mb.chan = s.mb.chan ∧ t.mb.evqEnable = false := by
  obtain ⟨hframe, hwaiting, hmasked, hrings, hchan⟩ := hostReset_holds s (fun h => { h with perst := true, linkUp := false })
    (fun _ => rfl) (fun _ => rfl) (fun _ => rfl)
  exact ⟨_, rfl, hframe, hwaiting, rfl, rfl, hmasked, hrings, hchan, rfl⟩

theorem functionLevelReset_resets (s : State) :
    ∃ t, exec .functionLevelReset s = .next t ∧ keepsBut [.rst, .host, .msi, .mb] s t ∧ t.host.linkUp = s.host.linkUp ∧
      t.host.perst = s.host.perst ∧ (∀ v : Fin 64, t.host.masked[v] = true) ∧ (∀ rx r, (ringOf rx r t).enable = false) ∧
      t.mb.chan = s.mb.chan := by
  obtain ⟨hframe, -, hmasked, hrings, hchan⟩ := hostReset_holds s (fun h => h) (fun _ => rfl) (fun _ => rfl) (fun _ => rfl)
  have hfails := hostAccessesFail_fails s
  refine ⟨_, rfl, hframe, ?_, ?_, hmasked, hrings, hchan⟩
  · rw [settle_linkUp]
    exact hfails.linkUp
  · rw [settle_perst]
    exact hfails.perst

/-- PERST_N has risen: the link trains where D3 answers. -/
def perstRisen (up : Bool) (s : State) : State :=
  let t := hostMod (fun h => { h with perst := false, linkUp := h.modeSet && up }) s
  { t with pm := { t.pm with wakeN := true } }

theorem keepsBut_perstRisen (up : Bool) (s : State) : keepsBut [.pm, .host, .msi] s (perstRisen up s) :=
  keepsBut_then (keepsBut_hostMod _ s) (keepsBut_withPm _ _) (by simp) (by simp)

theorem exec_perstNRelease {s : State} (h : s.host.perst = true) : exec .perstNRelease s =
    done (if (vget s.pm.dom 3 {}).st == .retention || (vget s.pm.dom 3 {}).st == .off then
        wakeFrom 3 0 (wakeMask s 3 0) (perstRisen ((vget s.pm.dom 3 {}).st == .on || (vget s.pm.dom 3 {}).st == .stopped) s)
      else perstRisen ((vget s.pm.dom 3 {}).st == .on || (vget s.pm.dom 3 {}).st == .stopped) s) := by
  show done (when s.host.perst _ s) = _
  rw [h]
  rfl

theorem perstNRelease_answers (s : State) (h : s.host.perst = true)
    (hd3 : domOn s 3 = true ∨ (vget s.pm.dom 3 {}).st = .stopped) :
    ∃ t, exec .perstNRelease s = .next t ∧ keepsBut [.pm, .host, .msi] s t ∧ t.host.perst = false ∧ t.host.linkUp = s.host.modeSet := by
  have hst : (vget s.pm.dom 3 {}).st = .on ∨ (vget s.pm.dom 3 {}).st = .stopped := hd3.imp_left fun h => by simpa [domOn] using h
  have hexec : exec .perstNRelease s = .next (settle (perstRisen true s)) := by
    rw [exec_perstNRelease h]
    rcases hst with e | e <;> rw [e] <;> rfl
  refine ⟨_, hexec, keepsBut_done (keepsBut_perstRisen true s) (by simp), rfl, ?_⟩
  rw [settle_linkUp]
  exact Bool.and_true _

theorem perstNRelease_wakes (s : State) (h : s.host.perst = true)
    (hd3 : (vget s.pm.dom 3 {}).st = .retention ∨ (vget s.pm.dom 3 {}).st = .off) :
    ∃ t, exec .perstNRelease s = .next t ∧ keepsBut [.te, .pm, .host, .msi, .pc] s t ∧ t.host.perst = false ∧
      t.host.linkUp = false ∧ ((wakeMask s 3 0).getLsbD 3 = true → (vget t.pm.dom 3 {}).target = .on) := by
  have hexec : exec .perstNRelease s = .next (settle (wakeFrom 3 0 (wakeMask s 3 0) (perstRisen false s))) := by
    rw [exec_perstNRelease h]
    rcases hd3 with e | e <;> rw [e] <;> rfl
  have hwake := keepsBut_wakeFrom 3 0 (wakeMask s 3 0) (perstRisen false s)
  have hperst := host_field_of_keepsBut HostIf.perst (fun _ _ _ _ => rfl) hwake (by simp)
  have hlink := host_field_of_keepsBut HostIf.linkUp (fun _ _ _ _ => rfl) hwake (by simp)
  refine ⟨_, hexec, keepsBut_done (keepsBut_then (keepsBut_perstRisen false s) hwake (by simp) (by simp)) (by simp), ?_, ?_, fun hm => ?_⟩
  · rw [settle_perst, hperst]
    rfl
  · rw [settle_linkUp, hlink]
    exact Bool.and_false _
  · rw [settle_pm]
    exact wakeFrom_target (by decide) (by decide) hm

/-- Settles O45: the switch's work on a frame leaves the transmit engine's turn and rings; the reset of the host-facing units
writes the rings, the masks and the accesses that wait, whatever is done with the link. -/
theorem hostTransfersAndReset : Obligations.HostTransfersAndReset :=
  ⟨⟨rxStarveTimeout_closes, txFrameFetch_takes⟩, msixVectorUnmask_sends,
    fun s => ⟨_, rfl, keepsBut_done (keepsBut_hostMod _ s) (by simp), rfl, rfl⟩, d3hotExit_goesOn,
    fun s => ⟨perstNAssert_resets s, functionLevelReset_resets s⟩,
    fun s h => ⟨perstNRelease_answers s h, perstNRelease_wakes s h⟩⟩

end Sys2Proof.Machine

/-! Doorbells, buffers, the judgement of commands and their final responses; the event ring and the wrap of a counter (R410 to R417,
R421, R426, R492). -/

namespace Sys2Proof.Machine

-- The joined text is one compile: no thread beside the main one for each proof.
set_option Elab.async false

/-! ### Channels -/

theorem chanOf_chanMod_same (c : Fin 4) (f : Channel → Channel) (s : State) :
    chanOf (chanMod c.val f s) c.val = f (chanOf s c.val) := vmodN_same s.mb.chan c.val f {} c.isLt

theorem chanOf_chanMod_other {c d : Nat} (h : d ≠ c) (f : Channel → Channel) (s : State) :
    chanOf (chanMod c f s) d = chanOf s d := vmodN_other s.mb.chan c d f {} h

theorem chanOf_settle (s : State) (c : Nat) : chanOf (settle s) c = chanOf s c := by
  unfold chanOf
  rw [settle_mb]

theorem chanOf_of_mb {s t : State} (h : t.mb = s.mb) (c : Nat) : chanOf t c = chanOf s c := by
  unfold chanOf
  rw [h]

theorem buffersOk_of_mb {s t : State} (h : t.mb = s.mb) : buffersOk t = buffersOk s := by
  unfold buffersOk
  rw [h]

/-- A channel's buffers in canonical form. -/
def chanWf (c : Channel) : Bool := Mem.wf c.cmdBuf && Mem.wf c.rspBuf

theorem buffersOk_iff (s : State) : buffersOk s = true ↔ ∀ (c : Nat) (h : c < 4), chanWf (s.mb.chan[c]) = true := by
  unfold buffersOk
  rw [Vector.all_eq_true]
  rfl

/-- A change that keeps a channel's buffers in canonical form keeps all of them so. -/
theorem buffersOk_chanMod (c : Nat) {f : Channel → Channel} (hf : ∀ x, chanWf x = true → chanWf (f x) = true) {s : State}
    (h : buffersOk s = true) : buffersOk (chanMod c f s) = true := by
  rw [buffersOk_iff] at h ⊢
  intro d hd
  show chanWf ((vmodN s.mb.chan c f)[d]) = true
  unfold vmodN
  split
  · rw [Vector.getElem_set]
    split
    · exact hf _ (h _ _)
    · exact h d hd
  · exact h d hd

theorem chanWf_rspBuf {x : Channel} (a : Nat) (b : List Byte) (h : chanWf x = true) :
    chanWf { x with rspBuf := Mem.writeAll x.rspBuf a b } = true := by
  simp only [chanWf, Bool.and_eq_true] at h ⊢
  exact ⟨h.1, Mem.wf_writeAll b _ a h.2⟩

theorem chanWf_cmdBuf {x : Channel} (a : Nat) (b : List Byte) (h : chanWf x = true) :
    chanWf { x with cmdBuf := Mem.writeAll x.cmdBuf a b } = true := by
  simp only [chanWf, Bool.and_eq_true] at h ⊢
  exact ⟨Mem.wf_writeAll b _ a h.1, h.2⟩

/-! ### Doorbells and buffers (R410) -/

theorem chanLocked_iff (s : State) (c : Nat) :
    chanLocked s c = true ↔ (chanOf s c).st = .pending ∨ (chanOf s c).st = .executing := by
  simp [chanLocked]

section
variable {c : Fin 4} {v : Word} {s : State} (hans : answers .host s)
include hans

/-- A mailbox register that the host writes. -/
theorem regAccess_mailbox {off : Nat} {r : RegId} (hr : regAt s off = r) (ha : off % 4 = 0) (hn : r ≠ .outside ∧ r ≠ .hole)
    (hrst : ownerInReset s r = false) (hd : (regOwner r).1 = 3) :
    regAccess .host off (some v) s = resend r (writeEffect .host off r v s) := by
  obtain ⟨hup, hd3⟩ := hans
  have hon : domOn s (regOwner r).1 = true := by
    rw [hd]
    exact hd3 rfl
  rw [regAccess_of_reaches (some v) (reaches_of_regAt ⟨hup, hd3⟩ hr ha hn hrst hon), hr, regPerform_write, accessStart_host]

theorem exec_mbDoorbellRing : exec (.mbDoorbellRing c v) s = .next (settle (ringDoorbell c.val v s)) := by
  have hc := c.isLt
  have hr : regAt s (0x20000 + c.val * 0x40) = .mbDoorbell c.val := by
    have hmb : regAt s (0x20000 + c.val * 0x40) = regMb (c.val * 0x40) := by
      unfold regAt
      rw [if_neg (by omega), if_neg (by omega), if_pos (by omega), Nat.add_sub_cancel_left]
    rw [hmb]
    unfold regMb
    rw [if_neg (by omega), if_pos (by omega), Nat.mul_mod_left, Nat.mul_div_cancel _ (by decide)] <;> rfl
  refine done_of_eq ?_
  rw [regAccess_mailbox hans hr (by omega) (by simp) rfl rfl]
  rfl

theorem mbDoorbellRing_pends (hv : v.getLsbD 0 = true) (hfree : chanLocked s c.val = false) :
    ∃ t, exec (.mbDoorbellRing c v) s = .next t ∧ keepsBut [.mb, .msi] s t ∧
      t.mb = { s.mb with chan := vmodN s.mb.chan c.val (fun x => { x with st := .pending }) } := by
  have hring : ringDoorbell c.val v s = chanMod c.val (fun x => { x with st := .pending }) s := by
    simp [ringDoorbell, hv, hfree]
  refine ⟨_, exec_mbDoorbellRing hans, ?_⟩
  rw [hring]
  exact ⟨keepsBut_done (keepsBut_mono (keepsBut_chanMod _ _ s) (by simp)) (by simp), settle_mb _⟩

theorem mbDoorbellRing_ignored (hv : v.getLsbD 0 = true) (hlocked : chanLocked s c.val = true) :
    ∃ t, exec (.mbDoorbellRing c v) s = .next t ∧ keepsBut [.mb, .msi] s t ∧
      t.mb = { s.mb with chan := vmodN s.mb.chan c.val (fun x => { x with dbIgnored := true }) } := by
  have hring : ringDoorbell c.val v s = chanMod c.val (fun x => { x with dbIgnored := true }) s := by
    simp [ringDoorbell, hv, hlocked]
  refine ⟨_, exec_mbDoorbellRing hans, ?_⟩
  rw [hring]
  exact ⟨keepsBut_done (keepsBut_mono (keepsBut_chanMod _ _ s) (by simp)) (by simp), settle_mb _⟩

theorem exec_mbBufferWrite {k : Nat} (hk : k < 1024) : exec (.mbBufferWrite (0x30000 + c.val * 0x1000 + 4 * k) v) s =
    .next (settle (writeBuffer .host (c.val * 0x1000 + 4 * k) v s)) := by
  have hc := c.isLt
  have hr : regAt s (0x30000 + c.val * 0x1000 + 4 * k) = .mbBuf (c.val * 0x1000 + 4 * k) := by
    have hmb : regAt s (0x30000 + c.val * 0x1000 + 4 * k) = regMb (0x10000 + (c.val * 0x1000 + 4 * k)) := by
      unfold regAt
      have hblock : 0x30000 + c.val * 0x1000 + 4 * k - 0x20000 = 0x10000 + (c.val * 0x1000 + 4 * k) := by omega
      rw [if_neg (by omega), if_neg (by omega), if_pos (by omega), hblock]
    rw [hmb]
    unfold regMb
    rw [if_pos (by omega), Nat.add_sub_cancel_left]
  have hwrite := regAccess_mailbox (v := v) hans hr (by omega) (by simp) rfl rfl
  generalize hoff : 0x30000 + c.val * 0x1000 + 4 * k = off at hwrite
  have hrange : decide (0x30000 ≤ off ∧ off < 0x50000) = true := decide_eq_true (by omega)
  show done (when (decide (0x30000 ≤ off ∧ off < 0x50000)) _ s) = _
  rw [hrange, hwrite]
  rfl

end

/-- A word to a command buffer is discarded while it is locked, and else stands at its offset. -/
theorem writeBuffer_command {c : Fin 4} {k : Nat} (hk : k < 1024) (v : Word) (s : State) :
    writeBuffer .host (c.val * 0x1000 + 4 * k) v s =
      if chanLocked s c.val then chanMod c.val (fun x => { x with wrDiscard := true }) s
      else chanMod c.val (fun x => { x with cmdBuf := Mem.writeAll x.cmdBuf (4 * k) (le 4 v.toNat) }) s := by
  have hc := c.isLt
  have hchan : (c.val * 0x1000 + 4 * k) % 0x10000 / 4096 = c.val := by omega
  have hoff : (c.val * 0x1000 + 4 * k) % 4096 = 4 * k := by omega
  unfold writeBuffer
  dsimp only
  rw [if_pos (by omega), hchan, hoff]

theorem le_getElem (n v i : Nat) (h : i < (le n v).length) : (le n v)[i] = BitVec.ofNat 8 (v / 2 ^ (8 * i)) := by
  induction n generalizing v i with
  | zero => simp [le] at h
  | succ n ih =>
    cases i with
    | zero => simp [le]
    | succ i =>
      simp only [le, List.getElem_cons_succ]
      rw [ih, Nat.div_div_eq_div_mul, show 8 * (i + 1) = 8 + 8 * i by omega, Nat.pow_add]

/-- A written word reads back, byte by byte, and no other address changes. -/
theorem read_writeWord (m : Mem) (k v a : Nat) : Mem.read (Mem.writeAll m (4 * k) (le 4 v)) a =
    if 4 * k ≤ a ∧ a < 4 * k + 4 then BitVec.ofNat 8 (v / 2 ^ (8 * (a - 4 * k))) else Mem.read m a := by
  split
  · rename_i h
    have hi : a - 4 * k < (le 4 v).length := by
      rw [length_le]
      omega
    have hread := Mem.read_writeAll (le 4 v) m (4 * k) (a - 4 * k) hi
    rw [Nat.add_sub_cancel' h.1] at hread
    rw [hread, le_getElem]
  · rename_i h
    exact Mem.read_writeAll_other _ _ _ _ (by rw [length_le]; omega)

theorem mbBufferWrite_stands {c : Fin 4} {v : Word} {s : State} (hans : answers .host s) (k : Nat) (hk : k < 1024) :
    ∃ t, exec (.mbBufferWrite (0x30000 + c.val * 0x1000 + 4 * k) v) s = .next t ∧ keepsBut [.mb, .msi] s t ∧
      (buffersOk s = true → buffersOk t = true) ∧ (∀ d, d ≠ c.val → chanOf t d = chanOf s d) ∧
      (chanLocked s c.val = true → chanOf t c.val = { chanOf s c.val with wrDiscard := true }) ∧
      (chanLocked s c.val = false → chanOf t c.val = { chanOf s c.val with cmdBuf := (chanOf t c.val).cmdBuf } ∧
        ∀ a, Mem.read (chanOf t c.val).cmdBuf a =
          if 4 * k ≤ a ∧ a < 4 * k + 4 then BitVec.ofNat 8 (v.toNat / 2 ^ (8 * (a - 4 * k))) else Mem.read (chanOf s c.val).cmdBuf a) := by
  refine ⟨_, exec_mbBufferWrite hans hk, ?_⟩
  rw [writeBuffer_command hk, buffersOk_of_mb (settle_mb _)]
  simp only [chanOf_settle]
  cases hlocked : chanLocked s c.val with
  | true =>
    rw [if_pos rfl]
    refine ⟨keepsBut_done (keepsBut_mono (keepsBut_chanMod _ _ s) (by simp)) (by simp),
      buffersOk_chanMod _ (by exact fun _ h => h), fun d hd => chanOf_chanMod_other hd _ s, fun _ => chanOf_chanMod_same c _ s,
      fun h => absurd h (by decide)⟩
  | false =>
    rw [if_neg (by decide)]
    refine ⟨keepsBut_done (keepsBut_mono (keepsBut_chanMod _ _ s) (by simp)) (by simp),
      buffersOk_chanMod _ (fun x h => chanWf_cmdBuf _ _ h), fun d hd => chanOf_chanMod_other hd _ s, fun h => absurd h (by decide),
      fun _ => ?_⟩
    rw [chanOf_chanMod_same]
    exact ⟨rfl, read_writeWord _ k v.toNat⟩

/-- Settles O37: the doorbell and the buffers go by the channel's lock, and a written word reads back byte by byte. -/
theorem doorbellsAndBuffers : Obligations.DoorbellsAndBuffers := fun c _ s hans _ =>
  ⟨fun hv hp he => mbDoorbellRing_pends hans hv (by simp [chanLocked, hp, he]),
    fun hv h => mbDoorbellRing_ignored hans hv ((chanLocked_iff s c.val).mpr h), mbBufferWrite_stands hans, chanLocked_iff s c.val⟩

/-! ### The judgement of a command (R411, R414, R415) -/

/-- What a judgement makes of a channel's command. -/
def acknowledged (c : Fin 4) (b : List Byte) (s : State) : Judged → State
  | .new r => startCommand c b r s
  | .replay => endResponse c.val (cmdOf b).hseq (asReplay (chanOf s c.val).cached) s
  | .rejected k => endResponse c.val (cmdOf b).hseq (seqError (cmdOf b) k s.mb.dseq) s

theorem exec_mbAcknowledge {c : Fin 4} {s : State} (hup : obilwinUp s = true) (hst : (chanOf s c.val).st = .pending) :
    exec (.mbAcknowledge c) s = .next (settle (acknowledged c (Mem.readN (chanOf s c.val).cmdBuf 0 4096) s
      (judge (chanOf s c.val).sync (chanOf s c.val).lastHSeq (cmdOf (Mem.readN (chanOf s c.val).cmdBuf 0 4096)).hseq))) := by
  show execMbAcknowledge c s = _
  unfold execMbAcknowledge
  dsimp only
  rw [hup, hst]
  generalize Mem.readN (chanOf s c.val).cmdBuf 0 4096 = b
  cases judge (chanOf s c.val).sync (chanOf s c.val).lastHSeq (cmdOf b).hseq <;> rfl

theorem judge_new {sync : Bool} {last h : Nat} (hnew : sync = false ∨ h = (last + 1) % 65536) : judge sync last h = .new (!sync) := by
  cases sync with
  | false => rfl
  | true => simp [judge, hnew.resolve_left (by decide)]

theorem judge_replay {last h : Nat} (hlast : h = last) : judge true last h = .replay := by
  subst hlast
  exact judge_same h

theorem judge_rejected {last h : Nat} (hnext : h ≠ (last + 1) % 65536) (hlast : h ≠ last) :
    judge true last h = .rejected ((last + 1) % 65536) := by
  simp [judge, hnext, hlast]

/-- A command taken up: its channel executes it, and no other channel moves. -/
theorem startCommand_takes (c : Fin 4) (b : List Byte) (seqReset : Bool) (s : State) :
    keepsBut [.mb, .pc, .free] s (startCommand c b seqReset s) ∧ (chanOf (startCommand c b seqReset s) c.val).st = .executing ∧
      (chanOf (startCommand c b seqReset s) c.val).exec = some (newExec s (.host c) b seqReset false).1 ∧
      (chanOf (startCommand c b seqReset s) c.val).sync = true ∧
      (chanOf (startCommand c b seqReset s) c.val).lastHSeq = (newExec s (.host c) b seqReset false).1.cmd.hseq ∧
      ∀ d, d ≠ c.val → chanOf (startCommand c b seqReset s) d = chanOf s d := by
  have hexec := keepsBut_newExec s (.host c) b seqReset false
  have hmb : (newExec s (.host c) b seqReset false).2.mb = s.mb := hexec .mb (by simp)
  unfold startCommand
  generalize newExec s (.host c) b seqReset false = r at hexec hmb ⊢
  obtain ⟨e, u⟩ := r
  extract_lets _ _ s₁ s₂
  have hother : ∀ d, d ≠ c.val → chanOf s₁ d = chanOf s d := fun d hd =>
    (chanOf_chanMod_other hd _ u).trans (chanOf_of_mb hmb d)
  have hframe := keepsBut_then hexec (keepsBut_chanMod c.val
    (fun x => { x with st := .executing, sync := true, lastHSeq := e.cmd.hseq, exec := some e }) u) (n := [.mb, .free]) (by simp) (by simp)
  have hsame : chanOf s₁ c.val = { chanOf u c.val with st := .executing, sync := true, lastHSeq := e.cmd.hseq, exec := some e } :=
    chanOf_chanMod_same c _ u
  have hcounted : keepsBut [.pc] s₁ s₂ := by
    simp only [s₂]
    split
    · exact keepsBut_bump 36 1 s₁
    · exact keepsBut_refl _ s₁
  have hframe₂ := keepsBut_then hframe hcounted (n := [.mb, .pc, .free]) (by simp) (by simp)
  have hmb₂ : s₂.mb = s₁.mb := hcounted .mb (by simp)
  clear_value s₂
  split
  · have hsame₃ : chanOf (putResponse c.val (inProgressBytes e.cmd (Config.freeNat s₂.free)) { s₂ with free := s₂.free + 1 }) c.val =
        _ := chanOf_chanMod_same c _ _
    have hfree : keepsBut [.free] s₂ { s₂ with free := s₂.free + 1 } := keepsBut_withFree (s₂.free + 1) s₂
    rw [hsame₃, chanOf_of_mb (hfree .mb (by simp)), chanOf_of_mb hmb₂, hsame]
    refine ⟨keepsBut_then hframe₂ (keepsBut_then hfree (keepsBut_chanMod _ _ _) (n := [.mb, .free]) (by simp) (by simp))
      (fun _ q => q) (by simp), rfl, rfl, rfl, rfl, fun d hd => ?_⟩
    exact (chanOf_chanMod_other hd _ _).trans ((chanOf_of_mb hmb₂ d).trans (hother d hd))
  · rw [chanOf_of_mb hmb₂, hsame]
    exact ⟨hframe₂, rfl, rfl, rfl, rfl, fun d hd => (chanOf_of_mb hmb₂ d).trans (hother d hd)⟩

/-- A response that ends a channel's turn. -/
theorem endResponse_ends (c : Fin 4) (hseq : Nat) (b : List Byte) (s : State) :
    keepsBut [.mb] s (endResponse c.val hseq b s) ∧
      chanOf (endResponse c.val hseq b s) c.val = { chanOf s c.val with
        rspBuf := Mem.writeAll (chanOf s c.val).rspBuf 0 b, respEvt := true, st := .done, respHSeq := hseq } := by
  refine ⟨keepsBut_trans (keepsBut_chanMod _ _ s) (keepsBut_chanMod _ _ _), ?_⟩
  unfold endResponse putResponse
  rw [chanOf_chanMod_same, chanOf_chanMod_same]

theorem buffersOk_endResponse (c hseq : Nat) (b : List Byte) {s : State} (h : buffersOk s = true) :
    buffersOk (endResponse c hseq b s) = true :=
  buffersOk_chanMod _ (by exact fun _ hx => hx) (buffersOk_chanMod _ (by exact fun _ hx => chanWf_rspBuf 0 b hx) h)

theorem mbAcknowledge_judges (c : Fin 4) (s : State) (hup : obilwinUp s = true) (hst : (chanOf s c.val).st = .pending) :
    let cmd := cmdOf (Mem.readN (chanOf s c.val).cmdBuf 0 4096)
    let last := (chanOf s c.val).lastHSeq
    (((chanOf s c.val).sync = false ∨ cmd.hseq = (last + 1) % 65536) →
      ∃ t e, exec (.mbAcknowledge c) s = .next t ∧ keepsBut [.mb, .msi, .pc, .free] s t ∧ (chanOf t c.val).st = .executing ∧
        (chanOf t c.val).exec = some e ∧ e.cmd = { cmd with seqReset := !(chanOf s c.val).sync } ∧
        (chanOf t c.val).sync = true ∧ (chanOf t c.val).lastHSeq = cmd.hseq ∧
        e.result = firstCheck s (.host c) (Mem.readN (chanOf s c.val).cmdBuf 0 4096) { cmd with seqReset := !(chanOf s c.val).sync } false ∧
        ∀ d, d ≠ c.val → chanOf t d = chanOf s d) ∧
    ((chanOf s c.val).sync = true → cmd.hseq ≠ (last + 1) % 65536 → cmd.hseq = last →
      ∃ t, exec (.mbAcknowledge c) s = .next t ∧ keepsBut [.mb, .msi] s t ∧ (chanOf t c.val).st = .done ∧
        (chanOf t c.val).respHSeq = cmd.hseq ∧ (chanOf t c.val).respEvt = true ∧ (chanOf t c.val).lastHSeq = last ∧
        (chanOf t c.val).rspBuf = Mem.writeAll (chanOf s c.val).rspBuf 0 (asReplay (chanOf s c.val).cached)) ∧
    ((chanOf s c.val).sync = true → cmd.hseq ≠ (last + 1) % 65536 → cmd.hseq ≠ last →
      ∃ t, exec (.mbAcknowledge c) s = .next t ∧ keepsBut [.mb, .msi] s t ∧ (chanOf t c.val).st = .done ∧
        (chanOf t c.val).lastHSeq = last ∧ (chanOf t c.val).cached = (chanOf s c.val).cached ∧
        (chanOf t c.val).rspBuf =
          Mem.writeAll (chanOf s c.val).rspBuf 0 (seqError cmd ((last + 1) % 65536) s.mb.dseq)) := by
  have hexec := exec_mbAcknowledge hup hst
  generalize Mem.readN (chanOf s c.val).cmdBuf 0 4096 = b at hexec
  refine ⟨fun hnew => ?_, fun hsync hnext hlast => ?_, fun hsync hnext hlast => ?_⟩
  · rw [judge_new hnew] at hexec
    obtain ⟨hframe, hst', hrun, hsync, hseq, hother⟩ := startCommand_takes c b (!(chanOf s c.val).sync) s
    refine ⟨_, (newExec s (.host c) b (!(chanOf s c.val).sync) false).1, hexec, keepsBut_done (keepsBut_mono hframe (by simp)) (by simp), ?_⟩
    simp only [chanOf_settle]
    exact ⟨hst', hrun, rfl, hsync, hseq, rfl, hother⟩
  · rw [hsync, judge_replay hlast, acknowledged] at hexec
    obtain ⟨hframe, hchan⟩ := endResponse_ends c (cmdOf b).hseq (asReplay (chanOf s c.val).cached) s
    refine ⟨_, hexec, keepsBut_done (keepsBut_mono hframe (by simp)) (by simp), ?_⟩
    rw [chanOf_settle, hchan]
    exact ⟨rfl, rfl, rfl, rfl, rfl⟩
  · rw [hsync, judge_rejected hnext hlast, acknowledged] at hexec
    obtain ⟨hframe, hchan⟩ := endResponse_ends c (cmdOf b).hseq
      (seqError (cmdOf b) (((chanOf s c.val).lastHSeq + 1) % 65536) s.mb.dseq) s
    refine ⟨_, hexec, keepsBut_done (keepsBut_mono hframe (by simp)) (by simp), ?_⟩
    rw [chanOf_settle, hchan]
    exact ⟨rfl, rfl, rfl, rfl⟩

/-! ### The final response (R416, R417) -/

/-- The final response of a channel's command of which nothing is left to do. -/
theorem finish_host {c : Fin 4} {e : Exec} (r : CmdResult) {s : State} (hnow : e.inProgress = false) (hreset : e.resetAfter = none)
    (hd3 : e.d3After = none) :
    keepsBut [.mb] s (finish (.host c) e r s) ∧ chanOf (finish (.host c) e r s) c.val = { chanOf s c.val with
      rspBuf := Mem.writeAll (chanOf s c.val).rspBuf 0 (respBytes e.cmd r (finalFlags e.cmd) s.mb.dseq), respEvt := true
      st := .done, respHSeq := e.cmd.hseq, exec := none, cached := respBytes e.cmd r (finalFlags e.cmd) s.mb.dseq } ∧
    (buffersOk s = true → buffersOk (finish (.host c) e r s) = true) := by
  have hfinish : finish (.host c) e r s = chanMod c.val (fun x => { x with
      exec := none, cached := respBytes e.cmd r (finalFlags e.cmd) s.mb.dseq })
      (endResponse c.val e.cmd.hseq (respBytes e.cmd r (finalFlags e.cmd) s.mb.dseq) s) := by
    simp [finish, afterResponse, hnow, hreset, hd3]
  generalize respBytes e.cmd r (finalFlags e.cmd) s.mb.dseq = b at hfinish
  obtain ⟨hframe, hchan⟩ := endResponse_ends c e.cmd.hseq b s
  rw [hfinish, chanOf_chanMod_same, hchan]
  exact ⟨keepsBut_trans hframe (keepsBut_chanMod _ _ _), rfl,
    fun h => buffersOk_chanMod _ (by exact fun _ hx => hx) (buffersOk_endResponse _ _ b h)⟩

theorem mbFinalResponse_answers (c : Fin 4) (e : Exec) (r : CmdResult) (s : State) (hup : obilwinUp s = true)
    (hexec : (chanOf s c.val).exec = some e) (hresult : e.result = some r) (hnow : e.inProgress = false)
    (hreset : e.resetAfter = none) (hd3 : e.d3After = none) :
    ∃ t, exec (.mbFinalResponse (.host c)) s = .next t ∧ keepsBut [.mb, .msi] s t ∧ (chanOf t c.val).st = .done ∧
      (chanOf t c.val).respHSeq = e.cmd.hseq ∧ (chanOf t c.val).respEvt = true ∧ (chanOf t c.val).exec = none ∧
      (chanOf t c.val).cached = respBytes e.cmd r (finalFlags e.cmd) s.mb.dseq ∧
      (chanOf t c.val).rspBuf = Mem.writeAll (chanOf s c.val).rspBuf 0 (chanOf t c.val).cached ∧
      (chanOf t c.val).lastHSeq = (chanOf s c.val).lastHSeq ∧ (buffersOk s = true → buffersOk t = true) := by
  have hof : execOf s (.host c) = some e := hexec
  have hended : workEnded (.host c) e s = s := by simp [workEnded, hresult]
  have hrun : exec (.mbFinalResponse (.host c)) s = .next (settle (finish (.host c) e r s)) := by
    show execMbFinalResponse (.host c) s = _
    simp only [execMbFinalResponse, hup, hof, hended, hresult]
    rfl
  obtain ⟨hframe, hchan, hok⟩ := finish_host r hnow hreset hd3 (c := c) (s := s)
  refine ⟨_, hrun, keepsBut_done (keepsBut_mono hframe (by simp)) (by simp), ?_⟩
  rw [chanOf_settle, hchan, buffersOk_of_mb (settle_mb _)]
  exact ⟨rfl, rfl, rfl, rfl, rfl, rfl, rfl, hok⟩

theorem commandDeadline_ends (c : Fin 4) (e : Exec) (s : State) (hup : obilwinUp s = true) (hexec : (chanOf s c.val).exec = some e)
    (hresult : e.result = none) (hnow : e.inProgress = false) :
    ∃ t, exec (.commandDeadline (.host c)) s = .next t ∧ keepsBut [.fab, .mb, .msi] s t ∧ (chanOf t c.val).st = .done ∧
      (chanOf t c.val).exec = none ∧
      (chanOf t c.val).cached = respBytes e.cmd { status := stTimeout } (finalFlags e.cmd) s.mb.dseq ∧
      (buffersOk s = true → buffersOk t = true) := by
  have hof : execOf s (.host c) = some e := hexec
  have hrun : exec (.commandDeadline (.host c)) s = .next (settle (finish (.host c) { e with resetAfter := none, d3After := none }
      { status := stTimeout } (dropRelays (.host c) s))) := by
    show execCommandDeadline (.host c) s = _
    simp only [execCommandDeadline, hup, hof, hresult]
    rfl
  obtain ⟨hframe, hchan, hok⟩ := finish_host (e := { e with resetAfter := none, d3After := none }) { status := stTimeout } hnow rfl rfl
    (c := c) (s := dropRelays (.host c) s)
  refine ⟨_, hrun, keepsBut_done (keepsBut_then (keepsBut_fabMod _ s) hframe (by simp) (by simp)) (by simp), ?_⟩
  rw [chanOf_settle, hchan, buffersOk_of_mb (settle_mb _)]
  exact ⟨rfl, rfl, rfl, hok⟩

theorem mbDoorbellAckTimeout_flags (c : Fin 4) (s : State) (hst : (chanOf s c.val).st = .pending) :
    ∃ t, exec (.mbDoorbellAckTimeout c) s = .next t ∧ keepsBut [.mb, .msi, .pc] s t ∧
      chanOf t c.val = { chanOf s c.val with unacked := true } ∧ vget t.pc.kinds 10 0 = satU 32 (vget s.pc.kinds 10 0 + 1) := by
  have hrun : exec (.mbDoorbellAckTimeout c) s =
      .next (settle (recover 10 0 3 (bump 15 1 (chanMod c.val (fun x => { x with unacked := true }) s)))) := by
    show done (when ((chanOf s c.val).st == .pending) _ s) = _
    rw [hst]
    rfl
  have hcounted := keepsBut_counted 10 0 3 15 1 (chanMod c.val (fun x => { x with unacked := true }) s)
  refine ⟨_, hrun, keepsBut_done (keepsBut_then (keepsBut_chanMod _ _ s) hcounted (by simp) (by simp)) (by simp), ?_, ?_⟩
  · rw [chanOf_settle, chanOf_of_mb (hcounted .mb (by simp)), chanOf_chanMod_same]
  · rw [settle_pc]
    exact vmodN_same s.pc.kinds 10 _ 0 (by decide)

/-- Settles O38: what a pending command meets is the judgement of its number; a final response ends its channel's turn. -/
theorem commandsAreJudgedAndAnswered : Obligations.CommandsAreJudgedAndAnswered :=
  ⟨mbAcknowledge_judges, mbFinalResponse_answers, commandDeadline_ends, mbDoorbellAckTimeout_flags⟩

/-! ### The event ring's registers (R421, R426) -/

theorem mbEvqTailWrite_releases {v : Word} {s : State} (hans : answers .host s) :
    ∃ t, exec (.mbEvqTailWrite v) s = .next t ∧ keepsBut [.mb, .msi] s t ∧ t.mb = { s.mb with evqTail := v.toNat % 4096 } := by
  have hrun : exec (.mbEvqTailWrite v) s = .next (settle (mbMod (fun m => { m with evqTail := v.toNat % 4096 }) s)) := by
    refine done_of_eq ?_
    rw [regAccess_mailbox hans (r := .evqTail) rfl (by decide) (by simp) rfl rfl]
    rfl
  exact ⟨_, hrun, keepsBut_done (keepsBut_mono (keepsBut_mbMod _ s) (by simp)) (by simp), settle_mb _⟩

theorem mbEvqEnable_sets {v : Word} {s : State} (hans : answers .host s) :
    ∃ t, exec (.mbEvqEnable v) s = .next t ∧ keepsBut [.mb, .msi] s t ∧ t.mb = { s.mb with
      evqEnable := v.getLsbD 31, evqSize := bits v.toNat 24 4
      overflow := s.mb.overflow && !v.getLsbD 30, evqEvt := s.mb.evqEvt && !v.getLsbD 29 } := by
  have hrun : exec (.mbEvqEnable v) s = .next (settle (resend .evqCtrl (writeEvqCtrl v s))) :=
    done_of_eq (regAccess_mailbox hans (r := .evqCtrl) rfl (by decide) (by simp) rfl rfl)
  have hresend := keepsBut_resend .evqCtrl (writeEvqCtrl v s)
  refine ⟨_, hrun, keepsBut_done (keepsBut_then (keepsBut_mbMod _ s) hresend (by simp) (by simp)) (by simp), ?_⟩
  rw [settle_mb]
  exact hresend .mb (by simp)

/-! ### The wrap of a counter (R492) -/

/-- Counter `n` at 0 with OVF. -/
def wrapped (n : Nat) (s : State) : State :=
  { s with pc := { s.pc with pc := vmodN s.pc.pc n (fun c => { c with count := 0, ovf := true }) } }

/-- Counter `n` one higher. -/
def carriedInto (n : Nat) (s : State) : State :=
  { s with pc := { s.pc with pc := vmodN s.pc.pc n (fun c => { c with count := c.count + 1 }) } }

theorem keepsBut_wrapped (n : Nat) (s : State) : keepsBut [.pc] s (wrapped n s) := by
  intro p hp
  cases p <;> first | rfl | exact ⟨rfl, rfl, rfl⟩ | simp at hp

theorem keepsBut_carriedInto (n : Nat) (s : State) : keepsBut [.pc] s (carriedInto n s) := by
  intro p hp
  cases p <;> first | rfl | exact ⟨rfl, rfl, rfl⟩ | simp at hp

/-- Another place, where the changed one is any number. -/
theorem getElem_vmodN_elsewhere {α : Type} {n : Nat} (v : Vector α n) (f : α → α) {i : Nat} (k : Fin n) (h : k.val ≠ i) :
    (vmodN v i f)[k] = v[k] := by
  unfold vmodN
  split
  · exact Vector.getElem_set_ne _ _ (Ne.symm h)
  · rfl

/-- The wrap goes upwards: it moves no counter below, and no recovery count. -/
theorem wrapCounter_upwards (fuel n : Nat) (s : State) : keepsBut [.pc] s (wrapCounter fuel n s) ∧
    (wrapCounter fuel n s).pc.kinds = s.pc.kinds ∧ ∀ k : Fin 1024, k.val < n → (wrapCounter fuel n s).pc.pc[k] = s.pc.pc[k] := by
  induction fuel generalizing n s with
  | zero => exact ⟨keepsBut_refl _ s, rfl, fun _ _ => rfl⟩
  | succ fuel ih =>
    have hbelow : ∀ k : Fin 1024, k.val < n → (wrapped n s).pc.pc[k] = s.pc.pc[k] := fun k hk =>
      getElem_vmodN_elsewhere s.pc.pc _ k (by omega)
    have hwrap := keepsBut_wrapped n s
    show _ ∧ _
    simp only [wrapCounter]
    split
    · rename_i h
      split
      · exact ⟨hwrap, rfl, hbelow⟩
      · split
        · obtain ⟨hframe, hkinds, hkeep⟩ := ih (n + 1) (wrapped n s)
          exact ⟨keepsBut_trans hwrap hframe, hkinds, fun k hk => (hkeep k (by omega)).trans (hbelow k hk)⟩
        · exact ⟨keepsBut_trans hwrap (keepsBut_carriedInto (n + 1) _), rfl,
            fun k hk => (getElem_vmodN_elsewhere (wrapped n s).pc.pc _ k (by omega)).trans (hbelow k hk)⟩
    · exact ⟨hwrap, rfl, hbelow⟩

/-- One wrap: what the next counter does. -/
theorem wrapCounter_succ (fuel n : Nat) (s : State) : wrapCounter (fuel + 1) n s =
    if h : n + 1 < 1024 then
      if ((wrapped n s).pc.pc[n + 1]).event ≠ 0xFFFE then wrapped n s
      else if ((wrapped n s).pc.pc[n + 1]).count = 2 ^ 48 - 1 then wrapCounter fuel (n + 1) (wrapped n s)
      else carriedInto (n + 1) (wrapped n s)
    else wrapped n s := rfl

theorem counterWrap_wraps (n : Fin 1024) (s : State) (hfull : s.pc.pc[n].count = 2 ^ 48 - 1) :
    ∃ t, exec (.counterWrap n) s = .next t ∧ keepsBut [.pc, .msi] s t ∧
      t.pc.pc[n] = { s.pc.pc[n] with count := 0, ovf := true } ∧ t.pc.kinds = s.pc.kinds ∧
      (∀ k : Fin 1024, k.val = n.val + 1 → s.pc.pc[k].event ≠ 0xFFFE → t.pc.pc[k] = s.pc.pc[k]) ∧
      (∀ k : Fin 1024, k.val = n.val + 1 → s.pc.pc[k].event = 0xFFFE → s.pc.pc[k].count ≠ 2 ^ 48 - 1 →
        t.pc.pc[k] = { s.pc.pc[k] with count := s.pc.pc[k].count + 1 }) := by
  have hrun : exec (.counterWrap n) s = .next (settle (wrapCounter 1024 n.val s)) := by
    show done (when (decide (s.pc.pc[n].count = 2 ^ 48 - 1)) _ s) = _
    rw [hfull]
    rfl
  have hnext : ∀ k : Fin 1024, k.val = n.val + 1 → (wrapped n.val s).pc.pc[k] = s.pc.pc[k] := fun k hk =>
    getElem_vmodN_elsewhere s.pc.pc _ k (by omega)
  obtain ⟨hframe, hkinds, -⟩ := wrapCounter_upwards 1024 n.val s
  refine ⟨_, hrun, keepsBut_done (keepsBut_mono hframe (by simp)) (by simp), ?_, ?_, fun k hk he => ?_, fun k hk he hc => ?_⟩
  · rw [settle_pc, wrapCounter_succ]
    have hsame : (wrapped n.val s).pc.pc[n] = { s.pc.pc[n] with count := 0, ovf := true } := getElem_vmodN_same s.pc.pc n _
    split
    · split
      · exact hsame
      · split
        · exact ((wrapCounter_upwards 1023 (n.val + 1) (wrapped n.val s)).2.2 n (by omega)).trans hsame
        · exact (getElem_vmodN_elsewhere (wrapped n.val s).pc.pc _ n (by omega)).trans hsame
    · exact hsame
  · rw [settle_pc, hkinds]
  · obtain ⟨k, hlt⟩ := k
    simp only at hk
    subst hk
    have hevent : ((wrapped n.val s).pc.pc[n.val + 1]).event ≠ 0xFFFE := (congrArg PerfCtr.event (hnext ⟨n.val + 1, hlt⟩ rfl)).trans_ne he
    rw [settle_pc, wrapCounter_succ, dif_pos hlt, if_pos hevent]
    exact hnext ⟨n.val + 1, hlt⟩ rfl
  · obtain ⟨k, hlt⟩ := k
    simp only at hk
    subst hk
    have hevent : ¬ ((wrapped n.val s).pc.pc[n.val + 1]).event ≠ 0xFFFE :=
      not_not.mpr ((congrArg PerfCtr.event (hnext ⟨n.val + 1, hlt⟩ rfl)).trans he)
    have hcount : ¬ ((wrapped n.val s).pc.pc[n.val + 1]).count = 2 ^ 48 - 1 := fun e =>
      hc ((congrArg PerfCtr.count (hnext ⟨n.val + 1, hlt⟩ rfl)).symm.trans e)
    rw [settle_pc, wrapCounter_succ, dif_pos hlt, if_neg hevent, if_neg hcount]
    have hsame : (carriedInto (n.val + 1) (wrapped n.val s)).pc.pc[(⟨n.val + 1, hlt⟩ : Fin 1024)] = _ :=
      getElem_vmodN_same (wrapped n.val s).pc.pc ⟨n.val + 1, hlt⟩ _
    rw [hsame, hnext ⟨n.val + 1, hlt⟩ rfl]

/-- Settles O39: the event ring's registers write the mailbox alone; the wrap of a counter goes upwards. -/
theorem eventRingAndCounters : Obligations.EventRingAndCounters :=
  ⟨fun _ _ hans => ⟨mbEvqTailWrite_releases hans, mbEvqEnable_sets hans⟩, counterWrap_wraps⟩

end Sys2Proof.Machine

/-! The shape of a mailbox command: checks, answer, effect. Fields out of their range (R413). -/

namespace Sys2Proof.Machine

-- The joined text is one compile: no thread beside the main one for each proof.
set_option Elab.async false

/-! ### A command's end -/

/-- A command that stands runs its work. -/
theorem command_runs {o : Origin} {op : Nat} {p : List Byte} {f : List Byte → State → State} {s u : State}
    (h : commandAt s o op = some p) (hf : f p s = u) : done (onCommand o op f s) = .next (settle u) := by
  rw [onCommand_some f h, hf, done_eq]

/-- A command that only answers. -/
theorem command_answers {o : Origin} {op : Nat} {p : List Byte} {f : List Byte → State → State} {r : CmdResult} {s : State}
    (h : commandAt s o op = some p) (hf : f p s = setResult o r s) :
    ∃ t, done (onCommand o op f s) = .next t ∧ onlyAnswers o r s t := by
  obtain ⟨e, he, -⟩ := execOf_of_commandAt h
  exact ⟨_, command_runs h hf, onlyAnswers_setResult r he⟩

/-- An answer touches its record alone. -/
theorem keepsBut_answered (o : Origin) (r : CmdResult) (s : State) : keepsBut [.mb, .msi] s (settle (setResult o r s)) :=
  keepsBut_answer o r (keepsBut_refl _ s) (by simp) (by simp)

/-- A command's answer ends it, where its work left the mailbox. -/
theorem command_endsWith {o : Origin} {op : Nat} {p : List Byte} {s u : State} (h : commandAt s o op = some p) (r : CmdResult)
    (hmb : u.mb = s.mb) : endsWith o r s (settle (setResult o r u)) := by
  obtain ⟨e, he, -⟩ := execOf_of_commandAt h
  exact endsWith_setResult r he hmb

/-! ### The first bad field -/

theorem firstBad_hit {b : Bool} {k : Nat} {l : List (Bool × Nat)} (h : b = true) : firstBad ((b, k) :: l) = some k := by
  subst h
  rfl

theorem firstBad_miss {b : Bool} {k : Nat} {l : List (Bool × Nat)} (h : b = false) : firstBad ((b, k) :: l) = firstBad l := by
  subst h
  rfl

theorem firstBad_nil : firstBad [] = none := rfl

/-- Without a bad field the work goes on. -/
theorem checked_none {o : Origin} {l : List (Bool × Nat)} (f : State → State) (s : State) (h : firstBad l = none) :
    checked o l f s = f s := by
  unfold checked
  rw [h]

/-- Settles O48: each command is refused at its first bad field, by `checked_bad`. -/
theorem badFieldsAreRefused : Obligations.BadFieldsAreRefused := by
  refine fun o p s => ⟨fun h hk => ?_, fun h hn => ?_, fun h hn hsp hm => ?_, fun h hv => ?_, fun h hj hz hw => ?_, fun h hi => ?_,
    fun h hi hw => ?_, fun h hlo hhi hoff => ?_⟩
  · refine command_answers h ?_
    unfold resetCmd
    dsimp only
    exact checked_bad _ s (firstBad_hit (by simpa using hk))
  · refine command_answers h ?_
    unfold synReq
    dsimp only
    exact checked_bad _ s (firstBad_hit (by simpa using hn))
  · refine command_answers h ?_
    unfold synReq
    dsimp only
    exact checked_bad _ s ((firstBad_miss (by simpa using hn)).trans
      ((firstBad_miss (by simp [hsp])).trans
      (firstBad_hit (by simpa using hm))))
  · refine command_answers h ?_
    unfold freqWrite
    dsimp only
    exact checked_bad _ s (firstBad_hit (by simpa using hv))
  · refine command_answers h ?_
    unfold trigSchedule
    dsimp only
    exact checked_bad _ s ((firstBad_miss (by simpa using hj)).trans
      ((firstBad_miss (by simp [hz])).trans
      (firstBad_hit (by simp [hw]))))
  · refine command_answers h ?_
    unfold ctxWrite
    dsimp only
    exact checked_bad _ s (firstBad_hit (by simpa using hi))
  · refine command_answers h ?_
    unfold wredSet
    dsimp only
    exact checked_bad _ s ((firstBad_miss (by simpa using hi)).trans
      (firstBad_hit (by simpa using hw)))
  · refine command_answers h ?_
    unfold courseSet
    dsimp only
    exact checked_bad _ s ((firstBad_miss (by simp; omega)).trans
      (firstBad_hit (by simpa using hoff)))

end Sys2Proof.Machine

/-! IDENTIFY, EVENT_REPLAY, POWER_SET, WAKE_MAP, ALARM_SET and RESET (R436 to R440). -/

namespace Sys2Proof.Machine

-- The joined text is one compile: no thread beside the main one for each proof.
set_option Elab.async false

/-! ### Fields of a response -/

theorem slice_append_skip {a b : List Byte} {k : Nat} (ha : a.length = k) (o n : Nat) (h : k ≤ o) :
    slice (a ++ b) o n = slice b (o - k) n := by
  subst ha
  refine List.map_congr_left fun i _ => ?_
  rw [List.getElem?_append_right (by omega), show o + i - a.length = o - a.length + i by omega]

/-- A field behind a number of `k` bytes. -/
theorem fieldLe_le_skip (k v : Nat) (b : List Byte) (o n : Nat) (h : k ≤ o) : fieldLe (le k v ++ b) o n = fieldLe b (o - k) n := by
  unfold fieldLe
  rw [slice_append_skip (length_le k v) o n h]

/-- A field behind a byte. -/
theorem fieldLe_cons_skip (x : Byte) (b : List Byte) (o n : Nat) (h : 1 ≤ o) : fieldLe (x :: b) o n = fieldLe b (o - 1) n := by
  unfold fieldLe
  rw [← List.singleton_append, slice_append_skip (a := [x]) (k := 1) rfl o n h]

/-- A number at the front of a response. -/
theorem fieldLe_le_head (n v : Nat) (b : List Byte) : fieldLe (le n v ++ b) 0 n = v % 256 ^ n := by
  have hs : slice (le n v ++ b) 0 n = le n v := by
    rw [slice_eq_take_drop (by simp), List.drop_zero, List.take_left' (length_le n v)]
  rw [fieldLe, hs, leNat_le_mod]

theorem fieldLe_le_whole (n v : Nat) : fieldLe (le n v) 0 n = v % 256 ^ n := by
  rw [← List.append_nil (le n v), fieldLe_le_head]

/-- A byte at the front of a response. -/
theorem fieldLe_cons_head (x : Byte) (b : List Byte) : fieldLe (x :: b) 0 1 = x.toNat := by
  simp [fieldLe, slice, leNat]

/-! ### IDENTIFY and EVENT_REPLAY (R436, R437) -/

/-- The answer of IDENTIFY. -/
def identity (s : State) : List Byte :=
  le 4 0x00241F29 ++ le 4 0x10 ++ le 8 Config.serial.toNat ++ le 4 (fwVersion s)
    ++ [BitVec.ofNat 8 (if s.boot.stage = 3 then 255 else s.boot.slot), 0, 0, 0] ++ le 4 (strapWord s.boot.straps).toNat
    ++ le 4 (blockOf s).oscHz

theorem identity_fields (s : State) : (identity s).length = 32 ∧ fieldLe (identity s) 0 4 = 0x00241F29 ∧
    fieldLe (identity s) 4 4 = 0x10 ∧ fieldLe (identity s) 8 8 = Config.serial.toNat ∧
    fieldLe (identity s) 16 4 = fwVersion s % 2 ^ 32 ∧
    fieldLe (identity s) 20 1 = (if s.boot.stage = 3 then 255 else s.boot.slot) % 256 ∧
    fieldLe (identity s) 24 4 = (strapWord s.boot.straps).toNat ∧ fieldLe (identity s) 28 4 = (blockOf s).oscHz % 2 ^ 32 := by
  have hserial : Config.serial.toNat % 256 ^ 8 = Config.serial.toNat := Nat.mod_eq_of_lt Config.serial.isLt
  have hstraps : (strapWord s.boot.straps).toNat % 256 ^ 4 = (strapWord s.boot.straps).toNat :=
    Nat.mod_eq_of_lt (strapWord s.boot.straps).isLt
  unfold identity
  simp only [List.append_assoc, List.cons_append, List.nil_append]
  generalize Config.serial.toNat = serial at *
  generalize (strapWord s.boot.straps).toNat = straps at *
  generalize fwVersion s = version
  generalize (blockOf s).oscHz = hz
  generalize (if s.boot.stage = 3 then 255 else s.boot.slot) = slot
  refine ⟨by simp, ?_, ?_, ?_, ?_, ?_, ?_, ?_⟩
  · exact fieldLe_le_head _ _ _
  · rw [fieldLe_le_skip _ _ _ _ _ (by decide)]
    exact fieldLe_le_head _ _ _
  · iterate 2 rw [fieldLe_le_skip _ _ _ _ _ (by decide)]
    exact (fieldLe_le_head _ _ _).trans hserial
  · iterate 3 rw [fieldLe_le_skip _ _ _ _ _ (by decide)]
    exact fieldLe_le_head _ _ _
  · iterate 4 rw [fieldLe_le_skip _ _ _ _ _ (by decide)]
    exact (fieldLe_cons_head _ _).trans (BitVec.toNat_ofNat _ _)
  · iterate 4 rw [fieldLe_le_skip _ _ _ _ _ (by decide)]
    iterate 4 rw [fieldLe_cons_skip _ _ _ _ (by decide)]
    exact (fieldLe_le_head _ _ _).trans hstraps
  · iterate 4 rw [fieldLe_le_skip _ _ _ _ _ (by decide)]
    iterate 4 rw [fieldLe_cons_skip _ _ _ _ (by decide)]
    rw [fieldLe_le_skip _ _ _ _ _ (by decide)]
    exact fieldLe_le_whole _ _

theorem identify_answers (o : Origin) (p : List Byte) (s : State) (h : commandAt s o 0x0101 = some p) :
    ∃ t r, exec (.identify o) s = .next t ∧ onlyAnswers o (okRes r) s t ∧ r.length = 32 ∧ fieldLe r 0 4 = 0x00241F29 ∧
      fieldLe r 4 4 = 0x10 ∧ fieldLe r 8 8 = Config.serial.toNat ∧ fieldLe r 16 4 = fwVersion s % 2 ^ 32 ∧
      (s.boot.stage = 3 → fieldLe r 20 1 = 255) ∧ (s.boot.stage ≠ 3 → fieldLe r 20 1 = s.boot.slot % 256) ∧
      fieldLe r 24 4 = (strapWord s.boot.straps).toNat ∧ fieldLe r 28 4 = (blockOf s).oscHz % 2 ^ 32 := by
  obtain ⟨hlen, hpart, hrev, hserial, hversion, hslot, hstraps, hhz⟩ := identity_fields s
  obtain ⟨t, hrun, hans⟩ := command_answers (f := identify o) (r := okRes (identity s)) h rfl
  refine ⟨t, identity s, hrun, hans, hlen, hpart, hrev, hserial, hversion, fun hst => ?_, fun hst => ?_, hstraps, hhz⟩
  · rw [hslot, if_pos hst]
  · rw [hslot, if_neg hst]

theorem eventReplay_answers (o : Origin) (p : List Byte) (s : State) (h : commandAt s o 0x0102 = some p) (hlo : 1 ≤ fieldLe p 4 4)
    (hhi : fieldLe p 4 4 ≤ 127) (hfirst : fieldLe p 0 4 ≤ s.mb.dseq) :
    let l := s.mb.log.reverse.filter (fun e => decide (fieldLe p 0 4 ≤ e.dseq))
    ∃ t r, exec (.eventReplay o) s = .next t ∧ onlyAnswers o (okRes r) s t ∧ fieldLe r 0 2 = min (fieldLe p 4 4) l.length ∧
      (fieldLe r 2 2).testBit 0 = decide (fieldLe p 0 4 < (s.mb.log.getLast?.map (fun e => e.dseq)).getD 0) ∧
      (fieldLe r 2 2).testBit 1 = decide (fieldLe p 4 4 < l.length) ∧
      r.drop 4 = (l.take (fieldLe p 4 4)).flatMap (fun e => eventBytes e true) := by
  intro l
  have hwork : eventReplay o p s = setResult o (okRes (le 2 (min (fieldLe p 4 4) l.length)
      ++ le 2 (b2n (decide (fieldLe p 0 4 < (s.mb.log.getLast?.map (fun e => e.dseq)).getD 0)) + 2 * b2n (decide (fieldLe p 4 4 < l.length)))
      ++ (l.take (fieldLe p 4 4)).flatMap (fun e => eventBytes e true))) s := by
    unfold eventReplay
    dsimp only
    rw [checked_none _ s ((firstBad_miss (by simp; omega)).trans firstBad_nil), if_neg (by omega)]
  obtain ⟨t, hrun, hans⟩ := command_answers h hwork
  refine ⟨t, _, hrun, hans, ?_⟩
  clear_value l
  generalize decide (fieldLe p 0 4 < (s.mb.log.getLast?.map (fun e => e.dseq)).getD 0) = late
  generalize decide (fieldLe p 4 4 < l.length) = more
  rw [List.append_assoc, fieldLe_le_head, fieldLe_le_skip _ _ _ _ _ (by decide), fieldLe_le_head]
  refine ⟨Nat.mod_eq_of_lt (by omega), ?_, ?_, ?_⟩
  · cases late <;> cases more <;> decide
  · cases late <;> cases more <;> decide
  · rw [← List.append_assoc]
    exact List.drop_left' (by simp)

/-! ### POWER_SET (R25, R438) -/

theorem domsOf_single (d : Fin 14) : domsOf (BitVec.ofNat 14 (2 ^ d.val)) = [d.val] := by
  revert d
  decide

theorem maskBad_single {d : Nat} (hlo : 1 ≤ d) (hhi : d < 14) : maskBad (2 ^ d) = false := by
  have h : ∀ d : Fin 14, 1 ≤ d.val → maskBad (2 ^ d.val) = false := by decide
  exact h ⟨d, hhi⟩ hlo

/-- The domains stand where they stood: state, target and what waits. -/
def DomsStand (s t : State) : Prop := ∀ j, (vget t.pm.dom j {}).st = (vget s.pm.dom j {}).st ∧
  (vget t.pm.dom j {}).target = (vget s.pm.dom j {}).target ∧ (vget t.pm.dom j {}).queued = (vget s.pm.dom j {}).queued

/-- A wake of domains that are On, or on their way there, is at most one more source of the last wake (R363, R371). -/
theorem wakeFrom_idle {src detail : Nat} {m : BitVec 14} {s : State}
    (h : (domsOf m).filter (fun d => d != 0 && ((vget s.pm.dom d {}).target != .on || handsOver s d)) = []) :
    keepsBut [.pm] s (wakeFrom src detail m s) ∧ (sameWake s m = false → wakeFrom src detail m s = s) ∧
      DomsStand s (wakeFrom src detail m s) := by
  unfold wakeFrom
  rw [h]
  dsimp only
  cases hagain : sameWake s m with
  | false =>
    rw [if_pos (by rfl)]
    exact ⟨keepsBut_refl _ s, fun _ => rfl, fun _ => ⟨rfl, rfl, rfl⟩⟩
  | true =>
    rw [if_neg (by simp), if_pos rfl]
    refine ⟨keepsBut_trans (keepsBut_withPm _ s) (keepsBut_withPm _ _), fun e => absurd e (by simp), fun j => ?_⟩
    have hdom : ∀ f : Domain → Domain, f {} = {} → vget (s.pm.dom.map f) j {} = f (vget s.pm.dom j {}) := fun f hf => by
      have := vget_map f s.pm.dom j {}
      rwa [hf] at this
    dsimp only [forEach, List.foldl_nil]
    rw [hdom _ rfl]
    exact ⟨rfl, rfl, rfl⟩

theorem domSettled_of_stand {s t : State} (hte : t.te = s.te) (h : DomsStand s t) (d : Nat) : domSettled t d = domSettled s d := by
  obtain ⟨hst, htarget, hqueued⟩ := h d
  simp only [domSettled, handsOver, hst, htarget, hqueued, hte]

theorem domStates_of_stand {s t : State} (h : DomsStand s t) (d3 : Option Nat) : domStates t d3 = domStates s d3 := by
  have hst : ∀ d, (vget t.pm.dom d {}).st = (vget s.pm.dom d {}).st := fun d => (h d).1
  simp only [domStates, hst]

theorem domSettled_iff (s : State) (d : Nat) : domSettled s d = true ↔ (vget s.pm.dom d {}).st = (vget s.pm.dom d {}).target ∧
    (vget s.pm.dom d {}).queued = none ∧ handsOver s d = false := by
  simp [domSettled, and_assoc]

section
variable {o : Origin} {p : List Byte} {e : Exec} {s : State}

/-- POWER_SET's walk over one settled domain that is to be On. -/
theorem powerGo_settled {d : Nat} (h : domSettled s d = true) : powerGo o e 0 [d] s = setResult o (okRes (domStates s e.d3After)) s := by
  simp [powerGo, h]

/-- Over one that is under way it waits. -/
theorem powerGo_waits {d t : Nat} (h : domSettled s d = false) : powerGo o e t [d] s = setWait o (.power [d] t) s := by
  simp [powerGo, h]

theorem powerSet_on {d : Nat} (hlo : 1 ≤ d) (hhi : d < 14) (he : execOf s o = some e) (hmask : fieldLe p 0 2 = 2 ^ d)
    (hrest : fieldLe p 3 1 = 0) (hst : (vget s.pm.dom d {}).st = .on) (hsettled : domSettled s d = true) (hcode : fieldLe p 2 1 = 0) :
    powerSet o p s = setResult o (okRes (domStates s e.d3After)) (wakeFrom 6 0 (BitVec.ofNat 14 (2 ^ d)) s) ∧
      keepsBut [.pm] s (wakeFrom 6 0 (BitVec.ofNat 14 (2 ^ d)) s) ∧
      (sameWake s (BitVec.ofNat 14 (2 ^ d)) = false → wakeFrom 6 0 (BitVec.ofNat 14 (2 ^ d)) s = s) := by
  obtain ⟨htarget, -, hover⟩ := (domSettled_iff s d).mp hsettled
  have hdoms : domsOf (BitVec.ofNat 14 (2 ^ d)) = [d] := domsOf_single ⟨d, hhi⟩
  obtain ⟨hframe, hsame, hstand⟩ := wakeFrom_idle (src := 6) (detail := 0) (m := BitVec.ofNat 14 (2 ^ d)) (s := s)
    (by
      rw [hdoms]
      simp [← htarget, hst, hover])
  refine ⟨?_, hframe, hsame⟩
  unfold powerSet
  dsimp only
  rw [checked_none _ s ((firstBad_miss (by rw [hmask]; exact maskBad_single hlo hhi)).trans ((firstBad_miss (by simp [hcode])).trans
    ((firstBad_miss (by simp [zeros, hrest])).trans firstBad_nil))), if_pos hcode, hmask, hdoms,
    execOf_congr (hframe .mb (by simp)), he]
  dsimp only
  rw [powerGo_settled ((domSettled_of_stand (hframe .te (by simp)) hstand d).trans hsettled), domStates_of_stand hstand]

theorem lowerRefused_upper {d : Nat} {st : DomSt} (hlo : 10 ≤ d) (hst : (vget s.pm.dom d {}).st = .on) (also : List Nat) :
    lowerRefused s d st also = none := by
  have hengine : ¬ (d = 1 ∨ d = 2) := by omega
  have hbank : ¬ (4 ≤ d ∧ d ≤ 9) := by omega
  simp [lowerRefused, hengine, hst, holdsSentinel, hbank]

theorem domOfCode_below {t : Nat} (hlo : 1 ≤ t) (hhi : t ≤ 3) : domOfCode t ≠ .on := by
  interval_cases t <;> decide

/-- A domain from 10 to 13 that is On and settled starts its descent. -/
theorem startLower_upper {d : Nat} {st : DomSt} (hlo : 10 ≤ d) (hst : (vget s.pm.dom d {}).st = .on) (hsettled : domSettled s d = true)
    (hne : st ≠ .on) : startLower d st s = domMod d (fun y => { y with target := st, queued := none }) s := by
  obtain ⟨htarget, -, -⟩ := (domSettled_iff s d).mp hsettled
  have hengine : ¬ (d = 1 ∨ d = 2) := by omega
  have hbank : ¬ (4 ≤ d ∧ d ≤ 9 ∧ (vget s.pm.dom d {}).st = .on) := by omega
  have hst' : ((vget s.pm.dom d {}).st == st) = false := by
    rw [hst]
    exact beq_false_of_ne (Ne.symm hne)
  unfold startLower
  dsimp only
  rw [hst', ← htarget, if_neg (by simp), if_neg (by simp), if_neg hengine, if_neg hbank]

theorem powerSet_lowers {d : Nat} (hlo : 10 ≤ d) (hhi : d < 14) (he : execOf s o = some e) (hmask : fieldLe p 0 2 = 2 ^ d)
    (hrest : fieldLe p 3 1 = 0) (hst : (vget s.pm.dom d {}).st = .on) (hsettled : domSettled s d = true) (hcode : 1 ≤ fieldLe p 2 1)
    (hcode' : fieldLe p 2 1 ≤ 3) :
    powerSet o p s = setWait o (.power [d] (fieldLe p 2 1))
      (domMod d (fun y => { y with target := domOfCode (fieldLe p 2 1), queued := none }) s) := by
  have hne := domOfCode_below hcode hcode'
  have hdoms : domsOf (BitVec.ofNat 14 (2 ^ d)) = [d] := domsOf_single ⟨d, hhi⟩
  have h3 : ([d].contains 3) = false := by simp; omega
  have hbelow : domSettled (domMod d (fun y => { y with target := domOfCode (fieldLe p 2 1), queued := none }) s) d = false := by
    unfold domSettled
    rw [domMod_dom_same hhi]
    dsimp only
    rw [hst, beq_false_of_ne (Ne.symm hne)]
    rfl
  unfold powerSet
  dsimp only
  rw [checked_none _ s ((firstBad_miss (by rw [hmask]; exact maskBad_single (by omega) hhi)).trans ((firstBad_miss (by simp; omega)).trans
    ((firstBad_miss (by simp [zeros, hrest])).trans firstBad_nil))), if_neg (by omega), hmask, hdoms]
  have hbad : [d].filterMap (fun j => (lowerRefused s j (domOfCode (fieldLe p 2 1)) [d]).map (fun k => (j, k))) = [] := by
    simp [lowerRefused_upper hlo hst]
  have hd3 : d ≠ 3 := by omega
  simp only [hbad, h3, List.any_nil, List.find?_cons_of_neg, List.find?_nil, Bool.false_eq_true, not_false_eq_true, if_false, he]
  simp only [List.filter_cons, bne_iff_ne, ne_eq, hd3, not_false_eq_true, if_true, List.filter_nil, List.reverse_singleton]
  rw [startLower_upper hlo hst hsettled hne, powerGo_waits hbelow]

end

theorem powerSet_answers (o : Origin) (p : List Byte) (e : Exec) (d : Nat) (s : State) (h : commandAt s o 0x0110 = some p)
    (he : execOf s o = some e) (hlo : 1 ≤ d) (hhi : d < 14) (hmask : fieldLe p 0 2 = 2 ^ d) (hrest : fieldLe p 3 1 = 0)
    (hst : (vget s.pm.dom d {}).st = .on) (hsettled : domSettled s d = true) :
    (fieldLe p 2 1 = 0 → ∃ t, exec (.powerSet o) s = .next t ∧ keepsBut [.pm, .mb, .msi] s t ∧
      endsWith o (okRes (domStates s e.d3After)) s t ∧ (sameWake s (BitVec.ofNat 14 (2 ^ d)) = false → t.pm = s.pm)) ∧
    (10 ≤ d → 1 ≤ fieldLe p 2 1 → fieldLe p 2 1 ≤ 3 →
      ∃ t, exec (.powerSet o) s = .next t ∧ keepsBut [.pm, .mb, .msi] s t ∧ waits o (.power [d] (fieldLe p 2 1)) t ∧
        t.pm = { s.pm with
          dom := vmodN s.pm.dom d (fun y => { y with target := domOfCode (fieldLe p 2 1), queued := none }) }) := by
  refine ⟨fun hcode => ?_, fun hd hcode hcode' => ?_⟩
  · obtain ⟨hwork, hframe, hsame⟩ := powerSet_on hlo hhi he hmask hrest hst hsettled hcode
    have hpm := (keepsBut_answered o (okRes (domStates s e.d3After)) (wakeFrom 6 0 (BitVec.ofNat 14 (2 ^ d)) s)) .pm (by simp)
    exact ⟨_, command_runs h hwork, keepsBut_answer o _ (keepsBut_mono hframe (by simp)) (by simp) (by simp),
      command_endsWith h _ (hframe .mb (by simp)), fun hno => hpm.trans (congrArg State.pm (hsame hno))⟩
  · have hwork := powerSet_lowers (o := o) hd hhi he hmask hrest hst hsettled hcode hcode'
    obtain ⟨e', he', -, hres, -⟩ := execOf_of_commandAt h
    generalize hu : domMod d (fun y => { y with target := domOfCode (fieldLe p 2 1), queued := none }) s = u at hwork
    have hframe : keepsBut [.pm] s u := hu ▸ keepsBut_domMod d _ s
    have hwait : keepsBut [.mb] u (setWait o (.power [d] (fieldLe p 2 1)) u) := keepsBut_execMod o _ u
    refine ⟨_, command_runs h hwork, keepsBut_done (keepsBut_then hframe hwait (by simp) (by simp)) (by simp),
      waits_setWait _ (by rw [execOf_congr (hframe .mb (by simp))]; exact he') hres, ?_⟩
    rw [settle_pm, show (setWait o (.power [d] (fieldLe p 2 1)) u).pm = u.pm from hwait .pm (by simp), ← hu]
    rfl

/-- Both engine domains: R25's rule comes first. -/
theorem powerSet_bothEngines (o : Origin) (p : List Byte) (s : State) (h : commandAt s o 0x0110 = some p) (hmask : fieldLe p 0 2 = 6)
    (hrest : fieldLe p 3 1 = 0) (hcode : 1 ≤ fieldLe p 2 1) (hcode' : fieldLe p 2 1 ≤ 3) :
    ∃ t, exec (.powerSet o) s = .next t ∧ keepsBut [.pm, .mb, .msi] s t ∧ endsWith o (notPermitted 0x0001) s t ∧
      ∀ d : Fin 14, t.pm.dom[d] = if d.val = 1 ∨ d.val = 2 then { s.pm.dom[d] with refused := true } else s.pm.dom[d] := by
  have hwork : powerSet o p s = setResult o (notPermitted 0x0001) (refuseDomain 2 (refuseDomain 1 s)) := by
    have hdoms : domsOf (BitVec.ofNat 14 6) = [1, 2] := by decide
    have hone : lowerRefused s 1 (domOfCode (fieldLe p 2 1)) [1, 2] = some 0x0001 := by simp [lowerRefused]
    have htwo : lowerRefused s 2 (domOfCode (fieldLe p 2 1)) [1, 2] = some 0x0001 := by simp [lowerRefused]
    have hbad : [1, 2].filterMap (fun j => (lowerRefused s j (domOfCode (fieldLe p 2 1)) [1, 2]).map (fun k => (j, k))) =
        [(1, 0x0001), (2, 0x0001)] := by
      simp [hone, htwo]
    unfold powerSet
    dsimp only
    rw [checked_none _ s ((firstBad_miss (by rw [hmask]; decide)).trans ((firstBad_miss (by simp; omega)).trans
      ((firstBad_miss (by simp [zeros, hrest])).trans firstBad_nil))), if_neg (by omega), hmask, hdoms, hbad]
    rfl
  have hframe : keepsBut [.pm] s (refuseDomain 2 (refuseDomain 1 s)) :=
    keepsBut_trans (keepsBut_domMod 1 _ s) (keepsBut_domMod 2 _ _)
  refine ⟨_, command_runs h hwork, keepsBut_answer o _ (keepsBut_mono hframe (by simp)) (by simp) (by simp),
    command_endsWith h _ (hframe .mb (by simp)), fun d => ?_⟩
  rw [show (settle (setResult o (notPermitted 0x0001) (refuseDomain 2 (refuseDomain 1 s)))).pm = (refuseDomain 2 (refuseDomain 1 s)).pm from
    keepsBut_answered o _ _ .pm (by simp), ← vget_dom, ← vget_dom]
  unfold refuseDomain
  by_cases h2 : d.val = 2
  · rw [if_pos (.inr h2), h2, domMod_dom_same (by decide), domMod_dom_other (by decide)]
  · by_cases h1 : d.val = 1
    · rw [if_pos (.inl h1), h1, domMod_dom_other (by decide), domMod_dom_same (by decide)]
    · rw [if_neg (by omega), domMod_dom_other h2, domMod_dom_other h1]

/-! ### WAKE_MAP (R439) -/

theorem saveCfg_saved (s : State) : (saveCfg s).boot.saved =
    some { par := s.par, masks := s.pm.masks, wred := s.q.wred, pcp := s.fwd.pcp, dscp := s.fwd.dscp, bands := s.ck.bands } := rfl

theorem wakeMap_stores (o : Origin) (p : List Byte) (src u m : Nat) (s : State) (h : commandAt s o 0x0111 = some p)
    (hsrc : src = fieldLe p 0 1) (hunit : u = fieldLe p 1 1) (hmask : m = fieldLe p 4 2) (hlist : src ∈ [1, 2, 3, 5])
    (hunits : u < (if src = 1 ∨ src = 2 then 192 else if src = 5 then 8 else 1)) (hz : zeros p 2 2 = true) (hz' : zeros p 6 2 = true)
    (hm : m = 0xFFFF ∨ maskBad m = false) :
    ∃ t, exec (.wakeMap o) s = .next t ∧ keepsBut [.pm, .boot, .mb, .msi] s t ∧ endsWith o (okRes []) s t ∧
      t.pm = { s.pm with masks := t.pm.masks } ∧ t.boot.saved.map (fun c => c.masks) = some t.pm.masks ∧
      wakeMask t src u = (if m = 0xFFFF then wakeDefault src u else BitVec.ofNat 14 m) ∧
      ∀ a b, b < 256 → ¬(a = src ∧ b = u) → wakeMask t a b = wakeMask s a b := by
  obtain ⟨masks, hmasks⟩ : ∃ masks, masks = if m = 0xFFFF then Tbl.erase s.pm.masks (src * 256 + u)
    else Tbl.set s.pm.masks (src * 256 + u) (BitVec.ofNat 14 m) := ⟨_, rfl⟩
  generalize hv : ({ s with pm := { s.pm with masks } } : State) = v
  have hwork : wakeMapCmd o p s = setResult o (okRes []) (saveCfg v) := by
    unfold wakeMapCmd
    dsimp only
    rw [← hsrc, ← hunit, ← hmask, checked_none _ s ((firstBad_miss (by rw [List.contains_iff_mem.mpr hlist]; rfl)).trans ((firstBad_miss (by simpa using hunits)).trans
      ((firstBad_miss (by simp [hz])).trans ((firstBad_miss (by rcases hm with e | e <;> simp [e])).trans
        ((firstBad_miss (by simp [hz'])).trans firstBad_nil))))), ← hmasks, hv]
  have hpm : v.pm = { s.pm with masks } := by rw [← hv]
  have hwith : keepsBut [.pm] s v := hv ▸ keepsBut_withPm _ s
  have hsave := keepsBut_saveCfg v
  have hframe := keepsBut_then hwith hsave (n := [.pm, .boot]) (by simp) (by simp)
  have hans := keepsBut_answered o (okRes []) (saveCfg v)
  have htpm : (settle (setResult o (okRes []) (saveCfg v))).pm = v.pm := (hans .pm (by simp)).trans (hsave .pm (by simp))
  have htboot : (settle (setResult o (okRes []) (saveCfg v))).boot = (saveCfg v).boot := hans .boot (by simp)
  have hu : u < 256 := by
    split at hunits
    · omega
    · split at hunits <;> omega
  refine ⟨_, command_runs h hwork, keepsBut_answer o _ (keepsBut_mono hframe (by simp)) (by simp) (by simp),
    command_endsWith h _ (hframe .mb (by simp)), ?_, ?_, ?_, fun a b hb hne => ?_⟩
  · rw [htpm, hpm]
  · rw [htpm, htboot, saveCfg_saved]
    rfl
  · unfold wakeMask
    rw [htpm, hpm, hmasks]
    dsimp only
    split
    · rw [Tbl.get_erase, if_pos rfl]
      rfl
    · rw [Tbl.get_set, if_pos rfl]
      rfl
  · have hkey : a * 256 + b ≠ src * 256 + u := by omega
    unfold wakeMask
    rw [htpm, hpm, hmasks]
    dsimp only
    split
    · rw [Tbl.get_erase, if_neg hkey]
    · rw [Tbl.get_set, if_neg hkey]

/-! ### ALARM_SET (R362, R439) -/

/-- An alarm as ALARM_SET leaves it. -/
def alarmAs (arm x m : Nat) (a : Alarm) : Alarm :=
  if arm = 0 then { a with armed := false } else { a with armed := true, instant := x, mask := BitVec.ofNat 14 m }

theorem alarmSetCmd_eq {o : Origin} {p : List Byte} {n m x arm : Nat} {s : State} (hn : n = fieldLe p 0 1) (hn3 : n ≤ 3)
    (hm : m = fieldLe p 2 2) (hmask : maskBad m = false) (hx : fullOf (slice p 4 16) = some x) (harm : fieldLe p 1 1 = arm) (harm1 : arm ≤ 1) :
    alarmSetCmd o p s = setResult o (okRes []) (if arm = 1 ∧ x ≤ s.clk.now
      then fireAlarm n { s with pm := { s.pm with alarm := vmodN s.pm.alarm n (alarmAs arm x m) } }
      else { s with pm := { s.pm with alarm := vmodN s.pm.alarm n (alarmAs arm x m) } }) := by
  unfold alarmSetCmd
  dsimp only
  rw [← hn, ← hm, hx, harm, checked_none _ s ((firstBad_miss (by simpa using hn3)).trans ((firstBad_miss (by simpa using harm1)).trans
    ((firstBad_miss hmask).trans ((firstBad_miss (b := (some x).isNone) rfl).trans firstBad_nil))))]
  rfl

theorem alarmSet_sets (o : Origin) (p : List Byte) (n m x : Nat) (s : State) (h : commandAt s o 0x0112 = some p) (hn : n = fieldLe p 0 1)
    (hn3 : n ≤ 3) (hm : m = fieldLe p 2 2) (hmask : maskBad m = false) (hx : fullOf (slice p 4 16) = some x) :
    (fieldLe p 1 1 = 0 → ∃ t, exec (.alarmSet o) s = .next t ∧ keepsBut [.pm, .mb, .msi] s t ∧ endsWith o (okRes []) s t ∧
      t.pm = { s.pm with alarm := vmodN s.pm.alarm n (fun a => { a with armed := false }) }) ∧
    (fieldLe p 1 1 = 1 → s.clk.now < x → ∃ t, exec (.alarmSet o) s = .next t ∧ keepsBut [.pm, .mb, .msi] s t ∧
      endsWith o (okRes []) s t ∧
      t.pm = { s.pm with alarm := vmodN s.pm.alarm n (fun a => { a with armed := true, instant := x, mask := BitVec.ofNat 14 m }) }) ∧
    (fieldLe p 1 1 = 1 → x ≤ s.clk.now → ∃ t, exec (.alarmSet o) s = .next t ∧ keepsBut [.te, .pm, .host, .mb, .msi, .pc] s t ∧
      replied o (okRes []) t ∧ (vget t.pm.alarm n {}).armed = false ∧ (vget t.pm.alarm n {}).fired = true) := by
  obtain ⟨e, he, -⟩ := execOf_of_commandAt h
  have hset : ∀ arm, keepsBut [.pm] s { s with pm := { s.pm with alarm := vmodN s.pm.alarm n (alarmAs arm x m) } } :=
    fun arm => keepsBut_withPm _ s
  refine ⟨fun harm => ?_, fun harm hlater => ?_, fun harm hpast => ?_⟩
  · have hwork := alarmSetCmd_eq (o := o) (s := s) hn hn3 hm hmask hx harm (by decide)
    rw [if_neg (by omega)] at hwork
    refine ⟨_, command_runs h hwork, keepsBut_answer o _ (keepsBut_mono (hset 0) (by simp)) (by simp) (by simp),
      command_endsWith h _ rfl, ?_⟩
    exact keepsBut_answered o (okRes []) _ .pm (by simp)
  · have hwork := alarmSetCmd_eq (o := o) (s := s) hn hn3 hm hmask hx harm (by decide)
    rw [if_neg (by omega)] at hwork
    refine ⟨_, command_runs h hwork, keepsBut_answer o _ (keepsBut_mono (hset 1) (by simp)) (by simp) (by simp),
      command_endsWith h _ rfl, ?_⟩
    exact keepsBut_answered o (okRes []) _ .pm (by simp)
  · have hwork := alarmSetCmd_eq (o := o) (s := s) hn hn3 hm hmask hx harm (by decide)
    rw [if_pos ⟨rfl, hpast⟩] at hwork
    generalize hv : ({ s with pm := { s.pm with alarm := vmodN s.pm.alarm n (alarmAs 1 x m) } } : State) = v at hwork
    have hsetv : keepsBut [.pm] s v := hv ▸ hset 1
    have hfire := keepsBut_fireAlarm n v
    have hcommands : execOf (fireAlarm n v) o = some e := by
      have hsame : sameCommands v (ringing n v) := sameCommands_issueEvent _ _ _ _
      rw [fireAlarm_eq, execOf_congr (keepsBut_wakeFrom 4 n _ _ .mb (by simp)), execOf_of_sameCommands hsame,
        execOf_congr (hsetv .mb (by simp)), he]
    refine ⟨_, command_runs h hwork, keepsBut_answer o _ (keepsBut_then hsetv hfire (by simp) (by simp)) (by simp) (by simp),
      replied_setResult _ hcommands, ?_⟩
    rw [show (settle (setResult o (okRes []) (fireAlarm n v))).pm = (fireAlarm n v).pm from keepsBut_answered o _ _ .pm (by simp),
      fireAlarm_alarm, vmodN_same _ _ _ _ (by omega)]
    exact ⟨rfl, rfl⟩

/-! ### RESET (R440) -/

theorem reset_orders (o : Origin) (p : List Byte) (s : State) (h : commandAt s o 0x0120 = some p) (hlo : 1 ≤ fieldLe p 0 1)
    (hhi : fieldLe p 0 1 ≤ 3) (hz : zeros p 1 3 = true) :
    ∃ t e, exec (.reset o) s = .next t ∧ keepsBut [.mb, .msi] s t ∧ execOf t o = some e ∧ e.result = some (okRes []) ∧
      e.resetAfter = some (fieldLe p 0 1) := by
  obtain ⟨e, he, -⟩ := execOf_of_commandAt h
  have hwork : resetCmd o p s = setResult o (okRes []) (execMod o (fun e => { e with resetAfter := some (fieldLe p 0 1) }) s) := by
    unfold resetCmd
    dsimp only
    rw [checked_none _ s ((firstBad_miss (by simp; omega)).trans ((firstBad_miss (by simp [hz])).trans firstBad_nil))]
  have hrecord := execOf_execMod (o := o) (fun e => { e with result := some (okRes []), wait := none })
    (execOf_execMod (fun e => { e with resetAfter := some (fieldLe p 0 1) }) he)
  exact ⟨_, _, command_runs h hwork, keepsBut_answer o _ (keepsBut_mono (keepsBut_execMod o _ s) (by simp)) (by simp) (by simp),
    (execOf_congr (settle_mb _) o).trans hrecord, rfl, rfl⟩

/-- Settles O47: each command's work is one equation under its checks, and its answer leaves the rest to that work. -/
theorem systemAndPowerCommands : Obligations.SystemAndPowerCommands :=
  ⟨⟨identify_answers, eventReplay_answers⟩, powerSet_answers, powerSet_bothEngines, wakeMap_stores, alarmSet_sets, reset_orders⟩

end Sys2Proof.Machine

/-! Commands of the synthesisers, the planner and the converters (R451, R452). -/

namespace Sys2Proof.Machine

-- The joined text is one compile: no thread beside the main one for each proof.
set_option Elab.async false

/-! ### A command with an effect -/

theorem firstBad_none {l : List (Bool × Nat)} (h : ∀ q ∈ l, q.1 = false) : firstBad l = none := by
  induction l with
  | nil => rfl
  | cons q l ih =>
    obtain ⟨hq, hl⟩ := List.forall_mem_cons.mp h
    exact (firstBad_miss hq).trans (ih hl)

/-- A command whose work leaves the mailbox and ends with an answer. -/
theorem command_does {o : Origin} {op : Nat} {p : List Byte} {f : List Byte → State → State} {s u : State} {r : CmdResult}
    {l : List Part} (h : commandAt s o op = some p) (hf : f p s = setResult o r u) (hframe : keepsBut l s u) (hmb : Part.mb ∉ l) :
    ∃ t, done (onCommand o op f s) = .next t ∧ keepsBut (.mb :: .msi :: l) s t ∧ endsWith o r s t ∧ keepsBut [.mb, .msi] u t :=
  ⟨_, command_runs h hf, keepsBut_answer o r (keepsBut_mono hframe (by simp +contextual)) (by simp) (by simp),
    command_endsWith h r (hframe .mb hmb), keepsBut_answered o r u⟩

/-- A command whose work leaves the mailbox and then waits. -/
theorem command_waits {o : Origin} {op : Nat} {p : List Byte} {f : List Byte → State → State} {s u : State} {w : CmdWait}
    {l : List Part} (h : commandAt s o op = some p) (hf : f p s = setWait o w u) (hframe : keepsBut l s u) (hmb : Part.mb ∉ l) :
    ∃ t, done (onCommand o op f s) = .next t ∧ keepsBut (.mb :: .msi :: l) s t ∧ waits o w t ∧ keepsBut [.mb, .msi] u t := by
  obtain ⟨e, he, -, hres, -⟩ := execOf_of_commandAt h
  have hwait : keepsBut [.mb] u (setWait o w u) := keepsBut_execMod o _ u
  exact ⟨_, command_runs h hf, keepsBut_done (keepsBut_then hframe hwait (by simp +contextual) (by simp)) (by simp),
    waits_setWait w (by rw [execOf_congr (hframe .mb hmb)]; exact he) hres, keepsBut_done (keepsBut_mono hwait (by simp)) (by simp)⟩

/-! ### OSC_SET -/

/-- The block written is the one in use (R473). -/
theorem blockOf_writeBlock (f : BootBlock → BootBlock) (s : State) :
    blockOf (writeBlock f s) = { f (blockOf s) with valid := true, seq := (blockOf s).seq + 1 } := by
  unfold writeBlock blockOf
  dsimp only
  generalize hA : s.boot.blocks[0] = a
  generalize hB : s.boot.blocks[1] = b
  have hlt : decide (a.seq < b.seq) = !decide (b.seq ≤ a.seq) := by
    rw [← decide_not]
    exact decide_eq_decide.mpr (by omega)
  rw [hlt]
  cases ha : a.valid <;> cases hb : b.valid <;> by_cases hle : b.seq ≤ a.seq <;> simp [vmodN, hA, hB, ha, hb, hle]

theorem blockOf_of_boot {s t : State} (h : t.boot = s.boot) : blockOf t = blockOf s := by
  unfold blockOf
  rw [h]

theorem oscSet_writes (o : Origin) (p : List Byte) (f : Nat) (s : State) (h : commandAt s o 0x0140 = some p) (hf : f = fieldLe p 0 4)
    (hclass : f = 0 ∨ ((oscClass s.boot.straps.oscf).1 ≤ f ∧ f ≤ (oscClass s.boot.straps.oscf).2)) :
    ∃ t, exec (.oscSet o) s = .next t ∧ keepsBut [.boot, .mb, .msi] s t ∧ endsWith o (okRes []) s t ∧
      blockOf t = { blockOf s with oscHz := f, valid := true, seq := (blockOf s).seq + 1 } ∧
      t.boot = { s.boot with blocks := t.boot.blocks } := by
  have hwork : oscSet o p s = setResult o (okRes []) (writeBlock (fun b => { b with oscHz := f }) s) := by
    unfold oscSet
    dsimp only
    rw [← hf]
    exact checked_none _ s (firstBad_none (by simp; omega))
  obtain ⟨t, hrun, hkeep, hend, hpart⟩ := command_does h hwork (keepsBut_writeBlock _ s) (by simp)
  have hboot := hpart .boot (by simp)
  refine ⟨t, hrun, keepsBut_mono hkeep (by simp), hend, ?_, by rw [hboot]; rfl⟩
  rw [blockOf_of_boot hboot, blockOf_writeBlock]

/-! ### SYN_SET -/

theorem synOf_synMod_other {n m : Nat} (h : m ≠ n) (f : Synth → Synth) (s : State) : synOf (synMod n f s) m = synOf s m :=
  vmodN_other s.ck.syn n m f {} h

theorem synOf_startSearch (n t m : Nat) (s : State) : synOf (startSearch n t s) m =
    synOf (synMod n (fun x => { x with tune := .search t, searches := satU 8 (x.searches + 1) }) s) m := rfl

theorem synOf_beginTune_other {n m : Nat} (h : m ≠ n) (t : Nat) (s : State) : synOf (beginTune n t s) m = synOf s m := by
  unfold beginTune
  dsimp only
  split
  · rw [synOf_synMod_other h, synOf_synMod_other h]
  · rw [synOf_startSearch, synOf_synMod_other h, synOf_synMod_other h]

theorem synOf_retune_other {n m : Nat} (h : m ≠ n) (s : State) : synOf (retune n s) m = synOf s m := by
  unfold retune
  dsimp only
  split
  · rw [synOf_clkouts, synOf_synMod_other h]
  · split
    · rw [synOf_clkouts, synOf_beginTune_other h]
    · rw [synOf_synMod_other h]

/-- The results kept for a target are judged by the results and the temperature alone. -/
theorem storedBand_congr {s t : State} {n : Nat} (hbands : (synOf t n).bands = (synOf s n).bands) (hgroup : t.group = s.group)
    (hpins : t.pins = s.pins) (target : Nat) : storedBand t n target = storedBand s n target := by
  have htemp : synTemp t n = synTemp s n := by
    simp only [synTemp, groupOf, hgroup, hpins]
  rw [storedBand, storedBand, hbands, htemp]

/-- A synthesiser as the start of its tuning leaves it. -/
theorem synOf_beginTune_same {n : Nat} (hn : n < 30) (t : Nat) (s : State) :
    (synOf (beginTune n t s) n).lock = false ∧
    (synOf (beginTune n t s) n).tune = (if (storedBand s n t).isSome then .hop t else .search t) ∧
    (synOf (beginTune n t s) n).target = (synOf s n).target ∧ (synOf (beginTune n t s) n).vcoOpt = (synOf s n).vcoOpt := by
  have hstored : storedBand (synMod n (fun x => { x with lock := false, tunedTo := t }) s) n t = storedBand s n t :=
    storedBand_congr (synOf_synMod_kept Synth.bands (by exact fun _ => rfl) n n s) rfl rfl t
  unfold beginTune
  dsimp only
  rw [hstored]
  split
  · rw [synOf_synMod_same hn, synOf_synMod_same hn]
    exact ⟨rfl, rfl, rfl, rfl⟩
  · rw [synOf_startSearch, synOf_synMod_same hn, synOf_synMod_same hn]
    exact ⟨rfl, rfl, rfl, rfl⟩

theorem retune_idle {n : Nat} {s : State} (ht : synTarget s n ≠ 0) (h : (synOf s n).tune = .idle) :
    retune n s = clkouts (beginTune n (synTarget s n) s) := by
  unfold retune
  dsimp only
  rw [if_neg ht, h]

theorem retune_busy {n : Nat} {s : State} (ht : synTarget s n ≠ 0) (h : (synOf s n).tune ≠ .idle) :
    retune n s = synMod n (fun x => { x with second := some (synTarget s n) }) s := by
  unfold retune
  dsimp only
  rw [if_neg ht]
  split
  · contradiction
  · rfl

/-- SYN0 and SYN1 have an option for every frequency in their range (R199). -/
theorem exists_synDivider {f : Nat} (hlo : 9770000000 ≤ f) (hhi : f ≤ 1250000000000) : ∃ d, d ∈ synDividers f := by
  have hdiv := Nat.div_add_mod 5000000000000 f
  have hmod := Nat.mod_lt 5000000000000 (show 0 < f by omega)
  obtain ⟨q, hq⟩ : ∃ q, q = 5000000000000 / f := ⟨_, rfl⟩
  have hqlo : 4 ≤ q := hq ▸ (Nat.le_div_iff_mul_le (by omega)).mpr (by omega)
  have hqhi : q ≤ 511 := hq ▸ Nat.le_of_lt_succ ((Nat.div_lt_iff_lt_mul (by omega)).mpr (by omega))
  rw [← hq] at hdiv
  by_cases hz : 5000000000000 % f = 0
  · refine ⟨q, List.mem_filter.mpr ⟨List.mem_map.mpr ⟨q - 4, List.mem_range.mpr (by omega), by omega⟩, ?_⟩⟩
    simp only [decide_eq_true_eq]
    omega
  · refine ⟨q + 1, List.mem_filter.mpr ⟨List.mem_map.mpr ⟨q - 3, List.mem_range.mpr (by omega), by omega⟩, ?_⟩⟩
    simp only [decide_eq_true_eq, Nat.mul_add_one]
    omega

theorem four_le_of_mem_synDividers {f d : Nat} (h : d ∈ synDividers f) : 4 ≤ d := by
  obtain ⟨i, -, hi⟩ := List.mem_map.mp (List.mem_filter.mp h).1
  omega

/-- An output synthesiser with a target in range is tuned to something. -/
theorem synTarget_ne_zero {n : Nat} {s : State} (hn : 28 ≤ n) (hlo : 9770000000 ≤ (synOf s n).target)
    (hhi : (synOf s n).target ≤ 1250000000000) : synTarget s n ≠ 0 := by
  obtain ⟨d, hd⟩ := exists_synDivider hlo hhi
  unfold synTarget
  dsimp only
  rw [if_neg (by omega), if_neg (by omega), if_neg (by omega), if_neg (by omega)]
  generalize hl : synDividers (synOf s n).target = l at hd
  have hpos : ∀ x ∈ l, 4 ≤ x := fun x hx => four_le_of_mem_synDividers (hl ▸ hx)
  have hone : 4 ≤ l.getD (synOf s n).vcoOpt (l.headD 0) := by
    rw [List.getD_eq_getElem?_getD]
    cases hget : l[(synOf s n).vcoOpt]? with
    | some x => exact hpos x (List.mem_of_getElem? hget)
    | none =>
      cases l with
      | nil => simp at hd
      | cons x _ => exact hpos x (by simp)
  exact (Nat.mul_pos (by omega) (by omega)).ne'

/-- Its target depends on its own record alone. -/
theorem synTarget_congr {n : Nat} {s t : State} (hn : 28 ≤ n) (htarget : (synOf t n).target = (synOf s n).target)
    (hopt : (synOf t n).vcoOpt = (synOf s n).vcoOpt) : synTarget t n = synTarget s n := by
  unfold synTarget
  dsimp only
  rw [if_neg (by omega), if_neg (by omega), if_neg (by omega), if_neg (by omega), if_neg (by omega), if_neg (by omega), if_neg (by omega),
    if_neg (by omega), htarget, hopt]

/-- A retune of an output synthesiser with a target in range. -/
theorem synOf_retune_same {n : Nat} {s : State} (hn : 28 ≤ n) (hn' : n ≤ 29) (ht : synTarget s n ≠ 0) :
    (synOf (retune n s) n).target = (synOf s n).target ∧ (synOf (retune n s) n).vcoOpt = (synOf s n).vcoOpt ∧
    ((synOf s n).tune = .idle → (synOf (retune n s) n).lock = false ∧
      (synOf (retune n s) n).tune = (if (storedBand s n (synTarget s n)).isSome then .hop (synTarget s n) else .search (synTarget s n))) ∧
    ((synOf s n).tune ≠ .idle → (synOf (retune n s) n).second = some (synTarget s n)) := by
  have h30 : n < 30 := by omega
  by_cases hidle : (synOf s n).tune = .idle
  · rw [retune_idle ht hidle, synOf_clkouts]
    obtain ⟨hlock, htune, htarget, hopt⟩ := synOf_beginTune_same h30 (synTarget s n) s
    exact ⟨htarget, hopt, fun _ => ⟨hlock, htune⟩, fun hb => absurd hidle hb⟩
  · rw [retune_busy ht hidle, synOf_synMod_same h30]
    exact ⟨rfl, rfl, fun hi => absurd hi hidle, fun _ => rfl⟩

theorem synSet_tunes (o : Origin) (p : List Byte) (n f : Nat) (s : State) (h : commandAt s o 0x0141 = some p) (hn : n = fieldLe p 0 1)
    (hlo : 28 ≤ n) (hhi : n ≤ 29) (hf : f = fieldLe p 4 8) (hz : zeros p 1 3 = true) (hflo : 9770000000 ≤ f) (hfhi : f ≤ 1250000000000) :
    ∃ t, exec (.synSet o) s = .next t ∧ keepsBut [.ck, .tio, .mb, .msi, .pc] s t ∧ endsWith o (okRes []) s t ∧
      (synOf t n).target = f ∧ (∀ m, m ≠ n → synOf t m = synOf s m) ∧
      ((vget s.pm.dom 13 {}).st = .retention ∨ (vget s.pm.dom 13 {}).st = .off →
        synOf t n = { synOf s n with target := f, vcoOpt := min (synOf s n).vcoOpt ((synDividers f).length - 1) }) ∧
      (domOn s 13 = true ∨ (vget s.pm.dom 13 {}).st = .stopped →
        ((synOf s n).tune = .idle → (synOf t n).lock = false ∧
          (synOf t n).tune = (if (storedBand s n (synTarget t n)).isSome then .hop (synTarget t n) else .search (synTarget t n))) ∧
        ((synOf s n).tune ≠ .idle → (synOf t n).second = some (synTarget t n))) := by
  have h30 : n < 30 := by omega
  obtain ⟨v, hv⟩ : ∃ v, v = synMod n (fun x => { x with target := f, vcoOpt := min x.vcoOpt ((synDividers f).length - 1) }) s := ⟨_, rfl⟩
  have hset : keepsBut [.ck] s v := hv ▸ keepsBut_synMod n _ s
  have hvn : synOf v n = { synOf s n with target := f, vcoOpt := min (synOf s n).vcoOpt ((synDividers f).length - 1) } := by
    rw [hv, synOf_synMod_same h30]
  have hvm : ∀ m, m ≠ n → synOf v m = synOf s m := fun m hm => by rw [hv, synOf_synMod_other hm]
  obtain ⟨runs, hruns⟩ : ∃ b : Bool, b = (domOn s 13 || (vget s.pm.dom 13 {}).st == .stopped) := ⟨_, rfl⟩
  have hwork : synSet o p s = setResult o (okRes []) (if runs then retune n v else v) := by
    unfold synSet
    dsimp only
    rw [← hn, ← hf, checked_none _ s (firstBad_none (by simp [hz]; omega)), ← hv, domOn_of_keepsBut hset (by simp), show v.pm = s.pm from hset .pm (by simp),
      ← hruns]
  have htarget : (synOf v n).target = f := by rw [hvn]
  have ht : synTarget v n ≠ 0 := synTarget_ne_zero hlo (by rw [htarget]; exact hflo) (by rw [htarget]; exact hfhi)
  cases runs with
  | false =>
    rw [if_neg (by simp)] at hwork
    obtain ⟨t, hrun, hkeep, hend, hpart⟩ := command_does h hwork hset (by simp)
    have hsyn : ∀ m, synOf t m = synOf v m := synOf_of_ck (hpart .ck (by simp))
    refine ⟨t, hrun, keepsBut_mono hkeep (by simp), hend, by rw [hsyn, htarget], fun m hm => by rw [hsyn, hvm m hm],
      fun _ => by rw [hsyn, hvn], fun hon => ?_⟩
    rcases hon with hon | hon <;> simp [hon] at hruns
  | true =>
    rw [if_pos rfl] at hwork
    obtain ⟨t, hrun, hkeep, hend, hpart⟩ := command_does h hwork (keepsBut_then hset (keepsBut_retune n v) (n := [.tio, .ck, .pc])
      (by simp) (by simp)) (by simp)
    have hsyn : ∀ m, synOf t m = synOf (retune n v) m := synOf_of_ck (hpart .ck (by simp))
    obtain ⟨hkept, hopt, hidle, hbusy⟩ := synOf_retune_same hlo hhi ht
    have htt : synTarget t n = synTarget v n := synTarget_congr hlo (by rw [hsyn, hkept]) (by rw [hsyn, hopt])
    have htune : (synOf v n).tune = (synOf s n).tune := by rw [hvn]
    have hstored : ∀ x, storedBand v n x = storedBand s n x :=
      storedBand_congr (by rw [hvn]) (hset .group (by simp)) (hset .pins (by simp))
    refine ⟨t, hrun, keepsBut_mono hkeep (by simp), hend, by rw [hsyn, hkept, htarget],
      fun m hm => by rw [hsyn, synOf_retune_other hm, hvm m hm], fun hoff => ?_, fun _ => ⟨fun hi => ?_, fun hb => ?_⟩⟩
    · rcases hoff with hoff | hoff <;> simp [domOn, hoff] at hruns
    · rw [hsyn, htt, ← hstored]
      exact hidle (htune.trans hi)
    · rw [hsyn, htt]
      exact hbusy (by rw [htune]; exact hb)

/-! ### SYN_REQ and BAND_SET -/

theorem synReq_stores (o : Origin) (p : List Byte) (n sp m d r : Nat) (s : State) (h : commandAt s o 0x0142 = some p) (hn : n = fieldLe p 0 1)
    (hsp : sp = fieldLe p 1 1) (hm : m = fieldLe p 2 1) (hd : d = fieldLe p 3 1) (hr : r = fieldLe p 4 4) (hn' : n ≤ 29) (hsp' : sp ≤ 2)
    (hspn : sp ≠ 0 → n = 0 ∨ n = 28 ∨ n = 29) (hmlo : 1 ≤ m) (hmhi : m ≤ 9) (hd' : d ≤ 2) (hdn : d = 1 → n < 2 ∨ 26 ≤ n)
    (hrlo : 30000 ≤ r) (hrhi : r ≤ 33000) :
    ((sp = 0 ∨ feedsAlign s n = false) → ∃ t, exec (.synReq o) s = .next t ∧ keepsBut [.ck, .mb, .msi] s t ∧
      endsWith o (okRes []) s t ∧
      t.ck = { s.ck with syn := vmodN s.ck.syn n (fun x => { x with
        request := if sp = 0 then none else some (sp == 2, m), rateReq := r, ditherReq := d }) }) ∧
    (sp ≠ 0 → feedsAlign s n = true → ∃ t, exec (.synReq o) s = .next t ∧ onlyAnswers o (notPermitted 0x0007) s t) := by
  have hwork : synReq o p s = if sp != 0 && feedsAlign s n then setResult o (notPermitted 0x0007) s
      else setResult o (okRes []) (synMod n (fun x => { x with
        request := if sp = 0 then none else some (sp == 2, m), rateReq := r, ditherReq := d }) s) := by
    unfold synReq
    dsimp only
    rw [← hn, ← hsp, ← hm, ← hd, ← hr]
    refine checked_none _ s (firstBad_none ?_)
    simp only [List.forall_mem_cons, List.not_mem_nil, IsEmpty.forall_iff, implies_true, and_true]
    simp
    omega
  refine ⟨fun hfree => ?_, fun hspread hfeeds => ?_⟩
  · rw [if_neg (by rcases hfree with e | e <;> simp [e])] at hwork
    obtain ⟨t, hrun, hkeep, hend, hpart⟩ := command_does h hwork (keepsBut_synMod n _ s) (by simp)
    exact ⟨t, hrun, keepsBut_mono hkeep (by simp), hend, hpart .ck (by simp)⟩
  · rw [if_pos (by simp [hspread, hfeeds])] at hwork
    exact command_answers h hwork

/-- BAND_SET once its fields are found good. -/
theorem bandSet_saves {o : Origin} {p : List Byte} {n : Nat} {b : Option BandSpec} {s : State} (h : commandAt s o 0x0143 = some p)
    (hwork : bandSet o p s =
      setResult o (okRes []) (saveCfg { s with ck := { s.ck with bands := vmodN s.ck.bands n (fun _ => b) } })) :
    ∃ t, exec (.bandSet o) s = .next t ∧ keepsBut [.ck, .boot, .mb, .msi] s t ∧ endsWith o (okRes []) s t ∧
      t.ck = { s.ck with bands := vmodN s.ck.bands n (fun _ => b) } ∧ t.boot.saved.map (fun c => c.bands) = some t.ck.bands := by
  have hframe := keepsBut_then (keepsBut_withCk { s.ck with bands := vmodN s.ck.bands n (fun _ => b) } s) (keepsBut_saveCfg _)
    (n := [.ck, .boot]) (by simp) (by simp)
  obtain ⟨t, hrun, hkeep, hend, hpart⟩ := command_does h hwork hframe (by simp)
  refine ⟨t, hrun, keepsBut_mono hkeep (by simp), hend, hpart .ck (by simp), ?_⟩
  rw [hpart .boot (by simp), saveCfg_saved, hpart .ck (by simp)]
  rfl

theorem bandSet_stores (o : Origin) (p : List Byte) (n : Nat) (b : BandSpec) (s : State) (h : commandAt s o 0x0143 = some p)
    (hn : n = fieldLe p 0 1) (hn' : n ≤ 15)
    (hb : b = { limit := toSigned 16 (fieldLe p 2 2), low := fieldLe p 4 4, high := fieldLe p 8 4, margin := fieldLe p 12 4 }) :
    (fieldLe p 1 1 = 0 → ∃ t, exec (.bandSet o) s = .next t ∧ keepsBut [.ck, .boot, .mb, .msi] s t ∧ endsWith o (okRes []) s t ∧
      t.ck = { s.ck with bands := vmodN s.ck.bands n (fun _ => none) } ∧ t.boot.saved.map (fun c => c.bands) = some t.ck.bands) ∧
    (fieldLe p 1 1 = 1 → -160 ≤ b.limit → b.limit ≤ -40 → 1000 ≤ b.low → b.low ≤ 40000000 → b.low < b.high → b.high ≤ 40000000 →
      b.margin ≤ 100000 →
      ∃ t, exec (.bandSet o) s = .next t ∧ keepsBut [.ck, .boot, .mb, .msi] s t ∧ endsWith o (okRes []) s t ∧
        t.ck = { s.ck with bands := vmodN s.ck.bands n (fun _ => some b) } ∧ t.boot.saved.map (fun c => c.bands) = some t.ck.bands) := by
  subst hb
  refine ⟨fun hv => bandSet_saves h ?_, fun hv hllo hlhi hlow hlow' hhigh hhigh' hmargin => bandSet_saves h ?_⟩
  · unfold bandSet
    dsimp only
    rw [← hn, hv, checked_none _ s (firstBad_none (by simpa using hn'))]
    rfl
  · unfold bandSet
    dsimp only at hllo hlhi hlow hlow' hhigh hhigh' hmargin ⊢
    rw [← hn, hv, checked_none _ s (firstBad_none (by simp; omega))]
    rfl

/-! ### PLAN_RUN and SPUR_MAP_GET -/

theorem takeChoice_frame (n : Nat) (c : PlanChoice) (s : State) :
    keepsBut [.tio, .ck, .pc] s (takeChoice n c s) := by
  unfold takeChoice
  extract_lets x u v
  have hu : keepsBut [.tio, .ck, .pc] s u := keepsBut_mono (keepsBut_synMod n _ s) (by simp)
  have hv : keepsBut [.tio, .ck, .pc] s v := keepsBut_then hu (keepsBut_synMod n _ u) (by simp) (by simp)
  split
  · split
    · exact keepsBut_trans hv (keepsBut_retune n v)
    · exact hv
  · exact hu

theorem clkouts_ck (s : State) : (clkouts s).ck = s.ck := keepsBut_clkouts s .ck (by simp)

theorem retune_ckBands (n : Nat) (s : State) : (retune n s).ck.bands = s.ck.bands := by
  unfold retune
  dsimp only
  split
  · rw [clkouts_ck]
    rfl
  · split
    · rw [clkouts_ck, beginTune]
      split <;> rfl
    · rfl

theorem takeChoice_ckBands (n : Nat) (c : PlanChoice) (s : State) : (takeChoice n c s).ck.bands = s.ck.bands := by
  unfold takeChoice
  extract_lets x u v
  split
  · split
    · exact retune_ckBands n v
    · rfl
  · rfl

/-- A plan moves the synthesisers and the clock outputs, and says what it is. -/
theorem runPlan_plans (s : State) : keepsBut [.ck, .tio, .pc, .free] s (runPlan s) ∧ (runPlan s).ck.planValid = true ∧
    (runPlan s).ck.planSeq = (s.ck.planSeq + 1) % 4096 ∧ (runPlan s).ck.bands = s.ck.bands := by
  unfold runPlan
  generalize (List.range 30).map (fun n => (n, choose s n (Config.freeNat (s.free + n)))) = picks
  extract_lets cs l t
  have ht : keepsBut [.tio, .ck, .pc] s t := keepsBut_foldl _ (fun _ q => takeChoice_frame q.1 q.2 _) cs s
  have hbands : t.ck.bands = s.ck.bands :=
    foldl_keeps (fun u : State => u.ck.bands) (fun t q => takeChoice q.1 q.2 t) (fun u q => takeChoice_ckBands q.1 q.2 u) cs s
  clear_value t l
  refine ⟨keepsBut_then (n := [.ck, .tio, .pc, .free]) ht (m := [.ck, .free]) ?_ (by simp) (by simp), rfl, rfl, hbands⟩
  intro p hp
  cases p <;> first | rfl | exact ⟨rfl, rfl, rfl⟩ | simp at hp

theorem satU_byte (n : Nat) : satU 8 n % 256 = min n 255 := by
  unfold satU
  omega

theorem planRun_plans (o : Origin) (p : List Byte) (s : State) (h : commandAt s o 0x0144 = some p) :
    ∃ t r, exec (.planRun o) s = .next t ∧ keepsBut [.ck, .tio, .pc, .free, .mb, .msi] s t ∧ endsWith o (okRes r) s t ∧
      t.ck.planValid = true ∧ t.ck.planSeq = (s.ck.planSeq + 1) % 4096 ∧ t.ck.bands = s.ck.bands ∧ r.length = 8 ∧
      fieldLe r 0 2 = t.ck.planSeq ∧ fieldLe r 2 1 = min t.ck.conflicts 255 ∧ fieldLe r 4 1 = (synOf t 0).depth % 256 ∧
      fieldLe r 5 1 = (synOf t 28).depth % 256 ∧ fieldLe r 6 1 = (synOf t 29).depth % 256 := by
  obtain ⟨hframe, hvalid, hseq, hbands⟩ := runPlan_plans s
  obtain ⟨u, hu⟩ : ∃ u, u = runPlan s := ⟨_, rfl⟩
  have hwork : planRun o p s = setResult o (okRes (le 2 u.ck.planSeq ++ le 1 (satU 8 u.ck.conflicts) ++ le 1 (planPending u)
      ++ [BitVec.ofNat 8 (synOf u 0).depth, BitVec.ofNat 8 (synOf u 28).depth, BitVec.ofNat 8 (synOf u 29).depth, 0])) u := by
    rw [hu]
    rfl
  rw [← hu] at hframe hvalid hseq hbands
  obtain ⟨t, hrun, hkeep, hend, hpart⟩ := command_does h hwork hframe (by simp)
  have hck : t.ck = u.ck := hpart .ck (by simp)
  refine ⟨t, _, hrun, keepsBut_mono hkeep (by simp), hend, ?_⟩
  simp only [synOf, hck]
  refine ⟨hvalid, hseq, hbands, by simp, ?_, ?_, ?_, ?_, ?_⟩
  all_goals simp only [List.append_assoc]
  · rw [fieldLe_le_head, hseq]
    omega
  · rw [fieldLe_le_skip _ _ _ _ _ (by decide), fieldLe_le_head]
    exact satU_byte _
  · iterate 3 rw [fieldLe_le_skip _ _ _ _ _ (by decide)]
    exact (fieldLe_cons_head _ _).trans (BitVec.toNat_ofNat _ _)
  · iterate 3 rw [fieldLe_le_skip _ _ _ _ _ (by decide)]
    rw [fieldLe_cons_skip _ _ _ _ (by decide)]
    exact (fieldLe_cons_head _ _).trans (BitVec.toNat_ofNat _ _)
  · iterate 3 rw [fieldLe_le_skip _ _ _ _ _ (by decide)]
    iterate 2 rw [fieldLe_cons_skip _ _ _ _ (by decide)]
    exact (fieldLe_cons_head _ _).trans (BitVec.toNat_ofNat _ _)

theorem spurMapGet_answers (o : Origin) (p : List Byte) (s : State) (h : commandAt s o 0x0145 = some p) :
    ∃ t r, exec (.spurMapGet o) s = .next t ∧ onlyAnswers o (okRes r) s t ∧ fieldLe r 0 2 = s.ck.spurs.length % 65536 ∧
      fieldLe r 2 2 = min 254 (s.ck.spurs.length - fieldLe p 0 4) ∧ fieldLe r 4 4 = s.ck.planSeq % 2 ^ 32 ∧
      r.drop 8 = ((s.ck.spurs.drop (fieldLe p 0 4)).take 254).flatMap spurBytes := by
  obtain ⟨t, hrun, hans⟩ := command_answers (f := spurMapGet o) h rfl
  refine ⟨t, _, hrun, hans, ?_, ?_, ?_, ?_⟩
  · rw [List.append_assoc, List.append_assoc, fieldLe_le_head]
    rfl
  · rw [List.append_assoc, List.append_assoc, fieldLe_le_skip _ _ _ _ _ (by decide), fieldLe_le_head, List.length_take, List.length_drop]
    omega
  · rw [List.append_assoc, List.append_assoc]
    iterate 2 rw [fieldLe_le_skip _ _ _ _ _ (by decide)]
    exact fieldLe_le_head _ _ _
  · exact List.drop_left' (by simp)

/-! ### CAL_RUN and CAL_TABLE_GET -/

theorem convNo_kind {k i c : Nat} (h : convNo k i = some c) : k ≤ 5 := by
  unfold convNo at h
  split at h <;> first | omega | simp at h

/-- A converter's name is good. -/
theorem convChecks_good {p : List Byte} {c : Nat} (hz : fieldLe p 1 1 = 0) (hc : convNo (fieldLe p 0 1) (fieldLe p 2 2) = some c) :
    ∀ q ∈ convChecks p, q.1 = false := by
  have hk := convNo_kind hc
  simp [convChecks, zeros, hz, hc, hk]

theorem convNamed_eq {p : List Byte} {c : Nat} (hc : convNo (fieldLe p 0 1) (fieldLe p 2 2) = some c) : convNamed p = c := by
  rw [convNamed, hc]
  rfl

theorem calRun_queues (o : Origin) (p : List Byte) (c : Nat) (s : State) (h : commandAt s o 0x0150 = some p) (hz : fieldLe p 1 1 = 0)
    (hc : convNo (fieldLe p 0 1) (fieldLe p 2 2) = some c) :
    (domOn s (convDomain c) = true → ∃ t, exec (.calRun o) s = .next t ∧ keepsBut [.cal, .mb, .msi] s t ∧
      waits o (.cal c (((convOf s c).seq + b2n (convOf s c).running) % 4096)) t ∧
      t.cal = { s.cal with conv := vmodN s.cal.conv c (fun v => { v with due := true }) }) ∧
    (domOn s (convDomain c) = false → ∃ t, exec (.calRun o) s = .next t ∧ onlyAnswers o (notPermitted 0x0008) s t) := by
  have hwork : calRun o p s = if !domOn s (convDomain c) then setResult o (notPermitted 0x0008) s
      else setWait o (.cal c (((convOf s c).seq + b2n (convOf s c).running) % 4096)) (convMod c (fun v => { v with due := true }) s) := by
    unfold calRun
    dsimp only
    rw [checked_none _ s (firstBad_none (convChecks_good hz hc)), convNamed_eq hc]
  refine ⟨fun hon => ?_, fun hoff => ?_⟩
  · rw [if_neg (by simp [hon])] at hwork
    obtain ⟨t, hrun, hkeep, hwait, hpart⟩ := command_waits h hwork (keepsBut_convMod c _ s) (by simp)
    exact ⟨t, hrun, keepsBut_mono hkeep (by simp), hwait, hpart .cal (by simp)⟩
  · rw [if_pos (by simp [hoff])] at hwork
    exact command_answers h hwork

theorem length_tablePairs (a : Rat) (k : Nat) (l : List Rat) : (tablePairs a k l).length = l.length := by
  induction l generalizing a k with
  | nil => rfl
  | cons c l ih => simp [tablePairs, ih]

/-- Four bytes of a code's width and INL (R220). -/
def codeBytes (q : Rat × Rat) : List Byte :=
  le 2 (satU 16 (roundAway q.1).toNat) ++ le 2 (ofSigned 16 (satS 16 (roundAway (q.2 * 256))))

theorem length_flatMap_codeBytes (l : List (Rat × Rat)) : (l.flatMap codeBytes).length = 4 * l.length := by
  induction l with
  | nil => rfl
  | cons q l ih =>
    rw [List.flatMap_cons, List.length_append, ih, codeBytes, List.length_append, length_le, length_le, List.length_cons]
    omega

theorem calTableGet_answers (o : Origin) (p : List Byte) (c : Nat) (s : State) (h : commandAt s o 0x0151 = some p) (hz : fieldLe p 1 1 = 0)
    (hc : convNo (fieldLe p 0 1) (fieldLe p 2 2) = some c) (hfirst : fieldLe p 4 4 ∈ [0, 512, 1024, 1536]) :
    ∃ t r, exec (.calTableGet o) s = .next t ∧ onlyAnswers o (okRes r) s t ∧ fieldLe r 0 4 = (convOf s c).seq % 2 ^ 32 ∧
      r.drop 4 = (((convTable (convOf s c)).drop (fieldLe p 4 4)).take 512).flatMap (fun q =>
        le 2 (satU 16 (roundAway q.1).toNat) ++ le 2 (ofSigned 16 (satS 16 (roundAway (q.2 * 256))))) ∧
      ((convOf s c).cur = [] → r.length = 2052) := by
  have hwork : calTableGet o p s = setResult o (okRes (le 4 (convOf s c).seq
      ++ (((convTable (convOf s c)).drop (fieldLe p 4 4)).take 512).flatMap codeBytes)) s := by
    unfold calTableGet
    dsimp only
    rw [checked_none _ s (firstBad_none (List.forall_mem_append.mpr ⟨convChecks_good hz hc, ?_⟩)), convNamed_eq hc]
    · rfl
    · simp only [List.mem_cons, List.not_mem_nil, or_false] at hfirst
      simp
      omega
  obtain ⟨t, hrun, hans⟩ := command_answers h hwork
  refine ⟨t, _, hrun, hans, fieldLe_le_head _ _ _, List.drop_left' (length_le _ _), fun hcur => ?_⟩
  have htable : (convTable (convOf s c)).length = 2048 := by
    rw [convTable, hcur, length_tablePairs]
    simp
  rw [List.length_append, length_le, length_flatMap_codeBytes, List.length_take, List.length_drop, htable]
  simp only [List.mem_cons, List.not_mem_nil, or_false] at hfirst
  omega

/-- Settles O49, command by command. -/
theorem clockCommands : Obligations.ClockCommands :=
  ⟨⟨oscSet_writes, synSet_tunes, synReq_stores, bandSet_stores, planRun_plans, spurMapGet_answers⟩, calRun_queues, calTableGet_answers⟩

end Sys2Proof.Machine

/-! Commands of time, references, software steering, the model and the triggers (R442 to R449). -/

namespace Sys2Proof.Machine

-- The joined text is one compile: no thread beside the main one for each proof.
set_option Elab.async false

/-! ### A command that reports an event -/

theorem sameCommands_of_mb {s t : State} (h : t.mb = s.mb) : sameCommands s t := by
  rw [sameCommands, h]
  exact ⟨rfl, rfl⟩

theorem sameCommands_trans {s t u : State} (h : sameCommands s t) (k : sameCommands t u) : sameCommands s u :=
  ⟨k.1.trans h.1, k.2.trans h.2⟩

/-- A command whose work leaves the commands, though it may report events, and ends with an answer. -/
theorem command_reports {o : Origin} {op : Nat} {p : List Byte} {f : List Byte → State → State} {s u : State} {r : CmdResult}
    {l : List Part} (h : commandAt s o op = some p) (hf : f p s = setResult o r u) (hframe : keepsBut l s u) (hsame : sameCommands s u) :
    ∃ t, done (onCommand o op f s) = .next t ∧ keepsBut (.mb :: .msi :: l) s t ∧ replied o r t ∧ keepsBut [.mb, .msi] u t := by
  obtain ⟨e, he, -⟩ := execOf_of_commandAt h
  exact ⟨_, command_runs h hf, keepsBut_answer o r (keepsBut_mono hframe (by simp +contextual)) (by simp) (by simp),
    replied_setResult r (by rw [execOf_of_sameCommands hsame]; exact he), keepsBut_answered o r u⟩

/-! ### TIME_SET and UTC_SET -/

theorem satS_toSigned (n : Nat) : satS 64 (toSigned 64 n) = toSigned 64 n := by
  unfold satS toSigned
  split <;> omega

theorem ofSigned_satS_zero : ofSigned 64 (satS 64 0) = 0 := by
  norm_num [ofSigned, satS]

theorem edgeSeconds_lt (s : State) : edgeSeconds s < 2 ^ 48 := Nat.mod_lt _ (by decide)

/-- The step that TIME_SET orders. -/
def stepOrdered (mode v edge : Nat) : Int :=
  match mode with
  | 0 => ((v : Int) - edge) * uSec
  | 1 => toSigned 64 v
  | _ => 0

theorem stepOrdered_seconds (v edge : Nat) : stepOrdered 0 v edge = ((v : Int) - edge) * uSec := rfl
theorem stepOrdered_difference (v edge : Nat) : stepOrdered 1 v edge = toSigned 64 v := rfl
theorem stepOrdered_none (v edge : Nat) : stepOrdered 2 v edge = 0 := rfl

/-- TIME_SET's work, given that step. -/
theorem timeSet_eq (o : Origin) (p : List Byte) (s : State) :
    timeSet o p s = checked o [(decide (2 < fieldLe p 0 1), 0), (!zeros p 1 7, firstSet p 1 7),
        (decide (fieldLe p 0 1 = 0 ∧ 2 ^ 48 ≤ fieldLe p 8 8) || decide (fieldLe p 0 1 = 2 ∧ fieldLe p 8 8 ≠ 0)
          || decide ((edgeSeconds s * uSec : Nat) + stepOrdered (fieldLe p 0 1) (fieldLe p 8 8) (edgeSeconds s) < 0 ∨
            (timeSpan : Int) ≤ (edgeSeconds s * uSec : Nat) + stepOrdered (fieldLe p 0 1) (fieldLe p 8 8) (edgeSeconds s)), 8)]
      (fun u => setResult o
        (okRes (le 8 (edgeSeconds s) ++ le 8 (ofSigned 64 (satS 64 (stepOrdered (fieldLe p 0 1) (fieldLe p 8 8) (edgeSeconds s))))))
        (if fieldLe p 0 1 = 2 then { u with clk := { u.clk with step := none } }
          else requestStep (stepOrdered (fieldLe p 0 1) (fieldLe p 8 8) (edgeSeconds s)) true u)) s := rfl

/-- A step that stays in the range of full time passes the checks. -/
theorem timeSet_passes {o : Origin} {p : List Byte} {mode v : Nat} {d : Int} {s : State} (hz : zeros p 1 7 = true)
    (hmode : fieldLe p 0 1 = mode) (hv : fieldLe p 8 8 = v) (hd : stepOrdered mode v (edgeSeconds s) = d)
    (hm : mode ≤ 2) (hrange : mode = 0 → v < 2 ^ 48) (hnone : mode = 2 → v = 0) (hlo : 0 ≤ (edgeSeconds s * uSec : Nat) + d)
    (hhi : (edgeSeconds s * uSec : Nat) + d < timeSpan) :
    timeSet o p s = setResult o (okRes (le 8 (edgeSeconds s) ++ le 8 (ofSigned 64 (satS 64 d))))
      (if mode = 2 then { s with clk := { s.clk with step := none } } else requestStep d true s) := by
  have hrange' : decide (mode = 0 ∧ 2 ^ 48 ≤ v) = false := decide_eq_false (by omega)
  have hnone' : decide (mode = 2 ∧ v ≠ 0) = false := decide_eq_false (by omega)
  have hspan : decide ((edgeSeconds s * uSec : Nat) + d < 0 ∨ (timeSpan : Int) ≤ (edgeSeconds s * uSec : Nat) + d) = false :=
    decide_eq_false (by omega)
  rw [timeSet_eq, hmode, hv, hd, hrange', hnone', hspan]
  exact checked_none _ s ((firstBad_miss (by simpa using hm)).trans ((firstBad_miss (by simp [hz])).trans
    ((firstBad_miss rfl).trans firstBad_nil)))

theorem timeSet_steps {o : Origin} {p : List Byte} {x : Option StepReq} {r : List Byte} {s : State} (h : commandAt s o 0x0201 = some p)
    (hwork : timeSet o p s = setResult o (okRes r) { s with clk := { s.clk with step := x } }) :
    ∃ t, exec (.timeSet o) s = .next t ∧ keepsBut [.clk, .mb, .msi] s t ∧ endsWith o (okRes r) s t ∧
      t.clk = { s.clk with step := x } := by
  obtain ⟨t, hrun, hkeep, hend, hpart⟩ := command_does h hwork (l := [.clk]) (keepsBut_withClk _ s) (by simp)
  exact ⟨t, hrun, keepsBut_mono hkeep (by simp), hend, hpart .clk (by simp)⟩

theorem timeSet_orders (o : Origin) (p : List Byte) (v : Nat) (s : State) (h : commandAt s o 0x0201 = some p) (hz : zeros p 1 7 = true)
    (hv : v = fieldLe p 8 8) :
    (fieldLe p 0 1 = 0 → v < 2 ^ 48 →
      let d : Int := ((v : Int) - edgeSeconds s) * uSec
      ∃ t, exec (.timeSet o) s = .next t ∧ keepsBut [.clk, .mb, .msi] s t ∧
        endsWith o (okRes (le 8 (edgeSeconds s) ++ le 8 (ofSigned 64 (satS 64 d)))) s t ∧
        t.clk = { s.clk with step := some { delta := d, software := true } }) ∧
    (fieldLe p 0 1 = 1 → 0 ≤ (edgeSeconds s * uSec : Nat) + toSigned 64 v → (edgeSeconds s * uSec : Nat) + toSigned 64 v < timeSpan →
      ∃ t, exec (.timeSet o) s = .next t ∧ keepsBut [.clk, .mb, .msi] s t ∧
        endsWith o (okRes (le 8 (edgeSeconds s) ++ le 8 (ofSigned 64 (toSigned 64 v)))) s t ∧
        t.clk = { s.clk with step := some { delta := toSigned 64 v, software := true } }) ∧
    (fieldLe p 0 1 = 2 → v = 0 →
      ∃ t, exec (.timeSet o) s = .next t ∧ keepsBut [.clk, .mb, .msi] s t ∧ endsWith o (okRes (le 8 (edgeSeconds s) ++ le 8 0)) s t ∧
        t.clk = { s.clk with step := none }) := by
  have hedge := edgeSeconds_lt s
  refine ⟨fun hm hlt => ?_, fun hm hlo hhi => ?_, fun hm hv0 => ?_⟩
  · have hafter : ((edgeSeconds s * uSec : Nat) : Int) + ((v : Int) - edgeSeconds s) * uSec = (v * uSec : Nat) := by
      push_cast
      ring
    have hspan : v * uSec < timeSpan := Nat.mul_lt_mul_of_pos_right hlt (by decide)
    refine timeSet_steps h ?_
    rw [timeSet_passes hz hm hv.symm rfl (by decide) (fun _ => hlt) (by simp)
      (by rw [stepOrdered_seconds, hafter]; exact Int.natCast_nonneg _)
      (by rw [stepOrdered_seconds, hafter]; exact Int.ofNat_lt.mpr hspan), if_neg (by decide), stepOrdered_seconds]
    rfl
  · refine timeSet_steps h ?_
    rw [timeSet_passes hz hm hv.symm rfl (by decide) (by simp) (by simp) hlo hhi, if_neg (by decide), stepOrdered_difference,
      satS_toSigned]
    rfl
  · have hspan : edgeSeconds s * uSec < timeSpan := Nat.mul_lt_mul_of_pos_right hedge (by decide)
    refine timeSet_steps h ?_
    rw [timeSet_passes hz hm hv.symm rfl (by decide) (by simp) (fun _ => hv0)
      (by rw [stepOrdered_none, add_zero]; exact Int.natCast_nonneg _)
      (by rw [stepOrdered_none, add_zero]; exact Int.ofNat_lt.mpr hspan), if_pos rfl, stepOrdered_none, ofSigned_satS_zero]

/-- The clock as UTC_SET leaves it. -/
def utcAs (target : Nat) (w : Word) (c : Clock) : Clock :=
  if target = 0 then { c with utcCfg := some w } else if target = 1 then { c with utcOvr := some w } else { c with utcOvr := none }

theorem utcSet_stores (o : Origin) (p : List Byte) (w : Nat) (s : State) (h : commandAt s o 0x0202 = some p) (hz : zeros p 1 3 = true)
    (hw : w = fieldLe p 4 4) (hres : bits w 16 13 = 0) (hleap : bits w 29 2 ≠ 3) (htarget : fieldLe p 0 1 ≤ 2)
    (hend : fieldLe p 0 1 = 2 → w = 0) :
    ∃ t, exec (.utcSet o) s = .next t ∧ keepsBut [.clk, .mb, .msi] s t ∧ endsWith o (okRes []) s t ∧
      t.clk = (if fieldLe p 0 1 = 0 then { s.clk with utcCfg := some (BitVec.ofNat 32 w) }
        else if fieldLe p 0 1 = 1 then { s.clk with utcOvr := some (BitVec.ofNat 32 w) } else { s.clk with utcOvr := none }) := by
  have hwork : utcSet o p s = setResult o (okRes []) { s with clk := utcAs (fieldLe p 0 1) (BitVec.ofNat 32 w) s.clk } := by
    unfold utcSet
    dsimp only
    rw [← hw]
    generalize fieldLe p 0 1 = k at htarget hend
    refine (checked_none _ s (firstBad_none ?_)).trans ?_
    · simp [hz, hres, hleap]
      omega
    · obtain rfl | rfl | rfl : k = 0 ∨ k = 1 ∨ k = 2 := by omega
      all_goals rfl
  obtain ⟨t, hrun, hkeep, hends, hpart⟩ := command_does h hwork (keepsBut_withClk _ s) (by simp)
  exact ⟨t, hrun, keepsBut_mono hkeep (by simp), hends, hpart .clk (by simp)⟩

/-! ### REF_SELECT, REF_QUALIFY and REF_RELEASE -/

theorem engx_of_bothX (f : EngineX → EngineX) (s : State) : { (bothX f s).te with engx := s.te.engx } = s.te := rfl

theorem refSelect_selects (o : Origin) (p : List Byte) (r : Nat) (s : State) (h : commandAt s o 0x0211 = some p) (hr : r = fieldLe p 0 1)
    (hz : zeros p 1 3 = true) (hlist : r = 255 ∨ r ∈ refList) :
    (autoMode s (ctl s) = false → ∃ t, exec (.refSelect o) s = .next t ∧ onlyAnswers o (notPermitted 0x0005) s t) ∧
    (autoMode s (ctl s) = true → r ≠ 255 → selectable s r = false →
      ∃ t, exec (.refSelect o) s = .next t ∧ onlyAnswers o (notPermitted 0x0003) s t) ∧
    (autoMode s (ctl s) = true → (r = 255 ∨ selectable s r = true) →
      ∃ t, exec (.refSelect o) s = .next t ∧ keepsBut [.te, .mb, .msi] s t ∧ { t.te with engx := s.te.engx } = s.te ∧
        ((engOf s (ctl s)).sw = none → endsWith o (okRes (le 4 0)) s t ∧ ∀ e, e < 2 →
          engxOf t e = { engxOf s e with selHeld := if r = 255 then none else some r, selCmd := none }) ∧
        ((engOf s (ctl s)).sw ≠ none → endsWith o (okRes (le 4 1)) s t ∧ ∀ e, e < 2 →
          engxOf t e = { engxOf s e with selCmd := some (if r = 255 then none else some r) })) := by
  obtain ⟨want, hwant⟩ : ∃ want : Option Nat, want = if r = 255 then none else some r := ⟨_, rfl⟩
  have hwork : refSelect o p s = if !autoMode s (ctl s) then setResult o (notPermitted 0x0005) s
      else if r != 255 && !selectable s r then setResult o (notPermitted 0x0003) s
      else if (engOf s (ctl s)).sw.isSome then setResult o (okRes (le 4 1)) (bothX (fun v => { v with selCmd := some want }) s)
      else setResult o (okRes (le 4 0)) (bothX (fun v => { v with selHeld := want, selCmd := none }) s) := by
    unfold refSelect
    dsimp only
    rw [← hr, hwant]
    refine checked_none _ s (firstBad_none ?_)
    rcases hlist with e | e <;> simp [e, hz]
  rw [← hwant]
  refine ⟨fun hauto => ?_, fun hauto hne hsel => ?_, fun hauto hsel => ?_⟩
  · rw [if_pos (by simp [hauto])] at hwork
    exact command_answers h hwork
  · rw [if_neg (by simp [hauto]), if_pos (by simp [hne, hsel])] at hwork
    exact command_answers h hwork
  · rw [if_neg (by simp [hauto]), if_neg (by rcases hsel with e | e <;> simp [e])] at hwork
    cases hsw : (engOf s (ctl s)).sw with
    | none =>
      rw [hsw, if_neg (by simp)] at hwork
      obtain ⟨t, hrun, hkeep, hend, hpart⟩ := command_does h hwork (keepsBut_bothX _ s) (by simp)
      have hte := hpart .te (by simp)
      refine ⟨t, hrun, keepsBut_mono hkeep (by simp), ?_, fun _ => ⟨hend, fun e he => ?_⟩, fun hs => absurd rfl hs⟩
      · rw [hte]
        exact engx_of_bothX _ s
      · rw [engxOf_of_te hte, engxOf_bothX he]
    | some w =>
      rw [hsw, if_pos (by simp)] at hwork
      obtain ⟨t, hrun, hkeep, hend, hpart⟩ := command_does h hwork (keepsBut_bothX _ s) (by simp)
      have hte := hpart .te (by simp)
      refine ⟨t, hrun, keepsBut_mono hkeep (by simp), ?_, fun hs => absurd hs (by simp), fun _ => ⟨hend, fun e he => ?_⟩⟩
      · rw [hte]
        exact engx_of_bothX _ s
      · rw [engxOf_of_te hte, engxOf_bothX he]

theorem sameCommands_setRef (r : Nat) (st : RefSt) (why : Nat) (s : State) : sameCommands s (setRef r st why s) := by
  unfold setRef
  dsimp only
  split
  · exact sameCommands_of_mb rfl
  · refine sameCommands_trans (sameCommands_of_mb ?_) (sameCommands_issueEvent _ _ _ _)
    split
    · rfl
    · split <;> rfl

section
variable {o : Origin} {p : List Byte} {r : Nat} {s : State}

/-- REF_QUALIFY that moves the reference. -/
theorem refQualify_moves {st : RefSt} {why : Nat} (h : commandAt s o 0x0212 = some p) (hlist : r ∈ refList)
    (hwork : refQualify o p s = setResult o (okRes []) (setRef r st why s)) :
    ∃ t, exec (.refQualify o) s = .next t ∧ keepsBut [.te, .host, .mb, .msi, .pc] s t ∧ replied o (okRes []) t ∧
      (viewOf t r).st = st ∧ (viewOf t r).reason = why := by
  obtain ⟨t, hrun, hkeep, hreply, hpart⟩ := command_reports h hwork (keepsBut_setRef r st why s) (sameCommands_setRef r st why s)
  obtain ⟨hst, hwhy⟩ := viewOf_setRef st why s (lt_of_mem_refList r hlist)
  have hview : viewOf t r = viewOf (setRef r st why s) r := viewOf_of_te (hpart .te (by simp)) r
  exact ⟨t, hrun, keepsBut_mono hkeep (by simp), hreply, by rw [hview, hst], by rw [hview, hwhy]⟩

theorem refQualify_eq {act : Nat} (hr : r = fieldLe p 0 1) (hlist : r ∈ refList) (hz : zeros p 2 2 = true) (hact : fieldLe p 1 1 = act)
    (hact1 : act ≤ 1) : refQualify o p s = setResult o (okRes []) (qualifyRef r act s) := by
  unfold refQualify
  dsimp only
  rw [← hr, hact]
  exact checked_none _ s (firstBad_none (by simp [hlist, hz, hact1]))

end

theorem refQualify_judges (o : Origin) (p : List Byte) (r : Nat) (s : State) (h : commandAt s o 0x0212 = some p) (hr : r = fieldLe p 0 1)
    (hlist : r ∈ refList) (hz : zeros p 2 2 = true) :
    (fieldLe p 1 1 = 0 → (viewOf s r).st = .disqualified → ∃ t, exec (.refQualify o) s = .next t ∧
      keepsBut [.te, .host, .mb, .msi, .pc] s t ∧ replied o (okRes []) t ∧ (viewOf t r).st = .qualifying ∧ (viewOf t r).reason = 0) ∧
    (fieldLe p 1 1 = 0 → (viewOf s r).st = .suspect → ∃ t, exec (.refQualify o) s = .next t ∧
      keepsBut [.te, .host, .mb, .msi, .pc] s t ∧ replied o (okRes []) t ∧ (viewOf t r).st = .available) ∧
    (fieldLe p 1 1 = 0 → (viewOf s r).st ≠ .disqualified → (viewOf s r).st ≠ .suspect →
      ∃ t, exec (.refQualify o) s = .next t ∧ onlyAnswers o (okRes []) s t) ∧
    (fieldLe p 1 1 = 1 → (viewOf s r).st ≠ .disabled → ∃ t, exec (.refQualify o) s = .next t ∧
      keepsBut [.te, .host, .mb, .msi, .pc] s t ∧ replied o (okRes []) t ∧ (viewOf t r).st = .disqualified ∧ (viewOf t r).reason = 9) := by
  refine ⟨fun hact hst => ?_, fun hact hst => ?_, fun hact hdis hsus => ?_, fun hact hen => ?_⟩
  · have hmove : qualifyRef r 0 s = setRef r .qualifying 0 s := by
      unfold qualifyRef
      rw [hst]
      rfl
    exact refQualify_moves h hlist (by rw [refQualify_eq hr hlist hz hact (by decide), hmove])
  · have hmove : qualifyRef r 0 s = setRef r .available 0 s := by
      unfold qualifyRef
      rw [hst]
      rfl
    obtain ⟨t, hrun, hkeep, hreply, hst', -⟩ :=
      refQualify_moves h hlist (by rw [refQualify_eq hr hlist hz hact (by decide), hmove])
    exact ⟨t, hrun, hkeep, hreply, hst'⟩
  · have hstay : qualifyRef r 0 s = s := by
      unfold qualifyRef
      cases hst : (viewOf s r).st <;> first | rfl | exact absurd hst hdis | exact absurd hst hsus
    exact command_answers h (by rw [refQualify_eq hr hlist hz hact (by decide), hstay])
  · have hmove : qualifyRef r 1 s = setRef r .disqualified 9 s := by
      unfold qualifyRef
      cases hst : (viewOf s r).st <;> first | rfl | exact absurd hst hen
    exact refQualify_moves h hlist (by rw [refQualify_eq hr hlist hz hact (by decide), hmove])

theorem refRelease_releases (o : Origin) (p : List Byte) (r : Nat) (s : State) (h : commandAt s o 0x0213 = some p) (hr : r = fieldLe p 0 1)
    (hlist : r ∈ refList) (hz : zeros p 1 3 = true) :
    (((engOf s (ctl s)).sw ≠ none ∨ (engOf s (ctl s)).sel ≠ some r) →
      ∃ t, exec (.refRelease o) s = .next t ∧ onlyAnswers o (notPermitted 0x0009) s t) ∧
    ((engOf s (ctl s)).sw = none → (engOf s (ctl s)).sel = some r →
      ∃ t, exec (.refRelease o) s = .next t ∧ keepsBut [.te, .mb, .msi] s t ∧ endsWith o (okRes []) s t ∧
        t.te = { s.te with eng := vmodN s.te.eng (ctl s) (fun x => { x with
          slewAt := if x.slewing then x.slewAt else s.clk.elapsed
          slewing := x.slewing || decide ((viewOf s r).absorb ≠ 0) }) }) := by
  have hwork : refRelease o p s = if (engOf s (ctl s)).sw.isSome || (engOf s (ctl s)).sel != some r then setResult o (notPermitted 0x0009) s
      else setResult o (okRes []) (engMod (ctl s) (fun x => { x with
        slewAt := if x.slewing then x.slewAt else s.clk.elapsed
        slewing := x.slewing || decide ((viewOf s r).absorb ≠ 0) }) s) := by
    unfold refRelease
    dsimp only
    rw [← hr]
    exact checked_none _ s (firstBad_none (by simp [hlist, hz]))
  refine ⟨fun hno => ?_, fun hsw hsel => ?_⟩
  · rw [if_pos (by simpa [Option.isSome_iff_ne_none] using hno)] at hwork
    exact command_answers h hwork
  · rw [if_neg (by simp [hsw, hsel])] at hwork
    obtain ⟨t, hrun, hkeep, hend, hpart⟩ := command_does h hwork (keepsBut_engMod _ _ s) (by simp)
    exact ⟨t, hrun, keepsBut_mono hkeep (by simp), hend, hpart .te (by simp)⟩

/-- Settles O50, command by command. -/
theorem timeAndReferenceCommands : Obligations.TimeAndReferenceCommands :=
  ⟨⟨timeSet_orders, utcSet_stores⟩, refSelect_selects, refQualify_judges, refRelease_releases⟩

/-! ### TRIG_SCHEDULE and TRIG_CANCEL (R449) -/

theorem any_le_of_le {t x : Nat} (h : t ≤ x) : (!(some x).any (fun y => decide (t ≤ y))) = false := by simpa using h

theorem trigSchedule_schedules (o : Origin) (p : List Byte) (j w per x : Nat) (s : State) (h : commandAt s o 0x0310 = some p)
    (hj : j = fieldLe p 0 1) (hj' : j ≤ 7) (hw : w = fieldLe p 4 4) (hper : per = fieldLe p 24 8) (hx : fullOf (slice p 8 16) = some x)
    (hz : zeros p 1 3 = true) (hz' : zeros p 36 4 = true) (hwlo : 1 ≤ w) (hwhi : w ≤ 2 ^ 28) (hahead : s.clk.now + 10 * uUs ≤ x)
    (hper' : per = 0 ∨ (3200 + 1600 * w ≤ per ∧ per ≤ 1000000000000000)) :
    let e : TrigEntry := { handle := (trigOf s j).accepted % 65536, start := x, width := w, period := per, count := fieldLe p 32 4 }
    (domOn s 13 = true → (trigOf s j).queue = [] → (trigOf s j).last = none → ∃ t, exec (.trigSchedule o) s = .next t ∧
      keepsBut [.tio, .mb, .msi] s t ∧ endsWith o (okRes (le 4 e.handle)) s t ∧
      t.tio = { s.tio with trig := vmodN s.tio.trig j (fun t => { t with queue := [e], accepted := t.accepted + 1 }) }) ∧
    (domOn s 13 = false → ∃ t, exec (.trigSchedule o) s = .next t ∧ onlyAnswers o (notPermitted 0x0008) s t) ∧
    (domOn s 13 = true → 16 ≤ (trigOf s j).queue.length →
      ∃ t, exec (.trigSchedule o) s = .next t ∧ onlyAnswers o (notPermitted 0x000A) s t) ∧
    (domOn s 13 = true → (trigOf s j).queue.length < 16 → (∃ q ∈ (trigOf s j).queue, q.count = 0) →
      ∃ t, exec (.trigSchedule o) s = .next t ∧ onlyAnswers o (notPermitted 0x0006) s t) := by
  intro e
  have hwork : trigSchedule o p s = if !domOn s 13 then setResult o (notPermitted 0x0008) s
      else if 16 ≤ (trigOf s j).queue.length then setResult o (notPermitted 0x000A) s
      else if (trigOf s j).queue.any (fun q => q.count == 0) || (trigTrains s j).any (fun q => trigClash e q.1 q.2) then
        setResult o (notPermitted 0x0006) s
      else setResult o (okRes (le 4 e.handle))
        (trigMod j (fun t => { t with queue := t.queue ++ [e], accepted := t.accepted + 1 }) s) := by
    unfold trigSchedule
    dsimp only
    rw [← hj, ← hw, ← hper, hx]
    have hwidth : decide (w = 0 ∨ 2 ^ 28 < w) = false := decide_eq_false (by omega)
    have hperiod : decide (per ≠ 0 ∧ (per < 3200 + 1600 * w ∨ 1000000000000000 < per)) = false := decide_eq_false (by omega)
    exact checked_none _ s ((firstBad_miss (by simpa using hj')).trans ((firstBad_miss (by simp [hz])).trans
      ((firstBad_miss hwidth).trans ((firstBad_miss (any_le_of_le hahead)).trans ((firstBad_miss hperiod).trans
        ((firstBad_miss (by simp [hz'])).trans firstBad_nil))))))
  clear_value e
  refine ⟨fun hon hempty hlast => ?_, fun hoff => ?_, fun hon hfull => ?_, fun hon hroom hendless => ?_⟩
  · have htrains : trigTrains s j = [] := by
      unfold trigTrains
      dsimp only
      rw [hempty, hlast]
      rfl
    rw [if_neg (by simp [hon]), if_neg (by simp [hempty]), if_neg (by simp [hempty, htrains])] at hwork
    obtain ⟨t, hrun, hkeep, hend, hpart⟩ := command_does h hwork (keepsBut_trigMod j _ s) (by simp)
    refine ⟨t, hrun, keepsBut_mono hkeep (by simp), hend, (hpart .tio (by simp)).trans ?_⟩
    have hqueue : (vget s.tio.trig j {}).queue = [] := hempty
    have hadd : vmodN s.tio.trig j (fun t => { t with queue := t.queue ++ [e], accepted := t.accepted + 1 }) =
        vmodN s.tio.trig j (fun t => { t with queue := [e], accepted := t.accepted + 1 }) :=
      vmodN_congr (d := {}) (by rw [hqueue, List.nil_append])
    rw [← hadd]
    rfl
  · rw [if_pos (by simp [hoff])] at hwork
    exact command_answers h hwork
  · rw [if_neg (by simp [hon]), if_pos hfull] at hwork
    exact command_answers h hwork
  · have hany : (trigOf s j).queue.any (fun q => q.count == 0) = true := by
      obtain ⟨q, hq, hcount⟩ := hendless
      exact List.any_eq_true.mpr ⟨q, hq, by simp [hcount]⟩
    rw [if_neg (by simp [hon]), if_neg (by omega), hany, if_pos (by simp)] at hwork
    exact command_answers h hwork

theorem trigCancel_cancels (o : Origin) (p : List Byte) (j : Nat) (s : State) (h : commandAt s o 0x0311 = some p) (hj : j = fieldLe p 0 1)
    (hj' : j ≤ 7) (hall : fieldLe p 1 1 ≤ 1) :
    ∃ t, exec (.trigCancel o) s = .next t ∧ keepsBut [.tio, .mb, .msi] s t ∧ endsWith o (okRes []) s t ∧
      t.tio = { s.tio with trig := vmodN s.tio.trig j (fun t => { t with
        queue := if fieldLe p 1 1 = 1 then [] else t.queue.filter (fun e => e.handle != fieldLe p 2 2) }) } := by
  have hwork : trigCancel o p s = setResult o (okRes []) (trigMod j (fun t => { t with
      queue := if fieldLe p 1 1 = 1 then [] else t.queue.filter (fun e => e.handle != fieldLe p 2 2) }) s) := by
    unfold trigCancel
    dsimp only
    rw [← hj]
    exact checked_none _ s (firstBad_none (by simp [hj', hall]))
  obtain ⟨t, hrun, hkeep, hend, hpart⟩ := command_does h hwork (keepsBut_trigMod j _ s) (by simp)
  exact ⟨t, hrun, keepsBut_mono hkeep (by simp), hend, hpart .tio (by simp)⟩

/-- Settles O52, command by command. -/
theorem triggerCommands : Obligations.TriggerCommands := ⟨trigSchedule_schedules, trigCancel_cancels⟩

end Sys2Proof.Machine

/-! Software steering, the engines' models and ENGINE_CLEAR (R144 to R146, R446, R447). -/

namespace Sys2Proof.Machine

-- The joined text is one compile: no thread beside the main one for each proof.
set_option Elab.async false

/-! ### What the end of a switch and the start of an acquisition leave -/

/-- Work about the engines that leaves the commands, and what steers each engine. -/
structure SteerWork (s t : State) : Prop where
  frame : keepsBut [.te, .mb, .host, .pc] s t
  commands : sameCommands s t
  st : ∀ e, (engOf t e).st = (engOf s e).st
  y : ∀ e, (engOf t e).y = (engOf s e).y
  target : ∀ e, (engxOf t e).target = (engxOf s e).target
  estimates : ∀ e, (engxOf t e).estimates = (engxOf s e).estimates

namespace SteerWork

variable {s t u : State}

theorem refl (s : State) : SteerWork s s :=
  ⟨keepsBut_refl _ s, ⟨rfl, rfl⟩, fun _ => rfl, fun _ => rfl, fun _ => rfl, fun _ => rfl⟩

theorem trans (h : SteerWork s t) (k : SteerWork t u) : SteerWork s u where
  frame := keepsBut_trans h.frame k.frame
  commands := sameCommands_trans h.commands k.commands
  st e := (k.st e).trans (h.st e)
  y e := (k.y e).trans (h.y e)
  target e := (k.target e).trans (h.target e)
  estimates e := (k.estimates e).trans (h.estimates e)

theorem of_issueEvent (code source : Nat) (data : List Byte) (s : State) : SteerWork s (issueEvent code source data s) where
  frame := keepsBut_mono (keepsBut_issueEvent code source data s) (by simp)
  commands := sameCommands_issueEvent code source data s
  st e := by rw [engOf_of_te (issueEvent_te _ _ _ _)]
  y e := by rw [engOf_of_te (issueEvent_te _ _ _ _)]
  target e := by rw [engxOf_of_te (issueEvent_te _ _ _ _)]
  estimates e := by rw [engxOf_of_te (issueEvent_te _ _ _ _)]

theorem of_engMod {k : Nat} {f : Engine → Engine} (s : State) (hst : ∀ x, (f x).st = x.st := by exact fun _ => rfl)
    (hy : ∀ x, (f x).y = x.y := by exact fun _ => rfl) : SteerWork s (engMod k f s) where
  frame := keepsBut_mono (keepsBut_engMod k f s) (by simp)
  commands := sameCommands_of_mb rfl
  st e := engOf_engMod_kept Engine.st hst k e s
  y e := engOf_engMod_kept Engine.y hy k e s
  target _ := rfl
  estimates _ := rfl

theorem of_engxMod {k : Nat} {f : EngineX → EngineX} (s : State) (htarget : ∀ x, (f x).target = x.target := by exact fun _ => rfl)
    (hest : ∀ x, (f x).estimates = x.estimates := by exact fun _ => rfl) : SteerWork s (engxMod k f s) where
  frame := keepsBut_mono (keepsBut_engxMod k f s) (by simp)
  commands := sameCommands_of_mb rfl
  st _ := rfl
  y _ := rfl
  target e := engxOf_engxMod_kept EngineX.target htarget k e s
  estimates e := engxOf_engxMod_kept EngineX.estimates hest k e s

theorem of_refMod {r : Nat} {f : Reference → Reference} (s : State) : SteerWork s (refMod r f s) :=
  ⟨keepsBut_mono (keepsBut_refMod r f s) (by simp), sameCommands_of_mb rfl, fun _ => rfl, fun _ => rfl, fun _ => rfl, fun _ => rfl⟩

theorem of_takeSelCmd (s : State) : SteerWork s (takeSelCmd s) := by
  unfold takeSelCmd
  split
  · exact (SteerWork.of_engxMod s).trans (.of_engxMod _)
  · exact .refl s

theorem of_abandonSwitch (s : State) : SteerWork s (abandonSwitch s) := by
  unfold abandonSwitch
  dsimp only
  split
  · exact ((SteerWork.of_issueEvent _ _ _ s).trans (.of_engMod _)).trans (.of_takeSelCmd _)
  · exact .refl s

end SteerWork

theorem engxOf_setServo (e : Nat) (st : ServoSt) (s : State) (i : Nat) : engxOf (setServo e st s) i = engxOf s i := by
  unfold setServo
  dsimp only
  split
  · rfl
  · split
    · rw [engxOf_of_te (issueEvent_te _ _ _ _)]
      rfl
    · rfl

theorem sameCommands_setServo (e : Nat) (st : ServoSt) (s : State) : sameCommands s (setServo e st s) := by
  unfold setServo
  dsimp only
  split
  · exact sameCommands_of_mb rfl
  · split
    · exact sameCommands_trans (sameCommands_of_mb rfl) (sameCommands_issueEvent _ _ _ _)
    · exact sameCommands_of_mb rfl

/-- An engine that enters a servo state after work about the engines. -/
theorem setServo_enters {e : Nat} (he : e < 2) {st : ServoSt} {s t : State} (h : SteerWork s t) (hst : (engOf s e).st ≠ st) :
    keepsBut [.te, .mb, .host, .pc] s (setServo e st t) ∧ sameCommands s (setServo e st t) ∧
      engOf (setServo e st t) e = { engOf t e with st := st, lockCnt := 0, unlockCnt := 0 } :=
  ⟨keepsBut_trans h.frame (keepsBut_setServo e st t), sameCommands_trans h.commands (sameCommands_setServo e st t),
    engOf_setServo he (by rw [h.st]; exact hst)⟩

/-! ### SERVO_MODE (R446) -/

/-- Software steering begins in an engine that is not in that state. -/
theorem enterSw_enters {e : Nat} (he : e < 2) {st : ServoSt} {s t : State} (h : SteerWork s t) (hst : (engOf s e).st ≠ st) :
    keepsBut [.te, .mb, .host, .pc] s (enterSw e st t) ∧ sameCommands s (enterSw e st t) ∧ (engOf (enterSw e st t) e).st = st ∧
      (engOf (enterSw e st t) e).y = (engOf s e).y ∧ (engxOf (enterSw e st t) e).target = (engxOf t e).target ∧
      (engxOf (enterSw e st t) e).estimates = (engxOf t e).estimates := by
  have hleft : SteerWork t (engMod e (fun x => { x with hoInSw := false, forceSw := false, acqPhase := 0, lastFresh := 0 })
      (abandonSwitch t)) := (SteerWork.of_abandonSwitch t).trans (.of_engMod _)
  obtain ⟨hframe, hsame, heng⟩ := setServo_enters he (h.trans hleft) hst
  refine ⟨hframe, hsame, ?_, ?_, ?_, ?_⟩
  · exact congrArg Engine.st heng
  · exact (congrArg Engine.y heng).trans ((h.trans hleft).y e)
  · exact (congrArg EngineX.target (engxOf_setServo _ _ _ _)).trans (hleft.target e)
  · exact (congrArg EngineX.estimates (engxOf_setServo _ _ _ _)).trans (hleft.estimates e)

/-- Work whose effect on what steers is an engine's own record. -/
theorem keepsBut_engxMod_steer {e : Nat} (f : EngineX → EngineX) (s : State) :
    keepsBut [.te, .mb, .host, .pc] s (engxMod e f s) ∧ sameCommands s (engxMod e f s) :=
  ⟨keepsBut_mono (keepsBut_engxMod e f s) (by simp), sameCommands_of_mb rfl⟩

theorem toAuto_acquires {e r : Nat} (he : e < 2) {s : State} (hsw : autoMode s e = false) (hwant : wantedRef s none = some r) :
    keepsBut [.te, .mb, .host, .pc] s (toAuto e s) ∧ sameCommands s (toAuto e s) ∧ (engOf (toAuto e s) e).st = .acquire ∧
      (engOf (toAuto e s) e).sel = some r := by
  have hst : (engOf s e).st ≠ .acquire := by
    intro h
    simp [autoMode, h] at hsw
  have hwant' : wantedRef (engMod e (fun x => { x with hoInSw := false }) s) none = some r := hwant
  unfold toAuto
  dsimp only
  rw [hwant']
  unfold startAcquire
  dsimp only
  generalize hv : engxMod e (fun v => { v with acqSw := false })
    (viewMod r (fun v => { v with absorb := 0 }) (engMod e (fun x => { x with hoInSw := false }) s)) = v
  have hleft : SteerWork s v := hv ▸ ((SteerWork.of_engMod s).trans (.of_engxMod _)).trans (.of_engxMod _)
  have hwork := (hleft.trans (.of_refMod (r := r) (f := fun x => { x with suspGood := 0 }) v)).trans (.of_engMod (k := e) (f := fun x => { x with
    sel := some r, sw := none, forceSw := false, acqPhase := 0, slewing := false, slewHo := false, hoInSw := false, lastFresh := 0 }) _)
  obtain ⟨hframe, hsame, heng⟩ := setServo_enters he hwork hst
  have hmarked := keepsBut_engxMod_steer (e := e) (fun v => { v with acqSw := true }) (setServo e .acquire (engMod e (fun x => { x with
    sel := some r, sw := none, forceSw := false, acqPhase := 0, slewing := false, slewHo := false, hoInSw := false, lastFresh := 0 })
    (refMod r (fun x => { x with suspGood := 0 }) v)))
  refine ⟨keepsBut_trans hframe hmarked.1, sameCommands_trans hsame hmarked.2, ?_, ?_⟩
  · exact congrArg Engine.st heng
  · rw [engOf_engxMod, heng, engOf_engMod_same he]

section
variable {o : Origin} {p : List Byte} {c : Fin 2} {mode : Nat} {s : State}

/-- SERVO_MODE in the engine in control. -/
theorem servoModeCmd_eq (hz : zeros p 1 3 = true) (hc : s.te.ks.control = some c) (hmode : fieldLe p 0 1 = mode) (hm : mode ≤ 2) :
    servoModeCmd o p s = setResult o (okRes []) (servoModeTo c.val mode s) := by
  have hctl : ctl s = c.val := by rw [ctl, hc]; rfl
  unfold servoModeCmd
  dsimp only
  rw [hmode, checked_none _ s (firstBad_none (by simp [hz, hm])), hc, if_pos (by rfl), hctl]

end

theorem servoMode_steers (o : Origin) (p : List Byte) (c : Fin 2) (s : State) (h : commandAt s o 0x0221 = some p) (hz : zeros p 1 3 = true)
    (hc : s.te.ks.control = some c) :
    (fieldLe p 0 1 = 1 → (engOf s c.val).st ≠ .swOpen → ∃ t, exec (.servoMode o) s = .next t ∧
      keepsBut [.te, .host, .mb, .msi, .pc] s t ∧ replied o (okRes []) t ∧ (engOf t c.val).st = .swOpen ∧
      (engxOf t c.val).target = (engOf s c.val).y ∧ (engOf t c.val).y = (engOf s c.val).y) ∧
    (fieldLe p 0 1 = 2 → (engOf s c.val).st ≠ .swClosed → ∃ t, exec (.servoMode o) s = .next t ∧
      keepsBut [.te, .host, .mb, .msi, .pc] s t ∧ replied o (okRes []) t ∧ (engOf t c.val).st = .swClosed ∧
      (engxOf t c.val).estimates = []) ∧
    (fieldLe p 0 1 = 0 → autoMode s c.val = true → ∃ t, exec (.servoMode o) s = .next t ∧ onlyAnswers o (okRes []) s t) ∧
    (∀ r, fieldLe p 0 1 = 0 → autoMode s c.val = false → wantedRef s none = some r → ∃ t, exec (.servoMode o) s = .next t ∧
      keepsBut [.te, .host, .mb, .msi, .pc] s t ∧ replied o (okRes []) t ∧ (engOf t c.val).st = .acquire ∧
      (engOf t c.val).sel = some r) := by
  refine ⟨fun hmode hst => ?_, fun hmode hst => ?_, fun hmode hauto => ?_, fun r hmode hauto hwant => ?_⟩
  · obtain ⟨v, hv⟩ : ∃ v, v = engxMod c.val (fun x => { x with target := (engOf s c.val).y, swY := (engOf s c.val).y }) s := ⟨_, rfl⟩
    have hto : servoModeTo c.val 1 s = enterSw c.val .swOpen v := by
      rw [hv]
      exact if_neg hst
    have htarget : (engxOf v c.val).target = (engOf s c.val).y := by rw [hv, engxOf_engxMod_of_lt c.isLt]
    have hengv : ∀ e, engOf v e = engOf s e := fun e => by rw [hv]; rfl
    have hset : keepsBut [.te, .mb, .host, .pc] s v ∧ sameCommands s v := hv ▸ keepsBut_engxMod_steer _ s
    obtain ⟨hframe, hsame, hst', hy, htarget', -⟩ := enterSw_enters c.isLt (.refl v) (st := .swOpen) (by rw [hengv]; exact hst)
    obtain ⟨t, hrun, hkeep, hreply, hpart⟩ := command_reports h
      ((servoModeCmd_eq hz hc hmode (by decide)).trans (congrArg (setResult o (okRes [])) hto))
      (keepsBut_trans hset.1 hframe) (sameCommands_trans hset.2 hsame)
    have hte := hpart .te (by simp)
    refine ⟨t, hrun, keepsBut_mono hkeep (by simp), hreply, ?_, ?_, ?_⟩
    · rw [engOf_of_te hte, hst']
    · rw [engxOf_of_te hte, htarget', htarget]
    · rw [engOf_of_te hte, hy, hengv]
  · obtain ⟨v, hv⟩ : ∃ v, v = engxMod c.val (fun x => { x with estimates := [] }) s := ⟨_, rfl⟩
    have hto : servoModeTo c.val 2 s = enterSw c.val .swClosed v := by
      rw [hv]
      exact if_neg hst
    have hempty : (engxOf v c.val).estimates = [] := by rw [hv, engxOf_engxMod_of_lt c.isLt]
    have hengv : ∀ e, engOf v e = engOf s e := fun e => by rw [hv]; rfl
    have hset : keepsBut [.te, .mb, .host, .pc] s v ∧ sameCommands s v := hv ▸ keepsBut_engxMod_steer _ s
    obtain ⟨hframe, hsame, hst', -, -, hest⟩ := enterSw_enters c.isLt (.refl v) (st := .swClosed) (by rw [hengv]; exact hst)
    obtain ⟨t, hrun, hkeep, hreply, hpart⟩ := command_reports h
      ((servoModeCmd_eq hz hc hmode (by decide)).trans (congrArg (setResult o (okRes [])) hto))
      (keepsBut_trans hset.1 hframe) (sameCommands_trans hset.2 hsame)
    have hte := hpart .te (by simp)
    refine ⟨t, hrun, keepsBut_mono hkeep (by simp), hreply, ?_, ?_⟩
    · rw [engOf_of_te hte, hst']
    · rw [engxOf_of_te hte, hest, hempty]
  · have hto : servoModeTo c.val 0 s = s := if_pos hauto
    exact command_answers h ((servoModeCmd_eq hz hc hmode (by decide)).trans (congrArg (setResult o (okRes [])) hto))
  · have hto : servoModeTo c.val 0 s = toAuto c.val s := if_neg (by simp [hauto])
    obtain ⟨hframe, hsame, hst', hsel⟩ := toAuto_acquires c.isLt hauto hwant
    obtain ⟨t, hrun, hkeep, hreply, hpart⟩ := command_reports h
      ((servoModeCmd_eq hz hc hmode (by decide)).trans (congrArg (setResult o (okRes [])) hto)) hframe hsame
    have hte := hpart .te (by simp)
    refine ⟨t, hrun, keepsBut_mono hkeep (by simp), hreply, ?_, ?_⟩
    · rw [engOf_of_te hte, hst']
    · rw [engOf_of_te hte, hsel]

/-! ### FREQ_WRITE and PHASE_EST -/

theorem freqWrite_feeds (o : Origin) (p : List Byte) (s : State) (h : commandAt s o 0x0222 = some p)
    (hlim : |toSigned 64 (fieldLe p 0 8)| ≤ parE s 0x27 (ctl s)) :
    (ctlIn s .swOpen = true → ∃ t, exec (.freqWrite o) s = .next t ∧ keepsBut [.te, .mb, .msi] s t ∧ endsWith o (okRes []) s t ∧
      t.te = { s.te with engx := vmodN s.te.engx (ctl s) (fun x => { x with target := toSigned 64 (fieldLe p 0 8) }) }) ∧
    (ctlIn s .swOpen = false → ∃ t, exec (.freqWrite o) s = .next t ∧ onlyAnswers o (notPermitted 0x0005) s t) := by
  have hwork : freqWrite o p s = if ctlIn s .swOpen then
        setResult o (okRes []) (engxMod (ctl s) (fun x => { x with target := toSigned 64 (fieldLe p 0 8) }) s)
      else setResult o (notPermitted 0x0005) s := by
    unfold freqWrite
    dsimp only
    exact checked_none _ s ((firstBad_miss (decide_eq_false (not_lt.mpr hlim))).trans firstBad_nil)
  refine ⟨fun hin => ?_, fun hin => ?_⟩
  · rw [if_pos hin] at hwork
    obtain ⟨t, hrun, hkeep, hend, hpart⟩ := command_does h hwork (keepsBut_engxMod _ _ s) (by simp)
    exact ⟨t, hrun, keepsBut_mono hkeep (by simp), hend, hpart .te (by simp)⟩
  · rw [if_neg (by simp [hin])] at hwork
    exact command_answers h hwork

theorem phaseEst_feeds (o : Origin) (p : List Byte) (x : Nat) (s : State) (h : commandAt s o 0x0223 = some p)
    (hx : fullOf (slice p 0 16) = some x) (hpast : x ≤ s.clk.now) (hfresh : s.clk.now ≤ x + uSec) :
    (ctlIn s .swClosed = true → ∃ t, exec (.phaseEst o) s = .next t ∧ keepsBut [.te, .mb, .msi] s t ∧ endsWith o (okRes []) s t ∧
      t.te = { s.te with engx := vmodN s.te.engx (ctl s) (fun v => { v with
        estimates := v.estimates ++ [{ tag := x, val := toSigned 64 (fieldLe p 16 8) }] }) }) ∧
    (ctlIn s .swClosed = false → ∃ t, exec (.phaseEst o) s = .next t ∧ onlyAnswers o (notPermitted 0x0005) s t) := by
  have hwork : phaseEst o p s = if ctlIn s .swClosed then
        setResult o (okRes []) (engxMod (ctl s) (fun v => { v with
          estimates := v.estimates ++ [{ tag := x, val := toSigned 64 (fieldLe p 16 8) }] }) s)
      else setResult o (notPermitted 0x0005) s := by
    unfold phaseEst
    dsimp only
    rw [hx]
    exact checked_none _ s ((firstBad_miss (decide_eq_false (not_or.mpr ⟨not_lt.mpr hpast, not_lt.mpr hfresh⟩))).trans firstBad_nil)
  refine ⟨fun hin => ?_, fun hin => ?_⟩
  · rw [if_pos hin] at hwork
    obtain ⟨t, hrun, hkeep, hend, hpart⟩ := command_does h hwork (keepsBut_engxMod _ _ s) (by simp)
    exact ⟨t, hrun, keepsBut_mono hkeep (by simp), hend, hpart .te (by simp)⟩
  · rw [if_neg (by simp [hin])] at hwork
    exact command_answers h hwork

/-! ### The model (R447) -/

theorem length_flatMap_s64 (l : List Int) : (l.flatMap s64).length = 8 * l.length := by
  induction l with
  | nil => rfl
  | cons v l ih =>
    rw [List.flatMap_cons, List.length_append, ih, s64, length_le, List.length_cons]
    omega

/-- A field of a response behind `k` bytes. -/
theorem fieldLe_append_skip {a b : List Byte} {k : Nat} (ha : a.length = k) (n : Nat) : fieldLe (a ++ b) k n = fieldLe b 0 n := by
  rw [fieldLe, slice_append_skip ha k n (le_refl k), Nat.sub_self]
  rfl

/-- The record of MODEL_GET up to its TIME. -/
def modelHead (s : State) (e h : Nat) : List Byte :=
  le 4 (b2n (engxOf s e).modelReady + 2 * b2n (tempReady (engxOf s e)) + 4 * b2n (engOf s e).tempFault)
    ++ le 4 ((engOf s e).learned / 3600) ++ (modelWords (engOf s e) (wholeOrigin s)).flatMap s64 ++ (sigmaWords s e).flatMap s64
    ++ le 8 (satU 64 (forecastAt (fSqOf (engOf s e) (engxOf s e)) (sigAOf s e) (engOf s e).model.sigT h))

theorem modelRecord_eq (s : State) (e h : Nat) : modelRecord s e h = modelHead s e h ++ le 8 (secOf s.clk.now) := rfl

theorem length_modelHead (s : State) (e h : Nat) : (modelHead s e h).length = 88 := by
  have hwords : (modelWords (engOf s e) (wholeOrigin s)).length = 6 := rfl
  have hsigmas : (sigmaWords s e).length = 3 := rfl
  simp only [modelHead, List.length_append, length_le, length_flatMap_s64, hwords, hsigmas]

theorem modelHead_ready (s : State) (e h : Nat) (b : List Byte) :
    (fieldLe (modelHead s e h ++ b) 0 4).testBit 0 = (engxOf s e).modelReady := by
  unfold modelHead
  simp only [List.append_assoc]
  rw [fieldLe_le_head]
  cases (engxOf s e).modelReady <;> cases tempReady (engxOf s e) <;> cases (engOf s e).tempFault <;> rfl

theorem modelGet_answers (o : Origin) (p : List Byte) (s : State) (h : commandAt s o 0x0224 = some p) (he : fieldLe p 0 1 ≤ 1)
    (hz : zeros p 1 3 = true) :
    ∃ t r, exec (.modelGet o) s = .next t ∧ onlyAnswers o (okRes r) s t ∧ r = modelRecord s (fieldLe p 0 1) (fieldLe p 4 4) ∧
      r.length = 96 ∧ (fieldLe r 0 4).testBit 0 = (engxOf s (fieldLe p 0 1)).modelReady ∧ fieldLe r 88 8 = secOf s.clk.now % 2 ^ 64 := by
  have hwork : modelGet o p s = setResult o (okRes (modelRecord s (fieldLe p 0 1) (fieldLe p 4 4))) s := by
    unfold modelGet
    dsimp only
    exact checked_none _ s (firstBad_none (by simp [hz, he]))
  obtain ⟨t, hrun, hans⟩ := command_answers h hwork
  have hhead := length_modelHead s (fieldLe p 0 1) (fieldLe p 4 4)
  refine ⟨t, _, hrun, hans, rfl, ?_, ?_, ?_⟩ <;> rw [modelRecord_eq]
  · rw [List.length_append, hhead, length_le]
  · exact modelHead_ready _ _ _ _
  · rw [fieldLe_append_skip hhead, fieldLe_le_whole]
    rfl

/-- An engine whose learning restarts; the other is left. -/
theorem learnReset_resets {e : Nat} (he : e < 2) (s : State) :
    (engOf (learnReset e s) e = { engOf s e with fit := {}, learned := 0, model := { t0 := (engOf s e).model.t0 } }) ∧
      (engxOf (learnReset e s) e).modelReady = false ∧
      ∀ i, i ≠ e → engOf (learnReset e s) i = engOf s i ∧ engxOf (learnReset e s) i = engxOf s i := by
  unfold learnReset
  refine ⟨?_, ?_, fun i hi => ⟨?_, ?_⟩⟩
  · rw [engOf_engxMod, engOf_engMod_same he]
  · rw [engxOf_engxMod_of_lt he]
  · rw [engOf_engxMod, engOf_engMod_ne hi]
  · rw [engxOf_engxMod_ne hi]
    rfl

theorem keepsBut_learnReset (e : Nat) (s : State) : keepsBut [.te] s (learnReset e s) :=
  keepsBut_trans (keepsBut_engMod e _ s) (keepsBut_engxMod e _ _)

/-- What MODEL_RESET does to one engine. -/
def resetWhen (b : Bool) (e : Nat) (s : State) : State := if b then learnReset e s else s

theorem keepsBut_resetWhen (b : Bool) (e : Nat) (s : State) : keepsBut [.te] s (resetWhen b e s) := by
  cases b
  · exact keepsBut_refl _ s
  · exact keepsBut_learnReset e s

theorem resetWhen_other {e i : Nat} (he : e < 2) (hi : i ≠ e) (b : Bool) (s : State) :
    engOf (resetWhen b e s) i = engOf s i ∧ engxOf (resetWhen b e s) i = engxOf s i := by
  cases b
  · exact ⟨rfl, rfl⟩
  · exact (learnReset_resets he s).2.2 i hi

/-- An engine after a reset of its learning, where it was named. -/
def Relearns (b : Bool) (e : Nat) (s t : State) : Prop :=
  (b = true → (engxOf t e).modelReady = false ∧ (engOf t e).learned = 0 ∧ (engOf t e).fit = {} ∧
    (engOf t e).model = { t0 := (engOf s e).model.t0 } ∧ (engOf t e).st = (engOf s e).st ∧ (engOf t e).y = (engOf s e).y) ∧
  (b = false → engOf t e = engOf s e ∧ engxOf t e = engxOf s e)

theorem resetWhen_relearns {e : Nat} (he : e < 2) (b : Bool) (s : State) : Relearns b e s (resetWhen b e s) := by
  cases b with
  | false => exact ⟨fun h => absurd h (by simp), fun _ => ⟨rfl, rfl⟩⟩
  | true =>
    obtain ⟨heng, hready, -⟩ := learnReset_resets he s
    have heng' : engOf (resetWhen true e s) e = _ := heng
    refine ⟨fun _ => ⟨hready, ?_⟩, fun h => absurd h (by simp)⟩
    rw [heng']
    exact ⟨rfl, rfl, rfl, rfl, rfl⟩

/-- The claim speaks of the engine's two records alone. -/
theorem relearns_congr {b : Bool} {e : Nat} {s s' t t' : State} (h : Relearns b e s t) (hs : engOf s' e = engOf s e ∧ engxOf s' e = engxOf s e)
    (ht : engOf t' e = engOf t e ∧ engxOf t' e = engxOf t e) : Relearns b e s' t' := by
  obtain ⟨hs, hsx⟩ := hs
  obtain ⟨ht, htx⟩ := ht
  unfold Relearns at *
  rwa [hs, hsx, ht, htx]

theorem modelReset_restarts (o : Origin) (p : List Byte) (s : State) (h : commandAt s o 0x0225 = some p) (hm : fieldLe p 0 1 ≤ 3)
    (hz : zeros p 1 3 = true) :
    ∃ t, exec (.modelReset o) s = .next t ∧ keepsBut [.te, .mb, .msi] s t ∧ endsWith o (okRes []) s t ∧ ∀ e, e < 2 →
      ((fieldLe p 0 1).testBit e = true → (engxOf t e).modelReady = false ∧ (engOf t e).learned = 0 ∧ (engOf t e).fit = {} ∧
        (engOf t e).model = { t0 := (engOf s e).model.t0 } ∧ (engOf t e).st = (engOf s e).st ∧ (engOf t e).y = (engOf s e).y) ∧
      ((fieldLe p 0 1).testBit e = false → engOf t e = engOf s e ∧ engxOf t e = engxOf s e) := by
  obtain ⟨m, hmask⟩ : ∃ m, m = fieldLe p 0 1 := ⟨_, rfl⟩
  have hwork : modelReset o p s = setResult o (okRes []) (resetWhen (m.testBit 1) 1 (resetWhen (m.testBit 0) 0 s)) := by
    unfold modelReset
    dsimp only
    rw [← hmask]
    exact checked_none _ s (firstBad_none (by rw [hmask]; simp [hz, hm]))
  obtain ⟨t, hrun, hkeep, hend, hpart⟩ := command_does h hwork
    (keepsBut_trans (keepsBut_resetWhen _ 0 s) (keepsBut_resetWhen _ 1 _)) (by simp)
  have hte := hpart .te (by simp)
  have hone := resetWhen_relearns (e := 1) (by decide) (m.testBit 1) (resetWhen (m.testBit 0) 0 s)
  have hzero := resetWhen_relearns (e := 0) (by decide) (m.testBit 0) s
  refine ⟨t, hrun, keepsBut_mono hkeep (by simp), hend, fun e he => ?_⟩
  rw [← hmask]
  obtain rfl | rfl : e = 0 ∨ e = 1 := by omega
  · have hkept := resetWhen_other (e := 1) (i := 0) (by decide) (by decide) (m.testBit 1) (resetWhen (m.testBit 0) 0 s)
    exact relearns_congr hzero ⟨rfl, rfl⟩ ⟨(engOf_of_te hte 0).trans hkept.1, (engxOf_of_te hte 0).trans hkept.2⟩
  · have hkept := resetWhen_other (e := 0) (i := 1) (by decide) (by decide) (m.testBit 0) s
    exact relearns_congr hone ⟨hkept.1.symm, hkept.2.symm⟩ ⟨engOf_of_te hte 1, engxOf_of_te hte 1⟩

/-! ### ENGINE_CLEAR -/

/-- A first fault within the hour leaves the engine FAULTED (R154). -/
theorem setHealth_first_fault {e : Nat} (he : e < 2) {s : State} (h : (engxOf s e).health ≠ 2) (hnone : (engxOf s e).faultedAt = []) :
    (engxOf (setHealth e 2 s) e).health = 2 := by
  have hrecent : ¬ (2 = 2 ∧ 3 ≤ ((s.clk.elapsed :: []).filter (fun t => decide (s.clk.elapsed ≤ t + 3600 * uSec))).length) := by
    have := List.length_filter_le (fun t => decide (s.clk.elapsed ≤ t + 3600 * uSec)) [s.clk.elapsed]
    rw [List.length_singleton] at this
    omega
  unfold setHealth
  dsimp only
  have hite : ∀ (q : Prop) [Decidable q] (a b : State), engxOf (if q then a else b) e = if q then engxOf a e else engxOf b e :=
    fun q _ a b => apply_ite (fun u => engxOf u e) q a b
  rw [if_neg h, hnone, engxOf_of_te (issueEvent_te _ _ _ _), if_neg hrecent, hite, engxOf_ksMod, ite_self, engxOf_engxMod_of_lt he]

theorem sameCommands_setHealth (e n : Nat) (s : State) : sameCommands s (setHealth e n s) := by
  by_cases h : (engxOf s e).health = n
  · rw [setHealth_of_eq h]
    exact ⟨rfl, rfl⟩
  · obtain ⟨f, w, data, heq, -⟩ := setHealth_of_ne h
    rw [heq]
    exact sameCommands_trans (sameCommands_of_mb rfl) (sameCommands_issueEvent _ _ _ _)

theorem engineClear_clears (o : Origin) (p : List Byte) (e : Nat) (s : State) (h : commandAt s o 0x0226 = some p) (he : e = fieldLe p 0 1)
    (he' : e ≤ 1) (hz : zeros p 1 3 = true) :
    ((engxOf s e).health = 1 → ∃ t, exec (.engineClear o) s = .next t ∧ keepsBut [.te, .host, .mb, .msi, .pc] s t ∧
      replied o (okRes []) t ∧ (engxOf t e).health = 2 ∧ (engxOf t e).faultedAt = []) ∧
    ((engxOf s e).health ≠ 1 → ∃ t, exec (.engineClear o) s = .next t ∧ onlyAnswers o (okRes []) s t) := by
  have h2 : e < 2 := by omega
  obtain ⟨v, hv⟩ : ∃ v, v = engxMod e (fun x => { x with faultedAt := [] }) s := ⟨_, rfl⟩
  have hwork : engineClear o p s = setResult o (okRes []) (if (engxOf s e).health = 1 then
      engxMod e (fun x => { x with faultedAt := [] }) (setHealth e 2 v) else s) := by
    unfold engineClear
    dsimp only
    rw [← he, hv]
    exact checked_none _ s (firstBad_none (by simp [hz, he']))
  have hvx : engxOf v e = { engxOf s e with faultedAt := [] } := by rw [hv, engxOf_engxMod_of_lt h2]
  refine ⟨fun hfailed => ?_, fun hother => ?_⟩
  · rw [if_pos hfailed] at hwork
    have hset : keepsBut [.te, .mb, .host, .pc] s v ∧ sameCommands s v := hv ▸ keepsBut_engxMod_steer _ s
    have hclear := keepsBut_engxMod_steer (e := e) (fun x => { x with faultedAt := [] }) (setHealth e 2 v)
    have hhealth := setHealth_first_fault h2 (s := v) (by rw [hvx]; simp [hfailed]) (by rw [hvx])
    obtain ⟨t, hrun, hkeep, hreply, hpart⟩ := command_reports h hwork
      (keepsBut_trans (keepsBut_trans hset.1 (keepsBut_setHealth e 2 v)) hclear.1)
      (sameCommands_trans (sameCommands_trans hset.2 (sameCommands_setHealth e 2 v)) hclear.2)
    refine ⟨t, hrun, keepsBut_mono hkeep (by simp), hreply, ?_, ?_⟩
    · rw [engxOf_of_te (hpart .te (by simp)), engxOf_engxMod_of_lt h2]
      exact hhealth
    · rw [engxOf_of_te (hpart .te (by simp)), engxOf_engxMod_of_lt h2]
  · rw [if_neg hother] at hwork
    exact command_answers h hwork

/-- Settles O51, command by command. -/
theorem steeringAndModelCommands : Obligations.SteeringAndModelCommands :=
  ⟨⟨servoMode_steers, freqWrite_feeds, phaseEst_feeds⟩, modelGet_answers, modelReset_restarts, engineClear_clears⟩

end Sys2Proof.Machine

/-! The parameter commands (R431 to R434, R456, R457, R470). -/

namespace Sys2Proof.Machine

-- The joined text is one compile: no thread beside the main one for each proof.
set_option Elab.async false

/-! ### The entries of a payload -/

/-- What a write entry has been checked for. -/
structure EntryGood (s : State) (f : PFam) (sel : Nat) (w : PWrite) : Prop where
  info : w.info ∈ pList f
  cls : w.cls ≤ 7
  fits : scopeFits s w.info sel = true

/-- Two entries name the same parameter and class. -/
def sameEntry (a b : PWrite) : Prop := a.info.id = b.info.id ∧ a.cls = b.cls

theorem readEntry_good {s : State} {f : PFam} {p : List Byte} {before : List PWrite} {i : Nat} {w : PWrite}
    (h : readEntry s f p before i = .inr w) : EntryGood s f (fieldLe p 0 2) w ∧ ∀ v ∈ before, ¬ sameEntry v w := by
  have hgood : ∀ (x : PInfo) (c id : Nat), (pList f).find? (fun x => x.id == id) = some x →
      ¬ (!scopeFits s x (fieldLe p 0 2) || decide (7 < c) || before.any (fun w => w.info.id == id && w.cls == c)) = true →
      w.info = x → w.cls = c → EntryGood s f (fieldLe p 0 2) w ∧ ∀ v ∈ before, ¬ sameEntry v w := by
    intro x c id hx hok hinfo hcls
    have hid : x.id = id := by simpa using List.find?_some hx
    simp only [Bool.or_eq_true, Bool.not_eq_true', decide_eq_true_eq, List.any_eq_true, Bool.and_eq_true, beq_iff_eq, not_or,
      Bool.not_eq_false, not_lt, not_exists, not_and] at hok
    obtain ⟨⟨hfits, hc⟩, hfresh⟩ := hok
    refine ⟨⟨hinfo ▸ List.mem_of_find?_eq_some hx, hcls ▸ hc, hinfo ▸ hfits⟩, fun v hv hsame => ?_⟩
    obtain ⟨hvid, hvcls⟩ := hsame
    exact hfresh v hv (by rw [hvid, hinfo, hid]) (by rw [hvcls, hcls])
  unfold readEntry at h
  extract_lets sel o id v d at h
  split at h
  · cases h
  · split at h
    · cases h
    · split at h
      · cases h
      next x hx =>
        extract_lets c val at h
        split at h
        · cases h
        next hok =>
          split at h
          · split at h
            · cases h
              exact hgood x c id hx hok rfl rfl
            · cases h
          · split at h
            · cases h
              exact hgood x c id hx hok rfl rfl
            · cases h

/-- Every entry read is good, and no two name the same place. -/
theorem readEntries_good {s : State} {f : PFam} {p : List Byte} {n : Nat} {l : List PWrite} (h : readEntries s f p n = .inr l) :
    (∀ w ∈ l, EntryGood s f (fieldLe p 0 2) w) ∧ l.Pairwise (fun a b => ¬ sameEntry a b) := by
  induction n generalizing l with
  | zero =>
    cases h
    exact ⟨by simp, List.Pairwise.nil⟩
  | succ n ih =>
    unfold readEntries at h
    split at h
    · cases h
    next before hbefore =>
      split at h
      · cases h
      next w hw =>
        cases h
        obtain ⟨hall, hpair⟩ := ih hbefore
        obtain ⟨hgood, hfresh⟩ := readEntry_good hw
        refine ⟨fun v hv => ?_, ?_⟩
        · rcases List.mem_append.mp hv with hv | hv
          · exact hall v hv
          · rw [List.mem_singleton.mp hv]
            exact hgood
        · rw [List.pairwise_append]
          exact ⟨hpair, List.pairwise_singleton _ _, fun a ha b hb => by rw [List.mem_singleton.mp hb]; exact hfresh a ha⟩

/-! ### The store with the entries applied -/

/-- One entry applied at the places that it reaches. -/
def putEntry (sel : Nat) (t : Tbl Int) (w : PWrite) : Tbl Int :=
  (placesOf w.info sel).foldl (fun t q =>
    if w.dflt then Tbl.erase t (pKey w.info.id q w.cls) else Tbl.set t (pKey w.info.id q w.cls) w.val) t

theorem putEntries_par (sel : Nat) (l : List PWrite) (s : State) : (putEntries sel l s).par = l.foldl (putEntry sel) s.par := rfl

/-- The value that an entry leaves. -/
def entryValue (w : PWrite) : Option Int := if w.dflt then none else some w.val

theorem get_putPlace (t : Tbl Int) (w : PWrite) (k j : Nat) :
    Tbl.get (if w.dflt then Tbl.erase t k else Tbl.set t k w.val) j = if j = k then entryValue w else Tbl.get t j := by
  unfold entryValue
  split
  · exact Tbl.get_erase t k j
  · exact Tbl.get_set t k j w.val

theorem get_putPlaces (w : PWrite) (places : List Nat) (t : Tbl Int) (k : Nat) :
    ((∃ q ∈ places, k = pKey w.info.id q w.cls) → Tbl.get (places.foldl (fun t q =>
      if w.dflt then Tbl.erase t (pKey w.info.id q w.cls) else Tbl.set t (pKey w.info.id q w.cls) w.val) t) k = entryValue w) ∧
    ((∀ q ∈ places, k ≠ pKey w.info.id q w.cls) → Tbl.get (places.foldl (fun t q =>
      if w.dflt then Tbl.erase t (pKey w.info.id q w.cls) else Tbl.set t (pKey w.info.id q w.cls) w.val) t) k = Tbl.get t k) := by
  induction places generalizing t with
  | nil => simp
  | cons q places ih =>
    obtain ⟨hin, hout⟩ := ih (if w.dflt then Tbl.erase t (pKey w.info.id q w.cls) else Tbl.set t (pKey w.info.id q w.cls) w.val)
    rw [List.foldl_cons]
    refine ⟨fun hk => ?_, fun hk => ?_⟩
    · by_cases hrest : ∃ q ∈ places, k = pKey w.info.id q w.cls
      · exact hin hrest
      · obtain ⟨r, hr, hkr⟩ := hk
        rcases List.mem_cons.mp hr with rfl | hr
        · rw [hout (fun q hq e => hrest ⟨q, hq, e⟩), get_putPlace, if_pos hkr]
        · exact absurd ⟨r, hr, hkr⟩ hrest
    · obtain ⟨hhead, htail⟩ := List.forall_mem_cons.mp hk
      rw [hout htail, get_putPlace, if_neg hhead]

theorem get_putEntry_of_mem (sel : Nat) (t : Tbl Int) (w : PWrite) {q : Nat} (hq : q ∈ placesOf w.info sel) :
    Tbl.get (putEntry sel t w) (pKey w.info.id q w.cls) = entryValue w :=
  (get_putPlaces w (placesOf w.info sel) t _).1 ⟨q, hq, rfl⟩

theorem get_putEntry_other {sel : Nat} (t : Tbl Int) {w : PWrite} {k : Nat} (h : ∀ q ∈ placesOf w.info sel, k ≠ pKey w.info.id q w.cls) :
    Tbl.get (putEntry sel t w) k = Tbl.get t k := (get_putPlaces w (placesOf w.info sel) t k).2 h

theorem get_putEntries_other {sel : Nat} {l : List PWrite} {k : Nat} (h : ∀ w ∈ l, ∀ q ∈ placesOf w.info sel, k ≠ pKey w.info.id q w.cls)
    (t : Tbl Int) : Tbl.get (l.foldl (putEntry sel) t) k = Tbl.get t k := by
  induction l generalizing t with
  | nil => rfl
  | cons w l ih =>
    obtain ⟨hw, hl⟩ := List.forall_mem_cons.mp h
    rw [List.foldl_cons, ih hl, get_putEntry_other t hw]

/-- A key tells parameter, place and class apart. -/
theorem pKey_injective {a b q r c d : Nat} (hq : q < 2 ^ 16) (hr : r < 2 ^ 16) (hc : c ≤ 7) (hd : d ≤ 7) (h : pKey a q c = pKey b r d) :
    a = b ∧ q = r ∧ c = d := by
  unfold pKey at h
  omega

theorem lt_of_mem_placesOf {i : PInfo} {sel q : Nat} (hsel : sel < 2 ^ 16) (hq : q ∈ placesOf i sel) : q < 2 ^ 16 := by
  unfold placesOf at hq
  split at hq
  · simp only [List.mem_cons, List.not_mem_nil, or_false] at hq
    omega
  · rw [List.mem_singleton.mp hq, pPlace]
    split
    · decide
    · exact hsel

theorem get_putEntries_of_mem {sel : Nat} {l : List PWrite} (hsel : sel < 2 ^ 16) (hcls : ∀ w ∈ l, w.cls ≤ 7)
    (hpair : l.Pairwise (fun a b => ¬ sameEntry a b)) (t : Tbl Int) :
    ∀ w ∈ l, ∀ q ∈ placesOf w.info sel, Tbl.get (l.foldl (putEntry sel) t) (pKey w.info.id q w.cls) = entryValue w := by
  induction l generalizing t with
  | nil => simp
  | cons v l ih =>
    obtain ⟨hv, hl⟩ := List.forall_mem_cons.mp hcls
    obtain ⟨hfresh, hpair⟩ := List.pairwise_cons.mp hpair
    intro w hw q hq
    rw [List.foldl_cons]
    rcases List.mem_cons.mp hw with rfl | hw
    · refine (get_putEntries_other (fun x hx r hr hkey => ?_) _).trans (get_putEntry_of_mem sel t w hq)
      obtain ⟨hid, -, hc⟩ := pKey_injective (lt_of_mem_placesOf hsel hq) (lt_of_mem_placesOf hsel hr) hv (hl x hx) hkey
      exact hfresh x hx ⟨hid, hc⟩
    · exact ih hl hpair _ w hw q hq

/-! ### What a change does at once -/

/-- The readiness that the mailbox shows and its epoch stand. -/
def sameService (s t : State) : Prop := t.mb.fwReady = s.mb.fwReady ∧ t.mb.epoch = s.mb.epoch

theorem sameService_of_mb {s t : State} (h : t.mb = s.mb) : sameService s t := by
  rw [sameService, h]
  exact ⟨rfl, rfl⟩

theorem sameService_trans {s t u : State} (h : sameService s t) (k : sameService t u) : sameService s u :=
  ⟨k.1.trans h.1, k.2.trans h.2⟩

theorem sameService_ringWrite (e : DevEvent) (s : State) : sameService s (ringWrite e s) := by
  unfold ringWrite
  dsimp only
  split
  · exact ⟨rfl, rfl⟩
  · split
    · exact ⟨rfl, rfl⟩
    · exact ⟨rfl, rfl⟩

theorem sameService_issueEvent (c x : Nat) (d : List Byte) (s : State) : sameService s (issueEvent c x d s) := by
  unfold issueEvent
  extract_lets n e
  split
  · exact sameService_ringWrite e { s with mb := { s.mb with dseq := n, log := (e :: s.mb.log).take 1024 } }
  · exact ⟨rfl, rfl⟩

/-- Work that leaves the commands, the readiness and the epoch, within some parts. -/
structure ParWork (l : List Part) (s t : State) : Prop where
  frame : keepsBut l s t
  commands : sameCommands s t
  service : sameService s t

namespace ParWork

variable {l m : List Part} {s t u : State}

theorem refl (l : List Part) (s : State) : ParWork l s s := ⟨keepsBut_refl _ s, ⟨rfl, rfl⟩, rfl, rfl⟩

theorem trans (h : ParWork l s t) (k : ParWork l t u) : ParWork l s u :=
  ⟨keepsBut_trans h.frame k.frame, sameCommands_trans h.commands k.commands, sameService_trans h.service k.service⟩

theorem mono (h : ParWork m s t) (hm : ∀ x ∈ m, x ∈ l) : ParWork l s t := ⟨keepsBut_mono h.frame hm, h.commands, h.service⟩

/-- Work outside the mailbox. -/
theorem of_frame (h : keepsBut m s t) (hm : ∀ x ∈ m, x ∈ l) (hmb : Part.mb ∉ m) : ParWork l s t :=
  ⟨keepsBut_mono h hm, sameCommands_of_mb (h .mb hmb), sameService_of_mb (h .mb hmb)⟩

theorem of_issueEvent (c x : Nat) (d : List Byte) (s : State) (hl : ∀ x ∈ [Part.mb, .host, .pc], x ∈ l) :
    ParWork l s (issueEvent c x d s) :=
  ⟨keepsBut_mono (keepsBut_issueEvent c x d s) hl, sameCommands_issueEvent c x d s, sameService_issueEvent c x d s⟩

theorem of_foldl {α : Type} {f : State → α → State} {xs : List α} (h : ∀ u, ∀ x ∈ xs, ParWork l u (f u x)) (s : State) :
    ParWork l s (xs.foldl f s) :=
  List.foldlRecOn xs f (motive := ParWork l s) (refl l s) fun u hu x hx => hu.trans (h u x hx)

theorem of_forEach {f : Nat → State → State} {ls : List Nat} (h : ∀ u, ∀ x ∈ ls, ParWork l u (f x u)) (s : State) :
    ParWork l s (forEach ls f s) := of_foldl h s

end ParWork

/-- The parts that the fall of a port moves. -/
def fallParts : List Part := [.lane, .group, .port, .cal, .fwd, .q, .fab, .host, .mb, .pc]

section
variable {p l : Nat} {cause : Nat} {s : State}

theorem parWork_delayEnded (p : Nat) (s : State) : ParWork fallParts s (servoPortDown p (delayNone p s)) :=
  .of_frame (delayEnded_frame p s).1 (by simp [fallParts]) (by simp)

theorem parWork_linkEnds (p : Nat) (s : State) : ParWork fallParts s (linkEnds p false false s) :=
  .of_frame (keepsBut_linkEnds p s) (by simp [fallParts, linkParts]) (by simp [linkParts])

theorem parWork_portMod (p : Nat) (f : Port → Port) (s : State) : ParWork fallParts s (portMod p f s) :=
  .of_frame (keepsBut_portMod p f s) (by simp [fallParts]) (by simp)

theorem parWork_portDown (p : Nat) (st : PortSt) (cause : Nat) (s : State) : ParWork fallParts s (portDown p st cause false s) := by
  unfold portDown
  extract_lets was s₁ s₂ s₃
  have h₁ : ParWork fallParts s s₁ := by
    simp only [s₁]
    split
    · exact parWork_linkEnds p s
    · exact parWork_delayEnded p s
  have h₃ : ParWork fallParts s s₃ :=
    (h₁.trans (.of_frame (keepsBut_flushPort p s₁) (by simp [fallParts]) (by simp))).trans (parWork_portMod p _ _)
  split
  · exact h₃
  · exact h₃.trans (.of_issueEvent _ _ _ _ (by simp [fallParts]))

theorem parWork_portHold (p cause : Nat) (s : State) : ParWork fallParts s (portHold p cause false s) := by
  unfold portHold
  split
  · split
    · exact .refl _ s
    · exact parWork_delayEnded p s
  · split
    · exact (parWork_portDown p .down cause s).trans (parWork_portMod p _ _)
    · exact (((parWork_linkEnds p s).trans (.of_frame (keepsBut_dropCal p _) (by simp [fallParts]) (by simp))).trans
        (parWork_portMod p _ _)).trans (.of_issueEvent _ _ _ _ (by simp [fallParts]))

theorem parWork_laneMod (l : Nat) (f : Lane → Lane) (s : State) : ParWork fallParts s (laneMod l f s) :=
  .of_frame (keepsBut_laneMod l f s) (by simp [fallParts]) (by simp)

theorem parWork_excludeLane (l why : Nat) (s : State) : ParWork fallParts s (excludeLane l why s) :=
  .of_frame (keepsBut_excludeLane l why s) (by simp [fallParts]) (by simp)

theorem parWork_laneLeaves (l : Nat) (st : LaneSt) (cause : Nat) (s : State) : ParWork fallParts s (laneLeaves l st cause false s) := by
  unfold laneLeaves
  extract_lets was p s₁ s₂ s₃
  have h₁ : ParWork fallParts s s₁ := by
    simp only [s₁]
    split
    · exact ((parWork_excludeLane l _ s).trans (parWork_laneMod l _ _)).trans (parWork_portMod _ _ _)
    · exact .refl _ s
  have h₃ : ParWork fallParts s s₃ := by
    simp only [s₃]
    split
    · exact (h₁.trans (parWork_laneMod l _ _)).trans (parWork_laneMod l _ _)
    · exact h₁.trans (parWork_laneMod l _ _)
  split
  · exact h₃.trans (parWork_portHold _ _ _)
  · exact h₃

/-- A lane's converter has no part in the cupping checks. -/
theorem parWork_convAbort {c : Nat} (hc : c < 192) (s : State) : ParWork fallParts s (convAbort c s) := by
  unfold convAbort
  split
  · unfold convReject
    extract_lets v n wait stale s₁ s₂ s₃
    have h₂ : ParWork fallParts s s₂ := (ParWork.of_frame (keepsBut_convMod c _ s) (by simp [fallParts]) (by simp)).trans
      (.of_frame (keepsBut_bump 29 1 s₁) (by simp [fallParts]) (by simp))
    have h₃ : ParWork fallParts s s₃ := by
      simp only [s₃]
      rw [if_neg (by omega)]
      exact h₂
    split
    · exact h₃.trans (.of_issueEvent _ _ _ _ (by simp [fallParts]))
    · exact h₃
  · exact .refl _ s

theorem parWork_servoIdle (g : Nat) (s : State) : ParWork fallParts s (servoIdle g s) :=
  .of_frame (servoWork_servoIdle g s).frame (by simp [fallParts]) (by simp)

theorem parWork_servoAdvance (g : Nat) (s : State) : ParWork fallParts s (servoAdvance g s) :=
  .of_frame (servoWork_servoAdvance g s).frame (by simp [fallParts]) (by simp)

theorem parWork_portRestart (p : Nat) (realign : Bool) (s : State) : ParWork fallParts s (portRestart p realign s) := by
  unfold portRestart
  split
  · exact .refl _ s
  · exact (parWork_portDown p .down 6 s).trans (parWork_portMod p _ _)

theorem parWork_wakeSentinel (g : Nat) (s : State) : ParWork fallParts s (wakeSentinel g s) := by
  unfold wakeSentinel
  split
  · split
    · exact .of_frame (keepsBut_laneWakes _ s) (by simp [fallParts]) (by simp)
    · exact .refl _ s
  · exact .refl _ s

end

/-- The parts that a parameter's change moves, a group's mode and the claims aside. -/
def actParts : List Part := [.te, .lane, .group, .port, .tio, .cal, .fwd, .q, .fab, .host, .mb, .pc]

theorem parWork_act_of_fall {s t : State} (h : ParWork fallParts s t) : ParWork actParts s t := h.mono (by simp [fallParts, actParts])

theorem parWork_clkStop (c : Nat) (s : State) : ParWork actParts s (clkStop c s) :=
  .of_frame (keepsBut_withTio _ s) (by simp [actParts]) (by simp)

theorem parWork_clkouts (s : State) : ParWork actParts s (clkouts s) := .of_frame (keepsBut_clkouts s) (by simp [actParts]) (by simp)

theorem parWork_evMod (k : Nat) (f : EvIn → EvIn) (s : State) : ParWork actParts s (evMod k f s) :=
  .of_frame (keepsBut_evMod k f s) (by simp [actParts]) (by simp)

theorem parWork_engMod (e : Nat) (f : Engine → Engine) (s : State) : ParWork actParts s (engMod e f s) :=
  .of_frame (keepsBut_engMod e f s) (by simp [actParts]) (by simp)

theorem parWork_condMod (r : Nat) (f : Conditioner → Conditioner) (s : State) : ParWork actParts s (condMod r f s) :=
  .of_frame (keepsBut_condMod r f s) (by simp [actParts]) (by simp)

theorem parWork_tdcMod (f : TdcRef → TdcRef) (s : State) : ParWork actParts s (tdcMod f s) :=
  .of_frame (keepsBut_tdcMod f s) (by simp [actParts]) (by simp)

theorem parWork_learnTempReset (e : Nat) (s : State) : ParWork actParts s (learnTempReset e s) :=
  (parWork_engMod e _ s).trans (.of_frame (keepsBut_engxMod e _ _) (by simp [actParts]) (by simp))

theorem parWork_setChange (p : Nat) (old s : State) : ParWork actParts s (setChange p old s) :=
  .of_frame (keepsBut_setChange p old s) (by simp [actParts]) (by simp)

theorem parWork_servoRestart (g : Nat) (s : State) : ParWork actParts s (servoAdvance g (servoIdle g s)) :=
  parWork_act_of_fall ((parWork_servoIdle g s).trans (parWork_servoAdvance g _))

/-- An output's clock after a change of its parameters. -/
theorem parWork_clkoutChange (c : Nat) (b : Bool) (s : State) : ParWork actParts s (if b then clkStop c s else clkouts s) := by
  split
  · exact parWork_clkStop c s
  · exact parWork_clkouts s

/-- An event input's start edges forgotten. -/
theorem parWork_startForgotten (old : Option Nat) (s : State) : ParWork actParts s (match old with
    | some k => evMod k (fun e => { e with starts := [] }) s
    | none => s) := by
  cases old with
  | some k => exact parWork_evMod k _ s
  | none => exact .refl _ s

/-- A change of KIND (R457). -/
theorem parWork_kindChange (old : State) (p : Nat) (s : State) : ParWork actParts s (
    let g := p / 8
    let s := portRestart p false s
    let s := forEach (lanesOf s p) (laneMod · (fun x => { x with ppmAlarm := !kindFab s p && decide (10000 < x.rxOffset.natAbs) })) s
    let s := wakeSentinel g s
    if timingPort old g = timingPort s g then s else servoAdvance g (servoIdle g s)) := by
  extract_lets g s₁ s₂ s₃
  have h₃ : ParWork actParts s s₃ := parWork_act_of_fall (((parWork_portRestart p false s).trans
    (.of_forEach (fun u x _ => parWork_laneMod x _ u) s₁)).trans (parWork_wakeSentinel g s₂))
  split
  · exact h₃
  · exact h₃.trans (parWork_servoRestart g s₃)

theorem parWork_afterPar {id : Nat} (hid : id ≠ 0x100) (old : State) (sel : Nat) (s : State) :
    ParWork actParts s (afterPar old id sel s) := by
  have hact : ∀ {u v : State}, ParWork fallParts u v → ParWork actParts u v := parWork_act_of_fall
  unfold afterPar
  split
  · exact .refl _ s
  · split
    · dsimp only
      split
      · exact parWork_engMod _ _ s
      · exact .refl _ s
    · exact parWork_condMod _ _ s
    · exact parWork_condMod _ _ s
    · exact .of_frame (keepsBut_withTe _ s) (by simp [actParts]) (by simp)
    · exact parWork_learnTempReset _ s
    · exact parWork_learnTempReset _ s
    · exact parWork_learnTempReset _ s
    · exact parWork_learnTempReset _ s
    · split
      · exact parWork_clkoutChange _ _ s
      · split
        · exact .of_frame (keepsBut_tapMod _ s) (by simp [actParts]) (by simp)
        · split
          · exact parWork_tdcMod _ s
          · exact .refl _ s
    · exact parWork_tdcMod _ s
    · exact (parWork_startForgotten _ s).trans (parWork_evMod _ _ _)
    · exact parWork_startForgotten _ s
    · split
      · exact parWork_clkoutChange _ _ s
      · exact .refl _ s
    · split
      · exact parWork_clkoutChange _ _ s
      · exact .refl _ s
    · split
      · exact parWork_clkoutChange _ _ s
      · exact .refl _ s
    · split
      · exact parWork_clkoutChange _ _ s
      · exact .refl _ s
    · exact absurd rfl hid
    · exact (hact (parWork_portRestart sel true s)).trans (parWork_setChange sel old _)
    · exact parWork_kindChange old sel s
    · exact (hact (parWork_portRestart sel false s)).trans (parWork_setChange sel old _)
    · exact (hact (parWork_portRestart sel false s)).trans (parWork_setChange sel old _)
    · dsimp only
      split
      · exact .refl _ s
      · exact parWork_servoRestart _ s
    · exact (ParWork.of_frame (keepsBut_groupMod _ _ s) (by simp [actParts]) (by simp)).trans (hact (parWork_wakeSentinel _ _))
    · dsimp only
      split
      · exact hact (parWork_excludeLane _ 9 s)
      · exact .of_frame (keepsBut_phMod _ _ s) (by simp [actParts]) (by simp)
    · exact (ParWork.of_frame (keepsBut_fabMod _ s) (by simp [actParts]) (by simp)).trans
        (.of_issueEvent _ _ _ _ (by simp [actParts]))
    · exact .refl _ s

/-- A parameter that acts on nothing else. -/
theorem afterPar_idle {id : Nat} (h : id ∉ actingPars) (old : State) (sel : Nat) (s : State) : afterPar old id sel s = s := by
  unfold afterPar
  split
  · rfl
  · split <;> first | exact absurd (by decide) h | rfl

theorem afterPar_claims {id : Nat} (h : id = 0x36 ∨ id = 0x40) (old : State) (sel : Nat) (s : State) : afterPar old id sel s = s := by
  unfold afterPar
  rcases h with rfl | rfl
  · split <;> rfl
  · split <;> rfl

/-! ### BASE and PREF come into force (R167, R434) -/

theorem keepsBut_takeSettings (s : State) : keepsBut [.te] s (takeSettings s) := by
  unfold takeSettings
  extract_lets k u
  have hu : keepsBut [.te] s u := by
    simp only [u]
    split
    · exact keepsBut_trans (keepsBut_engxMod 0 _ s) (keepsBut_engxMod 1 _ _)
    · exact keepsBut_refl _ s
  exact keepsBut_trans hu (keepsBut_ksMod _ u)

theorem keepsBut_setClaims (s : State) : keepsBut [.te] s (setClaims s).2 := by
  unfold setClaims
  extract_lets s₁ own s₂
  have h₂ : keepsBut [.te] s s₂ := keepsBut_trans (keepsBut_ksMod _ s) (keepsBut_ksMod _ s₁)
  split
  · split
    · exact keepsBut_trans h₂ (keepsBut_takeSettings s₂)
    · refine keepsBut_trans h₂ (keepsBut_trans (l := [.te]) (t := if own then startAlign _ .software s₂ else s₂) ?_ (keepsBut_ksMod _ _))
      split
      · exact keepsBut_ksMod _ s₂
      · exact keepsBut_refl _ s₂
  · refine keepsBut_trans h₂ (keepsBut_trans (l := [.te]) ?_ (keepsBut_takeSettings _))
    split
    · exact keepsBut_ksMod _ s₂
    · exact keepsBut_refl _ s₂

/-! ### A group's mode (R239, R326) -/

/-- The parts that a change of a group's mode moves. -/
def modeParts : List Part := [.lane, .group, .port, .tio, .ck, .cal, .fwd, .q, .cald, .fab, .par, .host, .mb, .pc]

theorem parWork_mode_of_fall {s t : State} (h : ParWork fallParts s t) : ParWork modeParts s t := h.mono (by simp [fallParts, modeParts])

theorem parWork_calMod (f : Calendar → Calendar) (s : State) : ParWork modeParts s (calMod f s) :=
  .of_frame (keepsBut_calMod f s) (by simp [modeParts]) (by simp)

theorem parWork_orderBank (p course : Nat) (l : List SlotEntry) (s : State) : ParWork modeParts s (orderBank p course l s) := by
  unfold orderBank
  extract_lets u
  split
  · exact (parWork_calMod _ s).trans (.of_frame (keepsBut_pcalMod p _ u) (by simp [modeParts]) (by simp))
  · exact parWork_calMod _ s

theorem parWork_orderOthers (stream course : Nat) (add : Bool) (devs : List Nat) (s : State) :
    ParWork modeParts s (orderOthers stream course add devs s) :=
  .of_foldl (fun u d _ => .of_frame (keepsBut_trans (keepsBut_fabMod (fun x => { x with nextXid := (x.nextXid + 1) % 65536 }) u)
    (keepsBut_sendDev _ _ _ _ _ _ _)) (by simp [modeParts]) (by simp)) s

theorem parWork_withdraw (x : Stream) (cause : Nat) (s : State) : ParWork modeParts s (withdraw x cause s) := by
  unfold withdraw
  extract_lets k s₁ s₂ s₃
  have h₁ : ParWork modeParts s s₁ := .of_foldl (fun u p _ => parWork_orderBank p k _ u) s
  have h₃ : ParWork modeParts s s₃ := (h₁.trans (parWork_calMod _ s₁)).trans (parWork_orderOthers _ _ _ _ s₂)
  split
  · exact h₃.trans (.of_issueEvent _ _ _ _ (by simp [modeParts]))
  · exact h₃

theorem groupOf_servoIdle {g : Nat} (hg : g < 24) (s : State) :
    groupOf (servoIdle g s) g = { groupOf s g with servo := idled (groupOf s g).servo } := by
  have hlanes : keepsBut [.lane, .cal] s
      (forEach ((List.range 8).map (8 * g + ·)) (fun l s => if (laneOf s l).ph.excl = 0 then excludeLane l 2 s else s) s) := by
    refine keepsBut_forEach (fun l u => ?_) _ s
    split
    · exact keepsBut_excludeLane l 2 u
    · exact keepsBut_refl _ u
  rw [servoIdle_eq, servoMod, groupOf_groupMod_same hg, groupOf_of_keepsBut hlanes (by simp)]

theorem keepsBut_withPar (x : Tbl Int) (s : State) : keepsBut [.par] s { s with par := x } := by
  intro p hp
  cases p <;> first | rfl | exact ⟨rfl, rfl, rfl⟩ | simp at hp

/-- The ports that a mode configures come up from DOWN. -/
theorem parWork_portsConfigured (was ls : List Nat) (s : State) : ParWork [.par, .port, .host, .mb, .pc] s
    (forEach ls (fun p s =>
      let s := if was.contains p then s else { s with par := following.foldl (fun t id => Tbl.erase t (pKey id p 0)) s.par }
      portEvent p (portMod p (fun q => { q with st := .down }) s)) s) := by
  refine .of_forEach (fun u p _ => ?_) s
  extract_lets v
  have hv : ParWork [.par, .port, .host, .mb, .pc] u v := by
    simp only [v]
    split
    · exact .refl _ u
    · exact .of_frame (m := [.par]) (keepsBut_withPar _ u) (by simp) (by simp)
  exact (hv.trans (.of_frame (keepsBut_portMod p _ v) (by simp) (by simp))).trans (.of_issueEvent _ _ _ _ (by simp))

theorem modeChange_changes {g : Nat} (hg : g < 24) (m : Nat) (s : State) : ParWork modeParts s (modeChange g m s) ∧
    (groupOf (modeChange g m s) g).mode = m ∧ (groupOf (modeChange g m s) g).changing = (m != 0) := by
  unfold modeChange
  extract_lets ls was s₁ s₂ s₃ s₄ s₅ s₆ s₇
  have hlanes : ∀ l ∈ ls, l < 192 := by
    intro l hl
    obtain ⟨k, hk, rfl⟩ := List.mem_map.mp hl
    have := List.mem_range.mp hk
    omega
  have h₂ : ParWork modeParts s s₂ := parWork_mode_of_fall ((ParWork.of_forEach (fun u p _ => parWork_portDown p .disabled 6 u) s).trans
    (.of_forEach (fun u l hl => (parWork_laneLeaves l .off 6 u).trans (parWork_convAbort (hlanes l hl) _)) s₁))
  have h₄ : ParWork modeParts s s₄ := (h₂.trans (parWork_mode_of_fall (.of_forEach (fun u p _ => parWork_portMod p _ u) s₂))).trans
    (.of_forEach (fun u p _ => (ParWork.of_frame (keepsBut_pcalMod p _ u) (by simp [modeParts]) (by simp)).trans
      (parWork_calMod _ _)) s₃)
  have h₅ : ParWork modeParts s s₅ := h₄.trans (.of_foldl (fun u x _ => parWork_withdraw _ 2 u) s₄)
  have h₆ : ParWork modeParts s s₆ := (h₅.trans (.of_frame (keepsBut_groupMod g _ s₅) (by simp [modeParts]) (by simp))).trans
    (parWork_mode_of_fall (parWork_servoIdle g _))
  have hports : ParWork [.par, .port, .host, .mb, .pc] s₆ s₇ := parWork_portsConfigured was _ s₆
  have hgroup : groupOf (retune (2 + g) s₇) g = groupOf s₆ g := by
    rw [groupOf_of_keepsBut (keepsBut_retune (2 + g) s₇) (by simp), groupOf_of_keepsBut hports.frame (by simp)]
  refine ⟨(h₆.trans (hports.mono (by simp [modeParts]))).trans (.of_frame (keepsBut_retune _ s₇) (by simp [modeParts]) (by simp)), ?_, ?_⟩
  all_goals
    rw [hgroup]
    simp only [s₆]
    rw [groupOf_servoIdle hg, groupOf_groupMod_same hg]

end Sys2Proof.Machine

/-! Parameter commands and read commands (R431, R432, R470). -/

namespace Sys2Proof.Machine

-- The joined text is one compile: no thread beside the main one for each proof.
set_option Elab.async false

theorem leNat_lt (l : List Byte) : leNat l < 256 ^ l.length := by
  rw [← le_leNat l, leNat_le_mod, length_le]
  exact Nat.mod_lt _ (by positivity)

theorem fieldLe_lt (p : List Byte) (o n : Nat) : fieldLe p o n < 256 ^ n := by
  have h := leNat_lt (slice p o n)
  rwa [slice, List.length_map, List.length_range] at h

/-! ### What a parameter command does once it is found good -/

/-- What the entries change beside the values. -/
def afterAll (old : State) (sel : Nat) (l : List PWrite) (t : State) : State :=
  l.foldl (fun u w => (placesOf w.info sel).foldl (fun u q => afterPar old w.info.id q u) u) t

theorem parWork_afterAll {l : List PWrite} (h : ∀ w ∈ l, w.info.id ≠ 0x100) (old : State) (sel : Nat) (t : State) :
    ParWork actParts t (afterAll old sel l t) :=
  .of_foldl (fun u w hw => .of_foldl (fun v q _ => parWork_afterPar (h w hw) old q v) u) t

theorem afterAll_of_idle {l : List PWrite} {old : State} (h : ∀ w ∈ l, ∀ q u, afterPar old w.info.id q u = u) (sel : Nat) (t : State) :
    afterAll old sel l t = t := by
  have hplaces : ∀ w ∈ l, ∀ (places : List Nat) (u : State), places.foldl (fun u q => afterPar old w.info.id q u) u = u := by
    intro w hw places u
    induction places generalizing u with
    | nil => rfl
    | cons q places ih => rw [List.foldl_cons, h w hw, ih]
  induction l generalizing t with
  | nil => rfl
  | cons w l ih =>
    show afterAll old sel l ((placesOf w.info sel).foldl (fun u q => afterPar old w.info.id q u) t) = t
    rw [hplaces w (by simp)]
    exact ih (fun v hv => h v (by simp [hv])) t (fun v hv => hplaces v (by simp [hv]))

/-- BASE or PREF is among the entries. -/
def hasClaims (l : List PWrite) : Bool := l.any (fun w => w.info.id == 0x36 || w.info.id == 0x40)
/-- MODE is. -/
def hasMode (l : List PWrite) : Bool := l.any (fun w => w.info.id == 0x100)

theorem hasClaims_false {l : List PWrite} (h : ∀ w ∈ l, w.info.id ≠ 0x36 ∧ w.info.id ≠ 0x40) : hasClaims l = false := by
  simpa [hasClaims] using h

theorem hasMode_false {l : List PWrite} (h : ∀ w ∈ l, w.info.id ≠ 0x100) : hasMode l = false := by simpa [hasMode] using h

/-- The answer of a parameter command. -/
def paramOk (f : PFam) : CmdResult := okRes (if f = .eng then le 4 0 else [])

section
variable {f : PFam} {o : Origin} {p : List Byte} {sel : Nat} {l : List PWrite} {s : State} (hsel : sel = fieldLe p 0 2)
  (hknown : selKnown f sel = true)
include hsel hknown

theorem paramSet_badEntry {d : Nat} (h : readEntries s f p (fieldLe p 2 2) = .inl d) : paramSet f o p s = setResult o (badParam d) s := by
  unfold paramSet
  dsimp only
  rw [← hsel, hknown, h]
  rfl

variable (hread : readEntries s f p (fieldLe p 2 2) = .inr l)
include hread

theorem paramSet_badCombination {w : PWrite} (h : l.find? (combBad (putEntries sel l s) sel) = some w) :
    paramSet f o p s = setResult o (badParam w.off) s := by
  unfold paramSet
  dsimp only
  rw [← hsel, hknown, hread]
  dsimp only
  rw [h]
  rfl

variable (hcomb : l.find? (combBad (putEntries sel l s) sel) = none)
include hcomb

theorem paramSet_refuses {d : Nat} (h : paramRefused s (putEntries sel l s) sel l = some d) :
    paramSet f o p s = setResult o (notPermitted d) s := by
  unfold paramSet
  dsimp only
  rw [← hsel, hknown, hread]
  dsimp only
  rw [hcomb]
  dsimp only
  rw [h]
  rfl

variable (hallowed : paramRefused s (putEntries sel l s) sel l = none)
include hallowed

theorem paramSet_applies : paramSet f o p s =
    let c := if hasClaims l then setClaims (afterAll s sel l (putEntries sel l s)) else (false, afterAll s sel l (putEntries sel l s))
    if c.1 then setWait o .align (saveCfg c.2)
    else if hasMode l && (groupOf (saveCfg c.2) (sel - 0x200)).changing then setWait o (.mode (sel - 0x200)) (saveCfg c.2)
    else setResult o (paramOk f) (saveCfg c.2) := by
  unfold paramSet
  dsimp only
  rw [← hsel, hknown, hread]
  dsimp only
  rw [hcomb]
  dsimp only
  rw [hallowed]
  cases f <;> rfl

/-- Without BASE, PREF and MODE the command is answered at once. -/
theorem paramSet_plain (hplain : ∀ w ∈ l, w.info.id ∉ [0x36, 0x40, 0x100]) :
    paramSet f o p s = setResult o (paramOk f) (saveCfg (afterAll s sel l (putEntries sel l s))) := by
  rw [paramSet_applies hsel hknown hread hcomb hallowed, hasClaims_false (fun w hw => by have := hplain w hw; simp_all),
    hasMode_false (fun w hw => by have := hplain w hw; simp_all)]
  rfl

end

/-! ### The values that stand -/

/-- Every entry's value stands, and no other parameter has moved. -/
def EntriesStand (sel : Nat) (l : List PWrite) (s t : State) : Prop :=
  (∀ w ∈ l, ∀ q ∈ placesOf w.info sel, Tbl.get t.par (pKey w.info.id q w.cls) = if w.dflt then none else some w.val) ∧
  (∀ k, (∀ w ∈ l, ∀ q ∈ placesOf w.info sel, k ≠ pKey w.info.id q w.cls) → Tbl.get t.par k = Tbl.get s.par k)

theorem entriesStand {f : PFam} {p : List Byte} {n : Nat} {l : List PWrite} {s t : State} (h : readEntries s f p n = .inr l)
    (hpar : t.par = (putEntries (fieldLe p 0 2) l s).par) : EntriesStand (fieldLe p 0 2) l s t := by
  obtain ⟨hgood, hpair⟩ := readEntries_good h
  rw [putEntries_par] at hpar
  refine ⟨fun w hw q hq => ?_, fun k hk => ?_⟩
  · rw [hpar]
    exact get_putEntries_of_mem (fieldLe_lt p 0 2) (fun v hv => (hgood v hv).cls) hpair s.par w hw q hq
  · rw [hpar]
    exact get_putEntries_other hk s.par

theorem parWork_putEntries (sel : Nat) (l : List PWrite) (s : State) : ParWork [.par] s (putEntries sel l s) :=
  .of_frame (keepsBut_withPar _ s) (by simp) (by simp)

/-! ### The family's commands -/

theorem exec_paramCommand {o : Origin} {c : Instr × Nat × PFam} (h : c ∈ paramCommands o) (s : State) :
    exec c.1 s = done (onCommand o c.2.1 (paramSet c.2.2 o) s) := by
  simp only [paramCommands, List.mem_cons, List.not_mem_nil, or_false] at h
  rcases h with rfl | rfl | rfl | rfl | rfl | rfl | rfl <;> rfl

theorem exec_paramRead {o : Origin} {c : Instr × Nat × PFam} (h : c ∈ paramReads o) (s : State) :
    exec c.1 s = done (onCommand o c.2.1 (paramGet c.2.2 o) s) := by
  simp only [paramReads, List.mem_cons, List.not_mem_nil, or_false] at h
  rcases h with rfl | rfl | rfl | rfl | rfl | rfl | rfl <;> rfl

/-- MODE is a parameter of the groups. -/
theorem mode_of_group {f : PFam} {x : PInfo} (hx : x ∈ pList f) (hid : x.id = 0x100) : x.sc = .group ∧ f = .port := by
  have h : ∀ f : PFam, ∀ x ∈ pList f, x.id = 0x100 → x.sc = .group ∧ f = .port := by
    intro f
    cases f <;> decide
  exact h f x hx hid

section
variable {f : PFam} {o : Origin} {op : Nat} {p : List Byte} {sel : Nat} {l : List PWrite} {s : State} (h : commandAt s o op = some p)
  (hsel : sel = fieldLe p 0 2) (hknown : selKnown f sel = true) (hread : readEntries s f p (fieldLe p 2 2) = .inr l)
  (hcomb : l.find? (combBad (putEntries sel l s) sel) = none) (hallowed : paramRefused s (putEntries sel l s) sel l = none)
include h hsel hknown hread hcomb hallowed

/-- Parameters that act on nothing else. -/
theorem paramSet_idle (hidle : ∀ w ∈ l, w.info.id ∉ actingPars) :
    ∃ t, done (onCommand o op (paramSet f o) s) = .next t ∧ keepsBut [.par, .boot, .mb, .msi] s t ∧ endsWith o (paramOk f) s t ∧
      EntriesStand sel l s t ∧ t.boot.saved.map (fun x => x.par) = some t.par := by
  have hplain : ∀ w ∈ l, w.info.id ∉ [0x36, 0x40, 0x100] := fun w hw hm => hidle w hw (by
    simp only [List.mem_cons, List.not_mem_nil, or_false] at hm
    rcases hm with e | e | e <;> rw [e] <;> decide)
  have hwork := paramSet_plain (o := o) hsel hknown hread hcomb hallowed hplain
  rw [afterAll_of_idle (fun w hw q u => afterPar_idle (hidle w hw) s q u)] at hwork
  have hput := parWork_putEntries sel l s
  generalize hu : putEntries sel l s = u at hwork hput
  have hframe := keepsBut_then hput.frame (keepsBut_saveCfg u) (n := [.par, .boot]) (by simp) (by simp)
  obtain ⟨t, hrun, hkeep, hend, hpart⟩ := command_does h hwork hframe (by simp)
  have hpar : t.par = u.par := hpart .par (by simp)
  refine ⟨t, hrun, keepsBut_mono hkeep (by simp), hend, ?_, ?_⟩
  · subst hsel
    exact entriesStand hread (by rw [hpar, hu])
  · rw [show t.boot = (saveCfg u).boot from hpart .boot (by simp), saveCfg_saved, hpar]
    rfl

/-- Parameters beside BASE, PREF and MODE. -/
theorem paramSet_acts (hplain : ∀ w ∈ l, w.info.id ∉ [0x36, 0x40, 0x100]) :
    ∃ t, done (onCommand o op (paramSet f o) s) = .next t ∧
      keepsBut [.te, .lane, .group, .port, .tio, .cal, .fwd, .q, .fab, .par, .boot, .host, .mb, .msi, .pc] s t ∧
      replied o (paramOk f) t ∧ EntriesStand sel l s t ∧ t.boot.saved.map (fun x => x.par) = some t.par := by
  have hwork := paramSet_plain (o := o) hsel hknown hread hcomb hallowed hplain
  have hput := parWork_putEntries sel l s
  have hacts := parWork_afterAll (l := l) (fun w hw e => hplain w hw (by simp [e])) s sel (putEntries sel l s)
  generalize hu : putEntries sel l s = u at hwork hput hacts
  generalize afterAll s sel l u = v at hwork hacts
  have hall : ParWork (.par :: .boot :: actParts) s (saveCfg v) :=
    ((hput.mono (by simp)).trans (hacts.mono (by simp +contextual))).trans (.of_frame (keepsBut_saveCfg v) (by simp) (by simp))
  obtain ⟨t, hrun, hkeep, hreply, hpart⟩ := command_reports h hwork hall.frame hall.commands
  have hparv : t.par = v.par := hpart .par (by simp)
  have hpar : t.par = u.par := hparv.trans (hacts.frame .par (by simp [actParts]))
  refine ⟨t, hrun, keepsBut_mono hkeep (by simp [actParts]), hreply, ?_, ?_⟩
  · subst hsel
    exact entriesStand hread (by rw [hpar, hu])
  · rw [show t.boot = (saveCfg v).boot from hpart .boot (by simp), saveCfg_saved, hparv]
    rfl

/-- BASE and PREF: the values stand, and the command waits for the handover that they call for. -/
theorem paramSet_claims (hclaims : ∀ w ∈ l, w.info.id = 0x36 ∨ w.info.id = 0x40) :
    ∃ t, done (onCommand o op (paramSet f o) s) = .next t ∧ keepsBut [.te, .par, .boot, .host, .mb, .msi, .pc] s t ∧
      (waits o .align t ∨ replied o (paramOk f) t) ∧ EntriesStand sel l s t := by
  have hmode : hasMode l = false := hasMode_false fun w hw e => by
    rcases hclaims w hw with e' | e' <;> rw [e] at e' <;> exact absurd e' (by decide)
  have hwork := paramSet_applies (o := o) hsel hknown hread hcomb hallowed
  rw [afterAll_of_idle (fun w hw q u => afterPar_claims (hclaims w hw) s q u), hmode] at hwork
  have hput := parWork_putEntries sel l s
  generalize hu : putEntries sel l s = u at hwork hput
  obtain ⟨c, hc⟩ : ∃ c, c = if hasClaims l then setClaims u else (false, u) := ⟨_, rfl⟩
  rw [← hc] at hwork
  have hset : keepsBut [.te] u c.2 := by
    rw [hc]
    split
    · exact keepsBut_setClaims u
    · exact keepsBut_refl _ u
  have hframe : keepsBut [.par, .te, .boot] s (saveCfg c.2) :=
    keepsBut_then (keepsBut_then hput.frame hset (n := [.par, .te]) (by simp) (by simp)) (keepsBut_saveCfg c.2) (by simp) (by simp)
  have hstands : ∀ t : State, keepsBut [.mb, .msi] (saveCfg c.2) t → EntriesStand sel l s t := by
    intro t hpart
    subst hsel
    refine entriesStand hread ?_
    rw [hu]
    exact (hpart .par (by simp)).trans (hset .par (by simp))
  cases hgain : c.1 with
  | true =>
    dsimp only at hwork
    rw [hgain, if_pos rfl] at hwork
    obtain ⟨t, hrun, hkeep, hwait, hpart⟩ := command_waits h hwork hframe (by simp)
    exact ⟨t, hrun, keepsBut_mono hkeep (by simp), .inl hwait, hstands t hpart⟩
  | false =>
    dsimp only at hwork
    rw [hgain, if_neg (by simp), if_neg (by simp)] at hwork
    obtain ⟨t, hrun, hkeep, hend, hpart⟩ := command_does h hwork hframe (by simp)
    exact ⟨t, hrun, keepsBut_mono hkeep (by simp), .inr hend.1, hstands t hpart⟩

/-- MODE alone, with a new value: the group takes the mode, and the command waits unless its lanes stay OFF. -/
theorem paramSet_mode {w : PWrite} (hl : l = [w]) (hid : w.info.id = 0x100)
    (hnew : parN s 0x100 sel ≠ parN (putEntries sel l s) 0x100 sel) :
    ∃ t, done (onCommand o op (paramSet f o) s) = .next t ∧
      keepsBut [.lane, .group, .port, .tio, .ck, .cal, .fwd, .q, .cald, .fab, .par, .boot, .host, .mb, .msi, .pc] s t ∧
      modeOf t (sel - 0x200) = parN (putEntries sel l s) 0x100 sel ∧
      (parN (putEntries sel l s) 0x100 sel = 0 → replied o (okRes []) t) ∧
      (parN (putEntries sel l s) 0x100 sel ≠ 0 → waits o (.mode (sel - 0x200)) t) := by
  obtain ⟨hgood, -⟩ := readEntries_good hread
  have hw := hgood w (by simp [hl])
  rw [← hsel] at hw
  obtain ⟨hscope, rfl⟩ := mode_of_group hw.info hid
  have hg : sel - 0x200 < 24 := by
    have hfits := hw.fits
    simp only [scopeFits, hscope, pApplies, Bool.and_eq_true, decide_eq_true_eq] at hfits
    omega
  have hclaims : hasClaims l = false := hasClaims_false fun v hv => by
    rw [hl, List.mem_singleton] at hv
    rw [hv, hid]
    decide
  have hmode : hasMode l = true := by simp [hasMode, hl, hid]
  have hplaces : placesOf w.info sel = [sel] := by
    unfold placesOf pPlace
    rw [hscope]
    rfl
  have hwork := paramSet_applies (o := o) hsel hknown hread hcomb hallowed
  have hput := parWork_putEntries sel l s
  generalize putEntries sel l s = u at hwork hput hnew
  have hafter : afterAll s sel l u = modeChange (sel - 0x200) (parN u 0x100 sel) u := by
    rw [hl, afterAll, List.foldl_cons, List.foldl_nil, hplaces, List.foldl_cons, List.foldl_nil, hid]
    exact if_neg (fun e => hnew (congrArg Int.toNat e))
  rw [hclaims, hmode, hafter] at hwork
  simp only [Bool.false_eq_true, if_false, Bool.true_and] at hwork
  obtain ⟨hchange, hm, hchanging⟩ := modeChange_changes hg (parN u 0x100 sel) u
  generalize parN u 0x100 sel = m at hwork hchange hm hchanging ⊢
  generalize modeChange (sel - 0x200) m u = v at hwork hchange hm hchanging
  have hall : ParWork (.boot :: modeParts) s (saveCfg v) :=
    ((hput.mono (by simp [modeParts])).trans (hchange.mono (by simp +contextual))).trans (.of_frame (keepsBut_saveCfg v) (by simp) (by simp))
  have hgroup : groupOf (saveCfg v) (sel - 0x200) = groupOf v (sel - 0x200) := rfl
  rw [hgroup, hchanging] at hwork
  by_cases hzero : m = 0
  · subst hzero
    rw [if_neg (by simp)] at hwork
    obtain ⟨t, hrun, hkeep, hreply, hpart⟩ := command_reports h hwork hall.frame hall.commands
    refine ⟨t, hrun, keepsBut_mono hkeep (by simp [modeParts]), ?_, fun _ => hreply, fun hne => absurd rfl hne⟩
    rw [modeOf_eq, groupOf_of_keepsBut hpart (by simp), hgroup, hm]
  · rw [if_pos (by simp [hzero])] at hwork
    obtain ⟨e, he, -, hres, -⟩ := execOf_of_commandAt h
    have hwait : keepsBut [.mb] (saveCfg v) (setWait o (.mode (sel - 0x200)) (saveCfg v)) := keepsBut_execMod o _ _
    refine ⟨_, command_runs h hwork, keepsBut_done (keepsBut_then hall.frame hwait (by simp [modeParts]) (by simp)) (by simp), ?_,
      fun h0 => absurd h0 hzero, fun _ => waits_setWait _ (by rw [execOf_of_sameCommands hall.commands]; exact he) hres⟩
    rw [modeOf_eq, groupOf_of_keepsBut (keepsBut_done (keepsBut_mono hwait (by simp)) (by simp) : keepsBut [.mb, .msi] (saveCfg v) _) (by simp), hgroup, hm]

end

/-- Settles O59: the checks in their order, then the four kinds of entries. -/
theorem parameterWrites : Obligations.ParameterWrites := by
  intro o c p sel s hc h hsel hknown
  simp only [exec_paramCommand hc]
  refine ⟨fun d hd => command_answers h (paramSet_badEntry hsel hknown hd), fun l hread => ⟨fun w hw =>
    command_answers h (paramSet_badCombination hsel hknown hread hw), fun hcomb => ⟨fun d hd =>
      command_answers h (paramSet_refuses hsel hknown hread hcomb hd), fun hallowed hidle => ?_, fun hallowed hplain => ?_,
      fun w hl hid hallowed hnew => paramSet_mode h hsel hknown hread hcomb hallowed hl hid hnew, fun hclaims hallowed => ?_⟩⟩⟩
  · obtain ⟨t, hrun, hkeep, hend, ⟨hin, hout⟩, hsaved⟩ := paramSet_idle h hsel hknown hread hcomb hallowed hidle
    exact ⟨t, hrun, hkeep, hend, hin, hout, hsaved⟩
  · obtain ⟨t, hrun, hkeep, hreply, ⟨hin, hout⟩, hsaved⟩ := paramSet_acts h hsel hknown hread hcomb hallowed hplain
    exact ⟨t, hrun, hkeep, hreply, hin, hout, hsaved⟩
  · obtain ⟨t, hrun, hkeep, hends, hin, -⟩ := paramSet_claims h hsel hknown hread hcomb hallowed hclaims
    exact ⟨t, hrun, hkeep, hends, hin⟩

/-! ### Read commands (R432) -/

theorem length_readBack (s : State) (i : PInfo) (sel c : Nat) : (readBack s i sel c).length = 12 := by
  unfold readBack
  dsimp only
  split <;> simp

/-- What a read answers of one parameter. -/
def readEntriesOf (s : State) (sel : Nat) (i : PInfo) : List (List Byte) :=
  if i.cls then (List.range 8).map (readBack s i sel) else [readBack s i sel 0]

theorem length_readEntriesOf (s : State) (sel : Nat) (i : PInfo) : (readEntriesOf s sel i).length = if i.cls then 8 else 1 := by
  unfold readEntriesOf
  split <;> simp

theorem length_of_mem_readEntriesOf {s : State} {sel : Nat} {i : PInfo} {b : List Byte} (h : b ∈ readEntriesOf s sel i) : b.length = 12 := by
  unfold readEntriesOf at h
  split at h
  · obtain ⟨k, -, rfl⟩ := List.mem_map.mp h
    exact length_readBack s i sel k
  · rw [List.mem_singleton.mp h]
    exact length_readBack s i sel 0

theorem readBack_mem {s : State} {sel : Nat} {i : PInfo} {k : Nat} (h : k = 0 ∨ (i.cls = true ∧ k < 8)) :
    readBack s i sel k ∈ readEntriesOf s sel i := by
  unfold readEntriesOf
  cases hc : i.cls with
  | false =>
    have hk : k = 0 := by simpa [hc] using h
    simp [hk]
  | true =>
    rw [if_pos rfl]
    exact List.mem_map.mpr ⟨k, List.mem_range.mpr (by omega), rfl⟩

theorem length_flatten_of_twelve {l : List (List Byte)} (h : ∀ b ∈ l, b.length = 12) : l.flatten.length = 12 * l.length := by
  induction l with
  | nil => rfl
  | cons b l ih =>
    obtain ⟨hb, hl⟩ := List.forall_mem_cons.mp h
    rw [List.flatten_cons, List.length_append, hb, ih hl, List.length_cons]
    omega

theorem infix_flatten_of_mem {b : List Byte} {l : List (List Byte)} (h : b ∈ l) : b <:+: l.flatten := by
  obtain ⟨x, y, rfl⟩ := List.append_of_mem h
  exact ⟨x.flatten, y.flatten, by simp⟩

/-- Settles O60: the entries of a read are twelve bytes each, one or eight of every parameter of the selector. -/
theorem parameterReads : Obligations.ParameterReads := by
  intro o c p sel s hc h hsel hknown hboth hzero
  simp only [exec_paramRead hc]
  obtain ⟨es, hes⟩ : ∃ es, es = ((pList c.2.2).filter (fun i => pApplies s i sel)).flatMap (readEntriesOf s sel) := ⟨_, rfl⟩
  have hwork : paramGet c.2.2 o p s = setResult o (okRes (le 2 sel ++ le 2 es.length ++ es.flatten)) s := by
    unfold paramGet
    dsimp only
    rw [← hsel, hzero, hes]
    refine checked_none _ s ((firstBad_miss ?_).trans ((firstBad_miss rfl).trans firstBad_nil))
    rw [hknown]
    by_cases hf : c.2.2 = .eng
    · simpa [hf] using hboth hf
    · simp [hf]
  obtain ⟨t, hrun, hans⟩ := command_answers h hwork
  refine ⟨t, _, hrun, hans, ?_, ?_, fun i hi happlies k hk => ?_⟩
  · have hlt := fieldLe_lt p 0 2
    rw [List.append_assoc, fieldLe_le_head, Nat.mod_eq_of_lt (by rw [hsel]; exact hlt)]
  · have htwelve : ∀ b ∈ es, b.length = 12 := by
      intro b hb
      rw [hes] at hb
      obtain ⟨i, -, hb⟩ := List.mem_flatMap.mp hb
      exact length_of_mem_readEntriesOf hb
    rw [List.length_append, List.length_append, length_le, length_le, length_flatten_of_twelve htwelve, hes, List.length_flatMap]
    simp only [length_readEntriesOf]
  · rw [List.drop_left' (by simp)]
    refine infix_flatten_of_mem ?_
    rw [hes]
    exact List.mem_flatMap.mpr ⟨i, List.mem_filter.mpr ⟨hi, happlies⟩, readBack_mem hk⟩

end Sys2Proof.Machine

/-! Commands of the forwarding tables (R461). -/

namespace Sys2Proof.Machine

-- The joined text is one compile: no thread beside the main one for each proof.
set_option Elab.async false

/-! ### A command that writes an entry into both copies -/

/-- D10's tables after a command's write. -/
theorem putBoth_hw (k i : Nat) (g : FwdTables → FwdTables) (s : State) :
    (putBoth k i g s).fwd.hw = if (vget s.pm.dom 10 {}).st = .off then s.fwd.hw else g s.fwd.hw := by
  simp only [putBoth, clearBad, fwdMod, beq_iff_eq]

theorem command_puts {o : Origin} {op : Nat} {p : List Byte} {f : List Byte → State → State} {s : State} {r : CmdResult} {k i : Nat}
    {g : FwdTables → FwdTables} (h : commandAt s o op = some p) (hf : f p s = setResult o r (putBoth k i g s)) :
    ∃ t, done (onCommand o op f s) = .next t ∧ keepsBut [.fwd, .mb, .msi] s t ∧ endsWith o r s t ∧
      t.fwd.golden = g s.fwd.golden ∧ t.fwd.hw = if (vget s.pm.dom 10 {}).st = .off then s.fwd.hw else g s.fwd.hw := by
  obtain ⟨t, hrun, hkeep, hend, hpart⟩ := command_does h hf (keepsBut_putBoth k i g s) (by simp)
  have hfwd : t.fwd = (putBoth k i g s).fwd := hpart .fwd (by simp)
  exact ⟨t, hrun, keepsBut_mono hkeep (by simp), hend, by rw [hfwd]; rfl, by rw [hfwd, putBoth_hw]⟩

/-! ### The L2 database -/

theorem l2Write_puts (o : Origin) (p : List Byte) (vid mac : Nat) (s : State) (h : commandAt s o 0x0510 = some p)
    (hvid : vid = fieldLe p 0 2) (hmac : mac = fieldBe p 2 6) (hv : vid ≤ 4095) (hkind : fieldLe p 8 1 ≤ 3) (hz : zeros p 9 3 = true)
    (hres : l2Bad s (fieldLe p 8 1) (fieldLe p 12 4) = false) :
    (l2Place (l2Table s) vid mac = none → ∃ t, exec (.l2Write o) s = .next t ∧ onlyAnswers o (notPermitted 0x0016) s t) ∧
    (∀ i, l2Place (l2Table s) vid mac = some i →
      let e : L2Entry := { static := true, hit := false, kind := fieldLe p 8 1, vid, mac, result := fieldLe p 12 4 }
      ∃ t, exec (.l2Write o) s = .next t ∧ keepsBut [.fwd, .mb, .msi] s t ∧ endsWith o (okRes []) s t ∧
        Tbl.get t.fwd.golden.l2 i = some e ∧ (∀ j, j ≠ i → Tbl.get t.fwd.golden.l2 j = Tbl.get s.fwd.golden.l2 j) ∧
        ((vget s.pm.dom 10 {}).st ≠ .off → Tbl.get t.fwd.hw.l2 i = some e ∧
          ∀ j, j ≠ i → Tbl.get t.fwd.hw.l2 j = Tbl.get s.fwd.hw.l2 j) ∧
        ((vget s.pm.dom 10 {}).st = .off → t.fwd.hw = s.fwd.hw)) := by
  subst hvid hmac
  refine ⟨fun hplace => command_answers h ?_, fun i hplace => ?_⟩
  · unfold l2Write
    dsimp only
    rw [checked_none _ s (firstBad_none (by simp [hz, hres]; omega)), hplace]
  · intro e
    have hwork : l2Write o p s = setResult o (okRes []) (putBoth 0 i (fun t => { t with l2 := Tbl.set t.l2 i e }) s) := by
      unfold l2Write
      dsimp only
      rw [checked_none _ s (firstBad_none (by simp [hz, hres]; omega)), hplace]
    obtain ⟨t, hrun, hkeep, hend, hgold, hhw⟩ := command_puts h hwork
    refine ⟨t, hrun, hkeep, hend, ?_, fun j hj => ?_, fun hon => ?_, fun hoff => by rw [hhw, if_pos hoff]⟩
    · rw [hgold, Tbl.get_set, if_pos rfl]
    · rw [hgold, Tbl.get_set, if_neg hj]
    · rw [hhw, if_neg hon]
      exact ⟨by rw [Tbl.get_set, if_pos rfl], fun j hj => by rw [Tbl.get_set, if_neg hj]⟩

theorem l2Delete_takes (o : Origin) (p : List Byte) (s : State) (h : commandAt s o 0x0511 = some p) (hv : fieldLe p 0 2 ≤ 4095) :
    (l2Find (l2Table s) (fieldLe p 0 2) (fieldBe p 2 6) = none →
      ∃ t, exec (.l2Delete o) s = .next t ∧ onlyAnswers o (okRes (le 4 0)) s t) ∧
    (∀ i, l2Find (l2Table s) (fieldLe p 0 2) (fieldBe p 2 6) = some i →
      ∃ t, exec (.l2Delete o) s = .next t ∧ keepsBut [.fwd, .mb, .msi] s t ∧ endsWith o (okRes (le 4 1)) s t ∧
        Tbl.get t.fwd.golden.l2 i = none ∧ ∀ j, j ≠ i → Tbl.get t.fwd.golden.l2 j = Tbl.get s.fwd.golden.l2 j) := by
  refine ⟨fun hfind => command_answers h ?_, fun i hfind => ?_⟩
  · unfold l2Delete
    dsimp only
    rw [checked_none _ s (firstBad_none (by simpa using hv)), hfind]
  · have hwork : l2Delete o p s = setResult o (okRes (le 4 1)) (putBoth 0 i (fun t => { t with l2 := Tbl.erase t.l2 i }) s) := by
      unfold l2Delete
      dsimp only
      rw [checked_none _ s (firstBad_none (by simpa using hv)), hfind]
    obtain ⟨t, hrun, hkeep, hend, hgold, -⟩ := command_puts h hwork
    refine ⟨t, hrun, hkeep, hend, ?_, fun j hj => ?_⟩
    · rw [hgold, Tbl.get_erase, if_pos rfl]
    · rw [hgold, Tbl.get_erase, if_neg hj]

/-- What L2_FLUSH takes out: a learned entry of the scope. -/
def flushes (sc a : Nat) (e : Nat × L2Entry) : Bool :=
  !e.2.static && (match sc with
    | 0 => true
    | 1 => e.2.kind == 0 && e.2.result == a
    | _ => e.2.vid == a)

theorem flushes_all (a : Nat) (e : Nat × L2Entry) : flushes 0 a e = !e.2.static := by simp [flushes]

theorem flushes_port (a : Nat) (e : Nat × L2Entry) : flushes 1 a e = (!e.2.static && (e.2.kind == 0 && e.2.result == a)) := rfl

theorem flushes_vid (a : Nat) (e : Nat × L2Entry) : flushes 2 a e = (!e.2.static && e.2.vid == a) := rfl

theorem flushes_static {sc a : Nat} {e : Nat × L2Entry} (h : e.2.static = true) : flushes sc a e = false := by simp [flushes, h]

/-- The addresses that a scope admits. -/
def scopeBad (sc a : Nat) : Bool :=
  match sc with
  | 0 => a != 0
  | 1 => decide (191 < a)
  | _ => decide (4095 < a)

theorem scopeBad_of {sc a : Nat} (hsc : sc ≤ 2) (h0 : sc = 0 → a = 0) (h1 : sc = 1 → a ≤ 191) (h2 : sc = 2 → a ≤ 4095) :
    scopeBad sc a = false := by
  match sc with
  | 0 => simp [scopeBad, h0 rfl]
  | 1 => simpa [scopeBad] using h1 rfl
  | 2 => simpa [scopeBad] using h2 rfl

theorem l2Flush_eq (o : Origin) (p : List Byte) (s : State) :
    l2Flush o p s = checked o [(decide (2 < fieldLe p 0 1), 0), (!zeros p 1 3, firstSet p 1 3), (scopeBad (fieldLe p 0 1) (fieldLe p 4 4), 4)]
      (fun s => setResult o (okRes (le 4 (s.fwd.hw.l2.filter (flushes (fieldLe p 0 1) (fieldLe p 4 4))).length))
        (hwMod (fun h => { h with l2 := h.l2.filter (fun e => !flushes (fieldLe p 0 1) (fieldLe p 4 4) e) }) s)) s := rfl

theorem l2Flush_takes (o : Origin) (p : List Byte) (s : State) (h : commandAt s o 0x0512 = some p) (hsc : fieldLe p 0 1 ≤ 2)
    (hz : zeros p 1 3 = true) (h0 : fieldLe p 0 1 = 0 → fieldLe p 4 4 = 0) (h1 : fieldLe p 0 1 = 1 → fieldLe p 4 4 ≤ 191)
    (h2 : fieldLe p 0 1 = 2 → fieldLe p 4 4 ≤ 4095) :
    ∃ t, exec (.l2Flush o) s = .next t ∧ keepsBut [.fwd, .mb, .msi] s t ∧
      endsWith o (okRes (le 4 (s.fwd.hw.l2.length - t.fwd.hw.l2.length))) s t ∧
      t.fwd = { s.fwd with hw := { s.fwd.hw with l2 := t.fwd.hw.l2 } } ∧
      (∀ e ∈ s.fwd.hw.l2, e.2.static = true → e ∈ t.fwd.hw.l2) ∧ (∀ e ∈ t.fwd.hw.l2, e ∈ s.fwd.hw.l2) ∧
      (fieldLe p 0 1 = 0 → ∀ e ∈ t.fwd.hw.l2, e.2.static = true) ∧
      (fieldLe p 0 1 = 1 → ∀ e ∈ t.fwd.hw.l2, e.2.static = false → ¬(e.2.kind = 0 ∧ e.2.result = fieldLe p 4 4)) ∧
      (fieldLe p 0 1 = 2 → ∀ e ∈ t.fwd.hw.l2, e.2.static = false → e.2.vid ≠ fieldLe p 4 4) := by
  have hbad := scopeBad_of hsc h0 h1 h2
  have hwork := l2Flush_eq o p s
  rw [checked_none _ s (firstBad_none (by simp [hz, hbad]; omega))] at hwork
  generalize fieldLe p 0 1 = sc at *
  generalize fieldLe p 4 4 = a at *
  obtain ⟨t, hrun, hkeep, hend, hpart⟩ := command_does h hwork (keepsBut_hwMod _ s) (by simp)
  have hfwd : t.fwd = { s.fwd with hw := { s.fwd.hw with l2 := s.fwd.hw.l2.filter (fun e => !flushes sc a e) } } := hpart .fwd (by simp)
  have hl2 : t.fwd.hw.l2 = s.fwd.hw.l2.filter (fun e => !flushes sc a e) := by rw [hfwd]
  have hcount : (s.fwd.hw.l2.filter (flushes sc a)).length = s.fwd.hw.l2.length - t.fwd.hw.l2.length := by
    rw [hl2, List.length_eq_length_filter_add (l := s.fwd.hw.l2) (flushes sc a)]
    omega
  have hstays : ∀ e ∈ t.fwd.hw.l2, flushes sc a e = false := fun e he => by
    rw [hl2, List.mem_filter] at he
    simpa using he.2
  refine ⟨t, hrun, keepsBut_mono hkeep (by simp), hcount ▸ hend, by rw [hl2]; exact hfwd, fun e he hs => ?_, fun e he => ?_, ?_, ?_, ?_⟩
  · exact hl2 ▸ List.mem_filter.mpr ⟨he, by rw [flushes_static hs]; rfl⟩
  · rw [hl2] at he
    exact (List.mem_filter.mp he).1
  · rintro rfl e he
    simpa [flushes_all] using hstays e he
  · rintro rfl e he hs ⟨hk, hr⟩
    have := hstays e he
    simp [flushes_port, hs, hk, hr] at this
  · rintro rfl e he hs hvid
    have := hstays e he
    simp [flushes_vid, hs, hvid] at this

/-! ### Flow contexts and stream matches -/

/-- The context that a CTX_WRITE spells. -/
def ctxCfgOf (p : List Byte) : CtxCfg :=
  { valid := (fieldLe p 2 1).testBit 0, tcOvrEn := (fieldLe p 2 1).testBit 1, tcOvr := bits (fieldLe p 2 1) 2 3
    police := (fieldLe p 2 1).testBit 5, aware := (fieldLe p 2 1).testBit 6, pass := (fieldLe p 2 1).testBit 7
    cir := fieldLe p 8 4, pir := fieldLe p 12 4, cbs := fieldLe p 16 4, pbs := fieldLe p 20 4 }

/-- A context's live state with both buckets full. -/
def bucketsFull (s : State) (i : Nat) (c : CtxCfg) : CtxLive :=
  { liveOf s i c with tc := (c.cbs : Rat), tp := (c.pbs : Rat), asOf := s.clk.elapsed }

theorem bucketsFull_counts {s : State} {i : Nat} {y : CtxLive} (c : CtxCfg) (h : Tbl.get s.fwd.live i = some y) :
    (bucketsFull s i c).green = y.green ∧ (bucketsFull s i c).yellow = y.yellow ∧ (bucketsFull s i c).red = y.red ∧
      (bucketsFull s i c).octets = y.octets := by
  simp only [bucketsFull, liveOf, h, Option.getD_some, and_self]

/-- CTX_WRITE's work on a context that no stream holds. -/
def storeCtx (i : Nat) (c : CtxCfg) (s : State) : State :=
  clearBad 6 i (fwdMod (fun f => { f with live := Tbl.set f.live i (bucketsFull (putBoth 2 i (fun t => { t with ctx := Tbl.set t.ctx i c }) s) i c) })
    (putBoth 2 i (fun t => { t with ctx := Tbl.set t.ctx i c }) s))

theorem keepsBut_storeCtx (i : Nat) (c : CtxCfg) (s : State) : keepsBut [.fwd] s (storeCtx i c s) :=
  keepsBut_trans (keepsBut_putBoth _ _ _ _) (keepsBut_trans (keepsBut_fwdMod _ _) (keepsBut_fwdMod _ _))

theorem ctxWrite_work {o : Origin} {p : List Byte} {s : State} (hlo : 1 ≤ fieldLe p 0 2) (hhi : fieldLe p 0 2 ≤ 4095)
    (hz : fieldLe p 3 1 = 0) (hz' : zeros p 4 4 = true) (hcir : fieldLe p 8 4 ≤ fieldLe p 12 4) (hpir : fieldLe p 12 4 ≤ 3125000)
    (hcbs : 1518 ≤ fieldLe p 16 4) (hcbs' : fieldLe p 16 4 < 2 ^ 24) (hpbs : 1518 ≤ fieldLe p 20 4) (hpbs' : fieldLe p 20 4 < 2 ^ 24) :
    ctxWrite o p s = if ctxHeld s (fieldLe p 0 2) then setResult o (notPermitted 0x0013) s
      else setResult o (okRes []) (storeCtx (fieldLe p 0 2) (ctxCfgOf p) s) := by
  have hz3 : zeros p 3 1 = true := by
    simpa [zeros, fieldLe] using hz
  unfold ctxWrite
  dsimp only
  rw [checked_none _ s (firstBad_none (by simp [hz3, hz']; omega))]
  rfl

theorem ctxWrite_stores (o : Origin) (p : List Byte) (i cir pir cbs pbs : Nat) (s : State) (h : commandAt s o 0x0520 = some p)
    (hi : i = fieldLe p 0 2) (hlo : 1 ≤ i) (hhi : i ≤ 4095) (hz : fieldLe p 3 1 = 0) (hz' : zeros p 4 4 = true)
    (hcir : cir = fieldLe p 8 4) (hpir : pir = fieldLe p 12 4) (hcbs : cbs = fieldLe p 16 4) (hpbs : pbs = fieldLe p 20 4)
    (hrate : cir ≤ pir) (hrate' : pir ≤ 3125000) (hc : 1518 ≤ cbs) (hc' : cbs < 2 ^ 24) (hp : 1518 ≤ pbs) (hp' : pbs < 2 ^ 24) :
    (ctxHeld s i = true → ∃ t, exec (.ctxWrite o) s = .next t ∧ onlyAnswers o (notPermitted 0x0013) s t) ∧
    (ctxHeld s i = false → ∃ t c x, exec (.ctxWrite o) s = .next t ∧ keepsBut [.fwd, .mb, .msi] s t ∧ endsWith o (okRes []) s t ∧
      Tbl.get t.fwd.golden.ctx i = some c ∧ ((vget s.pm.dom 10 {}).st ≠ .off → Tbl.get t.fwd.hw.ctx i = some c) ∧
      c.valid = (fieldLe p 2 1).testBit 0 ∧ c.tcOvrEn = (fieldLe p 2 1).testBit 1 ∧ c.tcOvr = bits (fieldLe p 2 1) 2 3 ∧
      c.police = (fieldLe p 2 1).testBit 5 ∧ c.aware = (fieldLe p 2 1).testBit 6 ∧ c.pass = (fieldLe p 2 1).testBit 7 ∧
      c.cir = cir ∧ c.pir = pir ∧ c.cbs = cbs ∧ c.pbs = pbs ∧
      Tbl.get t.fwd.live i = some x ∧ x.tc = (cbs : Rat) ∧ x.tp = (pbs : Rat) ∧ x.asOf = s.clk.elapsed ∧
      (∀ y, Tbl.get s.fwd.live i = some y → x.green = y.green ∧ x.yellow = y.yellow ∧ x.red = y.red ∧ x.octets = y.octets) ∧
      (∀ j, j ≠ i → Tbl.get t.fwd.golden.ctx j = Tbl.get s.fwd.golden.ctx j ∧ Tbl.get t.fwd.live j = Tbl.get s.fwd.live j)) := by
  subst hi hcir hpir hcbs hpbs
  have hwork := ctxWrite_work (o := o) (s := s) hlo hhi hz hz' hrate hrate' hc hc' hp hp'
  refine ⟨fun hheld => command_answers h (hwork.trans (if_pos hheld)), fun hfree => ?_⟩
  rw [hfree, if_neg (by simp)] at hwork
  obtain ⟨t, hrun, hkeep, hend, hpart⟩ := command_does h hwork (keepsBut_storeCtx _ _ s) (by simp)
  have hfwd : t.fwd = (storeCtx (fieldLe p 0 2) (ctxCfgOf p) s).fwd := hpart .fwd (by simp)
  have hgold : t.fwd.golden.ctx = Tbl.set s.fwd.golden.ctx (fieldLe p 0 2) (ctxCfgOf p) := by rw [hfwd]; rfl
  have hlive : t.fwd.live = Tbl.set s.fwd.live (fieldLe p 0 2) (bucketsFull s (fieldLe p 0 2) (ctxCfgOf p)) := by rw [hfwd]; rfl
  refine ⟨t, ctxCfgOf p, bucketsFull s (fieldLe p 0 2) (ctxCfgOf p), hrun, keepsBut_mono hkeep (by simp), hend, ?_, fun hon => ?_,
    rfl, rfl, rfl, rfl, rfl, rfl, rfl, rfl, rfl, rfl, ?_, rfl, rfl, rfl, fun y hy => bucketsFull_counts _ hy, fun j hj => ⟨?_, ?_⟩⟩
  · rw [hgold, Tbl.get_set, if_pos rfl]
  · have hhw : t.fwd.hw = (putBoth 2 (fieldLe p 0 2) (fun t => { t with ctx := Tbl.set t.ctx (fieldLe p 0 2) (ctxCfgOf p) }) s).fwd.hw := by
      rw [hfwd]; rfl
    rw [hhw, putBoth_hw, if_neg hon, Tbl.get_set, if_pos rfl]
  · rw [hlive, Tbl.get_set, if_pos rfl]
  · rw [hgold, Tbl.get_set, if_neg hj]
  · rw [hlive, Tbl.get_set, if_neg hj]

theorem ctxStatsGet_answers (o : Origin) (p : List Byte) (x : CtxLive) (s : State) (h : commandAt s o 0x0521 = some p)
    (hlo : 1 ≤ fieldLe p 0 2) (hhi : fieldLe p 0 2 ≤ 4095) (hz : zeros p 2 2 = true) (hx : Tbl.get s.fwd.live (fieldLe p 0 2) = some x) :
    ∃ t, exec (.ctxStatsGet o) s = .next t ∧ onlyAnswers o (okRes (le 8 x.green ++ le 8 x.yellow ++ le 8 x.red ++ le 8 x.octets)) s t := by
  refine command_answers h ?_
  unfold ctxStatsGet
  dsimp only
  rw [checked_none _ s (firstBad_none (by simp [hz]; omega)), hx]
  rfl

theorem matchWrite_stores (o : Origin) (p : List Byte) (i : Nat) (e : MatchEntry) (s : State) (h : commandAt s o 0x0522 = some p)
    (hi : i = fieldLe p 0 2) (hhi : i ≤ 8191)
    (he : e = { port := fieldLe p 3 1, mac := fieldLe p 4 6, vid := fieldLe p 10 2, ctx := fieldLe p 12 2 }) (hv : fieldLe p 2 1 ≤ 1)
    (hport : e.port ≤ 191) (hvid : e.vid ≤ 4095) (hctx : e.ctx ≤ 4095) (hz : zeros p 14 2 = true) :
    ∃ t, exec (.matchWrite o) s = .next t ∧ keepsBut [.fwd, .mb, .msi] s t ∧ endsWith o (okRes []) s t ∧
      Tbl.get t.fwd.golden.mat i = (if fieldLe p 2 1 = 1 then some e else none) ∧
      ((vget s.pm.dom 10 {}).st ≠ .off → Tbl.get t.fwd.hw.mat i = (if fieldLe p 2 1 = 1 then some e else none)) ∧
      ∀ j, j ≠ i → Tbl.get t.fwd.golden.mat j = Tbl.get s.fwd.golden.mat j ∧ Tbl.get t.fwd.hw.mat j = Tbl.get s.fwd.hw.mat j := by
  have hwork : matchWrite o p s = setResult o (okRes [])
      (putBoth 1 i (fun t => { t with mat := if fieldLe p 2 1 = 1 then Tbl.set t.mat i e else Tbl.erase t.mat i }) s) := by
    subst hi he
    unfold matchWrite
    dsimp only at *
    exact checked_none _ s (firstBad_none (by simp [hz]; omega))
  have hsame : ∀ m : Tbl MatchEntry, Tbl.get (if fieldLe p 2 1 = 1 then Tbl.set m i e else Tbl.erase m i) i =
      if fieldLe p 2 1 = 1 then some e else none := fun m => by
    split
    · rw [Tbl.get_set, if_pos rfl]
    · rw [Tbl.get_erase, if_pos rfl]
  have hother : ∀ (m : Tbl MatchEntry) (j : Nat), j ≠ i →
      Tbl.get (if fieldLe p 2 1 = 1 then Tbl.set m i e else Tbl.erase m i) j = Tbl.get m j := fun m j hj => by
    split
    · rw [Tbl.get_set, if_neg hj]
    · rw [Tbl.get_erase, if_neg hj]
  obtain ⟨t, hrun, hkeep, hend, hgold, hhw⟩ := command_puts h hwork
  refine ⟨t, hrun, hkeep, hend, by rw [hgold]; exact hsame _, fun hon => by rw [hhw, if_neg hon]; exact hsame _, fun j hj => ⟨?_, ?_⟩⟩
  · rw [hgold]; exact hother _ j hj
  · rw [hhw]
    split
    · rfl
    · exact hother _ j hj

/-! ### VIDs, groups, maps and profiles -/

theorem vidWrite_stores (o : Origin) (p : List Byte) (i : Nat) (s : State) (h : commandAt s o 0x0530 = some p) (hi : i = fieldLe p 0 2)
    (hhi : i ≤ 4095) (hf : fieldLe p 2 1 ≤ 3) (hz : fieldLe p 3 1 = 0) (hg : fieldLe p 4 4 ≤ 16383) :
    ∃ t, exec (.vidWrite o) s = .next t ∧ keepsBut [.fwd, .mb, .msi] s t ∧ endsWith o (okRes []) s t ∧
      (Tbl.get t.fwd.golden.vid i).isSome = (fieldLe p 2 1).testBit 0 ∧
      (∀ v, Tbl.get t.fwd.golden.vid i = some v → v.learn = (fieldLe p 2 1).testBit 1 ∧ v.flood = fieldLe p 4 4) ∧
      ∀ j, j ≠ i → Tbl.get t.fwd.golden.vid j = Tbl.get s.fwd.golden.vid j ∧ Tbl.get t.fwd.hw.vid j = Tbl.get s.fwd.hw.vid j := by
  have hz3 : zeros p 3 1 = true := by simpa [zeros, fieldLe] using hz
  have hwork : vidWrite o p s = setResult o (okRes []) (putBoth 3 i (fun t => { t with
      vid := if (fieldLe p 2 1).testBit 0 then Tbl.set t.vid i { learn := (fieldLe p 2 1).testBit 1, flood := fieldLe p 4 4 }
        else Tbl.erase t.vid i }) s) := by
    unfold vidWrite
    dsimp only
    rw [← hi]
    exact checked_none _ s (firstBad_none (by simp [hz3]; omega))
  obtain ⟨t, hrun, hkeep, hend, hgold, hhw⟩ := command_puts h hwork
  cases hbit : (fieldLe p 2 1).testBit 0 with
  | true =>
    simp only [hbit, if_true] at hgold hhw
    refine ⟨t, hrun, hkeep, hend, ?_, fun v hv => ?_, fun j hj => ⟨?_, ?_⟩⟩
    · rw [hgold, Tbl.get_set, if_pos rfl, Option.isSome_some]
    · rw [hgold, Tbl.get_set, if_pos rfl] at hv
      cases hv
      exact ⟨rfl, rfl⟩
    · rw [hgold, Tbl.get_set, if_neg hj]
    · rw [hhw]
      split
      · rfl
      · rw [Tbl.get_set, if_neg hj]
  | false =>
    simp only [hbit, Bool.false_eq_true, if_false] at hgold hhw
    refine ⟨t, hrun, hkeep, hend, ?_, fun v hv => ?_, fun j hj => ⟨?_, ?_⟩⟩
    · rw [hgold, Tbl.get_erase, if_pos rfl, Option.isSome_none]
    · rw [hgold, Tbl.get_erase, if_pos rfl] at hv
      cases hv
    · rw [hgold, Tbl.get_erase, if_neg hj]
    · rw [hhw]
      split
      · rfl
      · rw [Tbl.get_erase, if_neg hj]

/-- The entry that a MCAST_WRITE spells, with the count of the one that stood there. -/
def groupWritten (p : List Byte) (old : Option McastEntry) : McastEntry :=
  { valid := fieldLe p 2 1 == 1, mask := BitVec.ofNat 192 (fieldLe p 4 24), drops := (old.map (fun e => e.drops)).getD 0 }

theorem mcastWrite_stores (o : Origin) (p : List Byte) (i : Nat) (s : State) (h : commandAt s o 0x0531 = some p) (hi : i = fieldLe p 0 2)
    (hhi : i ≤ 16383) (hv : fieldLe p 2 1 ≤ 1) (hz : fieldLe p 3 1 = 0) :
    ∃ t, exec (.mcastWrite o) s = .next t ∧ keepsBut [.fwd, .mb, .msi] s t ∧ endsWith o (okRes []) s t ∧
      (∃ e, Tbl.get t.fwd.golden.mcast i = some e ∧ e.valid = (fieldLe p 2 1 == 1) ∧ e.mask = BitVec.ofNat 192 (fieldLe p 4 24) ∧
        e.drops = ((Tbl.get s.fwd.golden.mcast i).map (fun x => x.drops)).getD 0) ∧
      ∀ j, j ≠ i → Tbl.get t.fwd.golden.mcast j = Tbl.get s.fwd.golden.mcast j := by
  have hz3 : zeros p 3 1 = true := by simpa [zeros, fieldLe] using hz
  have hwork : mcastWrite o p s = setResult o (okRes [])
      (putBoth 5 i (fun t => { t with mcast := Tbl.set t.mcast i (groupWritten p (Tbl.get t.mcast i)) }) s) := by
    unfold mcastWrite
    dsimp only
    rw [← hi]
    exact checked_none _ s (firstBad_none (by simp [hz3]; omega))
  obtain ⟨t, hrun, hkeep, hend, hgold, -⟩ := command_puts h hwork
  refine ⟨t, hrun, hkeep, hend, ⟨groupWritten p (Tbl.get s.fwd.golden.mcast i), ?_, rfl, rfl, rfl⟩, fun j hj => ?_⟩
  · rw [hgold, Tbl.get_set, if_pos rfl]
  · rw [hgold, Tbl.get_set, if_neg hj]

/-- A run of keys written into a table of numbers. -/
def putRun (n base : Nat) (v : Nat → Nat) (m : Tbl Nat) : Tbl Nat := (List.range n).foldl (fun m i => Tbl.set m (base + i) (v i)) m

theorem putRun_succ (n base : Nat) (v : Nat → Nat) (m : Tbl Nat) :
    putRun (n + 1) base v m = Tbl.set (putRun n base v m) (base + n) (v n) := by
  simp [putRun, List.range_succ]

theorem get_putRun_in (n base : Nat) (v : Nat → Nat) (m : Tbl Nat) {k : Nat} (h : k < n) :
    Tbl.get (putRun n base v m) (base + k) = some (v k) := by
  induction n with
  | zero => omega
  | succ n ih =>
    rw [putRun_succ, Tbl.get_set]
    by_cases hk : k = n
    · rw [if_pos (by omega), hk]
    · rw [if_neg (by omega), ih (by omega)]

theorem get_putRun_out (n base : Nat) (v : Nat → Nat) (m : Tbl Nat) {k : Nat} (h : k < base ∨ base + n ≤ k) :
    Tbl.get (putRun n base v m) k = Tbl.get m k := by
  induction n with
  | zero => rfl
  | succ n ih => rw [putRun_succ, Tbl.get_set, if_neg (by omega), ih (by omega)]

/-- MAP_WRITE's checks, given the number of values. -/
def mapChecks (n : Nat) (p : List Byte) : List (Bool × Nat) :=
  [(decide (4 < fieldLe p 0 1), 0), (if fieldLe p 0 1 = 0 then decide (191 < fieldLe p 1 1) else fieldLe p 1 1 != 0, 1),
    (!zeros p 2 2, firstSet p 2 2)] ++ (List.range n).map (fun i => (decide (7 < fieldLe p (4 + i) 1), 4 + i))

theorem mapWrite_eq (o : Origin) (p : List Byte) (s : State) :
    mapWrite o p s = checked o (mapChecks (if fieldLe p 0 1 = 0 then 8 else 64) p) (fun s =>
      setResult o (okRes []) (saveCfg (fwdMod (fun f =>
        if fieldLe p 0 1 = 0 then
          { f with pcp := putRun (if fieldLe p 0 1 = 0 then 8 else 64) (fieldLe p 1 1 * 8) (fun i => fieldLe p (4 + i) 1) f.pcp }
        else
          { f with dscp := putRun (if fieldLe p 0 1 = 0 then 8 else 64) ((fieldLe p 0 1 - 1) * 64) (fun i => fieldLe p (4 + i) 1) f.dscp }) s))) s :=
  rfl

theorem mapChecks_pass {n : Nat} {p : List Byte} (hmap : fieldLe p 0 1 ≤ 4) (hzero : zeros p 2 2 = true)
    (hport : (if fieldLe p 0 1 = 0 then decide (191 < fieldLe p 1 1) else fieldLe p 1 1 != 0) = false)
    (hvals : ∀ k, k < n → fieldLe p (4 + k) 1 ≤ 7) : firstBad (mapChecks n p) = none := by
  refine firstBad_none fun q hq => ?_
  rcases List.mem_append.mp hq with hq | hq
  · rcases List.mem_cons.mp hq with rfl | hq
    · simpa using hmap
    rcases List.mem_cons.mp hq with rfl | hq
    · exact hport
    rw [List.mem_singleton.mp hq]
    simp [hzero]
  · obtain ⟨k, hk, rfl⟩ := List.mem_map.mp hq
    simpa using hvals k (List.mem_range.mp hk)

theorem fwd_saveCfg_fwdMod (g : Fwd → Fwd) (s : State) : (saveCfg (fwdMod g s)).fwd = g s.fwd := rfl

theorem pcp_saveCfg_fwdMod (g : Fwd → Fwd) (s : State) : (saveCfg (fwdMod g s)).boot.saved.map (fun c => c.pcp) = some (g s.fwd).pcp := rfl

theorem mapWrite_pcp (o : Origin) (p : List Byte) (q : Nat) (s : State) (h : commandAt s o 0x0532 = some p) (hq : q = fieldLe p 1 1)
    (hz : zeros p 2 2 = true) (hmap : fieldLe p 0 1 = 0) (hport : q ≤ 191) (hvals : ∀ k, k < 8 → fieldLe p (4 + k) 1 ≤ 7) :
    ∃ t, exec (.mapWrite o) s = .next t ∧ keepsBut [.fwd, .boot, .mb, .msi] s t ∧ endsWith o (okRes []) s t ∧
      t.fwd = { s.fwd with pcp := t.fwd.pcp } ∧ (∀ k, k < 8 → Tbl.get t.fwd.pcp (q * 8 + k) = some (fieldLe p (4 + k) 1)) ∧
      (∀ k, (k < q * 8 ∨ q * 8 + 8 ≤ k) → Tbl.get t.fwd.pcp k = Tbl.get s.fwd.pcp k) ∧
      t.boot.saved.map (fun c => c.pcp) = some t.fwd.pcp := by
  have hwork := mapWrite_eq o p s
  rw [checked_none _ s (mapChecks_pass (by omega) hz (by rw [if_pos hmap]; simpa [← hq] using hport)
    (by rw [if_pos hmap]; exact hvals))] at hwork
  simp only [hmap, if_true, ← hq] at hwork
  obtain ⟨t, hrun, hkeep, hend, hpart⟩ := command_does h hwork
    (keepsBut_then (n := [.fwd, .boot]) (keepsBut_fwdMod _ s) (keepsBut_saveCfg _) (by simp) (by simp)) (by simp)
  have hfwd := (show t.fwd = (saveCfg (fwdMod _ s)).fwd from hpart .fwd (by simp)).trans (fwd_saveCfg_fwdMod _ s)
  have hboot : t.boot = (saveCfg (fwdMod _ s)).boot := hpart .boot (by simp)
  refine ⟨t, hrun, keepsBut_mono hkeep (by simp), hend, by rw [hfwd], fun k hk => ?_, fun k hk => ?_, ?_⟩
  · rw [hfwd]; exact get_putRun_in _ _ _ _ hk
  · rw [hfwd]; exact get_putRun_out _ _ _ _ hk
  · rw [hboot, pcp_saveCfg_fwdMod, hfwd]

theorem mapWrite_dscp (o : Origin) (p : List Byte) (q m : Nat) (s : State) (h : commandAt s o 0x0532 = some p) (hq : q = fieldLe p 1 1)
    (hz : zeros p 2 2 = true) (hmap : fieldLe p 0 1 = m + 1) (hm : m ≤ 3) (hport : q = 0)
    (hvals : ∀ k, k < 64 → fieldLe p (4 + k) 1 ≤ 7) :
    ∃ t, exec (.mapWrite o) s = .next t ∧ keepsBut [.fwd, .boot, .mb, .msi] s t ∧ endsWith o (okRes []) s t ∧
      t.fwd = { s.fwd with dscp := t.fwd.dscp } ∧ (∀ k, k < 64 → Tbl.get t.fwd.dscp (m * 64 + k) = some (fieldLe p (4 + k) 1)) ∧
      (∀ k, (k < m * 64 ∨ m * 64 + 64 ≤ k) → Tbl.get t.fwd.dscp k = Tbl.get s.fwd.dscp k) := by
  have hne : ¬fieldLe p 0 1 = 0 := by omega
  have hwork := mapWrite_eq o p s
  rw [checked_none _ s (mapChecks_pass (by omega) hz (by rw [if_neg hne]; simp [← hq, hport])
    (by rw [if_neg hne]; exact hvals))] at hwork
  simp only [hmap, Nat.succ_ne_zero, if_false, Nat.add_sub_cancel] at hwork
  obtain ⟨t, hrun, hkeep, hend, hpart⟩ := command_does h hwork
    (keepsBut_then (n := [.fwd, .boot]) (keepsBut_fwdMod _ s) (keepsBut_saveCfg _) (by simp) (by simp)) (by simp)
  have hfwd := (show t.fwd = (saveCfg (fwdMod _ s)).fwd from hpart .fwd (by simp)).trans (fwd_saveCfg_fwdMod _ s)
  have hdscp := congrArg Fwd.dscp hfwd
  dsimp only at hdscp
  refine ⟨t, hrun, keepsBut_mono hkeep (by simp), hend, by rw [hdscp]; exact hfwd, fun k hk => ?_, fun k hk => ?_⟩
  · rw [hdscp, get_putRun_in _ _ _ _ hk]
  · rw [hdscp, get_putRun_out _ _ _ _ hk]

theorem wredSet_stores (o : Origin) (p : List Byte) (i : Nat) (w : Wred) (s : State) (h : commandAt s o 0x0540 = some p)
    (hi : i = fieldLe p 0 1) (hhi : i ≤ 15)
    (hw : w = { weight := fieldLe p 1 1, pmaxDen := fieldLe p 2 2, minTh := fieldLe p 4 4, maxTh := fieldLe p 8 4 }) (hwt : w.weight ≤ 15)
    (hden : 1 ≤ w.pmaxDen) (hden' : w.pmaxDen ≤ 1024) (hmin : w.minTh < w.maxTh) (hmax : w.maxTh ≤ 24576) :
    ∃ t, exec (.wredSet o) s = .next t ∧ keepsBut [.q, .boot, .mb, .msi] s t ∧ endsWith o (okRes []) s t ∧
      t.q = { s.q with wred := vmodN s.q.wred i (fun _ => w) } ∧ t.boot.saved.map (fun c => c.wred) = some t.q.wred := by
  have hwork : wredSet o p s =
      setResult o (okRes []) (saveCfg { s with q := { s.q with wred := vmodN s.q.wred i (fun _ => w) } }) := by
    subst hi hw
    unfold wredSet
    dsimp only at *
    exact checked_none _ s (firstBad_none (by simp; omega))
  have hq : keepsBut [.q] s { s with q := { s.q with wred := vmodN s.q.wred i (fun _ => w) } } := by
    intro x hx
    cases x <;> first | rfl | exact ⟨rfl, rfl, rfl⟩ | simp at hx
  obtain ⟨t, hrun, hkeep, hend, hpart⟩ := command_does h hwork
    (keepsBut_then (n := [.q, .boot]) hq (keepsBut_saveCfg _) (by simp) (by simp)) (by simp)
  have htq : t.q = { s.q with wred := vmodN s.q.wred i (fun _ => w) } := hpart .q (by simp)
  have hboot : t.boot = (saveCfg { s with q := { s.q with wred := vmodN s.q.wred i (fun _ => w) } }).boot := hpart .boot (by simp)
  exact ⟨t, hrun, keepsBut_mono hkeep (by simp), hend, htq, by rw [hboot, saveCfg_saved, htq]; rfl⟩

/-- Settles O54: each command's checks pass, and its entry goes into both copies. -/
theorem forwardingCommands : Obligations.ForwardingCommands :=
  ⟨⟨l2Write_puts, l2Delete_takes, l2Flush_takes⟩, ⟨ctxWrite_stores, ctxStatsGet_answers⟩, matchWrite_stores, vidWrite_stores, mcastWrite_stores,
    fun o p q s h hq hz => ⟨mapWrite_pcp o p q s h hq hz, fun m => mapWrite_dscp o p q m s h hq hz⟩, wredSet_stores⟩

end Sys2Proof.Machine

/-! The attestation commands (R351, R352, R467, R482 to R484). -/

namespace Sys2Proof.Machine

-- The joined text is one compile: no thread beside the main one for each proof.
set_option Elab.async false

/-! ### The responder's answers -/

theorem length_sha384 (m : List Byte) : (Config.sha384 m).length = 48 := by
  simp [Config.sha384]

theorem length_digests (s : State) : (digests s).length = 52 := by
  simp [digests, length_sha384]

theorem length_certificate (s : State) (m : List Byte) : (certificate s m).length ≤ 4072 := by
  unfold certificate
  extract_lets c off part
  split
  · simp [spdmError]
  · have : part.length ≤ 4064 := (List.length_take_le _ _).trans (Nat.min_le_right _ _)
    simp only [List.length_append, List.length_cons, List.length_nil, length_le]
    omega

theorem length_spdmServe (s : State) (c : SpdmConn) (op : Nat) (m : List Byte) : (spdmServe s c op m).1.length ≤ 4072 := by
  unfold spdmServe
  split
  · cases measRecord s c.seen m with
    | none => simp [spdmError]
    | some r =>
      dsimp only
      split <;> exact List.length_take_le _ _
  · split
    · exact (length_digests s).trans_le (by decide)
    · split
      · exact length_certificate s m
      · exact List.length_take_le _ _

theorem spdmReply_short {src : Nat} {m : List Byte} (s : State) (h : m.length < 4) : spdmReply src m s = (spdmError 1 0, s) := if_pos h

theorem spdmReply_notOffered {src : Nat} {m : List Byte} (s : State) (h : 4 ≤ m.length) (hop : fieldLe m 1 1 ∉ spdmOffered) :
    spdmReply src m s = (spdmError 7 (fieldLe m 1 1), keepConn (connOf s src) s) := by
  unfold spdmReply
  rw [if_neg (by omega), if_pos (by simpa using hop)]

theorem spdmReply_outOfOrder {src : Nat} {m : List Byte} (s : State) (h : 4 ≤ m.length) (hop : fieldLe m 1 1 ∈ spdmOffered)
    (hord : spdmInOrder (connOf s src).seen (fieldLe m 1 1) = false) :
    spdmReply src m s = (spdmError 4 0, keepConn (connOf s src) s) := by
  unfold spdmReply
  rw [if_neg (by omega), if_neg (by simpa using hop), if_pos (by simp [hord])]

/-- The connection that a request in order goes on from: GET_VERSION begins anew. -/
def connServed (s : State) (src op : Nat) : SpdmConn :=
  if op = spdmVersion then { source := src, last := (connOf s src).last } else connOf s src

/-- What is kept of it behind the answer. -/
def connAfter (s : State) (src op : Nat) (m : List Byte) : SpdmConn :=
  { connServed s src op with
    seen := if (connServed s src op).seen.contains op then (connServed s src op).seen else (connServed s src op).seen ++ [op]
    transcript := (spdmServe s (connServed s src op) op m).2 }

theorem spdmReply_served {src : Nat} {m : List Byte} (s : State) (h : 4 ≤ m.length) (hop : fieldLe m 1 1 ∈ spdmOffered)
    (hord : spdmInOrder (connOf s src).seen (fieldLe m 1 1) = true) :
    spdmReply src m s = ((spdmServe s (connServed s src (fieldLe m 1 1)) (fieldLe m 1 1) m).1,
      keepConn (connAfter s src (fieldLe m 1 1) m) { s with free := s.free + 1 }) := by
  unfold spdmReply
  rw [if_neg (by omega), if_neg (by simpa using hop), if_neg (by simp [hord])]
  rfl

theorem connServed_source (s : State) (src op : Nat) : (connServed s src op).source = src := by
  unfold connServed
  split
  · rfl
  · exact connOf_source s src

theorem connAfter_source (s : State) (src op : Nat) (m : List Byte) : (connAfter s src op m).source = src := connServed_source s src op

theorem connAfter_version (s : State) (src : Nat) (m : List Byte) : (connAfter s src spdmVersion m).seen = [spdmVersion] := rfl

theorem spdmServe_digests (s : State) (c : SpdmConn) (m : List Byte) : (spdmServe s c 0x81 m).1 = digests s := rfl

theorem spdmServe_certificate (s : State) (c : SpdmConn) (m : List Byte) : (spdmServe s c 0x82 m).1 = certificate s m := rfl

theorem length_spdmReply (src : Nat) (m : List Byte) (s : State) : (spdmReply src m s).1.length ≤ 4072 := by
  by_cases h : m.length < 4
  · rw [spdmReply_short s h]; simp [spdmError]
  by_cases hop : fieldLe m 1 1 ∈ spdmOffered
  · cases hord : spdmInOrder (connOf s src).seen (fieldLe m 1 1) with
    | false => rw [spdmReply_outOfOrder s (by omega) hop hord]; simp [spdmError]
    | true => rw [spdmReply_served s (by omega) hop hord]; exact length_spdmServe _ _ _ _
  · rw [spdmReply_notOffered s (by omega) hop]; simp [spdmError]

/-- A message moves the connections and the free choices alone. -/
theorem spdmReply_boot (src : Nat) (m : List Byte) (s : State) :
    (spdmReply src m s).2.boot = { s.boot with conns := (spdmReply src m s).2.boot.conns } := by
  by_cases h : m.length < 4
  · rw [spdmReply_short s h]
  by_cases hop : fieldLe m 1 1 ∈ spdmOffered
  · cases hord : spdmInOrder (connOf s src).seen (fieldLe m 1 1) with
    | false => rw [spdmReply_outOfOrder s (by omega) hop hord]; rfl
    | true => rw [spdmReply_served s (by omega) hop hord]; rfl
  · rw [spdmReply_notOffered s (by omega) hop]; rfl

theorem spdmInOrder_version (seen : List Nat) : spdmInOrder seen spdmVersion = true := rfl

/-! ### SPDM_MSG -/

theorem connOf_congr {s t : State} (h : t.boot = s.boot) (src : Nat) : connOf t src = connOf s src := by rw [connOf, connOf, h]

theorem spdmMsg_answers (o : Origin) (p : List Byte) (s : State) (h : commandAt s o 0x0901 = some p) (hz : zeros p 2 2 = true) :
    let m := slice p 4 (fieldLe p 0 2)
    ∃ t r, exec (.spdmMsg o) s = .next t ∧ keepsBut [.boot, .mb, .msi, .free] s t ∧ endsWith o (okRes (spdmPayload r)) s t ∧
      t.boot = { s.boot with conns := t.boot.conns } ∧ r.length ≤ 4072 ∧ (m.length < 4 → r = [0x12, 0x7F, 1, 0]) ∧
      (4 ≤ m.length → spdmInOrder (connOf s chan3).seen (fieldLe m 1 1) = true →
        (fieldLe m 1 1 = 0x81 → r = digests s) ∧ (fieldLe m 1 1 = 0x82 → r = certificate s m)) ∧
      (4 ≤ m.length → fieldLe m 1 1 ∉ spdmOffered → r = [0x12, 0x7F, 7, BitVec.ofNat 8 (fieldLe m 1 1)]) ∧
      (4 ≤ m.length → fieldLe m 1 1 ∈ spdmOffered → spdmInOrder (connOf s chan3).seen (fieldLe m 1 1) = false →
        r = [0x12, 0x7F, 4, 0] ∧ (connOf t chan3).seen = (connOf s chan3).seen) ∧
      (4 ≤ m.length → fieldLe m 1 1 = spdmVersion → (connOf t chan3).seen = [spdmVersion]) := by
  intro m
  have hwork : spdmMsg o p s = setResult o (okRes (spdmPayload (spdmReply chan3 m s).1)) (spdmReply chan3 m s).2 :=
    checked_none _ s (firstBad_none (by simp [hz]))
  obtain ⟨t, hrun, hkeep, hend, hpart⟩ := command_does h hwork (keepsBut_spdmReply chan3 m s) (by simp)
  have hboot : t.boot = (spdmReply chan3 m s).2.boot := hpart .boot (by simp)
  clear_value m
  refine ⟨t, (spdmReply chan3 m s).1, hrun, keepsBut_mono hkeep (by simp), hend, by rw [hboot]; exact spdmReply_boot chan3 m s,
    length_spdmReply _ _ _, fun hm => by rw [spdmReply_short s hm]; rfl, fun hm hord => ⟨fun hop => ?_, fun hop => ?_⟩,
    fun hm hop => by rw [spdmReply_notOffered s hm hop]; rfl, fun hm hop hord => ?_, fun hm hop => ?_⟩
  · rw [spdmReply_served s hm (by rw [hop]; decide) hord, hop, spdmServe_digests]
  · rw [spdmReply_served s hm (by rw [hop]; decide) hord, hop, spdmServe_certificate]
  · rw [spdmReply_outOfOrder s hm hop hord] at hboot ⊢
    exact ⟨rfl, by rw [connOf_congr hboot, connOf_keepConn (connOf_source _ _)]⟩
  · rw [spdmReply_served s hm (by rw [hop]; decide) (by rw [hop]; exact spdmInOrder_version _), hop] at hboot
    have hboot : t.boot = (keepConn (connAfter s chan3 spdmVersion m) { s with free := s.free + 1 }).boot := hboot
    rw [connOf_congr hboot, connOf_keepConn (connAfter_source _ _ _ m), connAfter_version]

/-! ### SPDM_REMOTE -/

/-- The relay that a command begins, as it stands among the relays. -/
def relayOf (o : Origin) (target : Nat) (body : List Byte) (attest : Bool) (s : State) : Relay :=
  { origin := o, xid := s.fab.nextXid, target, body, sends := 1, timeoutMs := ((execOf s o).map (fun e => e.remoteMs)).getD 0, attest }

/-- The transaction number taken and the relay entered. -/
def relayNoted (o : Origin) (target : Nat) (body : List Byte) (attest : Bool) (s : State) : State :=
  fabMod (fun f => { f with nextXid := (f.nextXid + 1) % 65536, relays := f.relays ++ [relayOf o target body attest s] }) s

theorem startRelay_eq (o : Origin) (target : Nat) (body : List Byte) (attest : Bool) (s : State) :
    startRelay o target body attest s =
      setWait o .relay (sendRelay (relayOf o target body attest s) (relayNoted o target body attest s)) := rfl

/-- A relay's message, as it stands among those sent. -/
theorem sendRelay_sends (r : Relay) (s : State) :
    keepsBut [.fab] s (sendRelay r s) ∧ ∃ m, (sendRelay r s).fab = { s.fab with sent := m :: s.fab.sent } ∧ m.dest = r.target ∧
      m.type = (if r.attest then 3 else 2) ∧ m.kind = 0 ∧ m.xid = r.xid ∧ m.mflags = (if r.attest then 0 else 1) ∧ m.body = r.body := by
  unfold sendRelay
  cases r.attest with
  | true => exact ⟨keepsBut_sendDev _ _ _ _ _ _ _, _, rfl, rfl, rfl, rfl, rfl, rfl, rfl⟩
  | false => exact ⟨keepsBut_sendDev _ _ _ _ _ _ _, _, rfl, rfl, rfl, rfl, rfl, rfl, rfl⟩

/-- A command that begins a relay sends its message and waits. -/
theorem command_relays {o : Origin} {op : Nat} {p : List Byte} {f : List Byte → State → State} {s : State} {target : Nat} {body : List Byte}
    {attest : Bool} (h : commandAt s o op = some p) (hf : f p s = startRelay o target body attest s) :
    ∃ t m, done (onCommand o op f s) = .next t ∧ keepsBut [.fab, .mb, .msi] s t ∧ waits o .relay t ∧
      t.fab = { s.fab with nextXid := (s.fab.nextXid + 1) % 65536, sent := m :: s.fab.sent
                           relays := s.fab.relays ++ [relayOf o target body attest s] } ∧
      m.dest = target ∧ m.type = (if attest then 3 else 2) ∧ m.kind = 0 ∧ m.xid = s.fab.nextXid ∧ m.mflags = (if attest then 0 else 1) ∧
      m.body = body := by
  obtain ⟨hsend, m, hm, hmsg⟩ := sendRelay_sends (relayOf o target body attest s) (relayNoted o target body attest s)
  obtain ⟨t, hrun, hkeep, hwait, hpart⟩ := command_waits h (hf.trans (startRelay_eq o target body attest s))
    (keepsBut_trans (keepsBut_fabMod _ s) hsend) (by simp)
  exact ⟨t, m, hrun, keepsBut_mono hkeep (by simp), hwait, (hpart .fab (by simp)).trans hm, hmsg⟩

theorem spdmRemote_relays (o : Origin) (p : List Byte) (s : State) (h : commandAt s o 0x0902 = some p) (hlt : fieldLe p 0 4 < 2 ^ 18)
    (hown : fieldLe p 0 4 ≠ ownAddr s) (hz : zeros p 6 2 = true) :
    ∃ t m r, exec (.spdmRemote o) s = .next t ∧ keepsBut [.fab, .mb, .msi] s t ∧ waits o .relay t ∧
      t.fab = { s.fab with nextXid := (s.fab.nextXid + 1) % 65536, sent := m :: s.fab.sent, relays := s.fab.relays ++ [r] } ∧
      m.dest = fieldLe p 0 4 ∧ m.type = 3 ∧ m.kind = 0 ∧ m.body = slice p 8 (fieldLe p 4 2) ∧
      r.origin = o ∧ r.xid = s.fab.nextXid ∧ r.target = fieldLe p 0 4 ∧ r.attest = true := by
  have hwork : spdmRemote o p s = startRelay o (fieldLe p 0 4) (slice p 8 (fieldLe p 4 2)) true s :=
    checked_none _ s (firstBad_none (by simp [hz, hown]; omega))
  obtain ⟨t, m, hrun, hkeep, hwait, hfab, hdest, htype, hkind, -, -, hbody⟩ := command_relays h hwork
  exact ⟨t, m, _, hrun, hkeep, hwait, hfab, hdest, htype, hkind, hbody, rfl, rfl, rfl, rfl⟩

/-- Settles O57: the responder answers each kind of message, and a remote one travels as a relay. -/
theorem attestationCommands : Obligations.AttestationCommands := ⟨spdmMsg_answers, spdmRemote_relays⟩

end Sys2Proof.Machine

/-! The firmware update commands (R467, R477, R478). -/

namespace Sys2Proof.Machine

-- The joined text is one compile: no thread beside the main one for each proof.
set_option Elab.async false

/-! ### FW_OPEN and FW_WRITE -/

theorem keepsBut_slotMod (k : Nat) (f : Slot → Slot) (s : State) : keepsBut [.boot] s (slotMod k f s) := keepsBut_bootMod _ s

/-- A session left open leaves its slot empty. -/
def sessionLeft (s : State) : State :=
  match s.boot.update with
  | some u => slotMod u.1 (fun _ => {}) s
  | none => s

theorem sessionLeft_none {s : State} (h : s.boot.update = none) : sessionLeft s = s := by rw [sessionLeft, h]

theorem sessionLeft_some {s : State} {u : Nat × Nat × Nat} (h : s.boot.update = some u) : sessionLeft s = slotMod u.1 (fun _ => {}) s := by
  rw [sessionLeft, h]

theorem fwOpen_eq (o : Origin) (p : List Byte) (s : State) :
    fwOpen o p s = checked o [(decide (1 < fieldLe p 0 1), 0), (!zeros p 1 3, firstSet p 1 3),
        (decide (slotSize s < fieldLe p 4 4 ∨ 2 ^ 23 < fieldLe p 4 4), 4)]
      (fun s => if s.boot.stage = 2 ∧ s.boot.slot = fieldLe p 0 1 then setResult o (notPermitted 0x0018) s
        else setResult o (okRes []) (bootMod (fun b => { b with update := some (fieldLe p 0 1, fieldLe p 4 4, 0) })
          (slotMod (fieldLe p 0 1) (fun _ => { openBytes := some 0 }) (sessionLeft s)))) s := rfl

theorem fwOpen_work {o : Origin} {p : List Byte} {s : State} (hk : fieldLe p 0 1 ≤ 1) (hz : zeros p 1 3 = true)
    (hfits : fieldLe p 4 4 ≤ slotSize s) (hmax : fieldLe p 4 4 ≤ 2 ^ 23) :
    fwOpen o p s = if s.boot.stage = 2 ∧ s.boot.slot = fieldLe p 0 1 then setResult o (notPermitted 0x0018) s
      else setResult o (okRes []) (bootMod (fun b => { b with update := some (fieldLe p 0 1, fieldLe p 4 4, 0) })
        (slotMod (fieldLe p 0 1) (fun _ => { openBytes := some 0 }) (sessionLeft s))) := by
  rw [fwOpen_eq, checked_none _ s (firstBad_none (by simp [hz]; omega))]

theorem fwOpen_opens (o : Origin) (p : List Byte) (k n : Nat) (s : State) (h : commandAt s o 0x0910 = some p) (hk : k = fieldLe p 0 1)
    (hn : n = fieldLe p 4 4) (hk' : k ≤ 1) (hz : zeros p 1 3 = true) (hfits : n ≤ slotSize s) (hmax : n ≤ 2 ^ 23) :
    (s.boot.stage = 2 → s.boot.slot = k → ∃ t, exec (.fwOpen o) s = .next t ∧ onlyAnswers o (notPermitted 0x0018) s t) ∧
    (¬(s.boot.stage = 2 ∧ s.boot.slot = k) → s.boot.update = none → ∃ t, exec (.fwOpen o) s = .next t ∧
      keepsBut [.boot, .mb, .msi] s t ∧ endsWith o (okRes []) s t ∧
      t.boot = { s.boot with update := some (k, n, 0), slots := vmodN s.boot.slots k (fun _ => { openBytes := some 0 }) }) ∧
    (∀ j m w, ¬(s.boot.stage = 2 ∧ s.boot.slot = k) → s.boot.update = some (j, m, w) → ∃ t, exec (.fwOpen o) s = .next t ∧
      keepsBut [.boot, .mb, .msi] s t ∧ endsWith o (okRes []) s t ∧
      t.boot = { s.boot with
        update := some (k, n, 0), slots := vmodN (vmodN s.boot.slots j (fun _ => {})) k (fun _ => { openBytes := some 0 }) }) := by
  subst hk hn
  have hwork := fwOpen_work (o := o) hk' hz hfits hmax
  refine ⟨fun hstage hslot => command_answers h (hwork.trans (if_pos ⟨hstage, hslot⟩)), fun hfree hnone => ?_, fun j m w hfree hsome => ?_⟩
  · rw [if_neg hfree, sessionLeft_none hnone] at hwork
    obtain ⟨t, hrun, hkeep, hend, hpart⟩ := command_does h hwork (keepsBut_trans (keepsBut_slotMod _ _ s) (keepsBut_bootMod _ _)) (by simp)
    exact ⟨t, hrun, keepsBut_mono hkeep (by simp), hend, hpart .boot (by simp)⟩
  · rw [if_neg hfree, sessionLeft_some hsome] at hwork
    obtain ⟨t, hrun, hkeep, hend, hpart⟩ := command_does h hwork
      (keepsBut_trans (keepsBut_slotMod _ _ s) (keepsBut_trans (keepsBut_slotMod _ _ _) (keepsBut_bootMod _ _))) (by simp)
    exact ⟨t, hrun, keepsBut_mono hkeep (by simp), hend, hpart .boot (by simp)⟩

theorem fwWrite_takes (o : Origin) (p : List Byte) (s : State) (h : commandAt s o 0x0911 = some p) :
    (s.boot.update = none → ∃ t, exec (.fwWrite o) s = .next t ∧ onlyAnswers o (notPermitted 0x0018) s t) ∧
    (∀ k n w, s.boot.update = some (k, n, w) → fieldLe p 0 4 = w → w + (p.drop 4).length ≤ n →
      ∃ t, exec (.fwWrite o) s = .next t ∧ keepsBut [.boot, .mb, .msi] s t ∧ endsWith o (okRes []) s t ∧
        t.boot = { s.boot with
          update := some (k, n, w + (p.drop 4).length),
          slots := vmodN s.boot.slots k (fun x => { x with bytes := x.bytes ++ p.drop 4, openBytes := some (w + (p.drop 4).length) }) }) := by
  refine ⟨fun hnone => command_answers h ?_, fun k n w hsome hoff hfits => ?_⟩
  · unfold fwWrite
    rw [hnone]
  · have hwork : fwWrite o p s = setResult o (okRes []) (bootMod (fun b => { b with update := some (k, n, w + (p.drop 4).length) })
        (slotMod k (fun x => { x with bytes := x.bytes ++ p.drop 4, openBytes := some (w + (p.drop 4).length) }) s)) := by
      unfold fwWrite
      rw [hsome]
      exact checked_none _ s (firstBad_none (by simpa [hoff] using hfits))
    obtain ⟨t, hrun, hkeep, hend, hpart⟩ := command_does h hwork (keepsBut_trans (keepsBut_slotMod _ _ s) (keepsBut_bootMod _ _)) (by simp)
    exact ⟨t, hrun, keepsBut_mono hkeep (by simp), hend, hpart .boot (by simp)⟩

/-! ### FW_CLOSE -/

theorem keepsBut_fwEvent (k flag v : Nat) (s : State) : keepsBut [.mb, .host, .pc] s (fwEvent k flag v s) := keepsBut_issueEvent _ _ _ s

theorem sameCommands_fwEvent (k flag v : Nat) (s : State) : sameCommands s (fwEvent k flag v s) := sameCommands_issueEvent _ _ _ s

/-- The session closed and the slot's state taken. -/
def slotClosed (k : Nat) (s : State) : State :=
  let u := bootMod (fun b => { b with update := none }) (slotMod k (fun x => { x with openBytes := none }) s)
  slotMod k (fun x => { x with st := slotState u k }) u

theorem keepsBut_slotClosed (k : Nat) (s : State) : keepsBut [.boot] s (slotClosed k s) :=
  keepsBut_trans (keepsBut_trans (keepsBut_slotMod _ _ s) (keepsBut_bootMod _ _)) (keepsBut_slotMod _ _ _)

theorem slotOf_slotMod_same {k : Nat} (hk : k ≤ 1) (f : Slot → Slot) (s : State) : slotOf (slotMod k f s) k = f (slotOf s k) :=
  vmodN_same _ _ _ _ (by omega)

theorem slotOf_slotClosed {k : Nat} (hk : k ≤ 1) (s : State) :
    (slotOf (slotClosed k s) k).bytes = (slotOf s k).bytes ∧ (slotOf (slotClosed k s) k).openBytes = none := by
  unfold slotClosed
  extract_lets u
  have hu : slotOf u k = { slotOf s k with openBytes := none } := slotOf_slotMod_same hk _ s
  rw [slotOf_slotMod_same hk, hu]
  exact ⟨rfl, rfl⟩

theorem fwClose_of_open {o : Origin} {p : List Byte} {k n w : Nat} {s : State} (h : s.boot.update = some (k, n, w)) :
    fwClose o p s = match slotHeader (slotOf (slotClosed k s) k) with
      | some (v, n, _) => setResult o (okRes (Config.sha384 (slotBody (slotOf (slotClosed k s) k) (min n (slotSize (slotClosed k s) - 128))) ++ le 4 v))
          (fwEvent k 1 v (slotClosed k s))
      | none => setResult o (okRes (Config.sha384 ((slotOf (slotClosed k s) k).bytes.drop 128) ++ le 4 (Config.freeNat (slotClosed k s).free % 2 ^ 32)))
          (fwEvent k 1 (Config.freeNat (slotClosed k s).free % 2 ^ 32) { slotClosed k s with free := (slotClosed k s).free + 1 }) := by
  unfold fwClose
  rw [h]
  rfl

theorem slotHeader_congr {x y : Slot} (h : x.bytes = y.bytes) : slotHeader x = slotHeader y := by rw [slotHeader, slotHeader, h]

theorem slotBody_congr {x y : Slot} (h : x.bytes = y.bytes) (n : Nat) : slotBody x n = slotBody y n := by rw [slotBody, slotBody, h]

theorem fwClose_closes (o : Origin) (p : List Byte) (s : State) (h : commandAt s o 0x0912 = some p) :
    (s.boot.update = none → ∃ t, exec (.fwClose o) s = .next t ∧ onlyAnswers o (notPermitted 0x0018) s t) ∧
    (∀ k n w v size d, s.boot.update = some (k, n, w) → k ≤ 1 → slotHeader (slotOf s k) = some (v, size, d) → 128 + size ≤ slotSize s →
      ∃ t, exec (.fwClose o) s = .next t ∧ keepsBut [.boot, .host, .mb, .msi, .pc] s t ∧
        replied o (okRes (Config.sha384 (slotBody (slotOf s k) size) ++ le 4 v)) t ∧ t.boot.update = none ∧
        (slotOf t k).bytes = (slotOf s k).bytes ∧ (slotOf t k).openBytes = none) ∧
    (∀ k n w, s.boot.update = some (k, n, w) → k ≤ 1 → slotHeader (slotOf s k) = none →
      ∃ t r, exec (.fwClose o) s = .next t ∧ keepsBut [.boot, .host, .mb, .msi, .pc, .free] s t ∧ replied o (okRes r) t ∧
        r.length = 52 ∧ r.take 48 = Config.sha384 ((slotOf s k).bytes.drop 128) ∧ t.boot.update = none ∧
        (slotOf t k).openBytes = none) := by
  refine ⟨fun hnone => command_answers h ?_, fun k n w v size d hopen hk hhead hsize => ?_, fun k n w hopen hk hhead => ?_⟩
  · unfold fwClose
    rw [hnone]
  · obtain ⟨hbytes, hclosed⟩ := slotOf_slotClosed hk s
    have hwork := fwClose_of_open (o := o) (p := p) hopen
    rw [slotHeader_congr hbytes, hhead] at hwork
    dsimp only at hwork
    have hroom : slotSize (slotClosed k s) = slotSize s := rfl
    rw [slotBody_congr hbytes, hroom, Nat.min_eq_left (show size ≤ slotSize s - 128 by omega)] at hwork
    have hframe := keepsBut_then (n := [.boot, .mb, .host, .pc]) (keepsBut_slotClosed k s) (keepsBut_fwEvent k 1 v _) (by simp) (by simp)
    obtain ⟨t, hrun, hkeep, hreply, hpart⟩ := command_reports h hwork hframe
      (sameCommands_trans (sameCommands_of_mb (keepsBut_slotClosed k s .mb (by simp))) (sameCommands_fwEvent _ _ _ _))
    have hboot : t.boot = (slotClosed k s).boot := (hpart .boot (by simp)).trans (keepsBut_fwEvent k 1 v _ .boot (by simp))
    refine ⟨t, hrun, keepsBut_mono hkeep (by simp), hreply, by rw [hboot]; rfl, ?_, ?_⟩
    · rw [← hbytes, slotOf, hboot]; rfl
    · rw [← hclosed, slotOf, hboot]; rfl
  · obtain ⟨hbytes, hclosed⟩ := slotOf_slotClosed hk s
    have hwork := fwClose_of_open (o := o) (p := p) hopen
    rw [slotHeader_congr hbytes, hhead, hbytes] at hwork
    dsimp only at hwork
    generalize Config.freeNat (slotClosed k s).free % 2 ^ 32 = v at hwork
    have hframe := keepsBut_then (n := [.boot, .free, .mb, .host, .pc])
      (keepsBut_then (n := [.boot, .free]) (keepsBut_slotClosed k s) (keepsBut_withFree ((slotClosed k s).free + 1) _) (by simp) (by simp))
      (keepsBut_fwEvent k 1 v _) (by simp) (by simp)
    obtain ⟨t, hrun, hkeep, hreply, hpart⟩ := command_reports h hwork hframe
      (sameCommands_trans (sameCommands_of_mb (keepsBut_slotClosed k s .mb (by simp))) (sameCommands_fwEvent _ _ _ _))
    have hboot : t.boot = (slotClosed k s).boot := (hpart .boot (by simp)).trans (keepsBut_fwEvent k 1 v _ .boot (by simp))
    refine ⟨t, _, hrun, keepsBut_mono hkeep (by simp), hreply, ?_, ?_, by rw [hboot]; rfl, ?_⟩
    · rw [List.length_append, length_sha384, length_le]
    · rw [List.take_left' (length_sha384 _)]
    · rw [← hclosed, slotOf, hboot]; rfl

/-! ### FW_ACTIVATE -/

/-- FW_ACTIVATE's work on a slot that may start. -/
def trialOrdered (o : Origin) (k w : Nat) (s : State) : State :=
  let u := fwEvent k 2 (((slotHeader (slotOf s k)).map (fun h => h.1)).getD 0) (writeBlock (fun b => { b with trialSlot := k, trial := true }) s)
  if w = 1 ∨ s.boot.stage = 3 then execMod o (fun e => { e with resetAfter := some 3 }) u else u

theorem issueEvent_boot (c n : Nat) (d : List Byte) (s : State) : (issueEvent c n d s).boot = s.boot :=
  keepsBut_issueEvent c n d s .boot (by simp)

theorem fwActivate_work {o : Origin} {p : List Byte} {s : State} (hk : fieldLe p 0 1 ≤ 1) (hw : fieldLe p 1 1 ≤ 1) (hz : zeros p 2 2 = true) :
    fwActivate o p s = if slotState s (fieldLe p 0 1) = 0 then setResult o (notPermitted 0x0018) s
      else if (slotHeader (slotOf s (fieldLe p 0 1))).any (fun h => decide (h.1 / 2 ^ 24 % 256 < s.boot.rollback)) then
        setResult o (notPermitted 0x0019) s
      else setResult o (okRes []) (trialOrdered o (fieldLe p 0 1) (fieldLe p 1 1) s) := by
  unfold fwActivate trialOrdered
  dsimp only
  rw [checked_none _ s (firstBad_none (by simp [hz]; omega))]
  simp only [fwEvent, issueEvent_boot]
  rfl

theorem keepsBut_trialOrdered (o : Origin) (k w : Nat) (s : State) : keepsBut [.boot, .mb, .host, .pc] s (trialOrdered o k w s) := by
  unfold trialOrdered
  extract_lets u
  have hu : keepsBut [.boot, .mb, .host, .pc] s u := keepsBut_then (keepsBut_writeBlock _ s) (keepsBut_fwEvent _ _ _ _) (by simp) (by simp)
  split
  · exact keepsBut_then hu (keepsBut_execMod o _ u) (by simp) (by simp)
  · exact hu

theorem trialOrdered_boot (o : Origin) (k w : Nat) (s : State) :
    (trialOrdered o k w s).boot = (writeBlock (fun b => { b with trialSlot := k, trial := true }) s).boot := by
  unfold trialOrdered
  extract_lets u
  have hu : u.boot = (writeBlock (fun b => { b with trialSlot := k, trial := true }) s).boot := issueEvent_boot _ _ _ _
  split
  · exact (keepsBut_execMod o _ u .boot (by simp)).trans hu
  · exact hu

theorem trialOrdered_record {o : Origin} {k w : Nat} {e : Exec} {s : State} (h : execOf s o = some e) :
    ∃ e', execOf (trialOrdered o k w s) o = some e' ∧ (w = 1 → e'.resetAfter = some 3) := by
  unfold trialOrdered
  extract_lets u
  have hu : execOf u o = some e := by
    rw [execOf_of_sameCommands (sameCommands_trans (sameCommands_of_mb (keepsBut_writeBlock _ s .mb (by simp))) (sameCommands_fwEvent _ _ _ _))]
    exact h
  split
  · exact ⟨_, execOf_execMod _ hu, fun _ => rfl⟩
  · next hno => exact ⟨e, hu, fun hw => absurd (Or.inl hw) hno⟩

theorem fwActivate_orders (o : Origin) (p : List Byte) (k : Nat) (s : State) (h : commandAt s o 0x0913 = some p) (hk : k = fieldLe p 0 1)
    (hk' : k ≤ 1) (hw : fieldLe p 1 1 ≤ 1) (hz : zeros p 2 2 = true) :
    (slotState s k = 0 → ∃ t, exec (.fwActivate o) s = .next t ∧ onlyAnswers o (notPermitted 0x0018) s t) ∧
    (slotState s k ≠ 0 → (slotHeader (slotOf s k)).any (fun h => decide (h.1 / 2 ^ 24 % 256 < s.boot.rollback)) = true →
      ∃ t, exec (.fwActivate o) s = .next t ∧ onlyAnswers o (notPermitted 0x0019) s t) ∧
    (slotState s k ≠ 0 → (slotHeader (slotOf s k)).any (fun h => decide (h.1 / 2 ^ 24 % 256 < s.boot.rollback)) = false →
      ∃ t e, exec (.fwActivate o) s = .next t ∧ keepsBut [.boot, .host, .mb, .msi, .pc] s t ∧
      execOf t o = some e ∧ e.result = some (okRes []) ∧ (fieldLe p 1 1 = 1 → e.resetAfter = some 3) ∧
      blockOf t = { blockOf s with trialSlot := k, trial := true, valid := true, seq := (blockOf s).seq + 1 } ∧
      t.boot.slots = s.boot.slots) := by
  subst hk
  have hwork := fwActivate_work (o := o) (s := s) hk' hw hz
  refine ⟨fun hempty => command_answers h (hwork.trans (if_pos hempty)),
    fun hst hlow => command_answers h (hwork.trans ((if_neg hst).trans (if_pos hlow))), fun hst hhigh => ?_⟩
  rw [if_neg hst, if_neg (by rw [hhigh]; simp)] at hwork
  obtain ⟨e, he, -⟩ := execOf_of_commandAt h
  obtain ⟨e', he', hreset⟩ := trialOrdered_record (k := fieldLe p 0 1) (w := fieldLe p 1 1) he
  have hframe := keepsBut_trialOrdered o (fieldLe p 0 1) (fieldLe p 1 1) s
  have hboot : (settle (setResult o (okRes []) (trialOrdered o (fieldLe p 0 1) (fieldLe p 1 1) s))).boot =
      (writeBlock (fun b => { b with trialSlot := fieldLe p 0 1, trial := true }) s).boot :=
    (keepsBut_answered o _ _ .boot (by simp)).trans (trialOrdered_boot _ _ _ _)
  refine ⟨_, _, command_runs h hwork, keepsBut_answer o _ (keepsBut_mono hframe (by simp)) (by simp) (by simp),
    (execOf_congr (settle_mb _) o).trans (execOf_execMod _ he'), rfl, hreset, ?_, ?_⟩
  · rw [blockOf_of_boot hboot, blockOf_writeBlock]
  · rw [hboot]; rfl

/-! ### FW_COMMIT -/

theorem keepsBut_confirmTrial (s : State) : keepsBut [.boot] s (confirmTrial s) := by
  unfold confirmTrial
  cases s.boot.attempt with
  | none => exact keepsBut_refl _ s
  | some k =>
    dsimp only
    split
    · exact keepsBut_trans (keepsBut_writeBlock _ s) (keepsBut_bootMod _ _)
    · exact keepsBut_refl _ s

theorem confirmTrial_none {s : State} (h : s.boot.attempt = none) : confirmTrial s = s := by rw [confirmTrial, h]

theorem confirmTrial_some {k : Nat} {s : State} (h : s.boot.attempt = some k) (htrial : s.boot.trial = true) :
    confirmTrial s = bootMod (fun b => { b with attempt := none, trial := false }) (writeBlock (fun b => { b with active := k }) s) := by
  rw [confirmTrial, h]
  exact if_pos htrial

/-- A confirmation leaves the images, the running one, and the counter. -/
theorem confirmTrial_images (s : State) :
    (confirmTrial s).boot.slots = s.boot.slots ∧ (confirmTrial s).boot.slot = s.boot.slot ∧ (confirmTrial s).boot.stage = s.boot.stage ∧
      (confirmTrial s).boot.rollback = s.boot.rollback := by
  unfold confirmTrial
  cases s.boot.attempt with
  | none => exact ⟨rfl, rfl, rfl, rfl⟩
  | some k =>
    dsimp only
    split <;> exact ⟨rfl, rfl, rfl, rfl⟩

theorem fwVersion_confirmTrial (s : State) : fwVersion (confirmTrial s) = fwVersion s := by
  obtain ⟨hslots, hslot, hstage, -⟩ := confirmTrial_images s
  rw [fwVersion, fwVersion, hslots, hslot, hstage]

/-- The counter raised, measured and shown. -/
def rollbackRaised (n : Nat) (s : State) : State :=
  showSlots (extendMreg 6 (Config.sha384 (Config.securityEvent 1 n)) (bootMod (fun b => { b with rollback := n }) s))

theorem keepsBut_rollbackRaised (n : Nat) (s : State) : keepsBut [.boot] s (rollbackRaised n s) :=
  keepsBut_trans (keepsBut_trans (keepsBut_bootMod _ s) (keepsBut_bootMod _ _)) (keepsBut_bootMod _ _)

theorem fwCommit_work (o : Origin) (p : List Byte) (s : State) :
    fwCommit o p s = setResult o (okRes (le 4 (max s.boot.rollback (fwVersion s / 2 ^ 24 % 256))))
      (fwEvent (confirmTrial s).boot.slot 4 (fwVersion s)
        (rollbackRaised (max s.boot.rollback (fwVersion s / 2 ^ 24 % 256)) (confirmTrial s))) := by
  obtain ⟨-, -, -, hroll⟩ := confirmTrial_images s
  rw [← fwVersion_confirmTrial s, ← hroll]
  rfl

theorem fwCommit_raises (o : Origin) (p : List Byte) (s : State) (h : commandAt s o 0x0914 = some p) :
    let n := max s.boot.rollback (fwVersion s / 2 ^ 24 % 256)
    ∃ t, exec (.fwCommit o) s = .next t ∧ keepsBut [.boot, .host, .mb, .msi, .pc] s t ∧ replied o (okRes (le 4 n)) t ∧
      t.boot.rollback = n ∧ (s.boot.attempt = none → t.boot.blocks = s.boot.blocks) ∧
      (∀ k, s.boot.attempt = some k → s.boot.trial = true → (blockOf t).active = k) := by
  intro n
  have hwork := fwCommit_work o p s
  have hraise : keepsBut [.boot] s (rollbackRaised n (confirmTrial s)) := keepsBut_trans (keepsBut_confirmTrial s) (keepsBut_rollbackRaised _ _)
  obtain ⟨t, hrun, hkeep, hreply, hpart⟩ := command_reports h hwork
    (keepsBut_then (n := [.boot, .mb, .host, .pc]) hraise (keepsBut_fwEvent _ _ _ _) (by simp) (by simp))
    (sameCommands_trans (sameCommands_of_mb (hraise .mb (by simp))) (sameCommands_fwEvent _ _ _ _))
  have hboot : t.boot = (rollbackRaised n (confirmTrial s)).boot := (hpart .boot (by simp)).trans (issueEvent_boot _ _ _ _)
  refine ⟨t, hrun, keepsBut_mono hkeep (by simp), hreply, by rw [hboot]; rfl, fun hnone => ?_, fun k hsome htrial => ?_⟩
  · rw [hboot, confirmTrial_none hnone]; rfl
  · have hblocks : t.boot.blocks = (writeBlock (fun b => { b with active := k }) s).boot.blocks := by
      rw [hboot, confirmTrial_some hsome htrial]; rfl
    have hblock : blockOf t = blockOf (writeBlock (fun b => { b with active := k }) s) := by rw [blockOf, blockOf, hblocks]
    rw [hblock, blockOf_writeBlock]

/-- Settles O58: each command's work is one equation under its checks. -/
theorem firmwareCommands : Obligations.FirmwareCommands := ⟨fwOpen_opens, fwWrite_takes, fwClose_closes, fwActivate_orders, fwCommit_raises⟩

end Sys2Proof.Machine

/-! The relay of commands and the reports (R465, R466, R491, R496). -/

namespace Sys2Proof.Machine

-- The joined text is one compile: no thread beside the main one for each proof.
set_option Elab.async false

theorem remoteCmd_relays (o : Origin) (p : List Byte) (s : State) (h : commandAt s o 0x0710 = some p) :
    (fieldLe p 0 4 = ownAddr s → ∃ t, exec (.remoteCmd o) s = .next t ∧ onlyAnswers o (badParam 0) s t) ∧
    (fieldLe p 0 4 < 2 ^ 18 → fieldLe p 0 4 ≠ ownAddr s → ∃ t m r, exec (.remoteCmd o) s = .next t ∧ keepsBut [.fab, .mb, .msi] s t ∧
      waits o .relay t ∧ t.fab = { s.fab with nextXid := (s.fab.nextXid + 1) % 65536, sent := m :: s.fab.sent, relays := s.fab.relays ++ [r] } ∧
      m.dest = fieldLe p 0 4 ∧ m.type = 2 ∧ m.kind = 0 ∧ m.xid = s.fab.nextXid ∧ m.mflags = 1 ∧ m.body = p.drop 4 ∧
      r.origin = o ∧ r.xid = s.fab.nextXid ∧ r.target = fieldLe p 0 4 ∧ r.sends = 1 ∧ r.attest = false) := by
  refine ⟨fun hown => command_answers h ?_, fun hlt hown => ?_⟩
  · exact checked_bad _ s (firstBad_hit (by simp [hown]))
  · have hwork : remoteCmd o p s = startRelay o (fieldLe p 0 4) (p.drop 4) false s :=
      checked_none _ s (firstBad_none (by simp [hown]; omega))
    obtain ⟨t, m, hrun, hkeep, hwait, hfab, hdest, htype, hkind, hxid, hflags, hbody⟩ := command_relays h hwork
    exact ⟨t, m, _, hrun, hkeep, hwait, hfab, hdest, htype, hkind, hxid, hflags, hbody, rfl, rfl, rfl, rfl, rfl⟩

/-! ### FAB_DB_GET -/

/-- The items that fit are the first ones, and the next one would not. -/
theorem wholeFit_prefix (l : List (List Byte)) : ∀ room, ∃ n, n ≤ l.length ∧ wholeFit room l = l.take n ∧
    (wholeFit room l).flatten.length ≤ room ∧ ∀ x, (l.drop n).head? = some x → room < (wholeFit room l).flatten.length + x.length := by
  induction l with
  | nil => exact fun room => ⟨0, by simp [wholeFit]⟩
  | cons r rs ih =>
    intro room
    unfold wholeFit
    split
    · next hfit =>
      obtain ⟨n, hn, htake, hroom, hnext⟩ := ih (room - r.length)
      refine ⟨n + 1, by simpa using hn, by rw [htake, List.take_succ_cons], ?_, fun x hx => ?_⟩
      · rw [List.flatten_cons, List.length_append]; omega
      · have := hnext x (by simpa using hx)
        rw [List.flatten_cons, List.length_append]; omega
    · next hbig => exact ⟨0, by omega, rfl, by simp, fun x hx => by simp at hx; subst hx; simpa using hbig⟩

theorem length_le_flatten {l : List (List Byte)} (h : ∀ x ∈ l, 0 < x.length) : l.length ≤ l.flatten.length := by
  induction l with
  | nil => simp
  | cons x xs ih =>
    have hx := h x (by simp)
    have := ih fun y hy => h y (by simp [hy])
    simp only [List.flatten_cons, List.length_append, List.length_cons]
    omega

theorem length_recBytes_pos (r : LsRecord) (age : Nat) : 0 < (recBytes r age).length := by
  simp [recBytes, be, le]

theorem fabDbGet_answers (o : Origin) (p : List Byte) (s : State) (h : commandAt s o 0x0720 = some p) (hlo : 1 ≤ fieldLe p 0 1)
    (hhi : fieldLe p 0 1 ≤ 3) (hz : zeros p 1 3 = true) :
    let all := s.fab.records.filter (fun r => r.body.scope == fieldLe p 0 1)
    ∃ t r n, exec (.fabDbGet o) s = .next t ∧ onlyAnswers o (okRes r) s t ∧ fieldLe r 0 4 = all.length % 2 ^ 32 ∧
      fieldLe r 4 4 = n ∧ n ≤ all.length - fieldLe p 4 4 ∧ r.length ≤ 4080 ∧
      (∀ x, (all.drop (fieldLe p 4 4 + n)).head? = some x → 4080 < r.length + (recBytes x.body (min (ageOf s x) 65535)).length) ∧
      r.drop 8 = (((all.drop (fieldLe p 4 4)).take n).map (fun x => recBytes x.body (min (ageOf s x) 65535))).flatten := by
  intro all
  obtain ⟨items, hitems⟩ : ∃ items, items = (all.drop (fieldLe p 4 4)).map (fun x => recBytes x.body (min (ageOf s x) 65535)) := ⟨_, rfl⟩
  obtain ⟨n, hn, htake, hroom, hnext⟩ := wholeFit_prefix items 4072
  have hwork : fabDbGet o p s = setResult o
      (okRes (le 4 all.length ++ le 4 (wholeFit 4072 items).length ++ (wholeFit 4072 items).flatten)) s := by
    rw [hitems]
    unfold fabDbGet
    dsimp only
    exact checked_none _ s (firstBad_none (by simp [hz]; omega))
  have hcount : (wholeFit 4072 items).length = n := by rw [htake, List.length_take, Nat.min_eq_left hn]
  have hsmall : n ≤ 4072 := by
    rw [← hcount]
    refine (length_le_flatten fun x hx => ?_).trans hroom
    rw [htake, hitems] at hx
    obtain ⟨y, -, rfl⟩ := List.mem_map.mp (List.mem_of_mem_take hx)
    exact length_recBytes_pos _ _
  obtain ⟨t, hrun, hans⟩ := command_answers h hwork
  have hlen : (le 4 all.length ++ le 4 (wholeFit 4072 items).length ++ (wholeFit 4072 items).flatten).length =
      8 + (wholeFit 4072 items).flatten.length := by
    rw [List.length_append, List.length_append, length_le, length_le]
  refine ⟨t, _, n, hrun, hans, ?_, ?_, ?_, ?_, fun x hx => ?_, ?_⟩
  · rw [List.append_assoc, fieldLe_le_head]; rfl
  · rw [List.append_assoc, fieldLe_append_skip (length_le _ _), fieldLe_le_head, hcount]
    exact Nat.mod_eq_of_lt (by omega)
  · simpa [hitems] using hn
  · rw [hlen]; omega
  · have := hnext (recBytes x.body (min (ageOf s x) 65535)) (by
      rw [hitems, ← List.map_drop, List.drop_drop, List.head?_map, hx]; rfl)
    rw [hlen]; omega
  · rw [List.drop_left' (by rw [List.length_append, length_le, length_le]), htake, hitems, List.map_take]

/-! ### PC_MAP -/

theorem pcMap_points (o : Origin) (p : List Byte) (n ev : Nat) (s : State) (h : commandAt s o 0x0801 = some p) (hn : n = fieldLe p 0 2)
    (hev : ev = fieldLe p 2 2) (hn' : n ≤ 1023) (hevs : ev < 1024 ∨ ev = 0xFFFF ∨ (ev = 0xFFFE ∧ n ≠ 0)) :
    ∃ t, exec (.pcMap o) s = .next t ∧ keepsBut [.pc, .mb, .msi] s t ∧ endsWith o (okRes []) s t ∧
      t.pc = { s.pc with pc := vmodN s.pc.pc n (fun _ => { event := if ev = 0xFFFF then n else ev }) } := by
  subst hn hev
  have hwork : pcMap o p s = setResult o (okRes []) (pointCounter (fieldLe p 0 2) (if fieldLe p 2 2 = 0xFFFF then fieldLe p 0 2 else fieldLe p 2 2) s) :=
    by
      unfold pcMap
      dsimp only
      exact checked_none _ s (firstBad_none (by simp; omega))
  have hpc : ∀ ev, keepsBut [.pc] s (pointCounter (fieldLe p 0 2) ev s) := fun ev x hx => by
    cases x <;> first | rfl | exact ⟨rfl, rfl, rfl⟩ | simp at hx
  obtain ⟨t, hrun, hkeep, hend, hpart⟩ := command_does h hwork (hpc _) (by simp)
  exact ⟨t, hrun, keepsBut_mono hkeep (by simp), hend, hpart .pc (by simp)⟩

/-! ### HEALTH_GET -/

/-- HEALTH_GET's answer from a snapshot. -/
def healthAnswer (v : Nat × List Byte) (first : Nat) : CmdResult := okRes (le 4 v.2.length ++ le 4 v.1 ++ (v.2.drop first).take 4064)

theorem healthReport_ne (n : Nat) (s : State) : (healthReport n s).isEmpty = false := by
  unfold healthReport
  extract_lets l body st flags
  rw [List.isEmpty_eq_false_iff_exists_mem]
  refine ⟨(1 : Byte), ?_⟩
  simp [le]

theorem healthGet_new {o : Origin} {p : List Byte} {n : Nat} {s : State} (h : fieldLe p 0 4 = 0) (hn : n = ((snapshotOf s o).1 + 1) % 2 ^ 32)
    (hkept : snapshotOf (keepSnapshot o n (healthReport n s) s) o = (n, healthReport n s)) :
    healthGet o p s = setResult o (healthAnswer (n, healthReport n s) 0) (keepSnapshot o n (healthReport n s) s) := by
  subst hn
  unfold healthGet
  dsimp only
  rw [h, if_pos rfl, hkept]
  exact checked_none _ _ (firstBad_none (by simp [healthReport_ne]))

theorem healthGet_old {o : Origin} {p : List Byte} {s : State} (h : fieldLe p 0 4 ≠ 0) :
    healthGet o p s = checked o [((snapshotOf s o).2.isEmpty, 0)] (fun s' => setResult o (healthAnswer (snapshotOf s o) (fieldLe p 0 4)) s') s := by
  unfold healthGet
  dsimp only
  rw [if_neg h]
  rfl

theorem healthGet_hostNew {c : Fin 4} {p : List Byte} {n : Nat} {s : State} (h : commandAt s (.host c) 0x0802 = some p)
    (hfirst : fieldLe p 0 4 = 0) (hn : n = ((chanOf s c.val).healthSeq + 1) % 2 ^ 32) :
    ∃ t, exec (.healthGet (.host c)) s = .next t ∧ keepsBut [.mb, .msi] s t ∧
      (chanOf t c.val).healthSeq = n ∧ (chanOf t c.val).health = healthReport n s ∧
      replied (.host c) (okRes (le 4 (healthReport n s).length ++ le 4 n ++ (healthReport n s).take 4064)) t ∧
      ∀ d, d ≠ c.val → chanOf t d = chanOf s d := by
  obtain ⟨e, he, -⟩ := execOf_of_commandAt h
  obtain ⟨u, hu⟩ : ∃ u, keepSnapshot (.host c) n (healthReport n s) s = u := ⟨_, rfl⟩
  have hchan : chanOf u c.val = { chanOf s c.val with healthSeq := n, health := healthReport n s } := by
    rw [← hu]; exact chanOf_chanMod_same c _ s
  have hother : ∀ d, d ≠ c.val → chanOf u d = chanOf s d := fun d hd => by rw [← hu]; exact chanOf_chanMod_other hd _ s
  have hkeep : keepsBut [.mb] s u := by rw [← hu]; exact keepsBut_chanMod _ _ s
  have hsnap : snapshotOf u (.host c) = (n, healthReport n s) := by rw [snapshotOf, hchan]
  have hwork := healthGet_new (o := .host c) hfirst hn (by rw [hu, hsnap])
  rw [hu] at hwork
  have he' : execOf u (.host c) = some e := by rw [execOf, hchan]; exact he
  have hset : ∀ r, chanOf (settle (setResult (.host c) r u)) c.val = { chanOf u c.val with
      exec := (chanOf u c.val).exec.map (fun e => { e with result := some r, wait := none }) } := fun r => by
    rw [chanOf_settle]; exact chanOf_chanMod_same c _ u
  refine ⟨_, command_runs h hwork, keepsBut_answer _ _ (keepsBut_mono hkeep (by simp)) (by simp) (by simp), ?_, ?_, replied_setResult _ he',
    fun d hd => ?_⟩
  · rw [hset, hchan]
  · rw [hset, hchan]
  · rw [chanOf_settle]; exact (chanOf_chanMod_other hd _ u).trans (hother d hd)

theorem healthGet_host (c : Fin 4) (p : List Byte) (s : State) (h : commandAt s (.host c) 0x0802 = some p) :
    (fieldLe p 0 4 = 0 →
      let n := ((chanOf s c.val).healthSeq + 1) % 2 ^ 32
      ∃ t, exec (.healthGet (.host c)) s = .next t ∧ keepsBut [.mb, .msi] s t ∧
        (chanOf t c.val).healthSeq = n ∧ (chanOf t c.val).health = healthReport n s ∧
        replied (.host c) (okRes (le 4 (healthReport n s).length ++ le 4 n ++ (healthReport n s).take 4064)) t ∧
        ∀ d, d ≠ c.val → chanOf t d = chanOf s d) ∧
    (fieldLe p 0 4 ≠ 0 → (chanOf s c.val).health ≠ [] → ∃ t, exec (.healthGet (.host c)) s = .next t ∧
      onlyAnswers (.host c) (okRes (le 4 (chanOf s c.val).health.length ++ le 4 (chanOf s c.val).healthSeq ++
        ((chanOf s c.val).health.drop (fieldLe p 0 4)).take 4064)) s t) ∧
    (fieldLe p 0 4 ≠ 0 → (chanOf s c.val).health = [] → ∃ t, exec (.healthGet (.host c)) s = .next t ∧
      onlyAnswers (.host c) (badParam 0) s t) := by
  refine ⟨fun hfirst => healthGet_hostNew h hfirst rfl, fun hnext hsome => command_answers h ?_, fun hnext hnone => command_answers h ?_⟩
  · rw [healthGet_old hnext]
    exact checked_none _ s (firstBad_none (by simpa [snapshotOf] using hsome))
  · rw [healthGet_old hnext]
    exact checked_bad _ s (firstBad_hit (by simpa [snapshotOf] using hnone))

/-- A device's snapshot, kept in its sequence state. -/
theorem snapshotOf_keepSnapshot_remote {src xid n : Nat} {b : List Byte} {q : RemoteSeq} {s : State}
    (hq : s.fab.remotes.find? (fun r => r.source == src) = some q) :
    snapshotOf (keepSnapshot (.remote src xid) n b s) (.remote src xid) = (n, b) := by
  have hsrc : q.source = src := by simpa using List.find?_some hq
  have hmap : (s.fab.remotes.map (fun (r : RemoteSeq) => if r.source = src then { r with healthSeq := n, health := b } else r)).find?
      (fun r => r.source == src) = some { q with healthSeq := n, health := b } := by
    rw [List.find?_map, show ((fun r : RemoteSeq => r.source == src) ∘
        (fun (r : RemoteSeq) => if r.source = src then { r with healthSeq := n, health := b } else r)) = (fun r => r.source == src) from
      funext fun r => by simp only [Function.comp]; split <;> rfl, hq, Option.map_some, if_pos hsrc]
  show ((((keepSnapshot (.remote src xid) n b s).fab.remotes).find? (fun r => r.source == src)).map (fun r => (r.healthSeq, r.health))).getD (0, []) = _
  rw [show (keepSnapshot (.remote src xid) n b s).fab.remotes = s.fab.remotes.map
      (fun (r : RemoteSeq) => if r.source = src then { r with healthSeq := n, health := b } else r) from rfl, hmap]
  rfl

theorem healthGet_remote (src xid : Nat) (p : List Byte) (q : RemoteSeq) (s : State) (h : commandAt s (.remote src xid) 0x0802 = some p)
    (hq : s.fab.remotes.find? (fun r => r.source == src) = some q) (hfirst : fieldLe p 0 4 = 0) :
    let n := (q.healthSeq + 1) % 2 ^ 32
    ∃ t, exec (.healthGet (.remote src xid)) s = .next t ∧ keepsBut [.fab, .mb, .msi] s t ∧
      t.fab = { s.fab with remotes := t.fab.remotes } ∧
      endsWith (.remote src xid) (okRes (le 4 (healthReport n s).length ++ le 4 n ++ (healthReport n s).take 4064)) s t := by
  intro n
  have hn : n = ((snapshotOf s (.remote src xid)).1 + 1) % 2 ^ 32 := by simp only [snapshotOf, hq]; rfl
  have hwork := healthGet_new hfirst hn (snapshotOf_keepSnapshot_remote hq)
  obtain ⟨t, hrun, hkeep, hend, hpart⟩ := command_does h hwork (show keepsBut [.fab] s _ from keepsBut_fabMod _ s) (by simp)
  have hfab : t.fab = (keepSnapshot (.remote src xid) n (healthReport n s) s).fab := hpart .fab (by simp)
  exact ⟨t, hrun, keepsBut_mono hkeep (by simp), by rw [hfab]; rfl, hend⟩

/-! ### WEATHER_GET -/

theorem weatherGet_answers (o : Origin) (p : List Byte) (s : State) (h : commandAt s o 0x0803 = some p) (hk : fieldLe p 0 1 ≤ 1)
    (hz : zeros p 1 3 = true) :
    ∃ t r, exec (.weatherGet o) s = .next t ∧ keepsBut [.free, .mb, .msi] s t ∧ endsWith o (okRes r) s t ∧
      r.drop 4 = ((((if fieldLe p 0 1 = 0 then s.wx.hourly else s.wx.daily).reverse).drop (fieldLe p 4 4)).take 63).flatMap (fun w => w.bytes) := by
  have hwork := checked_none (o := o) (l := [(decide (1 < fieldLe p 0 1), 0), (!zeros p 1 3, firstSet p 1 3)]) (fun s =>
    setResult o (okRes (le 4 (Config.freeNat s.free) ++
      ((((if fieldLe p 0 1 = 0 then s.wx.hourly else s.wx.daily).reverse).drop (fieldLe p 4 4)).take 63).flatMap (fun w => w.bytes)))
      { s with free := s.free + 1 }) s (firstBad_none (by simp [hz]; omega))
  obtain ⟨t, hrun, hkeep, hend, -⟩ := command_does (f := weatherGet o) h hwork (keepsBut_withFree _ s) (by simp)
  exact ⟨t, _, hrun, keepsBut_mono hkeep (by simp), hend, List.drop_left' (length_le _ _)⟩

/-- Settles O56: each command's answer is read from its one equation. -/
theorem fabricAndReportCommands : Obligations.FabricAndReportCommands :=
  ⟨remoteCmd_relays, fabDbGet_answers, pcMap_points, healthGet_host, healthGet_remote, weatherGet_answers⟩

end Sys2Proof.Machine

/-! The commands of the calendar (R323, R324, R464). -/

namespace Sys2Proof.Machine

-- The joined text is one compile: no thread beside the main one for each proof.
set_option Elab.async false

/-! ### Bank switches and messages of an order -/

/-- Work that orders bank switches: the streams, the changes under way and the records stand. -/
structure OrdersBanks (s t : State) : Prop where
  frame : keepsBut [.cald] s t
  streams : t.cald.streams = s.cald.streams
  acts : t.cald.acts = s.cald.acts
  resv : t.cald.resv = s.cald.resv

theorem OrdersBanks.refl (s : State) : OrdersBanks s s := ⟨keepsBut_refl _ s, rfl, rfl, rfl⟩

theorem OrdersBanks.trans {s t u : State} (h : OrdersBanks s t) (k : OrdersBanks t u) : OrdersBanks s u :=
  ⟨keepsBut_trans h.frame k.frame, k.streams.trans h.streams, k.acts.trans h.acts, k.resv.trans h.resv⟩

theorem ordersBanks_orderBank (p course : Nat) (l : List SlotEntry) (s : State) : OrdersBanks s (orderBank p course l s) := by
  unfold orderBank
  extract_lets u
  split
  · exact ⟨keepsBut_trans (keepsBut_calMod _ s) (keepsBut_pcalMod p _ u), rfl, rfl, rfl⟩
  · exact ⟨keepsBut_calMod _ s, rfl, rfl, rfl⟩

theorem ordersBanks_foldl {α : Type} {f : State → α → State} (h : ∀ u x, OrdersBanks u (f u x)) (xs : List α) (s : State) :
    OrdersBanks s (xs.foldl f s) :=
  List.foldlRecOn xs f (motive := fun t => OrdersBanks s t) (.refl s) fun t ht x _ => ht.trans (h t x)

/-- The messages of an order leave by the fabric's part, and the own address stands. -/
theorem orderOthers_sends (stream course : Nat) (add : Bool) (devs : List Nat) (s : State) :
    keepsBut [.fab] s (orderOthers stream course add devs s) ∧ ownAddr (orderOthers stream course add devs s) = ownAddr s :=
  List.foldlRecOn devs _ (motive := fun t => keepsBut [.fab] s t ∧ ownAddr t = ownAddr s) ⟨keepsBut_refl _ s, rfl⟩ fun u hu _ _ =>
    ⟨keepsBut_trans hu.1 (keepsBut_trans (keepsBut_fabMod _ u) (keepsBut_sendDev _ _ _ _ _ _ _)), hu.2⟩

/-- A change that no other device has to acknowledge is reported at once. -/
def orderSent (stream course cause : Nat) (add : Bool) (devs : List Nat) (s : State) : State :=
  if devs.isEmpty then streamEvent stream cause course (orderOthers stream course add devs s) else orderOthers stream course add devs s

/-! ### The installation of a plan -/

/-- The other devices of a plan. -/
def planDevs (s : State) (x : Plan) : List Nat := ((x.hops.map (fun h => h.dev)).filter (· != ownAddr s)).dedup

/-- The context and the record of a plan that leaves by ports of this device. -/
def planContext (p : List Byte) (x : Plan) (s : State) : State :=
  let dst := fieldLe p 4 4
  let maxLen := ((planPorts x).map (lenAt s (fieldLe p 8 2))).foldl max (fieldLe p 8 2)
  if x.hops.any (fun h => h.dev == ownAddr s) then
    calMod (fun c => { c with resv := Tbl.set c.resv x.resv { stream := x.stream, maxLen, perCourse := fieldLe p 10 1 } })
      (putCtx x.ctx { valid := true, cal := true, calRes := x.resv, destMc := dst.testBit 23
                      dest := if dst.testBit 23 then dst % 2 ^ 14 else (planPorts x).headD 0 } s)
  else s

/-- Its bank switches ordered. -/
def planBanks (p : List Byte) (x : Plan) (s : State) : State :=
  x.draft.slots.foldl (fun s y => orderBank y.1 x.course y.2 s) (planContext p x s)

/-- The stream entered, and its change under way. -/
def planEntered (p : List Byte) (x : Plan) (cause : Nat) (s : State) : State :=
  calMod (fun c => { c with
    streams := c.streams.filter (fun (y : Stream) => y.id != x.stream) ++ [{
      id := x.stream, ctx := x.ctx, resv := x.resv, ports := planPorts x, course := x.course, devices := planDevs s x, request := p
      links := planLinks (planBanks p x s) p x }]
    acts := c.acts ++ [{ stream := x.stream, course := x.course, install := true, waiting := planDevs s x, cause }] }) (planBanks p x s)

theorem install_eq (p : List Byte) (x : Plan) (cause : Nat) (s : State) :
    install p x cause s = orderSent x.stream x.course cause true (planDevs s x) (planEntered p x cause s) := rfl

theorem keepsBut_planContext (p : List Byte) (x : Plan) (s : State) : keepsBut [.fwd, .cald] s (planContext p x s) := by
  unfold planContext
  extract_lets dst maxLen
  split
  · exact keepsBut_then (keepsBut_putBoth _ _ _ s) (keepsBut_calMod _ _) (by simp) (by simp)
  · exact keepsBut_refl _ s

theorem ordersBanks_planBanks (p : List Byte) (x : Plan) (s : State) : OrdersBanks (planContext p x s) (planBanks p x s) :=
  ordersBanks_foldl (f := fun u y => orderBank y.1 x.course y.2 u) (fun u y => ordersBanks_orderBank y.1 x.course y.2 u) x.draft.slots _

theorem keepsBut_planEntered (p : List Byte) (x : Plan) (cause : Nat) (s : State) : keepsBut [.fwd, .cald] s (planEntered p x cause s) :=
  keepsBut_then (keepsBut_then (n := [.fwd, .cald]) (keepsBut_planContext p x s) (ordersBanks_planBanks p x s).frame (by simp) (by simp)) (keepsBut_calMod _ _)
    (by simp) (by simp)

theorem planEntered_stream (p : List Byte) (x : Plan) (cause : Nat) (s : State) :
    ∃ y ∈ (planEntered p x cause s).cald.streams, y.id = x.stream ∧ y.ctx = x.ctx ∧ y.resv = x.resv ∧ y.course = x.course ∧ y.request = p :=
  ⟨_, List.mem_append_right _ (List.mem_singleton_self _), rfl, rfl, rfl, rfl, rfl⟩

theorem planEntered_act (p : List Byte) (x : Plan) (cause : Nat) (s : State) :
    ∃ a ∈ (planEntered p x cause s).cald.acts, a.stream = x.stream ∧ a.course = x.course ∧ a.install = true ∧ a.waiting = planDevs s x :=
  ⟨_, List.mem_append_right _ (List.mem_singleton_self _), rfl, rfl, rfl, rfl⟩

/-- The record and the context stand where a hop is this device's. -/
theorem planEntered_context {x : Plan} {s : State} (h : x.hops.any (fun h => h.dev == ownAddr s) = true) (p : List Byte) (cause : Nat) :
    Tbl.get (planEntered p x cause s).cald.resv x.resv ≠ none ∧
      (Tbl.get (planEntered p x cause s).fwd.golden.ctx x.ctx).map (fun c => c.cal) = some true := by
  have hbanks := ordersBanks_planBanks p x s
  have hresv : (planEntered p x cause s).cald.resv = (planContext p x s).cald.resv := hbanks.resv
  have hfwd : (planEntered p x cause s).fwd = (planContext p x s).fwd := hbanks.frame .fwd (by simp)
  rw [hresv, hfwd]
  unfold planContext
  extract_lets dst maxLen
  rw [if_pos h]
  constructor
  · show Tbl.get (Tbl.set _ x.resv _) x.resv ≠ none
    rw [Tbl.get_set, if_pos rfl]
    simp
  · show (Tbl.get (Tbl.set _ x.ctx _) x.ctx).map _ = _
    rw [Tbl.get_set, if_pos rfl]
    rfl

theorem planDevs_own {x : Plan} {s : State} (h : ∀ g ∈ x.hops, g.dev = ownAddr s) : planDevs s x = [] := by
  have : (x.hops.map (fun g => g.dev)).filter (· != ownAddr s) = [] := by
    simpa [List.filter_eq_nil_iff] using h
  rw [planDevs, this]
  rfl

theorem planDevs_far {x : Plan} {s : State} (h : ∃ g ∈ x.hops, g.dev ≠ ownAddr s) : planDevs s x ≠ [] := by
  obtain ⟨g, hg, hne⟩ := h
  refine List.ne_nil_of_mem (a := g.dev) (List.mem_dedup.mpr (List.mem_filter.mpr ⟨List.mem_map.mpr ⟨g, hg, rfl⟩, by simpa using hne⟩))

/-- A plan of this device alone is reported at once. -/
theorem install_own {x : Plan} {s : State} (h : ∀ g ∈ x.hops, g.dev = ownAddr s) (p : List Byte) (cause : Nat) :
    install p x cause s = streamEvent x.stream cause x.course (planEntered p x cause s) := by
  rw [install_eq, planDevs_own h]
  rfl

/-- One with other devices waits for them. -/
theorem install_far {x : Plan} {s : State} (h : ∃ g ∈ x.hops, g.dev ≠ ownAddr s) (p : List Byte) (cause : Nat) :
    install p x cause s = orderOthers x.stream x.course true (planDevs s x) (planEntered p x cause s) := by
  rw [install_eq, orderSent, if_neg (by simpa using planDevs_far h)]

theorem keepsBut_streamEvent (id cause course : Nat) (s : State) : keepsBut [.mb, .host, .pc] s (streamEvent id cause course s) :=
  keepsBut_issueEvent _ _ _ s

theorem ownAddr_of_fab {s t : State} (h : t.fab = s.fab) : ownAddr t = ownAddr s := by rw [ownAddr, ownAddr, h]

/-! ### CAL_ADMIT -/

/-- What a CAL_ADMIT does under its checks. -/
def admitted (o : Origin) (p : List Byte) (s : State) : State :=
  match planStream s p (streamIdFor s p) true with
  | .inl d => setResult o (notPermitted d) { s with free := s.free + 8192 }
  | .inr x =>
    if switchOrdered s (planPorts x) then setResult o { status := stBusy, detail := 0xFFFF } { s with free := s.free + 8192 }
    else
      let u := install p x 0 { s with free := s.free + 8192 }
      if x.hops.any (fun h => h.dev != ownAddr u) then setWait o (.stream x.stream (planBytes x (fieldLe p 10 1))) u
      else setResult o (okRes (planBytes x (fieldLe p 10 1))) u

/-- The checks of a CAL_ADMIT. -/
def admitChecks (p : List Byte) (s : State) : List (Bool × Nat) :=
  let bad := if (fieldLe p 11 1).testBit 0 && !(fieldLe p 4 4).testBit 23 then pathBad s p else none
  [(bits (fieldLe p 0 4) 18 6 != 0, 0), (bits (fieldLe p 4 4) 18 5 != 0, 4), (decide (fieldLe p 8 2 < 64 ∨ 16383 < fieldLe p 8 2), 8),
    (decide (fieldLe p 10 1 < 1 ∨ 16 < fieldLe p 10 1), 10),
    (decide (4 ≤ fieldLe p 11 1) || ((fieldLe p 11 1).testBit 0 && (fieldLe p 4 4).testBit 23), 11),
    ((fieldLe p 11 1).testBit 1 && decide (coursePeriods s ≤ fieldLe p 12 4 + (fieldLe p 10 1 - 1) * fieldLe p 16 4) && s.cald.running, 12),
    (decide (fieldLe p 10 1 = 1 ∧ fieldLe p 16 4 ≠ 0), 16),
    (s.cald.streams.any (fun x => x.id == fieldLe p 20 4) && fieldLe p 20 4 != 0, 20), (bad.isSome, bad.getD 0)]

theorem calAdmit_eq (o : Origin) (p : List Byte) (s : State) : calAdmit o p s = checked o (admitChecks p s) (admitted o p) s := rfl

/-- What every clause of CAL_ADMIT's statement requires of the request. -/
structure AdmitOk (p : List Byte) (s : State) : Prop where
  src : bits (fieldLe p 0 4) 18 6 = 0
  dst : bits (fieldLe p 4 4) 18 5 = 0
  lenLo : 64 ≤ fieldLe p 8 2
  lenHi : fieldLe p 8 2 ≤ 16383
  countLo : 1 ≤ fieldLe p 10 1
  countHi : fieldLe p 10 1 ≤ 16
  flags : fieldLe p 11 1 < 4
  path : (fieldLe p 11 1).testBit 0 = true → (fieldLe p 4 4).testBit 23 = false ∧ pathBad s p = none
  times : (fieldLe p 11 1).testBit 1 = true → s.cald.running = true →
    fieldLe p 12 4 + (fieldLe p 10 1 - 1) * fieldLe p 16 4 < coursePeriods s
  stride : fieldLe p 10 1 = 1 → fieldLe p 16 4 = 0
  fresh : s.cald.streams.any (fun x => x.id == fieldLe p 20 4) = false

theorem AdmitOk.passes {p : List Byte} {s : State} (h : AdmitOk p s) : firstBad (admitChecks p s) = none := by
  have hpath : (if (fieldLe p 11 1).testBit 0 && !(fieldLe p 4 4).testBit 23 then pathBad s p else none) = none := by
    split
    · next hgiven => exact (h.path (Bool.and_eq_true _ _ ▸ hgiven).1).2
    · rfl
  have hgroup : ((fieldLe p 11 1).testBit 0 && (fieldLe p 4 4).testBit 23) = false := by
    cases hbit : (fieldLe p 11 1).testBit 0 with
    | false => rfl
    | true => simp [(h.path hbit).1]
  have htimes : ((fieldLe p 11 1).testBit 1 && decide (coursePeriods s ≤ fieldLe p 12 4 + (fieldLe p 10 1 - 1) * fieldLe p 16 4)
      && s.cald.running) = false := by
    cases hbit : (fieldLe p 11 1).testBit 1 with
    | false => rfl
    | true =>
      cases hrun : s.cald.running with
      | false => exact Bool.and_false _
      | true => rw [decide_eq_false (Nat.not_le.mpr (h.times hbit hrun))]; rfl
  unfold admitChecks
  rw [hpath]
  refine (firstBad_miss (by simp [h.src])).trans ((firstBad_miss (by simp [h.dst])).trans ((firstBad_miss ?_).trans ((firstBad_miss ?_).trans
    ((firstBad_miss ?_).trans ((firstBad_miss htimes).trans ((firstBad_miss ?_).trans ((firstBad_miss ?_).trans
      ((firstBad_miss rfl).trans firstBad_nil))))))))
  · have := h.lenLo; have := h.lenHi
    exact decide_eq_false (by omega)
  · have := h.countLo; have := h.countHi
    exact decide_eq_false (by omega)
  · rw [hgroup, decide_eq_false (Nat.not_le.mpr h.flags)]; rfl
  · exact decide_eq_false fun hk => hk.2 (h.stride hk.1)
  · rw [h.fresh]; rfl

theorem calAdmit_work {o : Origin} {p : List Byte} {s : State} (h : AdmitOk p s) : calAdmit o p s = admitted o p s := by
  rw [calAdmit_eq, checked_none _ s h.passes]

theorem admitted_refused {o : Origin} {p : List Byte} {s : State} {d : Nat} (h : planStream s p (streamIdFor s p) true = .inl d) :
    admitted o p s = setResult o (notPermitted d) { s with free := s.free + 8192 } := by rw [admitted, h]

theorem admitted_busy {o : Origin} {p : List Byte} {s : State} {x : Plan} (h : planStream s p (streamIdFor s p) true = .inr x)
    (hbusy : switchOrdered s (planPorts x) = true) :
    admitted o p s = setResult o { status := stBusy, detail := 0xFFFF } { s with free := s.free + 8192 } := by
  rw [admitted, h]
  exact if_pos hbusy

theorem admitted_own {o : Origin} {p : List Byte} {s : State} {x : Plan} (h : planStream s p (streamIdFor s p) true = .inr x)
    (hfree : switchOrdered s (planPorts x) = false) (hown : ∀ g ∈ x.hops, g.dev = ownAddr s) :
    admitted o p s = setResult o (okRes (planBytes x (fieldLe p 10 1)))
      (streamEvent x.stream 0 x.course (planEntered p x 0 { s with free := s.free + 8192 })) := by
  rw [admitted, h]
  dsimp only
  rw [if_neg (by simp [hfree]), install_own (s := { s with free := s.free + 8192 }) hown]
  refine if_neg ?_
  rw [ownAddr_of_fab ((keepsBut_streamEvent _ _ _ _ .fab (by simp)).trans (keepsBut_planEntered p x 0 _ .fab (by simp)))]
  exact Bool.eq_false_iff.mp (List.any_eq_false.mpr fun g hg hne => bne_iff_ne.mp hne (hown g hg))

theorem admitted_far {o : Origin} {p : List Byte} {s : State} {x : Plan} (h : planStream s p (streamIdFor s p) true = .inr x)
    (hfree : switchOrdered s (planPorts x) = false) (hfar : ∃ g ∈ x.hops, g.dev ≠ ownAddr s) :
    admitted o p s = setWait o (.stream x.stream (planBytes x (fieldLe p 10 1)))
      (orderOthers x.stream x.course true (planDevs s x) (planEntered p x 0 { s with free := s.free + 8192 })) := by
  rw [admitted, h]
  dsimp only
  rw [if_neg (by simp [hfree]), install_far (s := { s with free := s.free + 8192 }) hfar]
  refine if_pos ?_
  rw [(orderOthers_sends _ _ _ _ _).2, ownAddr_of_fab (keepsBut_planEntered p x 0 _ .fab (by simp))]
  obtain ⟨g, hg, hne⟩ := hfar
  exact List.any_eq_true.mpr ⟨g, hg, bne_iff_ne.mpr hne⟩

theorem calAdmit_installs (o : Origin) (p : List Byte) (s : State) (h : commandAt s o 0x0601 = some p) (hsrc : bits (fieldLe p 0 4) 18 6 = 0)
    (hdst : bits (fieldLe p 4 4) 18 5 = 0) (hlenLo : 64 ≤ fieldLe p 8 2) (hlenHi : fieldLe p 8 2 ≤ 16383) (hcountLo : 1 ≤ fieldLe p 10 1)
    (hcountHi : fieldLe p 10 1 ≤ 16) (hflags : fieldLe p 11 1 < 4)
    (hpath : (fieldLe p 11 1).testBit 0 = true → (fieldLe p 4 4).testBit 23 = false ∧ pathBad s p = none)
    (htimes : (fieldLe p 11 1).testBit 1 = true → s.cald.running = true →
      fieldLe p 12 4 + (fieldLe p 10 1 - 1) * fieldLe p 16 4 < coursePeriods s)
    (hstride : fieldLe p 10 1 = 1 → fieldLe p 16 4 = 0) (hfresh : s.cald.streams.any (fun x => x.id == fieldLe p 20 4) = false) :
    (∀ d, planStream s p (streamIdFor s p) true = .inl d → ∃ t, exec (.calAdmit o) s = .next t ∧ keepsBut [.free, .mb, .msi] s t ∧
      endsWith o (notPermitted d) s t) ∧
    (∀ x, planStream s p (streamIdFor s p) true = .inr x → switchOrdered s (planPorts x) = true →
      ∃ t, exec (.calAdmit o) s = .next t ∧ keepsBut [.free, .mb, .msi] s t ∧
        endsWith o { status := stBusy, detail := 0xFFFF } s t) ∧
    (∀ x, planStream s p (streamIdFor s p) true = .inr x → switchOrdered s (planPorts x) = false →
      (∀ h ∈ x.hops, h.dev = ownAddr s) →
      ∃ t, exec (.calAdmit o) s = .next t ∧ keepsBut [.fwd, .cald, .free, .host, .mb, .msi, .pc] s t ∧
        replied o (okRes (planBytes x (fieldLe p 10 1))) t ∧
        (∃ y ∈ t.cald.streams, y.id = x.stream ∧ y.ctx = x.ctx ∧ y.resv = x.resv ∧ y.course = x.course ∧ y.request = p) ∧
        (∃ a ∈ t.cald.acts, a.stream = x.stream ∧ a.course = x.course ∧ a.install = true ∧ a.waiting = []) ∧
        (x.hops ≠ [] → Tbl.get t.cald.resv x.resv ≠ none ∧ (Tbl.get t.fwd.golden.ctx x.ctx).map (fun c => c.cal) = some true)) ∧
    (∀ x, planStream s p (streamIdFor s p) true = .inr x → switchOrdered s (planPorts x) = false →
      (∃ h ∈ x.hops, h.dev ≠ ownAddr s) →
      ∃ t, exec (.calAdmit o) s = .next t ∧ keepsBut [.fwd, .cald, .fab, .free, .mb, .msi] s t ∧
        waits o (.stream x.stream (planBytes x (fieldLe p 10 1))) t ∧
        ∃ a ∈ t.cald.acts, a.stream = x.stream ∧ a.course = x.course ∧ a.install = true ∧
          a.waiting = ((x.hops.map (fun h => h.dev)).filter (· != ownAddr s)).dedup) := by
  have hwork := calAdmit_work (o := o)
    (⟨hsrc, hdst, hlenLo, hlenHi, hcountLo, hcountHi, hflags, hpath, htimes, hstride, hfresh⟩ : AdmitOk p s)
  have hfreed : keepsBut [.free] s { s with free := s.free + 8192 } := keepsBut_withFree _ s
  have hentered : ∀ x, keepsBut [.free, .fwd, .cald] s (planEntered p x 0 { s with free := s.free + 8192 }) := fun x =>
    keepsBut_then hfreed (keepsBut_planEntered p x 0 _) (by simp) (by simp)
  refine ⟨fun d hplan => ?_, fun x hplan hbusy => ?_, fun x hplan hfree hown => ?_, fun x hplan hfree hfar => ?_⟩
  · obtain ⟨t, hrun, hkeep, hend, -⟩ := command_does h (hwork.trans (admitted_refused hplan)) hfreed (by simp)
    exact ⟨t, hrun, keepsBut_mono hkeep (by simp), hend⟩
  · obtain ⟨t, hrun, hkeep, hend, -⟩ := command_does h (hwork.trans (admitted_busy hplan hbusy)) hfreed (by simp)
    exact ⟨t, hrun, keepsBut_mono hkeep (by simp), hend⟩
  · obtain ⟨t, hrun, hkeep, hreply, hpart⟩ := command_reports h (hwork.trans (admitted_own hplan hfree hown))
      (keepsBut_then (n := [.free, .fwd, .cald, .mb, .host, .pc]) (hentered x) (keepsBut_streamEvent _ _ _ _) (by simp) (by simp))
      (sameCommands_trans (sameCommands_of_mb (hentered x .mb (by simp))) (sameCommands_issueEvent _ _ _ _))
    have hcald : t.cald = (planEntered p x 0 { s with free := s.free + 8192 }).cald :=
      (hpart .cald (by simp)).trans (keepsBut_streamEvent _ _ _ _ .cald (by simp))
    have hfwd : t.fwd = (planEntered p x 0 { s with free := s.free + 8192 }).fwd :=
      (hpart .fwd (by simp)).trans (keepsBut_streamEvent _ _ _ _ .fwd (by simp))
    have hdevs : planDevs { s with free := s.free + 8192 } x = [] := planDevs_own hown
    refine ⟨t, hrun, keepsBut_mono hkeep (by simp), hreply, by rw [hcald]; exact planEntered_stream _ _ _ _, ?_, fun hne => ?_⟩
    · rw [hcald, ← hdevs]; exact planEntered_act _ _ _ _
    · rw [hcald, hfwd]
      obtain ⟨g, hg⟩ := List.exists_mem_of_ne_nil _ hne
      exact planEntered_context (s := { s with free := s.free + 8192 }) (List.any_eq_true.mpr ⟨g, hg, beq_iff_eq.mpr (hown g hg)⟩) p 0
  · obtain ⟨hsent, -⟩ := orderOthers_sends x.stream x.course true (planDevs s x) (planEntered p x 0 { s with free := s.free + 8192 })
    obtain ⟨t, hrun, hkeep, hwait, hpart⟩ := command_waits h (hwork.trans (admitted_far hplan hfree hfar))
      (keepsBut_then (n := [.free, .fwd, .cald, .fab]) (hentered x) hsent (by simp) (by simp)) (by simp)
    have hcald : t.cald = (planEntered p x 0 { s with free := s.free + 8192 }).cald := (hpart .cald (by simp)).trans (hsent .cald (by simp))
    refine ⟨t, hrun, keepsBut_mono hkeep (by simp), hwait, ?_⟩
    rw [hcald]
    exact planEntered_act _ _ _ _

/-! ### CAL_WITHDRAW, COURSE_SET and CAL_LIST_GET -/

/-- The slots of a stream leave its ports' banks, and the change is under way. -/
def withdrawEntered (x : Stream) (cause : Nat) (s : State) : State :=
  calMod (fun c => { c with
    acts := c.acts.filter (fun a => a.stream != x.id) ++
      [{ stream := x.id, course := courseAhead s, install := false, waiting := x.devices, cause }] })
    (x.ports.foldl (fun u p => orderBank p (courseAhead s) ((vget u.cald.golden p []).filter (fun e => e.ctx != x.ctx)) u) s)

theorem withdraw_eq (x : Stream) (cause : Nat) (s : State) :
    withdraw x cause s = orderSent x.id (courseAhead s) cause false x.devices (withdrawEntered x cause s) := rfl

theorem withdrawEntered_banks (x : Stream) (cause : Nat) (s : State) :
    keepsBut [.cald] s (withdrawEntered x cause s) ∧ (withdrawEntered x cause s).cald.streams = s.cald.streams := by
  have h : OrdersBanks s (x.ports.foldl (fun u p => orderBank p (courseAhead s) ((vget u.cald.golden p []).filter (fun e => e.ctx != x.ctx)) u) s) :=
    ordersBanks_foldl (fun u p => ordersBanks_orderBank p _ _ u) x.ports s
  exact ⟨keepsBut_trans h.frame (keepsBut_calMod _ _), h.streams⟩

theorem withdrawEntered_act (x : Stream) (cause : Nat) (s : State) :
    ∃ a ∈ (withdrawEntered x cause s).cald.acts, a.stream = x.id ∧ a.course = courseAhead s ∧ a.install = false ∧ a.waiting = x.devices :=
  ⟨_, List.mem_append_right _ (List.mem_singleton_self _), rfl, rfl, rfl, rfl⟩

theorem withdraw_own {x : Stream} (h : x.devices = []) (cause : Nat) (s : State) :
    withdraw x cause s = streamEvent x.id cause (courseAhead s) (withdrawEntered x cause s) := by
  rw [withdraw_eq, h]
  rfl

theorem withdraw_far {x : Stream} (h : x.devices ≠ []) (cause : Nat) (s : State) :
    withdraw x cause s = orderOthers x.id (courseAhead s) false x.devices (withdrawEntered x cause s) := by
  rw [withdraw_eq, orderSent, if_neg (by simpa using h)]

theorem calWithdraw_found {o : Origin} {p : List Byte} {x : Stream} {s : State}
    (h : s.cald.streams.find? (fun x => x.id == fieldLe p 0 4) = some x) :
    calWithdraw o p s = if switchOrdered s x.ports then setResult o { status := stBusy, detail := 0xFFFF } s
      else if x.devices.isEmpty then setResult o (okRes (le 4 (courseAhead s))) (withdraw x 1 s)
      else setWait o (.stream x.id (le 4 (courseAhead s))) (withdraw x 1 s) := by
  unfold calWithdraw
  rw [h]

theorem calWithdraw_orders (o : Origin) (p : List Byte) (s : State) (h : commandAt s o 0x0602 = some p) :
    (s.cald.streams.find? (fun x => x.id == fieldLe p 0 4) = none →
      ∃ t, exec (.calWithdraw o) s = .next t ∧ onlyAnswers o (badParam 0) s t) ∧
    (∀ x, s.cald.streams.find? (fun x => x.id == fieldLe p 0 4) = some x → switchOrdered s x.ports = true →
      ∃ t, exec (.calWithdraw o) s = .next t ∧ onlyAnswers o { status := stBusy, detail := 0xFFFF } s t) ∧
    (∀ x, s.cald.streams.find? (fun x => x.id == fieldLe p 0 4) = some x → switchOrdered s x.ports = false →
      ∃ t, exec (.calWithdraw o) s = .next t ∧ keepsBut [.cald, .fab, .host, .mb, .msi, .pc] s t ∧
        t.cald.streams = s.cald.streams ∧ (x.devices = [] → t.fab = s.fab) ∧
        (∃ a ∈ t.cald.acts, a.stream = x.id ∧ a.course = courseAhead s ∧ a.install = false ∧ a.waiting = x.devices) ∧
        (x.devices = [] → replied o (okRes (le 4 (courseAhead s))) t) ∧
        (x.devices ≠ [] → waits o (.stream x.id (le 4 (courseAhead s))) t)) := by
  refine ⟨fun hnone => command_answers h ?_, fun x hsome hbusy => command_answers h ?_, fun x hsome hfree => ?_⟩
  · unfold calWithdraw
    rw [hnone]
  · rw [calWithdraw_found hsome]
    exact if_pos hbusy
  · have hwork := calWithdraw_found (o := o) hsome
    rw [if_neg (by simp [hfree])] at hwork
    obtain ⟨hframe, hstreams⟩ := withdrawEntered_banks x 1 s
    by_cases hdevs : x.devices = []
    · rw [if_pos (by simpa using hdevs), withdraw_own hdevs] at hwork
      obtain ⟨t, hrun, hkeep, hreply, hpart⟩ := command_reports h hwork
        (keepsBut_then (n := [.cald, .mb, .host, .pc]) hframe (keepsBut_streamEvent _ _ _ _) (by simp) (by simp))
        (sameCommands_trans (sameCommands_of_mb (hframe .mb (by simp))) (sameCommands_issueEvent _ _ _ _))
      have hcald : t.cald = (withdrawEntered x 1 s).cald := (hpart .cald (by simp)).trans (keepsBut_streamEvent _ _ _ _ .cald (by simp))
      exact ⟨t, hrun, keepsBut_mono hkeep (by simp), by rw [hcald, hstreams], fun _ => hkeep .fab (by simp),
        by rw [hcald]; exact withdrawEntered_act _ _ _, fun _ => hreply, fun hne => absurd hdevs hne⟩
    · rw [if_neg (by simpa using hdevs), withdraw_far hdevs] at hwork
      obtain ⟨hsent, -⟩ := orderOthers_sends x.id (courseAhead s) false x.devices (withdrawEntered x 1 s)
      obtain ⟨t, hrun, hkeep, hwait, hpart⟩ := command_waits h hwork
        (keepsBut_then (n := [.cald, .fab]) hframe hsent (by simp) (by simp)) (by simp)
      have hcald : t.cald = (withdrawEntered x 1 s).cald := (hpart .cald (by simp)).trans (hsent .cald (by simp))
      exact ⟨t, hrun, keepsBut_mono hkeep (by simp), by rw [hcald, hstreams], fun he => absurd he hdevs,
        by rw [hcald]; exact withdrawEntered_act _ _ _, fun he => absurd he hdevs, fun _ => hwait⟩

theorem courseSet_work {o : Origin} {p : List Byte} {s : State} (hlo : 1000 ≤ fieldLe p 0 4) (hhi : fieldLe p 0 4 ≤ 8192000)
    (hoff : fieldLe p 4 4 < fieldLe p 0 4) :
    courseSet o p s = if !s.cald.resv.isEmpty ∨ !s.cald.streams.isEmpty then setResult o (notPermitted 0x0014) s
      else setResult o (okRes []) (calMod (fun c => { c with pending := some (fieldLe p 0 4, fieldLe p 4 4) }) s) := by
  unfold courseSet
  dsimp only
  rw [checked_none _ s (firstBad_none (by simp; omega))]

theorem courseSet_waits (o : Origin) (p : List Byte) (s : State) (h : commandAt s o 0x0603 = some p) (hlo : 1000 ≤ fieldLe p 0 4)
    (hhi : fieldLe p 0 4 ≤ 8192000) (hoff : fieldLe p 4 4 < fieldLe p 0 4) :
    ((s.cald.resv ≠ [] ∨ s.cald.streams ≠ []) → ∃ t, exec (.courseSet o) s = .next t ∧ onlyAnswers o (notPermitted 0x0014) s t) ∧
    (s.cald.resv = [] → s.cald.streams = [] → ∃ t, exec (.courseSet o) s = .next t ∧ keepsBut [.cald, .mb, .msi] s t ∧
      endsWith o (okRes []) s t ∧ t.cald = { s.cald with pending := some (fieldLe p 0 4, fieldLe p 4 4) }) := by
  have hwork := courseSet_work (o := o) (s := s) hlo hhi hoff
  refine ⟨fun hsome => command_answers h (hwork.trans (if_pos (by simpa using hsome))), fun hresv hstreams => ?_⟩
  rw [if_neg (by simp [hresv, hstreams])] at hwork
  obtain ⟨t, hrun, hkeep, hend, hpart⟩ := command_does h hwork (keepsBut_calMod _ s) (by simp)
  exact ⟨t, hrun, keepsBut_mono hkeep (by simp), hend, hpart .cald (by simp)⟩

theorem length_listRecord (s : State) (r : Nat × Resv) : (listRecord s r).length = 16 := by
  simp [listRecord]

theorem calListGet_answers (o : Origin) (p : List Byte) (s : State) (h : commandAt s o 0x0604 = some p) (hhi : fieldLe p 0 4 ≤ 1023) :
    ∃ t r, exec (.calListGet o) s = .next t ∧ onlyAnswers o (okRes r) s t ∧
      fieldLe r 0 4 = min 254 (s.cald.resv.filter (fun x => decide (fieldLe p 0 4 ≤ x.1))).length ∧
      r.length = 4 + 16 * fieldLe r 0 4 := by
  obtain ⟨l, hl⟩ : ∃ l, l = ((s.cald.resv.filter (fun r => decide (fieldLe p 0 4 ≤ r.1))).mergeSort (fun a b => decide (a.1 ≤ b.1))).take 254 :=
    ⟨_, rfl⟩
  have hwork : calListGet o p s = setResult o (okRes (le 4 l.length ++ l.flatMap (listRecord s))) s := by
    rw [hl]
    exact checked_none _ s (firstBad_none (by simp; omega))
  have hlen : l.length = min 254 (s.cald.resv.filter (fun x => decide (fieldLe p 0 4 ≤ x.1))).length := by
    rw [hl, List.length_take, List.length_mergeSort]
  have hcount : fieldLe (le 4 l.length ++ l.flatMap (listRecord s)) 0 4 = l.length := by
    rw [fieldLe_le_head]
    exact Nat.mod_eq_of_lt (by omega)
  have hrecords : (l.flatMap (listRecord s)).length = 16 * l.length := by
    rw [List.length_flatMap]
    simp [length_listRecord, Nat.mul_comm]
  obtain ⟨t, hrun, hans⟩ := command_answers h hwork
  exact ⟨t, _, hrun, hans, hcount.trans hlen, by rw [hcount, List.length_append, length_le, hrecords]⟩

/-- Settles O55: a plan is entered, switched and sent in stages that each leave what the others need. -/
theorem calendarCommands : Obligations.CalendarCommands := ⟨calAdmit_installs, calWithdraw_orders, courseSet_waits, calListGet_answers⟩

end Sys2Proof.Machine

/-! The boot ROM, Obilwin's start and the confirmation of a trial (R411, R420, R423, R475 to R482). -/

namespace Sys2Proof.Machine

-- The joined text is one compile: no thread beside the main one for each proof.
set_option Elab.async false

/-! ### Measurements -/

theorem mregOf_of_boot {s t : State} (h : t.boot.mreg = s.boot.mreg) (n : Nat) : mregOf t n = mregOf s n := by rw [mregOf, mregOf, h]

/-- Work that measures: registers behind the first, and the connections they touch, move. -/
structure Measures (s t : State) : Prop where
  frame : keepsBut [.boot] s t
  boot : ∃ v l, t.boot = { s.boot with mreg := v, conns := l }
  first : mregOf t 0 = mregOf s 0

theorem Measures.refl (s : State) : Measures s s := ⟨keepsBut_refl _ s, ⟨_, _, rfl⟩, rfl⟩

theorem Measures.trans {s t u : State} (h : Measures s t) (k : Measures t u) : Measures s u := by
  obtain ⟨v, l, hb⟩ := h.boot
  obtain ⟨w, m, kb⟩ := k.boot
  exact ⟨keepsBut_trans h.frame k.frame, ⟨w, m, by rw [kb, hb]⟩, k.first.trans h.first⟩

theorem measures_extendMreg {n : Nat} (hn : n ≠ 0) (d : List Byte) (s : State) : Measures s (extendMreg n d s) :=
  ⟨keepsBut_bootMod _ s, ⟨_, _, rfl⟩, vmodN_other s.boot.mreg n 0 _ [] (Ne.symm hn)⟩

/-- The registers cleared and the ROM's image measured. -/
def romMeasured (s : State) : State :=
  extendMreg 0 (Config.sha384 Config.romImage)
    (bootMod (fun b => { b with mreg := Vector.replicate 8 (List.replicate 48 0), mregLocked := false }) s)

/-- The image that starts, measured where there is one. -/
def imageMeasured (k : Option Nat) (s : State) : State :=
  match k with
  | some k =>
    extendMreg 3 (Config.sha384 ((slotOf s k).bytes.take 128 ++ slotBody (slotOf s k) (((slotHeader (slotOf s k)).map (fun h => h.2.1)).getD 0))) s
  | none => s

/-- A start's measurements, before they are locked. -/
def measured (c : BootChoice) (s : State) : State :=
  let b := blockOf (bootMod (fun b => { b with mreg := Vector.replicate 8 (List.replicate 48 0), mregLocked := false }) s)
  let s := romMeasured s
  let s := extendMreg 1 (Config.sha384 (Config.otpState s.boot.rollback ++ le 4 (strapWord s.boot.straps).toNat)) s
  let s := extendMreg 2 (Config.sha384 (Config.blockBytes [b2n b.valid, b.seq, b.active, b.trialSlot, b2n b.trial, b2n b.sris, b.oscHz])) s
  let s := imageMeasured c.slot s
  let s := extendMreg 4 (Config.sha384 Config.factoryData) s
  extendMreg 7 (Config.sha384 ((List.finRange 48).map (Config.bootRecordByte (c.slot.getD 0) c.trial c.fallback c.slot.isNone))) s

theorem measure_eq (c : BootChoice) (s : State) : measure c s = bootMod (fun b => { b with mregLocked := true }) (measured c s) := by
  unfold measure measured romMeasured imageMeasured
  cases c.slot <;> rfl

theorem measures_imageMeasured (k : Option Nat) (s : State) : Measures s (imageMeasured k s) := by
  cases k with
  | none => exact .refl s
  | some k => exact measures_extendMreg (by decide) _ s

theorem measures_measured (c : BootChoice) (s : State) : Measures (romMeasured s) (measured c s) :=
  ((((measures_extendMreg (by decide) _ _).trans (measures_extendMreg (by decide) _ _)).trans (measures_imageMeasured c.slot _)).trans
    (measures_extendMreg (by decide) _ _)).trans (measures_extendMreg (by decide) _ _)

theorem mregOf_romMeasured (s : State) :
    mregOf (romMeasured s) 0 = Config.sha384 (List.replicate 48 0 ++ Config.sha384 Config.romImage) := by
  show vget (vmodN _ 0 _) 0 [] = _
  rw [vmodN_same _ _ _ _ (by decide)]
  rfl

theorem measure_measures (c : BootChoice) (s : State) :
    keepsBut [.boot] s (measure c s) ∧ (∃ v l, (measure c s).boot = { s.boot with mreg := v, conns := l, mregLocked := true }) ∧
      mregOf (measure c s) 0 = Config.sha384 (List.replicate 48 0 ++ Config.sha384 Config.romImage) := by
  have h := measures_measured c s
  obtain ⟨v, l, hboot⟩ := h.boot
  rw [measure_eq]
  refine ⟨keepsBut_trans (keepsBut_trans (keepsBut_bootMod _ s) (keepsBut_bootMod _ _)) (keepsBut_trans h.frame (keepsBut_bootMod _ _)),
    ⟨v, l, ?_⟩, h.first.trans (mregOf_romMeasured s)⟩
  show { (measured c s).boot with mregLocked := true } = _
  rw [hboot]
  rfl

/-! ### The ROM's start -/

theorem keepsBut_readFrequency (s : State) : keepsBut [.clk, .tio, .ck, .pc] s (readFrequency s) := by
  unfold readFrequency
  split
  · exact keepsBut_refl _ s
  · extract_lets f hz was c u
    have hu : keepsBut [.clk, .tio, .ck, .pc] s u := keepsBut_mono (keepsBut_withCk _ s) (by simp)
    split
    · exact hu
    · refine keepsBut_trans hu (keepsBut_then (l := [.clk]) ?_ (keepsBut_startSynths _) (by simp) (by simp))
      split
      · intro p hp
        cases p <;> first | rfl | exact ⟨rfl, rfl, rfl⟩ | simp at hp
      · exact keepsBut_refl _ u

/-- The start counted, the frequency and the mode read, the slots shown. -/
def romShown (s : State) : State := showSlots (setPcieMode (readFrequency (bootMod (fun b => { b with starts := (b.starts + 1) % 256 }) s)))

/-- The ROM's choice. -/
def romChoice (s : State) : BootChoice :=
  bootChoice (s.boot.straps.boot % 4) (blockOf s) s.boot.attempt.isSome (fun k => slotState s k == 1)

/-- A pending trial spent where it is chosen. -/
def romSpent (c : BootChoice) (s : State) : State := if c.spent then writeBlock (fun b => { b with trial := false }) s else s

/-- The outcome of a start. -/
def romEnds (c : BootChoice) (s : State) : State :=
  let s := bootMod (fun b => { b with
    stage := if c.slot.isSome then 1 else 3
    slot := c.slot.getD 0, trial := c.trial, fallback := c.fallback
    attempt := if c.trial then c.slot else none }) s
  if c.slot.isNone then { s with mb := { s.mb with fwReady := true } } else s

theorem romStart_eq (s : State) :
    romStart s = romEnds (romChoice (romShown s))
      (sealKeys (makeKeys (measure (romChoice (romShown s)) (romSpent (romChoice (romShown s)) (romShown s))))) := rfl

theorem keepsBut_romShown (s : State) : keepsBut [.boot, .host, .msi, .clk, .tio, .ck, .pc] s (romShown s) :=
  keepsBut_then (keepsBut_then (n := [.boot, .host, .msi, .clk, .tio, .ck, .pc])
    (keepsBut_then (n := [.boot, .clk, .tio, .ck, .pc]) (keepsBut_bootMod _ s) (keepsBut_readFrequency _) (by simp) (by simp))
    (keepsBut_hostMod _ _) (by simp) (by simp)) (keepsBut_bootMod _ _) (by simp) (by simp)

theorem showSlots_boot (s : State) : (showSlots s).boot =
    { s.boot with slots := vmapI s.boot.slots (fun k x => { x with st := slotState s k.val }), rbShown := s.boot.rollback } := rfl

/-- What has moved of the boot's part by then. -/
theorem romShown_boot (s : State) : ∃ v, (romShown s).boot =
    { s.boot with starts := (s.boot.starts + 1) % 256, slots := v, rbShown := s.boot.rollback } ∧
    ∀ k, (vget v k {}).bytes = (slotOf s k).bytes ∧ (vget v k {}).openBytes = (slotOf s k).openBytes := by
  have hread := keepsBut_readFrequency (bootMod (fun b => { b with starts := (b.starts + 1) % 256 }) s) .boot (by simp)
  obtain ⟨u, hu⟩ : ∃ u, u = setPcieMode (readFrequency (bootMod (fun b => { b with starts := (b.starts + 1) % 256 }) s)) := ⟨_, rfl⟩
  have hboot : u.boot = { s.boot with starts := (s.boot.starts + 1) % 256 } := by rw [hu]; exact hread
  refine ⟨vmapI u.boot.slots (fun k x => { x with st := slotState u k.val }), ?_, fun k => ?_⟩
  · rw [romShown, ← hu, showSlots_boot, hboot]
  · rw [hboot]
    by_cases hk : k < 2
    · rw [vget_vmapI _ _ hk]
      exact ⟨rfl, rfl⟩
    · simp [vget, slotOf, hk]

theorem slotState_congr {s t : State} {k : Nat} (hbytes : (slotOf t k).bytes = (slotOf s k).bytes)
    (hopen : (slotOf t k).openBytes = (slotOf s k).openBytes) (hflash : t.boot.flashMiB = s.boot.flashMiB)
    (hroll : t.boot.rollback = s.boot.rollback) : slotState t k = slotState s k := by
  have hsize : slotSize t = slotSize s := by rw [slotSize, slotSize, hflash]
  unfold slotState
  dsimp only
  rw [hbytes, hopen, slotHeader_congr hbytes, hsize, hroll]
  simp only [slotBody_congr hbytes]

/-- The choice is made on the state that the ROM finds. -/
theorem romChoice_romShown (s : State) : romChoice (romShown s) = romChoice s := by
  obtain ⟨v, hboot, hslots⟩ := romShown_boot s
  have hblock : blockOf (romShown s) = blockOf s := by rw [blockOf, blockOf, hboot]
  have hstate : ∀ k, slotState (romShown s) k = slotState s k := fun k => by
    obtain ⟨hbytes, hopen⟩ := hslots k
    refine slotState_congr ?_ ?_ (by rw [hboot]) (by rw [hboot])
    · rw [slotOf, hboot]; exact hbytes
    · rw [slotOf, hboot]; exact hopen
  unfold romChoice
  rw [hblock, hboot]
  simp only [hstate]

/-! ### The keys -/

/-- The alias key that a state's registers give, and its certificate from a draw. -/
def aliasOf (s : State) : Nat := aliasKey (mregOf s 0) [mregOf s 1, mregOf s 2, mregOf s 3, mregOf s 4]
def aliasCertOf (draw : Nat) (s : State) : List Byte :=
  aliasCertificate draw (identityKey (mregOf s 0)) (aliasOf s) [mregOf s 0, mregOf s 1, mregOf s 2, mregOf s 3, mregOf s 4]

theorem aliasOf_of_boot {s t : State} (h : t.boot.mreg = s.boot.mreg) : aliasOf t = aliasOf s := by
  simp only [aliasOf, mregOf_of_boot h]

theorem aliasCertOf_of_boot {s t : State} (h : t.boot.mreg = s.boot.mreg) (draw : Nat) : aliasCertOf draw t = aliasCertOf draw s := by
  simp only [aliasCertOf, aliasOf_of_boot h, mregOf_of_boot h]

/-- The keys that stand once the ROM has sealed them. -/
theorem sealKeys_makeKeys (s : State) : keepsBut [.boot, .free] s (sealKeys (makeKeys s)) ∧
    (sealKeys (makeKeys s)).boot = { s.boot with keys := { s.boot.keys with
      secret := none, identity := none, locked := true, alia := some (aliasOf s), aliasCert := aliasCertOf s.free s } } :=
  ⟨keepsBut_trans (keepsBut_then (keepsBut_withFree _ s) (keepsBut_bootMod _ _) (by simp) (by simp))
    (keepsBut_mono (keepsBut_bootMod _ _) (by simp)), rfl⟩

/-! ### What a start leaves -/

theorem keepsBut_romSpent (c : BootChoice) (s : State) : keepsBut [.boot] s (romSpent c s) := by
  unfold romSpent
  split
  · exact keepsBut_writeBlock _ s
  · exact keepsBut_refl _ s

theorem romSpent_boot (c : BootChoice) (s : State) : (romSpent c s).boot = { s.boot with blocks := (romSpent c s).boot.blocks } := by
  unfold romSpent
  split <;> rfl

/-- A spent trial is pending no more. -/
theorem romSpent_trial {c : BootChoice} (h : c.spent = true) (s : State) : (blockOf (romSpent c s)).trial = false := by
  rw [romSpent, if_pos h, blockOf_writeBlock]

theorem keepsBut_romEnds (c : BootChoice) (s : State) : keepsBut [.boot, .mb] s (romEnds c s) := by
  unfold romEnds
  extract_lets u
  have hu : keepsBut [.boot, .mb] s u := keepsBut_mono (keepsBut_bootMod _ s) (by simp)
  split
  · refine keepsBut_then (m := [.mb]) hu (fun p hp => ?_) (by simp) (by simp)
    cases p <;> first | rfl | exact ⟨rfl, rfl, rfl⟩ | simp at hp
  · exact hu

theorem romEnds_boot (c : BootChoice) (s : State) : (romEnds c s).boot = { s.boot with
    stage := if c.slot.isSome then 1 else 3
    slot := c.slot.getD 0, trial := c.trial, fallback := c.fallback, attempt := if c.trial then c.slot else none } := by
  unfold romEnds
  extract_lets u
  split <;> rfl

theorem romEnds_ready {c : BootChoice} (h : c.slot = none) (s : State) : (romEnds c s).mb.fwReady = true := by
  unfold romEnds
  extract_lets u
  rw [if_pos (by rw [h]; rfl)]

/-- The parts that a start moves. -/
theorem keepsBut_romStart (s : State) : keepsBut [.boot, .host, .msi, .clk, .tio, .ck, .pc, .free, .mb] s (romStart s) := by
  rw [romStart_eq]
  generalize romChoice (romShown s) = c
  have hspent := keepsBut_then (n := [.boot, .host, .msi, .clk, .tio, .ck, .pc]) (keepsBut_romShown s) (keepsBut_romSpent c _) (by simp) (by simp)
  have hmeas := keepsBut_then (n := [.boot, .host, .msi, .clk, .tio, .ck, .pc]) hspent (measure_measures c _).1 (by simp) (by simp)
  have hkeys := keepsBut_then (n := [.boot, .host, .msi, .clk, .tio, .ck, .pc, .free]) hmeas (sealKeys_makeKeys _).1 (by simp) (by simp)
  exact keepsBut_then hkeys (keepsBut_romEnds c _) (by simp) (by simp)

/-- What a start leaves in the boot's part: its choice's outcome, the keys of the registers measured, and the block. -/
structure RomStarted (s t : State) : Prop where
  keys : t.boot.keys.secret = none ∧ t.boot.keys.identity = none ∧ t.boot.keys.locked = true ∧ t.boot.keys.alia = some (aliasOf t) ∧
    ∃ k, t.boot.keys.aliasCert = aliasCertOf k t
  starts : t.boot.starts = (s.boot.starts + 1) % 256
  locked : t.boot.mregLocked = true
  rollback : t.boot.rollback = s.boot.rollback
  first : mregOf t 0 = Config.sha384 (List.replicate 48 0 ++ Config.sha384 Config.romImage)
  stage : t.boot.stage = if (romChoice s).slot.isSome then 1 else 3
  slot : t.boot.slot = (romChoice s).slot.getD 0
  trial : t.boot.trial = (romChoice s).trial
  fallback : t.boot.fallback = (romChoice s).fallback
  attempt : t.boot.attempt = if (romChoice s).trial then (romChoice s).slot else none
  spent : (romChoice s).spent = true → (blockOf t).trial = false
  ready : (romChoice s).slot = none → t.mb.fwReady = true
  modeSet : t.host.modeSet = true

theorem romStart_started (s : State) : RomStarted s (romStart s) := by
  obtain ⟨v, hshown, -⟩ := romShown_boot s
  obtain ⟨c, hc⟩ : ∃ c, c = romChoice s := ⟨_, rfl⟩
  obtain ⟨x, hx⟩ : ∃ x, x = romSpent c (romShown s) := ⟨_, rfl⟩
  obtain ⟨m, hm⟩ : ∃ m, m = measure c x := ⟨_, rfl⟩
  obtain ⟨y, hy⟩ : ∃ y, y = sealKeys (makeKeys m) := ⟨_, rfl⟩
  have heq : romStart s = romEnds c y := by rw [romStart_eq, romChoice_romShown, ← hc, ← hx, ← hm, ← hy]
  have hxboot : x.boot = { s.boot with starts := (s.boot.starts + 1) % 256, slots := v, rbShown := s.boot.rollback, blocks := x.boot.blocks } := by
    rw [hx, romSpent_boot, hshown]
  obtain ⟨hmkeep, ⟨w, l, hmboot⟩, hfirst⟩ := measure_measures c x
  obtain ⟨hykeep, hyboot⟩ := sealKeys_makeKeys m
  rw [← hm] at hmkeep hmboot hfirst
  rw [← hy] at hykeep hyboot
  have hend := romEnds_boot c y
  have hreg : (romEnds c y).boot.mreg = m.boot.mreg := by rw [hend, hyboot]
  have hblock : blockOf (romEnds c y) = blockOf x := by
    have : (romEnds c y).boot.blocks = x.boot.blocks := by rw [hend, hyboot, hmboot]
    rw [blockOf, blockOf, this]
  have hhost : (romEnds c y).host.modeSet = (romShown s).host.modeSet := by
    have h₁ := keepsBut_then (n := [.boot, .free]) (keepsBut_trans (keepsBut_romSpent c (romShown s)) (hx ▸ hmkeep)) hykeep (by simp) (by simp)
    have h₂ := keepsBut_then (n := [.boot, .free, .mb]) h₁ (keepsBut_romEnds c y) (by simp) (by simp)
    have h₃ : { (romEnds c y).host with pend := (romShown s).host.pend, pba := (romShown s).host.pba, sent := (romShown s).host.sent } =
      (romShown s).host := h₂ .host (by simp)
    have h₄ := congrArg HostIf.modeSet h₃
    exact h₄
  rw [heq]
  constructor
  case keys =>
    rw [aliasOf_of_boot hreg]
    refine ⟨by rw [hend, hyboot], by rw [hend, hyboot], by rw [hend, hyboot], by rw [hend, hyboot], m.free, ?_⟩
    rw [aliasCertOf_of_boot hreg, hend, hyboot]
  case starts => rw [hend, hyboot, hmboot, hxboot]
  case locked => rw [hend, hyboot, hmboot]
  case rollback => rw [hend, hyboot, hmboot, hxboot]
  case first => rw [mregOf_of_boot hreg, hfirst]
  case stage => rw [hend, hc]
  case slot => rw [hend, hc]
  case trial => rw [hend, hc]
  case fallback => rw [hend, hc]
  case attempt => rw [hend, hc]
  case spent => exact fun h => by rw [hblock, hx, romSpent_trial (hc ▸ h)]
  case ready => exact fun h => romEnds_ready (hc ▸ h) y
  case modeSet => rw [hhost]; rfl

/-! ### The choice's cases (R475, R476) -/

theorem orOther_valid {valid : Nat → Bool} {k : Nat} (h : valid k = true) (trial fell spent : Bool) :
    orOther valid k trial fell spent = { slot := some k, trial, fallback := fell, spent } := if_pos h

theorem bootChoice_flash (b : BootBlock) (valid : Nat → Bool) : bootChoice 0 b false valid =
    if b.trial then orOther valid b.trialSlot true false true else orOther valid b.active false false false := rfl

theorem bootChoice_active {b : BootBlock} {valid : Nat → Bool} (htrial : b.trial = false) (h : valid b.active = true) :
    bootChoice 0 b false valid = { slot := some b.active } := by
  rw [bootChoice_flash, htrial, if_neg (by simp), orOther_valid h]

theorem bootChoice_trial {b : BootBlock} {valid : Nat → Bool} (htrial : b.trial = true) (h : valid b.trialSlot = true) :
    bootChoice 0 b false valid = { slot := some b.trialSlot, trial := true, spent := true } := by
  rw [bootChoice_flash, if_pos htrial, orOther_valid h]

theorem bootChoice_fallback {b : BootBlock} {valid : Nat → Bool} (h : valid b.active = true) :
    bootChoice 0 b true valid = { slot := some b.active, fallback := true } := orOther_valid h _ _ _

theorem bootChoice_loader (b : BootBlock) (attempted : Bool) (valid : Nat → Bool) : bootChoice 3 b attempted valid = { slot := none } := rfl

theorem romStart_starts (s : State) (hchip : inChip s = false) (hmgmt : s.rst.mgmt = none) (hhalt : s.rst.halted = false)
    (hon : domOn s 3 = true) (hstage : s.boot.stage = 0) :
    ∃ t, exec .romStart s = .next t ∧ keepsBut [.clk, .tio, .ck, .host, .msi, .mb, .boot, .pc, .free] s t ∧
      t.boot.keys.secret = none ∧ t.boot.keys.identity = none ∧ t.boot.keys.locked = true ∧
      t.boot.keys.alia = some (aliasKey (mregOf t 0) [mregOf t 1, mregOf t 2, mregOf t 3, mregOf t 4]) ∧
      (∃ k, t.boot.keys.aliasCert = aliasCertificate k (identityKey (mregOf t 0))
        (aliasKey (mregOf t 0) [mregOf t 1, mregOf t 2, mregOf t 3, mregOf t 4])
        [mregOf t 0, mregOf t 1, mregOf t 2, mregOf t 3, mregOf t 4]) ∧
      t.boot.starts = (s.boot.starts + 1) % 256 ∧ t.boot.mregLocked = true ∧ t.host.modeSet = true ∧
      t.boot.rollback = s.boot.rollback ∧
      vget t.boot.mreg 0 [] = Config.sha384 (List.replicate 48 0 ++ Config.sha384 Config.romImage) ∧
      (s.boot.straps.boot % 4 = 0 → s.boot.attempt = none → (blockOf s).trial = false → (blockOf s).active < 2 →
        slotState s (blockOf s).active = 1 →
        t.boot.stage = 1 ∧ t.boot.slot = (blockOf s).active ∧ t.boot.trial = false ∧ t.boot.fallback = false) ∧
      (s.boot.straps.boot % 4 = 0 → s.boot.attempt = none → (blockOf s).trial = true →
        slotState s (blockOf s).trialSlot = 1 →
        t.boot.stage = 1 ∧ t.boot.slot = (blockOf s).trialSlot ∧ t.boot.trial = true ∧
          t.boot.attempt = some (blockOf s).trialSlot ∧ (blockOf t).trial = false) ∧
      (∀ k, s.boot.straps.boot % 4 = 0 → s.boot.attempt = some k → slotState s (blockOf s).active = 1 →
        t.boot.stage = 1 ∧ t.boot.slot = (blockOf s).active ∧ t.boot.trial = false ∧ t.boot.fallback = true ∧ t.boot.attempt = none) ∧
      (s.boot.straps.boot % 4 = 3 → t.boot.stage = 3 ∧ t.mb.fwReady = true) := by
  have hrun : exec .romStart s = .next (settle (romStart s)) := by
    show execRomStart s = _
    simp only [execRomStart, when, hchip, hmgmt, hhalt, hon, hstage]
    rfl
  have hkeep := keepsBut_romStart s
  have hst := romStart_started s
  obtain ⟨t, ht⟩ : ∃ t, t = settle (romStart s) := ⟨_, rfl⟩
  have hboot : t.boot = (romStart s).boot := by rw [ht, settle_boot]
  have hmb : t.mb = (romStart s).mb := by rw [ht, settle_mb]
  have hmode : t.host.modeSet = (romStart s).host.modeSet := by rw [ht, settle_modeSet]
  have hreg : ∀ n, mregOf t n = mregOf (romStart s) n := mregOf_of_boot (by rw [hboot])
  have hblock : blockOf t = blockOf (romStart s) := blockOf_of_boot hboot
  have hframe : keepsBut [.clk, .tio, .ck, .host, .msi, .mb, .boot, .pc, .free] s t := by
    rw [ht]; exact keepsBut_done (keepsBut_mono hkeep (by simp)) (by simp)
  obtain ⟨hsecret, hident, hlock, halias, k, hcert⟩ := hst.keys
  refine ⟨t, hrun.trans (by rw [ht]), hframe, by rw [hboot, hsecret], by rw [hboot, hident], by rw [hboot, hlock], ?_, ⟨k, ?_⟩,
    by rw [hboot, hst.starts], by rw [hboot, hst.locked], by rw [hmode, hst.modeSet], by rw [hboot, hst.rollback],
    (hreg 0).trans hst.first, fun hstrap hnone htrial _ hok => ?_, fun hstrap hnone htrial hok => ?_, fun k hstrap hsome hok => ?_,
    fun hstrap => ?_⟩
  · simp only [hreg, hboot]; exact halias
  · simp only [hreg, hboot]; exact hcert
  · have hc : romChoice s = { slot := some (blockOf s).active } := by
      rw [romChoice, hstrap, hnone]; exact bootChoice_active htrial (by rw [hok]; rfl)
    rw [hboot, hst.stage, hst.slot, hst.trial, hst.fallback, hc]
    exact ⟨rfl, rfl, rfl, rfl⟩
  · have hc : romChoice s = { slot := some (blockOf s).trialSlot, trial := true, spent := true } := by
      rw [romChoice, hstrap, hnone]; exact bootChoice_trial htrial (by rw [hok]; rfl)
    rw [hblock, hst.spent (by rw [hc]), hboot, hst.stage, hst.slot, hst.trial, hst.attempt, hc]
    exact ⟨rfl, rfl, rfl, rfl, rfl⟩
  · have hc : romChoice s = { slot := some (blockOf s).active, fallback := true } := by
      rw [romChoice, hstrap, hsome]; exact bootChoice_fallback (by rw [hok]; rfl)
    rw [hboot, hst.stage, hst.slot, hst.trial, hst.fallback, hst.attempt, hc]
    exact ⟨rfl, rfl, rfl, rfl, rfl⟩
  · have hc : romChoice s = { slot := none } := by rw [romChoice, hstrap]; exact bootChoice_loader _ _ _
    exact ⟨by rw [hboot, hst.stage, hc]; rfl, by rw [hmb, hst.ready (by rw [hc])]⟩

/-! ### The confirmation of a trial -/

theorem trialConfirm_confirms (k : Nat) (s : State) (hup : obilwinUp s = true) (hsome : s.boot.attempt = some k) (htrial : s.boot.trial = true) :
    ∃ t, exec .trialConfirm s = .next t ∧ keepsBut [.boot, .msi] s t ∧ (blockOf t).active = k ∧ (blockOf t).trialSlot = (blockOf s).trialSlot ∧
      t.boot.attempt = none ∧ t.boot.trial = false ∧ t.boot.rollback = s.boot.rollback := by
  obtain ⟨u, hu⟩ : ∃ u, u = confirmTrial s := ⟨_, rfl⟩
  have hrun : exec .trialConfirm s = .next (settle u) := by
    show execTrialConfirm s = _
    simp only [execTrialConfirm, when, hup, if_true, hu]
    rfl
  have hboot : (settle u).boot = { (writeBlock (fun b => { b with active := k }) s).boot with attempt := none, trial := false } := by
    rw [settle_boot, hu, confirmTrial_some hsome htrial]; rfl
  have hblock : blockOf (settle u) = blockOf (writeBlock (fun b => { b with active := k }) s) := by rw [blockOf, blockOf, hboot]
  refine ⟨_, hrun, keepsBut_done (keepsBut_mono (hu ▸ keepsBut_confirmTrial s) (by simp)) (by simp), ?_, ?_, by rw [hboot], by rw [hboot],
    by rw [hboot]; rfl⟩
  · rw [hblock, blockOf_writeBlock]
  · rw [hblock, blockOf_writeBlock]

end Sys2Proof.Machine

/-! Obilwin's start (R411, R420, R423, R470). -/

namespace Sys2Proof.Machine

-- The joined text is one compile: no thread beside the main one for each proof.
set_option Elab.async false

/-! ### What a start keeps once it shows readiness -/

/-- The parts that a start moves. -/
def startParts : List Part := [.te, .lane, .group, .port, .tio, .ck, .cal, .fwd, .q, .cald, .fab, .pm, .rst, .host, .mb, .boot, .pc, .par]

/-- Work of a start: the readiness, the epoch and the stage stand. -/
structure StartWork (s t : State) : Prop where
  frame : keepsBut startParts s t
  service : sameService s t
  stage : t.boot.stage = s.boot.stage
  fresh : t.boot.fresh = s.boot.fresh
  loaded : t.boot.factoryLoaded = s.boot.factoryLoaded

namespace StartWork

variable {s t u : State}

theorem refl (s : State) : StartWork s s := ⟨keepsBut_refl _ s, ⟨rfl, rfl⟩, rfl, rfl, rfl⟩

theorem trans (h : StartWork s t) (k : StartWork t u) : StartWork s u :=
  ⟨keepsBut_trans h.frame k.frame, sameService_trans h.service k.service, k.stage.trans h.stage, k.fresh.trans h.fresh, k.loaded.trans h.loaded⟩

/-- Work that the mailbox's service does not notice, outside the boot's part. -/
theorem of_parWork {l : List Part} (h : ParWork l s t) (hl : ∀ p ∈ l, p ∈ startParts) (hboot : Part.boot ∉ l) : StartWork s t := by
  have hb : t.boot = s.boot := h.frame .boot hboot
  exact ⟨keepsBut_mono h.frame hl, h.service, by rw [hb], by rw [hb], by rw [hb]⟩

theorem of_frame {l : List Part} (h : keepsBut l s t) (hl : ∀ p ∈ l, p ∈ startParts) (hboot : Part.boot ∉ l) (hmb : Part.mb ∉ l) :
    StartWork s t := of_parWork (.of_frame h (fun _ hp => hp) hmb) hl hboot

theorem of_issueEvent (c x : Nat) (d : List Byte) (s : State) : StartWork s (issueEvent c x d s) :=
  of_parWork (l := [.mb, .host, .pc]) (.of_issueEvent c x d s fun _ hp => hp) (by simp [startParts]) (by simp)

theorem of_foldl {α : Type} {f : State → α → State} (h : ∀ u x, StartWork u (f u x)) (xs : List α) (s : State) : StartWork s (xs.foldl f s) :=
  List.foldlRecOn xs f (motive := fun t => StartWork s t) (.refl s) fun t ht x _ => ht.trans (h t x)

end StartWork

theorem startWork_extendMreg (n : Nat) (d : List Byte) (s : State) : StartWork s (extendMreg n d s) :=
  ⟨keepsBut_mono (keepsBut_bootMod _ s) (by simp [startParts]), ⟨rfl, rfl⟩, rfl, rfl, rfl⟩

/-! ### Commands that were executing -/

theorem startWork_chanMod (c : Nat) (f : Channel → Channel) (s : State) : StartWork s (chanMod c f s) :=
  ⟨keepsBut_mono (keepsBut_chanMod c f s) (by simp [startParts]), ⟨rfl, rfl⟩, rfl, rfl, rfl⟩

theorem startWork_finish {c : Fin 4} {e : Exec} (hreset : e.resetAfter = none) (hd3 : e.d3After = none) (r : CmdResult) (s : State) :
    StartWork s (finish (.host c) e r s) := by
  unfold finish
  dsimp only
  generalize hu : (if e.inProgress then commandDone c.val e.cmd r.status s else s) = u
  have hdone : StartWork s u := by
    rw [← hu]
    split
    · exact .of_issueEvent _ _ _ s
    · exact .refl s
  simp only [afterResponse, hreset, hd3]
  exact ((hdone.trans (startWork_chanMod _ _ _)).trans (startWork_chanMod _ _ _)).trans (startWork_chanMod _ _ _)

theorem startWork_failCommands (s : State) : StartWork s (failCommands s) := by
  unfold failCommands
  extract_lets u
  refine (StartWork.of_frame (keepsBut_fabMod _ s) (by simp [startParts]) (by simp) (by simp) : StartWork s u).trans (.of_foldl (fun v c => ?_) _ u)
  cases (chanOf v c).exec with
  | none => exact .refl v
  | some e => exact startWork_finish rfl rfl _ v

/-! ### The saved configuration -/

theorem startWork_bootGroup (g m : Nat) (s : State) : StartWork s (bootGroup g m s) := by
  unfold bootGroup
  split
  · exact .refl s
  · extract_lets u v
    have hu : StartWork s u := (StartWork.of_frame (keepsBut_groupMod g _ s) (by simp [startParts]) (by simp) (by simp)).trans
      (.of_parWork (parWork_servoIdle g _) (by simp [startParts, fallParts]) (by simp [fallParts]))
    have hv : StartWork u v := .of_foldl (fun w p => (StartWork.of_frame (keepsBut_portMod p _ w) (by simp [startParts]) (by simp) (by simp)).trans
      (.of_issueEvent _ _ _ _)) _ u
    exact (hu.trans hv).trans (.of_frame (keepsBut_retune _ v) (by simp [startParts]) (by simp) (by simp))

theorem startWork_afterPar {id : Nat} (hid : id ≠ 0x100) (old : State) (sel : Nat) (s : State) : StartWork s (afterPar old id sel s) :=
  .of_parWork (parWork_afterPar hid old sel s) (by simp [startParts, actParts]) (by simp [actParts])

/-- The saved values put in force, before anything acts on them. -/
def valuesLoaded (c : SavedCfg) (s : State) : State :=
  { s with
    par := c.par
    pm := { s.pm with masks := c.masks }
    q := { s.q with wred := c.wred }
    fwd := { s.fwd with pcp := c.pcp, dscp := c.dscp }
    ck := { s.ck with bands := c.bands } }

theorem startWork_valuesLoaded (c : SavedCfg) (s : State) : StartWork s (valuesLoaded c s) := by
  refine .of_frame (l := [.par, .pm, .q, .fwd, .ck]) (fun p hp => ?_) (by simp [startParts]) (by simp) (by simp)
  cases p <;> first | rfl | exact ⟨rfl, rfl, rfl⟩ | simp at hp

theorem startWork_loadSaved (c : SavedCfg) (s : State) : StartWork s (loadSaved c s) := by
  have hvalues := startWork_valuesLoaded c s
  unfold loadSaved
  extract_lets old pm q fwd ck u v w
  have hu : StartWork s u := hvalues
  have hv : StartWork u v := .of_foldl (fun x g => startWork_bootGroup g _ x) _ u
  have hw : StartWork v w := by
    refine .of_foldl (fun x e => ?_) _ v
    dsimp only
    split
    · exact .refl x
    · next hid => exact startWork_afterPar hid old _ x
  have h := (hu.trans hv).trans hw
  split
  · split
    · exact h.trans ⟨keepsBut_mono (keepsBut_bootMod (fun b => { b with heldPref := true }) w) (by simp [startParts]), ⟨rfl, rfl⟩, rfl, rfl, rfl⟩
    · exact h.trans (.of_frame (keepsBut_setClaims w) (by simp [startParts]) (by simp) (by simp))
  · exact h

/-! ### Latencies and tables -/

/-- The lanes' entries loaded, before the servos go on. -/
def entriesLoaded (s : State) : State := forEach ((List.range 192).filter (latBare s)) loadFactory s

theorem loadLatencies_eq (s : State) : loadLatencies s =
    forEach (List.range 24) servoAdvance (bootMod (fun b => { b with factoryLoaded := true }) (entriesLoaded s)) := rfl

/-- The latency tables are loaded, and what else a start keeps stands. -/
theorem loadLatencies_loads (s : State) : keepsBut startParts s (loadLatencies s) ∧ sameService s (loadLatencies s) ∧
    (loadLatencies s).boot = { s.boot with factoryLoaded := true } := by
  have hu : keepsBut [.lane] s (entriesLoaded s) := keepsBut_forEach (fun l v => keepsBut_laneMod l _ v) _ s
  rw [loadLatencies_eq]
  generalize entriesLoaded s = u at hu
  have hservo : ParWork fallParts (bootMod (fun b => { b with factoryLoaded := true }) u)
      (forEach (List.range 24) servoAdvance (bootMod (fun b => { b with factoryLoaded := true }) u)) :=
    .of_forEach (fun v g _ => parWork_servoAdvance g v) _
  have hub : u.boot = s.boot := hu .boot (by simp)
  refine ⟨keepsBut_trans (keepsBut_mono (keepsBut_then (n := [.lane, .boot]) hu (keepsBut_bootMod _ u) (by simp) (by simp)) (by simp [startParts]))
    (keepsBut_mono hservo.frame (by simp [startParts, fallParts])), sameService_trans (sameService_of_mb (hu .mb (by simp))) hservo.service, ?_⟩
  rw [hservo.frame .boot (by simp [fallParts]), ← hub]
  rfl

theorem startWork_loadTables (s : State) : StartWork s (loadTables s) := by
  unfold loadTables
  extract_lets bare
  split
  · refine .of_frame (l := [.fwd, .cald]) ?_ (by simp [startParts]) (by simp) (by simp)
    unfold loadGolden
    extract_lets k u
    refine keepsBut_then (l := [.fwd]) (m := [.cald]) (keepsBut_fwdMod _ s) (keepsBut_foldl _ (fun v p => ?_) _ u) (by simp) (by simp)
    split
    · exact keepsBut_refl _ v
    · exact keepsBut_pcalMod p _ v
  · exact .refl s

/-! ### The start -/

/-- Readiness shown. -/
def readyShown (s : State) : State := bootMod (fun b => { b with stage := 2, fresh := false }) (mbMod (fun m => { m with fwReady := true }) s)

/-- The epoch of the start. -/
def epochStarted (savedOk : Bool) (s : State) : State := if s.boot.fresh || !savedOk then newEpoch (readyShown s) else readyShown s

theorem epochStarted_shows (savedOk : Bool) (s : State) : keepsBut [.boot, .mb] s (epochStarted savedOk s) ∧
    (epochStarted savedOk s).boot.stage = 2 ∧ (epochStarted savedOk s).boot.fresh = false ∧ (epochStarted savedOk s).mb.fwReady = true ∧
    (epochStarted savedOk s).mb.epoch = if s.boot.fresh || !savedOk then (s.mb.epoch + 1) % 2 ^ 32 else s.mb.epoch := by
  have hready : keepsBut [.boot, .mb] s (readyShown s) :=
    keepsBut_trans (keepsBut_mono (keepsBut_mbMod _ s) (by simp)) (keepsBut_mono (keepsBut_bootMod _ _) (by simp))
  unfold epochStarted
  split
  · exact ⟨keepsBut_trans hready (keepsBut_mono (keepsBut_mbMod _ _) (by simp)), rfl, rfl, rfl, rfl⟩
  · exact ⟨hready, rfl, rfl, rfl, rfl⟩

/-- The sequence numbers that the SRAM held are gone. -/
def sequencesLost (s : State) : State :=
  fabMod (fun f => { f with remotes := [] }) (mbMod (fun m => { m with chan := m.chan.map (fun (x : Channel) => { x with sync := false }) }) s)

theorem startWork_sequencesLost (s : State) : StartWork s (sequencesLost s) :=
  ⟨keepsBut_mono (keepsBut_then (keepsBut_mbMod _ s) (keepsBut_fabMod _ _) (n := [.mb, .fab]) (by simp) (by simp)) (by simp [startParts]),
    ⟨rfl, rfl⟩, rfl, rfl, rfl⟩

/-- The commands of before, and the event of a start that is not the first. -/
def restarted (savedOk : Bool) (last : Nat) (s : State) : State :=
  let s := failCommands s
  let s := if savedOk then s else sequencesLost s
  issueEvent 0x0002 0 (le 4 last ++ le 1 s.rst.lastSource ++ le 1 (b2n (!savedOk))) s

theorem startWork_restarted (savedOk : Bool) (last : Nat) (s : State) : StartWork s (restarted savedOk last s) := by
  unfold restarted
  extract_lets u v
  have hv : StartWork u v := by
    simp only [v]
    split
    · exact .refl u
    · exact startWork_sequencesLost u
  exact ((startWork_failCommands s).trans hv).trans (.of_issueEvent _ _ _ v)

/-- The saved configuration, which a start in the same epoch still holds. -/
def savedLoaded (fresh : Bool) (s : State) : State :=
  if fresh then (match s.boot.saved with
    | some c => loadSaved c s
    | none => s) else s

theorem startWork_savedLoaded (fresh : Bool) (s : State) : StartWork s (savedLoaded fresh s) := by
  unfold savedLoaded
  split
  · cases s.boot.saved with
    | some c => exact startWork_loadSaved c s
    | none => exact .refl s
  · exact .refl s

theorem startWork_measureSaved (s : State) : StartWork s (measureSaved s) := by
  unfold measureSaved
  cases s.boot.saved with
  | some c => exact startWork_extendMreg 5 _ s
  | none => exact .refl s

/-- The start's stages one after another. -/
theorem obilwinStart_eq (savedOk : Bool) (s : State) : obilwinStart savedOk s =
    loadTables (loadLatencies (savedLoaded s.boot.fresh (measureSaved
      (if s.boot.fresh then epochStarted savedOk s else restarted savedOk s.mb.dseq (epochStarted savedOk s))))) := rfl

theorem obilwinStart_starts (savedOk : Bool) (s : State) (hchip : inChip s = false) (hmgmt : s.rst.mgmt = none) (hon : domOn s 3 = true)
    (hstage : s.boot.stage = 1) :
    ∃ t, exec (.obilwinStart savedOk) s = .next t ∧
      keepsBut [.te, .lane, .group, .port, .tio, .ck, .cal, .fwd, .q, .cald, .fab, .pm, .rst, .host, .msi, .mb, .boot, .pc, .par, .clk] s t ∧
      t.boot.stage = 2 ∧ t.mb.fwReady = true ∧ t.boot.fresh = false ∧ t.boot.factoryLoaded = true ∧ t.clk.now = s.clk.now ∧
      t.mb.epoch = (if s.boot.fresh || !savedOk then (s.mb.epoch + 1) % 2 ^ 32 else s.mb.epoch) := by
  have hrun : exec (.obilwinStart savedOk) s = .next (settle (obilwinStart savedOk s)) := by
    have hgo : (!inChip s && s.rst.mgmt.isNone && domOn s 3 && s.boot.stage == 1) = true := by simp [hchip, hmgmt, hon, hstage]
    show done (when (!inChip s && s.rst.mgmt.isNone && domOn s 3 && s.boot.stage == 1) (obilwinStart savedOk s) s) = _
    rw [hgo]
    simp only [when, if_true, done_eq]
  obtain ⟨hframe, hst, hfresh, hready, hepoch⟩ := epochStarted_shows savedOk s
  obtain ⟨u, hu⟩ : ∃ u, u = savedLoaded s.boot.fresh (measureSaved
      (if s.boot.fresh then epochStarted savedOk s else restarted savedOk s.mb.dseq (epochStarted savedOk s))) := ⟨_, rfl⟩
  have hwork : StartWork (epochStarted savedOk s) u := by
    rw [hu]
    refine (StartWork.trans ?_ (startWork_measureSaved _)).trans (startWork_savedLoaded _ _)
    split
    · exact .refl _
    · exact startWork_restarted _ _ _
  obtain ⟨hlat, hservice, hloaded⟩ := loadLatencies_loads u
  have htables := startWork_loadTables (loadLatencies u)
  have hall : keepsBut startParts s (obilwinStart savedOk s) := by
    rw [obilwinStart_eq, ← hu]
    exact keepsBut_trans (keepsBut_trans (keepsBut_trans (keepsBut_mono hframe (by simp [startParts])) hwork.frame) hlat) htables.frame
  have hserved : sameService (epochStarted savedOk s) (obilwinStart savedOk s) := by
    rw [obilwinStart_eq, ← hu]
    exact sameService_trans (sameService_trans hwork.service hservice) htables.service
  have hend : obilwinStart savedOk s = loadTables (loadLatencies u) := by rw [obilwinStart_eq, hu]
  refine ⟨_, hrun, keepsBut_done (keepsBut_mono hall (by simp [startParts])) (by simp), ?_, ?_, ?_, ?_, ?_, ?_⟩
  · rw [settle_boot, hend, htables.stage, hloaded]
    exact hwork.stage.trans hst
  · rw [settle_mb, hserved.1, hready]
  · rw [settle_boot, hend, htables.fresh, hloaded]
    exact hwork.fresh.trans hfresh
  · rw [settle_boot, hend, htables.loaded, hloaded]
  · rw [settle_clk, hall .clk (by simp [startParts])]
  · rw [settle_mb, hserved.2, hepoch]

/-- Settles O46: the ROM's stages and Obilwin's each say what they leave, and the outcome is read from the choice. -/
theorem bootStages : Obligations.BootStages := ⟨romStart_starts, obilwinStart_starts, trialConfirm_confirms⟩

end Sys2Proof.Machine

/-! The commands that enable ports and reset groups and lanes (R379, R382, R458). -/

namespace Sys2Proof.Machine

-- The joined text is one compile: no thread beside the main one for each proof.
set_option Elab.async false

/-! ### The fall of a port leaves its enable -/

/-- No port's enable moves. -/
def AdminStands (s t : State) : Prop := ∀ p, (portOf t p).admin = (portOf s p).admin

namespace AdminStands

variable {s t u : State}

theorem refl (s : State) : AdminStands s s := fun _ => rfl

theorem trans (h : AdminStands s t) (k : AdminStands t u) : AdminStands s u := fun p => (k p).trans (h p)

theorem of_frame {l : List Part} (h : keepsBut l s t) (hport : Part.port ∉ l := by simp) : AdminStands s t := fun p => by
  rw [portOf_of_keepsBut h hport]

theorem of_portMod {q : Nat} {f : Port → Port} (s : State) (h : ∀ x, (f x).admin = x.admin := by exact fun _ => rfl) :
    AdminStands s (portMod q f s) := fun p => portOf_portMod_kept Port.admin h q p s

theorem of_macCount (p k n : Nat) (s : State) : AdminStands s (macCount p k n s) :=
  of_portMod (f := fun q => { q with live := vmodN q.live k (fun v => (v + n) % 2 ^ 64) }) s

theorem of_foldl {α : Type} {f : State → α → State} (h : ∀ u x, AdminStands u (f u x)) (xs : List α) (s : State) :
    AdminStands s (xs.foldl f s) :=
  List.foldlRecOn xs f (motive := AdminStands s) (refl s) fun u hu x _ => hu.trans (h u x)

theorem of_pauseSend (p mask quanta : Nat) (s : State) : AdminStands s (pauseSend p mask quanta s) := by
  have hinterject : AdminStands s (interject p s) := by
    unfold interject
    dsimp only
    split
    · rw [interrupt_eq]
      exact (of_portMod s).trans (of_macCount p 26 1 _)
    · exact refl s
  have hnoted : ∀ w t, AdminStands t (pauseMod p (pauseNoted mask quanta w) t) := fun _ t => of_portMod t
  rw [pauseSend_eq]
  exact ((((hinterject.trans (hnoted _ _)).trans (of_macCount p 20 64 _)).trans (of_macCount p 21 1 _)).trans
    (of_macCount p 23 1 _)).trans (of_macCount p 25 1 _)

theorem of_pauseJudge (p c : Nat) (s : State) : AdminStands s (pauseJudge p c s) := by
  have hxoff : ∀ mask quanta b, AdminStands s (pauseSend p mask quanta (setXoff p mask b s)) := fun mask quanta b =>
    (of_portMod (f := fun q => { q with pause := { q.pause with
      xoff := vmapI q.pause.xoff (fun i v => if mask.testBit i.val then b else v) } }) s).trans (of_pauseSend p mask quanta _)
  unfold pauseJudge
  dsimp only
  split
  · exact refl s
  · split
    · exact hxoff _ _ _
    · split
      · exact hxoff _ _ _
      · exact refl s

theorem of_dropQueued (d : FrameDesc) (s : State) : AdminStands s (dropQueued d s) := by
  unfold dropQueued countCells
  refine trans ?_ (of_frame (keepsBut_hostDropped d _))
  split
  · exact refl s
  · exact (of_portMod (q := d.port) (f := fun q => { q with pause := { q.pause with
      cells := vmodN q.pause.cells d.cls (fun v => if false then v + cellsLeft d else v - cellsLeft d) } }) s).trans
      (of_pauseJudge d.port d.cls _)

theorem of_flushEgress (p stat : Nat) (keep : EgFrame → Bool) (s : State) : AdminStands s (flushEgress p stat keep s) :=
  (of_frame (keepsBut_outMod (p / 8) _ s)).trans
    (of_foldl (fun t (e : EgFrame) => (of_frame (keepsBut_hostDropped e.desc t)).trans (of_macCount p stat 1 _)) _ _)

theorem of_dropCal (p : Nat) (s : State) : AdminStands s (dropCal p s) := by
  refine trans (of_foldl (fun t g => ?_) _ s) (of_flushEgress p 30 _ _)
  exact (of_frame (keepsBut_inMod g _ t)).trans
    (of_foldl (fun u d => (of_frame (keepsBut_copyDropped d u)).trans (of_macCount p 30 1 _)) _ _)

theorem of_flushPort (p : Nat) (s : State) : AdminStands s (flushPort p s) := by
  refine trans (of_foldl (fun t g => ?_) _ s) ((of_dropCal p _).trans (of_flushEgress p 29 _ _))
  exact of_foldl (fun u c => (of_frame (keepsBut_setVoq g p c [] u)).trans
    (of_foldl (fun v d => (of_dropQueued d v).trans (of_macCount p 29 1 _)) _ _)) _ t

theorem of_cutTransmission (p : Nat) (s : State) : AdminStands s (cutTransmission p s) :=
  (of_portMod (q := p) (f := fun q => { q with tx := { q.tx with express := none, preempt := none, cut := false } }) s).trans
    (of_foldl (fun u (f : TxFrame) => (of_frame (keepsBut_hostDropped f.desc u)).trans (of_macCount p 30 1 _)) _ _)

theorem of_delayEnded (p : Nat) (s : State) : AdminStands s (delayEnded p s) := by
  refine trans (t := delayNone p s) ?_ (of_frame (servoWork_servoPortDown p _).frame)
  rw [delayNone_eq]
  exact ((of_portMod s).trans (of_portMod _)).trans (of_frame (keepsBut_forEach (fun l u => keepsBut_laneMod l _ u) _ _))

theorem of_linkEnds (p : Nat) (s : State) : AdminStands s (linkEnds p false false s) := by
  rw [linkEnds_eq, linkCut]
  exact ((((of_cutTransmission p s).trans (of_portMod _)).trans ((of_portMod _).trans
    (of_frame (keepsBut_forEach keepsBut_laneWakes _ _)))).trans (of_frame (keepsBut_adjDown p _))).trans (of_delayEnded p _)

end AdminStands

/-! ### PORT_ADMIN -/

/-- A port that is not DOWN falls, and only its state and the cause are set. -/
theorem portDown_falls {p : Nat} (hp : p < 192) {s : State} (h : (portOf s p).st ≠ .down) (cause : Nat) :
    (portOf (portDown p .down cause false s) p).st = .down ∧ (portOf (portDown p .down cause false s) p).downCause = cause ∧
      (portOf (portDown p .down cause false s) p).admin = (portOf s p).admin := by
  unfold portDown
  extract_lets was s₁ s₂ s₃
  have h₁ : AdminStands s s₁ := by
    simp only [s₁]
    split
    · exact .of_linkEnds p s
    · exact .of_delayEnded p s
  have h₃ : portOf s₃ p = { portOf s₂ p with st := .down, downCause := cause } := portOf_portMod_same hp _ s₂
  have hadmin : (portOf s₂ p).admin = (portOf s p).admin := (h₁.trans (.of_flushPort p s₁)) p
  rw [if_neg (by simp [was, h]), portOf_of_keepsBut (keepsBut_portEvent p s₃) (by simp), h₃]
  exact ⟨rfl, rfl, hadmin⟩

/-- PORT_ADMIN's work. -/
def adminSet (n a : Nat) (s : State) : State :=
  if a = 0 ∧ ((portOf s n).st = .up ∨ (portOf s n).st = .hold) then portDown n .down 6 false (portMod n (fun x => { x with admin := a == 1 }) s)
  else portMod n (fun x => { x with admin := a == 1 }) s

theorem portAdmin_work {o : Origin} {p : List Byte} {s : State} (hn : fieldLe p 0 1 < 192) (hused : portUsed s (fieldLe p 0 1) = true)
    (ha : fieldLe p 1 1 ≤ 1) (hz : zeros p 2 2 = true) :
    portAdmin o p s = setResult o (okRes []) (adminSet (fieldLe p 0 1) (fieldLe p 1 1) s) := by
  unfold portAdmin
  dsimp only
  rw [checked_none _ s (firstBad_none (by simp [hused, hz]; omega))]
  rfl

theorem portAdmin_sets (o : Origin) (p : List Byte) (n : Nat) (s : State) (h : commandAt s o 0x0402 = some p) (hn : n = fieldLe p 0 1)
    (hlt : n < 192) (hused : portUsed s n = true) (hz : zeros p 2 2 = true) :
    (fieldLe p 1 1 = 1 → ∃ t, exec (.portAdmin o) s = .next t ∧ keepsBut [.port, .mb, .msi] s t ∧ endsWith o (okRes []) s t ∧
      portOf t n = { portOf s n with admin := true } ∧ otherPorts n s t) ∧
    (fieldLe p 1 1 = 0 → (portOf s n).st ≠ .up → (portOf s n).st ≠ .hold →
      ∃ t, exec (.portAdmin o) s = .next t ∧ keepsBut [.port, .mb, .msi] s t ∧ endsWith o (okRes []) s t ∧
        portOf t n = { portOf s n with admin := false } ∧ otherPorts n s t) ∧
    (fieldLe p 1 1 = 0 → ((portOf s n).st = .up ∨ (portOf s n).st = .hold) →
      ∃ t, exec (.portAdmin o) s = .next t ∧ keepsBut [.lane, .group, .port, .cal, .fwd, .q, .fab, .host, .mb, .msi, .pc] s t ∧
        replied o (okRes []) t ∧ (portOf t n).st = .down ∧ (portOf t n).admin = false ∧ (portOf t n).downCause = 6) := by
  subst hn
  have hsets : ∀ b : Bool, portAdmin o p s = setResult o (okRes []) (portMod (fieldLe p 0 1) (fun x => { x with admin := b }) s) →
      ∃ t, exec (.portAdmin o) s = .next t ∧ keepsBut [.port, .mb, .msi] s t ∧ endsWith o (okRes []) s t ∧
        portOf t (fieldLe p 0 1) = { portOf s (fieldLe p 0 1) with admin := b } ∧ otherPorts (fieldLe p 0 1) s t := fun b hwork => by
    obtain ⟨t, hrun, hkeep, hend, hpart⟩ := command_does h hwork (keepsBut_portMod _ _ s) (by simp)
    refine ⟨t, hrun, keepsBut_mono hkeep (by simp), hend, ?_, ?_⟩
    · rw [portOf_of_keepsBut hpart (by simp), portOf_portMod_same hlt]
    · exact otherPorts_trans (otherPorts_portMod _ _ s) (otherPorts_of_keepsBut hpart (by simp) _)
  refine ⟨fun ha => hsets true ?_, fun ha hup hhold => hsets false ?_, fun ha hst => ?_⟩
  · rw [portAdmin_work hlt hused (by omega) hz, adminSet, if_neg (by omega), ha]
    rfl
  · rw [portAdmin_work hlt hused (by omega) hz, adminSet, if_neg (by simp [hup, hhold]), ha]
    rfl
  · have hwork := portAdmin_work (o := o) hlt hused (by omega) hz
    rw [adminSet, if_pos ⟨ha, hst⟩, ha] at hwork
    have hset := portOf_portMod_same hlt (fun x : Port => { x with admin := (0 == 1 : Bool) }) s
    generalize hu : portMod (fieldLe p 0 1) (fun x : Port => { x with admin := (0 == 1 : Bool) }) s = u at hwork hset
    have hu' : ParWork fallParts s u := by rw [← hu]; exact parWork_portMod _ _ s
    have hne : (portOf u (fieldLe p 0 1)).st ≠ .down := by
      rw [hset]
      rcases hst with h | h <;> simp [h]
    obtain ⟨hdown, hcause, hadmin⟩ := portDown_falls hlt hne 6
    have hwork' := hu'.trans (parWork_portDown (fieldLe p 0 1) .down 6 u)
    obtain ⟨t, hrun, hkeep, hreply, hpart⟩ := command_reports h hwork hwork'.frame hwork'.commands
    refine ⟨t, hrun, keepsBut_mono hkeep (by simp [fallParts]), hreply, ?_, ?_, ?_⟩
    · rw [portOf_of_keepsBut hpart (by simp), hdown]
    · rw [portOf_of_keepsBut hpart (by simp), hadmin, hset]; rfl
    · rw [portOf_of_keepsBut hpart (by simp), hcause]

/-! ### A lane reset goes to OFF (R379, R384) -/

theorem laneLeaves_off {l : Nat} (hl : l < 192) (cause : Nat) (s : State) : (laneOf (laneLeaves l .off cause false s) l).st = .off := by
  unfold laneLeaves
  extract_lets was p s₁ s₂ s₃
  have h₃ : (laneOf s₃ l).st = .off := by
    have h₂ : (laneOf s₂ l).st = .off := congrArg Lane.st (laneOf_laneMod_same hl _ s₁)
    exact (DomainWork.of_laneMod s₂).off l h₂
  split
  · exact (DomainWork.of_portHold p cause s₃).off l h₃
  · exact h₃

/-- A lane reset, behind its way to OFF. -/
def laneCleared (l : Nat) (s : State) : State :=
  clearBookkeeping l (laneMod l (fun x => { x with
    sigDet := false, cdrLock := false, trainFallback := false, adaptEvent := false, ctle := 0, dfe1 := 0, adapt := {}, pat := {}
    ph := { x.ph with slips := 0 } }) (convAbort l s))

theorem laneReset_eq (l cause : Nat) (s : State) : laneReset' l cause false s = laneCleared l (laneLeaves l .off cause false s) := rfl

theorem domainWork_laneCleared (l : Nat) (s : State) : DomainWork s (laneCleared l s) :=
  ((DomainWork.of_convAbort l s).trans (.of_laneMod _)).trans (.of_laneMod _)

theorem domainWork_laneReset (l cause : Nat) (s : State) : DomainWork s (laneReset' l cause false s) :=
  (DomainWork.of_laneLeaves l cause s).trans (domainWork_laneCleared l _)

theorem laneReset_off {l : Nat} (hl : l < 192) (cause : Nat) (s : State) : (laneOf (laneReset' l cause false s) l).st = .off :=
  (domainWork_laneCleared l _).off l (laneLeaves_off hl cause s)

theorem parWork_laneReset {l : Nat} (hl : l < 192) (cause : Nat) (s : State) : ParWork fallParts s (laneReset' l cause false s) :=
  (((parWork_laneLeaves l .off cause s).trans (parWork_convAbort hl _)).trans (parWork_laneMod l _ _)).trans (parWork_laneMod l _ _)

/-! ### LANE_RESET -/

/-- A reset of a group or lane that waits for its domain. -/
def resetDeferred (scope unit : Nat) (s : State) : State :=
  rstMod (fun r => { r with deferred := r.deferred ++ [(scope, unit)] }) (recover 14 scope unit s)

/-- A command that leaves its reset to the domain's return. -/
theorem command_defers {o : Origin} {op : Nat} {p : List Byte} {f : List Byte → State → State} {s : State} {scope unit : Nat}
    (h : commandAt s o op = some p) (hf : f p s = setResult o (okRes []) (resetDeferred scope unit s)) :
    ∃ t, done (onCommand o op f s) = .next t ∧ keepsBut [.rst, .mb, .msi, .pc] s t ∧ endsWith o (okRes []) s t ∧
      t.rst = { s.rst with deferred := s.rst.deferred ++ [(scope, unit)] } := by
  obtain ⟨t, hrun, hkeep, hend, hpart⟩ := command_does h hf
    (keepsBut_then (n := [.pc, .rst]) (keepsBut_recover 14 scope unit s) (keepsBut_rstMod _ _) (by simp) (by simp)) (by simp)
  exact ⟨t, hrun, keepsBut_mono hkeep (by simp), hend, hpart .rst (by simp)⟩

/-- The lane's reset noted. -/
def laneResetNoted (l : Nat) (s : State) : State := rstMod (fun r => { r with lanes := vmodN r.lanes l (fun _ => true) }) (recover 14 5 l s)

theorem keepsBut_laneResetNoted (l : Nat) (s : State) : keepsBut [.rst, .pc] s (laneResetNoted l s) :=
  keepsBut_then (keepsBut_recover 14 5 l s) (keepsBut_rstMod _ _) (by simp) (by simp)

theorem laneReset_work {l : Nat} {s : State} (hchip : inChip s = false) (hgroup : vget s.rst.groups (l / 8) false = false)
    (hlane : vget s.rst.lanes l false = false) :
    laneReset l s = if domOn s (bankOf (l / 8)) then laneReset' l 5 false (laneResetNoted l s) else resetDeferred 5 l s := by
  unfold laneReset
  rw [if_neg (by simp [hchip, hgroup, hlane])]
  dsimp only
  rw [domOn_of_keepsBut (keepsBut_recover 14 5 l s) (by simp)]
  rfl

theorem laneResetCmd_work {o : Origin} {p : List Byte} {s : State} (hl : fieldLe p 0 1 < 192) (hz : zeros p 1 3 = true) :
    laneResetCmd o p s = setResult o (okRes []) (laneReset (fieldLe p 0 1) s) := by
  unfold laneResetCmd
  dsimp only
  rw [checked_none _ s (firstBad_none (by simp [hz]; omega))]

theorem laneReset_resets (o : Origin) (p : List Byte) (l : Nat) (s : State) (h : commandAt s o 0x0411 = some p) (hl : l = fieldLe p 0 1)
    (hlt : l < 192) (hz : zeros p 1 3 = true) (hchip : inChip s = false) (hgroup : vget s.rst.groups (l / 8) false = false)
    (hlane : vget s.rst.lanes l false = false) :
    (domOn s (bankOf (l / 8)) = false → ∃ t, exec (.laneReset o) s = .next t ∧ keepsBut [.rst, .mb, .msi, .pc] s t ∧
      endsWith o (okRes []) s t ∧ t.rst = { s.rst with deferred := s.rst.deferred ++ [(5, l)] }) ∧
    (domOn s (bankOf (l / 8)) = true → ∃ t, exec (.laneReset o) s = .next t ∧
      keepsBut [.lane, .group, .port, .cal, .fwd, .q, .fab, .rst, .host, .mb, .msi, .pc] s t ∧
      replied o (okRes []) t ∧ vget t.rst.lanes l false = true ∧ (laneOf t l).st = .off) := by
  subst hl
  have hwork := laneResetCmd_work (o := o) (s := s) hlt hz
  rw [laneReset_work hchip hgroup hlane] at hwork
  refine ⟨fun hoff => command_defers h (hwork.trans (by rw [hoff]; rfl)), fun hon => ?_⟩
  rw [if_pos hon] at hwork
  have hnoted := keepsBut_laneResetNoted (fieldLe p 0 1) s
  have hreset := parWork_laneReset hlt 5 (laneResetNoted (fieldLe p 0 1) s)
  obtain ⟨t, hrun, hkeep, hreply, hpart⟩ := command_reports h hwork
    (keepsBut_then (n := .rst :: fallParts) hnoted hreset.frame (by simp [fallParts]) (by simp +contextual))
    (sameCommands_trans (sameCommands_of_mb (hnoted .mb (by simp))) hreset.commands)
  have hrst : t.rst = (laneResetNoted (fieldLe p 0 1) s).rst := (hpart .rst (by simp)).trans (hreset.frame .rst (by simp [fallParts]))
  refine ⟨t, hrun, keepsBut_mono hkeep (by simp [fallParts]), hreply, ?_, ?_⟩
  · rw [hrst]
    exact vmodN_same _ _ _ _ hlt
  · rw [laneOf_of_keepsBut hpart (by simp)]
    exact laneReset_off hlt 5 _

/-! ### GROUP_RESET -/

theorem domainWork_servoIdle (g : Nat) (s : State) : DomainWork s (servoIdle g s) := by
  have hframe := (servoWork_servoIdle g s).frame
  exact ⟨keepsBut_mono hframe (by simp [workParts]), by rw [hframe .fwd (by simp)], noPower_congr (execOf_congr (hframe .mb (by simp))),
    fun l hl => laneOf_servoIdle_preserved (P := fun x => x.st = .off) (fun _ _ hx => hx) _ hl⟩

/-- The parts that a group's reset moves. -/
def groupParts : List Part := [.lane, .group, .port, .tio, .ck, .cal, .fwd, .q, .fab, .host, .mb, .pc]

/-- Work of a group's reset: within its parts, and no lane leaves OFF. -/
structure GroupWork (s t : State) : Prop where
  par : ParWork groupParts s t
  off : ∀ l, (laneOf s l).st = .off → (laneOf t l).st = .off

namespace GroupWork

variable {s t u : State}

theorem refl (s : State) : GroupWork s s := ⟨.refl _ s, fun _ h => h⟩

theorem trans (h : GroupWork s t) (k : GroupWork t u) : GroupWork s u := ⟨h.par.trans k.par, fun l hl => k.off l (h.off l hl)⟩

theorem of_works {m : List Part} (h : ParWork m s t) (k : DomainWork s t) (hm : ∀ x ∈ m, x ∈ groupParts := by simp [groupParts]) : GroupWork s t :=
  ⟨h.mono hm, k.off⟩

theorem of_fall (h : ParWork fallParts s t) (k : DomainWork s t) : GroupWork s t := of_works h k (by simp [fallParts, groupParts])

/-- Work beside lanes, commands and events. -/
theorem of_frame {m : List Part} (h : keepsBut m s t)
    (hm : ∀ x ∈ m, x ∈ [Part.group, .port, .tio, .ck, .q, .host, .pc] := by simp) : GroupWork s t := by
  have hkeep := keepsBut_mono h hm
  exact ⟨.of_frame hkeep (by simp [groupParts]) (by simp), fun l hl => by rw [laneOf_of_keepsBut hkeep (by simp)]; exact hl⟩

theorem of_forEach {f : Nat → State → State} {ls : List Nat} (h : ∀ u, ∀ l ∈ ls, GroupWork u (f l u)) (s : State) :
    GroupWork s (forEach ls f s) :=
  List.foldlRecOn ls _ (motive := GroupWork s) (refl s) fun u hu l hl => hu.trans (h u l hl)

theorem of_laneMod {l : Nat} {f : Lane → Lane} (s : State) (hoff : ∀ x, x.st = .off → (f x).st = .off := by exact fun _ h => h) :
    GroupWork s (laneMod l f s) := of_fall (parWork_laneMod l f s) (.of_laneMod s hoff)

theorem of_resetPort (p : Nat) (s : State) : GroupWork s (resetPort p false s) := by
  unfold resetPort
  split
  · exact refl s
  · exact of_fall (parWork_portDown p .down 6 s) (.of_portDown p .down 6 s)

theorem of_delayNone (p : Nat) (s : State) : GroupWork s (delayNone p s) := by
  rw [delayNone_eq]
  exact ((of_frame (keepsBut_portMod p _ s)).trans (of_frame (keepsBut_portMod p _ _))).trans (of_forEach (fun u _ _ => of_laneMod u) _)

end GroupWork

theorem lt_of_mem_groupLanes {g l : Nat} (hg : g < 24) (h : l ∈ groupLanes g) : l < 192 := by
  obtain ⟨n, hn, rfl⟩ := List.mem_map.mp h
  have := List.mem_range.mp hn
  omega

/-- The group's reset noted; its lanes are in it and in none of their own. -/
def groupResetNoted (g : Nat) (s : State) : State :=
  rstMod (fun r => { r with
    groups := vmodN r.groups g (fun _ => true)
    lanes := (groupLanes g).foldl (fun v l => vmodN v l (fun _ => false)) r.lanes }) s

/-- A port's statistics, pause, preemption and delay at their reset values. -/
def portCleared (q : Port) : Port := { q with
  live := Vector.replicate 32 0, snap := Vector.replicate 32 0, snapSeq := 0, gates := Vector.replicate 9 true
  pause := {}, pre := {}, localFault := false, remoteFault := false, anDone := false, anFec := none, aligned := false
  ld := { q.ld with
    valid := false, plumb := 0, solver := false, rtMismatch := false, pathChange := false, selfSpan := false, pairs := 0, seq := 0
    resid := 0, sigma := 0, geom := 0, rtMean := 0, biasMeas := 0, deltaTrue := [] } }

/-- What a group's reset does behind its lanes. -/
def groupCleared (g : Nat) (s : State) : State :=
  let s := forEach ((groupLanes g).filter (portUsed s)) (fun p s => delayNone p (resetPort p false s)) s
  let s := forEach (groupLanes g) (fun p s => portMod p portCleared s) s
  let s := forEach (groupLanes g) (laneMod · (fun x => { x with eye := {}, ph := { x.ph with valid := false, phase := 0, noise := 0 } })) s
  let s := servoIdle g (groupMod g (fun x => { x with servo := {}, rep := [] }) s)
  let s := flushOutput g (flushInput g s)
  retune (2 + g) s

theorem groupScope_eq (g : Nat) (s : State) :
    groupScope g s = groupCleared g (forEach (groupLanes g) (fun l s => laneReset' l 6 false s) (groupResetNoted g s)) := rfl

theorem groupWork_groupCleared (g : Nat) (s : State) : GroupWork s (groupCleared g s) := by
  unfold groupCleared
  extract_lets s₁ s₂ s₃ s₄ s₅
  have h₁ : GroupWork s s₁ := .of_forEach (fun u p _ => (GroupWork.of_resetPort p u).trans (.of_delayNone p _)) s
  have h₂ : GroupWork s₁ s₂ := .of_forEach (fun u p _ => .of_frame (keepsBut_portMod p portCleared u)) s₁
  have h₃ : GroupWork s₂ s₃ := .of_forEach (fun u l _ => .of_laneMod u) s₂
  have h₄ : GroupWork s₃ s₄ := (GroupWork.of_frame (keepsBut_groupMod g _ s₃)).trans
    (.of_fall (parWork_servoIdle g _) (domainWork_servoIdle g _))
  have h₅ : GroupWork s₄ s₅ := (GroupWork.of_frame (keepsBut_flushInput g s₄)).trans (.of_frame (keepsBut_flushOutput g _))
  exact ((((h₁.trans h₂).trans h₃).trans h₄).trans h₅).trans (.of_frame (keepsBut_retune (2 + g) s₅))

theorem groupWork_laneReset {l : Nat} (hl : l < 192) (cause : Nat) (s : State) : GroupWork s (laneReset' l cause false s) :=
  .of_fall (parWork_laneReset hl cause s) (domainWork_laneReset l cause s)

/-- Every lane of the group is OFF. -/
theorem groupScope_off {g : Nat} (hg : g < 24) (s : State) :
    GroupWork (groupResetNoted g s) (groupScope g s) ∧ ∀ l ∈ groupLanes g, (laneOf (groupScope g s) l).st = .off := by
  have hlanes : ∀ l ∈ groupLanes g, ∀ u, GroupWork u (laneReset' l 6 false u) := fun l hl u =>
    groupWork_laneReset (lt_of_mem_groupLanes hg hl) 6 u
  rw [groupScope_eq]
  refine ⟨(GroupWork.of_forEach (fun u l hl => hlanes l hl u) _).trans (groupWork_groupCleared g _), fun l hl => ?_⟩
  refine (groupWork_groupCleared g _).off l (foldl_reaches (I := fun _ => True) (P := fun t => (laneOf t l).st = .off) hl
    (fun _ _ _ _ => trivial) (fun t _ hoff k hk => (hlanes k hk t).off l hoff) (fun t _ => laneReset_off (lt_of_mem_groupLanes hg hl) 6 t) trivial)

theorem groupReset_work {g : Nat} {s : State} (hchip : inChip s = false) (hgroup : vget s.rst.groups g false = false) :
    groupReset g s = if domOn s (bankOf g) then groupScope g (recover 14 4 g s) else resetDeferred 4 g s := by
  unfold groupReset
  rw [if_neg (by simp [hchip, hgroup])]
  dsimp only
  rw [domOn_of_keepsBut (keepsBut_recover 14 4 g s) (by simp)]
  rfl

theorem groupResetCmd_work {o : Origin} {p : List Byte} {s : State} (hg : fieldLe p 0 1 < 24) (hz : zeros p 1 3 = true) :
    groupResetCmd o p s = setResult o (okRes []) (groupReset (fieldLe p 0 1) s) := by
  unfold groupResetCmd
  dsimp only
  rw [checked_none _ s (firstBad_none (by simp [hz]; omega))]

theorem groupReset_resets (o : Origin) (p : List Byte) (g : Nat) (s : State) (h : commandAt s o 0x0410 = some p) (hg : g = fieldLe p 0 1)
    (hlt : g < 24) (hz : zeros p 1 3 = true) (hchip : inChip s = false) (hgroup : vget s.rst.groups g false = false) :
    (domOn s (bankOf g) = false → ∃ t, exec (.groupReset o) s = .next t ∧ keepsBut [.rst, .mb, .msi, .pc] s t ∧
      endsWith o (okRes []) s t ∧ t.rst = { s.rst with deferred := s.rst.deferred ++ [(4, g)] }) ∧
    (domOn s (bankOf g) = true → ∃ t, exec (.groupReset o) s = .next t ∧
      keepsBut [.lane, .group, .port, .tio, .ck, .cal, .fwd, .q, .fab, .rst, .host, .mb, .msi, .pc] s t ∧
      replied o (okRes []) t ∧ vget t.rst.groups g false = true ∧ ∀ n, n < 8 → (laneOf t (8 * g + n)).st = .off) := by
  subst hg
  have hwork := groupResetCmd_work (o := o) (s := s) hlt hz
  rw [groupReset_work hchip hgroup] at hwork
  refine ⟨fun hoff => command_defers h (hwork.trans (by rw [hoff]; rfl)), fun hon => ?_⟩
  rw [if_pos hon] at hwork
  obtain ⟨hscope, hlanes⟩ := groupScope_off hlt (recover 14 4 (fieldLe p 0 1) s)
  have hnoted : keepsBut [.pc, .rst] s (groupResetNoted (fieldLe p 0 1) (recover 14 4 (fieldLe p 0 1) s)) :=
    keepsBut_then (keepsBut_recover 14 4 _ s) (keepsBut_rstMod _ _) (by simp) (by simp)
  obtain ⟨t, hrun, hkeep, hreply, hpart⟩ := command_reports h hwork
    (keepsBut_then (n := .rst :: groupParts) hnoted hscope.par.frame (by simp [groupParts]) (by simp +contextual))
    (sameCommands_trans (sameCommands_of_mb (hnoted .mb (by simp))) hscope.par.commands)
  have hrst : t.rst = (groupResetNoted (fieldLe p 0 1) (recover 14 4 (fieldLe p 0 1) s)).rst :=
    (hpart .rst (by simp)).trans (hscope.par.frame .rst (by simp [groupParts]))
  refine ⟨t, hrun, keepsBut_mono hkeep (by simp [groupParts]), hreply, ?_, fun n hn => ?_⟩
  · rw [hrst]
    exact vmodN_same _ _ _ _ hlt
  · rw [laneOf_of_keepsBut hpart (by simp)]
    exact hlanes _ (mem_groupLanes (by omega))

end Sys2Proof.Machine

/-! The commands of lanes: pattern tests, scans, rates (R54 to R59, R232, R458). -/

namespace Sys2Proof.Machine

-- The joined text is one compile: no thread beside the main one for each proof.
set_option Elab.async false

/-! ### A port held by a test keeps its delay, and its lanes their tests (R56) -/

theorem parWork_portDownKept (p : Nat) (st : PortSt) (cause : Nat) (s : State) : ParWork fallParts s (portDown p st cause true s) := by
  unfold portDown
  extract_lets was s₁ s₂ s₃
  have h₁ : ParWork fallParts s s₁ := by
    simp only [s₁]
    split
    · exact .of_frame (keepsBut_linkEnds_lanesRun p s) (by simp [fallParts]) (by simp)
    · exact .refl _ s
  have h₃ : ParWork fallParts s s₃ :=
    (h₁.trans (.of_frame (keepsBut_flushPort p s₁) (by simp [fallParts]) (by simp))).trans (parWork_portMod p _ _)
  split
  · exact h₃
  · exact h₃.trans (.of_issueEvent _ _ _ _ (by simp [fallParts]))

/-- What the fall of its port leaves of a lane in a test. -/
def inTest (q : LanePat) (x : Lane) : Prop := x.st = .test ∧ x.pat = q

theorem laneOf_laneWakes_testing {q : LanePat} (k : Nat) {l : Nat} {s : State} (h : inTest q (laneOf s l)) :
    inTest q (laneOf (laneWakes k s) l) := by
  have hjoin : ∀ x, inTest q x → inTest q (joined x) := fun x hx => ⟨by simp [joined, hx.1], hx.2⟩
  have hawake : ∀ x : Lane, inTest q x → inTest q { x with txSleep := false, rxSleep := false } := fun _ hx => hx
  rw [laneWakes, sleepJoin_eq]
  exact laneOf_laneMod_preserved hjoin (laneOf_laneMod_preserved hawake h)

/-- Work that leaves the lanes in tests, and the commands. -/
structure TestWork (s t : State) : Prop where
  par : ParWork fallParts s t
  tests : ∀ q l, inTest q (laneOf s l) → inTest q (laneOf t l)

namespace TestWork

variable {s t u : State}

theorem refl (s : State) : TestWork s s := ⟨.refl _ s, fun _ _ h => h⟩

theorem trans (h : TestWork s t) (k : TestWork t u) : TestWork s u := ⟨h.par.trans k.par, fun q l hq => k.tests q l (h.tests q l hq)⟩

/-- Work beside the lanes. -/
theorem of_parWork {m : List Part} (h : ParWork m s t) (hm : ∀ x ∈ m, x ∈ fallParts) (hlane : Part.lane ∉ m) : TestWork s t :=
  ⟨h.mono hm, fun q l hq => by rw [laneOf_of_keepsBut h.frame hlane]; exact hq⟩

theorem of_frame {m : List Part} (h : keepsBut m s t) (hm : ∀ x ∈ m, x ∈ [Part.group, .port, .cal, .fwd, .q, .fab, .host, .pc] := by simp) :
    TestWork s t :=
  of_parWork (.of_frame (keepsBut_mono h hm) (fun _ hx => hx) (by simp)) (by simp [fallParts]) (by simp)

theorem of_laneMod {k : Nat} {f : Lane → Lane} (s : State) (hf : ∀ q x, inTest q x → inTest q (f x) := by exact fun _ _ h => h) :
    TestWork s (laneMod k f s) :=
  ⟨parWork_laneMod k f s, fun q _ hq => laneOf_laneMod_preserved (P := inTest q) (hf q) hq⟩

theorem of_portEvent (p : Nat) (s : State) : TestWork s (portEvent p s) :=
  of_parWork (m := [.mb, .host, .pc]) (.of_issueEvent _ _ _ s fun _ hx => hx) (by simp [fallParts]) (by simp)

/-- The end of a link whose delay a test keeps. -/
theorem of_linkEnds (p : Nat) (s : State) : TestWork s (linkEnds p true false s) := by
  have hwakes : ∀ ls u, TestWork u (forEach ls laneWakes u) := fun ls u =>
    ⟨.of_frame (keepsBut_forEach keepsBut_laneWakes ls u) (by simp [fallParts]) (by simp), fun q l hq =>
      List.foldlRecOn ls _ (motive := fun v => inTest q (laneOf v l)) hq fun v hv k _ => laneOf_laneWakes_testing k hv⟩
  have hcut : TestWork s (linkCut p s) :=
    (((of_frame (keepsBut_cutTransmission p s)).trans (of_frame (keepsBut_portMod p linkStopped _))).trans
      (of_frame (keepsBut_portMod p sleepStopped _))).trans (hwakes _ _)
  exact hcut.trans (of_frame (keepsBut_adjDown p _))

theorem of_portHold (p cause : Nat) (s : State) : TestWork s (portHold p cause true s) := by
  unfold portHold
  split
  · exact refl s
  · split
    · refine (of_parWork (m := portResetParts) ⟨keepsBut_portDown_keepDelay p .down cause s, ?_, ?_⟩ (by simp [portResetParts, fallParts])
        (by simp [portResetParts])).trans (of_frame (keepsBut_portMod p _ _))
      · exact (parWork_portDownKept p .down cause s).commands
      · exact (parWork_portDownKept p .down cause s).service
    · exact (((of_linkEnds p s).trans (of_frame (keepsBut_dropCal p _))).trans (of_frame (keepsBut_portMod p _ _))).trans (of_portEvent p _)

end TestWork

end Sys2Proof.Machine

/-! LANE_TEST, EYE_SCAN and LANE_RATE (R54 to R59, R232, R458). -/

namespace Sys2Proof.Machine

-- The joined text is one compile: no thread beside the main one for each proof.
set_option Elab.async false

/-! ### A lane goes to TEST (R51, R56) -/

theorem laneLeaves_test {l : Nat} (hl : l < 192) (cause : Nat) (s : State) :
    ParWork fallParts s (laneLeaves l .test cause true s) ∧ inTest (laneOf s l).pat (laneOf (laneLeaves l .test cause true s) l) := by
  unfold laneLeaves
  extract_lets was p s₁ s₂ s₃
  have h₁ : ParWork fallParts s s₁ ∧ (laneOf s₁ l).pat = (laneOf s l).pat := by
    simp only [s₁]
    split
    · refine ⟨((parWork_excludeLane l _ s).trans (parWork_laneMod l _ _)).trans (parWork_portMod _ _ _), ?_⟩
      rw [laneOf_of_keepsBut (keepsBut_portMod p _ _) (by simp), laneUnready, laneOf_laneMod_same hl]
      exact laneOf_excludeLane_preserved (P := fun x => x.pat = (laneOf s l).pat) (fun _ _ hx => hx) l _ rfl
    · exact ⟨.refl _ s, rfl⟩
  have h₂ : inTest (laneOf s l).pat (laneOf s₂ l) := by
    simp only [s₂]
    rw [laneOf_laneMod_same hl]
    exact ⟨rfl, h₁.2⟩
  have hstays : s₃ = s₂ := rfl
  have hpar : ParWork fallParts s s₃ := hstays ▸ h₁.1.trans (parWork_laneMod l _ s₁)
  have hhold := TestWork.of_portHold p cause s₃
  split
  · exact ⟨hpar.trans hhold.par, hhold.tests _ l h₂⟩
  · exact ⟨hpar, h₂⟩

/-! ### LANE_TEST -/

/-- The lane of a started test, before it goes to TEST. -/
def patStarted (l dir pat : Nat) (inv : Bool) (user : Word) (s : State) : State :=
  laneMod l (fun x => { x with pat := patStart (dir.testBit 0) (dir.testBit 1) pat inv user x.pat }) s

section
variable {l dir pat : Nat} {inv : Bool} {user : Word} {s : State}

theorem testStart_eq : testStart l dir pat inv user s =
    let t := patStarted l dir pat inv user s
    if ((laneOf t l).st = .ready ∨ (laneOf t l).st = .sleep) ∧ (dir.testBit 0 ∨ dir.testBit 1) then
      laneMod l (fun x => { x with cdrLock := true }) (laneLeaves l .test 4 true t)
    else t := rfl

theorem laneOf_patStarted (hl : l < 192) : laneOf (patStarted l dir pat inv user s) l =
    { laneOf s l with pat := patStart (dir.testBit 0) (dir.testBit 1) pat inv user (laneOf s l).pat } := laneOf_laneMod_same hl _ s

/-- A direction of a test has bit 0 or bit 1. -/
theorem testBit_of_dir (hdir : dir < 4) (hne : dir ≠ 0) : dir.testBit 0 = true ∨ dir.testBit 1 = true := by
  have h : dir = 1 ∨ dir = 2 ∨ dir = 3 := by omega
  rcases h with rfl | rfl | rfl <;> decide

theorem testStart_takes (hl : l < 192) (hdir : dir < 4) (hne : dir ≠ 0) (hst : (laneOf s l).st = .ready ∨ (laneOf s l).st = .sleep) :
    testStart l dir pat inv user s =
      laneMod l (fun x => { x with cdrLock := true }) (laneLeaves l .test 4 true (patStarted l dir pat inv user s)) := by
  rw [testStart_eq]
  dsimp only
  exact if_pos ⟨by rw [laneOf_patStarted hl]; exact hst, testBit_of_dir hdir hne⟩

theorem testStart_stays (hl : l < 192) (hst : (laneOf s l).st ≠ .ready ∧ (laneOf s l).st ≠ .sleep ∨ dir = 0) :
    testStart l dir pat inv user s = patStarted l dir pat inv user s := by
  rw [testStart_eq]
  dsimp only
  rw [laneOf_patStarted hl]
  refine if_neg fun ⟨hready, hbit⟩ => ?_
  rcases hst with ⟨hr, hs⟩ | rfl
  · rcases hready with h | h
    · exact hr h
    · exact hs h
  · simp at hbit

end

/-- The lane's generator and checker off. -/
def patStopped (l : Nat) (s : State) : State :=
  laneMod l (fun x => { x with pat := { x.pat with genOn := false, chkOn := false, chkSync := false } }) s

theorem testStop_both {l : Nat} (hl : l < 192) (s : State) :
    testStop l 3 s = if (laneOf s l).st = .test then laneAcquire l (patStopped l s) else patStopped l s := by
  have hoff : testStop l 3 s =
      let t := patStopped l s
      if (laneOf t l).st == .test && !(laneOf t l).pat.genOn && !(laneOf t l).pat.chkOn then laneAcquire l t else t := by
    simp [testStop, patStopped, show Nat.testBit 3 0 = true by decide, show Nat.testBit 3 1 = true by decide]
  have hlane : laneOf (patStopped l s) l =
      { laneOf s l with pat := { (laneOf s l).pat with genOn := false, chkOn := false, chkSync := false } } := laneOf_laneMod_same hl _ s
  rw [hoff]
  dsimp only
  simp [hlane]

/-- A lane's calibration run ends within its converter. -/
theorem parWork_convAbort_lane {c : Nat} (hc : c < 192) (s : State) : ParWork [.cal, .host, .mb, .pc] s (convAbort c s) := by
  have hfall := parWork_convAbort hc s
  have hconv : keepsBut [.te, .cal, .host, .mb, .pc] s (convAbort c s) := by
    unfold convAbort
    split
    · exact keepsBut_convReject c 6 s
    · exact keepsBut_refl _ s
  refine ⟨fun part hpart => ?_, hfall.commands, hfall.service⟩
  by_cases hte : part = .te
  · subst hte
    exact hfall.frame .te (by simp [fallParts])
  · exact hconv part (by simpa [hte] using hpart)

theorem parWork_laneAcquire {l : Nat} (hl : l < 192) (s : State) : ParWork [.lane, .cal, .host, .mb, .pc, .free] s (laneAcquire l s) := by
  have hacquired := ParWork.of_frame (l := [.lane, .cal, .host, .mb, .pc, .free]) (keepsBut_laneMod l acquired s) (by simp) (by simp)
  have htrims := ParWork.of_frame (l := [.lane, .cal, .host, .mb, .pc, .free])
    (keepsBut_runTrims true (acquireTaps l) (laneMod l acquired s)) (by simp) (by simp)
  exact ((hacquired.trans htrims).trans ((parWork_convAbort_lane hl _).mono (by simp))).trans
    (.of_frame (keepsBut_convMod l _ _) (by simp) (by simp))

section
variable {o : Origin} {p : List Byte} {l b : Nat} {s : State}

/-- What LANE_TEST does once its fields are in range. -/
def testWork (o : Origin) (l dir start pat : Nat) (inv : Bool) (user : Word) (s : State) : State :=
  if start = 1 ∧ sentinelOf s (l / 8) = some l then setResult o (notPermitted 0x0010) s
  else if !domOn s (bankOf (l / 8)) then setResult o (notPermitted 0x0008) s
  else setResult o (okRes []) (if start = 1 then testStart l dir pat inv user s else testStop l dir s)

theorem laneTest_work {start : Nat} (hl : l = fieldLe p 0 1) (hlt : l < 192) (hdir : fieldLe p 1 1 < 4) (hb : b = fieldLe p 3 1)
    (hpat : b % 16 < 9) (hb32 : b < 32) (hstart : fieldLe p 2 1 = start) (hle : start ≤ 1) :
    laneTest o p s = testWork o l (fieldLe p 1 1) start (b % 16) (b.testBit 4) (BitVec.ofNat 32 (fieldLe p 4 4)) s := by
  subst hl hb hstart
  unfold laneTest
  dsimp only
  rw [checked_none _ s (firstBad_none (by simp; omega))]
  rfl

theorem laneTest_sentinel (h : commandAt s o 0x0420 = some p) (hl : l = fieldLe p 0 1) (hlt : l < 192) (hdir : fieldLe p 1 1 < 4)
    (hb : b = fieldLe p 3 1) (hpat : b % 16 < 9) (hb32 : b < 32) (hstart : fieldLe p 2 1 = 1) (hsent : sentinelOf s (l / 8) = some l) :
    ∃ t, exec (.laneTest o) s = .next t ∧ onlyAnswers o (notPermitted 0x0010) s t := by
  refine command_answers h ?_
  rw [laneTest_work hl hlt hdir hb hpat hb32 hstart (by omega), testWork, if_pos ⟨rfl, hsent⟩]

theorem laneTest_bankDown (h : commandAt s o 0x0420 = some p) (hl : l = fieldLe p 0 1) (hlt : l < 192) (hdir : fieldLe p 1 1 < 4)
    (hb : b = fieldLe p 3 1) (hpat : b % 16 < 9) (hb32 : b < 32)
    (hstart : fieldLe p 2 1 = 0 ∨ (fieldLe p 2 1 = 1 ∧ sentinelOf s (l / 8) ≠ some l)) (hoff : domOn s (bankOf (l / 8)) = false) :
    ∃ t, exec (.laneTest o) s = .next t ∧ onlyAnswers o (notPermitted 0x0008) s t := by
  refine command_answers h ?_
  rw [laneTest_work hl hlt hdir hb hpat hb32 rfl (by omega), testWork, if_neg, if_pos (by simp [hoff])]
  rintro ⟨hone, hsent⟩
  rcases hstart with hzero | ⟨-, hne⟩
  · omega
  · exact hne hsent

theorem laneTest_starts (h : commandAt s o 0x0420 = some p) (hl : l = fieldLe p 0 1) (hlt : l < 192) (hdir : fieldLe p 1 1 < 4)
    (hb : b = fieldLe p 3 1) (hpat : b % 16 < 9) (hb32 : b < 32) (hstart : fieldLe p 2 1 = 1) (hsent : sentinelOf s (l / 8) ≠ some l)
    (hon : domOn s (bankOf (l / 8)) = true) :
    (((laneOf s l).st ≠ .ready ∧ (laneOf s l).st ≠ .sleep ∨ fieldLe p 1 1 = 0) → ∃ t, exec (.laneTest o) s = .next t ∧
      keepsBut [.lane, .mb, .msi] s t ∧ endsWith o (okRes []) s t ∧
      laneOf t l = { laneOf s l with
        pat := patStart ((fieldLe p 1 1).testBit 0) ((fieldLe p 1 1).testBit 1) (b % 16) (b.testBit 4)
          (BitVec.ofNat 32 (fieldLe p 4 4)) (laneOf s l).pat } ∧ otherLanes l s t) ∧
    ((laneOf s l).st = .ready ∨ (laneOf s l).st = .sleep → fieldLe p 1 1 ≠ 0 → ∃ t, exec (.laneTest o) s = .next t ∧
      keepsBut [.lane, .group, .port, .cal, .fwd, .q, .fab, .host, .mb, .msi, .pc] s t ∧ replied o (okRes []) t ∧
      (laneOf t l).st = .test ∧ (laneOf t l).cdrLock = true ∧ (laneOf t l).pat =
        patStart ((fieldLe p 1 1).testBit 0) ((fieldLe p 1 1).testBit 1) (b % 16) (b.testBit 4)
          (BitVec.ofNat 32 (fieldLe p 4 4)) (laneOf s l).pat) := by
  have hwork := laneTest_work (o := o) (s := s) hl hlt hdir hb hpat hb32 hstart (by omega)
  rw [testWork, if_neg (fun hs => hsent hs.2), if_neg (by simp [hon]), if_pos rfl] at hwork
  generalize b % 16 = pat, b.testBit 4 = inv, BitVec.ofNat 32 (fieldLe p 4 4) = user at hwork ⊢
  refine ⟨fun hst => ?_, fun hst hne => ?_⟩
  · rw [testStart_stays hlt hst] at hwork
    obtain ⟨t, hrun, hkeep, hend, hpart⟩ := command_does h hwork (keepsBut_laneMod _ _ s) (by simp)
    refine ⟨t, hrun, keepsBut_mono hkeep (by simp), hend, ?_, ?_⟩
    · rw [laneOf_of_keepsBut hpart (by simp), laneOf_patStarted hlt]
    · exact otherLanes_trans (otherLanes_laneMod _ _ s) (otherLanes_of_keepsBut hpart (by simp) _)
  · rw [testStart_takes hlt hdir hne hst] at hwork
    have hstarted : ParWork fallParts s (patStarted l (fieldLe p 1 1) pat inv user s) := parWork_laneMod _ _ s
    obtain ⟨hleaves, htest, hkept⟩ := laneLeaves_test hlt 4 (patStarted l (fieldLe p 1 1) pat inv user s)
    have hpar := (hstarted.trans hleaves).trans (parWork_laneMod l (fun x => { x with cdrLock := true }) _)
    obtain ⟨t, hrun, hkeep, hreply, hpart⟩ := command_reports h hwork hpar.frame hpar.commands
    have hlane : laneOf t l = _ := (laneOf_of_keepsBut hpart (by simp) l).trans (laneOf_laneMod_same hlt _ _)
    rw [laneOf_patStarted hlt] at hkept
    refine ⟨t, hrun, keepsBut_mono hkeep (by simp [fallParts]), hreply, ?_, ?_, ?_⟩
    · rw [hlane]; exact htest
    · rw [hlane]
    · rw [hlane]; exact hkept

theorem laneTest_stops (h : commandAt s o 0x0420 = some p) (hl : l = fieldLe p 0 1) (hlt : l < 192)
    (hb : b = fieldLe p 3 1) (hpat : b % 16 < 9) (hb32 : b < 32) (hstart : fieldLe p 2 1 = 0) (hdir : fieldLe p 1 1 = 3)
    (hon : domOn s (bankOf (l / 8)) = true) :
    ((laneOf s l).st = .test →
      ∃ t, exec (.laneTest o) s = .next t ∧ keepsBut [.lane, .cal, .host, .mb, .msi, .pc, .free] s t ∧ replied o (okRes []) t ∧
        (laneOf t l).st = .acquire ∧ (laneOf t l).pat.genOn = false ∧ (laneOf t l).pat.chkOn = false) ∧
    ((laneOf s l).st ≠ .test →
      ∃ t, exec (.laneTest o) s = .next t ∧ keepsBut [.lane, .mb, .msi] s t ∧ endsWith o (okRes []) s t ∧
        laneOf t l = { laneOf s l with pat := { (laneOf s l).pat with genOn := false, chkOn := false, chkSync := false } }) := by
  have hwork := laneTest_work (o := o) (s := s) hl hlt (by omega) hb hpat hb32 hstart (by omega)
  rw [testWork, if_neg (by simp), if_neg (by simp [hon]), if_neg (by simp), hdir, testStop_both hlt] at hwork
  have hstopped : laneOf (patStopped l s) l = _ := laneOf_laneMod_same hlt _ s
  refine ⟨fun hst => ?_, fun hst => ?_⟩
  · rw [if_pos hst] at hwork
    have hpar := (ParWork.of_frame (l := [.lane, .cal, .host, .mb, .pc, .free]) (keepsBut_laneMod l _ s) (by simp) (by simp)).trans
      (parWork_laneAcquire hlt (patStopped l s))
    obtain ⟨t, hrun, hkeep, hreply, hpart⟩ := command_reports h hwork hpar.frame hpar.commands
    have hlane : laneOf t l = acquired (laneOf (patStopped l s) l) := (laneOf_of_keepsBut hpart (by simp) l).trans (laneOf_laneAcquire hlt _)
    rw [hstopped] at hlane
    refine ⟨t, hrun, keepsBut_mono hkeep (by simp), hreply, ?_, ?_, ?_⟩
    · rw [hlane]; rfl
    · rw [hlane]; rfl
    · rw [hlane]; rfl
  · rw [if_neg hst] at hwork
    obtain ⟨t, hrun, hkeep, hend, hpart⟩ := command_does h hwork (keepsBut_laneMod _ _ s) (by simp)
    exact ⟨t, hrun, keepsBut_mono hkeep (by simp), hend, by rw [laneOf_of_keepsBut hpart (by simp), hstopped]⟩

end

/-! ### EYE_SCAN -/

theorem eyeScan_work {o : Origin} {p : List Byte} {s : State} (hl : fieldLe p 0 1 < 192) (hz : zeros p 1 3 = true) :
    eyeScan o p s = if !domOn s (bankOf (fieldLe p 0 1 / 8)) then setResult o (notPermitted 0x0008) s
      else setWait o (.eye (fieldLe p 0 1)) (if (laneOf s (fieldLe p 0 1)).st == .ready then startScan (fieldLe p 0 1) s
        else laneMod (fieldLe p 0 1) (fun x => { x with eye := { x.eye with valid := false } }) s) := by
  unfold eyeScan
  dsimp only
  rw [checked_none _ s (firstBad_none (by simp [hz]; omega))]

theorem eyeScan_scans (o : Origin) (p : List Byte) (l : Nat) (s : State) (h : commandAt s o 0x0421 = some p) (hl : l = fieldLe p 0 1)
    (hlt : l < 192) (hz : zeros p 1 3 = true) :
    (domOn s (bankOf (l / 8)) = false → ∃ t, exec (.eyeScan o) s = .next t ∧ onlyAnswers o (notPermitted 0x0008) s t) ∧
    (domOn s (bankOf (l / 8)) = true → ∃ t, exec (.eyeScan o) s = .next t ∧ keepsBut [.lane, .mb, .msi] s t ∧ waits o (.eye l) t ∧
      otherLanes l s t ∧ ((laneOf s l).st = .ready → (laneOf t l).eye.running = true) ∧
      ((laneOf s l).st ≠ .ready → (laneOf t l).eye.valid = false ∧ (laneOf t l).eye.running = (laneOf s l).eye.running)) := by
  subst hl
  have hwork := eyeScan_work (o := o) (s := s) hlt hz
  have hwaits : ∀ f, eyeScan o p s = setWait o (.eye (fieldLe p 0 1)) (laneMod (fieldLe p 0 1) f s) →
      ∃ t, exec (.eyeScan o) s = .next t ∧ keepsBut [.lane, .mb, .msi] s t ∧ waits o (.eye (fieldLe p 0 1)) t ∧
        otherLanes (fieldLe p 0 1) s t ∧ laneOf t (fieldLe p 0 1) = f (laneOf s (fieldLe p 0 1)) := fun f hf => by
    obtain ⟨t, hrun, hkeep, hwait, hpart⟩ := command_waits h hf (keepsBut_laneMod _ f s) (by simp)
    exact ⟨t, hrun, keepsBut_mono hkeep (by simp), hwait,
      otherLanes_trans (otherLanes_laneMod _ f s) (otherLanes_of_keepsBut hpart (by simp) _),
      (laneOf_of_keepsBut hpart (by simp) _).trans (laneOf_laneMod_same hlt f s)⟩
  refine ⟨fun hoff => command_answers h (by rw [hwork, if_pos (by simp [hoff])]), fun hon => ?_⟩
  rw [if_neg (by simp [hon])] at hwork
  by_cases hready : (laneOf s (fieldLe p 0 1)).st = .ready
  · rw [if_pos (by simp [hready])] at hwork
    obtain ⟨t, hrun, hkeep, hwait, hothers, hlane⟩ := hwaits _ hwork
    refine ⟨t, hrun, hkeep, hwait, hothers, fun _ => ?_, fun hne => absurd hready hne⟩
    rw [hlane]
    dsimp only
    split
    · assumption
    · rfl
  · rw [if_neg (by simp [hready])] at hwork
    obtain ⟨t, hrun, hkeep, hwait, hothers, hlane⟩ := hwaits _ hwork
    exact ⟨t, hrun, hkeep, hwait, hothers, fun hst => absurd hst hready, fun _ => by rw [hlane]; exact ⟨rfl, rfl⟩⟩

/-! ### LANE_RATE -/

/-- A lane's permitted rate as LANE_RATE leaves it. -/
def rateRaised (l r : Nat) (s : State) : State := { s with wx := { s.wx with
  permitted := vmodN s.wx.permitted l (fun _ => r), below := vmodN s.wx.below l (fun _ => 0)
  rateLimit := vmodN s.wx.rateLimit l (fun b => b && r != 3) } }

theorem keepsBut_rateRaised (l r : Nat) (s : State) : keepsBut [.wx] s (rateRaised l r s) := by
  intro p hp
  cases p <;> first | rfl | exact ⟨rfl, rfl, rfl⟩ | simp at hp

theorem laneRate_work {o : Origin} {p : List Byte} {s : State} (hl : fieldLe p 0 1 < 192) (hc : fieldLe p 1 1 ≤ 3) (hz : zeros p 2 2 = true) :
    laneRate o p s = setResult o (okRes (le 4 (max (fieldLe p 1 1) (vget s.wx.permitted (fieldLe p 0 1) 3))))
      (rateRaised (fieldLe p 0 1) (max (fieldLe p 1 1) (vget s.wx.permitted (fieldLe p 0 1) 3)) s) := by
  unfold laneRate
  dsimp only
  rw [checked_none _ s (firstBad_none (by simp [hz]; omega))]
  rfl

theorem laneRate_raises (o : Origin) (p : List Byte) (l c : Nat) (s : State) (h : commandAt s o 0x0422 = some p) (hl : l = fieldLe p 0 1)
    (hlt : l < 192) (hc : c = fieldLe p 1 1) (hc3 : c ≤ 3) (hz : zeros p 2 2 = true) :
    ∃ t, exec (.laneRate o) s = .next t ∧ keepsBut [.wx, .mb, .msi] s t ∧ endsWith o (okRes (le 4 (max c (vget s.wx.permitted l 3)))) s t ∧
      vget t.wx.permitted l 3 = max c (vget s.wx.permitted l 3) ∧ vget t.wx.below l 0 = 0 ∧
      ∀ m, m ≠ l → vget t.wx.permitted m 3 = vget s.wx.permitted m 3 := by
  subst hl hc
  obtain ⟨t, hrun, hkeep, hend, hpart⟩ := command_does h (laneRate_work hlt hc3 hz) (keepsBut_rateRaised _ _ s) (by simp)
  have hwx : t.wx = _ := hpart .wx (by simp)
  refine ⟨t, hrun, keepsBut_mono hkeep (by simp), hend, ?_, ?_, fun m hm => ?_⟩
  · rw [hwx]; exact vmodN_same _ _ _ _ hlt
  · rw [hwx]; exact vmodN_same _ _ _ _ hlt
  · rw [hwx]; exact vmodN_other _ _ _ _ _ hm

end Sys2Proof.Machine

/-! LAT_GET, LAT_SET and PLUMB_GET (R84 to R86, R110, R459), and O53. -/

namespace Sys2Proof.Machine

-- The joined text is one compile: no thread beside the main one for each proof.
set_option Elab.async false

/-! ### LAT_GET and LAT_SET -/

theorem latBytes_fields (e : LatEntry) : (latBytes e).length = 40 ∧
    fieldLe (latBytes e) 0 8 = ofSigned 64 e.txLat ∧ fieldLe (latBytes e) 8 8 = ofSigned 64 e.rxLat ∧
    fieldLe (latBytes e) 16 4 = ofSigned 32 e.tcTx ∧ fieldLe (latBytes e) 20 4 = ofSigned 32 e.tcRx ∧
    fieldLe (latBytes e) 24 2 = ofSigned 16 e.tRef ∧ fieldLe (latBytes e) 26 2 = e.source % 65536 ∧
    fieldLe (latBytes e) 28 6 = e.calSec % 2 ^ 48 ∧ fieldLe (latBytes e) 34 6 = 0 := by
  have htx := Nat.mod_eq_of_lt (ofSigned_lt 64 e.txLat)
  have hrx := Nat.mod_eq_of_lt (ofSigned_lt 64 e.rxLat)
  have htcTx := Nat.mod_eq_of_lt (ofSigned_lt 32 e.tcTx)
  have htcRx := Nat.mod_eq_of_lt (ofSigned_lt 32 e.tcRx)
  have href := Nat.mod_eq_of_lt (ofSigned_lt 16 e.tRef)
  have hbytes : latBytes e = le 8 (ofSigned 64 e.txLat) ++ (le 8 (ofSigned 64 e.rxLat) ++ (le 4 (ofSigned 32 e.tcTx) ++
      (le 4 (ofSigned 32 e.tcRx) ++ (le 2 (ofSigned 16 e.tRef) ++ (le 2 e.source ++ (le 6 e.calSec ++ le 6 0)))))) := by
    simp only [latBytes, List.append_assoc]
  rw [hbytes]
  refine ⟨by simp only [List.length_append, length_le], ?_, ?_, ?_, ?_, ?_, ?_, ?_, ?_⟩
  · rw [fieldLe_le_head]; exact htx
  · rw [fieldLe_le_skip _ _ _ _ _ (by omega), fieldLe_le_head]; exact hrx
  · rw [fieldLe_le_skip _ _ _ _ _ (by omega), fieldLe_le_skip _ _ _ _ _ (by omega), fieldLe_le_head]; exact htcTx
  · iterate 3 rw [fieldLe_le_skip _ _ _ _ _ (by omega)]
    rw [fieldLe_le_head]; exact htcRx
  · iterate 4 rw [fieldLe_le_skip _ _ _ _ _ (by omega)]
    rw [fieldLe_le_head]; exact href
  · iterate 5 rw [fieldLe_le_skip _ _ _ _ _ (by omega)]
    exact fieldLe_le_head _ _ _
  · iterate 6 rw [fieldLe_le_skip _ _ _ _ _ (by omega)]
    exact fieldLe_le_head _ _ _
  · iterate 7 rw [fieldLe_le_skip _ _ _ _ _ (by omega)]
    exact fieldLe_le_whole 6 0

theorem latGet_answers (o : Origin) (p : List Byte) (l k : Nat) (s : State) (h : commandAt s o 0x0430 = some p) (hl : l = fieldLe p 0 1)
    (hlt : l < 192) (hk : k = fieldLe p 1 1) (hk5 : k ≤ 5) (hz : zeros p 2 2 = true) :
    ∃ t r, exec (.latGet o) s = .next t ∧ onlyAnswers o (okRes r) s t ∧ r.length = 40 ∧
      fieldLe r 0 8 = ofSigned 64 (latEntry s l k).txLat ∧ fieldLe r 8 8 = ofSigned 64 (latEntry s l k).rxLat ∧
      fieldLe r 16 4 = ofSigned 32 (latEntry s l k).tcTx ∧ fieldLe r 20 4 = ofSigned 32 (latEntry s l k).tcRx ∧
      fieldLe r 24 2 = ofSigned 16 (latEntry s l k).tRef ∧ fieldLe r 26 2 = (latEntry s l k).source % 65536 ∧
      fieldLe r 28 6 = (latEntry s l k).calSec % 2 ^ 48 ∧ fieldLe r 34 6 = 0 := by
  have hwork : latGet o p s = setResult o (okRes (latBytes (latEntry s l k))) s := by
    subst hl hk
    unfold latGet
    dsimp only
    rw [checked_none _ s (firstBad_none (by simp [hz]; omega))]
  obtain ⟨t, hrun, hans⟩ := command_answers h hwork
  exact ⟨t, _, hrun, hans, latBytes_fields _⟩

/-- The entry that LAT_SET writes. -/
def latGiven (p : List Byte) (s : State) : LatEntry := {
  txLat := toSigned 64 (fieldLe p 4 8), rxLat := toSigned 64 (fieldLe p 12 8), tcTx := toSigned 32 (fieldLe p 20 4)
  tcRx := toSigned 32 (fieldLe p 24 4), tRef := toSigned 16 (fieldLe p 28 2), source := fieldLe p 30 1, calSec := secOf s.clk.now }

theorem latSet_work {o : Origin} {p : List Byte} {l k : Nat} {s : State} (hl : l = fieldLe p 0 1) (hlt : l < 192) (hk : k = fieldLe p 1 1)
    (hk5 : k ≤ 5) (hz : zeros p 2 2 = true) (hz31 : zeros p 31 1 = true) (hz38 : zeros p 38 6 = true)
    (hsrc : fieldLe p 30 1 ≠ 2 ∧ fieldLe p 30 1 ≤ 4) :
    latSet o p s = if fieldLe p 30 1 < 2 then setResult o (notPermitted 0x0012) s
      else setResult o (okRes []) (latWrite l k (latGiven p s) s) := by
  subst hl hk
  unfold latSet
  dsimp only
  rw [checked_none _ s (firstBad_none (by simp [hz, hz31, hz38, hsrc.1]; omega))]
  rfl

theorem latSet_writes (o : Origin) (p : List Byte) (l k : Nat) (s : State) (h : commandAt s o 0x0431 = some p) (hl : l = fieldLe p 0 1)
    (hlt : l < 192) (hk : k = fieldLe p 1 1) (hk5 : k ≤ 5) (hz : zeros p 2 2 = true) (hz31 : zeros p 31 1 = true)
    (hz38 : zeros p 38 6 = true) :
    (fieldLe p 30 1 < 2 → ∃ t, exec (.latSet o) s = .next t ∧ onlyAnswers o (notPermitted 0x0012) s t) ∧
    ((fieldLe p 30 1 = 3 ∨ fieldLe p 30 1 = 4) → ∃ t, exec (.latSet o) s = .next t ∧ keepsBut [.lane, .mb, .msi] s t ∧
      endsWith o (okRes []) s t ∧ otherLanes l s t ∧ (laneOf t l).st = (laneOf s l).st ∧ (laneOf t l).ph = (laneOf s l).ph ∧
      (laneOf t l).lat.sets = vmodN (laneOf s l).lat.sets k (fun _ => {
        txLat := toSigned 64 (fieldLe p 4 8), rxLat := toSigned 64 (fieldLe p 12 8), tcTx := toSigned 32 (fieldLe p 20 4)
        tcRx := toSigned 32 (fieldLe p 24 4), tRef := toSigned 16 (fieldLe p 28 2), source := fieldLe p 30 1
        calSec := secOf s.clk.now })) := by
  refine ⟨fun hsrc => command_answers h ?_, fun hsrc => ?_⟩
  · rw [latSet_work hl hlt hk hk5 hz hz31 hz38 (by omega), if_pos hsrc]
  · have hwork := latSet_work (o := o) (s := s) hl hlt hk hk5 hz hz31 hz38 (by omega)
    rw [if_neg (by omega)] at hwork
    have hframe : keepsBut [.lane] s (latWrite l k (latGiven p s) s) := keepsBut_laneMod _ _ s
    have hothers : otherLanes l s (latWrite l k (latGiven p s) s) := otherLanes_laneMod _ _ s
    have hwritten : laneOf (latWrite l k (latGiven p s) s) l = _ := laneOf_laneMod_same hlt _ s
    obtain ⟨t, hrun, hkeep, hend, hpart⟩ := command_does h hwork hframe (by simp)
    have hlane := (laneOf_of_keepsBut hpart (by simp) l).trans hwritten
    refine ⟨t, hrun, keepsBut_mono hkeep (by simp), hend, otherLanes_trans hothers (otherLanes_of_keepsBut hpart (by simp) _), ?_, ?_, ?_⟩
    · rw [hlane]
    · rw [hlane]
    · rw [hlane]; rfl

/-! ### PLUMB_GET -/

/-- A record of equal ones is found at its place. -/
theorem fieldLe_flatMap {α : Type} {f : α → List Byte} {k : Nat} (hf : ∀ x, (f x).length = k) (rest : List Byte) (n : Nat) (xs : List α)
    (i : Nat) (hi : i < xs.length) :
    ∃ more, fieldLe (xs.flatMap f ++ rest) (k * i) n = fieldLe (f xs[i] ++ more) 0 n := by
  induction xs generalizing i with
  | nil => exact absurd hi (by simp)
  | cons x xs ih =>
    rw [List.flatMap_cons, List.append_assoc]
    cases i with
    | zero => exact ⟨_, rfl⟩
    | succ i =>
      obtain ⟨more, hmore⟩ := ih i (by simpa using hi)
      refine ⟨more, ?_⟩
      rw [fieldLe, slice_append_skip (hf x) _ _ (by rw [Nat.mul_succ]; omega), ← fieldLe, Nat.mul_succ, Nat.add_sub_cancel, hmore]
      rfl

/-- A lane's record in PLUMB_GET's answer. -/
def plumbLane (n : Nat) (s : State) (i : Nat) : List Byte :=
  le 8 (ofSigned 64 (roundAway (laneOf s (n + i)).ld.delta)) ++
    le 8 (ofSigned 64 (if isSelfSpan s n then (portOf s n).ld.deltaTrue.getD i 0 else 0))

theorem length_plumbLane (n : Nat) (s : State) (i : Nat) : (plumbLane n s i).length = 16 := by
  rw [plumbLane, List.length_append, length_le, length_le]

/-- PLUMB_GET's answer. -/
def plumbBytes (n : Nat) (s : State) : List Byte :=
  le 4 (ldStatus s n).toNat ++ (le 4 (portOf s n).ld.resid ++ (le 4 (portOf s n).ld.sigma ++ (le 4 (portOf s n).ld.geom ++
    (le 8 (ofSigned 64 (if isSelfSpan s n then (portOf s n).ld.biasMeas else 0)) ++ (List.range (laneCount s n)).flatMap (plumbLane n s)))))

theorem ofSigned_own (b : Bool) (v : Int) : ofSigned 64 (if b then v else 0) % 256 ^ 8 = if b then ofSigned 64 v else 0 := by
  cases b with
  | false => rfl
  | true => exact Nat.mod_eq_of_lt (ofSigned_lt 64 v)

theorem plumbBytes_fields (n : Nat) (s : State) : (plumbBytes n s).length = 24 + 16 * laneCount s n ∧
    fieldLe (plumbBytes n s) 0 4 = (ldStatus s n).toNat ∧
    fieldLe (plumbBytes n s) 4 4 = (portOf s n).ld.resid % 2 ^ 32 ∧ fieldLe (plumbBytes n s) 8 4 = (portOf s n).ld.sigma % 2 ^ 32 ∧
    fieldLe (plumbBytes n s) 12 4 = (portOf s n).ld.geom % 2 ^ 32 ∧
    fieldLe (plumbBytes n s) 16 8 = (if isSelfSpan s n then ofSigned 64 (portOf s n).ld.biasMeas else 0) ∧
    ∀ i, i < laneCount s n → fieldLe (plumbBytes n s) (24 + 16 * i) 8 = ofSigned 64 (roundAway (laneOf s (n + i)).ld.delta) := by
  refine ⟨?_, ?_, ?_, ?_, ?_, ?_, fun i hi => ?_⟩
  · have hlanes : ((List.range (laneCount s n)).flatMap (plumbLane n s)).length = laneCount s n * 16 := by
      simp [List.length_flatMap, length_plumbLane]
    simp only [plumbBytes, List.length_append, length_le, hlanes]
    omega
  · rw [plumbBytes, fieldLe_le_head]
    exact Nat.mod_eq_of_lt (ldStatus s n).isLt
  · rw [plumbBytes, fieldLe_le_skip _ _ _ _ _ (by omega)]
    exact fieldLe_le_head _ _ _
  · rw [plumbBytes]
    iterate 2 rw [fieldLe_le_skip _ _ _ _ _ (by omega)]
    exact fieldLe_le_head _ _ _
  · rw [plumbBytes]
    iterate 3 rw [fieldLe_le_skip _ _ _ _ _ (by omega)]
    exact fieldLe_le_head _ _ _
  · rw [plumbBytes]
    iterate 4 rw [fieldLe_le_skip _ _ _ _ _ (by omega)]
    rw [fieldLe_le_head, ofSigned_own]
  · rw [plumbBytes]
    iterate 5 rw [fieldLe_le_skip _ _ _ _ _ (by omega)]
    obtain ⟨more, hmore⟩ := fieldLe_flatMap (length_plumbLane n s) [] 8 (List.range (laneCount s n)) i (by simpa using hi)
    rw [List.append_nil, List.getElem_range, plumbLane, List.append_assoc, fieldLe_le_head] at hmore
    rw [show 24 + 16 * i - 4 - 4 - 4 - 4 - 8 = 16 * i by omega, hmore]
    exact Nat.mod_eq_of_lt (ofSigned_lt 64 _)

theorem plumbGet_work {o : Origin} {p : List Byte} {n : Nat} {s : State} (hn : n = fieldLe p 0 1) (hlt : n < 192)
    (hused : portUsed s n = true) (hz : zeros p 1 3 = true) :
    plumbGet o p s = if !kindFab s n then setResult o (notPermitted 0x0017) s else setResult o (okRes (plumbBytes n s)) s := by
  subst hn
  unfold plumbGet
  dsimp only
  rw [checked_none _ s (firstBad_none (by simp [hused, hz]; omega))]
  simp only [plumbBytes, List.append_assoc]
  rfl

theorem plumbGet_answers (o : Origin) (p : List Byte) (n : Nat) (s : State) (h : commandAt s o 0x0440 = some p) (hn : n = fieldLe p 0 1)
    (hlt : n < 192) (hused : portUsed s n = true) (hz : zeros p 1 3 = true) :
    (kindFab s n = false → ∃ t, exec (.plumbGet o) s = .next t ∧ onlyAnswers o (notPermitted 0x0017) s t) ∧
    (kindFab s n = true → ∃ t r, exec (.plumbGet o) s = .next t ∧ onlyAnswers o (okRes r) s t ∧
      r.length = 24 + 16 * laneCount s n ∧ fieldLe r 0 4 = (ldStatus s n).toNat ∧
      fieldLe r 4 4 = (portOf s n).ld.resid % 2 ^ 32 ∧ fieldLe r 8 4 = (portOf s n).ld.sigma % 2 ^ 32 ∧
      fieldLe r 12 4 = (portOf s n).ld.geom % 2 ^ 32 ∧
      fieldLe r 16 8 = (if isSelfSpan s n then ofSigned 64 (portOf s n).ld.biasMeas else 0) ∧
      ∀ i, i < laneCount s n → fieldLe r (24 + 16 * i) 8 = ofSigned 64 (roundAway (laneOf s (n + i)).ld.delta)) := by
  have hwork := plumbGet_work (o := o) hn hlt hused hz
  refine ⟨fun hstd => command_answers h (by rw [hwork, if_pos (by simp [hstd])]), fun hfab => ?_⟩
  rw [if_neg (by simp [hfab])] at hwork
  obtain ⟨t, hrun, hans⟩ := command_answers h hwork
  exact ⟨t, _, hrun, hans, plumbBytes_fields n s⟩

/-! ### O53 -/

/-- Settles O53: each command's work once its fields are in range; the fall of a port and a lane's way to OFF or TEST by what each
leaves of the lane and of the command under way. -/
theorem portAndLaneCommands : Obligations.PortAndLaneCommands := by
  unfold Obligations.PortAndLaneCommands
  refine ⟨⟨portAdmin_sets, groupReset_resets, laneReset_resets⟩, ⟨?_, eyeScan_scans, laneRate_raises⟩, latGet_answers, latSet_writes,
    plumbGet_answers⟩
  intro o p l b s h hl hlt hdir hb hpat hb32
  exact ⟨laneTest_sentinel h hl hlt hdir hb hpat hb32, laneTest_bankDown h hl hlt hdir hb hpat hb32,
    laneTest_starts h hl hlt hdir hb hpat hb32, fun hstart hboth => laneTest_stops h hl hlt hb hpat hb32 hstart hboth⟩

end Sys2Proof.Machine
